-- ==== Sys2Proof/Word.lean ====
section
/-! DEFINITION. Word types of the unit: register words, samples, epochs. -/

namespace Sys2Proof

/-- A register word, an indirect word, a word of the register, listen or event field (R227, R152). -/
abbrev Word := BitVec 32
/-- The masked half of an M register, the flags of an S register (R233, R235). -/
abbrev Half := BitVec 16
/-- One byte of Tank (R619). -/
abbrev Byte := BitVec 8
/-- The 48-bit epoch in ticks (R23). -/
abbrev Epoch := BitVec 48
/-- Epoch bits 31:0, as a frame header carries them (R24). -/
abbrev Epoch32 := BitVec 32
/-- A 24-bit show sample (R152). -/
abbrev Sample := BitVec 24

end Sys2Proof
end

