-- ==== Sys2Proof/Syntax.lean ====
section
/-! DEFINITION. The commands of the unit: one constructor of `Instr` for each row of spec/opcode_table.json.
The operands are what the row's rule says the surroundings supply: frame bits with their check words, pin and
sensor readings, filtered values, the source of a register access, and the choice of time where a rule gives only a bound. -/

namespace Sys2Proof

/-- The two sides of the unit (R108). -/
inductive Side where
  | a | b
  deriving DecidableEq, Repr

/-- The two sources of register accesses (R241). -/
inductive Src where
  | host | loupe
  deriving DecidableEq, Repr

/-- Who executes a READ: the host's command at the head of the command ring, with `n` words of execution so far
allowed (0: it only begins), or a Loupe bus read of `width` bytes (R261, R263). -/
inductive ReadBy where
  | host (n : Nat)
  | loupe (addr : Nat) (width : Nat)
  deriving DecidableEq, Repr

/-- The pin voltages of a resistor strap, in µV, at the 8 link clocks of its sample at 20 µA and of its sample at 200 µA (R73,
R74). -/
structure StrapSample where
  at20  : List Nat
  at200 : List Nat
  deriving DecidableEq, Repr

/-- The pin voltages of FORE, in µV, at the 8 link clocks of its sample under the sink and under the source (R74, R79). -/
structure ForeSample where
  sink   : List Nat
  source : List Nat
  deriving DecidableEq, Repr

/-- A move of one lane's delay line under tracking (R128). -/
inductive LaneMove where
  | stay | up | down
  deriving DecidableEq, Repr

/-- What the per-tick checks read (R125, R278, R281, R586, R588, R662). Lists are indexed by channel, lane or die site;
a missing element reads as false or 0, of `bias` as a load within its limits. `tmon` is in units of 10 µV; `bias`, the current that each
bias's load would draw of a supply without limit, in µA; `tj` in 1/16 °C. -/
structure TickIn where
  tmon      : List Nat := []
  swsEdge   : List Bool := []
  prbsOk    : List Bool := []
  bias      : List Nat := []
  tj        : List Int := []
  deriving DecidableEq, Repr

/-- Where the FAW stands at a frame start: at the expected position, at another, or nowhere (R112, R118, R122). -/
inductive FawPos where
  | expected | moved | missing
  deriving DecidableEq, Repr

/-- A bit of a beam table that an upset has struck: the beam; its active table (0), its pending one (1) or the one its cross-fade leads to
(2); the word, 16 being the configuration; the bit, 32 being the word's parity bit (R384). -/
structure TableUpset where
  beam  : Nat
  table : Nat
  word  : Nat
  bit   : Nat
  deriving DecidableEq, Repr

/-- What a frame-start position brings: where a marker stands and its 8 bits as they arrive; of a moved one, whether it stands where the
side's lock had it; the length of the frame before it in link clocks, whether a training frame begins there and its PRBS bit errors, and
the stored bits that upsets have struck before the parity checks of link clock 0: register bits as address and bit, 32 for the parity
bit; a plan entry's as entry and bit, 64 for its parity bit; a profile's as profile and bit, 384 for its parity bit (R42, R112, R113,
R122, R140, R250, R384, R417, R449). -/
structure FrameIn where
  faw         : FawPos := .expected
  back        : Bool := false
  bits        : BitVec 8 := 0x47#8
  len         : Nat := 0
  training    : Bool := false
  cfgUpsets   : List (Nat × Nat) := []
  tableUpsets : List TableUpset := []
  planUpsets  : List (Nat × Nat) := []
  profUpsets  : List (Nat × Nat) := []
  prbsErrors  : Nat := 0
  deriving DecidableEq, Repr

/-- What the modulators have sent since the last high-quality boundary: for each channel its bits, oldest first (R284, R296,
R323), and the bits of coefficient words that upsets have struck since, as word and bit, 32 for the parity bit (R345). -/
structure HqIn where
  bits   : List (List Bool) := []
  upsets : List (Nat × Nat) := []
  deriving DecidableEq, Repr

/-- The template words, as slot and word, that uncorrectable errors have struck before a block boundary (R482). -/
structure DevIn where
  badTpl : List (Nat × Nat) := []
  deriving DecidableEq, Repr

/-- A reading of every sensor of R659: die sites in 1/16 °C, supplies in mV. -/
structure Sensors where
  temps    : List (BitVec 16)
  supplies : List (BitVec 16)
  deriving DecidableEq, Repr

/-- What a drive channel's read instant finds in its own store: a ROM word or the shadow with bad parity (R557, R567). -/
structure ReadIn where
  romBad    : Option Bool := none
  shadowBad : Bool := false
  deriving DecidableEq, Repr

/-- The requesters of Tank by rank; the hardware log writer shares the Loupe's (R628). -/
inductive Requester where
  | stream | wipe | fogRestore | developer | aperture | window | loupe | log | fog
  deriving DecidableEq, Repr

/-- A Tank request: requester, Tank word, the lanes reached, the data of a write, an error that has struck a check group of that
word since, whether a patch image makes it, and whether the running image's fault handler does (R618, R629, R633, R654, R673). -/
structure TankReq where
  req   : Requester
  word  : Nat
  lanes : List Nat
  data  : Option (List Word)
  upset : Option (Nat × Bool) := none
  patch : Bool := false
  handler : Bool := false
  deriving DecidableEq, Repr

/-- A clock input that is lost, and what the part in progress of the copy on that side has sent so far of the bits its check covers
(R19, R130, R164). -/
structure LossIn where
  side : Side
  sent : List Bool := []
  deriving DecidableEq, Repr

/-- The operand of an atomic, whether a patch image issues it, and whether the running image's fault handler does (R632, R654, R673). -/
structure AtomicIn where
  value : Word
  patch : Bool := false
  handler : Bool := false
  deriving DecidableEq, Repr

/-- A channel whose IMON departs from 0.800 V by more than `departs` × 10 µV for 1 µs or longer (R583). -/
structure ImonIn where
  ch      : Nat
  departs : Nat
  deriving DecidableEq, Repr

/-- Where a fog-test step stands: none in progress, and the phases of R643 and R653. -/
inductive FogPhase where
  | idle | save | march | restore
  deriving DecidableEq, Repr

/-- What a fog-test step meets: the core cycle of the tick at which it begins, the phase it has reached (idle: it has run to its end), a
save read that is uncorrectable, whether the stream port is due to access the region before the step's deadline, and the lowest
failing bit of the march (R642, R643, R644, R647, R648). -/
structure FogIn where
  cycle     : Nat := 0
  upTo      : FogPhase := .idle
  saveUe    : Bool := false
  streamDue : Bool := false
  failBit   : Option Nat := none
  deriving DecidableEq, Repr

/-- A step of the hardware that falls in the cycle of a register write (R253): the command that tells of it when it comes alone. -/
inductive Beside where
  | frameStart (side : Side) (i : FrameIn)
  | headerEnd (side : Side) (bits : BitVec 416) (skew : BitVec 24)
  | sideDown (side : Side) (byClock : Bool)
  | showDecision
  | rateBoundary
  | hqBoundary (i : HqIn)
  | lpBoundary (bits : List Bool) (upsets : List (Nat × Nat))
  | devBlock (i : DevIn)
  | biasShort (k : Nat)
  | readInstant (ch : Nat) (i : ReadIn)
  | swsLost (ch : Nat)
  | thermalTrip (ch : Nat)
  | tjTrip (site : Nat)
  | watchdog
  | fogStep (i : FogIn)
  | tankAccess (rs : List TankReq)
  | logWrite
  deriving DecidableEq, Repr

/-- A register write: one word, or the two of a 64-bit Loupe write, and the hardware's step in the cycle of the first (R246, R253,
R263). -/
structure WriteIn where
  vals   : List Word
  beside : Option Beside := none
  deriving DecidableEq, Repr

/-- The commands: one constructor for each row of spec/opcode_table.json, in the table's order. -/
inductive Instr where
  | porRelease
  | powerLoss
  | strapReadDone (addr role biasv : StrapSample) (fore : ForeSample)
  | holdRise
  | holdFall
  | clockStop
  | edgeLoss
  | clockInputLost (i : LossIn)
  | clockInputReturn (side : Side)
  | sideDown (side : Side) (byClock : Bool)
  | wrap
  | unwrap
  | delayTrack (moves : List LaneMove)
  | tick (i : TickIn)
  | frameStart (side : Side) (i : FrameIn)
  | headerEnd (side : Side) (bits : BitVec 416) (skew : BitVec 24)
  | showCapture (side : Side) (slots : List Sample) (check : Word)
  | showDecision
  | listenField (side : Side) (words : List Word) (check : Word)
  | registerField (side : Side) (words : List Word) (check : Half)
  | eventField (side : Side) (words : List Word) (check : Half)
  | read (who : ReadBy)
  | write (n : Nat)
  | writeP (n : Nat)
  | burstRead (n : Nat)
  | burstWrite (n : Nat)
  | burstWriteP (n : Nat)
  | abort
  | registerWrite (src : Src) (addr : Nat) (i : WriteIn)
  | statusClear (src : Src) (addr : Nat) (v : Word)
  | guardArm (src : Src) (addr : Nat) (v : Word)
  | ixAddrWrite (src : Src) (v : Word)
  | ixDataRead (src : Src)
  | ixDataWrite (src : Src) (v : Word)
  | epochLoRead (src : Src)
  | scoreRead (src : Src)
  | featRead (src : Src)
  | frameLenRead (src : Src)
  | loupeNarrowWrite (addr width : Nat) (v : Word)
  | loupeUnaligned (addr width : Nat)
  | epochHiSet (src : Src) (v : Word)
  | addrOverride (src : Src) (v : Word)
  | padLoop (src : Src) (v : Word)
  | laneLoop (src : Src) (v : Word)
  | frameLoop (src : Src) (v : Word)
  | linkLoopOff (src : Src) (v : Word)
  | analogLoop (src : Src) (v : Word)
  | bitstreamLoop (src : Src) (v : Word)
  | pdmLoop (src : Src) (v : Word)
  | capture (src : Src) (v : Word)
  | frontLoopOff (src : Src) (v : Word)
  | modeWithdraw (src : Src) (v : Word)
  | requestDaylight (src : Src) (v : Word)
  | requestSafelight (src : Src) (v : Word)
  | unitReset (src : Src) (v : Word)
  | masterEnable (src : Src) (v : Word)
  | masterDisable (src : Src) (v : Word)
  | digitalLoop (src : Src) (v : Word)
  | dacLoop (src : Src) (v : Word)
  | stageLoop (src : Src) (v : Word)
  | wipe (src : Src) (v : Word)
  | patchActivate (src : Src) (v : Word)
  | patchDeactivate (src : Src) (v : Word)
  | loupeRestart (src : Src) (v : Word)
  | lifecycleRequest (src : Src) (v : Word)
  | testWrite (src : Src) (v : Word)
  | swapRequest (src : Src) (v : Word)
  | commit (src : Src) (v : Word)
  | scaleWrite (src : Src) (v : Word)
  | switchArm (src : Src) (v : Word)
  | switchCancel (src : Src) (v : Word)
  | seedLoad (src : Src) (v : Word)
  | profileCommit (src : Src) (v : Word)
  | templateEnable (src : Src) (v : Word)
  | templateDisable (src : Src) (v : Word)
  | releaseW (src : Src) (v : Word)
  | releaseD (src : Src) (v : Word)
  | runDStart (src : Src) (v : Word)
  | steerSearch (src : Src) (v : Word)
  | latchClear (src : Src) (v : Word)
  | biasEnSet (src : Src) (v : Word)
  | echo (src : Src) (v : Word)
  | snapshot (src : Src) (v : Word)
  | extreme (src : Src) (v : Word)
  | patchSum (src : Src) (v : Word)
  | mbxPatchOp (src : Src) (v : Word)
  | mbxDone (patchResult : Word) (snap : Sensors)
  | fixerClear (src : Src) (v : Word)
  | atomicAdd (word lane : Nat) (operand : AtomicIn)
  | atomicSwap (word lane : Nat) (operand : AtomicIn)
  | rateBoundary
  | trainingCentre
  | trainingEnd
  | domainSwitchOnStep
  | domainPowerGood (d : Nat)
  | settleEnd
  | driveAutoRestart (ch : Nat)
  | biasRampEnd (k : Nat)
  | biasWindowEnd (k : Nat)
  | biasShort (k : Nat)
  | biasRestart (k : Nat)
  | biasOpen (k : Nat)
  | biasOpenRearm (k : Nat)
  | channelStartEnd (k : Nat)
  | watchStartEnd
  | converterOverload (k : Nat)
  | pdmDecimatorStart
  | pdmReady
  | captureDone
  | vbiasLow
  | vbiasRise
  | hqBoundary (i : HqIn)
  | lpBoundary (bits : List Bool) (upsets : List (Nat × Nat))
  | pathStop (hq : Bool)
  | pathStart (hq : Bool)
  | primingEnd
  | phaseDone
  | swapApply
  | beamXfadeStart (b : Nat)
  | xfadeDone (b : Nat)
  | scaleApply
  | withholdEnd
  | planSwitch
  | devBlock (i : DevIn)
  | joinReached
  | prerollFilled
  | latentFreeze (watch : Bool)
  | loupeReady
  | loupeShutdownDone
  | sensorSample (r : Sensors)
  | tjTrip (site : Nat)
  | patchVerifyDone
  | lifecycle
  | watchdog
  | readInstant (ch : Nat) (i : ReadIn)
  | channelWakeEnd (ch : Nat)
  | zcTimeout (ch : Nat)
  | rampEnd (ch : Nat)
  | bathEnd (ch : Nat)
  | offDwellEnd (ch : Nat)
  | muteResume (ch : Nat)
  | proofDone (level : BitVec 16)
  | fltLatch (ch : Nat)
  | imonLatch (i : ImonIn)
  | swsMeasurement (ch : Nat) (k : Nat)
  | swsMeasureTimeout (ch : Nat)
  | swsLost (ch : Nat)
  | thermalTrip (ch : Nat)
  | thermalClear (ch : Nat)
  | stageRestart (ch : Nat)
  | steerSearchDone
  | verifyWindow (up : List Bool)
  | tamperLatch
  | tamper
  | wipeStart
  | wipeDone (failAt : Option Nat)
  | fogStep (i : FogIn)
  | fogAbort
  | fogStepDeadline
  | tankAccess (rs : List TankReq)
  | logWrite
  | tamperDeassert
  | floorFuseRaised
  deriving DecidableEq, Repr

end Sys2Proof
end

