-- ==== Sys2Proof/Machine/Bits.lean ====
section
/-! DEFINITION. Bit fields, byte order, finite lists and sparse tables: the small operations every family shares. -/

namespace Sys2Proof.Machine

/-- Bits `hi:lo` of a word as a number (R149: bit 0 is the least significant). -/
def bits (w : Word) (hi lo : Nat) : Nat := (w.toNat >>> lo) % 2 ^ (hi + 1 - lo)

/-- Bit `i` of a word. -/
def bitOf (w : Word) (i : Nat) : Bool := w.getLsbD i

/-- A Bool as a number. -/
def b2n (b : Bool) : Nat := if b then 1 else 0

/-- `v` placed in the `width` bits from `lo` upward, as a number. -/
def place (lo width v : Nat) : Nat := (v % 2 ^ width) <<< lo

/-- A word built from fields `(lo, width, value)`. -/
def pack (fs : List (Nat × Nat × Nat)) : Word :=
  BitVec.ofNat 32 (fs.foldl (fun acc f => acc ||| place f.1 f.2.1 f.2.2) 0)

/-- `w` with its `width` bits from `lo` upward replaced by `v`. -/
def setBits (w : Word) (lo width v : Nat) : Word :=
  (w &&& ~~~(BitVec.ofNat 32 (place lo width (2 ^ width - 1)))) ||| BitVec.ofNat 32 (place lo width v)

/-- `w` with bit `i` set to `b`. -/
def setBit (w : Word) (i : Nat) (b : Bool) : Word := setBits w i 1 (b2n b)

/-- The word with bit `i` set alone. -/
def oneBit (i : Nat) : Word := BitVec.ofNat 32 (1 <<< i)

/-- The half word with bit `i` set alone. -/
def oneHalf (i : Nat) : Half := BitVec.ofNat 16 (1 <<< i)

/-- The parity of a word's bits: true where an odd number of them is 1 (R249). -/
def parity (w : Word) : Bool :=
  let a := w ^^^ (w >>> 16)
  let a := a ^^^ (a >>> 8)
  let a := a ^^^ (a >>> 4)
  let a := a ^^^ (a >>> 2)
  (a ^^^ (a >>> 1)).getLsbD 0

/-- Reads the low `width` bits of `v` as two's complement. -/
def sgnOf (width v : Nat) : Int :=
  let m := v % 2 ^ width
  if m < 2 ^ (width - 1) then (m : Int) else (m : Int) - (2 ^ width : Nat)

/-- The low `width` bits of an integer, as a number (two's complement). -/
def wrapInt (width : Nat) (i : Int) : Nat := (i % (2 ^ width : Nat)).toNat

/-- `i` clamped to `lo ≤ i ≤ hi`. -/
def clampInt (lo hi i : Int) : Int := if i < lo then lo else if hi < i then hi else i

/-- Division rounding to nearest, half-way cases toward +∞; `d` positive. -/
def roundHalfUp (n : Int) (d : Nat) : Int := (2 * n + d) / (2 * (d : Int))

/-- `c` loaded with one more count, saturating at 0xFFFF_FFFF. -/
def satInc (w : Word) : Word := if w = 0xFFFFFFFF#32 then w else w + 1

/-- Byte `i` of a word (byte 0 in bits 7:0, R689). -/
def byteOf (w : Word) (i : Nat) : Byte := BitVec.ofNat 8 (bits w (8 * i + 7) (8 * i))

/-- Packs bytes 3:0 of a payload, byte 0 first. -/
def ofBytes (b0 b1 b2 b3 : Nat) : Word := pack [(0, 8, b0), (8, 8, b1), (16, 8, b2), (24, 8, b3)]

/-- Element `i` of a list, or `d`. -/
def nth {α : Type} (l : List α) (i : Nat) (d : α) : α := l.getD i d

/-- A list with element `i` replaced by `f` of it. -/
def modNth {α : Type} (l : List α) (i : Nat) (f : α → α) : List α := l.modify i f

/-- The first value filed under `k` in a table. -/
def assocGet {α : Type} : List (Nat × α) → Nat → Option α
  | [], _ => none
  | (k, v) :: t, n => if k = n then some v else assocGet t n

/-- The table with `v` filed under `k`, in place of what stood there. -/
def assocSet {α : Type} : List (Nat × α) → Nat → α → List (Nat × α)
  | [], n, x => [(n, x)]
  | (k, v) :: t, n, x => if k = n then (k, x) :: t else (k, v) :: assocSet t n x

/-- The table with nothing filed under `k`. -/
def assocDel {α : Type} (l : List (Nat × α)) (n : Nat) : List (Nat × α) := l.filter (fun p => p.1 != n)

/-- The numbers below `n` at which `p` holds. -/
def idxWhere (n : Nat) (p : Nat → Bool) : List Nat := (List.range n).filter p

/-- A number with bit `i` set for each `i` below `n` at which `p` holds. -/
def maskOf (n : Nat) (p : Nat → Bool) : Nat := (List.range n).foldl (fun a i => if p i then a + 2 ^ i else a) 0

/-- Removes the elements of a list at which `p` holds of the position. -/
def keepIdx {α : Type} (l : List α) (p : Nat → Bool) : List α :=
  (l.zipIdx.filter (fun x => p x.2)).map (·.1)

end Sys2Proof.Machine
end

