-- ==== Sys2Proof/Machine/Sha.lean ====
section
/-! DEFINITION. The SHA-512 digest, whose low bits PATCH_SUM returns (R663). PRESUMED (log 117): R663 names the digest and leaves its
definition to FIPS 180-4. -/

namespace Sys2Proof.Machine

/-- A word of SHA-512. -/
abbrev ShaWord := BitVec 64

/-- The largest number that agrees with `r` above bit `b` and whose `k`-th power is at most `n`. -/
def rootBelow (k n : Nat) : Nat → Nat → Nat
  | 0, r => r
  | b + 1, r => rootBelow k n b (if (r + 2 ^ b) ^ k ≤ n then r + 2 ^ b else r)

/-- The first 64 bits of the fraction of the `k`-th root of `p`. -/
def rootFraction (k p : Nat) : ShaWord := BitVec.ofNat 64 (rootBelow k (p * 2 ^ (64 * k)) 69 0)

/-- The primes up to 409, of which there are 80. -/
def shaPrimes : List Nat := (List.range 410).filter (fun n => decide (2 ≤ n) && (List.range n).all (fun d => decide (d < 2) || n % d != 0))

/-- The value the digest starts from, and the constant of each round. -/
def shaStart : List ShaWord := (shaPrimes.take 8).map (rootFraction 2)
def shaRounds : List ShaWord := shaPrimes.map (rootFraction 3)

/-- The exclusive or of a word turned right by each amount. -/
def turns (w : ShaWord) (by_ : List Nat) : ShaWord := by_.foldl (fun x k => x ^^^ w.rotateRight k) 0

/-- The message schedule, newest word first, after `n` more words. -/
def schedule : Nat → List ShaWord → List ShaWord
  | 0, ws => ws
  | n + 1, ws =>
    let late := nth ws 1 0
    let early := nth ws 14 0
    let w := nth ws 15 0 + nth ws 6 0 + (turns early [1, 8] ^^^ (early >>> 7)) + (turns late [19, 61] ^^^ (late >>> 6))
    schedule n (w :: ws)

/-- A round: the eight working words, and the sum of the round's constant and its word of the schedule. -/
def shaRound (v : List ShaWord) (kw : ShaWord) : List ShaWord :=
  let at_ := fun i => nth v i 0
  let choice := (at_ 4 &&& at_ 5) ^^^ (~~~(at_ 4) &&& at_ 6)
  let majority := (at_ 0 &&& at_ 1) ^^^ (at_ 0 &&& at_ 2) ^^^ (at_ 1 &&& at_ 2)
  let add := at_ 7 + turns (at_ 4) [14, 18, 41] + choice + kw
  [add + turns (at_ 0) [28, 34, 39] + majority, at_ 0, at_ 1, at_ 2, at_ 3 + add, at_ 4, at_ 5, at_ 6]

/-- A block of 16 words joins the digest. -/
def shaBlock (h : List ShaWord) (block : List ShaWord) : List ShaWord :=
  let ws := (schedule 64 block.reverse).reverse
  let v := (List.zipWith (· + ·) shaRounds ws).foldl shaRound h
  List.zipWith (· + ·) h v

/-- The number that bytes spell, the first most significant. -/
def bytesNat (bs : List Byte) : Nat := bs.foldl (fun n b => 256 * n + b.toNat) 0

/-- The padded message: a 1, zeros, and its length in bits, to whole blocks of 128 bytes. -/
def shaPadded (m : List Byte) : List Byte :=
  let n := m.length
  m ++ [0x80#8] ++ List.replicate ((111 + 128 - n % 128) % 128) 0 ++ (List.range 16).map (fun i => BitVec.ofNat 8 (8 * n / 256 ^ (15 - i)))

/-- The digest's eight words. -/
def sha512 (m : List Byte) : List ShaWord :=
  let p := shaPadded m
  (List.range (p.length / 128)).foldl (fun h i =>
    shaBlock h ((List.range 16).map (fun j => BitVec.ofNat 64 (bytesNat ((p.drop (128 * i + 8 * j)).take 8))))) shaStart

/-- Bits 31:0 of the digest, its first word being the most significant (DEDUCED, log 117). -/
def shaLow (m : List Byte) : Word := (nth (sha512 m) 7 0).truncate 32

end Sys2Proof.Machine
end

