-- ==== Sys2Proof/Config.lean ====
section
/-! DEFINITION. What the spec leaves to the die or leaves open: constants without a body, so that nothing can be proved
of their values. -/

namespace Sys2Proof.Config

/-- A value the spec leaves undefined, by the model's counter of such values. -/
opaque freeWord : Nat → Word

/-- Factory calibration of an analog trim word (R303). -/
opaque factoryTrim : Nat → Word

/-- The error of a bias's current limit, in 1/1,000, by mode (DAYLIGHT) and bias, and of its open threshold, in µA: those within R273's and
R281's tolerances count. -/
opaque biasError : Bool → Nat → Int
opaque openError : Nat → Int

/-- What a sum leaves in a register it does not fit, of which the register's bits are held: an accumulator of 48 bits by its stage (R313),
a DC estimate of 32 bits (R333). -/
opaque overflow : Nat → Int → Int

/-- Whether a stage takes a sum between two steps to the upper one (R322 gives the rounding of a path's output alone). -/
opaque roundsUp : Nat → Int → Bool

/-- The gain of a hardware CIC in 1/65,536 of a 24-bit code: 0 analog, 1 to 3 PDM at RATE 0 to 2, 4 low-power (R323, R328). -/
opaque cicGain : Nat → Nat

/-- The taps of the droop compensator's ROM (R328), of which the spec gives the count and the symmetry. -/
opaque droopTap : Nat → Int

/-- The taps of the Align stage for a delay in 1/64 sample that is no whole sample (R323). -/
opaque alignTap : Nat → Nat → Int

/-- The next bit of a one-bit modulator, by its kind (0 the remodulator of PDM_DO, 1 the digital tone modulator, 2 an analog
converter in the analog loop), its four integrators and its input, where its error allows both (R301, R305 give no coefficients). -/
opaque shapeBit : Nat → List Int → Int → Bool

/-- How many full scales, beyond two, the error of a one-bit modulator's sum may reach (R301, R305). -/
opaque shapeBound : Nat → Nat

/-- The error of the test tone's level, in 1/100,000 of its amplitude, by loop, TONE and LEVEL (R302, R305). -/
opaque toneError : Nat → Nat → Nat → Int

/-- The error of a level, in 1/16 dB, by the length of the transform and the power: at most 7/16 dB either way counts, which with the
rounding stays within R432's 0.5 dB. -/
opaque levelError : Nat → Nat → Int

/-- The error of the frequency that a parabolic fit gives, in 1/1,000 bin, by the powers of the bin below, the peak and the bin above:
with the fit's own, at most 0.1 bin either way counts (R444). -/
opaque peakError : Nat → Nat → Nat → Int

/-- Which of several bins of equal greatest power is taken as the peak (R444). -/
opaque peakAmong : List Nat → Nat

/-- Factory coefficient taps, where they keep R325, R326 and R328: set L words 0x001 to 0x06D, set M words 0x081 to 0x0ED, low-power words
0x101 to 0x13F (R342). -/
opaque factoryTap : Nat → Word

/-- The 16 taps of Aperture's interpolator at a fraction other than 0, in 1/2,048 sample, newest sample first, where they keep R360's
tolerances, which are all that the spec gives of them. -/
opaque interpTap : Nat → Nat → Rat

/-- The taps of a drive channel's ROM, in 2⁻²³, where they keep R556's levels: set M or L, stage B or A, the tap (R554, R556: the spec gives
counts, symmetry and the response). -/
opaque romTap : Bool → Bool → Nat → Int

/-- One period of the second-order sigma-delta modulator: its two integrators and its input to the integrators and the DAC's code
(R554 says no more of it). -/
opaque modulator : Int × Int → Int → (Int × Int) × Int

/-- The common-mode current of a drive channel's legs and the differential current at full scale, in µA: R578 gives them within 5 % and
1 %. -/
opaque commonMode : Nat → Rat
opaque fullScale : Nat → Rat

/-- The link clock, within a tick of the unit's count, of the last edge before a stop or of the detection of a clock fault (R613). -/
opaque edgeWithin : Nat → Nat

/-- Whether 0 dBFS of a drive proof tone is a sine of full-scale RMS, and the phase at which a tone begins, in 1/1,024 turn (R572). -/
opaque toneRms : Bool
opaque tonePhase : Nat

/-- A sample at 48 kHz of a drive channel's gained samples, newest first (R605 says that they are decimated, not how). -/
opaque decimated : List Int → Int

/-- A sample through the verifier's band-pass filter of BAND: its state and its output (R606 gives the band and the order). -/
opaque bandPass : Bool → List Rat → Rat → List Rat × Rat

/-- The identity of the die (R678, R728). -/
opaque dieId : BitVec 64

/-- Which of the four power-on steps of R523 serves a block: 0 array converters, 1 high-quality path and Aperture, 2 MX,
3 Print path, 4 power-stage interface, 5 Loupe, 6 fog test (R523 and R524 do not say). -/
opaque blockDomain : Nat → Nat

/-- Whether an Ed25519 signature over a message verifies against key P (0) or A (1) (R664, R670: RFC 8032, and keys the spec
does not give). -/
opaque sigVerifies : Nat → List Word → List Byte → Bool

/-- Which of the four power-on steps of R523 serves a Tank segment (R523 does not say). -/
opaque segmentStep : Nat → Nat

/-- The public keys that the base image copies into the secure region in a lifecycle state, as words and their place below the seal word
(R639, R656: neither is given). -/
opaque keyWords : Nat → List (Nat × Word)

/-- A word of the Loupe's context record: the least and greatest readings and the patch's mark that it holds, and which of the
64 words it is (R657 gives no layout). -/
opaque contextWord : List (Option (BitVec 16)) → List (Option (BitVec 16)) → Bool → Nat → Word

end Sys2Proof.Config
end

