-- ==== Sys2Proof/Machine/RegMap.lean ====
section
/-! DEFINITION. The register map (R227, R729, R730): addresses, kinds and reset values of every register. A register whose
reset column says strap, fuse or kept has here the value it holds before the strap read or power-up load (0). -/

namespace Sys2Proof.Machine

/-- The kinds of register (R6); `x` words are reached through IX_DATA. -/
inductive Kind where
  | m | s | g | f | c | h
  deriving DecidableEq, Repr

/-- One register: canonical byte address, kind, value at reset. -/
structure RegInfo where
  addr  : Nat
  kind  : Kind
  reset : Word
  deriving DecidableEq, Repr

abbrev Reg.CHIP_IX_ADDR : Nat := 0x0020
abbrev Reg.CHIP_IX_DATA : Nat := 0x0024
abbrev Reg.CHIP_REG_STATUS : Nat := 0x0028
abbrev Reg.CHIP_REG_FAULT : Nat := 0x002C
abbrev Reg.CHIP_PARITY_ERRS : Nat := 0x0030
abbrev Reg.CHIP_STRAP_CODES : Nat := 0x0040
abbrev Reg.CHIP_ID_STATUS : Nat := 0x0044
abbrev Reg.CHIP_ROLE_DEFAULTS : Nat := 0x0048
abbrev Reg.CHIP_UNIT_ADDR : Nat := 0x004C
abbrev Reg.CHIP_ADDR_OVR_A : Nat := 0x0050
abbrev Reg.CHIP_ADDR_OVR_B : Nat := 0x0054
abbrev Reg.CHIP_CLK_CFG : Nat := 0x0080
abbrev Reg.CHIP_CLK_STATUS : Nat := 0x0084
abbrev Reg.CHIP_CLK_STATE : Nat := 0x0088
abbrev Reg.CHIP_EPOCH_LO : Nat := 0x008C
abbrev Reg.CHIP_EPOCH_HI : Nat := 0x0090
abbrev Reg.CHIP_EPOCH_HI_SET_A : Nat := 0x0094
abbrev Reg.CHIP_EPOCH_HI_SET_B : Nat := 0x0098
abbrev Reg.CHIP_GAP_LAST : Nat := 0x009C
abbrev Reg.CHIP_CLK_FAULTS : Nat := 0x00A0
abbrev Reg.CHIP_GAP_COUNT : Nat := 0x00A4
abbrev Reg.CHIP_MODE_REQ_A : Nat := 0x00C0
abbrev Reg.CHIP_MODE_REQ_B : Nat := 0x00C4
abbrev Reg.CHIP_MODE_STATE : Nat := 0x00C8
abbrev Reg.CHIP_MODE_STATUS : Nat := 0x00CC
abbrev Reg.CHIP_RETAIN_LO : Nat := 0x00D0
abbrev Reg.CHIP_RETAIN_HI : Nat := 0x00D4
abbrev Reg.CHIP_RESET_A : Nat := 0x00D8
abbrev Reg.CHIP_RESET_B : Nat := 0x00DC
abbrev Reg.CHIP_MODE_CHANGES : Nat := 0x00E0
abbrev Reg.CHIP_TEST_A : Nat := 0x00E8
abbrev Reg.CHIP_TEST_B : Nat := 0x00EC
abbrev Reg.LINK_LINK_CFG : Nat := 0x0400
abbrev Reg.LINK_LINK_STATUS : Nat := 0x0404
abbrev Reg.LINK_LINK_STATE : Nat := 0x0408
abbrev Reg.LINK_COPY_SKEW : Nat := 0x040C
abbrev Reg.LINK_LANE_DELAY : Nat := 0x0410
abbrev Reg.LINK_FAW_MISS_A : Nat := 0x0414
abbrev Reg.LINK_FAW_MISS_B : Nat := 0x0418
abbrev Reg.LINK_WRAP_COUNT : Nat := 0x041C
abbrev Reg.LINK_PROOF_CTL_A : Nat := 0x0420
abbrev Reg.LINK_PROOF_CTL_B : Nat := 0x0424
abbrev Reg.LINK_PROOF_ERRORS : Nat := 0x0428
abbrev Reg.FRAME_SEL_CFG : Nat := 0x0800
abbrev Reg.FRAME_FRAME_STATUS : Nat := 0x0804
abbrev Reg.FRAME_SEL_STATE : Nat := 0x0808
abbrev Reg.FRAME_CHECK_ERR_A : Nat := 0x080C
abbrev Reg.FRAME_CHECK_ERR_B : Nat := 0x0810
abbrev Reg.FRAME_SHOW_ALT_COUNT : Nat := 0x0814
abbrev Reg.FRAME_SHOW_MISS_COUNT : Nat := 0x0818
abbrev Reg.FRAME_VOID_COUNT : Nat := 0x081C
abbrev Reg.QUEUE_QUEUE_CFG : Nat := 0x0C00
abbrev Reg.QUEUE_QUEUE_STATUS : Nat := 0x0C04
abbrev Reg.QUEUE_QUEUE_LEVELS : Nat := 0x0C08
abbrev Reg.QUEUE_TAG_STATE : Nat := 0x0C0C
abbrev Reg.QUEUE_CMD_COUNT : Nat := 0x0C10
abbrev Reg.QUEUE_REPLY_COUNT : Nat := 0x0C14
abbrev Reg.QUEUE_EVT_COUNT : Nat := 0x0C18
abbrev Reg.QUEUE_EVT_DROPS : Nat := 0x0C1C
abbrev Reg.QUEUE_CMD_DROPS : Nat := 0x0C20
abbrev Reg.FRONT_MIC_EN : Nat := 0x1000
abbrev Reg.FRONT_BIAS_EN : Nat := 0x1004
abbrev Reg.FRONT_BIAS_V_LO : Nat := 0x1008
abbrev Reg.FRONT_BIAS_V_HI : Nat := 0x100C
abbrev Reg.FRONT_GAIN_0 : Nat := 0x1010
abbrev Reg.FRONT_WATCH_CFG : Nat := 0x101C
abbrev Reg.FRONT_PDM_CFG : Nat := 0x1020
abbrev Reg.FRONT_FRONT_STATUS : Nat := 0x1024
abbrev Reg.FRONT_BIAS_SHORT : Nat := 0x1028
abbrev Reg.FRONT_BIAS_OPEN : Nat := 0x102C
abbrev Reg.FRONT_CLIP_STATUS : Nat := 0x1030
abbrev Reg.FRONT_FRONT_STATE : Nat := 0x1034
abbrev Reg.FRONT_BIAS_FAULTS : Nat := 0x1038
abbrev Reg.FRONT_PROOF_CTL_A : Nat := 0x103C
abbrev Reg.FRONT_PROOF_CTL_B : Nat := 0x1040
abbrev Reg.DECIM_ENGINE_CTL : Nat := 0x1400
abbrev Reg.DECIM_DECIM_CFG : Nat := 0x1404
abbrev Reg.DECIM_DC_CFG : Nat := 0x1408
abbrev Reg.DECIM_DC_FREEZE : Nat := 0x140C
abbrev Reg.DECIM_DC_BYPASS : Nat := 0x1410
abbrev Reg.DECIM_SWAP_CTL : Nat := 0x1414
abbrev Reg.DECIM_DECIM_STATUS : Nat := 0x1418
abbrev Reg.DECIM_DECIM_STATE : Nat := 0x141C
abbrev Reg.DECIM_GROUP_DELAY : Nat := 0x1420
abbrev Reg.DECIM_SWAP_COUNT : Nat := 0x1424
abbrev Reg.DECIM_SAT_COUNT : Nat := 0x1428
abbrev Reg.APER_STAGE_TAP_0 : Nat := 0x1800
abbrev Reg.APER_STAGE_CFG : Nat := 0x1840
abbrev Reg.APER_COMMIT : Nat := 0x1844
abbrev Reg.APER_SCALE : Nat := 0x1848
abbrev Reg.APER_APER_STATUS : Nat := 0x184C
abbrev Reg.APER_APER_STATE : Nat := 0x1850
abbrev Reg.APER_READ_SEL : Nat := 0x1854
abbrev Reg.APER_READ_TAP_0 : Nat := 0x1858
abbrev Reg.APER_READ_CFG : Nat := 0x1898
abbrev Reg.APER_SAT_COUNT : Nat := 0x189C
abbrev Reg.APER_COMMIT_COUNT : Nat := 0x18A0
abbrev Reg.MX_PLAN_SLOT_0 : Nat := 0x1C00
abbrev Reg.MX_PLAN_GAIN_0 : Nat := 0x1C04
abbrev Reg.MX_SWITCH_EPOCH : Nat := 0x1C80
abbrev Reg.MX_SWITCH_CTL : Nat := 0x1C84
abbrev Reg.MX_MX_STATUS : Nat := 0x1C88
abbrev Reg.MX_MX_STATE : Nat := 0x1C8C
abbrev Reg.MX_ACTIVE_SEL : Nat := 0x1C90
abbrev Reg.MX_ACTIVE_SLOT : Nat := 0x1C94
abbrev Reg.MX_ACTIVE_GAIN : Nat := 0x1C98
abbrev Reg.MX_SKIP_COUNT : Nat := 0x1C9C
abbrev Reg.MX_SAT_COUNT : Nat := 0x1CA0
abbrev Reg.MX_CONTRIB_COUNT : Nat := 0x1CA4
abbrev Reg.DEV_DEV_CTL : Nat := 0x2000
abbrev Reg.DEV_SRC_LO : Nat := 0x2004
abbrev Reg.DEV_SRC_HI : Nat := 0x2008
abbrev Reg.DEV_ENERGY_CFG_A : Nat := 0x200C
abbrev Reg.DEV_FLOOR_CFG_A : Nat := 0x2010
abbrev Reg.DEV_ENERGY_CFG_W : Nat := 0x2014
abbrev Reg.DEV_FLOOR_CFG_W : Nat := 0x2018
abbrev Reg.DEV_FOG_CFG : Nat := 0x201C
abbrev Reg.DEV_SEED_0 : Nat := 0x2020
abbrev Reg.DEV_SEED_CTL : Nat := 0x2030
abbrev Reg.DEV_WAKE_CFG : Nat := 0x2034
abbrev Reg.DEV_WAKE_STATUS : Nat := 0x2038
abbrev Reg.DEV_DEV_STATUS : Nat := 0x203C
abbrev Reg.DEV_DEV_STATE : Nat := 0x2040
abbrev Reg.DEV_ALARM_STATE : Nat := 0x2044
abbrev Reg.DEV_FLOOR_SEL : Nat := 0x2048
abbrev Reg.DEV_FLOOR_READ_0 : Nat := 0x204C
abbrev Reg.DEV_ACT_COUNT : Nat := 0x205C
abbrev Reg.DEV_ALARM_COUNT : Nat := 0x2060
abbrev Reg.DEV_WAKE_COUNT : Nat := 0x2064
abbrev Reg.DEV_PROF_COMMIT : Nat := 0x2068
abbrev Reg.DEV_PROF_READ_SEL : Nat := 0x206C
abbrev Reg.DEV_PROF_READ : Nat := 0x2070
abbrev Reg.DEV_PROF_STAGE_0 : Nat := 0x2080
abbrev Reg.SHEET_SHEET_CTL : Nat := 0x2400
abbrev Reg.SHEET_TPL_CTL : Nat := 0x2404
abbrev Reg.SHEET_SHEET_STATUS : Nat := 0x2408
abbrev Reg.SHEET_SHEET_STATE : Nat := 0x240C
abbrev Reg.SHEET_LAST_MATCH : Nat := 0x2410
abbrev Reg.SHEET_LAST_START : Nat := 0x2414
abbrev Reg.SHEET_LAST_END : Nat := 0x2418
abbrev Reg.SHEET_EN_0 : Nat := 0x241C
abbrev Reg.SHEET_SCORE_SEL : Nat := 0x243C
abbrev Reg.SHEET_SCORE_READ : Nat := 0x2440
abbrev Reg.SHEET_FEAT_SEL : Nat := 0x2444
abbrev Reg.SHEET_FEAT_READ_0 : Nat := 0x2448
abbrev Reg.SHEET_FEAT_EPOCH : Nat := 0x2460
abbrev Reg.SHEET_MATCH_COUNT : Nat := 0x2464
abbrev Reg.SHEET_ABANDON_COUNT : Nat := 0x2468
abbrev Reg.LATENT_LAT_CFG : Nat := 0x2800
abbrev Reg.LATENT_LAT_TIMES : Nat := 0x2804
abbrev Reg.LATENT_LAT_SRC : Nat := 0x2808
abbrev Reg.LATENT_LAT_CTL : Nat := 0x280C
abbrev Reg.LATENT_LAT_STATUS : Nat := 0x2810
abbrev Reg.LATENT_LAT_STATE : Nat := 0x2814
abbrev Reg.LATENT_W_TOTAL : Nat := 0x2818
abbrev Reg.LATENT_D_HEAD : Nat := 0x281C
abbrev Reg.LATENT_D_TOTAL : Nat := 0x2820
abbrev Reg.LATENT_D_SETS : Nat := 0x2824
abbrev Reg.LATENT_LAT_PTRS : Nat := 0x2828
abbrev Reg.LATENT_REC_COUNT : Nat := 0x282C
abbrev Reg.PRINT_MASTER_A : Nat := 0x2C00
abbrev Reg.PRINT_MASTER_B : Nat := 0x2C04
abbrev Reg.PRINT_CH_EN : Nat := 0x2C08
abbrev Reg.PRINT_PRINT_CFG : Nat := 0x2C0C
abbrev Reg.PRINT_CH_CTRL_0 : Nat := 0x2C10
abbrev Reg.PRINT_CH_GAIN_0 : Nat := 0x2C30
abbrev Reg.PRINT_PRINT_STATUS : Nat := 0x2C50
abbrev Reg.PRINT_CH_STATE : Nat := 0x2C54
abbrev Reg.PRINT_MUTE_CAUSE : Nat := 0x2C58
abbrev Reg.PRINT_PROOF_CTL_A : Nat := 0x2C5C
abbrev Reg.PRINT_PROOF_CTL_B : Nat := 0x2C60
abbrev Reg.PRINT_PROOF_RESULT : Nat := 0x2C64
abbrev Reg.PRINT_START_COUNT : Nat := 0x2C68
abbrev Reg.PRINT_MUTE_COUNT : Nat := 0x2C6C
abbrev Reg.PRINT_ZC_TIMEOUTS : Nat := 0x2C70
abbrev Reg.PRINT_CLIP_COUNT : Nat := 0x2C74
abbrev Reg.STAGE_CARRIER_0 : Nat := 0x3000
abbrev Reg.STAGE_STEER_WIN : Nat := 0x3020
abbrev Reg.STAGE_STEER_CTL : Nat := 0x3024
abbrev Reg.STAGE_STEER_RESULT : Nat := 0x3028
abbrev Reg.STAGE_STEER_CODE_LO : Nat := 0x302C
abbrev Reg.STAGE_STEER_CODE_HI : Nat := 0x3030
abbrev Reg.STAGE_SWS_FREQ_0 : Nat := 0x3034
abbrev Reg.STAGE_LIMITS : Nat := 0x3054
abbrev Reg.STAGE_STAGE_CTL : Nat := 0x3058
abbrev Reg.STAGE_LATCH : Nat := 0x305C
abbrev Reg.STAGE_STAGE_STATUS : Nat := 0x3060
abbrev Reg.STAGE_FAULT_CAUSE : Nat := 0x3064
abbrev Reg.STAGE_VERIFY_CFG : Nat := 0x3068
abbrev Reg.STAGE_SENSE_CFG : Nat := 0x306C
abbrev Reg.STAGE_VERIFY_EXP_0 : Nat := 0x3070
abbrev Reg.STAGE_VERIFY_READ_0 : Nat := 0x3090
abbrev Reg.STAGE_VERIFY_STATUS : Nat := 0x30B0
abbrev Reg.STAGE_TRIP_COUNT : Nat := 0x30B4
abbrev Reg.TANK_TANK_CFG : Nat := 0x3400
abbrev Reg.TANK_TANK_STATUS : Nat := 0x3404
abbrev Reg.TANK_CE_ADDR : Nat := 0x3408
abbrev Reg.TANK_UE_ADDR : Nat := 0x340C
abbrev Reg.TANK_CE_COUNT : Nat := 0x3410
abbrev Reg.TANK_UE_COUNT : Nat := 0x3414
abbrev Reg.TANK_FOG_STATE : Nat := 0x3418
abbrev Reg.TANK_FOG_FAIL_ADDR : Nat := 0x341C
abbrev Reg.TANK_FOG_PASSES : Nat := 0x3420
abbrev Reg.TANK_FOG_SKIPS : Nat := 0x3424
abbrev Reg.TANK_SECURE_STATE : Nat := 0x3428
abbrev Reg.TANK_WIPE_A : Nat := 0x342C
abbrev Reg.TANK_WIPE_B : Nat := 0x3430
abbrev Reg.LOUPE_LOUPE_STATE : Nat := 0x3800
abbrev Reg.LOUPE_LOUPE_STATUS : Nat := 0x3804
abbrev Reg.LOUPE_MBX_CMD : Nat := 0x3808
abbrev Reg.LOUPE_MBX_ARG : Nat := 0x380C
abbrev Reg.LOUPE_MBX_RESULT : Nat := 0x3810
abbrev Reg.LOUPE_PATCH_ACT_A : Nat := 0x3814
abbrev Reg.LOUPE_PATCH_ACT_B : Nat := 0x3818
abbrev Reg.LOUPE_PATCH_INFO : Nat := 0x381C
abbrev Reg.LOUPE_LIFE_A : Nat := 0x3820
abbrev Reg.LOUPE_LIFE_B : Nat := 0x3824
abbrev Reg.LOUPE_LIFE_STATE : Nat := 0x3828
abbrev Reg.LOUPE_DIE_ID_LO : Nat := 0x382C
abbrev Reg.LOUPE_DIE_ID_HI : Nat := 0x3830
abbrev Reg.LOUPE_TEMP_01 : Nat := 0x3834
abbrev Reg.LOUPE_TEMP_23 : Nat := 0x3838
abbrev Reg.LOUPE_SUPPLY_0 : Nat := 0x383C
abbrev Reg.LOUPE_SUPPLY_1 : Nat := 0x3840
abbrev Reg.LOUPE_SUPPLY_2 : Nat := 0x3844
abbrev Reg.LOUPE_FRAME_LEN : Nat := 0x3848
abbrev Reg.LOUPE_TJ_CFG : Nat := 0x384C
abbrev Reg.LOUPE_WDOG_COUNT : Nat := 0x3850
abbrev Reg.LOUPE_PATCH_FAILS : Nat := 0x3854
abbrev Reg.FIXER_WIN_CFG_0 : Nat := 0x3C00
abbrev Reg.FIXER_FIXER_STATUS : Nat := 0x3C50
abbrev Reg.FIXER_LASTING_LO : Nat := 0x3C54
abbrev Reg.FIXER_LASTING_HI : Nat := 0x3C58
abbrev Reg.FIXER_CLEAR : Nat := 0x3C5C
abbrev Reg.FIXER_PEEK_SEL : Nat := 0x3C60
abbrev Reg.FIXER_PEEK : Nat := 0x3C64
abbrev Reg.FIXER_LOG_TOTAL : Nat := 0x3C68
abbrev Reg.FIXER_LOG_DROPS : Nat := 0x3C6C
abbrev Reg.FIXER_LASTING_COUNT : Nat := 0x3C70

/-- Page 0, CHIP (R729). -/
def Reg.page0 : List RegInfo :=
  [⟨0x0020, .f, 0x00000000#32⟩,
   ⟨0x0024, .f, 0x00000000#32⟩,
   ⟨0x0028, .s, 0x00000000#32⟩,
   ⟨0x002C, .h, 0x00000000#32⟩,
   ⟨0x0030, .c, 0x00000000#32⟩,
   ⟨0x0040, .h, 0x00000000#32⟩,
   ⟨0x0044, .s, 0x00000000#32⟩,
   ⟨0x0048, .h, 0x00000000#32⟩,
   ⟨0x004C, .h, 0x00000000#32⟩,
   ⟨0x0050, .g, 0x00000000#32⟩,
   ⟨0x0054, .g, 0xFFFFFFFF#32⟩,
   ⟨0x0080, .m, 0x00006060#32⟩,
   ⟨0x0084, .s, 0x00000000#32⟩,
   ⟨0x0088, .h, 0x00000002#32⟩,
   ⟨0x008C, .h, 0x00000000#32⟩,
   ⟨0x0090, .h, 0x00000000#32⟩,
   ⟨0x0094, .g, 0x00000000#32⟩,
   ⟨0x0098, .g, 0xFFFFFFFF#32⟩,
   ⟨0x009C, .h, 0x00000000#32⟩,
   ⟨0x00A0, .c, 0x00000000#32⟩] ++
  [⟨0x00A4, .c, 0x00000000#32⟩,
   ⟨0x00C0, .g, 0x00000000#32⟩,
   ⟨0x00C4, .g, 0xFFFFFFFF#32⟩,
   ⟨0x00C8, .h, 0x00000000#32⟩,
   ⟨0x00CC, .s, 0x00000000#32⟩,
   ⟨0x00D0, .f, 0x0000001F#32⟩,
   ⟨0x00D4, .f, 0x00000000#32⟩,
   ⟨0x00D8, .g, 0x00000000#32⟩,
   ⟨0x00DC, .g, 0xFFFFFFFF#32⟩,
   ⟨0x00E0, .c, 0x00000000#32⟩,
   ⟨0x00E8, .g, 0x00000000#32⟩,
   ⟨0x00EC, .g, 0xFFFFFFFF#32⟩]

/-- Page 1, LINK (R729). -/
def Reg.page1 : List RegInfo :=
  [⟨0x0400, .m, 0x00000680#32⟩,
   ⟨0x0404, .s, 0x00000000#32⟩,
   ⟨0x0408, .h, 0x00000000#32⟩,
   ⟨0x040C, .h, 0x00000000#32⟩,
   ⟨0x0410, .h, 0x20202020#32⟩,
   ⟨0x0414, .c, 0x00000000#32⟩,
   ⟨0x0418, .c, 0x00000000#32⟩,
   ⟨0x041C, .c, 0x00000000#32⟩,
   ⟨0x0420, .g, 0x00000000#32⟩,
   ⟨0x0424, .g, 0xFFFFFFFF#32⟩,
   ⟨0x0428, .c, 0x00000000#32⟩]

/-- Page 2, FRAME (R729). -/
def Reg.page2 : List RegInfo :=
  [⟨0x0800, .m, 0x00000000#32⟩,
   ⟨0x0804, .s, 0x00000000#32⟩,
   ⟨0x0808, .h, 0x00000000#32⟩,
   ⟨0x080C, .c, 0x00000000#32⟩,
   ⟨0x0810, .c, 0x00000000#32⟩,
   ⟨0x0814, .c, 0x00000000#32⟩,
   ⟨0x0818, .c, 0x00000000#32⟩,
   ⟨0x081C, .c, 0x00000000#32⟩]

/-- Page 3, QUEUE (R729). -/
def Reg.page3 : List RegInfo :=
  [⟨0x0C00, .m, 0x00000000#32⟩,
   ⟨0x0C04, .s, 0x00000000#32⟩,
   ⟨0x0C08, .h, 0x00000000#32⟩,
   ⟨0x0C0C, .h, 0x00000000#32⟩,
   ⟨0x0C10, .c, 0x00000000#32⟩,
   ⟨0x0C14, .c, 0x00000000#32⟩,
   ⟨0x0C18, .c, 0x00000000#32⟩,
   ⟨0x0C1C, .c, 0x00000000#32⟩,
   ⟨0x0C20, .c, 0x00000000#32⟩]

/-- Page 4, FRONT (R729). -/
def Reg.page4 : List RegInfo :=
  [⟨0x1000, .m, 0x00000000#32⟩,
   ⟨0x1004, .m, 0x00000000#32⟩,
   ⟨0x1008, .m, 0x00000000#32⟩,
   ⟨0x100C, .m, 0x00000000#32⟩,
   ⟨0x1010, .f, 0x00000000#32⟩,
   ⟨0x1014, .f, 0x00000000#32⟩,
   ⟨0x1018, .f, 0x00000000#32⟩,
   ⟨0x101C, .m, 0x00000100#32⟩,
   ⟨0x1020, .m, 0x00004000#32⟩,
   ⟨0x1024, .s, 0x00000000#32⟩,
   ⟨0x1028, .s, 0x00000000#32⟩,
   ⟨0x102C, .s, 0x00000000#32⟩,
   ⟨0x1030, .s, 0x00000000#32⟩,
   ⟨0x1034, .h, 0x00000000#32⟩,
   ⟨0x1038, .c, 0x00000000#32⟩,
   ⟨0x103C, .g, 0x00000000#32⟩,
   ⟨0x1040, .g, 0xFFFFFFFF#32⟩]

/-- Page 5, DECIM (R729). -/
def Reg.page5 : List RegInfo :=
  [⟨0x1400, .m, 0x00000003#32⟩,
   ⟨0x1404, .m, 0x00000000#32⟩,
   ⟨0x1408, .m, 0x0000000F#32⟩,
   ⟨0x140C, .m, 0x00000000#32⟩,
   ⟨0x1410, .m, 0x00000000#32⟩,
   ⟨0x1414, .m, 0x00000000#32⟩,
   ⟨0x1418, .s, 0x00000000#32⟩,
   ⟨0x141C, .h, 0x00000000#32⟩,
   ⟨0x1420, .h, 0x02400580#32⟩,
   ⟨0x1424, .c, 0x00000000#32⟩,
   ⟨0x1428, .c, 0x00000000#32⟩]

/-- Page 6, APER (R729). -/
def Reg.page6 : List RegInfo :=
  [⟨0x1800, .f, 0x00000000#32⟩,
   ⟨0x1804, .f, 0x00000000#32⟩,
   ⟨0x1808, .f, 0x00000000#32⟩,
   ⟨0x180C, .f, 0x00000000#32⟩,
   ⟨0x1810, .f, 0x00000000#32⟩,
   ⟨0x1814, .f, 0x00000000#32⟩,
   ⟨0x1818, .f, 0x00000000#32⟩,
   ⟨0x181C, .f, 0x00000000#32⟩,
   ⟨0x1820, .f, 0x00000000#32⟩,
   ⟨0x1824, .f, 0x00000000#32⟩,
   ⟨0x1828, .f, 0x00000000#32⟩,
   ⟨0x182C, .f, 0x00000000#32⟩,
   ⟨0x1830, .f, 0x00000000#32⟩,
   ⟨0x1834, .f, 0x00000000#32⟩,
   ⟨0x1838, .f, 0x00000000#32⟩,
   ⟨0x183C, .f, 0x00000000#32⟩,
   ⟨0x1840, .f, 0x00000000#32⟩,
   ⟨0x1844, .m, 0x00000000#32⟩,
   ⟨0x1848, .m, 0x00008000#32⟩,
   ⟨0x184C, .s, 0x00000000#32⟩] ++
  [⟨0x1850, .h, 0x00000000#32⟩,
   ⟨0x1854, .m, 0x00000000#32⟩,
   ⟨0x1858, .h, 0x00000000#32⟩,
   ⟨0x185C, .h, 0x00000000#32⟩,
   ⟨0x1860, .h, 0x00000000#32⟩,
   ⟨0x1864, .h, 0x00000000#32⟩,
   ⟨0x1868, .h, 0x00000000#32⟩,
   ⟨0x186C, .h, 0x00000000#32⟩,
   ⟨0x1870, .h, 0x00000000#32⟩,
   ⟨0x1874, .h, 0x00000000#32⟩,
   ⟨0x1878, .h, 0x00000000#32⟩,
   ⟨0x187C, .h, 0x00000000#32⟩,
   ⟨0x1880, .h, 0x00000000#32⟩,
   ⟨0x1884, .h, 0x00000000#32⟩,
   ⟨0x1888, .h, 0x00000000#32⟩,
   ⟨0x188C, .h, 0x00000000#32⟩,
   ⟨0x1890, .h, 0x00000000#32⟩,
   ⟨0x1894, .h, 0x00000000#32⟩,
   ⟨0x1898, .h, 0x00000000#32⟩,
   ⟨0x189C, .c, 0x00000000#32⟩] ++
  [⟨0x18A0, .c, 0x00000000#32⟩]

/-- Page 7, MX (R729). -/
def Reg.page7 : List RegInfo :=
  [⟨0x1C00, .f, 0x00000000#32⟩,
   ⟨0x1C04, .f, 0x00000000#32⟩,
   ⟨0x1C08, .f, 0x00000000#32⟩,
   ⟨0x1C0C, .f, 0x00000000#32⟩,
   ⟨0x1C10, .f, 0x00000000#32⟩,
   ⟨0x1C14, .f, 0x00000000#32⟩,
   ⟨0x1C18, .f, 0x00000000#32⟩,
   ⟨0x1C1C, .f, 0x00000000#32⟩,
   ⟨0x1C20, .f, 0x00000000#32⟩,
   ⟨0x1C24, .f, 0x00000000#32⟩,
   ⟨0x1C28, .f, 0x00000000#32⟩,
   ⟨0x1C2C, .f, 0x00000000#32⟩,
   ⟨0x1C30, .f, 0x00000000#32⟩,
   ⟨0x1C34, .f, 0x00000000#32⟩,
   ⟨0x1C38, .f, 0x00000000#32⟩,
   ⟨0x1C3C, .f, 0x00000000#32⟩,
   ⟨0x1C40, .f, 0x00000000#32⟩,
   ⟨0x1C44, .f, 0x00000000#32⟩,
   ⟨0x1C48, .f, 0x00000000#32⟩,
   ⟨0x1C4C, .f, 0x00000000#32⟩] ++
  [⟨0x1C50, .f, 0x00000000#32⟩,
   ⟨0x1C54, .f, 0x00000000#32⟩,
   ⟨0x1C58, .f, 0x00000000#32⟩,
   ⟨0x1C5C, .f, 0x00000000#32⟩,
   ⟨0x1C60, .f, 0x00000000#32⟩,
   ⟨0x1C64, .f, 0x00000000#32⟩,
   ⟨0x1C68, .f, 0x00000000#32⟩,
   ⟨0x1C6C, .f, 0x00000000#32⟩,
   ⟨0x1C70, .f, 0x00000000#32⟩,
   ⟨0x1C74, .f, 0x00000000#32⟩,
   ⟨0x1C78, .f, 0x00000000#32⟩,
   ⟨0x1C7C, .f, 0x00000000#32⟩,
   ⟨0x1C80, .f, 0x00000000#32⟩,
   ⟨0x1C84, .m, 0x00000000#32⟩,
   ⟨0x1C88, .s, 0x00000000#32⟩,
   ⟨0x1C8C, .h, 0x00000000#32⟩,
   ⟨0x1C90, .m, 0x00000000#32⟩,
   ⟨0x1C94, .h, 0x00000000#32⟩,
   ⟨0x1C98, .h, 0x00000000#32⟩,
   ⟨0x1C9C, .c, 0x00000000#32⟩] ++
  [⟨0x1CA0, .c, 0x00000000#32⟩,
   ⟨0x1CA4, .c, 0x00000000#32⟩]

/-- Page 8, DEV (R729). -/
def Reg.page8 : List RegInfo :=
  [⟨0x2000, .m, 0x00000101#32⟩,
   ⟨0x2004, .f, 0x18181800#32⟩,
   ⟨0x2008, .f, 0x18181818#32⟩,
   ⟨0x200C, .f, 0x28FF08D9#32⟩,
   ⟨0x2010, .f, 0x18328800#32⟩,
   ⟨0x2014, .f, 0x28FF08D9#32⟩,
   ⟨0x2018, .f, 0x18328800#32⟩,
   ⟨0x201C, .m, 0x00000019#32⟩,
   ⟨0x2020, .f, 0xFB00FB00#32⟩,
   ⟨0x2024, .f, 0xFB00FB00#32⟩,
   ⟨0x2028, .f, 0xFB00FB00#32⟩,
   ⟨0x202C, .f, 0xFB00FB00#32⟩,
   ⟨0x2030, .m, 0x00000000#32⟩,
   ⟨0x2034, .m, 0x00003600#32⟩,
   ⟨0x2038, .s, 0x00000000#32⟩,
   ⟨0x203C, .s, 0x00000000#32⟩,
   ⟨0x2040, .h, 0x00000000#32⟩,
   ⟨0x2044, .h, 0x00000000#32⟩,
   ⟨0x2048, .m, 0x00000008#32⟩,
   ⟨0x204C, .h, 0x80008000#32⟩] ++
  [⟨0x2050, .h, 0x80008000#32⟩,
   ⟨0x2054, .h, 0x80008000#32⟩,
   ⟨0x2058, .h, 0x80008000#32⟩,
   ⟨0x205C, .c, 0x00000000#32⟩,
   ⟨0x2060, .c, 0x00000000#32⟩,
   ⟨0x2064, .c, 0x00000000#32⟩,
   ⟨0x2068, .m, 0x00000000#32⟩,
   ⟨0x206C, .m, 0x00000000#32⟩,
   ⟨0x2070, .h, 0x00000000#32⟩,
   ⟨0x2080, .f, 0x00000000#32⟩,
   ⟨0x2084, .f, 0x00000000#32⟩,
   ⟨0x2088, .f, 0x00000000#32⟩,
   ⟨0x208C, .f, 0x00000000#32⟩,
   ⟨0x2090, .f, 0x00000000#32⟩,
   ⟨0x2094, .f, 0x00000000#32⟩,
   ⟨0x2098, .f, 0x00000000#32⟩,
   ⟨0x209C, .f, 0x00000000#32⟩,
   ⟨0x20A0, .f, 0x00000000#32⟩,
   ⟨0x20A4, .f, 0x00000000#32⟩,
   ⟨0x20A8, .f, 0x00000000#32⟩] ++
  [⟨0x20AC, .f, 0x00000000#32⟩]

/-- Page 9, SHEET (R729). -/
def Reg.page9 : List RegInfo :=
  [⟨0x2400, .m, 0x00000081#32⟩,
   ⟨0x2404, .m, 0x00000000#32⟩,
   ⟨0x2408, .s, 0x00000000#32⟩,
   ⟨0x240C, .h, 0x00000000#32⟩,
   ⟨0x2410, .h, 0x00000000#32⟩,
   ⟨0x2414, .h, 0x00000000#32⟩,
   ⟨0x2418, .h, 0x00000000#32⟩,
   ⟨0x241C, .h, 0x00000000#32⟩,
   ⟨0x2420, .h, 0x00000000#32⟩,
   ⟨0x2424, .h, 0x00000000#32⟩,
   ⟨0x2428, .h, 0x00000000#32⟩,
   ⟨0x242C, .h, 0x00000000#32⟩,
   ⟨0x2430, .h, 0x00000000#32⟩,
   ⟨0x2434, .h, 0x00000000#32⟩,
   ⟨0x2438, .h, 0x00000000#32⟩,
   ⟨0x243C, .m, 0x00000000#32⟩,
   ⟨0x2440, .h, 0x0000FFFF#32⟩,
   ⟨0x2444, .m, 0x00000008#32⟩,
   ⟨0x2448, .h, 0x00000000#32⟩,
   ⟨0x244C, .h, 0x00000000#32⟩] ++
  [⟨0x2450, .h, 0x00000000#32⟩,
   ⟨0x2454, .h, 0x00000000#32⟩,
   ⟨0x2458, .h, 0x00000000#32⟩,
   ⟨0x245C, .h, 0x00000000#32⟩,
   ⟨0x2460, .h, 0x00000000#32⟩,
   ⟨0x2464, .c, 0x00000000#32⟩,
   ⟨0x2468, .c, 0x00000000#32⟩]

/-- Page 10, LATENT (R729). -/
def Reg.page10 : List RegInfo :=
  [⟨0x2800, .m, 0x0000002B#32⟩,
   ⟨0x2804, .f, 0x00002864#32⟩,
   ⟨0x2808, .f, 0x00010000#32⟩,
   ⟨0x280C, .m, 0x00000003#32⟩,
   ⟨0x2810, .s, 0x00000000#32⟩,
   ⟨0x2814, .h, 0x00000100#32⟩,
   ⟨0x2818, .h, 0x00000000#32⟩,
   ⟨0x281C, .h, 0x00000000#32⟩,
   ⟨0x2820, .h, 0x00000000#32⟩,
   ⟨0x2824, .h, 0x00080000#32⟩,
   ⟨0x2828, .h, 0x00000000#32⟩,
   ⟨0x282C, .c, 0x00000000#32⟩]

/-- Page 11, PRINT (R729). -/
def Reg.page11 : List RegInfo :=
  [⟨0x2C00, .g, 0x00000000#32⟩,
   ⟨0x2C04, .g, 0xFFFFFFFF#32⟩,
   ⟨0x2C08, .m, 0x00000000#32⟩,
   ⟨0x2C0C, .m, 0x00008864#32⟩,
   ⟨0x2C10, .m, 0x00000000#32⟩,
   ⟨0x2C14, .m, 0x00000000#32⟩,
   ⟨0x2C18, .m, 0x00000000#32⟩,
   ⟨0x2C1C, .m, 0x00000000#32⟩,
   ⟨0x2C20, .m, 0x00000000#32⟩,
   ⟨0x2C24, .m, 0x00000000#32⟩,
   ⟨0x2C28, .m, 0x00000000#32⟩,
   ⟨0x2C2C, .m, 0x00000000#32⟩,
   ⟨0x2C30, .m, 0x00004000#32⟩,
   ⟨0x2C34, .m, 0x00004000#32⟩,
   ⟨0x2C38, .m, 0x00004000#32⟩,
   ⟨0x2C3C, .m, 0x00004000#32⟩,
   ⟨0x2C40, .m, 0x00004000#32⟩,
   ⟨0x2C44, .m, 0x00004000#32⟩,
   ⟨0x2C48, .m, 0x00004000#32⟩,
   ⟨0x2C4C, .m, 0x00004000#32⟩] ++
  [⟨0x2C50, .s, 0x00000000#32⟩,
   ⟨0x2C54, .h, 0x00000000#32⟩,
   ⟨0x2C58, .h, 0x00000000#32⟩,
   ⟨0x2C5C, .g, 0x00000000#32⟩,
   ⟨0x2C60, .g, 0xFFFFFFFF#32⟩,
   ⟨0x2C64, .h, 0x00008000#32⟩,
   ⟨0x2C68, .c, 0x00000000#32⟩,
   ⟨0x2C6C, .c, 0x00000000#32⟩,
   ⟨0x2C70, .c, 0x00000000#32⟩,
   ⟨0x2C74, .c, 0x00000000#32⟩]

/-- Page 12, STAGE (R729). -/
def Reg.page12 : List RegInfo :=
  [⟨0x3000, .f, 0x00000000#32⟩,
   ⟨0x3004, .f, 0x00000000#32⟩,
   ⟨0x3008, .f, 0x00000000#32⟩,
   ⟨0x300C, .f, 0x00000000#32⟩,
   ⟨0x3010, .f, 0x00000000#32⟩,
   ⟨0x3014, .f, 0x00000000#32⟩,
   ⟨0x3018, .f, 0x00000000#32⟩,
   ⟨0x301C, .f, 0x00000000#32⟩,
   ⟨0x3020, .f, 0x1F44B190#32⟩,
   ⟨0x3024, .m, 0x00002280#32⟩,
   ⟨0x3028, .h, 0x00000000#32⟩,
   ⟨0x302C, .h, 0x00000000#32⟩,
   ⟨0x3030, .h, 0x00000000#32⟩,
   ⟨0x3034, .h, 0x00000000#32⟩,
   ⟨0x3038, .h, 0x00000000#32⟩,
   ⟨0x303C, .h, 0x00000000#32⟩,
   ⟨0x3040, .h, 0x00000000#32⟩,
   ⟨0x3044, .h, 0x00000000#32⟩,
   ⟨0x3048, .h, 0x00000000#32⟩,
   ⟨0x304C, .h, 0x00000000#32⟩] ++
  [⟨0x3050, .h, 0x00000000#32⟩,
   ⟨0x3054, .f, 0x00C0A040#32⟩,
   ⟨0x3058, .m, 0x0000000A#32⟩,
   ⟨0x305C, .m, 0x00000000#32⟩,
   ⟨0x3060, .s, 0x00000000#32⟩,
   ⟨0x3064, .h, 0x00000000#32⟩,
   ⟨0x3068, .m, 0x00000000#32⟩,
   ⟨0x306C, .m, 0x00000000#32⟩,
   ⟨0x3070, .f, 0x00008000#32⟩,
   ⟨0x3074, .f, 0x00008000#32⟩,
   ⟨0x3078, .f, 0x00008000#32⟩,
   ⟨0x307C, .f, 0x00008000#32⟩,
   ⟨0x3080, .f, 0x00008000#32⟩,
   ⟨0x3084, .f, 0x00008000#32⟩,
   ⟨0x3088, .f, 0x00008000#32⟩,
   ⟨0x308C, .f, 0x00008000#32⟩,
   ⟨0x3090, .h, 0x80008000#32⟩,
   ⟨0x3094, .h, 0x80008000#32⟩,
   ⟨0x3098, .h, 0x80008000#32⟩,
   ⟨0x309C, .h, 0x80008000#32⟩] ++
  [⟨0x30A0, .h, 0x80008000#32⟩,
   ⟨0x30A4, .h, 0x80008000#32⟩,
   ⟨0x30A8, .h, 0x80008000#32⟩,
   ⟨0x30AC, .h, 0x80008000#32⟩,
   ⟨0x30B0, .s, 0x00000000#32⟩,
   ⟨0x30B4, .c, 0x00000000#32⟩]

/-- Page 13, TANK (R729). -/
def Reg.page13 : List RegInfo :=
  [⟨0x3400, .m, 0x00000041#32⟩,
   ⟨0x3404, .s, 0x00000000#32⟩,
   ⟨0x3408, .h, 0x00000000#32⟩,
   ⟨0x340C, .h, 0x00000000#32⟩,
   ⟨0x3410, .c, 0x00000000#32⟩,
   ⟨0x3414, .c, 0x00000000#32⟩,
   ⟨0x3418, .h, 0x00000400#32⟩,
   ⟨0x341C, .h, 0x00000000#32⟩,
   ⟨0x3420, .c, 0x00000000#32⟩,
   ⟨0x3424, .c, 0x00000000#32⟩,
   ⟨0x3428, .h, 0x00000000#32⟩,
   ⟨0x342C, .g, 0x00000000#32⟩,
   ⟨0x3430, .g, 0xFFFFFFFF#32⟩]

/-- Page 14, LOUPE (R729). -/
def Reg.page14 : List RegInfo :=
  [⟨0x3800, .h, 0x00000000#32⟩,
   ⟨0x3804, .s, 0x00000000#32⟩,
   ⟨0x3808, .m, 0x00000000#32⟩,
   ⟨0x380C, .f, 0x00000000#32⟩,
   ⟨0x3810, .h, 0x00000000#32⟩,
   ⟨0x3814, .g, 0x00000000#32⟩,
   ⟨0x3818, .g, 0xFFFFFFFF#32⟩,
   ⟨0x381C, .h, 0x00000000#32⟩,
   ⟨0x3820, .g, 0x00000000#32⟩,
   ⟨0x3824, .g, 0xFFFFFFFF#32⟩,
   ⟨0x3828, .h, 0x00000000#32⟩,
   ⟨0x382C, .h, 0x00000000#32⟩,
   ⟨0x3830, .h, 0x00000000#32⟩,
   ⟨0x3834, .h, 0x80008000#32⟩,
   ⟨0x3838, .h, 0x80008000#32⟩,
   ⟨0x383C, .h, 0x80008000#32⟩,
   ⟨0x3840, .h, 0x80008000#32⟩,
   ⟨0x3844, .h, 0x00008000#32⟩,
   ⟨0x3848, .h, 0x0000FFFF#32⟩,
   ⟨0x384C, .m, 0x00009187#32⟩] ++
  [⟨0x3850, .c, 0x00000000#32⟩,
   ⟨0x3854, .c, 0x00000000#32⟩]

/-- Page 15, FIXER (R729). -/
def Reg.page15 : List RegInfo :=
  [⟨0x3C04, .m, 0x00004177#32⟩,
   ⟨0x3C0C, .m, 0x00004177#32⟩,
   ⟨0x3C10, .m, 0x00004177#32⟩,
   ⟨0x3C18, .m, 0x00004177#32⟩,
   ⟨0x3C1C, .m, 0x00004177#32⟩,
   ⟨0x3C20, .m, 0x00004177#32⟩,
   ⟨0x3C24, .m, 0x00004177#32⟩,
   ⟨0x3C28, .m, 0x00004177#32⟩,
   ⟨0x3C30, .m, 0x00004177#32⟩,
   ⟨0x3C3C, .m, 0x00004177#32⟩,
   ⟨0x3C40, .m, 0x00004177#32⟩,
   ⟨0x3C44, .m, 0x00004177#32⟩,
   ⟨0x3C48, .m, 0x00004177#32⟩,
   ⟨0x3C50, .s, 0x00000000#32⟩,
   ⟨0x3C54, .h, 0x00000000#32⟩,
   ⟨0x3C58, .h, 0x00000000#32⟩,
   ⟨0x3C5C, .m, 0x00000000#32⟩,
   ⟨0x3C60, .m, 0x00000000#32⟩,
   ⟨0x3C64, .h, 0x00000000#32⟩,
   ⟨0x3C68, .h, 0x00000000#32⟩] ++
  [⟨0x3C6C, .c, 0x00000000#32⟩,
   ⟨0x3C70, .c, 0x00000000#32⟩]

/-- The registers of a page. -/
def Reg.ofPage : Nat → List RegInfo
  | 0 => Reg.page0
  | 1 => Reg.page1
  | 2 => Reg.page2
  | 3 => Reg.page3
  | 4 => Reg.page4
  | 5 => Reg.page5
  | 6 => Reg.page6
  | 7 => Reg.page7
  | 8 => Reg.page8
  | 9 => Reg.page9
  | 10 => Reg.page10
  | 11 => Reg.page11
  | 12 => Reg.page12
  | 13 => Reg.page13
  | 14 => Reg.page14
  | 15 => Reg.page15
  | _ => []

/-- The canonical byte address of a word address: word-offset bits 7:6 are ignored (R228). -/
def Reg.canonical (wordAddr : Nat) : Nat := (wordAddr / 256 % 16) * 0x400 + (wordAddr % 64) * 4

/-- The page of a byte address. -/
def Reg.pageOf (addr : Nat) : Nat := addr / 0x400 % 16

/-- The register at a canonical byte address, if the map has one (R229, R729). -/
def Reg.find (addr : Nat) : Option RegInfo :=
  (Reg.ofPage (Reg.pageOf addr)).find? (fun r => r.addr == addr)

/-- The reset value of the map at an address; 0 where no register stands (R229). -/
def Reg.resetOf (addr : Nat) : Word :=
  match Reg.find addr with
  | some r => r.reset
  | none => 0

/-- The kind of the register at an address, if there is one. -/
def Reg.kindOf (addr : Nat) : Option Kind := (Reg.find addr).map (·.kind)

/-- Whether an address is the A word of a guarded pair. -/
def Reg.isPairA (addr : Nat) : Bool := Reg.kindOf addr == some .g && Reg.resetOf addr != 0xFFFFFFFF#32

/-- Whether an address is the B word of a guarded pair. -/
def Reg.isPairB (addr : Nat) : Bool := Reg.kindOf addr == some .g && Reg.resetOf addr == 0xFFFFFFFF#32

/-- The A address of the guarded pair that a G address belongs to: the B word follows the A word (R731). -/
def Reg.pairA (addr : Nat) : Nat := if Reg.isPairA addr then addr else addr - 4

end Sys2Proof.Machine
end

