-- ==== Sys2Proof/Machine/State.lean ====
section
/-! DEFINITION. The state of the unit as plain data: every piece of state the spec names (INVENTORY.md lists each with its
rule and reset value), the waiting commands, the reasons a step can stop, and the state after reset. A field's default
value is its value at reset. -/

namespace Sys2Proof.Machine

/-! ### Faults and refusals -/

/-- Reasons a step ends the machine. The unit has none: every error of the spec sets flags, writes log entries and goes on
(R184, R193, R250, R699). The type has no constructor. -/
inductive Fault where
  deriving DecidableEq, Repr

/-- Reasons a command is refused. -/
inductive Refusal where
  /-- Raised by `exec` for a command that has no meaning yet. Safe: the machine stops. -/
  | notModelled (mnemonic : String)
  deriving DecidableEq, Repr

/-! ### Clock, power and epoch (chapter 01, R707, R533) -/

/-- Supplies and resets: no supplies; the internal power-on reset asserted (R707); HOLD asserted (R533); running. -/
inductive Power where
  | off | por | hold | up
  deriving DecidableEq, Repr

/-- The clock, the epoch and the countdown. -/
structure Clk where
  /-- Supplies, power-on reset and HOLD (R707, R533). -/
  power : Power := .por
  /-- Both link clocks have stopped (R33). -/
  stopped : Bool := false
  /-- Edges present on CKI_A± (R69). -/
  edgeA : Bool := true
  /-- Edges present on CKI_B± (R69: the reset value of CLK_B is 0). -/
  edgeB : Bool := false
  /-- The selected clock input (R18). -/
  side : Side := .a
  /-- The epoch in ticks (R23). -/
  epoch : Epoch := 0
  /-- The epoch at the start of the current frame (R70). -/
  frameEpoch : Epoch := 0
  /-- The first epoch has been adopted (R25). -/
  hasEpoch : Bool := false
  /-- Ticks the unit has counted since power-up: the model's own count, which the timers of the unit compare (R23). -/
  ticks : Nat := 0
  /-- The frame format in use: true for DAYLIGHT (R11, R59). -/
  daylight : Bool := false
  /-- The tick of the last change to DAYLIGHT (R288, R386). -/
  dayAt : Option Nat := none
  /-- A clock fault is in progress (R42, R46). -/
  fault : Bool := false
  /-- The selected-side marker of the current frame arrived exactly one frame length after the one before it (R46). -/
  exact : Bool := true
  /-- Consecutive frame-length errors that match the other mode's format (R47). -/
  lenErr : Nat := 0
  /-- An unannounced rate change has been recognised and has not ended (R47, R48). -/
  rateBad : Bool := false
  /-- The frame length last measured on the selected input, in link clocks (R42, R65). -/
  lastLen : Nat := 192
  /-- A side switch waits for its first valid selected-side header (R735). -/
  switched : Bool := false
  /-- A trip of the missing-edge monitor waits to be logged (R34, R65). -/
  edgeLossPend : Bool := false
  /-- The first new-rate header of an announced rate change is awaited (R60). -/
  rateCheck : Bool := false
  /-- The countdown's target: 0 none, 1 DAYLIGHT, 2 SAFELIGHT (R51, R69). -/
  rcTarget : Nat := 0
  /-- The countdown value the unit holds (R55, R69). -/
  rcCount : Nat := 0
  /-- A countdown the unit cannot act on is being recorded (R521): its target. -/
  rcIgnored : Nat := 0
  /-- A value written to EPOCH_HI_SET awaits the next valid frame start (R29). -/
  epochHiPend : Option Half := none
  /-- The settle interval after a gap or clock fault: the tick it started at (R40, R62). -/
  settle : Option Nat := none
  /-- The tick at which the last settle interval ended: a sample is valid that begins at it or later (R40). -/
  settled : Option Nat := none
  /-- Drive auto-restart is disabled until a master enable (R49). -/
  autoOff : Bool := false
  /-- Consecutive clean selected-side frames since the last faulted one (R63). -/
  cleanFrames : Nat := 0
  /-- Consecutive faulted selected-side frames (R63). -/
  faultFrames : Nat := 0
  /-- Recent epochs whose selected-side frame was faulted (R63). -/
  faulted : List Epoch32 := []
  deriving DecidableEq, Repr

/-! ### Identity (chapter 02) -/

/-- Straps as decoded, the personality and the address. -/
structure Ident where
  /-- The strap read is complete (R103). -/
  done : Bool := false
  /-- Decoded codes after fall-back (R103). -/
  addrCode : Nat := 0
  roleCode : Nat := 0
  biasCode : Nat := 0
  fore : Bool := false
  /-- Current GROUP and POSITION (R89, R106). -/
  group : Nat := 0
  position : Nat := 0
  /-- The position lock and the override mark (R96, R106). -/
  locked : Bool := false
  overridden : Bool := false
  /-- Accepted overrides that await the next frame start, oldest first (R96). -/
  ovrPend : List Word := []
  deriving DecidableEq, Repr

/-! ### Link sides and outputs (chapters 03 and 04) -/

/-- The show slots captured from one copy of one epoch under a slot mask: slot, class of its block, sample (R167, R170). -/
structure Capture where
  epoch : Epoch32
  valid : Bool
  slots : List (Nat × Nat × Sample)
  deriving DecidableEq, Repr

/-- A header seen on a side (R42, R120): its epoch, its check valid with VOID 0, received under frame lock, its check valid
whatever VOID says, and WRAPPED in a valid one. -/
structure HdrSeen where
  epoch   : Epoch32
  ok      : Bool
  framed  : Bool
  crc     : Bool
  wrapped : Bool
  deriving DecidableEq, Repr

/-- One received side. -/
structure LinkSide where
  /-- Frame lock (R121, R122). -/
  lock : Bool := false
  /-- Declared down (R129). -/
  down : Bool := false
  /-- This side's clock is lost under the 4-edge criterion (R19, R130). -/
  lost : Bool := false
  /-- The output that carried this side's copy onward is sourced from the other input (R130). -/
  resourced : Bool := false
  /-- A lock was held and the FAW then went missing: relock takes 2 frames (R122), not 3 (R121). -/
  relock : Bool := false
  /-- A lock has been held since acquisition last began: until the next lock this side's copy goes on as void frames (R122),
  and its markers are judged (R42). -/
  held : Bool := false
  /-- Consecutive frames with the FAW at one position while searching (R121, R122). -/
  fawRun : Nat := 0
  /-- Consecutive frames without the FAW at the expected position (R129). -/
  misses : Nat := 0
  /-- Consecutive frames with a valid header under frame lock (R132). -/
  validRun : Nat := 0
  /-- The FAW of the current frame stands at the expected position (R165). -/
  faw : Bool := false
  /-- The header of the current copy: its check, VOID and WRAPPED bits and epoch (R165, R166). -/
  hdrValid : Bool := false
  void : Bool := false
  wrapped : Bool := false
  epoch : Epoch32 := 0
  /-- The slot classes of the current copy's header (R160). -/
  classes : BitVec 64 := 0
  /-- The most recent headers of this side, newest first (R42, R120). -/
  hdrs : List HdrSeen := []
  /-- Inverted lanes corrected (R113). -/
  inv0 : Bool := false
  inv1 : Bool := false
  /-- Inversions found during the present search, not yet logged (R113). -/
  foundInv : Option (Bool × Bool) := none
  /-- Delay steps of lanes 0 and 1 (R125, R148). -/
  delay0 : Nat := 32
  delay1 : Nat := 32
  /-- The slot mask in force when the current frame of this side began (R179). -/
  mask : List Nat := []
  /-- Captures of the 8 most recent epochs (R167). -/
  caps : List Capture := []
  deriving DecidableEq, Repr

/-- The present frame of one output of the unit, part by part (R109, R114, R157, R163, R164). Whether the output has a clock,
and from which input, follows from the rest of the state (R115, R130, R133, R138). -/
structure OutSide where
  /-- Parts of the frame sent: the header, the show field, the listen, register and event fields, each with its check. -/
  sent : Nat := 0
  /-- The frame on this output is a void frame, from its start or from part way through (R118, R130, R164). -/
  void : Bool := false
  /-- The frame on this output is a training frame (R123). -/
  training : Bool := false
  /-- The frame on this output has the DAYLIGHT format: under HOLD the one that arrives, else the unit's own (R115, R149). -/
  day : Bool := false
  header : BitVec 416 := 0
  /-- Show field as sent (R150); empty in SAFELIGHT. -/
  shows : List Sample := []
  showCheck : Word := 0
  listen : List Word := []
  listenCheck : Word := 0
  register : List Word := []
  registerCheck : Half := 0
  event : List Word := []
  eventCheck : Half := 0
  deriving DecidableEq, Repr

/-- Training at a rate change (R124 to R127). Lanes are A0, A1, B0, B1. -/
structure Training where
  /-- The tick of the boundary (tick 0 of R125). -/
  start : Nat
  /-- For each lane, the steps found free of error in the scan (R125). -/
  good : List (List Nat)
  /-- For each lane, a PRBS error was seen during confirmation or check (R126, R127). -/
  bad : List Bool
  /-- The step of each lane has been centred (R125). -/
  centred : Bool
  /-- Sides that have failed training (R126). -/
  failedA : Bool
  failedB : Bool
  deriving DecidableEq, Repr

/-- State of the link as a whole. -/
structure Link where
  /-- The unit forwards: 16 link clocks have passed since the power-on reset's release (R115). -/
  forwarding : Bool := false
  /-- The down side of the present wrap (R130, R146). -/
  wrap : Option Side := none
  /-- A training interval in progress (R124). -/
  training : Option Training := none
  /-- The running proof loop: LOOP, side X, FIELD (R137). -/
  loop : Option (Nat × Side × Nat) := none
  /-- PROOF_CTL was written and the change awaits the next frame start (R137). -/
  loopPend : Option Word := none
  /-- COPY_SKEW as last measured, and whether it was measured in the current frame (R120, R148). -/
  skew : BitVec 24 := 0
  skewValid : Bool := false
  deriving DecidableEq, Repr

/-! ### Frames (chapter 04) -/

/-- A run of consecutive epochs with one condition: its first and last epoch, its length, and what its entry carries (R180). -/
structure Run where
  first : Epoch
  len   : Nat
  info  : Nat
  last  : Epoch32
  deriving DecidableEq, Repr

/-- The classes of one epoch as its copies carry them: the copies seen, and the lowest block with the reserved class in any of
them (R158, R180). -/
structure ClassSeen where
  epoch : Epoch32
  gotA  : Bool
  gotB  : Bool
  block : Option Nat
  deriving DecidableEq, Repr

/-- What has become of the register field of an epoch: the copies that have come, whether its commands have been executed, whether a
copy was valid that COPY_FORCE bars, and whether the runs of REG_MISS have taken it (R173, R175, R177, R180). -/
structure RegSeen where
  epoch : Epoch32
  gotA  : Bool := false
  gotB  : Bool := false
  taken : Bool := false
  valid : Bool := false
  told  : Bool := false
  deriving DecidableEq, Repr

/-- The show slots of one decided epoch: slot, class, sample (R169, R171). -/
structure ShowEpoch where
  epoch   : Epoch32
  present : Bool
  slots   : List (Nat × Nat × Sample)
  deriving DecidableEq, Repr

/-- Copy selection. -/
structure Frame where
  /-- The slot mask sampled for recent epochs (R178, R547). -/
  masks : List (Epoch32 × List Nat) := []
  /-- Show epochs whose decision is still due, in epoch order (R168, R171). -/
  due : List Epoch32 := []
  /-- The last show epoch that has become due (R171). -/
  lastDue : Option Epoch32 := none
  /-- Epochs handed to the Print path (R171). -/
  shown : List ShowEpoch := []
  /-- Current runs (R180). -/
  missRun : Option Run := none
  regRun : Option Run := none
  classRun : Option Run := none
  /-- Epochs whose classes are not yet judged, oldest first, and the last one judged (R180). -/
  classes : List ClassSeen := []
  classDone : Option Epoch32 := none
  /-- Register fields of recent epochs (R173, R175). -/
  regs : List RegSeen := []
  /-- Selections for the most recent epoch (R186). -/
  hdrSrc : Nat := 0
  regSrc : Nat := 0
  /-- The epoch that REG_SRC reports (R186). -/
  regAt : Epoch32 := 0
  /-- The copy of the last show decision; the other side's copy comes first (R186). -/
  showSrc : Nat := 0
  otherEarly : Bool := false
  deriving DecidableEq, Repr

/-! ### The rings (chapter 05) -/

inductive TagState where
  | idle | queued | executing | done
  deriving DecidableEq, Repr

/-- State and last status of one tag (R213). -/
structure Tag where
  state  : TagState := .idle
  status : Nat := 0
  deriving DecidableEq, Repr

/-- A command packet in the command ring: header, COUNT word of a burst, data words (R191). -/
structure Cmd where
  hdr   : Word
  count : Word
  data  : List Word
  /-- A burst malformed by the format of the field that brought it (R200). -/
  bad   : Bool := false
  /-- The entry of the command ring that holds it (R621). -/
  slot  : Nat := 0
  deriving DecidableEq, Repr

/-- A registered ABORT: its tag, whether it has been examined and waits for a single-word command, and whether a selected-side frame
has begun since it came (R211). -/
structure Abort where
  tag     : Nat
  waiting : Bool
  due     : Bool := false
  slot    : Nat := 0
  deriving DecidableEq, Repr

/-- A reply packet in the reply ring, with the sides already served (R205). -/
structure Reply where
  hdr   : Word
  data  : List Word
  sentA : Bool
  sentB : Bool
  slot  : Nat := 0
  deriving DecidableEq, Repr

/-- An event in the event ring, with the sides already served (R205, R216). -/
structure Event where
  lseq   : Nat
  source : Nat
  code   : Nat
  sentA  : Bool
  sentB  : Bool
  slot   : Nat := 0
  deriving DecidableEq, Repr

/-- The command, reply and event rings and the tags (R188). -/
structure Queue where
  /-- The entries of the three rings in Tank from which the next free one is sought (R621). -/
  cmdNext : Nat := 0
  replyNext : Nat := 0
  eventNext : Nat := 0
  cmds : List Cmd := []
  /-- The head of the command ring is being executed: words committed so far, and data read so far (R201, R202). -/
  running : Bool := false
  done : Nat := 0
  got : List Word := []
  aborts : List Abort := []
  replies : List Reply := []
  /-- Reply entries reserved and not yet filled (R199). -/
  reserved : Nat := 0
  tags : List Tag := List.replicate 16 {}
  events : List Event := []
  /-- A run of dropped events is in progress (R217). -/
  evtDropRun : Bool := false
  deriving DecidableEq, Repr

/-! ### The register port (chapter 06) -/

/-- An armed guarded pair: canonical address of the A word and the value written (R240). -/
structure Armed where
  addr  : Nat
  value : Word
  deriving DecidableEq, Repr

/-- The outcome of the last access through the register port: a STATUS code of R193 and the data read. -/
structure Port where
  armHost  : Option Armed := none
  armLoupe : Option Armed := none
  status   : Nat := 0
  data     : List Word := []
  /-- The last Loupe access returned a bus error (R264, R625, R626). -/
  busError : Bool := false
  /-- The last access of IX_DATA was refused: DATA reads as 0 (R267). -/
  ixRefused : Bool := false
  /-- Registers whose parity mismatch holds their block in a safe state (R250, R251). -/
  held : List Nat := []
  deriving DecidableEq, Repr

/-! ### Fixer and log (chapter 19) -/

/-- A log entry (R689). -/
structure LogEntry where
  epoch  : Epoch
  source : Nat
  code   : Nat
  lo     : Word
  hi     : Word
  /-- The entry is also posted as an event (R65 and the log tables of every chapter). -/
  event  : Bool
  /-- The entry reports a wake, and a wake record goes with it (R502): the record's cause, 0 for none. -/
  wake   : Nat := 0
  deriving DecidableEq, Repr

/-- One Fixer history (R680). -/
structure History where
  epochs  : List Epoch := []
  lasting : Bool := false
  occur   : Nat := 0
  deriving DecidableEq, Repr

/-- The Fixer, the staging queue and the log writer. -/
structure Fixer where
  hist : List History := List.replicate 44 {}
  /-- The staging queue of the log, oldest first (R692). -/
  staged : List LogEntry := []
  /-- Entries raised in the present cycle, not yet sorted into the queue (R692). Empty between commands. -/
  raised : List LogEntry := []
  /-- Instances judged lasting in the present cycle, and those released in it with the histories they held (R253, R685). Empty between
  commands. -/
  struck : List Nat := []
  freed : List (Nat × List Epoch) := []
  /-- Registers whose parity mismatch has put their block into a safe state in the present cycle (R250, R253). Empty between commands. -/
  fresh : List Nat := []
  /-- A run of dropped log entries is in progress (R693). -/
  dropRun : Bool := false
  /-- The Loupe, not the hardware writer, writes the log (R526). -/
  byLoupe : Bool := false
  deriving DecidableEq, Repr

/-! ### Microphone front end (chapter 07) -/

/-- One bias supply (R273 to R281). -/
structure Bias where
  /-- Driven on, or ramping to its voltage; false: at 0 V or ramping to it (R274). -/
  on : Bool := false
  /-- The voltage code applied (R273). -/
  code : Nat := 0
  /-- The tick at which the present ramp began, and the voltage it began from, in mV (R275). -/
  ramp : Option Nat := none
  start : Rat := 0
  /-- The tick at which the present invalid window began (R275). -/
  window : Option Nat := none
  /-- A short holds the bias off since this tick (R279). -/
  shorted : Option Nat := none
  /-- A lasting short holds it off until the host writes its BIAS_EN bit (R280). -/
  latched : Bool := false
  /-- Consecutive ticks at the current limit, under the open threshold, and above it (R278, R281). -/
  limit : Nat := 0
  low : Nat := 0
  high : Nat := 0
  /-- The open detector is armed (R281). -/
  armed : Bool := true
  deriving DecidableEq, Repr

/-- One array converter (R287, R288). -/
structure Chan where
  powered : Bool := false
  /-- The tick at which its start interval began, while it runs (R288). -/
  starting : Option Nat := none
  deriving DecidableEq, Repr

/-- The front end. -/
structure Front where
  bias : List Bias := List.replicate 16 {}
  chan : List Chan := List.replicate 16 {}
  /-- VBIAS is above 2.9 V (R708). -/
  vbiasOk : Bool := true
  /-- Frame-sampled values in force: MIC_EN; the gain of channels 0 to 15 and of the watch converter, in steps of 1.5 dB;
  SAFE_MIC (R282, R283, R287, R293). -/
  micEn : Nat := 0
  gains : List Nat := List.replicate 16 0
  watchGain : Nat := 8
  watchMic : Nat := 0
  /-- The watch converter runs; the tick of its last start while its start interval lasts (R292, R293). -/
  watchRun : Bool := false
  watchStart : Option Nat := none
  /-- The PDM port: 0 stopped, 1 clock-first wait or decimator start, 2 running (R297, R312). -/
  pdmPhase : Nat := 0
  /-- PDM_CFG as sampled (R297). -/
  pdmCfg : Word := 0x4000
  /-- The tick at which the clock-first wait began, and whether the decimators have started since (R297). -/
  pdmTick : Nat := 0
  pdmDecim : Bool := false
  /-- Channels taken: bit 0 for channel 12, up to bit 3 for channel 15 (R296). -/
  pdmTaken : Nat := 0
  /-- The sample PDM_DO carries with its validity; none while it is held low (R301). -/
  mirror : Option (Bool × Sample) := none
  /-- The analog, bitstream or PDM loop applied, as the PROOF_CTL value; a value awaiting the next frame start (R305). -/
  loop : Word := 0
  loopPend : Option Word := none
  /-- High-quality samples for which the test tone has run, and the four integrators of its modulator and of the remodulator of
  PDM_DO (R301, R305). -/
  toneAt : Nat := 0
  toneMod : List Int := [0, 0, 0, 0]
  remod : List Int := [0, 0, 0, 0]
  /-- A running capture: channel and samples written so far (R305). -/
  capture : Option (Nat × Nat) := none
  /-- Trim words that differ from factory calibration, by word (R303). -/
  trim : List (Nat × Word) := []
  deriving DecidableEq, Repr

/-! ### Decimation and filtering (chapter 08) -/

/-- The histories of one filter set in one channel, newest sample first: HB2's, Final's and Align's inputs (R323, R324). -/
structure SetHist where
  hb2   : List Int := []
  fin   : List Int := []
  align : List Int := []
  deriving DecidableEq, Repr

/-- The filter state of one channel, newest first: the bits its CIC still spans, as +1 and −1, the CIC's outputs, and the
histories of sets L and M (R323, R328). The low-power path's FIR reads `cic`, and its Align stage `l.align`. -/
structure Chain where
  bits : List Int := []
  cic  : List Int := []
  l    : SetHist := {}
  m    : SetHist := {}
  deriving DecidableEq, Repr

/-- The filter engine's state. -/
structure Decim where
  /-- The filters of channels 0 to 15 and of the watch converter (R323). -/
  chains : List Chain := List.replicate 17 {}
  /-- A word of the high-quality path, of the low-power path, has failed its parity: the path is to stop and reload (R345). -/
  hqReload : Bool := false
  lpReload : Bool := false
  /-- The ticks at which the paths last stopped (R339). -/
  hqHaltAt : Option Nat := none
  lpHaltAt : Option Nat := none
  /-- The tick at which the last phase transition or its cross-fade output 64 ended (R350). -/
  transEnd : Option Nat := none
  /-- The path is stopped by RUN_HQ, RUN_LP (R338, R356). -/
  hqStopped : Bool := false
  lpStopped : Bool := false
  /-- The tick of each path's last start (R321, R339). -/
  hqStart : Nat := 0
  lpStart : Nat := 0
  /-- PHASE as last sampled, and the set whose output is delivered: true for set M (R329, R331, R332). -/
  phase : Bool := false
  inUse : Bool := false
  /-- A phase transition: false while priming, true in cross-fade, and the outputs made so far in that part (R329). -/
  trans : Option (Bool × Nat) := none
  /-- The active compatibility bank, and the target of a pending swap (R347, R348). -/
  bank : Nat := 0
  swap : Option Nat := none
  /-- DC estimates of channels 0 to 15 and of the watch converter, and whether the next valid sample seeds them (R333, R336). -/
  est : List Int := List.replicate 17 0
  seed : List Bool := List.replicate 17 true
  /-- The epoch of the last low-power boundary, and whether the next one is the first after a rate boundary (R318). -/
  lpLast : Option Epoch := none
  lpCheck : Bool := false
  /-- The current low-power sample is delivered valid (R321). -/
  lpValid : Bool := false
  /-- Coefficient words that differ from the factory's, by word (R340 to R343). -/
  coef : List (Nat × Word) := []
  /-- Parity bits of coefficient words that an upset has struck, by word; a word not listed holds the parity of its value (R345). -/
  coefPar : List (Nat × Bool) := []
  deriving DecidableEq, Repr

/-! ### Aperture (chapter 09) -/

/-- A beam table: 16 tap words and a configuration word (R369), the parity bit of each of these words, the configuration's last
(R384), and whether its first clamp at the present scale has been logged (R368). -/
structure Table where
  taps    : List Word := List.replicate 16 0
  cfg     : Word := 0
  par     : List Bool := List.replicate 17 false
  clamped : Bool := false
  deriving DecidableEq, Repr

/-- A cross-fade: the table it leads to, the scale of its old side, outputs made so far (R372, R376). -/
structure Fade where
  new      : Table
  oldScale : Nat
  n        : Nat
  /-- The new table came from a commit (it counts in COMMIT_COUNT, R391). -/
  commit   : Bool
  deriving DecidableEq, Repr

/-- One beam. -/
structure Beam where
  active : Table := {}
  pend   : Option Table := none
  /-- A frame sample has followed the commit (R371). -/
  ready  : Bool := false
  fade   : Option Fade := none
  /-- The tick at which its last cross-fade made output 64 (R350, R372). -/
  fadeEnd : Option Nat := none
  deriving DecidableEq, Repr

/-- Aperture. -/
structure Aper where
  beams : List Beam := List.replicate 8 {}
  /-- C_SCALE in force, as last sampled, and waiting (R376). -/
  scale : Nat := 0x8000
  sampled : Nat := 0x8000
  wait : Option Nat := none
  /-- The tick at which the 256-tick withholding after a gap or clock fault began (R381). -/
  hold : Option Nat := none
  /-- The tick at which the high-quality path and Aperture last started from a boundary or a late power-good (R386, R524). -/
  start : Option Nat := none
  deriving DecidableEq, Repr

/-! ### Multiple exposure (chapter 10) -/

/-- What an entry, with its two words, does in the copies of one header epoch, decided once (R403): its contribution, or a skip. -/
structure Decision where
  epoch : Epoch32
  entry : Nat
  slotW : Word
  gainW : Word
  c     : Option Int
  deriving DecidableEq, Repr

/-- Multiple exposure. -/
structure Mx where
  /-- The active plan: slot word and gain word of each entry (R396). -/
  plan : List (Word × Word) := List.replicate 16 (0, 0)
  /-- The parity bit of each active entry (R417). -/
  par : List Bool := List.replicate 16 false
  /-- An armed switch and its first epoch (R411, R414). -/
  armed : Option Epoch := none
  /-- The first epoch of the plan last switched to (R413). -/
  since : Option Epoch := none
  /-- For each entry, a run of skips is in progress (R407). -/
  skipping : List Bool := List.replicate 16 false
  /-- Decisions of recent epochs (R403). -/
  decided : List Decision := []
  /-- The stamps covered by the last settle interval or clock fault: the first, and the one after the last, once it has ended;
  while it lasts there is no contribution (R62, R405). -/
  window : Option (Epoch × Option Epoch) := none
  deriving DecidableEq, Repr

/-! ### Developer (chapter 11) -/

/-- The adaptive floor of one band, in 1/16 dB (R433): smoothed level, floor, current minimum, minima of the last sub-windows,
newest first. -/
structure Band where
  s      : Int := 0
  f      : Int := 0
  curmin : Option Int := none
  minima : List Int := List.replicate 8 0
  deriving DecidableEq, Repr

/-- One stream. -/
structure Stream where
  /-- EN and source in force (R427). -/
  en : Bool := false
  src : Nat := 24
  /-- The stream restarts at its next block (R447). -/
  fresh : Bool := true
  bands : List Band := List.replicate 8 {}
  /-- Blocks of the current sub-window (R433). -/
  nblk : Nat := 0
  /-- A floor exists (R459). -/
  hasFloor : Bool := false
  /-- The stream is in its fog, and the valid blocks of it (R438). -/
  fog : Bool := false
  fogblk : Nat := 0
  /-- No valid block has come since the restart (R433). -/
  first : Bool := true
  /-- A pending seed (R440). -/
  seed : Option (List Int) := none
  /-- A stale gap has occurred: the fog restarts at the next valid block (R438). -/
  stale : Bool := false
  /-- Consecutive active blocks and the first of them (R436). -/
  onRun : Nat := 0
  onStart : Epoch32 := 0
  /-- Activity stands: valid blocks since it began, those up to its last active block, and that block (R437). -/
  active : Bool := false
  span : Nat := 0
  runLen : Nat := 0
  lastActive : Epoch32 := 0
  /-- Consecutive valid blocks that are not active (R437). -/
  offRun : Nat := 0
  deriving DecidableEq, Repr

/-- The cadence tracker of a profile on a stream (R444 to R446). -/
structure Tracker where
  on : Bool := false
  len : Nat := 0
  pend : Nat := 0
  start : Epoch32 := 0
  pendStart : Epoch32 := 0
  /-- The next run to close is incomplete (R445). -/
  incomplete : Bool := true
  /-- Closed runs, newest first: on or off, blocks, start epoch. -/
  hist : List (Bool × Nat × Epoch32) := []
  fRef : Int := 0
  fPrev : Int := 0
  prevOn : Bool := false
  /-- The frequency of the last on-block. -/
  fLast : Nat := 0
  /-- The pair stands; consecutive valid blocks without the tone (R446). -/
  standing : Bool := false
  quiet : Nat := 0
  deriving DecidableEq, Repr

/-- The Developer. -/
structure Dev where
  /-- EN and sources as last frame-sampled (R427). -/
  ctl : Nat := 0x101
  srcs : List Nat := [0, 24, 24, 24, 24, 24, 24, 24]
  streams : List Stream := List.replicate 9 {}
  /-- Consecutive valid samples up to the last one, for beams 0 to 7, channels 0 to 15 and the watch converter (R429). -/
  runs : List Nat := List.replicate 25 0
  /-- The last 512 samples of each of those sources, newest first: what the analysis windows reach (R428, R622). -/
  mem : List (List Int) := List.replicate 25 []
  /-- Committed profiles of 12 words, and validated ones that wait for a block boundary (R442). -/
  profiles : List (Option (List Word)) := List.replicate 8 none
  /-- The parity bit of each committed profile (R449). -/
  profPar : List Bool := List.replicate 8 false
  pendProf : List (Option (List Word)) := List.replicate 8 none
  /-- Trackers: profile p on stream s at 9 × p + s. -/
  trackers : List Tracker := List.replicate 72 {}
  /-- The most recent alarm: frequency, profile, stream (R459). -/
  lastFreq : Nat := 0
  lastProfile : Nat := 0
  lastStream : Nat := 0
  deriving DecidableEq, Repr

/-! ### Contact sheet (chapter 12) -/

/-- A path cell (R472): sum, cell count, start epoch, the consumed frame it started at and the sum of codes before that frame. -/
structure Cell where
  d     : Nat
  n     : Nat
  start : Epoch32
  frame : Nat
  codes : Nat
  deriving DecidableEq, Repr

/-- An open candidate (R475): best score, its start and epoch, and the frames consumed since it opened. -/
structure Cand where
  score : Nat
  start : Epoch32
  best  : Epoch32
  age   : Nat
  deriving DecidableEq, Repr

/-- A template running on a stream: frames consumed and the sum of their codes, its columns, its candidate. -/
structure Pair where
  slot   : Nat
  stream : Nat
  count  : Nat := 0
  codes  : Nat := 0
  prev1  : List (Option Cell) := []
  prev2  : List (Option Cell) := []
  cand   : Option Cand := none
  deriving DecidableEq, Repr

/-- The Contact sheet. -/
structure Sheet where
  /-- SHEET_CTL as last frame-sampled, and RUN as applied at a block boundary (R478). -/
  ctl : Word := 0x81
  run : Bool := true
  /-- Enabled slots in ascending order, and requests that wait for a block boundary (R468). -/
  enabled : List Nat := []
  reqs : List (Nat × Bool) := []
  pairs : List Pair := []
  /-- Watch matching runs; it drains (R477). -/
  watchRun : Bool := true
  drain : Bool := false
  /-- Streams whose next valid frame follows a gap of 960 ticks or more (R479). -/
  longGap : List Nat := []
  /-- Ticks at which the settle interval of the last gap ends, at which the invalid samples of the last clock fault end, and at which those of
  the PDM channels after the last gap do (R40, R62, R300, R479). -/
  gapUntil : Option Nat := none
  faultUntil : Option Nat := none
  pdmUntil : Option Nat := none
  /-- Abandons, as stream and reason, that wait for the end of a parity safe state (R479). -/
  owed : List (Nat × Nat) := []
  /-- The last report (R475): LAST_MATCH, LAST_START, LAST_END. -/
  lastMatch : Word := 0
  lastStart : Epoch32 := 0
  lastEnd : Epoch32 := 0
  /-- SCORE_READ (R485). -/
  best : Nat := 0xFFFF
  /-- The most recent feature frame of each stream, and the latched one (R485). -/
  feats : List (Epoch32 × List Nat) := List.replicate 9 (0, [])
  latched : Epoch32 × List Nat := (0, [])
  deriving DecidableEq, Repr

/-! ### Latent buffer (chapter 13) -/

/-- One latent ring. -/
structure Ring where
  /-- Entries written since it became empty (R508). -/
  total : Word := 0
  /-- The next set of the Daylight ring (R514). -/
  head : Nat := 0
  /-- The stamp of the last entry written, none while the ring is empty (R493). -/
  prev : Option Epoch32 := none
  /-- A gap, or a misphased sample, has come since the last entry (R494). -/
  gap : Bool := false
  mis : Bool := false
  frozen : Bool := false
  /-- A pending freeze: its due epoch and the RSEQ that armed it (R503). -/
  pend : Option (Epoch × Nat) := none
  /-- The next anchor entry (R493). -/
  anchor : Nat := 0
  deriving DecidableEq, Repr

/-- The Latent buffer. -/
structure Latent where
  w : Ring := {}
  d : Ring := {}
  /-- RSEQ of the next record (R514). -/
  recNext : Nat := 0
  /-- The last change to DAYLIGHT: its epoch, JOIN and FILL (R498); whether FILL and JOIN are still ahead. -/
  rate : Option (Epoch × Epoch × Epoch) := none
  preFill : Bool := false
  preJoin : Bool := false
  /-- GROUP_DELAY as it read at the JOIN block (R502). -/
  gd : Word := 0
  /-- Records written with MODE 0 that wait for a rate boundary, and stitched ones with the JOIN block
  they wait for (R504). -/
  waitRate : List Nat := []
  waitJoin : List (Nat × Epoch) := []
  deriving DecidableEq, Repr

/-! ### Print path (chapter 15) -/

/-- States of a drive channel (R560). -/
inductive DriveState where
  | off | wake | arm | ramp | play | stopWait | bath | muted
  deriving DecidableEq, Repr

/-- A stop bath (R558, R561): its ramps as length and outputs sent, the held value (none: live samples), and what follows it:
0 MUTED, 1 OFF after the dwell, or ARM, 2 OFF at the next read instant after a stage fault (R563, R589). -/
structure Bath where
  ramps : List (Nat × Nat)
  held  : Option Int
  ends  : Nat
  /-- The last output has been sent, and outputs at code 0 sent since (R560). -/
  dwell : Option Nat := none
  deriving DecidableEq, Repr

/-- The interpolator of a drive channel (R554, R571): the newest inputs of stages A and B and of the CIC, newest first, the
modulator's integrators, the codes in its pipeline, and the DAC's codes of the last tick, oldest first; none is zero current. -/
structure Interp where
  a    : List Int := []
  b    : List Int := []
  c    : List Int := []
  mod  : Int × Int := (0, 0)
  pipe : List Int := []
  dac  : List Int := []
  /-- The sum of the squares of the modulator's inputs of the last tick (R572). -/
  power : Nat := 0
  deriving DecidableEq, Repr

/-- A drive channel. -/
structure Drive where
  st : DriveState := .off
  /-- The tick at which it entered WAKE. -/
  wakeAt : Nat := 0
  /-- The read offset in link clocks (R552). -/
  offset : Nat := 6272
  /-- Samples examined for a crossing; ramp samples sent (R560, R562). -/
  cnt : Nat := 0
  k : Nat := 0
  bath : Option Bath := none
  /-- Last good gained sample (R565); the sample before the present one and the present one, for the crossing test (R562). -/
  held : Int := 0
  before : Option Int := none
  cur : Option Int := none
  /-- The epoch last read. -/
  epoch : Epoch32 := 0
  /-- A side switch has moved the count since: the reads go on with the epoch after the last one (R171, R552). -/
  behind : Bool := false
  /-- Consecutive missing or faulted epochs, the first of them, and whether any was faulted (R565). -/
  miss : Nat := 0
  missFirst : Epoch32 := 0
  missFlt : Bool := false
  /-- MUTE_CAUSE: bit 0 missing, 1 clock fault, 2 class, 3 preamble (R577). -/
  causes : Nat := 0
  /-- The judgement of the next epoch: class, preamble; it is still open (R553, R568). -/
  naClass : Bool := false
  naPre : Bool := false
  unknown : Bool := true
  /-- Clean frames, present PCM epochs and preamble-free ticks counted for the resume (R63, R565, R570). -/
  clean : Nat := 0
  pcm : Nat := 0
  free : Nat := 0
  /-- Latch-outs: ROM parity, shadow parity, clock (R49, R64), MISS_RESUME 0, parity safe state (R559). -/
  latchRom : Bool := false
  latchShadow : Bool := false
  latchClock : Bool := false
  latchMiss : Bool := false
  latchSafe : Bool := false
  /-- The missing-edge monitor put the channel in OFF, and the clean frames of R63 have not passed (R559, R566). -/
  edgeWait : Bool := false
  /-- Gain glide in units of 2^-20: start, target, sample of the glide, gain in use (R551). -/
  gFrom : Int := 0x100000
  gTo : Int := 0x100000
  gStep : Nat := 64
  gNow : Int := 0x100000
  /-- Consecutive unclamped samples (R550). -/
  unclamped : Nat := 96
  /-- The zero-cross wait of this start timed out; the start is a resume; the epoch of its first ramp sample (R574). -/
  timeout : Bool := false
  resumed : Bool := false
  rampFirst : Epoch32 := 0
  /-- The code sent to the interpolator at the last read instant, and the interpolator (R552, R554). -/
  out : Int := 0
  interp : Interp := {}
  /-- The interpolator as it stood before the last read instant, at which a resume may still send a sample (R560, R565). -/
  prior : Interp := {}
  /-- A bath has sent its last output: the DAC carries zero current until the next ramp (R558). -/
  quiet : Bool := false
  /-- Samples of a proof tone that have replaced the slot's (R572). -/
  toneAt : Nat := 0
  deriving DecidableEq, Repr

/-- The frame sample of one epoch (R178, R567): CH_EN, the CH_CTRL words and the gains. -/
structure DriveSample where
  epoch : Epoch32
  en    : Nat
  ctrls : List Word
  gains : List Nat
  deriving DecidableEq, Repr

/-- The Print path. -/
structure Print where
  drives : List Drive := List.replicate 8 {}
  /-- Recent frame samples, newest first. -/
  samples : List DriveSample := []
  /-- A PROOF_CTL value awaits the next frame start; the loop that runs: LOOP, channel, and the tick its measurement began
  (R572). -/
  loopPend : Option Word := none
  loop : Option (Nat × Nat × Option Nat) := none
  /-- Channels whose stage loop another PROOF_CTL value has ended, until they are in OFF, each with its loop's value (R573). -/
  ending : List (Nat × Word) := []
  /-- The power of the loop's measured signal so far: the sum over the samples of its tone (R572). -/
  loopPower : Nat := 0
  /-- The loop has measured, and its channel is to stop (R572). -/
  loopDone : Bool := false
  /-- PROOF_RESULT (R577). -/
  result : Half := 0x8000
  deriving DecidableEq, Repr

/-! ### Power-stage interface (chapter 16) -/

/-- The verifier's signals on one channel (R605 to R607): the gained samples it has taken, newest first, its two filters, and the sums
of d·m and d² over the window. -/
structure Verify where
  tap   : List Int := []
  dFilt : List Rat := []
  mFilt : List Rat := []
  dm    : Rat := 0
  dd    : Rat := 0
  deriving DecidableEq, Repr

/-- The stage interface of one channel. -/
structure StageCh where
  /-- FLT and IMON latches (R583). -/
  flt : Bool := false
  imon : Bool := false
  /-- Frame starts since SHDN was released, and the tick of the release; none while it is asserted (R584, R588). -/
  frames : Nat := 0
  relTick : Option Nat := none
  /-- A counted fault awaits the next read instant; its episode runs (R589). -/
  faultPend : Bool := false
  episode : Bool := false
  /-- The epoch at which the hold-off of a transient fault ends (R590). -/
  hold : Option Epoch := none
  /-- The thermal latch-out, and the epoch since which TMON has not exceeded TMON_WARN (R592). -/
  therm : Bool := false
  cool : Option Epoch := none
  /-- The epoch at which the clock stopped while the thermal latch-out stood, until a header tells how long it stopped (R612). -/
  stopAt : Option Epoch := none
  /-- Consecutive ticks above TMON_TRIP; ticks since TMON last exceeded TMON_WARN; consecutive ticks without an SWS edge (R588, R593). -/
  tripRun : Nat := 0
  below : Nat := 960
  noEdge : Nat := 0
  /-- FAULT_CAUSE (R617). -/
  cause : Nat := 0
  /-- STEER code; LOCKED, CLEAR, VALID and FREQ of the last measurement (R595, R617). -/
  code : Nat := 0
  locked : Bool := false
  clear : Bool := false
  valid : Bool := false
  freq : Nat := 0
  /-- Consecutive servo measurements within 1 kHz and beyond 2 kHz; the code stands at its limit (R597). -/
  inRun : Nat := 0
  outRun : Nat := 0
  atLimit : Bool := false
  /-- An output of the present measurement reached the idle threshold, and the steering result it began under (R595, R601). -/
  loud : Bool := false
  mMode : Nat := 0
  mFreq : Nat := 0
  /-- A measurement is in progress: an edge has come since the last was given up (R587). -/
  measuring : Bool := false
  /-- Self-verification: learned reference and its sign, G of the last judged window, a run of failures, and whether the window
  in progress may still be judged (R607 to R610). -/
  ref : Option (Int × Bool) := none
  last : Option Int := none
  failing : Bool := false
  whole : Bool := false
  verify : Verify := {}
  deriving DecidableEq, Repr

/-- A snapshot of a carrier search (R600): enabled carriers, window, mode. -/
structure Search where
  carriers : List Nat
  fMin : Nat
  fNom : Nat
  fMax : Nat
  mode : Nat
  deriving DecidableEq, Repr

/-- The power-stage interface. -/
structure Stage where
  ch : List StageCh := List.replicate 8 {}
  /-- A search in progress, and the last accepted one (R600, R602). -/
  search : Option Search := none
  snap : Option Search := none
  /-- The result in force: MODE_IN_USE, P, F_T (R617). -/
  resMode : Nat := 0
  resP : Nat := 0
  resFreq : Nat := 0
  /-- The channels of the last search's group in ascending order, and the tick at which its result came into force (R603). -/
  group : List Nat := []
  resAt : Nat := 0
  /-- In a clock fault, the link clocks from `resAt` at which the sync waveform is held (R613). -/
  held : Option Nat := none
  /-- The sense channel's newest samples, newest first (R605). -/
  mic : List Int := []
  deriving DecidableEq, Repr

/-! ### Tank (chapter 17) -/

/-- Check errors, the fog test, the secure region and the wipe engine. -/
structure Tank where
  /-- Stored check errors: Tank word, check group, double-bit (R633, R635). -/
  errs : List (Nat × Nat × Bool) := []
  /-- The fog test's region, its consecutive aborts, and where a step stands (R643, R647). -/
  region : Nat := 0x400
  aborts : Nat := 0
  phase : FogPhase := .idle
  /-- The core cycle, by the unit's own count, at which the last step began (R642). -/
  stepAt : Option Nat := none
  /-- The level of TAMPER (R712), the latch, and whether its edge has been handled (R637). -/
  tamperPin : Bool := false
  tamperLatch : Bool := false
  tamperSeen : Bool := false
  /-- A wipe is pending, is running, and its highest-numbered cause; the tamper count that its seal word will carry on (R638, R639). -/
  wipePend : Bool := false
  wiping : Bool := false
  wipeCause : Nat := 0
  sealCnt : Nat := 0
  /-- The word whose verify read last failed, and how often in a row it has (R641). -/
  verifyWord : Nat := 0
  verifyFails : Nat := 0
  /-- The region is sealed: while TAMPER stays asserted (R637), or until power-up (R641). -/
  sealPin : Bool := false
  sealFail : Bool := false
  /-- WIPE_CNT and LAST_CAUSE (R653). -/
  wipeCnt : Nat := 0
  lastCause : Nat := 0
  deriving DecidableEq, Repr

/-- The region is borrowed: from the save's end to the release (R643). -/
def Tank.borrowed (b : Tank) : Bool := b.phase == .march || b.phase == .restore

/-! ### Modes (chapter 14) -/

/-- Mode changes: power domains, resets, log hand-over. -/
structure Mode where
  /-- The steps of R523 taken, the tick of the countdown's first frame, and the domains that report power-good (R524). -/
  steps : Nat := 0
  stepStart : Option Nat := none
  good : List Bool := [false, false, false, false]
  /-- The level of HOLD (R533, R713). -/
  holdPin : Bool := false
  /-- The last reset: 0 power-up, 1 HOLD pin, 2 RESET register (R544). -/
  cause : Nat := 0
  /-- A reset request awaits the next frame start (R537). -/
  resetPend : Bool := false
  /-- The RESET entry awaits the first header (R536). -/
  resetLog : Bool := false
  /-- The log writer changes hands at the next frame start: to the Loupe, to the hardware writer (R526, R672). -/
  toLoupe : Bool := false
  toHard : Bool := false
  deriving DecidableEq, Repr

/-! ### Loupe (chapter 18) -/

/-- What the management processor shows outside. -/
structure Loupe where
  /-- Powered and running; a start is under way; it has reported ready (R526, R656). -/
  powered : Bool := false
  starting : Bool := false
  ready : Bool := false
  halted : Bool := false
  /-- The completion mark of the context record (R657). -/
  mark : Bool := false
  /-- A mailbox command in progress: OP, argument (R663). -/
  mbx : Option (Nat × Word) := none
  /-- LOUPE_STATE.PATCH: 0 none, 1 verifying, 2 active (R678). -/
  patch : Nat := 0
  /-- The verification in progress: RAISE, whether it is a re-entry, and whether its first step has failed (R665, R666). -/
  wantRaise : Bool := false
  reentry : Bool := false
  verifyLost : Bool := false
  /-- The patch is marked for re-entry (R666). -/
  marked : Bool := false
  /-- A floor fuse burns: the new floor, the tick it began, and whether the patch is to be entered (R665). -/
  floorBurn : Option (Nat × Nat × Bool) := none
  /-- An accepted lifecycle request, and the tick its burn began (R670). -/
  lifeReq : Option Nat := none
  lifeBurn : Option Nat := none
  /-- The fuses: lifecycle state, OPEN as shipped, and rollback floor (R669, R728). -/
  life : Nat := 1
  floor : Nat := 0
  /-- FRAME_LEN holds no sample since the Loupe's start (R659). -/
  lenBlank : Bool := false
  /-- The running image's fault handler runs; it is in the patch area and has faulted in turn (R673). -/
  handler : Bool := false
  wedged : Bool := false
  /-- Least and greatest readings of the 9 sensors since the strap read (R661). -/
  least : List (Option Half) := List.replicate 9 none
  greatest : List (Option Half) := List.replicate 9 none
  /-- Supplies that have left their range (R662). -/
  supplyOut : List Bool := List.replicate 5 false
  /-- Ticks all die sites have stood below TJ_WARN, ticks each site has exceeded TJ_TRIP, and the last comparator view (R662). -/
  tjBelow : Nat := 0
  tjRun : List Nat := [0, 0, 0, 0]
  tj : List Int := [0, 0, 0, 0]
  deriving DecidableEq, Repr

/-! ### The whole state -/

/-- The state of the unit. -/
structure State where
  /-- Registers that do not hold their reset value, by byte address (R227, R730). -/
  regs : List (Nat × Word) := []
  /-- Strap-loaded values, by byte address (R86, R250). -/
  strapRegs : List (Nat × Word) := []
  /-- Parity bits of registers, by byte address, as their last write set them; a register not listed holds the parity of its
  reset or strap-loaded value. Only those of M and G registers are ever checked (R249, R250). -/
  par : List (Nat × Bool) := []
  /-- For each S register, the flags set and not cleared since in the present frame (R236). -/
  sset : List (Nat × Half) := []
  /-- The S registers whose SEQ has advanced in the present cycle (R235). Empty between commands. -/
  bumped : List Nat := []
  /-- The flags of S registers that a cause has set, or found set, in the present cycle (R237, R253). Empty between commands. -/
  caused : List (Nat × Half) := []
  clk    : Clk := {}
  ident  : Ident := {}
  sideA  : LinkSide := {}
  sideB  : LinkSide := {}
  link   : Link := {}
  outA   : OutSide := {}
  outB   : OutSide := {}
  frame  : Frame := {}
  queue  : Queue := {}
  port   : Port := {}
  fixer  : Fixer := {}
  front : Front := {}
  decim : Decim := {}
  aper : Aper := {}
  mx : Mx := {}
  dev : Dev := {}
  sheet : Sheet := {}
  latent : Latent := {}
  print : Print := {}
  stage : Stage := {}
  bank : Tank := {}
  mode : Mode := {}
  loupe : Loupe := {}
  /-- Tank: bytes that do not read 0x00, by address (R618). -/
  mem : List Host.Cell := []
  /-- The model's own counter of free values used (no state of the spec). -/
  free : Nat := 0
  /-- The commands that wait, first in, first out. -/
  pending : List Instr := []
  deriving DecidableEq, Repr

/-- The state after reset: supplies good, the internal power-on reset still asserted, no command waiting. -/
def State.reset : State := {}

end Sys2Proof.Machine
end

