-- ==== Sys2Proof/Machine/Flags.lean ====
section
/-! DEFINITION. Registers as stored, and the flags of S registers (R233 to R237, R245). -/

namespace Sys2Proof.Machine

/-- The strap-loaded value of a register, or its reset value (R250, R730). -/
def State.loaded (s : State) (a : Nat) : Word :=
  match assocGet s.strapRegs a with
  | some v => v
  | none => Reg.resetOf a

/-- The stored value of a register: what was last written to it, or its strap-loaded value, or its reset value (R730). -/
def State.reg (s : State) (a : Nat) : Word :=
  match assocGet s.regs a with
  | some v => v
  | none =>
    match assocGet s.strapRegs a with
    | some v => v
    | none => Reg.resetOf a

/-- The register at `a` holding `v`, and its parity bit with it (R249). -/
def State.setReg (s : State) (a : Nat) (v : Word) : State :=
  { s with regs := assocSet s.regs a v, par := assocSet s.par a (parity v) }

/-- The guarded pair whose A word is at `a` holding `v`: its B word reads as the complement, and its parity bit fits (R243, R249). -/
def State.setPair (s : State) (a : Nat) (v : Word) : State :=
  { s.setReg a v with par := assocDel (s.setReg a v).par (a + 4) }

/-- The parity bit that the register at `a` holds (R249). -/
def State.parBit (s : State) (a : Nat) : Bool := (assocGet s.par a).getD (parity (s.loaded a))

/-- Bits `hi:lo` of a register. -/
def State.fld (s : State) (a hi lo : Nat) : Nat := bits (s.reg a) hi lo

/-- Bit `i` of a register. -/
def State.flag (s : State) (a i : Nat) : Bool := bitOf (s.reg a) i

/-- The register at `a` with the `width` bits from `lo` replaced by `v`. -/
def State.setFld (s : State) (a lo width v : Nat) : State := s.setReg a (setBits (s.reg a) lo width v)

/-- A write to an M register: bit `i` takes written bit `i` where written bit `16 + i` is 1 (R233). -/
def maskedWrite (old w : Word) : Word :=
  let mask : Word := w >>> 16
  ((old &&& ~~~mask) ||| (w &&& mask)) &&& 0xFFFF#32

/-- A counter that wraps, one up. -/
def State.countWrap (s : State) (a : Nat) : State := s.setReg a (s.reg a + 1)

/-- A counter that saturates at 0xFFFF_FFFF, one up. -/
def State.countSat (s : State) (a : Nat) : State := s.setReg a (satInc (s.reg a))

/-- A saturating counter, `n` up. -/
def State.countSatN (s : State) (a n : Nat) : State :=
  s.setReg a (BitVec.ofNat 32 (min 0xFFFFFFFF ((s.reg a).toNat + n)))

/-- Flags of an S register set with this frame's record of what has been set (R236). -/
def State.setOf (s : State) (a : Nat) : Half := (assocGet s.sset a).getD 0

/-- The flags of the S register at `a` that a cause has set, or found set, in this cycle. -/
def State.causedOf (s : State) (a : Nat) : Half := (assocGet s.caused a).getD 0

/-- SEQ of the S register at `a` advances, once in a cycle (R235). -/
def State.bumpSeq (s : State) (a : Nat) (flags : Half) : State :=
  let seq := s.fld a 23 16 + (if s.bumped.contains a then 0 else 1)
  { s.setReg a (pack [(0, 16, flags.toNat), (16, 8, seq)]) with bumped := if s.bumped.contains a then s.bumped else a :: s.bumped }

/-- A cause sets the flags `m` of the S register at `a`. A flag that is 1 and was set earlier in this frame takes no further
setting; SEQ advances once in a cycle in which any flag sets (R235, R236). -/
def State.setFlags (s : State) (a : Nat) (m : Half) : State :=
  let flags : Half := (s.reg a).truncate 16
  let new := m &&& ~~~(flags &&& s.setOf a)
  let s := { s with caused := assocSet s.caused a (s.causedOf a ||| m) }
  if new = 0 then s
  else { s.bumpSeq a (flags ||| m) with sset := assocSet s.sset a (s.setOf a ||| new) }

/-- One flag of an S register sets. -/
def State.setFlag (s : State) (a i : Nat) : State := s.setFlags a (oneHalf i)

/-- The SEQ that the S register at `a` held at the start of the present cycle (R237). -/
def State.seqBefore (s : State) (a : Nat) : Nat := (s.fld a 23 16 + (if s.bumped.contains a then 255 else 0)) % 256

/-- Whether a clear of the S register at `a` with written word `w` is accepted: its SEQ is the one held at the start of its
cycle (R237, R253). -/
def State.clearAccepted (s : State) (a : Nat) (w : Word) : Bool := bits w 23 16 == s.seqBefore a

/-- A write to an S register: with the matching SEQ the named flags clear, and may set again in this frame; a named flag that a
cause sets in the same cycle stays 1, and SEQ advances (R236, R237, R253). -/
def State.clearFlags (s : State) (a : Nat) (w : Word) : State :=
  if s.clearAccepted a w then
    let named : Half := w.truncate 16
    let stay := named &&& s.causedOf a
    let flags : Half := (s.reg a).truncate 16 &&& (~~~named ||| stay)
    let s' := if stay = 0 then s.setReg a (pack [(0, 16, flags.toNat), (16, 8, s.fld a 23 16)]) else s.bumpSeq a flags
    { s' with sset := assocSet s'.sset a ((s.setOf a &&& ~~~named) ||| stay) }
  else s

/-- A new selected-side frame: every flag may take a setting again (R236). -/
def State.newFlagFrame (s : State) : State := { s with sset := [] }

end Sys2Proof.Machine
end

