-- ==== Sys2Proof/Machine/Mem.lean ====
section
/-! DEFINITION. Tank as a sparse list of bytes (R618, R619): addresses rising, no byte that reads as an unlisted one does.
What an unlisted byte reads as is `Mem.blank` (DESIGN CHOICE, unsafe: the spec gives Tank no contents at power-up). -/

namespace Sys2Proof.Machine

/-- What a byte of Tank that nothing has written reads as. -/
def Mem.blank : Byte := 0

/-- The canonical form: addresses strictly rising and no entry equal to a blank byte. -/
def Mem.wf : List Host.Cell → Bool
  | [] => true
  | [c] => c.2 != Mem.blank
  | c :: d :: t => c.2 != Mem.blank && decide (c.1 < d.1) && Mem.wf (d :: t)

/-- The byte at an address. -/
def Mem.read : List Host.Cell → Nat → Byte
  | [], _ => Mem.blank
  | c :: t, a => if c.1 = a then c.2 else Mem.read t a

/-- Memory with byte `v` at address `a`; a blank byte is not listed. -/
def Mem.write : List Host.Cell → Nat → Byte → List Host.Cell
  | [], a, v => if v = Mem.blank then [] else [(a, v)]
  | c :: t, a, v =>
    if c.1 = a then (if v = Mem.blank then t else (a, v) :: t)
    else if a < c.1 then (if v = Mem.blank then c :: t else (a, v) :: c :: t)
    else c :: Mem.write t a v

/-- The 32-bit word at byte address `a`, least significant byte first (DEDUCED from R664 and R689). -/
def Mem.read32 (m : List Host.Cell) (a : Nat) : Word :=
  pack [(0, 8, (Mem.read m a).toNat), (8, 8, (Mem.read m (a + 1)).toNat),
    (16, 8, (Mem.read m (a + 2)).toNat), (24, 8, (Mem.read m (a + 3)).toNat)]

/-- Memory with the 32-bit word `w` at byte address `a`. -/
def Mem.write32 (m : List Host.Cell) (a : Nat) (w : Word) : List Host.Cell :=
  Mem.write (Mem.write (Mem.write (Mem.write m a (byteOf w 0)) (a + 1) (byteOf w 1)) (a + 2) (byteOf w 2)) (a + 3) (byteOf w 3)

/-- Memory with words written from byte address `a` upward. -/
def Mem.writeWords (m : List Host.Cell) (a : Nat) : List Word → List Host.Cell
  | [] => m
  | w :: ws => Mem.writeWords (Mem.write32 m a w) (a + 4) ws

/-- Memory with every byte outside the kept addresses blank: segments that lose power (R518, R534). -/
def Mem.keep (m : List Host.Cell) (p : Nat → Bool) : List Host.Cell := m.filter (fun c => p c.1)

/-- Memory with the bytes of `[a, b)` blank (a wipe, R639). -/
def Mem.erase (m : List Host.Cell) (a b : Nat) : List Host.Cell := m.filter (fun c => c.1 < a || b ≤ c.1)

/-- Memory with byte `v` at each of `n` addresses from `a` upward. -/
def Mem.fill (m : List Host.Cell) (a : Nat) : Nat → Byte → List Host.Cell
  | 0, _ => m
  | n + 1, v => Mem.fill (Mem.write m a v) (a + 1) n v

end Sys2Proof.Machine
end

