-- ==== Sys2Proof/Machine/Ops.lean ====
section
/-! DEFINITION. Operations every family shares: sides and outputs, the log's staging queue (R692, R693), the Fixer (R679 to
R686), time, and free values. -/

namespace Sys2Proof.Machine

/-! ### Sides -/

/-- The opposite side. -/
def other : Side → Side
  | .a => .b
  | .b => .a

/-- 0 for side A, 1 for side B, as every log payload and register writes it. -/
def sideNum : Side → Nat
  | .a => 0
  | .b => 1

/-- The received side `x`. -/
def State.sd (s : State) : Side → LinkSide
  | .a => s.sideA
  | .b => s.sideB

/-- The state with received side `x` changed. -/
def State.modSd (s : State) (x : Side) (f : LinkSide → LinkSide) : State :=
  match x with
  | .a => { s with sideA := f s.sideA }
  | .b => { s with sideB := f s.sideB }

/-- Output `x`. -/
def State.out (s : State) : Side → OutSide
  | .a => s.outA
  | .b => s.outB

/-- The state with output `x` changed. -/
def State.modOut (s : State) (x : Side) (f : OutSide → OutSide) : State :=
  match x with
  | .a => { s with outA := f s.outA }
  | .b => { s with outB := f s.outB }

/-! ### Time -/

/-- Clocked elements advance: running, and a link clock arrives (R33, R533). DESIGN CHOICE (log 72): that holds while either
input has edges, also where SIDE_LOCK = 1 keeps a lost input selected; the spec does not say what the divider chain does then. -/
def State.running (s : State) : Bool := s.clk.power == .up && !s.clk.stopped

/-- HOLD is asserted and a link clock arrives: the unit forwards and does nothing else (R115, R135). -/
def State.holding (s : State) : Bool := s.clk.power == .hold && !s.clk.stopped

/-- The unit acts on frames: it runs and its strap read is complete (R88). -/
def State.acting (s : State) : Bool := s.running && s.ident.done

/-- A block, numbered as Config.blockDomain numbers it, is powered: DAYLIGHT, and its domain reports power-good (R515, R524). -/
def State.blockUp (s : State) (b : Nat) : Bool :=
  s.clk.daylight && (s.mode.good.all id || nth s.mode.good (Config.blockDomain b % 4) false)

/-- The epoch's low 32 bits. -/
def State.epoch32 (s : State) : Epoch32 := s.clk.epoch.truncate 32

/-- Whether `n` ticks of the unit's own count have passed since count `t`. -/
def State.elapsed (s : State) (t n : Nat) : Bool := t + n ≤ s.clk.ticks

/-- Whether `n` epochs have passed since epoch `e` (timers of R612). -/
def State.epochElapsed (s : State) (e : Epoch) (n : Nat) : Bool := n ≤ (s.clk.epoch - e).toNat

/-- The signed difference of two 32-bit epochs, `a − b`. -/
def ediff (a b : Epoch32) : Int := sgnOf 32 (a - b).toNat

/-! ### Outcomes -/

/-- A free value: an uninterpreted word, and the counter advanced so that the next one is another. -/
def State.freeWord (s : State) : Word × State := (Config.freeWord s.free, { s with free := s.free + 1 })

/-! ### The log -/

/-- Sources of log entries (R65, R77, R142 and the log tables of every chapter). -/
abbrev Log.CLOCK  : Nat := 0x01
abbrev Log.IDENT  : Nat := 0x02
abbrev Log.LINK   : Nat := 0x03
abbrev Log.FRAME  : Nat := 0x04
abbrev Log.QUEUE  : Nat := 0x05
abbrev Log.REG    : Nat := 0x06
abbrev Log.FRONT  : Nat := 0x07
abbrev Log.DECIM  : Nat := 0x08
abbrev Log.APER   : Nat := 0x09
abbrev Log.MX     : Nat := 0x0A
abbrev Log.DEV    : Nat := 0x0B
abbrev Log.SHEET  : Nat := 0x0C
abbrev Log.LATENT : Nat := 0x0D
abbrev Log.MODE   : Nat := 0x0E
abbrev Log.PRINT  : Nat := 0x0F
abbrev Log.STAGE  : Nat := 0x10
abbrev Log.TANK   : Nat := 0x11
abbrev Log.LOUPE  : Nat := 0x12
abbrev Log.FIXER  : Nat := 0x13

/-- The codes of each source that are also events; DEV ACTIVITY and STAGE STEER_RESULT depend on more (R456, R614). -/
def Log.eventCodes : Nat → List Nat
  | 0x01 => [1, 3, 5, 6, 7, 8]
  | 0x03 => [2, 3, 4, 5]
  | 0x04 => [1]
  | 0x05 => [1, 2]
  | 0x06 => [1, 2]
  | 0x07 => [1, 2, 3]
  | 0x08 => [1, 3]
  | 0x09 => [1]
  | 0x0A => [1, 3, 4]
  | 0x0B => [3, 4, 7]
  | 0x0C => [1, 2, 3, 4]
  | 0x0D => [2, 5]
  | 0x0E => [2, 3, 4, 5]
  | 0x0F => [3, 5, 6, 7]
  | 0x10 => [1, 2, 3, 5, 6, 8]
  | 0x11 => [2, 3, 5, 6, 7]
  | 0x12 => [1, 2, 3, 4, 5, 6, 7, 8]
  | 0x13 => [1, 2]
  | _ => []

/-- Whether an entry is also posted as an event. -/
def Log.isEvent (s : State) (source code : Nat) (lo : Word) : Bool :=
  (Log.eventCodes source).contains code
  || (source == Log.DEV && code == 1 && s.flag Reg.DEV_WAKE_CFG 13)
  || (source == Log.STAGE && code == 4 && bits lo 7 0 == 3)

/-- An entry is raised with an epoch of its own (R692). -/
def State.raiseAt (s : State) (e : Epoch) (source code : Nat) (lo hi : Word) : State :=
  { s with fixer := { s.fixer with raised :=
      s.fixer.raised ++ [{ epoch := e, source, code, lo, hi, event := Log.isEvent s source code lo }] } }

/-- An entry is raised with the present epoch. -/
def State.raise (s : State) (source code : Nat) (lo : Word := 0) (hi : Word := 0) : State :=
  s.raiseAt s.clk.epoch source code lo hi

/-- An entry enters the staging queue, or is dropped where the queue holds 63: the first drop of a run takes the reserved
64th place for its LOG_DROP entry (R693). -/
def State.stageEntry (s : State) (e : LogEntry) : State :=
  if s.fixer.staged.length < 63 then { s with fixer := { s.fixer with staged := s.fixer.staged ++ [e] } }
  else
    let s := s.countSat Reg.FIXER_LOG_DROPS
    if s.fixer.dropRun then s
    else
      let s := s.setFlag Reg.FIXER_FIXER_STATUS 1
      let d : LogEntry := { epoch := s.clk.epoch, source := Log.FIXER, code := 2, lo := s.reg Reg.FIXER_LOG_DROPS, hi := 0, event := true }
      { s with fixer := { s.fixer with dropRun := true, staged := s.fixer.staged ++ [d] } }

/-- Inserts an entry after those of no greater source and code (R692). -/
def Log.insert (e : LogEntry) : List LogEntry → List LogEntry
  | [] => [e]
  | x :: t => if x.source < e.source || (x.source == e.source && x.code ≤ e.code) then x :: Log.insert e t else e :: x :: t

/-- Entries in ascending order of source and then of code; entries of one source and code keep the order they were raised in. -/
def Log.sort (l : List LogEntry) : List LogEntry := l.foldl (fun acc e => Log.insert e acc) []

/-- The end of a cycle: the entries raised in it enter the staging queue in order, and S registers may advance again. -/
def State.endCycle (s : State) : State :=
  let raised := Log.sort s.fixer.raised
  let s := { s with fixer := { s.fixer with raised := [], struck := [], freed := [], fresh := [] } }
  let s := raised.foldl State.stageEntry s
  { s with bumped := [], caused := [] }

/-! ### The Fixer -/

/-- The source of a Fixer instance (R687). -/
def Fixer.sourceOf (i : Nat) : Nat :=
  if i = 0 then Log.CLOCK else if i ≤ 2 then Log.LINK else if i = 3 then Log.FRAME else if i = 4 then Log.REG
  else if i ≤ 21 then Log.FRONT else if i = 22 then Log.DECIM else if i = 23 then Log.APER else if i = 24 then Log.MX
  else if i = 25 then Log.SHEET else if i ≤ 33 then Log.PRINT else if i ≤ 41 then Log.STAGE
  else if i = 42 then Log.TANK else Log.LOUPE

/-- N and W of an instance, in occurrences and ticks (R682). -/
def State.fixerN (s : State) (i : Nat) : Nat := s.fld (Reg.FIXER_WIN_CFG_0 + 4 * Fixer.sourceOf i) 15 12
def State.fixerW (s : State) (i : Nat) : Nat := 256 * s.fld (Reg.FIXER_WIN_CFG_0 + 4 * Fixer.sourceOf i) 11 0

/-- The epochs of a history that lie in `(t − w, t]` (R681). -/
def Fixer.inWindow (l : List Epoch) (t : Epoch) (w : Nat) : List Epoch := l.filter (fun e => (t - e).toNat < w)

/-- An instance's history. -/
def State.history (s : State) (i : Nat) : History := nth s.fixer.hist i {}

/-- The state with one history changed. -/
def State.modHistory (s : State) (i : Nat) (f : History → History) : State :=
  { s with fixer := { s.fixer with hist := modNth s.fixer.hist i f } }

/-- The epochs that an occurrence of instance `i` is judged with: those its history holds, and those it held where it has been released
in the present cycle (R681, R685). -/
def State.pastEpochs (s : State) (i : Nat) : List Epoch := ((s.history i).epochs ++ (assocGet s.fixer.freed i).getD []).take 15

/-- An occurrence of instance `i` at epoch `t` is counted: it is judged with the 15 most recent before it, its history then keeps
the 15 most recent, and the result says how many fall in the window and whether this occurrence makes the instance lasting (R680, R681,
R684). One that the window finds lasting undoes a release in the same cycle, also where the instance stands lasting already (R685). The
steps of R683 follow; the action of R687 is the caller's. -/
def State.fixerCountAt (s : State) (i : Nat) (t : Epoch) : State × Nat × Bool :=
  let h := s.history i
  let w := s.fixerW i
  let win := Fixer.inWindow (t :: s.pastEpochs i) t w
  let n := win.length
  let beyond := w != 0 && decide (s.fixerN i < n)
  let s := s.modHistory i (fun h =>
    { epochs := (t :: (if beyond then s.pastEpochs i else h.epochs)).take 15, lasting := h.lasting || beyond
      occur := min 0xFFFF (h.occur + 1) })
  let s := if beyond then { s with fixer := { s.fixer with struck := i :: s.fixer.struck } } else s
  if beyond && !h.lasting then
    let s := (s.setFlag Reg.FIXER_FIXER_STATUS 0).countSat Reg.FIXER_LASTING_COUNT
    let src := Fixer.sourceOf i
    if src = Log.CLOCK ∨ src = Log.FRONT ∨ src = Log.STAGE then (s, n, true)
    else
      (s.raiseAt t Log.FIXER 1 (ofBytes src i n 0) ((win.getLastD t).truncate 32), n, true)
  else (s, n, false)

/-- An occurrence at the present epoch. -/
def State.fixerCount (s : State) (i : Nat) : State × Nat × Bool := s.fixerCountAt i s.clk.epoch

/-- An occurrence of a source whose action is to report only (R687). -/
def State.fixerReport (s : State) (i : Nat) : State := (s.fixerCount i).1

/-- An instance stops being lasting and its history is emptied, unless an occurrence has been judged lasting in the same cycle (R685). -/
def State.fixerRelease (s : State) (i : Nat) : State :=
  if s.fixer.struck.contains i then s
  else
    let s := { s with fixer := { s.fixer with freed := assocSet s.fixer.freed i (s.history i).epochs } }
    s.modHistory i (fun h => { h with epochs := [], lasting := false })

/-- A backward jump empties every history and leaves every lasting state (R686). -/
def State.fixerEmpty (s : State) : State :=
  { s with fixer := { s.fixer with hist := s.fixer.hist.map (fun h => { h with epochs := [] }) } }

/-- A clock fault, gap or backward jump counts toward the CLOCK window; a lasting one disables drive auto-restart (R49). -/
def State.clockCount (s : State) : State :=
  let (s, n, lasting) := s.fixerCount 0
  if lasting then
    let s := (s.setFlag Reg.CHIP_CLK_STATUS 8).raise Log.CLOCK 8 (ofBytes n 0 0 0)
    { s with clk := { s.clk with autoOff := true } }
  else s

end Sys2Proof.Machine
end

