-- ==== Sys2Proof/Machine/Crc.lean ====
section
/-! DEFINITION. Check words and the header's bit map (R149, R153, R161 to R164). -/

namespace Sys2Proof.Machine

/-- One bit into CRC-16, polynomial 0x1021 (R161). -/
def crc16Step (crc : Half) (b : Bool) : Half :=
  let fb := crc.getLsbD 15 != b
  let sh := crc <<< 1
  if fb then sh ^^^ 0x1021#16 else sh

/-- One bit into CRC-32, polynomial 0x04C1_1DB7 (R161). -/
def crc32Step (crc : Word) (b : Bool) : Word :=
  let fb := crc.getLsbD 31 != b
  let sh := crc <<< 1
  if fb then sh ^^^ 0x04C11DB7#32 else sh

/-- CRC-16 of covered bits, lowest frame bit first (R161). -/
def crc16 (bs : List Bool) : Half := bs.foldl crc16Step 0xFFFF#16

/-- CRC-32 of covered bits (R161). -/
def crc32 (bs : List Bool) : Word := bs.foldl crc32Step 0xFFFFFFFF#32 ^^^ 0xFFFFFFFF#32

/-- The bits of a value of `n` bits, least significant first (R149). -/
def bitsLsb {w : Nat} (v : BitVec w) : List Bool := (List.range w).map v.getLsbD

/-- The bits of a run of words. -/
def wordsBits (ws : List Word) : List Bool := ws.flatMap bitsLsb

/-- The bits of a run of show samples. -/
def samplesBits (ss : List Sample) : List Bool := ss.flatMap bitsLsb

/-- The number whose bits are given, least significant first (R149). -/
def bitsNat (bs : List Bool) : Nat := bs.foldr (fun b n => b2n b + 2 * n) 0

/-- A check sent over changed bits: the computed value where the received check was valid, else the poisoned one (R163). -/
def sendCheck16 (c : Half) (valid : Bool) : Half := if valid then c else c ^^^ 1#16
def sendCheck32 (c : Word) (valid : Bool) : Word := if valid then c else c ^^^ 1#32

/-! ### The header (R153) -/

def Hdr.faw (h : BitVec 416) : Nat := (h.extractLsb' 0 8).toNat
def Hdr.void (h : BitVec 416) : Bool := h.getLsbD 8
def Hdr.wrapped (h : BitVec 416) : Bool := h.getLsbD 9
def Hdr.enumActive (h : BitVec 416) : Bool := h.getLsbD 10
def Hdr.enumDir (h : BitVec 416) : Bool := h.getLsbD 11
def Hdr.enumNext (h : BitVec 416) : Nat := (h.extractLsb' 12 8).toNat
def Hdr.rcTarget (h : BitVec 416) : Nat := (h.extractLsb' 20 2).toNat
def Hdr.rcCount (h : BitVec 416) : Nat := (h.extractLsb' 22 8).toNat
def Hdr.epoch (h : BitVec 416) : Epoch32 := h.extractLsb' 32 32
def Hdr.classes (h : BitVec 416) : BitVec 64 := h.extractLsb' 64 64

/-- The class of show block `b` (R153, R158). -/
def classOf (c : BitVec 64) (b : Nat) : Nat := (c.toNat >>> (2 * b)) % 4

/-- The bits a header check covers (R162). -/
def Hdr.covered (daylight : Bool) (h : BitVec 416) : List Bool :=
  if daylight then bitsLsb (h.extractLsb' 8 392) else bitsLsb (h.extractLsb' 8 72)

/-- The header check as it stands in the header. -/
def Hdr.check (daylight : Bool) (h : BitVec 416) : Half := if daylight then h.extractLsb' 400 16 else h.extractLsb' 80 16

/-- Whether the header check is valid. -/
def Hdr.checkOk (daylight : Bool) (h : BitVec 416) : Bool := Hdr.check daylight h == crc16 (Hdr.covered daylight h)

/-- A header with `v` in its `width` bits from `lo`. -/
def Hdr.put (h : BitVec 416) (lo width v : Nat) : BitVec 416 :=
  (h &&& ~~~(BitVec.ofNat 416 (place lo width (2 ^ width - 1)))) ||| BitVec.ofNat 416 (place lo width v)

/-- A header with its check computed anew, poisoned where `valid` is false (R163). -/
def Hdr.recheck (daylight : Bool) (h : BitVec 416) (valid : Bool) : BitVec 416 :=
  let c := (sendCheck16 (crc16 (Hdr.covered daylight h)) valid).toNat
  if daylight then Hdr.put h 400 16 c else Hdr.put h 80 16 c

/-- The header of a void frame: FAW, VOID = 1, every other bit 0, the check poisoned (R164). -/
def Hdr.voidFrame (daylight : Bool) : BitVec 416 := Hdr.recheck daylight (BitVec.ofNat 416 0x147) false

/-- A header of which the covered bits `bits` were sent before the frame was filled as void: the FAW, those bits, zeros, and the
check poisoned (R164). `bits` counts from frame bit 0. -/
def Hdr.cut (daylight : Bool) (bits : List Bool) : BitVec 416 :=
  Hdr.recheck daylight (Hdr.put (BitVec.ofNat 416 (bitsNat (bits.take (if daylight then 400 else 80)))) 0 8 0x47) false

/-! ### Frame shapes (R150, R151) -/

/-- Frame length in link clocks. -/
def frameLen (daylight : Bool) : Nat := if daylight then 8192 else 192

/-- Ticks a frame spans: the step of EPOCH from frame to frame (R156). -/
def frameTicks (daylight : Bool) : Nat := if daylight then 1 else 6

/-- Bits of the header, and slots of the show field. -/
def headerBits (daylight : Bool) : Nat := if daylight then 416 else 96
def showSlots (daylight : Bool) : Nat := if daylight then 1024 else 0

/-- Words of the listen, register and event fields. -/
def listenWords (daylight : Bool) : Nat := if daylight then 192 else 11
def registerWords (daylight : Bool) : Nat := if daylight then 32 else 4
def eventWords (daylight : Bool) : Nat := if daylight then 16 else 4

end Sys2Proof.Machine
end

