-- ==== Sys2Proof/Machine/Link.lean ====
section
/-! DEFINITION. Clewa link: forwarding, frame lock, wraps, training, delay tracking and link proof loops (R108 to R148). -/

namespace Sys2Proof.Machine

/-! ### Training frames and bits on the wire (R111, R112, R123) -/

/-- The frame alignment word (R112). -/
def fawWord : BitVec 8 := 0x47#8

/-- The bit a PRBS-15 generator sends, x^15 + x^14 + 1: its register holds r[i] in bit i − 1 (R123). -/
def prbsOut (r : BitVec 15) : Bool := r.getLsbD 14 != r.getLsbD 13

/-- The generator after a lane-bit period (R123). -/
def prbsNext (r : BitVec 15) : BitVec 15 := (r <<< 1) ||| (if prbsOut r then 1#15 else 0#15)

/-- The bits of `n` lane-bit periods from register `r` on. -/
def prbsRun : Nat → BitVec 15 → List Bool
  | 0, _ => []
  | n + 1, r => prbsOut r :: prbsRun n (prbsNext r)

/-- Lane-bit periods of a frame (R111). -/
def lanePeriods (daylight : Bool) : Nat := 2 * frameLen daylight

/-- What either lane of a training frame carries from lane-bit period 4 on: the generator reloaded with all ones (R123). -/
def trainingLane (daylight : Bool) : List Bool := prbsRun (lanePeriods daylight - 4) (BitVec.allOnes 15)

/-- A training frame: the FAW, then both lanes' sequences, lane 0 in the even frame bits (R111, R123). -/
def trainingFrame (daylight : Bool) : List Bool := bitsLsb fawWord ++ (trainingLane daylight).flatMap (fun b => [b, b])

/-- The bit errors of what a lane brought from lane-bit period 4 of a training frame on: what TICK and FRAME_START report of a
lane's PRBS (R125, R127, R140). -/
def prbsErrorsIn (daylight : Bool) (got : List Bool) : Nat := ((got.zip (trainingLane daylight)).filter (fun p => p.1 != p.2)).length

/-- The frame bit that a lane carries in a lane-bit period (R111). -/
def frameBit (lane period : Nat) : Nat := 2 * period + lane

/-- The link clock a lane-bit period belongs to, and whether its rising edge samples it (R111). -/
def laneClock (period : Nat) : Nat × Bool := (period / 2, period % 2 == 0)

/-- The lanes inverted in the 8 bits found at a marker, where they are the FAW: lane 0 carries its even bits (R112, R113). -/
def fawInverted (v : BitVec 8) : Option (Bool × Bool) :=
  if v = fawWord then some (false, false)
  else if v = fawWord ^^^ 0x55#8 then some (true, false)
  else if v = fawWord ^^^ 0xAA#8 then some (false, true)
  else if v = fawWord ^^^ 0xFF#8 then some (true, true)
  else none

/-- A frame start as side `d`'s receiver finds it: under lock the FAW stands in the polarity found at acquisition; while it
searches, in any (R112, R113, R118, R121). -/
def LinkSide.marker (d : LinkSide) (i : FrameIn) : FrameIn :=
  match fawInverted i.bits with
  | none => { i with faw := .missing }
  | some v => if d.lock && i.faw == .expected && v != (d.inv0, d.inv1) then { i with faw := .missing } else i

/-! ### Outputs -/

/-- The words of a field of `n` words of which the first bits were sent, zeros after them (R164). -/
def cutWords (w n : Nat) (bits : List Bool) : List (BitVec w) :=
  (List.range n).map (fun k => BitVec.ofNat w (bitsNat ((bits.drop (w * k)).take w)))

/-- Every part of a void frame: zeros, every check poisoned (R164). -/
def OutSide.voidFrame (d : Bool) : OutSide :=
  { sent := 5
    void := true
    day := d
    header := Hdr.voidFrame d
    shows := List.replicate (showSlots d) 0
    showCheck := sendCheck32 (crc32 (samplesBits (List.replicate (showSlots d) 0))) false
    listen := List.replicate (listenWords d) 0
    listenCheck := sendCheck32 (crc32 (wordsBits (List.replicate (listenWords d) 0))) false
    register := List.replicate (registerWords d) 0
    registerCheck := sendCheck16 (crc16 (wordsBits (List.replicate (registerWords d) 0))) false
    event := List.replicate (eventWords d) 0
    eventCheck := sendCheck16 (crc16 (wordsBits (List.replicate (eventWords d) 0))) false }

/-- A frame filled as void from part way through: parts already sent stay, the part in progress keeps the covered bits `bits`
already sent and is 0 from there on with its check poisoned, and what follows is as in a void frame (R130, R164). -/
def OutSide.voidRest (bits : List Bool) (o : OutSide) : OutSide :=
  let d := o.day
  let z := OutSide.voidFrame d
  let k := if !d && o.sent == 1 then 2 else o.sent
  let sh : List Sample := cutWords 24 (showSlots d) bits
  let li : List Word := cutWords 32 (listenWords d) bits
  let rg : List Word := cutWords 32 (registerWords d) bits
  let ev : List Word := cutWords 32 (eventWords d) bits
  { sent := 5
    void := true
    day := d
    header := if k = 0 then Hdr.cut d bits else o.header
    shows := if k < 1 then z.shows else if k = 1 then sh else o.shows
    showCheck := if k < 1 then z.showCheck else if k = 1 then sendCheck32 (crc32 (samplesBits sh)) false else o.showCheck
    listen := if k < 2 then z.listen else if k = 2 then li else o.listen
    listenCheck := if k < 2 then z.listenCheck else if k = 2 then sendCheck32 (crc32 (wordsBits li)) false else o.listenCheck
    register := if k < 3 then z.register else if k = 3 then rg else o.register
    registerCheck := if k < 3 then z.registerCheck else if k = 3 then sendCheck16 (crc16 (wordsBits rg)) false else o.registerCheck
    event := if k < 4 then z.event else if k = 4 then ev else o.event
    eventCheck := if k < 4 then z.eventCheck else if k = 4 then sendCheck16 (crc16 (wordsBits ev)) false else o.eventCheck }

/-- What the output changes of a part goes out, unless the frame is void (R164). -/
def OutSide.part (f : OutSide → OutSide) (o : OutSide) : OutSide := if o.void then o else f o

/-- Part number `k` of the frame goes out, unless the frame is void (R164). -/
def OutSide.send (k : Nat) (f : OutSide → OutSide) (o : OutSide) : OutSide := o.part (fun o => { f o with sent := k })

/-- The bits of an output's frame in frame-bit order, the parts sent so far (R149 to R151, R123). -/
def OutSide.frameBits (o : OutSide) : List Bool :=
  let d := o.day
  if o.training then trainingFrame d
  else (bitsLsb o.header).take (headerBits d) ++ samplesBits o.shows ++ (if d then bitsLsb o.showCheck else [])
    ++ wordsBits o.listen ++ bitsLsb o.listenCheck ++ wordsBits o.register ++ bitsLsb o.registerCheck
    ++ wordsBits o.event ++ bitsLsb o.eventCheck

/-- A pad loop or a lane loop on side `y` (R137). -/
def State.outOfService (s : State) : Bool :=
  match s.link.loop with | some (n, _, _) => n == 1 || n == 2 | none => false

/-- Output `y` has a clock: from the 16th link clock on, while an input clock arrives, and not opposite a pad or lane loop;
without one it holds a steady differential low (R115, R133, R138). -/
def State.outClocked (s : State) (y : Side) : Bool :=
  s.link.forwarding && !s.clk.stopped
    && (match s.link.loop with | some (n, x, _) => !((n == 1 || n == 2) && other x == y) | none => true)

/-- The clock of output `y` is its opposite input's; else it is the one of its own side's input (R109, R130, R137). -/
def State.outFromOpposite (s : State) (y : Side) : Bool :=
  match s.link.loop with
  | some (2, x, _) => x != y
  | _ => !(s.sd (other y)).resourced && s.link.wrap != some (other y)

/-- What lane `lane` of output `y` carries in lane-bit period `p` of the frame on it, in true polarity (R111, R113, R123). -/
def State.laneOut (s : State) (y : Side) (lane p : Nat) : Bool :=
  s.outClocked y && nth (s.out y).frameBits (frameBit lane p) false

/-- Output `y` carries the copy received on side `x`: the opposite output (R109) unless it is re-sourced or carries a wrap's
turned-back copy (R130), both outputs of the surviving side of a wrap, and none in a pad or lane loop (R138). -/
def State.feeds (s : State) (x y : Side) : Bool :=
  s.link.forwarding && !s.outOfService
    && (if x = y then s.link.wrap == some (other x) else !(s.sd x).resourced && s.link.wrap != some x)

/-- The outputs that carry side `x`'s copy change. -/
def State.modFed (s : State) (x : Side) (f : OutSide → OutSide) : State :=
  let s' := if s.feeds x .a then s.modOut .a f else s
  if s.feeds x .b then s'.modOut .b f else s'

/-- Part `k` of the copy received on side `x` goes on, as `f` changes it; in a lane loop it goes back out of side X as it came,
`raw` (R109, R130, R137). -/
def State.forward (s : State) (x : Side) (k : Nat) (f raw : OutSide → OutSide) : State :=
  match s.link.loop with
  | some (2, y, _) => if x = y then s.modOut y (OutSide.send k raw) else s
  | _ => s.modFed x (OutSide.send k f)

/-- The outputs that carry side `x`'s copy send a void frame in place of the one that was missed (R118, R122, R164). -/
def State.voidOut (s : State) (x : Side) : State := s.modFed x (fun _ => OutSide.voidFrame s.clk.daylight)

/-- The outputs that carry side `x`'s copy fill the rest of their frame as void; the unit's own training frames are no copy
(R124, R130, R164). -/
def State.voidFill (s : State) (x : Side) (bits : List Bool) : State :=
  if s.link.training.isSome then s else s.modFed x (fun o => if o.void then o else o.voidRest bits)

/-- Whether the frame loop replaces field `fieldNo` of the copy that leaves side `y`: with the straps read, and frame lock on both
inputs, the one looped and the one whose copy is changed (R116, R137). DESIGN CHOICE (log 107): it replaces the field of a copy
whose WRAPPED is 1 too; R131 and R137 do not say which prevails. -/
def State.frameLooped (s : State) (y : Side) (fieldNo : Nat) : Bool :=
  match s.link.loop with
  | some (3, z, f) => z == y && f == fieldNo && s.acting && s.sideA.lock && s.sideB.lock
  | _ => false

/-- A field received on side `x` goes on; under a frame loop it also replaces the same field of the copy leaving side X, as
received, and that copy's own field stays behind (R137). -/
def State.forwardField (s : State) (x : Side) (fieldNo : Nat) (f raw : OutSide → OutSide) : State :=
  let s := s.forward x (fieldNo + 2) (if s.frameLooped (other x) fieldNo then id else f) raw
  if s.frameLooped x fieldNo then s.modOut x (OutSide.part raw) else s

/-! ### Frame start: the FAW and frame lock (R112, R118, R121, R122, R129) -/

/-- The inversions found with a marker (R113). -/
def markerInv (i : FrameIn) : Bool × Bool := (fawInverted i.bits).getD (false, false)

/-- A frame start on side `x` under frame lock; a missing or moved FAW costs the lock, and the search begins at once (R62,
R122). -/
def LinkSide.lockedStart (i : FrameIn) (d : LinkSide) : LinkSide :=
  match i.faw with
  | .expected => { d with faw := true, misses := 0, fawRun := 0, hdrValid := false, void := false, wrapped := false }
  | .missing =>
    { d with faw := false, misses := d.misses + 1, validRun := 0, hdrValid := false, void := false, wrapped := false
             lock := false, relock := true, fawRun := 0, foundInv := none }
  | .moved =>
    { d with faw := false, misses := d.misses + 1, validRun := 0, hdrValid := false, void := false, wrapped := false
             lock := false, relock := true, fawRun := 1, foundInv := some (markerInv i) }

/-- While a side searches, whether the FAW is absent from the position of the lock it held. A FAW found there again, whether it comes as
the first of the search or after markers at a new position, starts a run of its own, in which `misses` stays 0 (R122, R129, R148). -/
def LinkSide.searchMiss (i : FrameIn) (d : LinkSide) : Bool :=
  match i.faw with
  | .expected => d.fawRun != 0 && d.misses != 0
  | .moved => !(d.fawRun != 0 && d.misses != 0 && i.back)
  | .missing => true

/-- A frame start on side `x` while it searches: `expected` is the FAW one frame length after the one before it, or, with no
FAW before it, at the position of the lock the side held. -/
def LinkSide.searchStart (i : FrameIn) (d : LinkSide) : LinkSide :=
  let d := { d with faw := false, hdrValid := false, void := false, wrapped := false, validRun := 0
                    misses := if d.relock then (if d.searchMiss i then d.misses + 1 else 0) else d.misses }
  match i.faw with
  | .expected => { d with fawRun := d.fawRun + 1, foundInv := some (markerInv i) }
  | .missing => { d with fawRun := 0 }
  | .moved => { d with fawRun := 1, foundInv := some (markerInv i) }

/-- The FAW_MISS counter of a side (R148). -/
def Reg.fawMiss : Side → Nat
  | .a => Reg.LINK_FAW_MISS_A
  | .b => Reg.LINK_FAW_MISS_B

/-- A void frame goes out in place of the one whose FAW was missed, and until the relock (R118, R122); a missing FAW is
counted (R148). After an unannounced rate change frames pass as received (R62). -/
def State.fawMissed (s : State) (x : Side) (counted : Bool) : State :=
  let s := if counted then s.countWrap (Reg.fawMiss x) else s
  if s.ident.done && !s.clk.rateBad then s.voidOut x else s

/-- The frame that begins on an output which carries the copy of frame start `i`: of the unit's own format, or under HOLD of the
format that arrives, as the length of the frame before it shows (R115, R135). -/
def State.newFrame (s : State) (i : FrameIn) (o : OutSide) : OutSide :=
  { training := i.training
    day := if !s.holding then s.clk.daylight else if i.len = 0 then o.day else i.len == frameLen true }

/-- The outputs at a frame start on side `x`: those that carry its copy begin a frame; a lane loop's begins one as it came; a
re-sourced output, which follows this side's clock, sends its next void frame (R130, R137). -/
def State.outStart (s : State) (x : Side) (i : FrameIn) : State :=
  match s.link.loop with
  | some (2, y, _) => if x = y then s.modOut y (s.newFrame i) else s
  | _ =>
    let s := s.modFed x (s.newFrame i)
    if (s.sd (other x)).resourced && !s.feeds x x && s.link.forwarding && !s.outOfService then
      s.modOut x (fun o => OutSide.voidFrame (s.newFrame i o).day)
    else s

/-- The output that carried side `x`'s copy returns to that side's own clock at a frame start on it, once the side is neither lost nor
down: with the lock it held regained, or where it holds none and forwards while it acquires. DEDUCED (log 130): a side declared down
before it ever held lock keeps its void frames until it takes lock; R130 names no other end, and prevails over R115. -/
def State.restoreOut (s : State) (x : Side) (i : FrameIn) : State :=
  s.modSd x (fun d => { d with resourced := d.resourced
    && (d.lost || d.down || s.link.wrap == some x || (d.held && !(d.lock && i.faw == .expected))) })

/-- The link's part of FRAME_START outside training: lock, misses, void frames, and the output returned to a restored side's
clock (R130). DESIGN CHOICE (log 108): once a side is declared down, FAW_MISS counts no further miss of it until it has held lock
again; R148 does not say. -/
def State.linkFrameStart (s : State) (x : Side) (i : FrameIn) : State :=
  let d := s.sd x
  let s := s.modSd x (fun d => { d with epoch := d.epoch + BitVec.ofNat 32 (frameTicks s.clk.daylight) })
  let s := (s.restoreOut x i).outStart x i
  let voids := if d.lock then i.faw != .expected else d.held
  let s := s.modSd x (if d.lock then LinkSide.lockedStart i else LinkSide.searchStart i)
  if voids then s.fawMissed x (d.lock || (d.relock && d.searchMiss i)) else s

/-- PRBS-15 bit errors of a training frame on a loop's input count (R140). -/
def State.countProof (s : State) (x : Side) (i : FrameIn) : State :=
  match s.link.loop with
  | some (n, y, _) =>
    if x = y ∧ (n = 1 ∨ i.training ∨ s.link.training.isSome) then s.countSatN Reg.LINK_PROOF_ERRORS i.prbsErrors else s
  | none => s

/-- Corrected inversions as LINK_STATE bits 9:6 and the POLARITY payload carry them (R142, R146). -/
def State.invBits (s : State) : Nat :=
  b2n s.sideA.inv0 + 2 * b2n s.sideA.inv1 + 4 * b2n s.sideB.inv0 + 8 * b2n s.sideB.inv1

/-- Frame lock is taken on side `x`; `how` is 0 acquisition, 1 relock, 2 training (R113, R121, R122, R142). DESIGN CHOICE (log
79): the side stops being down here, also while a wrap at it still stands; the spec does not say when DOWN clears. -/
def State.takeLock (s : State) (x : Side) (how : Nat) : State :=
  let inv := ((s.sd x).foundInv).getD ((s.sd x).inv0, (s.sd x).inv1)
  let fresh := (s.sd x).foundInv.isSome && (inv.1 || inv.2)
  let s := s.modSd x (fun d => { d with lock := true, relock := false, held := true, down := false, misses := 0, fawRun := 0
                                        inv0 := inv.1, inv1 := inv.2, foundInv := none })
  let s := s.raise Log.LINK 1 (ofBytes (sideNum x) how 0 0)
  if fresh then (s.setFlag Reg.LINK_LINK_STATUS 7).raise Log.LINK 6 (ofBytes s.invBits 0 0 0) else s

/-- The header's end on a side that searches: with 3 markers (2 to relock) and a header whose check is valid, lock, whatever its
VOID bit says (R121, R122). -/
def State.tryLock (s : State) (x : Side) (hdrOk : Bool) : State :=
  let d := s.sd x
  if !d.lock && hdrOk && (if d.relock then 2 ≤ d.fawRun else 3 ≤ d.fawRun) then s.takeLock x (if d.relock then 1 else 0)
  else s

/-- Frame lock is given up on side `x` and acquisition starts anew (R121). -/
def State.dropLock (s : State) (x : Side) : State :=
  s.modSd x (fun d => { d with lock := false, relock := false, held := false, fawRun := 0, misses := 0, validRun := 0, faw := false, hdrValid := false })

/-! ### Losing and regaining an input (R19 to R22, R129 to R133) -/

/-- The 4-edge loss of a clock input (R19): the output it fed is re-clocked and the rest of its frame filled as void (R130),
and the divider chain moves to the other input where this one is selected and SIDE_LOCK is 0 (R20, R21, R65). Frame lock falls
only with a missing FAW (R122) or the side's declaration as down (R129). DESIGN CHOICE (log 72): with SIDE_LOCK 1 the unit goes
on as if the selected input still clocked it, and a later SIDE_LOCK 0 causes no switch by itself; the spec says neither. DESIGN CHOICE
(log 102): two switches before one valid selected-side header have one SIDE_SWITCH entry, written at that header; R21 does not say
whether each has its own. -/
def State.clockLost (s : State) (x : Side) (bits : List Bool) : State :=
  if (s.sd x).lost then s
  else
    let s := s.voidFill x bits
    let s := s.modSd x (fun d => { d with lost := true, resourced := true })
    let s := { s with clk := match x with | .a => { s.clk with edgeA := false } | .b => { s.clk with edgeB := false } }
    if s.clk.side = x ∧ !s.flag Reg.CHIP_CLK_CFG 1 then
      if s.running then
        let s := s.setFlag Reg.CHIP_CLK_STATUS 4
        { s with clk := { s.clk with side := other x, switched := true } }
      else { s with clk := { s.clk with side := other x } }
    else s

/-- Edges return on a clock input; a stopped unit runs again from the first edge (R33, R130). -/
def State.clockReturn (s : State) (x : Side) : State :=
  let s := s.modSd x (fun d => { d with lost := false })
  { s with clk := match x with
    | .a => { s.clk with edgeA := true, stopped := false }
    | .b => { s.clk with edgeB := true, stopped := false } }

/-- The FAW misses that declare a side down; 0 acts as 1 (R129, R144). -/
def State.lostFrames (s : State) : Nat := max 1 (s.fld Reg.LINK_LINK_CFG 7 4)

/-- A side is declared down (R129, R133, R142, R687). -/
def State.declareDown (s : State) (x : Side) (byClock : Bool) : State :=
  let s := s.modSd x (fun d => { d with down := true, lock := false, relock := false, fawRun := 0, faw := false, hdrValid := false, validRun := 0 })
  let s := (s.setFlag Reg.LINK_LINK_STATUS (sideNum x)).raise Log.LINK 2 (ofBytes (sideNum x) (b2n (!byClock)) 0 0)
  let s := s.fixerReport (1 + (sideNum x))
  if s.link.wrap = some (other x) then { s with link := { s.link with wrap := none } } else s

/-- Whether SIDE_DOWN's condition holds: 32 edges without this side's clock, or LOST_FRAMES missing FAWs (R129). -/
def State.mayGoDown (s : State) (x : Side) (byClock : Bool) : Bool :=
  !(s.sd x).down && (if byClock then (s.sd x).lost else !(s.sd x).lost && s.lostFrames ≤ (s.sd x).misses)

/-- The side a wrap would turn at: down, while the other holds frame lock, with wrapping allowed (R130). -/
def State.wrapDue (s : State) : Option Side :=
  if s.flag Reg.LINK_LINK_CFG 2 || s.link.wrap.isSome then none
  else if s.sideA.down && !s.sideB.down && s.sideB.lock then some .a
  else if s.sideB.down && !s.sideA.down && s.sideA.lock then some .b
  else none

/-- The unit wraps at down side `y` (R130, R142). -/
def State.startWrap (s : State) (y : Side) : State :=
  let s := { s with link := { s.link with wrap := some y } }
  let s := (s.setFlag Reg.LINK_LINK_STATUS (2 + (sideNum y))).countWrap Reg.LINK_WRAP_COUNT
  s.raise Log.LINK 3 (ofBytes (sideNum y) 0 0 0)

/-- Whether the wrap ends: its down side has held lock with valid headers for UNWRAP_HOLD × 16 frames (0: never), outside a
clock fault (R132). -/
def State.unwrapDue (s : State) (y : Side) : Bool :=
  let hold := s.fld Reg.LINK_LINK_CFG 15 8
  (s.sd y).lock && hold != 0 && decide (16 * hold ≤ (s.sd y).validRun) && !s.clk.fault

/-- The unit unwraps at the restored side (R132). -/
def State.endWrap (s : State) (y : Side) : State :=
  let s := { s with link := { s.link with wrap := none } }
  let s := s.modSd y (fun d => { d with resourced := false })
  (s.setFlag Reg.LINK_LINK_STATUS 4).raise Log.LINK 4 (ofBytes (sideNum y) 0 0 0)

/-! ### Delay lines, training (R123 to R128) -/

/-- The side of lane `l`, lanes being A0, A1, B0, B1. -/
def laneSide (l : Nat) : Side := if l < 2 then .a else .b

/-- The delay step of lane `l`. -/
def State.delay (s : State) (l : Nat) : Nat :=
  let d := s.sd (laneSide l)
  if l % 2 = 0 then d.delay0 else d.delay1

/-- Lane `l` at delay step `v`. -/
def State.setDelay (s : State) (l v : Nat) : State :=
  s.modSd (laneSide l) (fun d => if l % 2 = 0 then { d with delay0 := v } else { d with delay1 := v })

/-- One tracking move of lane `l`; a lane at step 0 or 63 stays there (R128). -/
def State.trackLane (s : State) (l : Nat) (m : LaneMove) : State :=
  let d := s.delay l
  if d = 0 ∨ d = 63 ∨ !(s.sd (laneSide l)).lock then s
  else
    let d' := match m with | .stay => d | .up => d + 1 | .down => d - 1
    let s := s.setDelay l d'
    if d' = 0 ∨ d' = 63 then (s.setFlag Reg.LINK_LINK_STATUS 8).raise Log.LINK 7 (ofBytes l d' 0 0) else s

/-- The longest run of consecutive numbers in an ascending list, the first of equal length: its lowest step and length.
`lo`, `len` is the run being counted, `bLo`, `bLen` the best so far. -/
def longestRun : List Nat → Nat → Nat → Nat → Nat → Nat × Nat
  | [], lo, len, bLo, bLen => if bLen < len then (lo, len) else (bLo, bLen)
  | n :: t, lo, len, bLo, bLen =>
    if len != 0 && n == lo + len then longestRun t lo (len + 1) bLo bLen
    else if bLen < len then longestRun t n 1 lo len
    else longestRun t n 1 bLo bLen

/-- The step a scanned lane moves to: the centre of its longest error-free run, rounding down; 32 with no such step. -/
def centreStep (good : List Nat) : Nat :=
  let r := longestRun good 0 0 0 0
  if r.2 = 0 then 32 else r.1 + (r.2 - 1) / 2

/-- Training begins at a rate boundary: both outputs send the unit's own training frames (R123, R124). -/
def State.startTraining (s : State) : State :=
  let t : Training := { start := s.clk.ticks, good := [[], [], [], []], bad := [false, false, false, false],
                        centred := false, failedA := false, failedB := false }
  { s with link := { s.link with training := some t }
           outA := { training := true, day := s.clk.daylight }, outB := { training := true, day := s.clk.daylight } }

/-- Length of the training interval (R124). -/
def trainTicks (daylight : Bool) : Nat := if daylight then 128 else 48

/-- A tick of training: the scan's record, or the confirmation (R125, R127). `n` is the tick's number from the boundary. -/
def Training.tick (t : Training) (daylight : Bool) (n : Nat) (ok : List Bool) : Training :=
  if daylight then
    if 16 ≤ n ∧ n ≤ 79 then { t with good := t.good.zipIdx.map (fun p => if nth ok p.2 false then p.1 ++ [n - 16] else p.1) }
    else if 84 ≤ n ∧ n ≤ 127 then { t with bad := t.bad.zipIdx.map (fun p => p.1 || !nth ok p.2 false) }
    else t
  else if 12 ≤ n ∧ n ≤ 47 then { t with bad := t.bad.zipIdx.map (fun p => p.1 || !nth ok p.2 false) }
  else t

/-- The step the lanes stand at while they scan, in tick `n` of training: step n − 16 in ticks 16 to 79 (R125). -/
def scanStep (n : Nat) : Option Nat := if 16 ≤ n ∧ n ≤ 79 then some (n - 16) else none

/-- Every lane moves to the step of the scan (R125, R148). -/
def State.scanLanes (s : State) (n : Nat) : State :=
  match scanStep n with
  | some v => (List.range 4).foldl (fun s l => s.setDelay l v) s
  | none => s

/-- A training frame whose FAW is missing at the counted position, in ticks 12 to 47 after a change to SAFELIGHT, fails both
lanes of its side (R127). -/
def Training.missFaw (t : Training) (n : Nat) (x : Side) : Training :=
  if 12 ≤ n ∧ n ≤ 47 then { t with bad := t.bad.zipIdx.map (fun p => p.1 || p.2 / 2 == sideNum x) } else t

/-- FRAME_START in training: the FAW's check at the counted position (R127). DESIGN CHOICE (log 109): FAW_MISS does not count a
training frame's missing FAW; R148 does not say whether it does. -/
def State.trainFrame (s : State) (x : Side) (i : FrameIn) : State :=
  match s.link.training with
  | some t =>
    if !s.clk.daylight && i.faw != .expected then
      { s with link := { s.link with training := some (t.missFaw (s.clk.ticks - t.start) x) } }
    else s
  | none => s

/-- A side fails training: flag, entry with its failed lanes, acquisition (R126). -/
def State.trainFail (s : State) (x : Side) (lanes : Nat) : State :=
  let s := (s.setFlag Reg.LINK_LINK_STATUS (5 + (sideNum x))).raise Log.LINK 5 (ofBytes (sideNum x) lanes 0 0)
  s.dropLock x

/-- Lanes of side `x` at which `p` holds, as bits 1:0. -/
def laneBits (x : Side) (p : Nat → Bool) : Nat := b2n (p (2 * (sideNum x))) + 2 * b2n (p (2 * (sideNum x) + 1))

/-- The end of the scan: every lane moves to its centre, and a side with a lane that found no step fails (R125, R126). -/
def State.trainCentre (s : State) (t : Training) : State :=
  let s := (List.range 4).foldl (fun s l => s.setDelay l (centreStep (nth t.good l []))) s
  let none' := fun l => (nth t.good l []).isEmpty
  let fA := laneBits .a none'
  let fB := laneBits .b none'
  let s := if fA = 0 then s else s.trainFail .a fA
  let s := if fB = 0 then s else s.trainFail .b fB
  { s with link := { s.link with training := some { t with centred := true, failedA := fA != 0, failedB := fB != 0 } } }

/-- The end of training on one side: lock held at the counted position, or failure (R125 to R127, R142). -/
def State.trainEndSide (s : State) (t : Training) (x : Side) : State :=
  let already := match x with | .a => t.failedA | .b => t.failedB
  let f := laneBits x (fun l => nth t.bad l false)
  if already then s
  else if f != 0 then s.trainFail x f
  else s.takeLock x 2

/-! ### Link proof loops (R137 to R141) -/

/-- What an output sends from the start or end of a loop or of a training interval on: the unit's own training frames in the
interval and out of side X of a pad loop, a void frame while it is re-sourced, else the frame that arrives next (R124, R130,
R137). -/
def State.outResume (s : State) (y : Side) : OutSide :=
  let day := s.clk.daylight
  if s.link.training.isSome then { training := true, day := day }
  else match s.link.loop with
  | some (1, x, _) => { training := x == y, day := day }
  | some (2, _, _) => { day := day }
  | _ => if (s.sd (other y)).resourced then OutSide.voidFrame day else { day := day }

/-- A pending PROOF_CTL value starts its loop at a frame start; a starting loop clears PROOF_ERRORS. In a pad loop side X sends
the unit's own training frames (R137, R148). DESIGN CHOICE (log 122): a loop started over a running one takes its place, and the side
that leaves the old loop acquires no lock anew; R141 speaks of a loop that ends, and the spec does not say whether this one does. -/
def State.startLoop (s : State) : State :=
  match s.link.loopPend with
  | none => s
  | some w =>
    let y : Side := if bitOf w 2 then .b else .a
    let n := bits w 1 0
    let s := { s with link := { s.link with loopPend := none } }
    if n = 0 then s
    else
      let s := (s.setReg Reg.LINK_PROOF_ERRORS 0).setPair Reg.LINK_PROOF_CTL_A w
      let s := { s with link := { s.link with loop := some (n, y, bits w 5 4) } }
      if n = 3 then s else { s with outA := s.outResume .a, outB := s.outResume .b }

/-- A loop ends: the affected side acquires lock anew and the outputs return to forwarding (R137, R141). DESIGN CHOICE (log 105):
the side that a pad or lane loop affects is side X, whose input it took, and a frame loop affects none; the spec does not name
them. -/
def State.endLoop (s : State) : State :=
  match s.link.loop with
  | none => { s with link := { s.link with loopPend := none } }
  | some (n, y, _) =>
    let s := { s with link := { s.link with loop := none, loopPend := none } }
    if n = 3 then s
    else
      let s := s.dropLock y
      { s with outA := s.outResume .a, outB := s.outResume .b }

end Sys2Proof.Machine
end

