-- ==== Sys2Proof/Machine/Header.lean ====
section
/-! DEFINITION. The header of a copy: its check, frame lock, enumeration, forwarding, slot classes and COPY_SKEW (R92 to R94,
R113, R120 to R122, R131, R157, R158, R165, R185), and the epoch's comparison and adoption (R24 to R28, R32, R37, R42, R47). -/

namespace Sys2Proof.Machine

/-- The unit's 12-bit address (R89). -/
def State.unitAddr (s : State) : Nat := s.ident.group * 256 + s.ident.position

/-- The 48-bit epoch nearest the unit's own whose low half is `e`. -/
def State.fullEpoch (s : State) (e : Epoch32) : Epoch := s.clk.epoch + BitVec.ofInt 48 (ediff e s.epoch32)

/-- The failed-check counter of a side (R187). -/
def Reg.checkErr : Side → Nat
  | .a => Reg.FRAME_CHECK_ERR_A
  | .b => Reg.FRAME_CHECK_ERR_B

/-- A check of part `part` (0 header, 1 show, 2 listen, 3 register, 4 event) failed on side `x` (R184, R185, R187). -/
def State.checkFailed (s : State) (x : Side) (part : Nat) : State :=
  (s.setFlag Reg.FRAME_FRAME_STATUS (2 * part + sideNum x)).countWrap (Reg.checkErr x)

/-! ### Enumeration (R92 to R94) -/

/-- The unit takes a position from a wave. -/
def State.takePosition (s : State) (p : Nat) : State :=
  let was := s.ident.position
  let s := { s with ident := { s.ident with position := p } }
  if was = 0 ∧ p ≠ 0 then s.setFlag Reg.CHIP_ID_STATUS 9 else s

/-- A wave from port A: the state, and the ENUM_NEXT sent on (R92). -/
def State.waveA (s : State) (next : Nat) : State × Nat :=
  if next = 0 then (s, 0)
  else if next = 0xFF then
    let s := s.setFlag Reg.CHIP_ID_STATUS 10
    ((if s.ident.locked then s else s.takePosition 0), 0xFF)
  else ((if s.ident.locked then s else s.takePosition next), next + 1)

/-- A wave from port B (R93). -/
def State.waveB (s : State) (next : Nat) : State × Nat :=
  let s := if 1 ≤ next ∧ next ≤ 0xFE ∧ s.ident.position = 0 ∧ !s.ident.locked then s.takePosition next else s
  (s, next - 1)

/-- What a valid header's enumeration field does on side `x`: the state and the header sent on (R92 to R94, R157, R163). -/
def State.enumerate (s : State) (x : Side) (h : BitVec 416) : State × BitVec 416 :=
  let active := Hdr.enumActive h
  match x with
  | .a =>
    if active && !Hdr.enumDir h then
      let (s, n) := s.waveA (Hdr.enumNext h)
      (s, if n = Hdr.enumNext h then h else Hdr.recheck s.clk.daylight (Hdr.put h 12 8 n) true)
    else (s, h)
  | .b =>
    if active && Hdr.enumDir h then
      let (s, n) := s.waveB (Hdr.enumNext h)
      (s, if n = Hdr.enumNext h then h else Hdr.recheck s.clk.daylight (Hdr.put h 12 8 n) true)
    else (s, h)

/-- The header of the copy a wrapping unit turns back: WRAPPED = 1, and the received header where it reads 1 already or where
the unit may not change bits (R116, R130, R157, R163). -/
def State.turnedHeader (s : State) (x : Side) (h : BitVec 416) (valid : Bool) : BitVec 416 :=
  if s.acting && (s.sd x).lock && !Hdr.wrapped h then Hdr.recheck s.clk.daylight (Hdr.put h 9 1 1) valid else h

/-- A header goes on: `raw` as received, `h` as enumeration leaves it, and turned back under a wrap (R130, R157). -/
def State.forwardHeader (s : State) (x : Side) (raw h : BitVec 416) (valid : Bool) : State :=
  let s := s.forward x 1 (fun o => { o with header := h }) (fun o => { o with header := raw })
  if s.feeds x x then s.modOut x (OutSide.part (fun o => { o with header := s.turnedHeader x h valid })) else s

/-! ### Slot classes and copy skew -/

/-- The lowest block with the reserved class in a header, if any (R158). -/
def reservedBlock (c : BitVec 64) : Option Nat := (List.range 32).find? (fun b => classOf c b == 3)

/-- The lower of two block numbers. -/
def lowerBlock : Option Nat → Option Nat → Option Nat
  | some a, some b => some (min a b)
  | some a, none => some a
  | none, b => b

/-- The CLASS_RSVD run takes an epoch whose copies have all been seen: the entry of a run that ends is written (R180). -/
def State.classEpoch (s : State) (c : ClassSeen) : State :=
  let s := { s with frame := { s.frame with classDone := some c.epoch } }
  match c.block, s.frame.classRun with
  | some b, none => { s with frame := { s.frame with classRun := some ⟨s.fullEpoch c.epoch, 1, b, c.epoch⟩ } }
  | some b, some r =>
    if c.epoch = r.last + 1 then { s with frame := { s.frame with classRun := some { r with len := r.len + 1, last := c.epoch } } }
    else
      let s := s.raiseAt r.first Log.FRAME 3 (ofBytes r.info 0 0 0) 0
      { s with frame := { s.frame with classRun := some ⟨s.fullEpoch c.epoch, 1, b, c.epoch⟩ } }
  | none, some r =>
    let s := s.raiseAt r.first Log.FRAME 3 (ofBytes r.info 0 0 0) 0
    { s with frame := { s.frame with classRun := none } }
  | none, none => s

/-- An epoch's copies have all been seen: both, or the one copy there is while the other side has no lock. -/
def State.classWhole (s : State) (c : ClassSeen) : Bool := (c.gotA || !s.sideA.lock) && (c.gotB || !s.sideB.lock)

/-- Epochs whose copies have all been seen are judged, in order (R180). -/
def State.settleClasses (s : State) : List ClassSeen → State
  | [] => { s with frame := { s.frame with classes := [] } }
  | c :: t =>
    if s.classWhole c || decide (8 ≤ t.length) then (s.classEpoch c).settleClasses t
    else { s with frame := { s.frame with classes := c :: t } }

/-- A copy's classes join the record of their epoch; an epoch already judged takes no more. -/
def noteClasses (x : Side) (e : Epoch32) (b : Option Nat) (done : Option Epoch32) (l : List ClassSeen) : List ClassSeen :=
  let old : Bool := match done with
    | some d => decide (ediff e d ≤ 0)
    | none => false
  if old then l
  else if l.any (fun c => c.epoch == e) then
    l.map (fun c => if c.epoch = e then
      { c with gotA := c.gotA || x == .a, gotB := c.gotB || x == .b, block := lowerBlock c.block b } else c)
  else l ++ [⟨e, x == .a, x == .b, b⟩]

/-- The classes of a valid header of epoch `e`: the flag at each header that carries the reserved class, and the run over
epochs, whichever copy comes first (R158, R180). -/
def State.classRun (s : State) (x : Side) (e : Epoch32) (c : BitVec 64) : State :=
  let b := reservedBlock c
  let s := if b.isSome then s.setFlag Reg.FRAME_FRAME_STATUS 15 else s
  s.settleClasses (noteClasses x e b s.frame.classDone s.frame.classes)

/-- The copy of epoch `e` that travels the ring's own way has come on side `x`, its header valid under frame lock: a turned-back
copy is the other side's (R120, R130). -/
def State.ownCopyCame (s : State) (x : Side) (e : Epoch32) : Bool :=
  (s.sd x).hdrs.any (fun h => h.epoch == e && h.ok && h.framed && !h.wrapped)

/-- COPY_SKEW is measured at the second header of one epoch, with lock on both sides and both headers valid, however many frames
lie between the copies (R120, R148). -/
def State.measureSkew (s : State) (x : Side) (e : Epoch32) (skew : BitVec 24) : State :=
  if s.sideA.lock && s.sideB.lock && (s.sd x).hdrValid && !(s.sd x).wrapped && s.ownCopyCame (other x) e then
    { s with link := { s.link with skew := skew, skewValid := true } }
  else s

/-- OTHER_EARLY of the epoch whose selected-side header ends: the other side's copy of it has come already (R186). -/
def State.noteEarly (s : State) (x : Side) : State :=
  { s with frame := { s.frame with otherEarly := (s.sd (other x)).hdrs.any (fun h => h.epoch == (s.sd x).epoch && h.ok && h.framed) } }

/-- The link's part of HEADER_END on side `x`. The result says whether the header counts as a valid header of its side: its
check valid, VOID 0, the FAW in its first 8 bits, and frame lock held or taken at it (R46, R121, R122, R165, R166). -/
def State.linkHeader (s : State) (x : Side) (h : BitVec 416) (skew : BitVec 24) : State × Bool :=
  let d := s.clk.daylight
  let crc := Hdr.checkOk d h
  let ok := crc && !Hdr.void h
  let faw := Hdr.faw h == fawWord.toNat
  let framed := (s.sd x).lock && (s.sd x).faw && faw
  let e := if ok then Hdr.epoch h else (s.sd x).epoch
  let s := s.modSd x (fun sd => { sd with
    hdrValid := ok && framed
    void := Hdr.void h
    wrapped := ok && Hdr.wrapped h
    epoch := e
    classes := if d then Hdr.classes h else 0
    hdrs := (⟨e, ok, framed, crc, ok && Hdr.wrapped h⟩ :: sd.hdrs).take 32
    validRun := if ok && framed then sd.validRun + 1 else 0 })
  let s := if framed && Hdr.void h then (s.setFlag Reg.FRAME_FRAME_STATUS (10 + sideNum x)).countWrap Reg.FRAME_VOID_COUNT
    else if framed && !crc then s.checkFailed x 0 else s
  let s := s.tryLock x (crc && faw)
  let valid := ok && (s.sd x).lock && (framed || !(s.sd x).faw)
  let act := s.acting && framed && ok && !Hdr.wrapped h
  let (s, h') := if act then s.enumerate x h else (s, h)
  let s := s.forwardHeader x h h' crc
  let s := if s.acting && framed && ok && d then s.classRun x e (Hdr.classes h) else s
  (s.measureSkew x e skew, valid)

/-! ### The epoch (R24 to R28, R32, R37) -/

/-- The class of a header epoch against the unit's own count (R27). -/
inductive EpochDiff where
  | same
  | forward (n : Nat)
  | back (n : Nat)
  deriving DecidableEq, Repr

/-- R27: the difference modulo 2^32. -/
def epochDiff (own h : Epoch32) : EpochDiff :=
  let d := (h - own).toNat
  if d = 0 then .same else if d < 2 ^ 31 then .forward d else .back (2 ^ 32 - d)

/-- Bits 47:32 after adoption of header epoch `h` (R26). -/
def adoptHi (own : Epoch) (h : Epoch32) : BitVec 16 :=
  let lo : Epoch32 := own.truncate 32
  let hi : BitVec 16 := own.extractLsb' 32 16
  match epochDiff lo h with
  | .same => hi
  | .forward _ => if h < lo then hi + 1 else hi
  | .back _ => if lo < h then hi - 1 else hi

/-- The show epochs from the one after `last` up to `e`, where `e` follows it by at most 4 (R171, R735). -/
def epochsUpTo (last e : Epoch32) : List Epoch32 := (List.range (e - last).toNat).map (fun k => last + 1 + BitVec.ofNat 32 k)

/-- Show epoch `e` becomes due: once, and with any epoch since the last one that a side switch has passed over (R171). -/
def Frame.addDue (f : Frame) (e : Epoch32) : Frame :=
  match f.lastDue with
  | none => { f with due := f.due ++ [e], lastDue := some e }
  | some l =>
    let d := ediff e l
    if decide (-4 ≤ d) && decide (d ≤ 0) then f
    else if decide (1 ≤ d) && decide (d ≤ 5) then { f with due := f.due ++ epochsUpTo l e, lastDue := some e }
    else { f with due := f.due ++ [e], lastDue := some e }

/-- The channel reads samples: in OFF and WAKE no epoch is read (R552, R562). -/
def DriveState.reads : DriveState → Bool
  | .off => false
  | .wake => false
  | _ => true

/-- A side switch has moved the count: a channel that reads goes on with the epoch after its last (R171). -/
def Drive.slip (d : Drive) : Drive := { d with behind := d.st.reads }

/-- Every record of the present frame that its own count `fe` named takes the adopted epoch `h`: the masks and drive controls
sampled for it, its due show decision, and the channels' place in the order of epochs. After a side switch an epoch already due
stays due, and none is due or read twice (R171, R178, R552, R735). -/
def State.rekey (s : State) (fe h : Epoch32) (switch : Bool) : State :=
  let f := { s.frame with masks := s.frame.masks.map (fun m => if m.1 = fe then (h, m.2) else m) }
  let f :=
    if !s.clk.daylight || fe == h then f
    else if switch then
      if decide (0 < ediff h fe) then f.addDue h
      else if f.due.contains fe then { f with due := f.due.filter (· != fe), lastDue := some (fe - 1) }.addDue h
      else f
    else { f with due := f.due.filter (· != fe) ++ [h], lastDue := some h }
  let drives := if switch && fe != h then s.print.drives.map Drive.slip
    else s.print.drives.map (fun d => { d with behind := d.behind && fe == h })
  { s with frame := f
           print := { s.print with samples := s.print.samples.map (fun p => if p.epoch = fe then { p with epoch := h } else p)
                                   drives := drives } }

/-- The epoch is renumbered by `d`, at a backward jump or with a new EPOCH_HI: what has run of a stage's restart timers stands (R29, R32,
R612). -/
def StageCh.shift (d : Epoch) (c : StageCh) : StageCh :=
  { c with hold := c.hold.map (· + d), cool := c.cool.map (· + d), stopAt := c.stopAt.map (· + d) }

/-- The same of every channel. -/
def State.shiftStages (s : State) (d : Epoch) : State :=
  { s with stage := { s.stage with ch := s.stage.ch.map (StageCh.shift d) } }

/-- The unit adopts a header epoch (R26, R28). A wrap forward sets EPOCH_WRAP. The records of the present frame take the adopted
value; the stages' restart timers, which count epochs, go on over a backward jump from where they stand (R612). -/
def State.adopt (s : State) (h : Epoch32) (switch : Bool := false) : State :=
  let lo := s.epoch32
  let new : Epoch := adoptHi s.clk.epoch h ++ h
  let wrapped := match epochDiff lo h with | .forward _ => decide (h < lo) | _ => false
  let s := s.rekey (s.clk.frameEpoch.truncate 32) h switch
  let s := match epochDiff lo h with | .back _ => s.shiftStages (new - s.clk.epoch) | _ => s
  let s := { s with clk := { s.clk with epoch := new, frameEpoch := new } }
  if wrapped then s.setFlag Reg.CHIP_CLK_STATUS 6 else s

/-- The epoch counts one tick; a wrap of bits 31:0 increments bits 47:32 and sets EPOCH_WRAP (R23, R26). -/
def State.advanceEpoch (s : State) : State :=
  let s' := { s with clk := { s.clk with epoch := s.clk.epoch + 1 } }
  if s'.epoch32 = 0 then s'.setFlag Reg.CHIP_CLK_STATUS 6 else s'

/-- A forward difference is recorded as a gap (R37, R65). `own` is the count before adoption. -/
def State.recordGap (s : State) (n : Nat) (own : Epoch32) : State :=
  let s := (s.setReg Reg.CHIP_GAP_LAST (BitVec.ofNat 32 n)).countWrap Reg.CHIP_GAP_COUNT
  (s.setFlag Reg.CHIP_CLK_STATUS 0).raise Log.CLOCK 1 (BitVec.ofNat 32 n) own

/-- A backward jump: EPOCH_BACK, and every Fixer history emptied before the jump itself counts (R32, R65, R686, R700); what is
kept in epoch order begins anew. -/
def State.recordBack (s : State) (n : Nat) : State :=
  let s := (s.setFlag Reg.CHIP_CLK_STATUS 7).raise Log.CLOCK 7 (BitVec.ofNat 32 n)
  let s := s.fixerEmpty
  let s := (s.setFlag Reg.FIXER_FIXER_STATUS 2).raise Log.FIXER 3 (BitVec.ofNat 32 n)
  let s := { s with frame := { s.frame with classes := [], classDone := none, regAt := s.epoch32 } }
  s.clockCount

/-! ### Clock faults (R42 to R49) -/

/-- A clock fault begins; one that is in progress is one fault (R42, R49, R65). -/
def State.beginFault (s : State) (measured : Nat) : State :=
  if s.clk.fault then s
  else
    let s := { s with clk := { s.clk with fault := true } }
    let s := (s.setFlag Reg.CHIP_CLK_STATUS 1).countWrap Reg.CHIP_CLK_FAULTS
    let s := s.raise Log.CLOCK 2 (BitVec.ofNat 32 measured) (BitVec.ofNat 32 (frameLen s.clk.daylight))
    s.clockCount

/-- The clock's part of a selected-side FRAME_START: the frame's length is judged. `held`: a marker is due, which it is from the
first lock on, and an error is a clock fault; `first`: no marker stood one frame length before this one (R42, R44, R46, R47).
DESIGN CHOICE (log 74): where no length is measured, the FAW being missing, the entry repeats the length last measured. DESIGN
CHOICE (log 103): no marker is due before the first lock of a search that begins anew, at the start, after failed training or a
loop's end; R42 does not say from when on one is. -/
def State.clockFrameStart (s : State) (i : FrameIn) (held first : Bool) : State :=
  let nominal := frameLen s.clk.daylight
  let bad := i.faw != .expected || (i.len != 0 && i.len != nominal)
  let measured := if i.faw == .missing || i.len == 0 then s.clk.lastLen else i.len
  let lenErr :=
    if !bad then 0
    else if i.faw == .missing then s.clk.lenErr
    else if measured == frameLen (!s.clk.daylight) then s.clk.lenErr + 1 else 0
  let s := { s with clk := { s.clk with lastLen := measured, exact := !bad && !first, lenErr := lenErr } }
  if !bad || !held then s
  else
    let s := { s with clk := { s.clk with faultFrames := s.clk.faultFrames + 1, cleanFrames := 0 } }
    let s := s.beginFault measured
    if 4 ≤ lenErr ∧ !s.clk.rateBad then
      let s := { s with clk := { s.clk with rateBad := true } }
      (s.setFlag Reg.CHIP_CLK_STATUS 2).raise Log.CLOCK 3 (BitVec.ofNat 32 measured)
    else s

/-- Both copies of one frame have arrived with a header whose CRC fails, whatever VOID says (R42, R164). -/
def State.bothBad (s : State) (x : Side) : Bool :=
  match (s.sd x).hdrs with
  | h :: _ => !h.crc && (s.sd (other x)).hdrs.any (fun p => p.epoch == h.epoch && !p.crc)
  | _ => false

/-- A clock fault ends, the sync waveform goes on, and the 256 ticks after it begin (R46, R62, R613). -/
def State.endFault (s : State) : State :=
  { s with clk := { s.clk with fault := false, settle := some s.clk.ticks }, stage := { s.stage with held := none }
           sheet := { s.sheet with faultUntil := some (s.clk.ticks + 256) } }

end Sys2Proof.Machine
end

