-- ==== Sys2Proof/Machine/TankMap.lean ====
section
/-! DEFINITION. Tank's map (R618 to R623), plain word accesses by space-0 address, their check errors (R633 to R635), and the fog-test step that
such an access aborts (R645, R647). -/

namespace Sys2Proof.Machine

/-! ### Areas by space-0 WADDR (R620, R621, R689) -/

abbrev Tank.secureEnd : Nat := 0x4000
abbrev Tank.log : Nat := 0x4000
abbrev Tank.cmdRing : Nat := 0x8000
abbrev Tank.replyRing : Nat := 0x8400
abbrev Tank.eventRing : Nat := 0x8800
abbrev Tank.ringsEnd : Nat := 0x8840
abbrev Tank.watchAnchors : Nat := 0x8840
abbrev Tank.dayAnchors : Nat := 0x88A0
abbrev Tank.records : Nat := 0x8900
abbrev Tank.chanWindow : Nat := 0x9000
abbrev Tank.beamWindow : Nat := 0x9800
abbrev Tank.lpWindow : Nat := 0x9C00
abbrev Tank.capture : Nat := 0xA000
abbrev Tank.loupeWork : Nat := 0xB000
abbrev Tank.watchRing : Nat := 0x10000
abbrev Tank.templates : Nat := 0x20000
abbrev Tank.dayRing : Nat := 0x60000
abbrev Tank.patch : Nat := 0x160000
abbrev Tank.words : Nat := 0x180000

/-- The 32-bit word at a space-0 address. -/
def State.tank (s : State) (w : Nat) : Word := Mem.read32 s.mem (4 * w)

/-! ### Check errors (R633 to R635) -/

/-- A TANK log entry about Tank word `word`, check group `group`, met by a requester of rank `rank` (R650). -/
def State.eccEntry (s : State) (code word group rank : Nat) : State :=
  s.raise Log.TANK code (ofBytes (word % 256) (word / 256 % 256) (word / 65536) group) (ofBytes rank 0 0 0)

/-- CE_ADDR and UE_ADDR (R653). -/
def eccAddr (word group rank : Nat) : Word := pack [(28, 4, rank), (24, 2, group), (0, 18, word)]

/-- A corrected error is met: counter, CE_ADDR, flag, and an entry where the place differs from the one CE_ADDR held (R633). -/
def State.noteCe (s : State) (word group rank : Nat) : State :=
  let old := s.reg Reg.TANK_CE_ADDR
  let same := bits old 31 28 != 0 && bits old 17 0 == word && bits old 25 24 == group
  let s := ((s.countSat Reg.TANK_CE_COUNT).setReg Reg.TANK_CE_ADDR (eccAddr word group rank)).setFlag Reg.TANK_TANK_STATUS 0
  if same then s else s.eccEntry 1 word group rank

/-- An uncorrectable error is met: counter, UE_ADDR, flag, entry, and one occurrence of source TANK (R635). -/
def State.noteUe (s : State) (word group rank : Nat) : State :=
  let s := ((s.countSat Reg.TANK_UE_COUNT).setReg Reg.TANK_UE_ADDR (eccAddr word group rank)).setFlag Reg.TANK_TANK_STATUS 1
  (s.eccEntry 2 word group rank).fixerReport 42

/-- The stored check error of a check group, if any; the flag says it is a double-bit error (R633, R635). -/
def State.eccOf (s : State) (word group : Nat) : Option Bool :=
  (s.bank.errs.find? (fun e => e.1 == word && e.2.1 == group)).map (·.2.2)

/-- The stored check error of the group of a space-0 word. -/
def State.eccAt (s : State) (w : Nat) : Option Bool := s.eccOf (w / 8) (w % 8 / 2)

/-- A check group stores fresh check bits. -/
def State.eccClear (s : State) (word group : Nat) : State :=
  { s with bank := { s.bank with errs := s.bank.errs.filter (fun e => !(e.1 == word && e.2.1 == group)) } }

/-- A requester of rank `rank` reads a check group: a stored error is met; the result says whether it is uncorrectable. -/
def State.eccRead (s : State) (word group rank : Nat) : State × Bool :=
  match s.eccOf word group with
  | none => (s, false)
  | some false => (s.noteCe word group rank, false)
  | some true => (s.noteUe word group rank, true)

/-! ### The end of a fog-test step (R643, R645, R647) -/

/-- The first and last regions of a pass (R642). -/
abbrev Fog.first : Nat := 0x400
abbrev Fog.last : Nat := 0x17FFF

/-- The next region; the last one ends a pass (R642). -/
def State.fogNext (s : State) : State :=
  let s := { s with bank := { s.bank with aborts := 0, phase := .idle
                                          region := if s.bank.region = Fog.last then Fog.first else s.bank.region + 1 } }
  if s.bank.region = Fog.first then (s.countWrap Reg.TANK_FOG_PASSES).setFlag Reg.TANK_TANK_STATUS 3 else s

/-- Fresh check bits in both words of a borrowed region, and its release: a restore (R643). -/
def State.fogRestore (s : State) : State :=
  let w := 2 * s.bank.region
  let errs := s.bank.errs.filter (fun e => !(s.bank.borrowed && (e.1 == w || e.1 == w + 1)))
  { s with bank := { s.bank with phase := .idle, errs := errs } }

/-- The region is skipped for this pass: 0 eight aborts, 1 an uncorrectable save (R647). -/
def State.fogSkip (s : State) (why : Nat) : State :=
  let r := s.bank.region
  let s := (s.countSat Reg.TANK_FOG_SKIPS).raise Log.TANK 4 (ofBytes (r % 256) (r / 256 % 256) (r / 65536) why)
  s.fogNext

/-- A step aborts: the region is restored and tried again, or skipped at the eighth consecutive abort (R645, R647). -/
def State.fogAbort (s : State) : State :=
  let s := s.fogRestore
  let n := s.bank.aborts + 1
  if 8 ≤ n then s.fogSkip 0 else { s with bank := { s.bank with aborts := n } }

/-- A request to a word of a borrowed region aborts the step before it is served (R645). -/
def State.fogYield (s : State) (word : Nat) : State :=
  if s.bank.borrowed && word / 2 == s.bank.region then s.fogAbort else s

/-- The unit's own reads of some space-0 words (R645). -/
def State.fogReads (s : State) (ws : List Nat) : State := ws.foldl (fun s w => s.fogYield (w / 8)) s

/-- The unit's own reads of the `n` space-0 words from `w` on (R645). -/
def State.fogSpan (s : State) (w n : Nat) : State :=
  if s.bank.borrowed && decide (w ≤ 16 * s.bank.region + 15) && decide (16 * s.bank.region < w + n) then s.fogAbort else s

/-! ### Ring entries (R191, R621) -/

/-- Fields of command and GRANT headers (R191, R192). -/
def pktTag (h : Word) : Nat := bits h 27 24
def pktUnit (h : Word) : Nat := bits h 23 12
def pktReg (h : Word) : Nat := bits h 11 0

/-- Commands that are answered, and bursts (R191, R199). -/
def isTagged (op : Nat) : Bool := op == 1 || op == 2 || op == 4 || op == 5
def isBurst (op : Nat) : Bool := op == 4 || op == 5 || op == 6

/-- COUNT of a burst (R191). -/
def Cmd.n (c : Cmd) : Nat := bits c.count 4 0

/-- A burst that addresses IX_DATA in every word (R200). -/
def Cmd.toIx (c : Cmd) : Bool := Reg.canonical (pktReg c.hdr) == Reg.CHIP_IX_DATA

/-- A burst is malformed in a field of this format (R200). -/
def Cmd.malformed (c : Cmd) (daylight : Bool) : Bool :=
  c.n == 0 || decide ((if daylight then 30 else 2) < c.n) || (!c.toIx && decide (256 < pktReg c.hdr % 256 + c.n))

/-- Word `j` of a command's entry holds `v`. A command that is being executed has been read but for its data (R202). -/
def Cmd.setWord (day begun : Bool) (j : Nat) (v : Word) (c : Cmd) : Cmd :=
  let at_ := if isBurst (bits c.hdr 31 28) then 2 else 1
  let c' := if at_ ≤ j then { c with data := c.data.set (j - at_) v } else c
  if begun then c'
  else
    let c' := if j = 0 then { c' with hdr := v } else if j = 1 then { c' with count := v } else c'
    if 1 < j then c' else { c' with bad := isBurst (bits c'.hdr 31 28) && c'.malformed day }

/-- Word `j` of a reply's entry holds `v`. -/
def Reply.setWord (j : Nat) (v : Word) (r : Reply) : Reply := if j = 0 then { r with hdr := v } else { r with data := r.data.set (j - 1) v }

/-- An event's word holds `v`, but for the address, which is added as it goes out (R216). -/
def Event.setWord (v : Word) (e : Event) : Event := { e with lseq := bits v 19 16, source := bits v 15 8, code := bits v 7 0 }

/-- Space-0 word `w` has been written with `v` by another than the ring's own work: the entry it lies in, if one stands there, goes on
with that word (R629). DESIGN CHOICE (log 114): an entry keeps its number of words. -/
def State.ringWrite (s : State) (w : Nat) (v : Word) : State :=
  let q := s.queue
  if w < Tank.cmdRing ∨ Tank.ringsEnd ≤ w then s
  else if w < Tank.replyRing then
    let k := (w - Tank.cmdRing) / 32
    let j := (w - Tank.cmdRing) % 32
    let cmd := fun (begun : Bool) (c : Cmd) => if c.slot = k then c.setWord s.clk.daylight begun j v else c
    { s with queue := { q with
        cmds := match q.cmds with | [] => [] | c :: cs => cmd q.running c :: cs.map (cmd false)
        aborts := q.aborts.map (fun a => if a.slot = k ∧ !a.waiting ∧ j = 0 then { a with tag := pktTag v } else a) } }
  else if w < Tank.eventRing then
    let k := (w - Tank.replyRing) / 32
    { s with queue := { q with replies := q.replies.map (fun r => if r.slot = k then r.setWord ((w - Tank.replyRing) % 32) v else r) } }
  else { s with queue := { q with events := q.events.map (fun e => if e.slot = w - Tank.eventRing then e.setWord v else e) } }

/-- The state with space-0 word `w` holding `v`, whichever area it lies in. -/
def State.putWord (s : State) (w : Nat) (v : Word) : State := { s with mem := Mem.write32 s.mem (4 * w) v }.ringWrite w v

/-! ### Words -/

/-- The rank of the requester that writes a space-0 word in the unit's own work (R628). -/
def writerRank (w : Nat) : Nat :=
  if w < Tank.log then 2
  else if w < Tank.cmdRing then 7
  else if Tank.beamWindow ≤ w ∧ w < Tank.lpWindow then 5
  else if (Tank.templates ≤ w ∧ w < Tank.dayRing) ∨ Tank.patch ≤ w then 6
  else 1

/-- The other lane of a space-0 word's check group. -/
def pairLane (w : Nat) : Nat := if w % 2 = 0 then w + 1 else w - 1

/-- A requester of rank `rank` writes one lane: it merges with the other lane of its check group and stores fresh check bits; an
uncorrectable other lane is stored as 0 (R634). A step that borrows the word aborts first (R645). -/
def State.storeLane (s : State) (rank w : Nat) (v : Word) : State :=
  let s := s.fogYield (w / 8)
  match s.eccAt w with
  | none => { s with mem := Mem.write32 s.mem (4 * w) v }
  | some double =>
    let (s, _) := s.eccRead (w / 8) (w % 8 / 2) rank
    let s := s.eccClear (w / 8) (w % 8 / 2)
    let s := if double then s.putWord (pairLane w) 0 else s
    { s with mem := Mem.write32 s.mem (4 * w) v }

/-- The state with a 32-bit word of Tank written by the unit's own work. -/
def State.setTank (s : State) (w : Nat) (v : Word) : State := s.storeLane (writerRank w) w v

/-- The state with words of Tank written one lane at a time. -/
def State.setLanes (s : State) (w : Nat) : List Word → State
  | [] => s
  | v :: vs => (s.setTank w v).setLanes (w + 1) vs

/-- Check groups that a write of `n` words from `w` covers whole store fresh check bits (R634). -/
def State.freshGroups (s : State) (w n : Nat) : State :=
  let whole := fun (e : Nat × Nat × Bool) => decide (w ≤ 8 * e.1 + 2 * e.2.1) && decide (8 * e.1 + 2 * e.2.1 + 1 < w + n)
  { s with bank := { s.bank with errs := s.bank.errs.filter (fun e => !whole e) } }

/-- The state with consecutive words of Tank written. -/
def State.setTankWords (s : State) (w : Nat) (vs : List Word) : State := (s.freshGroups w vs.length).setLanes w vs

/-- A word as Aperture and MX read it: 0, which is not valid, where its check group is uncorrectable (R635, R378, R405). -/
def State.windowWord (s : State) (w : Nat) : Word := if s.eccAt w = some true then 0 else s.tank w

/-- The power segment of a space-0 address (R619). -/
def segmentOf (w : Nat) : Nat := w / 0x8000

/-- The window word of channel `k`'s output stamped `b` (R622). -/
def chanWindowAddr (k : Nat) (b : Epoch) : Nat := Tank.chanWindow + 128 * k + b.toNat / 2 % 128
/-- The window word of beam `n`'s output stamped `b`. -/
def beamWindowAddr (n : Nat) (b : Epoch) : Nat := Tank.beamWindow + 128 * n + b.toNat / 2 % 128
/-- The window word of the low-power output stamped `b`. -/
def lpWindowAddr (b : Epoch) : Nat := Tank.lpWindow + b.toNat / 6 % 128

/-- An output word of the high-quality format: a 24-bit code and its VALID bit (R320, R377). -/
def hqWord (code : Int) (valid : Bool) : Word := pack [(8, 24, wrapInt 24 code), (0, 1, b2n valid)]
/-- The code of a high-quality word. -/
def hqCode (w : Word) : Int := sgnOf 24 (bits w 31 8)
/-- An output word of the low-power format (R320). -/
def lpWord (code : Int) (valid : Bool) : Word := pack [(16, 16, wrapInt 16 code), (0, 1, b2n valid)]

end Sys2Proof.Machine
end

