-- ==== Sys2Proof/Machine/Rings.lean ====
section
/-! DEFINITION. Show capture and decision (R167 to R172), the register field: packets, acceptance, replies, aborts (R190 to
R214), and the event field (R215 to R219). -/

namespace Sys2Proof.Machine

/-! ### Show slots -/

/-- Whether COPY_FORCE allows side `x` (R177, R183). -/
def State.copyAllowed (s : State) (x : Side) : Bool :=
  match s.fld Reg.FRAME_SEL_CFG 13 12 with
  | 1 => x == .a
  | 2 => x == .b
  | _ => true

/-- A copy's fields may count as valid on side `x`, their own check apart (R165). -/
def State.copyOk (s : State) (x : Side) : Bool := (s.sd x).lock && (s.sd x).faw && !(s.sd x).void && (s.sd x).hdrValid

/-- The unit may act on the copy on side `x` (R88, R131, R165). -/
def State.mayUse (s : State) (x : Side) : Bool :=
  s.acting && (s.sd x).lock && (s.sd x).faw && !(s.sd x).void && !(s.sd x).wrapped

/-- The unit may add to the copy on side `x`: it goes on out of the opposite side, and no unannounced rate change stands (R62,
R130, R131, R133, R138, R176). DESIGN CHOICE (log 75): while the selected side is in clock fault, a good copy of the other side
is no faulted frame, and takes insertions; the spec does not say which copies a faulted frame has. -/
def State.mayAdd (s : State) (x : Side) : Bool := s.mayUse x && s.feeds x (other x) && !s.clk.rateBad

/-- The unit may add to field `fieldNo` of that copy: no frame loop replaces it (R137). -/
def State.mayAddTo (s : State) (x : Side) (fieldNo : Nat) : Bool :=
  s.mayAdd x && !s.frameLooped (other x) fieldNo && (s.sd x).hdrValid

/-- A field check on side `x` is judged: failures count for frames received under lock and not void (R185). -/
def State.judgeCheck (s : State) (x : Side) (part : Nat) (ok : Bool) : State :=
  if !ok && (s.sd x).lock && (s.sd x).faw && !(s.sd x).void then s.checkFailed x part else s

/-- The slot mask last sampled. -/
def State.maskNow (s : State) : List Nat :=
  match s.frame.masks with
  | m :: _ => m.2
  | [] => []

/-- What a field leaves on an output, with its check (R150, R151). -/
def OutSide.putShow (slots : List Sample) (check : Word) (o : OutSide) : OutSide :=
  { o with shows := slots, showCheck := check, day := o.day || !slots.isEmpty }
def OutSide.putListen (ws : List Word) (check : Word) (o : OutSide) : OutSide := { o with listen := ws, listenCheck := check }
def OutSide.putRegister (ws : List Word) (check : Half) (o : OutSide) : OutSide := { o with register := ws, registerCheck := check }
def OutSide.putEvent (ws : List Word) (check : Half) (o : OutSide) : OutSide := { o with event := ws, eventCheck := check }

/-- The show slots of a copy end with their check: capture under the mask in force when its frame began (R160, R167, R170,
R179). -/
def State.captureShow (s : State) (x : Side) (slots : List Sample) (check : Word) : State :=
  let ok := crc32 (samplesBits slots) == check
  let d := s.sd x
  let cap : Capture := { epoch := d.epoch, valid := s.copyOk x && ok
                         slots := d.mask.map (fun n => (n, classOf d.classes (n / 32), nth slots n 0)) }
  let s := s.judgeCheck x 1 ok
  let s := if s.acting && d.lock && d.faw then s.modSd x (fun d => { d with caps := (cap :: d.caps).take 8 }) else s
  s.forwardField x 0 (OutSide.putShow slots check) (OutSide.putShow slots check)

/-- The mask in force for epoch `e`: the one sampled for it, or, where a side switch passed over its frame start, the last
one sampled before it (R171, R178). -/
def State.maskFor (s : State) (e : Epoch32) : List Nat :=
  match s.frame.masks.find? (fun m => decide (ediff m.1 e ≤ 0)) with
  | some m => m.2
  | none => []

/-- Two masks name the same slots. -/
def sameMask (a b : List Nat) : Bool := a.all b.contains && b.all a.contains

/-- The mask a capture was taken under. -/
def Capture.mask (c : Capture) : List Nat := c.slots.map (·.1)

/-- The capture of `e` on side `x`, if one completed. -/
def State.capture (s : State) (x : Side) (e : Epoch32) : Option Capture := (s.sd x).caps.find? (fun c => c.epoch == e)

/-- A capture is usable for `e`: valid, taken under the mask sampled for `e`, its side allowed (R169, R170, R177). -/
def State.usable (s : State) (x : Side) (e : Epoch32) : Option Capture :=
  match s.capture x e with
  | some c => if c.valid && sameMask c.mask (s.maskFor e) && s.copyAllowed x then some c else none
  | none => none

/-- What made an epoch's show slots missing, as SHOW_MISS payload byte 2 (R180). -/
def State.missInfo (s : State) (e : Epoch32) : Nat :=
  let sel := s.clk.side
  let inv := fun x => match s.capture x e with
    | some c => !c.valid
    | none => x == sel || !(s.sd x).lock
  let late := (s.capture (other sel) e).isNone && (s.sd (other sel)).lock
  let masked := fun x => match s.capture x e with
    | some c => c.valid && !sameMask c.mask (s.maskFor e)
    | none => false
  b2n (inv .a) + 2 * b2n (inv .b) + 4 * b2n late + 8 * b2n (masked .a || masked .b)

/-- A SHOW_MISS run ends with its entry: at a present epoch, or at a missing one that does not follow it (R180). -/
def State.endMissRun (s : State) : State :=
  match s.frame.missRun with
  | some r =>
    let s := s.raiseAt r.first Log.FRAME 1 (ofBytes (r.len % 256) (r.len / 256) r.info 0) 0
    { s with frame := { s.frame with missRun := none } }
  | none => s

/-- The show slots of `e` are missing: flag, counter, and the run with its one Fixer occurrence (R169, R180, R181). -/
def State.showMissing (s : State) (e : Epoch32) : State :=
  let info := s.missInfo e
  let s := (s.setFlag Reg.FRAME_FRAME_STATUS 13).countWrap Reg.FRAME_SHOW_MISS_COUNT
  let fe := s.fullEpoch e
  match s.frame.missRun with
  | some r =>
    if e = r.last + 1 then
      { s with frame := { s.frame with missRun := some { r with len := min 0xFFFF (r.len + 1), info := r.info ||| info, last := e } } }
    else
      let s := ((s.endMissRun).fixerCountAt 3 fe).1
      { s with frame := { s.frame with missRun := some ⟨fe, 1, info, e⟩ } }
  | none =>
    let s := (s.fixerCountAt 3 fe).1
    { s with frame := { s.frame with missRun := some ⟨fe, 1, info, e⟩ } }

/-- The show slots of epoch `e` pass to the Print path, once, in order (R171). The 16 most recent stay readable. -/
def State.handOver (s : State) (e : Epoch32) (c : Option Capture) (src : Nat) : State :=
  let sh : ShowEpoch := match c with
    | some c => ⟨e, true, c.slots⟩
    | none => ⟨e, false, []⟩
  { s with frame := { s.frame with shown := (sh :: s.frame.shown).take 16, showSrc := src } }

/-- The decision for the oldest due show epoch (R168, R169, R171). -/
def State.decideShow (s : State) (e : Epoch32) (rest : List Epoch32) : State :=
  let s := { s with frame := { s.frame with due := rest } }
  let sel := s.clk.side
  match s.usable sel e, s.usable (other sel) e with
  | some c, _ => (s.endMissRun).handOver e (some c) (1 + sideNum sel)
  | none, some c =>
    let s := (s.setFlag Reg.FRAME_FRAME_STATUS 12).countWrap Reg.FRAME_SHOW_ALT_COUNT
    (s.endMissRun).handOver e (some c) (1 + sideNum (other sel))
  | none, none => (s.showMissing e).handOver e none 0

/-! ### Packets (R190 to R195) -/

/-- A packet of a register field: where it starts, how long it is, its words. -/
structure Packet where
  at_   : Nat
  words : List Word
  deriving DecidableEq, Repr

def Packet.hdr (p : Packet) : Word := p.words.headD 0
def Packet.op (p : Packet) : Nat := bits p.hdr 31 28

/-- The length a header word fixes: `none` for a reserved OP or a GRANT of length 0. `next` is the word after it (R190). -/
def packetLen (h next : Word) : Option Nat :=
  match bits h 31 28 with
  | 0x0 => some 1
  | 0x1 => some 1
  | 0x2 => some 2
  | 0x3 => some 2
  | 0x4 => some 2
  | 0x5 => some (2 + bits next 4 0)
  | 0x6 => some (2 + bits next 4 0)
  | 0x7 => some 1
  | 0x8 => some (1 + bits h 4 0)
  | 0x9 => if bits h 4 0 = 0 then none else some (bits h 4 0)
  | 0xE => some 1
  | _ => none

/-- Parses a field from word `at_`: the packets, and the word at which parsing stopped, if it failed (R195). -/
def parseField : Nat → Nat → List Word → List Packet × Option Nat
  | 0, _, _ => ([], none)
  | _ + 1, _, [] => ([], none)
  | f + 1, i, h :: t =>
    match packetLen h (t.headD 0) with
    | none => ([], some i)
    | some n =>
      if (h :: t).length < n then ([], some i)
      else
        let (ps, e) := parseField f (i + n) ((h :: t).drop n)
        (⟨i, (h :: t).take n⟩ :: ps, e)

/-- A broadcast address (R89, R90). -/
def isBroadcast (u : Nat) : Bool := u % 256 == 0xFF

/-- Whether the unit accepts a command address (R90, R91). -/
def State.accepts (s : State) (u : Nat) : Bool :=
  let g := u / 256
  let p := u % 256
  if u = 0xFFF then true
  else if p = 0xFF then g == s.ident.group
  else p != 0 && p == s.ident.position && (g == s.ident.group || g == 0xF)

/-- Whether a GRANT names the unit exactly (R196). -/
def State.granted (s : State) (u : Nat) : Bool := s.accepts u && !isBroadcast u

/-! ### Acceptance (R197, R199) -/

def State.tag (s : State) (t : Nat) : Tag := nth s.queue.tags t {}

def State.setTag (s : State) (t : Nat) (st : TagState) : State :=
  { s with queue := { s.queue with tags := modNth s.queue.tags t (fun x => { x with state := st }) } }

/-- Entries of the command ring in use: commands, and aborts until their examination (R199, R225). -/
def State.cmdLevel (s : State) : Nat := s.queue.cmds.length + (s.queue.aborts.filter (fun a => !a.waiting)).length

/-- Reply entries held or reserved (R225). -/
def State.replyLevel (s : State) : Nat := s.queue.replies.length + s.queue.reserved

/-- Why a command is dropped, in the order of R199: 2 tagged broadcast, 0 ring full, 3 no credit, 1 tag busy. -/
def State.dropReason (s : State) (h : Word) : Option Nat :=
  let op := bits h 31 28
  let answered := isTagged op || op == 7
  let st := (s.tag (pktTag h)).state
  if answered && isBroadcast (pktUnit h) then some 2
  else if 32 ≤ s.cmdLevel then some 0
  else if answered && decide (32 ≤ s.replyLevel) then some 3
  else if isTagged op && (st == .queued || st == .executing) then some 1
  else none

/-- A command is dropped and reported (R197, R199, R221). -/
def State.dropCmd (s : State) (h : Word) (why : Nat) : State :=
  let flags : Half := if why = 2 then oneHalf 5 else if why = 1 then oneHalf 1 ||| oneHalf 6 else oneHalf 1
  let s := (s.setFlags Reg.QUEUE_QUEUE_STATUS flags).countSat Reg.QUEUE_CMD_DROPS
  s.raise Log.QUEUE 2 (ofBytes why (pktTag h) (pktReg h % 256) (pktReg h / 256))

/-- The next of the `n` entries of a ring, in rotation from `next` on, that holds nothing (R621; log 114). -/
def freeSlot (n next : Nat) (used : List Nat) : Nat :=
  (((List.range n).map (fun i => (next + i) % n)).find? (fun k => !used.contains k)).getD next

/-- The entry of the command ring that the next packet takes: aborts keep theirs until their examination (R199, R621). -/
def State.cmdSlot (s : State) : Nat :=
  freeSlot 32 s.queue.cmdNext (s.queue.cmds.map (·.slot) ++ (s.queue.aborts.filter (fun a => !a.waiting)).map (·.slot))

/-- The entry of the reply ring that the next reply takes. -/
def State.replySlot (s : State) : Nat := freeSlot 32 s.queue.replyNext (s.queue.replies.map (·.slot))

/-- The entry of the event ring that the next event takes. -/
def State.eventSlot (s : State) : Nat := freeSlot 64 s.queue.eventNext (s.queue.events.map (·.slot))

/-- An accepted packet takes the next free entry of the command ring (R188, R621). DESIGN CHOICE (log 114): entries are taken in rotation,
and hold the packet's words from their first word on. -/
def State.storeCmd (s : State) (p : Packet) : State :=
  let k := s.cmdSlot
  let s := s.setTankWords (Tank.cmdRing + 32 * k) p.words
  { s with queue := { s.queue with cmdNext := (k + 1) % 32 } }

/-- One packet of a valid register field is accepted, dropped or ignored (R196, R199, R211). -/
def State.acceptPacket (s : State) (p : Packet) : State :=
  let h := p.hdr
  if 1 ≤ p.op ∧ p.op ≤ 7 ∧ s.accepts (pktUnit h) then
    match s.dropReason h with
    | some why => s.dropCmd h why
    | none =>
      let k := s.cmdSlot
      let s := s.storeCmd p
      if p.op = 7 then
        { s with queue := { s.queue with aborts := s.queue.aborts ++ [⟨pktTag h, false, false, k⟩], reserved := s.queue.reserved + 1 } }
      else
        let c : Cmd := { hdr := h, count := p.words.getD 1 0, data := p.words.drop (if isBurst p.op then 2 else 1), slot := k }
        let c := { c with bad := isBurst p.op && c.malformed s.clk.daylight }
        let s := { s with queue := { s.queue with cmds := s.queue.cmds ++ [c] } }
        if isTagged p.op then
          ({ s with queue := { s.queue with reserved := s.queue.reserved + 1 } }).setTag (pktTag h) .queued
        else s
  else s

/-! ### Replies (R192, R205 to R207) -/

/-- A REPLY header (R192). -/
def replyHeader (tag addr status dlen : Nat) : Word :=
  pack [(28, 4, 8), (24, 4, tag), (12, 12, addr), (8, 4, status), (0, 5, dlen)]

def Reply.words (r : Reply) : List Word := r.hdr :: r.data

/-- A reply takes its reserved entry at the ring's end; in Tank the next free entry in rotation holds its words (R188, R199, R621; log
114). -/
def State.pushReply (s : State) (tag status : Nat) (data : List Word) : State :=
  let k := s.replySlot
  let r : Reply := ⟨replyHeader tag s.unitAddr status data.length, data, false, false, k⟩
  let s := s.setTankWords (Tank.replyRing + 32 * k) r.words
  { s with queue := { s.queue with replies := s.queue.replies ++ [r], reserved := s.queue.reserved - 1
                                   replyNext := (k + 1) % 32 } }

def Reply.sent (x : Side) (r : Reply) : Bool := match x with | .a => r.sentA | .b => r.sentB
def Reply.mark (x : Side) (both : Bool) (r : Reply) : Reply :=
  match x with
  | .a => { r with sentA := true, sentB := r.sentB || both }
  | .b => { r with sentB := true, sentA := r.sentA || both }

/-- As many whole due replies as fit in `room` words, in ring order, none overtaking another: the words written and the
ring with those replies marked (R205). -/
def fillReplies (x : Side) (both : Bool) : Nat → List Reply → List Word × List Reply
  | _, [] => ([], [])
  | room, r :: t =>
    if r.sent x then
      let (ws, t') := fillReplies x both room t
      (ws, r :: t')
    else if r.words.length ≤ room then
      let (ws, t') := fillReplies x both (room - r.words.length) t
      (r.words ++ ws, r.mark x both :: t')
    else ([], r :: t)

/-- The register field sent on: GRANTs to the unit filled (R207), then replies appended from the first EMPTY word (R206).
`n` is the field's length; the result also holds the ring as marked. -/
def insertReplies (granted : Nat → Bool) (append : Bool) (x : Side) (both : Bool) (n : Nat) :
    List Packet → List Reply → List Word × List Reply
  | [], rs => ([], rs)
  | p :: ps, rs =>
    if p.op = 9 ∧ granted (pktUnit p.hdr) then
      let (ws, rs') := fillReplies x both p.words.length rs
      let out := if ws.isEmpty then p.words else ws ++ List.replicate (p.words.length - ws.length) 0xE0000000#32
      let (rest, rs'') := insertReplies granted append x both n ps rs'
      (out ++ rest, rs'')
    else if p.op = 0 ∧ append then
      let room := n - p.at_
      let (ws, rs') := fillReplies x both room rs
      (ws ++ ((p :: ps).flatMap (·.words)).drop ws.length, rs')
    else
      let (rest, rs') := insertReplies granted append x both n ps rs
      (p.words ++ rest, rs')

/-- Whether side `x` counts as served for an entry sent on it or not (R205). -/
def State.served (s : State) (x : Side) (sent : Bool) : Bool := sent || !(s.sd x).lock || (s.sd x).wrapped

/-- Reply entries with both sides served retire (R205, R226). -/
def State.retireReplies (s : State) : State :=
  let done := fun (r : Reply) => s.served .a r.sentA && s.served .b r.sentB
  let n := (s.queue.replies.filter done).length
  let s := s.setReg Reg.QUEUE_REPLY_COUNT (s.reg Reg.QUEUE_REPLY_COUNT + BitVec.ofNat 32 n)
  { s with queue := { s.queue with replies := s.queue.replies.filter (fun r => !done r) } }

/-- The event ring is left with the entries `l`: fewer than 32 end a run of drops (R217). -/
def State.keepEvents (s : State) (l : List Event) : State :=
  { s with queue := { s.queue with events := l, evtDropRun := s.queue.evtDropRun && decide (32 ≤ l.length) } }

/-- Event entries with both sides served retire; none does at POSITION 0x00 (R91, R205). -/
def State.retireEvents (s : State) : State :=
  if s.ident.position = 0 then s
  else s.keepEvents (s.queue.events.filter (fun e => !(s.served .a e.sentA && s.served .b e.sentB)))

/-! ### Which copy's commands are executed (R173, R175, R180) -/

/-- The record of epoch `e`'s register fields, made if absent. -/
def regSeen (l : List RegSeen) (e : Epoch32) : RegSeen := (l.find? (fun r => r.epoch == e)).getD { epoch := e }

/-- Puts a record among records in epoch order. -/
def insertSeen (r : RegSeen) : List RegSeen → List RegSeen
  | [] => [r]
  | q :: t => if 0 < ediff r.epoch q.epoch then q :: insertSeen r t else r :: q :: t

/-- The record of an epoch put in front of the 32 most recent: more frames than a second copy comes behind the first (R114, R175;
log 61). -/
def putSeen (l : List RegSeen) (r : RegSeen) : List RegSeen := (r :: l.filter (fun q => q.epoch != r.epoch)).take 32

/-- The copies of side `x` and of the other that a record has. -/
def RegSeen.got (x : Side) (r : RegSeen) : Bool := match x with | .a => r.gotA | .b => r.gotB

/-- A copy of side `x` joins a record. -/
def RegSeen.bring (x : Side) (r : RegSeen) : RegSeen := match x with | .a => { r with gotA := true } | .b => { r with gotB := true }

/-- The record that a valid field of `e` on side `x` joins: a new one where that side has brought this epoch before, since the epoch has
come again after a backward jump (R32, R173). -/
def regJoin (l : List RegSeen) (x : Side) (e : Epoch32) : RegSeen :=
  let r := regSeen l e
  if r.got x then { epoch := e } else r

/-- The epoch's register field is judged: a copy was valid, or both have come or cannot come (R175). -/
def RegSeen.judged (r : RegSeen) : Bool := r.taken || r.valid || (r.gotA && r.gotB)

/-- REG_SRC reports the most recent epoch: an older one, of a second copy that comes late, changes nothing (R114, R186). -/
def State.setRegSrc (s : State) (e : Epoch32) (v : Nat) : State :=
  let d := ediff e s.frame.regAt
  if decide (-256 ≤ d) && decide (d < 0) then s else { s with frame := { s.frame with regSrc := v, regAt := e } }

/-- A REG_MISS run ends with its entry: at a valid register field, or at a missing one of an epoch that does not follow it
(R175, R180). -/
def State.endRegRun (s : State) : State :=
  match s.frame.regRun with
  | some r =>
    let s := s.raiseAt r.first Log.FRAME 2 (ofBytes (r.len % 256) (r.len / 256) 0 0) 0
    { s with frame := { s.frame with regRun := none } }
  | none => s

/-- An epoch without a valid register field joins the run of those it follows, or begins one (R180). -/
def State.regRunMissing (s : State) (e : Epoch32) : State :=
  match s.frame.regRun with
  | some r =>
    if e = r.last + BitVec.ofNat 32 (frameTicks s.clk.daylight) then
      { s with frame := { s.frame with regRun := some { r with len := min 0xFFFF (r.len + 1), last := e } } }
    else
      let s := s.endRegRun
      { s with frame := { s.frame with regRun := some ⟨s.fullEpoch e, 1, 0, e⟩ } }
  | none => { s with frame := { s.frame with regRun := some ⟨s.fullEpoch e, 1, 0, e⟩ } }

/-- A judged epoch is taken into the runs of REG_MISS (R180). -/
def State.tellRun (s : State) (r : RegSeen) : State :=
  let s := { s with frame := { s.frame with regs := s.frame.regs.map (fun (q : RegSeen) => if q.epoch = r.epoch then { q with told := true } else q) } }
  if r.taken || r.valid then s.endRegRun else s.regRunMissing r.epoch

/-- Whether a second copy of `e` may still come: it does within 21 frames of the first (R114, R175; log 61). -/
def State.copyAwaited (s : State) (e : Epoch32) : Bool :=
  decide ((ediff s.epoch32 e).natAbs ≤ 22 * frameTicks s.clk.daylight)

/-- The runs of REG_MISS take the epochs that are judged, in epoch order: one that is not yet judged holds those after it back, as long as
its second copy may come (R175, R180). -/
def State.settleRuns : List RegSeen → State → State
  | [], s => s
  | r :: t, s => if r.judged then (s.tellRun r).settleRuns t else if s.copyAwaited r.epoch then s else s.settleRuns t

/-- The record of an epoch is kept, and the runs go on (R175, R180). -/
def State.noteSeen (s : State) (r : RegSeen) : State :=
  let s := { s with frame := { s.frame with regs := putSeen s.frame.regs r } }
  s.settleRuns ((s.frame.regs.filter (fun q => !q.told)).foldr insertSeen [])

/-- An epoch had no valid register field (R175, R186). -/
def State.regMissing (s : State) (e : Epoch32) : State := (s.setFlag Reg.FRAME_FRAME_STATUS 14).setRegSrc e 0

/-- A copy of `e` on side `x` is over without a field the unit could execute: judged missing when the other copy has come
too, or cannot come, once for each epoch (R175). -/
def State.regCopyBad (s : State) (x : Side) (e : Epoch32) : State :=
  let r := regSeen s.frame.regs e
  let miss := !r.taken && !r.valid && !r.got x && (r.got (other x) || !(s.sd (other x)).lock)
  let r' := if miss then (r.bring x).bring (other x) else r.bring x
  let s := if miss then s.regMissing e else s
  s.noteSeen r'

/-- A copy of `e` on side `x` is over with a valid field that COPY_FORCE bars: none of its commands is executed, and the epoch has a
valid register field (R173, R175, R177). -/
def State.regBarred (s : State) (x : Side) (e : Epoch32) : State :=
  let r := regJoin s.frame.regs x e
  let s := if r.taken then s else s.setRegSrc e 0
  s.noteSeen { r.bring x with valid := true, told := r.told && (r.taken || r.valid) }

/-- A side loses frame lock: epochs that waited for its copy alone are judged, in epoch order (R175, R180). -/
def State.judgeLost (s : State) (x : Side) : State :=
  let waiting := s.frame.regs.filter (fun r => !r.taken && r.got (other x) && !r.got x)
  (waiting.foldr insertSeen []).foldl (fun s r => s.regCopyBad x r.epoch) s

/-- Sides that have lost frame lock since state `old` are judged (R126, R175). -/
def State.judgeDropped (s old : State) : State :=
  let s := if old.sideA.lock && !s.sideA.lock then s.judgeLost .a else s
  if old.sideB.lock && !s.sideB.lock then s.judgeLost .b else s

/-- Commands of a valid field of epoch `e` on side `x`, unless a copy of `e` was executed already (R173). -/
def State.executeField (s : State) (x : Side) (e : Epoch32) (ps : List Packet) : State :=
  let r := regJoin s.frame.regs x e
  if r.taken then s
  else
    let s := (s.noteSeen { r.bring x with taken := true, told := r.told && r.valid }).setRegSrc e (1 + sideNum x)
    ps.foldl State.acceptPacket s

/-- REGISTER_FIELD: the field of a copy passes with replies inserted (R163, R176, R205 to R207), then its check decides
whether its commands are taken (R173 to R175, R195). DESIGN CHOICE (log 112): a copy whose header check failed is parsed too, and
reports PARSE_FAIL; R195 does not say which copies a unit parses. -/
def State.registerField (s : State) (x : Side) (ws : List Word) (check : Half) : State :=
  let n := registerWords s.clk.daylight
  let ok := crc16 (wordsBits ws) == check
  let (ps, fail) := parseField ws.length 0 ws
  let s := s.judgeCheck x 3 ok
  let s := match fail with
    | some i => if s.mayUse x then (s.setFlag Reg.QUEUE_QUEUE_STATUS 3).raise Log.QUEUE 3 (ofBytes (sideNum x) i 0 0) else s
    | none => s
  let insert := s.mayAddTo x 2 && fail.isNone
  let (ws', rs) := if insert then
      insertReplies s.granted (!s.flag Reg.QUEUE_QUEUE_CFG 0) x s.link.wrap.isSome n ps s.queue.replies
    else (ws, s.queue.replies)
  let s := { s with queue := { s.queue with replies := rs } }
  let check' := if ws' = ws then check else sendCheck16 (crc16 (wordsBits ws')) ok
  let s := s.forwardField x 2 (OutSide.putRegister ws' check') (OutSide.putRegister ws check)
  if !s.acting then s
  else
    let s := s.retireReplies
    if !(s.sd x).lock then s
    else if s.copyOk x && ok && !(s.sd x).wrapped then
      (if s.copyAllowed x then s.executeField x (s.sd x).epoch ps else s.regBarred x (s.sd x).epoch)
    else s.regCopyBad x (s.sd x).epoch

/-! ### Completion and aborts (R202, R211 to R214, R226) -/

/-- The head command of the ring completes with a status: its reply, its tag, the counters, and the ABORT_LATE reply of an
abort that found it executing and waited for it; the flag ABORT_LATE is of aborts that find their target done (R193, R199, R211, R213, R214, R226). -/
def State.complete (s : State) (c : Cmd) (status : Nat) (data : List Word) : State :=
  let op := bits c.hdr 31 28
  let t := pktTag c.hdr
  let s := { s with queue := { s.queue with cmds := s.queue.cmds.tail, running := false, done := 0, got := [] } }
  let s := s.countWrap Reg.QUEUE_CMD_COUNT
  let s := if status = 5 then s.setFlag Reg.QUEUE_QUEUE_STATUS 0 else if status = 6 then s.setFlag Reg.QUEUE_QUEUE_STATUS 4 else s
  if isTagged op then
    let s := s.pushReply t status (if status = 0 then data else [])
    let s := { s with queue := { s.queue with tags := modNth s.queue.tags t (fun _ => ⟨.done, status⟩) } }
    let late := s.queue.aborts.filter (fun a => a.waiting && a.tag == t)
    let s := { s with queue := { s.queue with aborts := s.queue.aborts.filter (fun a => !(a.waiting && a.tag == t)) } }
    late.foldl (fun s _ => s.pushReply t 2 [BitVec.ofNat 32 status]) s
  else s

/-- Whether the target's own reply still stands in the reply ring (R212, R214). -/
def State.ownReplyHeld (s : State) (t : Nat) : Bool :=
  s.queue.replies.any (fun r => bits r.hdr 27 24 == t && !(bits r.hdr 11 8 == 1 || bits r.hdr 11 8 == 2 || bits r.hdr 11 8 == 3))

/-- The examination of a registered abort at a frame start (R211 to R214). -/
def State.examineAbort (s : State) (t : Nat) : State :=
  match (s.tag t).state with
  | .idle => s.pushReply t 3 []
  | .queued =>
    let i := s.queue.cmds.findIdx (fun c => isTagged (bits c.hdr 31 28) && pktTag c.hdr == t)
    let s := { s with queue := { s.queue with cmds := s.queue.cmds.eraseIdx i, reserved := s.queue.reserved - 1 } }
    (s.setTag t .idle).pushReply t 1 [0]
  | .executing =>
    if isBurst (bits (s.queue.cmds.headD ⟨0, 0, [], false, 0⟩).hdr 31 28) then
      let n := s.queue.done
      let s := { s with queue := { s.queue with cmds := s.queue.cmds.tail, reserved := s.queue.reserved - 1, running := false, done := 0, got := [] } }
      (s.setTag t .idle).pushReply t 1 [BitVec.ofNat 32 n]
    else { s with queue := { s.queue with aborts := ⟨t, true, true, 0⟩ :: s.queue.aborts } }
  | .done =>
    let st := (s.tag t).status
    let late := pack [(0, 4, st), (8, 1, b2n (!s.ownReplyHeld t))]
    (s.setFlag Reg.QUEUE_QUEUE_STATUS 7).pushReply t 2 [late]

/-- A selected-side frame begins: every abort registered before it is due for its examination (R211). -/
def State.dueAborts (s : State) : State :=
  { s with queue := { s.queue with aborts := s.queue.aborts.map (fun a => { a with due := true }) } }

/-- The first abort due for its examination, and the others (R211). -/
def nextAbort : List Abort → Option (Nat × List Abort)
  | [] => none
  | a :: t => if a.waiting || !a.due then (nextAbort t).map (fun p => (p.1, a :: p.2)) else some (a.tag, t)

/-! ### The event field (R215 to R219) -/

def Event.sent (x : Side) (e : Event) : Bool := match x with | .a => e.sentA | .b => e.sentB
def Event.mark (x : Side) (both : Bool) (e : Event) : Event :=
  match x with
  | .a => { e with sentA := true, sentB := e.sentB || both }
  | .b => { e with sentB := true, sentA := e.sentA || both }

/-- An event word (R216). -/
def eventWord (addr : Nat) (e : Event) : Word := pack [(20, 12, addr), (16, 4, e.lseq), (8, 8, e.source), (0, 8, e.code)]

/-- Whether the unit at position `q` may take event word `w` of a frame with header epoch `e` (R218). -/
def mayTakeEvent (daylight : Bool) (x : Side) (e : Epoch32) (q w : Nat) : Bool :=
  let n := eventWords daylight
  let f := if daylight then e.toNat else e.toNat / 6
  let owner := n * (f % (256 / n)) + w
  match x with
  | .a => decide (owner ≤ q)
  | .b => decide (q ≤ owner)

/-- The event words sent on: each eligible empty word takes the oldest event not yet sent in this copy (R218). -/
def insertEvents (may : Nat → Bool) (x : Side) (both : Bool) (addr : Nat) : Nat → List Word → List Event → List Word × List Event
  | _, [], es => ([], es)
  | w, v :: vs, es =>
    match es.findIdx? (fun e => !e.sent x) with
    | some i =>
      if v = 0 ∧ may w then
        let (rest, es') := insertEvents may x both addr (w + 1) vs (modNth es i (Event.mark x both))
        (eventWord addr (nth es i ⟨0, 0, 0, false, false, 0⟩) :: rest, es')
      else
        let (rest, es') := insertEvents may x both addr (w + 1) vs es
        (v :: rest, es')
    | none => (v :: vs, es)

/-- EVENT_FIELD: the event field of a copy passes with due events inserted (R163, R176, R205, R215 to R218). -/
def State.eventField (s : State) (x : Side) (ws : List Word) (check : Half) : State :=
  let ok := crc16 (wordsBits ws) == check
  let s := s.judgeCheck x 4 ok
  let q := s.ident.position
  let insert := s.mayAddTo x 3 && !s.flag Reg.QUEUE_QUEUE_CFG 1 && q != 0
  let (ws', es) := if insert then
      insertEvents (mayTakeEvent s.clk.daylight x (s.sd x).epoch q) x s.link.wrap.isSome s.unitAddr 0 ws s.queue.events
    else (ws, s.queue.events)
  let s := { s with queue := { s.queue with events := es } }
  let check' := if ws' = ws then check else sendCheck16 (crc16 (wordsBits ws')) ok
  let s := s.forwardField x 3 (OutSide.putEvent ws' check') (OutSide.putEvent ws check)
  if s.acting then (s.retireReplies).retireEvents else s

end Sys2Proof.Machine
end

