-- ==== Sys2Proof/Machine/Tone.lean ====
section
/-! DEFINITION. Sines, levels and one-bit streams that the unit makes itself: the tables of the transform and of the tones, and the
modulators of R301 and R305. -/

namespace Sys2Proof.Machine

/-! ### Sines -/

/-- cos(2πj/512) in 2⁻³⁰, for j = 0 to 128. -/
def cosQuarter : List Int :=
  [1073741824, 1073660973, 1073418433, 1073014240, 1072448455, 1071721163, 1070832474, 1069782521, 1068571464, 1067199483, 1065666786,
   1063973603, 1062120190, 1060106826, 1057933813, 1055601479, 1053110176, 1050460278, 1047652185, 1044686319, 1041563127, 1038283080,
   1034846671, 1031254418, 1027506862, 1023604567, 1019548121, 1015338134, 1010975242, 1006460100, 1001793390, 996975812, 992008094]
  ++ [986890984, 981625251, 976211688, 970651112, 964944360, 959092290, 953095785, 946955747, 940673101, 934248793, 927683790,
   920979082, 914135678, 907154608, 900036924, 892783698, 885396022, 877875009, 870221790, 862437520, 854523370, 846480531,
   838310216, 830013654, 821592095, 813046808, 804379079, 795590213, 786681534, 777654384, 768510122, 759250125, 749875788]
  ++ [740388522, 730789757, 721080937, 711263525, 701339000, 691308855, 681174602, 670937767, 660599890, 650162530, 639627258,
   628995660, 618269338, 607449906, 596538995, 585538248, 574449320, 563273883, 552013618, 540670223, 529245404, 517740883,
   506158392, 494499676, 482766489, 470960600, 459083786, 447137835, 435124548, 423045732, 410903207, 398698801, 386434353]
  ++ [374111709, 361732726, 349299266, 336813204, 324276419, 311690799, 299058239, 286380643, 273659918, 260897982, 248096755,
   235258165, 222384147, 209476638, 196537583, 183568930, 170572633, 157550647, 144504935, 131437462, 118350194, 105245103,
   92124163, 78989349, 65842639, 52686014, 39521455, 26350943, 13176464, 0]

/-- cos(2πj/512) in 2⁻³⁰. -/
def cos512 (j : Nat) : Int :=
  let j := j % 512
  if j ≤ 128 then nth cosQuarter j 0
  else if j ≤ 256 then -nth cosQuarter (256 - j) 0
  else if j ≤ 384 then -nth cosQuarter (j - 256) 0
  else nth cosQuarter (512 - j) 0

/-- sin(2πj/512) in 2⁻³⁰. -/
def sin512 (j : Nat) : Int := cos512 (j + 384)

/-- cos(2πj/1024) in 2⁻³⁰. -/
def cos1024 (j : Nat) : Int :=
  if j % 2 = 0 then cos512 (j / 2) else (1073721611 * cos512 (j / 2) - 6588356 * sin512 (j / 2)) / 2 ^ 30

/-- cos(2πp/(1024q)) in 2⁻³⁰, on a straight line between the table's angles. -/
def cosTurn (p q : Nat) : Int :=
  ((q - p % q : Nat) * cos1024 (p / q) + (p % q : Nat) * cos1024 (p / q + 1)) / q

/-- cos(2πp/(1024q)) in 2⁻³⁰: the table's angle turned on by the rest, to the second order. -/
def cosFine (p q : Nat) : Int :=
  let d : Int := 6588397 * (p % q : Nat) / q
  let c := cos1024 (p / q)
  c - (d * cos1024 (p / q + 768) + d * d * c / 2 ^ 31) / 2 ^ 30

/-! ### Levels -/

/-- The amplitudes of −6 × LEVEL dBFS, in 1/256 of a 24-bit code. -/
def toneAmplitudes : List Int :=
  [2147483648, 1076291389, 539423504, 270352174, 135497058, 67909396, 34035322, 17058069, 8549286, 4284793, 2147484, 1076291,
   539424, 270352, 135497, 67909]

/-- The gains of 0 to 30 dB in steps of 1.5 dB, in 2⁻¹⁶ (R282). -/
def pgaGains : List Int :=
  [65536, 77890, 92572, 110022, 130762, 155410, 184706, 219523, 260904, 310084, 368536, 438006, 520571, 618700, 735326, 873937,
   1038676, 1234468, 1467168, 1743733, 2072430]

/-! ### One-bit modulators (R301, R305) -/

/-- One bit of a one-bit modulator of kind `kind` whose bits stand for `full` and −`full`, from its integrators and its input: the
bit keeps the running sum of its error within bounds, and is the modulator's own choice where both do. -/
def shapeStep (kind : Nat) (full : Int) (e : List Int) (u : Int) : Bool × List Int :=
  let x := nth e 0 0 + u
  let bound := full * (2 + Config.shapeBound kind)
  let one := if bound < x + full then true else if x - full < -bound then false else Config.shapeBit kind e u
  let a := if one then x - full else x + full
  let b := nth e 1 0 + a
  let c := nth e 2 0 + b
  (one, [a, b, c, nth e 3 0 + c])

/-- The bits of a one-bit modulator for a list of inputs, and its integrators after them. -/
def shape (kind : Nat) (full : Int) (e : List Int) : List Int → List Bool × List Int
  | [] => ([], e)
  | u :: us =>
    let b := shapeStep kind full e u
    let bs := shape kind full b.2 us
    (b.1 :: bs.1, bs.2)

end Sys2Proof.Machine
end

