-- ==== Sys2Proof/Machine/Front.lean ====
section
/-! DEFINITION. Microphone front end: biases, converters, the watch converter, the PDM port, trim, front-end proof loops
(R271 to R312, R708). -/

namespace Sys2Proof.Machine

/-! ### Conditions -/

/-- PDM_CFG as sampled: EN, RATE (3 acts as 0), CH, MIRROR_EN, MIRROR_SRC, WAKE (R295, R297, R311). -/
def Front.pdmEn (f : Front) : Bool := bitOf f.pdmCfg 0
def Front.pdmRate (f : Front) : Nat := if bits f.pdmCfg 2 1 = 3 then 0 else bits f.pdmCfg 2 1
def Front.pdmCh (f : Front) : Nat := bits f.pdmCfg 6 3
def Front.mirrorEn (f : Front) : Bool := bitOf f.pdmCfg 7
def Front.mirrorSrc (f : Front) : Nat := bits f.pdmCfg 12 8
def Front.pdmWake (f : Front) : Nat := bits f.pdmCfg 15 13

/-- PDM_CK periods in each tick, by RATE (R295). -/
def Front.pdmPeriods (f : Front) : Nat := if f.pdmRate = 1 then 25 else if f.pdmRate = 2 then 16 else 32

/-- PGA gain codes act up to 20 (R282). -/
def gainCode (g : Nat) : Nat := min 20 g

/-- The gain applied to channel `k`, in half decibels: 1.5 dB a step (R282, R283). -/
def State.gainHalfDb (s : State) (k : Nat) : Nat := 3 * nth s.front.gains k 0

/-- The gain applied to the watch converter, in half decibels (R282). -/
def State.watchHalfDb (s : State) : Nat := 3 * s.front.watchGain

/-- A countdown to SAFELIGHT is in progress (R276, R292, R308). -/
def State.toSafe (s : State) : Bool := s.clk.rcTarget == 2 && s.clk.daylight

/-- The channels the PDM port has taken (R296): bit `k` for channels 12 to 15. -/
def State.pdmTakes (s : State) (k : Nat) : Bool := decide (12 ≤ k) && s.front.pdmPhase != 0 && s.front.pdmTaken.testBit (k - 12)

/-- The bias code of channel `k`; 3 acts as 0 (R273). -/
def State.biasCode (s : State) (k : Nat) : Nat :=
  let v := if k < 8 then s.fld Reg.FRONT_BIAS_V_LO (2 * k + 1) (2 * k) else s.fld Reg.FRONT_BIAS_V_HI (2 * (k - 8) + 1) (2 * (k - 8))
  if v = 3 then 0 else v

/-- Bias `k` is to be on (R274), the boundary of a countdown to SAFELIGHT foreseen (R276); an array bias with the converters' domain
(R524, R525). -/
def State.biasWanted (s : State) (k : Nat) : Bool :=
  s.ident.done && s.front.vbiasOk && s.flag Reg.FRONT_BIAS_EN k
    && ((s.blockUp 0 && !s.toSafe) || k == s.front.watchMic)

def State.biasOf (s : State) (k : Nat) : Bias := nth s.front.bias k {}

def State.modBias (s : State) (k : Nat) (f : Bias → Bias) : State :=
  { s with front := { s.front with bias := modNth s.front.bias k f } }

def State.chanOf (s : State) (k : Nat) : Chan := nth s.front.chan k {}

def State.modChan (s : State) (k : Nat) (f : Chan → Chan) : State :=
  { s with front := { s.front with chan := modNth s.front.chan k f } }

/-- The voltage of a bias code, in mV; code 3 acts as 0 (R273). -/
def biasVolts (code : Nat) : Nat := if code = 1 then 2500 else if code = 2 then 2800 else 2000

/-- The voltage a bias stands at or ramps to, in mV (R273, R274). -/
def Bias.target (b : Bias) : Rat := if b.on then biasVolts b.code else 0

/-- The voltage of a bias now, in mV: linear over the 96 ticks of a ramp (R275). -/
def State.biasLevel (s : State) (b : Bias) : Rat :=
  match b.ramp with
  | some t => b.start + (b.target - b.start) * min 96 (s.clk.ticks - t) / 96
  | none => b.target

/-- Bias `k`'s current limit in nA: 2.4 mA within 10 % in DAYLIGHT, 0.26 mA within 15 % for the watch microphone in SAFELIGHT (R273). -/
def State.biasLimit (s : State) (k : Nat) : Int :=
  if s.clk.daylight then 2400 * (1000 + clampInt (-100) 100 (Config.biasError true k))
  else 260 * (1000 + clampInt (-150) 150 (Config.biasError false k))

/-- The current below which bias `k` draws too little, in µA: 20 within 10 (R281). -/
def openLimit (k : Nat) : Int := 20 + clampInt (-10) 10 (Config.openError k)

/-- A ramp begins, from the voltage the bias stands at, and with it an invalid window (R275). -/
def State.rampBias (s : State) (b : Bias) : Bias := { b with start := s.biasLevel b, ramp := some s.clk.ticks, window := some s.clk.ticks }

/-- Bias `k` follows R274: a turn-on, turn-off or change of voltage ramps and opens an invalid window (R275). A bias held off
by a short stays off (R279, R280). -/
def State.updateBias (s : State) (k : Nat) : State :=
  let b := s.biasOf k
  let want := s.biasWanted k && b.shorted.isNone && !b.latched
  let code := s.biasCode k
  if want then
    if b.on && b.code == code then s
    else if b.on then s.modBias k (fun b => { s.rampBias b with code := code })
    else s.modBias k (fun b => { s.rampBias b with on := true, code := code, limit := 0, low := 0 })
  else if b.on then s.modBias k (fun b => { s.rampBias b with on := false, limit := 0, low := 0 })
  else s

/-- Every bias follows R274. -/
def State.updateBiases (s : State) : State := (List.range 16).foldl State.updateBias s

/-- The watch converter is to run (R292). -/
def State.watchWanted (s : State) : Bool :=
  s.ident.done && (!s.clk.daylight || !s.flag Reg.FRONT_WATCH_CFG 4 || s.toSafe)

/-- The watch converter follows R292; each start has a start interval, and starts the low-power path (R315, R339). -/
def State.updateWatch (s : State) : State :=
  let want := s.watchWanted
  if want && !s.front.watchRun then
    let decim := { s.decim with lpStart := s.clk.ticks, chains := s.decim.chains.set 16 {}, seed := s.decim.seed.set 16 true }
    { s with front := { s.front with watchRun := true, watchStart := some s.clk.ticks }, decim := decim }
  else if !want && s.front.watchRun then { s with front := { s.front with watchRun := false, watchStart := none } }
  else s

/-- Channel `k`'s converter is to be powered (R287). -/
def State.chanWanted (s : State) (k : Nat) : Bool := s.blockUp 0 && s.front.micEn.testBit k && !s.pdmTakes k

/-- Channel `k`'s converter follows R287, with its start interval (R288). -/
def State.updateChan (s : State) (k : Nat) : State :=
  let c := s.chanOf k
  let want := s.chanWanted k
  if want && !c.powered then s.modChan k (fun _ => ⟨true, some s.clk.ticks⟩)
  else if !want && c.powered then s.modChan k (fun _ => ⟨false, none⟩)
  else s

/-- Every array converter follows R287. -/
def State.updateChans (s : State) : State := (List.range 16).foldl State.updateChan s

/-! ### Validity (R62, R250, R289, R307) -/

/-- A clock fault stands, the settle interval runs, or it had not ended where the present sample, `span` ticks long, began: the
sample is invalid (R40, R62). -/
def State.unsettled (s : State) (span : Nat) : Bool :=
  s.clk.fault || s.clk.settle.isSome || (match s.clk.settled with | some t => decide (s.clk.ticks < t + span) | none => false)

/-- A parity safe state of FRONT or DECIM marks channel `k` invalid; 16 is the watch channel (R250). -/
def State.frontHeld (s : State) (k : Nat) : Bool :=
  let mic := if k = 16 then s.front.watchMic else k
  s.port.held.any (fun a =>
    if Reg.pageOf a = 5 then
      if a = Reg.DECIM_ENGINE_CTL ∨ a = Reg.DECIM_DC_CFG then true else decide (k < 16)
    else if Reg.pageOf a = 4 then
      if a = Reg.FRONT_MIC_EN then decide (k < 16)
      else if a = Reg.FRONT_BIAS_V_LO then decide (mic < 8)
      else if a = Reg.FRONT_BIAS_V_HI then decide (8 ≤ mic)
      else if a = Reg.FRONT_WATCH_CFG then k == 16
      else if a = Reg.FRONT_PDM_CFG then decide (12 ≤ k ∧ k < 16)
      else if a = Reg.FRONT_BIAS_EN then true
      else decide (k < 16)
    else false)

/-- A loop is applied to channel `k` (R305, R307). -/
def State.looped (s : State) (k : Nat) : Bool :=
  let w := s.front.loop
  match bits w 1 0 with
  | 1 => bits w 7 4 == k
  | 2 => bits w 7 4 == k
  | 3 => k == 12 && s.pdmTakes 12
  | _ => false

/-- Bias `k` leaves its channel's samples valid: no window, no short, and VBIAS up where it would feed the channel. -/
def State.biasOk (s : State) (k : Nat) : Bool :=
  let b := s.biasOf k
  b.window.isNone && b.shorted.isNone && !b.latched && (s.front.vbiasOk || !s.flag Reg.FRONT_BIAS_EN k)

/-- Channel `k`'s converter or PDM input delivers, a loop apart (R289). -/
def State.chanDelivers (s : State) (k : Nat) : Bool :=
  s.clk.daylight && s.biasOk k && !s.unsettled 2 && !s.frontHeld k
    && (if s.pdmTakes k then s.front.pdmPhase == 2 else (s.chanOf k).powered && (s.chanOf k).starting.isNone)

/-- The current sample of array channel `k` is valid (R289). -/
def State.chanValid (s : State) (k : Nat) : Bool := s.chanDelivers k && !s.looped k

/-- The current watch sample is valid (R289, R292, R293). -/
def State.watchValid (s : State) : Bool :=
  s.front.watchRun && s.front.watchStart.isNone && s.biasOk s.front.watchMic && !s.unsettled 6 && !s.frontHeld 16

/-! ### Frame-sampled controls (R247, R283, R287, R293, R297, R298, R305) -/

/-- The port starts clock first (R297). -/
def State.pdmStart (s : State) : State :=
  let s := { s with front := { s.front with pdmPhase := 1, pdmTick := s.clk.ticks, pdmDecim := false,
                                             pdmTaken := s.front.pdmCh, mirror := none } }
  s.updateChans

/-- The port stops (R298, R300). -/
def State.pdmStop (s : State) : State :=
  let s := { s with front := { s.front with pdmPhase := 0, pdmDecim := false, pdmTaken := 0, mirror := none } }
  s.updateChans

/-- PDM_CFG is sampled (R297, R298, R300, R301): the port starts where EN newly applies, or where EN was cleared and set again
with another RATE or CH since the last sample (R299); the mirror ends where MIRROR_EN applies as 0. -/
def State.samplePdm (s : State) : State :=
  let was := s.front.pdmEn && s.front.pdmPhase != 0
  let same := bits s.front.pdmCfg 6 1 == s.fld Reg.FRONT_PDM_CFG 6 1
  let s := { s with front := { s.front with pdmCfg := s.reg Reg.FRONT_PDM_CFG &&& 0xFFFF#32 } }
  let s := if s.front.mirrorEn then s else { s with front := { s.front with mirror := none } }
  if !s.clk.daylight then s
  else if s.front.pdmEn && !(was && same) && s.link.training.isNone then s.pdmStart
  else if !s.front.pdmEn && s.front.pdmPhase != 0 then s.pdmStop
  else s

/-- SAFE_MIC is sampled: a new watch microphone (R293). -/
def State.sampleWatch (s : State) : State :=
  let m := s.fld Reg.FRONT_WATCH_CFG 3 0
  let s := { s with front := { s.front with watchGain := gainCode (s.fld Reg.FRONT_WATCH_CFG 9 5) } }
  if m = s.front.watchMic then s
  else
    let s := { s with front := { s.front with watchMic := m, watchStart := if s.front.watchRun then some s.clk.ticks else none } }
    (s.updateBiases).setFlag Reg.FRONT_FRONT_STATUS 2

/-- A PROOF_CTL selection applies at a frame start (R305). -/
def State.startFrontLoop (s : State) : State :=
  match s.front.loopPend with
  | none => s
  | some w =>
    let s := s.setPair Reg.FRONT_PROOF_CTL_A w
    let cap := if bitOf w 2 then some (bits w 7 4, 0) else none
    { s with front := { s.front with loopPend := none, loop := w, toneAt := 0, toneMod := [0, 0, 0, 0], capture := cap } }

/-- The front end's part of a frame sample. -/
def State.sampleFront (s : State) : State :=
  let s := { s with front := { s.front with
    micEn := s.fld Reg.FRONT_MIC_EN 15 0
    gains := (List.range 16).map (fun k => gainCode (s.fld (Reg.FRONT_GAIN_0 + 4 * (k / 6)) (5 * (k % 6) + 4) (5 * (k % 6)))) } }
  ((s.samplePdm).updateChans).sampleWatch.startFrontLoop

/-- Loops and capture end at the first frame of a countdown to SAFELIGHT (R308). -/
def State.endFrontLoops (s : State) : State :=
  let s := s.setPair Reg.FRONT_PROOF_CTL_A (s.reg Reg.FRONT_PROOF_CTL_A &&& ~~~(0x7#32))
  let s := { s with front := { s.front with loop := 0, loopPend := none, capture := none } }
  s.setFlag Reg.FRONT_FRONT_STATUS 3

/-- After a gap, PDM data is ignored anew (R300). -/
def State.pdmGap (s : State) : State :=
  if s.front.pdmPhase = 0 then s else { s with front := { s.front with pdmPhase := 1, pdmTick := s.clk.ticks, pdmDecim := false, mirror := none } }

/-! ### The digital streams the unit makes itself (R301, R305) -/

/-- The bits 1, 0, 1, 0, …: silence, and an invalid sample (R301). -/
def restBits (n : Nat) : List Bool := (List.range n).map (fun j => j % 2 == 0)

/-- The next bits of PDM_DO, as many as `n`, and the remodulator's integrators after them: low while the mirror is off, the resting
pattern for an invalid sample; a sample of full scale has eight tenths of the stream's, so that its ones have a density from 0.1 to
0.9 (R301). -/
def State.mirrorRun (s : State) (n : Nat) : List Bool × List Int :=
  match s.front.mirror with
  | none => (List.replicate n false, s.front.remod)
  | some (false, _) => (restBits n, s.front.remod)
  | some (true, v) => shape 0 (5 * 2 ^ 23) s.front.remod (List.replicate n (4 * v.toInt))

/-- The bits of PDM_DO between two high-quality boundaries (R295, R301). -/
def State.mirrorBits (s : State) : List Bool × List Int := s.mirrorRun (2 * s.front.pdmPeriods)

/-- Bits that channel `k`'s source sends for each 48 kHz sample (R284, R295). -/
def State.chanRate (s : State) (k : Nat) : Nat := if s.pdmTakes k then 2 * s.front.pdmPeriods else 128

/-- What a bit of channel `k`'s source stands for in its CIC's output, in 2⁻²⁴ of a 24-bit code (R323, R328). -/
def State.bitWeight (s : State) (k : Nat) : Int :=
  if s.pdmTakes k then Config.cicGain (1 + s.front.pdmRate) * s.front.pdmPeriods ^ 4 * 256 else Config.cicGain 0 * 16 ^ 4 * 256

/-- The amplitude of the test tone at channel `k`'s modulator, in 1/256 of a 24-bit code: −6 × LEVEL dBFS within 0.2 dB; in the analog
loop through the channel's PGA, whose gain has a further 0.2 dB, and no more than full scale (R282, R302, R305). -/
def State.toneAmp (s : State) (k : Nat) : Int :=
  let tone := bits s.front.loop 15 8
  let level := bits s.front.loop 19 16
  let a := nth toneAmplitudes level 0
  if bits s.front.loop 1 0 = 1 then
    let e := clampInt (-4500) 4712 (Config.toneError 1 tone level)
    min (2 ^ 31) (a * nth pgaGains (nth s.front.gains k 0) 0 / 2 ^ 16 * (100000 + e) / 100000)
  else a * (100000 + clampInt (-2276) 2329 (Config.toneError 2 tone level)) / 100000

/-- The next 48 kHz sample's worth of bits that the test tone makes in channel `k`, and its modulator's integrators after them; TONE 0
is silence (R305). -/
def State.toneRun (s : State) (k : Nat) : List Bool × List Int :=
  let tone := bits s.front.loop 15 8
  let n := s.chanRate k
  if tone = 0 then (restBits n, s.front.toneMod)
  else shape (if bits s.front.loop 1 0 = 1 then 2 else 1) (s.bitWeight k) s.front.toneMod
    ((List.range n).map (fun j => s.toneAmp k * 2 ^ 16 * cosTurn (2 * tone * (s.front.toneAt * n + j) + Config.tonePhase * n) n / 2 ^ 30))

/-- The analog or bitstream loop makes the bits that reach channel `k`'s decimator: the analog loop through its converter, while that is
powered (R287, R305). -/
def State.toned (s : State) (k : Nat) : Bool :=
  bits s.front.loop 7 4 == k
    && (bits s.front.loop 1 0 == 2 || (bits s.front.loop 1 0 == 1 && (s.chanOf k).powered && !s.pdmTakes k))

/-- The bits that reach channel `k`'s decimator: its source's, `sent`, or a loop's; none from a converter without power or before
the PDM decimators start (R287, R297, R305). -/
def State.chanBits (s : State) (k : Nat) (sent : List Bool) : List Bool :=
  if s.toned k then (s.toneRun k).1
  else if s.pdmTakes k then
    (if s.front.pdmDecim then (if bits s.front.loop 1 0 = 3 ∧ k = 12 then s.mirrorBits.1 else sent) else [])
  else if (s.chanOf k).powered then sent else []

/-! ### Ticks and faults -/

/-- One bias in one tick: the runs that BIAS_SHORT, BIAS_OPEN and BIAS_OPEN_REARM judge, `n` the ticks that this check of the
limit stands for, none at a tick without one (R278, R281). -/
def Bias.tick (limit low : Bool) (n : Nat) (b : Bias) : Bias :=
  if b.on then
    { b with limit := (if n = 0 then b.limit else if limit then b.limit + n else 0),
             low := if low then b.low + 1 else 0,
             high := if low then 0 else b.high + 1 }
  else { b with limit := 0, low := 0, high := 0 }

/-- The ticks that this tick's check of the current limits stands for: one in DAYLIGHT; in SAFELIGHT a frame's six, at its first
tick (R278). -/
def State.limitCheck (s : State) : Nat :=
  if s.clk.daylight then 1 else if (s.clk.epoch - s.clk.frameEpoch).toNat % 6 = 1 then 6 else 0

/-- The biases in one tick: a load that would draw its limit or more holds it (R278, R281). -/
def State.tickBiases (s : State) (i : TickIn) : State :=
  let bias := s.front.bias.zipIdx.map (fun p =>
    let load : Int := nth i.bias p.2 100
    p.1.tick (decide (s.biasLimit p.2 ≤ 1000 * load)) (decide (load < openLimit p.2)) s.limitCheck)
  { s with front := { s.front with bias := bias } }

/-- The Fixer instance a bias short at channel `k` counts toward: the watch microphone in SAFELIGHT is the watch converter's
(DEDUCED from R273, R280 and R687). -/
def State.biasInstance (s : State) (k : Nat) : Nat := if s.clk.daylight then 5 + k else 21

/-- A short at channel `k` (R279, R280). -/
def State.biasShort (s : State) (k : Nat) : State :=
  let s := s.modBias k (fun b => { b with on := false, ramp := none, shorted := some s.clk.ticks, limit := 0 })
  let s := (s.setFlag Reg.FRONT_BIAS_SHORT k).countSat Reg.FRONT_BIAS_FAULTS
  let s := s.raise Log.FRONT 1 (ofBytes k (b2n s.clk.daylight) 0 0)
  let (s, _, lasting) := s.fixerCount (s.biasInstance k)
  if lasting then
    let s := s.setFld Reg.FRONT_BIAS_EN k 1 0
    let s := s.modBias k (fun b => { b with latched := true })
    s.raise Log.FRONT 2 (ofBytes k 0 0 0)
  else s

/-- A short of bias `k` has been judged lasting in the present cycle: the hardware holds its BIAS_EN bit at 0 (R253, R280). -/
def State.biasForced (s : State) (k : Nat) : Bool :=
  (s.biasOf k).latched && (s.fixer.struck.contains (5 + k) || (k == s.front.watchMic && s.fixer.struck.contains 21))

/-- A host write has set BIAS_EN bit `k`: a lasting short is released and the bias may restart (R280, R687). -/
def State.releaseBias (s : State) (k : Nat) : State :=
  if s.biasForced k then s
  else
    let s := s.fixerRelease (5 + k)
    let s := if k = s.front.watchMic then s.fixerRelease 21 else s
    s.modBias k (fun b => if b.latched then { b with latched := false, shorted := none } else b)

/-- An open is flagged (R281). -/
def State.biasOpen (s : State) (k : Nat) : State :=
  let s := s.modBias k (fun b => { b with armed := false, high := 0 })
  (s.setFlag Reg.FRONT_BIAS_OPEN k).raise Log.FRONT 3 (ofBytes k 0 0 0)

/-! ### Trim (R303, R304) -/

/-- Whether a trim word holds a value (R303). -/
def trimHeld (w : Nat) : Bool := if w < 0x80 then decide (w % 8 < 4) else decide (w < 0x88)

/-- A trim word: a signed value in bits 15:0; reserved words read 0. -/
def State.trimRead (s : State) (w : Nat) : Word :=
  if trimHeld w then (match assocGet s.front.trim w with | some v => v | none => Config.factoryTrim w) &&& 0xFFFF#32 else 0

/-- Whether the converter of a trim word is powered, which refuses a write (R304). -/
def State.trimLocked (s : State) (w : Nat) : Bool :=
  if w < 0x80 then trimHeld w && (s.chanOf (w / 8)).powered
  else if w < 0x84 then s.front.watchRun
  else if w < 0x88 then bits s.front.loop 1 0 == 1
  else false

/-- A trim write; reserved words ignore it. -/
def State.trimWrite (s : State) (w : Nat) (v : Word) : State :=
  if trimHeld w then { s with front := { s.front with trim := assocSet s.front.trim w (v &&& 0xFFFF#32) } } else s

/-! ### Proof control and PDM configuration writes (R299, R306) -/

/-- Whether a PROOF_CTL value is refused with ACCESS (R306). -/
def State.frontLoopRefused (s : State) (w : Word) : Bool :=
  match bits w 1 0 with
  | 1 => !s.clk.daylight || s.pdmTakes (bits w 7 4)
  | 3 => !s.clk.daylight || !(s.front.pdmPhase == 2 && s.front.mirrorEn)
  | _ => !s.clk.daylight

/-- Whether a PDM_CFG write is refused: it changes RATE or CH while the stored EN is 1 (R299). -/
def State.pdmWriteRefused (s : State) (w : Word) : Bool :=
  let old := s.reg Reg.FRONT_PDM_CFG
  bitOf old 0 && bits (maskedWrite old w) 6 1 != bits old 6 1

end Sys2Proof.Machine
end

