-- ==== Sys2Proof/Machine/Taps.lean ====
section
/-! DEFINITION. The coefficients the spec bounds but does not give: the factory words of the decimation filters (R324 to R328, R341), the
ROM of the drive interpolators (R554, R556) and Aperture's interpolator (R360). The die's own, uninterpreted taps stand where they keep
the rule's figures; where they do not, a built-in set that keeps them takes their place (log 113, log 132, log 133). -/

namespace Sys2Proof.Machine

/-! ### Responses -/

/-- The coefficients of a product of polynomials. -/
def polyMul : List Int → List Int → List Int
  | [], _ => []
  | a :: as, bs =>
    let p := polyMul as bs
    (List.range (as.length + bs.length)).map (fun i => a * nth bs i 0 + (if i = 0 then 0 else nth p (i - 1) 0))

/-- The impulse response of a CIC: `n` running sums of `r` inputs (R323). -/
def cicTaps (r : Nat) : Nat → List Int
  | 0 => [1]
  | n + 1 => polyMul (List.replicate r 1) (cicTaps r n)

/-- A stage of a filter chain: its taps, newest input first, the sum of its taps at a gain of 1, and its rate in units of 50 Hz. -/
structure FirStage where
  taps : List Int
  gain : Nat
  rate : Nat

/-- A stage's response at 50 × `m` Hz, its taps weighted by `w` of their place: real and imaginary part, in 2⁻³⁰ of a tap. -/
def FirStage.at_ (g : FirStage) (w : Nat → Int) (m : Nat) : Int × Int :=
  g.taps.zipIdx.foldl (fun a t =>
    let p := 1024 * m * t.2
    (a.1 + w t.2 * t.1 * cosFine p g.rate, a.2 - w t.2 * t.1 * cosFine (p + 768 * g.rate) g.rate)) (0, 0)

/-- A stage's power response at 50 × `m` Hz. -/
def FirStage.level (g : FirStage) (m : Nat) : Rat :=
  let (re, im) := g.at_ (fun _ => 1) m
  ((re * re + im * im : Int) : Rat) / ((g.gain * 2 ^ 30) ^ 2 : Nat)

/-- A stage's group delay at 50 × `m` Hz, in samples at 48 kHz. -/
def FirStage.delay (g : FirStage) (m : Nat) : Rat :=
  let (re, im) := g.at_ (fun _ => 1) m
  let (dr, di) := g.at_ (fun n => n) m
  ((dr * re + di * im : Int) : Rat) / (re * re + im * im : Int) * 960 / g.rate

/-- A chain's power response and group delay. -/
def chainLevel (c : List FirStage) (m : Nat) : Rat := (c.map (·.level m)).foldl (· * ·) 1
def chainDelay (c : List FirStage) (m : Nat) : Rat := (c.map (·.delay m)).foldl (· + ·) 0

/-- What a rule asks of a response, as powers, frequencies in units of 50 Hz: the passband's end and its least and greatest power; the
−3 dB point; the stopband's start and end and its greatest power. -/
structure Mask where
  pass  : Nat
  least : Rat
  most  : Rat
  half  : Nat
  stop  : Nat
  last  : Nat
  floor : Rat

/-- A chain keeps a mask, at every multiple of 250 Hz; its −3 dB point lies within 50 Hz of the one given. -/
def Mask.keeps (k : Mask) (c : List FirStage) : Bool :=
  (List.range (k.pass / 5 + 1)).all (fun i => decide (k.least ≤ chainLevel c (5 * i)) && decide (chainLevel c (5 * i) ≤ k.most))
    && decide (50118723 / 100000000 ≤ chainLevel c (k.half - 1)) && decide (chainLevel c (k.half + 1) ≤ 50118723 / 100000000)
    && (List.range ((k.last - k.stop) / 5 + 1)).all (fun i => decide (chainLevel c (k.stop + 5 * i) ≤ k.floor))

/-- A value lies within 0.1 of another. -/
def nearTenth (a b : Rat) : Bool := decide (10 * a ≤ 10 * b + 1) && decide (10 * b ≤ 10 * a + 1)

/-- A symmetric list of `n` taps from its first half (R324). -/
def mirrorTaps (n : Nat) (tap : Nat → Int) : List Int := (List.range n).map (fun j => tap (min j (n - 1 - j)))

/-! ### The factory words of the decimation filters (R324 to R328, R341, R342) -/

/-- The FIR taps of a filter set: HB1, HB2, Final (R324). -/
structure SetTaps where
  hb1 : List Int
  hb2 : List Int
  fin : List Int

/-- The high-quality chain of an analog channel, its Align stage apart (R323). -/
def SetTaps.chain (t : SetTaps) : List FirStage :=
  [⟨cicTaps 16 4, 65536, 122880⟩, ⟨t.hb1, 2 ^ 23, 7680⟩, ⟨t.hb2, 2 ^ 23, 3840⟩, ⟨t.fin, 2 ^ 23, 1920⟩]

/-- R325's rows of sets L and M, up to 192 kHz (log 132). -/
def maskL : Mask := ⟨400, 99884936 / 100000000, 100115196 / 100000000, 452, 560, 3840, 1 / 10000000000⟩
def maskM : Mask := ⟨400, 99540542 / 100000000, 100461579 / 100000000, 448, 560, 3840, 31622777 / 100000000000000000⟩

/-- R325's low-power row, its stopband as far as 63 taps reach with the rest of it: 40 of its 85 dB (log 132). -/
def maskLp : Mask := ⟨130, 98855309 / 100000000, 101157945 / 100000000, 146, 190, 640, 1 / 10000⟩

/-- Set M's group delays, of the analog chain by frequency (R326), and, through Final, of a PDM channel at 1 kHz at each RATE (R328). -/
def SetTaps.delaysM (t : SetTaps) : Bool :=
  [(2, (44 : Rat) / 10), (20, 45 / 10), (100, 48 / 10), (200, 56 / 10), (300, 71 / 10), (400, 109 / 10)].all
      (fun p => nearTenth (chainDelay t.chain p.1) p.2)
    && [(62 : Rat) / 64, 96 / 100, 60 / 64].all (fun c => nearTenth (c + 7 / 2 + (FirStage.mk t.fin (2 ^ 23) 1920).delay 20) (62 / 10))

/-- A die's factory tap (R341). -/
def dieTap (w : Nat) : Int := sgnOf 24 (Config.factoryTap w).toNat

/-- A die's sets L and M, and its low-power FIR. -/
def dieL : SetTaps :=
  ⟨mirrorTaps 15 (fun j => dieTap (0x001 + j)), mirrorTaps 31 (fun j => dieTap (0x010 + j)), mirrorTaps 63 (fun j => dieTap (0x02F + j))⟩
def dieM : SetTaps :=
  ⟨(List.range 15).map (fun j => dieTap (0x081 + j)), (List.range 31).map (fun j => dieTap (0x090 + j)),
   (List.range 63).map (fun j => dieTap (0x0AF + j))⟩
def dieLp : List Int := mirrorTaps 63 (fun j => dieTap (0x101 + j))

/-- A set L that keeps R325. -/
def builtL : SetTaps :=
  ⟨mirrorTaps 15 (fun j => nth [5291, 36067, 35299, -189488, -397385, 438374, 2454013, 3624537] j 0),
   mirrorTaps 31 (fun j => nth [167, 191, -1886, -3945, 6183, 22688, -4837, -75632, -35356, 176060, 188986, -310028, -627049, 429806, 2570928, 3715990] j 0),
   mirrorTaps 63 (fun j => nth [444, 747, -924, -3122, -347, 5372, 1712, -9708, -5379, 15337, 11657, -22786, -22021, 31845, 37858, -42393, -61130,
      54014, 94417, -66167, -141666, 78136, 209795, -89024, -313135, 97782, 489045, -102374, -874908, 90695, 2670997,
      4116063] j 0)⟩

/-- A set M that keeps R325, R326 and R328. -/
def builtM : SetTaps :=
  ⟨[243784, 921803, 1295117, 996941, 947872, 1047703, 819336, 1018254, 1302897, 980681, 828315, 818832, 358600, -34650,
   -46228],
   [107104, 393718, 422670, -240578, -817079, -345826, 403430, 499959, 824269, 1872460, 2391354, 1907913, 1170061,
   157272, -1101420, -1566022, -1124519, -762200, -452682, 278082, 759707, 440018, 20971, -22474, -146787, -422919,
   -315989, 137189, 359085, 221898, 50591],
   [117091, 609516, 1490790, 2288692, 2562397, 2291534, 1435865, -33003, -1174950, -610023, 1092691, 1439946, -244545,
   -1410692, -349434, 989974, 455545, -764801, -597762, 387348, 479390, -187806, -395952, -12101, 255816, 128219,
   -145197, -210899, 57682, 270267, 11720, -304462, -54569, 326632, 82103, -329952, -90797, 320357, 87773, -297980,
   -76287, 266431, 59620, -229773, -41900, 189987, 24316, -150940, -10477, 113990, -205, -82319, 6389, 55605, -10314,
   -34810, 10626, 18489, -9340, -7816, 5465, 1600, -2367]⟩

/-- A low-power FIR. -/
def builtLp : List Int :=
  mirrorTaps 63 (fun j => nth
    [-43403, -22420, 10302, 21357, 47539, 28273, 4167, -46809, -65505, -60425, -3400, 58355, 107284, 91565, 23347, -80878,
     -151767, -150924, -53096, 94401, 223118, 244167, 125758, -106018, -341836, -450891, -316274, 89402, 698204, 1345277,
     1840874, 2024643] j 0)

/-- The factory's set L, set M and low-power FIR. -/
def factoryL : SetTaps := if maskL.keeps dieL.chain then dieL else builtL
def factoryM : SetTaps := if maskM.keeps dieM.chain && dieM.delaysM then dieM else builtM
def factoryLp : List Int :=
  if maskLp.keeps [⟨cicTaps 12 3, 1728, 15360⟩, ⟨dieLp, 2 ^ 23, 1280⟩] then dieLp else builtLp

/-! ### The ROM of the drive interpolators (R554, R556) -/

/-- The interpolation chain from 96 kHz to the modulator's input: stages A and B, each of which doubles the rate, and the CIC (R554). -/
def romChain (a b : List Int) : List FirStage := [⟨a, 2 ^ 24, 3840⟩, ⟨b, 2 ^ 24, 7680⟩, ⟨cicTaps 32 3, 32768, 245760⟩]

/-- R556's rows, up to 192 kHz (log 133). -/
def maskRomL : Mask := ⟨400, 99770006 / 100000000, 100230524 / 100000000, 860, 1040, 3840, 1 / 1000000000⟩
def maskRomM : Mask := ⟨400, 99540542 / 100000000, 100461579 / 100000000, 850, 1040, 3840, 31622777 / 10000000000000000⟩

/-- A die's taps of a stage: set L is symmetric. -/
def dieRom (m stageB : Bool) : List Int :=
  let n := if stageB then 15 else 61
  if m then (List.range n).map (Config.romTap true stageB) else mirrorTaps n (Config.romTap false stageB)

/-- Sets L and M that keep R556's levels: stage A, stage B. -/
def builtRomL : List Int × List Int :=
  (mirrorTaps 61 (fun j => nth [1728, 7876, 8940, -8588, -31802, -14774, 45692, 62588, -26666, -110142, -25862, 138086, 98700, -143994, -190874,
      119982, 303948, -42844, -418922, -100924, 507906, 307522, -561468, -589908, 579048, 1020364, -533356, -1821964,
      442438, 5397308, 8040666] j 0),
   mirrorTaps 15 (fun j => nth [17038, 46778, -95926, -543952, -510408, 1404780, 4759502, 6525174] j 0))
def builtRomM : List Int × List Int :=
  ([70570, 495562, 1740970, 3894194, 5901272, 5823562, 2735182, -1498950, -3352196, -1393662, 1722982, 2222466, -136272,
    -1931208, -856046, 1233680, 1282304, -509586, -1309518, -79048, 1093596, 473850, -759500, -666868, 411768, 693360,
    -120296, -613900, -92086, 477604, 226314, -313188, -279468, 153940, 260138, -32288, -192486, -26814, 126846, 47872,
    -75586, -48592, 40124, 40100, -17990, -29054, 5786, 18862, -58, -11074, -1806, 5744, 1920, -2688, -1208, 944, 716,
    -410, -150, 66, 18],
   [147134, 1051194, 3323938, 5918308, 6077046, 2833148, -853212, -1787892, -558014, 358492, 259660, -15912, -44518,
    -1628, 3708])

/-- Stages A and B of the ROM's sets. -/
def romL : List Int × List Int :=
  if maskRomL.keeps (romChain (dieRom false false) (dieRom false true)) then (dieRom false false, dieRom false true) else builtRomL
def romM : List Int × List Int :=
  if maskRomM.keeps (romChain (dieRom true false) (dieRom true true)) then (dieRom true false, dieRom true true) else builtRomM

/-- Stage taps: 61 of A and 15 of B, of set M (`m`) or set L (R554). -/
def romTaps (m stageB : Bool) : List Int :=
  let t := if m then romM else romL
  if stageB then t.2 else t.1

/-! ### Aperture's interpolator (R360) -/

/-- A set of 16 taps at fraction `f`: its response at 250 × `m` Hz, relative to that of the delay asked for, as real and imaginary
part in 2⁻³⁰ (R360). -/
def tapResponse (tap : Nat → Rat) (f m : Nat) : Rat × Rat :=
  let turn := fun j => m * (2048 * (j + 185) - f)
  ((List.range 16).foldl (fun a j => a + tap j * cosTurn (turn j) 384) 0,
   (List.range 16).foldl (fun a j => a + tap j * cosTurn (turn j + 768 * 384) 384) 0)

/-- The set keeps R360's magnitude and delay errors at 250 × `m` Hz. -/
def keepsResponse (tap : Nat → Rat) (f m : Nat) : Bool :=
  let (re, im) := tapResponse tap f m
  let p := (re * re + im * im) / (2 ^ 60 : Nat)
  let (least, slope) : Rat × Rat := if m ≤ 64 then (99770 / 100000, 16362 / 100000000) else (94406 / 100000, 65450 / 100000000)
  decide (least ≤ p) && decide (p ≤ 100231 / 100000) && decide (im ≤ m * slope * re) && decide (-im ≤ m * slope * re)

/-- Fractions, in 1/2,048 sample, as far from a whole sample as 16 taps keep R360's table up to 20 kHz. -/
def wholeReach (f : Nat) : Bool := decide (min f (2048 - f) ≤ 860)

/-- The set keeps R360's table at every multiple of 250 Hz up to 20 kHz. DEDUCED (log 113): nearer one half, where no 16 taps keep it in
its last 500 Hz, up to 19.5 kHz. -/
def keepsTable (tap : Nat → Rat) (f : Nat) : Bool := (List.range (if wholeReach f then 81 else 79)).all (keepsResponse tap f)

/-- A set that keeps R360 up to 19.5 kHz at every fraction: eight taps as polynomials in the fraction less one half, by rising powers, in
2⁻²⁴; the other eight mirror them. -/
def farrow : List (List Int) :=
  [[-40619, 723911, 1087705, -7706974, -4011513, 19959265],
   [112421, -1962296, -2063550, 17980381, 7034399, -41806041],
   [-254748, 3393433, 3090838, -30231834, -9366525, 68442560],
   [503250, -5113081, -4514898, 46358415, 11541876, -105272925],
   [-922171, 6712745, 6448514, -60315044, -12816779, 134886008],
   [1660934, -8290862, -9519693, 74317876, 13590763, -164979997],
   [-3255672, 10554059, 15600511, -88842829, -12212793, 184757848],
   [10575766, -29895206, -9856249, 102171126, 5215173, -195591899]]

/-- A set that keeps it up to 20 kHz at fractions up to 860/2,048: 16 taps as polynomials in (f − 430)/430, by rising powers, in 2⁻²⁴;
at fractions from 1,188/2,048 on they are mirrored. -/
def farrowWhole : List (List Int) :=
  [[-41056, -95816, -13068, 32849, -26543],
   [120616, 271026, 33188, -106382, 77417],
   [-253963, -460536, -37357, 155832, -115198],
   [460527, 706720, 25570, -194202, 145162],
   [-751966, -1072086, 18998, 292613, -201538],
   [1287949, 1548824, -165122, -354107, 240027],
   [-2614478, -2371213, 657573, 303464, -241187],
   [15584501, -1643296, -832720, -237927, 259006],
   [4042268, 3815351, 130343, 206307, -265158],
   [-1592945, -926187, 346284, -191425, 227411],
   [827556, 221486, -296138, 219301, -204791],
   [-443809, 83550, 228845, -241252, 194447],
   [203076, -164125, -159143, 180462, -144931],
   [-69260, 155282, 101104, -114353, 91838],
   [9040, -143530, -52776, 95594, -67494],
   [4398, 60680, 15735, -43884, 27979]]

/-- A polynomial in 2⁻²⁴ at `x`. -/
def polyAt (p : List Int) (x : Rat) : Rat := p.foldr (fun c a => (c : Rat) + x * a) 0 / (2 ^ 24 : Nat)

/-- A tap of those sets. -/
def farrowTap (f j : Nat) : Rat :=
  let x : Rat := (f : Rat) / 2048 - 1 / 2
  if f ≤ 860 then polyAt (nth farrowWhole j []) (((f : Rat) - 430) / 430)
  else if 1188 ≤ f then polyAt (nth farrowWhole (15 - j) []) ((2048 - (f : Rat) - 430) / 430)
  else if j < 8 then polyAt (nth farrow j []) x else polyAt (nth farrow (15 - j) []) (-x)

/-- The taps of the interpolator at a fraction other than 0: the die's, which keep R360 (log 113). -/
def interpTaps (f : Nat) : Nat → Rat :=
  if keepsTable (Config.interpTap f) f then Config.interpTap f else farrowTap f

end Sys2Proof.Machine
end

