-- ==== Sys2Proof/Machine/Decim.lean ====
section
/-! DEFINITION. Decimation and filtering: the two paths, phase transitions, DC blockers, the coefficient store and the
compatibility banks (R313 to R356). -/

namespace Sys2Proof.Machine

/-! ### The coefficient store (R340 to R345) -/

/-- Whether a store word is reserved (R340). -/
def coefReserved (w : Nat) : Bool :=
  (decide (0x06E ≤ w) && decide (w ≤ 0x07F)) || (decide (0x0EE ≤ w) && decide (w ≤ 0x0FF)) || (decide (0x140 ≤ w) && decide (w ≤ 0x17F))

/-- Whether a store word is a header (R340). -/
def coefHeader (w : Nat) : Bool := [0x000, 0x080, 0x100, 0x180, 0x1C0].contains w

/-- The store word of a tap (R341). -/
def tapWord (taps : List Int) (j : Nat) : Word := BitVec.ofInt 32 (nth taps j 0)

/-- Factory value of a store word: the sets' taps, and in each bank the Final taps of set L (R324, R341). -/
def coefFactory (w : Nat) : Word :=
  if w = 0x000 ∨ w = 0x180 ∨ w = 0x1C0 then 0x00690580#32
  else if w = 0x080 then 0x00000120#32
  else if w = 0x100 then 0x003A0240#32
  else if w ≤ 0x00F then tapWord factoryL.hb1 (w - 0x001)
  else if w ≤ 0x02E then tapWord factoryL.hb2 (w - 0x010)
  else if w ≤ 0x06D then tapWord factoryL.fin (w - 0x02F)
  else if w ≤ 0x08F then tapWord factoryM.hb1 (w - 0x081)
  else if w ≤ 0x0AE then tapWord factoryM.hb2 (w - 0x090)
  else if w ≤ 0x0FF then tapWord factoryM.fin (w - 0x0AF)
  else if w ≤ 0x13F then tapWord factoryLp (w - 0x101)
  else if w ≤ 0x1BF then tapWord factoryL.fin (w - 0x181)
  else tapWord factoryL.fin (w - 0x1C1)

/-- The stored form of a word: a header's bits 31:24 are 0; a tap reads with copies of bit 23 above (R341). -/
def coefForm (w : Nat) (v : Word) : Word :=
  if coefHeader w then v &&& 0x00FFFFFF#32 else (v.truncate 24 : BitVec 24).signExtend 32

/-- A read of a store word (R340, R341). -/
def State.coefRead (s : State) (w : Nat) : Word :=
  if coefReserved w then 0
  else coefForm w (match assocGet s.decim.coef w with | some v => v | none => coefFactory w)

/-- A write of a store word, which sets its parity bit; reserved words ignore it (R340, R345). -/
def State.coefWrite (s : State) (w : Nat) (v : Word) : State :=
  if coefReserved w then s
  else { s with decim := { s.decim with coef := assocSet s.decim.coef w (coefForm w v), coefPar := assocDel s.decim.coefPar w } }

/-- A stored bit of a store word is turned over: one of its 24, or, as bit 32, its parity bit (R341, R345). -/
def State.coefUpset (s : State) (w i : Nat) : State :=
  let v := s.coefRead w
  let p := (assocGet s.decim.coefPar w).getD (parity v)
  if coefReserved w || (decide (24 ≤ i) && i != 32) then s
  else if i = 32 then { s with decim := { s.decim with coefPar := assocSet s.decim.coefPar w !p } }
  else { s with decim := { s.decim with coef := assocSet s.decim.coef w (coefForm w (v ^^^ oneBit i)), coefPar := assocSet s.decim.coefPar w p } }

/-- The parity bit of a store word does not fit it (R345). -/
def State.coefBad (s : State) (w : Nat) : Bool :=
  match assocGet s.decim.coefPar w with | some p => p != parity (s.coefRead w) | none => false

/-- COMPAT (R346). -/
def State.compat (s : State) : Bool := s.flag Reg.DECIM_DECIM_CFG 8

/-- The high-quality path runs (R314, R338). -/
def State.hqRuns (s : State) : Bool := s.blockUp 1 && !s.decim.hqStopped

/-- The low-power path runs (R315, R338). -/
def State.lpRuns (s : State) : Bool := s.front.watchRun && !s.decim.lpStopped

/-- Whether a store write is refused: outside the words R343 and R349 accept, always (R343, R349). -/
def State.coefRefused (s : State) (w : Nat) : Bool :=
  if w < 0x0EE then !(s.decim.hqStopped || !s.clk.daylight)
  else if w < 0x100 then true
  else if w < 0x140 then !s.decim.lpStopped
  else if w < 0x180 then true
  else
    let bank := (w - 0x180) / 0x40
    (s.compat && bank == s.decim.bank && s.hqRuns) || s.decim.swap == some bank

/-- GROUP_DELAY: the declared delays of the headers in use (R327, R330, R347). -/
def State.groupDelay (s : State) : Word :=
  let hq := if s.compat then s.coefRead (0x180 + 0x40 * s.decim.bank) else s.coefRead (if s.decim.inUse then 0x080 else 0x000)
  pack [(16, 16, bits (s.coefRead 0x100) 15 0), (0, 16, bits hq 15 0)]

/-! ### Multiply and accumulate (R313, R322, R323, R328) -/

/-- What a register of `width` bits holds of a sum: the sum, where it fits, else a free value of that width. -/
def held (width kind : Nat) (v : Int) : Int :=
  if -(2 : Int) ^ (width - 1) ≤ v ∧ v < (2 : Int) ^ (width - 1) then v else sgnOf width (wrapInt width (Config.overflow kind v))

/-- The products of taps and samples, newest first, summed: tap 0 multiplies the newest input (R341). -/
def mac : List Int → List Int → Int
  | c :: cs, x :: xs => (if x = 0 then 0 else c * x) + mac cs xs
  | _, _ => 0

/-- The same in a 48-bit accumulator, tap 0 first, from what it holds (R313). -/
def mac48 (stage : Nat) : Int → List Int → List Int → Int
  | acc, c :: cs, x :: xs => mac48 stage (if x = 0 then acc else held 48 stage (acc + c * x)) cs xs
  | acc, _, _ => acc

/-- A sum in `1/d` of a unit, taken to a unit. -/
def narrow (stage : Nat) (d v : Int) : Int :=
  if v % d = 0 then v / d else v / d + (if Config.roundsUp stage v then 1 else 0)

/-- A FIR stage that gives one output for every `r` inputs: its newest `n` outputs, newest first. Taps are in 2⁻²³ (R323, R341). -/
def fir (stage : Nat) (taps : List Int) (r n : Nat) (xs : List Int) : List Int :=
  (List.range n).map (fun j => narrow stage (2 ^ 23) (mac48 stage 0 taps (xs.drop (r * j))))

/-- A hardware CIC of order `order` and ratio `r`: its newest `n` outputs in 24-bit codes (R323, R328). -/
def cicOut (kind order r n : Nat) (xs : List Int) : List Int :=
  (List.range n).map (fun j => narrow (6 + kind) 65536 ((Config.cicGain kind : Int) * mac (cicTaps r order) (xs.drop (r * j))))

/-- The bits of a stream as +1 and −1, newest first. -/
def bitValues (l : List Bool) : List Int := (l.map (fun b => if b then (1 : Int) else -1)).reverse

/-- The Align stage: the newest sample delayed by `a`/64 sample, in 2⁻²³ of a code (R323, R344). -/
def alignOut (a : Nat) (xs : List Int) : Int :=
  if a % 64 = 0 then 2 ^ 23 * nth xs (a / 64) 0
  else mac48 5 0 ((List.range 16).map (Config.alignTap a)) xs

/-- The droop compensator's taps: 15, linear-phase (R328). -/
def droopTaps : List Int := (List.range 15).map (fun j => Config.droopTap (min j (14 - j)))

/-- The coefficients of one filter set in use (R324, R341, R347). -/
structure TapSet where
  hb1   : List Int
  hb2   : List Int
  fin   : List Int
  align : Nat

/-- `n` taps of the store from word `w` on (R341). -/
def State.taps (s : State) (w n : Nat) : List Int := (List.range n).map (fun j => sgnOf 32 (s.coefRead (w + j)).toNat)

/-- The coefficients of set M (`m`) or L: under COMPAT Final and Align take those of the active bank (R324, R347). -/
def State.tapSet (s : State) (m : Bool) : TapSet :=
  let b := if m then 0x080 else 0x000
  let f := if s.compat then 0x180 + 0x40 * s.decim.bank else b
  ⟨s.taps (b + 1) 15, s.taps (b + 0x10) 31, s.taps (if s.compat then f + 1 else b + 0x2F) 63, bits (s.coefRead f) 23 16⟩

/-- ADJ, which Align adds for a PDM channel under PHASE 0 (R328). -/
def State.alignAdj (s : State) : Nat := 25 + s.front.pdmRate

/-- One set's Final and Align stages, from the newest samples at 96 kHz: the set's output in 2⁻²³ of a code, and its histories. -/
def SetHist.finish (h : SetHist) (t : TapSet) (align : Nat) (xs : List Int) : Int × SetHist :=
  let fin := xs ++ h.fin
  let al := fir 3 t.fin 2 1 fin ++ h.align
  (alignOut align al, { h with fin := fin.take 63, align := al.take 16 })

/-- One set's stages for an analog channel, from the CIC's outputs (R323). -/
def SetHist.analog (h : SetHist) (t : TapSet) (cic : List Int) : Int × SetHist :=
  let hb2 := fir 1 t.hb1 2 4 cic ++ h.hb2
  ({ h with hb2 := hb2.take 31 }).finish t t.align (fir 2 t.hb2 2 2 hb2)

/-- A channel's stages at a boundary: each set that runs, L and M, gives its output (R323, R324, R328, R329). -/
def State.chainStep (s : State) (k : Nat) (sent : List Bool) (l m : Option TapSet) : (Int × Int) × Chain :=
  let c := nth s.decim.chains k {}
  let xs := bitValues (s.chanBits k sent) ++ c.bits
  let pdm := s.pdmTakes k
  let rate := s.front.pdmRate
  let ratio := if pdm then s.front.pdmPeriods else 16
  let cic := (if pdm then cicOut (1 + rate) 4 ratio 2 xs else cicOut 0 4 16 8 xs) ++ c.cic
  let run := fun (h : SetHist) (t : Option TapSet) (adj : Nat) =>
    match t with
    | none => (0, h)
    | some t => if pdm then h.finish t (t.align + adj) (fir 4 droopTaps 1 2 cic) else h.analog t cic
  let (x, hl) := run c.l l s.alignAdj
  let (y, hm) := run c.m m 0
  ((x, y), { bits := xs.take 128, cic := cic.take 16, l := hl, m := hm })

/-- The low-power path's stages at a boundary: the output in 2⁻²³ of a 24-bit code (R323). -/
def State.lpChain (s : State) (sent : List Bool) : Int × Chain :=
  let c := nth s.decim.chains 16 {}
  let xs := bitValues sent ++ c.bits
  let cic := cicOut 4 3 12 4 xs ++ c.cic
  let al := fir 12 (s.taps 0x101 63) 4 1 cic ++ c.l.align
  (alignOut (bits (s.coefRead 0x100) 23 16) al, { c with bits := xs.take 48, cic := cic.take 63, l := { c.l with align := al.take 16 } })

/-! ### DC blocker (R333 to R337) -/

/-- The blocker's step for one input, in 1/256 of a high-quality code or 1/65,536 of a low-power one, so that an estimate has 32
bits: the output and the next estimate. -/
def dcBlock (x est : Int) (valid seed frozen bypass : Bool) (shift : Nat) : Int × Int :=
  let est := if seed && valid && !frozen then held 32 14 x else est
  if bypass then (x, est)
  else (x - est, if !frozen && valid then held 32 14 (est + (x - est) / 2 ^ shift) else est)

/-- The estimate and seed mark of source `k` (16 is the watch converter). -/
def State.dcStep (s : State) (k : Nat) (x : Int) (valid frozen bypass : Bool) (shift : Nat) : Int × State :=
  let (y, e) := dcBlock x (nth s.decim.est k 0) valid (nth s.decim.seed k true) frozen bypass shift
  (y, { s with decim := { s.decim with est := s.decim.est.set k e, seed := s.decim.seed.set k (!valid) } })

/-! ### Phase transition (R329 to R332) -/

/-- PHASE is sampled (R329, R332). -/
def State.samplePhase (s : State) : State := { s with decim := { s.decim with phase := s.flag Reg.DECIM_DECIM_CFG 0 } }

/-- One boundary of a transition: counts its outputs, 32 of priming and 64 of cross-fade. A transition begins where the
sampled PHASE differs from the set in use; its first output is the next one. -/
def State.stepTransition (s : State) : State :=
  match s.decim.trans with
  | none =>
    if s.decim.phase != s.decim.inUse then
      let new := fun (c : Chain) => if s.decim.inUse then { c with l := {} } else { c with m := {} }
      { s with decim := { s.decim with trans := some (false, 0), chains := s.decim.chains.take 16 |>.map new |>.append (s.decim.chains.drop 16) } }
    else s
  | some (false, n) => { s with decim := { s.decim with trans := some (false, min 32 (n + 1)) } }
  | some (true, n) =>
    { s with decim := { s.decim with trans := some (true, min 64 (n + 1)), transEnd := if n = 63 then some s.clk.ticks else s.decim.transEnd } }

/-- Whether set M (`m`) or L filters the sample of this boundary: the set in use, and in a transition the new set from the sample
after its first boundary on (R329). -/
def State.setRuns (s : State) (m : Bool) : Bool :=
  s.decim.inUse == m || (match s.decim.trans with | some (b, n) => b || n != 0 | none => false)

/-- The engine's output before the blocker, in 1/256 code, from the sets' in 2⁻²³: the old set's, or the cross-fade of output n
(R329). -/
def State.mixSets (s : State) (old new : Int) : Int :=
  match s.decim.trans with
  | some (true, n) => narrow 5 (64 * 2 ^ 15) ((64 - (n : Int)) * old + (n : Int) * new)
  | _ => narrow 5 (2 ^ 15) old

/-- XFADE_LEFT (R356). -/
def State.xfadeLeft (s : State) : Nat :=
  match s.decim.trans with
  | none => 0
  | some (false, n) => 96 - n
  | some (true, n) => 64 - n

/-! ### Outputs (R319 to R322) -/

/-- A clamped output: flag and count (R322). -/
def State.countSatOut (s : State) (bit : Nat) : State := (s.setFlag Reg.DECIM_DECIM_STATUS bit).countSat Reg.DECIM_SAT_COUNT

/-- Whether the high-quality path has run for 256 ticks (R321). -/
def State.hqReady (s : State) : Bool := s.hqRuns && s.elapsed s.decim.hqStart 256

/-- A sample of channel `k` goes to the capture area while a capture of that channel runs (R305). -/
def State.captureWord (s : State) (k : Nat) (w : Word) : State :=
  match s.front.capture with
  | some (ch, n) =>
    if ch = k ∧ n < 4096 then
      let s := s.setTank (Tank.capture + n) w
      { s with front := { s.front with capture := some (ch, n + 1) } }
    else s
  | none => s

/-- Channel `k`'s filters take one boundary's bits: the sample before the blocker, in 1/256 code (R323, R329). -/
def State.filterChannel (s : State) (k : Nat) (sent : List Bool) (l m : Option TapSet) : Int × State :=
  let (o, c) := s.chainStep k sent l m
  let s := if s.toned k then { s with front := { s.front with toneAt := s.front.toneAt + 1, toneMod := (s.toneRun k).2 } } else s
  let s := { s with decim := { s.decim with chains := s.decim.chains.set k c } }
  (if s.decim.inUse then s.mixSets o.2 o.1 else s.mixSets o.1 o.2, s)

/-- Channel `k` at a high-quality boundary: filters, blocker, rounding, clamp, and the window word (R320 to R323, R333, R622).
While the path is stopped the word has VALID = 0 (R338). -/
def State.hqChannel (s : State) (i : HqIn) (l m : Option TapSet) (k : Nat) : State :=
  if !s.hqRuns then (s.setTank (chanWindowAddr k s.clk.epoch) 0).captureWord k 0
  else
    let (x, s) := s.filterChannel k (nth i.bits k []) l m
    let (y, s) := s.dcStep k x (s.chanValid k) (s.flag Reg.DECIM_DC_FREEZE k) (s.flag Reg.DECIM_DC_BYPASS k) (10 + s.fld Reg.DECIM_DC_CFG 1 0)
    let r := roundHalfUp y 256
    let c := clampInt (-0x800000) 0x7FFFFF r
    let s := if c = r then s else s.countSatOut 0
    let valid := s.chanValid k && s.hqReady
    let s := s.setTank (chanWindowAddr k s.clk.epoch) (hqWord c valid)
    s.captureWord k (hqWord c (s.chanDelivers k && s.hqReady))

/-- The current high-quality output of channel `k` (the word stamped with the present epoch). -/
def State.hqNow (s : State) (k : Nat) : Word := s.tank (chanWindowAddr k s.clk.epoch)

/-- The reload that a parity failure asks for: the path's words take their factory values, and the active bank returns to 0
(R345). -/
def State.reloadCoef (s : State) (hq : Bool) : State :=
  let keep := fun (p : Nat × Word) => if hq then decide (0x100 ≤ p.1) && decide (p.1 < 0x180) else !(decide (0x100 ≤ p.1) && decide (p.1 < 0x180))
  let d := { s.decim with coef := s.decim.coef.filter keep, coefPar := s.decim.coefPar.filter (fun p => keep (p.1, 0)) }
  { s with decim := if hq then { d with bank := 0, hqReload := false } else { d with lpReload := false } }

/-- A store word with bad parity is met: flag, entry, Fixer; the path's stop, its reload and its restart follow at its next
boundaries (R345). -/
def State.coefParity (s : State) (w : Nat) (hq : Bool) : State :=
  let s := { s with decim := if hq then { s.decim with hqReload := true } else { s.decim with lpReload := true } }
  let s := (s.setFlag Reg.DECIM_DECIM_STATUS 2).raise Log.DECIM 1 (ofBytes (w % 256) (w / 256) (b2n (!hq)) 0)
  s.fixerReport 22

/-- The store words that filter set M (`m`) or L reads at a boundary: its header and taps, under COMPAT those of the active bank for Final
and Align (R324, R344, R347). -/
def State.setWords (s : State) (m : Bool) : List Nat :=
  let b := if m then 0x080 else 0x000
  let hb := (List.range 46).map (b + 1 + ·)
  if s.compat then
    let f := 0x180 + 0x40 * s.decim.bank
    hb ++ (List.range 64).map (f + ·)
  else b :: hb ++ (List.range 63).map (b + 0x2F + ·)

/-- The engine has read these words of a path: the first that fails its parity is acted on, once before the path's stop (R345). -/
def State.coefCheck (s : State) (hq : Bool) (ws : List Nat) : State :=
  if (if hq then s.decim.hqReload else s.decim.lpReload) then s
  else match ws.find? s.coefBad with
  | some w => s.coefParity w hq
  | none => s

/-- The channels' part of a high-quality boundary. -/
def State.hqChannels (s : State) (i : HqIn) : State :=
  let s := if s.hqRuns then s.stepTransition else s
  let l := if s.hqRuns && s.setRuns false then some (s.tapSet false) else none
  let m := if s.hqRuns && s.setRuns true then some (s.tapSet true) else none
  let s := (List.range 16).foldl (fun s k => s.hqChannel i l m k) s
  s.coefCheck true ((if l.isSome then s.setWords false else []) ++ (if m.isSome then s.setWords true else []))

/-- The check of the first low-power boundary after a rate boundary: whether this sample spans a phase error (R318). -/
def State.lpPhase (s : State) : Bool × State :=
  let bad := s.decim.lpCheck && (match s.decim.lpLast with | some e => (s.clk.epoch - e).toNat % 2 ^ 32 != 6 | none => false)
  let s := { s with decim := { s.decim with lpCheck := false, lpLast := some s.clk.epoch } }
  if bad then
    (true, (s.setFlag Reg.DECIM_DECIM_STATUS 6).raise Log.DECIM 3 (ofBytes (s.clk.epoch.toNat % 6) 0 0 0))
  else (false, s)

/-- The watch converter's filters take one boundary's bits: the sample before the blocker, in 1/65,536 code (R323). -/
def State.filterWatch (s : State) (sent : List Bool) : Int × State :=
  let (x, c) := s.lpChain sent
  (narrow 13 (2 ^ 15) x, { s with decim := { s.decim with chains := s.decim.chains.set 16 c } })

/-- The watch sample of a low-power boundary (R318, R320 to R323, R333, R622); `sent` is what the watch modulator has sent since the
last one. -/
def State.lpSample (s : State) (sent : List Bool) : State :=
  let (misphase, s) := s.lpPhase
  let s := if !s.lpRuns then
      { s.setTank (lpWindowAddr s.clk.epoch) 0 with decim := { s.decim with lpValid := false } }
    else
      let ok := s.watchValid && !misphase
      let (x, s) := s.filterWatch sent
      let (y, s) := s.dcStep 16 x ok (s.flag Reg.DECIM_DC_CFG 4) (s.flag Reg.DECIM_DC_CFG 5) (8 + s.fld Reg.DECIM_DC_CFG 3 2)
      let r := roundHalfUp y 65536
      let c := clampInt (-0x8000) 0x7FFF r
      let s := if c = r then s else s.countSatOut 1
      let valid := ok && s.elapsed s.decim.lpStart 256
      { s.setTank (lpWindowAddr s.clk.epoch) (lpWord c valid) with decim := { s.decim with lpValid := valid } }
  if s.lpRuns then s.coefCheck false ((List.range 64).map (0x100 + ·)) else s

/-! ### Stop, start, swap (R338, R339, R348 to R352) -/

/-- A swap takes effect (R351). -/
def State.applySwap (s : State) (bank : Nat) : State :=
  let s := { s with decim := { s.decim with bank := bank, swap := none } }
  ((s.setFlag Reg.DECIM_DECIM_STATUS 3).countWrap Reg.DECIM_SWAP_COUNT).raise Log.DECIM 2 (ofBytes bank 0 0 0)

/-- The high-quality path ends its transition, a pending swap applies at once, and a reload that waits for the stop is made (R338,
R345, R352). -/
def State.hqHalt (s : State) : State :=
  let s := { s with decim := { s.decim with trans := none, inUse := s.decim.phase } }
  let s := match s.decim.swap with
    | some b => s.applySwap b
    | none => s
  if s.decim.hqReload then s.reloadCoef true else s

/-- A path stops (R338, R345). -/
def State.pathStop (s : State) (hq : Bool) : State :=
  let s := s.setFlag Reg.DECIM_DECIM_STATUS 7
  if hq then ({ s with decim := { s.decim with hqStopped := true, hqHaltAt := some s.clk.ticks } }).hqHalt
  else
    let s := { s with decim := { s.decim with lpStopped := true, lpValid := false, lpHaltAt := some s.clk.ticks } }
    if s.decim.lpReload then s.reloadCoef false else s

/-- The high-quality path starts from cleared filters (R332, R336, R339). -/
def State.hqBegin (s : State) : State :=
  { s with decim := { s.decim with hqStart := s.clk.ticks, inUse := s.decim.phase, trans := none,
                                   chains := List.replicate 16 {} ++ s.decim.chains.drop 16,
                                   seed := List.replicate 16 true ++ s.decim.seed.drop 16 } }

/-- The low-power path starts from cleared filters (R336, R339). -/
def State.lpBegin (s : State) : State :=
  { s with decim := { s.decim with lpStart := s.clk.ticks, chains := s.decim.chains.set 16 {}, seed := s.decim.seed.set 16 true } }

/-- A path starts (R339). -/
def State.pathStart (s : State) (hq : Bool) : State :=
  if hq then ({ s with decim := { s.decim with hqStopped := false } }).hqBegin
  else ({ s with decim := { s.decim with lpStopped := false } }).lpBegin

/-- A swap request (R348). -/
def State.requestSwap (s : State) (target : Nat) : State :=
  if !s.compat then s
  else match s.decim.swap with
  | some _ =>
    let swap := if target = s.decim.bank then none else some target
    ({ s with decim := { s.decim with swap := swap } }).setFlag Reg.DECIM_DECIM_STATUS 4
  | none => if target = s.decim.bank then s else { s with decim := { s.decim with swap := some target } }

/-- Whether a DECIM_CFG write is refused: it changes COMPAT while the path runs (R346). -/
def State.decimCfgRefused (s : State) (w : Word) : Bool :=
  let old := s.reg Reg.DECIM_DECIM_CFG
  bitOf (maskedWrite old w) 8 != bitOf old 8 && !(s.decim.hqStopped || !s.clk.daylight)

end Sys2Proof.Machine
end

