-- ==== Sys2Proof/Machine/Aper.lean ====
section
/-! DEFINITION. Aperture: tables, beam sums, cross-fades, the delay scale, validity and withholding (R357 to R391). -/

namespace Sys2Proof.Machine

/-! ### Tables -/

def Table.en (t : Table) : Bool := bitOf t.cfg 0
def Table.skewOff (t : Table) : Bool := bitOf t.cfg 1
def Table.skipInvalid (t : Table) : Bool := bitOf t.cfg 2
/-- OUT_SHIFT; 5 to 7 act as 4 (R390). -/
def Table.outShift (t : Table) : Nat := min 4 (bits t.cfg 6 4)
def Table.delay (t : Table) (k : Nat) : Nat := bits (nth t.taps k 0) 31 20
def Table.weight (t : Table) (k : Nat) : Int := sgnOf 16 (bits (nth t.taps k 0) 15 0)

def State.beam (s : State) (b : Nat) : Beam := nth s.aper.beams b {}

def State.modBeam (s : State) (b : Nat) (f : Beam → Beam) : State :=
  { s with aper := { s.aper with beams := modNth s.aper.beams b f } }

/-- A table of these words, each with its parity bit (R384). -/
def tableOf (taps : List Word) (cfg : Word) : Table := { taps := taps, cfg := cfg, par := (taps ++ [cfg]).map parity }

/-- The table the staging registers hold (R370). -/
def State.stagedTable (s : State) : Table :=
  tableOf ((List.range 16).map (fun k => s.reg (Reg.APER_STAGE_TAP_0 + 4 * k))) (s.reg Reg.APER_STAGE_CFG)

/-! ### The beam sum (R359 to R363) -/

/-- The delay of a channel before the clamp, in 1/2,048 sample (R359). -/
def rawDelay (t : Table) (scale : Nat) (analog : Bool) (k : Nat) : Nat :=
  (2 * (t.delay k * scale) + 1024) / 2048 + (if !t.skewOff && analog then k else 0)

/-- The effective delay (R359, R368). -/
def effDelay (t : Table) (scale : Nat) (analog : Bool) (k : Nat) : Nat := min 131071 (rawDelay t scale analog k)

/-- The word of channel `k`'s sample `n` samples before the present boundary (R361, R622). -/
def State.chanSample (s : State) (k n : Nat) : Word := s.windowWord (chanWindowAddr k (s.clk.epoch - BitVec.ofNat 48 (2 * n)))

/-- Whether the sample `n` samples before the present boundary was made since the high-quality path last started: one of an earlier
DAYLIGHT, which the windows still hold, is not valid (R288, R386, R524). -/
def State.sampleFresh (s : State) (n : Nat) : Bool :=
  match s.aper.start with
  | some t => s.elapsed t (2 * n)
  | none => true

/-- The interpolator: the sum of 16 samples, newest first, each by its tap; at fraction 0 the eighth, unchanged (R360). -/
def interp (f : Nat) (vals : List Int) : Rat :=
  if f = 0 then (nth vals 7 0 : Int)
  else ((vals.zipIdx.map (fun p => if p.1 = 0 then 0 else interpTaps f p.2 * (p.1 : Rat))).foldl (· + ·) 0)

/-- A channel's contribution to one table: its interpolated value, whether every sample of its span is valid (R360, R378,
R379). The span is 16 samples, from `i + 1` to `i + 16` before the boundary (DEDUCED from R360, R361). -/
def State.beamChannel (s : State) (t : Table) (scale k : Nat) : Rat × Bool :=
  let e := effDelay t scale (!s.pdmTakes k) k
  let i := e / 2048
  let f := e % 2048
  let span := (List.range 16).map (fun j =>
    let w := s.chanSample k (i + 1 + j)
    (w, bitOf w 0 && s.sampleFresh (i + 1 + j)))
  let vals := span.map (fun w => if t.skipInvalid && !w.2 then 0 else hqCode w.1)
  (interp f vals, span.all (fun w => w.2))

/-- One table's output: the rounded and clamped sum, VALID, PARTIAL, and whether it was clamped (R359, R373, R378 to R380). -/
structure BeamOut where
  value   : Int
  valid   : Bool
  partial_ : Bool
  clamped : Bool
  deriving DecidableEq, Repr

/-- R359 for one table; a disabled table is silence (R373). -/
def State.tableOut (s : State) (t : Table) (scale : Nat) : BeamOut :=
  if !t.en then ⟨0, true, false, false⟩
  else
    let used := (List.range 16).filter (fun k => t.weight k != 0)
    let parts := used.map (fun k => (t.weight k, s.beamChannel t scale k))
    let acc : Rat := parts.foldl (fun a p => a + (p.1 : Rat) * p.2.1) 0
    let y := (acc / (2 ^ (15 + t.outShift) : Nat) + 1 / 2).floor
    let c := clampInt (-0x800000) 0x7FFFFF y
    let all := parts.all (fun p => p.2.2)
    let any := parts.any (fun p => p.2.2)
    ⟨c, if t.skipInvalid then any else all, t.skipInvalid && !all, c != y⟩

/-- The first channel whose delay a table and scale clamp (R368). -/
def State.clampedChannel (s : State) (t : Table) (scale : Nat) : Option Nat :=
  if !t.en then none
  else (List.range 16).find? (fun k => t.weight k != 0 && decide (131071 < rawDelay t scale (!s.pdmTakes k) k))

/-- The first clamp of a table and scale pair is flagged and logged (R368, R388). -/
def State.noteClamp (s : State) (b : Nat) (t : Table) (scale : Nat) : State × Table :=
  if t.clamped then (s, t)
  else match s.clampedChannel t scale with
  | none => (s, t)
  | some k =>
    ((s.setFlag Reg.APER_APER_STATUS 2).raise Log.APER 2 (ofBytes b k (scale % 256) (scale / 256)), { t with clamped := true })

/-! ### Withholding (R381) -/

/-- The APER or MX page is in its parity safe state (R250). -/
def State.aperHeld (s : State) : Bool := s.port.held.any (fun a => Reg.pageOf a == 6 || Reg.pageOf a == 7)

/-- Beams are withheld (R250, R381). -/
def State.withheld (s : State) : Bool :=
  s.aper.hold.isSome || s.clk.fault || s.aperHeld || s.flag Reg.APER_APER_STATUS 4

/-- WITHHELD sets where withholding has begun since state `old` (R391). -/
def State.noteWithheld (s old : State) : State := if s.withheld && !old.withheld then s.setFlag Reg.APER_APER_STATUS 5 else s

/-! ### The boundary -/

/-- A beam word of R377. -/
def beamWord (o : BeamOut) : Word :=
  pack [(8, 24, wrapInt 24 o.value), (1, 1, b2n (o.valid && o.partial_)), (0, 1, b2n o.valid)]

/-- The window words that a table's sum reads (R360, R361, R622). -/
def State.tableReads (s : State) (t : Table) (scale : Nat) : List Nat :=
  if !t.en then []
  else ((List.range 16).filter (fun k => t.weight k != 0)).flatMap (fun k =>
    (List.range 16).map (fun j =>
      chanWindowAddr k (s.clk.epoch - BitVec.ofNat 48 (2 * (effDelay t scale (!s.pdmTakes k) k / 2048 + 1 + j)))))

/-- Those that a beam's output reads (R372). -/
def State.beamReads (s : State) (b : Beam) : List Nat :=
  match b.fade with
  | none => s.tableReads b.active s.aper.scale
  | some f => s.tableReads b.active f.oldScale ++ s.tableReads f.new s.aper.scale

/-- The output of a beam: its table's, or the cross-fade's output n (R372, R373). -/
def State.beamOut (s : State) (b : Beam) : BeamOut :=
  match b.fade with
  | none => s.tableOut b.active s.aper.scale
  | some f =>
    let o := s.tableOut b.active f.oldScale
    let n := s.tableOut f.new s.aper.scale
    let v := roundHalfUp ((64 - (f.n : Int)) * o.value + (f.n : Int) * n.value) 64
    ⟨v, o.valid && n.valid, o.partial_ || n.partial_, o.clamped || n.clamped⟩

/-- Beam `b` at a high-quality boundary: its fade advances, and its word is written (R372, R373, R380 to R382). -/
def State.beamBoundary (s : State) (b : Nat) : State :=
  let s := s.modBeam b (fun x =>
    { x with fade := x.fade.map (fun f => { f with n := min 64 (f.n + 1) }),
             fadeEnd := if x.fade.any (fun f => f.n == 63) then some s.clk.ticks else x.fadeEnd })
  let x := s.beam b
  let (s, act) := s.noteClamp b x.active (match x.fade with | some f => f.oldScale | none => s.aper.scale)
  let s := s.modBeam b (fun y => { y with active := act })
  let s := match x.fade with
    | none => s
    | some f =>
      let (s, new) := s.noteClamp b f.new s.aper.scale
      s.modBeam b (fun y => { y with fade := some { f with new := new } })
  let addr := beamWindowAddr b s.clk.epoch
  if s.withheld || (x.fade.isNone && !x.active.en) then s.setTank addr 0
  else
    let o := s.beamOut x
    let s := s.fogReads (s.beamReads x)
    let s := if o.clamped then (s.setFlag Reg.APER_APER_STATUS 3).countSat Reg.APER_SAT_COUNT else s
    s.setTank addr (beamWord o)

/-- Every beam at a high-quality boundary (R357, R358). -/
def State.beamsBoundary (s : State) : State := (List.range 8).foldl State.beamBoundary s

/-- The current output word of beam `b`. -/
def State.beamNow (s : State) (b : Nat) : Word := s.tank (beamWindowAddr b s.clk.epoch)

/-! ### Commit, fades, scale (R370 to R376, R386) -/

/-- A COMMIT with GO (R370). -/
def State.commitBeam (s : State) (b : Nat) : State :=
  let s := if (s.beam b).pend.isSome then s.setFlag Reg.APER_APER_STATUS 1 else s
  s.modBeam b (fun x => { x with pend := some s.stagedTable, ready := false })

/-- The beam's table under a new scale has made no clamp yet (R368). -/
def Beam.unclamp (x : Beam) : Beam := { x with active := { x.active with clamped := false } }

/-- A frame sample: pending tables become ready, and a changed SCALE waits; while Aperture makes no beam it applies at once, without
a fade (R371, R376, R386). -/
def State.sampleAper (s : State) : State :=
  let v := s.fld Reg.APER_SCALE 15 0
  let beams := s.aper.beams.map (fun x => { x with ready := x.pend.isSome })
  let a := { s.aper with beams := beams }
  if v = s.aper.sampled then { s with aper := a }
  else if s.blockUp 1 then { s with aper := { a with sampled := v, wait := some v } }
  else { s with aper := { a with sampled := v, scale := v, wait := none, beams := beams.map Beam.unclamp } }

/-- Whether beam `b`'s pending table may begin its cross-fade (R371). -/
def State.mayFade (s : State) (b : Nat) : Bool :=
  let x := s.beam b
  x.ready && x.pend.isSome && x.fade.isNone && s.aper.wait.isNone

/-- A cross-fade to the pending table begins (R371). -/
def State.startFade (s : State) (b : Nat) : State :=
  s.modBeam b (fun x => match x.pend with
    | some t => { x with pend := none, ready := false, fade := some ⟨t, s.aper.scale, 0, true⟩ }
    | none => x)

/-- A cross-fade ends: its table is the active one (R372). -/
def State.endFade (s : State) (b : Nat) : State :=
  match (s.beam b).fade with
  | none => s
  | some f =>
    let s := s.modBeam b (fun x => { x with active := f.new, fade := none })
    let s := s.setFlag Reg.APER_APER_STATUS 0
    if f.commit then s.countWrap Reg.APER_COMMIT_COUNT else s

/-- No beam is in cross-fade. -/
def State.noFade (s : State) : Bool := s.aper.beams.all (fun x => x.fade.isNone)

/-- A waiting scale applies: every sounding beam cross-fades to it (R376). -/
def State.applyScale (s : State) (v : Nat) : State :=
  let old := s.aper.scale
  let f := fun (x : Beam) =>
    let act := { x.active with clamped := if x.active.en then x.active.clamped else false }
    if x.active.en then
      let new : Table := match x.pend with | some t => t | none => { x.active with clamped := false }
      { x with pend := none, ready := false, fade := some ⟨new, old, 0, x.pend.isSome⟩ }
    else { x with active := act }
  { s with aper := { s.aper with scale := v, wait := none, beams := s.aper.beams.map f } }

/-- Pending tables and a waiting scale become active without a fade, and every fade ends; a table under a new scale has made no clamp
yet (R368, R386). -/
def State.settleTables (s : State) : State :=
  let n := (s.aper.beams.filter (fun x => x.pend.isSome || (match x.fade with | some f => f.commit | none => false))).length
  let f := fun (x : Beam) =>
    let act := match x.fade with | some f => f.new | none => x.active
    let act := { act with clamped := act.clamped && s.aper.wait.isNone }
    match x.pend with
    | some t => { x with active := t, pend := none, ready := false, fade := none }
    | none => { x with active := act, fade := none }
  let s := { s with aper := { s.aper with beams := s.aper.beams.map f, scale := s.aper.wait.getD s.aper.scale, wait := none } }
  s.setReg Reg.APER_COMMIT_COUNT (s.reg Reg.APER_COMMIT_COUNT + BitVec.ofNat 32 n)

/-- Aperture starts, with no cross-fade: what was committed in the meantime is active (R386, R524). -/
def State.aperBegin (s : State) : State :=
  let s := s.settleTables
  { s with aper := { s.aper with start := some s.clk.ticks } }

/-! ### Strap defaults and parity (R384, R387) -/

/-- The strap default of a beam; `single` is the single-microphone set of SAFELIGHT microphone 0 (R84, R387). -/
def defaultTable (single : Bool) (b : Nat) : Table :=
  if b = 0 then
    tableOf ((List.range 16).map (fun k => if single then (if k = 0 then 0x00007FFF#32 else 0) else 0x00000800#32)) 1
  else {}

/-- The tables of a strap read (R387). -/
def State.strapAper (s : State) (single : Bool) : State :=
  { s with aper := { beams := (List.range 8).map (fun b => { active := defaultTable single b }), hold := s.aper.hold } }

/-- Word `w` of a table: a tap, or as word 16 the configuration (R369). -/
def Table.word (t : Table) (w : Nat) : Word := if w < 16 then nth t.taps w 0 else t.cfg

/-- An upset turns over bit `i` of word `w`, or, as bit 32, the word's parity bit (R384). -/
def Table.upset (t : Table) (w i : Nat) : Table :=
  if 32 ≤ i then { t with par := modNth t.par w (!·) }
  else if w < 16 then { t with taps := modNth t.taps w (· ^^^ oneBit i) }
  else { t with cfg := t.cfg ^^^ oneBit i }

/-- The first word whose parity bit does not fit it (R384). -/
def Table.badWord (t : Table) : Option Nat := (List.range 17).find? (fun w => parity (t.word w) != nth t.par w false)

/-- An upset strikes a table of a beam. -/
def State.tableUpset (s : State) (u : TableUpset) : State :=
  s.modBeam u.beam (fun x =>
    if u.table = 0 then { x with active := x.active.upset u.word u.bit }
    else if u.table = 1 then { x with pend := x.pend.map (·.upset u.word u.bit) }
    else { x with fade := x.fade.map (fun f => { f with new := f.new.upset u.word u.bit }) })

/-- The first word of a beam's tables that fails its check, and whether it is of the pending table; a table that a cross-fade leads to
is pending no more (R371, R384). -/
def Beam.badWord (x : Beam) : Option (Nat × Bool) :=
  match x.active.badWord, x.fade.bind (·.new.badWord), x.pend.bind (·.badWord) with
  | some w, _, _ => some (w, false)
  | none, some w, _ => some (w, false)
  | none, none, some w => some (w, true)
  | none, none, none => none

/-- The check of beam `b`'s tables (R384, R388): a beam with a bad word takes its strap default. -/
def State.checkTables (single : Bool) (s : State) (b : Nat) : State :=
  match (s.beam b).badWord with
  | none => s
  | some (w, pending) =>
    let s := s.modBeam b (fun _ => { active := defaultTable single b })
    let s := (s.setFlag Reg.APER_APER_STATUS 4).raise Log.APER 1 (ofBytes b w (b2n pending) 0)
    s.fixerReport 23

/-- Whether a SCALE write is refused (R367). -/
def State.scaleRefused (s : State) (w : Word) : Bool :=
  let v := bits (maskedWrite (s.reg Reg.APER_SCALE) w) 15 0
  !(decide (0x6000 ≤ v) && decide (v ≤ 0xA000))

/-! ### Views (R391) -/

/-- APER_STATE. -/
def State.aperState (s : State) : Word :=
  pack [(25, 1, b2n s.withheld), (24, 1, b2n s.aper.wait.isSome),
    (16, 8, maskOf 8 (fun b => (s.beam b).active.en)), (8, 8, maskOf 8 (fun b => (s.beam b).pend.isSome)),
    (0, 8, maskOf 8 (fun b => (s.beam b).fade.isSome))]

/-- The table READ_SEL names, if it exists. -/
def State.readTable (s : State) : Option Table :=
  let x := s.beam (s.fld Reg.APER_READ_SEL 2 0)
  if s.flag Reg.APER_READ_SEL 3 then x.pend else some x.active

def State.readTap (s : State) (n : Nat) : Word := match s.readTable with | some t => nth t.taps n 0 | none => 0
def State.readCfg (s : State) : Word :=
  match s.readTable with | some t => pack [(31, 1, 1), (0, 7, bits t.cfg 6 0)] | none => 0

end Sys2Proof.Machine
end

