-- ==== Sys2Proof/Machine/Mx.lean ====
section
/-! DEFINITION. Multiple exposure: plan entries, contributions to the listen field, skips and plan switches (R392 to R424). -/

namespace Sys2Proof.Machine

/-! ### Plan words (R396, R400, R423) -/

def mxEn (slotW : Word) : Bool := bitOf slotW 31
def mxDelay (slotW : Word) : Nat := min 120 (bits slotW 20 14)
def mxSrc (slotW : Word) : Nat := bits slotW 13 9
def mxOdd (slotW : Word) : Bool := bitOf slotW 8
def mxSlot (slotW : Word) : Nat := bits slotW 7 0
def mxWeight (gainW : Word) : Int := sgnOf 16 (bits gainW 15 0)

/-- Whether an entry takes part (R396). -/
def mxActive (slotW : Word) : Bool := mxEn slotW && decide (mxSlot slotW ≤ 191) && decide (mxSrc slotW ≤ 23)

/-- The shadow plan the registers hold. -/
def State.shadowPlan (s : State) : List (Word × Word) :=
  (List.range 16).map (fun n => (s.reg (Reg.MX_PLAN_SLOT_0 + 8 * n), s.reg (Reg.MX_PLAN_GAIN_0 + 8 * n)))

/-- The plan for a copy of header epoch `e`: the shadow plan from E_sw on while a switch is armed (R412), nothing for a
copy from before the last switch (R413), else the active plan. -/
def State.planFor (s : State) (e : Epoch32) : List (Word × Word) :=
  let old := match s.mx.since with
    | some f => if (s.fullEpoch e).toNat < f.toNat then [] else s.mx.plan
    | none => s.mx.plan
  match s.mx.armed with
  | some sw => if (e - sw.truncate 32).toNat < 2 ^ 31 then s.shadowPlan else old
  | none => old

/-! ### The slot word (R392, R397) -/

/-- One addition into a slot word: the word sent on and whether it saturated (R397). -/
def mxAdd (w : Word) (c : Int) : Word × Bool :=
  let sum := sgnOf 26 (bits w 31 6) + c
  let clamped := clampInt (-0x2000000) 0x1FFFFFF sum
  let sat := clamped != sum
  (pack [(6, 26, wrapInt 26 clamped), (5, 1, b2n (sat || bitOf w 5)), (0, 5, min 31 (bits w 4 0 + 1))], sat)

/-- The contribution of a source code at a weight (R397). -/
def mxContribution (weight code : Int) : Int := roundHalfUp (weight * code) 32768

/-- The stream stamp of header epoch `e` (R398). -/
def mxStamp (e : Epoch32) : Epoch32 := e - 4 - BitVec.ofNat 32 (e.toNat % 2)

/-- The stamp of the source word of an entry for stamp `t` (R397, R400). -/
def State.mxSourceStamp (s : State) (slotW : Word) (t : Epoch32) : Epoch := s.fullEpoch t - BitVec.ofNat 48 (2 * mxDelay slotW)

/-- Whether the source word stamped `b` was made since the high-quality path last started, in the present DAYLIGHT (R419, R524). -/
def State.stampFresh (s : State) (b : Epoch) : Bool :=
  match s.aper.start with
  | some t => s.elapsed t (s.clk.epoch - b).toNat
  | none => true

/-- The window word that an entry reads for stamp `t` (R396, R400, R622). -/
def State.mxSourceAddr (s : State) (slotW : Word) (t : Epoch32) : Nat :=
  let b := s.mxSourceStamp slotW t
  let n := mxSrc slotW
  if n < 8 then beamWindowAddr n b else chanWindowAddr (n - 8) b

/-- The source word of an entry for stamp `t` (R396, R397, R400). -/
def State.mxSource (s : State) (slotW : Word) (t : Epoch32) : Word := s.windowWord (s.mxSourceAddr slotW t)

/-! ### Skips (R62, R405, R407) -/

/-- A settle interval or clock fault begins: stamps from `e` on are covered; in a window that is open already, those from its first
on, which a backward jump moves back. -/
def State.openWindow (s : State) (e : Epoch) : State :=
  match s.mx.window with
  | some (f, none) => { s with mx := { s.mx with window := some (if e.toNat < f.toNat then e else f, none) } }
  | _ => { s with mx := { s.mx with window := some (e, none) } }

/-- The settle interval ends: stamps from the present epoch on are not covered. -/
def State.closeWindow (s : State) : State :=
  match s.mx.window with
  | some (f, none) => { s with mx := { s.mx with window := some (f, some s.clk.epoch) } }
  | _ => s

/-- The settle interval or clock-fault window covers stamp `t`; while it lasts, nothing is contributed (R62, R405). -/
def State.covered (s : State) (t : Epoch32) : Bool :=
  match s.mx.window with
  | none => false
  | some (_, none) => true
  | some (f, some e) => decide (f.toNat ≤ (s.fullEpoch t).toNat) && decide ((s.fullEpoch t).toNat < e.toNat)

/-- Why an entry skips stamp `t`, if it does: 1 settle or clock fault, 2 safe state, 0 source invalid, as the words
of an earlier DAYLIGHT are (R405, R419, R421). -/
def State.mxSkip (s : State) (slotW : Word) (t : Epoch32) : Option Nat :=
  if s.covered t then some 1
  else if s.aperHeld then some 2
  else if !bitOf (s.mxSource slotW t) 0 || !s.stampFresh (s.mxSourceStamp slotW t) then some 0
  else none

/-- A backward jump: the epochs that are met again are decided again (R32, R405). -/
def State.forgetDecisions (s : State) : State := { s with mx := { s.mx with decided := [] } }

/-- The decision of entry `n` for header epoch `e`, made once; the shadow plan's entry is another than the active plan's where its words
differ (R403, R405, R407, R412). -/
def State.mxDecide (s : State) (e : Epoch32) (n : Nat) (slotW gainW : Word) : Option Int × State :=
  match s.mx.decided.find? (fun d => d.epoch == e && d.entry == n && d.slotW == slotW && d.gainW == gainW) with
  | some d => (d.c, s)
  | none =>
    let t := mxStamp e
    let s := s.fogReads [s.mxSourceAddr slotW t]
    let keep := fun (c : Option Int) (s : State) => { s with mx := { s.mx with
      decided := (⟨e, n, slotW, gainW, c⟩ :: s.mx.decided).take 128, skipping := s.mx.skipping.set n c.isNone } }
    match s.mxSkip slotW t with
    | some why =>
      let s' := (s.setFlag Reg.MX_MX_STATUS 0).countSat Reg.MX_SKIP_COUNT
      let s' := if nth s.mx.skipping n false then s' else s'.raise Log.MX 1 (ofBytes n why 0 0) t
      (none, keep none s')
    | none =>
      let c := mxContribution (mxWeight gainW) (hqCode (s.mxSource slotW t))
      (some c, keep (some c) s)

/-- One entry of the plan applied to a copy's listen words (R397, R403). -/
def State.mxEntry (s : State) (e : Epoch32) (n : Nat) (slotW gainW : Word) (ws : List Word) : State × List Word :=
  if mxActive slotW && mxOdd slotW == (e.toNat % 2 == 1) then
    let (c, s) := s.mxDecide e n slotW gainW
    match c with
    | none => (s, ws)
    | some c =>
      let (w, sat) := mxAdd (nth ws (mxSlot slotW) 0) c
      let s := s.countWrap Reg.MX_CONTRIB_COUNT
      let s := if sat then (s.setFlag Reg.MX_MX_STATUS 1).countSat Reg.MX_SAT_COUNT else s
      (s, ws.set (mxSlot slotW) w)
  else (s, ws)

/-- Every entry of a plan applied to a copy, in entry order. -/
def State.mxEntries (s : State) (e : Epoch32) : Nat → List (Word × Word) → List Word → State × List Word
  | _, [], ws => (s, ws)
  | n, p :: ps, ws =>
    let (s, ws) := s.mxEntry e n p.1 p.2 ws
    s.mxEntries e (n + 1) ps ws

/-- LISTEN_FIELD: the field of a copy passes, with the unit's contributions in DAYLIGHT (R163, R176, R185, R395, R397, R406). -/
def State.listenField (s : State) (x : Side) (ws : List Word) (check : Word) : State :=
  let ok := crc32 (wordsBits ws) == check
  let s := s.judgeCheck x 2 ok
  let e := (s.sd x).epoch
  let (s, ws') := if s.mayAddTo x 1 && s.blockUp 2 && s.link.training.isNone then
      s.mxEntries e 0 (s.planFor e) ws
    else (s, ws)
  let check' := if ws' = ws then check else sendCheck32 (crc32 (wordsBits ws')) ok
  s.forwardField x 1 (OutSide.putListen ws' check') (OutSide.putListen ws check)

/-! ### Plan switches (R411 to R418) -/

/-- The parity bit of a plan entry, over both its words (R417). -/
def planPar (p : Word × Word) : Bool := parity p.1 != parity p.2

/-- A plan becomes the active one; each entry's parity bit is set with it (R417). -/
def Mx.load (m : Mx) (plan : List (Word × Word)) : Mx := { m with plan := plan, par := plan.map planPar }

/-- ARM: the switch is armed for E_sw, or, where that epoch has begun, for the next selected-side frame (R411, R414). -/
def State.mxArm (s : State) : State :=
  let sw := s.reg Reg.MX_SWITCH_EPOCH
  let fe := s.clk.frameEpoch
  if (fe.truncate 32 - sw).toNat < 2 ^ 31 then
    let s := { s with mx := { s.mx with armed := some (fe + 1) } }
    (s.setFlag Reg.MX_MX_STATUS 3).raise Log.MX 3 sw ((fe + 1).truncate 32)
  else { s with mx := { s.mx with armed := some (fe + (sw - fe.truncate 32).zeroExtend 48) } }

/-- CANCEL disarms a pending switch (R415). -/
def State.mxCancel (s : State) : State := { s with mx := { s.mx with armed := none } }

/-- The tick E_sw + 4 has come (R413). -/
def State.mxSwitchDue (s : State) : Bool :=
  match s.mx.armed with
  | some sw => s.clk.daylight && decide (sw.toNat + 4 ≤ s.clk.epoch.toNat)
  | none => false

/-- The shadow plan becomes the active one (R413). -/
def State.mxSwitch (s : State) : State :=
  match s.mx.armed with
  | none => s
  | some sw =>
    let s := { s with mx := { s.mx.load s.shadowPlan with armed := none, since := some sw } }
    (s.setFlag Reg.MX_MX_STATUS 2).raise Log.MX 2 (sw.truncate 32)

/-- The boundary into SAFELIGHT: an armed switch applies at once (R418). -/
def State.mxToSafe (s : State) : State :=
  match s.mx.armed with
  | none => s
  | some _ => ({ s with mx := { s.mx.load s.shadowPlan with armed := none } }).setFlag Reg.MX_MX_STATUS 2

/-- Bits 47:32 of the epoch move by `d`, and the epochs that MX waits for or has passed with them (R29). -/
def Mx.shift (d : Epoch) (m : Mx) : Mx :=
  { m with armed := m.armed.map (· + d), since := m.since.map (· + d)
           window := m.window.map (fun w => (w.1 + d, w.2.map (· + d))) }

/-- A stored bit of an active entry is turned over: 0 to 31 the slot word's, 32 to 63 the gain word's, 64 the parity bit (R417). -/
def State.planUpset (s : State) (n i : Nat) : State :=
  { s with mx :=
    if i < 32 then { s.mx with plan := modNth s.mx.plan n (fun p => (p.1 ^^^ oneBit i, p.2)) }
    else if i < 64 then { s.mx with plan := modNth s.mx.plan n (fun p => (p.1, p.2 ^^^ oneBit (i - 32))) }
    else { s.mx with par := modNth s.mx.par n (!·) } }

/-- The lowest active entry whose parity bit does not fit its words (R417). -/
def State.planBad (s : State) : Option Nat :=
  (List.range 16).find? (fun n => nth s.mx.par n false != planPar (nth s.mx.plan n (0, 0)))

/-- The check of the active entries at link clock 0: where any fails, every entry becomes inactive (R417). -/
def State.planParity (s : State) : State :=
  match s.planBad with
  | none => s
  | some low =>
    let s := { s with mx := s.mx.load (s.mx.plan.map (fun (p : Word × Word) => (setBit p.1 31 false, p.2))) }
    ((s.setFlag Reg.MX_MX_STATUS 4).raise Log.MX 4 (ofBytes low 0 0 0)).fixerReport 24

/-- The strap read's part: every entry inactive, no switch, no decision pending (R420). -/
def State.strapMx (s : State) : State := { s with mx := { window := s.mx.window } }

/-! ### Views (R424) -/

/-- MX_STATE. -/
def State.mxState (s : State) : Word :=
  pack [(16, 1, b2n s.mx.armed.isSome), (0, 16, maskOf 16 (fun n => mxActive (nth s.mx.plan n (0, 0)).1))]

def State.activeSlot (s : State) : Word := (nth s.mx.plan (s.fld Reg.MX_ACTIVE_SEL 3 0) (0, 0)).1
def State.activeGain (s : State) : Word := (nth s.mx.plan (s.fld Reg.MX_ACTIVE_SEL 3 0) (0, 0)).2

end Sys2Proof.Machine
end

