-- ==== Sys2Proof/Machine/Latent.lean ====
section
/-! DEFINITION. Latent buffer: the two rings, anchors, wake records, freezes (R487 to R514). -/

namespace Sys2Proof.Machine

/-! ### Configuration (R487, R489, R512) -/

/-- The sources of the Daylight ring, ascending (R489). -/
def State.latSources (s : State) : List Nat := idxWhere 24 (fun b => bitOf (s.reg Reg.LATENT_LAT_SRC) b)

/-- N, words per Daylight set. -/
def State.latN (s : State) : Nat := s.latSources.length

/-- D_SETS (R487). -/
def State.latSets (s : State) : Nat := (s.fld Reg.LATENT_LAT_CFG 2 0 + 1) * 131072 / max 1 s.latN

/-- Cells of the watch ring (R487). -/
abbrev watchCells : Nat := 131072

/-- Ring `watch` or the Daylight ring. -/
def State.ring (s : State) (watch : Bool) : Ring := if watch then s.latent.w else s.latent.d

def State.modRing (s : State) (watch : Bool) (f : Ring → Ring) : State :=
  { s with latent := if watch then { s.latent with w := f s.latent.w } else { s.latent with d := f s.latent.d } }

/-- Capacity, step and head of a ring (R508). -/
def State.ringCap (s : State) (watch : Bool) : Nat := if watch then watchCells else s.latSets
def ringStep (watch : Bool) : Nat := if watch then 6 else 2
def State.ringHead (s : State) (watch : Bool) : Nat := if watch then s.latent.w.total.toNat % watchCells else s.latent.d.head

/-- The watch ring is to write at the present epoch (R496, R498, R503). -/
def State.writingW (s : State) : Bool :=
  let l := s.latent
  let preFill := l.preFill && (match l.rate with | some (_, _, fill) => decide (s.clk.epoch.toNat ≤ fill.toNat) | none => false)
  s.ident.done && s.flag Reg.LATENT_LAT_CTL 0 && !l.w.frozen && !s.clk.rateBad
    && (match l.w.pend with | some (due, _) => decide (s.clk.epoch.toNat ≤ due.toNat) | none => true)
    && (!s.clk.daylight || s.toSafe || s.flag Reg.LATENT_LAT_CFG 6 || preFill)

/-- The Daylight ring is to write: not at the rate boundary itself (R497, R503). -/
def State.writingD (s : State) : Bool :=
  let l := s.latent
  s.ident.done && s.flag Reg.LATENT_LAT_CTL 1 && !l.d.frozen && !s.clk.rateBad && s.clk.daylight && s.clk.dayAt != some s.clk.ticks
    && (match l.d.pend with | some (due, _) => decide (s.clk.epoch.toNat ≤ due.toNat) | none => true)

/-! ### Anchors (R493 to R495) -/

/-- Where a ring's anchor table stands in Tank. -/
def anchorBase (watch : Bool) : Nat := if watch then Tank.watchAnchors else Tank.dayAnchors

/-- Whether the entry at `idx` is still retained, the ring standing as it does (R508). -/
def State.retained (s : State) (watch : Bool) (idx : Nat) : Bool :=
  let c := s.ringCap watch
  let d := (s.ringHead watch + c - idx % c) % c
  d != 0 && decide (d ≤ min (s.ring watch).total.toNat c)

/-- An anchor is written for the entry about to be written at stamp `b` (R493 to R495). -/
def State.writeAnchor (s : State) (watch : Bool) (b : Epoch32) : State :=
  let r := s.ring watch
  let e := r.anchor
  let at_ := anchorBase watch + 3 * e
  let old := s.tank at_
  let lost := bitOf old 31 && s.retained watch (bits old 19 0)
  let s := if lost then
      let i := bits old 19 0
      (s.setFlag Reg.LATENT_LAT_STATUS 4).raise Log.LATENT 4 (ofBytes (b2n (!watch)) (i % 256) (i / 256 % 256) (i / 65536))
    else s
  let (kind, gap) : Nat × Word := match r.prev with
    | none => (0, 0)
    | some p => ((if r.gap then 1 else if r.mis then 3 else 2), b - p - BitVec.ofNat 32 (ringStep watch))
  let s := s.setTankWords at_ [pack [(31, 1, 1), (28, 3, kind), (0, 20, s.ringHead watch)], b, gap]
  s.modRing watch (fun r => { r with anchor := (e + 1) % 32 })

/-- The anchor of an entry at stamp `b`, where its rhythm breaks; the first entry after a stop or a recovery, and a misphased
sample's next cell, carry one too (R493, R500). -/
def State.anchorFor (s : State) (watch : Bool) (b : Epoch32) (misphase : Bool) : State :=
  let r := s.ring watch
  let breaks := match r.prev with
    | none => true
    | some p => b != p + BitVec.ofNat 32 (ringStep watch)
  let s := if misphase then s.modRing watch (fun r => { r with mis := true }) else s
  let s := if breaks || r.gap || (r.mis && !misphase) then s.writeAnchor watch b else s
  s.modRing watch (fun r => { r with prev := some b, gap := false, mis := misphase })

/-! ### Ring entries (R488, R489, R496, R497) -/

/-- The watch cell of a sample (R488). -/
def watchCell (w : Word) : Nat :=
  if !bitOf w 0 then 0x8000 else if bits w 31 16 = 0x8000 then 0x8001 else bits w 31 16

/-- One watch cell at a low-power boundary (R496). -/
def State.writeCell (s : State) (misphase : Bool) : State :=
  if !s.writingW then s
  else
    let b := s.epoch32
    let s := s.anchorFor true b misphase
    let i := s.ringHead true
    let cell := watchCell (s.tank (lpWindowAddr s.clk.epoch))
    let s := s.setTank (Tank.watchRing + i / 2) (setBits (s.tank (Tank.watchRing + i / 2)) (16 * (i % 2)) 16 cell)
    s.modRing true (fun r => { r with total := r.total + 1 })

/-- The output word of Daylight source `b`, the set's word `i`, at the present boundary (R489). While the domain of the high-quality path
is held in reset nothing is valid: a channel's code is then a free value, and a beam is withheld (R320, R377, R524; log 131). -/
def State.latWord (s : State) (i b : Nat) : Word :=
  if s.blockUp 1 then (if b < 16 then s.hqNow b else s.beamNow (b - 16))
  else if b < 16 then Config.freeWord (s.free + i) &&& 0xFFFFFF00#32 else 0

/-- One Daylight set at a high-quality boundary; a head beyond the ring's present last set wraps first (R489, R490, R497). -/
def State.writeSet (s : State) : State :=
  if !s.writingD then s
  else
    let s := s.modRing false (fun r => { r with head := r.head % s.latSets })
    let s := s.anchorFor false s.epoch32 false
    let h := s.latent.d.head
    let s := s.setTankWords (Tank.dayRing + s.latN * h) (s.latSources.zipIdx.map (fun p => s.latWord p.2 p.1))
    let s := if s.blockUp 1 then s else { s with free := s.free + s.latN }
    s.modRing false (fun r => { r with total := r.total + 1, head := (h + 1) % s.latSets })

/-! ### Wake records (R502, R504) -/

/-- Word address of record `r`. -/
def recAddr (r : Nat) : Nat := Tank.records + 8 * (r % 16)

/-- Whether record `r` still stands in its entry. -/
def State.recLive (s : State) (r : Nat) : Bool := decide ((s.latent.recNext + 256 - r % 256) % 256 ≤ 16) && s.latent.recNext != r % 256

/-- A freeze is armed by a wake at the present block (R503). -/
def State.armFreeze (s : State) (watch : Bool) (rseq : Nat) : State × Bool :=
  let r := s.ring watch
  if s.flag Reg.LATENT_LAT_CFG (if watch then 3 else 4) && !r.frozen && r.pend.isNone then
    let due := s.clk.epoch + BitVec.ofNat 48 (9600 * s.fld Reg.LATENT_LAT_TIMES 15 8)
    (s.modRing watch (fun r => { r with pend := some (due, rseq) }), true)
  else (s, false)

/-- The cause, stream, detail and start epoch of a wake, from the entry that reports it (R456, R483, R502). -/
def wakeFields (e : LogEntry) : Nat × Nat × Nat × Word :=
  (e.wake, bits e.lo 7 0, (if e.wake = 1 then 0 else bits e.lo 15 8), e.hi)

/-- A wake record is written for an entry that will have log sequence `seq` (R502 to R504). -/
def State.writeRecord (s : State) (e : LogEntry) (seq : Nat) : State :=
  let (cause, stream, detail, start) := wakeFields e
  let r := s.latent.recNext
  let (s, fw) := s.armFreeze true r
  let (s, fd) := s.armFreeze false r
  let l := s.latent
  let day := s.clk.daylight
  let now := day && l.preFill
  let (b, join, fill) : Word × Word × Word := match l.rate with
    | some (b, j, f) => if now then (b.truncate 32, j.truncate 32, f.truncate 32) else (0, 0, 0)
    | none => (0, 0, 0)
  let gd : Word := if now && !l.preJoin then l.gd else 0
  let w0 := pack [(24, 8, r), (20, 4, cause), (16, 4, stream), (8, 8, detail), (7, 1, b2n day), (6, 1, b2n now), (5, 1, b2n (fw || fd))]
  let hi : Nat := (s.clk.epoch.extractLsb' 32 16).toNat
  let s := s.setTankWords (recAddr r) [w0, s.epoch32, start, pack [(16, 16, hi), (0, 16, seq)], b, join, fill, gd]
  let s := { s with latent := { s.latent with
    recNext := (r + 1) % 256
    waitRate := if day then s.latent.waitRate else r :: s.latent.waitRate
    waitJoin := match l.rate with
      | some (_, j, _) => if now && l.preJoin then (r, j) :: s.latent.waitJoin else s.latent.waitJoin
      | none => s.latent.waitJoin } }
  (s.setFlag Reg.LATENT_LAT_STATUS 0).countWrap Reg.LATENT_REC_COUNT

/-- The records of the wakes raised in this cycle, in log order; the entry's number is the one the writer will give it
(R502, R690, R692). -/
def State.writeRecords (s : State) : State :=
  let l := (Log.sort s.fixer.raised).zipIdx
  let base := (s.reg Reg.FIXER_LOG_TOTAL).toNat + s.fixer.staged.length
  l.foldl (fun s p => if p.1.wake = 0 then s else s.writeRecord p.1 ((base + p.2) % 65536)) s

/-! ### Freezes (R503, R505) -/

/-- A freeze of a ring is due (R503). -/
def State.freezeDue (s : State) (watch : Bool) : Bool :=
  match (s.ring watch).pend with
  | some (due, _) => decide (due.toNat ≤ s.clk.epoch.toNat)
  | none => false

/-- A ring freezes (R503). -/
def State.freeze (s : State) (watch : Bool) : State :=
  match (s.ring watch).pend with
  | none => s
  | some (_, rseq) =>
    let s := s.modRing watch (fun r => { r with frozen := true, pend := none })
    (s.setFlag Reg.LATENT_LAT_STATUS (if watch then 1 else 2)).raise Log.LATENT 2
      (ofBytes (b2n (!watch)) rseq 0 0) (((s.ring watch).prev).getD 0)

/-- A ring is released; the entry is written where there was a freeze to end or to cancel (R505). -/
def State.release (s : State) (watch auto : Bool) : State :=
  let r := s.ring watch
  if r.frozen || r.pend.isSome then
    let s := s.modRing watch (fun r => { r with frozen := false, pend := none })
    s.raise Log.LATENT 3 (ofBytes (b2n (!watch)) (b2n auto) 0 0)
  else s

/-- A countdown to SAFELIGHT begins (R505). -/
def State.autoRelease (s : State) : State := if s.flag Reg.LATENT_LAT_CFG 5 then s.release true true else s

/-! ### Rate boundaries (R497, R498, R504) -/

/-- The Daylight ring becomes empty (R493, R497, R514). -/
def State.emptyD (s : State) : State :=
  s.modRing false (fun r => { r with total := 0, head := 0, prev := none, gap := false, mis := false })

/-- RUN_D changes from 0 to 1 (R497). -/
def State.startRunD (s : State) : State :=
  (s.emptyD).modRing false (fun r => { r with frozen := false, pend := none })

/-- One record written with MODE 0 takes the words of the boundary into DAYLIGHT (R504). -/
def State.stitch (s : State) (b join fill : Epoch) (r : Nat) : State :=
  if s.recLive r then
    let a := recAddr r
    let s := s.setTank a (setBit (s.tank a) 6 true)
    s.setTankWords (a + 4) [b.truncate 32, join.truncate 32, fill.truncate 32]
  else s

/-- The least multiple of 960 at or after an epoch. -/
def blockAtOrAfter (e : Epoch) : Epoch := BitVec.ofNat 48 ((e.toNat + 959) / 960 * 960)

/-- A rate boundary into DAYLIGHT at the present epoch (R497, R498, R504). `writing` says whether the watch ring was writing. -/
def State.latentToDay (s : State) (writing : Bool) : State :=
  let b := s.clk.epoch
  let join := blockAtOrAfter (b + 4800)
  let fill := join + BitVec.ofNat 48 (960 * s.fld Reg.LATENT_LAT_TIMES 7 0)
  let s := s.emptyD
  let waiting := if writing then s.latent.waitRate.filter s.recLive else []
  let s := { s with latent := { s.latent with
    rate := some (b, join, fill), preFill := true, preJoin := true, waitRate := []
    waitJoin := s.latent.waitJoin ++ waiting.map (fun r => (r, join)) } }
  waiting.foldl (fun s r => s.stitch b join fill r) s

/-- The JOIN epoch of the last change to DAYLIGHT has come. -/
def State.joinNow (s : State) : Bool :=
  s.latent.preJoin && (match s.latent.rate with | some (_, j, _) => decide (j.toNat ≤ s.clk.epoch.toNat) | none => false)

/-- Whether a stitched record's JOIN block has come (R504). -/
def State.joined (s : State) (p : Nat × Epoch) : Bool := decide (p.2.toNat ≤ s.clk.epoch.toNat)

/-- A JOIN block: word 7 of the records stitched to its change (R502, R504). -/
def State.reachJoin (s : State) : State :=
  let gd := s.groupDelay
  let live := (s.latent.waitJoin.filter (fun p => s.joined p && s.recLive p.1)).map (·.1)
  let s := { s with latent := { s.latent with
    preJoin := s.latent.preJoin && !s.joinNow, gd := if s.joinNow then gd else s.latent.gd
    waitJoin := s.latent.waitJoin.filter (fun p => !s.joined p) } }
  live.foldl (fun s r => s.setTank (recAddr r + 7) gd) s

/-- A JOIN block has come. -/
def State.joinDue (s : State) : Bool := s.joinNow || s.latent.waitJoin.any s.joined

/-- The FILL epoch has come (R498). -/
def State.fillDue (s : State) : Bool :=
  s.latent.preFill && (match s.latent.rate with | some (_, _, f) => decide (f.toNat ≤ s.clk.epoch.toNat) | none => false)

/-- The pre-roll is filled (R498). -/
def State.fillPreroll (s : State) : State :=
  let fill : Word := match s.latent.rate with | some (_, _, f) => f.truncate 32 | none => 0
  let s := { s with latent := { s.latent with preFill := false } }
  (s.setFlag Reg.LATENT_LAT_STATUS 3).raise Log.LATENT 1 fill

/-- Bits 47:32 of the epoch move by `d`, and the epochs that the rings wait for with them (R29). -/
def Latent.shift (d : Epoch) (l : Latent) : Latent :=
  let ring := fun (r : Ring) => { r with pend := r.pend.map (fun p => (p.1 + d, p.2)) }
  { l with w := ring l.w, d := ring l.d
           rate := l.rate.map (fun p => (p.1 + d, p.2.1 + d, p.2.2 + d))
           waitJoin := l.waitJoin.map (fun p => (p.1, p.2 + d)) }

/-- A gap, or recovery from an unannounced rate change: the next entry of each ring carries a KIND 1 anchor (R500). -/
def State.gapMark (s : State) : State :=
  (s.modRing true (fun r => { r with gap := true })).modRing false (fun r => { r with gap := true })

/-- The strap read's part (R501). -/
def State.strapLatent (s : State) : State :=
  let s := { s with latent := {} }
  let s := (List.range 32).foldl (fun s e => (s.setTank (Tank.watchAnchors + 3 * e) 0).setTank (Tank.dayAnchors + 3 * e) 0) s
  (List.range 16).foldl (fun s r => s.setTank (Tank.records + 8 * r) 0) s

/-! ### The latent store (R506) and the registers (R492, R514) -/

/-- The space-0 word of a space-4 address, if the store has it, and what an uncorrectable word of a ring reads as (R506, R507). -/
def State.latentWord (s : State) (w : Nat) : Option (Nat × Option Word) :=
  if w < 0x100000 then
    if !s.clk.daylight || (s.fld Reg.LATENT_LAT_CFG 2 0 + 1) * 0x20000 ≤ w then none else some (Tank.dayRing + w, some 0)
  else if w < 0x110000 then some (Tank.watchRing + (w - 0x100000), some 0x80008000#32)
  else if w < 0x110060 then some (Tank.watchAnchors + (w - 0x110000), none)
  else if 0x110080 ≤ w ∧ w < 0x1100E0 then some (Tank.dayAnchors + (w - 0x110080), none)
  else if 0x110100 ≤ w ∧ w < 0x110180 then some (Tank.records + (w - 0x110100), none)
  else none

/-- The Daylight ring is stopped for a configuration write (R492). -/
def State.latStopped (s : State) : Bool := !s.flag Reg.LATENT_LAT_CTL 1 || !s.clk.daylight

/-- Whether a LAT_CFG write is refused (R492). -/
def State.latCfgRefused (s : State) (w : Word) : Bool :=
  let old := s.reg Reg.LATENT_LAT_CFG
  bits (maskedWrite old w) 2 0 != bits old 2 0 && !s.latStopped

/-- Whether a LAT_SRC write is refused (R492). -/
def State.latSrcRefused (s : State) (w : Word) : Bool :=
  let n := (idxWhere 24 (fun b => bitOf w b)).length
  !s.latStopped || n == 0 || decide (8 < n) || bits w 31 24 != 0

/-- LAT_STATE. -/
def State.latState (s : State) : Word :=
  let l := s.latent
  pack [(8, 4, s.latN), (7, 1, b2n l.preFill), (6, 1, b2n l.d.pend.isSome), (5, 1, b2n l.w.pend.isSome), (4, 1, b2n l.d.frozen),
    (3, 1, b2n l.w.frozen), (2, 1, b2n s.writingD), (1, 1, b2n s.writingW)]

/-- LAT_PTRS. -/
def State.latPtrs (s : State) : Word := pack [(16, 8, s.latent.recNext), (8, 5, s.latent.d.anchor), (0, 5, s.latent.w.anchor)]

end Sys2Proof.Machine
end

