-- ==== Sys2Proof/Machine/Sheet.lean ====
section
/-! DEFINITION. Contact sheet: templates, requests, time warping, candidates, reports (R460 to R486). -/

namespace Sys2Proof.Machine

/-! ### Templates (R463 to R465, R470) -/

/-- The space-0 word of template slot `t`, word `w`. -/
def tplAddr (t w : Nat) : Nat := Tank.templates + 0x400 * t + w

def State.tplWord (s : State) (t w : Nat) : Word := s.tank (tplAddr t w)
def State.tplWatch (s : State) (t : Nat) : Bool := bitOf (s.tplWord t 0) 31
def State.tplNorm (s : State) (t : Nat) : Bool := bitOf (s.tplWord t 0) 30
def State.tplStreams (s : State) (t : Nat) : Nat := bits (s.tplWord t 0) 15 8
def State.tplLen (s : State) (t : Nat) : Nat := bits (s.tplWord t 0) 7 0
def State.tplGate (s : State) (t : Nat) : Nat := bits (s.tplWord t 1) 31 24
def State.tplBand (s : State) (t : Nat) : Nat := bits (s.tplWord t 1) 23 16
def State.tplThresh (s : State) (t : Nat) : Nat := bits (s.tplWord t 1) 15 0

/-- Bands of a feature frame of a stream (R461). -/
def featBands (stream : Nat) : Nat := if stream = 8 then 12 else 24

/-- Frame `f` of template `t`, of `n` bands (R465). -/
def State.tplFrame (s : State) (t n f : Nat) : List Nat :=
  (List.range n).map (fun b => bits (s.tplWord t (4 + n / 4 * f + b / 4)) (8 * (b % 4) + 7) (8 * (b % 4)))

/-- A template runs on a stream by its header (R464, R477). -/
def State.tplOn (s : State) (t stream : Nat) : Bool :=
  if s.tplWatch t then stream == 8 else decide (stream < 8) && (s.tplStreams t).testBit stream

/-- Slots enabled or awaiting enable (R470). -/
def State.tplHeld (s : State) : List Nat :=
  s.sheet.enabled ++ (s.sheet.reqs.filter (fun r => r.2 && !s.sheet.enabled.contains r.1)).map (·.1)

/-- What an ARRAY template adds to the array load (R470). -/
def State.tplLoad (s : State) (t : Nat) : Nat :=
  if s.tplWatch t then 0 else s.tplLen t * (idxWhere 8 (fun b => (s.tplStreams t).testBit b)).length

/-- The array load (R470). -/
def State.arrayLoad (s : State) : Nat := s.tplHeld.foldl (fun a t => a + s.tplLoad t) 0

/-- Whether a slot's words refuse writes (R466). -/
def State.tplLocked (s : State) (t : Nat) : Bool := s.sheet.enabled.contains t || s.sheet.reqs.any (fun r => r.1 == t)

/-! ### Requests (R468, R469) -/

/-- Why an enable request is refused, if it is (R469). -/
def State.tplBad (s : State) (t : Nat) : Option Nat :=
  let len := s.tplLen t
  if len = 0 ∨ 128 < len then some 0
  else if s.tplWatch t ∧ 15 < t then some 1
  else if !s.tplWatch t ∧ s.tplStreams t = 0 then some 2
  else if !s.tplWatch t ∧ 65536 < (s.tplHeld.filter (· != t)).foldl (fun a u => a + s.tplLoad u) 0 + s.tplLoad t then some 3
  else none

/-- The requests without those for slot `t`. -/
def State.dropReq (s : State) (t : Nat) : State := { s with sheet := { s.sheet with reqs := assocDel s.sheet.reqs t } }

/-- The Developer reads an uncorrectable word of slot `t` (R635). -/
def State.tplUe (s : State) (t w : Nat) : State := s.noteUe (tplAddr t w / 8) (tplAddr t w % 8 / 2) 4

/-- Word `w` of slot `t` has been read and is uncorrectable: flag, entry and count (R482). -/
def State.tplUnreadable (s : State) (t w : Nat) : State :=
  ((s.setFlag Reg.SHEET_SHEET_STATUS 3).raise Log.SHEET 4 (ofBytes t 0 (w % 256) (w / 256))).fixerReport 25

/-- A request to enable slot `t` (R468, R469); a header that cannot be read leaves it disabled (R482), and reading it ends a fog-test step
that borrows it (R645). -/
def State.requestEnable (s : State) (t : Nat) : State :=
  if s.sheet.enabled.contains t then s.dropReq t
  else
  let s := s.fogReads [tplAddr t 0]
  if s.eccAt (tplAddr t 0) = some true then ((s.dropReq t).tplUe t 0).tplUnreadable t 0
  else match s.tplBad t with
  | some why => (s.setFlag Reg.SHEET_SHEET_STATUS 1).raise Log.SHEET 2 (ofBytes t why 0 0)
  | none => { s with sheet := { s.sheet with reqs := assocSet s.sheet.reqs t true } }

/-- A request to disable slot `t` (R468). -/
def State.requestDisable (s : State) (t : Nat) : State :=
  { s with sheet := { s.sheet with reqs := assocSet s.sheet.reqs t false } }

/-- The paths and candidates of slot `t` are discarded without a report. -/
def State.dropPairs (s : State) (t : Nat) : State :=
  { s with sheet := { s.sheet with pairs := s.sheet.pairs.filter (fun p => p.slot != t) } }

/-- Slot `t` is disabled at once. -/
def State.disable (s : State) (t : Nat) : State :=
  let s := s.dropPairs t
  { s with sheet := { s.sheet with enabled := s.sheet.enabled.filter (· != t), reqs := assocDel s.sheet.reqs t } }

/-- Inserts a slot in ascending order. -/
def insertSlot (t : Nat) : List Nat → List Nat
  | [] => [t]
  | u :: l => if t < u then t :: u :: l else if t = u then u :: l else u :: insertSlot t l

/-- Requests take effect at a block boundary (R468). -/
def State.applyRequests (s : State) : State :=
  let f := fun (s : State) (r : Nat × Bool) =>
    if r.2 then { s with sheet := { s.sheet with enabled := insertSlot r.1 s.sheet.enabled } } else s.disable r.1
  let s' := s.sheet.reqs.foldl f s
  { s' with sheet := { s'.sheet with reqs := [] } }

/-- A store word is uncorrectable: its template is disabled at once (R482). -/
def State.templateEcc (s : State) (t w : Nat) : State :=
  if s.sheet.enabled.contains t then (s.disable t).tplUnreadable t w else s

/-- A double-bit error strikes the check group of a store word before a block. -/
def State.tplStrike (s : State) (t w : Nat) : State :=
  let a := tplAddr t w
  let s := s.eccClear (a / 8) (a % 8 / 2)
  { s with bank := { s.bank with errs := (a / 8, a % 8 / 2, true) :: s.bank.errs } }

/-- The words of slot `t` that its template's match reads, with `n` bands a frame (R465). -/
def State.tplReads (s : State) (t n : Nat) : List Nat := (List.range (4 + n / 4 * s.tplLen t)).filter (fun w => decide (w < 2) || decide (4 ≤ w))

/-- The first of them that is uncorrectable (R482). -/
def State.tplBadWord (s : State) (t n : Nat) : Option Nat := (s.tplReads t n).find? (fun w => s.eccAt (tplAddr t w) == some true)

/-! ### Matching (R471 to R476) -/

/-- The code of a band level (R462). -/
def featCode (level : Int) : Nat := (clampInt 0 255 ((level + 2052) / 8)).toNat

/-- The distance of a live frame and a template frame (R471). -/
def frameDistance (norm : Bool) (x y : List Nat) : Nat :=
  let b := x.length
  let sx : Nat := x.foldl (· + ·) 0
  let sy : Nat := y.foldl (· + ·) 0
  ((x.zip y).map (fun p =>
    if norm then (((b * p.1 : Nat) : Int) - sx - (((b * p.2 : Nat) : Int) - sy)).natAbs else ((p.1 : Int) - p.2).natAbs)).foldl (· + ·) 0

/-- The cell of lowest sum, the first of equals (R472). -/
def lowestCell : List (Option Cell) → Option Cell
  | [] => none
  | none :: t => lowestCell t
  | some c :: t => match lowestCell t with
    | some d => if d.d < c.d then some d else some c
    | none => some c

/-- The new column of a pair at the frame of codes `x` and epoch `e` (R472). -/
def State.newColumn (s : State) (p : Pair) (x : List Nat) (e : Epoch32) (drain : Bool) : List (Option Cell) :=
  let n := x.length
  let norm := s.tplNorm p.slot
  let w := s.tplBand p.slot
  (List.range (s.tplLen p.slot)).map (fun i =>
    let c : Option Cell :=
      if i = 0 then (if drain then none else some ⟨0, 0, e, p.count, p.codes⟩)
      else lowestCell [nth p.prev1 (i - 1) none, (if 2 ≤ i then nth p.prev1 (i - 2) none else none), nth p.prev2 (i - 1) none]
    match c with
    | none => none
    | some c =>
      if w < (((p.count - c.frame : Nat) : Int) - i).natAbs then none
      else some { c with d := min 0xFFFFFFFF (c.d + frameDistance norm x (s.tplFrame p.slot n i)), n := c.n + 1 })

/-- The score of a final cell (R473). -/
def cellScore (norm : Bool) (b : Nat) (c : Cell) : Nat := min 0xFFFF (16 * c.d / (c.n * b * (if norm then b else 1)))

/-- Whether the span of a final cell qualifies (R474); `count` and `codes` include the present frame. -/
def spanQualifies (gate b count codes : Nat) (c : Cell) : Bool := decide (gate * b * (count - c.frame) ≤ codes - c.codes)

/-- CLOSE; 0 acts as 1 (R475, R486). -/
def State.closeLimit (s : State) : Nat := max 1 (bits s.sheet.ctl 7 4)

/-- A candidate after one more consumed frame: `q` is the frame's score where it qualifies. The candidate to go on with, and the
one to report (R475). -/
def stepCand (limit : Nat) (e : Epoch32) (q : Option (Nat × Epoch32)) : Option Cand → Option Cand × Option Cand
  | none => (q.map (fun p => ⟨p.1, p.2, e, 0⟩), none)
  | some c =>
    match q with
    | none => (none, some c)
    | some p =>
      let c' : Cand := if p.1 < c.score then ⟨p.1, p.2, e, c.age + 1⟩ else { c with age := c.age + 1 }
      if limit ≤ c'.age then (none, some c') else (some c', none)

/-- A pair consumes a frame: the pair, the final score if there is one, and a candidate to report (R472 to R475). -/
def State.consume (s : State) (p : Pair) (x : List Nat) (e : Epoch32) (drain : Bool) : Pair × Option Nat × Option Cand :=
  let b := x.length
  let col := s.newColumn p x e drain
  let count := p.count + 1
  let codes := p.codes + x.foldl (· + ·) 0
  let last := nth col (s.tplLen p.slot - 1) none
  let score := last.map (cellScore (s.tplNorm p.slot) b)
  let q := match last with
    | some c =>
      let sc := cellScore (s.tplNorm p.slot) b c
      if sc ≤ s.tplThresh p.slot ∧ spanQualifies (s.tplGate p.slot) b count codes c then some (sc, c.start) else none
    | none => none
  let (cand, report) := stepCand s.closeLimit e q p.cand
  ({ p with count := count, codes := codes, prev2 := p.prev1, prev1 := col, cand := cand }, score, report)

/-! ### Reports (R451, R475, R476) -/

/-- Whether a cause at bit `bit` of WAKE_STATUS makes a wake now: its PIN bit is 1, and the flag takes a setting (R236, R451). -/
def State.wakes (s : State) (bit : Nat) : Bool :=
  s.flag Reg.DEV_WAKE_CFG bit && !(s.flag Reg.DEV_WAKE_STATUS bit && (s.setOf Reg.DEV_WAKE_STATUS).getLsbD bit)

/-- A cause of the flag at bit `bit` of WAKE_STATUS, and the count of the wake it makes (R451). -/
def State.noteWake (s : State) (bit : Nat) : State :=
  let s' := s.setFlag Reg.DEV_WAKE_STATUS bit
  if s.wakes bit then s'.countWrap Reg.DEV_WAKE_COUNT else s'

/-- An entry that reports a wake, where there is one; `cause` is its record's CAUSE (R451, R502). -/
def State.raiseWake (s : State) (wake : Bool) (cause source code : Nat) (lo hi : Word) : State :=
  let e : LogEntry := { epoch := s.clk.epoch, source, code, lo, hi, event := Log.isEvent s source code lo
                        wake := if wake then cause else 0 }
  { s with fixer := { s.fixer with raised := s.fixer.raised ++ [e] } }

/-- The pair of a slot and stream, made with empty columns where there is none. -/
def State.pair (s : State) (slot stream : Nat) : Pair :=
  (s.sheet.pairs.find? (fun p => p.slot == slot && p.stream == stream)).getD { slot, stream }

/-- A pair stored. -/
def State.putPair (s : State) (p : Pair) : State :=
  { s with sheet := { s.sheet with pairs := p :: s.sheet.pairs.filter (fun q => !(q.slot == p.slot && q.stream == p.stream)) } }

/-- Both columns of a pair emptied. -/
def Pair.clear (p : Pair) : Pair := { p with prev1 := [], prev2 := [], cand := none }

/-- A candidate is reported (R475). -/
def State.reportMatch (s : State) (slot stream : Nat) (c : Cand) : State :=
  let wake := s.wakes 10
  let s := (s.noteWake 10).setFlag Reg.SHEET_SHEET_STATUS 0
  let lm := pack [(16, 16, c.score), (8, 8, slot), (0, 4, stream)]
  let s := { s with sheet := { s.sheet with lastMatch := lm, lastStart := c.start, lastEnd := c.best } }
  let s := s.countWrap Reg.SHEET_MATCH_COUNT
  let s := s.raiseWake wake 3 Log.SHEET 1 (ofBytes stream slot (c.score % 256) (c.score / 256)) c.start
  s.putPair (s.pair slot stream).clear

/-- A template consumes the feature frame of a stream. -/
def State.consumeFrame (s : State) (slot stream : Nat) (x : List Nat) (e : Epoch32) : State :=
  let (p, score, report) := s.consume (s.pair slot stream) x e (s.sheet.drain && stream == 8)
  let s := s.putPair p
  let watched := s.fld Reg.SHEET_SCORE_SEL 7 0 == slot && s.fld Reg.SHEET_SCORE_SEL 11 8 == stream
  let s := match score with
    | some v => if watched then { s with sheet := { s.sheet with best := min s.sheet.best v } } else s
    | none => s
  match report with
  | some c => s.reportMatch slot stream c
  | none => s

/-! ### Abandoning, watch matching (R477 to R480) -/

/-- The SHEET or DEV page is in its parity safe state: no frame is consumed (R479). -/
def State.sheetHeld (s : State) : Bool := s.port.held.any (fun a => Reg.pageOf a == 8 || Reg.pageOf a == 9)

/-- A pair holds a path or a candidate. -/
def Pair.holds (p : Pair) : Bool := p.cand.isSome || p.prev1.any (·.isSome) || p.prev2.any (·.isSome)

/-- Every path of a stream is abandoned; open candidates are reported first; in a safe state the columns hold, and the abandon waits
for its end (R479). -/
def State.abandon (s : State) (stream reason : Nat) : State :=
  if s.sheetHeld then
    (if s.sheet.owed.any (fun p => p.1 == stream) then s
     else { s with sheet := { s.sheet with owed := s.sheet.owed ++ [(stream, reason)] } })
  else
  let held := s.sheet.pairs.any (fun p => p.stream == stream && p.holds)
  let s := s.sheet.enabled.foldl (fun s t => match (s.pair t stream).cand with
    | some c => s.reportMatch t stream c
    | none => s) s
  let s := { s with sheet := { s.sheet with pairs := s.sheet.pairs.map (fun p => if p.stream = stream then p.clear else p) } }
  if held then
    ((s.setFlag Reg.SHEET_SHEET_STATUS 4).countSat Reg.SHEET_ABANDON_COUNT).raise Log.SHEET 5 (ofBytes stream reason 0 0)
  else s

/-- The abandon of a stream that waited for the end of a safe state is made, in the stream's turn (R476, R479). -/
def State.payOwed (s : State) (stream : Nat) : State :=
  if s.sheetHeld then s
  else
    let due := s.sheet.owed.filter (fun p => p.1 == stream)
    let s := { s with sheet := { s.sheet with owed := s.sheet.owed.filter (fun p => p.1 != stream) } }
    due.foldl (fun s p => s.abandon p.1 p.2) s

/-- The source a stream takes (R425). -/
def State.streamSrc (s : State) (i : Nat) : Nat := if i = 8 then 24 else (nth s.dev.streams i {}).src

/-- A beam's tables read a PDM channel. -/
def State.beamPdm (s : State) (b : Beam) : Bool :=
  let on := fun (t : Table) => t.en && (List.range 16).any (fun k => t.weight k != 0 && s.pdmTakes k)
  on b.active || (match b.fade with | some f => on f.new | none => false)

/-- A stream's source is a PDM channel, or a beam that reads one (R425). -/
def State.streamPdm (s : State) (i : Nat) : Bool :=
  let k := s.streamSrc i
  if k < 8 then s.beamPdm (s.beam k) else decide (k < 24) && s.pdmTakes (k - 8)

/-- How many ticks after a channel sample a block of a stream may still hold it: its window, and a beam's 80 samples (R361, R428). -/
def State.streamReach (s : State) (i : Nat) : Nat := (if i = 8 then 1536 else 1024) + (if s.streamSrc i < 8 then 160 else 0)

/-- A block of a stream may hold samples that stand before a tick. -/
def State.holdsBefore (s : State) (i : Nat) : Option Nat → Bool
  | some t => decide (s.clk.ticks < t + s.streamReach i)
  | none => false

/-- A block that is not valid holds samples that a gap made invalid, and none of a clock fault (R62, R479; log 94). -/
def State.gapBlock (s : State) (i : Nat) : Bool :=
  (s.holdsBefore i s.sheet.gapUntil || (s.streamPdm i && s.holdsBefore i s.sheet.pdmUntil))
    && !s.clk.fault && !s.holdsBefore i s.sheet.faultUntil

/-- The Contact sheet meets an invalid block of a stream: one that a gap and what follows it made invalid keeps its paths (R479). -/
def State.abandonInvalid (s : State) (stream : Nat) : State := if s.gapBlock stream then s else s.abandon stream 0

/-- Stream 8 runs (R426). -/
def State.watchStreamRuns (s : State) : Bool := (nth s.dev.streams 8 {}).en && s.lpRuns

/-- Watch matching must run, its drain apart (R477). -/
def State.watchMust (s : State) : Bool := !s.clk.daylight || s.toSafe || bitOf s.sheet.ctl 1 || s.latent.preFill

/-- Watch matching starts to run, with empty columns, or to drain (R477). -/
def State.updateDrain (s : State) : State :=
  if s.watchMust then
    if s.sheet.watchRun then { s with sheet := { s.sheet with drain := false } }
    else { s with sheet := { s.sheet with watchRun := true, drain := false
                                          pairs := s.sheet.pairs.filter (fun p => p.stream != 8) } }
  else if s.sheet.watchRun then { s with sheet := { s.sheet with drain := true } }
  else s

/-- The drain ends when stream 8 holds no path and no candidate (R477). -/
def State.endDrain (s : State) : State :=
  if s.sheet.drain && !s.sheet.pairs.any (fun p => p.stream == 8 && p.holds) then
    ({ s with sheet := { s.sheet with watchRun := false, drain := false } }).setFlag Reg.SHEET_SHEET_STATUS 5
  else s

/-- RUN applies at a block boundary (R478). -/
def State.applyRun (s : State) : State :=
  let run := bitOf s.sheet.ctl 0
  let pairs := if run then s.sheet.pairs else []
  { s with sheet := { s.sheet with run := run, pairs := pairs } }

/-- Enabled templates that run on a stream (R477). -/
def State.templatesOn (s : State) (stream : Nat) : List Nat :=
  if stream = 8 ∧ !s.sheet.watchRun then [] else s.sheet.enabled.filter (fun t => s.tplOn t stream)

/-- The feature frame of a valid block of a stream, and the templates that consume it; one with a word that cannot be read is
disabled (R460, R462, R472, R479, R482). -/
def State.featureFrame (s : State) (stream : Nat) (levels : List Int) : State :=
  let ts := s.templatesOn stream
  if ts.isEmpty then s
  else
    let x := (List.range (featBands stream)).map (fun b => featCode (nth levels b (-2048)))
    let e := s.epoch32
    let s := { s with sheet := { s.sheet with feats := s.sheet.feats.set stream (e, x) } }
    if s.sheetHeld || !s.sheet.run then s
    else
      let s := if s.sheet.longGap.contains stream then
          ({ s with sheet := { s.sheet with longGap := s.sheet.longGap.filter (· != stream) } }).abandon stream 1
        else s
      ts.foldl (fun s t =>
        if !s.sheet.enabled.contains t then s
        else
          let s := s.fogReads ((s.tplReads t x.length).map (tplAddr t))
          match s.tplBadWord t x.length with
          | some w => (s.tplUe t w).templateEcc t w
          | none => s.consumeFrame t stream x e) s

/-- Templates in store segments that SAFELIGHT does not retain are lost (R480): `keep` says which store segments it retains. -/
def State.loseTemplates (s : State) (keep : Nat → Bool) : State :=
  let lost := s.sheet.enabled.filter (fun t => decide (32 ≤ t) && !keep (t / 32))
  lost.foldl (fun s t => ((s.disable t).setFlag Reg.SHEET_SHEET_STATUS 2).raise Log.SHEET 3 (ofBytes t 0 0 0)) s

/-- The strap read's part (R467). -/
def State.strapSheet (s : State) : State := { s with sheet := {} }

/-- SHEET_CTL is sampled (R478). -/
def State.sampleSheet (s : State) : State := { s with sheet := { s.sheet with ctl := s.reg Reg.SHEET_SHEET_CTL } }

/-! ### Views and reads with effects (R485, R486) -/

/-- SHEET_STATE. -/
def State.sheetState (s : State) : Word :=
  let wn := (s.tplHeld.filter s.tplWatch).length
  pack [(23, 1, b2n s.sheet.drain), (22, 1, b2n (s.sheet.watchRun && s.sheet.run && s.watchStreamRuns)), (17, 5, wn), (0, 17, s.arrayLoad)]

/-- EN_n. -/
def State.sheetEn (s : State) (n : Nat) : Word := BitVec.ofNat 32 (maskOf 32 (fun t => s.sheet.enabled.contains (32 * n + t)))

/-- The bands of a frame packed as R465 lays them out. -/
def featWord (x : List Nat) (n : Nat) : Word := ofBytes (nth x (4 * n) 0) (nth x (4 * n + 1) 0) (nth x (4 * n + 2) 0) (nth x (4 * n + 3) 0)

/-- A read of FEAT_READ_0 latches the selected stream's frame (R485, R486). -/
def State.latchFeat (s : State) : State :=
  let n := s.fld Reg.SHEET_FEAT_SEL 3 0
  { s with sheet := { s.sheet with latched := if n < 9 then nth s.sheet.feats n (0, []) else (0, []) } }

/-- A read of SCORE_READ starts anew (R485). -/
def State.resetScore (s : State) : State := { s with sheet := { s.sheet with best := 0xFFFF } }

end Sys2Proof.Machine
end

