-- ==== Sys2Proof/Machine/Spectrum.lean ====
section
/-! DEFINITION. The Developer's analysis of a block: Hann window, Fourier transform, band and feature powers, levels, the tone of a
profile (R428, R431, R432, R444, R460, R461). -/

namespace Sys2Proof.Machine

/-! ### The transform (R431) -/

/-- The samples of a block under a Hann window, oldest first, each with its number; `m` is 512 over their count. The factor of a
sample is in 2⁻³¹ (R431). -/
def hann (m : Nat) (xs : List Int) : List (Int × Nat) :=
  ((xs.zipIdx).filter (fun p => p.1 != 0)).map (fun p => (p.1 * (2 ^ 30 - cos512 (m * p.2)), p.2))

/-- The power of bin `k` of the transform of windowed samples (R431). -/
def binPower (m : Nat) (xs : List (Int × Nat)) (k : Nat) : Nat :=
  let re := xs.foldl (fun (a : Int) p => a + p.1 * cos512 (m * k * p.2)) 0
  let im := xs.foldl (fun (a : Int) p => a + p.1 * sin512 (m * k * p.2)) 0
  (re * re + im * im).toNat

/-- The spectrum of a block: the transform's length, a sample's full scale, and the powers of bins 0 to the highest that a band
touches and the one above it. -/
structure Spectrum where
  n     : Nat
  full  : Nat
  power : List Nat
  deriving DecidableEq, Repr

/-- The spectrum of a block's samples, oldest first: 256 of a 16 kHz stream, 512 of a 48 kHz stream (R428, R431). -/
def spectrumOf (watch : Bool) (xs : List Int) : Spectrum :=
  let m := if watch then 2 else 1
  let w := hann m xs
  ⟨512 / m, if watch then 2 ^ 15 else 2 ^ 23, (List.range (if watch then 105 else 209)).map (binPower m w)⟩

/-! ### Levels (R432) -/

/-- The least `m` at which `p` × `b`^`m` is not below `d`, 4,096 where there is none up to 4,095, from `2 ^ bits` candidates on `m`. -/
def attenuation (b p d : Nat) : Nat → Nat → Nat
  | 0, m => m
  | n + 1, m => attenuation b p d n (if p * b ^ (m + 2 ^ n - 1) < d then m + 2 ^ n else m)

/-- The level of a power `p` against `d`, to the nearest 1/16 dB, between −2,048 and 0: a ratio of powers in 1/16 dB is 160 times its
common logarithm. -/
def nearLevel (p d : Nat) : Int :=
  if p = 0 then -2048 else clampInt (-2048) 0 (-(attenuation 100 (10 * p ^ 320) (d ^ 320) 12 0 : Nat))

/-- Sixteen times the power of full scale, which is that of a full-scale square, so that a sine of amplitude A has 20 log10(A/√2): twice
what the Hann window leaves of a full-scale sine in its three bins (R432). -/
def Spectrum.fullPower (x : Spectrum) : Nat := 3 * x.n ^ 2 * (x.full * 2 ^ 61) ^ 2

/-- The level of a power in 1/16 dB, with an error that keeps within 0.5 dB (R432). -/
def Spectrum.level (x : Spectrum) (p : Nat) : Int :=
  if p = 0 then -2048
  else clampInt (-2048) 0 (nearLevel (16 * p) x.fullPower + clampInt (-7) 7 (Config.levelError x.n p))

/-! ### Bands (R431, R461) -/

/-- The first bin of each band and the one after the last (R431). -/
def bandEdges (watch : Bool) : List Nat :=
  if watch then [2, 4, 8, 16, 24, 36, 52, 72, 104] else [2, 4, 8, 16, 32, 64, 96, 144, 208]

/-- The first bin of each feature band and the one after the last (R461). -/
def featEdges (watch : Bool) : List Nat :=
  if watch then [2, 4, 6, 8, 11, 15, 20, 26, 34, 45, 60, 80, 104]
  else [2, 3, 4, 5, 6, 7, 8, 10, 12, 14, 16, 19, 23, 27, 32, 38, 45, 54, 64, 76, 91, 108, 128, 152, 208]

/-- The power of bins `a` to `b − 1`. -/
def Spectrum.sum (x : Spectrum) (a b : Nat) : Nat := ((x.power.take b).drop a).foldl (· + ·) 0

/-- The level of each band that `edges` bounds. -/
def Spectrum.levels (x : Spectrum) (edges : List Nat) : List Int :=
  (edges.zip edges.tail).map (fun p => x.level (x.sum p.1 p.2))

/-! ### The tone of a profile (R444) -/

/-- A profile's tone in a block: whether a bin lies in its range, the frequency of the peak, the level of the peak and of the rest of
its band, and that band (R444). -/
structure Tone where
  present : Bool
  fp      : Nat
  peak    : Int
  rest    : Int
  band    : Nat
  deriving DecidableEq, Repr

/-- The spacing of the bins, in 1/16 Hz (R431). -/
def Spectrum.spacing (x : Spectrum) : Nat := if x.n = 256 then 1000 else 1500

/-- The bins inside bands 0 to 7 whose centres lie from `lo` to `hi` Hz (R444). -/
def Spectrum.range (x : Spectrum) (watch : Bool) (lo hi : Nat) : List Nat :=
  (List.range (nth (bandEdges watch) 8 0)).filter (fun k => decide (2 ≤ k ∧ 16 * lo ≤ k * x.spacing ∧ k * x.spacing ≤ 16 * hi))

/-- The vertex of the parabola through levels `a`, `b`, `c` of three neighbouring bins, in 1/1,000 bin from the middle one: at most one
bin, towards the stronger neighbour where they have no vertex (R444). -/
def vertex (a b c : Int) : Int :=
  let d := a - 2 * b + c
  if d < 0 then clampInt (-1000) 1000 (Int.tdiv (500 * (a - c)) d) else if a < c then 1000 else if c < a then -1000 else 0

/-- How far, in 1/1,000 bin, a steady sine lies from a bin of power `p` towards a neighbour of the greater power `q`: under the Hann window
bins at distances x and 1 − x of a sine have amplitudes in the ratio of 2 − x to 1 + x (R431). -/
def edgePlace (p q : Nat) : Int :=
  500 + (((List.range 1500).filter (fun i => decide (p * (1501 + i) ^ 2 ≤ q * (1499 - i) ^ 2))).length : Nat)

/-- The shift of the sine from the peak at bin `k`, in 1/1,000 bin. DESIGN CHOICE (log 9): the parabola is fitted to the levels, R444 does
not say to what. With the error of the fit it stays within 0.1 bin of a steady sine, also where the stronger neighbour lies outside the
profile's range, so that the peak of the range is none of the spectrum's (R444). -/
def Spectrum.shift (x : Spectrum) (k : Nat) : Int :=
  let p := fun k => nth x.power k 0
  let l := fun k => nearLevel (16 * p k) x.fullPower
  let err := Config.peakError (p (k - 1)) (p k) (p (k + 1))
  let v := vertex (l (k - 1)) (l k) (l (k + 1))
  if p (k - 1) ≤ p k ∧ p (k + 1) ≤ p k then clampInt (-500) 500 (v + clampInt (-75) 75 err)
  else if p (k - 1) < p (k + 1) then
    let e := edgePlace (p k) (p (k + 1))
    clampInt (e - 98) (e + 98) (v + err)
  else
    let e := -edgePlace (p k) (p (k - 1))
    clampInt (e - 98) (e + 98) (v + err)

/-- The tone of a frequency range (R444). -/
def Spectrum.tone (x : Spectrum) (watch : Bool) (lo hi : Nat) : Tone :=
  let r := x.range watch lo hi
  let top := (r.map (fun k => nth x.power k 0)).foldl max 0
  let ks := r.filter (fun k => nth x.power k 0 == top)
  if ks.isEmpty then ⟨false, 0, 0, 0, 0⟩
  else
    let k := nth ks (if ks.length = 1 then 0 else Config.peakAmong ks % ks.length) 0
    let b := ((bandEdges watch).tail.filter (fun e => decide (e ≤ k))).length
    let p := x.sum (k - 1) (k + 2)
    let band := x.sum (nth (bandEdges watch) b 0) (nth (bandEdges watch) (b + 1) 0)
    ⟨true, (roundHalfUp ((1000 * (k : Int) + x.shift k) * x.spacing) 16000).toNat, x.level p, x.level (band - p), b⟩

end Sys2Proof.Machine
end

