-- ==== Sys2Proof/Machine/Dev.lean ====
section
/-! DEFINITION. Developer: streams, adaptive floors, activity, alarm tones, wakes and the WAKE pin, and the block boundary that
drives the Contact sheet too (R425 to R459). -/

namespace Sys2Proof.Machine

/-! ### Streams and parameters -/

def State.stream (s : State) (i : Nat) : Stream := nth s.dev.streams i {}

def State.modStream (s : State) (i : Nat) (f : Stream → Stream) : State :=
  { s with dev := { s.dev with streams := modNth s.dev.streams i f } }

/-- A stream runs (R426). -/
def State.streamRuns (s : State) (i : Nat) : Bool :=
  if i = 8 then s.watchStreamRuns else s.clk.daylight && (s.stream i).en && decide ((s.stream i).src ≤ 23)

/-- The samples a stream's window holds (R428). -/
def blockSamples (i : Nat) : Nat := if i = 8 then 256 else 512

/-- The block that ends at the present boundary is valid (R429). -/
def State.blockValid (s : State) (i : Nat) : Bool := decide (blockSamples i ≤ nth s.dev.runs (s.streamSrc i) 0)

/-- DEV_CTL and the SRC registers are sampled (R427). -/
def State.sampleDev (s : State) : State :=
  let src := fun k => if k < 4 then s.fld Reg.DEV_SRC_LO (8 * k + 4) (8 * k) else s.fld Reg.DEV_SRC_HI (8 * (k - 4) + 4) (8 * (k - 4))
  { s with dev := { s.dev with ctl := s.fld Reg.DEV_DEV_CTL 8 0, srcs := (List.range 8).map src } }

/-- One more sample of source `k`, valid or not (R429). -/
def State.countSample (s : State) (k : Nat) (valid : Bool) : State :=
  { s with dev := { s.dev with runs := modNth s.dev.runs k (fun n => if valid then min 512 (n + 1) else 0) } }

/-- The Developer reads a sample of source `k` into its own memory (R428, R622). -/
def State.takeSample (s : State) (k : Nat) (code : Int) (valid : Bool) : State :=
  let s := { s with dev := { s.dev with mem := modNth s.dev.mem k (fun l => (code :: l).take 512) } }
  s.countSample k valid

/-- The sources' samples at a high-quality boundary. -/
def State.countSamples (s : State) : State :=
  let s := (List.range 8).foldl (fun s b => s.takeSample b (hqCode (s.beamNow b)) (bitOf (s.beamNow b) 0)) s
  (List.range 16).foldl (fun s k => s.takeSample (8 + k) (hqCode (s.hqNow k)) (bitOf (s.hqNow k) 0)) s

/-- The watch converter's sample at a low-power boundary. -/
def State.countWatch (s : State) : State :=
  s.takeSample 24 (sgnOf 16 (bits (s.tank (lpWindowAddr s.clk.epoch)) 31 16)) s.decim.lpValid

/-- The spectrum of stream `i`'s block at the present boundary (R428, R431). -/
def State.spectrum (s : State) (i : Nat) : Spectrum :=
  spectrumOf (i == 8) ((nth s.dev.mem (s.streamSrc i) []).take (blockSamples i)).reverse

/-- A gap breaks every run of samples. -/
def State.breakRuns (s : State) : State := { s with dev := { s.dev with runs := s.dev.runs.map (fun _ => 0) } }

/-- ENERGY_CFG and FLOOR_CFG of a stream (R458). -/
def energyReg (i : Nat) : Nat := if i = 8 then Reg.DEV_ENERGY_CFG_W else Reg.DEV_ENERGY_CFG_A
def floorReg (i : Nat) : Nat := if i = 8 then Reg.DEV_FLOOR_CFG_W else Reg.DEV_FLOOR_CFG_A

def State.devBias (s : State) (i : Nat) : Int := s.fld (floorReg i) 31 24
def State.devSubwin (s : State) (i : Nat) : Nat := max 1 (s.fld (floorReg i) 23 16)
def State.devNsub (s : State) (i : Nat) : Nat := min 8 (max 1 (s.fld (floorReg i) 15 12))
def State.devSmooth (s : State) (i : Nat) : Nat := s.fld (floorReg i) 11 10

/-! ### The floor (R433, R434, R438 to R441) -/

/-- The lowest of a list, if it has any. -/
def minOf : List Int → Option Int
  | [] => none
  | x :: t => match minOf t with | some y => some (min x y) | none => some x

/-- A band seeded (R433). -/
def Band.seed (bias v : Int) (b : Band) : Band := { b with s := v, f := v, curmin := none, minima := List.replicate 8 (v - bias) }

/-- A band in the fog (R433). -/
def Band.fogStep (first : Bool) (l : Int) (b : Band) : Band :=
  if first then { b with s := l, f := l }
  else
    let v := b.s + (l - b.s) / 2
    { b with s := v, f := min b.f v }

/-- A band at the timed end of the fog (R433). -/
def Band.fogEnd (bias : Int) (b : Band) : Band := { b with minima := List.replicate 8 (b.f - bias), curmin := none }

/-- A band outside the fog; `turn` says that this block completes a sub-window (R433). -/
def Band.run (bias : Int) (nsub smooth : Nat) (turn : Bool) (l : Int) (b : Band) : Band :=
  let v := b.s + (l - b.s) / 2 ^ smooth
  let cm := match b.curmin with | some m => min m v | none => v
  let b := if turn then { b with s := v, minima := (cm :: b.minima).take 8, curmin := none } else { b with s := v, curmin := some cm }
  let lows := b.minima.take nsub ++ (match b.curmin with | some m => [m] | none => [])
  { b with f := ((minOf lows).getD v) + bias }

/-- Every band of a stream with its level. -/
def eachBand (bs : List Band) (ls : List Int) (f : Int → Band → Band) : List Band :=
  bs.zipIdx.map (fun p => f (nth ls p.2 (-2048)) p.1)

/-- The end of a fog (R439). -/
def State.fogEnded (s : State) (i : Nat) (bySeed : Bool) : State :=
  (s.setFlag Reg.DEV_DEV_STATUS 0).raise Log.DEV 6 (ofBytes i (b2n bySeed) 0 0)

/-- A fog begins (R438). -/
def State.fogStart (s : State) (i why : Nat) : State :=
  let s := s.modStream i (fun d => { d with fog := true, fogblk := 0 })
  s.raise Log.DEV 5 (ofBytes i why 0 0)

/-- The floors of a stream in a valid block (R433). The first valid block of the fog that a stale gap brings is taken as a restart's is:
its levels are the floor to begin with, and the floor where FOG is 0 (R38, R438; log 82). -/
def State.updateFloors (s : State) (i : Nat) (ls : List Int) : State :=
  let d := s.stream i
  let bias := s.devBias i
  match d.seed with
  | some v =>
    let s := s.modStream i (fun d => { d with
      bands := d.bands.zipIdx.map (fun p => p.1.seed bias (nth v p.2 (-1280)))
      nblk := 0, seed := none, fog := false, hasFloor := true, first := false, stale := false })
    let s := if d.fog then s.fogEnded i true else s
    s.setFlag Reg.DEV_DEV_STATUS 1
  | none =>
    let s := if d.stale then (s.modStream i (fun d => { d with stale := false, first := true })).fogStart i 1 else s
    let d := s.stream i
    if d.fog then
      let n := d.fogblk + 1
      let bands := eachBand d.bands ls (fun l b => b.fogStep d.first l)
      let ended := decide (8 * s.fld Reg.DEV_FOG_CFG 7 0 ≤ n)
      let bands := if ended then bands.map (Band.fogEnd bias) else bands
      let s := s.modStream i (fun d => { d with bands := bands, fogblk := n, fog := !ended, hasFloor := true, first := false
                                                nblk := if ended then 0 else d.nblk })
      if ended then s.fogEnded i false else s
    else
      let turn := decide (s.devSubwin i ≤ d.nblk + 1)
      let bands := eachBand d.bands ls (Band.run bias (s.devNsub i) (s.devSmooth i) turn)
      s.modStream i (fun d => { d with bands := bands, nblk := (if turn then 0 else d.nblk + 1), hasFloor := true, first := false })

/-! ### Activity (R435 to R437) -/

/-- The active bands of a block, as a mask (R435). -/
def State.activeBands (s : State) (i : Nat) (ls : List Int) : Nat :=
  let d := s.stream i
  let thresh : Int := 4 * s.fld (energyReg i) 31 24
  if d.fog then 0
  else maskOf 8 (fun b => decide ((nth d.bands b {}).f + thresh ≤ nth ls b (-2048)) && s.flag (energyReg i) (16 + b))

/-- Bits set in a mask of 8. -/
def popCount8 (m : Nat) : Nat := (idxWhere 8 m.testBit).length

/-- Activity on stream `i` ends (R437). -/
def State.endActivity (s : State) (i : Nat) : State :=
  let d := s.stream i
  let n := min 0xFFFF d.runLen
  let s := s.modStream i (fun d => { d with active := false, offRun := 0, onRun := 0, span := 0, runLen := 0 })
  s.raise Log.DEV 2 (ofBytes i 0 (n % 256) (n / 256)) d.lastActive

/-- Activity on stream `i` begins (R436). -/
def State.beginActivity (s : State) (i mask : Nat) : State :=
  let d := s.stream i
  let s := s.modStream i (fun d => { d with active := true, span := d.onRun, runLen := d.onRun, offRun := 0 })
  let wake := s.wakes i
  let s := (s.noteWake i).countWrap Reg.DEV_ACT_COUNT
  s.raiseWake wake 1 Log.DEV 1 (ofBytes i mask 0 0) d.onStart

/-- The activity of a stream in a valid block. -/
def State.updateActivity (s : State) (i : Nat) (ls : List Int) : State :=
  let m := s.activeBands i ls
  let need := min 8 (max 1 (s.fld (energyReg i) 13 10))
  let e := s.epoch32
  if need ≤ popCount8 m then
    let s := s.modStream i (fun d => { d with
      onRun := d.onRun + 1, onStart := (if d.onRun = 0 then e else d.onStart), offRun := 0, lastActive := e
      span := d.span + 1, runLen := d.span + 1 })
    let d := s.stream i
    if !d.active && decide (max 1 (s.fld (energyReg i) 9 6) ≤ d.onRun) then s.beginActivity i m else s
  else
    let s := s.modStream i (fun d => { d with onRun := 0, offRun := d.offRun + 1, span := d.span + 1 })
    let d := s.stream i
    if d.active && decide (max 1 (s.fld (energyReg i) 5 0) ≤ d.offRun) then s.endActivity i else s

/-! ### Alarm tones (R442 to R449) -/

def State.profile (s : State) (p : Nat) : Option (List Word) := nth s.dev.profiles p none

def profWord (ws : List Word) (i : Nat) : Word := nth ws i 0
def profEn (ws : List Word) : Bool := bitOf (profWord ws 1) 15
def profNseg (ws : List Word) : Nat := bits (profWord ws 1) 14 12
def profDrop (ws : List Word) : Nat := bits (profWord ws 1) 17 16
def profOn (ws : List Word) (i : Nat) : Bool := bitOf (profWord ws (4 + i)) 31
def profMax (ws : List Word) (i : Nat) : Nat := bits (profWord ws (4 + i)) 23 12
def profMin (ws : List Word) (i : Nat) : Nat := bits (profWord ws (4 + i)) 11 0

/-- Why a commit is refused, as the PROFILE_BAD reason, if it is (R443, R456). -/
def profileBad (ws : List Word) : Option Nat :=
  let n := profNseg ws + 1
  let w0 := profWord ws 0
  if bits w0 31 16 ≤ bits w0 15 0 then some 0
  else if 1 < n ∧ n % 2 = 1 then some 1
  else if 1 < n ∧ !(List.range (n - 1)).all (fun i => profOn ws i != profOn ws (i + 1)) then some 1
  else if n = 1 ∧ !profOn ws 0 then some 1
  else if (List.range n).any (fun i => decide (profMax ws i < profMin ws i)) then some 2
  else none

/-- A PROF_COMMIT with GO (R442, R443). -/
def State.commitProfile (s : State) (p : Nat) : State :=
  let ws := (List.range 12).map (fun i => s.reg (Reg.DEV_PROF_STAGE_0 + 4 * i))
  match profileBad ws with
  | some why => (s.setFlag Reg.DEV_DEV_STATUS 2).raise Log.DEV 7 (ofBytes p why 0 0)
  | none => { s with dev := { s.dev with pendProf := s.dev.pendProf.set p (some ws) } }

def State.tracker (s : State) (p i : Nat) : Tracker := nth s.dev.trackers (9 * p + i) {}

def State.modTracker (s : State) (p i : Nat) (f : Tracker → Tracker) : State :=
  { s with dev := { s.dev with trackers := modNth s.dev.trackers (9 * p + i) f } }

/-- A standing alarm ends (R446). -/
def State.endAlarm (s : State) (p i : Nat) : State :=
  (s.modTracker p i (fun t => { t with standing := false, quiet := 0 })).raise Log.DEV 4 (ofBytes i p 0 0)

/-- The runs of a tracker are discarded; the next run counts as incomplete (R445, R448). -/
def Tracker.discard (t : Tracker) : Tracker := { standing := t.standing, quiet := t.quiet, fLast := t.fLast }

/-- The parity of a profile's words (R449). -/
def profParity (ws : List Word) : Bool := ws.foldl (fun a w => a != parity w) false

/-- The profile at `p` holding `ws`, and its parity bit with it (R449). -/
def State.storeProfile (s : State) (p : Nat) (ws : List Word) : State :=
  { s with dev := { s.dev with profiles := s.dev.profiles.set p (some ws), profPar := s.dev.profPar.set p (profParity ws) } }

/-- Validated profiles take effect at a block boundary (R442). DESIGN CHOICE (log 126): they do so too while DEV is in its safe state, where
R448 says that state holds. -/
def State.installProfiles (s : State) : State :=
  (List.range 8).foldl (fun s p =>
    match nth s.dev.pendProf p none with
    | none => s
    | some ws =>
      let s := (List.range 9).foldl (fun s i => if (s.tracker p i).standing then s.endAlarm p i else s) s
      let s := (List.range 9).foldl (fun s i => s.modTracker p i (fun _ => {})) s
      let s := { s with dev := { s.dev with pendProf := s.dev.pendProf.set p none } }
      s.storeProfile p ws) s

/-- An upset turns over bit `i` of committed profile `p`, counted from its first word, or, as bit 384, its parity bit (R449). -/
def State.profUpset (s : State) (p i : Nat) : State :=
  match s.profile p with
  | none => s
  | some ws =>
    if i < 384 then
      { s with dev := { s.dev with profiles := s.dev.profiles.set p (some (ws.set (i / 32) (profWord ws (i / 32) ^^^ oneBit (i % 32)))) } }
    else { s with dev := { s.dev with profPar := modNth s.dev.profPar p (!·) } }

/-- A committed profile whose parity bit does not fit its words is switched off and reported (R449). -/
def State.profileParity (s : State) (p : Nat) : State :=
  match s.profile p with
  | none => s
  | some ws =>
    if nth s.dev.profPar p false = profParity ws then s
    else
    let s := s.storeProfile p (ws.set 1 (setBit (profWord ws 1) 15 false))
    let s := (List.range 9).foldl (fun s i => s.modTracker p i (fun _ => {})) s
    (s.setFlag Reg.DEV_DEV_STATUS 2).raise Log.DEV 7 (ofBytes p 3 0 0)

/-- Whether the tone is on in a block (R444). -/
def toneOn (ws : List Word) (t : Tracker) (fog : Bool) (floor : Int) (x : Tone) : Bool :=
  let w1 := profWord ws 1
  let w2 := profWord ws 2
  let w3 := profWord ws 3
  let fp : Int := x.fp
  let base := x.present && decide (4 * (bits w2 7 0 : Int) ≤ x.peak - x.rest) && decide (sgnOf 16 (bits w2 31 16) ≤ x.peak)
    && (fog || decide (floor + 4 * (bits w2 15 8 : Int) ≤ x.peak))
  match bits w1 10 9 with
  | 1 => base && (!t.on || decide ((fp - t.fRef).natAbs ≤ bits w3 15 0))
  | 2 =>
    let d := fp - t.fPrev
    let span : Int := bits (profWord ws 0) 31 16 - (bits (profWord ws 0) 15 0 : Int)
    base && (!t.prevOn || (decide (sgnOf 8 (bits w3 23 16) ≤ d) && decide (d ≤ sgnOf 8 (bits w3 31 24)))
      || decide (span ≤ 2 * (d.natAbs : Int)))
  | _ => base

/-- A run fits a segment (R445). -/
def runFits (ws : List Word) (seg : Nat) (r : Bool × Nat × Epoch32) : Bool :=
  r.1 == profOn ws seg && decide (profMin ws seg ≤ r.2.1) && (profMax ws seg == 0xFFF || decide (r.2.1 ≤ profMax ws seg))

/-- The start of a match in a history, newest run first, if its last runs fit the segments from some phase (R445). -/
def cadenceMatch (ws : List Word) (hist : List (Bool × Nat × Epoch32)) : Option Epoch32 :=
  let n := profNseg ws + 1
  let k := n * (bits (profWord ws 1) 19 18 + 1)
  let runs := (hist.take k).reverse
  if runs.length = k ∧ (List.range n).any (fun j => runs.zipIdx.all (fun p => runFits ws ((j + p.2) % n) p.1)) then
    runs.head?.map (·.2.2)
  else none

/-- A run closes: the tracker with its history, and the start of a match (R445). A run of no block is no run. -/
def Tracker.close (ws : List Word) (st : Bool) (n : Nat) (t : Tracker) : Tracker × Option Epoch32 :=
  if n = 0 then (t, none)
  else if t.incomplete then ({ t with incomplete := false }, none)
  else
    let hist := ((st, n, t.start) :: t.hist).take 32
    ({ t with hist := hist }, cadenceMatch ws hist)

/-- The cadence tracker in one valid block: `on` is the judgement, `e` the block (R445). -/
def Tracker.step (ws : List Word) (on : Bool) (fp : Nat) (e : Epoch32) (t : Tracker) : Tracker × Option Epoch32 :=
  if on then
    let (t, m) := if t.on then (t, none) else
      let (t, m) := t.close ws false t.len
      ({ t with on := true, len := 0, pend := 0, start := e, fRef := (fp : Int) }, m)
    let t := { t with len := t.len + 1 + t.pend, pend := 0, fLast := fp, fPrev := (fp : Int), prevOn := true, quiet := 0 }
    let m := if m.isNone && profNseg ws == 0 && decide (profMin ws 0 ≤ t.len) then some t.start else m
    (t, m)
  else
    let t := { t with prevOn := false, quiet := t.quiet + 1 }
    if t.on then
      let t := { t with pend := t.pend + 1, pendStart := if t.pend = 0 then e else t.pendStart }
      if profDrop ws < t.pend then
        let (t, m) := t.close ws true t.len
        ({ t with on := false, len := t.pend, pend := 0, start := t.pendStart }, m)
      else (t, if profNseg ws == 0 && decide (profMin ws 0 ≤ t.len) then some t.start else none)
    else ({ t with len := t.len + 1, start := if t.len = 0 then e else t.start }, none)

/-- An alarm is raised for a pair (R446). -/
def State.raiseAlarm (s : State) (p i : Nat) (start : Epoch32) : State :=
  let t := s.tracker p i
  if t.standing then s
  else
    let s := s.modTracker p i (fun t => { t with standing := true })
    let wake := s.wakes 9
    let s := (s.noteWake 9).countWrap Reg.DEV_ALARM_COUNT
    let s := { s with dev := { s.dev with lastFreq := t.fLast, lastProfile := p, lastStream := i } }
    s.raiseWake wake 2 Log.DEV 3 (ofBytes i p (t.fLast % 256) (t.fLast / 256)) start

/-- CLEAR in blocks; 0 acts as 1 (R442). -/
def profClear (ws : List Word) : Nat := 16 * max 1 (bits (profWord ws 1) 31 24)

/-- Profile `p` on stream `i` in a valid block (R444 to R446). -/
def State.updateAlarm (s : State) (b : Spectrum) (i p : Nat) : State :=
  match s.profile p with
  | none => s
  | some ws =>
    if !(profEn ws && bitOf (profWord ws 1) i) then s
    else
      let x := b.tone (i == 8) (bits (profWord ws 0) 15 0) (bits (profWord ws 0) 31 16)
      let d := s.stream i
      let on := toneOn ws (s.tracker p i) d.fog (nth d.bands x.band {}).f x
      let (t, m) := (s.tracker p i).step ws on x.fp s.epoch32
      let s := s.modTracker p i (fun _ => t)
      let s := match m with
        | some e => s.raiseAlarm p i e
        | none => s
      if (s.tracker p i).standing && decide (profClear ws ≤ (s.tracker p i).quiet) then s.endAlarm p i else s

/-! ### The block boundary (R427 to R430, R447, R448) -/

/-- A stream's sampled enable and source apply at a block boundary; a change restarts it (R427). -/
def State.applyStream (s : State) (i : Nat) : State :=
  let en := s.dev.ctl.testBit i
  let src := if i = 8 then 24 else nth s.dev.srcs i 24
  let d := s.stream i
  if d.en = en ∧ d.src = src then s
  else s.modStream i (fun d => { d with en := en, src := src, fresh := true })

/-- A stream restarts (R447). -/
def State.restartStream (s : State) (i : Nat) : State :=
  let s := if (s.stream i).active then s.endActivity i else s
  let s := s.modStream i (fun d => { en := d.en, src := d.src, fresh := false, seed := d.seed })
  let s := (List.range 8).foldl (fun s p => s.modTracker p i Tracker.discard) s
  (s.fogStart i 0).abandon i 2

/-- A block of a stream that is not valid: the runs of its trackers are discarded, and the Contact sheet meets it (R429, R448, R479). -/
def State.invalidBlock (s : State) (i : Nat) : State :=
  ((List.range 8).foldl (fun s p => s.modTracker p i Tracker.discard) s).abandonInvalid i

/-- The DEV page is in its parity safe state (R250, R448). -/
def State.devHeld (s : State) : Bool := s.port.held.any (fun a => Reg.pageOf a == 8)

/-- The detectors' work on a valid block (R433 to R446). -/
def State.detect (s : State) (i : Nat) (x : Spectrum) : State :=
  let ls := x.levels (bandEdges (i == 8))
  let s := (s.updateFloors i ls).updateActivity i ls
  (List.range 8).foldl (fun s p => s.updateAlarm x i p) s

/-- One stream's block: an abandon that waited, a restart, its detectors, which a safe state of DEV holds with the restart, and its
feature frame (R250, R447, R448, R460, R479). -/
def State.streamBlock (s : State) (i : Nat) : State :=
  let s := (s.applyStream i).payOwed i
  if !s.streamRuns i then s
  else
    let s := if (s.stream i).fresh && !s.devHeld then s.restartStream i else s
    if !s.blockValid i then (if s.devHeld then s.abandonInvalid i else s.invalidBlock i)
    else
      let x := s.spectrum i
      let s := if s.devHeld then s else s.detect i x
      s.featureFrame i (x.levels (featEdges (i == 8)))

/-- DEV_BLOCK: every running stream's block, the Contact sheet's work on it, and the wake records (R428, R468, R476, R502). -/
def State.devBlock (s : State) (i : DevIn) : State :=
  let s := s.installProfiles
  let s := i.badTpl.foldl (fun s p => s.tplStrike p.1 p.2) s
  let s := (s.applyRequests).applyRun.updateDrain
  let s := (List.range 9).foldl (fun s k => s.streamBlock k) s
  (s.endDrain).writeRecords

/-! ### Seeds, gaps, boundaries -/

/-- A seed band value, clamped (R458). -/
def State.seedBand (s : State) (b : Nat) : Int :=
  let w := s.reg (Reg.DEV_SEED_0 + 4 * (b / 2))
  clampInt (-2048) 0 (sgnOf 16 (if b % 2 = 0 then bits w 15 0 else bits w 31 16))

/-- A SEED_CTL write with GO (R440). -/
def State.loadSeed (s : State) (streams : Nat) : State :=
  let v := (List.range 8).map s.seedBand
  (List.range 9).foldl (fun s i => if streams.testBit i then s.modStream i (fun d => { d with seed := some v }) else s) s

/-- A stale gap: every stream's fog restarts at its next valid block (R38, R438). -/
def State.staleGap (s : State) : State :=
  { s with dev := { s.dev with streams := s.dev.streams.map (fun d => { d with stale := true }) } }

/-- A gap of `n` ticks: runs of samples break; at 960 ticks or more every stream's paths are to be abandoned (R39, R479). PDM channels
stay invalid for WAKE × 480 ticks and the decimators' start (R297, R300). -/
def State.devGap (s : State) (n : Nat) : State :=
  let s := s.breakRuns
  let pdm := if s.front.pdmPhase = 0 then none else some (s.clk.ticks + 480 * s.front.pdmWake + 256)
  let long := if 960 ≤ n then List.range 9 else s.sheet.longGap
  { s with sheet := { s.sheet with gapUntil := some (s.clk.ticks + 256), pdmUntil := pdm, longGap := long } }

/-- A boundary into SAFELIGHT: the array streams stop, and their state is discarded (R448, R479). -/
def State.devToSafe (s : State) : State :=
  (List.range 8).foldl (fun s i =>
    let s := (List.range 8).foldl (fun s p => if (s.tracker p i).standing then s.endAlarm p i else s) s
    let s := (List.range 8).foldl (fun s p => s.modTracker p i (fun _ => {})) s
    let s := s.abandon i 2
    s.modStream i (fun d => { en := d.en, src := d.src, seed := d.seed })) s

/-- A boundary into DAYLIGHT: the array streams restart at their first block, which no sample of an earlier DAYLIGHT makes valid
(R429, R447, R448). -/
def State.devToDay (s : State) : State :=
  let s := { s with dev := { s.dev with runs := List.replicate 24 0 ++ s.dev.runs.drop 24 } }
  (List.range 8).foldl (fun s i => s.modStream i (fun d => { d with fresh := true })) s

/-- The strap read's part (R457). -/
def State.strapDev (s : State) : State := { s with dev := { runs := s.dev.runs, mem := s.dev.mem } }

/-! ### The WAKE pin and the views (R453, R459) -/

/-- The unit drives WAKE low (R452, R453). -/
def State.wakeLow (s : State) : Bool :=
  s.clk.power == .up && s.ident.done
    && (s.reg Reg.DEV_WAKE_STATUS &&& s.reg Reg.DEV_WAKE_CFG &&& 0x7FF#32) != 0
    && (!s.clk.daylight || !s.flag Reg.DEV_WAKE_CFG 12)

/-- DEV_STATE. -/
def State.devState (s : State) : Word :=
  pack [(18, 9, maskOf 9 (fun i => (s.stream i).active)), (9, 9, maskOf 9 (fun i => (s.stream i).fog)),
    (0, 9, maskOf 9 (fun i => s.ident.done && s.streamRuns i))]

/-- ALARM_STATE. -/
def State.alarmState (s : State) : Word :=
  pack [(16, 16, s.dev.lastFreq), (12, 3, s.dev.lastProfile), (8, 4, s.dev.lastStream),
    (0, 8, maskOf 8 (fun p => (List.range 9).any (fun i => (s.tracker p i).standing)))]

/-- FLOOR_READ_n. -/
def State.floorRead (s : State) (n : Nat) : Word :=
  let i := s.fld Reg.DEV_FLOOR_SEL 3 0
  let d := s.stream i
  if 8 < i ∨ !d.hasFloor then 0x80008000#32
  else pack [(16, 16, wrapInt 16 (nth d.bands (2 * n + 1) {}).f), (0, 16, wrapInt 16 (nth d.bands (2 * n) {}).f)]

/-- PROF_READ. -/
def State.profRead (s : State) : Word :=
  let w := s.fld Reg.DEV_PROF_READ_SEL 3 0
  match s.profile (s.fld Reg.DEV_PROF_READ_SEL 6 4) with
  | some ws => if w < 12 then profWord ws w else 0
  | none => 0

end Sys2Proof.Machine
end

