-- ==== Sys2Proof/Machine/Stage.lean ====
section
/-! DEFINITION. Power-stage interface: latches and stage faults, SWS measurement, the steering servo and its carrier search,
and acoustic self-verification (R578 to R617). -/

namespace Sys2Proof.Machine

/-! ### Channels -/

/-- A gained sample lies below the idle threshold −30 − 5 × IDLE dBFS (R595). -/
def belowIdle (idle : Nat) (x : Int) : Bool := decide (x.natAbs ^ 20 * 10 ^ (30 + 5 * idle) < 2 ^ 460)

def State.drive (s : State) (n : Nat) : Drive := nth s.print.drives n {}

def State.modDrive (s : State) (n : Nat) (f : Drive → Drive) : State :=
  { s with print := { s.print with drives := modNth s.print.drives n f } }

def State.stageCh (s : State) (n : Nat) : StageCh := nth s.stage.ch n {}

def State.modStage (s : State) (n : Nat) (f : StageCh → StageCh) : State :=
  { s with stage := { s.stage with ch := modNth s.stage.ch n f } }

/-- SHDNn is released: the unit pulls the pin low (R560, R582). -/
def State.released (s : State) (n : Nat) : Bool := (s.drive n).st != .off

/-- A stage latch-out stands (R559, R590 to R592). -/
def State.stageLatched (s : State) (n : Nat) : Bool :=
  let c := s.stageCh n
  s.flag Reg.STAGE_LATCH n || c.therm || c.hold.isSome

/-- The output in force of channel `n` reaches the idle threshold of IDLE (R595). -/
def State.outLoud (s : State) (n : Nat) : Bool := !belowIdle (s.fld Reg.STAGE_STEER_CTL 14 12) (s.drive n).out

/-- A measurement begins, or is the next to begin, under a result of the search: what staggering found of the lock does not outlast it, nor
the other way round (R595, R597, R598, R601, R603). -/
def StageCh.takeResult (mode freq : Nat) (c : StageCh) : StageCh :=
  if (c.mMode == 2) == (mode == 2) then { c with mMode := mode, mFreq := freq }
  else { c with mMode := mode, mFreq := freq, locked := false, clear := false, inRun := 0, outRun := 0 }

/-- A new measurement begins under the result in force, and with the output in force (R587, R595, R601). -/
def State.beginMeasure (s : State) (n : Nat) : State :=
  s.modStage n (fun c => { c.takeResult s.stage.resMode s.stage.resFreq with loud := s.outLoud n })

/-- Channel `n` has no measurement in progress: the next begins at the next edge (R587). -/
def State.haltMeasure (s : State) (n : Nat) : State := (s.modStage n (fun c => { c with measuring := false })).beginMeasure n

/-- The pin of channel `n` changes: its counts of R584 and R588 begin, and its first measurement, or its fault episode ends (R587, R589). -/
def State.noteShdn (s : State) (n : Nat) (rel : Bool) : State :=
  if rel then (s.modStage n (fun c => { c with frames := 0, relTick := some s.clk.ticks })).haltMeasure n
  else s.modStage n (fun c => { c with frames := 0, relTick := none, episode := false, noEdge := 0 })

/-! ### Stage faults (R588 to R592) -/

/-- RESTART in ticks; 0 acts as 1 (R590, R616). -/
def State.restartTicks (s : State) : Nat := 960 * max 1 (s.fld Reg.STAGE_STAGE_CTL 7 0)

/-- A stage fault of cause `why` is counted on channel `n`, unless an episode runs (R589 to R592). One that does not make the Fixer's
instance lasting holds the channel, unless LATCH holds it already (R590). -/
def State.stageFault (s : State) (n why : Nat) : State :=
  if (s.stageCh n).episode then s
  else
    let s := s.modStage n (fun c => { c with cause := why, faultPend := true, episode := s.released n })
    let s := (s.setFlag Reg.STAGE_STAGE_STATUS 0).countSat Reg.STAGE_TRIP_COUNT
    if why = 4 then
      (s.modStage n (fun c => { c with therm := true, cool := none })).raise Log.STAGE 3 (ofBytes n 1 0 0)
    else
      let (s, cnt, lasting) := s.fixerCount (34 + n)
      let s := s.raise Log.STAGE 1 (ofBytes n why cnt 0)
      if lasting then
        let s := (s.setFld Reg.STAGE_LATCH n 1 1).setFlag Reg.STAGE_STAGE_STATUS 1
        s.raise Log.STAGE 2 (ofBytes n why 0 0)
      else if s.flag Reg.STAGE_LATCH n then s
      else s.modStage n (fun c => { c with hold := some (s.clk.epoch + BitVec.ofNat 48 s.restartTicks) })

/-- FLT and IMON of one channel are sampled and cleared at a frame start (R583, R584). -/
def State.sampleLatches (s : State) (n : Nat) : State :=
  let c := s.stageCh n
  let armed := s.blockUp 4 && c.relTick.isSome && c.frames != 0
  let s := s.modStage n (fun c => { c with flt := false, imon := false, frames := if c.relTick.isSome then c.frames + 1 else 0 })
  if armed && c.flt then s.stageFault n 1
  else if armed && c.imon then s.stageFault n 2
  else s

/-- The stages' part of a selected-side frame start. -/
def State.sampleStages (s : State) : State := (List.range 8).foldl State.sampleLatches s

/-- TMON exceeds a threshold of LIMITS; `v` in 10 µV (R586). -/
def State.tmonOver (s : State) (v hi lo : Nat) : Bool :=
  let t := 625 * s.fld Reg.STAGE_LIMITS hi lo
  if s.flag Reg.STAGE_LIMITS 24 then decide (v < t) else decide (t < v)

/-- One channel's thermal and SWS checks in a tick (R588, R592, R593). -/
def State.tickStage (s : State) (i : TickIn) (n : Nat) : State :=
  let v := nth i.tmon n (if s.flag Reg.STAGE_LIMITS 24 then 1000000 else 0)
  let warn := s.tmonOver v 15 8
  let trip := s.tmonOver v 23 16
  let c := s.stageCh n
  let begins := warn && decide (960 ≤ c.below) && !c.episode
  let edge := nth i.swsEdge n false
  let s := if edge && !c.measuring then s.beginMeasure n else s
  let s := s.modStage n (fun c => { c with
    measuring := c.measuring || edge
    tripRun := (if trip then c.tripRun + 1 else 0)
    below := (if warn then 0 else min 960 (c.below + 1))
    cool := (if warn then none else match c.cool with | some e => some e | none => some s.clk.epoch)
    noEdge := if edge then 0 else c.noEdge + 1 })
  if begins then (s.setFlag Reg.STAGE_STAGE_STATUS 2).raise Log.STAGE 3 (ofBytes n 0 0 0) else s

/-- The stages' part of a tick; in SAFELIGHT nothing is judged, and no warning is exceeded (R593, R612). -/
def State.tickStages (s : State) (i : TickIn) : State :=
  if s.blockUp 4 then (List.range 8).foldl (fun s n => s.tickStage i n) s
  else { s with stage := { s.stage with ch := s.stage.ch.map (fun c => { c with below := min 960 (c.below + 1) }) } }

/-- SWS has shown no edge for 96 ticks, SHDN released as long (R588). -/
def State.swsDead (s : State) (n : Nat) : Bool :=
  let c := s.stageCh n
  s.blockUp 4 && decide (96 ≤ c.noEdge) && (match c.relTick with | some t => s.elapsed t 96 | none => false) && !c.episode

/-- TMON has exceeded TMON_TRIP for 8 ticks (R588); of two causes at once the lower code is reported first (R589). -/
def State.thermalDue (s : State) (n : Nat) : Bool :=
  let c := s.stageCh n
  s.blockUp 4 && decide (8 ≤ c.tripRun) && !c.therm && !c.episode && !s.swsDead n

/-- The thermal latch-out may lift (R592). -/
def State.coolDue (s : State) (n : Nat) : Bool :=
  let c := s.stageCh n
  s.clk.daylight && c.therm && (match c.cool with | some e => s.epochElapsed e 9599 | none => false)

/-- It lifts (R592). -/
def State.thermalClear (s : State) (n : Nat) : State :=
  (s.modStage n (fun c => { c with therm := false })).raise Log.STAGE 3 (ofBytes n 2 0 0)

/-- The hold-off of a transient fault has ended (R590, R612). -/
def State.restartDue (s : State) (n : Nat) : Bool :=
  match (s.stageCh n).hold with
  | some e => decide (0 ≤ sgnOf 48 (s.clk.epoch - e).toNat)
  | none => false

/-- The latch-out of R590 lifts. -/
def State.stageRestart (s : State) (n : Nat) : State := s.modStage n (fun c => { c with hold := none })

/-- The clock stops: a thermal latch-out that stands then ends where the stop proves longer than its hold-off (R612). -/
def StageCh.stop (e : Epoch) (c : StageCh) : StageCh := if c.therm && c.stopAt.isNone then { c with stopAt := some e } else c

/-- The clock has stopped: every channel notes the epoch. -/
def State.stopStages (s : State) : State :=
  { s with stage := { s.stage with ch := s.stage.ch.map (StageCh.stop s.clk.epoch) } }

/-- The first epoch after a stop, `n` ticks on: a stop of the whole hold-off leaves the latch-out due to lift (R592, R612; log 136). -/
def StageCh.resume (n : Nat) (c : StageCh) : StageCh :=
  { c with cool := if decide (9600 ≤ n) && c.therm && c.stopAt.isSome then c.stopAt else c.cool, stopAt := none }

/-- The same of every channel; header epoch `h` is about to be adopted. -/
def State.resumeStages (s : State) (h : Epoch32) : State :=
  let n := match epochDiff s.epoch32 h with | .forward n => n | _ => 0
  { s with stage := { s.stage with ch := s.stage.ch.map (StageCh.resume n) } }

/-! ### SWS measurement and the servo (R587, R595 to R598, R603) -/

/-- The link clock in kHz (R7, R9). -/
abbrev linkKHz : Nat := 786432

/-- FREQ of a count `k`, in 1/16 kHz, half-way values up (R587). -/
def swsFreq (k : Nat) : Nat := if k = 0 then 0 else (2 * 16 * 256 * linkKHz + k) / (2 * k)

/-- An idle frequency clears harmonics `hs` of a set of carriers (R599). -/
def clears (carriers hs : List Nat) (f : Nat) : Bool :=
  hs.all (fun h => carriers.all (fun c => decide (10 ≤ ((h * f : Nat) : Int) - c) || decide (10 ≤ (c : Int) - (h * f : Nat))))

/-- The harmonics of the steering search. -/
abbrev steerHarmonics : List Nat := [1, 2, 3, 4, 5, 6]

/-- The code after a servo step; `e` is `f_T − f` scaled by `k` (R595). -/
def servoCode (pol : Bool) (code : Nat) (e : Int) (k : Nat) : Nat :=
  let a := e.natAbs
  if k < 2 * a then
    let step := max 1 (min 8 (a / (2 * k)))
    if decide (0 < e) == !pol then min 255 (code + step) else code - step
  else code

/-- The servo of channel `n` acts on a measurement: code, LOCKED, and the limit (R595, R597). -/
def State.servo (s : State) (n : Nat) (e : Int) (k : Nat) : State :=
  let c := s.stageCh n
  let a := e.natAbs
  let code := servoCode (s.flag Reg.STAGE_STEER_CTL 1) c.code e k
  let inRun := if a ≤ k then c.inRun + 1 else 0
  let outRun := if 2 * k < a then c.outRun + 1 else 0
  let lost := decide (4 ≤ outRun) && c.locked
  let limit := (code == 0 || code == 255) && decide (k < a)
  let s := s.modStage n (fun c => { c with
    code := code, inRun := inRun, outRun := outRun
    locked := (if 4 ≤ inRun then true else if 4 ≤ outRun then false else c.locked)
    atLimit := if limit then true else if code == 0 || code == 255 then c.atLimit else false })
  let s := if lost then s.raise Log.STAGE 7 (ofBytes n 0 0 0) else s
  if limit && !c.atLimit then (s.setFlag Reg.STAGE_STAGE_STATUS 3).raise Log.STAGE 6 (ofBytes n code 0 0) else s

/-- A measurement of `k` link clocks completes (R587, R595, R598, R603). -/
def State.measured (s : State) (n k : Nat) : State :=
  let c := s.stageCh n
  let e : Int := ((c.mFreq * k : Nat) : Int) - (256 * linkKHz : Nat)
  let s := s.modStage n (fun c => { c with freq := swsFreq k % 65536, valid := true })
  let s :=
    if c.mMode = 2 then s.modStage n (fun c => { c with locked := decide (200 * e.natAbs ≤ c.mFreq * k) })
    else if (c.mMode = 1 ∨ c.mMode = 3) ∧ s.released n ∧ !c.loud ∧ !s.clk.fault then s.servo n e k
    else s
  let f := (2 * 256 * linkKHz + k) / (2 * k)
  let carriers := match s.stage.snap with | some q => q.carriers | none => []
  let s := s.modStage n (fun c => { c with clear := c.mMode == 1 && c.locked && clears carriers steerHarmonics f, measuring := true })
  s.beginMeasure n

/-- A measurement is not complete within 96 ticks (R587). -/
def State.notMeasured (s : State) (n : Nat) : State :=
  let s := s.modStage n (fun c => { c with freq := 0, valid := false, clear := false, locked := if c.mMode = 2 then false else c.locked })
  s.haltMeasure n

/-! ### Carrier search (R600 to R602) -/

/-- The enabled carriers of the CARRIER words. -/
def State.carriers (s : State) : List Nat :=
  (List.range 8).flatMap (fun i =>
    let w := s.reg (Reg.STAGE_CARRIER_0 + 4 * i)
    (if bitOf w 31 then [bits w 26 16] else []) ++ (if bitOf w 15 then [bits w 10 0] else []))

/-- The snapshot a GO takes (R600); `mode` is the MODE the write leaves. -/
def State.snapshot (s : State) (mode : Nat) : Search :=
  { carriers := s.carriers, fMin := s.fld Reg.STAGE_STEER_WIN 19 10, fNom := s.fld Reg.STAGE_STEER_WIN 9 0
    fMax := s.fld Reg.STAGE_STEER_WIN 29 20, mode := mode }

/-- Why a search is refused, if it is (R600). -/
def Search.bad (q : Search) : Option Nat :=
  if q.carriers.any (fun c => c < 100 || 1800 < c) then some 0
  else if q.fMin < 150 || q.fNom < q.fMin || q.fMax < q.fNom || 1000 < q.fMax then some 1
  else none

/-- A write with GO starts a search, or is refused (R600). -/
def State.startSearch (s : State) (mode : Nat) : State :=
  let q := s.snapshot mode
  match q.bad with
  | some why => (s.setFlag Reg.STAGE_STAGE_STATUS 5).raise Log.STAGE 5 (ofBytes why 0 0 0)
  | none => { s with stage := { s.stage with search := some q, snap := some q } }

/-- The last accepted search is repeated on its snapshot (R602). -/
def State.repeatSearch (s : State) : State :=
  match s.stage.snap with
  | some q => { s with stage := { s.stage with search := some q } }
  | none => s

/-- The candidates of a window in the order of R601. -/
def Search.candidates (q : Search) : List Nat :=
  (q.fNom :: (List.range 1000).flatMap (fun i => [q.fNom + (i + 1), q.fNom - (i + 1)])).filter
    (fun f => decide (q.fMin ≤ f) && decide (f ≤ q.fMax))

/-- The first candidate that clears (R601). -/
def Search.first (q : Search) (hs : List Nat) : Option Nat := q.candidates.find? (clears q.carriers hs)

/-- The outcome of a search with a group of `p`: MODE_IN_USE and F_T (R601). -/
def Search.result (q : Search) (p : Nat) : Nat × Nat :=
  if q.mode = 0 then (0, 0)
  else
    let steer := if q.mode = 3 then none else q.first steerHarmonics
    match steer with
    | some f => (1, f)
    | none =>
      let stag := if q.mode = 2 ∨ p < 2 then none else q.first (steerHarmonics.filter (fun h => h % p == 0))
      match stag with
      | some f => (2, f)
      | none => (3, q.fNom)

/-- The search completes; its result applies from each channel's next measurement (R601). -/
def State.finishSearch (s : State) : State :=
  match s.stage.search with
  | none => s
  | some q =>
    let group := idxWhere 8 (fun n => s.flag Reg.PRINT_CH_EN n)
    let p := group.length
    let (mode, f) := q.result p
    let s := { s with stage := { s.stage with search := none, resMode := mode, resP := p, resFreq := f, group := group, resAt := s.clk.ticks } }
    let s := { s with stage := { s.stage with ch := s.stage.ch.map (fun (c : StageCh) => if c.measuring then c else c.takeResult mode f) } }
    let s := if mode = 3 then s.setFlag Reg.STAGE_STAGE_STATUS 4 else s
    s.raise Log.STAGE 4 (ofBytes mode p (f % 256) (f / 256))

/-! ### LATCH (R591, R687) -/

/-- The LATCH bits that lasting faults set in the present cycle (R253, R591). -/
def State.latchForced (s : State) : Word := BitVec.ofNat 32 (maskOf 8 (fun n => s.fixer.struck.contains (34 + n)))

/-- A LATCH write: a bit that a lasting fault sets in the same cycle stays 1; each bit that the host writes to 0 releases its channel's
instance, whatever it read before (R591, R687). -/
def State.writeLatch (s : State) (host : Bool) (w : Word) : State :=
  let old := s.reg Reg.STAGE_LATCH
  let new := maskedWrite old w ||| (old &&& s.latchForced)
  let s := s.setReg Reg.STAGE_LATCH new
  if host then (List.range 8).foldl (fun s n => if bitOf w (16 + n) && !bitOf w n then s.fixerRelease (34 + n) else s) s else s

/-! ### Self-verification (R605 to R611) -/

/-- The sense channel, if SENSE_MIC names one (R605). -/
def State.senseMic (s : State) : Option Nat :=
  let m := s.fld Reg.STAGE_SENSE_CFG 4 0
  if m < 16 then some m else none

/-- The verifier runs on channel `n` (R605). -/
def State.verifies (s : State) (n : Nat) : Bool := s.clk.daylight && s.flag Reg.STAGE_VERIFY_CFG n && s.senseMic.isSome

/-- The verifier of channel `n` restarts (R610). -/
def State.verifyRestart (s : State) (n : Nat) : State :=
  s.modStage n (fun c => { c with ref := none, failing := false, whole := false })

/-- No window in progress may be judged any more: the sense channel failed it (R607). -/
def State.senseFailed (s : State) : State :=
  { s with stage := { s.stage with ch := s.stage.ch.map (fun c => { c with whole := false }) } }

/-- The reference in force of channel `n`: expected, or learned (R608). -/
def State.verifyRef (s : State) (n : Nat) : Option (Int × Bool) :=
  let w := s.reg (Reg.STAGE_VERIFY_EXP_0 + 4 * n)
  if bits w 15 0 = 0x8000 then (s.stageCh n).ref else some (sgnOf 16 (bits w 15 0), bitOf w 30)

/-- A judged window of channel `n` with gain `g` and sign `neg` (R607 to R609). -/
def State.judgeWindow (s : State) (n : Nat) (g : Int) (neg : Bool) : State :=
  let g := clampInt (-2048) 2047 g
  let s := s.modStage n (fun c => { c with last := some g })
  match s.verifyRef n with
  | none => s.modStage n (fun c => { c with ref := some (g, neg) })
  | some (r, rneg) =>
    let depart := decide (4 * (s.fld Reg.STAGE_VERIFY_CFG 15 8 : Int) < ((g - r).natAbs : Int))
    let pol := neg != rneg
    let first := (depart || pol) && !(s.stageCh n).failing
    let s := s.modStage n (fun c => { c with failing := depart || pol })
    let start := s.epoch32 - 24000
    let gw := wrapInt 16 g
    let entry := fun (s : State) (kind : Nat) => s.raise Log.STAGE 8 (ofBytes n kind (gw % 256) (gw / 256)) start
    let s := if first && depart then entry (s.setFlag Reg.STAGE_VERIFY_STATUS n) 0 else s
    if first && pol then entry (s.setFlag Reg.STAGE_VERIFY_STATUS (8 + n)) 1 else s

/-- A gained sample for the verifier of channel `n` (R605). -/
def State.verifyTap (s : State) (n : Nat) (x : Int) : State :=
  s.modStage n (fun c => { c with verify := { c.verify with tap := (x :: c.verify.tap).take 2700 } })

/-- The delay of a drive channel's signal in 1/2,048 sample of 48 kHz: the total of R554, SHOW_WAIT of its read offset, GROUP_DELAY and
LAG (R606). -/
def State.verifyDelay (s : State) (n : Nat) : Nat :=
  (if bitOf (s.reg (Reg.PRINT_CH_CTRL_0 + 4 * n)) 10 then 3047 else 19464) + ((s.drive n).offset - 6272) / 8
    + 32 * bits s.groupDelay 15 0 + 512 * bits (s.reg (Reg.STAGE_VERIFY_EXP_0 + 4 * n)) 25 16

/-- The decimated drive sample of the boundary `j` samples ago: from the gained samples of its epoch and before. -/
def State.driveAt (s : State) (n j : Nat) : Int :=
  let back := ediff (s.drive n).epoch (s.epoch32 - BitVec.ofNat 32 (2 * j))
  Config.decimated (((s.stageCh n).verify.tap.drop back.toNat).take 64)

/-- The verifier of channel `n` at a high-quality boundary: both signals pass the filter of BAND, and their products are summed. The
interpolator's own 8 samples delay the sense channel too (R360, R606). -/
def State.verifyChannel (s : State) (n : Nat) : State :=
  if !s.verifies n then s.modStage n (fun c => { c with whole := false })
  else
    let d := s.verifyDelay n
    let x := interp (d % 2048) ((List.range 16).map (fun j => s.driveAt n (d / 2048 + 1 + j)))
    let band := bitOf (s.reg (Reg.STAGE_VERIFY_EXP_0 + 4 * n)) 31
    s.modStage n (fun c =>
      let (df, d) := Config.bandPass band c.verify.dFilt x
      let (mf, m) := Config.bandPass band c.verify.mFilt (nth s.stage.mic 8 0)
      { c with verify := { c.verify with dFilt := df, mFilt := mf, dm := c.verify.dm + d * m, dd := c.verify.dd + d * d } })

/-- The verifier at a high-quality boundary: the sense channel's sample, and every channel (R605 to R607). -/
def State.verifyBoundary (s : State) : State :=
  match s.senseMic with
  | none => s
  | some k =>
    let s := { s with stage := { s.stage with mic := (hqCode (s.hqNow k) :: s.stage.mic).take 9 } }
    let s := if s.chanValid k && s.hqRuns then s else s.senseFailed
    (List.range 8).foldl State.verifyChannel s

/-- 20 log10 |g| of a gain in 1/16 dB, from −2,048 to 2,047, taken to the upper step (`up`) or to the lower one: R607 does not say
to which. -/
def gainLevel (up : Bool) (g : Rat) : Int :=
  let a := g.num.natAbs ^ 320 * 10 ^ 2048
  let m := attenuation 10 (g.den ^ 320) (a + 1) 12 0
  clampInt (-2048) 2047 ((m : Int) - 2049 + (if up then 1 else 0))

/-- The filtered drive of a window of 12,000 pairs stood at or above −MIN dBFS RMS (R607). -/
def State.driveLoud (s : State) (n : Nat) : Bool :=
  decide (((12000 * 2 ^ 46 : Nat) : Rat) ^ 10 ≤ (s.stageCh n).verify.dd ^ 10 * 10 ^ s.fld Reg.STAGE_SENSE_CFG 11 5)

/-- Channel `n` at the end of a window: judged, where it may be; then the next window begins (R606, R607, R609). -/
def State.verifyEnd (up : List Bool) (s : State) (n : Nat) : State :=
  let v := (s.stageCh n).verify
  let s := if s.verifies n && (s.stageCh n).whole && s.driveLoud n then s.judgeWindow n (gainLevel (nth up n false) (v.dm / v.dd)) (decide (v.dm < 0)) else s
  s.modStage n (fun c => { c with whole := s.verifies n && (s.drive n).st == .play, verify := { c.verify with dm := 0, dd := 0 } })

/-- A window ends and the next begins, on every channel (R606, R607). -/
def State.verifyWindow (s : State) (up : List Bool) : State := (List.range 8).foldl (State.verifyEnd up) s

/-! ### Resets and views -/

/-- The strap read's part: codes to 0, causes and verifiers anew; the result in force is kept (R595, R610, R617). -/
def State.strapStage (s : State) : State :=
  { s with stage := { s.stage with ch := List.replicate 8 (StageCh.takeResult s.stage.resMode s.stage.resFreq {}), search := none } }

/-- STEER_RESULT. -/
def State.steerResult (s : State) : Word := pack [(16, 10, s.stage.resFreq), (8, 4, s.stage.resP), (0, 2, s.stage.resMode)]

/-- STEER_CODE_LO and STEER_CODE_HI: channels `base` to `base + 3`. -/
def State.steerCodes (s : State) (base : Nat) : Word :=
  ofBytes (s.stageCh base).code (s.stageCh (base + 1)).code (s.stageCh (base + 2)).code (s.stageCh (base + 3)).code

/-- SWS_FREQ_n. -/
def State.swsFreqReg (s : State) (n : Nat) : Word :=
  let c := s.stageCh n
  pack [(31, 1, b2n c.locked), (30, 1, b2n c.clear), (29, 1, b2n c.valid), (0, 16, c.freq)]

/-- FAULT_CAUSE. -/
def State.faultCause (s : State) : Word := pack ((List.range 8).map (fun n => (4 * n, 4, (s.stageCh n).cause)))

/-- VERIFY_READ_n. -/
def State.verifyRead (s : State) (n : Nat) : Word :=
  let r := match s.verifyRef n with | some (v, _) => wrapInt 16 v | none => 0x8000
  let l := match (s.stageCh n).last with | some v => wrapInt 16 v | none => 0x8000
  pack [(16, 16, r), (0, 16, l)]

/-- The sync waveform of rank `r` of `p` at `f` kHz, `t` link clocks after the result came into force: a rising edge stands at the first
link clock at or after its exact time (R14, R603). -/
def syncHigh (f p r t : Nat) : Bool :=
  decide (((2 * ((f * p * t : Nat) - (r * linkKHz : Nat)) : Int) / ((linkKHz * p : Nat) : Int)) % 2 = 0)

/-- The sync waveform's place in link clocks after the result came into force, `sub` link clocks into the present tick: held from the
detection of a clock fault until its end, and at the last edge while the clock is stopped (R603, R613). -/
def State.syncTime (s : State) (sub : Nat) : Nat :=
  match s.stage.held with
  | some t => t
  | none => (s.clk.ticks - s.stage.resAt) * 8192 + (if s.clk.stopped then Config.edgeWithin s.clk.ticks else sub) % 8192

/-- A clock fault is detected: the sync waveform holds (R613). -/
def State.syncHold (s : State) : State :=
  { s with stage := { s.stage with held := some (s.syncTime (Config.edgeWithin s.clk.ticks)) } }

/-- The current STEERn sources in units of 0.5 µA, `sub` link clocks into the present tick: none without power or in MODE 0, the code,
and the sync waveform on a staggering group's channel (R594, R601, R603, R613). -/
def State.steerLevel (s : State) (n sub : Nat) : Nat :=
  let t := s.syncTime sub
  let c := s.stageCh n
  if !s.blockUp 4 || c.mMode == 0 then 0
  else
    let sync := match s.stage.group.idxOf? n with
      | some r => c.mMode == 2 && syncHigh c.mFreq s.stage.resP r t
      | none => false
    c.code + if sync then s.fld Reg.STAGE_STEER_CTL 11 4 else 0

/-- The currents of the legs DRVn+ and DRVn− in µA while the DAC stands at a code, which is in 2⁻²³ of full scale: the common-mode current
plus and minus half the differential current, each between 0 and 2 mA (R578). The two currents are the channel's own within R578's
tolerances. -/
def State.legs (n : Nat) (code : Int) : Rat × Rat :=
  let cm := max 950 (min 1050 (Config.commonMode n))
  let half := max 1980 (min 2020 (Config.fullScale n)) * code / 2 ^ 24
  (max 0 (min 2000 (cm + half)), max 0 (min 2000 (cm - half)))

/-- DRVn±: high-impedance while the PRINT page is unpowered, else the currents of both legs over the DAC's codes of the last tick, of
which none is zero differential current (R578, R580). -/
def State.drvPin (s : State) (n : Nat) : Option (List (Rat × Rat)) :=
  if s.blockUp 3 then some ((match (s.drive n).interp.dac with | [] => [0] | l => l).map (State.legs n)) else none

end Sys2Proof.Machine
end

