-- ==== Sys2Proof/Machine/Print.lean ====
section
/-! DEFINITION. Print path: gain, start and stop state machine, stop baths, missing and non-audio epochs, latch-outs, the
interpolator, proof loops (R547 to R577). -/

namespace Sys2Proof.Machine

/-! ### Samples and classes -/

/-- The frame sample in force for an epoch: its own, the last one before it where a side switch passed over its frame start, and
the present register values where none is kept (R171, R178, R567). -/
def State.driveSample (s : State) (e : Epoch32) : DriveSample :=
  (s.print.samples.find? (fun p => decide (ediff p.epoch e ≤ 0))).getD
    { epoch := e, en := s.fld Reg.PRINT_CH_EN 7 0
      ctrls := (List.range 8).map (fun n => s.reg (Reg.PRINT_CH_CTRL_0 + 4 * n))
      gains := (List.range 8).map (fun n => s.fld (Reg.PRINT_CH_GAIN_0 + 4 * n) 15 0) }

def DriveSample.slot (p : DriveSample) (n : Nat) : Nat := bits (nth p.ctrls n 0) 9 0
def DriveSample.naOff (p : DriveSample) (n : Nat) : Bool := bitOf (nth p.ctrls n 0) 11
def DriveSample.gain (p : DriveSample) (n : Nat) : Nat := nth p.gains n 0x4000

/-- The pair slot (R547). -/
def pairSlot (n : Nat) : Nat := if n % 2 = 0 then n + 1 else n - 1

/-- The slots of a list without repeats. -/
def distinct : List Nat → List Nat
  | [] => []
  | n :: t => n :: (distinct t).filter (· != n)

/-- The slot mask of a frame sample (R547). -/
def DriveSample.mask (p : DriveSample) : List Nat :=
  distinct ((idxWhere 8 p.en.testBit).flatMap (fun n => [p.slot n, pairSlot (p.slot n)]))

/-- The frame sample of the drive registers for epoch `e` (R178, R247). -/
def State.sampleDrives (s : State) (e : Epoch32) : State :=
  let p : DriveSample :=
    { epoch := e, en := s.fld Reg.PRINT_CH_EN 7 0
      ctrls := (List.range 8).map (fun n => s.reg (Reg.PRINT_CH_CTRL_0 + 4 * n))
      gains := (List.range 8).map (fun n => s.fld (Reg.PRINT_CH_GAIN_0 + 4 * n) 15 0) }
  { s with print := { s.print with samples := (p :: s.print.samples).take 16 }
           frame := { s.frame with masks := ((e, p.mask) :: s.frame.masks).take 16 } }

/-- The decided show slots of an epoch, if its decision has been made (R171, R553). -/
def State.shownAt (s : State) (e : Epoch32) : Option ShowEpoch := s.frame.shown.find? (fun p => p.epoch == e)

/-- Class and sample of a slot of a decided epoch. -/
def ShowEpoch.slot (p : ShowEpoch) (n : Nat) : Nat × Sample :=
  match p.slots.find? (fun x => x.1 == n) with
  | some (_, c, v) => (c, v)
  | none => (0, 0)

/-- Bits 23:8 of a sample (R568). -/
def burstWord (v : Sample) : Nat := (v.extractLsb' 8 16).toNat

/-- What R568 finds: class, preamble, and that the preamble's first word stands in the epoch before. -/
structure NonAudio where
  cls : Bool
  pre : Bool
  own : Bool
  deriving DecidableEq, Repr

/-- Whether epoch `b` is non-audio for a slot, `a` being the epoch before it and `slotA` the channel's slot there (R568). -/
def nonAudio (a b : Option ShowEpoch) (slotA slot : Nat) (naOff : Bool) : NonAudio :=
  match b with
  | none => ⟨false, false, false⟩
  | some b =>
    if !b.present then ⟨false, false, false⟩
    else
      let even := slot / 2 * 2
      let inPair := burstWord (b.slot even).2 == 0xF872 && burstWord (b.slot (even + 1)).2 == 0x4E1F
      let inTurn := burstWord (b.slot slot).2 == 0x4E1F && (match a with
        | some a => a.present && burstWord (a.slot slotA).2 == 0xF872
        | none => false)
      ⟨(b.slot slot).1 != 0, !naOff && (inPair || inTurn), !naOff && inTurn⟩

/-! ### Gain (R550, R551) -/

/-- One sample of the gain glide toward register value `g` (R551). -/
def Drive.glide (g : Nat) (d : Drive) : Drive :=
  let target : Int := 64 * g
  let d := if target = d.gTo then d else { d with gFrom := d.gNow, gTo := target, gStep := 0 }
  if d.gStep < 64 then
    let m := d.gStep + 1
    { d with gStep := m, gNow := roundHalfUp (64 * d.gFrom + (d.gTo - d.gFrom) * m) 64 }
  else d

/-- A gained sample and whether it was clamped (R550). -/
def gained (g : Int) (v : Sample) : Int × Bool :=
  let x := roundHalfUp (g * sgnOf 24 v.toNat) (2 ^ 20)
  let c := clampInt (-0x800000) 0x7FFFFF x
  (c, c != x)

/-- The clip run of channel `n` (R550). -/
def State.noteClip (s : State) (n : Nat) (clamped : Bool) : State :=
  if clamped then
    let first := decide (96 ≤ (s.drive n).unclamped)
    let s := (s.modDrive n (fun d => { d with unclamped := 0 })).countSat Reg.PRINT_CLIP_COUNT
    if first then (s.setFlag Reg.PRINT_PRINT_STATUS 0).raise Log.PRINT 8 (ofBytes n 0 0 0) else s
  else s.modDrive n (fun d => { d with unclamped := min 96 (d.unclamped + 1) })

/-! ### The run request and latch-outs (R559, R564) -/

/-- A PRINT or STAGE register that configures channel `n` holds it in a parity safe state (R250). -/
def State.driveHeld (s : State) (n : Nat) : Bool :=
  s.port.held.any (fun a =>
    if Reg.PRINT_CH_CTRL_0 ≤ a ∧ a < Reg.PRINT_CH_GAIN_0 + 32 then (a - Reg.PRINT_CH_CTRL_0) / 4 % 8 == n
    else Reg.pageOf a == 11 || Reg.pageOf a == 12)

/-- A latch-out stands for channel `n` (R559). -/
def State.latched (s : State) (n : Nat) : Bool :=
  let d := s.drive n
  d.latchRom || d.latchShadow || d.latchClock || d.latchMiss || d.latchSafe || d.edgeWait || s.driveHeld n || s.stageLatched n

/-- LOOP of the proof loop that runs on channel `n`, 0 for none (R572). -/
def State.proofOn (s : State) (n : Nat) : Nat :=
  match s.print.loop with
  | some (l, c, _) => if c = n then l else 0
  | none => 0

/-- Loop 3 runs on channel `n` (R572). -/
def State.stageLoop (s : State) (n : Nat) : Bool :=
  match s.print.loop with
  | some (3, c, _) => c == n
  | _ => false

/-- The proof loop ends: LOOP reads 0 (R573). A value accepted since still awaits its frame start (R572). -/
def State.endProof (s : State) : State :=
  { s.setPair Reg.PRINT_PROOF_CTL_A (setBits (s.reg Reg.PRINT_PROOF_CTL_A) 0 2 0) with print := { s.print with loop := none, loopDone := false } }

/-- The run request of channel `n`, CH_EN as sampled for the epoch read; a stage loop runs its channel until it has measured, or
another loop's value ends it, and loops 1 and 2 keep theirs in OFF (R559, R572, R573). -/
def State.runRequest (s : State) (n en : Nat) : Bool :=
  let en := if s.print.ending.any (fun p => p.1 == n) then false
    else if s.stageLoop n then !s.print.loopDone else s.proofOn n == 0 && en.testBit n
  s.flag Reg.PRINT_MASTER_A 0 && en && s.blockUp 3 && !s.toSafe && !s.latched n

/-! ### State changes (R560) -/

/-- Channel `n` is in OFF: its stage loop has ended (R573). -/
def State.loopOff (s : State) (n : Nat) : State :=
  let s := { s with print := { s.print with ending := s.print.ending.filter (fun p => p.1 != n) } }
  if s.stageLoop n then s.endProof else s

/-- Channel `n` enters a state; SHDN follows, and in OFF its stage loop ends (R560, R573). -/
def State.driveTo (s : State) (n : Nat) (st : DriveState) : State :=
  let was := s.released n
  let s := s.modDrive n (fun d => { d with st := st, cnt := 0, bath := if st = .bath then d.bath else none
                                           causes := if st = .off then 0 else d.causes })
  let s := if st = .off then s.loopOff n else s
  if s.released n = was then s else s.noteShdn n (s.released n)

/-- SHOW_WAIT as R168 applies it. -/
def State.showWait (s : State) : Nat := if s.sideA.lock && s.sideB.lock then s.fld Reg.FRAME_SEL_CFG 11 0 else 0

/-- Channel `n` enters ARM and latches its read offset (R552, R563, R565). -/
def State.driveArm (s : State) (n : Nat) (resumed : Bool) : State :=
  let off := 6256 + 8 * s.showWait + 16
  (s.driveTo n .arm).modDrive n (fun d => { d with offset := off, behind := false, resumed := resumed, causes := 0, miss := 0, timeout := false })

/-- Channel `n` enters MUTED (R560, R565). -/
def State.driveMute (s : State) (n : Nat) : State :=
  ((s.driveTo n .muted).modDrive n (fun d => { d with clean := 0, pcm := 0, free := 0 })).countSat Reg.PRINT_MUTE_COUNT

/-- A stop log entry (R574). -/
def State.stopEntry (s : State) (n : Nat) : State :=
  let why := if s.toSafe then 1 else if s.latched n then 2 else 0
  s.raise Log.PRINT 2 (ofBytes n why 0 0)

/-! ### Stop baths (R558, R561) -/

/-- The factor of a bath as a fraction: the lowest of its ramps (R558). -/
def Bath.factor : List (Nat × Nat) → Nat × Nat
  | [] => (1, 1)
  | (l, n) :: t =>
    let f := Bath.factor t
    let num := l - n
    if num * f.2 ≤ f.1 * l then (num, l) else f

/-- A bath is at its end: one of its ramps has sent its last output. -/
def Bath.done (b : Bath) : Bool := b.ramps.any (fun r => r.1 ≤ r.2)

/-- One output of a bath: the bath, and the code (R558); code 0 from its last output on. -/
def Bath.step (live : Option Int) (held : Int) (b : Bath) : Bath × Int :=
  if b.done then ({ b with dwell := b.dwell.map (· + 1) }, 0)
  else
    let b := { b with ramps := b.ramps.map (fun r => (r.1, r.2 + 1)) }
    let v := match b.held with | some h => h | none => live.getD held
    let f := Bath.factor b.ramps
    (b, if b.done then 0 else roundHalfUp (v * f.1) f.2)

/-- A cause of length `len` begins a bath, or joins the one that runs; from RAMP the bath starts from the gain reached. In
other states nothing changes (R558, R561, R569, R589). -/
def State.bathe (s : State) (n len : Nat) (heldSrc : Bool) (ends : Nat) : State :=
  let d := s.drive n
  let src := if heldSrc then some d.held else none
  match d.st with
  | .play => (s.modDrive n (fun d => { d with bath := some { ramps := [(len, 0)], held := src, ends := ends } })).driveTo n .bath
  | .stopWait => (s.modDrive n (fun d => { d with bath := some { ramps := [(len, 0)], held := src, ends := ends } })).driveTo n .bath
  | .ramp =>
    (s.modDrive n (fun d => { d with bath := some { ramps := [(len, 0), (64, 64 - d.k)], held := src, ends := ends } })).driveTo n .bath
  | .bath =>
    s.modDrive n (fun d => { d with bath := d.bath.map (fun b =>
      if b.done then { b with ends := max b.ends ends }
      else { b with ramps := b.ramps ++ [(32, 0)], held := (if heldSrc && b.held.isNone then src else b.held), ends := max b.ends ends }) })
  | _ => s

/-- Whether a latch-out stops channel `n` now: it is not in OFF, and no stop has begun before (R561, R574). -/
def State.stopsNow (s : State) (n : Nat) : Bool :=
  match (s.drive n).st with
  | .off => false
  | .stopWait => false
  | .bath => (match (s.drive n).bath with | some b => b.ends == 0 | none => false)
  | _ => true

/-- A cause that stops a channel, with its STOP entry: a 32-sample bath of the live sample, or the held one where it is missing, while
the channel sounds; else OFF at once (R557, R558, R567, R250, R574, R589). -/
def State.stopNow (s : State) (n : Nat) (ends : Nat) : State :=
  let s := if s.stopsNow n then s.stopEntry n else s
  match (s.drive n).st with
  | .wake => s.driveTo n .off
  | .arm => s.driveTo n .off
  | .muted => s.driveTo n .off
  | _ => s.bathe n 32 false ends

/-! ### The zero crossing (R562) -/

def sign (x : Int) : Int := if x < 0 then -1 else if x = 0 then 0 else 1

/-- Sample `x` is a zero crossing after sample `p` (R562). -/
def crosses (p : Option Int) (x : Int) : Bool :=
  x == 0 || (match p with | some y => sign x != sign y | none => false)

/-- The channel's present sample is a crossing. -/
def Drive.crossing (d : Drive) : Bool := match d.cur with | some x => crosses d.before x | none => false

/-- RAMP begins with the present sample as its first (R560, R562). -/
def State.beginRamp (s : State) (n k : Nat) (timeout : Bool) : State :=
  let s := s.driveTo n .ramp
  s.modDrive n (fun d =>
    let v := d.cur.getD d.held
    { d with k := k, timeout := timeout, rampFirst := d.epoch + (if k = 0 then 1 else 0), miss := 0
             out := if k = 0 then 0 else roundHalfUp (v * k) 64 })

/-- ARM examines the present sample (R560, R562). -/
def State.examineArm (s : State) (n : Nat) : State :=
  if 192 ≤ (s.drive n).cnt then s.modDrive n (fun d => { d with out := 0 })
  else if (s.drive n).crossing then s.beginRamp n 1 false
  else s.modDrive n (fun d => { d with cnt := d.cnt + 1, out := 0 })

/-! ### One read instant (R552 to R569) -/

/-- What a read instant finds: the epoch, its sample where it is good, and the judgements. -/
structure Read where
  e       : Epoch32
  x       : Option Int
  faulted : Bool
  pcm     : Bool
  /-- Class and preamble of the epoch itself, and of the next one. -/
  cls     : Bool
  pre     : Bool
  ncls    : Bool
  npre    : Bool
  slot    : Nat
  nslot   : Nat
  en      : Nat
  /-- The gained sample of the tone, which loops 1 and 2 feed to the interpolator (R572). -/
  tone    : Option Int
  deriving DecidableEq, Repr

/-- Sample `k` of a proof tone of 93.75 Hz × TONE at −6 × LEVEL dBFS, LOOP 3 at LEVEL 4 or more (R572, R573). -/
def proofTone (loop tone level k : Nat) : Sample :=
  let level := if loop = 3 then max 4 level else level
  let a := nth toneAmplitudes level 0
  let a := if Config.toneRms then a * 1518500250 / 2 ^ 30 else a
  BitVec.ofInt 24 (clampInt (-0x800000) 0x7FFFFF (narrow 15 (2 ^ 38) (a * cos1024 (tone * k + Config.tonePhase))))

/-- The tone that replaces channel `n`'s slot samples: its LOOP and the PROOF_CTL value, LOOP 0 for none (R572, R573). -/
def State.toneOn (s : State) (n : Nat) : Nat × Word :=
  match s.print.ending.find? (fun p => p.1 == n) with
  | some p => (3, p.2)
  | none => (s.proofOn n, s.reg Reg.PRINT_PROOF_CTL_A)

/-- The next sample of a tone on channel `n`, in place of its slot's (R572). -/
def State.proofSample (s : State) (n : Nat) (t : Nat × Word) : Sample × State :=
  (proofTone t.1 (bits t.2 15 8) (bits t.2 19 16) (s.drive n).toneAt, s.modDrive n (fun d => { d with toneAt := d.toneAt + 1 }))

/-- The epoch that channel `n` reads now: the one its offset names, or, after a side switch has moved the count, the one after the
last it read, until its reads have come into step. None where that switch has moved the count back and the epoch has been read.
DESIGN CHOICE (log 101): such an instant is no read instant; the spec says that no epoch is skipped or repeated, not when the reads
shift (R171, R552). -/
def State.readEpoch (s : State) (n : Nat) : Option Epoch32 :=
  let d := s.drive n
  let e := s.epoch32 - 1 - BitVec.ofNat 32 (d.offset / 8192)
  if !d.behind then some e else if ediff e d.epoch ≤ 0 then none else some (d.epoch + 1)

/-- The channel's reads are out of step with the count still: it has read `e`, and its offset names another epoch. -/
def State.stillBehind (s : State) (n : Nat) (e : Epoch32) : Bool :=
  (s.drive n).behind && e != s.epoch32 - 1 - BitVec.ofNat 32 ((s.drive n).offset / 8192)

/-- The read of channel `n`: reads its epoch and the look-ahead, each under its own frame sample, moves the gain glide, counts
clips, and keeps the last good sample (R548, R550 to R553, R567, R568). -/
def State.driveRead (s : State) (n : Nat) (e : Epoch32) : State × Read :=
  let d := s.drive n
  let p := s.driveSample e
  let q := s.driveSample (e + 1)
  let slot := p.slot n
  let cur := s.shownAt e
  let nxt := s.shownAt (e + 1)
  let faulted := s.clk.faulted.contains e || (cur.isNone && s.clk.fault)
  let present := (match cur with | some c => c.present | none => false) && !faulted
  let own := if d.unknown then nonAudio (s.shownAt (e - 1)) cur ((s.driveSample (e - 1)).slot n) slot (p.naOff n)
    else ⟨d.naClass, d.naPre, false⟩
  let ahead := nonAudio cur nxt slot (q.slot n) (q.naOff n)
  let pre := own.pre || ahead.own
  let late := s.stillBehind n e
  let t := s.toneOn n
  let loop := t.1
  let (raw, s) := if loop = 0 then (match cur with | some c => (c.slot slot).2 | none => 0, s) else s.proofSample n t
  let d' := (s.drive n).glide (p.gain n)
  let (v, clamped) := gained d'.gNow raw
  let good := loop == 3 || (present && !own.cls && !pre)
  let x := if good then some v else none
  let s := s.modDrive n (fun _ => { d' with
    epoch := e, behind := late, cur := x, before := (if d.cur.isSome then d.cur else d.before)
    held := (match x with | some v => v | none => d'.held)
    naClass := ahead.cls, naPre := ahead.pre, unknown := nxt.isNone })
  let s := if (good && d.st.reads) || loop == 1 || loop == 2 then s.noteClip n clamped else s
  (s, { e := e, x := x, faulted := faulted
        pcm := present && (match cur with | some c => (c.slot slot).1 == 0 | none => false)
        cls := own.cls && loop != 3, pre := pre && loop != 3
        ncls := ahead.cls && loop != 3, npre := ahead.pre && loop != 3, slot := slot, nslot := q.slot n, en := p.en
        tone := if loop = 1 ∨ loop = 2 then some v else none })

/-- Parity faults met at the read instant (R557, R567, R250). -/
def State.driveParity (s : State) (n : Nat) (i : ReadIn) : State :=
  let looped := s.proofOn n != 0
  let s := match i.romBad with
    | none => s
    | some stageB =>
      if (s.drive n).st = .off ∧ !looped then s
      else
        let s := s.modDrive n (fun d => { d with latchRom := true })
        let s := if looped then s.endProof else s
        let s := (s.setFlag Reg.PRINT_PRINT_STATUS 4).raise Log.PRINT 6 (ofBytes n (b2n stageB) 0 0)
        (s.fixerReport (26 + n)).stopNow n 1
  if i.shadowBad then
    let s := s.modDrive n (fun d => { d with latchShadow := true })
    let s := (s.setFlag Reg.PRINT_PRINT_STATUS 5).raise Log.PRINT 7 (ofBytes n 0 0 0)
    (s.fixerReport (26 + n)).stopNow n 1
  else s

/-- Channels that a parity safe state holds stop, and stay latched out until the clear and the master enable (R250, R251). -/
def State.stopHeld (s : State) : State :=
  (List.range 8).foldl (fun s n =>
    if s.driveHeld n && !(s.drive n).latchSafe then (s.modDrive n (fun d => { d with latchSafe := true })).stopNow n 1 else s) s

/-- A counted stage fault acts (R589). -/
def State.driveFault (s : State) (n : Nat) : State :=
  if (s.stageCh n).faultPend then
    (s.modStage n (fun c => { c with faultPend := false })).stopNow n 2
  else s

/-- The wait of a channel that the missing-edge monitor put in OFF (R63, R64, R559). -/
def State.driveEdgeWait (s : State) (n : Nat) (faulted : Bool) : State :=
  if !(s.drive n).edgeWait then s
  else if s.fld Reg.CHIP_CLK_CFG 7 4 = 0 ∨ s.clk.autoOff then
    s.modDrive n (fun d => { d with edgeWait := false, latchClock := true })
  else s.modDrive n (fun d => { d with clean := if faulted then 0 else d.clean + 1 })

/-- The run request acts (R561, R563): a stop request is the request becoming false. -/
def State.driveRequest (s : State) (n : Nat) (run : Bool) : State :=
  match (s.drive n).st with
  | .off => if run then (s.driveTo n .wake).modDrive n (fun d => { d with wakeAt := s.clk.ticks, cur := none, before := none, unknown := true }) else s
  | .wake => if run then s else (s.stopEntry n).driveTo n .off
  | .arm => if run then s else (s.stopEntry n).driveTo n .off
  | .muted => if run then s else (s.stopEntry n).driveTo n .off
  | .ramp => if run then s else (s.stopEntry n).bathe n 64 false 1
  | .play =>
    if run then s
    else if s.toSafe then (s.stopEntry n).bathe n 64 false 1
    else (s.stopEntry n).driveTo n .stopWait
  | .stopWait => if run then s.driveTo n .play else if s.toSafe then s.bathe n 64 false 1 else s
  | .bath => s

/-- A NON_AUDIO entry for each cause that does not already hold the channel (R569, R574). -/
def State.nonAudioEntries (s : State) (n : Nat) (cls pre : Bool) (e : Epoch32) (slot : Nat) : State :=
  let c := (s.drive n).causes
  let entry := fun (s : State) (bit kind : Nat) =>
    let s := s.modDrive n (fun d => { d with causes := d.causes ||| bit })
    (s.setFlag Reg.PRINT_PRINT_STATUS 3).raise Log.PRINT 5 (ofBytes n kind (slot % 256) (slot / 256)) e
  let s := if cls && !c.testBit 2 then entry s 4 0 else s
  if pre && !c.testBit 3 then entry s 8 1 else s

/-- Non-audio payload while the channel sounds (R569): a bath that holds the last audio sample, ending in MUTED. -/
def State.nonAudioSound (s : State) (n : Nat) (cls pre : Bool) (e : Epoch32) (slot : Nat) : State :=
  let c := (s.drive n).causes
  let new := (cls && !c.testBit 2) || (pre && !c.testBit 3)
  let open_ : Bool := match (s.drive n).bath with | some b => !b.done | none => true
  if new && open_ then (s.bathe n 64 true 0).nonAudioEntries n cls pre e slot else s

/-- Missing and faulted epochs while the channel sounds (R565). -/
def State.driveMissing (s : State) (n : Nat) (e : Epoch32) (faulted : Bool) : State :=
  let d := s.drive n
  let miss := d.miss + 1
  let first := if d.miss = 0 then e else d.missFirst
  let flt := (d.missFlt && d.miss != 0) || faulted
  let s := s.modDrive n (fun d => { d with miss := miss, missFirst := first, missFlt := flt })
  let open_ : Bool := (match d.bath with | some b => !b.done | none => true)
  if 3 ≤ miss ∧ !d.causes.testBit 0 ∧ !d.causes.testBit 1 ∧ open_ then
    let s := s.modDrive n (fun d => { d with causes := d.causes ||| (if flt then 2 else 1) })
    ((s.bathe n 64 true 0).setFlag Reg.PRINT_PRINT_STATUS 2).raise Log.PRINT 3 (ofBytes n (b2n flt) 0 0) first
  else s

/-- Cause `c` of a muted channel (0 missing, 1 clock fault, 2 class, 3 preamble) has ended by its own condition (R63, R565, R570). -/
def State.causeOver (s : State) (n c : Nat) : Bool :=
  let d := s.drive n
  let resume := s.fld Reg.CHIP_CLK_CFG 7 4
  let mr := s.fld Reg.PRINT_PRINT_CFG 7 0
  let pcm := mr != 0 && decide (16 * mr ≤ d.pcm)
  if c = 1 then resume != 0 && !s.clk.fault && !s.clk.autoOff && decide (16 * resume ≤ d.clean)
  else if c = 3 then pcm && decide (1024 * max 1 (s.fld Reg.PRINT_PRINT_CFG 15 12) ≤ d.free)
  else pcm

/-- A cause that has ended holds the channel no longer, where another still does (R577). -/
def State.dropCauses (s : State) (n : Nat) : State :=
  let c := (s.drive n).causes
  let left := maskOf 4 (fun i => c.testBit i && !s.causeOver n i)
  if left = 0 then s else s.modDrive n (fun d => { d with causes := left })

/-- The resume counts of a muted channel, the causes that have ended, and the latch-outs that a zero RESUME or MISS_RESUME gives (R63, R64, R565, R570). -/
def State.driveMuted (s : State) (n : Nat) (r : Read) : State :=
  let s := s.modDrive n (fun d => { d with
    clean := (if r.faulted then 0 else d.clean + 1), pcm := (if r.pcm then d.pcm + 1 else 0)
    free := if r.pre || r.npre then 0 else d.free + 1 })
  let c := (s.drive n).causes
  let s := if c.testBit 1 && (s.fld Reg.CHIP_CLK_CFG 7 4 == 0 || s.clk.autoOff) then
      s.modDrive n (fun d => { d with latchClock := true }) else s
  let s := if (c.testBit 0 || c.testBit 2 || c.testBit 3) && s.fld Reg.PRINT_PRINT_CFG 7 0 == 0 then
      s.modDrive n (fun d => { d with latchMiss := true })
    else s
  s.dropCauses n

/-- The output of a read instant in the state the channel is in (R560). -/
def State.driveOutput (s : State) (n : Nat) (r : Read) : State :=
  let d := s.drive n
  let v := r.x.getD d.held
  match d.st with
  | .off => s.modDrive n (fun d => { d with out := 0 })
  | .wake => s.modDrive n (fun d => { d with out := 0 })
  | .muted => s.modDrive n (fun d => { d with out := 0 })
  | .arm => s.examineArm n
  | .ramp =>
    let k := min 64 (d.k + 1)
    s.modDrive n (fun d => { d with k := k, out := roundHalfUp (v * k) 64 })
  | .play => s.modDrive n (fun d => { d with out := v })
  | .stopWait =>
    if d.cnt < 192 ∧ d.crossing then
      let s := s.bathe n 64 false 1
      match (s.drive n).bath with
      | some b =>
        let (b, o) := b.step r.x d.held
        s.modDrive n (fun d => { d with bath := some b, out := o })
      | none => s
    else s.modDrive n (fun d => { d with cnt := d.cnt + 1, out := v })
  | .bath =>
    match d.bath with
    | some b =>
      if b.done && b.ends == 2 then (s.driveTo n .off).modDrive n (fun d => { d with out := 0 })
      else
        let (b, o) := b.step r.x d.held
        s.modDrive n (fun d => { d with bath := some b, out := o })
    | none => s.driveTo n .off

/-! ### The interpolator (R554) -/

/-- A stage that raises the rate by `r`: its outputs for the newest `n` inputs, newest first; the sum is in `1/d` of a code. Output
`p` of an input takes taps p, p + r, p + 2r and so on. -/
def upsample (stage r : Nat) (d : Int) (taps : List Int) (n : Nat) (xs : List Int) : List Int :=
  (List.range n).flatMap (fun j => (List.range r).map (fun q =>
    let p := r - 1 - q
    narrow stage d (mac ((List.range ((taps.length + r - 1 - p) / r)).map (fun i => nth taps (p + r * i) 0)) (xs.drop j))))

/-- The modulator over its inputs, oldest first: its codes, in 2⁻²³ of full scale, lie within full scale (R554, R578). -/
def modulate : List Int → Int × Int → (Int × Int) × List Int
  | [], m => (m, [])
  | x :: xs, m =>
    let (m, c) := Config.modulator m x
    let (m, cs) := modulate xs m
    (m, clampInt (-(2 ^ 23)) (2 ^ 23) c :: cs)

/-- One input: two outputs of stage A, four of B, 128 of the CIC, and 128 of the modulator, eight periods late (R554). -/
def Interp.step (m : Bool) (x : Int) (i : Interp) : Interp :=
  let a := (x :: i.a).take 31
  let b := (upsample 16 2 (2 ^ 23) (romTaps m false) 1 a ++ i.b).take 9
  let c := (upsample 17 2 (2 ^ 23) (romTaps m true) 2 b ++ i.c).take 6
  let xs := upsample 18 32 1024 (cicTaps 32 3) 4 c
  let (w, codes) := modulate xs.reverse i.mod
  let pipe := List.replicate (8 - i.pipe.length) 0 ++ i.pipe ++ codes
  { a := a, b := b, c := c, mod := w, pipe := pipe.drop 128, dac := pipe.take 128
    power := (xs.map (fun v => v.natAbs ^ 2)).foldl (· + ·) 0 }

/-- Whether channel `n`'s DAC carries zero current though its interpolator runs: from a bath's last output until the next ramp (R558). -/
def Drive.quietNow (d : Drive) : Bool :=
  match d.st with
  | .bath => (match d.bath with | some b => b.done | none => false)
  | .muted => d.quiet
  | .arm => d.quiet
  | _ => false

/-- The interpolator of channel `n` takes the output's code, or a loop's tone; at rest in OFF without a loop. The DAC stands at zero
current under loop 1 and from a bath's last output on (R554, R557, R558, R572). -/
def State.interpolate (s : State) (n : Nat) (ctrl : Word) (tone : Option Int) : State :=
  let loop := s.proofOn n
  s.modDrive n (fun d =>
    if d.st = .off ∧ loop = 0 then { d with interp := {}, prior := {}, quiet := false }
    else
      let i := d.interp.step (bitOf ctrl 10) (tone.getD d.out)
      { d with prior := d.interp, quiet := d.quietNow, interp := if loop == 1 || d.quietNow then { i with dac := [] } else i })

/-- What channel `n` sends at a read instant goes out: the servo's judgement of the output, the interpolator, and the power that a
loop measures (R554, R572, R595). -/
def State.sendOut (s : State) (n : Nat) (ctrl : Word) (tone : Option Int) : State :=
  let s := if s.outLoud n then s.modStage n (fun c => { c with loud := true }) else s
  let s := s.interpolate n ctrl tone
  if tone.isSome then { s with print := { s.print with loopPower := s.print.loopPower + (s.drive n).interp.power } } else s

/-- The read of epoch `e` by channel `n` (R552): the sample, then latches and faults, the run request, missing and non-audio epochs,
the output of the state, and the interpolator. After a bath that non-audio payload ahead begins, the present sample is still played (R569). -/
def State.readAt (s : State) (n : Nat) (i : ReadIn) (e : Epoch32) : State :=
  let (s, r) := s.driveRead n e
  let s := ((s.driveParity n i).driveFault n).driveEdgeWait n r.faulted
  let s := s.driveRequest n (s.runRequest n r.en)
  let st := (s.drive n).st
  let sounds := st == .ramp || st == .play || st == .stopWait || st == .bath
  let s :=
    if sounds then
      if r.cls || r.pre then s.nonAudioSound n r.cls r.pre r.e r.slot
      else match r.x with
        | none => s.driveMissing n r.e r.faulted
        | some _ => s.modDrive n (fun d => { d with miss := 0 })
    else if st == .wake || st == .arm || st == .muted then
      let cls := r.cls || r.ncls
      let pre := r.pre || r.npre
      let c := (s.drive n).causes
      if (cls && !c.testBit 2) || (pre && !c.testBit 3) then
        let s := s.nonAudioEntries n cls pre (if r.cls || r.pre then r.e else r.e + 1) (if r.cls || r.pre then r.slot else r.nslot)
        if st == .muted then s.modDrive n (fun d => { d with free := 0 }) else s.driveMute n
      else s
    else s
  let s := if (s.drive n).st == .muted then s.driveMuted n r else s
  let s := (s.driveOutput n r).verifyTap n (r.x.getD (s.drive n).held)
  let s := if (s.drive n).st == .play then s else s.modStage n (fun c => { c with whole := false })
  s.sendOut n (nth (s.driveSample r.e).ctrls n 0) r.tone

/-- READ_INSTANT of channel `n` (R552). -/
def State.readInstant (s : State) (n : Nat) (i : ReadIn) : State :=
  match s.readEpoch n with
  | some e => s.readAt n i e
  | none => s

/-! ### Ends of waits (R560, R562, R563, R565, R570) -/

/-- The WAKE dwell has passed (R560). -/
def State.wakeDue (s : State) (n : Nat) : Bool :=
  let d := s.drive n
  d.st == .wake && s.elapsed d.wakeAt (96 * s.fld Reg.PRINT_PRINT_CFG 11 8)

/-- Channel `n` enters ARM from WAKE: it has read no earlier epoch (R562). -/
def State.wakeEnd (s : State) (n : Nat) : State :=
  (s.driveArm n false).modDrive n (fun d => { d with cur := none, before := none })

/-- 192 samples without a crossing (R562). -/
def State.zcDue (s : State) (n : Nat) : Bool :=
  let d := s.drive n
  (d.st == .arm || d.st == .stopWait) && decide (192 ≤ d.cnt)

/-- The ramp or the bath begins anyway, at the next sample (R562). -/
def State.zcTimeout (s : State) (n : Nat) : State :=
  let s := (s.countSat Reg.PRINT_ZC_TIMEOUTS).setFlag Reg.PRINT_PRINT_STATUS 1
  if (s.drive n).st = .arm then s.beginRamp n 0 true else s.bathe n 64 false 1

/-- RAMP has sent its 64th sample: PLAY, and the START or RESUME entry (R560, R574). -/
def State.rampEnd (s : State) (n : Nat) : State :=
  let d := s.drive n
  let s := (s.driveTo n .play).countWrap Reg.PRINT_START_COUNT
  let s := match s.print.loop with
    | some (3, c, none) => if c = n ∧ !s.print.loopDone then { s with print := { s.print with loop := some (3, c, some s.clk.ticks) } } else s
    | _ => s
  if d.resumed then s.raise Log.PRINT 4 (ofBytes n 0 0 0) d.rampFirst
  else s.raise Log.PRINT 1 (ofBytes n (b2n d.timeout) 0 0)

/-- Whether the bath of channel `n` has sent its last output and not yet been acted on. -/
def State.bathDue (s : State) (n : Nat) : Bool :=
  (s.drive n).st == .bath && (match (s.drive n).bath with | some b => b.done && b.dwell.isNone | none => false)

/-- A bath ends: MUTED, ARM, or the dwell before OFF; after a stage fault OFF comes at the next read instant (R560, R563, R589). -/
def State.bathEnd (s : State) (n : Nat) : State :=
  match (s.drive n).bath with
  | none => s
  | some b =>
    if b.ends = 0 then s.driveMute n
    else if b.ends = 1 ∧ s.runRequest n (s.driveSample (s.drive n).epoch).en then s.driveArm n false
    else s.modDrive n (fun d => { d with bath := some { b with dwell := some 0 } })

/-- The dwell of 16 ticks at output 0 has passed (R560). -/
def State.dwellDue (s : State) (n : Nat) : Bool :=
  (s.drive n).st == .bath && (match (s.drive n).bath with | some b => (match b.dwell with | some k => 16 ≤ k | none => false) | none => false)

/-- After the dwell: OFF, or ARM where the run request has become true (R560, R563). -/
def State.dwellEnd (s : State) (n : Nat) : State :=
  if s.runRequest n (s.driveSample (s.drive n).epoch).en then s.driveArm n false
  else s.driveTo n .off

/-- Every cause that holds a muted channel has ended (R63, R565, R570). -/
def State.resumeReady (s : State) (n : Nat) : Bool :=
  let d := s.drive n
  d.st == .muted && !s.latched n
    && (List.range 4).all (fun c => !d.causes.testBit c || s.causeOver n c)

/-- A muted channel enters ARM at once, and examines the sample read at this instant: what it sends in place of the 0 of MUTED is
this instant's output (R560, R565). -/
def State.muteResume (s : State) (n : Nat) : State :=
  let s := ((s.driveArm n true).examineArm n).modDrive n (fun d => { d with interp := d.prior })
  s.sendOut n (nth (s.driveSample (s.drive n).epoch).ctrls n 0) none

/-- DRIVE_AUTO_RESTART's condition: a clock-fault mute may end, or the wait after R34 (R63, R559). -/
def State.autoDue (s : State) (n : Nat) : Bool :=
  let d := s.drive n
  let resume := s.fld Reg.CHIP_CLK_CFG 7 4
  (s.resumeReady n && d.causes.testBit 1)
    || (d.edgeWait && d.st == .off && resume != 0 && !s.clk.fault && !s.clk.autoOff && decide (16 * resume ≤ d.clean))

/-- The channel resumes, or its wait in OFF ends and its run request may become true (R63, R566). -/
def State.autoRestart (s : State) (n : Nat) : State :=
  if (s.drive n).edgeWait then s.modDrive n (fun d => { d with edgeWait := false }) else s.muteResume n

/-! ### Master enable, edge loss, mode changes (R34, R61, R564, R566) -/

/-- An accepted master enable with EN = 1 clears the latch-outs whose causes are cleared, and auto-restart is allowed again, unless the
CLOCK instance is found lasting in the same cycle (R564, R251, R685, R687, R688). -/
def State.masterOn (s : State) : State :=
  let s := (s.fixerRelease 0)
  let s := { s with clk := { s.clk with autoOff := s.clk.autoOff && s.fixer.struck.contains 0 } }
  (List.range 8).foldl (fun s n =>
    let lasting := (s.history (26 + n)).lasting
    let held := s.driveHeld n
    s.modDrive n (fun d => { d with
      latchRom := d.latchRom && lasting, latchShadow := d.latchShadow && lasting
      latchClock := false, latchMiss := false, latchSafe := d.latchSafe && held })) s

/-- The missing-edge monitor trips: zero current and SHDN on every channel, without a clock (R34, R566). -/
def State.edgeLoss (s : State) : State :=
  let s := (List.range 8).foldl (fun s n =>
    let s := if (s.drive n).st = .off then s
      else (s.driveTo n .off).modDrive n (fun d => { d with edgeWait := true, clean := 0 })
    s.modDrive n (fun d => { d with out := 0, interp := {}, prior := {}, quiet := false })) s
  let s := s.setFlag Reg.CHIP_CLK_STATUS 5
  { s with clk := { s.clk with edgeLossPend := true } }

/-- The boundary into SAFELIGHT: the master enable returns to 0 and the drive is unpowered (R515, R564). -/
def State.printToSafe (s : State) : State :=
  let s := s.setPair Reg.PRINT_MASTER_A 0
  let s := (List.range 8).foldl (fun s n => (s.driveTo n .off).modDrive n (fun d => { d with
    out := 0, interp := {}, prior := {}, quiet := false, unknown := true })) s
  let s := if s.print.loop.isSome then s.endProof else s
  { s with print := { s.print with loopPend := none } }

/-- The strap read's part (R548, R564): drives at rest. -/
def State.strapPrint (s : State) : State := { s with print := {} }

/-! ### Proof loops (R572, R573) -/

/-- Whether a PROOF_CTL value is refused (R573). -/
def State.proofRefused (s : State) (w : Word) : Bool :=
  bits w 1 0 != 0
    && ((s.drive (bits w 4 2)).st != .off || (bits w 1 0 == 3 && !s.flag Reg.PRINT_MASTER_A 0) || s.clk.rcTarget != 0)

/-- A running stage loop is ended by another PROOF_CTL value: its channel is to return to OFF (R573). -/
def State.endStageLoop (s : State) : State :=
  match s.print.loop with
  | some (3, c, _) =>
    if (s.drive c).st = .off then s
    else { s with print := { s.print with ending := (c, s.reg Reg.PRINT_PROOF_CTL_A) :: s.print.ending } }
  | _ => s

/-- A loop ends at once, its word reloaded (R250, R573). -/
def State.cutProof (s : State) : State := { s with print := { s.print with loop := none, loopDone := false } }

/-- A pending loop starts at a frame start (R572). -/
def State.startProof (s : State) : State :=
  match s.print.loopPend with
  | none => s
  | some w =>
    let n := bits w 1 0
    let c := bits w 4 2
    let at_ := if n = 3 then none else some s.clk.ticks
    let s := s.endStageLoop.setPair Reg.PRINT_PROOF_CTL_A w
    let s := if n = 0 then s else s.modDrive c (fun d => { d with toneAt := 0 })
    { s with print := { s.print with loopPend := none, loopPower := 0, loopDone := false, loop := if n = 0 then none else some (n, c, at_) } }

/-- The loop has measured for 4,096 ticks (R572). -/
def State.proofDue (s : State) : Bool :=
  match s.print.loop with
  | some (_, _, some t) => s.elapsed t 4096
  | _ => false

/-- The level of a power `p` against `d`, in 1/16 dB, within `num/100000` of it in power either way: where the accuracy leaves several,
the one nearest `v` (R572). With no power there is no level to hold it to. -/
def levelNear (p d num : Nat) (v : Half) : Half :=
  if p = 0 ∨ d = 0 then v
  else BitVec.ofInt 16 (clampInt (nearLevel (100000 * p) (num * d)) (nearLevel (num * p) (100000 * d)) (sgnOf 16 v.toNat))

/-- PROOF_RESULT of the loop that runs: of loops 1 and 2, the level of the modulator's inputs, of which bitstream and DAC output are the
images, within ±0.05 dB and ±0.3 dB; of loop 3 as the sense path reads IMON (R572). -/
def State.proofLevel (s : State) (level : Half) : Half :=
  match s.print.loop with
  | some (n, c, _) =>
    if n = 3 then level
    else levelNear s.print.loopPower (128 * (s.drive c).toneAt * 2 ^ 46) (if n = 1 then 101157 else 107151) level
  | none => level

/-- The loop's result; loops 1 and 2 end at once, loop 3 when its channel has stopped (R572, R573). -/
def State.proofDone (s : State) (level : Half) : State :=
  let s := { s with print := { s.print with result := s.proofLevel level } }
  let s := s.setFlag Reg.PRINT_PRINT_STATUS 6
  match s.print.loop with
  | some (3, c, _) => if (s.drive c).st = .off then s.endProof else { s with print := { s.print with loop := some (3, c, none), loopDone := true } }
  | _ => s.endProof

/-! ### Views (R577) -/

/-- The CH_STATE code of channel `n`. -/
def State.chCode (s : State) (n : Nat) : Nat :=
  match (s.drive n).st with
  | .off => if s.latched n then 8 else 0
  | .wake => 1
  | .arm => 2
  | .ramp => 3
  | .play => 4
  | .stopWait => 5
  | .bath => 6
  | .muted => 7

/-- CH_STATE. -/
def State.chState (s : State) : Word := pack ((List.range 8).map (fun n => (4 * n, 4, s.chCode n)))

/-- MUTE_CAUSE. -/
def State.muteCause (s : State) : Word := pack ((List.range 8).map (fun n => (4 * n, 4, (s.drive n).causes)))

end Sys2Proof.Machine
end

