-- ==== Sys2Proof/Machine/Tank.lean ====
section
/-! DEFINITION. Tank: power, the secure region and its wipe, the fog test, accesses and atomics (R618 to R653). -/

namespace Sys2Proof.Machine

/-! ### Power -/

/-- A Tank segment is powered; in a countdown to DAYLIGHT one of the four steps switches an unretained one on (R516, R517, R523,
R626). -/
def State.segPowered (s : State) (seg : Nat) : Bool :=
  s.clk.daylight || decide (seg < 5) || decide (Config.segmentStep seg % 4 < s.mode.steps)
    || (if seg < 32 then s.flag Reg.CHIP_RETAIN_LO seg else s.flag Reg.CHIP_RETAIN_HI (seg - 32))

/-! ### The secure region (R636 to R641) -/

/-- The region refuses every access (R653). -/
def State.sealed (s : State) : Bool := s.bank.sealPin || s.bank.sealFail

/-- The Loupe reaches the secure region (R636). -/
def State.secureOpen (s : State) : Bool := !s.bank.wipePend && !s.bank.wiping && !s.sealed

/-- The space-0 address of the seal word. -/
abbrev Tank.sealWord : Nat := 0x3FF8

/-- The tamper count in the seal word. -/
def State.tamperCnt (s : State) : Nat := bits (s.tank Tank.sealWord) 7 0

/-- The lifecycle record of lane 1 (R669). -/
def State.lifeRecord (s : State) : Word := pack [(8, 6, s.loupe.floor), (0, 2, s.loupe.life)]

/-- The lifecycle record is written into the seal word (R669, R670). -/
def State.writeLifeRecord (s : State) : State := s.setTank (Tank.sealWord + 1) s.lifeRecord

/-- A wipe becomes pending for a cause: 1 power-up, 2 host, 3 Loupe, 4 lifecycle, 5 tamper. A cause that arrives while one is
pending or running joins it; the highest-numbered is reported (R638). -/
def State.pendWipe (s : State) (cause : Nat) : State :=
  if s.bank.wipePend || s.bank.wiping then { s with bank := { s.bank with wipeCause := max s.bank.wipeCause cause } }
  else { s with bank := { s.bank with wipePend := true, wipeCause := cause } }

/-- A pending wipe may start: it waits while TAMPER stays asserted after a wipe (R637, R639). -/
def State.wipeMayStart (s : State) : Bool := s.running && s.bank.wipePend && !s.bank.wiping && !s.bank.sealPin

/-- Every Tank word of the region is written whole with 0 (R639). -/
def State.eraseSecure (s : State) : State :=
  { s with mem := Mem.erase s.mem 0 (4 * Tank.secureEnd)
           bank := { s.bank with errs := s.bank.errs.filter (fun e => decide (0x7FF < e.1)) } }

/-- A wipe starts: the region is written with 0, the tamper count being carried on to the seal word (R639). -/
def State.startWipe (s : State) : State :=
  let cnt := s.tamperCnt
  let s := s.eraseSecure
  { s with bank := { s.bank with wipePend := false, wiping := true, sealCnt := cnt, verifyWord := 0, verifyFails := 0 } }

/-- The tamper latch at the end of a wipe: it clears with TAMPER deasserted, else the region stays sealed (R637). -/
def State.latchAfterWipe (s : State) : State :=
  if !s.bank.tamperSeen then s
  else if s.bank.tamperPin then { s with bank := { s.bank with sealPin := true } }
  else { s with bank := { s.bank with tamperLatch := false, tamperSeen := false } }

/-- A wipe ends: whole, with the seal word written, or at a word that failed three times (R639, R641). -/
def State.endWipe (s : State) (failAt : Option Nat) : State :=
  let cause := s.bank.wipeCause
  let cnt := min 255 (s.bank.sealCnt + (if cause = 5 then 1 else 0))
  let s := s.eraseSecure
  let s := { s with bank := { s.bank with wiping := false, wipeCause := 0, lastCause := cause } }
  match failAt with
  | none =>
    let s := s.setTankWords Tank.sealWord [BitVec.ofNat 32 cnt, s.lifeRecord, 0, 0, 0, 0, 0, 0]
    let s := { s with bank := { s.bank with wipeCnt := min 255 (s.bank.wipeCnt + 1) } }
    ((s.setFlag Reg.TANK_TANK_STATUS 4).raise Log.TANK 5 (ofBytes cause cnt 0 0)).latchAfterWipe
  | some w =>
    let s := { s with bank := { s.bank with sealFail := true } }
    ((s.setFlag Reg.TANK_TANK_STATUS 5).raise Log.TANK 6 (ofBytes cause 0 (w % 256) (w / 256))).latchAfterWipe

/-- After the wipe of an accepted request the fuse burns, once; a failed wipe seals the region and ends the request (R641, R670). A later
wipe, while the fuse burns, is no wipe of the request's. -/
def State.afterWipe (s : State) (failed : Bool) : State :=
  match s.loupe.lifeReq with
  | none => s
  | some _ =>
    if s.loupe.lifeBurn.isSome then s
    else if failed then { s with loupe := { s.loupe with lifeReq := none, lifeBurn := none } }
    else { s with loupe := { s.loupe with lifeBurn := some s.clk.ticks } }

/-- The latch is set and its first link-clock edge has not been handled (R637). -/
def State.tamperDue (s : State) : Bool := s.running && s.bank.tamperLatch && !s.bank.tamperSeen

/-- TAMPER is deasserted; after a wipe that ended with it asserted, the seal and the latch end (R637). -/
def State.tamperOff (s : State) : State :=
  let s := { s with bank := { s.bank with tamperPin := false } }
  if s.bank.sealPin then { s with bank := { s.bank with sealPin := false, tamperLatch := false, tamperSeen := false } } else s

/-! ### The fog test (R642 to R649) -/

/-- The TANK page is in its parity safe state (R250). -/
def State.tankHeld (s : State) : Bool := s.port.held.any (fun a => Reg.pageOf a == 13)

/-- The fog test runs (R642, R62). -/
def State.fogRuns (s : State) : Bool :=
  s.acting && s.flag Reg.TANK_TANK_CFG 0 && !s.tankHeld && !s.clk.fault && s.blockUp 6

/-- A step ends as an abort that is not counted (R649, R62, R529). -/
def State.fogEnd (s : State) : State := if s.bank.phase = .idle then s else s.fogRestore

/-- The save reads of both words: the state, and whether one was uncorrectable (R643). -/
def State.fogSave (s : State) (struck : Bool) : State × Bool :=
  let w := 2 * s.bank.region
  let s := if struck then { s with bank := { s.bank with errs := (w, 0, true) :: s.bank.errs } } else s
  [(w, 0), (w, 1), (w, 2), (w, 3), (w + 1, 0), (w + 1, 1), (w + 1, 2), (w + 1, 3)].foldl
    (fun (p : State × Bool) (g : Nat × Nat) => let (s, u) := p.1.eccRead g.1 g.2 8; (s, p.2 || u)) (s, false)

/-- The core cycle by the unit's own count: 4,096 to a tick (R9). -/
def State.fogClock (s : State) (cycle : Nat) : Nat := 4096 * s.clk.ticks + cycle

/-- FOG_PACE × 1,024 cycles have passed since the last step began; 0 acts as 1 (R642, R652). -/
def State.fogDue (s : State) (cycle : Nat) : Bool :=
  match s.bank.stepAt with
  | none => true
  | some t => decide (t + 1024 * max 1 (s.fld Reg.TANK_TANK_CFG 7 4) ≤ s.fogClock cycle)

/-- The phase a step has reached, counted from its save; a mismatch completes the step (R648). -/
def fogReach (i : FogIn) : Nat :=
  if i.failBit.isSome then 4 else match i.upTo with | .save => 1 | .march => 2 | .restore => 3 | .idle => 4

/-- A step begins where one is due (R642). -/
def State.fogBegin (s : State) (i : FogIn) : State :=
  if s.fogDue i.cycle then { s with bank := { s.bank with phase := .save, stepAt := some (s.fogClock i.cycle) } } else s

/-- The save is over: the region is borrowed. It is skipped where the save met an uncorrectable error (R643, R647). DESIGN CHOICE (log
115): where the stream port is due to access the region before the deadline, the step ends here without an abort, and the next step
tries the region again; R644 says only that it is not borrowed. -/
def State.fogBorrow (s : State) (i : FogIn) : State :=
  let (s, ue) := s.fogSave i.saveUe
  if ue then s.fogSkip 1 else { s with bank := { s.bank with phase := if i.streamDue then .idle else .march } }

/-- The march is over; a mismatch is recorded (R643, R648). -/
def State.fogMarched (s : State) (failBit : Option Nat) : State :=
  let r := s.bank.region
  let s := { s with bank := { s.bank with phase := .restore } }
  match failBit with
  | none => s
  | some b =>
    let s := (s.setReg Reg.TANK_FOG_FAIL_ADDR (pack [(22, 10, b), (0, 17, r)])).setFlag Reg.TANK_TANK_STATUS 2
    (s.raise Log.TANK 3 (ofBytes (r % 256) (r / 256 % 256) (r / 65536) (b % 256)) (ofBytes (b / 256) 0 0 0)).fixerReport 42

/-- A fog-test step: one in progress goes on, else one begins where it is due; it goes through its phases as far as `i` says (R642, R643,
R647, R648). -/
def State.fogStep (s : State) (i : FogIn) : State :=
  let s := if s.bank.phase = .idle then s.fogBegin i else s
  let s := if s.bank.phase = .save ∧ 2 ≤ fogReach i then s.fogBorrow i else s
  let s := if s.bank.phase = .march ∧ 3 ≤ fogReach i then s.fogMarched i.failBit else s
  if s.bank.phase = .restore ∧ 4 ≤ fogReach i then s.fogRestore.fogNext else s

/-! ### Accesses (R628 to R636) -/

/-- The rank of a requester (R628). DESIGN CHOICE (log 134): the hardware log writer has rank 7 in DAYLIGHT too, before the Loupe takes
over; R628 gives it there in SAFELIGHT. -/
def rankOf : Requester → Nat
  | .stream => 1
  | .wipe => 2
  | .fogRestore => 3
  | .developer => 4
  | .aperture => 5
  | .window => 6
  | .loupe => 7
  | .log => 7
  | .fog => 8

/-- The Loupe runs (R526, R674). -/
def State.loupeUp (s : State) : Bool := s.loupe.powered && !s.loupe.halted

/-- An error strikes a check group; a second one makes it a double-bit error (R633, R635). -/
def State.strike (s : State) (word : Nat) : Option (Nat × Bool) → State
  | none => s
  | some (g, d) =>
    let double := d || (s.eccOf word g).isSome
    let s := s.eccClear word g
    { s with bank := { s.bank with errs := (word, g % 4, double) :: s.bank.errs } }

/-- The command in entry `k` of its ring is dropped: a tag returns to idle, its reserved reply is free; an abort that awaits its
examination is dropped likewise (R199, R635). -/
def State.dropCommand (s : State) (k : Nat) : State :=
  match s.queue.cmds.findIdx? (fun c => c.slot == k) with
  | none =>
    let gone := fun (a : Abort) => !a.waiting && a.slot == k
    { s with queue := { s.queue with aborts := s.queue.aborts.filter (fun a => !gone a)
                                     reserved := s.queue.reserved - (s.queue.aborts.filter gone).length } }
  | some i =>
    let c := nth s.queue.cmds i ⟨0, 0, [], false, 0⟩
    let head := decide (i = 0)
    let s := { s with queue := { s.queue with
      cmds := s.queue.cmds.eraseIdx i, running := s.queue.running && !head
      done := if head then 0 else s.queue.done, got := if head then [] else s.queue.got } }
    if isTagged (bits c.hdr 31 28) then
      ({ s with queue := { s.queue with reserved := s.queue.reserved - 1 } }).setTag (pktTag c.hdr) .idle
    else s

/-- The ring entry that space-0 word `w` lies in cannot be read, and is dropped (R621, R635). -/
def State.dropEntry (s : State) (w : Nat) : State :=
  if w < Tank.cmdRing ∨ Tank.ringsEnd ≤ w then s
  else if w < Tank.replyRing then s.dropCommand ((w - Tank.cmdRing) / 32)
  else if w < Tank.eventRing then
    { s with queue := { s.queue with replies := s.queue.replies.filter (fun r => r.slot != (w - Tank.replyRing) / 32) } }
  else s.keepEvents (s.queue.events.filter (fun e => e.slot != w - Tank.eventRing))

/-- The stream source whose window holds a space-0 word, by the Developer's numbering (R622, R427). -/
def windowSource (w : Nat) : Option Nat :=
  if Tank.chanWindow ≤ w ∧ w < Tank.beamWindow then some (8 + (w - Tank.chanWindow) / 128)
  else if Tank.beamWindow ≤ w ∧ w < Tank.lpWindow then some ((w - Tank.beamWindow) / 128)
  else if Tank.lpWindow ≤ w ∧ w < Tank.lpWindow + 128 then some 24
  else none

/-- Bus error to the Loupe (R264, R635, R636). -/
def State.busFault (s : State) : State := { s with port := { s.port with busError := true, data := [] } }

/-- The Loupe meets an uncorrectable error: the bus error enters the running image's fault handler, and a handler in the patch area that
faults in turn goes on no further (R635, R673). -/
def State.loupeUe (s : State) (patch : Bool) : State :=
  let again := s.loupe.handler && patch
  { s.busFault with loupe := { s.loupe with handler := true, wedged := s.loupe.wedged || again } }

/-- The Developer meets an uncorrectable word: a sample is invalid, a template is disabled (R482, R635). -/
def State.developerUe (s : State) (w : Nat) : State :=
  match windowSource w with
  | some k => s.countSample k false
  | none => if Tank.templates ≤ w ∧ w < Tank.dayRing then s.templateEcc ((w - Tank.templates) / 1024) ((w - Tank.templates) % 1024) else s

/-- What a read with some uncorrectable check groups costs its requester (R635). -/
def State.readLost (s : State) (r : TankReq) (bad : List Nat) : State :=
  if bad.isEmpty then s
  else match r.req with
  | .stream => (r.lanes.filter (fun l => bad.contains (l / 2))).foldl (fun s l => s.dropEntry (8 * r.word + l)) s
  | .developer => bad.foldl (fun s g => s.developerUe (8 * r.word + 2 * g)) s
  | .loupe => s.loupeUe r.patch
  | _ => s

/-- The check groups some lanes lie in. -/
def groupsOf (lanes : List Nat) : List Nat := idxWhere 4 (fun g => lanes.contains (2 * g) || lanes.contains (2 * g + 1))

/-- The check groups of a read: the state, and those that are uncorrectable (R633, R635). -/
def State.readGroups (s : State) (word rank : Nat) : List Nat → State × List Nat
  | [] => (s, [])
  | g :: gs =>
    let (s, ue) := s.eccRead word g rank
    let (s, bad) := s.readGroups word rank gs
    (s, if ue then g :: bad else bad)

/-- One check group of a write: a group written in one lane is read first, and an uncorrectable other lane becomes 0; the result says
whether it was uncorrectable (R634). -/
def State.writeGroup (s : State) (r : TankReq) (g : Nat) : State × Bool :=
  let lo := r.lanes.contains (2 * g)
  let hi := r.lanes.contains (2 * g + 1)
  if lo && hi then (s.eccClear r.word g, false)
  else
    let (s, ue) := s.eccRead r.word g (rankOf r.req)
    let s := s.eccClear r.word g
    if ue then
      (s.putWord (8 * r.word + 2 * g + (if lo then 1 else 0)) 0, true)
    else (s, false)

/-- The check groups of a write, and what they cost its requester (R634, R635). -/
def State.writeGroups (s : State) (r : TankReq) : State :=
  let (s, bad) := (groupsOf r.lanes).foldl (fun (p : State × Bool) g => let (s, ue) := p.1.writeGroup r g; (s, p.2 || ue)) (s, false)
  if bad && r.req == .loupe then s.loupeUe r.patch else s

/-- The lanes of a word. -/
def State.readLanes (s : State) (word : Nat) (ls : List Nat) : List Word := ls.map (fun l => s.tank (8 * word + l))

/-- A verify read of the wipe: a word in which it finds a bit at 1 or an error is rewritten and read again, and the third failure in a
row ends the wipe (R641). -/
def State.wipeRead (s : State) (r : TankReq) : State :=
  let struck := (groupsOf r.lanes).any (fun g => (s.eccOf r.word g).isSome)
  let (s, _) := s.readGroups r.word (rankOf r.req) (groupsOf r.lanes)
  if !struck && (s.readLanes r.word r.lanes).all (· == 0) then s
  else
    let n := if s.bank.verifyWord = r.word then s.bank.verifyFails + 1 else 1
    let s := { s with mem := Mem.erase s.mem (32 * r.word) (32 * r.word + 32)
                      bank := { s.bank with verifyWord := r.word, verifyFails := n, errs := s.bank.errs.filter (fun e => e.1 != r.word) } }
    if n < 3 then s else (s.endWipe (some r.word)).afterWipe true

/-- Whether a requester is there to make a request (R526, R628). -/
def State.requests (s : State) : Requester → Bool
  | .wipe => s.bank.wiping
  | .fogRestore => s.bank.borrowed
  | .fog => s.bank.phase == .save || s.bank.phase == .march
  | .loupe => s.loupeUp
  | .log => !s.fixer.byLoupe
  | .aperture => s.clk.daylight
  | _ => true

/-- Whether a request reaches the bank at all: its requester is there, its word exists and has power, and the wipe engine keeps to the
secure region, the hardware log writer to writes of the log (R618, R626, R628, R639, R689). -/
def State.presents (s : State) (r : TankReq) : Bool :=
  s.requests r.req && (r.req != .wipe || decide (8 * r.word < Tank.secureEnd))
    && (r.req != .log || (r.data.isSome && decide (Tank.log ≤ 8 * r.word) && decide (8 * r.word < Tank.cmdRing))) && decide (r.word < 0x30000)
    && r.lanes.all (fun l => decide (l < 8)) && s.segPowered (segmentOf (8 * r.word))

/-- Whether a request is kept from the secure region: only the wipe and the Loupe's base image reach it (R636, R654). -/
def State.secureRefused (s : State) (r : TankReq) : Bool :=
  decide (8 * r.word < Tank.secureEnd) && r.req != .wipe && !(r.req == .loupe && !r.patch && s.secureOpen)

/-- A granted request of the Loupe begins: the port's outcome is cleared; one that the fault handler does not make shows that it has
returned (R629, R673). -/
def State.loupeAccess (s : State) (handler : Bool) : State :=
  { s with port := { s.port with busError := false, data := [] }, loupe := { s.loupe with handler := s.loupe.handler && handler } }

/-- A granted access completes (R629). The words that the unit's own requesters write are written by the commands that compute
them; here their check groups are met. The Loupe's data are its own. The march's accesses pass no check (R643), and the errors that the save
meets are FOG_STEP's. -/
def State.tankAccess (s : State) (r : TankReq) : State :=
  let w := 8 * r.word
  let loupe := r.req == .loupe
  if r.req == .fog then s
  else
    let s := s.strike r.word r.upset
    let s := if r.req == .fogRestore then s else s.fogYield r.word
    let s := if loupe then s.loupeAccess r.handler else s
    match r.data with
    | none =>
      if r.req == .wipe then s.wipeRead r
      else
        let (s, bad) := s.readGroups r.word (rankOf r.req) (groupsOf r.lanes)
        let s := s.readLost r bad
        if loupe && bad.isEmpty then { s with port := { s.port with data := s.readLanes r.word r.lanes } } else s
    | some ds =>
      let s := s.writeGroups r
      if loupe then (r.lanes.zip ds).foldl (fun s p => s.putWord (w + p.1) p.2) s else s

/-- The highest-ranked of some requests (R628). -/
def topRequest : List TankReq → Option TankReq
  | [] => none
  | r :: rs =>
    match topRequest rs with
    | none => some r
    | some t => some (if rankOf r.req ≤ rankOf t.req then r else t)

/-- The requests of one cycle that are granted, in the order of their effects: of those that reach the word of the highest-ranked one
every read, and then the highest-ranked write. The others stall, and are presented again with a later cycle (R628, R629, R631). -/
def grants (rs : List TankReq) : List TankReq :=
  match topRequest rs with
  | none => []
  | some h =>
    let same := rs.filter (fun r => r.word == h.word)
    same.filter (fun r => r.data.isNone) ++ (topRequest (same.filter (fun r => r.data.isSome))).toList

/-- One cycle of the bank: requests kept from the secure region are refused, the Loupe's with a bus error, and of the others the granted
ones are served (R628 to R631, R636). -/
def State.tankCycle (s : State) (rs : List TankReq) : State :=
  let rs := rs.filter s.presents
  let bad := rs.filter s.secureRefused
  let ok := rs.filter (fun r => !s.secureRefused r)
  let s := if bad.any (fun r => r.req == .loupe) then s.busFault else s
  (grants ok).foldl State.tankAccess s

/-- An atomic of the Loupe on one lane: `f` gives what is stored from the old lane, which is returned. In an uncorrectable group the
other lane becomes 0 and the Loupe has a bus error; the old lane is then a free value (R632, R634, R635, R654). -/
def State.atomic (s : State) (word lane : Nat) (i : AtomicIn) (f : Word → Word) : State :=
  let w := 8 * word + lane
  if !s.loupeUp || decide (0x30000 ≤ word) || decide (8 ≤ lane) || !s.segPowered (segmentOf w) then s
  else if w < Tank.secureEnd ∧ (i.patch || !s.secureOpen) then s.busFault
  else
    let s := (s.fogYield word).loupeAccess i.handler
    let (s, ue) := s.eccRead word (lane / 2) 7
    let s := s.eccClear word (lane / 2)
    if ue then
      let (old, s) := s.freeWord
      (((s.putWord (pairLane w) 0).putWord w (f old))).loupeUe i.patch
    else
      let old := s.tank w
      { s.putWord w (f old) with port := { s.port with data := [old] } }

/-! ### The indirect window on Tank (R624 to R627, R635) -/

/-- The data of a window read of spaces 0 and 3: an uncorrectable group is returned as read, which the spec does not further
define. -/
def State.windowRead (s : State) (w : Nat) : Word × State :=
  let s := s.fogYield (w / 8)
  let (s, ue) := s.eccRead (w / 8) (w % 8 / 2) 6
  if ue then s.freeWord else (s.tank w, s)

/-- A read of the latent store: an uncorrectable ring word reads as invalid samples, is flagged and logged with its address in
space 4 (R506, R507). -/
def State.latentRead (s : State) (w : Nat) : Option (Word × State) :=
  (s.latentWord w).map (fun p =>
    let r := s.windowRead p.1
    match p.2 with
    | some v =>
      if s.eccAt p.1 = some true then
        (v, (r.2.setFlag Reg.LATENT_LAT_STATUS 5).raise Log.LATENT 5 (BitVec.ofNat 32 (w % 2 ^ 24)))
      else r
    | none => r)

/-- Whether space 0 refuses a read of a word (R624, R626). -/
def State.space0Refused (s : State) (w : Nat) : Bool :=
  decide (w < Tank.secureEnd) || decide (Tank.words ≤ w) || !s.segPowered (segmentOf w)

/-! ### Views (R653) -/

/-- FOG_STATE. -/
def State.fogState (s : State) : Word :=
  let phase := match s.bank.phase with | .save => 1 | .march => 2 | .restore => 3 | .idle => if s.fogRuns then 4 else 0
  pack [(31, 1, b2n s.bank.borrowed), (28, 3, phase), (24, 4, s.bank.aborts), (0, 17, s.bank.region)]

/-- SECURE_STATE. -/
def State.secureState (s : State) : Word :=
  let b := s.bank
  pack [(31, 1, b2n s.sealed), (30, 1, b2n b.wiping), (29, 1, b2n b.wipePend), (28, 1, b2n b.tamperLatch), (27, 1, b2n b.tamperPin),
    (16, 8, s.tamperCnt), (8, 8, b.wipeCnt), (0, 3, b.lastCause)]

end Sys2Proof.Machine
end

