-- ==== Sys2Proof/Machine/Loupe.lean ====
section
/-! DEFINITION. Loupe: starts, shutdown, sensors, mailbox, patch, lifecycle, watchdog (R654 to R678). -/

namespace Sys2Proof.Machine

/-! ### Starts and stops (R656 to R658, R666) -/

/-- The sensor registers hold no sample (R659). -/
def State.blankSensors (s : State) : State :=
  let s := { s with loupe := { s.loupe with lenBlank := true } }
  ((((s.setReg Reg.LOUPE_TEMP_01 0x80008000#32).setReg Reg.LOUPE_TEMP_23 0x80008000#32).setReg Reg.LOUPE_SUPPLY_0 0x80008000#32).setReg
    Reg.LOUPE_SUPPLY_1 0x80008000#32).setReg Reg.LOUPE_SUPPLY_2 0x00008000#32

/-- No patch is active or being verified (R666, R678). -/
def State.dropPatch (s : State) : State :=
  { s.setReg Reg.LOUPE_PATCH_INFO 0 with loupe := { s.loupe with
      patch := 0, wantRaise := false, reentry := false, verifyLost := false, marked := false
      floorBurn := s.loupe.floorBurn.map (fun b => (b.1, b.2.1, false)) } }

/-- The Loupe starts from its base image (R656); one whose domain is late starts with its power (R524). A halted one stays halted
(R674). -/
def State.startLoupe (s : State) : State :=
  if !s.blockUp 5 then s
  else if s.loupe.halted then { s with loupe := { s.loupe with powered := true } }
  else
    let s := s.blankSensors
    { s with mode := { s.mode with toLoupe := false }
             loupe := { s.loupe with powered := true, starting := true, ready := false, mark := false, mbx := none
                                     handler := false, wedged := false } }

/-- A verification that starts now fails at its first step (R665). -/
def State.verifyBarred (s : State) : Bool := s.bank.wipePend || s.bank.wiping || s.sealed

/-- The base image copies the admitted keys into the secure region, where that is open to it (R636, R656). -/
def State.copyKeys (s : State) : State :=
  if s.secureOpen then (Config.keyWords s.loupe.life).foldl (fun s k => s.storeLane 7 (k.1 % Tank.sealWord) k.2) s else s

/-- The Loupe reports ready, the keys being copied: it takes the log at the next frame start, and re-enters a marked patch (R526, R656,
R666). -/
def State.loupeReady (s : State) : State :=
  let marked := s.loupe.marked
  let s := s.copyKeys
  { s with mode := { s.mode with toLoupe := !s.toSafe }
           loupe := { s.loupe with starting := false, ready := true, marked := false
                                   patch := if marked then 1 else s.loupe.patch, reentry := marked
                                   verifyLost := if marked then s.verifyBarred else s.loupe.verifyLost
                                   wantRaise := s.loupe.wantRaise && !marked } }

/-- The boundary into SAFELIGHT takes the Loupe's power; without a completion mark its context record is ignored (R658, R666). -/
def State.loupeToSafe (s : State) : State :=
  let late := s.loupe.powered && !s.loupe.mark
  let keep := s.loupe.mark && s.loupe.patch == 2 && s.fld Reg.CHIP_RETAIN_HI 15 12 == 15
  let s := if late then s.raise Log.LOUPE 8 0 else s
  let s := if late then { s with loupe := { s.loupe with least := List.replicate 9 none, greatest := List.replicate 9 none } } else s
  let s := s.dropPatch
  { s with loupe := { s.loupe with powered := false, starting := false, ready := false, mark := false, mbx := none, marked := keep }
           mode := { s.mode with toLoupe := false, toHard := false } }

/-- A cancelled change to SAFELIGHT restarts the Loupe, an active patch marked for re-entry (R530, R666). -/
def State.loupeCancel (s : State) : State :=
  let active := s.loupe.patch == 2
  let s := s.dropPatch
  ({ s with loupe := { s.loupe with marked := active } }).startLoupe

/-- A patch is deactivated and the base image restarts without re-entry (R667, R668, R672). -/
def State.restartBase (s : State) : State :=
  let s := s.dropPatch.startLoupe
  { s with fixer := { s.fixer with byLoupe := false } }

/-- A verification in progress is abandoned with reason 0 (R665, R668). -/
def State.abandonVerify (s : State) : State :=
  if s.loupe.patch = 1 then
    ((s.dropPatch.setFlag Reg.LOUPE_LOUPE_STATUS 2).countSat Reg.LOUPE_PATCH_FAILS).raise Log.LOUPE 2 0
  else s

/-- A wipe becomes pending, or a cause joins the one that is. Each but that of power-up abandons a verification; each that begins
deactivates an active patch too, and restarts the Loupe from its base image; in SAFELIGHT it takes a patch's mark for re-entry (R638,
R668, R670). -/
def State.makeWipe (s : State) (cause : Nat) : State :=
  let joins := s.bank.wipePend || s.bank.wiping
  let s := s.pendWipe cause
  if cause = 1 then s
  else
    let s := s.abandonVerify
    if joins then s else if s.loupe.powered then s.restartBase else s.dropPatch

/-! ### Sensors (R659 to R662) -/

/-- The operating range of a supply in mV (R706). -/
def supplyRange : Nat → Nat × Nat
  | 0 => (776, 824)
  | 3 => (3135, 3465)
  | 4 => (600, 700)
  | _ => (1710, 1890)

/-- The die-temperature warning: a site exceeds TJ_WARN after all have stood below it for 960 ticks (R662). `n` is the ticks
this look stands for. -/
def State.tjWarn (s : State) (tj : List Int) (n : Nat) : State :=
  let limit : Int := 16 * (s.fld Reg.LOUPE_TJ_CFG 7 0 : Nat)
  match (List.range 4).find? (fun k => decide (limit < nth tj k 0)) with
  | some k =>
    let first := decide (960 ≤ s.loupe.tjBelow)
    let s := { s with loupe := { s.loupe with tjBelow := 0 } }
    if first then
      let v := wrapInt 16 (nth tj k 0)
      (s.setFlag Reg.LOUPE_LOUPE_STATUS 4).raise Log.LOUPE 5 (ofBytes k 0 (v % 256) (v / 256))
    else s
  | none =>
    let below := (List.range 4).all (fun k => decide (nth tj k 0 < limit))
    { s with loupe := { s.loupe with tjBelow := if below then min 960 (s.loupe.tjBelow + n) else 0 } }

/-- A tick of the die-temperature comparators; without power they hold no count (R515, R662). -/
def State.tickTj (s : State) (i : TickIn) : State :=
  if !s.blockUp 5 then { s with loupe := { s.loupe with tjRun := [0, 0, 0, 0], tjBelow := 0 } }
  else
    let trip : Int := 16 * (s.fld Reg.LOUPE_TJ_CFG 15 8 : Nat)
    let run := (List.range 4).map (fun k => if trip < nth i.tj k 0 then min 8 (nth s.loupe.tjRun k 0 + 1) else 0)
    ({ s with loupe := { s.loupe with tjRun := run, tj := (List.range 4).map (fun k => nth i.tj k 0) } }).tjWarn i.tj 1

/-- TJ_TRIP's condition: a site has exceeded it for 8 consecutive ticks (R662). -/
def State.tripDue (s : State) (k : Nat) : Bool := s.running && s.blockUp 5 && decide (k < 4) && decide (8 ≤ nth s.loupe.tjRun k 0)

/-- The unit clears the master enable (R662). -/
def State.tjTrip (s : State) (k : Nat) : State :=
  let v := wrapInt 16 (nth s.loupe.tj k 0)
  let s := { s with loupe := { s.loupe with tjRun := [0, 0, 0, 0] } }
  let s := s.setPair Reg.PRINT_MASTER_A (setBits (s.reg Reg.PRINT_MASTER_A) 0 1 0)
  (s.setFlag Reg.LOUPE_LOUPE_STATUS 4).raise Log.LOUPE 6 (ofBytes k 0 (v % 256) (v / 256))

/-- A supply reading is judged: one entry at each departure from its range (R662). -/
def State.judgeSupply (r : Sensors) (s : State) (k : Nat) : State :=
  let v := (nth r.supplies k 0).toNat
  let lo := decide (v < (supplyRange k).1)
  let hi := decide ((supplyRange k).2 < v)
  let was := nth s.loupe.supplyOut k false
  let s := { s with loupe := { s.loupe with supplyOut := modNth s.loupe.supplyOut k (fun _ => lo || hi) } }
  if (lo || hi) && !was then s.raise Log.LOUPE 7 (ofBytes k (b2n hi) (v % 256) (v / 256)) else s

/-- The lower of a kept reading and a new one; die sites are signed, supplies are not. -/
def lesser (signed : Bool) (a : Option Half) (b : Half) : Option Half :=
  match a with
  | none => some b
  | some a => some (if (if signed then decide (sgnOf 16 b.toNat < sgnOf 16 a.toNat) else decide (b.toNat < a.toNat)) then b else a)

def greater (signed : Bool) (a : Option Half) (b : Half) : Option Half :=
  match a with
  | none => some b
  | some a => some (if (if signed then decide (sgnOf 16 a.toNat < sgnOf 16 b.toNat) else decide (a.toNat < b.toNat)) then b else a)

/-- Readings are refreshed (R659, R661, R662). -/
def State.takeSensors (s : State) (r : Sensors) : State :=
  let t := fun k => (nth r.temps k 0).toNat
  let v := fun k => (nth r.supplies k 0).toNat
  let s := s.setReg Reg.LOUPE_TEMP_01 (pack [(16, 16, t 1), (0, 16, t 0)])
  let s := s.setReg Reg.LOUPE_TEMP_23 (pack [(16, 16, t 3), (0, 16, t 2)])
  let s := s.setReg Reg.LOUPE_SUPPLY_0 (pack [(16, 16, v 1), (0, 16, v 0)])
  let s := s.setReg Reg.LOUPE_SUPPLY_1 (pack [(16, 16, v 3), (0, 16, v 2)])
  let s := s.setReg Reg.LOUPE_SUPPLY_2 (pack [(0, 16, v 4)])
  let all := (List.range 4).map (fun k => nth r.temps k 0) ++ (List.range 5).map (fun k => nth r.supplies k 0)
  let upd := fun (f : Bool → Option Half → Half → Option Half) (l : List (Option Half)) =>
    (List.range 9).map (fun k => f (decide (k < 4)) (nth l k none) (nth all k 0))
  let s := { s with loupe := { s.loupe with least := upd lesser s.loupe.least, greatest := upd greater s.loupe.greatest } }
  let s := (List.range 5).foldl (State.judgeSupply r) s
  s.tjWarn ((List.range 4).map (fun k => sgnOf 16 (t k))) 0

/-- A frame of the selected side is measured; the first sample since the Loupe's start is both the least and the greatest (R659, R660). -/
def State.noteFrameLen (s : State) (len : Nat) : State :=
  if !s.loupeUp || len == 0 then s
  else
    let w := if s.loupe.lenBlank then Reg.resetOf Reg.LOUPE_FRAME_LEN else s.reg Reg.LOUPE_FRAME_LEN
    let s := { s with loupe := { s.loupe with lenBlank := false } }
    s.setReg Reg.LOUPE_FRAME_LEN (pack [(16, 16, max (bits w 31 16) (min 0xFFFF len)), (0, 16, min (bits w 15 0) (min 0xFFFF len))])

/-- FRAME_LEN as a read finds it: every field 0x8000 from the Loupe's start to its first sample, and while the Loupe is halted (R659,
R674). -/
def State.frameLenReg (s : State) : Word :=
  if s.loupe.halted || s.loupe.lenBlank then 0x80008000#32 else s.reg Reg.LOUPE_FRAME_LEN

/-! ### The mailbox (R663) -/

/-- Whether a write with GO = 1 is refused (R663, R674). -/
def State.mbxRefused (s : State) : Bool := s.loupe.mbx.isSome || s.loupe.halted

/-- A command is passed to the firmware. -/
def State.mbxPass (s : State) (op : Nat) : State :=
  { s with loupe := { s.loupe with mbx := some (op, s.reg Reg.LOUPE_MBX_ARG) } }

/-- The bytes of words in ascending address order (R664). -/
def wordBytes (ws : List Word) : List Byte := ws.flatMap (fun w => [byteOf w 0, byteOf w 1, byteOf w 2, byteOf w 3])

/-- Words of the patch area. -/
def State.patchWord (s : State) (i : Nat) : Word := s.tank (Tank.patch + i)

/-- The body length L, clamped to the area. -/
def State.patchLen (s : State) : Nat := min 131040 (s.patchWord 18).toNat

/-- The signed message: words 16 to 31 + L (R664). -/
def State.patchMessage (s : State) : List Byte := wordBytes ((List.range (16 + s.patchLen)).map (fun i => s.patchWord (16 + i)))

/-- The result of a mailbox command, and what its reads of Tank end; `patch` is what an active patch answers (R645, R663). -/
def State.mbxResult (s : State) (op : Nat) (arg patch : Word) : Word × State :=
  if op = 0x00 then (arg, s)
  else if op = 0x01 then (0, s)
  else if op = 0x02 then
    let k := bits arg 3 0
    let r := nth (if bitOf arg 4 then s.loupe.greatest else s.loupe.least) k none
    match r with
    | some v => (BitVec.ofNat 32 v.toNat, s)
    | none => let (w, s) := s.freeWord; (w &&& 0xFFFF#32, s)
  else if op = 0x03 then (if s.loupe.patch = 2 then (shaLow s.patchMessage, s.fogSpan (Tank.patch + 16) (16 + s.patchLen)) else (0, s))
  else if op < 0x80 then (0xFFFFFFFF#32, s)
  else ((if s.loupe.patch = 2 then patch else 0xFFFFFFFF#32), s)

/-- The firmware completes a mailbox command (R663). -/
def State.mbxDone (s : State) (patch : Word) (snap : Sensors) : State :=
  match s.loupe.mbx with
  | none => s
  | some (op, arg) =>
    let s := if op = 1 then s.takeSensors snap else s
    let (v, s) := s.mbxResult op arg patch
    ({ s.setReg Reg.LOUPE_MBX_RESULT v with loupe := { s.loupe with mbx := none } }).setFlag Reg.LOUPE_LOUPE_STATUS 0

/-! ### Patch images (R664 to R668) -/

/-- GEN, version and entry offset of the image. -/
def State.patchGen (s : State) : Nat := bits (s.patchWord 17) 5 0
def State.patchVersion (s : State) : Nat := bits (s.patchWord 17) 31 16

/-- The key the lifecycle state admits (R669). -/
def State.admittedKey (s : State) : Option Nat :=
  match s.loupe.life with
  | 1 => some 0
  | 2 => some 0
  | 3 => some 1
  | _ => none

/-- The first step of a verification that fails, by its reason (R665). -/
def State.verifyFails (s : State) : Option Nat :=
  let l := (s.patchWord 18).toNat
  if s.loupe.verifyLost || s.verifyBarred then some 0
  else match s.admittedKey with
  | none => some 1
  | some key =>
    if s.patchWord 16 != 0x58504154#32 || l == 0 || decide (131040 < l) || decide (l ≤ (s.patchWord 19).toNat) then some 2
    else if s.loupe.life = 2 ∧ s.patchGen < s.loupe.floor then some 3
    else if !Config.sigVerifies key ((List.range 16).map s.patchWord) s.patchMessage then some 4
    else none

/-- How many words of the patch area a verification reads: the header, and of a header that passes the signed message (R664, R665). -/
def State.verifyReads (s : State) : Nat :=
  match s.verifyFails with
  | none => 32 + s.patchLen
  | some 4 => 32 + s.patchLen
  | some 2 => 20
  | some 3 => 20
  | _ => 0

/-- The patch becomes active and is entered (R665). -/
def State.enterPatch (s : State) : State :=
  let s := { s with loupe := { s.loupe with patch := 2, wantRaise := false, reentry := false } }
  let s := s.setReg Reg.LOUPE_PATCH_INFO (pack [(16, 16, s.patchVersion), (0, 6, s.patchGen)])
  let v := s.patchVersion
  (s.setFlag Reg.LOUPE_LOUPE_STATUS 1).raise Log.LOUPE 1 (ofBytes (v % 256) (v / 256) s.patchGen 0) (BitVec.ofNat 32 s.patchLen)

/-- A verification fails: the base image keeps running (R665, R666). -/
def State.patchBad (s : State) (why : Nat) : State :=
  let s := s.dropPatch
  ((s.setFlag Reg.LOUPE_LOUPE_STATUS 2).countSat Reg.LOUPE_PATCH_FAILS).raise Log.LOUPE 2 (ofBytes why 0 0 0)

/-- A verification completes; with RAISE in FIELD the floor fuse burns before the patch is entered (R665, R666). A fog-test step that
borrows a word it reads aborts (R645). -/
def State.verifyDone (s : State) : State :=
  let s := s.fogSpan Tank.patch s.verifyReads
  match s.verifyFails with
  | some why => s.patchBad (if s.loupe.reentry then 5 else why)
  | none =>
    if s.loupe.wantRaise ∧ s.loupe.life = 2 then
      { s with loupe := { s.loupe with wantRaise := false, floorBurn := some (s.patchGen, s.clk.ticks, true) } }
    else s.enterPatch

/-- The verification in progress may complete: a floor fuse that burns for it is awaited first. -/
def State.verifyDue (s : State) : Bool := s.loupeUp && s.loupe.patch == 1 && s.loupe.floorBurn.isNone

/-- The floor fuse is burnt (R665). -/
def State.floorDue (s : State) : Bool :=
  match s.loupe.floorBurn with
  | some (_, t, _) => s.running && s.elapsed t 96
  | none => false

/-- The floor takes its new value, and the Loupe enters the patch (R665, R669). -/
def State.raiseFloor (s : State) : State :=
  match s.loupe.floorBurn with
  | none => s
  | some (g, _, enter) =>
    let s := { s with loupe := { s.loupe with floor := g, floorBurn := none } }
    let s := if s.secureOpen then s.writeLifeRecord else s
    if enter then s.enterPatch else s

/-- Whether a write of the activation pair is refused (R667). -/
def State.patchRefused (s : State) (v : Word) : Bool :=
  s.loupe.patch == 1 || s.clk.rcTarget != 0 || s.port.held.any (fun a => Reg.pageOf a == 14) || (s.loupe.halted && !bitOf v 2)

/-- An accepted write of the activation pair (R665, R667, R674). -/
def State.patchWrite (s : State) (v : Word) : State :=
  let s := if bitOf v 2 then (({ s with loupe := { s.loupe with halted := false } }).fixerRelease 43).restartBase else s
  if bitOf v 0 then
    let s := s.dropPatch
    { s with loupe := { s.loupe with patch := 1, wantRaise := bitOf v 1, verifyLost := s.verifyBarred } }
  else if bitOf v 3 && s.loupe.patch == 2 then s.restartBase
  else s

/-- Whether space 0 accepts a write of a word (R625, R664). -/
def State.space0Writable (s : State) (w : Nat) : Bool :=
  decide (Tank.patch ≤ w) && decide (w < Tank.words) && s.segPowered (segmentOf w) && s.loupe.patch == 0

/-! ### Lifecycle (R669, R670) -/

/-- The 9-byte message of the return token (R670). -/
def returnMessage : List Byte := (List.range 8).map (fun i => Config.dieId.extractLsb' (8 * i) 8) ++ [0x03#8]

/-- Whether a lifecycle request is refused; `loupe` says the Loupe writes it (R670, R641). -/
def State.lifeRefused (s : State) (v : Word) (loupe : Bool) : Bool :=
  let t := bits v 1 0
  loupe || t != s.loupe.life + 1 || s.clk.rcTarget != 0 || s.sealed
    || (t == 3 && !Config.sigVerifies 1 ((List.range 16).map s.patchWord) returnMessage)

/-- An accepted request makes a wipe pending (R670). -/
def State.requestLife (s : State) (v : Word) : State :=
  ({ s with loupe := { s.loupe with lifeReq := some (bits v 1 0), lifeBurn := none } }).makeWipe 4

/-- The lifecycle fuse is burnt (R670). -/
def State.lifeDue (s : State) : Bool :=
  match s.loupe.lifeReq, s.loupe.lifeBurn with
  | some _, some t => s.running && s.elapsed t 96
  | _, _ => false

/-- The new state takes effect (R670, R671). -/
def State.lifecycle (s : State) : State :=
  match s.loupe.lifeReq with
  | none => s
  | some t =>
    let s := { s with loupe := { s.loupe with life := t, lifeReq := none, lifeBurn := none } }
    let s := (s.writeLifeRecord).setPair Reg.CHIP_TEST_A 0
    (s.setFlag Reg.LOUPE_LOUPE_STATUS 3).raise Log.LOUPE 4 (ofBytes t s.loupe.floor 0 0)

/-! ### Watchdog and halt (R672 to R674) -/

/-- The watchdog expires (R672, R674, R687). -/
def State.watchdog (s : State) : State :=
  let active := s.loupe.patch == 2
  let s := (s.dropPatch).countSat Reg.LOUPE_WDOG_COUNT
  let s := s.raise Log.LOUPE 3 (ofBytes (b2n active) 0 0 0)
  let s := { s with mode := { s.mode with toHard := true, toLoupe := false }
                    loupe := { s.loupe with mbx := none, handler := false, wedged := false } }
  let (s, _, lasting) := s.fixerCount 43
  if lasting then
    ({ s with loupe := { s.loupe with halted := true, starting := false, ready := false } }).blankSensors
  else s.startLoupe

/-! ### Views (R678) -/

/-- LOUPE_STATE. -/
def State.loupeState (s : State) : Word :=
  let l := s.loupe
  pack [(4, 1, b2n l.halted), (3, 1, b2n l.mbx.isSome), (1, 2, l.patch), (0, 1, b2n l.ready)]

/-- LIFE_STATE. -/
def State.lifeState (s : State) : Word := s.lifeRecord

end Sys2Proof.Machine
end

