-- ==== Sys2Proof/Machine/Strap.lean ====
section
/-! DEFINITION. Straps, identity and resets: the ladder read, the personality, strap-loaded defaults (R71 to R107), power-up,
HOLD and power loss (R531 to R538, R675, R707). -/

namespace Sys2Proof.Machine

/-! ### The ladder read (R73 to R80) -/

/-- The majority of 8 readings is "above"; a tie is below (R74). -/
def above (n : Nat) : Bool := decide (4 < n)

/-- The 8 readings of a comparator disagree (R74). -/
def disagrees (n : Nat) : Bool := n != 0 && decide (n < 8)

/-- A decoded resistor strap: code after fall-back, open, short, noisy. -/
structure StrapRead where
  code  : Nat
  open_ : Bool
  short : Bool
  noisy : Bool
  deriving DecidableEq, Repr

/-- Readings of a sample at which a comparator of threshold `t` µV reads "above": the pin at or above it (R74, R75). -/
def aboveAt (t : Nat) (v : List Nat) : Nat := (v.filter (fun x => decide (t ≤ x))).length

/-- The comparators' thresholds in µV: the range comparator, which is also the one for a short, the open comparator, which
reads "above" beyond 1.700 V and not at it, and the level thresholds at the geometric means of adjacent nominal voltages (R75). -/
def rangeThreshold : Nat := 173200
def openThreshold : Nat := 1700001
def levelThresholds : List Nat := [230700, 307700, 410800, 547300, 730400, 974000, 1298500]

/-- The threshold of FORE, VIO/2, in µV (R79). -/
def foreThreshold : Nat := 900000

/-- The pin voltage in µV of a strap of `ohms` at a read current in µA (R71, R73). -/
def strapVolts (microamps ohms : Nat) : Nat := microamps * ohms

/-- The level a sample resolves: the thresholds that read above (R75). -/
def ladderLevel (v : List Nat) : Nat := (levelThresholds.filter (fun t => above (aboveAt t v))).length

/-- Some comparator of a sample disagrees with itself (R74). -/
def ladderNoisy (v : List Nat) : Bool := (rangeThreshold :: openThreshold :: levelThresholds).any (fun t => disagrees (aboveAt t v))

/-- The decode of a resistor strap: at 20 µA, and at 200 µA where that sample lies below the range comparator's threshold. A tie
of the range comparator reads "not below" and "not short", a tie of the open comparator "not open" (R73 to R76). -/
def decodeStrap (s : StrapSample) : StrapRead :=
  if aboveAt rangeThreshold s.at20 < 4 then
    let short := decide (aboveAt rangeThreshold s.at200 < 4)
    { code := if short then 0 else ladderLevel s.at200, open_ := false, short := short
      noisy := ladderNoisy s.at20 || ladderNoisy s.at200 }
  else
    let open_ := above (aboveAt openThreshold s.at20)
    { code := if open_ then 0 else 8 + ladderLevel s.at20, open_ := open_, short := false, noisy := ladderNoisy s.at20 }

/-- FORE is high at a sample (R74, R79). -/
def foreHigh (v : List Nat) : Bool := above (aboveAt foreThreshold v)

/-- FORE: the bit, floating, contrary (R79). -/
def decodeFore (f : ForeSample) : Bool × Bool × Bool :=
  (foreHigh f.sink && foreHigh f.source, !foreHigh f.sink && foreHigh f.source, foreHigh f.sink && !foreHigh f.source)

/-- The default bias code of a BIASV code (R80, R105). -/
def biasDefault (code : Nat) : Nat := if code < 4 then 0 else if code < 8 then 1 else if code < 12 then 2 else 0

/-! ### Personalities (R81 to R85) -/

/-- A personality: drive channels, layout (0 single, 1 line, 2 ring, 3 planar), SAFELIGHT microphone, sense microphone (0x1F
none), slot base. -/
structure Role where
  drives : Nat
  layout : Nat
  safe   : Nat
  sense  : Nat
  base   : Nat
  deriving DecidableEq, Repr

/-- R81. -/
def roleOf : Nat → Role
  | 1 => ⟨0, 1, 0, 0x1F, 0⟩
  | 2 => ⟨0, 2, 0, 0x1F, 0⟩
  | 3 => ⟨0, 3, 5, 0x1F, 0⟩
  | 4 => ⟨2, 0, 0, 0, 0⟩
  | 5 => ⟨2, 1, 0, 15, 0⟩
  | 6 => ⟨2, 1, 0, 15, 8⟩
  | 7 => ⟨4, 1, 0, 15, 0⟩
  | 8 => ⟨4, 1, 0, 15, 16⟩
  | 9 => ⟨4, 2, 0, 8, 0⟩
  | 10 => ⟨4, 3, 5, 15, 32⟩
  | 11 => ⟨8, 1, 0, 15, 0⟩
  | 12 => ⟨8, 1, 0, 15, 8⟩
  | 13 => ⟨8, 2, 0, 8, 16⟩
  | 14 => ⟨8, 3, 5, 15, 24⟩
  | 15 => ⟨8, 0, 0, 0, 32⟩
  | _ => ⟨0, 0, 0, 0x1F, 0⟩

/-- The default slot of drive channel 0 (R83, R105). -/
def Role.slot0 (r : Role) (group : Nat) : Nat := if r.drives = 0 then 0 else group * 64 + r.base

/-- The code of the DRIVE field (R105). -/
def driveCode (d : Nat) : Nat := if d = 8 then 3 else if d = 4 then 2 else if d = 2 then 1 else 0

/-- The personality in force. -/
def State.role (s : State) : Role := roleOf s.ident.roleCode

/-- The single-microphone layout (R84). -/
def State.single (s : State) : Bool := s.role.layout == 0

/-- The strap-loaded values (R84 to R86, R273, R290, R346, R548, R611). -/
def strapDefaults (r : Role) (group bias : Nat) (fore : Bool) : List (Nat × Word) :=
  let mics : Word := if r.layout = 0 then 1 else 0xFFFF#32
  let v : Word := BitVec.ofNat 32 (bias * 0x5555)
  [(Reg.FRONT_MIC_EN, mics), (Reg.FRONT_BIAS_EN, mics), (Reg.FRONT_BIAS_V_LO, v), (Reg.FRONT_BIAS_V_HI, v),
   (Reg.FRONT_WATCH_CFG, pack [(5, 5, 8), (0, 4, r.safe)]), (Reg.DECIM_DECIM_CFG, pack [(8, 1, b2n fore)]),
   (Reg.PRINT_CH_EN, BitVec.ofNat 32 (2 ^ r.drives - 1)),
   (Reg.STAGE_VERIFY_CFG, pack [(8, 8, 0x18), (0, 8, if r.sense = 0x1F then 0 else 2 ^ r.drives - 1)]),
   (Reg.STAGE_SENSE_CFG, pack [(5, 7, 0x28), (0, 5, r.sense)])] ++
  (List.range 8).map (fun n => (Reg.PRINT_CH_CTRL_0 + 4 * n, BitVec.ofNat 32 (if n < r.drives then r.slot0 group + n else 0)))

/-! ### Resets -/

/-- The state with every block at rest; the link's wires, inputs and forwarding go on, and the fuses, pins and the tamper latch
stand (R115, R135, R533, R637). -/
def State.atRest (s : State) (power : Power) : State :=
  { clk := { power := power, stopped := s.clk.stopped, edgeA := s.clk.edgeA, edgeB := s.clk.edgeB, ticks := s.clk.ticks
             side := if s.sideA.lost && !s.sideB.lost then .b else .a }
    link := { forwarding := s.link.forwarding }
    sideA := { lost := s.sideA.lost, resourced := s.sideA.resourced }
    sideB := { lost := s.sideB.lost, resourced := s.sideB.resourced }
    outA := s.outA
    outB := s.outB
    front := { vbiasOk := s.front.vbiasOk }
    mode := { holdPin := s.mode.holdPin }
    loupe := { life := s.loupe.life, floor := s.loupe.floor }
    bank := { tamperPin := s.bank.tamperPin, tamperLatch := s.bank.tamperLatch
              tamperSeen := s.bank.sealPin, sealPin := s.bank.sealPin, sealFail := s.bank.sealFail }
    free := s.free
    pending := s.pending }

/-- The registers that HOLD leaves as they are: the log's counters, LATCH and the carriers (R612, R691). -/
def heldRegs : List Nat :=
  Reg.FIXER_LOG_TOTAL :: Reg.FIXER_LOG_DROPS :: Reg.STAGE_LATCH :: (List.range 8).map (fun n => Reg.STAGE_CARRIER_0 + 4 * n)

/-- The stages in HOLD: the codes and the result in force are retained (R612). -/
def Stage.inHold (g : Stage) : Stage :=
  { ch := g.ch.map (fun c => { code := c.code }), snap := g.snap, resMode := g.resMode, resP := g.resP, resFreq := g.resFreq
    group := g.group, resAt := g.resAt }

/-- A reset by HOLD (cause 1) or by the RESET register (cause 2): every register at its reset value but those HOLD leaves, the fixed
segments kept (R533, R534, R612, R691, R730). DEDUCED (log 83): R612 is the exception from R534. -/
def State.resetAll (s : State) (power : Power) (cause : Nat) : State :=
  let r := s.atRest power
  { r with
    regs := heldRegs.map (fun a => (a, s.reg a))
    par := s.par.filter (fun p => p.1 == Reg.STAGE_LATCH)
    stage := s.stage.inHold
    mem := Mem.keep s.mem (fun a => decide (a < 5 * 0x20000))
    mode := { r.mode with cause := cause }
    bank := { r.bank with errs := s.bank.errs.filter (fun e => decide (e.1 < 5 * 0x1000)) } }

/-- Power is lost: staged entries and Tank with it; the outputs go to high impedance (R134, R675, R694). -/
def State.powerLoss (s : State) : State :=
  let r := s.atRest .off
  { r with link := {}, sideA := {}, sideB := {}, outA := {}, outB := {}
           clk := { r.clk with side := .a }
           bank := { tamperPin := s.bank.tamperPin } }

/-- The power-on reset releases: forwarding, the strap read and the power-up wipe begin (R115, R532, R638). -/
def State.porRelease (s : State) : State :=
  let s := { s with clk := { s.clk with power := if s.mode.holdPin then .hold else .up }
                    link := { s.link with forwarding := true }
                    bank := { s.bank with tamperLatch := s.bank.tamperPin } }
  s.pendWipe 1

/-- HOLD rises: it acts without a clock (R533, R534). -/
def State.holdRise (s : State) : State :=
  let s := { s with mode := { s.mode with holdPin := true } }
  if s.clk.power = .up then s.resetAll .hold 1 else s

/-- HOLD falls: the strap read begins (R535). -/
def State.holdFall (s : State) : State :=
  let s := { s with mode := { s.mode with holdPin := false } }
  if s.clk.power = .hold then { s with clk := { s.clk with power := .up }, mode := { s.mode with cause := 1 } } else s

/-! ### The end of the strap read (R77, R86, R87, R99, R189, R244, R303, R342, R536, R685) -/

/-- The flags and the STRAP_FAULT entries of one resistor strap, `i` being 0 ADDR, 1 ROLE, 2 BIASV. -/
def strapFaults (i : Nat) (r : StrapRead) : Half × List (Nat × Nat) :=
  let rsvd := i == 2 && decide (12 ≤ r.code)
  ((if r.open_ then oneHalf (2 * i) else 0) ||| (if r.short then oneHalf (2 * i + 1) else 0) ||| (if r.noisy then oneHalf 8 else 0)
      ||| (if rsvd then oneHalf 6 else 0),
   (if r.open_ then [(i, 0)] else []) ++ (if r.short then [(i, 1)] else []) ++ (if r.noisy then [(i, 3)] else [])
      ++ (if rsvd then [(i, 2)] else []))

/-- The flags and entries of FORE. -/
def foreFaults (f : ForeSample) : Half × List (Nat × Nat) :=
  let (_, float, contrary) := decodeFore f
  let noisy := disagrees (aboveAt foreThreshold f.sink) || disagrees (aboveAt foreThreshold f.source)
  ((if noisy then oneHalf 8 else 0) ||| (if float then oneHalf 7 else 0) ||| (if contrary then oneHalf 13 else 0),
   (if noisy then [(3, 3)] else []) ++ (if float then [(3, 4)] else []) ++ (if contrary then [(3, 5)] else []))

/-- The identity and the strap-loaded values of decoded codes; rings, pairs and histories are emptied. -/
def State.strapLoad (s : State) (addr role bias : Nat) (fore : Bool) : State :=
  { s with
    ident := { done := true, addrCode := addr, roleCode := role, biasCode := bias, fore := fore, group := addr }
    strapRegs := strapDefaults (roleOf role) addr (biasDefault bias) fore
    queue := {}
    port := {}
    fixer := { s.fixer with hist := List.replicate 44 {} } }

/-- The blocks' parts of a strap read. -/
def State.strapBlocks (s : State) : State :=
  let s := (((((s.strapAper s.single).strapMx).strapDev).strapSheet).strapPrint).strapStage
  let s := { s with
    front := { s.front with trim := [], watchMic := s.role.safe }
    decim := { s.decim with coef := [], coefPar := [] }
    loupe := { s.loupe with least := List.replicate 9 none, greatest := List.replicate 9 none } }
  ((s.strapLatent).updateBiases).updateWatch

/-- The end of a strap read after HOLD or a reset: RESET_DONE, and the RESET entry that waits for the first header (R536). -/
def State.noteReset (s : State) : State :=
  if s.mode.cause = 0 then s
  else { s.setFlag Reg.CHIP_MODE_STATUS 4 with mode := { s.mode with resetLog := true } }

/-- The straps are decoded and every strap-derived default is loaded (R86). -/
def State.strapDone (s : State) (addr role biasv : StrapSample) (fore : ForeSample) : State :=
  let a := decodeStrap addr
  let r := decodeStrap role
  let b := decodeStrap biasv
  let (fa, ea) := strapFaults 0 a
  let (fr, er) := strapFaults 1 r
  let (fb, eb) := strapFaults 2 b
  let (ff, ef) := foreFaults fore
  let s := (s.strapLoad a.code r.code b.code (decodeFore fore).1).setFlags Reg.CHIP_ID_STATUS (fa ||| fr ||| fb ||| ff)
  let s := (ea ++ er ++ eb ++ ef).foldl (fun s e => s.raise Log.IDENT 1 (ofBytes e.1 e.2 0 0)) s
  s.strapBlocks.noteReset

/-! ### Address override (R96 to R98) -/

/-- What an accepted override makes of the identity (R96). DESIGN CHOICE (log 78): OVERRIDDEN stays 1 until the next strap read, also
after a wave has moved the position. -/
def Ident.overrideBy (i : Ident) (v : Word) : Ident :=
  { i with group := if bitOf v 13 then bits v 11 8 else i.group
           position := if bitOf v 14 then bits v 7 0 else i.position
           overridden := i.overridden || bitOf v 13 || bitOf v 14
           locked := bitOf v 12 }

/-- The B write of ADDR_OVR: rejected where it names POSITION 0xFF, else accepted, with its flag and entry; it then awaits the next
frame start, after any accepted before it (R96 to R98, R104). DEDUCED (log 76): the entry has the address and lock that the overrides
accepted so far make of the present ones. -/
def State.override (s : State) (v : Word) : State :=
  if bitOf v 14 && bits v 7 0 == 0xFF then s.setFlag Reg.CHIP_ID_STATUS 11
  else
    let s := { s with ident := { s.ident with ovrPend := s.ident.ovrPend ++ [v] } }
    let i := s.ident.ovrPend.foldl Ident.overrideBy s.ident
    (s.setFlag Reg.CHIP_ID_STATUS 12).raise Log.IDENT 3 (ofBytes i.position i.group (b2n i.locked) 0)

/-- One accepted override applies (R96, R243). -/
def State.overrideWith (s : State) (v : Word) : State :=
  ({ s with ident := s.ident.overrideBy v }).setPair Reg.CHIP_ADDR_OVR_A v

/-- The overrides accepted since the last frame start apply, in the order of their writes (R96). DEDUCED (log 77): every accepted
override loads what it names and has its entry; the later prevails where both name the same. -/
def State.applyOverride (s : State) : State :=
  s.ident.ovrPend.foldl State.overrideWith { s with ident := { s.ident with ovrPend := [] } }

/-! ### Views (R103, R105, R106) -/

/-- STRAP_CODES. -/
def State.strapCodes (s : State) : Word :=
  let i := s.ident
  pack [(16, 1, b2n i.done), (12, 1, b2n i.fore), (8, 4, i.biasCode), (4, 4, i.roleCode), (0, 4, i.addrCode)]

/-- ROLE_DEFAULTS. -/
def State.roleDefaults (s : State) : Word :=
  if !s.ident.done then 0
  else
    let r := s.role
    pack [(21, 10, r.slot0 s.ident.addrCode), (19, 2, biasDefault s.ident.biasCode), (13, 6, r.base), (8, 5, r.sense), (4, 4, r.safe),
      (2, 2, r.layout), (0, 2, driveCode r.drives)]

/-- UNIT_ADDR. -/
def State.unitAddrReg (s : State) : Word :=
  pack [(13, 1, b2n s.ident.overridden), (12, 1, b2n s.ident.locked), (8, 4, s.ident.group), (0, 8, s.ident.position)]

end Sys2Proof.Machine
end

