-- ==== Sys2Proof/Machine/Views.lean ====
section
/-! DEFINITION. What a read of each register returns: its stored value, or the view of the state that the register shows. -/

namespace Sys2Proof.Machine

/-- CLK_STATE (R69). -/
def State.clkState (s : State) : Word :=
  let c := s.clk
  pack [(14, 2, c.rcTarget), (6, 8, c.rcCount), (4, 2, b2n c.daylight), (3, 1, b2n c.fault), (2, 1, b2n c.edgeB), (1, 1, b2n c.edgeA),
    (0, 1, sideNum c.side)]

/-- The mode request in force; 3 acts as 0 (R519). -/
def State.request (s : State) : Nat := let r := s.fld Reg.CHIP_MODE_REQ_A 1 0; if r = 3 then 0 else r

/-- MODE_STATE (R544). -/
def State.modeState (s : State) : Word :=
  let phase := if s.link.training.isSome then 2 else if s.clk.rcTarget != 0 then 1 else 0
  pack [(8, 2, s.mode.cause), (6, 1, b2n s.fixer.byLoupe), (5, 1, b2n (s.mode.good.all id)), (4, 1, b2n s.clk.daylight), (2, 2, phase),
    (0, 2, s.request)]

/-- LINK_STATE (R146): PHASE is 3 in a proof loop, 1 in training, 2 with frame lock on a side, else 0. DESIGN CHOICE (log 106): a
loop in training reads 3, and lock on one side alone reads 2; R146 does not say. -/
def State.linkState (s : State) : Word :=
  let l := s.link
  let phase := if l.loop.isSome then 3 else if l.training.isSome then 1 else if s.sideA.lock || s.sideB.lock then 2 else 0
  pack [(10, 2, phase), (6, 4, s.invBits), (5, 1, b2n (l.wrap == some .b)), (4, 1, b2n l.wrap.isSome), (3, 1, b2n s.sideB.down),
    (2, 1, b2n s.sideA.down), (1, 1, b2n s.sideB.lock), (0, 1, b2n s.sideA.lock)]

/-- COPY_SKEW and LANE_DELAY (R148). -/
def State.copySkew (s : State) : Word := pack [(31, 1, b2n s.link.skewValid), (0, 24, s.link.skew.toNat)]
def State.laneDelay (s : State) : Word := pack [(24, 6, s.delay 3), (16, 6, s.delay 2), (8, 6, s.delay 1), (0, 6, s.delay 0)]

/-- SEL_STATE (R186). -/
def State.selState (s : State) : Word :=
  let f := s.frame
  pack [(6, 1, b2n f.otherEarly), (4, 2, f.hdrSrc), (2, 2, f.regSrc), (0, 2, if s.clk.daylight then f.showSrc else 0)]

/-- QUEUE_LEVELS and TAG_STATE (R225). -/
def State.queueLevels (s : State) : Word := pack [(16, 7, s.queue.events.length), (8, 6, s.replyLevel), (0, 6, s.cmdLevel)]
def tagCode : TagState → Nat
  | .idle => 0
  | .queued => 1
  | .executing => 2
  | .done => 3
def State.tagState (s : State) : Word := pack ((List.range 16).map (fun t => (2 * t, 2, tagCode (s.tag t).state)))

/-- FRONT_STATE (R312). -/
def State.frontState (s : State) : Word :=
  pack [(23, 1, b2n s.watchValid), (21, 2, s.front.pdmPhase), (20, 1, b2n s.front.watchRun), (16, 4, s.front.watchMic),
    (0, 16, maskOf 16 s.chanValid)]

/-- DECIM_STATE (R356). -/
def State.decimState (s : State) : Word :=
  let d := s.decim
  pack [(8, 8, s.xfadeLeft), (6, 1, b2n (d.swap == some 1)), (5, 1, b2n d.swap.isSome), (4, 1, d.bank), (3, 1, b2n d.inUse),
    (2, 1, b2n d.trans.isSome), (1, 1, b2n d.lpStopped), (0, 1, b2n d.hqStopped)]

/-- LASTING_LO and LASTING_HI (R703). -/
def State.lastingWord (s : State) (base n : Nat) : Word := BitVec.ofNat 32 (maskOf n (fun i => (s.history (base + i)).lasting))

/-- PEEK (R703). -/
def State.peek (s : State) : Word :=
  let i := s.fld Reg.FIXER_PEEK_SEL 5 0
  if 44 ≤ i then 0
  else
    let h := s.history i
    pack [(16, 16, h.occur), (8, 1, b2n h.lasting), (0, 4, (Fixer.inWindow h.epochs s.clk.epoch (s.fixerW i)).length)]

/-- The H registers of pages 0 to 3 that show composed state. -/
def State.viewLow (s : State) (a : Nat) : Option Word :=
  if a = Reg.CHIP_STRAP_CODES then some s.strapCodes
  else if a = Reg.CHIP_ROLE_DEFAULTS then some s.roleDefaults
  else if a = Reg.CHIP_UNIT_ADDR then some s.unitAddrReg
  else if a = Reg.CHIP_CLK_STATE then some s.clkState
  else if a = Reg.CHIP_EPOCH_LO then some (s.clk.frameEpoch.truncate 32)
  else if a = Reg.CHIP_MODE_STATE then some s.modeState
  else if a = Reg.LINK_LINK_STATE then some s.linkState
  else if a = Reg.LINK_COPY_SKEW then some s.copySkew
  else if a = Reg.LINK_LANE_DELAY then some s.laneDelay
  else if a = Reg.FRAME_SEL_STATE then some s.selState
  else if a = Reg.QUEUE_QUEUE_LEVELS then some s.queueLevels
  else if a = Reg.QUEUE_TAG_STATE then some s.tagState
  else none

/-- The H registers of pages 4 to 7. -/
def State.viewArray (s : State) (a : Nat) : Option Word :=
  if a = Reg.FRONT_FRONT_STATE then some s.frontState
  else if a = Reg.DECIM_DECIM_STATE then some s.decimState
  else if a = Reg.DECIM_GROUP_DELAY then some s.groupDelay
  else if a = Reg.APER_APER_STATE then some s.aperState
  else if Reg.APER_READ_TAP_0 ≤ a ∧ a < Reg.APER_READ_TAP_0 + 64 then some (s.readTap ((a - Reg.APER_READ_TAP_0) / 4))
  else if a = Reg.APER_READ_CFG then some s.readCfg
  else if a = Reg.MX_MX_STATE then some s.mxState
  else if a = Reg.MX_ACTIVE_SLOT then some s.activeSlot
  else if a = Reg.MX_ACTIVE_GAIN then some s.activeGain
  else none

/-- The H registers of pages 8 to 10. -/
def State.viewWatch (s : State) (a : Nat) : Option Word :=
  if a = Reg.DEV_DEV_STATE then some s.devState
  else if a = Reg.DEV_ALARM_STATE then some s.alarmState
  else if Reg.DEV_FLOOR_READ_0 ≤ a ∧ a < Reg.DEV_FLOOR_READ_0 + 16 then some (s.floorRead ((a - Reg.DEV_FLOOR_READ_0) / 4))
  else if a = Reg.DEV_PROF_READ then some s.profRead
  else if a = Reg.SHEET_SHEET_STATE then some s.sheetState
  else if a = Reg.SHEET_LAST_MATCH then some s.sheet.lastMatch
  else if a = Reg.SHEET_LAST_START then some s.sheet.lastStart
  else if a = Reg.SHEET_LAST_END then some s.sheet.lastEnd
  else if Reg.SHEET_EN_0 ≤ a ∧ a < Reg.SHEET_EN_0 + 32 then some (s.sheetEn ((a - Reg.SHEET_EN_0) / 4))
  else if a = Reg.SHEET_SCORE_READ then some (BitVec.ofNat 32 s.sheet.best)
  else if Reg.SHEET_FEAT_READ_0 ≤ a ∧ a < Reg.SHEET_FEAT_READ_0 + 24 then some (featWord s.sheet.latched.2 ((a - Reg.SHEET_FEAT_READ_0) / 4))
  else if a = Reg.SHEET_FEAT_EPOCH then some s.sheet.latched.1
  else if a = Reg.LATENT_LAT_STATE then some s.latState
  else if a = Reg.LATENT_W_TOTAL then some s.latent.w.total
  else if a = Reg.LATENT_D_HEAD then some (if s.clk.daylight then BitVec.ofNat 32 s.latent.d.head else 0)
  else if a = Reg.LATENT_D_TOTAL then some s.latent.d.total
  else if a = Reg.LATENT_D_SETS then some (BitVec.ofNat 32 s.latSets)
  else if a = Reg.LATENT_LAT_PTRS then some s.latPtrs
  else none

/-- The H registers of pages 11 to 15. -/
def State.viewHigh (s : State) (a : Nat) : Option Word :=
  if a = Reg.PRINT_CH_STATE then some s.chState
  else if a = Reg.PRINT_MUTE_CAUSE then some s.muteCause
  else if a = Reg.PRINT_PROOF_RESULT then some (BitVec.ofNat 32 s.print.result.toNat)
  else if a = Reg.STAGE_STEER_RESULT then some s.steerResult
  else if a = Reg.STAGE_STEER_CODE_LO then some (s.steerCodes 0)
  else if a = Reg.STAGE_STEER_CODE_HI then some (s.steerCodes 4)
  else if Reg.STAGE_SWS_FREQ_0 ≤ a ∧ a < Reg.STAGE_SWS_FREQ_0 + 32 then some (s.swsFreqReg ((a - Reg.STAGE_SWS_FREQ_0) / 4))
  else if a = Reg.STAGE_FAULT_CAUSE then some s.faultCause
  else if Reg.STAGE_VERIFY_READ_0 ≤ a ∧ a < Reg.STAGE_VERIFY_READ_0 + 32 then some (s.verifyRead ((a - Reg.STAGE_VERIFY_READ_0) / 4))
  else if a = Reg.TANK_FOG_STATE then some s.fogState
  else if a = Reg.TANK_SECURE_STATE then some s.secureState
  else if a = Reg.LOUPE_LOUPE_STATE then some s.loupeState
  else if a = Reg.LOUPE_LIFE_STATE then some s.lifeState
  else if a = Reg.LOUPE_DIE_ID_LO then some (Config.dieId.truncate 32)
  else if a = Reg.LOUPE_DIE_ID_HI then some (Config.dieId.extractLsb' 32 32)
  else if a = Reg.LOUPE_FRAME_LEN then some s.frameLenReg
  else if a = Reg.FIXER_LASTING_LO then some (s.lastingWord 0 32)
  else if a = Reg.FIXER_LASTING_HI then some (s.lastingWord 32 12)
  else if a = Reg.FIXER_PEEK then some s.peek
  else none

/-- The composed view of a register, if it is one. -/
def State.view (s : State) (a : Nat) : Option Word :=
  let p := Reg.pageOf a
  if p ≤ 3 then s.viewLow a else if p ≤ 7 then s.viewArray a else if p ≤ 10 then s.viewWatch a else s.viewHigh a

/-- What a register reads as (R229, R234, R235, R243, R245); IX_DATA apart. A B word reads as the complement of its A word. -/
def State.readReg (s : State) (a : Nat) : Word :=
  match Reg.kindOf a with
  | none => 0
  | some .g => if Reg.isPairB a then ~~~s.reg (Reg.pairA a) else s.reg a
  | some .h => (s.view a).getD (s.reg a)
  | some _ => s.reg a

end Sys2Proof.Machine
end

