-- ==== Sys2Proof/Machine/Port.lean ====
section
/-! DEFINITION. The register port: accesses of host commands and of the Loupe, guarded pairs, the indirect window, and what a
write of each register does (R203, R227 to R264, R732, R733). -/

namespace Sys2Proof.Machine

/-! ### Status codes of an access (R193) -/

abbrev Status.ok : Nat := 0
abbrev Status.guardFault : Nat := 4
abbrev Status.access : Nat := 5
abbrev Status.badOp : Nat := 6

/-- Pages whose registers do not answer in SAFELIGHT (R515). -/
def pageUnpowered (p : Nat) : Bool := (decide (4 ≤ p) && decide (p ≤ 7)) || (decide (11 ≤ p) && decide (p ≤ 14))

/-- The page of an address is unpowered now (R203, R229). -/
def State.pageOff (s : State) (a : Nat) : Bool := !s.clk.daylight && pageUnpowered (Reg.pageOf a)

/-! ### Guarded pairs (R240 to R242) -/

def State.armed (s : State) : Src → Option Armed
  | .host => s.port.armHost
  | .loupe => s.port.armLoupe

def State.setArmed (s : State) (src : Src) (o : Option Armed) : State :=
  { s with port := match src with
    | .host => { s.port with armHost := o }
    | .loupe => { s.port with armLoupe := o } }

def otherSrc : Src → Src
  | .host => .loupe
  | .loupe => .host

/-- 0 for the host, 1 for the Loupe (R265, R269). -/
def srcNum : Src → Nat
  | .host => 0
  | .loupe => 1

/-- A guard fault at the register at `a` (R241, R265, R269). -/
def State.guardFault (s : State) (src : Src) (reason a : Nat) : State :=
  let w := a / 4
  let old := s.reg Reg.CHIP_REG_FAULT
  let s := s.setReg Reg.CHIP_REG_FAULT (pack [(31, 1, srcNum src), (28, 3, reason), (16, 12, w), (0, 12, bits old 11 0)])
  (s.setFlag Reg.CHIP_REG_STATUS 0).raise Log.REG 1 (ofBytes (w % 256) (w / 256) reason (srcNum src))

/-- The pair a source holds is broken (R240, R241). -/
def State.breakPair (s : State) (src : Src) : State :=
  match s.armed src with
  | some arm => (s.setArmed src none).guardFault src 2 arm.addr
  | none => s

/-- An access breaks the pair its source holds, unless it is that pair's B write; a write also breaks the pair that the other
source holds on its page (R240, R241). A Loupe read breaks nothing. DESIGN CHOICE (log 128): where one write makes two guard faults, REG_FAULT
holds the last of these: its own source's break, the other source's, its own rejection; R269 does not order them. -/
def State.touch (s : State) (src : Src) (a : Nat) (write burst : Bool) : State :=
  let s := match s.armed src with
    | some arm =>
      if (write || src == Src.host) && !(write && !burst && a == arm.addr + 4) then s.breakPair src else s
    | none => s
  match s.armed (otherSrc src) with
  | some arm =>
    if write && (Reg.kindOf a).isSome && Reg.pageOf arm.addr == Reg.pageOf a then
      (s.setArmed (otherSrc src) none).guardFault (otherSrc src) 3 arm.addr
    else s
  | none => s

/-- The assigned bits of a guarded register; the unit ignores the reserved ones (R232). -/
def guardMask (a : Nat) : Word :=
  if a = Reg.CHIP_ADDR_OVR_A then 0x7FFF#32
  else if a = Reg.CHIP_EPOCH_HI_SET_A then 0xFFFF#32
  else if a = Reg.CHIP_MODE_REQ_A then 0x3#32
  else if a = Reg.CHIP_RESET_A then 0x1#32
  else if a = Reg.LINK_PROOF_CTL_A then 0x37#32
  else if a = Reg.FRONT_PROOF_CTL_A then 0xFFFF7#32
  else if a = Reg.PRINT_MASTER_A then 0x1#32
  else if a = Reg.PRINT_PROOF_CTL_A then 0xFFF1F#32
  else if a = Reg.TANK_WIPE_A then 0x1#32
  else if a = Reg.LOUPE_PATCH_ACT_A then 0xF#32
  else if a = Reg.LOUPE_LIFE_A then 0x3#32
  else 0xFFFFFFFF#32

/-- Why an accepted pair completes with ACCESS all the same (R306, R522, R537, R564, R573, R667, R670, R671). -/
def State.guardRefused (s : State) (src : Src) (a : Nat) (v : Word) : Bool :=
  if a = Reg.CHIP_MODE_REQ_A then s.clk.rcTarget != 0 || s.link.training.isSome
  else if a = Reg.CHIP_RESET_A then bitOf v 0 && (s.clk.daylight || s.clk.rcTarget != 0)
  else if a = Reg.CHIP_TEST_A then v != 0 && s.loupe.life == 2
  else if a = Reg.FRONT_PROOF_CTL_A then s.frontLoopRefused v
  else if a = Reg.PRINT_MASTER_A then s.toSafe
  else if a = Reg.PRINT_PROOF_CTL_A then s.proofRefused v
  else if a = Reg.LOUPE_PATCH_ACT_A then s.patchRefused v
  else if a = Reg.LOUPE_LIFE_A then s.lifeRefused v (src == Src.loupe)
  else false

/-- What the judging of an accepted pair reads of Tank: of a request for RETURN, the token in the patch area (R645, R670). -/
def State.guardReads (s : State) (src : Src) (a : Nat) (v : Word) : State :=
  if a = Reg.LOUPE_LIFE_A ∧ src = .host ∧ bits v 1 0 = 3 then s.fogSpan Tank.patch 16 else s

/-- A link loop ends: epochs that waited for the copy of the side whose lock falls are judged (R141, R175). -/
def State.endLoopAt (s : State) : State :=
  match s.link.loop with
  | some (n, y, _) => if n = 3 then s.endLoop else s.endLoop.judgeLost y
  | none => s.endLoop

/-- Whether an accepted value comes into force only at a later frame start, until when the pair reads as before (R243): a new
EPOCH_HI (R29), an address override (R96), a reset request (R537), and a proof loop (R137, R305, R572). -/
def guardLater (a : Nat) (v : Word) : Bool :=
  a == Reg.CHIP_EPOCH_HI_SET_A || a == Reg.CHIP_ADDR_OVR_A || a == Reg.CHIP_RESET_A || a == Reg.FRONT_PROOF_CTL_A
    || a == Reg.PRINT_PROOF_CTL_A || (a == Reg.LINK_PROOF_CTL_A && bits v 1 0 != 0)

/-- What an accepted guarded write does beside storing its value. -/
def State.guardEffect (s : State) (src : Src) (a : Nat) (v : Word) : State :=
  if a = Reg.CHIP_EPOCH_HI_SET_A then { s with clk := { s.clk with epochHiPend := some (v.truncate 16) } }
  else if a = Reg.CHIP_ADDR_OVR_A then s.override v
  else if a = Reg.CHIP_RESET_A then (if bitOf v 0 then { s with mode := { s.mode with resetPend := true } } else s)
  else if a = Reg.LINK_PROOF_CTL_A then
    (if bits v 1 0 = 0 then s.endLoopAt else { s with link := { s.link with loopPend := some v } })
  else if a = Reg.FRONT_PROOF_CTL_A then { s with front := { s.front with loopPend := some v } }
  else if a = Reg.PRINT_PROOF_CTL_A then { s with print := { s.print with loopPend := some v } }
  else if a = Reg.PRINT_MASTER_A then (if bitOf v 0 then s.masterOn else s)
  else if a = Reg.TANK_WIPE_A then (if bitOf v 0 then s.makeWipe (match src with | .host => 2 | .loupe => 3) else s)
  else if a = Reg.LOUPE_PATCH_ACT_A then s.patchWrite v
  else if a = Reg.LOUPE_LIFE_A then s.requestLife v
  else s

/-- The value of an accepted pair is stored where it is in force at once, and takes effect (R240, R243, R248). -/
def State.guardCommit (s : State) (src : Src) (a : Nat) (v : Word) : State × Nat :=
  let s := s.guardReads src a v
  if s.guardRefused src a v then (s, Status.access)
  else
    let s := if guardLater a v then s else s.setPair a v
    (s.guardEffect src a v, Status.ok)

/-- A write to a guarded register; `burst` marks a burst word that is not of the pair form (R240 to R242). -/
def State.writeG (s : State) (src : Src) (a : Nat) (v : Word) (burst : Bool) : State × Nat :=
  if burst then (s.guardFault src 4 a, Status.guardFault)
  else if Reg.isPairA a then (s.setArmed src (some ⟨a, v⟩), Status.ok)
  else match s.armed src with
  | none => (s.guardFault src 0 a, Status.guardFault)
  | some arm =>
    let s := s.setArmed src none
    if v = ~~~arm.value then s.guardCommit src arm.addr (arm.value &&& guardMask arm.addr)
    else (s.guardFault src 1 a, Status.guardFault)

/-! ### M registers -/

/-- Self-clearing command bits (R253). -/
def selfClear (a : Nat) : Word :=
  if a = Reg.DECIM_SWAP_CTL then 0x1#32
  else if a = Reg.APER_COMMIT then 0x8#32
  else if a = Reg.MX_SWITCH_CTL then 0x3#32
  else if a = Reg.DEV_SEED_CTL then 0x200#32
  else if a = Reg.DEV_PROF_COMMIT then 0x8#32
  else if a = Reg.SHEET_TPL_CTL then 0x200#32
  else if a = Reg.LATENT_LAT_CTL then 0xC#32
  else if a = Reg.STAGE_STEER_CTL then 0x1#32
  else if a = Reg.LOUPE_MBX_CMD then 0x100#32
  else if a = Reg.FIXER_CLEAR then 0x100#32
  else 0

/-- The drive channel that a CH_CTRL address configures. -/
def ctrlChannel (a : Nat) : Option Nat :=
  if Reg.PRINT_CH_CTRL_0 ≤ a ∧ a < Reg.PRINT_CH_CTRL_0 + 32 then some ((a - Reg.PRINT_CH_CTRL_0) / 4) else none

/-- Whether a write of an M register completes with ACCESS (R299, R346, R367, R492, R549, R663, R674). -/
def State.maskedRefused (s : State) (a : Nat) (v new : Word) : Bool :=
  if a = Reg.FRONT_PDM_CFG then s.pdmWriteRefused v
  else if a = Reg.DECIM_DECIM_CFG then s.decimCfgRefused v
  else if a = Reg.APER_SCALE then s.scaleRefused v
  else if a = Reg.LATENT_LAT_CFG then s.latCfgRefused v
  else if a = Reg.LOUPE_MBX_CMD then bitOf new 8 && s.mbxRefused
  else match ctrlChannel a with
  | some n => bitOf new 10 != s.flag a 10 && (s.drive n).st != .off
  | none => false

/-- A write of BIAS_EN: every bit that the host writes 1 releases its bias's lasting short, one that the hardware has forced in its cycle
stays 0, and the biases follow (R253, R274, R280, R687). -/
def State.biasWrite (s : State) (host : Bool) (v : Word) : State :=
  let s := if host then (idxWhere 16 (fun k => bitOf v k && bitOf v (16 + k))).foldl State.releaseBias s else s
  let forced := idxWhere 16 s.biasForced
  (forced.foldl (fun s k => s.setFld Reg.FRONT_BIAS_EN k 1 0) s).updateBiases

/-- What a write of an M register of pages 4 to 7 does beside storing its value; `new` holds its command bits. -/
def State.arrayEffect (s : State) (src : Src) (a : Nat) (v new : Word) : State :=
  if a = Reg.FRONT_BIAS_EN then s.biasWrite (src == .host) v
  else if a = Reg.FRONT_BIAS_V_LO ∨ a = Reg.FRONT_BIAS_V_HI then s.updateBiases
  else if a = Reg.FRONT_WATCH_CFG then s.updateWatch
  else if a = Reg.DECIM_SWAP_CTL then (if bitOf new 0 then s.requestSwap (bits new 1 1) else s)
  else if a = Reg.APER_COMMIT then (if bitOf new 3 then s.commitBeam (bits new 2 0) else s)
  else if a = Reg.MX_SWITCH_CTL then (if bitOf new 1 then s.mxCancel else if bitOf new 0 then s.mxArm else s)
  else s

/-- The same for pages 8 to 10; `old` is the value before. -/
def State.watchEffect (s : State) (a : Nat) (old new : Word) : State :=
  if a = Reg.DEV_SEED_CTL then (if bitOf new 9 then s.loadSeed (bits new 8 0) else s)
  else if a = Reg.DEV_PROF_COMMIT then (if bitOf new 3 then s.commitProfile (bits new 2 0) else s)
  else if a = Reg.SHEET_TPL_CTL then
    (if !bitOf new 9 then s else if bitOf new 8 then s.requestEnable (bits new 7 0) else s.requestDisable (bits new 7 0))
  else if a = Reg.SHEET_SCORE_SEL then s.resetScore
  else if a = Reg.LATENT_LAT_CTL then
    let s := if bitOf new 2 then s.release true false else s
    let s := if bitOf new 3 then s.release false false else s
    if !bitOf old 1 && bitOf new 1 then s.startRunD else s
  else s

/-- The same for pages 11 to 15. -/
def State.highEffect (s : State) (src : Src) (a : Nat) (old v new : Word) : State :=
  if a = Reg.STAGE_STEER_CTL then (if bitOf new 0 then s.startSearch (bits new 3 2) else s)
  else if a = Reg.STAGE_LATCH then (s.setReg a old).writeLatch (src == .host) v
  else if a = Reg.STAGE_SENSE_CFG then
    (if bits old 4 0 = bits new 4 0 then s else (List.range 8).foldl State.verifyRestart s)
  else if a = Reg.TANK_TANK_CFG then (if bitOf new 0 then s else s.fogEnd)
  else if a = Reg.LOUPE_MBX_CMD then (if bitOf new 8 then s.mbxPass (bits new 7 0) else s)
  else if a = Reg.FIXER_CLEAR then (if bitOf new 8 && decide (bits new 5 0 < 44) then s.fixerRelease (bits new 5 0) else s)
  else match ctrlChannel a with
  | some n => if bitOf old 10 = bitOf new 10 then s else s.verifyRestart n
  | none => s

/-- A write to an M register (R233, R246, R253). -/
def State.writeM (s : State) (src : Src) (a : Nat) (v : Word) : State × Nat :=
  if bits v 31 16 = 0 then (s, Status.ok)
  else
    let old := s.reg a
    let new := maskedWrite old v
    if s.maskedRefused a v new then (s, Status.access)
    else
      let s := s.setReg a (new &&& ~~~selfClear a)
      let p := Reg.pageOf a
      let s := if p ≤ 3 then s else if p ≤ 7 then s.arrayEffect src a v new else if p ≤ 10 then s.watchEffect a old new
        else s.highEffect src a old v new
      (s, Status.ok)

/-! ### The indirect window (R255 to R258, R733) -/

abbrev Ix.tank : Nat := 0
abbrev Ix.trim : Nat := 1
abbrev Ix.coef : Nat := 2
abbrev Ix.templates : Nat := 3
abbrev Ix.latent : Nat := 4

def State.ixSpace (s : State) : Nat := s.fld Reg.CHIP_IX_ADDR 31 28
def State.ixWord (s : State) : Nat := s.fld Reg.CHIP_IX_ADDR 23 0

/-- Whether the last access through the window was refused (R267). -/
def State.noteIx (s : State) (refused : Bool) : State := { s with port := { s.port with ixRefused := refused } }

/-- An access reaches its word, and WADDR advances (R257). -/
def State.ixAdvance (s : State) : State := (s.setFld Reg.CHIP_IX_ADDR 0 24 (s.ixWord + 1)).noteIx false

/-- An access through the window is refused: DATA reads as 0 after it (R257, R267). -/
def State.ixRefuse (s : State) : State := (s.setFlag Reg.CHIP_REG_STATUS 4).noteIx true

/-- A template word is out of reach: beyond the store, or in SAFELIGHT a slot above 31 (R463, R481). -/
def State.tplOut (s : State) (w : Nat) : Bool := decide (0x40000 ≤ w) || (!s.clk.daylight && decide (0x8000 ≤ w))

/-- The word that the window reads at `w` of a space, and what reading it does; none where the read is refused (R733). -/
def State.ixFetch (s : State) (space w : Nat) : Option (Word × State) :=
  if space = Ix.tank then (if s.space0Refused w then none else some (s.windowRead w))
  else if space = Ix.trim then (if 256 ≤ w then none else some (s.trimRead w, s))
  else if space = Ix.coef then (if 512 ≤ w then none else some (s.coefRead w, s))
  else if space = Ix.templates then (if s.tplOut w then none else some (s.windowRead (Tank.templates + w)))
  else if space = Ix.latent then s.latentRead w
  else none

/-- The state after a write of `v` at `w` of a space; none where it is refused (R733). -/
def State.ixStore (s : State) (space w : Nat) (v : Word) : Option State :=
  if space = Ix.tank then (if s.space0Writable w then some (s.setTank w v) else none)
  else if space = Ix.trim then (if decide (256 ≤ w) || s.trimLocked w then none else some (s.trimWrite w v))
  else if space = Ix.coef then
    (if decide (512 ≤ w) || s.coefRefused w then none else some (s.coefWrite w v))
  else if space = Ix.templates then
    (if s.tplOut w || s.tplLocked (w / 1024) then none else some (s.setTank (Tank.templates + w) v))
  else none

/-- A 32-bit read of IX_DATA: the word, or 0 where it is refused (R257, R267). -/
def State.ixRead (s : State) : State × Nat × Word :=
  match s.ixFetch s.ixSpace s.ixWord with
  | some (v, s') => (s'.ixAdvance, Status.ok, v)
  | none => (s.ixRefuse, Status.access, 0)

/-- A 32-bit write of IX_DATA (R257). -/
def State.ixWrite (s : State) (v : Word) : State × Nat :=
  match s.ixStore s.ixSpace s.ixWord v with
  | some s' => (s'.ixAdvance, Status.ok)
  | none => (s.ixRefuse, Status.access)

/-! ### F registers -/

/-- Whether a write of an F register completes with ACCESS (R256, R411, R492, R517). -/
def State.plainRefused (s : State) (a : Nat) (v : Word) : Bool :=
  if a = Reg.CHIP_IX_ADDR then decide (4 < bits v 31 28) || bits v 27 24 != 0
  else if a = Reg.CHIP_RETAIN_LO ∨ a = Reg.CHIP_RETAIN_HI then !s.clk.daylight || s.clk.rcTarget != 0
  else if a = Reg.LATENT_LAT_SRC then s.latSrcRefused v
  else if Reg.MX_PLAN_SLOT_0 ≤ a ∧ a < Reg.MX_PLAN_SLOT_0 + 128 then s.mx.armed.isSome
  else false

/-- A write to an F register (R245, R546, R610). DESIGN CHOICE (log 127): an accepted write of IX_ADDR ends IX_DATA's reading as 0 after a
refused access, as the next accepted 32-bit access of IX_DATA does; R267 names no end. -/
def State.writeF (s : State) (a : Nat) (v : Word) : State × Nat :=
  if a = Reg.CHIP_IX_DATA then s.ixWrite v
  else if s.plainRefused a v then (s, Status.access)
  else
    let old := s.reg a
    let s := s.setReg a (if a = Reg.CHIP_RETAIN_LO then v ||| 0x1F#32 else v)
    let s := if a = Reg.CHIP_IX_ADDR then s.noteIx false else s
    let s := if Reg.STAGE_VERIFY_EXP_0 ≤ a ∧ a < Reg.STAGE_VERIFY_EXP_0 + 32 ∧ old ≠ v then
        s.verifyRestart ((a - Reg.STAGE_VERIFY_EXP_0) / 4) else s
    (s, Status.ok)

/-- A write to an S register; an accepted clear of CONFIG_PARITY releases the parity safe states (R237, R251). DEDUCED (log
135): those forced in the same cycle stay, as the flag does and as R253 has it of a safe-state field. -/
def State.writeS (s : State) (a : Nat) (v : Word) : State :=
  let ok := s.clearAccepted a v
  let s := s.clearFlags a v
  if a == Reg.CHIP_REG_STATUS && ok && bitOf v 1 then { s with port := { s.port with held := s.port.held.filter s.fixer.fresh.contains } } else s

/-! ### The port -/

/-- A 32-bit write at canonical address `a`; the result holds its status (R203, R229, R245). DESIGN CHOICE (log 125): a pair's B write
that meets its page unpowered leaves the pair armed; R203 gives the write ACCESS and R241 does not name the case. -/
def State.portWrite (s : State) (src : Src) (a : Nat) (v : Word) (burst : Bool) : State × Nat :=
  let s := s.touch src a true burst
  if s.pageOff a then (s, Status.access)
  else match Reg.kindOf a with
  | none => (s, Status.ok)
  | some .h => (s, Status.access)
  | some .s => (s.writeS a v, Status.ok)
  | some .g => s.writeG src a v burst
  | some .m => s.writeM src a v
  | some .f => s.writeF a v
  | some .c => (s.setReg a v, Status.ok)

/-- What a 32-bit read changes before its value is taken: FEAT_READ_0 latches (R485), EPOCH_LO latches (R31). -/
def State.readBefore (s : State) (a : Nat) : State :=
  if a = Reg.SHEET_FEAT_READ_0 then s.latchFeat
  else if a = Reg.CHIP_EPOCH_LO then
    s.setReg Reg.CHIP_EPOCH_HI (BitVec.ofNat 32 (s.clk.frameEpoch.extractLsb' 32 16).toNat)
  else s

/-- What it changes after: SCORE_READ and FRAME_LEN start anew (R485, R660). -/
def State.readAfter (s : State) (a : Nat) : State :=
  if a = Reg.SHEET_SCORE_READ then s.resetScore
  else if a = Reg.LOUPE_FRAME_LEN then s.setReg a (Reg.resetOf a)
  else s

/-- A 32-bit read at canonical address `a`: the state, its status, its value (R203, R229, R732). -/
def State.portRead (s : State) (src : Src) (a : Nat) : State × Nat × Word :=
  let s := s.touch src a false false
  if s.pageOff a then (s, Status.access, 0)
  else if a = Reg.CHIP_IX_DATA then s.ixRead
  else
    let s := s.readBefore a
    let v := s.readReg a
    (s.readAfter a, Status.ok, v)

/-- The outcome of an access is kept for the one who made it. -/
def State.answer (s : State) (status : Nat) (data : List Word) : State :=
  { s with port := { s.port with status := status, data := data, busError := false } }

/-- Whether a source can reach the port: the host once the straps are read, the Loupe while it runs (R88, R674). -/
def State.reaches (s : State) : Src → Bool
  | .host => s.acting
  | .loupe => s.acting && s.loupeUp

/-- Registers of the indirect window, which the host alone reaches (R259, R654). -/
def ofWindow (a : Nat) : Bool := a == Reg.CHIP_IX_ADDR || a == Reg.CHIP_IX_DATA

/-- One write of a source through the port. DESIGN CHOICE (log 118): a Loupe access of 32 or 64 bits to the window, which only a patch
could make, has no effect and is answered with a bus error; R259 and R654 say that none reaches it. -/
def State.accessWrite (s : State) (src : Src) (a : Nat) (v : Word) : State :=
  if !s.reaches src then s
  else if src = .loupe ∧ ofWindow a then s.busFault
  else
    let (s, st) := s.portWrite src a v false
    s.answer st []

/-- One 32-bit read of a source through the port: a reply with another status than OK carries no data (R193), a bus read always
brings a word, 0 where it was refused (R267). The window is the host's (log 118). -/
def State.accessRead (s : State) (src : Src) (a : Nat) : State :=
  if !s.reaches src then s
  else if src = .loupe ∧ ofWindow a then s.busFault
  else
    let (s, st, v) := s.portRead src a
    s.answer st (if st = Status.ok ∨ src = .loupe then [v] else [])

/-- The canonical address of a byte address on the Loupe bus (R228, R230). -/
def busAddr (addr : Nat) : Nat := Reg.canonical (addr / 4 % 4096)

/-! ### Loupe widths (R261 to R264) -/

/-- A Loupe write of 8 or 16 bits is discarded and reported (R262, R265). DESIGN CHOICE (log 124): neither it nor an unaligned access is
the bus write that breaks the Loupe's pair; R240 does not say. -/
def State.narrowWrite (s : State) (addr width : Nat) : State :=
  if s.reaches .loupe && (width == 1 || width == 2) && addr % width == 0 then
    let s := (s.setFlag Reg.CHIP_REG_STATUS 2).raise Log.REG 3 (ofBytes (addr % 256) (addr / 256 % 256) width 0)
    s.answer Status.ok []
  else s

/-- A Loupe access off its alignment: a bus error (R264, R265). -/
def State.unaligned (s : State) (addr width : Nat) : State :=
  if s.reaches .loupe && (width == 2 || width == 4 || width == 8) && addr % width != 0 then
    ((s.setFlag Reg.CHIP_REG_STATUS 3).raise Log.REG 4 (ofBytes (addr % 256) (addr / 256 % 256) width 0)).busFault
  else s

/-- A Loupe read of 8 or 16 bits: the addressed bytes, without side effect; of IX_DATA, those of its word, or of 0 after a refused
access (R261, R267). -/
def State.narrowRead (s : State) (addr width : Nat) : State :=
  let a := busAddr addr
  let (v, s) : Word × State :=
    if a = Reg.CHIP_IX_DATA then
      if s.port.ixRefused then (0, s) else match s.ixFetch s.ixSpace s.ixWord with
      | some (v, s') => (v, { s with free := s'.free })
      | none => (0, s)
    else (s.readReg a, s)
  s.answer Status.ok [BitVec.ofNat 32 (v.toNat / 2 ^ (8 * (addr % 4)) % 2 ^ (8 * width))]

/-- A Loupe bus read of `width` bytes (R261, R263, R264). -/
def State.loupeRead (s : State) (addr width : Nat) : State :=
  if !s.reaches .loupe || !(width == 1 || width == 2 || width == 4 || width == 8) then s
  else if addr % width != 0 then s.unaligned addr width
  else if width < 4 then s.narrowRead addr width
  else if width = 4 then s.accessRead .loupe (busAddr addr)
  else
    let s := s.accessRead .loupe (busAddr addr)
    let first := s.port
    let s := s.endCycle.accessRead .loupe (busAddr (addr + 4))
    if first.busError || s.port.busError then s.busFault else { s with port := { s.port with data := first.data ++ s.port.data } }

/-! ### Execution of the command ring (R200 to R202, R242) -/

/-- The canonical address of word `k` of a command (R200, R228). -/
def Cmd.addr (c : Cmd) (k : Nat) : Nat := Reg.canonical (if c.toIx then pktReg c.hdr else pktReg c.hdr + k)

/-- A write burst that is a guarded pair (R242). -/
def Cmd.isPair (c : Cmd) : Bool := c.n == 2 && Reg.isPairA (c.addr 0)

/-- The head of the ring begins to execute (R201, R213). -/
def State.beginCmd (s : State) (c : Cmd) : State :=
  if s.queue.running then s
  else
    let s := { s with queue := { s.queue with running := true, done := 0, got := [] } }
    if isTagged (bits c.hdr 31 28) then s.setTag (pktTag c.hdr) .executing else s

/-- Word `k` of a command is executed: its status and the data read. -/
def State.cmdWord (s : State) (c : Cmd) (k : Nat) : State × Nat × List Word :=
  let op := bits c.hdr 31 28
  if op = 1 ∨ op = 4 then
    let (s, st, v) := s.portRead .host (c.addr k)
    (s, st, [v])
  else
    let (s, st) := s.portWrite .host (c.addr k) (nth c.data k 0) ((op == 5 || op == 6) && !c.isPair)
    (s, st, [])

/-- The number of words of a command. -/
def Cmd.words (c : Cmd) : Nat := if isBurst (bits c.hdr 31 28) then c.n else 1

/-- Words of the head command commit, at most `n` of them, each in a cycle of its own; the first failure or the last word
completes it (R202, R235). -/
def State.cmdWords (s : State) (c : Cmd) : Nat → State
  | 0 => s
  | n + 1 =>
    let k := s.queue.done
    let (s, st, data) := s.cmdWord c k
    if st ≠ Status.ok then s.complete c st []
    else
      let got := s.queue.got ++ data
      if c.words ≤ k + 1 then s.complete c Status.ok got
      else (({ s with queue := { s.queue with done := k + 1, got := got } }).endCycle).cmdWords c n

/-- The command at the head of the ring, of operation `op`, executes for at most `n` words (R200 to R202). -/
def State.hostRun (s : State) (op n : Nat) : State :=
  match s.queue.cmds with
  | [] => s
  | c :: _ =>
    if !s.acting || bits c.hdr 31 28 != op then s
    else
      let s := s.beginCmd c
      if n = 0 then s
      else if c.bad then (s.breakPair .host).complete c Status.badOp []
      else s.cmdWords c n

/-- A registered abort is examined at a frame start that follows it (R211). -/
def State.abortStep (s : State) : State :=
  if !s.acting then s
  else match nextAbort s.queue.aborts with
  | none => s
  | some (t, rest) => ({ s with queue := { s.queue with aborts := rest } }).examineAbort t

/-! ### The log writer (R217, R689 to R693) -/

/-- An event is placed in the event ring, or dropped (R217); in Tank the next free word in rotation holds its number, source and code, the
unit's address being added as it goes out (R216, R621; log 114). -/
def State.postEvent (s : State) (e : LogEntry) (seq : Nat) : State :=
  let notice := e.source == Log.QUEUE && e.code == 1
  if s.queue.events.length < (if notice then 64 else 63) then
    let k := s.eventSlot
    let ev : Event := ⟨seq % 16, e.source, e.code, false, false, k⟩
    let s := s.setTank (Tank.eventRing + k) (eventWord 0 ev)
    ({ s with queue := { s.queue with events := s.queue.events ++ [ev], eventNext := (k + 1) % 64 } }).countWrap
      Reg.QUEUE_EVT_COUNT
  else
    let s := (s.countSat Reg.QUEUE_EVT_DROPS).setFlag Reg.QUEUE_QUEUE_STATUS 2
    if s.queue.evtDropRun then s
    else
      let s := { s with queue := { s.queue with evtDropRun := true } }
      s.raise Log.QUEUE 1 (s.reg Reg.QUEUE_EVT_DROPS)

/-- The words of a log entry (R689). -/
def LogEntry.words (e : LogEntry) : List Word :=
  [e.epoch.truncate 32, pack [(24, 8, e.code), (16, 8, e.source), (0, 16, (e.epoch.extractLsb' 32 16).toNat)], e.lo, e.hi]

/-- The log writer writes and numbers the oldest staged entry (R690, R692). -/
def State.logStep (s : State) : State :=
  match s.fixer.staged with
  | [] => s
  | e :: rest =>
    let n := (s.reg Reg.FIXER_LOG_TOTAL).toNat
    let s := s.setTankWords (Tank.log + 4 * (n % 4096)) e.words
    let s := s.setReg Reg.FIXER_LOG_TOTAL (s.reg Reg.FIXER_LOG_TOTAL + 1)
    let s := { s with fixer := { s.fixer with staged := rest, dropRun := s.fixer.dropRun && decide (32 ≤ rest.length) } }
    if e.event then s.postEvent e n else s

end Sys2Proof.Machine
end

