-- ==== Sys2Proof/Machine/Frame.lean ====
section
/-! DEFINITION. Frame starts, header ends, ticks, the countdown and the rate boundary: the steps in which every block takes
part (R12, R23 to R65, R124, R166, R178, R250, R519 to R530, R734, R735). -/

namespace Sys2Proof.Machine

/-! ### Parity of M and G registers (R249 to R252) -/

/-- What the reload of the register at `a` changes at once beside its block's safe state: a proof loop ends with its word (R141, R305,
R573), biases and the watch converter follow their registers (R274, R292), the Daylight ring starts where RUN_D returns to 1
(R497), the fog test stops (R250). -/
def State.reloaded (s : State) (a : Nat) (run : Bool) : State :=
  let p := Reg.pageOf a
  if a = Reg.LINK_PROOF_CTL_A then s.endLoopAt
  else if a = Reg.PRINT_PROOF_CTL_A then s.cutProof
  else if a = Reg.FRONT_PROOF_CTL_A then { s with front := { s.front with loop := 0, capture := none } }
  else if p = 4 then s.updateBiases.updateWatch else if p = 13 then s.fogEnd
  else if a = Reg.LATENT_LAT_CTL ∧ !run ∧ s.flag Reg.LATENT_LAT_CTL 1 then s.startRunD
  else s

/-- Pages whose registers are only reloaded (R250). -/
def reloadOnly (p : Nat) : Bool := decide (p ≤ 3) || p == 10 || p == 15

/-- What a register reads as when its bits are checked; a B word is the complement of its A word (R243, R249). -/
def State.parWord (s : State) (a : Nat) : Word := if Reg.isPairB a then ~~~s.reg (Reg.pairA a) else s.reg a

/-- An upset turns over stored bit `i` of the register at `a`, or, as bit 32, its parity bit (R249). An upset of a B word shows in
its parity alone, since it reads as the complement of its A word. -/
def State.upset (s : State) (a i : Nat) : State :=
  let p := (assocGet s.par a).getD (parity (s.parWord a))
  if i < 32 ∧ !Reg.isPairB a then { s with regs := assocSet s.regs a (s.reg a ^^^ oneBit i), par := assocSet s.par a p }
  else { s with par := assocSet s.par a !p }

/-- The block that checks a page's registers, of those powered in DAYLIGHT alone (R515, R524). -/
def pageBlock : Nat → Option Nat
  | 4 => some 0
  | 5 => some 1
  | 6 => some 1
  | 7 => some 2
  | 11 => some 3
  | 12 => some 4
  | 13 => some 6
  | 14 => some 5
  | _ => none

/-- The block that checks the register at `a` is powered (R250). -/
def State.checks (s : State) (a : Nat) : Bool := match pageBlock (Reg.pageOf a) with | some b => s.blockUp b | none => true

/-- The M and G registers of powered blocks whose parity bit does not fit their value, in address order (R250). -/
def State.parityBad (s : State) : List Nat :=
  let bad := s.par.filter (fun p => (Reg.kindOf p.1 == some .m || Reg.kindOf p.1 == some .g) && s.checks p.1 && p.2 != parity (s.parWord p.1))
  (bad.map (·.1)).foldr insertSlot []

/-- A parity mismatch of the M or G register at `a`: it is reloaded, and its pair with it; the rest names the register itself
(R250, R252, R265, R269). `run` is the RUN_D that the ring's logic followed before the upset. -/
def State.configParity (run : Bool) (s : State) (a : Nat) : State :=
  let base := if Reg.kindOf a == some .g then Reg.pairA a else a
  let w := a / 4
  let p := Reg.pageOf a
  let s := if base = Reg.PRINT_PROOF_CTL_A then s.endStageLoop else s
  let s := { s with regs := assocDel s.regs base
                    par := assocDel (assocDel s.par base) a
                    port := { s.port with held := if reloadOnly p then s.port.held else base :: s.port.held }
                    fixer := { s.fixer with fresh := if reloadOnly p then s.fixer.fresh else base :: s.fixer.fresh } }
  let s := (s.setFlag Reg.CHIP_REG_STATUS 1).setFld Reg.CHIP_REG_FAULT 0 12 w
  let s := (s.countSat Reg.CHIP_PARITY_ERRS).raise Log.REG 2 (ofBytes (w % 256) (w / 256) 0 0)
  let s := s.fixerReport 4
  s.reloaded base run

/-- FILT of drive channel `n`. -/
def State.filtOf (s : State) (n : Nat) : Bool := s.flag (Reg.PRINT_CH_CTRL_0 + 4 * n) 10

/-- The check of the M and G registers at link clock 0, after the upsets that the frame start reports (R250): drive channels held by a safe
state stop, and a change of FILT restarts its verifier (R610). -/
def State.checkConfig (s : State) (upsets : List (Nat × Nat)) : State :=
  let run := s.flag Reg.LATENT_LAT_CTL 1
  let old := s
  let s := upsets.foldl (fun s u => s.upset u.1 u.2) s
  let s := (s.parityBad.foldl (State.configParity run) s).stopHeld
  (List.range 8).foldl (fun s n => if s.filtOf n = old.filtOf n then s else s.verifyRestart n) s

/-! ### Frame start -/

/-- A written EPOCH_HI_SET applies at a valid frame start (R29), and every epoch that waits is renumbered with it. DESIGN CHOICE (log 73): a frame start is valid where the selected
side's FAW stands at the expected position, under lock or not, whatever its header turns out to be. -/
def State.applyEpochHi (s : State) : State :=
  match s.clk.epochHiPend with
  | none => s
  | some v =>
    let s := s.setPair Reg.CHIP_EPOCH_HI_SET_A (BitVec.ofNat 32 v.toNat)
    let d : Epoch := (v ++ s.epoch32) - s.clk.epoch
    let s := s.shiftStages d
    { s with clk := { s.clk with epochHiPend := none, epoch := v ++ s.epoch32 }, mx := s.mx.shift d, latent := s.latent.shift d }

/-- The log writer changes hands at a frame start (R526, R672). -/
def State.logHandOver (s : State) : State :=
  let m := s.mode
  let by' := if m.toLoupe then true else if m.toHard then false else s.fixer.byLoupe
  { s with mode := { m with toLoupe := false, toHard := false }, fixer := { s.fixer with byLoupe := by' } }

/-- What follows at once where a clock fault has begun since `old` (R62, R405, R479, R613). -/
def State.faultBegan (s old : State) : State :=
  if s.clk.fault && !old.clk.fault then ((s.openWindow s.clk.epoch).fogEnd).syncHold else s

/-- The present selected-side frame is faulted: its epoch is kept for the drive channels (R63). -/
def State.markFaulted (s : State) : State :=
  let e := s.epoch32
  if s.clk.faulted.head? = some e then s else { s with clk := { s.clk with faulted := (e :: s.clk.faulted).take 16 } }

/-- The frame-sampled controls (R178, R247). -/
def State.sampleControls (s : State) : State :=
  let day := s.clk.daylight && s.link.training.isNone
  let en := match s.print.samples with
    | p :: _ => p.en
    | [] => s.fld Reg.PRINT_CH_EN 7 0
  let s := if s.clk.daylight && en != s.fld Reg.PRINT_CH_EN 7 0 then s.repeatSearch else s
  let s := if s.clk.daylight then s.sampleDrives s.epoch32 else s
  let s := if day then { s with frame := s.frame.addDue s.epoch32 } else s
  let s := ((s.sampleFront).samplePhase).sampleAper
  ((s.sampleDev).sampleSheet).sampleStages

/-- The parity checks of link clock 0, after the upsets that the frame start reports (R250, R384, R417, R449). -/
def State.parityChecks (s : State) (i : FrameIn) : State :=
  let s := s.checkConfig i.cfgUpsets
  let s := i.tableUpsets.foldl State.tableUpset s
  let s := if s.blockUp 1 then (List.range 8).foldl (State.checkTables s.single) s else s
  let s := i.planUpsets.foldl (fun s u => s.planUpset u.1 u.2) s
  let s := if s.blockUp 2 then s.planParity else s
  let s := i.profUpsets.foldl (fun s u => s.profUpset u.1 u.2) s
  (List.range 8).foldl State.profileParity s

/-- The unit's own work at a selected-side frame start, its clock judged (R12, R178, R211). -/
def State.frameWork (s : State) (i : FrameIn) : State :=
  let s := s.dueAborts
  let s := if i.faw == .expected then s.applyEpochHi else s
  let s := { s with clk := { s.clk with frameEpoch := s.clk.epoch } }
  let s := (((s.applyOverride).startLoop).startProof).logHandOver
  ((s.noteFrameLen i.len).sampleControls).parityChecks i

/-- A copy whose FAW is missing or has moved, or that stands at a new position until the relock, brings no register field
(R122, R175). -/
def State.lostCopy (s : State) (x : Side) (i : FrameIn) (held : Bool) : State :=
  if !s.acting || !held || ((s.sd x).lock && i.faw == .expected) then s
  else
    let s := s.regCopyBad x (s.sd x).epoch
    if (s.sd x).lock then s else s.judgeLost x

/-- The clock is judged at a selected-side frame start; a frame whose marker fails is faulted (R42, R63). -/
def State.judgeClock (s : State) (i : FrameIn) (held first : Bool) : State :=
  let s := s.clockFrameStart i held first
  if (held || s.clk.fault) && !s.clk.exact then s.markFaulted else s

/-- A frame start on the selected side. -/
def State.selectedStart (s : State) (x : Side) (i : FrameIn) : State :=
  let ordinary := s.link.training.isNone
  let held := (s.sd x).held && ordinary
  let first := !(s.sd x).lock && (s.sd x).fawRun == 0
  let s := s.newFlagFrame
  let s := { s with link := { s.link with skewValid := false } }
  let s := if ordinary then s.linkFrameStart x i else s.trainFrame x i
  if !s.acting then s
  else
    let s' := if ordinary then s.judgeClock i held first else s
    ((s'.faultBegan s).lostCopy x i held).frameWork i

/-- A frame start on the other side. -/
def State.otherStart (s : State) (x : Side) (i : FrameIn) : State :=
  if s.link.training.isSome then s.trainFrame x i
  else
    let held := (s.sd x).held
    let s := (s.linkFrameStart x i).lostCopy x i held
    s.modSd x (fun d => { d with mask := s.maskNow })

/-- The one frame of HOLD that a RESET write makes is over at the next selected-side frame start; HOLD on the pin goes on (R537). -/
def State.resetFrame (s : State) (x : Side) : State :=
  if s.holding && !s.mode.holdPin && x == s.clk.side then { s with clk := { s.clk with power := .up } } else s

/-- FRAME_START on side `x` (R12, R118, R178, R537); under HOLD it begins a forwarded frame (R115, R135). -/
def State.frameStart (s : State) (x : Side) (i : FrameIn) : State :=
  let s := s.resetFrame x
  if s.holding then (s.restoreOut x i).outStart x i
  else if !s.running then s
  else
    let i := (s.sd x).marker i
    let s := s.countProof x i
    if x ≠ s.clk.side then s.otherStart x i
    else if s.mode.resetPend then
      let s := s.resetAll .hold 2
      (s.restoreOut x i).outStart x i
    else
      let s' := (s.selectedStart x i).noteWithheld s
      s'.modSd x (fun d => { d with mask := s'.maskNow })

/-! ### Gaps and jumps (R37 to R40, R62) -/

/-- The settle interval begins (R40, R62, R381, R405): the copies of the present epoch carry stamps of up to 5 ticks before it
(R398), and none from before a gap is contributed in it. -/
def State.settleFrom (s : State) : State :=
  let s := s.openWindow (s.clk.epoch - 5)
  { s with clk := { s.clk with settle := some s.clk.ticks }, aper := { s.aper with hold := some s.clk.ticks } }

/-- STALE_GAP in ticks; 0 makes every gap stale (R38, R67). -/
def State.staleLimit (s : State) : Nat := 1024 * s.fld Reg.CHIP_CLK_CFG 15 8

/-- What every subsystem does after a gap of `n` ticks (R38 to R40, R62, R300, R500). -/
def State.afterGap (s : State) (n : Nat) : State :=
  let s := ((s.settleFrom).devGap n).gapMark.pdmGap
  if s.staleLimit ≤ n then s.staleGap else s

/-- What every subsystem does after a backward jump: as after a stale gap, and MX decides anew on the epochs it meets again (R32,
R405). -/
def State.afterBack (s : State) : State := ((((s.settleFrom).devGap 960).gapMark.pdmGap).staleGap).forgetDecisions

/-- A header epoch is compared and adopted; `counted` says whether a gap counts toward the CLOCK window (R27, R28, R32, R37,
R49, R734). DESIGN CHOICE (log 104): a stop whose first valid header shows no difference starts no settle interval; R40 and the
Stop column of R62 pull apart. -/
def State.compareEpoch (s : State) (h : Epoch32) (counted : Bool) : State :=
  let own := s.epoch32
  match epochDiff own h with
  | .same => s
  | .forward n =>
    let s := (s.adopt h).recordGap n own
    let s := if counted then s.clockCount else s
    s.afterGap n
  | .back n => ((s.adopt h).recordBack n).afterBack

/-- The first epoch (R25), with the RESET entry that waited for it (R536), and the SIDE_SWITCH entry of a switch made before it
(R21, R65); there being no own epoch, its D is 0. An unannounced rate change that came before it ends with it, and the rings' next cells
carry gap marks (R48, R500, R734). -/
def State.firstEpoch (s : State) (h : Epoch32) : State :=
  let switched := s.clk.switched
  let s := if s.clk.rateBad then s.gapMark else s
  let s := s.adopt h
  let e : Epoch := (0 : BitVec 16) ++ h
  let s := { s with clk := { s.clk with epoch := e, frameEpoch := e, hasEpoch := true, switched := false, rateBad := false, lenErr := 0 }
                    frame := { s.frame with regAt := h } }
  let s := if switched then s.raise Log.CLOCK 5 (ofBytes (sideNum s.clk.side) 0 0 0) 0 else s
  if s.mode.resetLog then
    ({ s with mode := { s.mode with resetLog := false } }).raise Log.MODE 5 (ofBytes s.mode.cause 0 0 0)
  else s

/-- The first header of the new rate (R60, R65). DESIGN CHOICE (log 120): a forward difference adopted here is no gap: it starts no settle
interval and no stale rule; R27 classes it as a gap, R60 does not say so, as R734 does of its own case. -/
def State.rateHeader (s : State) (h : Epoch32) : State :=
  let own := s.epoch32
  let d : Word := h - own
  let target : Nat := if s.clk.daylight then 1 else 2
  let s := { s with clk := { s.clk with rateCheck := false } }
  let s' := match epochDiff own h with
    | .same => s
    | .forward _ => s.adopt h
    | .back n => ((s.adopt h).recordBack n).afterBack
  (s'.setFlag Reg.CHIP_CLK_STATUS 3).raise Log.CLOCK 4 (ofBytes target 0 0 0) d

/-- The first valid selected-side header after a side switch (R735, R65). -/
def State.switchHeader (s : State) (h : Epoch32) : State :=
  let d := ediff h s.epoch32
  let s := { s with clk := { s.clk with switched := false } }
  let side : Word := ofBytes (sideNum s.clk.side) 0 0 0
  if decide (-4 ≤ d) && decide (d ≤ 4) then (s.adopt h true).raise Log.CLOCK 5 side (BitVec.ofInt 32 d)
  else (s.compareEpoch h true).raise Log.CLOCK 5 side 0

/-- Frames of the unit's own format have returned after an unannounced rate change (R48, R734). -/
def State.rateRecover (s : State) (h : Epoch32) : State :=
  let s := { s with clk := { s.clk with rateBad := false, lenErr := 0 } }
  (s.compareEpoch h false).gapMark

/-- The epoch's part of a valid selected-side header. DESIGN CHOICE (log 80): where a side switch is pending at the first header
after an unannounced rate change, R734 takes that header and R735 the next; where it is pending at the first new-rate header,
R735 takes that header and R60 the next; and where an unannounced rate change is recognised while the first new-rate header is still
awaited, R734 takes the header that ends it and R60 the next. The spec orders none of these pairs. -/
def State.epochHeader (s : State) (h : Epoch32) : State :=
  if s.clk.rateBad && !s.clk.exact then s
  else
  let s := s.resumeStages h
  if !s.clk.hasEpoch then s.firstEpoch h
  else if s.clk.rateBad then s.rateRecover h
  else if s.clk.switched then s.switchHeader h
  else if s.clk.rateCheck then s.rateHeader h
  else s.compareEpoch h true

/-- A fault ends at an exact frame with a valid selected-side header; clean and faulted frames are counted (R46, R63). -/
def State.faultHeader (s : State) : State :=
  if !s.clk.exact then s
  else
    let s := { s with clk := { s.clk with cleanFrames := s.clk.cleanFrames + 1, faultFrames := 0 } }
    if s.clk.fault && !s.clk.rateBad then
      let s := s.endFault
      { s with aper := { s.aper with hold := some s.clk.ticks } }
    else s

/-- A trip of the missing-edge monitor is logged at the first valid header (R65). -/
def State.edgeHeader (s : State) : State :=
  if s.clk.edgeLossPend then ({ s with clk := { s.clk with edgeLossPend := false } }).raise Log.CLOCK 6 else s

/-! ### The countdown (R51 to R57, R520, R521, R527, R530) -/

/-- The least RC_COUNT at which a countdown may begin (R54). -/
def countMin (target : Nat) : Nat := if target = 1 then 64 else 128

/-- What the first frame of a countdown to SAFELIGHT does (R527). -/
def State.prepareSafe (s : State) : State :=
  let s := ((((s.endFrontLoops).autoRelease).updateBiases).updateWatch).updateDrain
  { s with fixer := { s.fixer with byLoupe := false }, mode := { s.mode with toLoupe := false, toHard := false } }

/-- The DAYLIGHT domains are off (R523, R530). -/
def State.domainsOff (s : State) : State :=
  { s with mode := { s.mode with steps := 0, stepStart := none, good := [false, false, false, false] } }

/-- Segments without power lose their contents (R518, R529). -/
def State.dropSegments (s : State) : State :=
  { s with mem := Mem.keep s.mem (fun a => s.segPowered (segmentOf (a / 4)))
           bank := { s.bank with errs := s.bank.errs.filter (fun e => s.segPowered (segmentOf (8 * e.1))) } }

/-- A countdown begins (R520, R523, R527). -/
def State.beginCount (s : State) (target count : Nat) : State :=
  let s := { s with clk := { s.clk with rcTarget := target, rcCount := count, rcIgnored := 0 } }
  let s := (s.setFlag Reg.CHIP_MODE_STATUS 0).raise Log.MODE 1 (ofBytes target count 0 0)
  if target = 1 then
    let s := s.domainsOff
    { s with mode := { s.mode with stepStart := some s.clk.ticks } }
  else s.prepareSafe

/-- A countdown is cancelled: its preparation is undone (R530). -/
def State.cancelCount (s : State) : State :=
  let target := s.clk.rcTarget
  let count := s.clk.rcCount
  let s := { s with clk := { s.clk with rcTarget := 0, rcCount := 0 } }
  let s := (s.setFlag Reg.CHIP_MODE_STATUS 1).raise Log.MODE 2 (ofBytes target count 0 0)
  if target = 1 then s.domainsOff.dropSegments
  else
    let s := s.setPair Reg.PRINT_MASTER_A 0
    (((s.updateBiases).updateWatch).updateDrain).loupeCancel

/-- A header carries a target the unit cannot act on (R521). -/
def State.ignoreCount (s : State) (target count : Nat) : State :=
  let s := s.setFlag Reg.CHIP_MODE_STATUS 2
  if s.clk.rcIgnored = target then s
  else ({ s with clk := { s.clk with rcIgnored := target } }).raise Log.MODE 3 (ofBytes target count s.request 0)

/-- The countdown fields of a valid selected-side header (R51 to R57, R520, R521). -/
def State.countHeader (s : State) (h : BitVec 416) : State :=
  let raw := Hdr.rcTarget h
  let target := if raw = 3 then 0 else raw
  let count := Hdr.rcCount h
  if s.clk.rcTarget != 0 then
    if target = s.clk.rcTarget then { s with clk := { s.clk with rcCount := count } }
    else
      let s := s.cancelCount
      if target = 0 then s else s.ignoreCount target count
  else if target = 0 then { s with clk := { s.clk with rcIgnored := 0 } }
  else if s.request = target ∧ target ≠ (if s.clk.daylight then 1 else 2) ∧ countMin target ≤ count then s.beginCount target count
  else s.ignoreCount target count

/-- A header of the selected side failed: the count goes on by itself (R55). -/
def State.countOn (s : State) : State :=
  if s.clk.rcTarget = 0 then s else { s with clk := { s.clk with rcCount := s.clk.rcCount - 1 } }

/-! ### Header end -/

/-- A valid selected-side header (R24, R46, R166). -/
def State.selectedHeader (s : State) (x : Side) (h : BitVec 416) : State :=
  let s := { s with frame := { s.frame with hdrSrc := 1 + sideNum x } }
  ((((s.epochHeader (Hdr.epoch h)).edgeHeader).faultHeader).countHeader h)

/-- An invalid selected-side header: the unit's own counts go on (R55, R166). -/
def State.ownHeader (s : State) : State := { s.countOn with frame := { s.frame with hdrSrc := 0 } }

/-- Both copies of a frame have failed: a clock fault (R42, R44). -/
def State.bothFailed (s : State) (x : Side) : State :=
  if s.bothBad x then
    let s' := (s.beginFault s.clk.lastLen).markFaulted
    s'.faultBegan s
  else s

/-- A frame whose selected-side header leaves a clock fault standing is faulted (R46, R63). -/
def State.markStanding (s : State) : State := if s.clk.fault then s.markFaulted else s

/-- Side `x`'s deserializer receives the ring's frames: not training frames, nor its own serializer's in a pad loop (R124,
R137). -/
def State.hears (s : State) (x : Side) : Bool :=
  s.link.training.isNone && (match s.link.loop with | some (1, y, _) => x != y | _ => true)

/-- HEADER_END on side `x` (R42, R121, R166); under HOLD it is forwarded (R135). DEDUCED (log 81): WRAPPED does not make a header
invalid (R165 names it for the register field alone), so the epoch and the countdown are taken from a valid wrapped header of
the selected side; that is no acting on the frame's contents (R131). -/
def State.headerEnd (s : State) (x : Side) (h : BitVec 416) (skew : BitVec 24) : State :=
  if s.holding then s.forwardHeader x h h false
  else if !s.running || !s.hears x then s
  else
    let (t, valid) := s.linkHeader x h skew
    if !t.acting then t
    else
      let t := if Hdr.checkOk t.clk.daylight h then t else t.bothFailed x
      if x ≠ t.clk.side then t.noteWithheld s
      else
        let t := t.noteEarly x
        ((if valid then t.selectedHeader x h else t.ownHeader).markStanding).noteWithheld s

/-! ### Ticks -/

/-- The counts of a tick: the unit's own, the epoch's, and the training interval's (R23, R60, R62, R125, R127). -/
def State.countTick (s : State) (i : TickIn) : State :=
  let n := s.clk.ticks
  let s := { s with clk := { s.clk with ticks := n + 1 } }
  let s := if s.clk.rateBad then s else s.advanceEpoch
  match s.link.training with
  | some t =>
    let s := { s with link := { s.link with training := some (t.tick s.clk.daylight (n - t.start) i.prbsOk) } }
    if s.clk.daylight then s.scanLanes (n + 1 - t.start) else s
  | none => s

/-- TICK (R23). -/
def State.tick (s : State) (i : TickIn) : State :=
  if !s.running then s
  else
    let s := s.countTick i
    if s.acting then ((s.tickBiases i).tickStages i).tickTj i else s

/-- The settle interval ends (R40, R62). -/
def State.settleEnd (s : State) : State :=
  match s.clk.settle with
  | some t =>
    if s.running && s.elapsed t 256 then
      let s := { s with clk := { s.clk with settle := none, settled := some (t + 256) } }
      if s.clk.fault then s else s.closeWindow
    else s
  | none => s

/-- The withholding of beams after a gap or clock fault ends (R381). -/
def State.withholdEnd (s : State) : State :=
  match s.aper.hold with
  | some t => if s.running && s.elapsed t 256 then { s with aper := { s.aper with hold := none } } else s
  | none => s

/-! ### The rate boundary (R59, R522 to R529) -/

/-- The countdown has run out (R53, R57). DESIGN CHOICE (log 121): the format changes at the counted boundary also where an unannounced rate
change has been recognised meanwhile; R48 bars adopting the other format, R57 switches at the counted boundary. -/
def State.boundaryDue (s : State) : Bool := s.acting && s.clk.rcTarget != 0 && decide (s.clk.rcCount ≤ 1)

/-- What both directions do: the request returns to 0, the format changes (R59, R60, R318, R522). DESIGN CHOICE (log 110): an epoch
whose second copy the training interval cuts off waits over the boundary, and is judged only where the other side later loses
lock (R175). DESIGN CHOICE (log 111): a run of SHOW_MISS or CLASS_RSVD that stands at the boundary into SAFELIGHT ends, and has its entry
written, at the next DAYLIGHT decision or header (R180). DESIGN CHOICE (log 123): SKEW keeps the old mode's value until the first
measurement in the new one, SKEW_VALID falling at the next selected frame start; R148 gives it in link clocks of the mode in force. -/
def State.changeRate (s : State) (day : Bool) : State :=
  let at_ := if day then some s.clk.ticks else s.clk.dayAt
  let s := { s with clk := { s.clk with rcTarget := 0, rcCount := 0, rcIgnored := 0, daylight := day, rateCheck := true, dayAt := at_ }
                    decim := { s.decim with lpCheck := true }
                    frame := { s.frame with masks := [], due := [], lastDue := none, shown := [], hdrSrc := 0, regSrc := 0, showSrc := 0
                                            otherEarly := false }
                    print := { s.print with samples := [] } }
  (s.setPair Reg.CHIP_MODE_REQ_A 0).countWrap Reg.CHIP_MODE_CHANGES

/-- Domains that miss the boundary are reported (R524). -/
def State.domainLate (s : State) : State :=
  let late := maskOf 4 (fun d => !nth s.mode.good d false)
  if late = 0 then s else (s.setFlag Reg.CHIP_MODE_STATUS 3).raise Log.MODE 4 (ofBytes late 0 0 0)

/-- Blocks whose domain is good start (R524, R525). -/
def State.startBlocks (s : State) (b : Nat → Bool) : State :=
  let s := if b 0 then s.updateBiases.updateChans else s
  let s := if b 1 then (s.hqBegin).aperBegin else s
  if b 5 then s.startLoupe else s

/-- The boundary into DAYLIGHT (R525). -/
def State.toDaylight (s : State) : State :=
  let writing := s.writingW
  let s := (s.changeRate true).latentToDay writing
  let s := ((s.devToDay).updateBiases).updateWatch
  let s := (s.startBlocks s.blockUp).domainLate
  let s := (List.range 8).foldl State.verifyRestart s
  ((s.repeatSearch).updateDrain).startTraining

/-- A channel's part of the boundary into SAFELIGHT: latches and comparators are unpowered, and a thermal hold-off that had not begun to
count begins (R588, R592, R612; log 136). -/
def StageCh.toSafe (e : Epoch) (c : StageCh) : StageCh :=
  { c with flt := false, imon := false, whole := false, tripRun := 0, cool := if c.therm && c.cool.isNone then some e else c.cool }

/-- The stages' part of the boundary into SAFELIGHT: a search ends, and so does every measurement (R587, R612). -/
def State.stageToSafe (s : State) : State :=
  let s := { s with stage := { s.stage with search := none, ch := s.stage.ch.map (StageCh.toSafe s.clk.epoch) } }
  (List.range 8).foldl State.haltMeasure s

/-- The boundary into SAFELIGHT (R529). -/
def State.toSafelight (s : State) : State :=
  let s := ((s.fogEnd).loupeToSafe).printToSafe.stageToSafe
  let s := ((s.changeRate false).devToSafe).domainsOff
  let s := s.loseTemplates (fun seg => s.segPowered (4 + seg))
  let s := ((s.settleTables).mxToSafe).hqHalt
  let s := (s.pdmStop).updateChans
  let s := ((s.updateBiases).updateWatch).updateDrain
  let s := { s with fixer := { s.fixer with byLoupe := false } }
  (s.dropSegments).startTraining

/-- RATE_BOUNDARY (R59). Reports that the boundary makes of open candidates carry wake records (R475, R502). -/
def State.rateBoundary (s : State) : State :=
  if !s.boundaryDue then s
  else ((if s.clk.rcTarget = 1 then s.toDaylight else s.toSafelight).writeRecords).noteWithheld s

/-- TRAINING_CENTRE: the scan is over, the lanes move to their centres (R125). -/
def State.trainingCentre (s : State) : State :=
  match s.link.training with
  | some t => if s.running && s.clk.daylight && !t.centred && s.elapsed t.start 80 then (s.trainCentre t).judgeDropped s else s
  | none => s

/-- TRAINING_END: ordinary frames resume (R124 to R127). -/
def State.trainingEnd (s : State) : State :=
  match s.link.training with
  | some t =>
    if s.running && s.elapsed t.start (trainTicks s.clk.daylight) then
      let old := s
      let s := { s with link := { s.link with training := none } }
      let s := ((s.trainEndSide t .a).trainEndSide t .b).judgeDropped old
      { s with outA := s.outResume .a, outB := s.outResume .b }
    else s
  | none => s

/-! ### Power domains (R523, R524) -/

/-- The next of the four switch-on steps, 64 ticks apart (R523). -/
def State.domainStep (s : State) : State :=
  match s.mode.stepStart with
  | some t =>
    if s.running && s.clk.rcTarget == 1 && decide (s.mode.steps < 4) && s.elapsed t (64 * s.mode.steps) then
      { s with mode := { s.mode with steps := s.mode.steps + 1 } }
    else s
  | none => s

/-- A domain reports power-good; after the boundary its blocks start, counted from now (R524). -/
def State.domainGood (s : State) (d : Nat) : State :=
  if s.running && decide (d < s.mode.steps) && !nth s.mode.good d true then
    let up := fun b => s.blockUp b
    let was := (List.range 7).filter up
    let s := { s with mode := { s.mode with good := s.mode.good.set d true } }
    s.startBlocks (fun b => s.blockUp b && !was.contains b)
  else s

end Sys2Proof.Machine
end

