-- ==== Sys2Proof/Machine/ArrayCmds.lean ====
section
/-! DEFINITION. Commands of the front end, the filter engine, Aperture and Multiple exposure: BIAS_RAMP_END to CAPTURE_DONE,
HQ_BOUNDARY to SCALE_APPLY, PLAN_SWITCH. -/

namespace Sys2Proof.Machine

/-! ### Biases (R275 to R281) -/

/-- Whether `n` ticks have passed since an optional start. -/
def State.waited (s : State) (t : Option Nat) (n : Nat) : Bool :=
  match t with
  | some t => s.acting && s.elapsed t n
  | none => false

/-- A bias reaches its voltage (R275). -/
def State.biasRamped (s : State) (k : Nat) : State :=
  if s.waited (s.biasOf k).ramp 96 then s.modBias k (fun b => { b with ramp := none }) else s

/-- The invalid window after a ramp closes (R275). -/
def State.biasSettled (s : State) (k : Nat) : State :=
  if s.waited (s.biasOf k).window 4800 then s.modBias k (fun b => { b with window := none }) else s

/-- A bias has held its limit for 96 ticks, 16 frames in SAFELIGHT (R278, R708). -/
def State.shortDue (s : State) (k : Nat) : Bool :=
  s.acting && s.front.vbiasOk && (s.biasOf k).on && decide (96 ≤ (s.biasOf k).limit)

/-- The wait after a transient short is over: the bias follows R274 again (R279). -/
def State.biasRestart (s : State) (k : Nat) : State :=
  if s.waited (s.biasOf k).shorted 9600 && !(s.biasOf k).latched then
    (s.modBias k (fun b => { b with shorted := none })).updateBias k
  else s

/-- A bias has drawn too little for 960 ticks (R281, R708). -/
def State.openDue (s : State) (k : Nat) : Bool :=
  s.acting && s.front.vbiasOk && (s.biasOf k).on && (s.biasOf k).armed && decide (960 ≤ (s.biasOf k).low)

/-- The open detector arms again (R281). -/
def State.biasRearm (s : State) (k : Nat) : State :=
  if s.acting && !(s.biasOf k).armed && decide (960 ≤ (s.biasOf k).high) then s.modBias k (fun b => { b with armed := true }) else s

/-! ### Converters and the PDM port (R286 to R301) -/

/-- A start interval ends (R288). -/
def State.chanStarted (s : State) (k : Nat) : State :=
  if s.waited (s.chanOf k).starting 256 then s.modChan k (fun c => { c with starting := none }) else s

/-- The watch converter's start interval ends (R292). -/
def State.watchStarted (s : State) : State :=
  if s.waited s.front.watchStart 64 then { s with front := { s.front with watchStart := none } } else s

/-- A converter that runs is overloaded; 16 is the watch converter (R286). An overload of the sense channel fails its window (R607). -/
def State.overload (s : State) (k : Nat) : State :=
  if k < 16 then
    if s.acting && (s.chanOf k).powered then (if s.senseMic == some k then s.senseFailed else s).setFlag Reg.FRONT_CLIP_STATUS k else s
  else if k = 16 then (if s.acting && s.front.watchRun then s.setFlag Reg.FRONT_FRONT_STATUS 4 else s)
  else s

/-- The port's clock-first wait, in ticks (R297). -/
def State.pdmWait (s : State) : Nat := 480 * s.front.pdmWake

/-- The PDM decimators start (R297). -/
def State.pdmDecimate (s : State) : State :=
  if s.acting && s.front.pdmPhase == 1 && !s.front.pdmDecim && s.elapsed s.front.pdmTick s.pdmWait then
    { s with front := { s.front with pdmDecim := true } }
  else s

/-- The PDM channels become valid (R297). -/
def State.pdmBecomesReady (s : State) : State :=
  if s.acting && s.front.pdmPhase == 1 && s.front.pdmDecim && s.elapsed s.front.pdmTick (s.pdmWait + 256) then
    let s := { s with front := { s.front with pdmPhase := 2 } }
    (s.setFlag Reg.FRONT_FRONT_STATUS 1).raise Log.FRONT 4 (ofBytes (bits s.front.pdmCfg 2 1) s.front.pdmTaken 0 0)
  else s

/-- The capture holds its 4,096 samples (R305). -/
def State.captureDone (s : State) : State :=
  match s.front.capture with
  | some (_, n) =>
    if s.acting && decide (4096 ≤ n) then ({ s with front := { s.front with capture := none } }).setFlag Reg.FRONT_FRONT_STATUS 0 else s
  | none => s

/-- What PDM_DO carries after a high-quality boundary: the source's sample and its validity, or silence; none while it is held
low (R301, R307). DESIGN CHOICE (log 129): it is low too while MIRROR_EN is 1 and the port's clock runs, but its channels are not yet
valid (PDM_PHASE 1); R301 speaks of the port that runs and of MIRROR_EN 0. -/
def State.mirrorNow (s : State) : Option (Bool × Sample) :=
  let src := s.front.mirrorSrc
  if s.front.pdmPhase != 2 || !s.front.mirrorEn then none
  else if src < 16 then some (s.chanDelivers src && s.hqReady, BitVec.ofInt 24 (hqCode (s.hqNow src)))
  else if src < 24 then some (bitOf (s.beamNow (src - 16)) 0, BitVec.ofInt 24 (hqCode (s.beamNow (src - 16))))
  else some (true, 0)

/-! ### Sample boundaries (R316) -/

/-- A high-quality boundary: an even DAYLIGHT epoch (R316). -/
def State.atHq (s : State) : Bool := s.acting && s.clk.daylight && s.clk.epoch.toNat % 2 == 0

/-- A low-power boundary: every SAFELIGHT frame, and in DAYLIGHT each epoch that is a multiple of 6 (R316). -/
def State.atLp (s : State) : Bool := s.acting && (!s.clk.daylight || s.clk.epoch.toNat % 6 == 0)

/-- HQ_BOUNDARY: channels, beams, the sources' runs, the Daylight set, the mirror (R301, R316, R358, R429, R497, R605); while the path's
domain is late, the Daylight set alone (R497, R524). -/
def State.hqBoundary (s : State) (i : HqIn) : State :=
  if !s.atHq then s
  else
    let s := i.upsets.foldl (fun s u => s.coefUpset u.1 u.2) s
    if s.blockUp 1 then
      let s := ((s.hqChannels i).beamsBoundary).verifyBoundary.countSamples.writeSet
      { s with front := { s.front with mirror := s.mirrorNow, remod := s.mirrorBits.2 } }
    else s.writeSet

/-- LP_BOUNDARY: the watch sample, its run, the watch cell (R316, R429, R496). -/
def State.lpBoundary (s : State) (sent : List Bool) (upsets : List (Nat × Nat)) : State :=
  if s.atLp then
    let s := upsets.foldl (fun s u => s.coefUpset u.1 u.2) s
    let misphase := (s.lpPhase).1
    let s := s.lpSample sent
    s.countWatch.writeCell misphase
  else s

/-- A path whose RUN bit is 0, or one of whose coefficients has failed, stops at its boundary (R338, R345). -/
def State.stopDue (s : State) (hq : Bool) : Bool :=
  if hq then s.atHq && s.blockUp 1 && (!s.flag Reg.DECIM_ENGINE_CTL 0 || s.decim.hqReload) && !s.decim.hqStopped
  else s.atLp && (!s.flag Reg.DECIM_ENGINE_CTL 1 || s.decim.lpReload) && !s.decim.lpStopped

/-- A stopped path whose RUN bit is 1 starts at a boundary after that of its stop (R339, R345). -/
def State.startDue (s : State) (hq : Bool) : Bool :=
  if hq then s.atHq && s.blockUp 1 && s.flag Reg.DECIM_ENGINE_CTL 0 && s.decim.hqStopped && s.decim.hqHaltAt != some s.clk.ticks
  else s.atLp && s.flag Reg.DECIM_ENGINE_CTL 1 && s.decim.lpStopped && s.decim.lpHaltAt != some s.clk.ticks

/-- Priming is over: the cross-fade begins (R329). -/
def State.primed (s : State) : State :=
  match s.decim.trans with
  | some (false, n) => if s.acting && decide (32 ≤ n) then { s with decim := { s.decim with trans := some (true, 0) } } else s
  | _ => s

/-- Cross-fade output 64 has been made: the new set alone is in use (R329, R353). -/
def State.phaseDone (s : State) : State :=
  match s.decim.trans with
  | some (true, n) =>
    if s.acting && decide (64 ≤ n) then
      let s := { s with decim := { s.decim with trans := none, inUse := !s.decim.inUse } }
      (s.setFlag Reg.DECIM_DECIM_STATUS 5).raise Log.DECIM 4 (ofBytes (b2n s.decim.inUse) 0 0 0)
    else s
  | _ => s

/-- No transition or cross-fade holds a swap at this boundary: each does up to the boundary of its output 64, and a cross-fade that
begins here does not (R350). -/
def State.swapFree (s : State) : Bool :=
  s.decim.trans.isNone && s.decim.transEnd != some s.clk.ticks && (!s.hqRuns || s.decim.phase == s.decim.inUse)
    && s.aper.beams.all (fun b => match b.fade with | some f => f.n == 0 | none => b.fadeEnd != some s.clk.ticks)

/-- A pending bank swap applies (R350, R351). -/
def State.swapStep (s : State) : State :=
  match s.decim.swap with
  | some b => if s.atHq && s.blockUp 1 && s.swapFree then s.applySwap b else s
  | none => s

/-! ### Beams and plans (R371 to R376, R413) -/

/-- Beam `b`'s pending table begins its cross-fade (R371). -/
def State.beamFade (s : State) (b : Nat) : State :=
  if s.atHq && s.blockUp 1 && s.mayFade b then s.startFade b else s

/-- Beam `b`'s cross-fade has made its 64th output (R372). -/
def State.beamFaded (s : State) (b : Nat) : State :=
  match (s.beam b).fade with
  | some f => if s.acting && decide (64 ≤ f.n) then s.endFade b else s
  | none => s

/-- A waiting scale applies (R376). -/
def State.scaleStep (s : State) : State :=
  match s.aper.wait with
  | some v => if s.atHq && s.blockUp 1 && s.noFade then s.applyScale v else s
  | none => s

/-- The armed plan switch is made at its tick (R413). -/
def State.planStep (s : State) : State :=
  if s.acting && s.mxSwitchDue then s.mxSwitch else s

/-- A short of bias `k` that stands acts (R278). -/
def State.shortStep (s : State) (k : Nat) : State := if s.shortDue k then s.biasShort k else s

/-! ### Meanings -/

/-- BIAS_RAMP_END (R275). -/
def execBiasRampEnd (k : Nat) (s : State) : Host.Outcome State Fault Refusal := .next ((s.biasRamped k).endCycle)

/-- BIAS_WINDOW_END (R275). -/
def execBiasWindowEnd (k : Nat) (s : State) : Host.Outcome State Fault Refusal := .next ((s.biasSettled k).endCycle)

/-- BIAS_SHORT (R278). -/
def execBiasShort (k : Nat) (s : State) : Host.Outcome State Fault Refusal :=
  .next (s.shortStep k).endCycle

/-- BIAS_RESTART (R279). -/
def execBiasRestart (k : Nat) (s : State) : Host.Outcome State Fault Refusal := .next ((s.biasRestart k).endCycle)

/-- BIAS_OPEN (R281). -/
def execBiasOpen (k : Nat) (s : State) : Host.Outcome State Fault Refusal :=
  .next ((if s.openDue k then s.biasOpen k else s).endCycle)

/-- BIAS_OPEN_REARM (R281). -/
def execBiasOpenRearm (k : Nat) (s : State) : Host.Outcome State Fault Refusal := .next ((s.biasRearm k).endCycle)

/-- CHANNEL_START_END (R288). -/
def execChannelStartEnd (k : Nat) (s : State) : Host.Outcome State Fault Refusal := .next ((s.chanStarted k).endCycle)

/-- WATCH_START_END (R292). -/
def execWatchStartEnd (s : State) : Host.Outcome State Fault Refusal := .next s.watchStarted.endCycle

/-- CONVERTER_OVERLOAD (R286). -/
def execConverterOverload (k : Nat) (s : State) : Host.Outcome State Fault Refusal := .next ((s.overload k).endCycle)

/-- PDM_DECIMATOR_START (R297). -/
def execPdmDecimatorStart (s : State) : Host.Outcome State Fault Refusal := .next s.pdmDecimate.endCycle

/-- PDM_READY (R297). -/
def execPdmReady (s : State) : Host.Outcome State Fault Refusal := .next s.pdmBecomesReady.endCycle

/-- CAPTURE_DONE (R305). -/
def execCaptureDone (s : State) : Host.Outcome State Fault Refusal := .next s.captureDone.endCycle

/-- HQ_BOUNDARY (R316). -/
def execHqBoundary (i : HqIn) (s : State) : Host.Outcome State Fault Refusal := .next ((s.hqBoundary i).endCycle)

/-- LP_BOUNDARY (R316). -/
def execLpBoundary (sent : List Bool) (upsets : List (Nat × Nat)) (s : State) : Host.Outcome State Fault Refusal :=
  .next ((s.lpBoundary sent upsets).endCycle)

/-- PATH_STOP (R338). -/
def execPathStop (hq : Bool) (s : State) : Host.Outcome State Fault Refusal :=
  .next ((if s.stopDue hq then s.pathStop hq else s).endCycle)

/-- PATH_START (R339). -/
def execPathStart (hq : Bool) (s : State) : Host.Outcome State Fault Refusal :=
  .next ((if s.startDue hq then s.pathStart hq else s).endCycle)

/-- PRIMING_END (R329). -/
def execPrimingEnd (s : State) : Host.Outcome State Fault Refusal := .next s.primed.endCycle

/-- PHASE_DONE (R329). -/
def execPhaseDone (s : State) : Host.Outcome State Fault Refusal := .next s.phaseDone.endCycle

/-- SWAP_APPLY (R351). -/
def execSwapApply (s : State) : Host.Outcome State Fault Refusal := .next s.swapStep.endCycle

/-- BEAM_XFADE_START (R371). -/
def execBeamXfadeStart (b : Nat) (s : State) : Host.Outcome State Fault Refusal := .next ((s.beamFade b).endCycle)

/-- XFADE_DONE (R372). -/
def execXfadeDone (b : Nat) (s : State) : Host.Outcome State Fault Refusal := .next ((s.beamFaded b).endCycle)

/-- SCALE_APPLY (R376). -/
def execScaleApply (s : State) : Host.Outcome State Fault Refusal := .next s.scaleStep.endCycle

/-- PLAN_SWITCH (R413). -/
def execPlanSwitch (s : State) : Host.Outcome State Fault Refusal := .next s.planStep.endCycle

end Sys2Proof.Machine
end

