-- ==== Sys2Proof/Machine/GuardCmds.lean ====
section
/-! DEFINITION. Commands of guarded pairs: EPOCH_HI_SET to TEST_WRITE. Each is the B write of its pair. -/

namespace Sys2Proof.Machine

/-- The B write `v` of the pair whose A word is at `a` (R240). A row whose rule names a value stands for that value: where the
armed value completes the pair and is not one of the row's, the write is another row's, and nothing happens here. -/
def State.guardedWrite (s : State) (src : Src) (a : Nat) (fits : Word → Bool) (v : Word) : State :=
  match s.armed src with
  | some arm => if arm.addr == a && v == ~~~arm.value && !fits arm.value then s else s.accessWrite src (a + 4) v
  | none => s.accessWrite src (a + 4) v

/-- EPOCH_HI_SET (R29). -/
def execEpochHiSet (src : Src) (v : Word) (s : State) : Host.Outcome State Fault Refusal :=
  .next ((s.guardedWrite src Reg.CHIP_EPOCH_HI_SET_A (fun _ => true) v).endCycle)

/-- ADDR_OVERRIDE (R96). -/
def execAddrOverride (src : Src) (v : Word) (s : State) : Host.Outcome State Fault Refusal :=
  .next ((s.guardedWrite src Reg.CHIP_ADDR_OVR_A (fun _ => true) v).endCycle)

/-- PAD_LOOP (R137). -/
def execPadLoop (src : Src) (v : Word) (s : State) : Host.Outcome State Fault Refusal :=
  .next ((s.guardedWrite src Reg.LINK_PROOF_CTL_A (fun w => bits w 1 0 == 1) v).endCycle)

/-- LANE_LOOP (R137). -/
def execLaneLoop (src : Src) (v : Word) (s : State) : Host.Outcome State Fault Refusal :=
  .next ((s.guardedWrite src Reg.LINK_PROOF_CTL_A (fun w => bits w 1 0 == 2) v).endCycle)

/-- FRAME_LOOP (R137). -/
def execFrameLoop (src : Src) (v : Word) (s : State) : Host.Outcome State Fault Refusal :=
  .next ((s.guardedWrite src Reg.LINK_PROOF_CTL_A (fun w => bits w 1 0 == 3) v).endCycle)

/-- LINK_LOOP_OFF (R141). -/
def execLinkLoopOff (src : Src) (v : Word) (s : State) : Host.Outcome State Fault Refusal :=
  .next ((s.guardedWrite src Reg.LINK_PROOF_CTL_A (fun w => bits w 1 0 == 0) v).endCycle)

/-- ANALOG_LOOP (R305). -/
def execAnalogLoop (src : Src) (v : Word) (s : State) : Host.Outcome State Fault Refusal :=
  .next ((s.guardedWrite src Reg.FRONT_PROOF_CTL_A (fun w => bits w 1 0 == 1) v).endCycle)

/-- BITSTREAM_LOOP (R305). -/
def execBitstreamLoop (src : Src) (v : Word) (s : State) : Host.Outcome State Fault Refusal :=
  .next ((s.guardedWrite src Reg.FRONT_PROOF_CTL_A (fun w => bits w 1 0 == 2) v).endCycle)

/-- PDM_LOOP (R305). -/
def execPdmLoop (src : Src) (v : Word) (s : State) : Host.Outcome State Fault Refusal :=
  .next ((s.guardedWrite src Reg.FRONT_PROOF_CTL_A (fun w => bits w 1 0 == 3) v).endCycle)

/-- CAPTURE (R305). -/
def execCapture (src : Src) (v : Word) (s : State) : Host.Outcome State Fault Refusal :=
  .next ((s.guardedWrite src Reg.FRONT_PROOF_CTL_A (fun w => bitOf w 2) v).endCycle)

/-- FRONT_LOOP_OFF (R305). -/
def execFrontLoopOff (src : Src) (v : Word) (s : State) : Host.Outcome State Fault Refusal :=
  .next ((s.guardedWrite src Reg.FRONT_PROOF_CTL_A (fun w => bits w 1 0 == 0) v).endCycle)

/-- MODE_WITHDRAW (R519). -/
def execModeWithdraw (src : Src) (v : Word) (s : State) : Host.Outcome State Fault Refusal :=
  .next ((s.guardedWrite src Reg.CHIP_MODE_REQ_A (fun w => bits w 1 0 == 0 || bits w 1 0 == 3) v).endCycle)

/-- REQUEST_DAYLIGHT (R519). -/
def execRequestDaylight (src : Src) (v : Word) (s : State) : Host.Outcome State Fault Refusal :=
  .next ((s.guardedWrite src Reg.CHIP_MODE_REQ_A (fun w => bits w 1 0 == 1) v).endCycle)

/-- REQUEST_SAFELIGHT (R519). -/
def execRequestSafelight (src : Src) (v : Word) (s : State) : Host.Outcome State Fault Refusal :=
  .next ((s.guardedWrite src Reg.CHIP_MODE_REQ_A (fun w => bits w 1 0 == 2) v).endCycle)

/-- UNIT_RESET (R537). -/
def execUnitReset (src : Src) (v : Word) (s : State) : Host.Outcome State Fault Refusal :=
  .next ((s.guardedWrite src Reg.CHIP_RESET_A (fun w => bitOf w 0) v).endCycle)

/-- MASTER_ENABLE (R564). -/
def execMasterEnable (src : Src) (v : Word) (s : State) : Host.Outcome State Fault Refusal :=
  .next ((s.guardedWrite src Reg.PRINT_MASTER_A (fun w => bitOf w 0) v).endCycle)

/-- MASTER_DISABLE (R564). -/
def execMasterDisable (src : Src) (v : Word) (s : State) : Host.Outcome State Fault Refusal :=
  .next ((s.guardedWrite src Reg.PRINT_MASTER_A (fun w => !bitOf w 0) v).endCycle)

/-- DIGITAL_LOOP (R572). -/
def execDigitalLoop (src : Src) (v : Word) (s : State) : Host.Outcome State Fault Refusal :=
  .next ((s.guardedWrite src Reg.PRINT_PROOF_CTL_A (fun w => bits w 1 0 == 1) v).endCycle)

/-- DAC_LOOP (R572). -/
def execDacLoop (src : Src) (v : Word) (s : State) : Host.Outcome State Fault Refusal :=
  .next ((s.guardedWrite src Reg.PRINT_PROOF_CTL_A (fun w => bits w 1 0 == 2) v).endCycle)

/-- STAGE_LOOP (R572). -/
def execStageLoop (src : Src) (v : Word) (s : State) : Host.Outcome State Fault Refusal :=
  .next ((s.guardedWrite src Reg.PRINT_PROOF_CTL_A (fun w => bits w 1 0 == 3) v).endCycle)

/-- WIPE (R638). -/
def execWipe (src : Src) (v : Word) (s : State) : Host.Outcome State Fault Refusal :=
  .next ((s.guardedWrite src Reg.TANK_WIPE_A (fun w => bitOf w 0) v).endCycle)

/-- PATCH_ACTIVATE (R665). -/
def execPatchActivate (src : Src) (v : Word) (s : State) : Host.Outcome State Fault Refusal :=
  .next ((s.guardedWrite src Reg.LOUPE_PATCH_ACT_A (fun w => bitOf w 0) v).endCycle)

/-- PATCH_DEACTIVATE (R667). -/
def execPatchDeactivate (src : Src) (v : Word) (s : State) : Host.Outcome State Fault Refusal :=
  .next ((s.guardedWrite src Reg.LOUPE_PATCH_ACT_A (fun w => bitOf w 3) v).endCycle)

/-- LOUPE_RESTART (R674). -/
def execLoupeRestart (src : Src) (v : Word) (s : State) : Host.Outcome State Fault Refusal :=
  .next ((s.guardedWrite src Reg.LOUPE_PATCH_ACT_A (fun w => bitOf w 2) v).endCycle)

/-- LIFECYCLE_REQUEST (R670). -/
def execLifecycleRequest (src : Src) (v : Word) (s : State) : Host.Outcome State Fault Refusal :=
  .next ((s.guardedWrite src Reg.LOUPE_LIFE_A (fun _ => true) v).endCycle)

/-- TEST_WRITE (R671). -/
def execTestWrite (src : Src) (v : Word) (s : State) : Host.Outcome State Fault Refusal :=
  .next ((s.guardedWrite src Reg.CHIP_TEST_A (fun _ => true) v).endCycle)

end Sys2Proof.Machine
end

