-- ==== Sys2Proof/Machine/LinkCmds.lean ====
section
/-! DEFINITION. Commands of the link and its frames: SIDE_DOWN to EVENT_FIELD. -/

namespace Sys2Proof.Machine

/-! ### Operations of these commands alone -/

/-- A side goes down, and the register fields that awaited its copies are judged (R129, R175). -/
def State.sideDown (s : State) (x : Side) (byClock : Bool) : State :=
  if s.running && s.mayGoDown x byClock then (s.declareDown x byClock).judgeLost x else s

/-- The wrap of R130, where it is due. -/
def State.wrapStep (s : State) : State :=
  if !s.acting then s
  else match s.wrapDue with
  | some y => s.startWrap y
  | none => s

/-- The unwrap of R132, where it is due. -/
def State.unwrapStep (s : State) : State :=
  match s.link.wrap with
  | some y => if s.acting && s.unwrapDue y then s.endWrap y else s
  | none => s

/-- The lanes' moves under tracking: in DAYLIGHT, in ordinary frames, with TRACK_OFF at 0 (R128). -/
def State.trackLanes (s : State) (moves : List LaneMove) : State :=
  if s.acting && s.clk.daylight && s.link.training.isNone && !s.flag Reg.LINK_LINK_CFG 3 then
    (List.range 4).foldl (fun s l => s.trackLane l (nth moves l .stay)) s
  else s

/-- Fields of ordinary frames arrive on side `x`: the unit runs, and no training frame holds their place (R124). -/
def State.passing (s : State) (x : Side) : Bool := s.running && s.hears x

/-- A field of the copy on side `x`, in its place among the parts: the unit's work on it, or, under HOLD, its forwarding as
received (R115, R135). -/
def State.fieldOr (s : State) (x : Side) (fieldNo : Nat) (raw : OutSide → OutSide) (work : State → State) : State :=
  if s.holding then s.forward x (fieldNo + 2) raw raw else if s.passing x then work s else s

/-- The decision for the oldest show epoch that is due (R169, R171). -/
def State.showDecision (s : State) : State :=
  if !(s.acting && s.clk.daylight) then s
  else match s.frame.due with
  | e :: rest => s.decideShow e rest
  | [] => s

/-! ### Meanings -/

/-- SIDE_DOWN (R129). -/
def execSideDown (x : Side) (byClock : Bool) (s : State) : Host.Outcome State Fault Refusal :=
  .next ((s.sideDown x byClock).endCycle)

/-- WRAP (R130). -/
def execWrap (s : State) : Host.Outcome State Fault Refusal := .next s.wrapStep.endCycle

/-- UNWRAP (R132). -/
def execUnwrap (s : State) : Host.Outcome State Fault Refusal := .next s.unwrapStep.endCycle

/-- DELAY_TRACK (R128). -/
def execDelayTrack (moves : List LaneMove) (s : State) : Host.Outcome State Fault Refusal :=
  .next ((s.trackLanes moves).endCycle)

/-- TICK (R23). -/
def execTick (i : TickIn) (s : State) : Host.Outcome State Fault Refusal := .next ((s.tick i).endCycle)

/-- FRAME_START (R12). -/
def execFrameStart (x : Side) (i : FrameIn) (s : State) : Host.Outcome State Fault Refusal := .next ((s.frameStart x i).endCycle)

/-- HEADER_END (R166). -/
def execHeaderEnd (x : Side) (h : BitVec 416) (skew : BitVec 24) (s : State) : Host.Outcome State Fault Refusal :=
  .next ((s.headerEnd x h skew).endCycle)

/-- SHOW_CAPTURE (R167): DAYLIGHT frames have a show field. -/
def execShowCapture (x : Side) (slots : List Sample) (check : Word) (s : State) : Host.Outcome State Fault Refusal :=
  .next ((s.fieldOr x 0 (OutSide.putShow slots check)
    (fun s => if s.clk.daylight then s.captureShow x slots check else s)).endCycle)

/-- SHOW_DECISION (R169). -/
def execShowDecision (s : State) : Host.Outcome State Fault Refusal := .next s.showDecision.endCycle

/-- LISTEN_FIELD (R176). -/
def execListenField (x : Side) (ws : List Word) (check : Word) (s : State) : Host.Outcome State Fault Refusal :=
  .next ((s.fieldOr x 1 (OutSide.putListen ws check) (fun s => s.listenField x ws check)).endCycle)

/-- REGISTER_FIELD (R173). -/
def execRegisterField (x : Side) (ws : List Word) (check : Half) (s : State) : Host.Outcome State Fault Refusal :=
  .next ((s.fieldOr x 2 (OutSide.putRegister ws check) (fun s => s.registerField x ws check)).endCycle)

/-- EVENT_FIELD (R218). -/
def execEventField (x : Side) (ws : List Word) (check : Half) (s : State) : Host.Outcome State Fault Refusal :=
  .next ((s.fieldOr x 3 (OutSide.putEvent ws check) (fun s => s.eventField x ws check)).endCycle)

end Sys2Proof.Machine
end

