-- ==== Sys2Proof/Machine/MaskedCmds.lean ====
section
/-! DEFINITION. Commands that are writes of M registers: SWAP_REQUEST to MBX_PATCH_OP, FIXER_CLEAR. -/

namespace Sys2Proof.Machine

/-- A masked write `v` to the M register at `a` that acts as its row says: `fits` is given the register before and the value
the mask leaves (R233). Another write to the register is another row's, and nothing happens here. -/
def State.commandWrite (s : State) (src : Src) (a : Nat) (fits : Word → Word → Bool) (v : Word) : State :=
  if bits v 31 16 != 0 && fits (s.reg a) (maskedWrite (s.reg a) v) then s.accessWrite src a v else s

/-- SWAP_REQUEST (R348). -/
def execSwapRequest (src : Src) (v : Word) (s : State) : Host.Outcome State Fault Refusal :=
  .next ((s.commandWrite src Reg.DECIM_SWAP_CTL (fun _ new => bitOf new 0) v).endCycle)

/-- COMMIT (R370). -/
def execCommit (src : Src) (v : Word) (s : State) : Host.Outcome State Fault Refusal :=
  .next ((s.commandWrite src Reg.APER_COMMIT (fun _ new => bitOf new 3) v).endCycle)

/-- SCALE_WRITE (R367). -/
def execScaleWrite (src : Src) (v : Word) (s : State) : Host.Outcome State Fault Refusal :=
  .next ((s.commandWrite src Reg.APER_SCALE (fun _ _ => true) v).endCycle)

/-- SWITCH_ARM (R411). -/
def execSwitchArm (src : Src) (v : Word) (s : State) : Host.Outcome State Fault Refusal :=
  .next ((s.commandWrite src Reg.MX_SWITCH_CTL (fun _ new => bitOf new 0 && !bitOf new 1) v).endCycle)

/-- SWITCH_CANCEL (R415). -/
def execSwitchCancel (src : Src) (v : Word) (s : State) : Host.Outcome State Fault Refusal :=
  .next ((s.commandWrite src Reg.MX_SWITCH_CTL (fun _ new => bitOf new 1) v).endCycle)

/-- SEED_LOAD (R440). -/
def execSeedLoad (src : Src) (v : Word) (s : State) : Host.Outcome State Fault Refusal :=
  .next ((s.commandWrite src Reg.DEV_SEED_CTL (fun _ new => bitOf new 9) v).endCycle)

/-- PROFILE_COMMIT (R442). -/
def execProfileCommit (src : Src) (v : Word) (s : State) : Host.Outcome State Fault Refusal :=
  .next ((s.commandWrite src Reg.DEV_PROF_COMMIT (fun _ new => bitOf new 3) v).endCycle)

/-- TEMPLATE_ENABLE (R469). -/
def execTemplateEnable (src : Src) (v : Word) (s : State) : Host.Outcome State Fault Refusal :=
  .next ((s.commandWrite src Reg.SHEET_TPL_CTL (fun _ new => bitOf new 9 && bitOf new 8) v).endCycle)

/-- TEMPLATE_DISABLE (R468). -/
def execTemplateDisable (src : Src) (v : Word) (s : State) : Host.Outcome State Fault Refusal :=
  .next ((s.commandWrite src Reg.SHEET_TPL_CTL (fun _ new => bitOf new 9 && !bitOf new 8) v).endCycle)

/-- RELEASE_W (R505). -/
def execReleaseW (src : Src) (v : Word) (s : State) : Host.Outcome State Fault Refusal :=
  .next ((s.commandWrite src Reg.LATENT_LAT_CTL (fun _ new => bitOf new 2) v).endCycle)

/-- RELEASE_D (R505). -/
def execReleaseD (src : Src) (v : Word) (s : State) : Host.Outcome State Fault Refusal :=
  .next ((s.commandWrite src Reg.LATENT_LAT_CTL (fun _ new => bitOf new 3) v).endCycle)

/-- RUN_D_START (R497). -/
def execRunDStart (src : Src) (v : Word) (s : State) : Host.Outcome State Fault Refusal :=
  .next ((s.commandWrite src Reg.LATENT_LAT_CTL (fun old new => !bitOf old 1 && bitOf new 1) v).endCycle)

/-- STEER_SEARCH (R600). -/
def execSteerSearch (src : Src) (v : Word) (s : State) : Host.Outcome State Fault Refusal :=
  .next ((s.commandWrite src Reg.STAGE_STEER_CTL (fun _ new => bitOf new 0) v).endCycle)

/-- LATCH_CLEAR (R591). -/
def execLatchClear (src : Src) (v : Word) (s : State) : Host.Outcome State Fault Refusal :=
  .next ((s.commandWrite src Reg.STAGE_LATCH (fun old new => bits (old &&& ~~~new) 7 0 != 0) v).endCycle)

/-- ECHO (R663). -/
def execEcho (src : Src) (v : Word) (s : State) : Host.Outcome State Fault Refusal :=
  .next ((s.commandWrite src Reg.LOUPE_MBX_CMD (fun _ new => bitOf new 8 && bits new 7 0 == 0) v).endCycle)

/-- SNAPSHOT (R663). -/
def execSnapshot (src : Src) (v : Word) (s : State) : Host.Outcome State Fault Refusal :=
  .next ((s.commandWrite src Reg.LOUPE_MBX_CMD (fun _ new => bitOf new 8 && bits new 7 0 == 1) v).endCycle)

/-- EXTREME (R663). -/
def execExtreme (src : Src) (v : Word) (s : State) : Host.Outcome State Fault Refusal :=
  .next ((s.commandWrite src Reg.LOUPE_MBX_CMD (fun _ new => bitOf new 8 && bits new 7 0 == 2) v).endCycle)

/-- PATCH_SUM (R663). -/
def execPatchSum (src : Src) (v : Word) (s : State) : Host.Outcome State Fault Refusal :=
  .next ((s.commandWrite src Reg.LOUPE_MBX_CMD (fun _ new => bitOf new 8 && bits new 7 0 == 3) v).endCycle)

/-- MBX_PATCH_OP (R663). -/
def execMbxPatchOp (src : Src) (v : Word) (s : State) : Host.Outcome State Fault Refusal :=
  .next ((s.commandWrite src Reg.LOUPE_MBX_CMD (fun _ new => bitOf new 8 && decide (0x80 ≤ bits new 7 0)) v).endCycle)

/-- FIXER_CLEAR (R685). -/
def execFixerClear (src : Src) (v : Word) (s : State) : Host.Outcome State Fault Refusal :=
  .next ((s.commandWrite src Reg.FIXER_CLEAR (fun _ new => bitOf new 8) v).endCycle)

/-- BIAS_EN_SET (R280): the write sets a bit to 1, whether or not it holds 1 already. -/
def execBiasEnSet (src : Src) (v : Word) (s : State) : Host.Outcome State Fault Refusal :=
  .next ((s.commandWrite src Reg.FRONT_BIAS_EN (fun _ _ => bits (v &&& (v >>> 16)) 15 0 != 0) v).endCycle)

end Sys2Proof.Machine
end

