-- ==== Sys2Proof/Machine/PortCmds.lean ====
section
/-! DEFINITION. Commands of the command ring, the register port without guards or masks, the Loupe's own widths, and the log
writer: READ to LOUPE_UNALIGNED, LOG_WRITE; REGISTER_WRITE stands in RaceCmds.lean. -/

namespace Sys2Proof.Machine

/-! ### Operations of these commands alone -/

/-- Who executes a READ: the head of the command ring, or the Loupe (R190, R261). -/
def State.readStep (s : State) : ReadBy → State
  | .host n => s.hostRun 1 n
  | .loupe addr width => s.loupeRead addr width

/-- A write to an S register (R237). -/
def State.statusWrite (s : State) (src : Src) (addr : Nat) (v : Word) : State :=
  if Reg.kindOf (busAddr addr) == some .s && addr % 4 == 0 then s.accessWrite src (busAddr addr) v else s

/-- A write to the A word of a guarded pair (R240). -/
def State.armWrite (s : State) (src : Src) (addr : Nat) (v : Word) : State :=
  if Reg.isPairA (busAddr addr) && addr % 4 == 0 then s.accessWrite src (busAddr addr) v else s

/-- The log writer writes one entry; the entries that an overfull event ring raises are its own (R217, R692). -/
def State.logWrite (s : State) : State := if s.running then s.logStep else s

/-! ### Meanings -/

/-- READ (R190). -/
def execRead (who : ReadBy) (s : State) : Host.Outcome State Fault Refusal := .next ((s.readStep who).endCycle)

/-- WRITE (R246). -/
def execWrite (n : Nat) (s : State) : Host.Outcome State Fault Refusal := .next ((s.hostRun 2 n).endCycle)

/-- WRITE_P (R190). -/
def execWriteP (n : Nat) (s : State) : Host.Outcome State Fault Refusal := .next ((s.hostRun 3 n).endCycle)

/-- BURST_READ (R200). -/
def execBurstRead (n : Nat) (s : State) : Host.Outcome State Fault Refusal := .next ((s.hostRun 4 n).endCycle)

/-- BURST_WRITE (R202). -/
def execBurstWrite (n : Nat) (s : State) : Host.Outcome State Fault Refusal := .next ((s.hostRun 5 n).endCycle)

/-- BURST_WRITE_P (R202). -/
def execBurstWriteP (n : Nat) (s : State) : Host.Outcome State Fault Refusal := .next ((s.hostRun 6 n).endCycle)

/-- ABORT (R211). -/
def execAbort (s : State) : Host.Outcome State Fault Refusal := .next s.abortStep.endCycle

/-- STATUS_CLEAR (R237). -/
def execStatusClear (src : Src) (addr : Nat) (v : Word) (s : State) : Host.Outcome State Fault Refusal :=
  .next ((s.statusWrite src addr v).endCycle)

/-- GUARD_ARM (R240). -/
def execGuardArm (src : Src) (addr : Nat) (v : Word) (s : State) : Host.Outcome State Fault Refusal :=
  .next ((s.armWrite src addr v).endCycle)

/-- IX_ADDR_WRITE (R256). -/
def execIxAddrWrite (src : Src) (v : Word) (s : State) : Host.Outcome State Fault Refusal :=
  .next ((s.accessWrite src Reg.CHIP_IX_ADDR v).endCycle)

/-- IX_DATA_READ (R257). -/
def execIxDataRead (src : Src) (s : State) : Host.Outcome State Fault Refusal :=
  .next ((s.accessRead src Reg.CHIP_IX_DATA).endCycle)

/-- IX_DATA_WRITE (R257). -/
def execIxDataWrite (src : Src) (v : Word) (s : State) : Host.Outcome State Fault Refusal :=
  .next ((s.accessWrite src Reg.CHIP_IX_DATA v).endCycle)

/-- EPOCH_LO_READ (R31). -/
def execEpochLoRead (src : Src) (s : State) : Host.Outcome State Fault Refusal :=
  .next ((s.accessRead src Reg.CHIP_EPOCH_LO).endCycle)

/-- SCORE_READ (R485). -/
def execScoreRead (src : Src) (s : State) : Host.Outcome State Fault Refusal :=
  .next ((s.accessRead src Reg.SHEET_SCORE_READ).endCycle)

/-- FEAT_READ (R485). -/
def execFeatRead (src : Src) (s : State) : Host.Outcome State Fault Refusal :=
  .next ((s.accessRead src Reg.SHEET_FEAT_READ_0).endCycle)

/-- FRAME_LEN_READ (R660). -/
def execFrameLenRead (src : Src) (s : State) : Host.Outcome State Fault Refusal :=
  .next ((s.accessRead src Reg.LOUPE_FRAME_LEN).endCycle)

/-- LOUPE_NARROW_WRITE (R262): the value goes nowhere. -/
def execLoupeNarrowWrite (addr width : Nat) (_v : Word) (s : State) : Host.Outcome State Fault Refusal :=
  .next ((s.narrowWrite addr width).endCycle)

/-- LOUPE_UNALIGNED (R264). -/
def execLoupeUnaligned (addr width : Nat) (s : State) : Host.Outcome State Fault Refusal :=
  .next ((s.unaligned addr width).endCycle)

/-- LOG_WRITE (R692). -/
def execLogWrite (s : State) : Host.Outcome State Fault Refusal := .next s.logWrite.endCycle

end Sys2Proof.Machine
end

