-- ==== Sys2Proof/Machine/PowerCmds.lean ====
section
/-! DEFINITION. Commands of power, clocks, straps and mode changes: POR_RELEASE to CLOCK_INPUT_RETURN, RATE_BOUNDARY to
SETTLE_END, WITHHOLD_END, VBIAS_LOW, VBIAS_RISE. A command whose condition does not hold leaves the state as it is. -/

namespace Sys2Proof.Machine

/-! ### Operations of these commands alone -/

/-- Both link clocks stop (R33, R133): the inputs show no edge, the outputs hold low while it lasts (`State.outClocked`), and
every clocked element, the wrap and the frames on the outputs among them, keeps its state; the stages' hold-offs count it (R612). -/
def State.clockStop (s : State) : State :=
  ({ s with clk := { s.clk with stopped := true, edgeA := false, edgeB := false } }).stopStages

/-- Drive outputs are powered, so the missing-edge monitor is armed (R34, R35). -/
def State.monitorArmed (s : State) : Bool := s.clk.power == .up && s.ident.done && s.blockUp 3

/-- Edges return on an input (R33, R130): after a stop the rings' next entries carry gap marks (R500), and biases that VBIAS allows
meanwhile begin their ramps with the clock (R708). -/
def State.inputReturn (s : State) (x : Side) : State :=
  let s := if s.clk.stopped then s.gapMark else s
  let s := s.clockReturn x
  if s.acting then s.updateBiases else s

/-- VBIAS falls below 2.9 V: every bias is at 0 V, and no detector runs (R708). -/
def State.vbiasFall (s : State) : State :=
  { s with front := { s.front with
      vbiasOk := false
      bias := s.front.bias.map (fun b => { b with on := false, ramp := none, limit := 0, low := 0, high := 0 }) } }

/-- VBIAS rises above 2.9 V (R708). -/
def State.vbiasRise (s : State) : State :=
  let s := { s with front := { s.front with vbiasOk := true } }
  if s.acting then s.updateBiases else s

/-- The supplies are up and the power-on reset is asserted, or about to be (R707). -/
def State.unreleased (s : State) : Bool := s.clk.power == .off || s.clk.power == .por

/-! ### Meanings -/

/-- POR_RELEASE (R707). -/
def execPorRelease (s : State) : Host.Outcome State Fault Refusal :=
  .next ((if s.unreleased then s.porRelease else s).endCycle)

/-- POWER_LOSS (R694). -/
def execPowerLoss (s : State) : Host.Outcome State Fault Refusal := .next s.powerLoss.endCycle

/-- STRAP_READ_DONE (R86): of a strap read in progress. -/
def execStrapReadDone (addr role biasv : StrapSample) (fore : ForeSample) (s : State) : Host.Outcome State Fault Refusal :=
  .next ((if s.running && !s.ident.done then s.strapDone addr role biasv fore else s).endCycle)

/-- HOLD_RISE (R533). -/
def execHoldRise (s : State) : Host.Outcome State Fault Refusal := .next s.holdRise.endCycle

/-- HOLD_FALL (R535). -/
def execHoldFall (s : State) : Host.Outcome State Fault Refusal := .next s.holdFall.endCycle

/-- CLOCK_STOP (R33). -/
def execClockStop (s : State) : Host.Outcome State Fault Refusal := .next s.clockStop.endCycle

/-- EDGE_LOSS (R34, R35). -/
def execEdgeLoss (s : State) : Host.Outcome State Fault Refusal :=
  .next ((if s.monitorArmed then s.edgeLoss else s).endCycle)

/-- CLOCK_INPUT_LOST (R19): the other input has edges. -/
def execClockInputLost (i : LossIn) (s : State) : Host.Outcome State Fault Refusal :=
  .next ((if (s.running || s.holding) && !(s.sd (other i.side)).lost then s.clockLost i.side i.sent else s).endCycle)

/-- CLOCK_INPUT_RETURN (R130). -/
def execClockInputReturn (x : Side) (s : State) : Host.Outcome State Fault Refusal := .next ((s.inputReturn x).endCycle)

/-- RATE_BOUNDARY (R59). -/
def execRateBoundary (s : State) : Host.Outcome State Fault Refusal := .next s.rateBoundary.endCycle

/-- TRAINING_CENTRE (R125). -/
def execTrainingCentre (s : State) : Host.Outcome State Fault Refusal := .next s.trainingCentre.endCycle

/-- TRAINING_END (R124). -/
def execTrainingEnd (s : State) : Host.Outcome State Fault Refusal := .next s.trainingEnd.endCycle

/-- DOMAIN_SWITCH_ON_STEP (R523). -/
def execDomainSwitchOnStep (s : State) : Host.Outcome State Fault Refusal := .next s.domainStep.endCycle

/-- DOMAIN_POWER_GOOD (R524). -/
def execDomainPowerGood (d : Nat) (s : State) : Host.Outcome State Fault Refusal := .next ((s.domainGood d).endCycle)

/-- SETTLE_END (R40). -/
def execSettleEnd (s : State) : Host.Outcome State Fault Refusal := .next s.settleEnd.endCycle

/-- WITHHOLD_END (R381). -/
def execWithholdEnd (s : State) : Host.Outcome State Fault Refusal := .next s.withholdEnd.endCycle

/-- VBIAS_LOW (R708). -/
def execVbiasLow (s : State) : Host.Outcome State Fault Refusal := .next s.vbiasFall.endCycle

/-- VBIAS_RISE (R708). -/
def execVbiasRise (s : State) : Host.Outcome State Fault Refusal := .next s.vbiasRise.endCycle

end Sys2Proof.Machine
end

