-- ==== Sys2Proof/Machine/PrintCmds.lean ====
section
/-! DEFINITION. Commands of the Print path and the power-stage interface: READ_INSTANT to VERIFY_WINDOW, DRIVE_AUTO_RESTART. -/

namespace Sys2Proof.Machine

/-! ### Operations of these commands alone -/

/-- The Print path of channel `n` runs (R515, R546). -/
def State.driveRuns (s : State) (n : Nat) : Bool := s.acting && s.blockUp 3 && decide (n < 8)

/-- The stage interface of channel `n` runs (R515, R612). -/
def State.stageRuns (s : State) (n : Nat) : Bool := s.acting && s.blockUp 4 && decide (n < 8)

/-- Its latches stand, which need no clock (R583, R612). -/
def State.latchRuns (s : State) (n : Nat) : Bool := s.clk.power == .up && s.ident.done && s.blockUp 4 && decide (n < 8)

/-- A departure of more than `d` × 10 µV exceeds IMON_TRIP × 6.25 mV; 0 acts as 1 (R583, R616). -/
def State.imonOver (s : State) (d : Nat) : Bool := decide (625 * max 1 (s.fld Reg.STAGE_LIMITS 7 0) ≤ d)

/-- 256 periods complete within 96 ticks: at most 786,432 link clocks (R587). -/
def State.measureStep (s : State) (n k : Nat) : State :=
  if s.stageRuns n && k != 0 && decide (k ≤ 96 * 8192) then s.measured n k else s

/-- A verification window ends: an epoch that is a multiple of 24,000 (R606). -/
def State.atWindow (s : State) : Bool := s.acting && s.blockUp 4 && s.clk.epoch.toNat % 24000 == 0

/-- RAMP's 64th sample has been sent (R560). -/
def State.rampDue (s : State) (n : Nat) : Bool := (s.drive n).st == .ramp && decide (64 ≤ (s.drive n).k)

/-- MUTE_RESUME's condition: no clock fault is among the causes, whose end is DRIVE_AUTO_RESTART (R63, R565). -/
def State.resumeDue (s : State) (n : Nat) : Bool := s.resumeReady n && !(s.drive n).causes.testBit 1

/-- A read instant of a channel whose path runs (R552). -/
def State.instantStep (s : State) (n : Nat) (i : ReadIn) : State := if s.driveRuns n then s.readInstant n i else s

/-- The sync of a stage is lost (R588). -/
def State.lostStep (s : State) (n : Nat) : State := if s.stageRuns n && s.swsDead n then s.stageFault n 3 else s

/-- A stage is too hot (R588, R592). -/
def State.thermalStep (s : State) (n : Nat) : State := if s.stageRuns n && s.thermalDue n then s.stageFault n 4 else s

/-! ### Meanings -/

/-- DRIVE_AUTO_RESTART (R63). -/
def execDriveAutoRestart (n : Nat) (s : State) : Host.Outcome State Fault Refusal :=
  .next ((if s.driveRuns n && s.autoDue n then s.autoRestart n else s).endCycle)

/-- READ_INSTANT (R552). -/
def execReadInstant (n : Nat) (i : ReadIn) (s : State) : Host.Outcome State Fault Refusal :=
  .next (s.instantStep n i).endCycle

/-- CHANNEL_WAKE_END (R560). -/
def execChannelWakeEnd (n : Nat) (s : State) : Host.Outcome State Fault Refusal :=
  .next ((if s.driveRuns n && s.wakeDue n then s.wakeEnd n else s).endCycle)

/-- ZC_TIMEOUT (R562). -/
def execZcTimeout (n : Nat) (s : State) : Host.Outcome State Fault Refusal :=
  .next ((if s.driveRuns n && s.zcDue n then s.zcTimeout n else s).endCycle)

/-- RAMP_END (R560). -/
def execRampEnd (n : Nat) (s : State) : Host.Outcome State Fault Refusal :=
  .next ((if s.driveRuns n && s.rampDue n then s.rampEnd n else s).endCycle)

/-- BATH_END (R558). -/
def execBathEnd (n : Nat) (s : State) : Host.Outcome State Fault Refusal :=
  .next ((if s.driveRuns n && s.bathDue n then s.bathEnd n else s).endCycle)

/-- OFF_DWELL_END (R560). -/
def execOffDwellEnd (n : Nat) (s : State) : Host.Outcome State Fault Refusal :=
  .next ((if s.driveRuns n && s.dwellDue n then s.dwellEnd n else s).endCycle)

/-- MUTE_RESUME (R565). -/
def execMuteResume (n : Nat) (s : State) : Host.Outcome State Fault Refusal :=
  .next ((if s.driveRuns n && s.resumeDue n then s.muteResume n else s).endCycle)

/-- PROOF_DONE (R572). -/
def execProofDone (level : BitVec 16) (s : State) : Host.Outcome State Fault Refusal :=
  .next ((if s.acting && s.proofDue then s.proofDone level else s).endCycle)

/-- FLT_LATCH (R583): the latch needs no clock. -/
def execFltLatch (n : Nat) (s : State) : Host.Outcome State Fault Refusal :=
  .next ((if s.latchRuns n then s.modStage n (fun c => { c with flt := true }) else s).endCycle)

/-- IMON_LATCH (R583): the latch needs no clock. -/
def execImonLatch (i : ImonIn) (s : State) : Host.Outcome State Fault Refusal :=
  .next ((if s.latchRuns i.ch && s.imonOver i.departs then s.modStage i.ch (fun c => { c with imon := true }) else s).endCycle)

/-- SWS_MEASUREMENT (R587). -/
def execSwsMeasurement (n : Nat) (k : Nat) (s : State) : Host.Outcome State Fault Refusal :=
  .next ((s.measureStep n k).endCycle)

/-- SWS_MEASURE_TIMEOUT (R587). -/
def execSwsMeasureTimeout (n : Nat) (s : State) : Host.Outcome State Fault Refusal :=
  .next ((if s.stageRuns n then s.notMeasured n else s).endCycle)

/-- SWS_LOST (R588). -/
def execSwsLost (n : Nat) (s : State) : Host.Outcome State Fault Refusal :=
  .next (s.lostStep n).endCycle

/-- THERMAL_TRIP (R592). -/
def execThermalTrip (n : Nat) (s : State) : Host.Outcome State Fault Refusal :=
  .next (s.thermalStep n).endCycle

/-- THERMAL_CLEAR (R592). -/
def execThermalClear (n : Nat) (s : State) : Host.Outcome State Fault Refusal :=
  .next ((if s.acting && s.coolDue n then s.thermalClear n else s).endCycle)

/-- STAGE_RESTART (R590). -/
def execStageRestart (n : Nat) (s : State) : Host.Outcome State Fault Refusal :=
  .next ((if s.acting && s.restartDue n then s.stageRestart n else s).endCycle)

/-- STEER_SEARCH_DONE (R601). -/
def execSteerSearchDone (s : State) : Host.Outcome State Fault Refusal :=
  .next ((if s.acting && s.blockUp 4 then s.finishSearch else s).endCycle)

/-- VERIFY_WINDOW (R607): `up` says of each channel whether its level is taken to the upper step of 1/16 dB. -/
def execVerifyWindow (up : List Bool) (s : State) : Host.Outcome State Fault Refusal :=
  .next ((if s.atWindow then s.verifyWindow up else s).endCycle)

end Sys2Proof.Machine
end

