-- ==== Sys2Proof/Machine/TankCmds.lean ====
section
/-! DEFINITION. Commands of Tank, the secure region and the fog test: TAMPER_LATCH to TANK_ACCESS, ATOMIC_ADD, ATOMIC_SWAP,
TAMPER_DEASSERT. -/

namespace Sys2Proof.Machine

/-! ### Operations of these commands alone -/

/-- TAMPER is asserted: a powered unit latches it without a clock (R637, R712). -/
def State.tamperOn (s : State) : State :=
  { s with bank := { s.bank with tamperPin := true, tamperLatch := s.bank.tamperLatch || s.clk.power != .off } }

/-- The first link-clock edge with the latch set: flag, entry, wipe (R637, R650). -/
def State.tamperEdge (s : State) : State :=
  if s.tamperDue then
    let cnt := if s.bank.wiping then s.bank.sealCnt else s.tamperCnt
    let s := { s with bank := { s.bank with tamperSeen := true } }
    ((s.setFlag Reg.TANK_TANK_STATUS 6).raise Log.TANK 7 (ofBytes cnt 0 0 0)).makeWipe 5
  else s

/-- The wipe's end, and what an accepted lifecycle request does next (R639, R641, R670). -/
def State.wipeEnd (s : State) (failAt : Option Nat) : State :=
  if s.running && s.bank.wiping then (s.endWipe failAt).afterWipe failAt.isSome else s

/-- A fog-test step begins where the fog test runs; one in progress goes on (R642, R643). -/
def State.fogMove (s : State) (i : FogIn) : State :=
  if s.fogRuns || (s.acting && s.bank.phase != .idle) then s.fogStep i else s

/-- A request of another requester meets the borrowed region (R645). -/
def State.fogHeld (s : State) : State := if s.acting && s.bank.borrowed then s.fogAbort else s

/-- A step unfinished at its deadline aborts itself (R644). -/
def State.fogCut (s : State) : State := if s.acting && s.bank.phase != .idle then s.fogAbort else s

/-- A fault handler of the patch area has faulted: the watchdog, which nothing refreshes any more, expires (R672, R673). DESIGN CHOICE (log
116): it expires at once, where R672 gives it up to 2,048 ticks. -/
def State.faultExpiry (s : State) : State := if s.loupe.wedged then s.watchdog else s

/-- A cycle of the bank, in which some requests are presented (R628, R629). -/
def State.accessStep (s : State) (rs : List TankReq) : State := if s.running then (s.tankCycle rs).faultExpiry else s

/-! ### Meanings -/

/-- ATOMIC_ADD (R632). -/
def execAtomicAdd (word lane : Nat) (operand : AtomicIn) (s : State) : Host.Outcome State Fault Refusal :=
  .next ((if s.running then (s.atomic word lane operand (fun old => old + operand.value)).faultExpiry else s).endCycle)

/-- ATOMIC_SWAP (R632). -/
def execAtomicSwap (word lane : Nat) (operand : AtomicIn) (s : State) : Host.Outcome State Fault Refusal :=
  .next ((if s.running then (s.atomic word lane operand (fun _ => operand.value)).faultExpiry else s).endCycle)

/-- TAMPER_LATCH (R712). -/
def execTamperLatch (s : State) : Host.Outcome State Fault Refusal := .next s.tamperOn.endCycle

/-- TAMPER (R637). -/
def execTamper (s : State) : Host.Outcome State Fault Refusal := .next s.tamperEdge.endCycle

/-- WIPE_START (R639). -/
def execWipeStart (s : State) : Host.Outcome State Fault Refusal :=
  .next ((if s.wipeMayStart then s.startWipe else s).endCycle)

/-- WIPE_DONE (R639, R641). -/
def execWipeDone (failAt : Option Nat) (s : State) : Host.Outcome State Fault Refusal := .next ((s.wipeEnd failAt).endCycle)

/-- FOG_STEP (R643). -/
def execFogStep (i : FogIn) (s : State) : Host.Outcome State Fault Refusal := .next ((s.fogMove i).endCycle)

/-- FOG_ABORT (R645). -/
def execFogAbort (s : State) : Host.Outcome State Fault Refusal := .next s.fogHeld.endCycle

/-- FOG_STEP_DEADLINE (R644): the step aborts itself as R645 says. -/
def execFogStepDeadline (s : State) : Host.Outcome State Fault Refusal := .next s.fogCut.endCycle

/-- TANK_ACCESS (R629). -/
def execTankAccess (rs : List TankReq) (s : State) : Host.Outcome State Fault Refusal :=
  .next (s.accessStep rs).endCycle

/-- TAMPER_DEASSERT (R637). -/
def execTamperDeassert (s : State) : Host.Outcome State Fault Refusal := .next s.tamperOff.endCycle

end Sys2Proof.Machine
end

