-- ==== Sys2Proof/Machine/WatchCmds.lean ====
section
/-! DEFINITION. Commands of the Developer, the Latent buffer and the Loupe: DEV_BLOCK to WATCHDOG, MBX_DONE,
FLOOR_FUSE_RAISED. -/

namespace Sys2Proof.Machine

/-! ### Operations of these commands alone -/

/-- A block boundary: an epoch that is a multiple of 960 (R428). -/
def State.atBlock (s : State) : Bool := s.acting && s.clk.epoch.toNat % 960 == 0

/-- The pre-roll is filled: the watch ring stops, and watch matching may begin to drain (R477, R498). -/
def State.prerollStep (s : State) : State :=
  if s.acting && s.fillDue then s.fillPreroll.updateDrain else s

/-- The Loupe, started, may report itself ready (R656). -/
def State.mayReport (s : State) : Bool := s.acting && s.loupe.powered && s.loupe.starting && !s.loupe.halted

/-- The Loupe's context record, 64 words at the start of its working area (R621, R657). -/
def State.contextRecord (s : State) : List Word :=
  (List.range 64).map (Config.contextWord s.loupe.least s.loupe.greatest (s.loupe.patch == 2))

/-- The Loupe's shutdown in a countdown to SAFELIGHT is complete: its context record stands in Tank with the completion mark (R657). -/
def State.loupeShut (s : State) : State :=
  if s.acting && s.loupeUp && s.toSafe then
    let s := s.setTankWords Tank.loupeWork s.contextRecord
    { s with loupe := { s.loupe with mark := true } }
  else s

/-- The Loupe's firmware runs, and the unit with it (R656, R674). -/
def State.loupeActs (s : State) : Bool := s.acting && s.loupeUp

/-- A block of the Developer at its boundary (R428). -/
def State.blockStep (s : State) (i : DevIn) : State := if s.atBlock then s.devBlock i else s

/-- A die site has tripped (R662). -/
def State.tripStep (s : State) (k : Nat) : State := if s.tripDue k then s.tjTrip k else s

/-- The watchdog of a Loupe that runs expires (R672). -/
def State.expiryStep (s : State) : State := if s.loupeActs then s.watchdog else s

/-! ### Meanings -/

/-- DEV_BLOCK (R428). -/
def execDevBlock (i : DevIn) (s : State) : Host.Outcome State Fault Refusal := .next (s.blockStep i).endCycle

/-- JOIN_REACHED (R504). -/
def execJoinReached (s : State) : Host.Outcome State Fault Refusal :=
  .next ((if s.acting && s.joinDue then s.reachJoin else s).endCycle)

/-- PREROLL_FILLED (R498). -/
def execPrerollFilled (s : State) : Host.Outcome State Fault Refusal := .next s.prerollStep.endCycle

/-- LATENT_FREEZE (R503). -/
def execLatentFreeze (watch : Bool) (s : State) : Host.Outcome State Fault Refusal :=
  .next ((if s.acting && s.freezeDue watch then s.freeze watch else s).endCycle)

/-- LOUPE_READY (R526). -/
def execLoupeReady (s : State) : Host.Outcome State Fault Refusal :=
  .next ((if s.mayReport then s.loupeReady else s).endCycle)

/-- LOUPE_SHUTDOWN_DONE (R657). -/
def execLoupeShutdownDone (s : State) : Host.Outcome State Fault Refusal := .next s.loupeShut.endCycle

/-- SENSOR_SAMPLE (R659). -/
def execSensorSample (r : Sensors) (s : State) : Host.Outcome State Fault Refusal :=
  .next ((if s.loupeActs then s.takeSensors r else s).endCycle)

/-- TJ_TRIP (R662). -/
def execTjTrip (k : Nat) (s : State) : Host.Outcome State Fault Refusal := .next (s.tripStep k).endCycle

/-- PATCH_VERIFY_DONE (R665). -/
def execPatchVerifyDone (s : State) : Host.Outcome State Fault Refusal :=
  .next ((if s.acting && s.verifyDue then s.verifyDone else s).endCycle)

/-- LIFECYCLE (R670). -/
def execLifecycle (s : State) : Host.Outcome State Fault Refusal :=
  .next ((if s.lifeDue then s.lifecycle else s).endCycle)

/-- WATCHDOG (R672). -/
def execWatchdog (s : State) : Host.Outcome State Fault Refusal := .next s.expiryStep.endCycle

/-- MBX_DONE (R663). -/
def execMbxDone (patchResult : Word) (snap : Sensors) (s : State) : Host.Outcome State Fault Refusal :=
  .next ((if s.loupeActs then s.mbxDone patchResult snap else s).endCycle)

/-- FLOOR_FUSE_RAISED (R665). -/
def execFloorFuseRaised (s : State) : Host.Outcome State Fault Refusal :=
  .next ((if s.floorDue then s.raiseFloor else s).endCycle)

end Sys2Proof.Machine
end

