-- ==== Sys2Proof/Machine/RaceCmds.lean ====
section
/-! DEFINITION. REGISTER_WRITE, alone or in one cycle with a step of the hardware (R246, R253, R263). -/

namespace Sys2Proof.Machine

/-- A step of the hardware, as the command that tells of it makes it when it comes alone. -/
def State.hardware (s : State) : Beside → State
  | .frameStart x i => s.frameStart x i
  | .headerEnd x h skew => s.headerEnd x h skew
  | .sideDown x c => s.sideDown x c
  | .showDecision => s.showDecision
  | .rateBoundary => s.rateBoundary
  | .hqBoundary i => s.hqBoundary i
  | .lpBoundary sent bad => s.lpBoundary sent bad
  | .devBlock i => s.blockStep i
  | .biasShort k => s.shortStep k
  | .readInstant n i => s.instantStep n i
  | .swsLost n => s.lostStep n
  | .thermalTrip n => s.thermalStep n
  | .tjTrip k => s.tripStep k
  | .watchdog => s.expiryStep
  | .fogStep i => s.fogMove i
  | .tankAccess rs => s.accessStep rs
  | .logWrite => s.logWrite

/-- The hardware's step in a cycle, if there is one. -/
def State.besideStep (s : State) : Option Beside → State
  | some h => s.hardware h
  | none => s

/-- Whether the write of the register at `a` comes before the hardware's step of its cycle. As a rule the step comes first: the blocks use
a written value from the next cycle on, a sample takes the old value, and a written value outlasts a parity reload (R246, R247, R253). A
C counter counts from the value loaded, a master enable that the die temperature clears stays 0, and a Loupe that the watchdog halts stays
halted (R253, R662, R674); and a write that the state before the cycle refuses is refused. -/
def State.writeFirst (s : State) (src : Src) (a : Nat) (v : Word) : Option Beside → Bool
  | none => true
  | some (.tjTrip _) => true
  | some .watchdog => true
  | some _ => Reg.kindOf a == some .c || (s.accessWrite src a v).port.status == Status.access

/-- A write and the hardware's step in its cycle (R253). -/
def State.cycleWrite (s : State) (src : Src) (a : Nat) (v : Word) (h : Option Beside) : State :=
  if s.writeFirst src a v h then (s.accessWrite src a v).besideStep h else (s.besideStep h).accessWrite src a v

/-- A REGISTER_WRITE: one word, or the Loupe's 64-bit write as two, each in its own cycle; the hardware's step falls in the first (R246,
R253, R263). -/
def State.registerWrite (s : State) (src : Src) (addr : Nat) (i : WriteIn) : State :=
  match src, i.vals with
  | src, [v] => if addr % 4 = 0 then s.cycleWrite src (busAddr addr) v i.beside else s.besideStep i.beside
  | .loupe, [v, w] =>
    if addr % 8 = 0 then ((s.cycleWrite .loupe (busAddr addr) v i.beside).endCycle).accessWrite .loupe (busAddr (addr + 4)) w
    else s.besideStep i.beside
  | _, _ => s.besideStep i.beside

/-! ### Meanings -/

/-- REGISTER_WRITE (R246). -/
def execRegisterWrite (src : Src) (addr : Nat) (i : WriteIn) (s : State) : Host.Outcome State Fault Refusal :=
  .next ((s.registerWrite src addr i).endCycle)

end Sys2Proof.Machine
end

