-- ==== Sys2Proof/Machine/Dispatch.lean ====
section
/-! DEFINITION. The meaning of every command: one arm per constructor of `Instr`. -/

namespace Sys2Proof.Machine

/-- What a command does to everything but the queue of waiting commands. -/
def exec (i : Instr) (s : State) : Host.Outcome State Fault Refusal :=
  match i with
  | .porRelease => Sys2Proof.Machine.execPorRelease s
  | .powerLoss => Sys2Proof.Machine.execPowerLoss s
  | .strapReadDone addr role biasv fore => Sys2Proof.Machine.execStrapReadDone addr role biasv fore s
  | .holdRise => Sys2Proof.Machine.execHoldRise s
  | .holdFall => Sys2Proof.Machine.execHoldFall s
  | .clockStop => Sys2Proof.Machine.execClockStop s
  | .edgeLoss => Sys2Proof.Machine.execEdgeLoss s
  | .clockInputLost inp => Sys2Proof.Machine.execClockInputLost inp s
  | .clockInputReturn side => Sys2Proof.Machine.execClockInputReturn side s
  | .sideDown side byClock => Sys2Proof.Machine.execSideDown side byClock s
  | .wrap => Sys2Proof.Machine.execWrap s
  | .unwrap => Sys2Proof.Machine.execUnwrap s
  | .delayTrack moves => Sys2Proof.Machine.execDelayTrack moves s
  | .tick inp => Sys2Proof.Machine.execTick inp s
  | .frameStart side inp => Sys2Proof.Machine.execFrameStart side inp s
  | .headerEnd side bits skew => Sys2Proof.Machine.execHeaderEnd side bits skew s
  | .showCapture side slots check => Sys2Proof.Machine.execShowCapture side slots check s
  | .showDecision => Sys2Proof.Machine.execShowDecision s
  | .listenField side words check => Sys2Proof.Machine.execListenField side words check s
  | .registerField side words check => Sys2Proof.Machine.execRegisterField side words check s
  | .eventField side words check => Sys2Proof.Machine.execEventField side words check s
  | .read who => Sys2Proof.Machine.execRead who s
  | .write n => Sys2Proof.Machine.execWrite n s
  | .writeP n => Sys2Proof.Machine.execWriteP n s
  | .burstRead n => Sys2Proof.Machine.execBurstRead n s
  | .burstWrite n => Sys2Proof.Machine.execBurstWrite n s
  | .burstWriteP n => Sys2Proof.Machine.execBurstWriteP n s
  | .abort => Sys2Proof.Machine.execAbort s
  | .registerWrite src addr inp => Sys2Proof.Machine.execRegisterWrite src addr inp s
  | .statusClear src addr v => Sys2Proof.Machine.execStatusClear src addr v s
  | .guardArm src addr v => Sys2Proof.Machine.execGuardArm src addr v s
  | .ixAddrWrite src v => Sys2Proof.Machine.execIxAddrWrite src v s
  | .ixDataRead src => Sys2Proof.Machine.execIxDataRead src s
  | .ixDataWrite src v => Sys2Proof.Machine.execIxDataWrite src v s
  | .epochLoRead src => Sys2Proof.Machine.execEpochLoRead src s
  | .scoreRead src => Sys2Proof.Machine.execScoreRead src s
  | .featRead src => Sys2Proof.Machine.execFeatRead src s
  | .frameLenRead src => Sys2Proof.Machine.execFrameLenRead src s
  | .loupeNarrowWrite addr width v => Sys2Proof.Machine.execLoupeNarrowWrite addr width v s
  | .loupeUnaligned addr width => Sys2Proof.Machine.execLoupeUnaligned addr width s
  | .epochHiSet src v => Sys2Proof.Machine.execEpochHiSet src v s
  | .addrOverride src v => Sys2Proof.Machine.execAddrOverride src v s
  | .padLoop src v => Sys2Proof.Machine.execPadLoop src v s
  | .laneLoop src v => Sys2Proof.Machine.execLaneLoop src v s
  | .frameLoop src v => Sys2Proof.Machine.execFrameLoop src v s
  | .linkLoopOff src v => Sys2Proof.Machine.execLinkLoopOff src v s
  | .analogLoop src v => Sys2Proof.Machine.execAnalogLoop src v s
  | .bitstreamLoop src v => Sys2Proof.Machine.execBitstreamLoop src v s
  | .pdmLoop src v => Sys2Proof.Machine.execPdmLoop src v s
  | .capture src v => Sys2Proof.Machine.execCapture src v s
  | .frontLoopOff src v => Sys2Proof.Machine.execFrontLoopOff src v s
  | .modeWithdraw src v => Sys2Proof.Machine.execModeWithdraw src v s
  | .requestDaylight src v => Sys2Proof.Machine.execRequestDaylight src v s
  | .requestSafelight src v => Sys2Proof.Machine.execRequestSafelight src v s
  | .unitReset src v => Sys2Proof.Machine.execUnitReset src v s
  | .masterEnable src v => Sys2Proof.Machine.execMasterEnable src v s
  | .masterDisable src v => Sys2Proof.Machine.execMasterDisable src v s
  | .digitalLoop src v => Sys2Proof.Machine.execDigitalLoop src v s
  | .dacLoop src v => Sys2Proof.Machine.execDacLoop src v s
  | .stageLoop src v => Sys2Proof.Machine.execStageLoop src v s
  | .wipe src v => Sys2Proof.Machine.execWipe src v s
  | .patchActivate src v => Sys2Proof.Machine.execPatchActivate src v s
  | .patchDeactivate src v => Sys2Proof.Machine.execPatchDeactivate src v s
  | .loupeRestart src v => Sys2Proof.Machine.execLoupeRestart src v s
  | .lifecycleRequest src v => Sys2Proof.Machine.execLifecycleRequest src v s
  | .testWrite src v => Sys2Proof.Machine.execTestWrite src v s
  | .swapRequest src v => Sys2Proof.Machine.execSwapRequest src v s
  | .commit src v => Sys2Proof.Machine.execCommit src v s
  | .scaleWrite src v => Sys2Proof.Machine.execScaleWrite src v s
  | .switchArm src v => Sys2Proof.Machine.execSwitchArm src v s
  | .switchCancel src v => Sys2Proof.Machine.execSwitchCancel src v s
  | .seedLoad src v => Sys2Proof.Machine.execSeedLoad src v s
  | .profileCommit src v => Sys2Proof.Machine.execProfileCommit src v s
  | .templateEnable src v => Sys2Proof.Machine.execTemplateEnable src v s
  | .templateDisable src v => Sys2Proof.Machine.execTemplateDisable src v s
  | .releaseW src v => Sys2Proof.Machine.execReleaseW src v s
  | .releaseD src v => Sys2Proof.Machine.execReleaseD src v s
  | .runDStart src v => Sys2Proof.Machine.execRunDStart src v s
  | .steerSearch src v => Sys2Proof.Machine.execSteerSearch src v s
  | .latchClear src v => Sys2Proof.Machine.execLatchClear src v s
  | .biasEnSet src v => Sys2Proof.Machine.execBiasEnSet src v s
  | .echo src v => Sys2Proof.Machine.execEcho src v s
  | .snapshot src v => Sys2Proof.Machine.execSnapshot src v s
  | .extreme src v => Sys2Proof.Machine.execExtreme src v s
  | .patchSum src v => Sys2Proof.Machine.execPatchSum src v s
  | .mbxPatchOp src v => Sys2Proof.Machine.execMbxPatchOp src v s
  | .mbxDone patchResult snap => Sys2Proof.Machine.execMbxDone patchResult snap s
  | .fixerClear src v => Sys2Proof.Machine.execFixerClear src v s
  | .atomicAdd word lane operand => Sys2Proof.Machine.execAtomicAdd word lane operand s
  | .atomicSwap word lane operand => Sys2Proof.Machine.execAtomicSwap word lane operand s
  | .rateBoundary => Sys2Proof.Machine.execRateBoundary s
  | .trainingCentre => Sys2Proof.Machine.execTrainingCentre s
  | .trainingEnd => Sys2Proof.Machine.execTrainingEnd s
  | .domainSwitchOnStep => Sys2Proof.Machine.execDomainSwitchOnStep s
  | .domainPowerGood d => Sys2Proof.Machine.execDomainPowerGood d s
  | .settleEnd => Sys2Proof.Machine.execSettleEnd s
  | .driveAutoRestart ch => Sys2Proof.Machine.execDriveAutoRestart ch s
  | .biasRampEnd k => Sys2Proof.Machine.execBiasRampEnd k s
  | .biasWindowEnd k => Sys2Proof.Machine.execBiasWindowEnd k s
  | .biasShort k => Sys2Proof.Machine.execBiasShort k s
  | .biasRestart k => Sys2Proof.Machine.execBiasRestart k s
  | .biasOpen k => Sys2Proof.Machine.execBiasOpen k s
  | .biasOpenRearm k => Sys2Proof.Machine.execBiasOpenRearm k s
  | .channelStartEnd k => Sys2Proof.Machine.execChannelStartEnd k s
  | .watchStartEnd => Sys2Proof.Machine.execWatchStartEnd s
  | .converterOverload k => Sys2Proof.Machine.execConverterOverload k s
  | .pdmDecimatorStart => Sys2Proof.Machine.execPdmDecimatorStart s
  | .pdmReady => Sys2Proof.Machine.execPdmReady s
  | .captureDone => Sys2Proof.Machine.execCaptureDone s
  | .vbiasLow => Sys2Proof.Machine.execVbiasLow s
  | .vbiasRise => Sys2Proof.Machine.execVbiasRise s
  | .hqBoundary inp => Sys2Proof.Machine.execHqBoundary inp s
  | .lpBoundary bits upsets => Sys2Proof.Machine.execLpBoundary bits upsets s
  | .pathStop hq => Sys2Proof.Machine.execPathStop hq s
  | .pathStart hq => Sys2Proof.Machine.execPathStart hq s
  | .primingEnd => Sys2Proof.Machine.execPrimingEnd s
  | .phaseDone => Sys2Proof.Machine.execPhaseDone s
  | .swapApply => Sys2Proof.Machine.execSwapApply s
  | .beamXfadeStart b => Sys2Proof.Machine.execBeamXfadeStart b s
  | .xfadeDone b => Sys2Proof.Machine.execXfadeDone b s
  | .scaleApply => Sys2Proof.Machine.execScaleApply s
  | .withholdEnd => Sys2Proof.Machine.execWithholdEnd s
  | .planSwitch => Sys2Proof.Machine.execPlanSwitch s
  | .devBlock inp => Sys2Proof.Machine.execDevBlock inp s
  | .joinReached => Sys2Proof.Machine.execJoinReached s
  | .prerollFilled => Sys2Proof.Machine.execPrerollFilled s
  | .latentFreeze watch => Sys2Proof.Machine.execLatentFreeze watch s
  | .loupeReady => Sys2Proof.Machine.execLoupeReady s
  | .loupeShutdownDone => Sys2Proof.Machine.execLoupeShutdownDone s
  | .sensorSample r => Sys2Proof.Machine.execSensorSample r s
  | .tjTrip site => Sys2Proof.Machine.execTjTrip site s
  | .patchVerifyDone => Sys2Proof.Machine.execPatchVerifyDone s
  | .lifecycle => Sys2Proof.Machine.execLifecycle s
  | .watchdog => Sys2Proof.Machine.execWatchdog s
  | .readInstant ch inp => Sys2Proof.Machine.execReadInstant ch inp s
  | .channelWakeEnd ch => Sys2Proof.Machine.execChannelWakeEnd ch s
  | .zcTimeout ch => Sys2Proof.Machine.execZcTimeout ch s
  | .rampEnd ch => Sys2Proof.Machine.execRampEnd ch s
  | .bathEnd ch => Sys2Proof.Machine.execBathEnd ch s
  | .offDwellEnd ch => Sys2Proof.Machine.execOffDwellEnd ch s
  | .muteResume ch => Sys2Proof.Machine.execMuteResume ch s
  | .proofDone level => Sys2Proof.Machine.execProofDone level s
  | .fltLatch ch => Sys2Proof.Machine.execFltLatch ch s
  | .imonLatch inp => Sys2Proof.Machine.execImonLatch inp s
  | .swsMeasurement ch k => Sys2Proof.Machine.execSwsMeasurement ch k s
  | .swsMeasureTimeout ch => Sys2Proof.Machine.execSwsMeasureTimeout ch s
  | .swsLost ch => Sys2Proof.Machine.execSwsLost ch s
  | .thermalTrip ch => Sys2Proof.Machine.execThermalTrip ch s
  | .thermalClear ch => Sys2Proof.Machine.execThermalClear ch s
  | .stageRestart ch => Sys2Proof.Machine.execStageRestart ch s
  | .steerSearchDone => Sys2Proof.Machine.execSteerSearchDone s
  | .verifyWindow up => Sys2Proof.Machine.execVerifyWindow up s
  | .tamperLatch => Sys2Proof.Machine.execTamperLatch s
  | .tamper => Sys2Proof.Machine.execTamper s
  | .wipeStart => Sys2Proof.Machine.execWipeStart s
  | .wipeDone failAt => Sys2Proof.Machine.execWipeDone failAt s
  | .fogStep inp => Sys2Proof.Machine.execFogStep inp s
  | .fogAbort => Sys2Proof.Machine.execFogAbort s
  | .fogStepDeadline => Sys2Proof.Machine.execFogStepDeadline s
  | .tankAccess rs => Sys2Proof.Machine.execTankAccess rs s
  | .logWrite => Sys2Proof.Machine.execLogWrite s
  | .tamperDeassert => Sys2Proof.Machine.execTamperDeassert s
  | .floorFuseRaised => Sys2Proof.Machine.execFloorFuseRaised s

end Sys2Proof.Machine
end

