-- ==== Sys2Proof/WellFormed.lean ====
section
/-! DEFINITION. Which commands the surroundings can send: indices that exist, fields of the length their frame format has,
aligned addresses. A meaning is total all the same: what an ill-formed command lacks reads as 0. -/

namespace Sys2Proof

/-- A resistor strap's samples: 8 readings each (R73, R74). -/
def StrapSample.wf (s : StrapSample) : Bool := s.at20.length == 8 && s.at200.length == 8

/-- FORE's samples: 8 readings each (R74, R79). -/
def ForeSample.wf (f : ForeSample) : Bool := f.sink.length == 8 && f.source.length == 8

/-- A READ is a host command, or a Loupe read of a bus width (R261, R263). -/
def ReadBy.wf : ReadBy → Bool
  | .host n => decide (n ≤ 1)
  | .loupe addr width => decide (addr < 0x4000) && (width == 1 || width == 2 || width == 4 || width == 8)

/-- A word address of the port in bytes (R227). -/
def portAddr (addr : Nat) : Bool := decide (addr < 0x4000) && addr % 4 == 0

/-- Template slots and words (R463, R482). -/
def DevIn.wf (i : DevIn) : Bool := i.badTpl.all (fun p => decide (p.1 < 256) && decide (p.2 < 1024))

/-- A register field holds 4 or 32 words, an event field 4 or 16, a listen field 11 or 192 (R150, R151). -/
def lenIn (n a b : Nat) : Bool := n == a || n == b

/-- Sensor readings: four die sites, five supplies (R659). -/
def Sensors.wf (r : Sensors) : Bool := r.temps.length == 4 && r.supplies.length == 5

/-- A Tank access: a Tank word, lanes of it, and a word of data for each lane it writes (R618, R629). -/
def TankReq.wf (r : TankReq) : Bool :=
  decide (r.word < 0x30000) && r.lanes.all (fun l => decide (l < 8))
    && (match r.data with | some ds => ds.length == r.lanes.length | none => true)

/-- What a frame start names exists (R250, R384, R417, R449). -/
def FrameIn.wf (i : FrameIn) : Bool :=
  i.cfgUpsets.all (fun u => portAddr u.1 && decide (u.2 ≤ 32))
    && i.tableUpsets.all (fun u => decide (u.beam < 8) && decide (u.table < 3) && decide (u.word < 17) && decide (u.bit ≤ 32))
    && i.planUpsets.all (fun u => decide (u.1 < 16) && decide (u.2 ≤ 64))
    && i.profUpsets.all (fun u => decide (u.1 < 8) && decide (u.2 ≤ 384))

/-- Bits of coefficient words (R343). -/
def coefBits (l : List (Nat × Nat)) : Bool := l.all (fun u => decide (u.1 < 512) && decide (u.2 ≤ 32))

/-- At most the bits of a high-quality sample, for at most 16 channels (R284), and upsets of words that exist. -/
def HqIn.wf (i : HqIn) : Bool :=
  decide (i.bits.length ≤ 16) && i.bits.all (fun l => decide (l.length ≤ 128)) && coefBits i.upsets

/-- A hardware step beside a write is as its own command's (R253). -/
def Beside.wf : Beside → Bool
  | .frameStart _ i => i.wf
  | .headerEnd _ _ _ => true
  | .sideDown _ _ => true
  | .showDecision => true
  | .rateBoundary => true
  | .hqBoundary i => i.wf
  | .lpBoundary bits upsets => decide (bits.length ≤ 128) && coefBits upsets
  | .devBlock i => i.wf
  | .biasShort k => decide (k < 16)
  | .readInstant n _ => decide (n < 8)
  | .swsLost n => decide (n < 8)
  | .thermalTrip n => decide (n < 8)
  | .tjTrip k => decide (k < 4)
  | .watchdog => true
  | .fogStep i => decide (i.cycle < 4096)
  | .tankAccess rs => rs.all TankReq.wf
  | .logWrite => true

/-- One word of data, or two of the Loupe's on an address that is a multiple of 8 (R263). -/
def WriteIn.wf (src : Src) (addr : Nat) (i : WriteIn) : Bool :=
  (i.vals.length == 1 || (src == Src.loupe && i.vals.length == 2 && addr % 8 == 0))
    && (match i.beside with | some h => h.wf | none => true)

/-- Well-formed commands. -/
def Instr.wf : Instr → Bool
  | .porRelease => true
  | .powerLoss => true
  | .strapReadDone a r b f => a.wf && r.wf && b.wf && f.wf
  | .holdRise => true
  | .holdFall => true
  | .clockStop => true
  | .edgeLoss => true
  | .clockInputLost _ => true
  | .clockInputReturn _ => true
  | .sideDown _ _ => true
  | .wrap => true
  | .unwrap => true
  | .delayTrack ms => ms.length == 4
  | .tick _ => true
  | .frameStart _ i => i.wf
  | .headerEnd _ _ _ => true
  | .showCapture _ slots _ => slots.length == 1024
  | .showDecision => true
  | .listenField _ ws _ => lenIn ws.length 11 192
  | .registerField _ ws _ => lenIn ws.length 4 32
  | .eventField _ ws _ => lenIn ws.length 4 16
  | .read who => who.wf
  | .write n => decide (n ≤ 1)
  | .writeP n => decide (n ≤ 1)
  | .burstRead n => decide (n ≤ 31)
  | .burstWrite n => decide (n ≤ 31)
  | .burstWriteP n => decide (n ≤ 31)
  | .abort => true
  | .registerWrite src addr i => portAddr addr && i.wf src addr
  | .statusClear _ addr _ => portAddr addr
  | .guardArm _ addr _ => portAddr addr
  | .ixAddrWrite _ _ => true
  | .ixDataRead _ => true
  | .ixDataWrite _ _ => true
  | .epochLoRead _ => true
  | .scoreRead _ => true
  | .featRead _ => true
  | .frameLenRead _ => true
  | .loupeNarrowWrite addr width _ => (width == 1 || width == 2) && addr % width == 0
  | .loupeUnaligned addr width => (width == 2 || width == 4 || width == 8) && addr % width != 0
  | .epochHiSet _ _ => true
  | .addrOverride _ _ => true
  | .padLoop _ _ => true
  | .laneLoop _ _ => true
  | .frameLoop _ _ => true
  | .linkLoopOff _ _ => true
  | .analogLoop _ _ => true
  | .bitstreamLoop _ _ => true
  | .pdmLoop _ _ => true
  | .capture _ _ => true
  | .frontLoopOff _ _ => true
  | .modeWithdraw _ _ => true
  | .requestDaylight _ _ => true
  | .requestSafelight _ _ => true
  | .unitReset _ _ => true
  | .masterEnable _ _ => true
  | .masterDisable _ _ => true
  | .digitalLoop _ _ => true
  | .dacLoop _ _ => true
  | .stageLoop _ _ => true
  | .wipe _ _ => true
  | .patchActivate _ _ => true
  | .patchDeactivate _ _ => true
  | .loupeRestart _ _ => true
  | .lifecycleRequest _ _ => true
  | .testWrite _ _ => true
  | .swapRequest _ _ => true
  | .commit _ _ => true
  | .scaleWrite _ _ => true
  | .switchArm _ _ => true
  | .switchCancel _ _ => true
  | .seedLoad _ _ => true
  | .profileCommit _ _ => true
  | .templateEnable _ _ => true
  | .templateDisable _ _ => true
  | .releaseW _ _ => true
  | .releaseD _ _ => true
  | .runDStart _ _ => true
  | .steerSearch _ _ => true
  | .latchClear _ _ => true
  | .biasEnSet _ _ => true
  | .echo _ _ => true
  | .snapshot _ _ => true
  | .extreme _ _ => true
  | .patchSum _ _ => true
  | .mbxPatchOp _ _ => true
  | .mbxDone _ snap => snap.wf
  | .fixerClear _ _ => true
  | .atomicAdd w l _ => decide (w < 0x30000) && decide (l < 8)
  | .atomicSwap w l _ => decide (w < 0x30000) && decide (l < 8)
  | .rateBoundary => true
  | .trainingCentre => true
  | .trainingEnd => true
  | .domainSwitchOnStep => true
  | .domainPowerGood d => decide (d < 4)
  | .settleEnd => true
  | .driveAutoRestart n => decide (n < 8)
  | .biasRampEnd k => decide (k < 16)
  | .biasWindowEnd k => decide (k < 16)
  | .biasShort k => decide (k < 16)
  | .biasRestart k => decide (k < 16)
  | .biasOpen k => decide (k < 16)
  | .biasOpenRearm k => decide (k < 16)
  | .channelStartEnd k => decide (k < 16)
  | .watchStartEnd => true
  | .converterOverload k => decide (k ≤ 16)
  | .pdmDecimatorStart => true
  | .pdmReady => true
  | .captureDone => true
  | .vbiasLow => true
  | .vbiasRise => true
  | .hqBoundary i => i.wf
  | .lpBoundary bits upsets => decide (bits.length ≤ 128) && coefBits upsets
  | .pathStop _ => true
  | .pathStart _ => true
  | .primingEnd => true
  | .phaseDone => true
  | .swapApply => true
  | .beamXfadeStart b => decide (b < 8)
  | .xfadeDone b => decide (b < 8)
  | .scaleApply => true
  | .withholdEnd => true
  | .planSwitch => true
  | .devBlock i => i.wf
  | .joinReached => true
  | .prerollFilled => true
  | .latentFreeze _ => true
  | .loupeReady => true
  | .loupeShutdownDone => true
  | .sensorSample r => r.wf
  | .tjTrip k => decide (k < 4)
  | .patchVerifyDone => true
  | .lifecycle => true
  | .watchdog => true
  | .readInstant n _ => decide (n < 8)
  | .channelWakeEnd n => decide (n < 8)
  | .zcTimeout n => decide (n < 8)
  | .rampEnd n => decide (n < 8)
  | .bathEnd n => decide (n < 8)
  | .offDwellEnd n => decide (n < 8)
  | .muteResume n => decide (n < 8)
  | .proofDone _ => true
  | .fltLatch n => decide (n < 8)
  | .imonLatch i => decide (i.ch < 8)
  | .swsMeasurement n k => decide (n < 8) && k != 0
  | .swsMeasureTimeout n => decide (n < 8)
  | .swsLost n => decide (n < 8)
  | .thermalTrip n => decide (n < 8)
  | .thermalClear n => decide (n < 8)
  | .stageRestart n => decide (n < 8)
  | .steerSearchDone => true
  | .verifyWindow up => decide (up.length ≤ 8)
  | .tamperLatch => true
  | .tamper => true
  | .wipeStart => true
  | .wipeDone failAt => match failAt with | some w => decide (w < 0x800) | none => true
  | .fogStep i => decide (i.cycle < 4096)
  | .fogAbort => true
  | .fogStepDeadline => true
  | .tankAccess rs => rs.all TankReq.wf
  | .logWrite => true
  | .tamperDeassert => true
  | .floorFuseRaised => true

end Sys2Proof
end

