-- ==== Sys2Proof/Safety.lean ====
section
/-! DEFINITION. What counts as a safe step and a sound state, and the words the claims are stated in: when a state stands
between two commands, what an entry of the log says, which registers a command leaves alone. -/

namespace Sys2Proof.Machine

/-- An outcome is a next state: nothing stopped the block. -/
def Completes (o : Host.Outcome State Fault Refusal) : Prop := ∃ t, o = .next t

/-- Nothing is left over from the cycle of the command before: no raised entry unsorted, no S register barred from advancing, no
flag set in the cycle, no Fixer instance judged or released in it, no register's safe state entered in it. -/
def State.between (s : State) : Prop :=
  s.fixer.raised = [] ∧ s.bumped = [] ∧ s.caused = [] ∧ s.fixer.struck = [] ∧ s.fixer.freed = [] ∧
    s.fixer.fresh = []

/-- The state stands between two commands, and the log's staging queue takes `n` more entries without dropping one (R693). -/
def State.roomFor (s : State) (n : Nat) : Prop := s.between ∧ s.fixer.staged.length + n ≤ 63

/-- The log's staging queue within its 64 entries, the 64th taken only by the LOG_DROP entry of a run of drops (R692, R693). -/
def State.stagingBound (s : State) : Prop :=
  s.fixer.staged.length ≤ 63 ∨ (s.fixer.staged.length ≤ 64 ∧ s.fixer.dropRun = true)

/-- The condition every step keeps: Tank in its canonical form, nothing left over from the command before, the staging queue and
the event ring within their 64 entries, and the Loupe not left in a fault handler that has faulted (R188, R673, R693). -/
def State.sound (s : State) : Prop :=
  Mem.wf s.mem = true ∧ s.between ∧ s.stagingBound ∧ s.queue.events.length ≤ 64 ∧ s.loupe.wedged = false

/-- The lists that stand for the unit's fixed sets of channels, supplies, converters, beams, tags, Fixer instances and power domains
have the lengths the spec gives them (R81, R213, R272, R360, R524, R687). -/
def State.shaped (s : State) : Prop :=
  s.front.bias.length = 16 ∧ s.front.chan.length = 16 ∧ s.aper.beams.length = 8 ∧ s.print.drives.length = 8 ∧
    s.stage.ch.length = 8 ∧ s.queue.tags.length = 16 ∧ s.fixer.hist.length = 44 ∧ s.mode.good.length = 4

/-- Every waiting command is one the surroundings can send. -/
def State.wellFed (s : State) : Prop := ∀ c ∈ s.pending, c.wf = true

/-- The log entry that block `source` raises with the present epoch (R689). -/
def State.entry (s : State) (source code : Nat) (lo hi : Word) : LogEntry :=
  { epoch := s.clk.epoch, source, code, lo, hi, event := Log.isEvent s source code lo }

/-- From `s` to `t` the entries `es` have joined the staging queue, in this order, and no other. -/
def Logged (s t : State) (es : List LogEntry) : Prop := t.fixer.staged = s.fixer.staged ++ es

/-- Every register but those listed stores in `t` what it stores in `s`. -/
def KeepsRegs (s t : State) (written : List Nat) : Prop := ∀ a, a ∉ written → t.reg a = s.reg a

/-- Every byte of Tank outside `[lo, hi)` reads in `t` as in `s`. -/
def KeepsTank (s t : State) (lo hi : Nat) : Prop := ∀ a, a < lo ∨ hi ≤ a → Mem.read t.mem a = Mem.read s.mem a

/-- The parts of the state, one for each field of `State` but the registers and their parity bits. -/
inductive Part where
  | sset | bumped | caused | clk | ident | sideA | sideB | link | outA | outB | frame | queue | port | fixer | front
  | decim | aper | mx | dev | sheet | latent | print | stage | bank | mode | loupe | mem | free | pending
  deriving DecidableEq, Repr

/-- Part `p` is in `t` what it is in `s`. -/
@[reducible] def Part.same (s t : State) : Part → Prop
  | .sset => t.sset = s.sset
  | .bumped => t.bumped = s.bumped
  | .caused => t.caused = s.caused
  | .clk => t.clk = s.clk
  | .ident => t.ident = s.ident
  | .sideA => t.sideA = s.sideA
  | .sideB => t.sideB = s.sideB
  | .link => t.link = s.link
  | .outA => t.outA = s.outA
  | .outB => t.outB = s.outB
  | .frame => t.frame = s.frame
  | .queue => t.queue = s.queue
  | .port => t.port = s.port
  | .fixer => t.fixer = s.fixer
  | .front => t.front = s.front
  | .decim => t.decim = s.decim
  | .aper => t.aper = s.aper
  | .mx => t.mx = s.mx
  | .dev => t.dev = s.dev
  | .sheet => t.sheet = s.sheet
  | .latent => t.latent = s.latent
  | .print => t.print = s.print
  | .stage => t.stage = s.stage
  | .bank => t.bank = s.bank
  | .mode => t.mode = s.mode
  | .loupe => t.loupe = s.loupe
  | .mem => t.mem = s.mem
  | .free => t.free = s.free
  | .pending => t.pending = s.pending

/-- From `s` to `t` nothing changes but the parts `ps`, and what the registers `rs` store with their parity bits (R249). -/
def Only (ps : List Part) (rs : Nat → Prop) (s t : State) : Prop :=
  (∀ p, p ∉ ps → p.same s t) ∧ (∀ a, ¬ rs a → t.reg a = s.reg a ∧ t.parBit a = s.parBit a)

/-- A command that acts without a clock, or brings one back: what R33, R34, R533, R637, R707, R708 and R712 exempt from the
freeze of a stopped clock, and the loss of power. -/
def unclocked : Instr → Bool
  | .porRelease | .powerLoss | .holdRise | .holdFall | .clockStop | .edgeLoss | .clockInputReturn _ | .vbiasLow | .vbiasRise
  | .fltLatch _ | .imonLatch _ | .tamperLatch | .tamperDeassert => true
  | _ => false

/-! ### What each command can touch -/

/-- The registers that the log's own drops and the Fixer's reports write with any entry raised (R684, R693). -/
abbrev logReport : List Nat := [Reg.FIXER_FIXER_STATUS, Reg.FIXER_LOG_DROPS]

/-- The registers that a broken guarded pair writes (R241, R265). -/
abbrev portReport : List Nat := [Reg.CHIP_REG_STATUS, Reg.CHIP_REG_FAULT]

/-- The registers that a Tank word in error writes (R634, R635). -/
abbrev eccReport : List Nat :=
  [Reg.FIXER_LASTING_COUNT, Reg.TANK_CE_ADDR, Reg.TANK_CE_COUNT, Reg.TANK_TANK_STATUS, Reg.TANK_UE_ADDR, Reg.TANK_UE_COUNT]

/-- The registers that hold the readings of the Loupe's sensors (R661). -/
abbrev sensorReport : List Nat :=
  [Reg.LOUPE_SUPPLY_0, Reg.LOUPE_SUPPLY_1, Reg.LOUPE_SUPPLY_2, Reg.LOUPE_TEMP_01, Reg.LOUPE_TEMP_23]

/-- The parts of the state that a command can change beside the flags' bookkeeping and the log. -/
def ownParts : Instr → List Part
  | .registerWrite _ _ i =>
    if i.beside.isNone then
      [.clk, .ident, .sideA, .sideB, .link, .outA, .outB, .frame, .queue, .port, .front, .decim, .aper, .mx, .dev, .sheet,
       .latent, .print, .stage, .bank, .mode, .loupe, .mem]
    else
      [.clk, .ident, .sideA, .sideB, .link, .outA, .outB, .frame, .queue, .port, .front, .decim, .aper, .mx, .dev, .sheet,
       .latent, .print, .stage, .bank, .mode, .loupe, .mem, .free]
  | .porRelease =>
    [.clk, .link, .bank]
  | .powerLoss | .holdRise | .frameStart _ _ =>
    [.clk, .ident, .sideA, .sideB, .link, .outA, .outB, .frame, .queue, .port, .front, .decim, .aper, .mx, .dev, .sheet,
     .latent, .print, .stage, .bank, .mode, .loupe, .mem]
  | .strapReadDone _ _ _ _ =>
    [.ident, .queue, .port, .front, .decim, .aper, .mx, .dev, .sheet, .latent, .print, .stage, .bank, .mode, .loupe, .mem]
  | .holdFall =>
    [.clk, .mode]
  | .clockStop =>
    [.clk, .stage]
  | .edgeLoss =>
    [.clk, .print, .stage]
  | .clockInputLost _ =>
    [.clk, .sideA, .sideB, .outA, .outB]
  | .clockInputReturn _ =>
    [.clk, .sideA, .sideB, .front, .latent]
  | .sideDown _ _ | .trainingCentre =>
    [.sideA, .sideB, .link, .frame]
  | .wrap =>
    [.link]
  | .unwrap =>
    [.sideA, .sideB, .link]
  | .delayTrack _ =>
    [.sideA, .sideB]
  | .tick _ =>
    [.clk, .sideA, .sideB, .link, .front, .stage, .loupe]
  | .headerEnd _ _ _ =>
    [.clk, .ident, .sideA, .sideB, .link, .outA, .outB, .frame, .front, .decim, .aper, .mx, .dev, .sheet, .latent, .print,
     .stage, .bank, .mode, .loupe, .mem]
  | .showCapture _ _ _ =>
    [.sideA, .sideB, .outA, .outB]
  | .showDecision =>
    [.frame]
  | .listenField _ _ _ =>
    [.outA, .outB, .mx, .bank]
  | .registerField _ _ _ =>
    [.outA, .outB, .frame, .queue, .bank, .mem]
  | .eventField _ _ _ =>
    [.outA, .outB, .queue]
  | .read _ | .write _ | .writeP _ | .burstRead _ | .burstWrite _ | .burstWriteP _ =>
    [.clk, .ident, .sideA, .sideB, .link, .outA, .outB, .frame, .queue, .port, .front, .decim, .aper, .mx, .dev, .sheet,
     .latent, .print, .stage, .bank, .mode, .loupe, .mem, .free]
  | .abort | .logWrite =>
    [.queue, .bank, .mem]
  | .statusClear _ _ _ | .guardArm _ _ _ | .ixAddrWrite _ _ | .epochLoRead _ | .frameLenRead _ | .loupeNarrowWrite _ _ _
  | .loupeUnaligned _ _ | .modeWithdraw _ _ | .requestDaylight _ _ | .requestSafelight _ _ | .testWrite _ _ | .scaleWrite _ _
  | .latchClear _ _ | .fixerClear _ _ =>
    [.port]
  | .ixDataRead _ =>
    [.port, .bank, .free]
  | .ixDataWrite _ _ =>
    [.queue, .port, .front, .decim, .bank, .mem]
  | .scoreRead _ | .featRead _ =>
    [.port, .sheet]
  | .epochHiSet _ _ =>
    [.clk, .port]
  | .addrOverride _ _ =>
    [.ident, .port]
  | .padLoop _ _ | .laneLoop _ _ | .frameLoop _ _ | .linkLoopOff _ _ =>
    [.sideA, .sideB, .link, .outA, .outB, .frame, .port]
  | .analogLoop _ _ | .bitstreamLoop _ _ | .pdmLoop _ _ | .capture _ _ | .frontLoopOff _ _ | .biasEnSet _ _ =>
    [.port, .front]
  | .unitReset _ _ =>
    [.port, .mode]
  | .masterEnable _ _ | .masterDisable _ _ =>
    [.clk, .port, .print]
  | .digitalLoop _ _ | .dacLoop _ _ | .stageLoop _ _ =>
    [.port, .print]
  | .wipe _ _ | .lifecycleRequest _ _ =>
    [.port, .bank, .mode, .loupe]
  | .patchActivate _ _ | .patchDeactivate _ _ | .loupeRestart _ _ =>
    [.port, .mode, .loupe]
  | .swapRequest _ _ =>
    [.port, .decim]
  | .commit _ _ =>
    [.port, .aper]
  | .switchArm _ _ | .switchCancel _ _ =>
    [.port, .mx]
  | .seedLoad _ _ | .profileCommit _ _ =>
    [.port, .dev]
  | .templateEnable _ _ | .templateDisable _ _ =>
    [.port, .sheet, .bank]
  | .releaseW _ _ | .releaseD _ _ | .runDStart _ _ =>
    [.port, .latent]
  | .steerSearch _ _ =>
    [.port, .stage]
  | .echo _ _ | .snapshot _ _ | .extreme _ _ | .patchSum _ _ | .mbxPatchOp _ _ =>
    [.port, .loupe]
  | .mbxDone _ _ =>
    [.bank, .loupe, .free]
  | .atomicAdd _ _ _ | .atomicSwap _ _ _ =>
    [.queue, .port, .bank, .mode, .loupe, .mem, .free]
  | .rateBoundary =>
    [.clk, .link, .outA, .outB, .frame, .queue, .front, .decim, .aper, .mx, .dev, .sheet, .latent, .print, .stage, .bank,
     .mode, .loupe, .mem]
  | .trainingEnd =>
    [.sideA, .sideB, .link, .outA, .outB, .frame]
  | .domainSwitchOnStep =>
    [.mode]
  | .domainPowerGood _ =>
    [.front, .decim, .aper, .mode, .loupe]
  | .settleEnd =>
    [.clk, .mx]
  | .driveAutoRestart _ | .channelWakeEnd _ | .zcTimeout _ | .rampEnd _ | .bathEnd _ | .offDwellEnd _ | .muteResume _ =>
    [.print, .stage]
  | .biasRampEnd _ | .biasWindowEnd _ | .biasShort _ | .biasRestart _ | .biasOpen _ | .biasOpenRearm _ | .channelStartEnd _
  | .watchStartEnd | .pdmDecimatorStart | .pdmReady | .captureDone | .vbiasLow | .vbiasRise =>
    [.front]
  | .converterOverload _ | .fltLatch _ | .imonLatch _ | .swsMeasurement _ _ | .swsMeasureTimeout _ | .swsLost _ | .thermalTrip _
  | .thermalClear _ | .stageRestart _ | .steerSearchDone | .verifyWindow _ =>
    [.stage]
  | .hqBoundary _ =>
    [.queue, .front, .decim, .aper, .dev, .latent, .stage, .bank, .mem, .free]
  | .lpBoundary _ _ =>
    [.queue, .decim, .dev, .latent, .bank, .mem]
  | .pathStop _ | .pathStart _ | .primingEnd | .phaseDone | .swapApply =>
    [.decim]
  | .beamXfadeStart _ | .xfadeDone _ | .scaleApply | .withholdEnd =>
    [.aper]
  | .planSwitch =>
    [.mx]
  | .devBlock _ =>
    [.queue, .dev, .sheet, .latent, .bank, .mem]
  | .joinReached =>
    [.queue, .latent, .bank, .mem]
  | .prerollFilled =>
    [.sheet, .latent]
  | .latentFreeze _ =>
    [.latent]
  | .loupeReady =>
    [.queue, .bank, .mode, .loupe, .mem]
  | .loupeShutdownDone | .lifecycle | .wipeDone _ | .floorFuseRaised =>
    [.queue, .bank, .loupe, .mem]
  | .sensorSample _ | .tjTrip _ =>
    [.loupe]
  | .patchVerifyDone =>
    [.bank, .loupe]
  | .watchdog =>
    [.mode, .loupe]
  | .readInstant _ _ =>
    [.print, .stage, .free]
  | .proofDone _ =>
    [.print]
  | .tamperLatch | .fogStep _ | .fogAbort | .fogStepDeadline | .tamperDeassert =>
    [.bank]
  | .tamper =>
    [.bank, .mode, .loupe]
  | .wipeStart =>
    [.bank, .mem]
  | .tankAccess _ =>
    [.queue, .port, .dev, .sheet, .bank, .mode, .loupe, .mem]

/-- The parts of the state that a command can change. -/
def touchedParts (c : Instr) : List Part := [.sset, .bumped, .caused, .fixer] ++ ownParts c

/-- The registers a command can write; none for the commands that can write every one of them: a reset, the strap read, a frame
start (which carries out a unit reset and finds parity errors), and the host's and Loupe's writes at an address of theirs. -/
def touchedRegs : Instr → Option (List Nat)
  | .porRelease | .holdFall | .clockStop | .clockInputReturn _ | .domainSwitchOnStep | .settleEnd | .driveAutoRestart _
  | .biasRampEnd _ | .biasWindowEnd _ | .biasRestart _ | .biasOpenRearm _ | .channelStartEnd _ | .watchStartEnd
  | .pdmDecimatorStart | .vbiasLow | .vbiasRise | .pathStart _ | .primingEnd | .beamXfadeStart _ | .scaleApply | .withholdEnd
  | .channelWakeEnd _ | .muteResume _ | .fltLatch _ | .imonLatch _ | .swsMeasureTimeout _ | .thermalClear _ | .stageRestart _
  | .tamperLatch | .wipeStart | .tamperDeassert =>
    some (logReport)
  | .powerLoss | .strapReadDone _ _ _ _ | .holdRise | .frameStart _ _ | .read _ | .write _ | .writeP _ | .burstRead _
  | .burstWrite _ | .burstWriteP _ | .registerWrite _ _ _ =>
    none
  | .edgeLoss =>
    some (logReport ++ [Reg.CHIP_CLK_STATUS, Reg.PRINT_PROOF_CTL_A, Reg.PRINT_PROOF_CTL_B])
  | .clockInputLost _ =>
    some (logReport ++ [Reg.CHIP_CLK_STATUS])
  | .sideDown _ _ =>
    some (logReport ++ [Reg.FIXER_LASTING_COUNT, Reg.FRAME_FRAME_STATUS, Reg.LINK_LINK_STATUS])
  | .wrap =>
    some (logReport ++ [Reg.LINK_LINK_STATUS, Reg.LINK_WRAP_COUNT])
  | .unwrap | .delayTrack _ =>
    some (logReport ++ [Reg.LINK_LINK_STATUS])
  | .tick _ =>
    some (logReport ++ [Reg.CHIP_CLK_STATUS, Reg.LOUPE_LOUPE_STATUS, Reg.STAGE_STAGE_STATUS])
  | .headerEnd _ _ _ =>
    some (logReport ++ sensorReport ++ [Reg.APER_APER_STATUS, Reg.CHIP_CLK_FAULTS, Reg.CHIP_CLK_STATUS, Reg.CHIP_GAP_COUNT,
      Reg.CHIP_GAP_LAST, Reg.CHIP_ID_STATUS, Reg.CHIP_MODE_STATUS, Reg.FIXER_LASTING_COUNT, Reg.FRAME_CHECK_ERR_A,
      Reg.FRAME_CHECK_ERR_B, Reg.FRAME_FRAME_STATUS, Reg.FRAME_VOID_COUNT, Reg.FRONT_FRONT_STATUS, Reg.FRONT_PROOF_CTL_A,
      Reg.FRONT_PROOF_CTL_B, Reg.LINK_LINK_STATUS, Reg.LOUPE_PATCH_INFO, Reg.PRINT_MASTER_A, Reg.PRINT_MASTER_B])
  | .showCapture _ _ _ =>
    some (logReport ++ [Reg.FRAME_CHECK_ERR_A, Reg.FRAME_CHECK_ERR_B, Reg.FRAME_FRAME_STATUS])
  | .showDecision =>
    some (logReport ++ [Reg.FIXER_LASTING_COUNT, Reg.FRAME_FRAME_STATUS, Reg.FRAME_SHOW_ALT_COUNT, Reg.FRAME_SHOW_MISS_COUNT])
  | .listenField _ _ _ =>
    some (logReport ++ [Reg.FRAME_CHECK_ERR_A, Reg.FRAME_CHECK_ERR_B, Reg.FRAME_FRAME_STATUS, Reg.MX_CONTRIB_COUNT,
      Reg.MX_MX_STATUS, Reg.MX_SAT_COUNT, Reg.MX_SKIP_COUNT, Reg.TANK_FOG_PASSES, Reg.TANK_FOG_SKIPS, Reg.TANK_TANK_STATUS])
  | .registerField _ _ _ =>
    some (logReport ++ eccReport ++ [Reg.FRAME_CHECK_ERR_A, Reg.FRAME_CHECK_ERR_B, Reg.FRAME_FRAME_STATUS, Reg.QUEUE_CMD_DROPS,
      Reg.QUEUE_QUEUE_STATUS, Reg.QUEUE_REPLY_COUNT, Reg.TANK_FOG_PASSES, Reg.TANK_FOG_SKIPS])
  | .eventField _ _ _ =>
    some (logReport ++ [Reg.FRAME_CHECK_ERR_A, Reg.FRAME_CHECK_ERR_B, Reg.FRAME_FRAME_STATUS, Reg.QUEUE_REPLY_COUNT])
  | .abort =>
    some (logReport ++ eccReport ++ [Reg.QUEUE_QUEUE_STATUS, Reg.TANK_FOG_PASSES, Reg.TANK_FOG_SKIPS])
  | .statusClear _ addr _ => some (busAddr addr :: logReport ++ portReport)
  | .guardArm _ _ _ | .scoreRead _ | .featRead _ =>
    some (logReport ++ portReport)
  | .ixAddrWrite _ _ =>
    some (logReport ++ portReport ++ [Reg.CHIP_IX_ADDR])
  | .ixDataRead _ =>
    some (logReport ++ portReport ++ eccReport ++ [Reg.CHIP_IX_ADDR, Reg.LATENT_LAT_STATUS, Reg.TANK_FOG_PASSES, Reg.TANK_FOG_SKIPS])
  | .ixDataWrite _ _ =>
    some (logReport ++ portReport ++ eccReport ++ [Reg.CHIP_IX_ADDR, Reg.TANK_FOG_PASSES, Reg.TANK_FOG_SKIPS])
  | .epochLoRead _ =>
    some (logReport ++ portReport ++ [Reg.CHIP_EPOCH_HI])
  | .frameLenRead _ =>
    some (logReport ++ portReport ++ [Reg.LOUPE_FRAME_LEN])
  | .loupeNarrowWrite _ _ _ | .loupeUnaligned _ _ =>
    some (logReport ++ [Reg.CHIP_REG_STATUS])
  | .epochHiSet _ _ =>
    some (logReport ++ portReport ++ [Reg.CHIP_EPOCH_HI_SET_A, Reg.CHIP_EPOCH_HI_SET_B])
  | .addrOverride _ _ =>
    some (logReport ++ portReport ++ [Reg.CHIP_ADDR_OVR_A, Reg.CHIP_ADDR_OVR_B, Reg.CHIP_ID_STATUS])
  | .padLoop _ _ | .laneLoop _ _ | .frameLoop _ _ | .linkLoopOff _ _ =>
    some (logReport ++ portReport ++ [Reg.FRAME_FRAME_STATUS, Reg.LINK_PROOF_CTL_A, Reg.LINK_PROOF_CTL_B])
  | .analogLoop _ _ | .bitstreamLoop _ _ | .pdmLoop _ _ | .capture _ _ | .frontLoopOff _ _ =>
    some (logReport ++ portReport ++ [Reg.FRONT_PROOF_CTL_A, Reg.FRONT_PROOF_CTL_B])
  | .modeWithdraw _ _ | .requestDaylight _ _ | .requestSafelight _ _ =>
    some (logReport ++ portReport ++ [Reg.CHIP_MODE_REQ_A, Reg.CHIP_MODE_REQ_B])
  | .unitReset _ _ =>
    some (logReport ++ portReport ++ [Reg.CHIP_RESET_A, Reg.CHIP_RESET_B])
  | .masterEnable _ _ | .masterDisable _ _ =>
    some (logReport ++ portReport ++ [Reg.PRINT_MASTER_A, Reg.PRINT_MASTER_B])
  | .digitalLoop _ _ | .dacLoop _ _ | .stageLoop _ _ =>
    some (logReport ++ portReport ++ [Reg.PRINT_PROOF_CTL_A, Reg.PRINT_PROOF_CTL_B])
  | .wipe _ _ =>
    some (logReport ++ portReport ++ sensorReport ++ [Reg.LOUPE_LOUPE_STATUS, Reg.LOUPE_PATCH_FAILS, Reg.LOUPE_PATCH_INFO,
      Reg.TANK_WIPE_A, Reg.TANK_WIPE_B])
  | .patchActivate _ _ | .patchDeactivate _ _ | .loupeRestart _ _ =>
    some (logReport ++ portReport ++ sensorReport ++ [Reg.LOUPE_PATCH_ACT_A, Reg.LOUPE_PATCH_ACT_B, Reg.LOUPE_PATCH_INFO])
  | .lifecycleRequest _ _ =>
    some (logReport ++ portReport ++ sensorReport ++ [Reg.LOUPE_LIFE_A, Reg.LOUPE_LIFE_B, Reg.LOUPE_LOUPE_STATUS,
      Reg.LOUPE_PATCH_FAILS, Reg.LOUPE_PATCH_INFO, Reg.TANK_FOG_PASSES, Reg.TANK_FOG_SKIPS, Reg.TANK_TANK_STATUS])
  | .testWrite _ _ =>
    some (logReport ++ portReport ++ [Reg.CHIP_TEST_A, Reg.CHIP_TEST_B])
  | .swapRequest _ _ =>
    some (logReport ++ portReport ++ [Reg.DECIM_DECIM_STATUS, Reg.DECIM_SWAP_CTL])
  | .commit _ _ =>
    some (logReport ++ portReport ++ [Reg.APER_APER_STATUS, Reg.APER_COMMIT])
  | .scaleWrite _ _ =>
    some (logReport ++ portReport ++ [Reg.APER_SCALE])
  | .switchArm _ _ | .switchCancel _ _ =>
    some (logReport ++ portReport ++ [Reg.MX_MX_STATUS, Reg.MX_SWITCH_CTL])
  | .seedLoad _ _ =>
    some (logReport ++ portReport ++ [Reg.DEV_SEED_CTL])
  | .profileCommit _ _ =>
    some (logReport ++ portReport ++ [Reg.DEV_DEV_STATUS, Reg.DEV_PROF_COMMIT])
  | .templateEnable _ _ | .templateDisable _ _ =>
    some (logReport ++ portReport ++ [Reg.FIXER_LASTING_COUNT, Reg.SHEET_SHEET_STATUS, Reg.SHEET_TPL_CTL, Reg.TANK_FOG_PASSES,
      Reg.TANK_FOG_SKIPS, Reg.TANK_TANK_STATUS, Reg.TANK_UE_ADDR, Reg.TANK_UE_COUNT])
  | .releaseW _ _ | .releaseD _ _ | .runDStart _ _ =>
    some (logReport ++ portReport ++ [Reg.LATENT_LAT_CTL])
  | .steerSearch _ _ =>
    some (logReport ++ portReport ++ [Reg.STAGE_STAGE_STATUS, Reg.STAGE_STEER_CTL])
  | .latchClear _ _ =>
    some (logReport ++ portReport ++ [Reg.STAGE_LATCH])
  | .biasEnSet _ _ =>
    some (logReport ++ portReport ++ [Reg.FRONT_BIAS_EN])
  | .echo _ _ | .snapshot _ _ | .extreme _ _ | .patchSum _ _ | .mbxPatchOp _ _ =>
    some (logReport ++ portReport ++ [Reg.LOUPE_MBX_CMD])
  | .mbxDone _ _ =>
    some (logReport ++ sensorReport ++ [Reg.LOUPE_LOUPE_STATUS, Reg.LOUPE_MBX_RESULT, Reg.TANK_FOG_PASSES, Reg.TANK_FOG_SKIPS,
      Reg.TANK_TANK_STATUS])
  | .fixerClear _ _ =>
    some (logReport ++ portReport ++ [Reg.FIXER_CLEAR])
  | .atomicAdd _ _ _ | .atomicSwap _ _ _ =>
    some (logReport ++ eccReport ++ sensorReport ++ [Reg.LOUPE_PATCH_INFO, Reg.LOUPE_WDOG_COUNT, Reg.TANK_FOG_PASSES,
      Reg.TANK_FOG_SKIPS])
  | .rateBoundary =>
    some (logReport ++ eccReport ++ sensorReport ++ [Reg.APER_APER_STATUS, Reg.APER_COMMIT_COUNT, Reg.CHIP_MODE_CHANGES,
      Reg.CHIP_MODE_REQ_A, Reg.CHIP_MODE_REQ_B, Reg.CHIP_MODE_STATUS, Reg.DECIM_DECIM_STATUS, Reg.DECIM_SWAP_COUNT,
      Reg.DEV_WAKE_COUNT, Reg.DEV_WAKE_STATUS, Reg.LATENT_LAT_STATUS, Reg.LATENT_REC_COUNT, Reg.LOUPE_PATCH_INFO,
      Reg.MX_MX_STATUS, Reg.PRINT_MASTER_A, Reg.PRINT_MASTER_B, Reg.PRINT_PROOF_CTL_A, Reg.PRINT_PROOF_CTL_B,
      Reg.SHEET_ABANDON_COUNT, Reg.SHEET_MATCH_COUNT, Reg.SHEET_SHEET_STATUS, Reg.TANK_FOG_PASSES, Reg.TANK_FOG_SKIPS])
  | .trainingCentre | .trainingEnd =>
    some (logReport ++ [Reg.FRAME_FRAME_STATUS, Reg.LINK_LINK_STATUS])
  | .domainPowerGood _ =>
    some (logReport ++ sensorReport ++ [Reg.APER_COMMIT_COUNT])
  | .biasShort _ =>
    some (logReport ++ [Reg.FIXER_LASTING_COUNT, Reg.FRONT_BIAS_EN, Reg.FRONT_BIAS_FAULTS, Reg.FRONT_BIAS_SHORT])
  | .biasOpen _ =>
    some (logReport ++ [Reg.FRONT_BIAS_OPEN])
  | .converterOverload _ =>
    some (logReport ++ [Reg.FRONT_CLIP_STATUS, Reg.FRONT_FRONT_STATUS])
  | .pdmReady | .captureDone =>
    some (logReport ++ [Reg.FRONT_FRONT_STATUS])
  | .hqBoundary _ =>
    some (logReport ++ eccReport ++ [Reg.APER_APER_STATUS, Reg.APER_SAT_COUNT, Reg.DECIM_DECIM_STATUS, Reg.DECIM_SAT_COUNT,
      Reg.LATENT_LAT_STATUS, Reg.TANK_FOG_PASSES, Reg.TANK_FOG_SKIPS])
  | .lpBoundary _ _ =>
    some (logReport ++ eccReport ++ [Reg.DECIM_DECIM_STATUS, Reg.DECIM_SAT_COUNT, Reg.LATENT_LAT_STATUS, Reg.TANK_FOG_PASSES,
      Reg.TANK_FOG_SKIPS])
  | .pathStop _ | .swapApply =>
    some (logReport ++ [Reg.DECIM_DECIM_STATUS, Reg.DECIM_SWAP_COUNT])
  | .phaseDone =>
    some (logReport ++ [Reg.DECIM_DECIM_STATUS])
  | .xfadeDone _ =>
    some (logReport ++ [Reg.APER_APER_STATUS, Reg.APER_COMMIT_COUNT])
  | .planSwitch =>
    some (logReport ++ [Reg.MX_MX_STATUS])
  | .devBlock _ =>
    some (logReport ++ eccReport ++ [Reg.DEV_ACT_COUNT, Reg.DEV_ALARM_COUNT, Reg.DEV_DEV_STATUS, Reg.DEV_WAKE_COUNT,
      Reg.DEV_WAKE_STATUS, Reg.LATENT_LAT_STATUS, Reg.LATENT_REC_COUNT, Reg.SHEET_ABANDON_COUNT, Reg.SHEET_MATCH_COUNT,
      Reg.SHEET_SHEET_STATUS, Reg.TANK_FOG_PASSES, Reg.TANK_FOG_SKIPS])
  | .joinReached | .loupeReady | .loupeShutdownDone | .wipeDone _ =>
    some (logReport ++ eccReport ++ [Reg.TANK_FOG_PASSES, Reg.TANK_FOG_SKIPS])
  | .prerollFilled | .latentFreeze _ =>
    some (logReport ++ [Reg.LATENT_LAT_STATUS])
  | .sensorSample _ =>
    some (logReport ++ sensorReport ++ [Reg.LOUPE_LOUPE_STATUS])
  | .tjTrip _ =>
    some (logReport ++ [Reg.LOUPE_LOUPE_STATUS, Reg.PRINT_MASTER_A, Reg.PRINT_MASTER_B])
  | .patchVerifyDone =>
    some (logReport ++ [Reg.LOUPE_LOUPE_STATUS, Reg.LOUPE_PATCH_FAILS, Reg.LOUPE_PATCH_INFO, Reg.TANK_FOG_PASSES,
      Reg.TANK_FOG_SKIPS, Reg.TANK_TANK_STATUS])
  | .lifecycle =>
    some (logReport ++ eccReport ++ [Reg.CHIP_TEST_A, Reg.CHIP_TEST_B, Reg.LOUPE_LOUPE_STATUS, Reg.TANK_FOG_PASSES,
      Reg.TANK_FOG_SKIPS])
  | .watchdog =>
    some (logReport ++ sensorReport ++ [Reg.FIXER_LASTING_COUNT, Reg.LOUPE_PATCH_INFO, Reg.LOUPE_WDOG_COUNT])
  | .readInstant _ _ =>
    some (logReport ++ [Reg.FIXER_LASTING_COUNT, Reg.PRINT_CLIP_COUNT, Reg.PRINT_MUTE_COUNT, Reg.PRINT_PRINT_STATUS,
      Reg.PRINT_PROOF_CTL_A, Reg.PRINT_PROOF_CTL_B])
  | .zcTimeout _ =>
    some (logReport ++ [Reg.PRINT_PRINT_STATUS, Reg.PRINT_ZC_TIMEOUTS])
  | .rampEnd _ =>
    some (logReport ++ [Reg.PRINT_START_COUNT])
  | .bathEnd _ =>
    some (logReport ++ [Reg.PRINT_MUTE_COUNT])
  | .offDwellEnd _ =>
    some (logReport ++ [Reg.PRINT_PROOF_CTL_A, Reg.PRINT_PROOF_CTL_B])
  | .proofDone _ =>
    some (logReport ++ [Reg.PRINT_PRINT_STATUS, Reg.PRINT_PROOF_CTL_A, Reg.PRINT_PROOF_CTL_B])
  | .swsMeasurement _ _ | .steerSearchDone =>
    some (logReport ++ [Reg.STAGE_STAGE_STATUS])
  | .swsLost _ | .thermalTrip _ =>
    some (logReport ++ [Reg.FIXER_LASTING_COUNT, Reg.STAGE_LATCH, Reg.STAGE_STAGE_STATUS, Reg.STAGE_TRIP_COUNT])
  | .verifyWindow _ =>
    some (logReport ++ [Reg.STAGE_VERIFY_STATUS])
  | .tamper =>
    some (logReport ++ sensorReport ++ [Reg.LOUPE_LOUPE_STATUS, Reg.LOUPE_PATCH_FAILS, Reg.LOUPE_PATCH_INFO, Reg.TANK_TANK_STATUS])
  | .fogStep _ =>
    some (logReport ++ eccReport ++ [Reg.TANK_FOG_FAIL_ADDR, Reg.TANK_FOG_PASSES, Reg.TANK_FOG_SKIPS])
  | .fogAbort | .fogStepDeadline =>
    some (logReport ++ [Reg.TANK_FOG_PASSES, Reg.TANK_FOG_SKIPS, Reg.TANK_TANK_STATUS])
  | .tankAccess _ =>
    some (logReport ++ eccReport ++ sensorReport ++ [Reg.LOUPE_PATCH_INFO, Reg.LOUPE_WDOG_COUNT, Reg.SHEET_SHEET_STATUS,
      Reg.TANK_FOG_PASSES, Reg.TANK_FOG_SKIPS])
  | .logWrite =>
    some (logReport ++ eccReport ++ [Reg.FIXER_LOG_TOTAL, Reg.QUEUE_EVT_COUNT, Reg.QUEUE_EVT_DROPS, Reg.QUEUE_QUEUE_STATUS,
      Reg.TANK_FOG_PASSES, Reg.TANK_FOG_SKIPS])
  | .floorFuseRaised =>
    some (logReport ++ eccReport ++ [Reg.LOUPE_LOUPE_STATUS, Reg.LOUPE_PATCH_INFO, Reg.TANK_FOG_PASSES, Reg.TANK_FOG_SKIPS])

/-- Whether a command can write the register at `a`. -/
def mayWrite (c : Instr) (a : Nat) : Prop := ∀ l, touchedRegs c = some l → a ∈ l

/-! ### Words of the claims -/

/-- A valid header of the selected or the other side, received from the ring under lock, outside training, that carries the FAW and
is not void or wrapped. -/
def GoodHeader (s : State) (x : Side) (h : BitVec 416) : Prop :=
  s.acting = true ∧ s.hears x = true ∧ (s.sd x).lock = true ∧ (s.sd x).faw = true ∧ Hdr.faw h = fawWord.toNat ∧
    Hdr.checkOk s.clk.daylight h = true ∧ Hdr.void h = false ∧ Hdr.wrapped h = false

/-- Neither source holds a guarded pair (R240). -/
def State.noPair (s : State) : Prop := s.port.armHost = none ∧ s.port.armLoupe = none

/-- No entry of the rings meets anything of Tank's own on its way there: no stored error stands and the fog test borrows no region. -/
def State.calmTank (s : State) : Prop := s.bank.errs = [] ∧ s.bank.borrowed = false

/-- The word of Tank at which the next reply, and the next accepted packet, is kept (R621). -/
def State.replyAt (s : State) : Nat := Tank.replyRing + 32 * s.replySlot
def State.packetAt (s : State) : Nat := Tank.cmdRing + 32 * s.cmdSlot

/-- The word of Tank at which the next event is kept (R621). -/
def State.eventAt (s : State) : Nat := Tank.eventRing + s.eventSlot

/-- The words `ws` stand in Tank from word `w` of it on, and every other byte is as it was. -/
def State.tankHolds (s t : State) (w : Nat) (ws : List Word) : Prop :=
  (∀ i < ws.length, t.tank (w + i) = nth ws i 0) ∧ KeepsTank s t (4 * w) (4 * (w + ws.length))

/-- The command that the words `p` of an accepted packet make, in the next free entry of its ring (R190, R200, R621). -/
def State.cmdOf (s : State) (p : List Word) : Cmd :=
  let c : Cmd := ⟨p.headD 0, p.getD 1 0, p.drop (if isBurst (bits (p.headD 0) 31 28) then 2 else 1), false, s.cmdSlot⟩
  { c with bad := isBurst (bits (p.headD 0) 31 28) && c.malformed s.clk.daylight }

/-- Command `c` stands at the head of the command ring and has not begun, `rest` behind it, and no abort is registered. -/
def State.atHead (s : State) (c : Cmd) (rest : List Cmd) : Prop :=
  s.queue.cmds = c :: rest ∧ s.queue.running = false ∧ s.queue.aborts = []

/-- A register that only stores what is written to it: the counters, and the M registers of pages 0 to 3 (R246). -/
def plainReg (a : Nat) : Prop := Reg.kindOf a = some .c ∨ (Reg.kindOf a = some .m ∧ Reg.pageOf a ≤ 3)

/-- What a 32-bit write `v` of such a register leaves in it (R233). -/
def State.stored (s : State) (a : Nat) (v : Word) : Word :=
  if Reg.kindOf a = some .c then v else if bits v 31 16 = 0 then s.reg a else maskedWrite (s.reg a) v

/-- The guarded rows: for each the source, the A word of its pair, and the word it writes to the B address. -/
def guardedRow : Instr → Option (Src × Nat × Word)
  | .epochHiSet src v => some (src, Reg.CHIP_EPOCH_HI_SET_A, v)
  | .addrOverride src v => some (src, Reg.CHIP_ADDR_OVR_A, v)
  | .padLoop src v => some (src, Reg.LINK_PROOF_CTL_A, v)
  | .laneLoop src v => some (src, Reg.LINK_PROOF_CTL_A, v)
  | .frameLoop src v => some (src, Reg.LINK_PROOF_CTL_A, v)
  | .linkLoopOff src v => some (src, Reg.LINK_PROOF_CTL_A, v)
  | .analogLoop src v => some (src, Reg.FRONT_PROOF_CTL_A, v)
  | .bitstreamLoop src v => some (src, Reg.FRONT_PROOF_CTL_A, v)
  | .pdmLoop src v => some (src, Reg.FRONT_PROOF_CTL_A, v)
  | .capture src v => some (src, Reg.FRONT_PROOF_CTL_A, v)
  | .frontLoopOff src v => some (src, Reg.FRONT_PROOF_CTL_A, v)
  | .modeWithdraw src v => some (src, Reg.CHIP_MODE_REQ_A, v)
  | .requestDaylight src v => some (src, Reg.CHIP_MODE_REQ_A, v)
  | .requestSafelight src v => some (src, Reg.CHIP_MODE_REQ_A, v)
  | .unitReset src v => some (src, Reg.CHIP_RESET_A, v)
  | .masterEnable src v => some (src, Reg.PRINT_MASTER_A, v)
  | .masterDisable src v => some (src, Reg.PRINT_MASTER_A, v)
  | .digitalLoop src v => some (src, Reg.PRINT_PROOF_CTL_A, v)
  | .dacLoop src v => some (src, Reg.PRINT_PROOF_CTL_A, v)
  | .stageLoop src v => some (src, Reg.PRINT_PROOF_CTL_A, v)
  | .wipe src v => some (src, Reg.TANK_WIPE_A, v)
  | .patchActivate src v => some (src, Reg.LOUPE_PATCH_ACT_A, v)
  | .patchDeactivate src v => some (src, Reg.LOUPE_PATCH_ACT_A, v)
  | .loupeRestart src v => some (src, Reg.LOUPE_PATCH_ACT_A, v)
  | .lifecycleRequest src v => some (src, Reg.LOUPE_LIFE_A, v)
  | .testWrite src v => some (src, Reg.CHIP_TEST_A, v)
  | _ => none

/-- The armed values that a guarded row stands for, where its rule names some. -/
def rowFits : Instr → Word → Bool
  | .padLoop _ _ => fun w => bits w 1 0 == 1
  | .laneLoop _ _ => fun w => bits w 1 0 == 2
  | .frameLoop _ _ => fun w => bits w 1 0 == 3
  | .linkLoopOff _ _ => fun w => bits w 1 0 == 0
  | .analogLoop _ _ => fun w => bits w 1 0 == 1
  | .bitstreamLoop _ _ => fun w => bits w 1 0 == 2
  | .pdmLoop _ _ => fun w => bits w 1 0 == 3
  | .capture _ _ => fun w => bitOf w 2
  | .frontLoopOff _ _ => fun w => bits w 1 0 == 0
  | .modeWithdraw _ _ => fun w => bits w 1 0 == 0 || bits w 1 0 == 3
  | .requestDaylight _ _ => fun w => bits w 1 0 == 1
  | .requestSafelight _ _ => fun w => bits w 1 0 == 2
  | .unitReset _ _ => fun w => bitOf w 0
  | .masterEnable _ _ => fun w => bitOf w 0
  | .masterDisable _ _ => fun w => !bitOf w 0
  | .digitalLoop _ _ => fun w => bits w 1 0 == 1
  | .dacLoop _ _ => fun w => bits w 1 0 == 2
  | .stageLoop _ _ => fun w => bits w 1 0 == 3
  | .wipe _ _ => fun w => bitOf w 0
  | .patchActivate _ _ => fun w => bitOf w 0
  | .patchDeactivate _ _ => fun w => bitOf w 3
  | .loupeRestart _ _ => fun w => bitOf w 2
  | _ => fun _ => true

/-- The B write of row `c` completes the pair: the source reaches the port, its pair at `a` is armed with the complement of `v`, which
the row stands for, the other source holds none, the page answers, and no rule refuses the value. -/
def State.pairReady (s : State) (src : Src) (a : Nat) (v : Word) : Prop :=
  s.between ∧ s.reaches src = true ∧ s.armed src = some ⟨a, ~~~v⟩ ∧ s.armed (otherSrc src) = none ∧ s.pageOff a = false ∧
    s.guardRefused src a (~~~v &&& guardMask a) = false

/-- A masked write `v` of the M register at `a` reaches it: the source reaches the port, no pair is armed, the mask is not 0, the
page answers, and no rule refuses the value. -/
def State.writeReady (s : State) (src : Src) (a : Nat) (v : Word) : Prop :=
  s.between ∧ s.reaches src = true ∧ s.noPair ∧ bits v 31 16 ≠ 0 ∧ s.pageOff a = false ∧
    s.maskedRefused a v (maskedWrite (s.reg a) v) = false

/-- The mailbox rows, and the OPs each stands for (R663). -/
def mailboxRow : Instr → Option (Src × Word)
  | .echo src v => some (src, v)
  | .snapshot src v => some (src, v)
  | .extreme src v => some (src, v)
  | .patchSum src v => some (src, v)
  | .mbxPatchOp src v => some (src, v)
  | _ => none

def mailboxFits : Instr → Nat → Bool
  | .echo _ _ => fun op => op == 0
  | .snapshot _ _ => fun op => op == 1
  | .extreme _ _ => fun op => op == 2
  | .patchSum _ _ => fun op => op == 3
  | .mbxPatchOp _ _ => fun op => decide (0x80 ≤ op)
  | _ => fun _ => false

/-- Channel `n` meets no cause to stop at a read instant but its run request: no register safe state, no stage fault, no loop, no wait after an edge loss, and
its present epoch was judged free of non-audio payload. -/
def State.quietDrive (s : State) (n : Nat) : Bool :=
  !s.driveHeld n && !(s.stageCh n).faultPend && !s.stageLoop n && (s.toneOn n).1 == 0 && !(s.drive n).edgeWait && !(s.drive n).unknown &&
    !(s.drive n).naClass && !(s.drive n).naPre

/-- The gained sample of channel `n` of the decided epoch `c`, whose frame sample is that of `e` (R550, R551). -/
def State.gainedSample (s : State) (n : Nat) (e : Epoch32) (c : ShowEpoch) : Int :=
  (gained ((s.drive n).glide ((s.driveSample e).gain n)).gNow (c.slot ((s.driveSample e).slot n)).2).1

/-- A field of a word of Tank. -/
def State.fldTank (s : State) (w hi lo : Nat) : Nat := bits (s.tank w) hi lo

/-- The accepted value `v` of the pair at `a` waits for the frame start that puts it in force. -/
def State.pairWaits (s t : State) (a : Nat) (v : Word) : Prop :=
  (a = Reg.CHIP_EPOCH_HI_SET_A → t.clk.epochHiPend = some (v.truncate 16)) ∧
  (a = Reg.CHIP_ADDR_OVR_A → if bitOf v 14 = true ∧ bits v 7 0 = 0xFF then t.flag Reg.CHIP_ID_STATUS 11 = true ∧ t.ident.ovrPend = s.ident.ovrPend
    else t.ident.ovrPend = s.ident.ovrPend ++ [v]) ∧
  (a = Reg.CHIP_RESET_A → t.mode.resetPend = (s.mode.resetPend || bitOf v 0)) ∧
  (a = Reg.LINK_PROOF_CTL_A → t.link.loopPend = some v) ∧
  (a = Reg.FRONT_PROOF_CTL_A → t.front.loopPend = some v) ∧
  (a = Reg.PRINT_PROOF_CTL_A → t.print.loopPend = some v)

/-- Channel `k`'s output of the filter set in use at a boundary outside a transition, from what its input has sent since the last. -/
def State.ownSet (s : State) (k : Nat) (sent : List Bool) : Int :=
  if s.decim.inUse then (s.chainStep k sent none (some (s.tapSet true))).1.2 else (s.chainStep k sent (some (s.tapSet false)) none).1.1

end Sys2Proof.Machine
end

