-- ==== Sys2Proof/Certificates/Slice0/Obligations.lean ====
section
/-! DEFINITION. The statements about the unit. In parentheses stand the rules of spec/ that a statement's clauses come from; where
OBLIGATIONS.json calls a statement stated, it states the rules it cites whole, elsewhere it may state a rule in part. -/

open Sys2Proof Sys2Proof.Machine

/-! ### The block as a whole -/

/-- A step carries out the command at the front of the queue on the state whose queue is the rest; with no command waiting it changes nothing
(log entry 1). -/
def Obligations.StepRunsFront : Prop :=
  (∀ (s : State) (c : Instr), step (s.push c) = exec c s) ∧
  (∀ (s : State) (c : Instr) (rest : List Instr), s.pending = c :: rest → step s = exec c { s with pending := rest }) ∧
  (∀ s : State, s.pending = [] → step s = .next s)

/-- Every command on every state answers a next state, and no command touches the queue of those that wait: the unit has no error that ends it
(R184, R193, R699). -/
def Obligations.EveryCommandCompletesAndKeepsTheQueue : Prop :=
  ∀ (c : Instr) (s : State), ∃ t, exec c s = .next t ∧ t.pending = s.pending

/-- Whatever a command does, it leaves alone every part of the state that is not its own and every register that it does not write: a command's
parts and registers are those of the tables `touchedParts` and `touchedRegs`, with the registers that a logged entry, a broken pair or a check
error writes besides. So no stage command moves a filter, no header writes a drive's gain, and a command of one block reads through to another
only where the table says so. -/
def Obligations.EveryCommandKeepsWhatIsNotItsOwn : Prop :=
  ∀ (c : Instr) (s : State), ∃ t, exec c s = .next t ∧ Only (touchedParts c) (mayWrite c) s t

/-- From every state that holds Tank in its canonical form, has nothing left over from the command before, and keeps the log's staging queue and
the event ring within their 64 entries, a step of the block gives a state that does so too (R188, R693). -/
def Obligations.StepKeepsSoundState : Prop :=
  ∀ s t : State, s.sound → step s = .next t → t.sound

/-- From every state in which each fixed set of channels, supplies, converters, beams, tags, Fixer instances and power domains has its number of
members, a step of the block gives a state in which it has: no command loses one or makes another. -/
def Obligations.StepKeepsShape : Prop :=
  ∀ s t : State, s.shaped → step s = .next t → t.shaped

/-- The state after reset: every register holds its reset value, the power-on reset is asserted, no frame has been forwarded, the format is
SAFELIGHT with the request at 0, no strap is read, the log is empty and numbers from 0, and no command waits (R691, R730; the values of log
entries 2 and 3 are the model's choice). The state after reset is sound, and every fixed set has its number of members. -/
def Obligations.ResetState : Prop :=
  (∀ a, State.reset.reg a = Reg.resetOf a) ∧ State.reset.reg Reg.FIXER_LOG_TOTAL = 0#32 ∧ State.reset.request = 0 ∧
  State.reset.clk.power = .por ∧ State.reset.clk.daylight = false ∧ State.reset.clk.hasEpoch = false ∧
  State.reset.link.forwarding = false ∧ State.reset.ident.done = false ∧ State.reset.fixer.staged = [] ∧
  (∀ a, Mem.read State.reset.mem a = Mem.blank) ∧ State.reset.pending = [] ∧
  State.reset.sound ∧ State.reset.shaped

/-- While both link clocks are stopped, every command but those that act without a clock (the drives' missing-edge monitor, HOLD, supplies, the
VBIAS comparator, the stage and tamper latches) or bring one back leaves the whole state as it is: no register, timer, Fixer history, log entry
or byte of Tank changes. -/
def Obligations.StoppedClockFreezesEverything : Prop :=
  ∀ (c : Instr) (s : State), s.between → s.clk.stopped = true → unclocked c = false → exec c s = .next s

/-! ### Power, resets, straps and clocks -/

/-- At the release of the power-on reset the unit forwards, both outputs have a clock while an input has, the tamper latch takes the level of
TAMPER, and the power-up wipe is pending; nothing else changes. HOLD high at the release keeps the unit in HOLD (R115, R532, R637, R638; that
forwarding begins with the release itself is log entry 16). -/
def Obligations.PowerOnResetReleases : Prop :=
  ∀ s : State, s.between → s.clk.power = .off ∨ s.clk.power = .por →
    ∃ t, exec .porRelease s = .next t ∧
      t.clk = { s.clk with power := if s.mode.holdPin then .hold else .up } ∧
      t.link = { s.link with forwarding := true } ∧
      (s.link.loop = none → t.outClocked .a = !s.clk.stopped ∧ t.outClocked .b = !s.clk.stopped) ∧
      t.bank = { s.bank with tamperLatch := s.bank.tamperPin, wipePend := t.bank.wipePend, wipeCause := t.bank.wipeCause } ∧
      (t.bank.wipePend || t.bank.wiping) = true ∧ 1 ≤ t.bank.wipeCause ∧
      t = { s with clk := t.clk, link := t.link, bank := t.bank }

/-- Entries still staged at the rise of HOLD, or at power loss, are lost and take no number: the staging queue is empty after either, nothing of
the log in Tank has been written, and LOG_TOTAL stands where it stood across HOLD (R694). -/
def Obligations.HoldAndPowerLossDropStagedEntries : Prop :=
  (∀ s : State, s.clk.power = .up → ∃ t, exec .holdRise s = .next t ∧ t.fixer.staged = [] ∧
    t.reg Reg.FIXER_LOG_TOTAL = s.reg Reg.FIXER_LOG_TOTAL ∧
    (∀ a, 4 * Tank.log ≤ a → a < 4 * Tank.log + 65536 → Mem.read t.mem a = Mem.read s.mem a)) ∧
  (∀ s : State, ∃ t, exec .powerLoss s = .next t ∧ t.fixer.staged = [] ∧ t.reg Reg.FIXER_LOG_TOTAL = 0#32)

/-- HOLD rises on a powered unit: every register is at its reset value but the log's two counters, LATCH and the carriers; with these the codes
of the stages and the carrier result in force are retained. The five segments that no register can release keep their contents and every other
byte is as after power-up, every drive channel stands in OFF with SHDN asserted and its output at 0, every bias is off, no frame lock is held,
and the outputs, forwarding and the tamper latch go on. HOLD falls: the unit is up again, in SAFELIGHT, and its straps are to be read. Power
lost: every register and Tank are as at power-up, nothing is forwarded, and the fuses stand (R134, R135, R533, R534, R535, R612, R675, R691). The
model's choice: that R612 is the exception from R534 for LATCH, the carriers, the codes and the result is log entry 83, what else stands over
HOLD log entry 31, and the value that bytes outside the five segments read, which R518 leaves undefined, log entry 3. -/
def Obligations.HoldAndPowerLossReset : Prop :=
  (∀ s : State, s.clk.power = .up → ∃ t, exec .holdRise s = .next t ∧
    (∀ a, t.reg a = if a ∈ heldRegs then s.reg a else Reg.resetOf a) ∧
    (∀ n, (t.stageCh n).code = (s.stageCh n).code) ∧ t.stage.resMode = s.stage.resMode ∧ t.stage.resP = s.stage.resP ∧
    t.stage.resFreq = s.stage.resFreq ∧
    (∀ a, Mem.read t.mem a = if a < 5 * 0x20000 then Mem.read s.mem a else Mem.blank) ∧
    (∀ d ∈ t.print.drives, d.st = .off ∧ d.out = 0) ∧ (∀ c ∈ t.stage.ch, c.relTick = none) ∧ (∀ b ∈ t.front.bias, b.on = false) ∧
    t.sideA.lock = false ∧ t.sideB.lock = false ∧ t.link.wrap = none ∧ t.link.forwarding = s.link.forwarding ∧
    t.outA = s.outA ∧ t.outB = s.outB ∧ t.bank.tamperLatch = s.bank.tamperLatch ∧
    t.clk.power = .hold ∧ t.mode.holdPin = true ∧ t.ident.done = false ∧ t.pending = s.pending) ∧
  (∀ s : State, s.between → s.clk.power = .hold → ∃ t, exec .holdFall s = .next t ∧
    t = { s with clk := { s.clk with power := .up }, mode := { s.mode with holdPin := false, cause := 1 } }) ∧
  (∀ s : State, ∃ t, exec .powerLoss s = .next t ∧ (∀ a, t.reg a = Reg.resetOf a) ∧ (∀ a, Mem.read t.mem a = Mem.blank) ∧
    t.clk.power = .off ∧ t.link.forwarding = false ∧ t.outClocked .a = false ∧ t.outClocked .b = false ∧
    t.loupe.life = s.loupe.life ∧ t.loupe.floor = s.loupe.floor ∧ t.bank.tamperLatch = false ∧ t.pending = s.pending)

/-- The end of a strap read loads each strap-derived default into the register that holds it, where nothing has been written to it since the
reset (HOLD leaves only registers that hold no such default): with the codes the ladders decode to, the personality of R81 gives the microphone
set, the bias set and voltages, the SAFELIGHT and sense microphones, the channels in use and the slot of each, and the FORE bit. GROUP is the
ADDR code, and the rings and the guarded pairs are empty (R81 to R87, R189, R244). -/
def Obligations.StrapReadLoadsDefaults : Prop :=
  ∀ (s : State) (addr role biasv : StrapSample) (fore : ForeSample), s.running = true → s.ident.done = false →
    (∀ a, a ∉ heldRegs → assocGet s.regs a = none) →
    ∃ t, exec (.strapReadDone addr role biasv fore) s = .next t ∧ t.ident.done = true ∧
      t.ident.addrCode = (decodeStrap addr).code ∧ t.ident.roleCode = (decodeStrap role).code ∧
      t.ident.biasCode = (decodeStrap biasv).code ∧ t.ident.group = (decodeStrap addr).code ∧
      t.reg Reg.FRONT_MIC_EN = (if t.role.layout = 0 then 1#32 else 0xFFFF#32) ∧
      t.reg Reg.FRONT_BIAS_EN = (if t.role.layout = 0 then 1#32 else 0xFFFF#32) ∧
      t.reg Reg.FRONT_BIAS_V_LO = BitVec.ofNat 32 (0x5555 * biasDefault t.ident.biasCode) ∧
      t.reg Reg.FRONT_BIAS_V_HI = BitVec.ofNat 32 (0x5555 * biasDefault t.ident.biasCode) ∧
      t.fld Reg.FRONT_WATCH_CFG 3 0 = t.role.safe ∧ t.fld Reg.STAGE_SENSE_CFG 4 0 = t.role.sense ∧
      t.flag Reg.DECIM_DECIM_CFG 8 = (foreHigh fore.sink && foreHigh fore.source) ∧
      t.reg Reg.PRINT_CH_EN = BitVec.ofNat 32 (2 ^ t.role.drives - 1) ∧
      (∀ n, n < t.role.drives → t.reg (Reg.PRINT_CH_CTRL_0 + 4 * n) = BitVec.ofNat 32 (t.ident.group * 64 + t.role.base + n)) ∧
      t.queue.cmds = [] ∧ t.queue.replies = [] ∧ t.queue.events = [] ∧ t.port.armHost = none ∧ t.port.armLoupe = none

/-- Both clocks stop: both edge flags read 0, both outputs hold low with no clock, the block does not run, and no register, log entry, byte of
Tank or part of any other block changes, a wrap and the frames on the outputs included, but that a thermal latch-out marks the epoch of the stop
(R33, R133, R612). The missing-edge monitor, armed while the drive outputs are powered, trips: every drive sends code 0, SHDN is asserted on
every channel, EDGE_LOSS reads 1 and its log entry awaits the first header; a stage loop ends (R34, R35, R65, R573). The model's choice: that the
stop leaves a wrap standing, that the monitor's trip itself puts every channel in OFF, and when the monitor is armed are log entry 18. An input
is lost under the 4-edge criterion: its edge flag reads 0, the output that carried its copy is sourced from the other input and fills the rest of
its frame as void, and its frame lock and misses stand as they were until a missing FAW or the side's declaration as down (the model's reading,
log 68). Where it was the selected input and SIDE_LOCK is 0, the unit switches to the other input, sets SIDE_SWITCHED and awaits that side's
first valid header; with SIDE_LOCK at 1, or for the other input, the selection stays. Edges that return set the flag again and a stopped unit
runs (R19, R20, R33, R65, R130). A selected-side header behind the count by less than 2^31 is a backward jump: the unit counts on from it,
EPOCH_BACK and HISTORY_CLEAR set, GAP_COUNT stands, and what acts after a stale gap begins anew: every Fixer history but the clock's is empty, no
MX epoch is decided, and the settle interval runs from here (R25, R32, R40, R65, R686, R700). -/
def Obligations.ClocksStopAndReturn : Prop :=
  (∀ s : State, s.between → ∃ t, exec .clockStop s = .next t ∧ t.running = false ∧ t.clk.edgeA = false ∧ t.clk.edgeB = false ∧
    t.outClocked .a = false ∧ t.outClocked .b = false ∧
    t = { s with clk := t.clk, stage := { s.stage with ch := t.stage.ch } } ∧
    ∀ n, t.stageCh n = { s.stageCh n with stopAt := (t.stageCh n).stopAt }) ∧
  (∀ s : State, s.between → s.clk.power = .up → s.ident.done = true → s.blockUp 3 = true →
    ∃ t, exec .edgeLoss s = .next t ∧ t.flag Reg.CHIP_CLK_STATUS 5 = true ∧ t.clk.edgeLossPend = true ∧
      (∀ n, n < 8 → (t.drive n).st = .off ∧ (t.drive n).out = 0 ∧ t.released n = false) ∧ Logged s t [] ∧
      ((∀ n, n < 8 → s.stageLoop n = false) → t.reg Reg.PRINT_PROOF_CTL_A = s.reg Reg.PRINT_PROOF_CTL_A) ∧
      KeepsRegs s t [Reg.CHIP_CLK_STATUS, Reg.PRINT_PROOF_CTL_A]) ∧
  (∀ (s : State) (x : Side) (sent : List Bool), s.running = true → (s.sd x).lost = false → (s.sd (other x)).lost = false →
    ∃ t, exec (.clockInputLost ⟨x, sent⟩) s = .next t ∧ (t.sd x).lost = true ∧ (t.sd x).lock = (s.sd x).lock ∧ (t.sd x).misses = (s.sd x).misses ∧
      (t.sd x).resourced = true ∧ (t.outClocked (other x) = true → t.outFromOpposite (other x) = false) ∧
      (s.link.training = none → s.feeds x (other x) = true → (t.out (other x)).void = true) ∧
      (match x with | .a => t.clk.edgeA | .b => t.clk.edgeB) = false ∧
      (if s.clk.side = x ∧ s.flag Reg.CHIP_CLK_CFG 1 = false
       then t.clk.side = other x ∧ t.clk.switched = true ∧ t.flag Reg.CHIP_CLK_STATUS 4 = true
       else t.clk.side = s.clk.side ∧ t.clk.switched = s.clk.switched)) ∧
  (∀ (s : State) (x : Side), s.between → ∃ t, exec (.clockInputReturn x) s = .next t ∧ (t.sd x).lost = false ∧
      (match x with | .a => t.clk.edgeA | .b => t.clk.edgeB) = true ∧ t.clk.stopped = false ∧ t.clk.epoch = s.clk.epoch ∧
      KeepsRegs s t []) ∧
  (∀ (s : State) (h : BitVec 416) (skew : BitVec 24), GoodHeader s s.clk.side h → s.clk.hasEpoch = true →
     s.clk.rateBad = false → s.clk.switched = false → s.clk.rateCheck = false → 2 ^ 31 ≤ (Hdr.epoch h - s.epoch32).toNat →
     ∃ t, exec (.headerEnd s.clk.side h skew) s = .next t ∧ t.epoch32 = Hdr.epoch h ∧ t.flag Reg.CHIP_CLK_STATUS 7 = true ∧
       t.flag Reg.FIXER_FIXER_STATUS 2 = true ∧ t.reg Reg.CHIP_GAP_COUNT = s.reg Reg.CHIP_GAP_COUNT ∧
       (∀ i, 1 ≤ i → (nth t.fixer.hist i {}).epochs = []) ∧ t.mx.decided = [] ∧ t.clk.settle = some s.clk.ticks)

/-! ### Line inputs, ticks and frame starts -/

/-- A side goes down after 32 edges without its clock, or LOST_FRAMES missing FAWs: it loses its lock, its flag and entry say so, the other side
stays, and a wrap at the other side ends. WRAP turns the line at the down side while the other holds lock, unless NO_WRAP is set; it sets
WRAPPED_A or WRAPPED_B, increments WRAP_COUNT and logs WRAP. UNWRAP ends it when the restored side has held lock with valid headers for
UNWRAP_HOLD × 16 frames (R129, R130, R132, R133, R142, R144). A tracking step in DAYLIGHT, in ordinary frames and with TRACK_OFF at 0 moves each
lane of a locked side by at most one delay step, as its taps ask; a lane at step 0 or 63 stays there, and one that arrives there sets DELAY_END.
In SAFELIGHT, or with TRACK_OFF at 1, no lane moves (R128, R142, R144). -/
def Obligations.SidesWrapAndLanesTrack : Prop :=
  (∀ (s : State) (x : Side) (byClock : Bool), s.roomFor 2 → s.running = true → (s.sd x).down = false →
    (if byClock then (s.sd x).lost = true
     else (s.sd x).lost = false ∧ max 1 (s.fld Reg.LINK_LINK_CFG 7 4) ≤ (s.sd x).misses) →
    ∃ t, exec (.sideDown x byClock) s = .next t ∧ (t.sd x).down = true ∧ (t.sd x).lock = false ∧
      t.sd (other x) = s.sd (other x) ∧ t.flag Reg.LINK_LINK_STATUS (sideNum x) = true ∧
      t.link.wrap = (if s.link.wrap = some (other x) then none else s.link.wrap) ∧
      s.entry Log.LINK 2 (ofBytes (sideNum x) (b2n (!byClock)) 0 0) 0 ∈ t.fixer.staged) ∧
  (∀ (s : State) (y : Side), s.roomFor 1 → s.acting = true → s.flag Reg.LINK_LINK_CFG 2 = false → s.link.wrap = none →
    (s.sd y).down = true → (s.sd (other y)).down = false → (s.sd (other y)).lock = true →
    ∃ t, exec .wrap s = .next t ∧ t.link = { s.link with wrap := some y } ∧
      t.flag Reg.LINK_LINK_STATUS (2 + sideNum y) = true ∧
      t.reg Reg.LINK_WRAP_COUNT = s.reg Reg.LINK_WRAP_COUNT + 1 ∧
      Logged s t [s.entry Log.LINK 3 (ofBytes (sideNum y) 0 0 0) 0]) ∧
  (∀ s : State, s.between → s.flag Reg.LINK_LINK_CFG 2 = true → exec .wrap s = .next s) ∧
  (∀ (s : State) (y : Side), s.roomFor 1 → s.acting = true → s.link.wrap = some y → (s.sd y).lock = true →
    s.fld Reg.LINK_LINK_CFG 15 8 ≠ 0 → 16 * s.fld Reg.LINK_LINK_CFG 15 8 ≤ (s.sd y).validRun → s.clk.fault = false →
    ∃ t, exec .unwrap s = .next t ∧ t.link = { s.link with wrap := none } ∧ (t.sd y).resourced = false ∧
      t.flag Reg.LINK_LINK_STATUS 4 = true ∧ Logged s t [s.entry Log.LINK 4 (ofBytes (sideNum y) 0 0 0) 0]) ∧
  (∀ (s : State) (moves : List LaneMove), s.acting = true → s.clk.daylight = true → s.link.training = none →
    s.flag Reg.LINK_LINK_CFG 3 = false →
    ∃ t, exec (.delayTrack moves) s = .next t ∧ ∀ l, l < 4 →
      t.delay l = (if s.delay l = 0 ∨ s.delay l = 63 ∨ (s.sd (laneSide l)).lock = false then s.delay l
        else match nth moves l .stay with | .stay => s.delay l | .up => s.delay l + 1 | .down => s.delay l - 1) ∧
      (t.delay l ≠ s.delay l → t.delay l = 0 ∨ t.delay l = 63 → t.flag Reg.LINK_LINK_STATUS 8 = true)) ∧
  (∀ (s : State) (moves : List LaneMove), s.between → s.clk.daylight = false ∨ s.flag Reg.LINK_LINK_CFG 3 = true →
    exec (.delayTrack moves) s = .next s)

/-- A tick adds 1 to the epoch unless RATE_BAD holds it, sets EPOCH_WRAP where bits 31:0 return to 0, and adds 1 to the unit's own count; nothing
else of the clock changes. In training it scans the lanes, each at step n − 16 in ticks n of 16 to 79, or confirms them; else no lane moves (R23,
R26, R47, R60, R125, R127). A frame start under a pending unit reset begins one frame of HOLD: registers as HOLD leaves them, the five fixed
segments kept, the straps to be read; the next selected-side frame start lowers it, unless HOLD is high on its pin (R537, R533, R691). On a side
in lock whose FAW is where it belongs the misses return to 0; a missing or moved one counts in FAW_MISS and costs the lock. The copy takes its
slot mask from the latest sample, and the selected side's frame freezes its own epoch (R27, R118, R129, R148, R178). The model's choice: the
reset at the next frame start is log entry 14, what stands over it entries 31 and 83, the bytes outside the segments entry 3, the lock lost with
one missing FAW entry 69. A selected-side marker that is missing, stands elsewhere or measures a wrong length, where one is due (log entry 103),
is a clock fault: its flag is set, CLK_FAULTS counts it unless one stands, the frame is no clean one, and the lock goes with a FAW not in its
place. The fourth length in a row of the other format sets RATE_BAD and stops the count. A right length with the FAW in place begins no fault and
ends none (R42, R46, R47, R48, R49, R65, R122). What waits for a selected-side frame start applies there: EPOCH_HI_SET gives bits 47:32 of the
epoch where the FAW stands in its place (which start is valid for R29 is log entry 73), an override names group and position and sets OVR_APPLIED
(with it: log entry 76), and a link loop begins, or ends at once where its control word fails its parity check (R29, R96, R137, R250). A turned
bit of an M register of a powered block shows at the next selected-side frame start: the register reads its reset or strap value, PARITY is set,
and outside the pages that are only reloaded the register holds its block in its safe state (R249, R250, R251, R265). -/
def Obligations.TicksAndFrameStarts : Prop :=
  (∀ (s : State) (i : TickIn), s.running = true → ∃ t, exec (.tick i) s = .next t ∧
     t.clk = { s.clk with ticks := s.clk.ticks + 1, epoch := if s.clk.rateBad then s.clk.epoch else s.clk.epoch + 1 } ∧
     (s.clk.rateBad = false → (s.clk.epoch + 1).truncate 32 = 0#32 → t.flag Reg.CHIP_CLK_STATUS 6 = true) ∧
     t.link = { s.link with training := t.link.training } ∧
     t.link.training = s.link.training.map (fun r => r.tick s.clk.daylight (s.clk.ticks - r.start) i.prbsOk) ∧
     ∀ l, l < 4 → t.delay l = (match s.link.training with
       | some r => if s.clk.daylight = true ∧ 16 ≤ t.clk.ticks - r.start ∧ t.clk.ticks - r.start ≤ 79 then t.clk.ticks - r.start - 16 else s.delay l
       | none => s.delay l)) ∧
  (∀ (s : State) (i : FrameIn), s.running = true → s.mode.resetPend = true →
    ∃ t, exec (.frameStart s.clk.side i) s = .next t ∧
      (∀ a, t.reg a = if a ∈ heldRegs then s.reg a else Reg.resetOf a) ∧
      (∀ a, Mem.read t.mem a = if a < 5 * 0x20000 then Mem.read s.mem a else Mem.blank) ∧
      t.ident.done = false ∧ t.clk.power = .hold ∧ t.mode.holdPin = s.mode.holdPin ∧ t.fixer.staged = [] ∧
      t.link.forwarding = s.link.forwarding) ∧
  (∀ (s : State) (i : FrameIn), s.holding = true → s.ident.done = false → s.mode.resetPend = false →
    ∃ t, exec (.frameStart s.clk.side i) s = .next t ∧ t.clk.power = (if s.mode.holdPin then .hold else .up) ∧
      t.ident = s.ident ∧ t.mode = s.mode) ∧
  (∀ (s : State) (x : Side) (i : FrameIn), s.running = true → s.link.training = none → x ≠ s.clk.side → (s.sd x).lock = true →
    ∃ t, exec (.frameStart x i) s = .next t ∧ (t.sd x).mask = s.maskNow ∧
      (t.sd x).misses = (if ((s.sd x).marker i).faw = .expected then 0 else (s.sd x).misses + 1) ∧
      ((t.sd x).lock = true ↔ ((s.sd x).marker i).faw = .expected) ∧
      (t.sd x).epoch = (s.sd x).epoch + BitVec.ofNat 32 (if s.clk.daylight then 1 else 6) ∧
      (match x with | .a => t.reg Reg.LINK_FAW_MISS_A | .b => t.reg Reg.LINK_FAW_MISS_B) =
        (match x with | .a => s.reg Reg.LINK_FAW_MISS_A | .b => s.reg Reg.LINK_FAW_MISS_B) +
          (if ((s.sd x).marker i).faw = .expected then 0#32 else 1#32)) ∧
  (∀ (s : State) (i : FrameIn), s.acting = true → s.mode.resetPend = false →
    ∃ t, exec (.frameStart s.clk.side i) s = .next t ∧ t.clk.frameEpoch = t.clk.epoch ∧ (t.sd s.clk.side).mask = t.maskNow ∧
      t.fixer.byLoupe = (if s.mode.toLoupe then true else if s.mode.toHard then false else s.fixer.byLoupe)) ∧
  (∀ (s : State) (i : FrameIn), s.acting = true → s.mode.resetPend = false → s.link.training = none → (s.sd s.clk.side).lock = true → (s.sd s.clk.side).held = true →
    ((s.sd s.clk.side).marker i).faw ≠ .expected ∨ (i.len ≠ 0 ∧ i.len ≠ frameLen s.clk.daylight) →
    ∃ t, exec (.frameStart s.clk.side i) s = .next t ∧ t.clk.fault = true ∧
      (s.clk.fault = false → t.flag Reg.CHIP_CLK_STATUS 1 = true) ∧
      t.reg Reg.CHIP_CLK_FAULTS = (if s.clk.fault then s.reg Reg.CHIP_CLK_FAULTS else s.reg Reg.CHIP_CLK_FAULTS + 1) ∧
      t.clk.faultFrames = s.clk.faultFrames + 1 ∧ t.clk.cleanFrames = 0 ∧ t.clk.exact = false ∧
      ((t.sd s.clk.side).lock = true ↔ ((s.sd s.clk.side).marker i).faw = .expected) ∧
      t.clk.lenErr = (if ((s.sd s.clk.side).marker i).faw = .missing then s.clk.lenErr
        else if (if i.len = 0 then s.clk.lastLen else i.len) = frameLen (!s.clk.daylight) then s.clk.lenErr + 1 else 0) ∧
      t.clk.rateBad = (s.clk.rateBad || decide (4 ≤ t.clk.lenErr)) ∧
      (s.clk.rateBad = false → 4 ≤ t.clk.lenErr → t.flag Reg.CHIP_CLK_STATUS 2 = true)) ∧
  (∀ (s : State) (i : FrameIn), s.acting = true → s.mode.resetPend = false → s.link.training = none → (s.sd s.clk.side).lock = true → (s.sd s.clk.side).held = true →
    ((s.sd s.clk.side).marker i).faw = .expected → i.len = 0 ∨ i.len = frameLen s.clk.daylight →
    ∃ t, exec (.frameStart s.clk.side i) s = .next t ∧ t.clk.fault = s.clk.fault ∧ t.clk.exact = true ∧ t.clk.lenErr = 0 ∧
      t.clk.rateBad = s.clk.rateBad ∧ t.reg Reg.CHIP_CLK_FAULTS = s.reg Reg.CHIP_CLK_FAULTS ∧ (t.sd s.clk.side).lock = true) ∧
  (∀ (s : State) (i : FrameIn), s.acting = true → s.mode.resetPend = false →
     ∃ t, exec (.frameStart s.clk.side i) s = .next t ∧
       (((s.sd s.clk.side).marker i).faw = .expected → t.clk.epochHiPend = none ∧
         t.clk.epoch = (match s.clk.epochHiPend with | some v => v ++ s.epoch32 | none => s.clk.epoch)) ∧
       (((s.sd s.clk.side).marker i).faw ≠ .expected → t.clk.epochHiPend = s.clk.epochHiPend ∧ t.clk.epoch = s.clk.epoch) ∧
       t.ident.ovrPend = [] ∧
       (s.ident.ovrPend = [] → t.ident = s.ident) ∧
       (let v := s.ident.ovrPend.headD 0; s.ident.ovrPend.length = 1 → t.ident.group = (if bitOf v 13 then bits v 11 8 else s.ident.group) ∧
           t.ident.position = (if bitOf v 14 then bits v 7 0 else s.ident.position) ∧ t.ident.locked = bitOf v 12) ∧
       t.link.loopPend = none ∧
       (s.link.loopPend = none → t.link.loop = s.link.loop ∨ t.flag Reg.CHIP_REG_STATUS 1 = true) ∧
       (let w := s.link.loopPend.getD 0; s.link.loopPend.isSome = true → bits w 1 0 ≠ 0 →
           t.link.loop = some (bits w 1 0, if bitOf w 2 then Side.b else Side.a, bits w 5 4) ∨ t.flag Reg.CHIP_REG_STATUS 1 = true)) ∧
  (∀ (s : State) (i : FrameIn) (a b : Nat), s.acting = true → s.mode.resetPend = false → Reg.kindOf a = some .m → s.checks a = true →
     assocGet s.par a = none → b ≤ 32 → i.cfgUpsets = [(a, b)] →
     ∃ t, exec (.frameStart s.clk.side i) s = .next t ∧ t.reg a = (assocGet s.strapRegs a).getD (Reg.resetOf a) ∧
       t.flag Reg.CHIP_REG_STATUS 1 = true ∧ (reloadOnly (Reg.pageOf a) = false → a ∈ t.port.held))

/-! ### Headers and fields -/

/-- The first valid selected-side header sets the epoch: bits 31:0 from the header, bits 47:32 to 0. A later one whose epoch the unit already
counts changes nothing of the count; one that is ahead or behind is adopted, and one ahead by n < 2^31 is a gap of n ticks: GAP_LAST holds n,
GAP_COUNT counts it, and GAP reads 1 (R25, R27, R28, R37, R65, R66). An enumeration wave gives a unit whose position is not locked its position:
from port A the ENUM_NEXT it carries, unless that is 0; from port B only where the unit has none. A locked unit keeps its own. No other field of
a header changes the identity (R92 to R94, R100). -/
def Obligations.HeadersGiveEpochAndPosition : Prop :=
  (∀ (s : State) (h : BitVec 416) (skew : BitVec 24), GoodHeader s s.clk.side h → s.clk.hasEpoch = false →
    ∃ t, exec (.headerEnd s.clk.side h skew) s = .next t ∧ t.clk.epoch = (0#16 ++ Hdr.epoch h) ∧ t.clk.hasEpoch = true ∧
      t.clk.frameEpoch = t.clk.epoch ∧ t.clk.ticks = s.clk.ticks) ∧
  (∀ (s : State) (h : BitVec 416) (skew : BitVec 24), GoodHeader s s.clk.side h → s.clk.hasEpoch = true →
    s.clk.rateBad = false → s.clk.switched = false → s.clk.rateCheck = false →
    ∃ t, exec (.headerEnd s.clk.side h skew) s = .next t ∧ t.epoch32 = Hdr.epoch h ∧
      (Hdr.epoch h = s.epoch32 → t.clk.epoch = s.clk.epoch ∧ t.reg Reg.CHIP_GAP_COUNT = s.reg Reg.CHIP_GAP_COUNT) ∧
      (0 < (Hdr.epoch h - s.epoch32).toNat → (Hdr.epoch h - s.epoch32).toNat < 2 ^ 31 →
        t.flag Reg.CHIP_CLK_STATUS 0 = true ∧ t.reg Reg.CHIP_GAP_LAST = Hdr.epoch h - s.epoch32 ∧
        t.reg Reg.CHIP_GAP_COUNT = s.reg Reg.CHIP_GAP_COUNT + 1)) ∧
  (∀ (s : State) (h : BitVec 416) (skew : BitVec 24), GoodHeader s .a h → Hdr.enumActive h = true → Hdr.enumDir h = false →
    ∃ t, exec (.headerEnd .a h skew) s = .next t ∧
      t.ident = (if s.ident.locked || Hdr.enumNext h == 0 then s.ident
        else { s.ident with position := if Hdr.enumNext h = 0xFF then 0 else Hdr.enumNext h }) ∧
      (s.ident.position = 0 → s.ident.locked = false → Hdr.enumNext h ≠ 0 → Hdr.enumNext h ≠ 0xFF →
        t.flag Reg.CHIP_ID_STATUS 9 = true)) ∧
  (∀ (s : State) (h : BitVec 416) (skew : BitVec 24), GoodHeader s .b h → Hdr.enumActive h = true → Hdr.enumDir h = true →
    ∃ t, exec (.headerEnd .b h skew) s = .next t ∧
      t.ident = (if 1 ≤ Hdr.enumNext h ∧ Hdr.enumNext h ≤ 0xFE ∧ s.ident.position = 0 ∧ s.ident.locked = false
        then { s.ident with position := Hdr.enumNext h } else s.ident)) ∧
  (∀ (s : State) (x : Side) (h : BitVec 416) (skew : BitVec 24), Hdr.enumActive h = false →
    ∃ t, exec (.headerEnd x h skew) s = .next t ∧ t.ident = s.ident)

/-- The show slots of a DAYLIGHT copy are captured under the mask of its frame, valid if the copy's header, FAW and check are; a failed check
sets its flag and counts. The decision of the oldest due epoch hands over, once, the selected side's capture, else the other side's, which sets
SHOW_ALT and counts; where neither is usable it hands over nothing, sets SHOW_MISS and counts (R160, R167, R169, R171, R180, R185, R187). -/
def Obligations.ShowSlotsAreCapturedAndDecided : Prop :=
  (∀ (s : State) (x : Side) (slots : List Sample) (check : Word), s.acting = true → s.hears x = true →
    s.clk.daylight = true → (s.sd x).lock = true → (s.sd x).faw = true → (s.sd x).void = false →
    ∃ t, exec (.showCapture x slots check) s = .next t ∧
      (t.sd x).caps.head? = some ⟨(s.sd x).epoch, (s.sd x).hdrValid && crc32 (samplesBits slots) == check,
        (s.sd x).mask.map (fun n => (n, classOf (s.sd x).classes (n / 32), nth slots n 0))⟩ ∧
      (crc32 (samplesBits slots) = check → ∀ a, a ≠ Reg.FIXER_LOG_DROPS → a ≠ Reg.FIXER_FIXER_STATUS → t.reg a = s.reg a) ∧
      (crc32 (samplesBits slots) ≠ check → t.flag Reg.FRAME_FRAME_STATUS (2 + sideNum x) = true ∧
        t.reg (Reg.checkErr x) = s.reg (Reg.checkErr x) + 1)) ∧
  (∀ (s : State) (e : Epoch32) (rest : List Epoch32) (c : Capture), s.acting = true → s.clk.daylight = true →
    s.frame.due = e :: rest → s.usable s.clk.side e = some c →
    ∃ t, exec .showDecision s = .next t ∧ t.frame.due = rest ∧ t.frame.showSrc = 1 + sideNum s.clk.side ∧
      t.frame.shown = (⟨e, true, c.slots⟩ :: s.frame.shown).take 16 ∧
      t.reg Reg.FRAME_SHOW_MISS_COUNT = s.reg Reg.FRAME_SHOW_MISS_COUNT) ∧
  (∀ (s : State) (e : Epoch32) (rest : List Epoch32) (c : Capture), s.acting = true → s.clk.daylight = true →
    s.frame.due = e :: rest → s.usable s.clk.side e = none → s.usable (other s.clk.side) e = some c →
    ∃ t, exec .showDecision s = .next t ∧ t.frame.due = rest ∧ t.frame.showSrc = 1 + sideNum (other s.clk.side) ∧
      t.frame.shown = (⟨e, true, c.slots⟩ :: s.frame.shown).take 16 ∧ t.flag Reg.FRAME_FRAME_STATUS 12 = true ∧
      t.reg Reg.FRAME_SHOW_ALT_COUNT = s.reg Reg.FRAME_SHOW_ALT_COUNT + 1) ∧
  (∀ (s : State) (e : Epoch32) (rest : List Epoch32), s.acting = true → s.clk.daylight = true →
    s.frame.due = e :: rest → s.usable s.clk.side e = none → s.usable (other s.clk.side) e = none →
    ∃ t, exec .showDecision s = .next t ∧ t.frame.due = rest ∧ t.frame.showSrc = 0 ∧
      t.frame.shown = (⟨e, false, []⟩ :: s.frame.shown).take 16 ∧ t.flag Reg.FRAME_FRAME_STATUS 13 = true ∧
      t.reg Reg.FRAME_SHOW_MISS_COUNT = s.reg Reg.FRAME_SHOW_MISS_COUNT + 1)

/-- The listen field of a copy goes on out of the opposite side. Where the unit may not add, or in SAFELIGHT, every word and the check are as
received, a check that is wrong with them. Where it adds, a word that no entry of the plan names is as received, and MX adds to each slot word
the contribution in its 26-bit sum, saturating, with the saturation bit kept and the count of contributors advanced to at most 31 (R163, R176,
R392, R397). -/
def Obligations.ListenFieldPasses : Prop :=
  (∀ (s : State) (x : Side) (ws : List Word) (check : Word), s.running = true → s.link.training = none →
    s.link.forwarding = true → s.link.loop = none → s.link.wrap = none → (s.sd x).resourced = false →
    (s.out (other x)).void = false → s.mayAdd x = false ∨ s.clk.daylight = false →
    ∃ t, exec (.listenField x ws check) s = .next t ∧ (t.out (other x)).listen = ws ∧ (t.out (other x)).listenCheck = check ∧
      t.mx = s.mx) ∧
  (∀ (s : State) (x : Side) (ws : List Word) (check : Word), s.running = true → s.link.training = none →
    s.link.forwarding = true → s.link.loop = none → s.link.wrap = none → (s.sd x).resourced = false →
    (s.out (other x)).void = false →
    ∃ t, exec (.listenField x ws check) s = .next t ∧ (t.out (other x)).listen.length = ws.length ∧
      ∀ i, i ∉ (s.planFor (s.sd x).epoch).map (fun p => mxSlot p.1) → nth (t.out (other x)).listen i 0 = nth ws i 0) ∧
  (∀ (w : Word) (c : Int), let r := mxAdd w c
    sgnOf 26 (bits r.1 31 6) = max (-0x2000000) (min 0x1FFFFFF (sgnOf 26 (bits w 31 6) + c)) ∧
    bits r.1 4 0 = min 31 (bits w 4 0 + 1) ∧ bitOf r.1 5 = (r.2 || bitOf w 5) ∧
    r.2 = !decide (-0x2000000 ≤ sgnOf 26 (bits w 31 6) + c ∧ sgnOf 26 (bits w 31 6) + c ≤ 0x1FFFFFF))

/-- A valid register field on an allowed copy that carries one packet `p` addressed to this unit, EMPTY words after it, puts the packet's command
at the end of the command ring, or registers its abort, where no rule of R199 drops it: a tagged command's tag is queued, the packet stands in
Tank's command ring, and the epoch is taken. The same epoch's field on a second copy, or a field whose check fails, puts none (R173, R174, R188,
R190, R196, R197, R199, R211, R621). -/
def Obligations.RegisterFieldQueuesItsCommand : Prop :=
  (∀ (s : State) (x : Side) (p : List Word) (k : Nat) (check : Half), s.acting = true → s.hears x = true →
    s.copyOk x = true → (s.sd x).wrapped = false → s.copyAllowed x = true → (regSeen s.frame.regs (s.sd x).epoch).taken = false →
    1 ≤ bits (p.headD 0) 31 28 → bits (p.headD 0) 31 28 ≤ 7 → packetLen (p.headD 0) (p.getD 1 0) = some p.length →
    s.accepts (pktUnit (p.headD 0)) = true → s.dropReason (p.headD 0) = none → s.calmTank → s.queue.tags.length = 16 →
    crc16 (wordsBits (p ++ List.replicate k 0)) = check →
    ∃ t, exec (.registerField x (p ++ List.replicate k 0) check) s = .next t ∧
      t.queue.cmds = (if bits (p.headD 0) 31 28 = 7 then s.queue.cmds else s.queue.cmds ++ [s.cmdOf p]) ∧
      t.queue.aborts = (if bits (p.headD 0) 31 28 = 7 then s.queue.aborts ++ [⟨pktTag (p.headD 0), false, false, s.cmdSlot⟩] else s.queue.aborts) ∧
      (isTagged (bits (p.headD 0) 31 28) = true → (t.tag (pktTag (p.headD 0))).state = .queued) ∧
      s.tankHolds t s.packetAt p ∧
      (regSeen t.frame.regs (s.sd x).epoch).taken = true) ∧
  (∀ (s : State) (x : Side) (ws : List Word) (check : Half), s.running = true → s.link.training = none →
    ((regSeen s.frame.regs (s.sd x).epoch).taken = true ∧ (regSeen s.frame.regs (s.sd x).epoch).got x = false) ∨ crc16 (wordsBits ws) ≠ check ∨ s.copyOk x = false →
    ∃ t, exec (.registerField x ws check) s = .next t ∧ t.queue.cmds = s.queue.cmds ∧ t.queue.tags = s.queue.tags)

/-- The event field of a copy goes on out of the opposite side with every word that another unit has filled as received; the unit writes its own
events into empty words alone, its enable, position and header letting it. An event that is gone from the ring counts as served on each side: it
had been sent on that side, or is sent in this field, as a word that came empty and leaves with the event in it, which serves both sides while
the unit wraps; or the side has no lock; or its copies are turned back. While POSITION is 0x00 none goes (R91, R163, R205, R215 to R218). -/
def Obligations.EventFieldKeepsOtherUnitsWords : Prop :=
  (∀ (s : State) (x : Side) (ws : List Word) (check : Half), s.running = true → s.link.training = none →
    s.link.forwarding = true → s.link.loop = none → s.link.wrap = none → (s.sd x).resourced = false →
    (s.out (other x)).void = false →
    ∃ t, exec (.eventField x ws check) s = .next t ∧ (t.out (other x)).event.length = ws.length ∧
      (∀ i, nth ws i 0 ≠ 0 → nth (t.out (other x)).event i 0 = nth ws i 0) ∧
      (s.mayAdd x = false ∨ (s.sd x).hdrValid = false ∨ s.flag Reg.QUEUE_QUEUE_CFG 1 = true ∨ s.ident.position = 0 →
        (t.out (other x)).event = ws ∧ (t.out (other x)).eventCheck = check) ∧
      t.queue.cmds = s.queue.cmds) ∧
  (∀ (s : State) (x : Side) (ws : List Word) (check : Half), s.running = true → s.link.training = none →
    s.link.forwarding = true → (s.sd x).resourced = false →
    (s.out (other x)).void = false → s.link.loop = none → s.link.wrap = none ∨ s.link.wrap = some (other x) →
    ∃ t, exec (.eventField x ws check) s = .next t ∧
      (s.ident.position = 0 ∨ s.acting = false → t.queue.events = s.queue.events) ∧
      ∀ e ∈ s.queue.events, (∃ e' ∈ t.queue.events, e'.lseq = e.lseq ∧ e'.source = e.source ∧ e'.code = e.code) ∨
        ∀ y : Side, e.sent y = true ∨ (s.sd y).lock = false ∨ (s.sd y).wrapped = true ∨
          ((y = x ∨ s.link.wrap.isSome = true) ∧ ∃ i < ws.length, nth ws i 0 = 0 ∧
            nth (t.out (other x)).event i 0 = eventWord s.unitAddr e))

/-! ### The command ring and the register port -/

/-- A WRITE at the head of the ring, addressed to a register that stores what is written to it, stores its word, counts as one command, leaves
every other register, and answers a reply with status 0, which stands in Tank's reply ring; a WRITE_P does the same with no reply. A WRITE of an
H register or on an unpowered page changes no register but the count and the flag, and its reply holds ACCESS (R188, R190, R192, R193, R203,
R213, R226, R234, R246, R621). -/
def Obligations.HostWriteStoresAndReplies : Prop :=
  (∀ (s : State) (n : Nat) (c : Cmd) (rest : List Cmd) (v : Word), s.between → s.acting = true → s.noPair → s.atHead c rest →
    bits c.hdr 31 28 = 2 → 1 ≤ n → c.data = [v] → plainReg (c.addr 0) → c.addr 0 ≠ Reg.QUEUE_CMD_COUNT →
    s.pageOff (c.addr 0) = false → s.queue.tags.length = 16 → s.calmTank →
    ∃ t, exec (.write n) s = .next t ∧ t.reg (c.addr 0) = s.stored (c.addr 0) v ∧
      t.reg Reg.QUEUE_CMD_COUNT = s.reg Reg.QUEUE_CMD_COUNT + 1 ∧ KeepsRegs s t [c.addr 0, Reg.QUEUE_CMD_COUNT] ∧
      t.queue.cmds = rest ∧ t.tag (pktTag c.hdr) = ⟨.done, 0⟩ ∧
      s.tankHolds t s.replyAt [replyHeader (pktTag c.hdr) s.unitAddr 0 0] ∧ t.queue.replies = s.queue.replies ++ [⟨replyHeader (pktTag c.hdr) s.unitAddr 0 0, [], false, false, s.replySlot⟩]) ∧
  (∀ (s : State) (n : Nat) (c : Cmd) (rest : List Cmd) (v : Word), s.between → s.acting = true → s.noPair → s.atHead c rest →
    bits c.hdr 31 28 = 3 → 1 ≤ n → c.data = [v] → plainReg (c.addr 0) → c.addr 0 ≠ Reg.QUEUE_CMD_COUNT →
    s.pageOff (c.addr 0) = false →
    ∃ t, exec (.writeP n) s = .next t ∧ t.reg (c.addr 0) = s.stored (c.addr 0) v ∧
      t.reg Reg.QUEUE_CMD_COUNT = s.reg Reg.QUEUE_CMD_COUNT + 1 ∧ KeepsRegs s t [c.addr 0, Reg.QUEUE_CMD_COUNT] ∧
      t.queue.cmds = rest ∧ t.queue.tags = s.queue.tags ∧ t.mem = s.mem ∧ t.queue.replies = s.queue.replies) ∧
  (∀ (s : State) (n : Nat) (c : Cmd) (rest : List Cmd), s.between → s.acting = true → s.noPair → s.atHead c rest →
    bits c.hdr 31 28 = 2 → 1 ≤ n → Reg.kindOf (c.addr 0) = some .h ∨ s.pageOff (c.addr 0) = true → s.calmTank →
    ∃ t, exec (.write n) s = .next t ∧ KeepsRegs s t [Reg.QUEUE_CMD_COUNT, Reg.QUEUE_QUEUE_STATUS] ∧
      t.flag Reg.QUEUE_QUEUE_STATUS 0 = true ∧ t.queue.cmds = rest ∧
      t.queue.replies = s.queue.replies ++ [⟨replyHeader (pktTag c.hdr) s.unitAddr 5 0, [], false, false, s.replySlot⟩])

/-- A READ of a register of any class, but IX_DATA and the four whose read has an effect of its own, answers a reply with its word, as it reads
while the command executes, and changes no register but the count of commands. A Loupe read of 32 bits answers the register's word, of 8 or 16
bits the addressed bytes of it, with no other effect, and of 64 bits two words; a register of an unpowered page answers ACCESS and the word 0
(R190, R193, R226, R229, R245, R261, R263). -/
def Obligations.ReadsAnswerTheRegister : Prop :=
  (∀ (s : State) (n : Nat) (c : Cmd) (rest : List Cmd), s.between → s.acting = true → s.noPair → s.atHead c rest →
    bits c.hdr 31 28 = 1 → 1 ≤ n → c.addr 0 ≠ Reg.CHIP_IX_DATA → c.addr 0 ≠ Reg.CHIP_EPOCH_LO → c.addr 0 ≠ Reg.SHEET_FEAT_READ_0 →
    c.addr 0 ≠ Reg.SHEET_SCORE_READ → c.addr 0 ≠ Reg.LOUPE_FRAME_LEN → s.pageOff (c.addr 0) = false → s.calmTank →
    ∃ t, exec (.read (.host n)) s = .next t ∧ KeepsRegs s t [Reg.QUEUE_CMD_COUNT] ∧
      t.reg Reg.QUEUE_CMD_COUNT = s.reg Reg.QUEUE_CMD_COUNT + 1 ∧ t.queue.cmds = rest ∧
      s.tankHolds t s.replyAt [replyHeader (pktTag c.hdr) s.unitAddr 0 1, (s.beginCmd c).readReg (c.addr 0)] ∧
      t.queue.replies = s.queue.replies ++
        [⟨replyHeader (pktTag c.hdr) s.unitAddr 0 1, [(s.beginCmd c).readReg (c.addr 0)], false, false, s.replySlot⟩]) ∧
  (∀ (s : State) (addr : Nat), s.between → s.reaches .loupe = true → addr % 4 = 0 → ofWindow (busAddr addr) = false →
    busAddr addr ≠ Reg.CHIP_EPOCH_LO → busAddr addr ≠ Reg.SHEET_FEAT_READ_0 → busAddr addr ≠ Reg.SHEET_SCORE_READ →
    busAddr addr ≠ Reg.LOUPE_FRAME_LEN →
    ∃ t, exec (.read (.loupe addr 4)) s = .next t ∧ t = { s with port := t.port } ∧
      (s.pageOff (busAddr addr) = false → t.port.status = 0 ∧ t.port.data = [s.readReg (busAddr addr)] ∧ t.port.busError = false) ∧
      (s.pageOff (busAddr addr) = true → t.port.status = 5 ∧ t.port.data = [0])) ∧
  (∀ (s : State) (addr width : Nat), s.between → s.reaches .loupe = true → width = 1 ∨ width = 2 → addr % width = 0 →
    ofWindow (busAddr addr) = false →
    ∃ t, exec (.read (.loupe addr width)) s = .next t ∧ t = { s with port := t.port } ∧ t.port.busError = false ∧
      t.port.data = [BitVec.ofNat 32 ((s.readReg (busAddr addr)).toNat / 2 ^ (8 * (addr % 4)) % 2 ^ (8 * width))]) ∧
  (∀ (s : State) (addr : Nat), s.between → s.reaches .loupe = true → addr % 8 = 0 → plainReg (busAddr addr) →
    ofWindow (busAddr addr) = false → plainReg (busAddr (addr + 4)) → s.pageOff (busAddr addr) = false → s.pageOff (busAddr (addr + 4)) = false →
    ∃ t, exec (.read (.loupe addr 8)) s = .next t ∧ t = { s with port := t.port } ∧
      t.port.data = [s.reg (busAddr addr), s.reg (busAddr (addr + 4))])

/-- A burst reads, or writes, its words in order and commits each: a BURST_READ answers one word for each register, a BURST_WRITE or
BURST_WRITE_P stores each of its words, the first with a reply of status 0, the second with none. A burst malformed in the field that brought it
changes no register but the count and the flag, and a tagged one answers BAD_OP (R190, R193, R200, R202, R226). -/
def Obligations.BurstsRunInOrder : Prop :=
  (∀ (s : State) (n : Nat) (c : Cmd) (rest : List Cmd), s.between → s.acting = true → s.noPair → s.atHead c rest →
    bits c.hdr 31 28 = 4 → c.bad = false → c.n ≤ n →
    (∀ k, k < c.n → plainReg (c.addr k) ∧ s.pageOff (c.addr k) = false) → s.calmTank →
    ∃ t, exec (.burstRead n) s = .next t ∧ KeepsRegs s t [Reg.QUEUE_CMD_COUNT] ∧
      t.reg Reg.QUEUE_CMD_COUNT = s.reg Reg.QUEUE_CMD_COUNT + 1 ∧ t.queue.cmds = rest ∧
      t.queue.replies = s.queue.replies ++ [⟨replyHeader (pktTag c.hdr) s.unitAddr 0 c.n,
        (List.range c.n).map (fun k => s.reg (c.addr k)), false, false, s.replySlot⟩]) ∧
  (∀ (s : State) (n op : Nat) (c : Cmd) (rest : List Cmd), s.between → s.acting = true → s.noPair → s.atHead c rest →
    op = 5 ∨ op = 6 → bits c.hdr 31 28 = op → c.bad = false → c.n ≤ n →
    (∀ k, k < c.n → plainReg (c.addr k) ∧ s.pageOff (c.addr k) = false ∧ c.addr k ≠ Reg.QUEUE_CMD_COUNT) →
    (∀ j, j < c.n → ∀ i, i < j → c.addr i ≠ c.addr j) → s.calmTank →
    ∃ t, exec (if op = 5 then .burstWrite n else .burstWriteP n) s = .next t ∧
      (∀ k, k < c.n → t.reg (c.addr k) = s.stored (c.addr k) (nth c.data k 0)) ∧
      KeepsRegs s t (Reg.QUEUE_CMD_COUNT :: (List.range c.n).map c.addr) ∧ t.queue.cmds = rest ∧
      t.queue.replies = s.queue.replies ++
        (if op = 5 then [⟨replyHeader (pktTag c.hdr) s.unitAddr 0 0, [], false, false, s.replySlot⟩] else [])) ∧
  (∀ (s : State) (n op : Nat) (c : Cmd) (rest : List Cmd), s.between → s.acting = true → s.noPair → s.calmTank → s.atHead c rest →
    op = 4 ∨ op = 5 ∨ op = 6 → bits c.hdr 31 28 = op → c.bad = true → 1 ≤ n →
    ∃ t, exec (if op = 4 then .burstRead n else if op = 5 then .burstWrite n else .burstWriteP n) s = .next t ∧
      KeepsRegs s t [Reg.QUEUE_CMD_COUNT, Reg.QUEUE_QUEUE_STATUS] ∧ t.flag Reg.QUEUE_QUEUE_STATUS 4 = true ∧
      t.queue.cmds = rest ∧ t.queue.replies = s.queue.replies ++
        (if op = 6 then [] else [⟨replyHeader (pktTag c.hdr) s.unitAddr 6 0, [], false, false, s.replySlot⟩]))

/-- A registered abort is examined once, after a selected-side frame has begun since it came, and not before. Of an idle tag it answers
ABORT_IDLE; a queued command leaves the ring and its tag goes idle, with ABORT_OK and 0; an executing burst ends where it stands, with ABORT_OK
and the words it has committed; an executing command of one word goes on, and the abort waits for its completion with no reply yet; a done tag
answers ABORT_LATE, with the command's status and whether its own reply has retired, and sets the flag (R211 to R214). -/
def Obligations.AbortsAreExaminedOnce : Prop :=
  (∀ s : State, s.between → (∀ a, a ∈ s.queue.aborts → a.waiting = true ∨ a.due = false) → exec .abort s = .next s) ∧
  (∀ (s : State) (g k : Nat) (rest : List Abort), s.between → s.acting = true → g < 16 → s.queue.tags.length = 16 →
    s.queue.aborts = ⟨g, false, true, k⟩ :: rest → s.calmTank →
    ∃ t, exec .abort s = .next t ∧ KeepsRegs s t [Reg.QUEUE_QUEUE_STATUS] ∧
      ((s.tag g).state = .idle → t.queue.aborts = rest ∧ t.queue.cmds = s.queue.cmds ∧
        t.queue.replies = s.queue.replies ++ [⟨replyHeader g s.unitAddr 3 0, [], false, false, s.replySlot⟩]) ∧
      ((s.tag g).state = .queued → t.queue.aborts = rest ∧ (t.tag g).state = .idle ∧
        t.queue.cmds = s.queue.cmds.eraseIdx (s.queue.cmds.findIdx (fun c => isTagged (bits c.hdr 31 28) && pktTag c.hdr == g)) ∧
        t.queue.replies = s.queue.replies ++ [⟨replyHeader g s.unitAddr 1 1, [0], false, false, s.replySlot⟩]) ∧
      ((s.tag g).state = .executing → isBurst (bits (s.queue.cmds.headD ⟨0, 0, [], false, 0⟩).hdr 31 28) = true →
        t.queue.aborts = rest ∧ (t.tag g).state = .idle ∧ t.queue.cmds = s.queue.cmds.tail ∧ t.queue.running = false ∧
        t.queue.replies = s.queue.replies ++ [⟨replyHeader g s.unitAddr 1 1, [BitVec.ofNat 32 s.queue.done], false, false, s.replySlot⟩]) ∧
      ((s.tag g).state = .executing → isBurst (bits (s.queue.cmds.headD ⟨0, 0, [], false, 0⟩).hdr 31 28) = false →
        t.queue = { s.queue with aborts := ⟨g, true, true, 0⟩ :: rest } ∧ t.mem = s.mem) ∧
      ((s.tag g).state = .done → t.queue.aborts = rest ∧ t.queue.cmds = s.queue.cmds ∧
        t.flag Reg.QUEUE_QUEUE_STATUS 7 = true ∧ t.queue.replies = s.queue.replies ++ [⟨replyHeader g s.unitAddr 2 1,
          [pack [(0, 4, (s.tag g).status), (8, 1, b2n (!s.ownReplyHeld g))]], false, false, s.replySlot⟩]))

/-- A 32-bit write through the port changes the register as its class has it, and no other but where a write of an M register of a page above 3
acts: a counter or a plain M register stores it, an F register holds it (RETAIN_LO with bits 4:0 at 1), an H register, one of an unpowered page,
and a value that a rule refuses answer ACCESS and store nothing; a hole answers OK and stores nothing; an M register of a page above 3 holds the
masked value, but for the bits that start an action and read 0. A counter written in the cycle in which it also counts counts on from the written
value. The Loupe's write into the indirect window returns a bus error: R654 bars a patch from it and names no answer (log 118) (R203, R229, R233,
R234, R245, R246, R253, R256, R411, R517). A write of an S register clears the flags it names where bits 23:16 hold the register's SEQ, and
nothing otherwise; no other register changes (R237). -/
def Obligations.WritesByRegisterClass : Prop :=
  (∀ (s : State) (src : Src) (addr : Nat) (v : Word), s.between → s.reaches src = true → s.noPair → addr % 4 = 0 →
    (src = .loupe → ofWindow (busAddr addr) = false) →
    ∃ t, exec (.registerWrite src addr { vals := [v] }) s = .next t ∧
      (s.pageOff (busAddr addr) = true → t = { s with port := t.port } ∧ t.port.status = 5) ∧
      (s.pageOff (busAddr addr) = false →
        (Reg.kindOf (busAddr addr) = none → t = { s with port := t.port } ∧ t.port.status = 0) ∧
        (Reg.kindOf (busAddr addr) = some .h → t = { s with port := t.port } ∧ t.port.status = 5) ∧
        (plainReg (busAddr addr) → t.reg (busAddr addr) = s.stored (busAddr addr) v ∧ KeepsRegs s t [busAddr addr] ∧
          t.port.status = 0) ∧
        (Reg.kindOf (busAddr addr) = some .m → bits v 31 16 = 0 → t = { s with port := t.port } ∧ t.port.status = 0) ∧
        (Reg.kindOf (busAddr addr) = some .m → bits v 31 16 ≠ 0 →
          s.maskedRefused (busAddr addr) v (maskedWrite (s.reg (busAddr addr)) v) = true →
          t = { s with port := t.port } ∧ t.port.status = 5) ∧
        (Reg.kindOf (busAddr addr) = some .m → bits v 31 16 ≠ 0 → busAddr addr ≠ Reg.STAGE_LATCH →
          s.maskedRefused (busAddr addr) v (maskedWrite (s.reg (busAddr addr)) v) = false →
          t.reg (busAddr addr) = maskedWrite (s.reg (busAddr addr)) v &&& ~~~selfClear (busAddr addr) ∧ t.port.status = 0) ∧
        (Reg.kindOf (busAddr addr) = some .f → busAddr addr ≠ Reg.CHIP_IX_DATA → s.plainRefused (busAddr addr) v = true →
          t = { s with port := t.port } ∧ t.port.status = 5) ∧
        (Reg.kindOf (busAddr addr) = some .f → busAddr addr ≠ Reg.CHIP_IX_DATA → s.plainRefused (busAddr addr) v = false →
          t.reg (busAddr addr) = (if busAddr addr = Reg.CHIP_RETAIN_LO then v ||| 0x1F#32 else v) ∧
          KeepsRegs s t [busAddr addr] ∧ t.port.status = 0))) ∧
  (∀ (s : State) (i : FrameIn) (src : Src) (v : Word), s.between → s.reaches src = true → s.noPair → s.acting = true →
    s.hears .b = true → s.clk.side = .a → (s.sd .b).lock = true → i.faw = .missing →
    ∃ t, exec (.registerWrite src Reg.LINK_FAW_MISS_B { vals := [v], beside := some (.frameStart .b i) }) s = .next t ∧
      t.reg Reg.LINK_FAW_MISS_B = v + 1 ∧ t.port.status = 0) ∧
  (∀ (s : State) (addr : Nat) (v : Word), s.reaches .loupe = true → addr % 4 = 0 → ofWindow (busAddr addr) = true →
    ∃ t, exec (.registerWrite .loupe addr { vals := [v] }) s = .next t ∧ t.port.busError = true ∧ KeepsRegs s t [Reg.FIXER_FIXER_STATUS, Reg.FIXER_LOG_DROPS]) ∧
  (∀ (s : State) (src : Src) (addr : Nat) (v : Word), s.between → s.reaches src = true → s.noPair → addr % 4 = 0 →
     Reg.kindOf (busAddr addr) = some .s → s.pageOff (busAddr addr) = false →
     ∃ t, exec (.statusClear src addr v) s = .next t ∧ t.port.status = 0 ∧ KeepsRegs s t [busAddr addr] ∧
       t.reg (busAddr addr) = (if bits v 23 16 = s.fld (busAddr addr) 23 16 then s.reg (busAddr addr) &&& ~~~(v &&& 0xFFFF#32)
         else s.reg (busAddr addr)))

/-- The write of an A word arms the pair and changes no register. Any other access of the same source before the B write breaks the pair:
GUARD_FAULT sets, REG_FAULT holds the source, reason 2 and the register, and the access goes on; so do a READ and a malformed burst of the host.
Which accesses break a pair, and with which reason, is the model's choice where R240 and R241 leave it (log 15). A B write with no pair armed is
reason 0, one that does not complement the A value is reason 1: nothing is stored (R240, R241, R265, R269). The B write that completes an armed
pair with the complement of its value stores that value, its assigned bits, and answers OK, for every guarded row whose value is in force at
once. The value of EPOCH_HI_SET, ADDR_OVR, CHIP.RESET or a proof loop waits: the pair reads as before until the frame start that puts it in
force. A pair that a rule refuses answers ACCESS, stores nothing and is no longer armed (R29, R96, R137, R232, R240, R243, R248, R305, R537,
R572). -/
def Obligations.GuardedPairsArmBreakAndStore : Prop :=
  (∀ (s : State) (src : Src) (addr : Nat) (v : Word), s.between → s.reaches src = true → s.noPair → addr % 4 = 0 →
    Reg.isPairA (busAddr addr) = true → s.pageOff (busAddr addr) = false →
    ∃ t, exec (.guardArm src addr v) s = .next t ∧ t.armed src = some ⟨busAddr addr, v⟩ ∧ t.armed (otherSrc src) = none ∧
      t.port.status = 0 ∧ t = { s with port := t.port }) ∧
  (∀ (s : State) (src : Src) (arm : Armed) (addr : Nat) (v : Word), s.roomFor 1 → s.reaches src = true → s.armed src = some arm →
    s.armed (otherSrc src) = none → addr % 4 = 0 → busAddr addr ≠ arm.addr + 4 → plainReg (busAddr addr) →
    s.pageOff (busAddr addr) = false → busAddr addr ≠ Reg.CHIP_REG_FAULT →
    ∃ t, exec (.registerWrite src addr { vals := [v] }) s = .next t ∧ t.armed src = none ∧ t.flag Reg.CHIP_REG_STATUS 0 = true ∧
      t.reg Reg.CHIP_REG_FAULT = pack [(31, 1, srcNum src), (28, 3, 2), (16, 12, arm.addr / 4), (0, 12, bits (s.reg Reg.CHIP_REG_FAULT) 11 0)] ∧
      t.reg (busAddr addr) = s.stored (busAddr addr) v ∧ KeepsRegs s t [Reg.CHIP_REG_STATUS, Reg.CHIP_REG_FAULT, busAddr addr] ∧
      Logged s t [s.entry Log.REG 1 (ofBytes (arm.addr / 4 % 256) (arm.addr / 4 / 256) 2 (srcNum src)) 0]) ∧
  (∀ (s : State) (src : Src) (arm : Armed) (addr : Nat) (v : Word), s.roomFor 1 → s.reaches src = true → s.armed src = some arm →
    addr % 4 = 0 → busAddr addr ≠ arm.addr + 4 → Reg.kindOf (busAddr addr) ≠ some .g → Reg.kindOf (busAddr addr) ≠ some .s →
    busAddr addr ≠ Reg.CHIP_REG_FAULT → ofWindow (busAddr addr) = false →
    ∃ t, exec (.registerWrite src addr { vals := [v] }) s = .next t ∧ t.armed src = none ∧ t.flag Reg.CHIP_REG_STATUS 0 = true ∧
      s.entry Log.REG 1 (ofBytes (arm.addr / 4 % 256) (arm.addr / 4 / 256) 2 (srcNum src)) 0 ∈ t.fixer.staged) ∧
  (∀ (s : State) (n op : Nat) (c : Cmd) (rest : List Cmd) (arm : Armed), s.roomFor 1 → s.acting = true → s.armed .host = some arm →
    s.atHead c rest → s.calmTank → op = 1 ∧ s.pageOff (c.addr 0) = false ∧ ofWindow (c.addr 0) = false ∨ (op = 4 ∨ op = 5 ∨ op = 6) ∧ c.bad = true →
    bits c.hdr 31 28 = op → 1 ≤ n →
    ∃ t, exec (if op = 1 then .read (.host n) else if op = 4 then .burstRead n else if op = 5 then .burstWrite n else .burstWriteP n) s = .next t ∧
      t.armed .host = none ∧ t.armed .loupe = s.armed .loupe ∧ t.flag Reg.CHIP_REG_STATUS 0 = true ∧ t.queue.cmds = rest ∧
      t.reg Reg.CHIP_REG_FAULT = pack [(31, 1, 0), (28, 3, 2), (16, 12, arm.addr / 4), (0, 12, bits (s.reg Reg.CHIP_REG_FAULT) 11 0)] ∧
      Logged s t [s.entry Log.REG 1 (ofBytes (arm.addr / 4 % 256) (arm.addr / 4 / 256) 2 0) 0]) ∧
  (∀ (c : Instr) (s : State) (src : Src) (a : Nat) (v : Word), guardedRow c = some (src, a, v) →
    s.roomFor 1 → s.reaches src = true → s.armed (otherSrc src) = none → s.pageOff a = false →
    s.armed src ≠ some ⟨a, ~~~v⟩ → (∀ m ∈ s.armed src, m.addr = a) →
    ∃ t, exec c s = .next t ∧ t.armed src = none ∧ t.port.status = 4 ∧ t.flag Reg.CHIP_REG_STATUS 0 = true ∧
      bits (t.reg Reg.CHIP_REG_FAULT) 30 28 = (if s.armed src = none then 0 else 1) ∧
      KeepsRegs s t [Reg.CHIP_REG_STATUS, Reg.CHIP_REG_FAULT]) ∧
  (∀ (c : Instr) (s : State) (src : Src) (a : Nat) (v : Word), guardedRow c = some (src, a, v) →
    s.pairReady src a v → rowFits c (~~~v) = true → guardLater a (~~~v &&& guardMask a) = false →
    ∃ t, exec c s = .next t ∧ t.reg a = ~~~v &&& guardMask a ∧ t.armed src = none ∧ t.port.status = 0) ∧
  (∀ (c : Instr) (s : State) (src : Src) (a : Nat) (v : Word), guardedRow c = some (src, a, v) →
    s.pairReady src a v → rowFits c (~~~v) = true → guardLater a (~~~v &&& guardMask a) = true →
    ∃ t, exec c s = .next t ∧ t.reg a = s.reg a ∧ t.armed src = none ∧ t.port.status = 0 ∧
      KeepsRegs s t [Reg.CHIP_ID_STATUS] ∧ s.pairWaits t a (~~~v &&& guardMask a)) ∧
  (∀ (c : Instr) (s : State) (src : Src) (a : Nat) (v : Word), guardedRow c = some (src, a, v) →
    s.between → s.reaches src = true → s.armed src = some ⟨a, ~~~v⟩ → s.armed (otherSrc src) = none → s.pageOff a = false →
    rowFits c (~~~v) = true → s.guardRefused src a (~~~v &&& guardMask a) = true →
    ∃ t, exec c s = .next t ∧ t = { s with port := t.port } ∧ t.armed src = none ∧ t.port.status = 5)

/-- The indirect window: a read or write of IX_DATA in reach acts on the word at WADDR and adds 1 to WADDR; one out of reach answers ACCESS, sets
the flag and leaves WADDR. Written Tank words keep every other byte of Tank where no check error stands at the word. The window is the host's:
the Loupe's access to either register answers a bus error and changes nothing, where R654 bars a patch from it and names no answer (the model's
choice, log entry 118) (R255, R257, R258, R654, R733). -/
def Obligations.IndirectWindowReachesItsSpace : Prop :=
  (∀ (s : State), s.between → s.reaches .host = true → s.noPair →
    s.ixSpace = 1 ∧ s.ixWord < 256 ∨ s.ixSpace = 2 ∧ s.ixWord < 512 →
    ∃ t, exec (.ixDataRead .host) s = .next t ∧ t.port.status = 0 ∧
      t.port.data = [if s.ixSpace = 1 then s.trimRead s.ixWord else s.coefRead s.ixWord] ∧
      t.reg Reg.CHIP_IX_ADDR = setBits (s.reg Reg.CHIP_IX_ADDR) 0 24 (s.ixWord + 1) ∧ KeepsRegs s t [Reg.CHIP_IX_ADDR] ∧
      t.mem = s.mem) ∧
  (∀ (s : State), s.between → s.reaches .host = true → s.noPair →
    s.ixSpace = 0 ∧ s.space0Refused s.ixWord = true ∨ s.ixSpace = 1 ∧ 256 ≤ s.ixWord ∨ s.ixSpace = 2 ∧ 512 ≤ s.ixWord ∨
      s.ixSpace = 3 ∧ s.tplOut s.ixWord = true ∨ s.ixSpace = 4 ∧ (s.latentWord s.ixWord).isNone = true →
    ∃ t, exec (.ixDataRead .host) s = .next t ∧ t.port.status = 5 ∧ t.flag Reg.CHIP_REG_STATUS 4 = true ∧
      KeepsRegs s t [Reg.CHIP_REG_STATUS] ∧ t.mem = s.mem) ∧
  (∀ (s : State) (v : Word), s.between → s.reaches .host = true → s.noPair → s.ixSpace = 0 →
    s.space0Writable s.ixWord = true → s.bank.borrowed = false → s.bank.errs = [] →
    ∃ t, exec (.ixDataWrite .host v) s = .next t ∧ t.port.status = 0 ∧ t.tank s.ixWord = v ∧
      KeepsTank s t (4 * s.ixWord) (4 * s.ixWord + 4) ∧ KeepsRegs s t [Reg.CHIP_IX_ADDR] ∧
      t.reg Reg.CHIP_IX_ADDR = setBits (s.reg Reg.CHIP_IX_ADDR) 0 24 (s.ixWord + 1)) ∧
  (∀ (s : State) (v : Word), s.between → s.reaches .host = true → s.noPair →
    s.ixSpace = 0 ∧ s.space0Writable s.ixWord = false ∨ s.ixSpace = 3 ∧ s.tplLocked (s.ixWord / 1024) = true ∨ s.ixSpace = 4 →
    ∃ t, exec (.ixDataWrite .host v) s = .next t ∧ t.port.status = 5 ∧ t.flag Reg.CHIP_REG_STATUS 4 = true ∧
      KeepsRegs s t [Reg.CHIP_REG_STATUS] ∧ t.mem = s.mem) ∧
  (∀ (s : State) (v : Word), s.between → s.reaches .loupe = true →
    ∃ t, exec (.ixAddrWrite .loupe v) s = .next t ∧ t.port.busError = true ∧ t = { s with port := t.port } ∧
      exec (.ixDataWrite .loupe v) s = .next t ∧ exec (.ixDataRead .loupe) s = .next t)

/-- Four reads have an effect. EPOCH_LO latches bits 47:32 of the frame's epoch into EPOCH_HI; SCORE_READ answers the best score and starts it
anew; FEAT_READ_0 latches the last feature frame of the selected stream; FRAME_LEN answers its extremes and starts them anew. No other register
changes. A Loupe access off its alignment returns a bus error, sets UNALIGNED and logs its address and width (R31, R264, R265, R485, R660). -/
def Obligations.LatchingAndUnalignedAccesses : Prop :=
  (∀ (s : State) (src : Src), s.between → s.reaches src = true → s.noPair →
    ∃ t, exec (.epochLoRead src) s = .next t ∧ t.port.data = [s.clk.frameEpoch.truncate 32] ∧ t.port.status = 0 ∧
      t.reg Reg.CHIP_EPOCH_HI = BitVec.ofNat 32 (s.clk.frameEpoch.toNat / 2 ^ 32) ∧ KeepsRegs s t [Reg.CHIP_EPOCH_HI]) ∧
  (∀ (s : State) (src : Src), s.between → s.reaches src = true → s.noPair → s.pageOff Reg.SHEET_SCORE_READ = false →
    ∃ t, exec (.scoreRead src) s = .next t ∧ t.port.data = [BitVec.ofNat 32 s.sheet.best] ∧ t.port.status = 0 ∧
      t = { s with sheet := { s.sheet with best := 0xFFFF }, port := t.port }) ∧
  (∀ (s : State) (src : Src), s.between → s.reaches src = true → s.noPair → s.pageOff Reg.SHEET_FEAT_READ_0 = false →
    s.fld Reg.SHEET_FEAT_SEL 3 0 < 9 →
    ∃ t, exec (.featRead src) s = .next t ∧ t.port.status = 0 ∧
      t = { s with sheet := { s.sheet with latched := nth s.sheet.feats (s.fld Reg.SHEET_FEAT_SEL 3 0) (0, []) }, port := t.port } ∧
      t.port.data = [featWord (nth s.sheet.feats (s.fld Reg.SHEET_FEAT_SEL 3 0) (0, [])).2 0]) ∧
  (∀ (s : State) (src : Src), s.between → s.reaches src = true → s.noPair → s.pageOff Reg.LOUPE_FRAME_LEN = false →
    s.loupe.halted = false → s.loupe.lenBlank = false →
    ∃ t, exec (.frameLenRead src) s = .next t ∧ t.port.data = [s.reg Reg.LOUPE_FRAME_LEN] ∧ t.port.status = 0 ∧
      t.reg Reg.LOUPE_FRAME_LEN = Reg.resetOf Reg.LOUPE_FRAME_LEN ∧ KeepsRegs s t [Reg.LOUPE_FRAME_LEN]) ∧
  (∀ (s : State) (addr width : Nat), s.roomFor 1 → s.reaches .loupe = true → width = 2 ∨ width = 4 ∨ width = 8 → addr % width ≠ 0 →
    ∃ t, exec (.loupeUnaligned addr width) s = .next t ∧ t.flag Reg.CHIP_REG_STATUS 3 = true ∧
      KeepsRegs s t [Reg.CHIP_REG_STATUS] ∧ t.port.busError = true ∧
      Logged s t [s.entry Log.REG 4 (ofBytes (addr % 256) (addr / 256 % 256) width 0) 0])

/-- The host's write of IX_ADDR whose SPACE is 5 to 15, or whose bits 27:24 are not 0, has no effect and completes with ACCESS, and any other is
stored; APER.SCALE accepts a C_SCALE from 0x6000 to 0xA000 and any other value has no effect and completes with ACCESS (R256, R367). -/
def Obligations.ValuesOutOfRangeHaveNoEffect : Prop :=
  (∀ (s : State) (v : Word), s.between → s.reaches .host = true → s.noPair →
    ∃ t, exec (.ixAddrWrite .host v) s = .next t ∧ t = { s with regs := t.regs, par := t.par, port := t.port } ∧ KeepsRegs s t [Reg.CHIP_IX_ADDR] ∧
      (if 4 < bits v 31 28 ∨ bits v 27 24 ≠ 0 then t.reg Reg.CHIP_IX_ADDR = s.reg Reg.CHIP_IX_ADDR ∧ t.port.status = 5
       else t.reg Reg.CHIP_IX_ADDR = v ∧ t.port.status = 0)) ∧
  (∀ (s : State) (src : Src) (v : Word), s.between → s.reaches src = true → s.noPair → bits v 31 16 ≠ 0 →
    s.pageOff Reg.APER_SCALE = false →
    ∃ t, exec (.scaleWrite src v) s = .next t ∧ KeepsRegs s t [Reg.APER_SCALE] ∧ t = { s with regs := t.regs, par := t.par, port := t.port } ∧
      (if 0x6000 ≤ bits (maskedWrite (s.reg Reg.APER_SCALE) v) 15 0 ∧ bits (maskedWrite (s.reg Reg.APER_SCALE) v) 15 0 ≤ 0xA000
       then t.reg Reg.APER_SCALE = maskedWrite (s.reg Reg.APER_SCALE) v ∧ t.port.status = 0
       else t.reg Reg.APER_SCALE = s.reg Reg.APER_SCALE ∧ t.port.status = 5))

/-- A Loupe write of 8 or 16 bits is discarded: it sets ACCESS_SIZE and logs its address and width, and nothing else of the unit changes (R262).
-/
def Obligations.NarrowLoupeWritesAreDiscarded : Prop :=
  ∀ (s : State) (addr width : Nat) (v : Word), s.roomFor 1 → s.reaches .loupe = true → width = 1 ∨ width = 2 → addr % width = 0 →
    ∃ t, exec (.loupeNarrowWrite addr width v) s = .next t ∧ t.flag Reg.CHIP_REG_STATUS 2 = true ∧
      KeepsRegs s t [Reg.CHIP_REG_STATUS] ∧ t.port.busError = false ∧
      t = { s with regs := t.regs, par := t.par, sset := t.sset, caused := t.caused, port := t.port, fixer := { s.fixer with staged := t.fixer.staged } } ∧
      Logged s t [s.entry Log.REG 3 (ofBytes (addr % 256) (addr / 256 % 256) width 0) 0]

/-! ### Commands written to M registers -/

/-- SWAP_REQUEST: while COMPAT is 1, a request that names another bank than the active one becomes the pending swap, one that names the active
bank leaves none pending, and one that finds a swap pending sets SWAP_REPLACED; while COMPAT is 0 it has no effect. COMMIT copies the staging
registers into the pending table of its beam alone, and sets COMMIT_REPLACED where one was pending. SWITCH_ARM takes SWITCH_EPOCH as the switch's
epoch; where that epoch has begun, the switch is late, is armed for the next frame, and says so (R348, R370, R411, R414). -/
def Obligations.SwapsCommitsAndPlanSwitches : Prop :=
  (∀ (s : State) (src : Src) (v : Word), s.writeReady src Reg.DECIM_SWAP_CTL v →
    bitOf (maskedWrite (s.reg Reg.DECIM_SWAP_CTL) v) 0 = true →
    ∃ t, exec (.swapRequest src v) s = .next t ∧ t.port.status = 0 ∧
      t.reg Reg.DECIM_SWAP_CTL = maskedWrite (s.reg Reg.DECIM_SWAP_CTL) v &&& ~~~0x1#32 ∧
      t.decim = { s.decim with swap := if s.flag Reg.DECIM_DECIM_CFG 8 = false then s.decim.swap
                                       else if bits (maskedWrite (s.reg Reg.DECIM_SWAP_CTL) v) 1 1 = s.decim.bank then none
                                       else some (bits (maskedWrite (s.reg Reg.DECIM_SWAP_CTL) v) 1 1) } ∧
      (s.flag Reg.DECIM_DECIM_CFG 8 = true → s.decim.swap.isSome = true → t.flag Reg.DECIM_DECIM_STATUS 4 = true)) ∧
  (∀ (s : State) (src : Src) (v : Word), s.writeReady src Reg.APER_COMMIT v → s.aper.beams.length = 8 →
    bitOf (maskedWrite (s.reg Reg.APER_COMMIT) v) 3 = true →
    ∃ t, exec (.commit src v) s = .next t ∧ t.port.status = 0 ∧ t.flag Reg.APER_COMMIT 3 = false ∧
      (∀ b, b < 8 → t.beam b = if b = bits (maskedWrite (s.reg Reg.APER_COMMIT) v) 2 0
        then { s.beam b with pend := some s.stagedTable, ready := false } else s.beam b) ∧
      ((s.beam (bits (maskedWrite (s.reg Reg.APER_COMMIT) v) 2 0)).pend.isSome = true → t.flag Reg.APER_APER_STATUS 1 = true)) ∧
  (∀ (s : State) (src : Src) (v : Word), s.writeReady src Reg.MX_SWITCH_CTL v → s.roomFor 1 →
    bitOf (maskedWrite (s.reg Reg.MX_SWITCH_CTL) v) 0 = true → bitOf (maskedWrite (s.reg Reg.MX_SWITCH_CTL) v) 1 = false →
    ∃ t, exec (.switchArm src v) s = .next t ∧ t.port.status = 0 ∧
      t.mx = { s.mx with armed := some (if (s.clk.frameEpoch.truncate 32 - s.reg Reg.MX_SWITCH_EPOCH).toNat < 2 ^ 31
        then s.clk.frameEpoch + 1
        else s.clk.frameEpoch + (s.reg Reg.MX_SWITCH_EPOCH - s.clk.frameEpoch.truncate 32).zeroExtend 48) } ∧
      (if (s.clk.frameEpoch.truncate 32 - s.reg Reg.MX_SWITCH_EPOCH).toNat < 2 ^ 31
       then t.flag Reg.MX_MX_STATUS 3 = true ∧
         Logged s t [s.entry Log.MX 3 (s.reg Reg.MX_SWITCH_EPOCH) (s.clk.frameEpoch.truncate 32 + 1)]
       else KeepsRegs s t [Reg.MX_SWITCH_CTL] ∧ Logged s t []))

/-- A write of SWITCH_CTL with CANCEL disarms a pending switch, whether or not it has ARM, and leaves the plan and every other part of MX as it
is; CANCEL reads 0 after it (R415). -/
def Obligations.CancelDisarmsThePlanSwitch : Prop :=
  ∀ (s : State) (src : Src) (v : Word), s.writeReady src Reg.MX_SWITCH_CTL v →
    bitOf (maskedWrite (s.reg Reg.MX_SWITCH_CTL) v) 1 = true →
    ∃ t, exec (.switchCancel src v) s = .next t ∧ t.port.status = 0 ∧ t.mx = { s.mx with armed := none } ∧
      t.flag Reg.MX_SWITCH_CTL 1 = false ∧ t.flag Reg.MX_SWITCH_CTL 0 = false ∧ t = { s with regs := t.regs, par := t.par, port := t.port, mx := t.mx } ∧
      KeepsRegs s t [Reg.MX_SWITCH_CTL]

/-- SEED_LOAD copies the eight band values into a pending seed of every stream its mask names, and of no other. PROFILE_COMMIT keeps a valid
staged profile for the next block boundary, and refuses an invalid one: PROF_BAD sets, its entry names the reason, and nothing is pending that
was not (R440, R442, R443). TEMPLATE_ENABLE requests the slot's enable, unless the slot's template is bad: then TPL_BAD sets, its entry names the
reason, and nothing is requested; or its header cannot be read: then TPL_ECC sets, no request of it stands and it stays disabled; of an enabled
slot it only takes back a disable that waits (the model's choice, log entry 50). TEMPLATE_DISABLE requests the slot's disable (R468, R469, R482).
-/
def Obligations.SeedsProfilesAndTemplatesAreStaged : Prop :=
  (∀ (s : State) (src : Src) (v : Word), s.writeReady src Reg.DEV_SEED_CTL v → s.dev.streams.length = 9 →
    bitOf (maskedWrite (s.reg Reg.DEV_SEED_CTL) v) 9 = true →
    ∃ t, exec (.seedLoad src v) s = .next t ∧ t.port.status = 0 ∧ t.flag Reg.DEV_SEED_CTL 9 = false ∧
      KeepsRegs s t [Reg.DEV_SEED_CTL] ∧
      ∀ i, i < 9 → t.stream i = if bitOf (maskedWrite (s.reg Reg.DEV_SEED_CTL) v) i
        then { s.stream i with seed := some ((List.range 8).map s.seedBand) } else s.stream i) ∧
  (∀ (s : State) (src : Src) (v : Word), s.writeReady src Reg.DEV_PROF_COMMIT v → s.roomFor 1 →
    bitOf (maskedWrite (s.reg Reg.DEV_PROF_COMMIT) v) 3 = true →
    ∃ t, exec (.profileCommit src v) s = .next t ∧ t.port.status = 0 ∧ t.flag Reg.DEV_PROF_COMMIT 3 = false ∧
      (profileBad ((List.range 12).map (fun i => s.reg (Reg.DEV_PROF_STAGE_0 + 4 * i))) = none →
        t.dev.pendProf = s.dev.pendProf.set (bits (maskedWrite (s.reg Reg.DEV_PROF_COMMIT) v) 2 0)
          (some ((List.range 12).map (fun i => s.reg (Reg.DEV_PROF_STAGE_0 + 4 * i)))) ∧
        t.dev = { s.dev with pendProf := t.dev.pendProf } ∧ Logged s t []) ∧
      (∀ why ∈ profileBad ((List.range 12).map (fun i => s.reg (Reg.DEV_PROF_STAGE_0 + 4 * i))),
        t.dev = s.dev ∧ t.flag Reg.DEV_DEV_STATUS 2 = true ∧
          Logged s t [s.entry Log.DEV 7 (ofBytes (bits (maskedWrite (s.reg Reg.DEV_PROF_COMMIT) v) 2 0) why 0 0) 0])) ∧
  (∀ (s : State) (src : Src) (v : Word) (n : Nat), s.writeReady src Reg.SHEET_TPL_CTL v → s.roomFor 1 →
    n = bits (maskedWrite (s.reg Reg.SHEET_TPL_CTL) v) 7 0 →
    bitOf (maskedWrite (s.reg Reg.SHEET_TPL_CTL) v) 9 = true → bitOf (maskedWrite (s.reg Reg.SHEET_TPL_CTL) v) 8 = true →
    ∃ t, exec (.templateEnable src v) s = .next t ∧ t.port.status = 0 ∧
      (n ∈ s.sheet.enabled → t.sheet.enabled = s.sheet.enabled ∧
        assocGet t.sheet.reqs n ≠ some true ∧ KeepsRegs s t [Reg.SHEET_TPL_CTL]) ∧
      (n ∉ s.sheet.enabled → s.eccAt (tplAddr n 0) = some true →
        t.sheet.enabled = s.sheet.enabled ∧ assocGet t.sheet.reqs n = none ∧ t.flag Reg.SHEET_SHEET_STATUS 3 = true) ∧
      (n ∉ s.sheet.enabled → s.eccAt (tplAddr n 0) ≠ some true → ∀ why ∈ s.tplBad n,
        t.sheet = s.sheet ∧ t.flag Reg.SHEET_SHEET_STATUS 1 = true ∧
          (s.bank.borrowed = false → Logged s t [s.entry Log.SHEET 2 (ofBytes n why 0 0) 0])) ∧
      (n ∉ s.sheet.enabled → s.eccAt (tplAddr n 0) ≠ some true → s.tplBad n = none →
        assocGet t.sheet.reqs n = some true ∧ t.sheet = { s.sheet with reqs := t.sheet.reqs } ∧
          (s.bank.borrowed = false → KeepsRegs s t [Reg.SHEET_TPL_CTL]))) ∧
  (∀ (s : State) (src : Src) (v : Word), s.writeReady src Reg.SHEET_TPL_CTL v →
    bitOf (maskedWrite (s.reg Reg.SHEET_TPL_CTL) v) 9 = true → bitOf (maskedWrite (s.reg Reg.SHEET_TPL_CTL) v) 8 = false →
    ∃ t, exec (.templateDisable src v) s = .next t ∧ t.port.status = 0 ∧ KeepsRegs s t [Reg.SHEET_TPL_CTL] ∧
      assocGet t.sheet.reqs (bits (maskedWrite (s.reg Reg.SHEET_TPL_CTL) v) 7 0) = some false ∧
      t.sheet = { s.sheet with reqs := t.sheet.reqs })

/-- RELEASE_W and RELEASE_D end their ring's freeze and cancel its pending one, with a RELEASE entry where there was either (R505 says that a
release writes the entry; that one without a freeze writes none is the model's choice, log entry 47); RUN_D from 0 to 1 empties the Daylight ring
and clears its freeze. Nothing else of the Latent buffer changes (R497, R505, R514). -/
def Obligations.LatentRingsAreReleasedAndRestarted : Prop :=
  (∀ (s : State) (src : Src) (v : Word), s.writeReady src Reg.LATENT_LAT_CTL v → s.roomFor 2 →
    bitOf (maskedWrite (s.reg Reg.LATENT_LAT_CTL) v) 2 = true →
    ∃ t, exec (.releaseW src v) s = .next t ∧ t.port.status = 0 ∧ t.flag Reg.LATENT_LAT_CTL 2 = false ∧
      t.latent.w = { s.latent.w with frozen := false, pend := none } ∧
      (bitOf (maskedWrite (s.reg Reg.LATENT_LAT_CTL) v) 3 = false → s.flag Reg.LATENT_LAT_CTL 1 = true →
        t.latent = { s.latent with w := { s.latent.w with frozen := false, pend := none } } ∧
        Logged s t (if s.latent.w.frozen || s.latent.w.pend.isSome then [s.entry Log.LATENT 3 (ofBytes 0 0 0 0) 0] else []))) ∧
  (∀ (s : State) (src : Src) (v : Word), s.writeReady src Reg.LATENT_LAT_CTL v → s.roomFor 2 →
    bitOf (maskedWrite (s.reg Reg.LATENT_LAT_CTL) v) 3 = true →
    ∃ t, exec (.releaseD src v) s = .next t ∧ t.port.status = 0 ∧ t.flag Reg.LATENT_LAT_CTL 3 = false ∧
      t.latent.d.frozen = false ∧ t.latent.d.pend = none ∧
      (bitOf (maskedWrite (s.reg Reg.LATENT_LAT_CTL) v) 2 = false → s.flag Reg.LATENT_LAT_CTL 1 = true →
        t.latent = { s.latent with d := { s.latent.d with frozen := false, pend := none } } ∧
        Logged s t (if s.latent.d.frozen || s.latent.d.pend.isSome then [s.entry Log.LATENT 3 (ofBytes 1 0 0 0) 0] else []))) ∧
  (∀ (s : State) (src : Src) (v : Word), s.writeReady src Reg.LATENT_LAT_CTL v → s.flag Reg.LATENT_LAT_CTL 1 = false →
    bitOf (maskedWrite (s.reg Reg.LATENT_LAT_CTL) v) 1 = true →
    ∃ t, exec (.runDStart src v) s = .next t ∧ t.port.status = 0 ∧
      t.reg Reg.LATENT_LAT_CTL = maskedWrite (s.reg Reg.LATENT_LAT_CTL) v &&& ~~~0xC#32 ∧
      t.latent.d = { s.latent.d with total := 0, head := 0, prev := none, gap := false, mis := false, frozen := false, pend := none } ∧
      (bits (maskedWrite (s.reg Reg.LATENT_LAT_CTL) v) 3 2 = 0 → t.latent = { s.latent with d := t.latent.d } ∧ Logged s t []))

/-- STEER_SEARCH snapshots the carriers and the window and starts a search, one in progress anew; a carrier or a window out of its range is
refused: CARRIER_BAD sets, its entry names the reason, and the search, the snapshot and the result in force stay. LATCH_CLEAR writes the latch,
and every bit that the host writes to 0, whatever it read (log entry 57), releases that channel's Fixer instance and no other; the Loupe's write
releases none (R591, R600, R685, R687). BIAS_EN_SET stores the mask's bits; every bit that the host writes to 1, whatever it read (log entry 57),
ends that bias's lasting short and empties its Fixer instance, while the Loupe's write ends none; and after it each bias is driven if the strap
read, its bit, the format and its power domain, VBIAS and its shorts let it be, and not otherwise (R274, R280, R685). FIXER_CLEAR ends the
lasting state of the instance it names and empties its history, and touches no other; an instance that does not exist names none (R685). -/
def Obligations.SearchesLatchesAndClears : Prop :=
  (∀ (s : State) (src : Src) (v : Word), s.writeReady src Reg.STAGE_STEER_CTL v → s.roomFor 1 →
    bitOf (maskedWrite (s.reg Reg.STAGE_STEER_CTL) v) 0 = true →
    ∃ t, exec (.steerSearch src v) s = .next t ∧ t.port.status = 0 ∧ t.flag Reg.STAGE_STEER_CTL 0 = false ∧
      (if s.carriers.any (fun c => decide (c < 100 ∨ 1800 < c)) = true then t.stage = s.stage ∧ t.flag Reg.STAGE_STAGE_STATUS 5 = true ∧
          Logged s t [s.entry Log.STAGE 5 (ofBytes 0 0 0 0) 0]
       else if 150 ≤ s.fld Reg.STAGE_STEER_WIN 19 10 ∧ s.fld Reg.STAGE_STEER_WIN 19 10 ≤ s.fld Reg.STAGE_STEER_WIN 9 0 ∧
          s.fld Reg.STAGE_STEER_WIN 9 0 ≤ s.fld Reg.STAGE_STEER_WIN 29 20 ∧ s.fld Reg.STAGE_STEER_WIN 29 20 ≤ 1000 then
          t.stage = { s.stage with search := some (s.snapshot (bits (maskedWrite (s.reg Reg.STAGE_STEER_CTL) v) 3 2)),
                                   snap := some (s.snapshot (bits (maskedWrite (s.reg Reg.STAGE_STEER_CTL) v) 3 2)) } ∧ Logged s t []
       else t.stage = s.stage ∧ t.flag Reg.STAGE_STAGE_STATUS 5 = true ∧ Logged s t [s.entry Log.STAGE 5 (ofBytes 1 0 0 0) 0])) ∧
  (∀ (c : Instr) (s : State) (src : Src) (v : Word), s.writeReady src Reg.STAGE_LATCH v → s.fixer.hist.length = 44 →
    (bits (s.reg Reg.STAGE_LATCH &&& ~~~maskedWrite (s.reg Reg.STAGE_LATCH) v) 7 0 ≠ 0 ∧ c = .latchClear src v) ∨
      c = .registerWrite src Reg.STAGE_LATCH { vals := [v] } →
    ∃ t, exec c s = .next t ∧ t.port.status = 0 ∧
      t.reg Reg.STAGE_LATCH = maskedWrite (s.reg Reg.STAGE_LATCH) v ∧ KeepsRegs s t [Reg.STAGE_LATCH] ∧
      ∀ i, i < 44 → t.history i = if src = .host ∧ 34 ≤ i ∧ i < 42 ∧ bitOf v (16 + (i - 34)) = true ∧ bitOf v (i - 34) = false
        then { s.history i with epochs := [], lasting := false } else s.history i) ∧
  (∀ (s : State) (src : Src) (v : Word), s.writeReady src Reg.FRONT_BIAS_EN v → s.front.bias.length = 16 → s.fixer.hist.length = 44 →
     bits (v &&& (v >>> 16)) 15 0 ≠ 0 →
     ∃ t, exec (.biasEnSet src v) s = .next t ∧ t.port.status = 0 ∧
       t.reg Reg.FRONT_BIAS_EN = maskedWrite (s.reg Reg.FRONT_BIAS_EN) v ∧ KeepsRegs s t [Reg.FRONT_BIAS_EN] ∧
       (∀ k, k < 16 → src = .host → bitOf v k = true → bitOf v (16 + k) = true → (t.biasOf k).latched = false ∧
         (t.history (5 + k)).epochs = [] ∧ (t.history (5 + k)).lasting = false) ∧
       (∀ k, k < 16 → src = .loupe ∨ bitOf v k = false ∨ bitOf v (16 + k) = false → (t.biasOf k).latched = (s.biasOf k).latched ∧
         t.history (5 + k) = s.history (5 + k)) ∧
       (∀ k, k < 16 → (t.biasOf k).on = (s.ident.done && bitOf (maskedWrite (s.reg Reg.FRONT_BIAS_EN) v) k && s.front.vbiasOk &&
         ((s.blockUp 0 && !s.toSafe) || k == s.front.watchMic) && (t.biasOf k).shorted.isNone && !(t.biasOf k).latched))) ∧
  (∀ (s : State) (src : Src) (v : Word), s.writeReady src Reg.FIXER_CLEAR v → s.fixer.hist.length = 44 →
     bitOf (maskedWrite (s.reg Reg.FIXER_CLEAR) v) 8 = true →
     ∃ t, exec (.fixerClear src v) s = .next t ∧ t.port.status = 0 ∧ t.flag Reg.FIXER_CLEAR 8 = false ∧
       KeepsRegs s t [Reg.FIXER_CLEAR] ∧
       ∀ i, i < 44 → t.history i = if i = bits (maskedWrite (s.reg Reg.FIXER_CLEAR) v) 5 0
         then { s.history i with epochs := [], lasting := false } else s.history i)

/-- A mailbox command passes its OP and the argument to the firmware, which is then busy: another completes with ACCESS and has no effect. When
the firmware completes, the result is loaded, the mailbox is free again and MBX_DONE sets: the argument for ECHO, 0 for SNAPSHOT, the least or
greatest reading for EXTREME (a reading never taken is log entry 60's), the last word of the active patch's digest for PATCH_SUM (which hash it
is, is log entry 117's) and 0 without one, and all ones for an OP that nothing serves (R663). -/
def Obligations.MailboxPassesAndCompletes : Prop :=
  (∀ (c : Instr) (s : State) (src : Src) (v : Word), mailboxRow c = some (src, v) → s.between → s.reaches src = true → s.noPair →
    s.pageOff Reg.LOUPE_MBX_CMD = false → bits v 31 16 ≠ 0 → bitOf (maskedWrite (s.reg Reg.LOUPE_MBX_CMD) v) 8 = true →
    mailboxFits c (bits (maskedWrite (s.reg Reg.LOUPE_MBX_CMD) v) 7 0) = true →
    ∃ t, exec c s = .next t ∧ KeepsRegs s t [Reg.LOUPE_MBX_CMD] ∧
      (if s.loupe.mbx.isSome = true ∨ s.loupe.halted = true then t = { s with port := t.port } ∧ t.port.status = 5
       else t.port.status = 0 ∧ t.reg Reg.LOUPE_MBX_CMD = maskedWrite (s.reg Reg.LOUPE_MBX_CMD) v &&& ~~~0x100#32 ∧
         t.loupe = { s.loupe with mbx := some (bits (maskedWrite (s.reg Reg.LOUPE_MBX_CMD) v) 7 0, s.reg Reg.LOUPE_MBX_ARG) })) ∧
  (∀ (s : State) (r : Word) (snap : Sensors) (op : Nat) (arg : Word), s.acting = true → s.loupe.powered = true →
    s.loupe.halted = false → s.loupe.mbx = some (op, arg) →
    ∃ t, exec (.mbxDone r snap) s = .next t ∧ t.loupe.mbx = none ∧ t.flag Reg.LOUPE_LOUPE_STATUS 0 = true ∧
      (op = 0 → t.reg Reg.LOUPE_MBX_RESULT = arg) ∧ (op = 1 → t.reg Reg.LOUPE_MBX_RESULT = 0#32) ∧
      (op = 2 → (nth (if bitOf arg 4 then s.loupe.greatest else s.loupe.least) (bits arg 3 0) none).isSome = true →
        some (t.reg Reg.LOUPE_MBX_RESULT) =
          (nth (if bitOf arg 4 then s.loupe.greatest else s.loupe.least) (bits arg 3 0) none).map (fun x => BitVec.ofNat 32 x.toNat)) ∧
      (op = 3 → t.reg Reg.LOUPE_MBX_RESULT = if s.loupe.patch = 2 then shaLow s.patchMessage else 0) ∧
      (3 < op → op < 0x80 → t.reg Reg.LOUPE_MBX_RESULT = 0xFFFFFFFF#32) ∧
      (0x80 ≤ op → t.reg Reg.LOUPE_MBX_RESULT = if s.loupe.patch = 2 then r else 0xFFFFFFFF#32))

/-! ### What the guarded rows do -/

/-- A link, front-end or drive loop that is selected waits for the next frame start; LINK_LOOP_OFF ends a running pad or lane loop at once: its
side searches for lock anew and both outputs have their own clock, while the end of a frame loop leaves the sides as they are (R137, R141, R305,
R572; that LOOP 0 of the LINK pair acts at once is log entry 13). Every form of the front-end pair is refused with ACCESS in SAFELIGHT, a pair
armed for it or not, and in DAYLIGHT an analog loop on a channel the PDM port takes, a PDM loop while the port does not run with MIRROR_EN at 1;
a drive loop is refused where its channel is not in OFF, without the master enable for LOOP 3, and in a countdown. What is refused changes
nothing but the pair (R248, R306, R573). -/
def Obligations.LoopsWaitOrAreRefused : Prop :=
  (∀ (c : Instr) (s : State) (src : Src) (v : Word),
    c = .padLoop src v ∧ bits (~~~v) 1 0 = 1 ∨ c = .laneLoop src v ∧ bits (~~~v) 1 0 = 2 ∨ c = .frameLoop src v ∧ bits (~~~v) 1 0 = 3 →
    s.pairReady src Reg.LINK_PROOF_CTL_A v →
    ∃ t, exec c s = .next t ∧ t.port.status = 0 ∧ t.link = { s.link with loopPend := some (~~~v &&& 0x37#32) } ∧
      t.sideA = s.sideA ∧ t.sideB = s.sideB ∧ t.outA = s.outA ∧ t.outB = s.outB ∧ KeepsRegs s t []) ∧
  (∀ (s : State) (src : Src) (v : Word), bits (~~~v) 1 0 = 0 → s.pairReady src Reg.LINK_PROOF_CTL_A v →
    ∃ t, exec (.linkLoopOff src v) s = .next t ∧ t.port.status = 0 ∧ t.link = { s.link with loop := none, loopPend := none } ∧
      (∀ p ∈ s.link.loop, p.1 ≠ 3 → (t.sd p.2.1).lock = false ∧ t.sd (other p.2.1) = s.sd (other p.2.1) ∧
        t.outClocked .a = s.link.forwarding ∧ t.outClocked .b = s.link.forwarding) ∧
      (s.link.loop = none ∨ (s.link.loop.map (·.1)) = some 3 → t.sideA = s.sideA ∧ t.sideB = s.sideB ∧ t.outA = s.outA ∧ t.outB = s.outB) ∧
      KeepsRegs s t (Reg.LINK_PROOF_CTL_A :: Reg.FRAME_FRAME_STATUS :: logReport)) ∧
  (∀ (c : Instr) (s : State) (src : Src) (v : Word),
    c = .analogLoop src v ∧ bits (~~~v) 1 0 = 1 ∨ c = .bitstreamLoop src v ∧ bits (~~~v) 1 0 = 2 ∨
      c = .pdmLoop src v ∧ bits (~~~v) 1 0 = 3 ∨ c = .frontLoopOff src v ∧ bits (~~~v) 1 0 = 0 ∨
      c = .capture src v ∧ bitOf (~~~v) 2 = true →
    s.pairReady src Reg.FRONT_PROOF_CTL_A v →
    ∃ t, exec c s = .next t ∧ t.port.status = 0 ∧ t.front = { s.front with loopPend := some (~~~v &&& 0xFFFF7#32) } ∧
      KeepsRegs s t []) ∧
  (∀ (c : Instr) (s : State) (src : Src) (v : Word),
    c = .digitalLoop src v ∧ bits (~~~v) 1 0 = 1 ∨ c = .dacLoop src v ∧ bits (~~~v) 1 0 = 2 ∨ c = .stageLoop src v ∧ bits (~~~v) 1 0 = 3 →
    s.pairReady src Reg.PRINT_PROOF_CTL_A v →
    ∃ t, exec c s = .next t ∧ t.port.status = 0 ∧ t.print = { s.print with loopPend := some (~~~v &&& 0xFFF1F#32) } ∧
      KeepsRegs s t []) ∧
  (∀ (c : Instr) (s : State) (src : Src) (v : Word),
    c = .analogLoop src v ∧ bits (~~~v) 1 0 = 1 ∧ 12 ≤ bits (~~~v) 7 4 ∧ s.front.pdmPhase ≠ 0 ∧
        s.front.pdmTaken.testBit (bits (~~~v) 7 4 - 12) = true ∨
      c = .pdmLoop src v ∧ bits (~~~v) 1 0 = 3 ∧ (s.front.pdmPhase ≠ 2 ∨ s.front.mirrorEn = false) →
    s.between → s.reaches src = true → s.armed src = some ⟨Reg.FRONT_PROOF_CTL_A, ~~~v⟩ → s.armed (otherSrc src) = none →
    s.clk.daylight = true →
    ∃ t, exec c s = .next t ∧ t.port.status = 5 ∧ t = { s with port := t.port }) ∧
  (∀ (c : Instr) (s : State) (src : Src) (v : Word),
    c = .analogLoop src v ∧ bits (~~~v) 1 0 = 1 ∨ c = .bitstreamLoop src v ∧ bits (~~~v) 1 0 = 2 ∨
      c = .pdmLoop src v ∧ bits (~~~v) 1 0 = 3 ∨ c = .frontLoopOff src v ∧ bits (~~~v) 1 0 = 0 ∨
      c = .capture src v ∧ bitOf (~~~v) 2 = true →
    s.between → s.reaches src = true →
    s.noPair ∨ (s.armed src = some ⟨Reg.FRONT_PROOF_CTL_A, ~~~v⟩ ∧ s.armed (otherSrc src) = none) → s.clk.daylight = false →
    ∃ t, exec c s = .next t ∧ t.port.status = 5 ∧ t = { s with port := t.port }) ∧
  (∀ (c : Instr) (s : State) (src : Src) (v : Word),
    c = .digitalLoop src v ∧ bits (~~~v) 1 0 = 1 ∨ c = .dacLoop src v ∧ bits (~~~v) 1 0 = 2 ∨ c = .stageLoop src v ∧ bits (~~~v) 1 0 = 3 →
    s.between → s.reaches src = true → s.armed src = some ⟨Reg.PRINT_PROOF_CTL_A, ~~~v⟩ → s.armed (otherSrc src) = none →
    s.clk.daylight = true →
    (s.drive (bits (~~~v) 4 2)).st ≠ .off ∨ s.clk.rcTarget ≠ 0 ∨ (bits (~~~v) 1 0 = 3 ∧ s.flag Reg.PRINT_MASTER_A 0 = false) →
    ∃ t, exec c s = .next t ∧ t.port.status = 5 ∧ t = { s with port := t.port })

/-- EPOCH_HI_SET keeps the 16 bits for the next valid frame start. ADDR_OVERRIDE keeps its value, after those that already wait, for the next
frame start; until then either pair reads as before. An accepted override sets OVR_APPLIED and writes its entry with the new address and lock at
once. One that names POSITION 0xFF completes with OK, is kept nowhere, and sets ADDR_BAD. That the overrides wait in a list, each for a frame
start, is the model's choice (log entry 77) (R29, R96 to R98, R104, R243). A guarded write of the mode request sets the request: 0 and 3 withdraw
it, 1 requests DAYLIGHT, 2 SAFELIGHT. During a countdown or its training interval it completes with ACCESS and the request stays. A guarded reset
request waits for the next frame start; in DAYLIGHT or in a countdown it completes with ACCESS (R519, R522, R537). -/
def Obligations.OverridesModesAndResets : Prop :=
  (∀ (s : State) (src : Src) (v : Word), s.pairReady src Reg.CHIP_EPOCH_HI_SET_A v →
    ∃ t, exec (.epochHiSet src v) s = .next t ∧ t.port.status = 0 ∧
      t.clk = { s.clk with epochHiPend := some ((~~~v).truncate 16) } ∧ KeepsRegs s t []) ∧
  (∀ (s : State) (src : Src) (v : Word), s.pairReady src Reg.CHIP_ADDR_OVR_A v →
    ∃ t, exec (.addrOverride src v) s = .next t ∧ t.port.status = 0 ∧
      (if bitOf (~~~v) 14 = true ∧ bits (~~~v) 7 0 = 0xFF
       then t.ident = s.ident ∧ t.flag Reg.CHIP_ID_STATUS 11 = true ∧ KeepsRegs s t [Reg.CHIP_ID_STATUS]
       else t.ident = { s.ident with ovrPend := s.ident.ovrPend ++ [~~~v &&& 0x7FFF#32] } ∧ t.flag Reg.CHIP_ID_STATUS 12 = true ∧
         KeepsRegs s t [Reg.CHIP_ID_STATUS] ∧ (s.ident.ovrPend = [] → s.fixer.staged = [] →
           Logged s t [s.entry Log.IDENT 3 (ofBytes (if bitOf (~~~v) 14 then bits (~~~v) 7 0 else s.ident.position)
             (if bitOf (~~~v) 13 then bits (~~~v) 11 8 else s.ident.group) (b2n (bitOf (~~~v) 12)) 0) 0]))) ∧
  (∀ (c : Instr) (s : State) (src : Src) (v : Word),
    c = .modeWithdraw src v ∧ (bits (~~~v) 1 0 = 0 ∨ bits (~~~v) 1 0 = 3) ∨ c = .requestDaylight src v ∧ bits (~~~v) 1 0 = 1 ∨
      c = .requestSafelight src v ∧ bits (~~~v) 1 0 = 2 →
    s.between → s.reaches src = true → s.armed src = some ⟨Reg.CHIP_MODE_REQ_A, ~~~v⟩ → s.armed (otherSrc src) = none →
    ∃ t, exec c s = .next t ∧ t = { s with regs := t.regs, par := t.par, port := t.port } ∧ KeepsRegs s t [Reg.CHIP_MODE_REQ_A] ∧
      (if s.clk.rcTarget ≠ 0 ∨ s.link.training.isSome = true then t.port.status = 5 ∧ t.request = s.request
       else t.port.status = 0 ∧ t.request = (if bits (~~~v) 1 0 = 3 then 0 else bits (~~~v) 1 0))) ∧
  (∀ (s : State) (src : Src) (v : Word), s.between → s.reaches src = true → s.armed src = some ⟨Reg.CHIP_RESET_A, ~~~v⟩ →
    s.armed (otherSrc src) = none → bitOf (~~~v) 0 = true →
    ∃ t, exec (.unitReset src v) s = .next t ∧ KeepsRegs s t [Reg.CHIP_RESET_A] ∧
      (if s.clk.daylight = true ∨ s.clk.rcTarget ≠ 0 then t.port.status = 5 ∧ t = { s with port := t.port }
       else t.port.status = 0 ∧ t.mode = { s.mode with resetPend := true }))

/-- MASTER_ENABLE with EN = 1 enables the master, allows auto-restart again, and clears the latch-outs whose causes are cleared: those of the
clock and of missing audio always, that of a parity fault or a safe state only where it no longer stands; the stage latch-outs stay. EN = 0
clears the master alone. In a countdown to SAFELIGHT either completes with ACCESS (R49, R251, R557, R564, R567). -/
def Obligations.MasterEnableClearsLatchOuts : Prop :=
  (∀ (s : State) (src : Src) (v : Word), s.pairReady src Reg.PRINT_MASTER_A v → s.print.drives.length = 8 → bitOf (~~~v) 0 = true →
    ∃ t, exec (.masterEnable src v) s = .next t ∧ t.port.status = 0 ∧ t.reg Reg.PRINT_MASTER_A = 1#32 ∧
      t.clk = { s.clk with autoOff := false } ∧ KeepsRegs s t [Reg.PRINT_MASTER_A] ∧ t.stage = s.stage ∧
      (∀ n, n < 8 → (t.drive n).latchClock = false ∧ (t.drive n).latchMiss = false ∧ (t.drive n).st = (s.drive n).st ∧
        (t.drive n).latchRom = ((s.drive n).latchRom && (s.history (26 + n)).lasting) ∧
        (t.drive n).latchShadow = ((s.drive n).latchShadow && (s.history (26 + n)).lasting))) ∧
  (∀ (s : State) (src : Src) (v : Word), s.pairReady src Reg.PRINT_MASTER_A v → bitOf (~~~v) 0 = false →
    ∃ t, exec (.masterDisable src v) s = .next t ∧ t.port.status = 0 ∧ t.reg Reg.PRINT_MASTER_A = 0#32 ∧
      t = { s with regs := t.regs, par := t.par, port := t.port } ∧ KeepsRegs s t [Reg.PRINT_MASTER_A]) ∧
  (∀ (c : Instr) (s : State) (src : Src) (v : Word),
    c = .masterEnable src v ∧ bitOf (~~~v) 0 = true ∨ c = .masterDisable src v ∧ bitOf (~~~v) 0 = false →
    s.between → s.reaches src = true → s.armed src = some ⟨Reg.PRINT_MASTER_A, ~~~v⟩ → s.armed (otherSrc src) = none →
    s.clk.daylight = true → s.clk.rcTarget = 2 →
    ∃ t, exec c s = .next t ∧ t.port.status = 5 ∧ t = { s with port := t.port })

/-- WIPE with GO makes a wipe pending, or joins the one that is pending or runs, which then reports the higher cause; its own cause is 2 from the
host, 3 from the Loupe. LIFECYCLE_REQUEST from the host keeps its target and makes a wipe pending with cause 4; from the Loupe, for a state that
is not the next one, in a countdown or while the region is sealed, it completes with ACCESS (R638, R653, R670). PATCH_ACTIVATE with GO starts a
verification, with RAISE as written; PATCH_DEACTIVATE of an active patch restarts the base image without it; LOUPE_RESTART clears HALTED,
releases the Loupe's Fixer instance and starts the base image, but for a Loupe whose domain has no power yet. During a verification, in a
countdown, or while the Loupe is halted and RESTART is 0, the pair completes with ACCESS. The test pair stores its word, with no other effect
where R671 describes none (the model's choice, log entry 56), but in FIELD takes none but the rest value (R524, R656, R665, R667, R671, R674,
R685). -/
def Obligations.WipesLifecyclePatchesAndTest : Prop :=
  (∀ (s : State) (src : Src) (v : Word), s.pairReady src Reg.TANK_WIPE_A v → bitOf (~~~v) 0 = true →
    ∃ t, exec (.wipe src v) s = .next t ∧ t.port.status = 0 ∧ t.mem = s.mem ∧ t.bank.wiping = s.bank.wiping ∧
      (t.bank.wipePend || t.bank.wiping) = true ∧
      t.bank.wipeCause = (if s.bank.wipePend || s.bank.wiping then max s.bank.wipeCause (if src = .host then 2 else 3)
        else if src = .host then 2 else 3)) ∧
  (∀ (s : State) (v : Word), s.pairReady .host Reg.LOUPE_LIFE_A v →
    ∃ t, exec (.lifecycleRequest .host v) s = .next t ∧ t.port.status = 0 ∧ t.loupe.lifeReq = some (bits (~~~v) 1 0) ∧
      t.loupe.life = s.loupe.life ∧ t.mem = s.mem ∧ (t.bank.wipePend || t.bank.wiping) = true ∧ 4 ≤ t.bank.wipeCause) ∧
  (∀ (s : State) (src : Src) (v : Word), s.between → s.reaches src = true → s.armed src = some ⟨Reg.LOUPE_LIFE_A, ~~~v⟩ →
    s.armed (otherSrc src) = none → s.pageOff Reg.LOUPE_LIFE_A = false →
    src = .loupe ∨ bits (~~~v) 1 0 ≠ s.loupe.life + 1 ∨ s.clk.rcTarget ≠ 0 ∨ s.sealed = true →
    ∃ t, exec (.lifecycleRequest src v) s = .next t ∧ t.port.status = 5 ∧ t = { s with port := t.port }) ∧
  (∀ (s : State) (src : Src) (v : Word), s.pairReady src Reg.LOUPE_PATCH_ACT_A v → bitOf (~~~v) 0 = true →
    ∃ t, exec (.patchActivate src v) s = .next t ∧ t.port.status = 0 ∧ t.loupe.patch = 1 ∧ t.loupe.wantRaise = bitOf (~~~v) 1 ∧
      t.loupe.reentry = false ∧ t.mem = s.mem) ∧
  (∀ (s : State) (src : Src) (v : Word), s.pairReady src Reg.LOUPE_PATCH_ACT_A v → bitOf (~~~v) 0 = false → bitOf (~~~v) 3 = true →
    s.loupe.patch = 2 → s.loupe.halted = false →
    ∃ t, exec (.patchDeactivate src v) s = .next t ∧ t.port.status = 0 ∧ t.loupe.patch = 0 ∧ t.loupe.marked = false ∧
      (s.blockUp 5 = true → t.loupe.starting = true ∧ t.loupe.powered = true) ∧ t.mem = s.mem) ∧
  (∀ (s : State) (src : Src) (v : Word), s.pairReady src Reg.LOUPE_PATCH_ACT_A v → bitOf (~~~v) 0 = false → bitOf (~~~v) 2 = true →
    s.fixer.hist.length = 44 →
    ∃ t, exec (.loupeRestart src v) s = .next t ∧ t.port.status = 0 ∧ t.loupe.halted = false ∧
      (if s.blockUp 5 = true then t.loupe.starting = true ∧ t.loupe.powered = true
       else t.loupe.starting = s.loupe.starting ∧ t.loupe.powered = s.loupe.powered) ∧ t.loupe.patch = 0 ∧ (t.history 43).lasting = false ∧ (t.history 43).epochs = []) ∧
  (∀ (c : Instr) (s : State) (src : Src) (v : Word),
    c = .patchActivate src v ∧ bitOf (~~~v) 0 = true ∨ c = .patchDeactivate src v ∧ bitOf (~~~v) 3 = true →
    s.between → s.reaches src = true → s.armed src = some ⟨Reg.LOUPE_PATCH_ACT_A, ~~~v⟩ → s.armed (otherSrc src) = none →
    s.pageOff Reg.LOUPE_PATCH_ACT_A = false →
    s.loupe.patch = 1 ∨ s.clk.rcTarget ≠ 0 ∨ (s.loupe.halted = true ∧ bitOf (~~~v) 2 = false) →
    ∃ t, exec c s = .next t ∧ t.port.status = 5 ∧ t = { s with port := t.port }) ∧
  (∀ (s : State) (src : Src) (v : Word), s.between → s.reaches src = true → s.armed src = some ⟨Reg.CHIP_TEST_A, ~~~v⟩ →
    s.armed (otherSrc src) = none →
    ∃ t, exec (.testWrite src v) s = .next t ∧ t = { s with regs := t.regs, par := t.par, port := t.port } ∧ KeepsRegs s t [Reg.CHIP_TEST_A] ∧
      (if s.loupe.life = 2 ∧ ~~~v ≠ 0 then t.port.status = 5 ∧ t.reg Reg.CHIP_TEST_A = s.reg Reg.CHIP_TEST_A
       else t.port.status = 0 ∧ t.reg Reg.CHIP_TEST_A = ~~~v))

/-! ### The front end -/

/-- VBIAS below its threshold takes every bias to 0 V at once; VBIAS above it turns on each bias that its register, format and shorts let on, and
those alone (R274, R275, R279, R280, R708). A bias's ramp ends 96 ticks after it began, its invalid window 4,800 ticks, a transient short's wait
9,600 ticks; a converter's start interval ends after 256 ticks and the watch converter's after 64; the open detector arms again after 960 ticks
above its threshold. Before that the command changes nothing (R275, R279, R281, R288, R292). A bias at its current limit for 96 ticks is short:
it turns off, its flag sets, BIAS_FAULTS counts it and its entry is logged; a short that the Fixer makes lasting also clears the BIAS_EN bit,
latches the bias off and logs BIAS_LASTING. A bias that has drawn too little for 960 ticks, with its detector armed, is open: its flag sets, its
entry is logged, and the detector is disarmed. Which biases are checked in SAFELIGHT, and that a short there counts as the watch microphone's
instance 21, is the model's reading (log entries 19 and 21) (R278 to R281, R310). -/
def Obligations.BiasesAndTimersRunOut : Prop :=
  (∀ s : State, ∃ t, exec .vbiasLow s = .next t ∧ t.front = { s.front with vbiasOk := false, bias := t.front.bias } ∧
    (∀ b ∈ t.front.bias, b.on = false ∧ b.ramp = none)) ∧
  (∀ s : State, s.acting = true → s.front.bias.length = 16 →
    ∃ t, exec .vbiasRise s = .next t ∧ t.front = { s.front with vbiasOk := true, bias := t.front.bias } ∧
      ∀ k, k < 16 → (t.biasOf k).on = (s.flag Reg.FRONT_BIAS_EN k && ((s.blockUp 0 && !s.toSafe) || k == s.front.watchMic)
        && (s.biasOf k).shorted.isNone && !(s.biasOf k).latched)) ∧
  (∀ (s : State) (k t0 : Nat), s.between → s.acting = true → s.front.bias.length = 16 → k < 16 → (s.biasOf k).ramp = some t0 →
    (s.clk.ticks < t0 + 96 → (exec (.biasRampEnd k) s) = .next s) ∧
    (t0 + 96 ≤ s.clk.ticks → ∃ t, exec (.biasRampEnd k) s = .next t ∧ t = { s with front := { s.front with bias := t.front.bias } } ∧
      ∀ j, j < 16 → t.biasOf j = if j = k then { s.biasOf k with ramp := none } else s.biasOf j)) ∧
  (∀ (s : State) (k t0 : Nat), s.between → s.acting = true → s.front.bias.length = 16 → k < 16 → (s.biasOf k).window = some t0 →
    (s.clk.ticks < t0 + 4800 → exec (.biasWindowEnd k) s = .next s) ∧
    (t0 + 4800 ≤ s.clk.ticks → ∃ t, exec (.biasWindowEnd k) s = .next t ∧ t = { s with front := { s.front with bias := t.front.bias } } ∧
      ∀ j, j < 16 → t.biasOf j = if j = k then { s.biasOf k with window := none } else s.biasOf j)) ∧
  (∀ (s : State) (k t0 : Nat), s.between → s.acting = true → s.front.bias.length = 16 → k < 16 → (s.biasOf k).shorted = some t0 →
    (s.clk.ticks < t0 + 9600 ∨ (s.biasOf k).latched = true → exec (.biasRestart k) s = .next s) ∧
    (t0 + 9600 ≤ s.clk.ticks → (s.biasOf k).latched = false →
      ∃ t, exec (.biasRestart k) s = .next t ∧ t = { s with front := { s.front with bias := t.front.bias } } ∧
      (t.biasOf k).shorted = none ∧ (t.biasOf k).on = (s.front.vbiasOk && s.flag Reg.FRONT_BIAS_EN k &&
        ((s.blockUp 0 && !s.toSafe) || k == s.front.watchMic)) ∧ ∀ j, j < 16 → j ≠ k → t.biasOf j = s.biasOf j)) ∧
  (∀ (s : State) (k : Nat), s.between → s.acting = true → s.front.bias.length = 16 → k < 16 → (s.biasOf k).armed = false →
    ∃ t, exec (.biasOpenRearm k) s = .next t ∧ t = { s with front := { s.front with bias := t.front.bias } } ∧
      ∀ j, j < 16 → t.biasOf j = if j = k ∧ 960 ≤ (s.biasOf k).high then { s.biasOf k with armed := true } else s.biasOf j) ∧
  (∀ (s : State) (k t0 : Nat), s.between → s.acting = true → s.front.chan.length = 16 → k < 16 → (s.chanOf k).starting = some t0 →
    (s.clk.ticks < t0 + 256 → exec (.channelStartEnd k) s = .next s) ∧
    (t0 + 256 ≤ s.clk.ticks → ∃ t, exec (.channelStartEnd k) s = .next t ∧ t = { s with front := { s.front with chan := t.front.chan } } ∧
      ∀ j, j < 16 → t.chanOf j = if j = k then { s.chanOf k with starting := none } else s.chanOf j)) ∧
  (∀ (s : State) (t0 : Nat), s.between → s.acting = true → s.front.watchStart = some t0 →
    (s.clk.ticks < t0 + 64 → exec .watchStartEnd s = .next s) ∧
    (t0 + 64 ≤ s.clk.ticks → ∃ t, exec .watchStartEnd s = .next t ∧ t = { s with front := { s.front with watchStart := none } })) ∧
  (∀ (s : State) (k : Nat), s.roomFor 2 → s.acting = true → s.front.bias.length = 16 → k < 16 → s.front.vbiasOk = true →
    (s.biasOf k).on = true → 96 ≤ (s.biasOf k).limit →
    ∃ t, exec (.biasShort k) s = .next t ∧ (t.biasOf k).on = false ∧ (t.biasOf k).shorted = some s.clk.ticks ∧
      (∀ j, j < 16 → j ≠ k → t.biasOf j = s.biasOf j) ∧ t.flag Reg.FRONT_BIAS_SHORT k = true ∧
      t.reg Reg.FRONT_BIAS_FAULTS = satInc (s.reg Reg.FRONT_BIAS_FAULTS) ∧
      (if (s.fixerCount (if s.clk.daylight then 5 + k else 21)).2.2 = true
       then t.flag Reg.FRONT_BIAS_EN k = false ∧ (t.biasOf k).latched = true ∧
         Logged s t [s.entry Log.FRONT 1 (ofBytes k (b2n s.clk.daylight) 0 0) 0, s.entry Log.FRONT 2 (ofBytes k 0 0 0) 0]
       else t.reg Reg.FRONT_BIAS_EN = s.reg Reg.FRONT_BIAS_EN ∧ (t.biasOf k).latched = (s.biasOf k).latched ∧
         Logged s t [s.entry Log.FRONT 1 (ofBytes k (b2n s.clk.daylight) 0 0) 0])) ∧
  (∀ (s : State) (k : Nat), s.roomFor 1 → s.acting = true → s.front.bias.length = 16 → k < 16 → s.front.vbiasOk = true →
    (s.biasOf k).on = true → (s.biasOf k).armed = true → 960 ≤ (s.biasOf k).low →
    ∃ t, exec (.biasOpen k) s = .next t ∧ (t.biasOf k).armed = false ∧ (∀ j, j < 16 → j ≠ k → t.biasOf j = s.biasOf j) ∧
      t.flag Reg.FRONT_BIAS_OPEN k = true ∧ KeepsRegs s t [Reg.FRONT_BIAS_OPEN] ∧
      Logged s t [s.entry Log.FRONT 3 (ofBytes k 0 0 0) 0])

/-- An overload of a converter that runs sets its clip flag, the watch converter's its own; nothing else changes. The PDM decimators start 480
ticks for each unit of the WAKE in force after the clock, and the channels are ready 256 ticks later, with their flag and entry; a capture that
holds its 4,096 samples ends and sets CAPTURE_DONE (R286, R297, R305, R312). -/
def Obligations.ConvertersPdmAndCapture : Prop :=
  (∀ (s : State) (k : Nat), s.between → s.acting = true → k < 16 → (s.chanOf k).powered = true →
    ∃ t, exec (.converterOverload k) s = .next t ∧ t.flag Reg.FRONT_CLIP_STATUS k = true ∧ KeepsRegs s t [Reg.FRONT_CLIP_STATUS] ∧
      t.front = s.front) ∧
  (∀ s : State, s.between → s.acting = true → s.front.watchRun = true →
    ∃ t, exec (.converterOverload 16) s = .next t ∧ t.flag Reg.FRONT_FRONT_STATUS 4 = true ∧
      KeepsRegs s t [Reg.FRONT_FRONT_STATUS] ∧ t.front = s.front) ∧
  (∀ s : State, s.between → s.acting = true → s.front.pdmPhase = 1 → s.front.pdmDecim = false →
    s.front.pdmTick + 480 * s.front.pdmWake ≤ s.clk.ticks →
    ∃ t, exec .pdmDecimatorStart s = .next t ∧ t = { s with front := { s.front with pdmDecim := true } }) ∧
  (∀ s : State, s.roomFor 1 → s.acting = true → s.front.pdmPhase = 1 → s.front.pdmDecim = true →
    s.front.pdmTick + 480 * s.front.pdmWake + 256 ≤ s.clk.ticks →
    ∃ t, exec .pdmReady s = .next t ∧ t.front = { s.front with pdmPhase := 2 } ∧ t.flag Reg.FRONT_FRONT_STATUS 1 = true ∧
      KeepsRegs s t [Reg.FRONT_FRONT_STATUS] ∧
      Logged s t [s.entry Log.FRONT 4 (ofBytes (bits s.front.pdmCfg 2 1) s.front.pdmTaken 0 0) 0]) ∧
  (∀ (s : State) (k n : Nat), s.between → s.acting = true → s.front.capture = some (k, n) →
    (4096 ≤ n → ∃ t, exec .captureDone s = .next t ∧ t.front = { s.front with capture := none } ∧
      t.flag Reg.FRONT_FRONT_STATUS 0 = true ∧ KeepsRegs s t [Reg.FRONT_FRONT_STATUS]) ∧
    (n < 4096 → exec .captureDone s = .next s))

/-! ### Sample boundaries, filters, beams and plans -/

/-- A high-quality boundary is an even DAYLIGHT epoch; at another epoch, or in SAFELIGHT, nothing changes. While the path is stopped every
channel's word is 0, not valid; while it runs with no transition, a channel whose DC blocker is bypassed has the output of the stages of the set
in use, over the bits its converter or its line has sent, with the sums narrowed inside the stages by the model's free rounding (log entries 88
and 9), rounded and clamped to 24 bits, valid where the channel is and the path has run 256 ticks; a beam that is off has the word 0. Nothing is
written outside the windows, the capture area, the anchors and the Daylight ring (R316, R320 to R322, R333, R338, R382, R497, R622). A low-power
boundary is every SAFELIGHT frame, and in DAYLIGHT an epoch that is a multiple of 6; elsewhere nothing changes. A stopped path writes the word 0
and delivers nothing valid; one that runs, with its DC blocker bypassed and no phase check due, writes the output of its stages, over the bits
the watch converter has sent, rounded and clamped to 16 bits, valid where the watch sample is and the path has run 256 ticks (R316, R318, R320 to
R322, R333, R338, R496). -/
def Obligations.BoundariesWriteTheWindows : Prop :=
  (∀ (s : State) (i : HqIn), s.between → s.clk.daylight = false ∨ s.clk.epoch.toNat % 2 = 1 → exec (.hqBoundary i) s = .next s) ∧
  (∀ (s : State) (i : HqIn), s.acting = true → s.clk.daylight = true → s.clk.epoch.toNat % 2 = 0 → s.blockUp 1 = true →
    s.bank.errs = [] → s.latent.d.head < s.latSets → s.latent.d.anchor < 32 → s.aper.beams.length = 8 →
    ∃ t, exec (.hqBoundary i) s = .next t ∧
      (∀ a, a < 4 * 0x8840 ∨ (4 * 0xB000 ≤ a ∧ a < 4 * 0x60000) ∨ 4 * 0x160000 ≤ a → Mem.read t.mem a = Mem.read s.mem a) ∧
      (s.decim.hqStopped = true → ∀ k, k < 16 → t.tank (0x9000 + 128 * k + s.clk.epoch.toNat / 2 % 128) = 0#32) ∧
      (∀ b, b < 8 → (s.beam b).fade = none → (s.beam b).active.en = false →
        t.tank (0x9800 + 128 * b + s.clk.epoch.toNat / 2 % 128) = 0#32) ∧
      (s.decim.hqStopped = false → s.decim.trans = none → s.decim.phase = s.decim.inUse → i.upsets = [] →
        ∀ k, k < 16 → s.flag Reg.DECIM_DC_BYPASS k = true →
          t.tank (0x9000 + 128 * k + s.clk.epoch.toNat / 2 % 128) =
            pack [(8, 24, wrapInt 24 (clampInt (-0x800000) 0x7FFFFF (roundHalfUp (narrow 5 (2 ^ 15) (s.ownSet k (nth i.bits k []))) 256))),
              (0, 1, b2n (s.chanValid k && s.elapsed s.decim.hqStart 256))])) ∧
  (∀ (x : Int) (est : Int) (shift : Nat), -0x80000000 ≤ x → x < 0x80000000 → dcBlock x est true true false false shift = (0, x) ∧
    (dcBlock x est true false false false shift).1 = x - est ∧ (dcBlock x est true false true false shift).2 = est ∧
    (dcBlock x est true false false true shift) = (x, est)) ∧
  (∀ (s : State) (x : List Bool) (w : List (Nat × Nat)), s.between → s.clk.daylight = true → s.clk.epoch.toNat % 6 ≠ 0 →
    exec (.lpBoundary x w) s = .next s) ∧
  (∀ (s : State) (x : List Bool) (w : List (Nat × Nat)), s.acting = true → s.clk.daylight = false ∨ s.clk.epoch.toNat % 6 = 0 →
    s.bank.errs = [] → s.latent.w.anchor < 32 →
    ∃ t, exec (.lpBoundary x w) s = .next t ∧ t.decim.lpCheck = false ∧ t.decim.lpLast = some s.clk.epoch ∧
      (∀ a, a < 4 * 0x8840 ∨ (4 * 0x9C80 ≤ a ∧ a < 4 * 0x10000) ∨ 4 * 0x20000 ≤ a → Mem.read t.mem a = Mem.read s.mem a) ∧
      (s.lpRuns = false → t.tank (0x9C00 + s.clk.epoch.toNat / 6 % 128) = 0#32 ∧ t.decim.lpValid = false) ∧
      (s.lpRuns = true → s.decim.lpCheck = false → s.flag Reg.DECIM_DC_CFG 5 = true → w = [] →
        t.tank (0x9C00 + s.clk.epoch.toNat / 6 % 128) =
          lpWord (clampInt (-0x8000) 0x7FFF (roundHalfUp (narrow 13 (2 ^ 15) (s.lpChain x).1) 65536)) (s.watchValid && s.elapsed s.decim.lpStart 256) ∧
        t.decim.lpValid = (s.watchValid && s.elapsed s.decim.lpStart 256)))

/-- A path stops at the first boundary that finds its RUN bit at 0: PATH_STOPPED sets, a transition ends, a pending swap applies, and where a
parity failure asked for it its store words return to their factory values and the active bank to 0. It starts at the first that finds it at 1,
from cleared filters with its estimates seeded anew (R332, R336, R338, R339, R345, R352). After 32 outputs of priming the cross-fade to the other
set begins, and after 64 outputs of cross-fade the other set alone is in use: PHASE_DONE sets and its entry names the set. A pending bank swap
applies at a high-quality boundary where no cross-fade of a phase or a beam is under way: the bank is active, SWAP_DONE sets and SWAP_COUNT
counts (R329, R350, R351, R353). -/
def Obligations.PathsTransitionsAndSwaps : Prop :=
  (∀ s : State, s.acting = true → s.clk.daylight = true → s.clk.epoch.toNat % 2 = 0 → s.blockUp 1 = true →
    s.flag Reg.DECIM_ENGINE_CTL 0 = false → s.decim.hqStopped = false →
    ∃ t, exec (.pathStop true) s = .next t ∧ t.decim.hqStopped = true ∧ t.decim.trans = none ∧ t.decim.swap = none ∧
      t.decim.inUse = s.decim.phase ∧ t.decim.hqReload = false ∧
      t.decim.bank = (if s.decim.hqReload then 0 else s.decim.swap.getD s.decim.bank) ∧
      (s.decim.hqReload = true → ∀ w, w < 0x100 ∨ 0x180 ≤ w → assocGet t.decim.coef w = none) ∧ t.flag Reg.DECIM_DECIM_STATUS 7 = true ∧
      (s.decim.swap = none → t.reg Reg.DECIM_SWAP_COUNT = s.reg Reg.DECIM_SWAP_COUNT)) ∧
  (∀ s : State, s.acting = true → s.clk.daylight = false ∨ s.clk.epoch.toNat % 6 = 0 → s.flag Reg.DECIM_ENGINE_CTL 1 = false →
    s.decim.lpStopped = false →
    ∃ t, exec (.pathStop false) s = .next t ∧ t.decim.lpStopped = true ∧ t.decim.lpValid = false ∧
      t.decim.hqStopped = s.decim.hqStopped ∧ t.decim.bank = s.decim.bank ∧ t.decim.lpReload = false ∧
      (s.decim.lpReload = false → t.decim.coef = s.decim.coef) ∧
      (s.decim.lpReload = true → ∀ w, 0x100 ≤ w → w < 0x180 → assocGet t.decim.coef w = none) ∧
      t.flag Reg.DECIM_DECIM_STATUS 7 = true ∧ t.reg Reg.DECIM_SWAP_COUNT = s.reg Reg.DECIM_SWAP_COUNT) ∧
  (∀ s : State, s.between → s.acting = true → s.clk.daylight = true → s.clk.epoch.toNat % 2 = 0 → s.blockUp 1 = true →
    s.flag Reg.DECIM_ENGINE_CTL 0 = true → s.decim.hqStopped = true →
    ∃ t, exec (.pathStart true) s = .next t ∧ t = { s with decim := t.decim } ∧ t.decim.hqStopped = false ∧
      t.decim.hqStart = s.clk.ticks ∧ t.decim.trans = none ∧ t.decim.inUse = s.decim.phase ∧ t.decim.swap = s.decim.swap ∧
      ∀ k, k < 16 → nth t.decim.seed k false = true) ∧
  (∀ s : State, s.between → s.acting = true → s.clk.daylight = false ∨ s.clk.epoch.toNat % 6 = 0 →
    s.flag Reg.DECIM_ENGINE_CTL 1 = true → s.decim.lpStopped = true →
    ∃ t, exec (.pathStart false) s = .next t ∧ t = { s with decim := t.decim } ∧ t.decim.lpStopped = false ∧
      t.decim.lpStart = s.clk.ticks ∧ t.decim.hqStopped = s.decim.hqStopped) ∧
  (∀ (s : State) (n : Nat), s.between → s.acting = true → s.decim.trans = some (false, n) →
    (32 ≤ n → ∃ t, exec .primingEnd s = .next t ∧ t = { s with decim := { s.decim with trans := some (true, 0) } }) ∧
    (n < 32 → exec .primingEnd s = .next s)) ∧
  (∀ (s : State) (n : Nat), s.roomFor 1 → s.acting = true → s.decim.trans = some (true, n) →
    (64 ≤ n → ∃ t, exec .phaseDone s = .next t ∧ t.decim = { s.decim with trans := none, inUse := !s.decim.inUse } ∧
      t.flag Reg.DECIM_DECIM_STATUS 5 = true ∧ KeepsRegs s t [Reg.DECIM_DECIM_STATUS] ∧
      Logged s t [s.entry Log.DECIM 4 (ofBytes (b2n (!s.decim.inUse)) 0 0 0) 0]) ∧
    (n < 64 → exec .phaseDone s = .next s)) ∧
  (∀ (s : State) (b : Nat), s.roomFor 1 → s.acting = true → s.clk.daylight = true → s.clk.epoch.toNat % 2 = 0 → s.blockUp 1 = true →
    s.decim.swap = some b → s.decim.trans = none → s.decim.phase = s.decim.inUse →
    (∀ x ∈ s.aper.beams, x.fade = none) →
    ∃ t, exec .swapApply s = .next t ∧ t.decim = { s.decim with bank := b, swap := none } ∧ t.flag Reg.DECIM_DECIM_STATUS 3 = true ∧
      t.reg Reg.DECIM_SWAP_COUNT = s.reg Reg.DECIM_SWAP_COUNT + 1 ∧ Logged s t [s.entry Log.DECIM 2 (ofBytes b 0 0 0) 0]) ∧
  (∀ (s : State) (n : Nat), s.between → s.decim.trans = some (true, n) → exec .swapApply s = .next s)

/-- A pending table that a frame sample has followed begins its cross-fade at a high-quality boundary, unless its beam is in one or a scale
waits; the 64th output makes it the active table, sets COMMIT_DONE and counts it. A waiting scale applies where no beam fades: a sounding beam
then fades to it, with its pending table where it has one (R371, R372, R376, R391). The settle interval and Aperture's withholding end when their
ticks have passed, and not before; an armed plan switch is made four epochs after its epoch: the shadow plan becomes the active one, the flag
sets and its entry is logged (R40, R62, R381, R412, R413). -/
def Obligations.BeamsAndPlansSwitch : Prop :=
  (∀ (s : State) (b : Nat) (x : Table), s.between → s.acting = true → s.clk.daylight = true → s.clk.epoch.toNat % 2 = 0 →
    s.blockUp 1 = true → s.aper.beams.length = 8 → b < 8 → (s.beam b).pend = some x → (s.beam b).ready = true →
    (s.beam b).fade = none → s.aper.wait = none →
    ∃ t, exec (.beamXfadeStart b) s = .next t ∧ t = { s with aper := { s.aper with beams := t.aper.beams } } ∧
      ∀ j, j < 8 → t.beam j = if j = b
        then { s.beam b with pend := none, ready := false, fade := some ⟨x, s.aper.scale, 0, true⟩ } else s.beam j) ∧
  (∀ (s : State) (b : Nat), s.between → s.acting = true → (s.beam b).fade.isSome = true ∨ s.aper.wait.isSome = true →
    exec (.beamXfadeStart b) s = .next s) ∧
  (∀ (s : State) (b : Nat) (f : Fade), s.between → s.acting = true → s.aper.beams.length = 8 → b < 8 → (s.beam b).fade = some f →
    (64 ≤ f.n → ∃ t, exec (.xfadeDone b) s = .next t ∧ t.aper = { s.aper with beams := t.aper.beams } ∧
      t.flag Reg.APER_APER_STATUS 0 = true ∧ KeepsRegs s t [Reg.APER_APER_STATUS, Reg.APER_COMMIT_COUNT] ∧
      t.reg Reg.APER_COMMIT_COUNT = s.reg Reg.APER_COMMIT_COUNT + (if f.commit then 1#32 else 0#32) ∧
      ∀ j, j < 8 → t.beam j = if j = b then { s.beam b with active := f.new, fade := none } else s.beam j) ∧
    (f.n < 64 → exec (.xfadeDone b) s = .next s)) ∧
  (∀ (s : State) (v : Nat), s.between → s.acting = true → s.clk.daylight = true → s.clk.epoch.toNat % 2 = 0 → s.blockUp 1 = true →
    s.aper.wait = some v → s.aper.beams.length = 8 → (∀ x ∈ s.aper.beams, x.fade = none) →
    ∃ t, exec .scaleApply s = .next t ∧ t = { s with aper := t.aper } ∧ t.aper.scale = v ∧ t.aper.wait = none ∧
      t.aper.sampled = s.aper.sampled ∧
      ∀ b, b < 8 → (if (s.beam b).active.en = true
        then (t.beam b).pend = none ∧ (t.beam b).fade.map (fun f => (f.oldScale, f.n, f.commit)) = some (s.aper.scale, 0, (s.beam b).pend.isSome) ∧
          (t.beam b).fade.map (fun f => (f.new.taps, f.new.cfg)) =
            some (((s.beam b).pend.getD (s.beam b).active).taps, ((s.beam b).pend.getD (s.beam b).active).cfg)
        else (t.beam b).fade = none ∧ (t.beam b).pend = (s.beam b).pend)) ∧
  (∀ (s : State) (t0 : Nat), s.between → s.running = true → s.clk.settle = some t0 →
    (s.clk.ticks < t0 + 256 → exec .settleEnd s = .next s) ∧
    (t0 + 256 ≤ s.clk.ticks → ∃ t, exec .settleEnd s = .next t ∧ t.clk = { s.clk with settle := none, settled := some (t0 + 256) } ∧
      t = { s with clk := t.clk, mx := { s.mx with window := t.mx.window } } ∧
      (s.clk.fault = false → (t.mx.window.map (fun w => w.2.isSome)).getD true = true))) ∧
  (∀ (s : State) (t0 : Nat), s.between → s.running = true → s.aper.hold = some t0 →
    (s.clk.ticks < t0 + 256 → exec .withholdEnd s = .next s) ∧
    (t0 + 256 ≤ s.clk.ticks → ∃ t, exec .withholdEnd s = .next t ∧ t = { s with aper := { s.aper with hold := none } })) ∧
  (∀ (s : State) (e : Epoch), s.roomFor 1 → s.acting = true → s.clk.daylight = true → s.mx.armed = some e →
    e.toNat + 4 ≤ s.clk.epoch.toNat →
    ∃ t, exec .planSwitch s = .next t ∧ t.mx = { s.mx with plan := s.shadowPlan, par := s.shadowPlan.map (fun p => parity p.1 != parity p.2), armed := none, since := some e } ∧
      t.flag Reg.MX_MX_STATUS 2 = true ∧ KeepsRegs s t [Reg.MX_MX_STATUS] ∧ Logged s t [s.entry Log.MX 2 (e.truncate 32) 0]) ∧
  (∀ s : State, s.between → s.mx.armed = none → exec .planSwitch s = .next s)

/-! ### Modes and training -/

/-- A valid selected-side header begins a countdown where it names the mode requested, which the unit is not in, with a count of at least 64 to
DAYLIGHT or 128 to SAFELIGHT, and none runs; one that names it with a later count carries on with that count; one that names another target, or
none, ends it and undoes what was prepared; one that the unit cannot act on is ignored, with one entry for each. A header whose CRC fails lets
the unit's own count go on (R52 to R56, R520, R521, R530). The rate boundary of a countdown that has reached it. Into DAYLIGHT: the format
changes, the countdown and the mode request end, MODE_CHANGES counts, training begins on both outputs, the Daylight ring is empty, the epoch goes
on, no drive channel leaves its state, and a domain not power-good sets DOMAIN_LATE. Into SAFELIGHT: every drive channel is in OFF with its code
at 0, the master enable is 0, the domains and the Loupe are off, the filter transition ends, the hardware writer has the log, and every unpowered
segment of Tank reads as never written, its contents being undefined (the model's choice, log entry 3). In Tank either writes wake records alone.
With no countdown at its end nothing changes (R51, R59, R522, R524 to R526, R529, R544, R564; that the countdown may stand at 1 is log entry 40).
-/
def Obligations.RateBoundaryChangesTheMode : Prop :=
  (∀ (s : State) (h : BitVec 416) (skew : BitVec 24) (r : Nat), GoodHeader s s.clk.side h → s.clk.rcTarget = 0 → Hdr.rcTarget h = r →
    r = 1 ∨ r = 2 → s.request = r → r ≠ (if s.clk.daylight then 1 else 2) → (if r = 1 then 64 else 128) ≤ Hdr.rcCount h →
    ∃ t, exec (.headerEnd s.clk.side h skew) s = .next t ∧ t.clk.rcTarget = r ∧ t.clk.rcCount = Hdr.rcCount h ∧
      t.flag Reg.CHIP_MODE_STATUS 0 = true ∧
      (s.between → s.fixer.staged = [] → Hdr.epoch h = s.epoch32 → s.entry Log.MODE 1 (ofBytes r (Hdr.rcCount h) 0 0) 0 ∈ t.fixer.staged)) ∧
  (∀ (s : State) (h : BitVec 416) (skew : BitVec 24), GoodHeader s s.clk.side h → s.clk.rcTarget ≠ 0 → Hdr.rcTarget h = s.clk.rcTarget →
    s.clk.rcTarget ≠ 3 →
    ∃ t, exec (.headerEnd s.clk.side h skew) s = .next t ∧ t.clk.rcTarget = s.clk.rcTarget ∧ t.clk.rcCount = Hdr.rcCount h ∧
      t.reg Reg.CHIP_MODE_STATUS = s.reg Reg.CHIP_MODE_STATUS) ∧
  (∀ (s : State) (h : BitVec 416) (skew : BitVec 24), GoodHeader s s.clk.side h → s.clk.rcTarget ≠ 0 → Hdr.rcTarget h ≠ s.clk.rcTarget →
    ∃ t, exec (.headerEnd s.clk.side h skew) s = .next t ∧ t.clk.rcTarget = 0 ∧ t.flag Reg.CHIP_MODE_STATUS 1 = true ∧
      (Hdr.rcTarget h = 1 ∨ Hdr.rcTarget h = 2 → t.flag Reg.CHIP_MODE_STATUS 2 = true) ∧
      (s.clk.rcTarget = 1 → t.mode.good = [false, false, false, false]) ∧
      (s.clk.rcTarget ≠ 1 → t.reg Reg.PRINT_MASTER_A = 0)) ∧
  (∀ (s : State) (h : BitVec 416) (skew : BitVec 24) (r : Nat), GoodHeader s s.clk.side h → s.clk.rcTarget = 0 → Hdr.rcTarget h = r →
    r = 1 ∨ r = 2 → s.request ≠ r ∨ r = (if s.clk.daylight then 1 else 2) ∨ Hdr.rcCount h < (if r = 1 then 64 else 128) →
    ∃ t, exec (.headerEnd s.clk.side h skew) s = .next t ∧ t.clk.rcTarget = 0 ∧ t.clk.rcIgnored = r ∧
      t.flag Reg.CHIP_MODE_STATUS 2 = true ∧
      (s.between → s.fixer.staged = [] → Hdr.epoch h = s.epoch32 → s.clk.rcIgnored ≠ r →
        s.entry Log.MODE 3 (ofBytes r (Hdr.rcCount h) s.request 0) 0 ∈ t.fixer.staged)) ∧
  (∀ (s : State) (h : BitVec 416) (skew : BitVec 24), s.acting = true → s.hears s.clk.side = true → s.clk.rcTarget ≠ 0 →
    Hdr.checkOk s.clk.daylight h = false →
    ∃ t, exec (.headerEnd s.clk.side h skew) s = .next t ∧ t.clk.rcTarget = s.clk.rcTarget ∧ t.clk.rcCount = s.clk.rcCount - 1) ∧
  (∀ s : State, s.acting = true → s.clk.rcTarget = 1 → s.clk.rcCount ≤ 1 →
    ∃ t, exec .rateBoundary s = .next t ∧ t.clk.daylight = true ∧ t.clk.rcTarget = 0 ∧ t.clk.rcCount = 0 ∧ t.clk.epoch = s.clk.epoch ∧
      t.request = 0 ∧ t.reg Reg.CHIP_MODE_CHANGES = s.reg Reg.CHIP_MODE_CHANGES + 1 ∧
      t.link.training.map (·.start) = some s.clk.ticks ∧ t.outA.training = true ∧ t.outB.training = true ∧
      t.latent.d.total = 0 ∧ t.latent.d.prev = none ∧ t.mode.good = s.mode.good ∧
      (∀ n, n < 8 → (t.drive n).st = (s.drive n).st) ∧ KeepsTank s t (4 * 0x8900) (4 * 0x8980) ∧
      (∀ d, d < 4 → nth s.mode.good d false = false → t.flag Reg.CHIP_MODE_STATUS 3 = true)) ∧
  (∀ s : State, s.acting = true → s.clk.rcTarget = 2 → s.clk.rcCount ≤ 1 → s.print.drives.length = 8 →
    ∃ t, exec .rateBoundary s = .next t ∧ t.clk.daylight = false ∧ t.clk.rcTarget = 0 ∧ t.clk.rcCount = 0 ∧ t.clk.epoch = s.clk.epoch ∧
      t.request = 0 ∧ t.reg Reg.CHIP_MODE_CHANGES = s.reg Reg.CHIP_MODE_CHANGES + 1 ∧
      t.link.training.map (·.start) = some s.clk.ticks ∧ t.reg Reg.PRINT_MASTER_A = 0#32 ∧
      (∀ n, n < 8 → (t.drive n).st = .off ∧ (t.drive n).out = 0) ∧ t.mode.good = [false, false, false, false] ∧
      t.loupe.powered = false ∧ t.loupe.mbx = none ∧ t.decim.trans = none ∧ t.decim.swap = none ∧ t.aper.wait = none ∧ t.mx.armed = none ∧
      t.fixer.byLoupe = false ∧ (∀ a, t.segPowered (segmentOf (a / 4)) = false → Mem.read t.mem a = Mem.blank) ∧
      (∀ a, t.segPowered (segmentOf (a / 4)) = true → a < 4 * 0x8900 ∨ 4 * 0x8980 ≤ a → Mem.read t.mem a = Mem.read s.mem a)) ∧
  (∀ s : State, s.between → s.clk.rcTarget = 0 ∨ 1 < s.clk.rcCount → exec .rateBoundary s = .next s)

/-- Training after a change to DAYLIGHT: from tick 80 each lane moves to the centre of its longest run of good steps, rounded down, and a lane
with none to step 32, with its side's TRAIN_FAIL. At the end of the interval, 128 ticks in DAYLIGHT and 48 in SAFELIGHT, ordinary frames begin,
but out of a side in a pad loop, a side whose lanes showed no error is in lock, and one with an error sets TRAIN_FAIL and acquires lock anew
(R124 to R127). A countdown to DAYLIGHT switches the domains on in four steps, 64 ticks apart. A domain whose step has come reports power-good;
one that reports it after the boundary lets its blocks start then (R523, R524). -/
def Obligations.TrainingAndDomainsComplete : Prop :=
  (∀ (s : State) (r : Training), s.between → s.running = true → s.clk.daylight = true → s.link.training = some r → r.centred = false →
    (s.clk.ticks < r.start + 80 → exec .trainingCentre s = .next s) ∧
    (r.start + 80 ≤ s.clk.ticks → ∃ t, exec .trainingCentre s = .next t ∧ (t.link.training.map (·.centred)) = some true ∧
      (∀ l, l < 4 → t.delay l = centreStep (nth r.good l [])) ∧ t.link.wrap = s.link.wrap ∧
      (∀ l, l < 4 → nth r.good l [] = [] → t.delay l = 32 ∧ t.flag Reg.LINK_LINK_STATUS (if l < 2 then 5 else 6) = true))) ∧
  (∀ a n : Nat, a < 64 → n < 64 → 0 < n → a + n ≤ 64 → centreStep (List.range' a n) = a + (n - 1) / 2) ∧
  (∀ (s : State) (r : Training), s.between → s.running = true → s.link.training = some r →
    (s.clk.ticks < r.start + (if s.clk.daylight then 128 else 48) → exec .trainingEnd s = .next s) ∧
    (r.start + (if s.clk.daylight then 128 else 48) ≤ s.clk.ticks →
      ∃ t, exec .trainingEnd s = .next t ∧ t.link.training = none ∧
        t.outA.training = (s.link.loop.map (fun p => (p.1, p.2.1)) == some (1, .a)) ∧
        t.outB.training = (s.link.loop.map (fun p => (p.1, p.2.1)) == some (1, .b)) ∧
        (nth r.bad 0 false = false → nth r.bad 1 false = false → r.failedA = false → t.sideA.lock = true) ∧
        (nth r.bad 2 false = false → nth r.bad 3 false = false → r.failedB = false → t.sideB.lock = true) ∧
        (nth r.bad 0 false = true ∨ nth r.bad 1 false = true → r.failedA = false →
          t.sideA.lock = false ∧ t.flag Reg.LINK_LINK_STATUS 5 = true) ∧
        (nth r.bad 2 false = true ∨ nth r.bad 3 false = true → r.failedB = false →
          t.sideB.lock = false ∧ t.flag Reg.LINK_LINK_STATUS 6 = true))) ∧
  (∀ (s : State) (t0 : Nat), s.between → s.running = true → s.clk.rcTarget = 1 → s.mode.stepStart = some t0 →
    (s.mode.steps < 4 → t0 + 64 * s.mode.steps ≤ s.clk.ticks →
      ∃ t, exec .domainSwitchOnStep s = .next t ∧ t = { s with mode := { s.mode with steps := s.mode.steps + 1 } }) ∧
    (4 ≤ s.mode.steps ∨ s.clk.ticks < t0 + 64 * s.mode.steps → exec .domainSwitchOnStep s = .next s)) ∧
  (∀ (s : State) (d : Nat), s.running = true → d < 4 → d < s.mode.steps → s.mode.good.length = 4 → nth s.mode.good d true = false →
    ∃ t, exec (.domainPowerGood d) s = .next t ∧ (∀ j, j < 4 → nth t.mode.good j false = (j == d || nth s.mode.good j false)) ∧
      t.mode.steps = s.mode.steps ∧ t.clk = s.clk ∧ t.print = s.print ∧
      (s.clk.daylight = false → t.front = s.front ∧ t.loupe = s.loupe ∧ t.decim = s.decim)) ∧
  (∀ (s : State) (d : Nat), s.between → s.mode.steps ≤ d → exec (.domainPowerGood d) s = .next s)

/-! ### Developer, Latent buffer and Loupe -/

/-- A block boundary is an epoch that is a multiple of 960; elsewhere nothing changes. At one, every validated profile is installed, every
template request takes effect, and RUN applies; a stream that runs valid takes a pending seed as every band's level and floor; a block that is
not valid moves no band and no count of blocks; and a stream that becomes active has had ON_BLOCKS active blocks in a row. In Tank a block writes
wake records alone (R428, R436, R437, R441, R442, R468, R478). -/
def Obligations.BlocksRunTheStreams : Prop :=
  (∀ (s : State) (i : DevIn), s.between → s.clk.epoch.toNat % 960 ≠ 0 → exec (.devBlock i) s = .next s) ∧
  (∀ (s : State) (i : DevIn), s.acting = true → s.clk.epoch.toNat % 960 = 0 → i.badTpl = [] → s.dev.pendProf.length = 8 →
    s.dev.profiles.length = 8 → (s.sheet.reqs.map (·.1)).Nodup →
    ∃ t, exec (.devBlock i) s = .next t ∧ t.sheet.reqs = [] ∧ t.sheet.run = bitOf s.sheet.ctl 0 ∧
      (∀ p, p < 8 → nth t.dev.pendProf p none = none ∧
        nth t.dev.profiles p none = (nth s.dev.pendProf p none).or (nth s.dev.profiles p none)) ∧
      (∀ n, n < 256 → (n ∈ t.sheet.enabled ↔ assocGet s.sheet.reqs n = some true ∨
        (n ∈ s.sheet.enabled ∧ assocGet s.sheet.reqs n ≠ some false)))) ∧
  (∀ (s : State) (i : DevIn), ∃ t, exec (.devBlock i) s = .next t ∧ KeepsTank s t (4 * 0x8900) (4 * 0x8980)) ∧
  (∀ (s : State) (i : DevIn) (k : Nat), s.acting = true → s.clk.epoch.toNat % 960 = 0 → s.devHeld = false → k < 9 →
    s.dev.streams.length = 9 → s.dev.ctl.testBit k = (s.stream k).en →
    (s.stream k).src = (if k = 8 then 24 else nth s.dev.srcs k 24) → (s.stream k).fresh = false → s.streamRuns k = true →
    ∃ t, exec (.devBlock i) s = .next t ∧
      (s.blockValid k = false → (t.stream k).bands = (s.stream k).bands ∧ (t.stream k).onRun = (s.stream k).onRun ∧
        (t.stream k).offRun = (s.stream k).offRun ∧ (t.stream k).active = (s.stream k).active ∧ (t.stream k).seed = (s.stream k).seed) ∧
      (s.blockValid k = true → (s.stream k).seed.isSome = true → (s.stream k).bands.length = 8 →
        (t.stream k).seed = none ∧ (t.stream k).fog = false ∧ ∀ b, b < 8 →
          (nth (t.stream k).bands b {}).f = nth ((s.stream k).seed.getD []) b (-1280) ∧
          (nth (t.stream k).bands b {}).s = nth ((s.stream k).seed.getD []) b (-1280)) ∧
      (s.blockValid k = true → (s.stream k).active = false → (t.stream k).active = true →
        max 1 (s.fld (energyReg k) 9 6) ≤ (t.stream k).onRun ∧ (t.stream k).onRun = (s.stream k).onRun + 1))

/-- The watch ring's pre-roll is filled at the FILL block: FILLED sets and its entry carries the block. At the JOIN block the group delay is
taken and written as word 7 of each record that waits for a JOIN block that has come, one whose entry is reused being left, and nothing else of
Tank changes. A pending freeze freezes its ring at its due epoch, with its flag and entry, and none before (R498, R503, R504). -/
def Obligations.LatentBufferMeetsItsEpochs : Prop :=
  (∀ (s : State) (b j f : Epoch), s.roomFor 1 → s.acting = true → s.latent.preFill = true → s.latent.rate = some (b, j, f) →
    (s.clk.epoch.toNat < f.toNat → exec .prerollFilled s = .next s) ∧
    (f.toNat ≤ s.clk.epoch.toNat → ∃ t, exec .prerollFilled s = .next t ∧ t.latent = { s.latent with preFill := false } ∧
      t.flag Reg.LATENT_LAT_STATUS 3 = true ∧ KeepsRegs s t [Reg.LATENT_LAT_STATUS] ∧
      Logged s t [s.entry Log.LATENT 1 (f.truncate 32) 0])) ∧
  (∀ (s : State) (b j f : Epoch), s.between → s.acting = true → s.latent.preJoin = true → s.latent.rate = some (b, j, f) →
    s.bank.errs = [] →
    (s.clk.epoch.toNat < j.toNat → (∀ p ∈ s.latent.waitJoin, s.clk.epoch.toNat < p.2.toNat) → exec .joinReached s = .next s) ∧
    (j.toNat ≤ s.clk.epoch.toNat → ∃ t, exec .joinReached s = .next t ∧
      t.latent = { s.latent with preJoin := false, gd := s.groupDelay, waitJoin := t.latent.waitJoin } ∧
      (s.bank.borrowed = false → KeepsRegs s t []) ∧
      (∀ p ∈ s.latent.waitJoin, p.2.toNat ≤ s.clk.epoch.toNat → p ∉ t.latent.waitJoin ∧
        (s.recLive p.1 = true → t.tank (recAddr p.1 + 7) = s.groupDelay)) ∧
      (∀ p ∈ s.latent.waitJoin, s.clk.epoch.toNat < p.2.toNat → p ∈ t.latent.waitJoin) ∧
      (∀ a, (∀ p ∈ s.latent.waitJoin, p.2.toNat ≤ s.clk.epoch.toNat → s.recLive p.1 = true →
        a < 4 * recAddr p.1 + 28 ∨ 4 * recAddr p.1 + 32 ≤ a) → Mem.read t.mem a = Mem.read s.mem a))) ∧
  (∀ (s : State) (w : Bool) (due : Epoch) (rseq : Nat), s.roomFor 1 → s.acting = true → (s.ring w).pend = some (due, rseq) →
    (s.clk.epoch.toNat < due.toNat → exec (.latentFreeze w) s = .next s) ∧
    (due.toNat ≤ s.clk.epoch.toNat → ∃ t, exec (.latentFreeze w) s = .next t ∧
      t.ring w = { s.ring w with frozen := true, pend := none } ∧ t.ring (!w) = s.ring (!w) ∧
      t.flag Reg.LATENT_LAT_STATUS (if w then 1 else 2) = true ∧ KeepsRegs s t [Reg.LATENT_LAT_STATUS] ∧
      Logged s t [s.entry Log.LATENT 2 (ofBytes (b2n (!w)) rseq 0 0) (((s.ring w).prev).getD 0)]))

/-- A started Loupe reports itself ready, and takes the log at the next frame start unless a countdown to SAFELIGHT runs; a patch marked for
re-entry is verified anew. A shutdown completed in a countdown to SAFELIGHT leaves its mark. A sample of the sensors loads the readings. A
junction above TJ_TRIP for 8 ticks takes the master enable to 0 and is logged (R526, R656, R657, R661, R662, R666). A watchdog expiry drops the
patch and the mailbox command, counts in WDOG_COUNT, is logged, hands the log back to the hardware writer and restarts the base image; one that
the Fixer makes lasting halts the Loupe instead. A verification that fails its first step reports reason 0; any failing one leaves the base
image, sets PATCH_BAD and counts; one that passes makes the patch active, or, with RAISE in FIELD, burns the floor fuse first, the burn coming
before the entry and PATCH reading 1 during it (the model's reading, log entry 53). A burn takes 96 ticks: then the floor is raised, or the new
lifecycle state holds, with its record in the seal word's place and the test pair at rest (R656, R665, R668, R670 to R674). -/
def Obligations.LoupeReportsReadsAndFails : Prop :=
  (∀ s : State, s.between → s.acting = true → s.loupe.powered = true → s.loupe.starting = true → s.loupe.halted = false →
    ∃ t, exec .loupeReady s = .next t ∧ t = { s with mode := { s.mode with toLoupe := !s.toSafe }, loupe := t.loupe } ∧
      t.loupe.ready = true ∧ t.loupe.starting = false ∧ t.loupe.marked = false ∧
      t.loupe.patch = (if s.loupe.marked then 1 else s.loupe.patch) ∧ t.loupe.reentry = s.loupe.marked) ∧
  (∀ s : State, s.between → s.acting = true → s.loupe.powered = true → s.loupe.halted = false → s.clk.daylight = true →
    s.clk.rcTarget = 2 →
    ∃ t, exec .loupeShutdownDone s = .next t ∧ t = { s with loupe := { s.loupe with mark := true } }) ∧
  (∀ (s : State) (r : Sensors), s.between → s.acting = true → s.loupe.powered = true → s.loupe.halted = false →
    ∃ t, exec (.sensorSample r) s = .next t ∧
      t.reg Reg.LOUPE_TEMP_01 = (nth r.temps 1 0) ++ (nth r.temps 0 0) ∧ t.reg Reg.LOUPE_TEMP_23 = (nth r.temps 3 0) ++ (nth r.temps 2 0) ∧
      t.reg Reg.LOUPE_SUPPLY_0 = (nth r.supplies 1 0) ++ (nth r.supplies 0 0) ∧
      t.reg Reg.LOUPE_SUPPLY_1 = (nth r.supplies 3 0) ++ (nth r.supplies 2 0) ∧
      (∀ k, k < 4 → (nth s.loupe.least k none = none → nth t.loupe.least k none = some (nth r.temps k 0))) ∧
      t.mode = s.mode) ∧
  (∀ (s : State) (k : Nat), s.roomFor 1 → s.running = true → s.blockUp 5 = true → k < 4 → 8 ≤ nth s.loupe.tjRun k 0 →
    ∃ t, exec (.tjTrip k) s = .next t ∧ t.flag Reg.PRINT_MASTER_A 0 = false ∧ t.flag Reg.LOUPE_LOUPE_STATUS 4 = true ∧
      KeepsRegs s t [Reg.PRINT_MASTER_A, Reg.LOUPE_LOUPE_STATUS] ∧ t.loupe = { s.loupe with tjRun := [0, 0, 0, 0] } ∧
      t.fixer.staged.length = s.fixer.staged.length + 1) ∧
  (∀ s : State, s.between → s.acting = true → s.loupe.powered = true → s.loupe.halted = false →
    ∃ t, exec .watchdog s = .next t ∧ t.reg Reg.LOUPE_WDOG_COUNT = satInc (s.reg Reg.LOUPE_WDOG_COUNT) ∧ t.loupe.patch = 0 ∧
      t.loupe.mbx = none ∧ t.mode.toHard = true ∧ t.mode.toLoupe = false ∧
      (if (s.fixerCount 43).2.2 = true then t.loupe.halted = true ∧ t.loupe.ready = false
       else t.loupe.halted = false ∧ (s.blockUp 5 = true → t.loupe.starting = true ∧ t.loupe.powered = true))) ∧
  (∀ s : State, s.roomFor 1 → s.acting = true → s.loupe.powered = true → s.loupe.halted = false → s.loupe.patch = 1 →
    s.loupe.floorBurn = none →
    ∃ t, exec .patchVerifyDone s = .next t ∧ t.loupe.life = s.loupe.life ∧ t.loupe.floor = s.loupe.floor ∧ t.mem = s.mem ∧
      (s.bank.wipePend = true ∨ s.bank.wiping = true ∨ s.sealed = true → s.loupe.reentry = false → t.loupe.patch = 0 ∧
        t.flag Reg.LOUPE_LOUPE_STATUS 2 = true ∧ t.reg Reg.LOUPE_PATCH_FAILS = satInc (s.reg Reg.LOUPE_PATCH_FAILS) ∧
        Logged s t [s.entry Log.LOUPE 2 (ofBytes 0 0 0 0) 0]) ∧
      (s.verifyFails = none → (s.loupe.wantRaise = false ∨ s.loupe.life ≠ 2) → t.loupe.patch = 2 ∧
        t.flag Reg.LOUPE_LOUPE_STATUS 1 = true ∧ t.reg Reg.LOUPE_PATCH_INFO = pack [(16, 16, s.patchVersion), (0, 6, s.patchGen)]) ∧
      (s.verifyFails = none → s.loupe.wantRaise = true → s.loupe.life = 2 →
        t.loupe.floorBurn = some (s.patchGen, s.clk.ticks, true) ∧ t.loupe.patch = 1)) ∧
  (∀ (s : State) (g t0 : Nat) (enter : Bool), s.between → s.running = true → s.loupe.floorBurn = some (g, t0, enter) →
    s.bank.errs = [] →
    (s.clk.ticks < t0 + 96 → exec .floorFuseRaised s = .next s) ∧
    (t0 + 96 ≤ s.clk.ticks → ∃ t, exec .floorFuseRaised s = .next t ∧ t.loupe.floor = g ∧ t.loupe.floorBurn = none ∧
      t.loupe.patch = (if enter then 2 else s.loupe.patch) ∧ KeepsTank s t (4 * 0x3FF9) (4 * 0x3FF9 + 4))) ∧
  (∀ (s : State) (n t0 : Nat), s.roomFor 1 → s.running = true → s.loupe.lifeReq = some n → s.loupe.lifeBurn = some t0 →
    s.bank.errs = [] →
    (s.clk.ticks < t0 + 96 → exec .lifecycle s = .next s) ∧
    (t0 + 96 ≤ s.clk.ticks → ∃ t, exec .lifecycle s = .next t ∧ t.loupe = { s.loupe with life := n, lifeReq := none, lifeBurn := none } ∧
      t.reg Reg.CHIP_TEST_A = 0#32 ∧ t.flag Reg.LOUPE_LOUPE_STATUS 3 = true ∧ KeepsRegs s t [Reg.CHIP_TEST_A, Reg.LOUPE_LOUPE_STATUS] ∧
      KeepsTank s t (4 * 0x3FF9) (4 * 0x3FF9 + 4) ∧ Logged s t [s.entry Log.LOUPE 4 (ofBytes n s.loupe.floor 0 0) 0]))

/-! ### Drives -/

/-- A read instant of a channel whose values are sound, that no loop drives, and that meets no parity fault. In OFF the output is 0 and the run
request begins WAKE. In RAMP and PLAY a good sample is sent through the gain and the ramp; a first or second missing or faulted epoch is replaced
by the last good sample, and the third begins a bath of 64 samples from it with its MUTE entry. When the request ends in PLAY the channel waits
for a crossing, and bathes from the crossing sample. How a product by the ramp or the bath is rounded, and that each follows the gain, is the
model's choice where R558 and R560 name no rounding (log entries 36 and 37). A channel that does not run changes nothing (R552, R558 to R562,
R565). -/
def Obligations.ReadInstantsPlayAndFade : Prop :=
  (∀ (s : State) (n : Nat) (i : ReadIn), s.between → s.driveRuns n = false → exec (.readInstant n i) s = .next s) ∧
  (∀ (s : State) (n : Nat) (e : Epoch32), s.roomFor 8 → s.driveRuns n = true → s.print.drives.length = 8 → (s.drive n).st = .off →
    e = s.epoch32 - 1 - BitVec.ofNat 32 ((s.drive n).offset / 8192) →
    ∃ t, exec (.readInstant n {}) s = .next t ∧ (t.drive n).out = 0 ∧ (t.drive n).epoch = e ∧
      (t.drive n).st = (if s.runRequest n (s.driveSample e).en then .wake else .off) ∧
      (s.runRequest n (s.driveSample e).en = true → (t.drive n).wakeAt = s.clk.ticks) ∧ ∀ j, j < 8 → j ≠ n → t.drive j = s.drive j) ∧
  (∀ (s : State) (n : Nat) (e : Epoch32) (c : ShowEpoch), s.roomFor 8 → s.driveRuns n = true → s.print.drives.length = 8 →
    s.quietDrive n = true → (s.drive n).st = .ramp ∨ (s.drive n).st = .play →
    e = s.epoch32 - 1 - BitVec.ofNat 32 ((s.drive n).offset / 8192) → s.runRequest n (s.driveSample e).en = true →
    s.shownAt e = some c → c.present = true → s.clk.faulted.contains e = false → s.shownAt (e + 1) = none →
    ∃ t, exec (.readInstant n {}) s = .next t ∧ (t.drive n).st = (s.drive n).st ∧ (t.drive n).epoch = e ∧ (t.drive n).miss = 0 ∧
      (t.drive n).held = s.gainedSample n e c ∧
      (t.drive n).out = (if (s.drive n).st = .play then s.gainedSample n e c
        else roundHalfUp (s.gainedSample n e c * (min 64 ((s.drive n).k + 1) : Nat)) 64) ∧
      KeepsRegs s t [Reg.PRINT_CLIP_COUNT, Reg.PRINT_PRINT_STATUS] ∧ ∀ j, j < 8 → j ≠ n → t.drive j = s.drive j) ∧
  (∀ (s : State) (n : Nat) (e : Epoch32), s.roomFor 8 → s.driveRuns n = true → s.print.drives.length = 8 →
    s.quietDrive n = true → (s.drive n).st = .play → (s.drive n).causes = 0 → (s.drive n).bath = none →
    e = s.epoch32 - 1 - BitVec.ofNat 32 ((s.drive n).offset / 8192) → s.runRequest n (s.driveSample e).en = true →
    s.shownAt e = none →
    ∃ t, exec (.readInstant n {}) s = .next t ∧ (t.drive n).held = (s.drive n).held ∧ (t.drive n).miss = (s.drive n).miss + 1 ∧
      ((s.drive n).miss < 2 → (t.drive n).st = .play ∧ (t.drive n).out = (s.drive n).held) ∧
      (2 ≤ (s.drive n).miss → (t.drive n).st = .bath ∧ (t.drive n).out = roundHalfUp ((s.drive n).held * 63) 64 ∧
        (t.drive n).bath = some { ramps := [(64, 1)], held := some (s.drive n).held, ends := 0 } ∧
        t.flag Reg.PRINT_PRINT_STATUS 2 = true ∧
        Logged s t [s.entry Log.PRINT 3 (ofBytes n (b2n (((s.drive n).missFlt && (s.drive n).miss != 0) || s.clk.faulted.contains e ||
          s.clk.fault)) 0 0) (if (s.drive n).miss = 0 then e else (s.drive n).missFirst)])) ∧
  (∀ (s : State) (n : Nat) (e : Epoch32) (c : ShowEpoch) (b : Bool), s.roomFor 8 → s.driveRuns n = true → s.print.drives.length = 8 →
    s.quietDrive n = true → (s.drive n).st = .play → s.toSafe = false → s.latched n = false →
    e = s.epoch32 - 1 - BitVec.ofNat 32 ((s.drive n).offset / 8192) → s.runRequest n (s.driveSample e).en = false →
    s.shownAt e = some c → c.present = true → s.clk.faulted.contains e = false → s.shownAt (e + 1) = none →
    b = crosses (if (s.drive n).cur.isSome then (s.drive n).cur else (s.drive n).before) (s.gainedSample n e c) →
    ∃ t, exec (.readInstant n {}) s = .next t ∧ (t.drive n).st = (if b then .bath else .stopWait) ∧
      (t.drive n).out = (if b then roundHalfUp (s.gainedSample n e c * 63) 64 else s.gainedSample n e c) ∧
      (∃ l, l ∈ t.fixer.staged ∧ l = s.entry Log.PRINT 2 (ofBytes n 0 0 0) 0))

/-- The waits of a channel end as the state table says: WAKE in ARM with a read offset latched, an ARM or STOP_WAIT of 192 samples in the ramp or
the bath with ZC_TIMEOUTS and its flag, a ramp of 64 samples in PLAY with its START or RESUME entry, a bath in MUTED, ARM or a dwell, and a dwell
of 16 ticks in OFF or ARM. Before that the commands change nothing (R552, R560, R562, R563, R574). A muted channel whose causes have ended enters
ARM, latches its read offset and examines the present sample: a crossing begins RAMP with it, its product rounded as log entry 36 has it. A
channel muted for missing epochs needs 16 × MISS_RESUME present PCM epochs; one muted for a clock fault needs 16 × RESUME clean frames, which is
DRIVE_AUTO_RESTART, as is the end of the wait of a channel that the missing-edge monitor put in OFF. A loop ends after 4,096 ticks with its
result and its flag, and LOOP reads 0 (R34, R63, R559, R565, R572, R573). -/
def Obligations.DriveWaitsAndLoopsEnd : Prop :=
  (∀ (s : State) (n : Nat), s.between → s.driveRuns n = true → s.print.drives.length = 8 → (s.drive n).st = .wake →
    ∃ t, exec (.channelWakeEnd n) s = .next t ∧ t = { s with print := { s.print with drives := t.print.drives } } ∧
      (∀ j, j < 8 → j ≠ n → t.drive j = s.drive j) ∧
      (s.clk.ticks < (s.drive n).wakeAt + 96 * s.fld Reg.PRINT_PRINT_CFG 11 8 → t.drive n = s.drive n) ∧
      ((s.drive n).wakeAt + 96 * s.fld Reg.PRINT_PRINT_CFG 11 8 ≤ s.clk.ticks → (t.drive n).st = .arm ∧ (t.drive n).cnt = 0 ∧
        (t.drive n).offset = 6256 + 8 * (if s.sideA.lock && s.sideB.lock then s.fld Reg.FRAME_SEL_CFG 11 0 else 0) + 16)) ∧
  (∀ (s : State) (n : Nat), s.between → s.driveRuns n = true → s.print.drives.length = 8 → (s.drive n).st = .arm ∨ (s.drive n).st = .stopWait →
    ∃ t, exec (.zcTimeout n) s = .next t ∧ (∀ j, j < 8 → j ≠ n → t.drive j = s.drive j) ∧
      KeepsRegs s t [Reg.PRINT_ZC_TIMEOUTS, Reg.PRINT_PRINT_STATUS] ∧
      ((s.drive n).cnt < 192 → t = s) ∧
      (192 ≤ (s.drive n).cnt → t.reg Reg.PRINT_ZC_TIMEOUTS = satInc (s.reg Reg.PRINT_ZC_TIMEOUTS) ∧
        t.flag Reg.PRINT_PRINT_STATUS 1 = true ∧
        ((s.drive n).st = .arm → (t.drive n).st = .ramp ∧ (t.drive n).k = 0 ∧ (t.drive n).out = 0) ∧
        ((s.drive n).st = .stopWait → (t.drive n).st = .bath ∧ (t.drive n).bath = some { ramps := [(64, 0)], held := none, ends := 1 }))) ∧
  (∀ (s : State) (n : Nat), s.roomFor 1 → s.driveRuns n = true → s.print.drives.length = 8 → (s.drive n).st = .ramp →
    ∃ t, exec (.rampEnd n) s = .next t ∧ (∀ j, j < 8 → j ≠ n → t.drive j = s.drive j) ∧ KeepsRegs s t [Reg.PRINT_START_COUNT] ∧
      ((s.drive n).k < 64 → t = s) ∧
      (64 ≤ (s.drive n).k → (t.drive n).st = .play ∧ t.reg Reg.PRINT_START_COUNT = s.reg Reg.PRINT_START_COUNT + 1 ∧
        Logged s t [if (s.drive n).resumed then s.entry Log.PRINT 4 (ofBytes n 0 0 0) (s.drive n).rampFirst
          else s.entry Log.PRINT 1 (ofBytes n (b2n (s.drive n).timeout) 0 0) 0])) ∧
  (∀ (s : State) (n : Nat) (b : Bath), s.between → s.driveRuns n = true → s.print.drives.length = 8 → (s.drive n).st = .bath →
    (s.drive n).bath = some b →
    ∃ t, exec (.bathEnd n) s = .next t ∧ (∀ j, j < 8 → j ≠ n → t.drive j = s.drive j) ∧ KeepsRegs s t [Reg.PRINT_MUTE_COUNT] ∧
      (b.dwell ≠ none ∨ (∀ r, r ∈ b.ramps → r.2 < r.1) → t = s) ∧
      (b.dwell = none → (∃ r, r ∈ b.ramps ∧ r.1 ≤ r.2) →
        (b.ends = 0 → (t.drive n).st = .muted ∧ t.reg Reg.PRINT_MUTE_COUNT = satInc (s.reg Reg.PRINT_MUTE_COUNT) ∧
          (t.drive n).causes = (s.drive n).causes) ∧
        (b.ends ≠ 0 → t.reg Reg.PRINT_MUTE_COUNT = s.reg Reg.PRINT_MUTE_COUNT ∧
          (t.drive n).st = (if b.ends = 1 ∧ s.runRequest n (s.driveSample (s.drive n).epoch).en = true then .arm else .bath) ∧
          ((t.drive n).st = .bath → (t.drive n).bath = some { b with dwell := some 0 })))) ∧
  (∀ (s : State) (n k : Nat) (b : Bath), s.between → s.driveRuns n = true → s.print.drives.length = 8 → s.stage.ch.length = 8 →
    (s.drive n).st = .bath → (s.drive n).bath = some b → b.dwell = some k → s.stageLoop n = false →
    ∃ t, exec (.offDwellEnd n) s = .next t ∧ (∀ j, j < 8 → j ≠ n → t.drive j = s.drive j) ∧ KeepsRegs s t [] ∧
      (k < 16 → t = s) ∧
      (16 ≤ k → (t.drive n).st = (if s.runRequest n (s.driveSample (s.drive n).epoch).en then .arm else .off) ∧
        ((t.drive n).st = .off → (t.stageCh n).relTick = none))) ∧
  (∀ (s : State) (n : Nat), s.between → s.driveRuns n = true → s.print.drives.length = 8 → (s.drive n).st = .muted →
    (s.drive n).causes = 1 → s.latched n = false →
    ∃ t, exec (.muteResume n) s = .next t ∧ (∀ j, j < 8 → j ≠ n → t.drive j = s.drive j) ∧ KeepsRegs s t [] ∧
      (s.fld Reg.PRINT_PRINT_CFG 7 0 = 0 ∨ (s.drive n).pcm < 16 * s.fld Reg.PRINT_PRINT_CFG 7 0 → t = s) ∧
      (s.fld Reg.PRINT_PRINT_CFG 7 0 ≠ 0 → 16 * s.fld Reg.PRINT_PRINT_CFG 7 0 ≤ (s.drive n).pcm →
        (t.drive n).st = (if (s.drive n).crossing then .ramp else .arm) ∧ (t.drive n).resumed = true ∧ (t.drive n).causes = 0 ∧
        ((s.drive n).crossing = true → (t.drive n).k = 1 ∧ (t.drive n).out = roundHalfUp ((s.drive n).cur.getD (s.drive n).held) 64))) ∧
  (∀ (s : State) (n : Nat), s.between → s.driveRuns n = true → s.print.drives.length = 8 → (s.drive n).st = .muted →
    (s.drive n).causes = 2 → s.latched n = false → (s.drive n).edgeWait = false →
    exec (.muteResume n) s = .next s ∧
    ∃ t, exec (.driveAutoRestart n) s = .next t ∧ (∀ j, j < 8 → j ≠ n → t.drive j = s.drive j) ∧ KeepsRegs s t [] ∧
      (s.fld Reg.CHIP_CLK_CFG 7 4 = 0 ∨ s.clk.autoOff = true ∨ s.clk.fault = true ∨ (s.drive n).clean < 16 * s.fld Reg.CHIP_CLK_CFG 7 4 → t = s) ∧
      (s.fld Reg.CHIP_CLK_CFG 7 4 ≠ 0 → s.clk.autoOff = false → s.clk.fault = false → 16 * s.fld Reg.CHIP_CLK_CFG 7 4 ≤ (s.drive n).clean →
        (t.drive n).st = (if (s.drive n).crossing then .ramp else .arm) ∧ (t.drive n).resumed = true)) ∧
  (∀ (s : State) (n : Nat), s.between → s.driveRuns n = true → s.print.drives.length = 8 → (s.drive n).st = .off →
    (s.drive n).edgeWait = true →
    ∃ t, exec (.driveAutoRestart n) s = .next t ∧ t = { s with print := { s.print with drives := t.print.drives } } ∧
      ∀ j, j < 8 → t.drive j = (if j = n ∧ s.fld Reg.CHIP_CLK_CFG 7 4 ≠ 0 ∧ s.clk.autoOff = false ∧ s.clk.fault = false ∧
        16 * s.fld Reg.CHIP_CLK_CFG 7 4 ≤ (s.drive n).clean then { s.drive n with edgeWait := false } else s.drive j)) ∧
  (∀ (s : State) (level : BitVec 16) (l c t0 : Nat), s.between → s.acting = true → s.print.loop = some (l, c, some t0) →
    ∃ t, exec (.proofDone level) s = .next t ∧ (s.clk.ticks < t0 + 4096 → t = s) ∧
      (t0 + 4096 ≤ s.clk.ticks → t.print.result = level ∧ t.print.loop = none ∧ t.flag Reg.PRINT_PRINT_STATUS 6 = true ∧
        t.fld Reg.PRINT_PROOF_CTL_A 1 0 = 0 ∧ KeepsRegs s t [Reg.PRINT_PRINT_STATUS, Reg.PRINT_PROOF_CTL_A] ∧
        t.print.drives = s.print.drives))

/-! ### Power stages -/

/-- The FLT latch and, for a departure of at least the limit, the IMON latch set, each its own and nothing else, with no clock needed. A
measurement of 256 periods in `k` link clocks within 96 ticks reports 256 × f_link / k in 1/16 kHz, rounded half up, and is valid; one that is
not complete reports 0, not valid. In steering, with the pin released, every output below the idle threshold and no clock fault, the servo moves
the code by at least 1 and at most 8 steps when it is more than 0.5 kHz off, and the channel gains LOCKED at its fourth measurement within 1 kHz;
otherwise the code holds. LOCKED falls where the next measurement is the first into or out of staggering. The free threshold of the opening
measurement is in the state (R583, R587, R595, R597, R598, R603). -/
def Obligations.LatchesMeasureAndSteer : Prop :=
  (∀ (s : State) (n d : Nat), s.between → s.clk.power = .up → s.ident.done = true → s.blockUp 4 = true → n < 8 → s.stage.ch.length = 8 →
    (∃ t, exec (.fltLatch n) s = .next t ∧ t = { s with stage := { s.stage with ch := t.stage.ch } } ∧
      ∀ j, j < 8 → t.stageCh j = if j = n then { s.stageCh n with flt := true } else s.stageCh j) ∧
    (∃ t, exec (.imonLatch ⟨n, d⟩) s = .next t ∧ t = { s with stage := { s.stage with ch := t.stage.ch } } ∧
      ∀ j, j < 8 → t.stageCh j = if j = n ∧ 625 * max 1 (s.fld Reg.STAGE_LIMITS 7 0) ≤ d then { s.stageCh n with imon := true } else s.stageCh j)) ∧
  (∀ (s : State) (n k : Nat), s.between → k = 0 ∨ 786432 < k → exec (.swsMeasurement n k) s = .next s) ∧
  (∀ (s : State) (n k : Nat), s.roomFor 2 → s.stageRuns n = true → s.stage.ch.length = 8 → 98306 ≤ k → k ≤ 786432 →
    ∃ t, exec (.swsMeasurement n k) s = .next t ∧ (t.stageCh n).valid = true ∧
      2 * k * (t.stageCh n).freq ≤ 6442450944 + k ∧ 6442450944 + k < 2 * k * ((t.stageCh n).freq + 1) ∧
      (∀ j, j < 8 → j ≠ n → t.stageCh j = s.stageCh j) ∧ KeepsRegs s t [Reg.STAGE_STAGE_STATUS] ∧
      ((s.stageCh n).mMode = 0 ∨ (s.stageCh n).mMode = 2 ∨ s.released n = false ∨ (s.stageCh n).loud = true ∨ s.clk.fault = true →
        (t.stageCh n).code = (s.stageCh n).code) ∧
      ((s.stageCh n).mMode = 2 → (t.stageCh n).locked = (decide (s.stage.resMode = 2) &&
        decide (200 * ((s.stageCh n).mFreq * k - 201326592 : Int).natAbs ≤ (s.stageCh n).mFreq * k)))) ∧
  (∀ (s : State) (n k step : Nat) (e : Int), s.roomFor 2 → s.stageRuns n = true → s.stage.ch.length = 8 → 0 < k → k ≤ 786432 →
    (s.stageCh n).mMode = 1 ∨ (s.stageCh n).mMode = 3 → s.released n = true → (s.stageCh n).loud = false → s.clk.fault = false →
    (s.stageCh n).code ≤ 255 → e = (s.stageCh n).mFreq * k - 201326592 → step = max 1 (min 8 (e.natAbs / (2 * k))) →
    ∃ t, exec (.swsMeasurement n k) s = .next t ∧
      (t.stageCh n).code = (if 2 * e.natAbs ≤ k then (s.stageCh n).code
        else if (0 < e ↔ s.flag Reg.STAGE_STEER_CTL 1 = false) then min 255 ((s.stageCh n).code + step) else (s.stageCh n).code - step) ∧
      (t.stageCh n).locked = (if s.stage.resMode = 2 then false else if e.natAbs ≤ k ∧ 3 ≤ (s.stageCh n).inRun then true
        else if 2 * k < e.natAbs ∧ 3 ≤ (s.stageCh n).outRun then false else (s.stageCh n).locked) ∧
      (t.flag Reg.STAGE_STAGE_STATUS 3 = (s.flag Reg.STAGE_STAGE_STATUS 3 || (!(s.stageCh n).atLimit && decide (k < e.natAbs) &&
        ((t.stageCh n).code == 0 || (t.stageCh n).code == 255)))) ∧
      (2 * k < e.natAbs → 3 ≤ (s.stageCh n).outRun → (s.stageCh n).locked = true →
        ∃ l, l ∈ t.fixer.staged ∧ l = s.entry Log.STAGE 7 (ofBytes n 0 0 0) 0)) ∧
  (∀ (s : State) (n : Nat), s.between → s.stageRuns n = true → s.stage.ch.length = 8 →
    ∃ t, exec (.swsMeasureTimeout n) s = .next t ∧ t = { s with stage := { s.stage with ch := t.stage.ch } } ∧
      (t.stageCh n).freq = 0 ∧ (t.stageCh n).valid = false ∧ (t.stageCh n).clear = false ∧ (t.stageCh n).code = (s.stageCh n).code ∧
      ∀ j, j < 8 → j ≠ n → t.stageCh j = s.stageCh j)

/-- A lost SWS is a stage fault of cause 3 and a thermal trip one of cause 4: FAULT_CAUSE takes the code, TRIP sets, TRIP_COUNT counts, and the
channel acts at its next read instant; during an episode neither is counted, where R589 names latches and thermal conditions and that a lost SWS
is discarded too is the model's reading (log entry 99). A lost SWS writes STAGE_TRIP and counts toward the channel's window: where the Fixer
makes it lasting LATCH sets, else the channel is held out for RESTART × 960 ticks, but where LATCH holds it already. A thermal fault writes
THERMAL and latches the channel out until TMON has stayed within TMON_WARN for 9,600 ticks, when a second THERMAL is written (R588 to R592). -/
def Obligations.StageFaultsHoldTheChannel : Prop :=
  (∀ (s : State) (n t0 : Nat), s.roomFor 2 → s.stageRuns n = true → s.stage.ch.length = 8 → (s.stageCh n).relTick = some t0 →
    96 ≤ (s.stageCh n).noEdge → t0 + 96 ≤ s.clk.ticks →
    ∃ t, exec (.swsLost n) s = .next t ∧ ((s.stageCh n).episode = true → t = s) ∧
      (∀ j, j < 8 → j ≠ n → t.stageCh j = s.stageCh j) ∧ t.print = s.print ∧
      ((s.stageCh n).episode = false → (t.stageCh n).cause = 3 ∧ (t.stageCh n).faultPend = true ∧
        t.flag Reg.STAGE_STAGE_STATUS 0 = true ∧ t.reg Reg.STAGE_TRIP_COUNT = satInc (s.reg Reg.STAGE_TRIP_COUNT) ∧
        ((s.fixerCount (34 + n)).2.2 = true → t.flag Reg.STAGE_LATCH n = true ∧ t.flag Reg.STAGE_STAGE_STATUS 1 = true ∧
          Logged s t [s.entry Log.STAGE 1 (ofBytes n 3 (s.fixerCount (34 + n)).2.1 0) 0, s.entry Log.STAGE 2 (ofBytes n 3 0 0) 0]) ∧
        ((s.fixerCount (34 + n)).2.2 = false → t.reg Reg.STAGE_LATCH = s.reg Reg.STAGE_LATCH ∧
          Logged s t [s.entry Log.STAGE 1 (ofBytes n 3 (s.fixerCount (34 + n)).2.1 0) 0] ∧
          (s.flag Reg.STAGE_LATCH n = false →
            (t.stageCh n).hold = some (s.clk.epoch + BitVec.ofNat 48 (960 * max 1 (s.fld Reg.STAGE_STAGE_CTL 7 0))))))) ∧
  (∀ (s : State) (n : Nat), s.roomFor 1 → s.stageRuns n = true → s.stage.ch.length = 8 → (s.stageCh n).therm = false →
    ∃ t, exec (.thermalTrip n) s = .next t ∧ (∀ j, j < 8 → j ≠ n → t.stageCh j = s.stageCh j) ∧ t.fixer.hist = s.fixer.hist ∧
      ((s.stageCh n).tripRun < 8 ∨ (s.stageCh n).episode = true → t = s) ∧
      (8 ≤ (s.stageCh n).tripRun → (s.stageCh n).episode = false → (t.stageCh n).cause = 4 ∧ (t.stageCh n).faultPend = true ∧ (t.stageCh n).therm = true ∧
        t.flag Reg.STAGE_STAGE_STATUS 0 = true ∧ t.reg Reg.STAGE_TRIP_COUNT = satInc (s.reg Reg.STAGE_TRIP_COUNT) ∧
        KeepsRegs s t [Reg.STAGE_STAGE_STATUS, Reg.STAGE_TRIP_COUNT] ∧ Logged s t [s.entry Log.STAGE 3 (ofBytes n 1 0 0) 0])) ∧
  (∀ (s : State) (n : Nat) (e : Epoch), s.roomFor 1 → s.acting = true → s.clk.daylight = true → n < 8 → s.stage.ch.length = 8 →
    (s.stageCh n).therm = true → (s.stageCh n).cool = some e →
    ∃ t, exec (.thermalClear n) s = .next t ∧ (s.epochElapsed e 9599 = false → t = s) ∧
      (s.epochElapsed e 9599 = true → (∀ j, j < 8 → t.stageCh j = if j = n then { s.stageCh n with therm := false } else s.stageCh j) ∧
        KeepsRegs s t [] ∧ Logged s t [s.entry Log.STAGE 3 (ofBytes n 2 0 0) 0])) ∧
  (∀ (s : State) (n : Nat) (e : Epoch), s.between → s.acting = true → n < 8 → s.stage.ch.length = 8 → (s.stageCh n).hold = some e →
    ∃ t, exec (.stageRestart n) s = .next t ∧ t = { s with stage := { s.stage with ch := t.stage.ch } } ∧
      ∀ j, j < 8 → t.stageCh j = if j = n ∧ (s.clk.epoch - e).toNat < 2 ^ 47 then { s.stageCh n with hold := none } else s.stageCh j)

/-- A completed search puts its result in force, for a channel with a measurement in progress from its next one: STEER_RESULT holds the mode, the
number of enabled channels and the target. The mode follows the search that finds a frequency first, steering before staggering, and staggering
needs at least 2 channels. What a search finds, on an accepted snapshot, is a frequency of the window that clears, and no frequency of the window
that clears lies nearer to F_NOM or as near above it; a conflict steers to F_NOM and sets its flag (R599, R601). A verification window ends at an
epoch that is a multiple of 24,000; at another nothing changes. A window is judged only where the channel is verified, was in PLAY throughout and
its drive was loud enough: LAST takes its gain, the sum of the products over the sum of the squares, in 1/16 dB, at the step above or below it as
`up` says; the sums start anew. With a reference in force the window fails when it departs by more than BOUND / 4 dB or its sign differs: the
first failing window of a run sets its flags and writes its entries. With none, the window becomes the reference. A window that is not judged
leaves LAST, the reference and the run (R606 to R609). -/
def Obligations.SearchesAndWindowsEnd : Prop :=
  (∀ (s : State) (q : Search) (p : Nat), s.roomFor 1 → s.acting = true → s.blockUp 4 = true → s.stage.search = some q →
    p = ((List.range 8).filter (fun n => s.flag Reg.PRINT_CH_EN n)).length →
    ∃ t, exec .steerSearchDone s = .next t ∧ t.stage.search = none ∧ t.stage.snap = s.stage.snap ∧
      (s.stage.ch.length = 8 → ∀ n, n < 8 → ((s.stageCh n).measuring = true → t.stageCh n = s.stageCh n) ∧
        ((s.stageCh n).measuring = false → (t.stageCh n).mMode = (q.result p).1 ∧ (t.stageCh n).mFreq = (q.result p).2 ∧
          (t.stageCh n).code = (s.stageCh n).code)) ∧
      t.steerResult = pack [(16, 10, (q.result p).2), (8, 4, p), (0, 2, (q.result p).1)] ∧
      (if (q.result p).1 = 3 then t.flag Reg.STAGE_STAGE_STATUS 4 = true ∧ KeepsRegs s t [Reg.STAGE_STAGE_STATUS] else KeepsRegs s t []) ∧
      Logged s t [s.entry Log.STAGE 4 (ofBytes (q.result p).1 p ((q.result p).2 % 256) ((q.result p).2 / 256)) 0]) ∧
  (∀ (q : Search) (p : Nat), q.result p =
    match q.mode, q.first [1, 2, 3, 4, 5, 6], (if p < 2 then none else q.first ([1, 2, 3, 4, 5, 6].filter (fun h => h % p == 0))) with
    | 0, _, _ => (0, 0)
    | 2, some f, _ => (1, f)
    | 2, none, _ => (3, q.fNom)
    | 3, _, some f => (2, f)
    | 3, _, none => (3, q.fNom)
    | _, some f, _ => (1, f)
    | _, none, some f => (2, f)
    | _, none, none => (3, q.fNom)) ∧
  (∀ (q : Search) (hs : List Nat), q.bad = none →
    (q.first hs = none → ∀ g, g < 1001 → q.fMin ≤ g → g ≤ q.fMax → clears q.carriers hs g = false) ∧
    (∀ f, q.first hs = some f → q.fMin ≤ f ∧ f ≤ q.fMax ∧ clears q.carriers hs f = true ∧
      ∀ g, g < 1001 → q.fMin ≤ g → g ≤ q.fMax → clears q.carriers hs g = true → g ≠ f →
        (f - q.fNom : Int).natAbs < (g - q.fNom : Int).natAbs ∨ ((f - q.fNom : Int).natAbs = (g - q.fNom : Int).natAbs ∧ g < f))) ∧
  (∀ (carriers hs : List Nat) (f : Nat), clears carriers hs f = true ↔
    ∀ h, h ∈ hs → ∀ c, c ∈ carriers → 10 ≤ ((h * f : Nat) - (c : Nat) : Int).natAbs) ∧
  (∀ (s : State) (up : List Bool), s.between → s.clk.epoch.toNat % 24000 ≠ 0 → exec (.verifyWindow up) s = .next s) ∧
  (∀ (s : State) (up : List Bool) (n : Nat) (g : Int), s.between → s.acting = true → s.blockUp 4 = true → s.clk.epoch.toNat % 24000 = 0 → s.stage.ch.length = 8 →
    n < 8 → g = gainLevel (nth up n false) ((s.stageCh n).verify.dm / (s.stageCh n).verify.dd) →
    ∃ t, exec (.verifyWindow up) s = .next t ∧ (t.stageCh n).whole = (s.verifies n && (s.drive n).st == .play) ∧
      (t.stageCh n).verify = { (s.stageCh n).verify with dm := 0, dd := 0 } ∧
      KeepsRegs s t (Reg.STAGE_VERIFY_STATUS :: logReport) ∧
      (s.verifies n = true → (s.stageCh n).whole = true → s.driveLoud n = true → (t.stageCh n).last = some (clampInt (-2048) 2047 g) ∧
        (s.verifyRef n = none → (t.stageCh n).failing = (s.stageCh n).failing ∧
          (t.stageCh n).ref = some (clampInt (-2048) 2047 g, decide ((s.stageCh n).verify.dm < 0)))) ∧
      (s.verifies n = false ∨ (s.stageCh n).whole = false ∨ s.driveLoud n = false → (t.stageCh n).last = (s.stageCh n).last ∧
        (t.stageCh n).ref = (s.stageCh n).ref ∧ (t.stageCh n).failing = (s.stageCh n).failing ∧
        t.flag Reg.STAGE_VERIFY_STATUS n = s.flag Reg.STAGE_VERIFY_STATUS n)) ∧
  (∀ (s : State) (up : List Bool) (n : Nat) (g v : Int) (neg depart turned : Bool), s.roomFor 16 → s.acting = true → s.blockUp 4 = true →
    s.clk.epoch.toNat % 24000 = 0 → s.stage.ch.length = 8 → n < 8 → s.verifies n = true → (s.stageCh n).whole = true → s.driveLoud n = true →
    g = clampInt (-2048) 2047 (gainLevel (nth up n false) ((s.stageCh n).verify.dm / (s.stageCh n).verify.dd)) →
    s.fld (Reg.STAGE_VERIFY_EXP_0 + 4 * n) 15 0 ≠ 0x8000 → v = sgnOf 16 (s.fld (Reg.STAGE_VERIFY_EXP_0 + 4 * n) 15 0) →
    neg = s.flag (Reg.STAGE_VERIFY_EXP_0 + 4 * n) 30 → turned = (decide ((s.stageCh n).verify.dm < 0) != neg) →
    depart = decide (4 * s.fld Reg.STAGE_VERIFY_CFG 15 8 < (g - v).natAbs) →
    ∃ t, exec (.verifyWindow up) s = .next t ∧ (t.stageCh n).failing = (depart || turned) ∧ (t.stageCh n).ref = (s.stageCh n).ref ∧
      t.flag Reg.STAGE_VERIFY_STATUS n = (s.flag Reg.STAGE_VERIFY_STATUS n || (depart && !(s.stageCh n).failing)) ∧
      t.flag Reg.STAGE_VERIFY_STATUS (8 + n) = (s.flag Reg.STAGE_VERIFY_STATUS (8 + n) || (turned && !(s.stageCh n).failing)) ∧
      ((s.stageCh n).failing = false → depart = true →
        s.entry Log.STAGE 8 (ofBytes n 0 (wrapInt 16 g % 256) (wrapInt 16 g / 256)) (s.epoch32 - 24000) ∈ t.fixer.staged) ∧
      ((s.stageCh n).failing = false → turned = true →
        s.entry Log.STAGE 8 (ofBytes n 1 (wrapInt 16 g % 256) (wrapInt 16 g / 256)) (s.epoch32 - 24000) ∈ t.fixer.staged))

/-- A frequency clears a set of harmonics exactly where each harmonic of it lies 10 kHz or more from each enabled carrier; the enabled carriers
are the fields of the CARRIER words whose enable bits are 1 (R599). -/
def Obligations.ClearanceIsTenKilohertz : Prop :=
  (∀ (carriers hs : List Nat) (f : Nat), clears carriers hs f = true ↔
    ∀ h, h ∈ hs → ∀ c, c ∈ carriers → 10 ≤ ((h * f : Nat) - (c : Nat) : Int).natAbs) ∧
  (∀ (s : State) (c : Nat), c ∈ s.carriers ↔ ∃ i, i < 8 ∧
    ((s.flag (Reg.STAGE_CARRIER_0 + 4 * i) 31 = true ∧ c = s.fld (Reg.STAGE_CARRIER_0 + 4 * i) 26 16) ∨
     (s.flag (Reg.STAGE_CARRIER_0 + 4 * i) 15 = true ∧ c = s.fld (Reg.STAGE_CARRIER_0 + 4 * i) 10 0)))

/-! ### Tank -/

/-- TAMPER is latched without a clock while the unit has power; the first link clock with the latch set sets the flag, logs the count and makes a
wipe pending of the highest cause, which abandons a verification under way. A pending wipe starts where none runs and the region is not sealed by
the pin: it clears the whole region at once and nothing else, where R639 writes it word by word over 4,097 accesses (the model's choice, log
entry 52). Its end leaves the region 0 but for the seal word's count and lifecycle record, with WIPE_DONE, or seals it with WIPE_FAIL; the latch
clears with the pin deasserted, else the region stays sealed until it is (R637 to R639, R641, R668, R712). -/
def Obligations.TamperWipesTheSecureRegion : Prop :=
  (∀ s : State, s.between →
    (exec .tamperLatch s) = .next { s with bank := { s.bank with tamperPin := true, tamperLatch := s.bank.tamperLatch || s.clk.power != .off } }) ∧
  (∀ s : State, s.between → ∃ t, exec .tamperDeassert s = .next t ∧ t = { s with bank := t.bank } ∧
    t.bank = if s.bank.sealPin then { s.bank with tamperPin := false, sealPin := false, tamperLatch := false, tamperSeen := false }
      else { s.bank with tamperPin := false }) ∧
  (∀ s : State, s.roomFor 4 → s.bank.wipeCause ≤ 5 →
    ∃ t, exec .tamper s = .next t ∧ t.mem = s.mem ∧
      (s.running = false ∨ s.bank.tamperLatch = false ∨ s.bank.tamperSeen = true → t = s) ∧
      (s.running = true → s.bank.tamperLatch = true → s.bank.tamperSeen = false →
        t.bank.tamperSeen = true ∧ t.flag Reg.TANK_TANK_STATUS 6 = true ∧ (t.bank.wipePend || t.bank.wiping) = true ∧ t.bank.wipeCause = 5 ∧
        s.entry Log.TANK 7 (ofBytes (if s.bank.wiping then s.bank.sealCnt else s.fldTank 0x3FF8 7 0) 0 0 0) 0 ∈ t.fixer.staged ∧
        (s.loupe.patch = 1 → t.loupe.patch = 0 ∧ t.flag Reg.LOUPE_LOUPE_STATUS 2 = true) ∧
        (s.bank.wipePend = true ∨ s.bank.wiping = true → s.loupe.patch ≠ 1 → KeepsRegs s t [Reg.TANK_TANK_STATUS] ∧ t.loupe = s.loupe ∧
          Logged s t [s.entry Log.TANK 7 (ofBytes (if s.bank.wiping then s.bank.sealCnt else s.fldTank 0x3FF8 7 0) 0 0 0) 0]))) ∧
  (∀ s : State, s.between → s.running = true →
    ∃ t, exec .wipeStart s = .next t ∧ t = { s with mem := t.mem, bank := t.bank } ∧
      (s.bank.wipePend = false ∨ s.bank.wiping = true ∨ s.bank.sealPin = true → t = s) ∧
      (s.bank.wipePend = true → s.bank.wiping = false → s.bank.sealPin = false →
        t.bank.wiping = true ∧ t.bank.wipePend = false ∧ t.bank.wipeCause = s.bank.wipeCause ∧
        t.bank.sealCnt = s.fldTank 0x3FF8 7 0 ∧ (∀ a, a < 0x10000 → Mem.read t.mem a = 0#8) ∧ KeepsTank s t 0 0x10000)) ∧
  (∀ (s : State) (cnt : Nat), s.roomFor 1 → s.running = true → s.bank.wiping = true → s.bank.errs = [] →
    cnt = min 255 (s.bank.sealCnt + (if s.bank.wipeCause = 5 then 1 else 0)) →
    ∃ t, exec (.wipeDone none) s = .next t ∧ t.bank.wiping = false ∧ t.bank.lastCause = s.bank.wipeCause ∧
      t.tank 0x3FF8 = BitVec.ofNat 32 cnt ∧ t.tank 0x3FF9 = pack [(8, 6, s.loupe.floor), (0, 2, s.loupe.life)] ∧
      (∀ a, a < 0xFFE0 → Mem.read t.mem a = 0#8) ∧ (∀ a, 0xFFE8 ≤ a → a < 0x10000 → Mem.read t.mem a = 0#8) ∧ KeepsTank s t 0 0x10000 ∧
      t.flag Reg.TANK_TANK_STATUS 4 = true ∧ KeepsRegs s t [Reg.TANK_TANK_STATUS] ∧
      Logged s t [s.entry Log.TANK 5 (ofBytes s.bank.wipeCause cnt 0 0) 0] ∧
      (s.bank.tamperSeen = true → t.bank.tamperLatch = (s.bank.tamperLatch && s.bank.tamperPin) ∧
        t.bank.sealPin = (s.bank.sealPin || s.bank.tamperPin)) ∧ t.bank.sealFail = s.bank.sealFail) ∧
  (∀ (s : State) (w : Nat), s.roomFor 1 → s.running = true → s.bank.wiping = true → w < 0x800 →
    ∃ t, exec (.wipeDone (some w)) s = .next t ∧ t.bank.wiping = false ∧ t.bank.sealFail = true ∧
      t.loupe.lifeReq = (if s.loupe.lifeBurn.isSome then s.loupe.lifeReq else none) ∧
      (∀ a, a < 0x10000 → Mem.read t.mem a = 0#8) ∧ KeepsTank s t 0 0x10000 ∧
      t.flag Reg.TANK_TANK_STATUS 5 = true ∧ KeepsRegs s t [Reg.TANK_TANK_STATUS] ∧
      Logged s t [s.entry Log.TANK 6 (ofBytes s.bank.wipeCause 0 (w % 256) (w / 256)) 0])

/-- A fog-test step begins no sooner than FOG_PACE × 1,024 core cycles after the last, saves its region, and borrows it for the march unless the
stream port is due there before the deadline: then the step ends with no abort (the model's choice, log entry 115). One whose march finds nothing
moves on to the next region, the last of a pass to the first with FOG_PASSES and its flag; one that finds a failing bit records it. A request to
the borrowed region, or the deadline of any step, aborts it: that restores the region and counts, and at the eighth skips it. None changes a byte
of Tank (R642 to R645, R647, R648). -/
def Obligations.FogTestMarchesAndYields : Prop :=
  (∀ (s : State) (i : FogIn), s.between → s.fogRuns = false → s.acting = false ∨ s.bank.phase = .idle →
    exec (.fogStep i) s = .next s) ∧
  (∀ (s : State) (k : Nat), s.between → s.fogRuns = true → s.bank.errs = [] → s.bank.phase ≠ .idle ∨ s.fogDue k = true →
    ∃ t, exec (.fogStep { cycle := k }) s = .next t ∧ t.mem = s.mem ∧ t.bank.phase = .idle ∧ t.bank.aborts = 0 ∧
      t.bank.region = (if s.bank.region = 0x17FFF then 0x400 else s.bank.region + 1) ∧
      (t.bank.region = 0x400 → t.reg Reg.TANK_FOG_PASSES = s.reg Reg.TANK_FOG_PASSES + 1 ∧ t.flag Reg.TANK_TANK_STATUS 3 = true ∧
        KeepsRegs s t [Reg.TANK_FOG_PASSES, Reg.TANK_TANK_STATUS]) ∧
      (t.bank.region ≠ 0x400 → KeepsRegs s t [])) ∧
  (∀ (s : State) (i : FogIn), s.between → s.fogRuns = true → s.bank.phase = .idle →
    (∀ b, s.bank.stepAt = some b → 4096 * s.clk.ticks + i.cycle < b + 1024 * max 1 (s.fld Reg.TANK_TANK_CFG 7 4) → exec (.fogStep i) s = .next s) ∧
    (s.fogDue i.cycle = true → i.failBit = none → i.saveUe = false → s.bank.errs = [] →
      (i.upTo = .save → exec (.fogStep i) s =
        .next { s with bank := { s.bank with phase := .save, stepAt := some (4096 * s.clk.ticks + i.cycle) } }) ∧
      (i.upTo = .march ∨ i.upTo = .restore → i.streamDue = false → exec (.fogStep i) s =
        .next { s with bank := { s.bank with phase := i.upTo, stepAt := some (4096 * s.clk.ticks + i.cycle) } }) ∧
      (i.upTo ≠ .save → i.streamDue = true → exec (.fogStep i) s =
        .next { s with bank := { s.bank with stepAt := some (4096 * s.clk.ticks + i.cycle) } }))) ∧
  (∀ (s : State) (b k : Nat), s.roomFor 1 → s.fogRuns = true → s.bank.errs = [] → b < 576 → s.bank.region ≤ 0x17FFF →
    s.bank.phase ≠ .restore → s.bank.phase ≠ .idle ∨ s.fogDue k = true →
    ∃ t, exec (.fogStep { cycle := k, failBit := some b }) s = .next t ∧ t.mem = s.mem ∧ t.bank.phase = .idle ∧
      t.reg Reg.TANK_FOG_FAIL_ADDR = pack [(22, 10, b), (0, 17, s.bank.region)] ∧ t.flag Reg.TANK_TANK_STATUS 2 = true ∧
      t.fixer.hist = (s.fixerReport 42).fixer.hist ∧
      s.entry Log.TANK 3 (ofBytes (s.bank.region % 256) (s.bank.region / 256 % 256) (s.bank.region / 65536) (b % 256))
        (ofBytes (b / 256) 0 0 0) ∈ t.fixer.staged) ∧
  (∀ s : State, s.between → (s.bank.borrowed = false → exec .fogAbort s = .next s) ∧
    (s.bank.phase = .idle → exec .fogStepDeadline s = .next s)) ∧
  (∀ (c : Instr) (s : State) (r : Nat), c = .fogAbort ∧ s.bank.borrowed = true ∨ c = .fogStepDeadline ∧ s.bank.phase ≠ .idle →
    s.roomFor 1 → s.acting = true → r = s.bank.region →
    ∃ t, exec c s = .next t ∧ t.mem = s.mem ∧ t.bank.phase = .idle ∧
      (s.bank.aborts < 7 → t.bank.aborts = s.bank.aborts + 1 ∧ t.bank.region = r ∧ KeepsRegs s t []) ∧
      (7 ≤ s.bank.aborts → t.bank.aborts = 0 ∧ t.bank.region = (if r = 0x17FFF then 0x400 else r + 1) ∧
        t.reg Reg.TANK_FOG_SKIPS = satInc (s.reg Reg.TANK_FOG_SKIPS) ∧
        Logged s t [s.entry Log.TANK 4 (ofBytes (r % 256) (r / 256 % 256) (r / 65536) 0) 0]))

/-- An atomic of the Loupe returns the old lane and stores its sum with the operand, modulo 2^32, or the operand; nothing else in Tank changes.
On an uncorrectable group it is a bus error, which stores all the same and leaves the group's other lane at 0. On the secure region, while it is
closed or by a patch, it is a bus error and changes no byte (R632, R634 to R636, R654). A Loupe read delivers the lanes it names and changes no
byte; a Loupe write stores its lanes and no other, and the secure region, while it is closed or to a patch, answers with a bus error. Of two
requests in one cycle for different words the higher-ranked is served and the other stalls. Every other requester's read leaves Tank's bytes as
they are, but for the wipe's verify reads, which rewrite a word of the secure region that is not 0. A read that meets a single-bit error counts
it in CE_COUNT, sets CE and loads CE_ADDR; one that meets a double-bit error counts it in UE_COUNT, sets UE and loads UE_ADDR, and is a bus
error; where the Fixer has made instance 42 lasting, R683 reports that too (R618, R628 to R631, R633 to R636, R654). -/
def Obligations.TankAccessesReachTheirLanes : Prop :=
  (∀ (s : State) (word lane w : Nat) (x : Word) (patch handler : Bool), s.between → s.loupe.wedged = false → s.running = true → s.loupeUp = true →
    word < 0x30000 → lane < 8 → w = 8 * word + lane → s.segPowered (segmentOf w) = true → w < 0x4000 → patch = true ∨ s.secureOpen = false →
    (∃ t, exec (.atomicAdd word lane ⟨x, patch, handler⟩) s = .next t ∧ t = { s with port := { s.port with busError := true, data := [] } }) ∧
    (exec (.atomicSwap word lane ⟨x, patch, handler⟩) s = exec (.atomicAdd word lane ⟨x, patch, handler⟩) s)) ∧
  (∀ (s : State) (word lane w : Nat) (x : Word) (patch handler : Bool), s.between → s.loupe.wedged = false → s.running = true → s.loupeUp = true →
    word < 0x30000 → lane < 8 → w = 8 * word + lane → s.segPowered (segmentOf w) = true →
    0x4000 ≤ w ∨ (patch = false ∧ s.secureOpen = true) → s.eccOf word (lane / 2) = none → s.bank.borrowed = false →
    (∃ t, exec (.atomicAdd word lane ⟨x, patch, handler⟩) s = .next t ∧ t.tank w = s.tank w + x ∧ t.port.data = [s.tank w] ∧
      t.port.busError = false ∧ KeepsTank s t (4 * w) (4 * w + 4) ∧ KeepsRegs s t []) ∧
    (∃ t, exec (.atomicSwap word lane ⟨x, patch, handler⟩) s = .next t ∧ t.tank w = x ∧ t.port.data = [s.tank w] ∧
      t.port.busError = false ∧ KeepsTank s t (4 * w) (4 * w + 4) ∧ KeepsRegs s t [])) ∧
  (∀ (s : State) (word lane w : Nat) (x : Word), s.between → s.loupe.wedged = false → s.running = true → s.loupeUp = true → word < 0x30000 →
    lane < 8 → w = 8 * word + lane → s.segPowered (segmentOf w) = true → 0x4000 ≤ w → s.eccOf word (lane / 2) = some true →
    s.bank.borrowed = false →
    ∃ t, exec (.atomicSwap word lane { value := x }) s = .next t ∧ t.tank w = x ∧ t.tank (w / 2 * 2 + (1 - w % 2)) = 0 ∧
      t.port.busError = true ∧ t.port.data = [] ∧ KeepsTank s t (8 * (w / 2)) (8 * (w / 2) + 8)) ∧
  (∀ (s : State) (word l : Nat), s.between → s.loupe.wedged = false → s.running = true → s.loupeUp = true → word < 0x30000 → l < 8 →
    s.segPowered (segmentOf (8 * word)) = true → 0x4000 ≤ 8 * word ∨ s.secureOpen = true → s.bank.errs = [] →
    s.bank.borrowed = false →
    ∃ t, exec (.tankAccess [{ req := .loupe, word := word, lanes := [l], data := none }]) s = .next t ∧
      t = { s with port := { s.port with busError := false, data := [s.tank (8 * word + l)] }, loupe := { s.loupe with handler := false } }) ∧
  (∀ (s : State) (word l : Nat) (x : Word), s.between → s.loupe.wedged = false → s.running = true → s.loupeUp = true → word < 0x30000 → l < 8 →
    s.segPowered (segmentOf (8 * word)) = true → 0x4000 ≤ 8 * word ∨ s.secureOpen = true → s.bank.errs = [] → s.bank.borrowed = false →
    ∃ t, exec (.tankAccess [{ req := .loupe, word := word, lanes := [l], data := some [x] }]) s = .next t ∧
      t.tank (8 * word + l) = x ∧ KeepsTank s t (4 * (8 * word + l)) (4 * (8 * word + l) + 4) ∧ KeepsRegs s t [] ∧ t.port.busError = false) ∧
  (∀ (s : State) (r : TankReq), s.between → s.loupe.wedged = false → s.running = true → s.loupeUp = true → r.req = .loupe → 8 * r.word < 0x4000 →
    (∀ l, l ∈ r.lanes → l < 8) → s.segPowered 0 = true → r.patch = true ∨ s.secureOpen = false →
    exec (.tankAccess [r]) s = .next { s with port := { s.port with busError := true, data := [] } }) ∧
  (∀ (s : State) (r : TankReq), s.between → r.req ≠ .loupe → r.data = none →
    ∃ t, exec (.tankAccess [r]) s = .next t ∧ (r.req ≠ .wipe → t.mem = s.mem) ∧ KeepsTank s t 0 0x10000) ∧
  (∀ (s : State) (r q : TankReq), rankOf r.req < rankOf q.req → r.word ≠ q.word → s.presents r = true → s.secureRefused r = false →
    s.secureRefused q = false → ∃ t, exec (.tankAccess [r]) s = .next t ∧ exec (.tankAccess [r, q]) s = .next t ∧ exec (.tankAccess [q, r]) s = .next t) ∧
  (∀ (s : State) (word l : Nat) (double : Bool), s.roomFor 1 → s.loupe.wedged = false → (s.fixerCount 42).2.2 = false → s.running = true → s.loupeUp = true → word < 0x30000 → l < 8 →
    s.segPowered (segmentOf (8 * word)) = true → 0x4000 ≤ 8 * word → s.bank.errs = [(word, l / 2, double)] → s.bank.borrowed = false →
    ∃ t, exec (.tankAccess [{ req := .loupe, word := word, lanes := [l], data := none }]) s = .next t ∧ t.mem = s.mem ∧
      t.port.busError = double ∧
      (double = false → t.reg Reg.TANK_CE_COUNT = satInc (s.reg Reg.TANK_CE_COUNT) ∧ t.flag Reg.TANK_TANK_STATUS 0 = true ∧
        t.reg Reg.TANK_CE_ADDR = pack [(28, 4, 7), (24, 2, l / 2), (0, 18, word)] ∧
        KeepsRegs s t [Reg.TANK_CE_COUNT, Reg.TANK_CE_ADDR, Reg.TANK_TANK_STATUS]) ∧
      (double = true → t.reg Reg.TANK_UE_COUNT = satInc (s.reg Reg.TANK_UE_COUNT) ∧ t.flag Reg.TANK_TANK_STATUS 1 = true ∧
        t.reg Reg.TANK_UE_ADDR = pack [(28, 4, 7), (24, 2, l / 2), (0, 18, word)] ∧ t.port.data = [] ∧
        KeepsRegs s t [Reg.TANK_UE_COUNT, Reg.TANK_UE_ADDR, Reg.TANK_TANK_STATUS] ∧
        Logged s t [s.entry Log.TANK 2 (ofBytes (word % 256) (word / 256 % 256) (word / 65536) (l / 2)) (ofBytes 7 0 0 0)]))

/-- The log writer writes the oldest staged entry at the place its number gives, epoch, code and source, and payload, and numbers it by
LOG_TOTAL, which counts on; an entry that is also an event goes to the event ring while it holds fewer than 63, with the low four bits of its
number, and its word, without an address (log entry 114), to the ring's place in Tank. No other byte of Tank changes. With nothing staged,
nothing changes (R217, R689 to R692). -/
def Obligations.LogWriterNumbersEntries : Prop :=
  (∀ s : State, s.between → s.fixer.staged = [] → exec .logWrite s = .next s) ∧
  (∀ (s : State) (e : LogEntry) (rest : List LogEntry) (n w : Nat), s.between → s.running = true → s.fixer.staged = e :: rest →
    s.calmTank → n = (s.reg Reg.FIXER_LOG_TOTAL).toNat → w = 0x4000 + 4 * (n % 4096) → s.queue.events.length < 63 →
    ∃ t, exec .logWrite s = .next t ∧ t.tank w = e.epoch.truncate 32 ∧
      t.tank (w + 1) = pack [(24, 8, e.code), (16, 8, e.source), (0, 16, (e.epoch.extractLsb' 32 16).toNat)] ∧
      t.tank (w + 2) = e.lo ∧ t.tank (w + 3) = e.hi ∧
      (∀ a, a < 4 * w ∨ 4 * w + 16 ≤ a → e.event = false ∨ a < 4 * s.eventAt ∨ 4 * s.eventAt + 4 ≤ a → Mem.read t.mem a = Mem.read s.mem a) ∧
      t.reg Reg.FIXER_LOG_TOTAL = s.reg Reg.FIXER_LOG_TOTAL + 1 ∧ t.fixer.staged = rest ∧
      (e.event = true → t.tank s.eventAt = eventWord 0 ⟨n % 16, e.source, e.code, false, false, s.eventSlot⟩ ∧
        t.queue.events = s.queue.events ++ [⟨n % 16, e.source, e.code, false, false, s.eventSlot⟩] ∧
        t.reg Reg.QUEUE_EVT_COUNT = s.reg Reg.QUEUE_EVT_COUNT + 1 ∧ KeepsRegs s t [Reg.FIXER_LOG_TOTAL, Reg.QUEUE_EVT_COUNT]) ∧
      (e.event = false → t.queue = s.queue ∧ KeepsRegs s t [Reg.FIXER_LOG_TOTAL]))

/-! ### Forms that complete with their own effect -/

/-- Under the conditions of normal execution the following forms complete with their own effect. LISTEN_FIELD adds the contribution of the one
active entry of the copy's plan to its slot word, counts it, and sends the field's check made anew; EVENT_FIELD puts the oldest event not yet
sent in this copy into the first empty word the unit may take; SEED_LOAD, PROFILE_COMMIT, TEMPLATE_ENABLE and TEMPLATE_DISABLE leave the seed,
the profile and the request that the next block takes; RELEASE_W, RELEASE_D and RUN_D_START end the freezes and empty the Daylight ring;
STEER_SEARCH starts its search and the mailbox commands reach the firmware; JOIN_REACHED, PREROLL_FILLED and LATENT_FREEZE stitch, fill and
freeze (R176, R205, R218, R397, R440, R442, R468, R497, R498, R503 to R505, R600, R663). -/
def Obligations.FormsCompleteWithTheirEffect : Prop :=
  (∀ (s : State) (x : Side) (ws : List Word) (pre post : List (Word × Word)) (p : Word × Word) (e : Epoch32),
    s.running = true → s.link.training = none → s.link.loop = none → s.link.wrap = none → s.mayAdd x = true →
    (s.sd x).hdrValid = true → (s.sd x).resourced = false → (s.out (other x)).void = false → s.blockUp 2 = true → e = (s.sd x).epoch →
    s.planFor e = pre ++ p :: post → (pre ++ post).all (fun q => !mxActive q.1) = true → mxActive p.1 = true →
    mxOdd p.1 = decide (e.toNat % 2 = 1) → s.mx.decided = [] → s.mxSkip p.1 (mxStamp e) = none → mxSlot p.1 < ws.length →
    ∃ t, exec (.listenField x ws (crc32 (wordsBits ws))) s = .next t ∧
      (t.out (other x)).listen = ws.set (mxSlot p.1) (mxAdd (nth ws (mxSlot p.1) 0)
        (mxContribution (mxWeight p.2) (hqCode (s.mxSource p.1 (mxStamp e))))).1 ∧
      (t.out (other x)).listenCheck = crc32 (wordsBits (t.out (other x)).listen) ∧
      t.reg Reg.MX_CONTRIB_COUNT = s.reg Reg.MX_CONTRIB_COUNT + 1) ∧
  (∀ (s : State) (x : Side) (ws : List Word) (w : Nat) (ev : Event) (rest : List Event),
    s.running = true → s.link.training = none → s.link.loop = none → s.link.wrap = none → s.mayAdd x = true →
    (s.sd x).hdrValid = true → (s.sd x).resourced = false → (s.out (other x)).void = false →
    s.flag Reg.QUEUE_QUEUE_CFG 1 = false → s.ident.position ≠ 0 → s.queue.events = ev :: rest → ev.sent x = false →
    w < ws.length → (∀ j, j < w → nth ws j 0 ≠ 0) → nth ws w 0 = 0 →
    mayTakeEvent s.clk.daylight x (s.sd x).epoch s.ident.position w = true →
    ∃ t, exec (.eventField x ws (crc16 (wordsBits ws))) s = .next t ∧
      nth (t.out (other x)).event w 0 = eventWord s.unitAddr ev ∧
      (∀ j, nth ws j 0 ≠ 0 → nth (t.out (other x)).event j 0 = nth ws j 0) ∧
      (t.out (other x)).eventCheck = crc16 (wordsBits (t.out (other x)).event)) ∧
  (∀ (s : State) (src : Src) (v : Word) (i : Nat), s.writeReady src Reg.DEV_SEED_CTL v → s.dev.streams.length = 9 →
    bitOf (maskedWrite (s.reg Reg.DEV_SEED_CTL) v) 9 = true → i < 9 → bitOf (maskedWrite (s.reg Reg.DEV_SEED_CTL) v) i = true →
    ∃ t, exec (.seedLoad src v) s = .next t ∧ t.port.status = 0 ∧ (t.stream i).seed = some ((List.range 8).map s.seedBand)) ∧
  (∀ (s : State) (src : Src) (v : Word) (p : List Word), s.writeReady src Reg.DEV_PROF_COMMIT v →
    bitOf (maskedWrite (s.reg Reg.DEV_PROF_COMMIT) v) 3 = true →
    p = (List.range 12).map (fun i => s.reg (Reg.DEV_PROF_STAGE_0 + 4 * i)) → profileBad p = none →
    ∃ t, exec (.profileCommit src v) s = .next t ∧ t.port.status = 0 ∧ t.flag Reg.DEV_PROF_COMMIT 3 = false ∧
      t.dev = { s.dev with pendProf := s.dev.pendProf.set (bits (maskedWrite (s.reg Reg.DEV_PROF_COMMIT) v) 2 0) (some p) }) ∧
  (∀ (s : State) (src : Src) (v : Word) (n : Nat), s.writeReady src Reg.SHEET_TPL_CTL v →
    bitOf (maskedWrite (s.reg Reg.SHEET_TPL_CTL) v) 9 = true → n = bits (maskedWrite (s.reg Reg.SHEET_TPL_CTL) v) 7 0 →
    (bitOf (maskedWrite (s.reg Reg.SHEET_TPL_CTL) v) 8 = true → n ∉ s.sheet.enabled → s.eccAt (tplAddr n 0) ≠ some true →
        s.tplBad n = none →
      ∃ t, exec (.templateEnable src v) s = .next t ∧ t.port.status = 0 ∧ assocGet t.sheet.reqs n = some true) ∧
    (bitOf (maskedWrite (s.reg Reg.SHEET_TPL_CTL) v) 8 = false →
      ∃ t, exec (.templateDisable src v) s = .next t ∧ t.port.status = 0 ∧ assocGet t.sheet.reqs n = some false)) ∧
  (∀ (s : State) (src : Src) (v : Word), s.writeReady src Reg.LATENT_LAT_CTL v →
    (bitOf (maskedWrite (s.reg Reg.LATENT_LAT_CTL) v) 2 = true →
      ∃ t, exec (.releaseW src v) s = .next t ∧ t.port.status = 0 ∧ t.latent.w = { s.latent.w with frozen := false, pend := none }) ∧
    (bitOf (maskedWrite (s.reg Reg.LATENT_LAT_CTL) v) 3 = true →
      ∃ t, exec (.releaseD src v) s = .next t ∧ t.port.status = 0 ∧ t.latent.d.frozen = false ∧ t.latent.d.pend = none) ∧
    (bitOf (maskedWrite (s.reg Reg.LATENT_LAT_CTL) v) 1 = true → s.flag Reg.LATENT_LAT_CTL 1 = false →
      ∃ t, exec (.runDStart src v) s = .next t ∧ t.port.status = 0 ∧ t.flag Reg.LATENT_LAT_CTL 1 = true ∧
        t.latent.d.total = 0 ∧ t.latent.d.head = 0 ∧ t.latent.d.frozen = false)) ∧
  (∀ (s : State) (src : Src) (v : Word), s.writeReady src Reg.STAGE_STEER_CTL v →
    bitOf (maskedWrite (s.reg Reg.STAGE_STEER_CTL) v) 0 = true → (∀ c ∈ s.carriers, 100 ≤ c ∧ c ≤ 1800) →
    150 ≤ s.fld Reg.STAGE_STEER_WIN 19 10 → s.fld Reg.STAGE_STEER_WIN 19 10 ≤ s.fld Reg.STAGE_STEER_WIN 9 0 →
    s.fld Reg.STAGE_STEER_WIN 9 0 ≤ s.fld Reg.STAGE_STEER_WIN 29 20 → s.fld Reg.STAGE_STEER_WIN 29 20 ≤ 1000 →
    ∃ t, exec (.steerSearch src v) s = .next t ∧ t.port.status = 0 ∧
      t.stage.search = some (s.snapshot (bits (maskedWrite (s.reg Reg.STAGE_STEER_CTL) v) 3 2))) ∧
  (∀ (c : Instr) (s : State) (src : Src) (v : Word), mailboxRow c = some (src, v) → s.between → s.reaches src = true → s.noPair →
    s.pageOff Reg.LOUPE_MBX_CMD = false → bits v 31 16 ≠ 0 → bitOf (maskedWrite (s.reg Reg.LOUPE_MBX_CMD) v) 8 = true →
    mailboxFits c (bits (maskedWrite (s.reg Reg.LOUPE_MBX_CMD) v) 7 0) = true → s.loupe.mbx = none → s.loupe.halted = false →
    ∃ t, exec c s = .next t ∧ t.port.status = 0 ∧
      t.loupe.mbx = some (bits (maskedWrite (s.reg Reg.LOUPE_MBX_CMD) v) 7 0, s.reg Reg.LOUPE_MBX_ARG)) ∧
  (∀ (s : State) (b j f : Epoch) (w : Bool) (due : Epoch) (rseq : Nat), s.acting = true → s.latent.rate = some (b, j, f) →
    (s.latent.preJoin = true → j.toNat ≤ s.clk.epoch.toNat →
      ∃ t, exec .joinReached s = .next t ∧ t.latent.preJoin = false ∧ t.latent.gd = s.groupDelay) ∧
    (s.latent.preFill = true → f.toNat ≤ s.clk.epoch.toNat →
      ∃ t, exec .prerollFilled s = .next t ∧ t.latent.preFill = false ∧ t.flag Reg.LATENT_LAT_STATUS 3 = true) ∧
    ((s.ring w).pend = some (due, rseq) → due.toNat ≤ s.clk.epoch.toNat →
      ∃ t, exec (.latentFreeze w) s = .next t ∧ (t.ring w).frozen = true ∧ (t.ring w).pend = none ∧
        t.flag Reg.LATENT_LAT_STATUS (if w then 1 else 2) = true))
end

