-- ==== Sys2Proof/Laws/State.lean ====
section
/-! SUPPORT. What each named update of the state leaves alone, field by field, and what the end of a cycle leaves alone. -/

namespace Sys2Proof.Machine

/-! ### setReg -/

@[simp] theorem State.setReg_strapRegs (s : State) (a : Nat) (v : Word) : (s.setReg a v).strapRegs = s.strapRegs := rfl
@[simp] theorem State.setReg_sset (s : State) (a : Nat) (v : Word) : (s.setReg a v).sset = s.sset := rfl
@[simp] theorem State.setReg_bumped (s : State) (a : Nat) (v : Word) : (s.setReg a v).bumped = s.bumped := rfl
@[simp] theorem State.setReg_caused (s : State) (a : Nat) (v : Word) : (s.setReg a v).caused = s.caused := rfl
@[simp] theorem State.setReg_clk (s : State) (a : Nat) (v : Word) : (s.setReg a v).clk = s.clk := rfl
@[simp] theorem State.setReg_ident (s : State) (a : Nat) (v : Word) : (s.setReg a v).ident = s.ident := rfl
@[simp] theorem State.setReg_sideA (s : State) (a : Nat) (v : Word) : (s.setReg a v).sideA = s.sideA := rfl
@[simp] theorem State.setReg_sideB (s : State) (a : Nat) (v : Word) : (s.setReg a v).sideB = s.sideB := rfl
@[simp] theorem State.setReg_link (s : State) (a : Nat) (v : Word) : (s.setReg a v).link = s.link := rfl
@[simp] theorem State.setReg_outA (s : State) (a : Nat) (v : Word) : (s.setReg a v).outA = s.outA := rfl
@[simp] theorem State.setReg_outB (s : State) (a : Nat) (v : Word) : (s.setReg a v).outB = s.outB := rfl
@[simp] theorem State.setReg_frame (s : State) (a : Nat) (v : Word) : (s.setReg a v).frame = s.frame := rfl
@[simp] theorem State.setReg_queue (s : State) (a : Nat) (v : Word) : (s.setReg a v).queue = s.queue := rfl
@[simp] theorem State.setReg_port (s : State) (a : Nat) (v : Word) : (s.setReg a v).port = s.port := rfl
@[simp] theorem State.setReg_fixer (s : State) (a : Nat) (v : Word) : (s.setReg a v).fixer = s.fixer := rfl
@[simp] theorem State.setReg_front (s : State) (a : Nat) (v : Word) : (s.setReg a v).front = s.front := rfl
@[simp] theorem State.setReg_decim (s : State) (a : Nat) (v : Word) : (s.setReg a v).decim = s.decim := rfl
@[simp] theorem State.setReg_aper (s : State) (a : Nat) (v : Word) : (s.setReg a v).aper = s.aper := rfl
@[simp] theorem State.setReg_mx (s : State) (a : Nat) (v : Word) : (s.setReg a v).mx = s.mx := rfl
@[simp] theorem State.setReg_dev (s : State) (a : Nat) (v : Word) : (s.setReg a v).dev = s.dev := rfl
@[simp] theorem State.setReg_sheet (s : State) (a : Nat) (v : Word) : (s.setReg a v).sheet = s.sheet := rfl
@[simp] theorem State.setReg_latent (s : State) (a : Nat) (v : Word) : (s.setReg a v).latent = s.latent := rfl
@[simp] theorem State.setReg_print (s : State) (a : Nat) (v : Word) : (s.setReg a v).print = s.print := rfl
@[simp] theorem State.setReg_stage (s : State) (a : Nat) (v : Word) : (s.setReg a v).stage = s.stage := rfl
@[simp] theorem State.setReg_bank (s : State) (a : Nat) (v : Word) : (s.setReg a v).bank = s.bank := rfl
@[simp] theorem State.setReg_mode (s : State) (a : Nat) (v : Word) : (s.setReg a v).mode = s.mode := rfl
@[simp] theorem State.setReg_loupe (s : State) (a : Nat) (v : Word) : (s.setReg a v).loupe = s.loupe := rfl
@[simp] theorem State.setReg_mem (s : State) (a : Nat) (v : Word) : (s.setReg a v).mem = s.mem := rfl
@[simp] theorem State.setReg_free (s : State) (a : Nat) (v : Word) : (s.setReg a v).free = s.free := rfl
@[simp] theorem State.setReg_pending (s : State) (a : Nat) (v : Word) : (s.setReg a v).pending = s.pending := rfl

/-! ### setPair -/

@[simp] theorem State.setPair_strapRegs (s : State) (a : Nat) (v : Word) : (s.setPair a v).strapRegs = s.strapRegs := rfl
@[simp] theorem State.setPair_sset (s : State) (a : Nat) (v : Word) : (s.setPair a v).sset = s.sset := rfl
@[simp] theorem State.setPair_bumped (s : State) (a : Nat) (v : Word) : (s.setPair a v).bumped = s.bumped := rfl
@[simp] theorem State.setPair_caused (s : State) (a : Nat) (v : Word) : (s.setPair a v).caused = s.caused := rfl
@[simp] theorem State.setPair_clk (s : State) (a : Nat) (v : Word) : (s.setPair a v).clk = s.clk := rfl
@[simp] theorem State.setPair_ident (s : State) (a : Nat) (v : Word) : (s.setPair a v).ident = s.ident := rfl
@[simp] theorem State.setPair_sideA (s : State) (a : Nat) (v : Word) : (s.setPair a v).sideA = s.sideA := rfl
@[simp] theorem State.setPair_sideB (s : State) (a : Nat) (v : Word) : (s.setPair a v).sideB = s.sideB := rfl
@[simp] theorem State.setPair_link (s : State) (a : Nat) (v : Word) : (s.setPair a v).link = s.link := rfl
@[simp] theorem State.setPair_outA (s : State) (a : Nat) (v : Word) : (s.setPair a v).outA = s.outA := rfl
@[simp] theorem State.setPair_outB (s : State) (a : Nat) (v : Word) : (s.setPair a v).outB = s.outB := rfl
@[simp] theorem State.setPair_frame (s : State) (a : Nat) (v : Word) : (s.setPair a v).frame = s.frame := rfl
@[simp] theorem State.setPair_queue (s : State) (a : Nat) (v : Word) : (s.setPair a v).queue = s.queue := rfl
@[simp] theorem State.setPair_port (s : State) (a : Nat) (v : Word) : (s.setPair a v).port = s.port := rfl
@[simp] theorem State.setPair_fixer (s : State) (a : Nat) (v : Word) : (s.setPair a v).fixer = s.fixer := rfl
@[simp] theorem State.setPair_front (s : State) (a : Nat) (v : Word) : (s.setPair a v).front = s.front := rfl
@[simp] theorem State.setPair_decim (s : State) (a : Nat) (v : Word) : (s.setPair a v).decim = s.decim := rfl
@[simp] theorem State.setPair_aper (s : State) (a : Nat) (v : Word) : (s.setPair a v).aper = s.aper := rfl
@[simp] theorem State.setPair_mx (s : State) (a : Nat) (v : Word) : (s.setPair a v).mx = s.mx := rfl
@[simp] theorem State.setPair_dev (s : State) (a : Nat) (v : Word) : (s.setPair a v).dev = s.dev := rfl
@[simp] theorem State.setPair_sheet (s : State) (a : Nat) (v : Word) : (s.setPair a v).sheet = s.sheet := rfl
@[simp] theorem State.setPair_latent (s : State) (a : Nat) (v : Word) : (s.setPair a v).latent = s.latent := rfl
@[simp] theorem State.setPair_print (s : State) (a : Nat) (v : Word) : (s.setPair a v).print = s.print := rfl
@[simp] theorem State.setPair_stage (s : State) (a : Nat) (v : Word) : (s.setPair a v).stage = s.stage := rfl
@[simp] theorem State.setPair_bank (s : State) (a : Nat) (v : Word) : (s.setPair a v).bank = s.bank := rfl
@[simp] theorem State.setPair_mode (s : State) (a : Nat) (v : Word) : (s.setPair a v).mode = s.mode := rfl
@[simp] theorem State.setPair_loupe (s : State) (a : Nat) (v : Word) : (s.setPair a v).loupe = s.loupe := rfl
@[simp] theorem State.setPair_mem (s : State) (a : Nat) (v : Word) : (s.setPair a v).mem = s.mem := rfl
@[simp] theorem State.setPair_free (s : State) (a : Nat) (v : Word) : (s.setPair a v).free = s.free := rfl
@[simp] theorem State.setPair_pending (s : State) (a : Nat) (v : Word) : (s.setPair a v).pending = s.pending := rfl

/-! ### setFld -/

@[simp] theorem State.setFld_strapRegs (s : State) (a lo width v : Nat) : (s.setFld a lo width v).strapRegs = s.strapRegs := rfl
@[simp] theorem State.setFld_sset (s : State) (a lo width v : Nat) : (s.setFld a lo width v).sset = s.sset := rfl
@[simp] theorem State.setFld_bumped (s : State) (a lo width v : Nat) : (s.setFld a lo width v).bumped = s.bumped := rfl
@[simp] theorem State.setFld_caused (s : State) (a lo width v : Nat) : (s.setFld a lo width v).caused = s.caused := rfl
@[simp] theorem State.setFld_clk (s : State) (a lo width v : Nat) : (s.setFld a lo width v).clk = s.clk := rfl
@[simp] theorem State.setFld_ident (s : State) (a lo width v : Nat) : (s.setFld a lo width v).ident = s.ident := rfl
@[simp] theorem State.setFld_sideA (s : State) (a lo width v : Nat) : (s.setFld a lo width v).sideA = s.sideA := rfl
@[simp] theorem State.setFld_sideB (s : State) (a lo width v : Nat) : (s.setFld a lo width v).sideB = s.sideB := rfl
@[simp] theorem State.setFld_link (s : State) (a lo width v : Nat) : (s.setFld a lo width v).link = s.link := rfl
@[simp] theorem State.setFld_outA (s : State) (a lo width v : Nat) : (s.setFld a lo width v).outA = s.outA := rfl
@[simp] theorem State.setFld_outB (s : State) (a lo width v : Nat) : (s.setFld a lo width v).outB = s.outB := rfl
@[simp] theorem State.setFld_frame (s : State) (a lo width v : Nat) : (s.setFld a lo width v).frame = s.frame := rfl
@[simp] theorem State.setFld_queue (s : State) (a lo width v : Nat) : (s.setFld a lo width v).queue = s.queue := rfl
@[simp] theorem State.setFld_port (s : State) (a lo width v : Nat) : (s.setFld a lo width v).port = s.port := rfl
@[simp] theorem State.setFld_fixer (s : State) (a lo width v : Nat) : (s.setFld a lo width v).fixer = s.fixer := rfl
@[simp] theorem State.setFld_front (s : State) (a lo width v : Nat) : (s.setFld a lo width v).front = s.front := rfl
@[simp] theorem State.setFld_decim (s : State) (a lo width v : Nat) : (s.setFld a lo width v).decim = s.decim := rfl
@[simp] theorem State.setFld_aper (s : State) (a lo width v : Nat) : (s.setFld a lo width v).aper = s.aper := rfl
@[simp] theorem State.setFld_mx (s : State) (a lo width v : Nat) : (s.setFld a lo width v).mx = s.mx := rfl
@[simp] theorem State.setFld_dev (s : State) (a lo width v : Nat) : (s.setFld a lo width v).dev = s.dev := rfl
@[simp] theorem State.setFld_sheet (s : State) (a lo width v : Nat) : (s.setFld a lo width v).sheet = s.sheet := rfl
@[simp] theorem State.setFld_latent (s : State) (a lo width v : Nat) : (s.setFld a lo width v).latent = s.latent := rfl
@[simp] theorem State.setFld_print (s : State) (a lo width v : Nat) : (s.setFld a lo width v).print = s.print := rfl
@[simp] theorem State.setFld_stage (s : State) (a lo width v : Nat) : (s.setFld a lo width v).stage = s.stage := rfl
@[simp] theorem State.setFld_bank (s : State) (a lo width v : Nat) : (s.setFld a lo width v).bank = s.bank := rfl
@[simp] theorem State.setFld_mode (s : State) (a lo width v : Nat) : (s.setFld a lo width v).mode = s.mode := rfl
@[simp] theorem State.setFld_loupe (s : State) (a lo width v : Nat) : (s.setFld a lo width v).loupe = s.loupe := rfl
@[simp] theorem State.setFld_mem (s : State) (a lo width v : Nat) : (s.setFld a lo width v).mem = s.mem := rfl
@[simp] theorem State.setFld_free (s : State) (a lo width v : Nat) : (s.setFld a lo width v).free = s.free := rfl
@[simp] theorem State.setFld_pending (s : State) (a lo width v : Nat) : (s.setFld a lo width v).pending = s.pending := rfl

/-! ### countWrap -/

@[simp] theorem State.countWrap_strapRegs (s : State) (a : Nat) : (s.countWrap a).strapRegs = s.strapRegs := rfl
@[simp] theorem State.countWrap_sset (s : State) (a : Nat) : (s.countWrap a).sset = s.sset := rfl
@[simp] theorem State.countWrap_bumped (s : State) (a : Nat) : (s.countWrap a).bumped = s.bumped := rfl
@[simp] theorem State.countWrap_caused (s : State) (a : Nat) : (s.countWrap a).caused = s.caused := rfl
@[simp] theorem State.countWrap_clk (s : State) (a : Nat) : (s.countWrap a).clk = s.clk := rfl
@[simp] theorem State.countWrap_ident (s : State) (a : Nat) : (s.countWrap a).ident = s.ident := rfl
@[simp] theorem State.countWrap_sideA (s : State) (a : Nat) : (s.countWrap a).sideA = s.sideA := rfl
@[simp] theorem State.countWrap_sideB (s : State) (a : Nat) : (s.countWrap a).sideB = s.sideB := rfl
@[simp] theorem State.countWrap_link (s : State) (a : Nat) : (s.countWrap a).link = s.link := rfl
@[simp] theorem State.countWrap_outA (s : State) (a : Nat) : (s.countWrap a).outA = s.outA := rfl
@[simp] theorem State.countWrap_outB (s : State) (a : Nat) : (s.countWrap a).outB = s.outB := rfl
@[simp] theorem State.countWrap_frame (s : State) (a : Nat) : (s.countWrap a).frame = s.frame := rfl
@[simp] theorem State.countWrap_queue (s : State) (a : Nat) : (s.countWrap a).queue = s.queue := rfl
@[simp] theorem State.countWrap_port (s : State) (a : Nat) : (s.countWrap a).port = s.port := rfl
@[simp] theorem State.countWrap_fixer (s : State) (a : Nat) : (s.countWrap a).fixer = s.fixer := rfl
@[simp] theorem State.countWrap_front (s : State) (a : Nat) : (s.countWrap a).front = s.front := rfl
@[simp] theorem State.countWrap_decim (s : State) (a : Nat) : (s.countWrap a).decim = s.decim := rfl
@[simp] theorem State.countWrap_aper (s : State) (a : Nat) : (s.countWrap a).aper = s.aper := rfl
@[simp] theorem State.countWrap_mx (s : State) (a : Nat) : (s.countWrap a).mx = s.mx := rfl
@[simp] theorem State.countWrap_dev (s : State) (a : Nat) : (s.countWrap a).dev = s.dev := rfl
@[simp] theorem State.countWrap_sheet (s : State) (a : Nat) : (s.countWrap a).sheet = s.sheet := rfl
@[simp] theorem State.countWrap_latent (s : State) (a : Nat) : (s.countWrap a).latent = s.latent := rfl
@[simp] theorem State.countWrap_print (s : State) (a : Nat) : (s.countWrap a).print = s.print := rfl
@[simp] theorem State.countWrap_stage (s : State) (a : Nat) : (s.countWrap a).stage = s.stage := rfl
@[simp] theorem State.countWrap_bank (s : State) (a : Nat) : (s.countWrap a).bank = s.bank := rfl
@[simp] theorem State.countWrap_mode (s : State) (a : Nat) : (s.countWrap a).mode = s.mode := rfl
@[simp] theorem State.countWrap_loupe (s : State) (a : Nat) : (s.countWrap a).loupe = s.loupe := rfl
@[simp] theorem State.countWrap_mem (s : State) (a : Nat) : (s.countWrap a).mem = s.mem := rfl
@[simp] theorem State.countWrap_free (s : State) (a : Nat) : (s.countWrap a).free = s.free := rfl
@[simp] theorem State.countWrap_pending (s : State) (a : Nat) : (s.countWrap a).pending = s.pending := rfl

/-! ### countSat -/

@[simp] theorem State.countSat_strapRegs (s : State) (a : Nat) : (s.countSat a).strapRegs = s.strapRegs := rfl
@[simp] theorem State.countSat_sset (s : State) (a : Nat) : (s.countSat a).sset = s.sset := rfl
@[simp] theorem State.countSat_bumped (s : State) (a : Nat) : (s.countSat a).bumped = s.bumped := rfl
@[simp] theorem State.countSat_caused (s : State) (a : Nat) : (s.countSat a).caused = s.caused := rfl
@[simp] theorem State.countSat_clk (s : State) (a : Nat) : (s.countSat a).clk = s.clk := rfl
@[simp] theorem State.countSat_ident (s : State) (a : Nat) : (s.countSat a).ident = s.ident := rfl
@[simp] theorem State.countSat_sideA (s : State) (a : Nat) : (s.countSat a).sideA = s.sideA := rfl
@[simp] theorem State.countSat_sideB (s : State) (a : Nat) : (s.countSat a).sideB = s.sideB := rfl
@[simp] theorem State.countSat_link (s : State) (a : Nat) : (s.countSat a).link = s.link := rfl
@[simp] theorem State.countSat_outA (s : State) (a : Nat) : (s.countSat a).outA = s.outA := rfl
@[simp] theorem State.countSat_outB (s : State) (a : Nat) : (s.countSat a).outB = s.outB := rfl
@[simp] theorem State.countSat_frame (s : State) (a : Nat) : (s.countSat a).frame = s.frame := rfl
@[simp] theorem State.countSat_queue (s : State) (a : Nat) : (s.countSat a).queue = s.queue := rfl
@[simp] theorem State.countSat_port (s : State) (a : Nat) : (s.countSat a).port = s.port := rfl
@[simp] theorem State.countSat_fixer (s : State) (a : Nat) : (s.countSat a).fixer = s.fixer := rfl
@[simp] theorem State.countSat_front (s : State) (a : Nat) : (s.countSat a).front = s.front := rfl
@[simp] theorem State.countSat_decim (s : State) (a : Nat) : (s.countSat a).decim = s.decim := rfl
@[simp] theorem State.countSat_aper (s : State) (a : Nat) : (s.countSat a).aper = s.aper := rfl
@[simp] theorem State.countSat_mx (s : State) (a : Nat) : (s.countSat a).mx = s.mx := rfl
@[simp] theorem State.countSat_dev (s : State) (a : Nat) : (s.countSat a).dev = s.dev := rfl
@[simp] theorem State.countSat_sheet (s : State) (a : Nat) : (s.countSat a).sheet = s.sheet := rfl
@[simp] theorem State.countSat_latent (s : State) (a : Nat) : (s.countSat a).latent = s.latent := rfl
@[simp] theorem State.countSat_print (s : State) (a : Nat) : (s.countSat a).print = s.print := rfl
@[simp] theorem State.countSat_stage (s : State) (a : Nat) : (s.countSat a).stage = s.stage := rfl
@[simp] theorem State.countSat_bank (s : State) (a : Nat) : (s.countSat a).bank = s.bank := rfl
@[simp] theorem State.countSat_mode (s : State) (a : Nat) : (s.countSat a).mode = s.mode := rfl
@[simp] theorem State.countSat_loupe (s : State) (a : Nat) : (s.countSat a).loupe = s.loupe := rfl
@[simp] theorem State.countSat_mem (s : State) (a : Nat) : (s.countSat a).mem = s.mem := rfl
@[simp] theorem State.countSat_free (s : State) (a : Nat) : (s.countSat a).free = s.free := rfl
@[simp] theorem State.countSat_pending (s : State) (a : Nat) : (s.countSat a).pending = s.pending := rfl

/-! ### countSatN -/

@[simp] theorem State.countSatN_strapRegs (s : State) (a n : Nat) : (s.countSatN a n).strapRegs = s.strapRegs := rfl
@[simp] theorem State.countSatN_sset (s : State) (a n : Nat) : (s.countSatN a n).sset = s.sset := rfl
@[simp] theorem State.countSatN_bumped (s : State) (a n : Nat) : (s.countSatN a n).bumped = s.bumped := rfl
@[simp] theorem State.countSatN_caused (s : State) (a n : Nat) : (s.countSatN a n).caused = s.caused := rfl
@[simp] theorem State.countSatN_clk (s : State) (a n : Nat) : (s.countSatN a n).clk = s.clk := rfl
@[simp] theorem State.countSatN_ident (s : State) (a n : Nat) : (s.countSatN a n).ident = s.ident := rfl
@[simp] theorem State.countSatN_sideA (s : State) (a n : Nat) : (s.countSatN a n).sideA = s.sideA := rfl
@[simp] theorem State.countSatN_sideB (s : State) (a n : Nat) : (s.countSatN a n).sideB = s.sideB := rfl
@[simp] theorem State.countSatN_link (s : State) (a n : Nat) : (s.countSatN a n).link = s.link := rfl
@[simp] theorem State.countSatN_outA (s : State) (a n : Nat) : (s.countSatN a n).outA = s.outA := rfl
@[simp] theorem State.countSatN_outB (s : State) (a n : Nat) : (s.countSatN a n).outB = s.outB := rfl
@[simp] theorem State.countSatN_frame (s : State) (a n : Nat) : (s.countSatN a n).frame = s.frame := rfl
@[simp] theorem State.countSatN_queue (s : State) (a n : Nat) : (s.countSatN a n).queue = s.queue := rfl
@[simp] theorem State.countSatN_port (s : State) (a n : Nat) : (s.countSatN a n).port = s.port := rfl
@[simp] theorem State.countSatN_fixer (s : State) (a n : Nat) : (s.countSatN a n).fixer = s.fixer := rfl
@[simp] theorem State.countSatN_front (s : State) (a n : Nat) : (s.countSatN a n).front = s.front := rfl
@[simp] theorem State.countSatN_decim (s : State) (a n : Nat) : (s.countSatN a n).decim = s.decim := rfl
@[simp] theorem State.countSatN_aper (s : State) (a n : Nat) : (s.countSatN a n).aper = s.aper := rfl
@[simp] theorem State.countSatN_mx (s : State) (a n : Nat) : (s.countSatN a n).mx = s.mx := rfl
@[simp] theorem State.countSatN_dev (s : State) (a n : Nat) : (s.countSatN a n).dev = s.dev := rfl
@[simp] theorem State.countSatN_sheet (s : State) (a n : Nat) : (s.countSatN a n).sheet = s.sheet := rfl
@[simp] theorem State.countSatN_latent (s : State) (a n : Nat) : (s.countSatN a n).latent = s.latent := rfl
@[simp] theorem State.countSatN_print (s : State) (a n : Nat) : (s.countSatN a n).print = s.print := rfl
@[simp] theorem State.countSatN_stage (s : State) (a n : Nat) : (s.countSatN a n).stage = s.stage := rfl
@[simp] theorem State.countSatN_bank (s : State) (a n : Nat) : (s.countSatN a n).bank = s.bank := rfl
@[simp] theorem State.countSatN_mode (s : State) (a n : Nat) : (s.countSatN a n).mode = s.mode := rfl
@[simp] theorem State.countSatN_loupe (s : State) (a n : Nat) : (s.countSatN a n).loupe = s.loupe := rfl
@[simp] theorem State.countSatN_mem (s : State) (a n : Nat) : (s.countSatN a n).mem = s.mem := rfl
@[simp] theorem State.countSatN_free (s : State) (a n : Nat) : (s.countSatN a n).free = s.free := rfl
@[simp] theorem State.countSatN_pending (s : State) (a n : Nat) : (s.countSatN a n).pending = s.pending := rfl

/-! ### bumpSeq -/

@[simp] theorem State.bumpSeq_strapRegs (s : State) (a : Nat) (flags : Half) : (s.bumpSeq a flags).strapRegs = s.strapRegs := rfl
@[simp] theorem State.bumpSeq_sset (s : State) (a : Nat) (flags : Half) : (s.bumpSeq a flags).sset = s.sset := rfl
@[simp] theorem State.bumpSeq_caused (s : State) (a : Nat) (flags : Half) : (s.bumpSeq a flags).caused = s.caused := rfl
@[simp] theorem State.bumpSeq_clk (s : State) (a : Nat) (flags : Half) : (s.bumpSeq a flags).clk = s.clk := rfl
@[simp] theorem State.bumpSeq_ident (s : State) (a : Nat) (flags : Half) : (s.bumpSeq a flags).ident = s.ident := rfl
@[simp] theorem State.bumpSeq_sideA (s : State) (a : Nat) (flags : Half) : (s.bumpSeq a flags).sideA = s.sideA := rfl
@[simp] theorem State.bumpSeq_sideB (s : State) (a : Nat) (flags : Half) : (s.bumpSeq a flags).sideB = s.sideB := rfl
@[simp] theorem State.bumpSeq_link (s : State) (a : Nat) (flags : Half) : (s.bumpSeq a flags).link = s.link := rfl
@[simp] theorem State.bumpSeq_outA (s : State) (a : Nat) (flags : Half) : (s.bumpSeq a flags).outA = s.outA := rfl
@[simp] theorem State.bumpSeq_outB (s : State) (a : Nat) (flags : Half) : (s.bumpSeq a flags).outB = s.outB := rfl
@[simp] theorem State.bumpSeq_frame (s : State) (a : Nat) (flags : Half) : (s.bumpSeq a flags).frame = s.frame := rfl
@[simp] theorem State.bumpSeq_queue (s : State) (a : Nat) (flags : Half) : (s.bumpSeq a flags).queue = s.queue := rfl
@[simp] theorem State.bumpSeq_port (s : State) (a : Nat) (flags : Half) : (s.bumpSeq a flags).port = s.port := rfl
@[simp] theorem State.bumpSeq_fixer (s : State) (a : Nat) (flags : Half) : (s.bumpSeq a flags).fixer = s.fixer := rfl
@[simp] theorem State.bumpSeq_front (s : State) (a : Nat) (flags : Half) : (s.bumpSeq a flags).front = s.front := rfl
@[simp] theorem State.bumpSeq_decim (s : State) (a : Nat) (flags : Half) : (s.bumpSeq a flags).decim = s.decim := rfl
@[simp] theorem State.bumpSeq_aper (s : State) (a : Nat) (flags : Half) : (s.bumpSeq a flags).aper = s.aper := rfl
@[simp] theorem State.bumpSeq_mx (s : State) (a : Nat) (flags : Half) : (s.bumpSeq a flags).mx = s.mx := rfl
@[simp] theorem State.bumpSeq_dev (s : State) (a : Nat) (flags : Half) : (s.bumpSeq a flags).dev = s.dev := rfl
@[simp] theorem State.bumpSeq_sheet (s : State) (a : Nat) (flags : Half) : (s.bumpSeq a flags).sheet = s.sheet := rfl
@[simp] theorem State.bumpSeq_latent (s : State) (a : Nat) (flags : Half) : (s.bumpSeq a flags).latent = s.latent := rfl
@[simp] theorem State.bumpSeq_print (s : State) (a : Nat) (flags : Half) : (s.bumpSeq a flags).print = s.print := rfl
@[simp] theorem State.bumpSeq_stage (s : State) (a : Nat) (flags : Half) : (s.bumpSeq a flags).stage = s.stage := rfl
@[simp] theorem State.bumpSeq_bank (s : State) (a : Nat) (flags : Half) : (s.bumpSeq a flags).bank = s.bank := rfl
@[simp] theorem State.bumpSeq_mode (s : State) (a : Nat) (flags : Half) : (s.bumpSeq a flags).mode = s.mode := rfl
@[simp] theorem State.bumpSeq_loupe (s : State) (a : Nat) (flags : Half) : (s.bumpSeq a flags).loupe = s.loupe := rfl
@[simp] theorem State.bumpSeq_mem (s : State) (a : Nat) (flags : Half) : (s.bumpSeq a flags).mem = s.mem := rfl
@[simp] theorem State.bumpSeq_free (s : State) (a : Nat) (flags : Half) : (s.bumpSeq a flags).free = s.free := rfl
@[simp] theorem State.bumpSeq_pending (s : State) (a : Nat) (flags : Half) : (s.bumpSeq a flags).pending = s.pending := rfl

/-! ### setFlags -/

@[simp] theorem State.setFlags_strapRegs (s : State) (a : Nat) (m : Half) : (s.setFlags a m).strapRegs = s.strapRegs := by unfold State.setFlags; dsimp only; split <;> rfl
@[simp] theorem State.setFlags_clk (s : State) (a : Nat) (m : Half) : (s.setFlags a m).clk = s.clk := by unfold State.setFlags; dsimp only; split <;> rfl
@[simp] theorem State.setFlags_ident (s : State) (a : Nat) (m : Half) : (s.setFlags a m).ident = s.ident := by unfold State.setFlags; dsimp only; split <;> rfl
@[simp] theorem State.setFlags_sideA (s : State) (a : Nat) (m : Half) : (s.setFlags a m).sideA = s.sideA := by unfold State.setFlags; dsimp only; split <;> rfl
@[simp] theorem State.setFlags_sideB (s : State) (a : Nat) (m : Half) : (s.setFlags a m).sideB = s.sideB := by unfold State.setFlags; dsimp only; split <;> rfl
@[simp] theorem State.setFlags_link (s : State) (a : Nat) (m : Half) : (s.setFlags a m).link = s.link := by unfold State.setFlags; dsimp only; split <;> rfl
@[simp] theorem State.setFlags_outA (s : State) (a : Nat) (m : Half) : (s.setFlags a m).outA = s.outA := by unfold State.setFlags; dsimp only; split <;> rfl
@[simp] theorem State.setFlags_outB (s : State) (a : Nat) (m : Half) : (s.setFlags a m).outB = s.outB := by unfold State.setFlags; dsimp only; split <;> rfl
@[simp] theorem State.setFlags_frame (s : State) (a : Nat) (m : Half) : (s.setFlags a m).frame = s.frame := by unfold State.setFlags; dsimp only; split <;> rfl
@[simp] theorem State.setFlags_queue (s : State) (a : Nat) (m : Half) : (s.setFlags a m).queue = s.queue := by unfold State.setFlags; dsimp only; split <;> rfl
@[simp] theorem State.setFlags_port (s : State) (a : Nat) (m : Half) : (s.setFlags a m).port = s.port := by unfold State.setFlags; dsimp only; split <;> rfl
@[simp] theorem State.setFlags_fixer (s : State) (a : Nat) (m : Half) : (s.setFlags a m).fixer = s.fixer := by unfold State.setFlags; dsimp only; split <;> rfl
@[simp] theorem State.setFlags_front (s : State) (a : Nat) (m : Half) : (s.setFlags a m).front = s.front := by unfold State.setFlags; dsimp only; split <;> rfl
@[simp] theorem State.setFlags_decim (s : State) (a : Nat) (m : Half) : (s.setFlags a m).decim = s.decim := by unfold State.setFlags; dsimp only; split <;> rfl
@[simp] theorem State.setFlags_aper (s : State) (a : Nat) (m : Half) : (s.setFlags a m).aper = s.aper := by unfold State.setFlags; dsimp only; split <;> rfl
@[simp] theorem State.setFlags_mx (s : State) (a : Nat) (m : Half) : (s.setFlags a m).mx = s.mx := by unfold State.setFlags; dsimp only; split <;> rfl
@[simp] theorem State.setFlags_dev (s : State) (a : Nat) (m : Half) : (s.setFlags a m).dev = s.dev := by unfold State.setFlags; dsimp only; split <;> rfl
@[simp] theorem State.setFlags_sheet (s : State) (a : Nat) (m : Half) : (s.setFlags a m).sheet = s.sheet := by unfold State.setFlags; dsimp only; split <;> rfl
@[simp] theorem State.setFlags_latent (s : State) (a : Nat) (m : Half) : (s.setFlags a m).latent = s.latent := by unfold State.setFlags; dsimp only; split <;> rfl
@[simp] theorem State.setFlags_print (s : State) (a : Nat) (m : Half) : (s.setFlags a m).print = s.print := by unfold State.setFlags; dsimp only; split <;> rfl
@[simp] theorem State.setFlags_stage (s : State) (a : Nat) (m : Half) : (s.setFlags a m).stage = s.stage := by unfold State.setFlags; dsimp only; split <;> rfl
@[simp] theorem State.setFlags_bank (s : State) (a : Nat) (m : Half) : (s.setFlags a m).bank = s.bank := by unfold State.setFlags; dsimp only; split <;> rfl
@[simp] theorem State.setFlags_mode (s : State) (a : Nat) (m : Half) : (s.setFlags a m).mode = s.mode := by unfold State.setFlags; dsimp only; split <;> rfl
@[simp] theorem State.setFlags_loupe (s : State) (a : Nat) (m : Half) : (s.setFlags a m).loupe = s.loupe := by unfold State.setFlags; dsimp only; split <;> rfl
@[simp] theorem State.setFlags_mem (s : State) (a : Nat) (m : Half) : (s.setFlags a m).mem = s.mem := by unfold State.setFlags; dsimp only; split <;> rfl
@[simp] theorem State.setFlags_free (s : State) (a : Nat) (m : Half) : (s.setFlags a m).free = s.free := by unfold State.setFlags; dsimp only; split <;> rfl
@[simp] theorem State.setFlags_pending (s : State) (a : Nat) (m : Half) : (s.setFlags a m).pending = s.pending := by unfold State.setFlags; dsimp only; split <;> rfl

/-! ### setFlag -/

@[simp] theorem State.setFlag_strapRegs (s : State) (a i : Nat) : (s.setFlag a i).strapRegs = s.strapRegs := State.setFlags_strapRegs s a _
@[simp] theorem State.setFlag_clk (s : State) (a i : Nat) : (s.setFlag a i).clk = s.clk := State.setFlags_clk s a _
@[simp] theorem State.setFlag_ident (s : State) (a i : Nat) : (s.setFlag a i).ident = s.ident := State.setFlags_ident s a _
@[simp] theorem State.setFlag_sideA (s : State) (a i : Nat) : (s.setFlag a i).sideA = s.sideA := State.setFlags_sideA s a _
@[simp] theorem State.setFlag_sideB (s : State) (a i : Nat) : (s.setFlag a i).sideB = s.sideB := State.setFlags_sideB s a _
@[simp] theorem State.setFlag_link (s : State) (a i : Nat) : (s.setFlag a i).link = s.link := State.setFlags_link s a _
@[simp] theorem State.setFlag_outA (s : State) (a i : Nat) : (s.setFlag a i).outA = s.outA := State.setFlags_outA s a _
@[simp] theorem State.setFlag_outB (s : State) (a i : Nat) : (s.setFlag a i).outB = s.outB := State.setFlags_outB s a _
@[simp] theorem State.setFlag_frame (s : State) (a i : Nat) : (s.setFlag a i).frame = s.frame := State.setFlags_frame s a _
@[simp] theorem State.setFlag_queue (s : State) (a i : Nat) : (s.setFlag a i).queue = s.queue := State.setFlags_queue s a _
@[simp] theorem State.setFlag_port (s : State) (a i : Nat) : (s.setFlag a i).port = s.port := State.setFlags_port s a _
@[simp] theorem State.setFlag_fixer (s : State) (a i : Nat) : (s.setFlag a i).fixer = s.fixer := State.setFlags_fixer s a _
@[simp] theorem State.setFlag_front (s : State) (a i : Nat) : (s.setFlag a i).front = s.front := State.setFlags_front s a _
@[simp] theorem State.setFlag_decim (s : State) (a i : Nat) : (s.setFlag a i).decim = s.decim := State.setFlags_decim s a _
@[simp] theorem State.setFlag_aper (s : State) (a i : Nat) : (s.setFlag a i).aper = s.aper := State.setFlags_aper s a _
@[simp] theorem State.setFlag_mx (s : State) (a i : Nat) : (s.setFlag a i).mx = s.mx := State.setFlags_mx s a _
@[simp] theorem State.setFlag_dev (s : State) (a i : Nat) : (s.setFlag a i).dev = s.dev := State.setFlags_dev s a _
@[simp] theorem State.setFlag_sheet (s : State) (a i : Nat) : (s.setFlag a i).sheet = s.sheet := State.setFlags_sheet s a _
@[simp] theorem State.setFlag_latent (s : State) (a i : Nat) : (s.setFlag a i).latent = s.latent := State.setFlags_latent s a _
@[simp] theorem State.setFlag_print (s : State) (a i : Nat) : (s.setFlag a i).print = s.print := State.setFlags_print s a _
@[simp] theorem State.setFlag_stage (s : State) (a i : Nat) : (s.setFlag a i).stage = s.stage := State.setFlags_stage s a _
@[simp] theorem State.setFlag_bank (s : State) (a i : Nat) : (s.setFlag a i).bank = s.bank := State.setFlags_bank s a _
@[simp] theorem State.setFlag_mode (s : State) (a i : Nat) : (s.setFlag a i).mode = s.mode := State.setFlags_mode s a _
@[simp] theorem State.setFlag_loupe (s : State) (a i : Nat) : (s.setFlag a i).loupe = s.loupe := State.setFlags_loupe s a _
@[simp] theorem State.setFlag_mem (s : State) (a i : Nat) : (s.setFlag a i).mem = s.mem := State.setFlags_mem s a _
@[simp] theorem State.setFlag_free (s : State) (a i : Nat) : (s.setFlag a i).free = s.free := State.setFlags_free s a _
@[simp] theorem State.setFlag_pending (s : State) (a i : Nat) : (s.setFlag a i).pending = s.pending := State.setFlags_pending s a _

/-! ### clearFlags -/

@[simp] theorem State.clearFlags_strapRegs (s : State) (a : Nat) (w : Word) : (s.clearFlags a w).strapRegs = s.strapRegs := by unfold State.clearFlags; dsimp only; (repeat' split) <;> rfl
@[simp] theorem State.clearFlags_caused (s : State) (a : Nat) (w : Word) : (s.clearFlags a w).caused = s.caused := by unfold State.clearFlags; dsimp only; (repeat' split) <;> rfl
@[simp] theorem State.clearFlags_clk (s : State) (a : Nat) (w : Word) : (s.clearFlags a w).clk = s.clk := by unfold State.clearFlags; dsimp only; (repeat' split) <;> rfl
@[simp] theorem State.clearFlags_ident (s : State) (a : Nat) (w : Word) : (s.clearFlags a w).ident = s.ident := by unfold State.clearFlags; dsimp only; (repeat' split) <;> rfl
@[simp] theorem State.clearFlags_sideA (s : State) (a : Nat) (w : Word) : (s.clearFlags a w).sideA = s.sideA := by unfold State.clearFlags; dsimp only; (repeat' split) <;> rfl
@[simp] theorem State.clearFlags_sideB (s : State) (a : Nat) (w : Word) : (s.clearFlags a w).sideB = s.sideB := by unfold State.clearFlags; dsimp only; (repeat' split) <;> rfl
@[simp] theorem State.clearFlags_link (s : State) (a : Nat) (w : Word) : (s.clearFlags a w).link = s.link := by unfold State.clearFlags; dsimp only; (repeat' split) <;> rfl
@[simp] theorem State.clearFlags_outA (s : State) (a : Nat) (w : Word) : (s.clearFlags a w).outA = s.outA := by unfold State.clearFlags; dsimp only; (repeat' split) <;> rfl
@[simp] theorem State.clearFlags_outB (s : State) (a : Nat) (w : Word) : (s.clearFlags a w).outB = s.outB := by unfold State.clearFlags; dsimp only; (repeat' split) <;> rfl
@[simp] theorem State.clearFlags_frame (s : State) (a : Nat) (w : Word) : (s.clearFlags a w).frame = s.frame := by unfold State.clearFlags; dsimp only; (repeat' split) <;> rfl
@[simp] theorem State.clearFlags_queue (s : State) (a : Nat) (w : Word) : (s.clearFlags a w).queue = s.queue := by unfold State.clearFlags; dsimp only; (repeat' split) <;> rfl
@[simp] theorem State.clearFlags_port (s : State) (a : Nat) (w : Word) : (s.clearFlags a w).port = s.port := by unfold State.clearFlags; dsimp only; (repeat' split) <;> rfl
@[simp] theorem State.clearFlags_fixer (s : State) (a : Nat) (w : Word) : (s.clearFlags a w).fixer = s.fixer := by unfold State.clearFlags; dsimp only; (repeat' split) <;> rfl
@[simp] theorem State.clearFlags_front (s : State) (a : Nat) (w : Word) : (s.clearFlags a w).front = s.front := by unfold State.clearFlags; dsimp only; (repeat' split) <;> rfl
@[simp] theorem State.clearFlags_decim (s : State) (a : Nat) (w : Word) : (s.clearFlags a w).decim = s.decim := by unfold State.clearFlags; dsimp only; (repeat' split) <;> rfl
@[simp] theorem State.clearFlags_aper (s : State) (a : Nat) (w : Word) : (s.clearFlags a w).aper = s.aper := by unfold State.clearFlags; dsimp only; (repeat' split) <;> rfl
@[simp] theorem State.clearFlags_mx (s : State) (a : Nat) (w : Word) : (s.clearFlags a w).mx = s.mx := by unfold State.clearFlags; dsimp only; (repeat' split) <;> rfl
@[simp] theorem State.clearFlags_dev (s : State) (a : Nat) (w : Word) : (s.clearFlags a w).dev = s.dev := by unfold State.clearFlags; dsimp only; (repeat' split) <;> rfl
@[simp] theorem State.clearFlags_sheet (s : State) (a : Nat) (w : Word) : (s.clearFlags a w).sheet = s.sheet := by unfold State.clearFlags; dsimp only; (repeat' split) <;> rfl
@[simp] theorem State.clearFlags_latent (s : State) (a : Nat) (w : Word) : (s.clearFlags a w).latent = s.latent := by unfold State.clearFlags; dsimp only; (repeat' split) <;> rfl
@[simp] theorem State.clearFlags_print (s : State) (a : Nat) (w : Word) : (s.clearFlags a w).print = s.print := by unfold State.clearFlags; dsimp only; (repeat' split) <;> rfl
@[simp] theorem State.clearFlags_stage (s : State) (a : Nat) (w : Word) : (s.clearFlags a w).stage = s.stage := by unfold State.clearFlags; dsimp only; (repeat' split) <;> rfl
@[simp] theorem State.clearFlags_bank (s : State) (a : Nat) (w : Word) : (s.clearFlags a w).bank = s.bank := by unfold State.clearFlags; dsimp only; (repeat' split) <;> rfl
@[simp] theorem State.clearFlags_mode (s : State) (a : Nat) (w : Word) : (s.clearFlags a w).mode = s.mode := by unfold State.clearFlags; dsimp only; (repeat' split) <;> rfl
@[simp] theorem State.clearFlags_loupe (s : State) (a : Nat) (w : Word) : (s.clearFlags a w).loupe = s.loupe := by unfold State.clearFlags; dsimp only; (repeat' split) <;> rfl
@[simp] theorem State.clearFlags_mem (s : State) (a : Nat) (w : Word) : (s.clearFlags a w).mem = s.mem := by unfold State.clearFlags; dsimp only; (repeat' split) <;> rfl
@[simp] theorem State.clearFlags_free (s : State) (a : Nat) (w : Word) : (s.clearFlags a w).free = s.free := by unfold State.clearFlags; dsimp only; (repeat' split) <;> rfl
@[simp] theorem State.clearFlags_pending (s : State) (a : Nat) (w : Word) : (s.clearFlags a w).pending = s.pending := by unfold State.clearFlags; dsimp only; (repeat' split) <;> rfl

/-! ### newFlagFrame -/

@[simp] theorem State.newFlagFrame_regs (s : State) : s.newFlagFrame.regs = s.regs := rfl
@[simp] theorem State.newFlagFrame_strapRegs (s : State) : s.newFlagFrame.strapRegs = s.strapRegs := rfl
@[simp] theorem State.newFlagFrame_par (s : State) : s.newFlagFrame.par = s.par := rfl
@[simp] theorem State.newFlagFrame_bumped (s : State) : s.newFlagFrame.bumped = s.bumped := rfl
@[simp] theorem State.newFlagFrame_caused (s : State) : s.newFlagFrame.caused = s.caused := rfl
@[simp] theorem State.newFlagFrame_clk (s : State) : s.newFlagFrame.clk = s.clk := rfl
@[simp] theorem State.newFlagFrame_ident (s : State) : s.newFlagFrame.ident = s.ident := rfl
@[simp] theorem State.newFlagFrame_sideA (s : State) : s.newFlagFrame.sideA = s.sideA := rfl
@[simp] theorem State.newFlagFrame_sideB (s : State) : s.newFlagFrame.sideB = s.sideB := rfl
@[simp] theorem State.newFlagFrame_link (s : State) : s.newFlagFrame.link = s.link := rfl
@[simp] theorem State.newFlagFrame_outA (s : State) : s.newFlagFrame.outA = s.outA := rfl
@[simp] theorem State.newFlagFrame_outB (s : State) : s.newFlagFrame.outB = s.outB := rfl
@[simp] theorem State.newFlagFrame_frame (s : State) : s.newFlagFrame.frame = s.frame := rfl
@[simp] theorem State.newFlagFrame_queue (s : State) : s.newFlagFrame.queue = s.queue := rfl
@[simp] theorem State.newFlagFrame_port (s : State) : s.newFlagFrame.port = s.port := rfl
@[simp] theorem State.newFlagFrame_fixer (s : State) : s.newFlagFrame.fixer = s.fixer := rfl
@[simp] theorem State.newFlagFrame_front (s : State) : s.newFlagFrame.front = s.front := rfl
@[simp] theorem State.newFlagFrame_decim (s : State) : s.newFlagFrame.decim = s.decim := rfl
@[simp] theorem State.newFlagFrame_aper (s : State) : s.newFlagFrame.aper = s.aper := rfl
@[simp] theorem State.newFlagFrame_mx (s : State) : s.newFlagFrame.mx = s.mx := rfl
@[simp] theorem State.newFlagFrame_dev (s : State) : s.newFlagFrame.dev = s.dev := rfl
@[simp] theorem State.newFlagFrame_sheet (s : State) : s.newFlagFrame.sheet = s.sheet := rfl
@[simp] theorem State.newFlagFrame_latent (s : State) : s.newFlagFrame.latent = s.latent := rfl
@[simp] theorem State.newFlagFrame_print (s : State) : s.newFlagFrame.print = s.print := rfl
@[simp] theorem State.newFlagFrame_stage (s : State) : s.newFlagFrame.stage = s.stage := rfl
@[simp] theorem State.newFlagFrame_bank (s : State) : s.newFlagFrame.bank = s.bank := rfl
@[simp] theorem State.newFlagFrame_mode (s : State) : s.newFlagFrame.mode = s.mode := rfl
@[simp] theorem State.newFlagFrame_loupe (s : State) : s.newFlagFrame.loupe = s.loupe := rfl
@[simp] theorem State.newFlagFrame_mem (s : State) : s.newFlagFrame.mem = s.mem := rfl
@[simp] theorem State.newFlagFrame_free (s : State) : s.newFlagFrame.free = s.free := rfl
@[simp] theorem State.newFlagFrame_pending (s : State) : s.newFlagFrame.pending = s.pending := rfl

/-! ### modSd -/

@[simp] theorem State.modSd_regs (s : State) (x : Side) (f : LinkSide → LinkSide) : (s.modSd x f).regs = s.regs := by cases x <;> rfl
@[simp] theorem State.modSd_strapRegs (s : State) (x : Side) (f : LinkSide → LinkSide) : (s.modSd x f).strapRegs = s.strapRegs := by cases x <;> rfl
@[simp] theorem State.modSd_par (s : State) (x : Side) (f : LinkSide → LinkSide) : (s.modSd x f).par = s.par := by cases x <;> rfl
@[simp] theorem State.modSd_sset (s : State) (x : Side) (f : LinkSide → LinkSide) : (s.modSd x f).sset = s.sset := by cases x <;> rfl
@[simp] theorem State.modSd_bumped (s : State) (x : Side) (f : LinkSide → LinkSide) : (s.modSd x f).bumped = s.bumped := by cases x <;> rfl
@[simp] theorem State.modSd_caused (s : State) (x : Side) (f : LinkSide → LinkSide) : (s.modSd x f).caused = s.caused := by cases x <;> rfl
@[simp] theorem State.modSd_clk (s : State) (x : Side) (f : LinkSide → LinkSide) : (s.modSd x f).clk = s.clk := by cases x <;> rfl
@[simp] theorem State.modSd_ident (s : State) (x : Side) (f : LinkSide → LinkSide) : (s.modSd x f).ident = s.ident := by cases x <;> rfl
@[simp] theorem State.modSd_link (s : State) (x : Side) (f : LinkSide → LinkSide) : (s.modSd x f).link = s.link := by cases x <;> rfl
@[simp] theorem State.modSd_outA (s : State) (x : Side) (f : LinkSide → LinkSide) : (s.modSd x f).outA = s.outA := by cases x <;> rfl
@[simp] theorem State.modSd_outB (s : State) (x : Side) (f : LinkSide → LinkSide) : (s.modSd x f).outB = s.outB := by cases x <;> rfl
@[simp] theorem State.modSd_frame (s : State) (x : Side) (f : LinkSide → LinkSide) : (s.modSd x f).frame = s.frame := by cases x <;> rfl
@[simp] theorem State.modSd_queue (s : State) (x : Side) (f : LinkSide → LinkSide) : (s.modSd x f).queue = s.queue := by cases x <;> rfl
@[simp] theorem State.modSd_port (s : State) (x : Side) (f : LinkSide → LinkSide) : (s.modSd x f).port = s.port := by cases x <;> rfl
@[simp] theorem State.modSd_fixer (s : State) (x : Side) (f : LinkSide → LinkSide) : (s.modSd x f).fixer = s.fixer := by cases x <;> rfl
@[simp] theorem State.modSd_front (s : State) (x : Side) (f : LinkSide → LinkSide) : (s.modSd x f).front = s.front := by cases x <;> rfl
@[simp] theorem State.modSd_decim (s : State) (x : Side) (f : LinkSide → LinkSide) : (s.modSd x f).decim = s.decim := by cases x <;> rfl
@[simp] theorem State.modSd_aper (s : State) (x : Side) (f : LinkSide → LinkSide) : (s.modSd x f).aper = s.aper := by cases x <;> rfl
@[simp] theorem State.modSd_mx (s : State) (x : Side) (f : LinkSide → LinkSide) : (s.modSd x f).mx = s.mx := by cases x <;> rfl
@[simp] theorem State.modSd_dev (s : State) (x : Side) (f : LinkSide → LinkSide) : (s.modSd x f).dev = s.dev := by cases x <;> rfl
@[simp] theorem State.modSd_sheet (s : State) (x : Side) (f : LinkSide → LinkSide) : (s.modSd x f).sheet = s.sheet := by cases x <;> rfl
@[simp] theorem State.modSd_latent (s : State) (x : Side) (f : LinkSide → LinkSide) : (s.modSd x f).latent = s.latent := by cases x <;> rfl
@[simp] theorem State.modSd_print (s : State) (x : Side) (f : LinkSide → LinkSide) : (s.modSd x f).print = s.print := by cases x <;> rfl
@[simp] theorem State.modSd_stage (s : State) (x : Side) (f : LinkSide → LinkSide) : (s.modSd x f).stage = s.stage := by cases x <;> rfl
@[simp] theorem State.modSd_bank (s : State) (x : Side) (f : LinkSide → LinkSide) : (s.modSd x f).bank = s.bank := by cases x <;> rfl
@[simp] theorem State.modSd_mode (s : State) (x : Side) (f : LinkSide → LinkSide) : (s.modSd x f).mode = s.mode := by cases x <;> rfl
@[simp] theorem State.modSd_loupe (s : State) (x : Side) (f : LinkSide → LinkSide) : (s.modSd x f).loupe = s.loupe := by cases x <;> rfl
@[simp] theorem State.modSd_mem (s : State) (x : Side) (f : LinkSide → LinkSide) : (s.modSd x f).mem = s.mem := by cases x <;> rfl
@[simp] theorem State.modSd_free (s : State) (x : Side) (f : LinkSide → LinkSide) : (s.modSd x f).free = s.free := by cases x <;> rfl
@[simp] theorem State.modSd_pending (s : State) (x : Side) (f : LinkSide → LinkSide) : (s.modSd x f).pending = s.pending := by cases x <;> rfl

/-! ### modOut -/

@[simp] theorem State.modOut_regs (s : State) (x : Side) (f : OutSide → OutSide) : (s.modOut x f).regs = s.regs := by cases x <;> rfl
@[simp] theorem State.modOut_strapRegs (s : State) (x : Side) (f : OutSide → OutSide) : (s.modOut x f).strapRegs = s.strapRegs := by cases x <;> rfl
@[simp] theorem State.modOut_par (s : State) (x : Side) (f : OutSide → OutSide) : (s.modOut x f).par = s.par := by cases x <;> rfl
@[simp] theorem State.modOut_sset (s : State) (x : Side) (f : OutSide → OutSide) : (s.modOut x f).sset = s.sset := by cases x <;> rfl
@[simp] theorem State.modOut_bumped (s : State) (x : Side) (f : OutSide → OutSide) : (s.modOut x f).bumped = s.bumped := by cases x <;> rfl
@[simp] theorem State.modOut_caused (s : State) (x : Side) (f : OutSide → OutSide) : (s.modOut x f).caused = s.caused := by cases x <;> rfl
@[simp] theorem State.modOut_clk (s : State) (x : Side) (f : OutSide → OutSide) : (s.modOut x f).clk = s.clk := by cases x <;> rfl
@[simp] theorem State.modOut_ident (s : State) (x : Side) (f : OutSide → OutSide) : (s.modOut x f).ident = s.ident := by cases x <;> rfl
@[simp] theorem State.modOut_sideA (s : State) (x : Side) (f : OutSide → OutSide) : (s.modOut x f).sideA = s.sideA := by cases x <;> rfl
@[simp] theorem State.modOut_sideB (s : State) (x : Side) (f : OutSide → OutSide) : (s.modOut x f).sideB = s.sideB := by cases x <;> rfl
@[simp] theorem State.modOut_link (s : State) (x : Side) (f : OutSide → OutSide) : (s.modOut x f).link = s.link := by cases x <;> rfl
@[simp] theorem State.modOut_frame (s : State) (x : Side) (f : OutSide → OutSide) : (s.modOut x f).frame = s.frame := by cases x <;> rfl
@[simp] theorem State.modOut_queue (s : State) (x : Side) (f : OutSide → OutSide) : (s.modOut x f).queue = s.queue := by cases x <;> rfl
@[simp] theorem State.modOut_port (s : State) (x : Side) (f : OutSide → OutSide) : (s.modOut x f).port = s.port := by cases x <;> rfl
@[simp] theorem State.modOut_fixer (s : State) (x : Side) (f : OutSide → OutSide) : (s.modOut x f).fixer = s.fixer := by cases x <;> rfl
@[simp] theorem State.modOut_front (s : State) (x : Side) (f : OutSide → OutSide) : (s.modOut x f).front = s.front := by cases x <;> rfl
@[simp] theorem State.modOut_decim (s : State) (x : Side) (f : OutSide → OutSide) : (s.modOut x f).decim = s.decim := by cases x <;> rfl
@[simp] theorem State.modOut_aper (s : State) (x : Side) (f : OutSide → OutSide) : (s.modOut x f).aper = s.aper := by cases x <;> rfl
@[simp] theorem State.modOut_mx (s : State) (x : Side) (f : OutSide → OutSide) : (s.modOut x f).mx = s.mx := by cases x <;> rfl
@[simp] theorem State.modOut_dev (s : State) (x : Side) (f : OutSide → OutSide) : (s.modOut x f).dev = s.dev := by cases x <;> rfl
@[simp] theorem State.modOut_sheet (s : State) (x : Side) (f : OutSide → OutSide) : (s.modOut x f).sheet = s.sheet := by cases x <;> rfl
@[simp] theorem State.modOut_latent (s : State) (x : Side) (f : OutSide → OutSide) : (s.modOut x f).latent = s.latent := by cases x <;> rfl
@[simp] theorem State.modOut_print (s : State) (x : Side) (f : OutSide → OutSide) : (s.modOut x f).print = s.print := by cases x <;> rfl
@[simp] theorem State.modOut_stage (s : State) (x : Side) (f : OutSide → OutSide) : (s.modOut x f).stage = s.stage := by cases x <;> rfl
@[simp] theorem State.modOut_bank (s : State) (x : Side) (f : OutSide → OutSide) : (s.modOut x f).bank = s.bank := by cases x <;> rfl
@[simp] theorem State.modOut_mode (s : State) (x : Side) (f : OutSide → OutSide) : (s.modOut x f).mode = s.mode := by cases x <;> rfl
@[simp] theorem State.modOut_loupe (s : State) (x : Side) (f : OutSide → OutSide) : (s.modOut x f).loupe = s.loupe := by cases x <;> rfl
@[simp] theorem State.modOut_mem (s : State) (x : Side) (f : OutSide → OutSide) : (s.modOut x f).mem = s.mem := by cases x <;> rfl
@[simp] theorem State.modOut_free (s : State) (x : Side) (f : OutSide → OutSide) : (s.modOut x f).free = s.free := by cases x <;> rfl
@[simp] theorem State.modOut_pending (s : State) (x : Side) (f : OutSide → OutSide) : (s.modOut x f).pending = s.pending := by cases x <;> rfl

/-! ### raiseAt -/

@[simp] theorem State.raiseAt_regs (s : State) (e : Epoch) (source code : Nat) (lo hi : Word) : (s.raiseAt e source code lo hi).regs = s.regs := rfl
@[simp] theorem State.raiseAt_strapRegs (s : State) (e : Epoch) (source code : Nat) (lo hi : Word) : (s.raiseAt e source code lo hi).strapRegs = s.strapRegs := rfl
@[simp] theorem State.raiseAt_par (s : State) (e : Epoch) (source code : Nat) (lo hi : Word) : (s.raiseAt e source code lo hi).par = s.par := rfl
@[simp] theorem State.raiseAt_sset (s : State) (e : Epoch) (source code : Nat) (lo hi : Word) : (s.raiseAt e source code lo hi).sset = s.sset := rfl
@[simp] theorem State.raiseAt_bumped (s : State) (e : Epoch) (source code : Nat) (lo hi : Word) : (s.raiseAt e source code lo hi).bumped = s.bumped := rfl
@[simp] theorem State.raiseAt_caused (s : State) (e : Epoch) (source code : Nat) (lo hi : Word) : (s.raiseAt e source code lo hi).caused = s.caused := rfl
@[simp] theorem State.raiseAt_clk (s : State) (e : Epoch) (source code : Nat) (lo hi : Word) : (s.raiseAt e source code lo hi).clk = s.clk := rfl
@[simp] theorem State.raiseAt_ident (s : State) (e : Epoch) (source code : Nat) (lo hi : Word) : (s.raiseAt e source code lo hi).ident = s.ident := rfl
@[simp] theorem State.raiseAt_sideA (s : State) (e : Epoch) (source code : Nat) (lo hi : Word) : (s.raiseAt e source code lo hi).sideA = s.sideA := rfl
@[simp] theorem State.raiseAt_sideB (s : State) (e : Epoch) (source code : Nat) (lo hi : Word) : (s.raiseAt e source code lo hi).sideB = s.sideB := rfl
@[simp] theorem State.raiseAt_link (s : State) (e : Epoch) (source code : Nat) (lo hi : Word) : (s.raiseAt e source code lo hi).link = s.link := rfl
@[simp] theorem State.raiseAt_outA (s : State) (e : Epoch) (source code : Nat) (lo hi : Word) : (s.raiseAt e source code lo hi).outA = s.outA := rfl
@[simp] theorem State.raiseAt_outB (s : State) (e : Epoch) (source code : Nat) (lo hi : Word) : (s.raiseAt e source code lo hi).outB = s.outB := rfl
@[simp] theorem State.raiseAt_frame (s : State) (e : Epoch) (source code : Nat) (lo hi : Word) : (s.raiseAt e source code lo hi).frame = s.frame := rfl
@[simp] theorem State.raiseAt_queue (s : State) (e : Epoch) (source code : Nat) (lo hi : Word) : (s.raiseAt e source code lo hi).queue = s.queue := rfl
@[simp] theorem State.raiseAt_port (s : State) (e : Epoch) (source code : Nat) (lo hi : Word) : (s.raiseAt e source code lo hi).port = s.port := rfl
@[simp] theorem State.raiseAt_front (s : State) (e : Epoch) (source code : Nat) (lo hi : Word) : (s.raiseAt e source code lo hi).front = s.front := rfl
@[simp] theorem State.raiseAt_decim (s : State) (e : Epoch) (source code : Nat) (lo hi : Word) : (s.raiseAt e source code lo hi).decim = s.decim := rfl
@[simp] theorem State.raiseAt_aper (s : State) (e : Epoch) (source code : Nat) (lo hi : Word) : (s.raiseAt e source code lo hi).aper = s.aper := rfl
@[simp] theorem State.raiseAt_mx (s : State) (e : Epoch) (source code : Nat) (lo hi : Word) : (s.raiseAt e source code lo hi).mx = s.mx := rfl
@[simp] theorem State.raiseAt_dev (s : State) (e : Epoch) (source code : Nat) (lo hi : Word) : (s.raiseAt e source code lo hi).dev = s.dev := rfl
@[simp] theorem State.raiseAt_sheet (s : State) (e : Epoch) (source code : Nat) (lo hi : Word) : (s.raiseAt e source code lo hi).sheet = s.sheet := rfl
@[simp] theorem State.raiseAt_latent (s : State) (e : Epoch) (source code : Nat) (lo hi : Word) : (s.raiseAt e source code lo hi).latent = s.latent := rfl
@[simp] theorem State.raiseAt_print (s : State) (e : Epoch) (source code : Nat) (lo hi : Word) : (s.raiseAt e source code lo hi).print = s.print := rfl
@[simp] theorem State.raiseAt_stage (s : State) (e : Epoch) (source code : Nat) (lo hi : Word) : (s.raiseAt e source code lo hi).stage = s.stage := rfl
@[simp] theorem State.raiseAt_bank (s : State) (e : Epoch) (source code : Nat) (lo hi : Word) : (s.raiseAt e source code lo hi).bank = s.bank := rfl
@[simp] theorem State.raiseAt_mode (s : State) (e : Epoch) (source code : Nat) (lo hi : Word) : (s.raiseAt e source code lo hi).mode = s.mode := rfl
@[simp] theorem State.raiseAt_loupe (s : State) (e : Epoch) (source code : Nat) (lo hi : Word) : (s.raiseAt e source code lo hi).loupe = s.loupe := rfl
@[simp] theorem State.raiseAt_mem (s : State) (e : Epoch) (source code : Nat) (lo hi : Word) : (s.raiseAt e source code lo hi).mem = s.mem := rfl
@[simp] theorem State.raiseAt_free (s : State) (e : Epoch) (source code : Nat) (lo hi : Word) : (s.raiseAt e source code lo hi).free = s.free := rfl
@[simp] theorem State.raiseAt_pending (s : State) (e : Epoch) (source code : Nat) (lo hi : Word) : (s.raiseAt e source code lo hi).pending = s.pending := rfl

/-! ### raise -/

@[simp] theorem State.raise_regs (s : State) (source code : Nat) (lo hi : Word) : (s.raise source code lo hi).regs = s.regs := rfl
@[simp] theorem State.raise_strapRegs (s : State) (source code : Nat) (lo hi : Word) : (s.raise source code lo hi).strapRegs = s.strapRegs := rfl
@[simp] theorem State.raise_par (s : State) (source code : Nat) (lo hi : Word) : (s.raise source code lo hi).par = s.par := rfl
@[simp] theorem State.raise_sset (s : State) (source code : Nat) (lo hi : Word) : (s.raise source code lo hi).sset = s.sset := rfl
@[simp] theorem State.raise_bumped (s : State) (source code : Nat) (lo hi : Word) : (s.raise source code lo hi).bumped = s.bumped := rfl
@[simp] theorem State.raise_caused (s : State) (source code : Nat) (lo hi : Word) : (s.raise source code lo hi).caused = s.caused := rfl
@[simp] theorem State.raise_clk (s : State) (source code : Nat) (lo hi : Word) : (s.raise source code lo hi).clk = s.clk := rfl
@[simp] theorem State.raise_ident (s : State) (source code : Nat) (lo hi : Word) : (s.raise source code lo hi).ident = s.ident := rfl
@[simp] theorem State.raise_sideA (s : State) (source code : Nat) (lo hi : Word) : (s.raise source code lo hi).sideA = s.sideA := rfl
@[simp] theorem State.raise_sideB (s : State) (source code : Nat) (lo hi : Word) : (s.raise source code lo hi).sideB = s.sideB := rfl
@[simp] theorem State.raise_link (s : State) (source code : Nat) (lo hi : Word) : (s.raise source code lo hi).link = s.link := rfl
@[simp] theorem State.raise_outA (s : State) (source code : Nat) (lo hi : Word) : (s.raise source code lo hi).outA = s.outA := rfl
@[simp] theorem State.raise_outB (s : State) (source code : Nat) (lo hi : Word) : (s.raise source code lo hi).outB = s.outB := rfl
@[simp] theorem State.raise_frame (s : State) (source code : Nat) (lo hi : Word) : (s.raise source code lo hi).frame = s.frame := rfl
@[simp] theorem State.raise_queue (s : State) (source code : Nat) (lo hi : Word) : (s.raise source code lo hi).queue = s.queue := rfl
@[simp] theorem State.raise_port (s : State) (source code : Nat) (lo hi : Word) : (s.raise source code lo hi).port = s.port := rfl
@[simp] theorem State.raise_front (s : State) (source code : Nat) (lo hi : Word) : (s.raise source code lo hi).front = s.front := rfl
@[simp] theorem State.raise_decim (s : State) (source code : Nat) (lo hi : Word) : (s.raise source code lo hi).decim = s.decim := rfl
@[simp] theorem State.raise_aper (s : State) (source code : Nat) (lo hi : Word) : (s.raise source code lo hi).aper = s.aper := rfl
@[simp] theorem State.raise_mx (s : State) (source code : Nat) (lo hi : Word) : (s.raise source code lo hi).mx = s.mx := rfl
@[simp] theorem State.raise_dev (s : State) (source code : Nat) (lo hi : Word) : (s.raise source code lo hi).dev = s.dev := rfl
@[simp] theorem State.raise_sheet (s : State) (source code : Nat) (lo hi : Word) : (s.raise source code lo hi).sheet = s.sheet := rfl
@[simp] theorem State.raise_latent (s : State) (source code : Nat) (lo hi : Word) : (s.raise source code lo hi).latent = s.latent := rfl
@[simp] theorem State.raise_print (s : State) (source code : Nat) (lo hi : Word) : (s.raise source code lo hi).print = s.print := rfl
@[simp] theorem State.raise_stage (s : State) (source code : Nat) (lo hi : Word) : (s.raise source code lo hi).stage = s.stage := rfl
@[simp] theorem State.raise_bank (s : State) (source code : Nat) (lo hi : Word) : (s.raise source code lo hi).bank = s.bank := rfl
@[simp] theorem State.raise_mode (s : State) (source code : Nat) (lo hi : Word) : (s.raise source code lo hi).mode = s.mode := rfl
@[simp] theorem State.raise_loupe (s : State) (source code : Nat) (lo hi : Word) : (s.raise source code lo hi).loupe = s.loupe := rfl
@[simp] theorem State.raise_mem (s : State) (source code : Nat) (lo hi : Word) : (s.raise source code lo hi).mem = s.mem := rfl
@[simp] theorem State.raise_free (s : State) (source code : Nat) (lo hi : Word) : (s.raise source code lo hi).free = s.free := rfl
@[simp] theorem State.raise_pending (s : State) (source code : Nat) (lo hi : Word) : (s.raise source code lo hi).pending = s.pending := rfl

/-! ### modHistory -/

@[simp] theorem State.modHistory_regs (s : State) (i : Nat) (f : History → History) : (s.modHistory i f).regs = s.regs := rfl
@[simp] theorem State.modHistory_strapRegs (s : State) (i : Nat) (f : History → History) : (s.modHistory i f).strapRegs = s.strapRegs := rfl
@[simp] theorem State.modHistory_par (s : State) (i : Nat) (f : History → History) : (s.modHistory i f).par = s.par := rfl
@[simp] theorem State.modHistory_sset (s : State) (i : Nat) (f : History → History) : (s.modHistory i f).sset = s.sset := rfl
@[simp] theorem State.modHistory_bumped (s : State) (i : Nat) (f : History → History) : (s.modHistory i f).bumped = s.bumped := rfl
@[simp] theorem State.modHistory_caused (s : State) (i : Nat) (f : History → History) : (s.modHistory i f).caused = s.caused := rfl
@[simp] theorem State.modHistory_clk (s : State) (i : Nat) (f : History → History) : (s.modHistory i f).clk = s.clk := rfl
@[simp] theorem State.modHistory_ident (s : State) (i : Nat) (f : History → History) : (s.modHistory i f).ident = s.ident := rfl
@[simp] theorem State.modHistory_sideA (s : State) (i : Nat) (f : History → History) : (s.modHistory i f).sideA = s.sideA := rfl
@[simp] theorem State.modHistory_sideB (s : State) (i : Nat) (f : History → History) : (s.modHistory i f).sideB = s.sideB := rfl
@[simp] theorem State.modHistory_link (s : State) (i : Nat) (f : History → History) : (s.modHistory i f).link = s.link := rfl
@[simp] theorem State.modHistory_outA (s : State) (i : Nat) (f : History → History) : (s.modHistory i f).outA = s.outA := rfl
@[simp] theorem State.modHistory_outB (s : State) (i : Nat) (f : History → History) : (s.modHistory i f).outB = s.outB := rfl
@[simp] theorem State.modHistory_frame (s : State) (i : Nat) (f : History → History) : (s.modHistory i f).frame = s.frame := rfl
@[simp] theorem State.modHistory_queue (s : State) (i : Nat) (f : History → History) : (s.modHistory i f).queue = s.queue := rfl
@[simp] theorem State.modHistory_port (s : State) (i : Nat) (f : History → History) : (s.modHistory i f).port = s.port := rfl
@[simp] theorem State.modHistory_front (s : State) (i : Nat) (f : History → History) : (s.modHistory i f).front = s.front := rfl
@[simp] theorem State.modHistory_decim (s : State) (i : Nat) (f : History → History) : (s.modHistory i f).decim = s.decim := rfl
@[simp] theorem State.modHistory_aper (s : State) (i : Nat) (f : History → History) : (s.modHistory i f).aper = s.aper := rfl
@[simp] theorem State.modHistory_mx (s : State) (i : Nat) (f : History → History) : (s.modHistory i f).mx = s.mx := rfl
@[simp] theorem State.modHistory_dev (s : State) (i : Nat) (f : History → History) : (s.modHistory i f).dev = s.dev := rfl
@[simp] theorem State.modHistory_sheet (s : State) (i : Nat) (f : History → History) : (s.modHistory i f).sheet = s.sheet := rfl
@[simp] theorem State.modHistory_latent (s : State) (i : Nat) (f : History → History) : (s.modHistory i f).latent = s.latent := rfl
@[simp] theorem State.modHistory_print (s : State) (i : Nat) (f : History → History) : (s.modHistory i f).print = s.print := rfl
@[simp] theorem State.modHistory_stage (s : State) (i : Nat) (f : History → History) : (s.modHistory i f).stage = s.stage := rfl
@[simp] theorem State.modHistory_bank (s : State) (i : Nat) (f : History → History) : (s.modHistory i f).bank = s.bank := rfl
@[simp] theorem State.modHistory_mode (s : State) (i : Nat) (f : History → History) : (s.modHistory i f).mode = s.mode := rfl
@[simp] theorem State.modHistory_loupe (s : State) (i : Nat) (f : History → History) : (s.modHistory i f).loupe = s.loupe := rfl
@[simp] theorem State.modHistory_mem (s : State) (i : Nat) (f : History → History) : (s.modHistory i f).mem = s.mem := rfl
@[simp] theorem State.modHistory_free (s : State) (i : Nat) (f : History → History) : (s.modHistory i f).free = s.free := rfl
@[simp] theorem State.modHistory_pending (s : State) (i : Nat) (f : History → History) : (s.modHistory i f).pending = s.pending := rfl

/-! ### fixerRelease -/

@[simp] theorem State.fixerRelease_regs (s : State) (i : Nat) : (s.fixerRelease i).regs = s.regs := by unfold State.fixerRelease; split <;> rfl
@[simp] theorem State.fixerRelease_strapRegs (s : State) (i : Nat) : (s.fixerRelease i).strapRegs = s.strapRegs := by unfold State.fixerRelease; split <;> rfl
@[simp] theorem State.fixerRelease_par (s : State) (i : Nat) : (s.fixerRelease i).par = s.par := by unfold State.fixerRelease; split <;> rfl
@[simp] theorem State.fixerRelease_sset (s : State) (i : Nat) : (s.fixerRelease i).sset = s.sset := by unfold State.fixerRelease; split <;> rfl
@[simp] theorem State.fixerRelease_bumped (s : State) (i : Nat) : (s.fixerRelease i).bumped = s.bumped := by unfold State.fixerRelease; split <;> rfl
@[simp] theorem State.fixerRelease_caused (s : State) (i : Nat) : (s.fixerRelease i).caused = s.caused := by unfold State.fixerRelease; split <;> rfl
@[simp] theorem State.fixerRelease_clk (s : State) (i : Nat) : (s.fixerRelease i).clk = s.clk := by unfold State.fixerRelease; split <;> rfl
@[simp] theorem State.fixerRelease_ident (s : State) (i : Nat) : (s.fixerRelease i).ident = s.ident := by unfold State.fixerRelease; split <;> rfl
@[simp] theorem State.fixerRelease_sideA (s : State) (i : Nat) : (s.fixerRelease i).sideA = s.sideA := by unfold State.fixerRelease; split <;> rfl
@[simp] theorem State.fixerRelease_sideB (s : State) (i : Nat) : (s.fixerRelease i).sideB = s.sideB := by unfold State.fixerRelease; split <;> rfl
@[simp] theorem State.fixerRelease_link (s : State) (i : Nat) : (s.fixerRelease i).link = s.link := by unfold State.fixerRelease; split <;> rfl
@[simp] theorem State.fixerRelease_outA (s : State) (i : Nat) : (s.fixerRelease i).outA = s.outA := by unfold State.fixerRelease; split <;> rfl
@[simp] theorem State.fixerRelease_outB (s : State) (i : Nat) : (s.fixerRelease i).outB = s.outB := by unfold State.fixerRelease; split <;> rfl
@[simp] theorem State.fixerRelease_frame (s : State) (i : Nat) : (s.fixerRelease i).frame = s.frame := by unfold State.fixerRelease; split <;> rfl
@[simp] theorem State.fixerRelease_queue (s : State) (i : Nat) : (s.fixerRelease i).queue = s.queue := by unfold State.fixerRelease; split <;> rfl
@[simp] theorem State.fixerRelease_port (s : State) (i : Nat) : (s.fixerRelease i).port = s.port := by unfold State.fixerRelease; split <;> rfl
@[simp] theorem State.fixerRelease_front (s : State) (i : Nat) : (s.fixerRelease i).front = s.front := by unfold State.fixerRelease; split <;> rfl
@[simp] theorem State.fixerRelease_decim (s : State) (i : Nat) : (s.fixerRelease i).decim = s.decim := by unfold State.fixerRelease; split <;> rfl
@[simp] theorem State.fixerRelease_aper (s : State) (i : Nat) : (s.fixerRelease i).aper = s.aper := by unfold State.fixerRelease; split <;> rfl
@[simp] theorem State.fixerRelease_mx (s : State) (i : Nat) : (s.fixerRelease i).mx = s.mx := by unfold State.fixerRelease; split <;> rfl
@[simp] theorem State.fixerRelease_dev (s : State) (i : Nat) : (s.fixerRelease i).dev = s.dev := by unfold State.fixerRelease; split <;> rfl
@[simp] theorem State.fixerRelease_sheet (s : State) (i : Nat) : (s.fixerRelease i).sheet = s.sheet := by unfold State.fixerRelease; split <;> rfl
@[simp] theorem State.fixerRelease_latent (s : State) (i : Nat) : (s.fixerRelease i).latent = s.latent := by unfold State.fixerRelease; split <;> rfl
@[simp] theorem State.fixerRelease_print (s : State) (i : Nat) : (s.fixerRelease i).print = s.print := by unfold State.fixerRelease; split <;> rfl
@[simp] theorem State.fixerRelease_stage (s : State) (i : Nat) : (s.fixerRelease i).stage = s.stage := by unfold State.fixerRelease; split <;> rfl
@[simp] theorem State.fixerRelease_bank (s : State) (i : Nat) : (s.fixerRelease i).bank = s.bank := by unfold State.fixerRelease; split <;> rfl
@[simp] theorem State.fixerRelease_mode (s : State) (i : Nat) : (s.fixerRelease i).mode = s.mode := by unfold State.fixerRelease; split <;> rfl
@[simp] theorem State.fixerRelease_loupe (s : State) (i : Nat) : (s.fixerRelease i).loupe = s.loupe := by unfold State.fixerRelease; split <;> rfl
@[simp] theorem State.fixerRelease_mem (s : State) (i : Nat) : (s.fixerRelease i).mem = s.mem := by unfold State.fixerRelease; split <;> rfl
@[simp] theorem State.fixerRelease_free (s : State) (i : Nat) : (s.fixerRelease i).free = s.free := by unfold State.fixerRelease; split <;> rfl
@[simp] theorem State.fixerRelease_pending (s : State) (i : Nat) : (s.fixerRelease i).pending = s.pending := by unfold State.fixerRelease; split <;> rfl

/-! ### modBias -/

@[simp] theorem State.modBias_regs (s : State) (k : Nat) (f : Bias → Bias) : (s.modBias k f).regs = s.regs := rfl
@[simp] theorem State.modBias_strapRegs (s : State) (k : Nat) (f : Bias → Bias) : (s.modBias k f).strapRegs = s.strapRegs := rfl
@[simp] theorem State.modBias_par (s : State) (k : Nat) (f : Bias → Bias) : (s.modBias k f).par = s.par := rfl
@[simp] theorem State.modBias_sset (s : State) (k : Nat) (f : Bias → Bias) : (s.modBias k f).sset = s.sset := rfl
@[simp] theorem State.modBias_bumped (s : State) (k : Nat) (f : Bias → Bias) : (s.modBias k f).bumped = s.bumped := rfl
@[simp] theorem State.modBias_caused (s : State) (k : Nat) (f : Bias → Bias) : (s.modBias k f).caused = s.caused := rfl
@[simp] theorem State.modBias_clk (s : State) (k : Nat) (f : Bias → Bias) : (s.modBias k f).clk = s.clk := rfl
@[simp] theorem State.modBias_ident (s : State) (k : Nat) (f : Bias → Bias) : (s.modBias k f).ident = s.ident := rfl
@[simp] theorem State.modBias_sideA (s : State) (k : Nat) (f : Bias → Bias) : (s.modBias k f).sideA = s.sideA := rfl
@[simp] theorem State.modBias_sideB (s : State) (k : Nat) (f : Bias → Bias) : (s.modBias k f).sideB = s.sideB := rfl
@[simp] theorem State.modBias_link (s : State) (k : Nat) (f : Bias → Bias) : (s.modBias k f).link = s.link := rfl
@[simp] theorem State.modBias_outA (s : State) (k : Nat) (f : Bias → Bias) : (s.modBias k f).outA = s.outA := rfl
@[simp] theorem State.modBias_outB (s : State) (k : Nat) (f : Bias → Bias) : (s.modBias k f).outB = s.outB := rfl
@[simp] theorem State.modBias_frame (s : State) (k : Nat) (f : Bias → Bias) : (s.modBias k f).frame = s.frame := rfl
@[simp] theorem State.modBias_queue (s : State) (k : Nat) (f : Bias → Bias) : (s.modBias k f).queue = s.queue := rfl
@[simp] theorem State.modBias_port (s : State) (k : Nat) (f : Bias → Bias) : (s.modBias k f).port = s.port := rfl
@[simp] theorem State.modBias_fixer (s : State) (k : Nat) (f : Bias → Bias) : (s.modBias k f).fixer = s.fixer := rfl
@[simp] theorem State.modBias_decim (s : State) (k : Nat) (f : Bias → Bias) : (s.modBias k f).decim = s.decim := rfl
@[simp] theorem State.modBias_aper (s : State) (k : Nat) (f : Bias → Bias) : (s.modBias k f).aper = s.aper := rfl
@[simp] theorem State.modBias_mx (s : State) (k : Nat) (f : Bias → Bias) : (s.modBias k f).mx = s.mx := rfl
@[simp] theorem State.modBias_dev (s : State) (k : Nat) (f : Bias → Bias) : (s.modBias k f).dev = s.dev := rfl
@[simp] theorem State.modBias_sheet (s : State) (k : Nat) (f : Bias → Bias) : (s.modBias k f).sheet = s.sheet := rfl
@[simp] theorem State.modBias_latent (s : State) (k : Nat) (f : Bias → Bias) : (s.modBias k f).latent = s.latent := rfl
@[simp] theorem State.modBias_print (s : State) (k : Nat) (f : Bias → Bias) : (s.modBias k f).print = s.print := rfl
@[simp] theorem State.modBias_stage (s : State) (k : Nat) (f : Bias → Bias) : (s.modBias k f).stage = s.stage := rfl
@[simp] theorem State.modBias_bank (s : State) (k : Nat) (f : Bias → Bias) : (s.modBias k f).bank = s.bank := rfl
@[simp] theorem State.modBias_mode (s : State) (k : Nat) (f : Bias → Bias) : (s.modBias k f).mode = s.mode := rfl
@[simp] theorem State.modBias_loupe (s : State) (k : Nat) (f : Bias → Bias) : (s.modBias k f).loupe = s.loupe := rfl
@[simp] theorem State.modBias_mem (s : State) (k : Nat) (f : Bias → Bias) : (s.modBias k f).mem = s.mem := rfl
@[simp] theorem State.modBias_free (s : State) (k : Nat) (f : Bias → Bias) : (s.modBias k f).free = s.free := rfl
@[simp] theorem State.modBias_pending (s : State) (k : Nat) (f : Bias → Bias) : (s.modBias k f).pending = s.pending := rfl

/-! ### modChan -/

@[simp] theorem State.modChan_regs (s : State) (k : Nat) (f : Chan → Chan) : (s.modChan k f).regs = s.regs := rfl
@[simp] theorem State.modChan_strapRegs (s : State) (k : Nat) (f : Chan → Chan) : (s.modChan k f).strapRegs = s.strapRegs := rfl
@[simp] theorem State.modChan_par (s : State) (k : Nat) (f : Chan → Chan) : (s.modChan k f).par = s.par := rfl
@[simp] theorem State.modChan_sset (s : State) (k : Nat) (f : Chan → Chan) : (s.modChan k f).sset = s.sset := rfl
@[simp] theorem State.modChan_bumped (s : State) (k : Nat) (f : Chan → Chan) : (s.modChan k f).bumped = s.bumped := rfl
@[simp] theorem State.modChan_caused (s : State) (k : Nat) (f : Chan → Chan) : (s.modChan k f).caused = s.caused := rfl
@[simp] theorem State.modChan_clk (s : State) (k : Nat) (f : Chan → Chan) : (s.modChan k f).clk = s.clk := rfl
@[simp] theorem State.modChan_ident (s : State) (k : Nat) (f : Chan → Chan) : (s.modChan k f).ident = s.ident := rfl
@[simp] theorem State.modChan_sideA (s : State) (k : Nat) (f : Chan → Chan) : (s.modChan k f).sideA = s.sideA := rfl
@[simp] theorem State.modChan_sideB (s : State) (k : Nat) (f : Chan → Chan) : (s.modChan k f).sideB = s.sideB := rfl
@[simp] theorem State.modChan_link (s : State) (k : Nat) (f : Chan → Chan) : (s.modChan k f).link = s.link := rfl
@[simp] theorem State.modChan_outA (s : State) (k : Nat) (f : Chan → Chan) : (s.modChan k f).outA = s.outA := rfl
@[simp] theorem State.modChan_outB (s : State) (k : Nat) (f : Chan → Chan) : (s.modChan k f).outB = s.outB := rfl
@[simp] theorem State.modChan_frame (s : State) (k : Nat) (f : Chan → Chan) : (s.modChan k f).frame = s.frame := rfl
@[simp] theorem State.modChan_queue (s : State) (k : Nat) (f : Chan → Chan) : (s.modChan k f).queue = s.queue := rfl
@[simp] theorem State.modChan_port (s : State) (k : Nat) (f : Chan → Chan) : (s.modChan k f).port = s.port := rfl
@[simp] theorem State.modChan_fixer (s : State) (k : Nat) (f : Chan → Chan) : (s.modChan k f).fixer = s.fixer := rfl
@[simp] theorem State.modChan_decim (s : State) (k : Nat) (f : Chan → Chan) : (s.modChan k f).decim = s.decim := rfl
@[simp] theorem State.modChan_aper (s : State) (k : Nat) (f : Chan → Chan) : (s.modChan k f).aper = s.aper := rfl
@[simp] theorem State.modChan_mx (s : State) (k : Nat) (f : Chan → Chan) : (s.modChan k f).mx = s.mx := rfl
@[simp] theorem State.modChan_dev (s : State) (k : Nat) (f : Chan → Chan) : (s.modChan k f).dev = s.dev := rfl
@[simp] theorem State.modChan_sheet (s : State) (k : Nat) (f : Chan → Chan) : (s.modChan k f).sheet = s.sheet := rfl
@[simp] theorem State.modChan_latent (s : State) (k : Nat) (f : Chan → Chan) : (s.modChan k f).latent = s.latent := rfl
@[simp] theorem State.modChan_print (s : State) (k : Nat) (f : Chan → Chan) : (s.modChan k f).print = s.print := rfl
@[simp] theorem State.modChan_stage (s : State) (k : Nat) (f : Chan → Chan) : (s.modChan k f).stage = s.stage := rfl
@[simp] theorem State.modChan_bank (s : State) (k : Nat) (f : Chan → Chan) : (s.modChan k f).bank = s.bank := rfl
@[simp] theorem State.modChan_mode (s : State) (k : Nat) (f : Chan → Chan) : (s.modChan k f).mode = s.mode := rfl
@[simp] theorem State.modChan_loupe (s : State) (k : Nat) (f : Chan → Chan) : (s.modChan k f).loupe = s.loupe := rfl
@[simp] theorem State.modChan_mem (s : State) (k : Nat) (f : Chan → Chan) : (s.modChan k f).mem = s.mem := rfl
@[simp] theorem State.modChan_free (s : State) (k : Nat) (f : Chan → Chan) : (s.modChan k f).free = s.free := rfl
@[simp] theorem State.modChan_pending (s : State) (k : Nat) (f : Chan → Chan) : (s.modChan k f).pending = s.pending := rfl

/-! ### modBeam -/

@[simp] theorem State.modBeam_regs (s : State) (b : Nat) (f : Beam → Beam) : (s.modBeam b f).regs = s.regs := rfl
@[simp] theorem State.modBeam_strapRegs (s : State) (b : Nat) (f : Beam → Beam) : (s.modBeam b f).strapRegs = s.strapRegs := rfl
@[simp] theorem State.modBeam_par (s : State) (b : Nat) (f : Beam → Beam) : (s.modBeam b f).par = s.par := rfl
@[simp] theorem State.modBeam_sset (s : State) (b : Nat) (f : Beam → Beam) : (s.modBeam b f).sset = s.sset := rfl
@[simp] theorem State.modBeam_bumped (s : State) (b : Nat) (f : Beam → Beam) : (s.modBeam b f).bumped = s.bumped := rfl
@[simp] theorem State.modBeam_caused (s : State) (b : Nat) (f : Beam → Beam) : (s.modBeam b f).caused = s.caused := rfl
@[simp] theorem State.modBeam_clk (s : State) (b : Nat) (f : Beam → Beam) : (s.modBeam b f).clk = s.clk := rfl
@[simp] theorem State.modBeam_ident (s : State) (b : Nat) (f : Beam → Beam) : (s.modBeam b f).ident = s.ident := rfl
@[simp] theorem State.modBeam_sideA (s : State) (b : Nat) (f : Beam → Beam) : (s.modBeam b f).sideA = s.sideA := rfl
@[simp] theorem State.modBeam_sideB (s : State) (b : Nat) (f : Beam → Beam) : (s.modBeam b f).sideB = s.sideB := rfl
@[simp] theorem State.modBeam_link (s : State) (b : Nat) (f : Beam → Beam) : (s.modBeam b f).link = s.link := rfl
@[simp] theorem State.modBeam_outA (s : State) (b : Nat) (f : Beam → Beam) : (s.modBeam b f).outA = s.outA := rfl
@[simp] theorem State.modBeam_outB (s : State) (b : Nat) (f : Beam → Beam) : (s.modBeam b f).outB = s.outB := rfl
@[simp] theorem State.modBeam_frame (s : State) (b : Nat) (f : Beam → Beam) : (s.modBeam b f).frame = s.frame := rfl
@[simp] theorem State.modBeam_queue (s : State) (b : Nat) (f : Beam → Beam) : (s.modBeam b f).queue = s.queue := rfl
@[simp] theorem State.modBeam_port (s : State) (b : Nat) (f : Beam → Beam) : (s.modBeam b f).port = s.port := rfl
@[simp] theorem State.modBeam_fixer (s : State) (b : Nat) (f : Beam → Beam) : (s.modBeam b f).fixer = s.fixer := rfl
@[simp] theorem State.modBeam_front (s : State) (b : Nat) (f : Beam → Beam) : (s.modBeam b f).front = s.front := rfl
@[simp] theorem State.modBeam_decim (s : State) (b : Nat) (f : Beam → Beam) : (s.modBeam b f).decim = s.decim := rfl
@[simp] theorem State.modBeam_mx (s : State) (b : Nat) (f : Beam → Beam) : (s.modBeam b f).mx = s.mx := rfl
@[simp] theorem State.modBeam_dev (s : State) (b : Nat) (f : Beam → Beam) : (s.modBeam b f).dev = s.dev := rfl
@[simp] theorem State.modBeam_sheet (s : State) (b : Nat) (f : Beam → Beam) : (s.modBeam b f).sheet = s.sheet := rfl
@[simp] theorem State.modBeam_latent (s : State) (b : Nat) (f : Beam → Beam) : (s.modBeam b f).latent = s.latent := rfl
@[simp] theorem State.modBeam_print (s : State) (b : Nat) (f : Beam → Beam) : (s.modBeam b f).print = s.print := rfl
@[simp] theorem State.modBeam_stage (s : State) (b : Nat) (f : Beam → Beam) : (s.modBeam b f).stage = s.stage := rfl
@[simp] theorem State.modBeam_bank (s : State) (b : Nat) (f : Beam → Beam) : (s.modBeam b f).bank = s.bank := rfl
@[simp] theorem State.modBeam_mode (s : State) (b : Nat) (f : Beam → Beam) : (s.modBeam b f).mode = s.mode := rfl
@[simp] theorem State.modBeam_loupe (s : State) (b : Nat) (f : Beam → Beam) : (s.modBeam b f).loupe = s.loupe := rfl
@[simp] theorem State.modBeam_mem (s : State) (b : Nat) (f : Beam → Beam) : (s.modBeam b f).mem = s.mem := rfl
@[simp] theorem State.modBeam_free (s : State) (b : Nat) (f : Beam → Beam) : (s.modBeam b f).free = s.free := rfl
@[simp] theorem State.modBeam_pending (s : State) (b : Nat) (f : Beam → Beam) : (s.modBeam b f).pending = s.pending := rfl

/-! ### modStream -/

@[simp] theorem State.modStream_regs (s : State) (i : Nat) (f : Stream → Stream) : (s.modStream i f).regs = s.regs := rfl
@[simp] theorem State.modStream_strapRegs (s : State) (i : Nat) (f : Stream → Stream) : (s.modStream i f).strapRegs = s.strapRegs := rfl
@[simp] theorem State.modStream_par (s : State) (i : Nat) (f : Stream → Stream) : (s.modStream i f).par = s.par := rfl
@[simp] theorem State.modStream_sset (s : State) (i : Nat) (f : Stream → Stream) : (s.modStream i f).sset = s.sset := rfl
@[simp] theorem State.modStream_bumped (s : State) (i : Nat) (f : Stream → Stream) : (s.modStream i f).bumped = s.bumped := rfl
@[simp] theorem State.modStream_caused (s : State) (i : Nat) (f : Stream → Stream) : (s.modStream i f).caused = s.caused := rfl
@[simp] theorem State.modStream_clk (s : State) (i : Nat) (f : Stream → Stream) : (s.modStream i f).clk = s.clk := rfl
@[simp] theorem State.modStream_ident (s : State) (i : Nat) (f : Stream → Stream) : (s.modStream i f).ident = s.ident := rfl
@[simp] theorem State.modStream_sideA (s : State) (i : Nat) (f : Stream → Stream) : (s.modStream i f).sideA = s.sideA := rfl
@[simp] theorem State.modStream_sideB (s : State) (i : Nat) (f : Stream → Stream) : (s.modStream i f).sideB = s.sideB := rfl
@[simp] theorem State.modStream_link (s : State) (i : Nat) (f : Stream → Stream) : (s.modStream i f).link = s.link := rfl
@[simp] theorem State.modStream_outA (s : State) (i : Nat) (f : Stream → Stream) : (s.modStream i f).outA = s.outA := rfl
@[simp] theorem State.modStream_outB (s : State) (i : Nat) (f : Stream → Stream) : (s.modStream i f).outB = s.outB := rfl
@[simp] theorem State.modStream_frame (s : State) (i : Nat) (f : Stream → Stream) : (s.modStream i f).frame = s.frame := rfl
@[simp] theorem State.modStream_queue (s : State) (i : Nat) (f : Stream → Stream) : (s.modStream i f).queue = s.queue := rfl
@[simp] theorem State.modStream_port (s : State) (i : Nat) (f : Stream → Stream) : (s.modStream i f).port = s.port := rfl
@[simp] theorem State.modStream_fixer (s : State) (i : Nat) (f : Stream → Stream) : (s.modStream i f).fixer = s.fixer := rfl
@[simp] theorem State.modStream_front (s : State) (i : Nat) (f : Stream → Stream) : (s.modStream i f).front = s.front := rfl
@[simp] theorem State.modStream_decim (s : State) (i : Nat) (f : Stream → Stream) : (s.modStream i f).decim = s.decim := rfl
@[simp] theorem State.modStream_aper (s : State) (i : Nat) (f : Stream → Stream) : (s.modStream i f).aper = s.aper := rfl
@[simp] theorem State.modStream_mx (s : State) (i : Nat) (f : Stream → Stream) : (s.modStream i f).mx = s.mx := rfl
@[simp] theorem State.modStream_sheet (s : State) (i : Nat) (f : Stream → Stream) : (s.modStream i f).sheet = s.sheet := rfl
@[simp] theorem State.modStream_latent (s : State) (i : Nat) (f : Stream → Stream) : (s.modStream i f).latent = s.latent := rfl
@[simp] theorem State.modStream_print (s : State) (i : Nat) (f : Stream → Stream) : (s.modStream i f).print = s.print := rfl
@[simp] theorem State.modStream_stage (s : State) (i : Nat) (f : Stream → Stream) : (s.modStream i f).stage = s.stage := rfl
@[simp] theorem State.modStream_bank (s : State) (i : Nat) (f : Stream → Stream) : (s.modStream i f).bank = s.bank := rfl
@[simp] theorem State.modStream_mode (s : State) (i : Nat) (f : Stream → Stream) : (s.modStream i f).mode = s.mode := rfl
@[simp] theorem State.modStream_loupe (s : State) (i : Nat) (f : Stream → Stream) : (s.modStream i f).loupe = s.loupe := rfl
@[simp] theorem State.modStream_mem (s : State) (i : Nat) (f : Stream → Stream) : (s.modStream i f).mem = s.mem := rfl
@[simp] theorem State.modStream_free (s : State) (i : Nat) (f : Stream → Stream) : (s.modStream i f).free = s.free := rfl
@[simp] theorem State.modStream_pending (s : State) (i : Nat) (f : Stream → Stream) : (s.modStream i f).pending = s.pending := rfl

/-! ### modTracker -/

@[simp] theorem State.modTracker_regs (s : State) (p i : Nat) (f : Tracker → Tracker) : (s.modTracker p i f).regs = s.regs := rfl
@[simp] theorem State.modTracker_strapRegs (s : State) (p i : Nat) (f : Tracker → Tracker) : (s.modTracker p i f).strapRegs = s.strapRegs := rfl
@[simp] theorem State.modTracker_par (s : State) (p i : Nat) (f : Tracker → Tracker) : (s.modTracker p i f).par = s.par := rfl
@[simp] theorem State.modTracker_sset (s : State) (p i : Nat) (f : Tracker → Tracker) : (s.modTracker p i f).sset = s.sset := rfl
@[simp] theorem State.modTracker_bumped (s : State) (p i : Nat) (f : Tracker → Tracker) : (s.modTracker p i f).bumped = s.bumped := rfl
@[simp] theorem State.modTracker_caused (s : State) (p i : Nat) (f : Tracker → Tracker) : (s.modTracker p i f).caused = s.caused := rfl
@[simp] theorem State.modTracker_clk (s : State) (p i : Nat) (f : Tracker → Tracker) : (s.modTracker p i f).clk = s.clk := rfl
@[simp] theorem State.modTracker_ident (s : State) (p i : Nat) (f : Tracker → Tracker) : (s.modTracker p i f).ident = s.ident := rfl
@[simp] theorem State.modTracker_sideA (s : State) (p i : Nat) (f : Tracker → Tracker) : (s.modTracker p i f).sideA = s.sideA := rfl
@[simp] theorem State.modTracker_sideB (s : State) (p i : Nat) (f : Tracker → Tracker) : (s.modTracker p i f).sideB = s.sideB := rfl
@[simp] theorem State.modTracker_link (s : State) (p i : Nat) (f : Tracker → Tracker) : (s.modTracker p i f).link = s.link := rfl
@[simp] theorem State.modTracker_outA (s : State) (p i : Nat) (f : Tracker → Tracker) : (s.modTracker p i f).outA = s.outA := rfl
@[simp] theorem State.modTracker_outB (s : State) (p i : Nat) (f : Tracker → Tracker) : (s.modTracker p i f).outB = s.outB := rfl
@[simp] theorem State.modTracker_frame (s : State) (p i : Nat) (f : Tracker → Tracker) : (s.modTracker p i f).frame = s.frame := rfl
@[simp] theorem State.modTracker_queue (s : State) (p i : Nat) (f : Tracker → Tracker) : (s.modTracker p i f).queue = s.queue := rfl
@[simp] theorem State.modTracker_port (s : State) (p i : Nat) (f : Tracker → Tracker) : (s.modTracker p i f).port = s.port := rfl
@[simp] theorem State.modTracker_fixer (s : State) (p i : Nat) (f : Tracker → Tracker) : (s.modTracker p i f).fixer = s.fixer := rfl
@[simp] theorem State.modTracker_front (s : State) (p i : Nat) (f : Tracker → Tracker) : (s.modTracker p i f).front = s.front := rfl
@[simp] theorem State.modTracker_decim (s : State) (p i : Nat) (f : Tracker → Tracker) : (s.modTracker p i f).decim = s.decim := rfl
@[simp] theorem State.modTracker_aper (s : State) (p i : Nat) (f : Tracker → Tracker) : (s.modTracker p i f).aper = s.aper := rfl
@[simp] theorem State.modTracker_mx (s : State) (p i : Nat) (f : Tracker → Tracker) : (s.modTracker p i f).mx = s.mx := rfl
@[simp] theorem State.modTracker_sheet (s : State) (p i : Nat) (f : Tracker → Tracker) : (s.modTracker p i f).sheet = s.sheet := rfl
@[simp] theorem State.modTracker_latent (s : State) (p i : Nat) (f : Tracker → Tracker) : (s.modTracker p i f).latent = s.latent := rfl
@[simp] theorem State.modTracker_print (s : State) (p i : Nat) (f : Tracker → Tracker) : (s.modTracker p i f).print = s.print := rfl
@[simp] theorem State.modTracker_stage (s : State) (p i : Nat) (f : Tracker → Tracker) : (s.modTracker p i f).stage = s.stage := rfl
@[simp] theorem State.modTracker_bank (s : State) (p i : Nat) (f : Tracker → Tracker) : (s.modTracker p i f).bank = s.bank := rfl
@[simp] theorem State.modTracker_mode (s : State) (p i : Nat) (f : Tracker → Tracker) : (s.modTracker p i f).mode = s.mode := rfl
@[simp] theorem State.modTracker_loupe (s : State) (p i : Nat) (f : Tracker → Tracker) : (s.modTracker p i f).loupe = s.loupe := rfl
@[simp] theorem State.modTracker_mem (s : State) (p i : Nat) (f : Tracker → Tracker) : (s.modTracker p i f).mem = s.mem := rfl
@[simp] theorem State.modTracker_free (s : State) (p i : Nat) (f : Tracker → Tracker) : (s.modTracker p i f).free = s.free := rfl
@[simp] theorem State.modTracker_pending (s : State) (p i : Nat) (f : Tracker → Tracker) : (s.modTracker p i f).pending = s.pending := rfl

/-! ### modRing -/

@[simp] theorem State.modRing_regs (s : State) (watch : Bool) (f : Ring → Ring) : (s.modRing watch f).regs = s.regs := by cases watch <;> rfl
@[simp] theorem State.modRing_strapRegs (s : State) (watch : Bool) (f : Ring → Ring) : (s.modRing watch f).strapRegs = s.strapRegs := by cases watch <;> rfl
@[simp] theorem State.modRing_par (s : State) (watch : Bool) (f : Ring → Ring) : (s.modRing watch f).par = s.par := by cases watch <;> rfl
@[simp] theorem State.modRing_sset (s : State) (watch : Bool) (f : Ring → Ring) : (s.modRing watch f).sset = s.sset := by cases watch <;> rfl
@[simp] theorem State.modRing_bumped (s : State) (watch : Bool) (f : Ring → Ring) : (s.modRing watch f).bumped = s.bumped := by cases watch <;> rfl
@[simp] theorem State.modRing_caused (s : State) (watch : Bool) (f : Ring → Ring) : (s.modRing watch f).caused = s.caused := by cases watch <;> rfl
@[simp] theorem State.modRing_clk (s : State) (watch : Bool) (f : Ring → Ring) : (s.modRing watch f).clk = s.clk := by cases watch <;> rfl
@[simp] theorem State.modRing_ident (s : State) (watch : Bool) (f : Ring → Ring) : (s.modRing watch f).ident = s.ident := by cases watch <;> rfl
@[simp] theorem State.modRing_sideA (s : State) (watch : Bool) (f : Ring → Ring) : (s.modRing watch f).sideA = s.sideA := by cases watch <;> rfl
@[simp] theorem State.modRing_sideB (s : State) (watch : Bool) (f : Ring → Ring) : (s.modRing watch f).sideB = s.sideB := by cases watch <;> rfl
@[simp] theorem State.modRing_link (s : State) (watch : Bool) (f : Ring → Ring) : (s.modRing watch f).link = s.link := by cases watch <;> rfl
@[simp] theorem State.modRing_outA (s : State) (watch : Bool) (f : Ring → Ring) : (s.modRing watch f).outA = s.outA := by cases watch <;> rfl
@[simp] theorem State.modRing_outB (s : State) (watch : Bool) (f : Ring → Ring) : (s.modRing watch f).outB = s.outB := by cases watch <;> rfl
@[simp] theorem State.modRing_frame (s : State) (watch : Bool) (f : Ring → Ring) : (s.modRing watch f).frame = s.frame := by cases watch <;> rfl
@[simp] theorem State.modRing_queue (s : State) (watch : Bool) (f : Ring → Ring) : (s.modRing watch f).queue = s.queue := by cases watch <;> rfl
@[simp] theorem State.modRing_port (s : State) (watch : Bool) (f : Ring → Ring) : (s.modRing watch f).port = s.port := by cases watch <;> rfl
@[simp] theorem State.modRing_fixer (s : State) (watch : Bool) (f : Ring → Ring) : (s.modRing watch f).fixer = s.fixer := by cases watch <;> rfl
@[simp] theorem State.modRing_front (s : State) (watch : Bool) (f : Ring → Ring) : (s.modRing watch f).front = s.front := by cases watch <;> rfl
@[simp] theorem State.modRing_decim (s : State) (watch : Bool) (f : Ring → Ring) : (s.modRing watch f).decim = s.decim := by cases watch <;> rfl
@[simp] theorem State.modRing_aper (s : State) (watch : Bool) (f : Ring → Ring) : (s.modRing watch f).aper = s.aper := by cases watch <;> rfl
@[simp] theorem State.modRing_mx (s : State) (watch : Bool) (f : Ring → Ring) : (s.modRing watch f).mx = s.mx := by cases watch <;> rfl
@[simp] theorem State.modRing_dev (s : State) (watch : Bool) (f : Ring → Ring) : (s.modRing watch f).dev = s.dev := by cases watch <;> rfl
@[simp] theorem State.modRing_sheet (s : State) (watch : Bool) (f : Ring → Ring) : (s.modRing watch f).sheet = s.sheet := by cases watch <;> rfl
@[simp] theorem State.modRing_print (s : State) (watch : Bool) (f : Ring → Ring) : (s.modRing watch f).print = s.print := by cases watch <;> rfl
@[simp] theorem State.modRing_stage (s : State) (watch : Bool) (f : Ring → Ring) : (s.modRing watch f).stage = s.stage := by cases watch <;> rfl
@[simp] theorem State.modRing_bank (s : State) (watch : Bool) (f : Ring → Ring) : (s.modRing watch f).bank = s.bank := by cases watch <;> rfl
@[simp] theorem State.modRing_mode (s : State) (watch : Bool) (f : Ring → Ring) : (s.modRing watch f).mode = s.mode := by cases watch <;> rfl
@[simp] theorem State.modRing_loupe (s : State) (watch : Bool) (f : Ring → Ring) : (s.modRing watch f).loupe = s.loupe := by cases watch <;> rfl
@[simp] theorem State.modRing_mem (s : State) (watch : Bool) (f : Ring → Ring) : (s.modRing watch f).mem = s.mem := by cases watch <;> rfl
@[simp] theorem State.modRing_free (s : State) (watch : Bool) (f : Ring → Ring) : (s.modRing watch f).free = s.free := by cases watch <;> rfl
@[simp] theorem State.modRing_pending (s : State) (watch : Bool) (f : Ring → Ring) : (s.modRing watch f).pending = s.pending := by cases watch <;> rfl

/-! ### modDrive -/

@[simp] theorem State.modDrive_regs (s : State) (n : Nat) (f : Drive → Drive) : (s.modDrive n f).regs = s.regs := rfl
@[simp] theorem State.modDrive_strapRegs (s : State) (n : Nat) (f : Drive → Drive) : (s.modDrive n f).strapRegs = s.strapRegs := rfl
@[simp] theorem State.modDrive_par (s : State) (n : Nat) (f : Drive → Drive) : (s.modDrive n f).par = s.par := rfl
@[simp] theorem State.modDrive_sset (s : State) (n : Nat) (f : Drive → Drive) : (s.modDrive n f).sset = s.sset := rfl
@[simp] theorem State.modDrive_bumped (s : State) (n : Nat) (f : Drive → Drive) : (s.modDrive n f).bumped = s.bumped := rfl
@[simp] theorem State.modDrive_caused (s : State) (n : Nat) (f : Drive → Drive) : (s.modDrive n f).caused = s.caused := rfl
@[simp] theorem State.modDrive_clk (s : State) (n : Nat) (f : Drive → Drive) : (s.modDrive n f).clk = s.clk := rfl
@[simp] theorem State.modDrive_ident (s : State) (n : Nat) (f : Drive → Drive) : (s.modDrive n f).ident = s.ident := rfl
@[simp] theorem State.modDrive_sideA (s : State) (n : Nat) (f : Drive → Drive) : (s.modDrive n f).sideA = s.sideA := rfl
@[simp] theorem State.modDrive_sideB (s : State) (n : Nat) (f : Drive → Drive) : (s.modDrive n f).sideB = s.sideB := rfl
@[simp] theorem State.modDrive_link (s : State) (n : Nat) (f : Drive → Drive) : (s.modDrive n f).link = s.link := rfl
@[simp] theorem State.modDrive_outA (s : State) (n : Nat) (f : Drive → Drive) : (s.modDrive n f).outA = s.outA := rfl
@[simp] theorem State.modDrive_outB (s : State) (n : Nat) (f : Drive → Drive) : (s.modDrive n f).outB = s.outB := rfl
@[simp] theorem State.modDrive_frame (s : State) (n : Nat) (f : Drive → Drive) : (s.modDrive n f).frame = s.frame := rfl
@[simp] theorem State.modDrive_queue (s : State) (n : Nat) (f : Drive → Drive) : (s.modDrive n f).queue = s.queue := rfl
@[simp] theorem State.modDrive_port (s : State) (n : Nat) (f : Drive → Drive) : (s.modDrive n f).port = s.port := rfl
@[simp] theorem State.modDrive_fixer (s : State) (n : Nat) (f : Drive → Drive) : (s.modDrive n f).fixer = s.fixer := rfl
@[simp] theorem State.modDrive_front (s : State) (n : Nat) (f : Drive → Drive) : (s.modDrive n f).front = s.front := rfl
@[simp] theorem State.modDrive_decim (s : State) (n : Nat) (f : Drive → Drive) : (s.modDrive n f).decim = s.decim := rfl
@[simp] theorem State.modDrive_aper (s : State) (n : Nat) (f : Drive → Drive) : (s.modDrive n f).aper = s.aper := rfl
@[simp] theorem State.modDrive_mx (s : State) (n : Nat) (f : Drive → Drive) : (s.modDrive n f).mx = s.mx := rfl
@[simp] theorem State.modDrive_dev (s : State) (n : Nat) (f : Drive → Drive) : (s.modDrive n f).dev = s.dev := rfl
@[simp] theorem State.modDrive_sheet (s : State) (n : Nat) (f : Drive → Drive) : (s.modDrive n f).sheet = s.sheet := rfl
@[simp] theorem State.modDrive_latent (s : State) (n : Nat) (f : Drive → Drive) : (s.modDrive n f).latent = s.latent := rfl
@[simp] theorem State.modDrive_stage (s : State) (n : Nat) (f : Drive → Drive) : (s.modDrive n f).stage = s.stage := rfl
@[simp] theorem State.modDrive_bank (s : State) (n : Nat) (f : Drive → Drive) : (s.modDrive n f).bank = s.bank := rfl
@[simp] theorem State.modDrive_mode (s : State) (n : Nat) (f : Drive → Drive) : (s.modDrive n f).mode = s.mode := rfl
@[simp] theorem State.modDrive_loupe (s : State) (n : Nat) (f : Drive → Drive) : (s.modDrive n f).loupe = s.loupe := rfl
@[simp] theorem State.modDrive_mem (s : State) (n : Nat) (f : Drive → Drive) : (s.modDrive n f).mem = s.mem := rfl
@[simp] theorem State.modDrive_free (s : State) (n : Nat) (f : Drive → Drive) : (s.modDrive n f).free = s.free := rfl
@[simp] theorem State.modDrive_pending (s : State) (n : Nat) (f : Drive → Drive) : (s.modDrive n f).pending = s.pending := rfl

/-! ### modStage -/

@[simp] theorem State.modStage_regs (s : State) (n : Nat) (f : StageCh → StageCh) : (s.modStage n f).regs = s.regs := rfl
@[simp] theorem State.modStage_strapRegs (s : State) (n : Nat) (f : StageCh → StageCh) : (s.modStage n f).strapRegs = s.strapRegs := rfl
@[simp] theorem State.modStage_par (s : State) (n : Nat) (f : StageCh → StageCh) : (s.modStage n f).par = s.par := rfl
@[simp] theorem State.modStage_sset (s : State) (n : Nat) (f : StageCh → StageCh) : (s.modStage n f).sset = s.sset := rfl
@[simp] theorem State.modStage_bumped (s : State) (n : Nat) (f : StageCh → StageCh) : (s.modStage n f).bumped = s.bumped := rfl
@[simp] theorem State.modStage_caused (s : State) (n : Nat) (f : StageCh → StageCh) : (s.modStage n f).caused = s.caused := rfl
@[simp] theorem State.modStage_clk (s : State) (n : Nat) (f : StageCh → StageCh) : (s.modStage n f).clk = s.clk := rfl
@[simp] theorem State.modStage_ident (s : State) (n : Nat) (f : StageCh → StageCh) : (s.modStage n f).ident = s.ident := rfl
@[simp] theorem State.modStage_sideA (s : State) (n : Nat) (f : StageCh → StageCh) : (s.modStage n f).sideA = s.sideA := rfl
@[simp] theorem State.modStage_sideB (s : State) (n : Nat) (f : StageCh → StageCh) : (s.modStage n f).sideB = s.sideB := rfl
@[simp] theorem State.modStage_link (s : State) (n : Nat) (f : StageCh → StageCh) : (s.modStage n f).link = s.link := rfl
@[simp] theorem State.modStage_outA (s : State) (n : Nat) (f : StageCh → StageCh) : (s.modStage n f).outA = s.outA := rfl
@[simp] theorem State.modStage_outB (s : State) (n : Nat) (f : StageCh → StageCh) : (s.modStage n f).outB = s.outB := rfl
@[simp] theorem State.modStage_frame (s : State) (n : Nat) (f : StageCh → StageCh) : (s.modStage n f).frame = s.frame := rfl
@[simp] theorem State.modStage_queue (s : State) (n : Nat) (f : StageCh → StageCh) : (s.modStage n f).queue = s.queue := rfl
@[simp] theorem State.modStage_port (s : State) (n : Nat) (f : StageCh → StageCh) : (s.modStage n f).port = s.port := rfl
@[simp] theorem State.modStage_fixer (s : State) (n : Nat) (f : StageCh → StageCh) : (s.modStage n f).fixer = s.fixer := rfl
@[simp] theorem State.modStage_front (s : State) (n : Nat) (f : StageCh → StageCh) : (s.modStage n f).front = s.front := rfl
@[simp] theorem State.modStage_decim (s : State) (n : Nat) (f : StageCh → StageCh) : (s.modStage n f).decim = s.decim := rfl
@[simp] theorem State.modStage_aper (s : State) (n : Nat) (f : StageCh → StageCh) : (s.modStage n f).aper = s.aper := rfl
@[simp] theorem State.modStage_mx (s : State) (n : Nat) (f : StageCh → StageCh) : (s.modStage n f).mx = s.mx := rfl
@[simp] theorem State.modStage_dev (s : State) (n : Nat) (f : StageCh → StageCh) : (s.modStage n f).dev = s.dev := rfl
@[simp] theorem State.modStage_sheet (s : State) (n : Nat) (f : StageCh → StageCh) : (s.modStage n f).sheet = s.sheet := rfl
@[simp] theorem State.modStage_latent (s : State) (n : Nat) (f : StageCh → StageCh) : (s.modStage n f).latent = s.latent := rfl
@[simp] theorem State.modStage_print (s : State) (n : Nat) (f : StageCh → StageCh) : (s.modStage n f).print = s.print := rfl
@[simp] theorem State.modStage_bank (s : State) (n : Nat) (f : StageCh → StageCh) : (s.modStage n f).bank = s.bank := rfl
@[simp] theorem State.modStage_mode (s : State) (n : Nat) (f : StageCh → StageCh) : (s.modStage n f).mode = s.mode := rfl
@[simp] theorem State.modStage_loupe (s : State) (n : Nat) (f : StageCh → StageCh) : (s.modStage n f).loupe = s.loupe := rfl
@[simp] theorem State.modStage_mem (s : State) (n : Nat) (f : StageCh → StageCh) : (s.modStage n f).mem = s.mem := rfl
@[simp] theorem State.modStage_free (s : State) (n : Nat) (f : StageCh → StageCh) : (s.modStage n f).free = s.free := rfl
@[simp] theorem State.modStage_pending (s : State) (n : Nat) (f : StageCh → StageCh) : (s.modStage n f).pending = s.pending := rfl

/-! ### setTag -/

@[simp] theorem State.setTag_regs (s : State) (t : Nat) (st : TagState) : (s.setTag t st).regs = s.regs := rfl
@[simp] theorem State.setTag_strapRegs (s : State) (t : Nat) (st : TagState) : (s.setTag t st).strapRegs = s.strapRegs := rfl
@[simp] theorem State.setTag_par (s : State) (t : Nat) (st : TagState) : (s.setTag t st).par = s.par := rfl
@[simp] theorem State.setTag_sset (s : State) (t : Nat) (st : TagState) : (s.setTag t st).sset = s.sset := rfl
@[simp] theorem State.setTag_bumped (s : State) (t : Nat) (st : TagState) : (s.setTag t st).bumped = s.bumped := rfl
@[simp] theorem State.setTag_caused (s : State) (t : Nat) (st : TagState) : (s.setTag t st).caused = s.caused := rfl
@[simp] theorem State.setTag_clk (s : State) (t : Nat) (st : TagState) : (s.setTag t st).clk = s.clk := rfl
@[simp] theorem State.setTag_ident (s : State) (t : Nat) (st : TagState) : (s.setTag t st).ident = s.ident := rfl
@[simp] theorem State.setTag_sideA (s : State) (t : Nat) (st : TagState) : (s.setTag t st).sideA = s.sideA := rfl
@[simp] theorem State.setTag_sideB (s : State) (t : Nat) (st : TagState) : (s.setTag t st).sideB = s.sideB := rfl
@[simp] theorem State.setTag_link (s : State) (t : Nat) (st : TagState) : (s.setTag t st).link = s.link := rfl
@[simp] theorem State.setTag_outA (s : State) (t : Nat) (st : TagState) : (s.setTag t st).outA = s.outA := rfl
@[simp] theorem State.setTag_outB (s : State) (t : Nat) (st : TagState) : (s.setTag t st).outB = s.outB := rfl
@[simp] theorem State.setTag_frame (s : State) (t : Nat) (st : TagState) : (s.setTag t st).frame = s.frame := rfl
@[simp] theorem State.setTag_port (s : State) (t : Nat) (st : TagState) : (s.setTag t st).port = s.port := rfl
@[simp] theorem State.setTag_fixer (s : State) (t : Nat) (st : TagState) : (s.setTag t st).fixer = s.fixer := rfl
@[simp] theorem State.setTag_front (s : State) (t : Nat) (st : TagState) : (s.setTag t st).front = s.front := rfl
@[simp] theorem State.setTag_decim (s : State) (t : Nat) (st : TagState) : (s.setTag t st).decim = s.decim := rfl
@[simp] theorem State.setTag_aper (s : State) (t : Nat) (st : TagState) : (s.setTag t st).aper = s.aper := rfl
@[simp] theorem State.setTag_mx (s : State) (t : Nat) (st : TagState) : (s.setTag t st).mx = s.mx := rfl
@[simp] theorem State.setTag_dev (s : State) (t : Nat) (st : TagState) : (s.setTag t st).dev = s.dev := rfl
@[simp] theorem State.setTag_sheet (s : State) (t : Nat) (st : TagState) : (s.setTag t st).sheet = s.sheet := rfl
@[simp] theorem State.setTag_latent (s : State) (t : Nat) (st : TagState) : (s.setTag t st).latent = s.latent := rfl
@[simp] theorem State.setTag_print (s : State) (t : Nat) (st : TagState) : (s.setTag t st).print = s.print := rfl
@[simp] theorem State.setTag_stage (s : State) (t : Nat) (st : TagState) : (s.setTag t st).stage = s.stage := rfl
@[simp] theorem State.setTag_bank (s : State) (t : Nat) (st : TagState) : (s.setTag t st).bank = s.bank := rfl
@[simp] theorem State.setTag_mode (s : State) (t : Nat) (st : TagState) : (s.setTag t st).mode = s.mode := rfl
@[simp] theorem State.setTag_loupe (s : State) (t : Nat) (st : TagState) : (s.setTag t st).loupe = s.loupe := rfl
@[simp] theorem State.setTag_mem (s : State) (t : Nat) (st : TagState) : (s.setTag t st).mem = s.mem := rfl
@[simp] theorem State.setTag_free (s : State) (t : Nat) (st : TagState) : (s.setTag t st).free = s.free := rfl
@[simp] theorem State.setTag_pending (s : State) (t : Nat) (st : TagState) : (s.setTag t st).pending = s.pending := rfl

/-! ### setArmed -/

@[simp] theorem State.setArmed_regs (s : State) (src : Src) (o : Option Armed) : (s.setArmed src o).regs = s.regs := rfl
@[simp] theorem State.setArmed_strapRegs (s : State) (src : Src) (o : Option Armed) : (s.setArmed src o).strapRegs = s.strapRegs := rfl
@[simp] theorem State.setArmed_par (s : State) (src : Src) (o : Option Armed) : (s.setArmed src o).par = s.par := rfl
@[simp] theorem State.setArmed_sset (s : State) (src : Src) (o : Option Armed) : (s.setArmed src o).sset = s.sset := rfl
@[simp] theorem State.setArmed_bumped (s : State) (src : Src) (o : Option Armed) : (s.setArmed src o).bumped = s.bumped := rfl
@[simp] theorem State.setArmed_caused (s : State) (src : Src) (o : Option Armed) : (s.setArmed src o).caused = s.caused := rfl
@[simp] theorem State.setArmed_clk (s : State) (src : Src) (o : Option Armed) : (s.setArmed src o).clk = s.clk := rfl
@[simp] theorem State.setArmed_ident (s : State) (src : Src) (o : Option Armed) : (s.setArmed src o).ident = s.ident := rfl
@[simp] theorem State.setArmed_sideA (s : State) (src : Src) (o : Option Armed) : (s.setArmed src o).sideA = s.sideA := rfl
@[simp] theorem State.setArmed_sideB (s : State) (src : Src) (o : Option Armed) : (s.setArmed src o).sideB = s.sideB := rfl
@[simp] theorem State.setArmed_link (s : State) (src : Src) (o : Option Armed) : (s.setArmed src o).link = s.link := rfl
@[simp] theorem State.setArmed_outA (s : State) (src : Src) (o : Option Armed) : (s.setArmed src o).outA = s.outA := rfl
@[simp] theorem State.setArmed_outB (s : State) (src : Src) (o : Option Armed) : (s.setArmed src o).outB = s.outB := rfl
@[simp] theorem State.setArmed_frame (s : State) (src : Src) (o : Option Armed) : (s.setArmed src o).frame = s.frame := rfl
@[simp] theorem State.setArmed_queue (s : State) (src : Src) (o : Option Armed) : (s.setArmed src o).queue = s.queue := rfl
@[simp] theorem State.setArmed_fixer (s : State) (src : Src) (o : Option Armed) : (s.setArmed src o).fixer = s.fixer := rfl
@[simp] theorem State.setArmed_front (s : State) (src : Src) (o : Option Armed) : (s.setArmed src o).front = s.front := rfl
@[simp] theorem State.setArmed_decim (s : State) (src : Src) (o : Option Armed) : (s.setArmed src o).decim = s.decim := rfl
@[simp] theorem State.setArmed_aper (s : State) (src : Src) (o : Option Armed) : (s.setArmed src o).aper = s.aper := rfl
@[simp] theorem State.setArmed_mx (s : State) (src : Src) (o : Option Armed) : (s.setArmed src o).mx = s.mx := rfl
@[simp] theorem State.setArmed_dev (s : State) (src : Src) (o : Option Armed) : (s.setArmed src o).dev = s.dev := rfl
@[simp] theorem State.setArmed_sheet (s : State) (src : Src) (o : Option Armed) : (s.setArmed src o).sheet = s.sheet := rfl
@[simp] theorem State.setArmed_latent (s : State) (src : Src) (o : Option Armed) : (s.setArmed src o).latent = s.latent := rfl
@[simp] theorem State.setArmed_print (s : State) (src : Src) (o : Option Armed) : (s.setArmed src o).print = s.print := rfl
@[simp] theorem State.setArmed_stage (s : State) (src : Src) (o : Option Armed) : (s.setArmed src o).stage = s.stage := rfl
@[simp] theorem State.setArmed_bank (s : State) (src : Src) (o : Option Armed) : (s.setArmed src o).bank = s.bank := rfl
@[simp] theorem State.setArmed_mode (s : State) (src : Src) (o : Option Armed) : (s.setArmed src o).mode = s.mode := rfl
@[simp] theorem State.setArmed_loupe (s : State) (src : Src) (o : Option Armed) : (s.setArmed src o).loupe = s.loupe := rfl
@[simp] theorem State.setArmed_mem (s : State) (src : Src) (o : Option Armed) : (s.setArmed src o).mem = s.mem := rfl
@[simp] theorem State.setArmed_free (s : State) (src : Src) (o : Option Armed) : (s.setArmed src o).free = s.free := rfl
@[simp] theorem State.setArmed_pending (s : State) (src : Src) (o : Option Armed) : (s.setArmed src o).pending = s.pending := rfl

/-! ### answer -/

@[simp] theorem State.answer_regs (s : State) (status : Nat) (data : List Word) : (s.answer status data).regs = s.regs := rfl
@[simp] theorem State.answer_strapRegs (s : State) (status : Nat) (data : List Word) : (s.answer status data).strapRegs = s.strapRegs := rfl
@[simp] theorem State.answer_par (s : State) (status : Nat) (data : List Word) : (s.answer status data).par = s.par := rfl
@[simp] theorem State.answer_sset (s : State) (status : Nat) (data : List Word) : (s.answer status data).sset = s.sset := rfl
@[simp] theorem State.answer_bumped (s : State) (status : Nat) (data : List Word) : (s.answer status data).bumped = s.bumped := rfl
@[simp] theorem State.answer_caused (s : State) (status : Nat) (data : List Word) : (s.answer status data).caused = s.caused := rfl
@[simp] theorem State.answer_clk (s : State) (status : Nat) (data : List Word) : (s.answer status data).clk = s.clk := rfl
@[simp] theorem State.answer_ident (s : State) (status : Nat) (data : List Word) : (s.answer status data).ident = s.ident := rfl
@[simp] theorem State.answer_sideA (s : State) (status : Nat) (data : List Word) : (s.answer status data).sideA = s.sideA := rfl
@[simp] theorem State.answer_sideB (s : State) (status : Nat) (data : List Word) : (s.answer status data).sideB = s.sideB := rfl
@[simp] theorem State.answer_link (s : State) (status : Nat) (data : List Word) : (s.answer status data).link = s.link := rfl
@[simp] theorem State.answer_outA (s : State) (status : Nat) (data : List Word) : (s.answer status data).outA = s.outA := rfl
@[simp] theorem State.answer_outB (s : State) (status : Nat) (data : List Word) : (s.answer status data).outB = s.outB := rfl
@[simp] theorem State.answer_frame (s : State) (status : Nat) (data : List Word) : (s.answer status data).frame = s.frame := rfl
@[simp] theorem State.answer_queue (s : State) (status : Nat) (data : List Word) : (s.answer status data).queue = s.queue := rfl
@[simp] theorem State.answer_fixer (s : State) (status : Nat) (data : List Word) : (s.answer status data).fixer = s.fixer := rfl
@[simp] theorem State.answer_front (s : State) (status : Nat) (data : List Word) : (s.answer status data).front = s.front := rfl
@[simp] theorem State.answer_decim (s : State) (status : Nat) (data : List Word) : (s.answer status data).decim = s.decim := rfl
@[simp] theorem State.answer_aper (s : State) (status : Nat) (data : List Word) : (s.answer status data).aper = s.aper := rfl
@[simp] theorem State.answer_mx (s : State) (status : Nat) (data : List Word) : (s.answer status data).mx = s.mx := rfl
@[simp] theorem State.answer_dev (s : State) (status : Nat) (data : List Word) : (s.answer status data).dev = s.dev := rfl
@[simp] theorem State.answer_sheet (s : State) (status : Nat) (data : List Word) : (s.answer status data).sheet = s.sheet := rfl
@[simp] theorem State.answer_latent (s : State) (status : Nat) (data : List Word) : (s.answer status data).latent = s.latent := rfl
@[simp] theorem State.answer_print (s : State) (status : Nat) (data : List Word) : (s.answer status data).print = s.print := rfl
@[simp] theorem State.answer_stage (s : State) (status : Nat) (data : List Word) : (s.answer status data).stage = s.stage := rfl
@[simp] theorem State.answer_bank (s : State) (status : Nat) (data : List Word) : (s.answer status data).bank = s.bank := rfl
@[simp] theorem State.answer_mode (s : State) (status : Nat) (data : List Word) : (s.answer status data).mode = s.mode := rfl
@[simp] theorem State.answer_loupe (s : State) (status : Nat) (data : List Word) : (s.answer status data).loupe = s.loupe := rfl
@[simp] theorem State.answer_mem (s : State) (status : Nat) (data : List Word) : (s.answer status data).mem = s.mem := rfl
@[simp] theorem State.answer_free (s : State) (status : Nat) (data : List Word) : (s.answer status data).free = s.free := rfl
@[simp] theorem State.answer_pending (s : State) (status : Nat) (data : List Word) : (s.answer status data).pending = s.pending := rfl

/-! ### push -/

@[simp] theorem State.push_regs (s : State) (c : Instr) : (s.push c).regs = s.regs := rfl
@[simp] theorem State.push_strapRegs (s : State) (c : Instr) : (s.push c).strapRegs = s.strapRegs := rfl
@[simp] theorem State.push_par (s : State) (c : Instr) : (s.push c).par = s.par := rfl
@[simp] theorem State.push_sset (s : State) (c : Instr) : (s.push c).sset = s.sset := rfl
@[simp] theorem State.push_bumped (s : State) (c : Instr) : (s.push c).bumped = s.bumped := rfl
@[simp] theorem State.push_caused (s : State) (c : Instr) : (s.push c).caused = s.caused := rfl
@[simp] theorem State.push_clk (s : State) (c : Instr) : (s.push c).clk = s.clk := rfl
@[simp] theorem State.push_ident (s : State) (c : Instr) : (s.push c).ident = s.ident := rfl
@[simp] theorem State.push_sideA (s : State) (c : Instr) : (s.push c).sideA = s.sideA := rfl
@[simp] theorem State.push_sideB (s : State) (c : Instr) : (s.push c).sideB = s.sideB := rfl
@[simp] theorem State.push_link (s : State) (c : Instr) : (s.push c).link = s.link := rfl
@[simp] theorem State.push_outA (s : State) (c : Instr) : (s.push c).outA = s.outA := rfl
@[simp] theorem State.push_outB (s : State) (c : Instr) : (s.push c).outB = s.outB := rfl
@[simp] theorem State.push_frame (s : State) (c : Instr) : (s.push c).frame = s.frame := rfl
@[simp] theorem State.push_queue (s : State) (c : Instr) : (s.push c).queue = s.queue := rfl
@[simp] theorem State.push_port (s : State) (c : Instr) : (s.push c).port = s.port := rfl
@[simp] theorem State.push_fixer (s : State) (c : Instr) : (s.push c).fixer = s.fixer := rfl
@[simp] theorem State.push_front (s : State) (c : Instr) : (s.push c).front = s.front := rfl
@[simp] theorem State.push_decim (s : State) (c : Instr) : (s.push c).decim = s.decim := rfl
@[simp] theorem State.push_aper (s : State) (c : Instr) : (s.push c).aper = s.aper := rfl
@[simp] theorem State.push_mx (s : State) (c : Instr) : (s.push c).mx = s.mx := rfl
@[simp] theorem State.push_dev (s : State) (c : Instr) : (s.push c).dev = s.dev := rfl
@[simp] theorem State.push_sheet (s : State) (c : Instr) : (s.push c).sheet = s.sheet := rfl
@[simp] theorem State.push_latent (s : State) (c : Instr) : (s.push c).latent = s.latent := rfl
@[simp] theorem State.push_print (s : State) (c : Instr) : (s.push c).print = s.print := rfl
@[simp] theorem State.push_stage (s : State) (c : Instr) : (s.push c).stage = s.stage := rfl
@[simp] theorem State.push_bank (s : State) (c : Instr) : (s.push c).bank = s.bank := rfl
@[simp] theorem State.push_mode (s : State) (c : Instr) : (s.push c).mode = s.mode := rfl
@[simp] theorem State.push_loupe (s : State) (c : Instr) : (s.push c).loupe = s.loupe := rfl
@[simp] theorem State.push_mem (s : State) (c : Instr) : (s.push c).mem = s.mem := rfl
@[simp] theorem State.push_free (s : State) (c : Instr) : (s.push c).free = s.free := rfl

/-! ### stageEntry -/

@[simp] theorem State.stageEntry_strapRegs (s : State) (e : LogEntry) : (s.stageEntry e).strapRegs = s.strapRegs := by unfold State.stageEntry; dsimp only; (repeat' split) <;> simp
@[simp] theorem State.stageEntry_clk (s : State) (e : LogEntry) : (s.stageEntry e).clk = s.clk := by unfold State.stageEntry; dsimp only; (repeat' split) <;> simp
@[simp] theorem State.stageEntry_ident (s : State) (e : LogEntry) : (s.stageEntry e).ident = s.ident := by unfold State.stageEntry; dsimp only; (repeat' split) <;> simp
@[simp] theorem State.stageEntry_sideA (s : State) (e : LogEntry) : (s.stageEntry e).sideA = s.sideA := by unfold State.stageEntry; dsimp only; (repeat' split) <;> simp
@[simp] theorem State.stageEntry_sideB (s : State) (e : LogEntry) : (s.stageEntry e).sideB = s.sideB := by unfold State.stageEntry; dsimp only; (repeat' split) <;> simp
@[simp] theorem State.stageEntry_link (s : State) (e : LogEntry) : (s.stageEntry e).link = s.link := by unfold State.stageEntry; dsimp only; (repeat' split) <;> simp
@[simp] theorem State.stageEntry_outA (s : State) (e : LogEntry) : (s.stageEntry e).outA = s.outA := by unfold State.stageEntry; dsimp only; (repeat' split) <;> simp
@[simp] theorem State.stageEntry_outB (s : State) (e : LogEntry) : (s.stageEntry e).outB = s.outB := by unfold State.stageEntry; dsimp only; (repeat' split) <;> simp
@[simp] theorem State.stageEntry_frame (s : State) (e : LogEntry) : (s.stageEntry e).frame = s.frame := by unfold State.stageEntry; dsimp only; (repeat' split) <;> simp
@[simp] theorem State.stageEntry_queue (s : State) (e : LogEntry) : (s.stageEntry e).queue = s.queue := by unfold State.stageEntry; dsimp only; (repeat' split) <;> simp
@[simp] theorem State.stageEntry_port (s : State) (e : LogEntry) : (s.stageEntry e).port = s.port := by unfold State.stageEntry; dsimp only; (repeat' split) <;> simp
@[simp] theorem State.stageEntry_front (s : State) (e : LogEntry) : (s.stageEntry e).front = s.front := by unfold State.stageEntry; dsimp only; (repeat' split) <;> simp
@[simp] theorem State.stageEntry_decim (s : State) (e : LogEntry) : (s.stageEntry e).decim = s.decim := by unfold State.stageEntry; dsimp only; (repeat' split) <;> simp
@[simp] theorem State.stageEntry_aper (s : State) (e : LogEntry) : (s.stageEntry e).aper = s.aper := by unfold State.stageEntry; dsimp only; (repeat' split) <;> simp
@[simp] theorem State.stageEntry_mx (s : State) (e : LogEntry) : (s.stageEntry e).mx = s.mx := by unfold State.stageEntry; dsimp only; (repeat' split) <;> simp
@[simp] theorem State.stageEntry_dev (s : State) (e : LogEntry) : (s.stageEntry e).dev = s.dev := by unfold State.stageEntry; dsimp only; (repeat' split) <;> simp
@[simp] theorem State.stageEntry_sheet (s : State) (e : LogEntry) : (s.stageEntry e).sheet = s.sheet := by unfold State.stageEntry; dsimp only; (repeat' split) <;> simp
@[simp] theorem State.stageEntry_latent (s : State) (e : LogEntry) : (s.stageEntry e).latent = s.latent := by unfold State.stageEntry; dsimp only; (repeat' split) <;> simp
@[simp] theorem State.stageEntry_print (s : State) (e : LogEntry) : (s.stageEntry e).print = s.print := by unfold State.stageEntry; dsimp only; (repeat' split) <;> simp
@[simp] theorem State.stageEntry_stage (s : State) (e : LogEntry) : (s.stageEntry e).stage = s.stage := by unfold State.stageEntry; dsimp only; (repeat' split) <;> simp
@[simp] theorem State.stageEntry_bank (s : State) (e : LogEntry) : (s.stageEntry e).bank = s.bank := by unfold State.stageEntry; dsimp only; (repeat' split) <;> simp
@[simp] theorem State.stageEntry_mode (s : State) (e : LogEntry) : (s.stageEntry e).mode = s.mode := by unfold State.stageEntry; dsimp only; (repeat' split) <;> simp
@[simp] theorem State.stageEntry_loupe (s : State) (e : LogEntry) : (s.stageEntry e).loupe = s.loupe := by unfold State.stageEntry; dsimp only; (repeat' split) <;> simp
@[simp] theorem State.stageEntry_mem (s : State) (e : LogEntry) : (s.stageEntry e).mem = s.mem := by unfold State.stageEntry; dsimp only; (repeat' split) <;> simp
@[simp] theorem State.stageEntry_free (s : State) (e : LogEntry) : (s.stageEntry e).free = s.free := by unfold State.stageEntry; dsimp only; (repeat' split) <;> simp
@[simp] theorem State.stageEntry_pending (s : State) (e : LogEntry) : (s.stageEntry e).pending = s.pending := by unfold State.stageEntry; dsimp only; (repeat' split) <;> simp

/-! ### Staging a list of entries, and the end of a cycle -/

theorem State.stageAll_strapRegs (s : State) (l : List LogEntry) : (l.foldl State.stageEntry s).strapRegs = s.strapRegs := by
  induction l generalizing s with
  | nil => rfl
  | cons e l ih => rw [List.foldl_cons, ih, State.stageEntry_strapRegs]

@[simp] theorem State.endCycle_strapRegs (s : State) : s.endCycle.strapRegs = s.strapRegs := by
  unfold State.endCycle
  exact State.stageAll_strapRegs _ _

theorem State.stageAll_clk (s : State) (l : List LogEntry) : (l.foldl State.stageEntry s).clk = s.clk := by
  induction l generalizing s with
  | nil => rfl
  | cons e l ih => rw [List.foldl_cons, ih, State.stageEntry_clk]

@[simp] theorem State.endCycle_clk (s : State) : s.endCycle.clk = s.clk := by
  unfold State.endCycle
  exact State.stageAll_clk _ _

theorem State.stageAll_ident (s : State) (l : List LogEntry) : (l.foldl State.stageEntry s).ident = s.ident := by
  induction l generalizing s with
  | nil => rfl
  | cons e l ih => rw [List.foldl_cons, ih, State.stageEntry_ident]

@[simp] theorem State.endCycle_ident (s : State) : s.endCycle.ident = s.ident := by
  unfold State.endCycle
  exact State.stageAll_ident _ _

theorem State.stageAll_sideA (s : State) (l : List LogEntry) : (l.foldl State.stageEntry s).sideA = s.sideA := by
  induction l generalizing s with
  | nil => rfl
  | cons e l ih => rw [List.foldl_cons, ih, State.stageEntry_sideA]

@[simp] theorem State.endCycle_sideA (s : State) : s.endCycle.sideA = s.sideA := by
  unfold State.endCycle
  exact State.stageAll_sideA _ _

theorem State.stageAll_sideB (s : State) (l : List LogEntry) : (l.foldl State.stageEntry s).sideB = s.sideB := by
  induction l generalizing s with
  | nil => rfl
  | cons e l ih => rw [List.foldl_cons, ih, State.stageEntry_sideB]

@[simp] theorem State.endCycle_sideB (s : State) : s.endCycle.sideB = s.sideB := by
  unfold State.endCycle
  exact State.stageAll_sideB _ _

theorem State.stageAll_link (s : State) (l : List LogEntry) : (l.foldl State.stageEntry s).link = s.link := by
  induction l generalizing s with
  | nil => rfl
  | cons e l ih => rw [List.foldl_cons, ih, State.stageEntry_link]

@[simp] theorem State.endCycle_link (s : State) : s.endCycle.link = s.link := by
  unfold State.endCycle
  exact State.stageAll_link _ _

theorem State.stageAll_outA (s : State) (l : List LogEntry) : (l.foldl State.stageEntry s).outA = s.outA := by
  induction l generalizing s with
  | nil => rfl
  | cons e l ih => rw [List.foldl_cons, ih, State.stageEntry_outA]

@[simp] theorem State.endCycle_outA (s : State) : s.endCycle.outA = s.outA := by
  unfold State.endCycle
  exact State.stageAll_outA _ _

theorem State.stageAll_outB (s : State) (l : List LogEntry) : (l.foldl State.stageEntry s).outB = s.outB := by
  induction l generalizing s with
  | nil => rfl
  | cons e l ih => rw [List.foldl_cons, ih, State.stageEntry_outB]

@[simp] theorem State.endCycle_outB (s : State) : s.endCycle.outB = s.outB := by
  unfold State.endCycle
  exact State.stageAll_outB _ _

theorem State.stageAll_frame (s : State) (l : List LogEntry) : (l.foldl State.stageEntry s).frame = s.frame := by
  induction l generalizing s with
  | nil => rfl
  | cons e l ih => rw [List.foldl_cons, ih, State.stageEntry_frame]

@[simp] theorem State.endCycle_frame (s : State) : s.endCycle.frame = s.frame := by
  unfold State.endCycle
  exact State.stageAll_frame _ _

theorem State.stageAll_queue (s : State) (l : List LogEntry) : (l.foldl State.stageEntry s).queue = s.queue := by
  induction l generalizing s with
  | nil => rfl
  | cons e l ih => rw [List.foldl_cons, ih, State.stageEntry_queue]

@[simp] theorem State.endCycle_queue (s : State) : s.endCycle.queue = s.queue := by
  unfold State.endCycle
  exact State.stageAll_queue _ _

theorem State.stageAll_port (s : State) (l : List LogEntry) : (l.foldl State.stageEntry s).port = s.port := by
  induction l generalizing s with
  | nil => rfl
  | cons e l ih => rw [List.foldl_cons, ih, State.stageEntry_port]

@[simp] theorem State.endCycle_port (s : State) : s.endCycle.port = s.port := by
  unfold State.endCycle
  exact State.stageAll_port _ _

theorem State.stageAll_front (s : State) (l : List LogEntry) : (l.foldl State.stageEntry s).front = s.front := by
  induction l generalizing s with
  | nil => rfl
  | cons e l ih => rw [List.foldl_cons, ih, State.stageEntry_front]

@[simp] theorem State.endCycle_front (s : State) : s.endCycle.front = s.front := by
  unfold State.endCycle
  exact State.stageAll_front _ _

theorem State.stageAll_decim (s : State) (l : List LogEntry) : (l.foldl State.stageEntry s).decim = s.decim := by
  induction l generalizing s with
  | nil => rfl
  | cons e l ih => rw [List.foldl_cons, ih, State.stageEntry_decim]

@[simp] theorem State.endCycle_decim (s : State) : s.endCycle.decim = s.decim := by
  unfold State.endCycle
  exact State.stageAll_decim _ _

theorem State.stageAll_aper (s : State) (l : List LogEntry) : (l.foldl State.stageEntry s).aper = s.aper := by
  induction l generalizing s with
  | nil => rfl
  | cons e l ih => rw [List.foldl_cons, ih, State.stageEntry_aper]

@[simp] theorem State.endCycle_aper (s : State) : s.endCycle.aper = s.aper := by
  unfold State.endCycle
  exact State.stageAll_aper _ _

theorem State.stageAll_mx (s : State) (l : List LogEntry) : (l.foldl State.stageEntry s).mx = s.mx := by
  induction l generalizing s with
  | nil => rfl
  | cons e l ih => rw [List.foldl_cons, ih, State.stageEntry_mx]

@[simp] theorem State.endCycle_mx (s : State) : s.endCycle.mx = s.mx := by
  unfold State.endCycle
  exact State.stageAll_mx _ _

theorem State.stageAll_dev (s : State) (l : List LogEntry) : (l.foldl State.stageEntry s).dev = s.dev := by
  induction l generalizing s with
  | nil => rfl
  | cons e l ih => rw [List.foldl_cons, ih, State.stageEntry_dev]

@[simp] theorem State.endCycle_dev (s : State) : s.endCycle.dev = s.dev := by
  unfold State.endCycle
  exact State.stageAll_dev _ _

theorem State.stageAll_sheet (s : State) (l : List LogEntry) : (l.foldl State.stageEntry s).sheet = s.sheet := by
  induction l generalizing s with
  | nil => rfl
  | cons e l ih => rw [List.foldl_cons, ih, State.stageEntry_sheet]

@[simp] theorem State.endCycle_sheet (s : State) : s.endCycle.sheet = s.sheet := by
  unfold State.endCycle
  exact State.stageAll_sheet _ _

theorem State.stageAll_latent (s : State) (l : List LogEntry) : (l.foldl State.stageEntry s).latent = s.latent := by
  induction l generalizing s with
  | nil => rfl
  | cons e l ih => rw [List.foldl_cons, ih, State.stageEntry_latent]

@[simp] theorem State.endCycle_latent (s : State) : s.endCycle.latent = s.latent := by
  unfold State.endCycle
  exact State.stageAll_latent _ _

theorem State.stageAll_print (s : State) (l : List LogEntry) : (l.foldl State.stageEntry s).print = s.print := by
  induction l generalizing s with
  | nil => rfl
  | cons e l ih => rw [List.foldl_cons, ih, State.stageEntry_print]

@[simp] theorem State.endCycle_print (s : State) : s.endCycle.print = s.print := by
  unfold State.endCycle
  exact State.stageAll_print _ _

theorem State.stageAll_stage (s : State) (l : List LogEntry) : (l.foldl State.stageEntry s).stage = s.stage := by
  induction l generalizing s with
  | nil => rfl
  | cons e l ih => rw [List.foldl_cons, ih, State.stageEntry_stage]

@[simp] theorem State.endCycle_stage (s : State) : s.endCycle.stage = s.stage := by
  unfold State.endCycle
  exact State.stageAll_stage _ _

theorem State.stageAll_bank (s : State) (l : List LogEntry) : (l.foldl State.stageEntry s).bank = s.bank := by
  induction l generalizing s with
  | nil => rfl
  | cons e l ih => rw [List.foldl_cons, ih, State.stageEntry_bank]

@[simp] theorem State.endCycle_bank (s : State) : s.endCycle.bank = s.bank := by
  unfold State.endCycle
  exact State.stageAll_bank _ _

theorem State.stageAll_mode (s : State) (l : List LogEntry) : (l.foldl State.stageEntry s).mode = s.mode := by
  induction l generalizing s with
  | nil => rfl
  | cons e l ih => rw [List.foldl_cons, ih, State.stageEntry_mode]

@[simp] theorem State.endCycle_mode (s : State) : s.endCycle.mode = s.mode := by
  unfold State.endCycle
  exact State.stageAll_mode _ _

theorem State.stageAll_loupe (s : State) (l : List LogEntry) : (l.foldl State.stageEntry s).loupe = s.loupe := by
  induction l generalizing s with
  | nil => rfl
  | cons e l ih => rw [List.foldl_cons, ih, State.stageEntry_loupe]

@[simp] theorem State.endCycle_loupe (s : State) : s.endCycle.loupe = s.loupe := by
  unfold State.endCycle
  exact State.stageAll_loupe _ _

theorem State.stageAll_mem (s : State) (l : List LogEntry) : (l.foldl State.stageEntry s).mem = s.mem := by
  induction l generalizing s with
  | nil => rfl
  | cons e l ih => rw [List.foldl_cons, ih, State.stageEntry_mem]

@[simp] theorem State.endCycle_mem (s : State) : s.endCycle.mem = s.mem := by
  unfold State.endCycle
  exact State.stageAll_mem _ _

theorem State.stageAll_free (s : State) (l : List LogEntry) : (l.foldl State.stageEntry s).free = s.free := by
  induction l generalizing s with
  | nil => rfl
  | cons e l ih => rw [List.foldl_cons, ih, State.stageEntry_free]

@[simp] theorem State.endCycle_free (s : State) : s.endCycle.free = s.free := by
  unfold State.endCycle
  exact State.stageAll_free _ _

theorem State.stageAll_pending (s : State) (l : List LogEntry) : (l.foldl State.stageEntry s).pending = s.pending := by
  induction l generalizing s with
  | nil => rfl
  | cons e l ih => rw [List.foldl_cons, ih, State.stageEntry_pending]

@[simp] theorem State.endCycle_pending (s : State) : s.endCycle.pending = s.pending := by
  unfold State.endCycle
  exact State.stageAll_pending _ _

end Sys2Proof.Machine
end

