-- ==== Sys2Proof/Laws/Regs.lean ====
section
/-! SUPPORT. What a register reads as after each named update, what the end of a cycle does to the registers and to the log's
staging queue, and one step of the block. -/

namespace Sys2Proof.Machine

/-! ### Tables -/

@[simp] theorem assocGet_set_same {α : Type} (l : List (Nat × α)) (a : Nat) (v : α) : assocGet (assocSet l a v) a = some v := by
  induction l with
  | nil => simp [assocSet, assocGet]
  | cons p t ih => obtain ⟨k, w⟩ := p; by_cases h : k = a <;> simp [assocSet, assocGet, h, ih]

theorem assocGet_set_other {α : Type} (l : List (Nat × α)) {a b : Nat} (v : α) (h : b ≠ a) :
    assocGet (assocSet l a v) b = assocGet l b := by
  induction l with
  | nil => simp [assocSet, assocGet, Ne.symm h]
  | cons p t ih =>
    obtain ⟨k, w⟩ := p
    by_cases hk : k = a
    · subst hk; simp [assocSet, assocGet, Ne.symm h]
    · by_cases hb : k = b
      · subst hb; simp [assocSet, assocGet, hk]
      · simp [assocSet, assocGet, hk, hb, ih]

theorem assocGet_del_other {α : Type} (l : List (Nat × α)) {a b : Nat} (h : b ≠ a) : assocGet (assocDel l a) b = assocGet l b := by
  induction l with
  | nil => rfl
  | cons p t ih =>
    obtain ⟨k, w⟩ := p
    by_cases hk : k = a
    · subst hk; simpa [assocDel, assocGet, Ne.symm h] using ih
    · by_cases hb : k = b
      · subst hb; simp [assocDel, assocGet, hk]
      · simpa [assocDel, assocGet, hk, hb] using ih

/-! ### Registers -/

/-- A register is read from the two tables of values and nothing else. -/
theorem State.reg_of_tables {s t : State} (hr : t.regs = s.regs) (hs : t.strapRegs = s.strapRegs) (a : Nat) : t.reg a = s.reg a := by
  unfold State.reg; rw [hr, hs]

@[simp] theorem State.reg_setReg_same (s : State) (a : Nat) (v : Word) : (s.setReg a v).reg a = v := by
  unfold State.reg State.setReg; simp

theorem State.reg_setReg_other (s : State) {a b : Nat} (v : Word) (h : b ≠ a) : (s.setReg a v).reg b = s.reg b := by
  unfold State.reg State.setReg; simp [assocGet_set_other _ _ h]

/-- What the register at `a` stores, its parity bit with it, comes from three tables and nothing else. -/
theorem State.store_of_tables {s t : State} (hr : t.regs = s.regs) (hs : t.strapRegs = s.strapRegs) (hp : t.par = s.par) (a : Nat) :
    t.reg a = s.reg a ∧ t.parBit a = s.parBit a := by
  refine ⟨State.reg_of_tables hr hs a, ?_⟩
  unfold State.parBit State.loaded; rw [hs, hp]

/-- A written register holds the parity of the word written (R249). -/
@[simp] theorem State.parBit_setReg_same (s : State) (a : Nat) (v : Word) : (s.setReg a v).parBit a = parity v := by
  unfold State.parBit State.setReg; simp

theorem State.parBit_setReg_other (s : State) {a b : Nat} (v : Word) (h : b ≠ a) : (s.setReg a v).parBit b = s.parBit b := by
  unfold State.parBit State.setReg State.loaded; simp [assocGet_set_other _ _ h]

/-- Every other register stores what it did, its parity bit with it. -/
theorem State.store_setReg_other (s : State) {a b : Nat} (v : Word) (h : b ≠ a) :
    (s.setReg a v).reg b = s.reg b ∧ (s.setReg a v).parBit b = s.parBit b :=
  ⟨State.reg_setReg_other s v h, State.parBit_setReg_other s v h⟩

/-- An accepted pair's A word holds the value written (R243). -/
@[simp] theorem State.reg_setPair_same (s : State) (a : Nat) (v : Word) : (s.setPair a v).reg a = v := by
  unfold State.setPair State.reg State.setReg; simp

theorem State.reg_setPair_other (s : State) {a b : Nat} (v : Word) (h : b ≠ a) : (s.setPair a v).reg b = s.reg b :=
  State.reg_setReg_other s v h

/-- Every register but the pair stores what it did, its parity bit with it. -/
theorem State.store_setPair_other (s : State) {a b : Nat} (v : Word) (h : b ≠ a) (h' : b ≠ a + 4) :
    (s.setPair a v).reg b = s.reg b ∧ (s.setPair a v).parBit b = s.parBit b := by
  refine ⟨State.reg_setPair_other s v h, ?_⟩
  unfold State.parBit State.setPair State.setReg State.loaded
  simp [assocGet_del_other _ h', assocGet_set_other _ _ h]

theorem State.reg_setFld_same (s : State) (a lo width v : Nat) :
    (s.setFld a lo width v).reg a = setBits (s.reg a) lo width v := by unfold State.setFld; simp

theorem State.reg_setFld_other (s : State) {a b : Nat} (lo width v : Nat) (h : b ≠ a) :
    (s.setFld a lo width v).reg b = s.reg b := State.reg_setReg_other s _ h

@[simp] theorem State.reg_countWrap_same (s : State) (a : Nat) : (s.countWrap a).reg a = s.reg a + 1 := by
  unfold State.countWrap; simp

theorem State.reg_countWrap_other (s : State) {a b : Nat} (h : b ≠ a) : (s.countWrap a).reg b = s.reg b :=
  State.reg_setReg_other s _ h

@[simp] theorem State.reg_countSat_same (s : State) (a : Nat) : (s.countSat a).reg a = satInc (s.reg a) := by
  unfold State.countSat; simp

theorem State.reg_countSat_other (s : State) {a b : Nat} (h : b ≠ a) : (s.countSat a).reg b = s.reg b :=
  State.reg_setReg_other s _ h

theorem State.reg_bumpSeq_other (s : State) {a b : Nat} (f : Half) (h : b ≠ a) : (s.bumpSeq a f).reg b = s.reg b :=
  State.reg_setReg_other s _ h

/-- Setting flags of one S register leaves every other register as it stood. -/
theorem State.reg_setFlags_other (s : State) {a b : Nat} (m : Half) (h : b ≠ a) : (s.setFlags a m).reg b = s.reg b := by
  unfold State.setFlags
  dsimp only
  split
  · rfl
  · exact State.reg_setReg_other s _ h

theorem State.reg_setFlag_other (s : State) {a b : Nat} (i : Nat) (h : b ≠ a) : (s.setFlag a i).reg b = s.reg b :=
  State.reg_setFlags_other s _ h

theorem State.reg_clearFlags_other (s : State) {a b : Nat} (w : Word) (h : b ≠ a) : (s.clearFlags a w).reg b = s.reg b := by
  unfold State.clearFlags
  dsimp only
  split
  · split
    · exact State.reg_setReg_other s _ h
    · exact State.reg_setReg_other s _ h
  · rfl

/-- The flags half of a word packed from flags and SEQ is the flags. -/
theorem truncate_pack (f : Half) (q : Nat) : (pack [(0, 16, f.toNat), (16, 8, q)]).truncate 16 = f := by
  apply BitVec.eq_of_toNat_eq
  have hf : f.toNat < 65536 := f.isLt
  simp only [pack, place, List.foldl, BitVec.truncate_eq_setWidth, BitVec.toNat_setWidth, BitVec.toNat_ofNat]
  rw [show (2 : Nat) ^ 16 = 65536 from rfl, show (2 : Nat) ^ 8 = 256 from rfl, show (2 : Nat) ^ 32 = 4294967296 from rfl]
  rw [Nat.shiftLeft_zero, Nat.mod_eq_of_lt hf, Nat.zero_or]
  have key : f.toNat ||| (q % 256) <<< 16 = (q % 256) <<< 16 + f.toNat := by
    rw [Nat.or_comm]; exact (Nat.shiftLeft_add_eq_or_of_lt hf (q % 256)).symm
  rw [key, Nat.shiftLeft_eq]
  omega

/-- After a cause sets the flags `m`, each of them reads 1 (R235), and the others read as they did. -/
theorem State.flags_setFlags (s : State) (a : Nat) (m : Half) :
    ((s.setFlags a m).reg a).truncate 16 = (s.reg a).truncate 16 ||| m := by
  unfold State.setFlags
  dsimp only
  split
  · rename_i h
    change BitVec.truncate 16 (s.reg a) = _
    apply BitVec.eq_of_getLsbD_eq
    intro i hi
    have := congrArg (fun w : Half => w.getLsbD i) h
    simp only [BitVec.getLsbD_and, BitVec.getLsbD_not, BitVec.truncate_eq_setWidth,
      BitVec.getLsbD_or] at this ⊢
    cases hm : m.getLsbD i <;> simp_all
  · exact (congrArg (BitVec.truncate 16)
      ((State.reg_of_tables rfl rfl a).trans (State.reg_setReg_same s a _))).trans (truncate_pack _ _)

theorem State.flag_of_truncate (w : Word) (i : Nat) (h : i < 16) : bitOf w i = (w.truncate 16).getLsbD i := by
  simp [bitOf, BitVec.truncate_eq_setWidth, h]

/-- The flag a cause sets reads 1. -/
theorem State.flag_setFlag_same (s : State) (a i : Nat) (h : i < 16) : (s.setFlag a i).flag a i = true := by
  unfold State.flag State.setFlag
  rw [State.flag_of_truncate _ _ h, State.flags_setFlags, BitVec.getLsbD_or, oneHalf]
  have : (BitVec.ofNat 16 (1 <<< i)).getLsbD i = true := by
    interval_cases i <;> decide
  rw [this, Bool.or_true]

/-- Setting one flag leaves every other flag of the register as it read. -/
theorem State.flag_setFlag_other (s : State) (a : Nat) {i j : Nat} (hi : i < 16) (hj : j < 16) (h : j ≠ i) :
    (s.setFlag a i).flag a j = s.flag a j := by
  unfold State.flag State.setFlag
  rw [State.flag_of_truncate _ _ hj, State.flags_setFlags, BitVec.getLsbD_or, oneHalf, State.flag_of_truncate _ _ hj]
  have : (BitVec.ofNat 16 (1 <<< i)).getLsbD j = false := by
    interval_cases i <;> interval_cases j <;> first | rfl | exact absurd rfl h
  rw [this, Bool.or_false]

/-- A flag that reads 1 goes on reading 1 when flags are set. -/
theorem State.flag_setFlags_mono (s : State) (a b i : Nat) (m : Half) (h : i < 16) (hf : s.flag a i = true) :
    (s.setFlags b m).flag a i = true := by
  by_cases hab : a = b
  · subst hab
    unfold State.flag at *
    rw [State.flag_of_truncate _ _ h] at *
    rw [State.flags_setFlags, BitVec.getLsbD_or, hf, Bool.true_or]
  · unfold State.flag at *; rw [State.reg_setFlags_other _ _ hab]; exact hf

/-! ### Raising and the end of a cycle -/

@[simp] theorem State.reg_raiseAt (s : State) (e : Epoch) (source code : Nat) (lo hi : Word) (a : Nat) :
    (s.raiseAt e source code lo hi).reg a = s.reg a := rfl

@[simp] theorem State.reg_raise (s : State) (source code : Nat) (lo hi : Word) (a : Nat) :
    (s.raise source code lo hi).reg a = s.reg a := rfl

@[simp] theorem State.raised_raise (s : State) (source code : Nat) (lo hi : Word) :
    (s.raise source code lo hi).fixer.raised = s.fixer.raised ++
      [{ epoch := s.clk.epoch, source, code, lo, hi, event := Log.isEvent s source code lo }] := rfl

@[simp] theorem State.staged_raise (s : State) (source code : Nat) (lo hi : Word) :
    (s.raise source code lo hi).fixer.staged = s.fixer.staged := rfl

/-- An entry entering the staging queue changes no register but the count of drops and the Fixer's flags. -/
theorem State.reg_stageEntry (s : State) (e : LogEntry) {a : Nat} (h1 : a ≠ Reg.FIXER_LOG_DROPS) (h2 : a ≠ Reg.FIXER_FIXER_STATUS) :
    (s.stageEntry e).reg a = s.reg a := by
  unfold State.stageEntry
  dsimp only
  split
  · rfl
  · split
    · exact State.reg_countSat_other s h1
    · exact (State.reg_setFlag_other _ _ h2).trans (State.reg_countSat_other s h1)

theorem State.reg_foldl_stageEntry (l : List LogEntry) (s : State) {a : Nat} (h1 : a ≠ Reg.FIXER_LOG_DROPS)
    (h2 : a ≠ Reg.FIXER_FIXER_STATUS) : (l.foldl State.stageEntry s).reg a = s.reg a := by
  induction l generalizing s with
  | nil => rfl
  | cons e t ih => exact (ih _).trans (State.reg_stageEntry s e h1 h2)

/-- The end of a cycle changes no register but the count of log drops and the Fixer's flags. -/
theorem State.endCycle_reg (s : State) {a : Nat} (h1 : a ≠ Reg.FIXER_LOG_DROPS) (h2 : a ≠ Reg.FIXER_FIXER_STATUS) :
    s.endCycle.reg a = s.reg a := by
  unfold State.endCycle
  dsimp only
  exact (State.reg_of_tables rfl rfl a).trans
    ((State.reg_foldl_stageEntry (Log.sort s.fixer.raised) { s with fixer := { s.fixer with raised := [], struck := [], freed := [], fresh := [] } } h1 h2).trans
      (State.reg_of_tables rfl rfl a))

theorem State.endCycle_flag (s : State) {a : Nat} (i : Nat) (h1 : a ≠ Reg.FIXER_LOG_DROPS) (h2 : a ≠ Reg.FIXER_FIXER_STATUS) :
    s.endCycle.flag a i = s.flag a i := by unfold State.flag; rw [State.endCycle_reg s h1 h2]

/-- The end of a cycle in which nothing was raised, judged or released and no flag register advanced changes nothing. -/
theorem State.endCycle_calm (s : State) (h1 : s.fixer.raised = []) (h2 : s.bumped = []) (h3 : s.caused = []) (h4 : s.fixer.struck = [])
    (h5 : s.fixer.freed = []) (h6 : s.fixer.fresh = []) : s.endCycle = s := by
  unfold State.endCycle
  obtain ⟨regs, strapRegs, par, sset, bumped, caused, clk, ident, sideA, sideB, link, outA, outB, frame, queue, port, fixer, front, decim, aper, mx,
    dev, sheet, latent, print, stage, bank, mode, loupe, mem, free, pending⟩ := s
  obtain ⟨hist, staged, raised, struck, freed, fresh, a, b⟩ := fixer
  simp only at h1 h2 h3 h4 h5 h6
  subst h1 h2 h3 h4 h5 h6
  rfl

theorem State.foldl_stageEntry_fits (l : List LogEntry) (s : State) (h : s.fixer.staged.length + l.length ≤ 63) :
    l.foldl State.stageEntry s = { s with fixer := { s.fixer with staged := s.fixer.staged ++ l } } := by
  induction l generalizing s with
  | nil => simp
  | cons e t ih =>
    simp only [List.length_cons] at h
    have h1 : s.fixer.staged.length < 63 := by omega
    have h2 : s.stageEntry e = { s with fixer := { s.fixer with staged := s.fixer.staged ++ [e] } } := by
      unfold State.stageEntry; rw [if_pos h1]
    rw [List.foldl_cons, h2, ih]
    · simp
    · simp; omega

theorem Log.length_insert (e : LogEntry) (l : List LogEntry) : (Log.insert e l).length = l.length + 1 := by
  induction l with
  | nil => rfl
  | cons x t ih => unfold Log.insert; split <;> simp [ih]

theorem Log.length_sort (l : List LogEntry) : (Log.sort l).length = l.length := by
  have h : ∀ (l acc : List LogEntry), (l.foldl (fun acc e => Log.insert e acc) acc).length = l.length + acc.length := by
    intro l
    induction l with
    | nil => simp
    | cons e t ih => intro acc; rw [List.foldl_cons, ih, Log.length_insert]; simp; omega
  exact h l []

/-- Where the queue has room for them, the raised entries join the staging queue in their order, and nothing else changes (R692,
R693). -/
theorem State.endCycle_fits (s : State) (h : s.fixer.staged.length + s.fixer.raised.length ≤ 63) :
    s.endCycle = { s with
      bumped := [],
      caused := [],
      fixer := { s.fixer with
        raised := [], struck := [], freed := [], fresh := [], staged := s.fixer.staged ++ Log.sort s.fixer.raised } } := by
  unfold State.endCycle
  dsimp only
  rw [State.foldl_stageEntry_fits]
  simpa [Log.length_sort] using h

/-- Entries already waiting stay at the front of the staging queue. -/
theorem State.stageEntry_prefix (s : State) (e : LogEntry) : s.fixer.staged <+: (s.stageEntry e).fixer.staged := by
  unfold State.stageEntry
  dsimp only
  split
  · exact List.prefix_append _ _
  · split
    · exact List.prefix_refl _
    · simp

/-- An entry entering the staging queue touches no other part of the log's cycle. -/
theorem State.stageEntry_cycle (s : State) (e : LogEntry) : (s.stageEntry e).fixer.raised = s.fixer.raised ∧
    (s.stageEntry e).fixer.struck = s.fixer.struck ∧ (s.stageEntry e).fixer.freed = s.fixer.freed ∧
    (s.stageEntry e).fixer.fresh = s.fixer.fresh := by
  have h2 : ∀ (s : State) a i, (s.setFlag a i).fixer = s.fixer := fun s a i => by
    unfold State.setFlag State.setFlags; dsimp only; split <;> rfl
  unfold State.stageEntry
  dsimp only
  split
  · exact ⟨rfl, rfl, rfl, rfl⟩
  · split
    · exact ⟨rfl, rfl, rfl, rfl⟩
    · dsimp only; rw [h2]; exact ⟨rfl, rfl, rfl, rfl⟩

/-- After the end of a cycle nothing is left over. -/
theorem State.endCycle_between (s : State) : s.endCycle.between := by
  have h : ∀ (l : List LogEntry) (u : State), (l.foldl State.stageEntry u).fixer.raised = u.fixer.raised ∧
      (l.foldl State.stageEntry u).fixer.struck = u.fixer.struck ∧ (l.foldl State.stageEntry u).fixer.freed = u.fixer.freed ∧
      (l.foldl State.stageEntry u).fixer.fresh = u.fixer.fresh := by
    intro l
    induction l with
    | nil => exact fun u => ⟨rfl, rfl, rfl, rfl⟩
    | cons e l ih =>
      intro u
      have a := State.stageEntry_cycle u e
      have b := ih (u.stageEntry e)
      exact ⟨b.1.trans a.1, b.2.1.trans a.2.1, b.2.2.1.trans a.2.2.1, b.2.2.2.trans a.2.2.2⟩
  unfold State.endCycle
  dsimp only
  exact ⟨(h _ _).1, rfl, rfl, (h _ _).2.1, (h _ _).2.2.1, (h _ _).2.2.2⟩

/-! ### Queue and step -/

/-- A step carries out the front command on the state whose queue is the rest. -/
theorem step_push (s : State) (c : Instr) : step (s.push c) = exec c s := rfl

/-- With no command waiting a step changes nothing. -/
theorem step_idle (s : State) (h : s.pending = []) : step s = .next s := by unfold step; rw [h]

end Sys2Proof.Machine
end

