-- ==== Sys2Proof/Laws/Lists.lean ====
section
/-! SUPPORT. Elements of the lists the state holds, and what a pass over channels, beams or slots does to each of them. -/

namespace Sys2Proof.Machine

/-! ### Elements -/

theorem nth_modNth_same {α : Type} (l : List α) (i : Nat) (f : α → α) (d : α) (h : i < l.length) :
    nth (modNth l i f) i d = f (nth l i d) := by
  unfold nth modNth
  simp [List.getD_eq_getElem?_getD, List.getElem?_modify, h]

theorem nth_modNth_other {α : Type} (l : List α) {i j : Nat} (f : α → α) (d : α) (h : j ≠ i) :
    nth (modNth l i f) j d = nth l j d := by
  unfold nth modNth
  simp [List.getD_eq_getElem?_getD, List.getElem?_modify, Ne.symm h]

theorem nth_modNth_beyond {α : Type} (l : List α) (i j : Nat) (f : α → α) (d : α) (h : l.length ≤ j) :
    nth (modNth l i f) j d = d := by
  unfold nth modNth
  simp [List.getD_eq_getElem?_getD, List.getElem?_eq_none, h]

@[simp] theorem length_modNth {α : Type} (l : List α) (i : Nat) (f : α → α) : (modNth l i f).length = l.length := by
  unfold modNth; simp

/-- An element after a change of element `i`: a property that the change gives, and the default has, holds of it. -/
theorem nth_modNth_prop {α : Type} {P : α → Prop} (l : List α) (i : Nat) (f : α → α) (d : α) (hf : P (f (nth l i d))) (hd : P d) :
    P (nth (modNth l i f) i d) := by
  by_cases h : i < l.length
  · rw [nth_modNth_same l i f d h]; exact hf
  · rw [nth_modNth_beyond l i i f d (by omega)]; exact hd

/-! ### Passes -/

/-- A pass over a list of places makes `P` true at each of them, if each visit makes it true there and no visit undoes it. -/
theorem foldl_each {f : State → Nat → State} {P : State → Nat → Prop} (h1 : ∀ s n, P (f s n) n)
    (h2 : ∀ s n m, P s m → P (f s n) m) (l : List Nat) (s : State) : ∀ m ∈ l, P (l.foldl f s) m := by
  have keep : ∀ (l : List Nat) (s : State) (m : Nat), P s m → P (l.foldl f s) m := by
    intro l
    induction l with
    | nil => exact fun s m h => h
    | cons a t ih => exact fun s m h => ih (f s a) m (h2 s a m h)
  induction l generalizing s with
  | nil => exact fun m h => absurd h (by simp)
  | cons a t ih =>
    intro m h
    rcases List.mem_cons.mp h with rfl | h
    · exact keep t _ _ (h1 s m)
    · exact ih (f s a) m h

/-- What each visit of a pass keeps, the pass keeps. -/
theorem foldl_keeps {α : Type} {f : State → α → State} {R : State → State → Prop} (refl : ∀ s, R s s)
    (trans : ∀ a b c, R a b → R b c → R a c) (h : ∀ s a, R s (f s a)) (l : List α) (s : State) : R s (l.foldl f s) := by
  induction l generalizing s with
  | nil => exact refl s
  | cons a t ih => exact trans _ _ _ (h s a) (ih (f s a))

/-! ### Drive channels and stages -/

theorem State.drive_modDrive_other (s : State) {n m : Nat} (f : Drive → Drive) (h : m ≠ n) : (s.modDrive n f).drive m = s.drive m :=
  nth_modNth_other _ f _ h

theorem State.drive_modDrive_same (s : State) (n : Nat) (f : Drive → Drive) (h : n < s.print.drives.length) :
    (s.modDrive n f).drive n = f (s.drive n) := nth_modNth_same _ _ f _ h

theorem State.stageCh_modStage_other (s : State) {n m : Nat} (f : StageCh → StageCh) (h : m ≠ n) :
    (s.modStage n f).stageCh m = s.stageCh m := nth_modNth_other _ f _ h

theorem State.stageCh_modStage_same (s : State) (n : Nat) (f : StageCh → StageCh) (h : n < s.stage.ch.length) :
    (s.modStage n f).stageCh n = f (s.stageCh n) := nth_modNth_same _ _ f _ h

@[simp] theorem State.drive_modStage (s : State) (n m : Nat) (f : StageCh → StageCh) : (s.modStage n f).drive m = s.drive m := rfl

@[simp] theorem State.stageCh_modDrive (s : State) (n m : Nat) (f : Drive → Drive) : (s.modDrive n f).stageCh m = s.stageCh m := rfl

end Sys2Proof.Machine
end

