-- ==== Sys2Proof/Laws/Conf.lean ====
section
/-! SUPPORT. What every operation of the model is confined to: the parts of the state and the registers it can change. Each
operation has one lemma, in the file named after the operation's own. -/

namespace Sys2Proof.Machine

/-- State `t` differs from `s0` in the parts `ps` and the registers `rs` at most, and has a list of the right length for each fixed
set if `s0` has. -/
def Confined (s0 : State) (ps : List Part) (rs : Nat → Prop) (t : State) : Prop :=
  Only ps rs s0 t ∧ (s0.shaped → t.shaped)

section
variable {s0 s t : State} {ps : List Part} {rs : Nat → Prop}

theorem conf_refl (s : State) (ps : List Part) (rs : Nat → Prop) : Confined s ps rs s := ⟨⟨fun p _ => by cases p <;> rfl, fun _ _ => ⟨rfl, rfl⟩⟩, id⟩

/-- An update of the state by parts. -/
theorem conf_upd (h : Confined s0 ps rs s) (h1 : ∀ p, p ∉ ps → p.same s t) (h2 : ∀ a, ¬ rs a → t.reg a = s.reg a ∧ t.parBit a = s.parBit a)
    (h3 : s.shaped → t.shaped) : Confined s0 ps rs t := by
  refine ⟨⟨fun p hp => ?_, fun a ha => ⟨(h2 a ha).1.trans (h.1.2 a ha).1, (h2 a ha).2.trans (h.1.2 a ha).2⟩⟩, fun h0 => h3 (h.2 h0)⟩
  have a := h1 p hp
  have b := h.1.1 p hp
  cases p <;> exact Eq.trans a b

/-- The same, the state updated found from the queue of waiting commands, which no operation touches. -/
theorem conf_src {x0 x1 x2 x3 x4 x5 x6 x7 x8 x9 x10 x11 x12 x13 x14 x15 x16 x17 x18 x19 x20 x21 x22 x23 x24 x25 x26 x27 x28 x29 x30 x31}
    (_hq : x31 = s.pending) (h : Confined s0 ps rs s)
    (h1 : ∀ p, p ∉ ps → p.same s (State.mk x0 x1 x2 x3 x4 x5 x6 x7 x8 x9 x10 x11 x12 x13 x14 x15 x16 x17 x18 x19 x20 x21 x22 x23 x24 x25 x26 x27 x28 x29 x30 x31))
    (h2 : ∀ a, ¬ rs a → (State.mk x0 x1 x2 x3 x4 x5 x6 x7 x8 x9 x10 x11 x12 x13 x14 x15 x16 x17 x18 x19 x20 x21 x22 x23 x24 x25 x26 x27 x28 x29 x30 x31).reg a = s.reg a ∧
      (State.mk x0 x1 x2 x3 x4 x5 x6 x7 x8 x9 x10 x11 x12 x13 x14 x15 x16 x17 x18 x19 x20 x21 x22 x23 x24 x25 x26 x27 x28 x29 x30 x31).parBit a = s.parBit a)
    (h3 : s.shaped → (State.mk x0 x1 x2 x3 x4 x5 x6 x7 x8 x9 x10 x11 x12 x13 x14 x15 x16 x17 x18 x19 x20 x21 x22 x23 x24 x25 x26 x27 x28 x29 x30 x31).shaped) :
    Confined s0 ps rs (State.mk x0 x1 x2 x3 x4 x5 x6 x7 x8 x9 x10 x11 x12 x13 x14 x15 x16 x17 x18 x19 x20 x21 x22 x23 x24 x25 x26 x27 x28 x29 x30 x31) :=
  conf_upd h h1 h2 h3

theorem conf_ite {c : Prop} [Decidable c] (ha : Confined s0 ps rs s) (hb : Confined s0 ps rs t) :
    Confined s0 ps rs (if c then s else t) := by
  split
  · exact ha
  · exact hb

theorem conf_foldl {α : Type} {f : State → α → State} {l : List α}
    (hf : ∀ t a, Confined s0 ps rs t → Confined s0 ps rs (f t a)) (h : Confined s0 ps rs s) : Confined s0 ps rs (l.foldl f s) := by
  induction l generalizing s with
  | nil => exact h
  | cons a l ih => exact ih (hf s a h)

theorem conf_foldl_fst {α β : Type} {p : State × β} {f : State × β → α → State × β} {l : List α}
    (hf : ∀ q a, Confined s0 ps rs q.1 → Confined s0 ps rs (f q a).1) (h : Confined s0 ps rs p.1) :
    Confined s0 ps rs (l.foldl f p).1 := by
  induction l generalizing p with
  | nil => exact h
  | cons a l ih => exact ih (hf p a h)

/-- A local state of a meaning: what it is confined to serves the rest. -/
theorem conf_let {f : State → State} (hx : Confined s0 ps rs s) (h : ∀ y, Confined s0 ps rs y → Confined s0 ps rs (f y)) :
    Confined s0 ps rs (let y := s; f y) := h s hx

/-- A local value of a meaning: what it is confined to holds whatever the value. -/
theorem conf_val {α : Type} {x : α} {f : α → State} (h : ∀ y, Confined s0 ps rs (f y)) :
    Confined s0 ps rs (let y := x; f y) := h x

/-- A local value of a meaning: what holds of it serves the rest. -/
theorem conf_cut {P : Prop} (hx : Confined s0 ps rs s) (h : Confined s0 ps rs s → P) : P := h hx

theorem sub_parts {l l' : List Part} (hp : l ⊆ ps) (h : l' ⊆ l) : l' ⊆ ps := fun _ hx => hp (h hx)

theorem sub_regs {l l' : List Nat} (hr : ∀ a ∈ l, rs a) (h : l' ⊆ l) : ∀ a ∈ l', rs a := fun a ha => hr a (h ha)

/-- What holds of fewer parts and registers holds of more. -/
theorem conf_mono {ps' : List Part} {rs' : Nat → Prop} (h : Confined s0 ps rs s) (hp : ps ⊆ ps') (hr : ∀ a, rs a → rs' a) :
    Confined s0 ps' rs' s :=
  ⟨⟨fun p hq => h.1.1 p (fun hx => hq (hp hx)), fun a ha => h.1.2 a (fun hx => ha (hr a hx))⟩, h.2⟩

end

/-! ### Registers -/

section
variable {s0 s : State} {ps : List Part} {rs : Nat → Prop}

theorem State.conf_setReg (a : Nat) (v : Word) (h : Confined s0 ps rs s) (hr : rs a) : Confined s0 ps rs (s.setReg a v) :=
  conf_upd h (fun p _ => by cases p <;> rfl) (fun b hb => State.store_setReg_other s v (fun e => hb (e ▸ hr))) id

theorem State.conf_setPair (a : Nat) (v : Word) (h : Confined s0 ps rs s) (hr : rs a) (hr' : rs (a + 4)) :
    Confined s0 ps rs (s.setPair a v) :=
  conf_upd h (fun p _ => by cases p <;> rfl)
    (fun b hb => State.store_setPair_other s v (fun e => hb (e ▸ hr)) (fun e => hb (e ▸ hr'))) id

theorem State.conf_setFld (a lo width v : Nat) (h : Confined s0 ps rs s) (hr : rs a) : Confined s0 ps rs (s.setFld a lo width v) :=
  State.conf_setReg _ _ h hr

theorem State.conf_countWrap (a : Nat) (h : Confined s0 ps rs s) (hr : rs a) : Confined s0 ps rs (s.countWrap a) :=
  State.conf_setReg _ _ h hr

theorem State.conf_countSat (a : Nat) (h : Confined s0 ps rs s) (hr : rs a) : Confined s0 ps rs (s.countSat a) :=
  State.conf_setReg _ _ h hr

theorem State.conf_countSatN (a n : Nat) (h : Confined s0 ps rs s) (hr : rs a) : Confined s0 ps rs (s.countSatN a n) :=
  State.conf_setReg _ _ h hr

/-- A change of the parts `ps` only. -/
theorem conf_parts {t : State} (h : Confined s0 ps rs s) (h1 : ∀ p, p ∉ ps → p.same s t) (hr : t.regs = s.regs)
    (hs : t.strapRegs = s.strapRegs) (hp : t.par = s.par) (h3 : s.shaped → t.shaped) : Confined s0 ps rs t :=
  conf_upd h h1 (fun b _ => State.store_of_tables hr hs hp b) h3

theorem State.conf_bumpSeq (a : Nat) (f : Half) (h : Confined s0 ps rs s) (hp : [.bumped] ⊆ ps) (hr : rs a) :
    Confined s0 ps rs (s.bumpSeq a f) := by
  unfold State.bumpSeq
  refine conf_parts (State.conf_setReg a _ h hr) (fun p hq => ?_) rfl rfl rfl id
  cases p <;> first | rfl | exact absurd (hp (by decide)) hq

theorem State.conf_setFlags (a : Nat) (m : Half) (h : Confined s0 ps rs s) (hp : [.sset, .bumped, .caused] ⊆ ps) (hr : rs a) :
    Confined s0 ps rs (s.setFlags a m) := by
  have hc : Confined s0 ps rs { s with caused := assocSet s.caused a (s.causedOf a ||| m) } := by
    refine conf_parts h (fun p hq => ?_) rfl rfl rfl id
    cases p <;> first | rfl | exact absurd (hp (by decide)) hq
  unfold State.setFlags
  dsimp only
  with_reducible apply conf_ite
  · exact hc
  · refine conf_parts (State.conf_bumpSeq a _ hc (sub_parts hp (by decide)) hr) (fun p hq => ?_) rfl rfl rfl id
    cases p <;> first | rfl | exact absurd (hp (by decide)) hq

theorem State.conf_setFlag (a i : Nat) (h : Confined s0 ps rs s) (hp : [.sset, .bumped, .caused] ⊆ ps) (hr : rs a) :
    Confined s0 ps rs (s.setFlag a i) := State.conf_setFlags _ _ h hp hr

theorem State.conf_clearFlags (a : Nat) (w : Word) (h : Confined s0 ps rs s) (hp : [.sset, .bumped] ⊆ ps) (hr : rs a) :
    Confined s0 ps rs (s.clearFlags a w) := by
  unfold State.clearFlags
  dsimp only
  with_reducible apply conf_ite
  · refine conf_parts (s := if _ then _ else _) (conf_ite (State.conf_setReg a _ h hr)
      (State.conf_bumpSeq a _ h (sub_parts hp (by decide)) hr)) (fun p hq => ?_) rfl rfl rfl id
    cases p <;> first | rfl | exact absurd (hp (by decide)) hq
  · exact h

theorem State.conf_newFlagFrame (h : Confined s0 ps rs s) (hp : [.sset] ⊆ ps) : Confined s0 ps rs s.newFlagFrame := by
  refine conf_parts h (fun p hq => ?_) rfl rfl rfl id
  cases p <;> first | rfl | exact absurd (hp (by decide)) hq

end

end Sys2Proof.Machine
end

