-- ==== Sys2Proof/Laws/ConfOps.lean ====
section
/-! SUPPORT. What every operation of Machine/Ops.lean is confined to: the parts of the state and the registers it can change. -/

set_option linter.unusedTactic false
set_option linter.unreachableTactic false
set_option linter.unusedVariables false
set_option linter.tactic.unusedName false

namespace Sys2Proof.Machine

theorem State.conf_modSd {s0 s : State} {ps : List Part} {rs : Nat → Prop} (a1 : Side) (a2 : LinkSide → LinkSide) (h : Confined s0 ps rs s) (hp : [.sideA, .sideB] ⊆ ps) (_hr : ∀ a ∈ ([] : List Nat), rs a) : Confined s0 ps rs (State.modSd s a1 a2) := by
  unfold State.modSd
  repeat' (first
    | with_reducible assumption
    | with_reducible exact sub_parts hp (by decide)
    | with_reducible exact sub_parts _hp (by decide)
    | with_reducible exact sub_regs _hr (by decide)
    | (extract_lets +onlyGivenNames x
       first
         | (refine conf_cut (s0 := s0) (ps := ps) (rs := rs) (s := x) ?_ (fun _ => ?_); (focus unfold x); on_goal 2 => clear_value x)
         | (unfold x; clear x)
         | clear_value x)
    | split
    | (with_reducible refine conf_src rfl ?_ (fun p hq => ?_) (fun b _ => ?_) ?_
       on_goal 2 => cases p <;> first | with_reducible rfl | exact absurd (hp (by decide)) hq
       on_goal 2 => exact State.store_of_tables rfl rfl rfl b
       on_goal 2 => first | exact id | (intro hs; simp only [State.shaped] at hs ⊢; simp_all)))

theorem State.conf_modOut {s0 s : State} {ps : List Part} {rs : Nat → Prop} (a1 : Side) (a2 : OutSide → OutSide) (h : Confined s0 ps rs s) (hp : [.outA, .outB] ⊆ ps) (_hr : ∀ a ∈ ([] : List Nat), rs a) : Confined s0 ps rs (State.modOut s a1 a2) := by
  unfold State.modOut
  repeat' (first
    | with_reducible assumption
    | with_reducible exact sub_parts hp (by decide)
    | with_reducible exact sub_parts _hp (by decide)
    | with_reducible exact sub_regs _hr (by decide)
    | (extract_lets +onlyGivenNames x
       first
         | (refine conf_cut (s0 := s0) (ps := ps) (rs := rs) (s := x) ?_ (fun _ => ?_); (focus unfold x); on_goal 2 => clear_value x)
         | (unfold x; clear x)
         | clear_value x)
    | split
    | (with_reducible refine conf_src rfl ?_ (fun p hq => ?_) (fun b _ => ?_) ?_
       on_goal 2 => cases p <;> first | with_reducible rfl | exact absurd (hp (by decide)) hq
       on_goal 2 => exact State.store_of_tables rfl rfl rfl b
       on_goal 2 => first | exact id | (intro hs; simp only [State.shaped] at hs ⊢; simp_all)))

theorem State.conf_freeWord {s0 s : State} {ps : List Part} {rs : Nat → Prop}  (h : Confined s0 ps rs s) (hp : [.free] ⊆ ps) (_hr : ∀ a ∈ ([] : List Nat), rs a) : Confined s0 ps rs (State.freeWord s).2 := by
  unfold State.freeWord
  repeat' (first
    | with_reducible assumption
    | with_reducible exact sub_parts hp (by decide)
    | with_reducible exact sub_parts _hp (by decide)
    | with_reducible exact sub_regs _hr (by decide)
    | (extract_lets +onlyGivenNames x
       first
         | (refine conf_cut (s0 := s0) (ps := ps) (rs := rs) (s := x) ?_ (fun _ => ?_); (focus unfold x); on_goal 2 => clear_value x)
         | (unfold x; clear x)
         | clear_value x)
    | (with_reducible refine conf_src rfl ?_ (fun p hq => ?_) (fun b _ => ?_) ?_
       on_goal 2 => cases p <;> first | with_reducible rfl | exact absurd (hp (by decide)) hq
       on_goal 2 => exact State.store_of_tables rfl rfl rfl b
       on_goal 2 => first | exact id | (intro hs; simp only [State.shaped] at hs ⊢; simp_all)))

theorem State.conf_freeWord_eq {s0 s t : State} {ps : List Part} {rs : Nat → Prop}  {x : Word} (e : State.freeWord s = (x, t)) (h : Confined s0 ps rs s) (hp : [.free] ⊆ ps) (_hr : ∀ a ∈ ([] : List Nat), rs a) : Confined s0 ps rs t := by
  have := State.conf_freeWord  h hp _hr
  rwa [e] at this

theorem State.conf_raiseAt {s0 s : State} {ps : List Part} {rs : Nat → Prop} (a1 : Epoch) (a2 : Nat) (a3 : Nat) (a4 : Word) (a5 : Word) (h : Confined s0 ps rs s) (hp : [.fixer] ⊆ ps) (_hr : ∀ a ∈ ([] : List Nat), rs a) : Confined s0 ps rs (State.raiseAt s a1 a2 a3 a4 a5) := by
  unfold State.raiseAt
  repeat' (first
    | with_reducible assumption
    | with_reducible exact sub_parts hp (by decide)
    | with_reducible exact sub_parts _hp (by decide)
    | with_reducible exact sub_regs _hr (by decide)
    | (extract_lets +onlyGivenNames x
       first
         | (refine conf_cut (s0 := s0) (ps := ps) (rs := rs) (s := x) ?_ (fun _ => ?_); (focus unfold x); on_goal 2 => clear_value x)
         | (unfold x; clear x)
         | clear_value x)
    | (with_reducible refine conf_src rfl ?_ (fun p hq => ?_) (fun b _ => ?_) ?_
       on_goal 2 => cases p <;> first | with_reducible rfl | exact absurd (hp (by decide)) hq
       on_goal 2 => exact State.store_of_tables rfl rfl rfl b
       on_goal 2 => first | exact id | (intro hs; simp only [State.shaped] at hs ⊢; simp_all)))

theorem State.conf_raise {s0 s : State} {ps : List Part} {rs : Nat → Prop} (a1 : Nat) (a2 : Nat) (a3 : Word := 0) (a4 : Word := 0) (h : Confined s0 ps rs s) (hp : [.fixer] ⊆ ps) (_hr : ∀ a ∈ ([] : List Nat), rs a) : Confined s0 ps rs (State.raise s a1 a2 a3 a4) := by
  unfold State.raise
  repeat' (first
    | with_reducible assumption
    | with_reducible exact sub_parts hp (by decide)
    | with_reducible exact sub_parts _hp (by decide)
    | with_reducible exact sub_regs _hr (by decide)
    | with_reducible apply State.conf_raiseAt)

theorem State.conf_stageEntry {s0 s : State} {ps : List Part} {rs : Nat → Prop} (a1 : LogEntry) (h : Confined s0 ps rs s) (hp : [.sset, .bumped, .caused, .fixer] ⊆ ps) (hr : ∀ a ∈ [Reg.FIXER_FIXER_STATUS, Reg.FIXER_LOG_DROPS], rs a) : Confined s0 ps rs (State.stageEntry s a1) := by
  unfold State.stageEntry
  repeat' (first
    | with_reducible assumption
    | with_reducible exact sub_parts hp (by decide)
    | with_reducible exact sub_parts _hp (by decide)
    | with_reducible exact sub_regs hr (by decide)
    | with_reducible exact hr _ (by decide)
    | with_reducible apply State.conf_countSat
    | with_reducible apply State.conf_setFlag
    | (extract_lets +onlyGivenNames x
       first
         | (refine conf_cut (s0 := s0) (ps := ps) (rs := rs) (s := x) ?_ (fun _ => ?_); (focus unfold x); on_goal 2 => clear_value x)
         | (unfold x; clear x)
         | clear_value x)
    | with_reducible apply conf_ite
    | split
    | (with_reducible refine conf_src rfl ?_ (fun p hq => ?_) (fun b _ => ?_) ?_
       on_goal 2 => cases p <;> first | with_reducible rfl | exact absurd (hp (by decide)) hq
       on_goal 2 => exact State.store_of_tables rfl rfl rfl b
       on_goal 2 => first | exact id | (intro hs; simp only [State.shaped] at hs ⊢; simp_all)))

theorem State.conf_endCycle {s0 s : State} {ps : List Part} {rs : Nat → Prop} (h : Confined s0 ps rs s) (hp : [.sset, .bumped, .caused, .fixer] ⊆ ps) (hr : ∀ a ∈ [Reg.FIXER_FIXER_STATUS, Reg.FIXER_LOG_DROPS], rs a) :
    Confined s0 ps rs s.endCycle := by
  unfold State.endCycle
  extract_lets raised fx s1 s2
  have h1 : Confined s0 ps rs s1 := by
    refine conf_upd h (fun p hq => ?_) (fun b _ => State.store_of_tables rfl rfl rfl b) id
    cases p <;> first | rfl | exact absurd (hp (by decide)) hq
  clear_value s1
  have h2 : Confined s0 ps rs s2 := conf_foldl (fun _ _ ht => State.conf_stageEntry _ ht hp hr) h1
  clear_value s2
  refine conf_upd h2 (fun p hq => ?_) (fun b _ => State.store_of_tables rfl rfl rfl b) id
  cases p <;> first | rfl | exact absurd (hp (by decide)) hq

theorem State.conf_modHistory {s0 s : State} {ps : List Part} {rs : Nat → Prop} (a1 : Nat) (a2 : History → History) (h : Confined s0 ps rs s) (hp : [.fixer] ⊆ ps) (_hr : ∀ a ∈ ([] : List Nat), rs a) : Confined s0 ps rs (State.modHistory s a1 a2) := by
  unfold State.modHistory
  repeat' (first
    | with_reducible assumption
    | with_reducible exact sub_parts hp (by decide)
    | with_reducible exact sub_parts _hp (by decide)
    | with_reducible exact sub_regs _hr (by decide)
    | (extract_lets +onlyGivenNames x
       first
         | (refine conf_cut (s0 := s0) (ps := ps) (rs := rs) (s := x) ?_ (fun _ => ?_); (focus unfold x); on_goal 2 => clear_value x)
         | (unfold x; clear x)
         | clear_value x)
    | (with_reducible refine conf_src rfl ?_ (fun p hq => ?_) (fun b _ => ?_) ?_
       on_goal 2 => cases p <;> first | with_reducible rfl | exact absurd (hp (by decide)) hq
       on_goal 2 => exact State.store_of_tables rfl rfl rfl b
       on_goal 2 => first | exact id | (intro hs; simp only [State.shaped] at hs ⊢; simp_all)))

theorem State.conf_fixerCountAt {s0 s : State} {ps : List Part} {rs : Nat → Prop} (i : Nat) (t : Epoch) (h : Confined s0 ps rs s) (hp : [.sset, .bumped, .caused, .fixer] ⊆ ps) (hr : ∀ a ∈ [Reg.FIXER_FIXER_STATUS, Reg.FIXER_LASTING_COUNT], rs a) : Confined s0 ps rs (State.fixerCountAt s i t).1 := by
  unfold State.fixerCountAt
  extract_lets hh w win n beyond s1 fx s2 s3 src
  have h1 : Confined s0 ps rs s1 := State.conf_modHistory _ _ h (sub_parts hp (by decide)) (sub_regs hr (by decide))
  clear_value s1
  have h2 : Confined s0 ps rs s2 := by
    refine conf_ite ?_ h1
    exact (conf_upd h1 (by intro p hq; cases p <;> first | rfl | exact absurd (hp (by decide)) hq) (fun b _ => State.store_of_tables rfl rfl rfl b) (by intro hs; first | exact hs | (simp only [State.shaped] at hs ⊢; simp_all)))
  clear_value s2
  have h3 : Confined s0 ps rs s3 := State.conf_countSat _ (State.conf_setFlag _ _ h2 (sub_parts hp (by decide)) (hr _ (by decide))) (hr _ (by decide))
  clear_value s3
  split
  · split
    · exact h3
    · exact State.conf_raiseAt _ _ _ _ _ h3 (sub_parts hp (by decide)) (sub_regs hr (by decide))
  · exact h2

theorem State.conf_fixerCountAt_eq {s0 s t : State} {ps : List Part} {rs : Nat → Prop} (a1 : Nat) (a2 : Epoch) {x : Nat × Bool} (e : State.fixerCountAt s a1 a2 = (t, x)) (h : Confined s0 ps rs s) (hp : [.sset, .bumped, .caused, .fixer] ⊆ ps) (hr : ∀ a ∈ [Reg.FIXER_FIXER_STATUS, Reg.FIXER_LASTING_COUNT], rs a) : Confined s0 ps rs t := by
  have := State.conf_fixerCountAt a1 a2 h hp hr
  rwa [e] at this


theorem State.conf_fixerCount {s0 s : State} {ps : List Part} {rs : Nat → Prop} (a1 : Nat) (h : Confined s0 ps rs s) (hp : [.sset, .bumped, .caused, .fixer] ⊆ ps) (hr : ∀ a ∈ [Reg.FIXER_FIXER_STATUS, Reg.FIXER_LASTING_COUNT], rs a) : Confined s0 ps rs (State.fixerCount s a1).1 := by
  unfold State.fixerCount
  repeat' (first
    | with_reducible assumption
    | with_reducible exact sub_parts hp (by decide)
    | with_reducible exact sub_parts _hp (by decide)
    | with_reducible exact sub_regs hr (by decide)
    | with_reducible exact hr _ (by decide)
    | with_reducible apply State.conf_fixerCountAt
    | with_reducible refine State.conf_fixerCountAt_eq (by with_reducible assumption) ?_ ?_ ?_)

theorem State.conf_fixerCount_eq {s0 s t : State} {ps : List Part} {rs : Nat → Prop} (a1 : Nat) {x : Nat × Bool} (e : State.fixerCount s a1 = (t, x)) (h : Confined s0 ps rs s) (hp : [.sset, .bumped, .caused, .fixer] ⊆ ps) (hr : ∀ a ∈ [Reg.FIXER_FIXER_STATUS, Reg.FIXER_LASTING_COUNT], rs a) : Confined s0 ps rs t := by
  have := State.conf_fixerCount a1 h hp hr
  rwa [e] at this

theorem State.conf_fixerReport {s0 s : State} {ps : List Part} {rs : Nat → Prop} (a1 : Nat) (h : Confined s0 ps rs s) (hp : [.sset, .bumped, .caused, .fixer] ⊆ ps) (hr : ∀ a ∈ [Reg.FIXER_FIXER_STATUS, Reg.FIXER_LASTING_COUNT], rs a) : Confined s0 ps rs (State.fixerReport s a1) := by
  unfold State.fixerReport
  repeat' (first
    | with_reducible assumption
    | with_reducible exact sub_parts hp (by decide)
    | with_reducible exact sub_parts _hp (by decide)
    | with_reducible exact sub_regs hr (by decide)
    | with_reducible exact hr _ (by decide)
    | with_reducible apply State.conf_fixerCount
    | with_reducible refine State.conf_fixerCount_eq (by with_reducible assumption) ?_ ?_ ?_)

theorem State.conf_fixerRelease {s0 s : State} {ps : List Part} {rs : Nat → Prop} (a1 : Nat) (h : Confined s0 ps rs s) (hp : [.fixer] ⊆ ps) (_hr : ∀ a ∈ ([] : List Nat), rs a) : Confined s0 ps rs (State.fixerRelease s a1) := by
  unfold State.fixerRelease
  repeat' (first
    | with_reducible assumption
    | with_reducible exact sub_parts hp (by decide)
    | with_reducible exact sub_parts _hp (by decide)
    | with_reducible exact sub_regs _hr (by decide)
    | with_reducible apply State.conf_modHistory
    | (extract_lets +onlyGivenNames x
       first
         | (refine conf_cut (s0 := s0) (ps := ps) (rs := rs) (s := x) ?_ (fun _ => ?_); (focus unfold x); on_goal 2 => clear_value x)
         | (unfold x; clear x)
         | clear_value x)
    | with_reducible apply conf_ite
    | split
    | (with_reducible refine conf_src rfl ?_ (fun p hq => ?_) (fun b _ => ?_) ?_
       on_goal 2 => cases p <;> first | with_reducible rfl | exact absurd (hp (by decide)) hq
       on_goal 2 => exact State.store_of_tables rfl rfl rfl b
       on_goal 2 => first | exact id | (intro hs; simp only [State.shaped] at hs ⊢; simp_all)))

theorem State.conf_fixerEmpty {s0 s : State} {ps : List Part} {rs : Nat → Prop}  (h : Confined s0 ps rs s) (hp : [.fixer] ⊆ ps) (_hr : ∀ a ∈ ([] : List Nat), rs a) : Confined s0 ps rs (State.fixerEmpty s) := by
  unfold State.fixerEmpty
  repeat' (first
    | with_reducible assumption
    | with_reducible exact sub_parts hp (by decide)
    | with_reducible exact sub_parts _hp (by decide)
    | with_reducible exact sub_regs _hr (by decide)
    | (extract_lets +onlyGivenNames x
       first
         | (refine conf_cut (s0 := s0) (ps := ps) (rs := rs) (s := x) ?_ (fun _ => ?_); (focus unfold x); on_goal 2 => clear_value x)
         | (unfold x; clear x)
         | clear_value x)
    | (with_reducible refine conf_src rfl ?_ (fun p hq => ?_) (fun b _ => ?_) ?_
       on_goal 2 => cases p <;> first | with_reducible rfl | exact absurd (hp (by decide)) hq
       on_goal 2 => exact State.store_of_tables rfl rfl rfl b
       on_goal 2 => first | exact id | (intro hs; simp only [State.shaped] at hs ⊢; simp_all)))

theorem State.conf_clockCount {s0 s : State} {ps : List Part} {rs : Nat → Prop}  (h : Confined s0 ps rs s) (hp : [.sset, .bumped, .caused, .clk, .fixer] ⊆ ps) (hr : ∀ a ∈ [Reg.CHIP_CLK_STATUS, Reg.FIXER_FIXER_STATUS, Reg.FIXER_LASTING_COUNT], rs a) : Confined s0 ps rs (State.clockCount s) := by
  unfold State.clockCount
  repeat' (first
    | with_reducible assumption
    | with_reducible exact sub_parts hp (by decide)
    | with_reducible exact sub_parts _hp (by decide)
    | with_reducible exact sub_regs hr (by decide)
    | with_reducible exact hr _ (by decide)
    | with_reducible apply State.conf_fixerCount
    | with_reducible refine State.conf_fixerCount_eq (by with_reducible assumption) ?_ ?_ ?_
    | with_reducible apply State.conf_setFlag
    | with_reducible apply State.conf_raise
    | (extract_lets +onlyGivenNames x
       first
         | (refine conf_cut (s0 := s0) (ps := ps) (rs := rs) (s := x) ?_ (fun _ => ?_); (focus unfold x); on_goal 2 => clear_value x)
         | (unfold x; clear x)
         | clear_value x)
    | with_reducible apply conf_ite
    | split
    | (with_reducible refine conf_src rfl ?_ (fun p hq => ?_) (fun b _ => ?_) ?_
       on_goal 2 => cases p <;> first | with_reducible rfl | exact absurd (hp (by decide)) hq
       on_goal 2 => exact State.store_of_tables rfl rfl rfl b
       on_goal 2 => first | exact id | (intro hs; simp only [State.shaped] at hs ⊢; simp_all)))

end Sys2Proof.Machine
end

