-- ==== Sys2Proof/Laws/ConfLink.lean ====
section
/-! SUPPORT. What every operation of Machine/Link.lean is confined to: the parts of the state and the registers it can change. -/

set_option linter.unusedTactic false
set_option linter.unreachableTactic false
set_option linter.unusedVariables false
set_option linter.tactic.unusedName false

namespace Sys2Proof.Machine

theorem State.conf_modFed {s0 s : State} {ps : List Part} {rs : Nat → Prop} (a1 : Side) (a2 : OutSide → OutSide) (h : Confined s0 ps rs s) (hp : [.outA, .outB] ⊆ ps) (_hr : ∀ a ∈ ([] : List Nat), rs a) : Confined s0 ps rs (State.modFed s a1 a2) := by
  unfold State.modFed
  repeat' (first
    | with_reducible assumption
    | with_reducible exact sub_parts hp (by decide)
    | with_reducible exact sub_parts _hp (by decide)
    | with_reducible exact sub_regs _hr (by decide)
    | with_reducible apply State.conf_modOut
    | (extract_lets +onlyGivenNames x
       first
         | (refine conf_cut (s0 := s0) (ps := ps) (rs := rs) (s := x) ?_ (fun _ => ?_); (focus unfold x); on_goal 2 => clear_value x)
         | (unfold x; clear x)
         | clear_value x)
    | with_reducible apply conf_ite
    | split)

theorem State.conf_forward {s0 s : State} {ps : List Part} {rs : Nat → Prop} (a1 : Side) (a2 : Nat) (a3 : OutSide → OutSide) (a4 : OutSide → OutSide) (h : Confined s0 ps rs s) (hp : [.outA, .outB] ⊆ ps) (_hr : ∀ a ∈ ([] : List Nat), rs a) : Confined s0 ps rs (State.forward s a1 a2 a3 a4) := by
  unfold State.forward
  repeat' (first
    | with_reducible assumption
    | with_reducible exact sub_parts hp (by decide)
    | with_reducible exact sub_parts _hp (by decide)
    | with_reducible exact sub_regs _hr (by decide)
    | with_reducible apply State.conf_modOut
    | with_reducible apply State.conf_modFed
    | (extract_lets +onlyGivenNames x
       first
         | (refine conf_cut (s0 := s0) (ps := ps) (rs := rs) (s := x) ?_ (fun _ => ?_); (focus unfold x); on_goal 2 => clear_value x)
         | (unfold x; clear x)
         | clear_value x)
    | with_reducible apply conf_ite
    | split
    | (with_reducible refine conf_src rfl ?_ (fun p hq => ?_) (fun b _ => ?_) ?_
       on_goal 2 => cases p <;> first | with_reducible rfl | exact absurd (hp (by decide)) hq
       on_goal 2 => exact State.store_of_tables rfl rfl rfl b
       on_goal 2 => first | exact id | (intro hs; simp only [State.shaped] at hs ⊢; simp_all)))

theorem State.conf_voidOut {s0 s : State} {ps : List Part} {rs : Nat → Prop} (a1 : Side) (h : Confined s0 ps rs s) (hp : [.outA, .outB] ⊆ ps) (_hr : ∀ a ∈ ([] : List Nat), rs a) : Confined s0 ps rs (State.voidOut s a1) := by
  unfold State.voidOut
  repeat' (first
    | with_reducible assumption
    | with_reducible exact sub_parts hp (by decide)
    | with_reducible exact sub_parts _hp (by decide)
    | with_reducible exact sub_regs _hr (by decide)
    | with_reducible apply State.conf_modFed)

theorem State.conf_voidFill {s0 s : State} {ps : List Part} {rs : Nat → Prop} (a1 : Side) (a2 : List Bool) (h : Confined s0 ps rs s) (hp : [.outA, .outB] ⊆ ps) (_hr : ∀ a ∈ ([] : List Nat), rs a) : Confined s0 ps rs (State.voidFill s a1 a2) := by
  unfold State.voidFill
  repeat' (first
    | with_reducible assumption
    | with_reducible exact sub_parts hp (by decide)
    | with_reducible exact sub_parts _hp (by decide)
    | with_reducible exact sub_regs _hr (by decide)
    | with_reducible apply State.conf_modFed
    | with_reducible apply conf_ite
    | split)

theorem State.conf_forwardField {s0 s : State} {ps : List Part} {rs : Nat → Prop} (a1 : Side) (a2 : Nat) (a3 : OutSide → OutSide) (a4 : OutSide → OutSide) (h : Confined s0 ps rs s) (hp : [.outA, .outB] ⊆ ps) (_hr : ∀ a ∈ ([] : List Nat), rs a) : Confined s0 ps rs (State.forwardField s a1 a2 a3 a4) := by
  unfold State.forwardField
  repeat' (first
    | with_reducible assumption
    | with_reducible exact sub_parts hp (by decide)
    | with_reducible exact sub_parts _hp (by decide)
    | with_reducible exact sub_regs _hr (by decide)
    | with_reducible apply State.conf_forward
    | with_reducible apply State.conf_modOut
    | (extract_lets +onlyGivenNames x
       first
         | (refine conf_cut (s0 := s0) (ps := ps) (rs := rs) (s := x) ?_ (fun _ => ?_); (focus unfold x); on_goal 2 => clear_value x)
         | (unfold x; clear x)
         | clear_value x)
    | with_reducible apply conf_ite
    | split)

theorem State.conf_fawMissed {s0 s : State} {ps : List Part} {rs : Nat → Prop} (x : Side) (c : Bool) (h : Confined s0 ps rs s) (hp : [.outA, .outB] ⊆ ps) (hr : ∀ a ∈ [Reg.LINK_FAW_MISS_A, Reg.LINK_FAW_MISS_B], rs a) :
    Confined s0 ps rs (State.fawMissed s x c) := by
  unfold State.fawMissed
  extract_lets s1
  have h1 : Confined s0 ps rs s1 := conf_ite (State.conf_countWrap _ h (by cases x <;> exact hr _ (by decide))) h
  clear_value s1
  exact conf_ite (State.conf_voidOut _ h1 (sub_parts hp (by decide)) (sub_regs hr (by decide))) h1

theorem State.conf_outStart {s0 s : State} {ps : List Part} {rs : Nat → Prop} (a1 : Side) (a2 : FrameIn) (h : Confined s0 ps rs s) (hp : [.outA, .outB] ⊆ ps) (_hr : ∀ a ∈ ([] : List Nat), rs a) : Confined s0 ps rs (State.outStart s a1 a2) := by
  unfold State.outStart
  repeat' (first
    | with_reducible assumption
    | with_reducible exact sub_parts hp (by decide)
    | with_reducible exact sub_parts _hp (by decide)
    | with_reducible exact sub_regs _hr (by decide)
    | with_reducible apply State.conf_modOut
    | with_reducible apply State.conf_modFed
    | (extract_lets +onlyGivenNames x
       first
         | (refine conf_cut (s0 := s0) (ps := ps) (rs := rs) (s := x) ?_ (fun _ => ?_); (focus unfold x); on_goal 2 => clear_value x)
         | (unfold x; clear x)
         | clear_value x)
    | with_reducible apply conf_ite
    | split
    | (with_reducible refine conf_src rfl ?_ (fun p hq => ?_) (fun b _ => ?_) ?_
       on_goal 2 => cases p <;> first | with_reducible rfl | exact absurd (hp (by decide)) hq
       on_goal 2 => exact State.store_of_tables rfl rfl rfl b
       on_goal 2 => first | exact id | (intro hs; simp only [State.shaped] at hs ⊢; simp_all)))

theorem State.conf_restoreOut {s0 s : State} {ps : List Part} {rs : Nat → Prop} (a1 : Side) (a2 : FrameIn) (h : Confined s0 ps rs s) (hp : [.sideA, .sideB] ⊆ ps) (_hr : ∀ a ∈ ([] : List Nat), rs a) : Confined s0 ps rs (State.restoreOut s a1 a2) := by
  unfold State.restoreOut
  repeat' (first
    | with_reducible assumption
    | with_reducible exact sub_parts hp (by decide)
    | with_reducible exact sub_parts _hp (by decide)
    | with_reducible exact sub_regs _hr (by decide)
    | with_reducible apply State.conf_modSd
    | (extract_lets +onlyGivenNames x
       first
         | (refine conf_cut (s0 := s0) (ps := ps) (rs := rs) (s := x) ?_ (fun _ => ?_); (focus unfold x); on_goal 2 => clear_value x)
         | (unfold x; clear x)
         | clear_value x)
    | (with_reducible refine conf_src rfl ?_ (fun p hq => ?_) (fun b _ => ?_) ?_
       on_goal 2 => cases p <;> first | with_reducible rfl | exact absurd (hp (by decide)) hq
       on_goal 2 => exact State.store_of_tables rfl rfl rfl b
       on_goal 2 => first | exact id | (intro hs; simp only [State.shaped] at hs ⊢; simp_all)))

theorem State.conf_linkFrameStart {s0 s : State} {ps : List Part} {rs : Nat → Prop} (x : Side) (i : FrameIn) (h : Confined s0 ps rs s) (hp : [.sideA, .sideB, .outA, .outB] ⊆ ps) (hr : ∀ a ∈ [Reg.LINK_FAW_MISS_A, Reg.LINK_FAW_MISS_B], rs a) :
    Confined s0 ps rs (State.linkFrameStart s x i) := by
  unfold State.linkFrameStart
  extract_lets d s1 s2 voids s3
  have h1 : Confined s0 ps rs s1 := State.conf_modSd _ _ h (sub_parts hp (by decide)) (sub_regs hr (by decide))
  clear_value s1
  have h2 : Confined s0 ps rs s2 := State.conf_outStart _ _ (State.conf_restoreOut _ _ h1 (sub_parts hp (by decide)) (sub_regs hr (by decide))) (sub_parts hp (by decide)) (sub_regs hr (by decide))
  clear_value s2
  have h3 : Confined s0 ps rs s3 := State.conf_modSd _ _ h2 (sub_parts hp (by decide)) (sub_regs hr (by decide))
  clear_value s3
  exact conf_ite (State.conf_fawMissed _ _ h3 (sub_parts hp (by decide)) (sub_regs hr (by decide))) h3

theorem State.conf_countProof {s0 s : State} {ps : List Part} {rs : Nat → Prop} (a1 : Side) (a2 : FrameIn) (h : Confined s0 ps rs s) (_hp : ([] : List Part) ⊆ ps) (hr : ∀ a ∈ [Reg.LINK_PROOF_ERRORS], rs a) : Confined s0 ps rs (State.countProof s a1 a2) := by
  unfold State.countProof
  repeat' (first
    | with_reducible assumption
    | with_reducible exact sub_parts hp (by decide)
    | with_reducible exact sub_parts _hp (by decide)
    | with_reducible exact sub_regs hr (by decide)
    | with_reducible exact hr _ (by decide)
    | with_reducible apply State.conf_countSatN
    | (extract_lets +onlyGivenNames x
       first
         | (refine conf_cut (s0 := s0) (ps := ps) (rs := rs) (s := x) ?_ (fun _ => ?_); (focus unfold x); on_goal 2 => clear_value x)
         | (unfold x; clear x)
         | clear_value x)
    | with_reducible apply conf_ite
    | split
    | (with_reducible refine conf_src rfl ?_ (fun p hq => ?_) (fun b _ => ?_) ?_
       on_goal 2 => cases p <;> first | with_reducible rfl | exact absurd (hp (by decide)) hq
       on_goal 2 => exact State.store_of_tables rfl rfl rfl b
       on_goal 2 => first | exact id | (intro hs; simp only [State.shaped] at hs ⊢; simp_all)))

theorem State.conf_takeLock {s0 s : State} {ps : List Part} {rs : Nat → Prop} (a1 : Side) (a2 : Nat) (h : Confined s0 ps rs s) (hp : [.sset, .bumped, .caused, .sideA, .sideB, .fixer] ⊆ ps) (hr : ∀ a ∈ [Reg.LINK_LINK_STATUS], rs a) : Confined s0 ps rs (State.takeLock s a1 a2) := by
  unfold State.takeLock
  repeat' (first
    | with_reducible assumption
    | with_reducible exact sub_parts hp (by decide)
    | with_reducible exact sub_parts _hp (by decide)
    | with_reducible exact sub_regs hr (by decide)
    | with_reducible exact hr _ (by decide)
    | with_reducible apply State.conf_modSd
    | with_reducible apply State.conf_raise
    | with_reducible apply State.conf_setFlag
    | (extract_lets +onlyGivenNames x
       first
         | (refine conf_cut (s0 := s0) (ps := ps) (rs := rs) (s := x) ?_ (fun _ => ?_); (focus unfold x); on_goal 2 => clear_value x)
         | (unfold x; clear x)
         | clear_value x)
    | with_reducible apply conf_ite
    | split
    | (with_reducible refine conf_src rfl ?_ (fun p hq => ?_) (fun b _ => ?_) ?_
       on_goal 2 => cases p <;> first | with_reducible rfl | exact absurd (hp (by decide)) hq
       on_goal 2 => exact State.store_of_tables rfl rfl rfl b
       on_goal 2 => first | exact id | (intro hs; simp only [State.shaped] at hs ⊢; simp_all)))

theorem State.conf_tryLock {s0 s : State} {ps : List Part} {rs : Nat → Prop} (a1 : Side) (a2 : Bool) (h : Confined s0 ps rs s) (hp : [.sset, .bumped, .caused, .sideA, .sideB, .fixer] ⊆ ps) (hr : ∀ a ∈ [Reg.LINK_LINK_STATUS], rs a) : Confined s0 ps rs (State.tryLock s a1 a2) := by
  unfold State.tryLock
  repeat' (first
    | with_reducible assumption
    | with_reducible exact sub_parts hp (by decide)
    | with_reducible exact sub_parts _hp (by decide)
    | with_reducible exact sub_regs hr (by decide)
    | with_reducible exact hr _ (by decide)
    | with_reducible apply State.conf_takeLock
    | (extract_lets +onlyGivenNames x
       first
         | (refine conf_cut (s0 := s0) (ps := ps) (rs := rs) (s := x) ?_ (fun _ => ?_); (focus unfold x); on_goal 2 => clear_value x)
         | (unfold x; clear x)
         | clear_value x)
    | with_reducible apply conf_ite
    | split)

theorem State.conf_dropLock {s0 s : State} {ps : List Part} {rs : Nat → Prop} (a1 : Side) (h : Confined s0 ps rs s) (hp : [.sideA, .sideB] ⊆ ps) (_hr : ∀ a ∈ ([] : List Nat), rs a) : Confined s0 ps rs (State.dropLock s a1) := by
  unfold State.dropLock
  repeat' (first
    | with_reducible assumption
    | with_reducible exact sub_parts hp (by decide)
    | with_reducible exact sub_parts _hp (by decide)
    | with_reducible exact sub_regs _hr (by decide)
    | with_reducible apply State.conf_modSd
    | (extract_lets +onlyGivenNames x
       first
         | (refine conf_cut (s0 := s0) (ps := ps) (rs := rs) (s := x) ?_ (fun _ => ?_); (focus unfold x); on_goal 2 => clear_value x)
         | (unfold x; clear x)
         | clear_value x)
    | (with_reducible refine conf_src rfl ?_ (fun p hq => ?_) (fun b _ => ?_) ?_
       on_goal 2 => cases p <;> first | with_reducible rfl | exact absurd (hp (by decide)) hq
       on_goal 2 => exact State.store_of_tables rfl rfl rfl b
       on_goal 2 => first | exact id | (intro hs; simp only [State.shaped] at hs ⊢; simp_all)))

theorem State.conf_clockLost {s0 s : State} {ps : List Part} {rs : Nat → Prop} (a1 : Side) (a2 : List Bool) (h : Confined s0 ps rs s) (hp : [.sset, .bumped, .caused, .clk, .sideA, .sideB, .outA, .outB] ⊆ ps) (hr : ∀ a ∈ [Reg.CHIP_CLK_STATUS], rs a) : Confined s0 ps rs (State.clockLost s a1 a2) := by
  unfold State.clockLost
  repeat' (first
    | with_reducible assumption
    | with_reducible exact sub_parts hp (by decide)
    | with_reducible exact sub_parts _hp (by decide)
    | with_reducible exact sub_regs hr (by decide)
    | with_reducible exact hr _ (by decide)
    | with_reducible apply State.conf_voidFill
    | with_reducible apply State.conf_modSd
    | with_reducible apply State.conf_setFlag
    | (extract_lets +onlyGivenNames x
       first
         | (refine conf_cut (s0 := s0) (ps := ps) (rs := rs) (s := x) ?_ (fun _ => ?_); (focus unfold x); on_goal 2 => clear_value x)
         | (unfold x; clear x)
         | clear_value x)
    | with_reducible apply conf_ite
    | split
    | (with_reducible refine conf_src rfl ?_ (fun p hq => ?_) (fun b _ => ?_) ?_
       on_goal 2 => cases p <;> first | with_reducible rfl | exact absurd (hp (by decide)) hq
       on_goal 2 => exact State.store_of_tables rfl rfl rfl b
       on_goal 2 => first | exact id | (intro hs; simp only [State.shaped] at hs ⊢; simp_all)))

theorem State.conf_clockReturn {s0 s : State} {ps : List Part} {rs : Nat → Prop} (a1 : Side) (h : Confined s0 ps rs s) (hp : [.clk, .sideA, .sideB] ⊆ ps) (_hr : ∀ a ∈ ([] : List Nat), rs a) : Confined s0 ps rs (State.clockReturn s a1) := by
  unfold State.clockReturn
  repeat' (first
    | with_reducible assumption
    | with_reducible exact sub_parts hp (by decide)
    | with_reducible exact sub_parts _hp (by decide)
    | with_reducible exact sub_regs _hr (by decide)
    | with_reducible apply State.conf_modSd
    | (extract_lets +onlyGivenNames x
       first
         | (refine conf_cut (s0 := s0) (ps := ps) (rs := rs) (s := x) ?_ (fun _ => ?_); (focus unfold x); on_goal 2 => clear_value x)
         | (unfold x; clear x)
         | clear_value x)
    | split
    | (with_reducible refine conf_src rfl ?_ (fun p hq => ?_) (fun b _ => ?_) ?_
       on_goal 2 => cases p <;> first | with_reducible rfl | exact absurd (hp (by decide)) hq
       on_goal 2 => exact State.store_of_tables rfl rfl rfl b
       on_goal 2 => first | exact id | (intro hs; simp only [State.shaped] at hs ⊢; simp_all)))

theorem State.conf_declareDown {s0 s : State} {ps : List Part} {rs : Nat → Prop} (a1 : Side) (a2 : Bool) (h : Confined s0 ps rs s) (hp : [.sset, .bumped, .caused, .sideA, .sideB, .link, .fixer] ⊆ ps) (hr : ∀ a ∈ [Reg.FIXER_FIXER_STATUS, Reg.FIXER_LASTING_COUNT, Reg.LINK_LINK_STATUS], rs a) : Confined s0 ps rs (State.declareDown s a1 a2) := by
  unfold State.declareDown
  repeat' (first
    | with_reducible assumption
    | with_reducible exact sub_parts hp (by decide)
    | with_reducible exact sub_parts _hp (by decide)
    | with_reducible exact sub_regs hr (by decide)
    | with_reducible exact hr _ (by decide)
    | with_reducible apply State.conf_modSd
    | with_reducible apply State.conf_setFlag
    | with_reducible apply State.conf_raise
    | with_reducible apply State.conf_fixerReport
    | (extract_lets +onlyGivenNames x
       first
         | (refine conf_cut (s0 := s0) (ps := ps) (rs := rs) (s := x) ?_ (fun _ => ?_); (focus unfold x); on_goal 2 => clear_value x)
         | (unfold x; clear x)
         | clear_value x)
    | with_reducible apply conf_ite
    | split
    | (with_reducible refine conf_src rfl ?_ (fun p hq => ?_) (fun b _ => ?_) ?_
       on_goal 2 => cases p <;> first | with_reducible rfl | exact absurd (hp (by decide)) hq
       on_goal 2 => exact State.store_of_tables rfl rfl rfl b
       on_goal 2 => first | exact id | (intro hs; simp only [State.shaped] at hs ⊢; simp_all)))

theorem State.conf_startWrap {s0 s : State} {ps : List Part} {rs : Nat → Prop} (a1 : Side) (h : Confined s0 ps rs s) (hp : [.sset, .bumped, .caused, .link, .fixer] ⊆ ps) (hr : ∀ a ∈ [Reg.LINK_LINK_STATUS, Reg.LINK_WRAP_COUNT], rs a) : Confined s0 ps rs (State.startWrap s a1) := by
  unfold State.startWrap
  repeat' (first
    | with_reducible assumption
    | with_reducible exact sub_parts hp (by decide)
    | with_reducible exact sub_parts _hp (by decide)
    | with_reducible exact sub_regs hr (by decide)
    | with_reducible exact hr _ (by decide)
    | with_reducible apply State.conf_setFlag
    | with_reducible apply State.conf_countWrap
    | with_reducible apply State.conf_raise
    | (extract_lets +onlyGivenNames x
       first
         | (refine conf_cut (s0 := s0) (ps := ps) (rs := rs) (s := x) ?_ (fun _ => ?_); (focus unfold x); on_goal 2 => clear_value x)
         | (unfold x; clear x)
         | clear_value x)
    | (with_reducible refine conf_src rfl ?_ (fun p hq => ?_) (fun b _ => ?_) ?_
       on_goal 2 => cases p <;> first | with_reducible rfl | exact absurd (hp (by decide)) hq
       on_goal 2 => exact State.store_of_tables rfl rfl rfl b
       on_goal 2 => first | exact id | (intro hs; simp only [State.shaped] at hs ⊢; simp_all)))

theorem State.conf_endWrap {s0 s : State} {ps : List Part} {rs : Nat → Prop} (a1 : Side) (h : Confined s0 ps rs s) (hp : [.sset, .bumped, .caused, .sideA, .sideB, .link, .fixer] ⊆ ps) (hr : ∀ a ∈ [Reg.LINK_LINK_STATUS], rs a) : Confined s0 ps rs (State.endWrap s a1) := by
  unfold State.endWrap
  repeat' (first
    | with_reducible assumption
    | with_reducible exact sub_parts hp (by decide)
    | with_reducible exact sub_parts _hp (by decide)
    | with_reducible exact sub_regs hr (by decide)
    | with_reducible exact hr _ (by decide)
    | with_reducible apply State.conf_modSd
    | with_reducible apply State.conf_setFlag
    | with_reducible apply State.conf_raise
    | (extract_lets +onlyGivenNames x
       first
         | (refine conf_cut (s0 := s0) (ps := ps) (rs := rs) (s := x) ?_ (fun _ => ?_); (focus unfold x); on_goal 2 => clear_value x)
         | (unfold x; clear x)
         | clear_value x)
    | (with_reducible refine conf_src rfl ?_ (fun p hq => ?_) (fun b _ => ?_) ?_
       on_goal 2 => cases p <;> first | with_reducible rfl | exact absurd (hp (by decide)) hq
       on_goal 2 => exact State.store_of_tables rfl rfl rfl b
       on_goal 2 => first | exact id | (intro hs; simp only [State.shaped] at hs ⊢; simp_all)))

theorem State.conf_setDelay {s0 s : State} {ps : List Part} {rs : Nat → Prop} (a1 : Nat) (a2 : Nat) (h : Confined s0 ps rs s) (hp : [.sideA, .sideB] ⊆ ps) (_hr : ∀ a ∈ ([] : List Nat), rs a) : Confined s0 ps rs (State.setDelay s a1 a2) := by
  unfold State.setDelay
  repeat' (first
    | with_reducible assumption
    | with_reducible exact sub_parts hp (by decide)
    | with_reducible exact sub_parts _hp (by decide)
    | with_reducible exact sub_regs _hr (by decide)
    | with_reducible apply State.conf_modSd
    | (extract_lets +onlyGivenNames x
       first
         | (refine conf_cut (s0 := s0) (ps := ps) (rs := rs) (s := x) ?_ (fun _ => ?_); (focus unfold x); on_goal 2 => clear_value x)
         | (unfold x; clear x)
         | clear_value x)
    | with_reducible apply conf_ite
    | split
    | (with_reducible refine conf_src rfl ?_ (fun p hq => ?_) (fun b _ => ?_) ?_
       on_goal 2 => cases p <;> first | with_reducible rfl | exact absurd (hp (by decide)) hq
       on_goal 2 => exact State.store_of_tables rfl rfl rfl b
       on_goal 2 => first | exact id | (intro hs; simp only [State.shaped] at hs ⊢; simp_all)))

theorem State.conf_trackLane {s0 s : State} {ps : List Part} {rs : Nat → Prop} (a1 : Nat) (a2 : LaneMove) (h : Confined s0 ps rs s) (hp : [.sset, .bumped, .caused, .sideA, .sideB, .fixer] ⊆ ps) (hr : ∀ a ∈ [Reg.LINK_LINK_STATUS], rs a) : Confined s0 ps rs (State.trackLane s a1 a2) := by
  unfold State.trackLane
  repeat' (first
    | with_reducible assumption
    | with_reducible exact sub_parts hp (by decide)
    | with_reducible exact sub_parts _hp (by decide)
    | with_reducible exact sub_regs hr (by decide)
    | with_reducible exact hr _ (by decide)
    | with_reducible apply State.conf_setDelay
    | with_reducible apply State.conf_setFlag
    | with_reducible apply State.conf_raise
    | (extract_lets +onlyGivenNames x
       first
         | (refine conf_cut (s0 := s0) (ps := ps) (rs := rs) (s := x) ?_ (fun _ => ?_); (focus unfold x); on_goal 2 => clear_value x)
         | (unfold x; clear x)
         | clear_value x)
    | with_reducible apply conf_ite
    | split
    | (with_reducible refine conf_src rfl ?_ (fun p hq => ?_) (fun b _ => ?_) ?_
       on_goal 2 => cases p <;> first | with_reducible rfl | exact absurd (hp (by decide)) hq
       on_goal 2 => exact State.store_of_tables rfl rfl rfl b
       on_goal 2 => first | exact id | (intro hs; simp only [State.shaped] at hs ⊢; simp_all)))

theorem State.conf_startTraining {s0 s : State} {ps : List Part} {rs : Nat → Prop}  (h : Confined s0 ps rs s) (hp : [.link, .outA, .outB] ⊆ ps) (_hr : ∀ a ∈ ([] : List Nat), rs a) : Confined s0 ps rs (State.startTraining s) := by
  unfold State.startTraining
  repeat' (first
    | with_reducible assumption
    | with_reducible exact sub_parts hp (by decide)
    | with_reducible exact sub_parts _hp (by decide)
    | with_reducible exact sub_regs _hr (by decide)
    | (extract_lets +onlyGivenNames x
       first
         | (refine conf_cut (s0 := s0) (ps := ps) (rs := rs) (s := x) ?_ (fun _ => ?_); (focus unfold x); on_goal 2 => clear_value x)
         | (unfold x; clear x)
         | clear_value x)
    | (with_reducible refine conf_src rfl ?_ (fun p hq => ?_) (fun b _ => ?_) ?_
       on_goal 2 => cases p <;> first | with_reducible rfl | exact absurd (hp (by decide)) hq
       on_goal 2 => exact State.store_of_tables rfl rfl rfl b
       on_goal 2 => first | exact id | (intro hs; simp only [State.shaped] at hs ⊢; simp_all)))

theorem State.conf_scanLanes {s0 s : State} {ps : List Part} {rs : Nat → Prop} (a1 : Nat) (h : Confined s0 ps rs s) (hp : [.sideA, .sideB] ⊆ ps) (_hr : ∀ a ∈ ([] : List Nat), rs a) : Confined s0 ps rs (State.scanLanes s a1) := by
  unfold State.scanLanes
  repeat' (first
    | with_reducible assumption
    | with_reducible exact sub_parts hp (by decide)
    | with_reducible exact sub_parts _hp (by decide)
    | with_reducible exact sub_regs _hr (by decide)
    | intro _ _ _
    | with_reducible apply State.conf_setDelay
    | (extract_lets +onlyGivenNames x
       first
         | (refine conf_cut (s0 := s0) (ps := ps) (rs := rs) (s := x) ?_ (fun _ => ?_); (focus unfold x); on_goal 2 => clear_value x)
         | (unfold x; clear x)
         | clear_value x)
    | with_reducible apply conf_foldl
    | split
    | (with_reducible refine conf_src rfl ?_ (fun p hq => ?_) (fun b _ => ?_) ?_
       on_goal 2 => cases p <;> first | with_reducible rfl | exact absurd (hp (by decide)) hq
       on_goal 2 => exact State.store_of_tables rfl rfl rfl b
       on_goal 2 => first | exact id | (intro hs; simp only [State.shaped] at hs ⊢; simp_all)))

theorem State.conf_trainFrame {s0 s : State} {ps : List Part} {rs : Nat → Prop} (a1 : Side) (a2 : FrameIn) (h : Confined s0 ps rs s) (hp : [.link] ⊆ ps) (_hr : ∀ a ∈ ([] : List Nat), rs a) : Confined s0 ps rs (State.trainFrame s a1 a2) := by
  unfold State.trainFrame
  repeat' (first
    | with_reducible assumption
    | with_reducible exact sub_parts hp (by decide)
    | with_reducible exact sub_parts _hp (by decide)
    | with_reducible exact sub_regs _hr (by decide)
    | (extract_lets +onlyGivenNames x
       first
         | (refine conf_cut (s0 := s0) (ps := ps) (rs := rs) (s := x) ?_ (fun _ => ?_); (focus unfold x); on_goal 2 => clear_value x)
         | (unfold x; clear x)
         | clear_value x)
    | with_reducible apply conf_ite
    | split
    | (with_reducible refine conf_src rfl ?_ (fun p hq => ?_) (fun b _ => ?_) ?_
       on_goal 2 => cases p <;> first | with_reducible rfl | exact absurd (hp (by decide)) hq
       on_goal 2 => exact State.store_of_tables rfl rfl rfl b
       on_goal 2 => first | exact id | (intro hs; simp only [State.shaped] at hs ⊢; simp_all)))

theorem State.conf_trainFail {s0 s : State} {ps : List Part} {rs : Nat → Prop} (a1 : Side) (a2 : Nat) (h : Confined s0 ps rs s) (hp : [.sset, .bumped, .caused, .sideA, .sideB, .fixer] ⊆ ps) (hr : ∀ a ∈ [Reg.LINK_LINK_STATUS], rs a) : Confined s0 ps rs (State.trainFail s a1 a2) := by
  unfold State.trainFail
  repeat' (first
    | with_reducible assumption
    | with_reducible exact sub_parts hp (by decide)
    | with_reducible exact sub_parts _hp (by decide)
    | with_reducible exact sub_regs hr (by decide)
    | with_reducible exact hr _ (by decide)
    | with_reducible apply State.conf_setFlag
    | with_reducible apply State.conf_raise
    | with_reducible apply State.conf_dropLock
    | (extract_lets +onlyGivenNames x
       first
         | (refine conf_cut (s0 := s0) (ps := ps) (rs := rs) (s := x) ?_ (fun _ => ?_); (focus unfold x); on_goal 2 => clear_value x)
         | (unfold x; clear x)
         | clear_value x))

theorem State.conf_trainCentre {s0 s : State} {ps : List Part} {rs : Nat → Prop} (t : Training) (h : Confined s0 ps rs s) (hp : [.sset, .bumped, .caused, .sideA, .sideB, .link, .fixer] ⊆ ps) (hr : ∀ a ∈ [Reg.LINK_LINK_STATUS], rs a) :
    Confined s0 ps rs (State.trainCentre s t) := by
  unfold State.trainCentre
  extract_lets s1 none' fA fB s2 s3 lk
  have h1 : Confined s0 ps rs s1 := conf_foldl (fun _ _ ht => State.conf_setDelay _ _ ht (sub_parts hp (by decide)) (sub_regs hr (by decide))) h
  clear_value s1 fA fB
  have h2 : Confined s0 ps rs s2 := conf_ite h1 (State.conf_trainFail _ _ h1 (sub_parts hp (by decide)) (sub_regs hr (by decide)))
  clear_value s2
  have h3 : Confined s0 ps rs s3 := conf_ite h2 (State.conf_trainFail _ _ h2 (sub_parts hp (by decide)) (sub_regs hr (by decide)))
  clear_value s3
  unfold lk
  refine conf_upd h3 (fun p hq => ?_) (fun b _ => State.store_of_tables rfl rfl rfl b) id
  cases p <;> first | rfl | exact absurd (hp (by decide)) hq

theorem State.conf_trainEndSide {s0 s : State} {ps : List Part} {rs : Nat → Prop} (a1 : Training) (a2 : Side) (h : Confined s0 ps rs s) (hp : [.sset, .bumped, .caused, .sideA, .sideB, .fixer] ⊆ ps) (hr : ∀ a ∈ [Reg.LINK_LINK_STATUS], rs a) : Confined s0 ps rs (State.trainEndSide s a1 a2) := by
  unfold State.trainEndSide
  repeat' (first
    | with_reducible assumption
    | with_reducible exact sub_parts hp (by decide)
    | with_reducible exact sub_parts _hp (by decide)
    | with_reducible exact sub_regs hr (by decide)
    | with_reducible exact hr _ (by decide)
    | with_reducible apply State.conf_trainFail
    | with_reducible apply State.conf_takeLock
    | (extract_lets +onlyGivenNames x
       first
         | (refine conf_cut (s0 := s0) (ps := ps) (rs := rs) (s := x) ?_ (fun _ => ?_); (focus unfold x); on_goal 2 => clear_value x)
         | (unfold x; clear x)
         | clear_value x)
    | with_reducible apply conf_ite
    | split
    | (with_reducible refine conf_src rfl ?_ (fun p hq => ?_) (fun b _ => ?_) ?_
       on_goal 2 => cases p <;> first | with_reducible rfl | exact absurd (hp (by decide)) hq
       on_goal 2 => exact State.store_of_tables rfl rfl rfl b
       on_goal 2 => first | exact id | (intro hs; simp only [State.shaped] at hs ⊢; simp_all)))

theorem State.conf_startLoop {s0 s : State} {ps : List Part} {rs : Nat → Prop}  (h : Confined s0 ps rs s) (hp : [.link, .outA, .outB] ⊆ ps) (hr : ∀ a ∈ [Reg.LINK_PROOF_CTL_A, Reg.LINK_PROOF_CTL_B, Reg.LINK_PROOF_ERRORS], rs a) : Confined s0 ps rs (State.startLoop s) := by
  unfold State.startLoop
  repeat' (first
    | with_reducible assumption
    | with_reducible exact sub_parts hp (by decide)
    | with_reducible exact sub_parts _hp (by decide)
    | with_reducible exact sub_regs hr (by decide)
    | with_reducible exact hr _ (by decide)
    | with_reducible apply State.conf_setReg
    | with_reducible apply State.conf_setPair
    | (extract_lets +onlyGivenNames x
       first
         | (refine conf_cut (s0 := s0) (ps := ps) (rs := rs) (s := x) ?_ (fun _ => ?_); (focus unfold x); on_goal 2 => clear_value x)
         | (unfold x; clear x)
         | clear_value x)
    | with_reducible apply conf_ite
    | split
    | (with_reducible refine conf_src rfl ?_ (fun p hq => ?_) (fun b _ => ?_) ?_
       on_goal 2 => cases p <;> first | with_reducible rfl | exact absurd (hp (by decide)) hq
       on_goal 2 => exact State.store_of_tables rfl rfl rfl b
       on_goal 2 => first | exact id | (intro hs; simp only [State.shaped] at hs ⊢; simp_all)))

theorem State.conf_endLoop {s0 s : State} {ps : List Part} {rs : Nat → Prop}  (h : Confined s0 ps rs s) (hp : [.sideA, .sideB, .link, .outA, .outB] ⊆ ps) (_hr : ∀ a ∈ ([] : List Nat), rs a) : Confined s0 ps rs (State.endLoop s) := by
  unfold State.endLoop
  repeat' (first
    | with_reducible assumption
    | with_reducible exact sub_parts hp (by decide)
    | with_reducible exact sub_parts _hp (by decide)
    | with_reducible exact sub_regs _hr (by decide)
    | with_reducible apply State.conf_dropLock
    | (extract_lets +onlyGivenNames x
       first
         | (refine conf_cut (s0 := s0) (ps := ps) (rs := rs) (s := x) ?_ (fun _ => ?_); (focus unfold x); on_goal 2 => clear_value x)
         | (unfold x; clear x)
         | clear_value x)
    | with_reducible apply conf_ite
    | split
    | (with_reducible refine conf_src rfl ?_ (fun p hq => ?_) (fun b _ => ?_) ?_
       on_goal 2 => cases p <;> first | with_reducible rfl | exact absurd (hp (by decide)) hq
       on_goal 2 => exact State.store_of_tables rfl rfl rfl b
       on_goal 2 => first | exact id | (intro hs; simp only [State.shaped] at hs ⊢; simp_all)))

end Sys2Proof.Machine
end

