-- ==== Sys2Proof/Laws/ConfHeader.lean ====
section
/-! SUPPORT. What every operation of Machine/Header.lean is confined to: the parts of the state and the registers it can change. -/

set_option linter.unusedTactic false
set_option linter.unreachableTactic false
set_option linter.unusedVariables false
set_option linter.tactic.unusedName false

namespace Sys2Proof.Machine

theorem State.conf_checkFailed {s0 s : State} {ps : List Part} {rs : Nat → Prop} (x : Side) (part : Nat) (h : Confined s0 ps rs s) (hp : [.sset, .bumped, .caused] ⊆ ps) (hr : ∀ a ∈ [Reg.FRAME_CHECK_ERR_A, Reg.FRAME_CHECK_ERR_B, Reg.FRAME_FRAME_STATUS], rs a) :
    Confined s0 ps rs (State.checkFailed s x part) := by
  unfold State.checkFailed
  exact State.conf_countWrap _ (State.conf_setFlag _ _ h (sub_parts hp (by decide)) (hr _ (by decide)))
    (by cases x <;> exact hr _ (by decide))

theorem State.conf_takePosition {s0 s : State} {ps : List Part} {rs : Nat → Prop} (a1 : Nat) (h : Confined s0 ps rs s) (hp : [.sset, .bumped, .caused, .ident] ⊆ ps) (hr : ∀ a ∈ [Reg.CHIP_ID_STATUS], rs a) : Confined s0 ps rs (State.takePosition s a1) := by
  unfold State.takePosition
  repeat' (first
    | with_reducible assumption
    | with_reducible exact sub_parts hp (by decide)
    | with_reducible exact sub_parts _hp (by decide)
    | with_reducible exact sub_regs hr (by decide)
    | with_reducible exact hr _ (by decide)
    | with_reducible apply State.conf_setFlag
    | (extract_lets +onlyGivenNames x
       first
         | (refine conf_cut (s0 := s0) (ps := ps) (rs := rs) (s := x) ?_ (fun _ => ?_); (focus unfold x); on_goal 2 => clear_value x)
         | (unfold x; clear x)
         | clear_value x)
    | with_reducible apply conf_ite
    | split
    | (with_reducible refine conf_src rfl ?_ (fun p hq => ?_) (fun b _ => ?_) ?_
       on_goal 2 => cases p <;> first | with_reducible rfl | exact absurd (hp (by decide)) hq
       on_goal 2 => exact State.store_of_tables rfl rfl rfl b
       on_goal 2 => first | exact id | (intro hs; simp only [State.shaped] at hs ⊢; simp_all)))

theorem State.conf_waveA {s0 s : State} {ps : List Part} {rs : Nat → Prop} (a1 : Nat) (h : Confined s0 ps rs s) (hp : [.sset, .bumped, .caused, .ident] ⊆ ps) (hr : ∀ a ∈ [Reg.CHIP_ID_STATUS], rs a) : Confined s0 ps rs (State.waveA s a1).1 := by
  unfold State.waveA
  repeat' (first
    | with_reducible assumption
    | with_reducible exact sub_parts hp (by decide)
    | with_reducible exact sub_parts _hp (by decide)
    | with_reducible exact sub_regs hr (by decide)
    | with_reducible exact hr _ (by decide)
    | with_reducible apply State.conf_setFlag
    | with_reducible apply State.conf_takePosition
    | (extract_lets +onlyGivenNames x
       first
         | (refine conf_cut (s0 := s0) (ps := ps) (rs := rs) (s := x) ?_ (fun _ => ?_); (focus unfold x); on_goal 2 => clear_value x)
         | (unfold x; clear x)
         | clear_value x)
    | with_reducible apply conf_ite
    | split)

theorem State.conf_waveA_eq {s0 s t : State} {ps : List Part} {rs : Nat → Prop} (a1 : Nat) {x : Nat} (e : State.waveA s a1 = (t, x)) (h : Confined s0 ps rs s) (hp : [.sset, .bumped, .caused, .ident] ⊆ ps) (hr : ∀ a ∈ [Reg.CHIP_ID_STATUS], rs a) : Confined s0 ps rs t := by
  have := State.conf_waveA a1 h hp hr
  rwa [e] at this

theorem State.conf_waveB {s0 s : State} {ps : List Part} {rs : Nat → Prop} (a1 : Nat) (h : Confined s0 ps rs s) (hp : [.sset, .bumped, .caused, .ident] ⊆ ps) (hr : ∀ a ∈ [Reg.CHIP_ID_STATUS], rs a) : Confined s0 ps rs (State.waveB s a1).1 := by
  unfold State.waveB
  repeat' (first
    | with_reducible assumption
    | with_reducible exact sub_parts hp (by decide)
    | with_reducible exact sub_parts _hp (by decide)
    | with_reducible exact sub_regs hr (by decide)
    | with_reducible exact hr _ (by decide)
    | with_reducible apply State.conf_takePosition
    | (extract_lets +onlyGivenNames x
       first
         | (refine conf_cut (s0 := s0) (ps := ps) (rs := rs) (s := x) ?_ (fun _ => ?_); (focus unfold x); on_goal 2 => clear_value x)
         | (unfold x; clear x)
         | clear_value x)
    | with_reducible apply conf_ite
    | split)

theorem State.conf_waveB_eq {s0 s t : State} {ps : List Part} {rs : Nat → Prop} (a1 : Nat) {x : Nat} (e : State.waveB s a1 = (t, x)) (h : Confined s0 ps rs s) (hp : [.sset, .bumped, .caused, .ident] ⊆ ps) (hr : ∀ a ∈ [Reg.CHIP_ID_STATUS], rs a) : Confined s0 ps rs t := by
  have := State.conf_waveB a1 h hp hr
  rwa [e] at this

theorem State.conf_enumerate {s0 s : State} {ps : List Part} {rs : Nat → Prop} (a1 : Side) (a2 : BitVec 416) (h : Confined s0 ps rs s) (hp : [.sset, .bumped, .caused, .ident] ⊆ ps) (hr : ∀ a ∈ [Reg.CHIP_ID_STATUS], rs a) : Confined s0 ps rs (State.enumerate s a1 a2).1 := by
  unfold State.enumerate
  repeat' (first
    | with_reducible assumption
    | with_reducible exact sub_parts hp (by decide)
    | with_reducible exact sub_parts _hp (by decide)
    | with_reducible exact sub_regs hr (by decide)
    | with_reducible exact hr _ (by decide)
    | with_reducible apply State.conf_waveA
    | with_reducible refine State.conf_waveA_eq (by with_reducible assumption) ?_ ?_ ?_
    | with_reducible apply State.conf_waveB
    | with_reducible refine State.conf_waveB_eq (by with_reducible assumption) ?_ ?_ ?_
    | (extract_lets +onlyGivenNames x
       first
         | (refine conf_cut (s0 := s0) (ps := ps) (rs := rs) (s := x) ?_ (fun _ => ?_); (focus unfold x); on_goal 2 => clear_value x)
         | (unfold x; clear x)
         | clear_value x)
    | with_reducible apply conf_ite
    | split
    | (with_reducible refine conf_src rfl ?_ (fun p hq => ?_) (fun b _ => ?_) ?_
       on_goal 2 => cases p <;> first | with_reducible rfl | exact absurd (hp (by decide)) hq
       on_goal 2 => exact State.store_of_tables rfl rfl rfl b
       on_goal 2 => first | exact id | (intro hs; simp only [State.shaped] at hs ⊢; simp_all)))

theorem State.conf_enumerate_eq {s0 s t : State} {ps : List Part} {rs : Nat → Prop} (a1 : Side) (a2 : BitVec 416) {x : BitVec 416} (e : State.enumerate s a1 a2 = (t, x)) (h : Confined s0 ps rs s) (hp : [.sset, .bumped, .caused, .ident] ⊆ ps) (hr : ∀ a ∈ [Reg.CHIP_ID_STATUS], rs a) : Confined s0 ps rs t := by
  have := State.conf_enumerate a1 a2 h hp hr
  rwa [e] at this

theorem State.conf_forwardHeader {s0 s : State} {ps : List Part} {rs : Nat → Prop} (a1 : Side) (a2 : BitVec 416) (a3 : BitVec 416) (a4 : Bool) (h : Confined s0 ps rs s) (hp : [.outA, .outB] ⊆ ps) (_hr : ∀ a ∈ ([] : List Nat), rs a) : Confined s0 ps rs (State.forwardHeader s a1 a2 a3 a4) := by
  unfold State.forwardHeader
  repeat' (first
    | with_reducible assumption
    | with_reducible exact sub_parts hp (by decide)
    | with_reducible exact sub_parts _hp (by decide)
    | with_reducible exact sub_regs _hr (by decide)
    | with_reducible apply State.conf_forward
    | with_reducible apply State.conf_modOut
    | (extract_lets +onlyGivenNames x
       first
         | (refine conf_cut (s0 := s0) (ps := ps) (rs := rs) (s := x) ?_ (fun _ => ?_); (focus unfold x); on_goal 2 => clear_value x)
         | (unfold x; clear x)
         | clear_value x)
    | with_reducible apply conf_ite
    | split
    | (with_reducible refine conf_src rfl ?_ (fun p hq => ?_) (fun b _ => ?_) ?_
       on_goal 2 => cases p <;> first | with_reducible rfl | exact absurd (hp (by decide)) hq
       on_goal 2 => exact State.store_of_tables rfl rfl rfl b
       on_goal 2 => first | exact id | (intro hs; simp only [State.shaped] at hs ⊢; simp_all)))

theorem State.conf_classEpoch {s0 s : State} {ps : List Part} {rs : Nat → Prop} (a1 : ClassSeen) (h : Confined s0 ps rs s) (hp : [.frame, .fixer] ⊆ ps) (_hr : ∀ a ∈ ([] : List Nat), rs a) : Confined s0 ps rs (State.classEpoch s a1) := by
  unfold State.classEpoch
  repeat' (first
    | with_reducible assumption
    | with_reducible exact sub_parts hp (by decide)
    | with_reducible exact sub_parts _hp (by decide)
    | with_reducible exact sub_regs _hr (by decide)
    | with_reducible apply State.conf_raiseAt
    | (extract_lets +onlyGivenNames x
       first
         | (refine conf_cut (s0 := s0) (ps := ps) (rs := rs) (s := x) ?_ (fun _ => ?_); (focus unfold x); on_goal 2 => clear_value x)
         | (unfold x; clear x)
         | clear_value x)
    | with_reducible apply conf_ite
    | split
    | (with_reducible refine conf_src rfl ?_ (fun p hq => ?_) (fun b _ => ?_) ?_
       on_goal 2 => cases p <;> first | with_reducible rfl | exact absurd (hp (by decide)) hq
       on_goal 2 => exact State.store_of_tables rfl rfl rfl b
       on_goal 2 => first | exact id | (intro hs; simp only [State.shaped] at hs ⊢; simp_all)))

theorem State.conf_settleClasses {s0 s : State} {ps : List Part} {rs : Nat → Prop} (l : List ClassSeen) (h : Confined s0 ps rs s) (hp : [.frame, .fixer] ⊆ ps) (_hr : ∀ a ∈ ([] : List Nat), rs a) :
    Confined s0 ps rs (State.settleClasses s l) := by
  induction l generalizing s with
  | nil => exact (conf_upd h (by intro p hq; cases p <;> first | rfl | exact absurd (hp (by decide)) hq) (fun b _ => State.store_of_tables rfl rfl rfl b) (by intro hs; first | exact hs | (simp only [State.shaped] at hs ⊢; simp_all)))
  | cons c l ih =>
    unfold State.settleClasses
    split
    · exact ih (State.conf_classEpoch _ h (sub_parts hp (by decide)) (sub_regs _hr (by decide)))
    · exact (conf_upd h (by intro p hq; cases p <;> first | rfl | exact absurd (hp (by decide)) hq) (fun b _ => State.store_of_tables rfl rfl rfl b) (by intro hs; first | exact hs | (simp only [State.shaped] at hs ⊢; simp_all)))

theorem State.conf_classRun {s0 s : State} {ps : List Part} {rs : Nat → Prop} (a1 : Side) (a2 : Epoch32) (a3 : BitVec 64) (h : Confined s0 ps rs s) (hp : [.sset, .bumped, .caused, .frame, .fixer] ⊆ ps) (hr : ∀ a ∈ [Reg.FRAME_FRAME_STATUS], rs a) : Confined s0 ps rs (State.classRun s a1 a2 a3) := by
  unfold State.classRun
  repeat' (first
    | with_reducible assumption
    | with_reducible exact sub_parts hp (by decide)
    | with_reducible exact sub_parts _hp (by decide)
    | with_reducible exact sub_regs hr (by decide)
    | with_reducible exact hr _ (by decide)
    | with_reducible apply State.conf_setFlag
    | with_reducible apply State.conf_settleClasses
    | (extract_lets +onlyGivenNames x
       first
         | (refine conf_cut (s0 := s0) (ps := ps) (rs := rs) (s := x) ?_ (fun _ => ?_); (focus unfold x); on_goal 2 => clear_value x)
         | (unfold x; clear x)
         | clear_value x)
    | with_reducible apply conf_ite
    | split)

theorem State.conf_measureSkew {s0 s : State} {ps : List Part} {rs : Nat → Prop} (a1 : Side) (a2 : Epoch32) (a3 : BitVec 24) (h : Confined s0 ps rs s) (hp : [.link] ⊆ ps) (_hr : ∀ a ∈ ([] : List Nat), rs a) : Confined s0 ps rs (State.measureSkew s a1 a2 a3) := by
  unfold State.measureSkew
  repeat' (first
    | with_reducible assumption
    | with_reducible exact sub_parts hp (by decide)
    | with_reducible exact sub_parts _hp (by decide)
    | with_reducible exact sub_regs _hr (by decide)
    | (extract_lets +onlyGivenNames x
       first
         | (refine conf_cut (s0 := s0) (ps := ps) (rs := rs) (s := x) ?_ (fun _ => ?_); (focus unfold x); on_goal 2 => clear_value x)
         | (unfold x; clear x)
         | clear_value x)
    | with_reducible apply conf_ite
    | split
    | (with_reducible refine conf_src rfl ?_ (fun p hq => ?_) (fun b _ => ?_) ?_
       on_goal 2 => cases p <;> first | with_reducible rfl | exact absurd (hp (by decide)) hq
       on_goal 2 => exact State.store_of_tables rfl rfl rfl b
       on_goal 2 => first | exact id | (intro hs; simp only [State.shaped] at hs ⊢; simp_all)))

theorem State.conf_noteEarly {s0 s : State} {ps : List Part} {rs : Nat → Prop} (a1 : Side) (h : Confined s0 ps rs s) (hp : [.frame] ⊆ ps) (_hr : ∀ a ∈ ([] : List Nat), rs a) : Confined s0 ps rs (State.noteEarly s a1) := by
  unfold State.noteEarly
  repeat' (first
    | with_reducible assumption
    | with_reducible exact sub_parts hp (by decide)
    | with_reducible exact sub_parts _hp (by decide)
    | with_reducible exact sub_regs _hr (by decide)
    | (extract_lets +onlyGivenNames x
       first
         | (refine conf_cut (s0 := s0) (ps := ps) (rs := rs) (s := x) ?_ (fun _ => ?_); (focus unfold x); on_goal 2 => clear_value x)
         | (unfold x; clear x)
         | clear_value x)
    | (with_reducible refine conf_src rfl ?_ (fun p hq => ?_) (fun b _ => ?_) ?_
       on_goal 2 => cases p <;> first | with_reducible rfl | exact absurd (hp (by decide)) hq
       on_goal 2 => exact State.store_of_tables rfl rfl rfl b
       on_goal 2 => first | exact id | (intro hs; simp only [State.shaped] at hs ⊢; simp_all)))

theorem State.conf_linkHeader {s0 s : State} {ps : List Part} {rs : Nat → Prop} (a1 : Side) (a2 : BitVec 416) (a3 : BitVec 24) (h : Confined s0 ps rs s) (hp : [.sset, .bumped, .caused, .ident, .sideA, .sideB, .link, .outA, .outB, .frame, .fixer] ⊆ ps) (hr : ∀ a ∈ [Reg.CHIP_ID_STATUS, Reg.FRAME_CHECK_ERR_A, Reg.FRAME_CHECK_ERR_B, Reg.FRAME_FRAME_STATUS, Reg.FRAME_VOID_COUNT, Reg.LINK_LINK_STATUS], rs a) : Confined s0 ps rs (State.linkHeader s a1 a2 a3).1 := by
  unfold State.linkHeader
  repeat' (first
    | with_reducible assumption
    | with_reducible exact sub_parts hp (by decide)
    | with_reducible exact sub_parts _hp (by decide)
    | with_reducible exact sub_regs hr (by decide)
    | with_reducible exact hr _ (by decide)
    | with_reducible apply State.conf_modSd
    | with_reducible apply State.conf_setFlag
    | with_reducible apply State.conf_countWrap
    | with_reducible apply State.conf_checkFailed
    | with_reducible apply State.conf_tryLock
    | with_reducible apply State.conf_enumerate
    | with_reducible refine State.conf_enumerate_eq (by with_reducible assumption) ?_ ?_ ?_
    | with_reducible apply State.conf_forwardHeader
    | with_reducible apply State.conf_classRun
    | with_reducible apply State.conf_measureSkew
    | (extract_lets +onlyGivenNames x
       first
         | (refine conf_cut (s0 := s0) (ps := ps) (rs := rs) (s := x) ?_ (fun _ => ?_); (focus unfold x); on_goal 2 => clear_value x)
         | (unfold x; clear x)
         | clear_value x)
    | with_reducible apply conf_ite
    | split
    | (with_reducible refine conf_src rfl ?_ (fun p hq => ?_) (fun b _ => ?_) ?_
       on_goal 2 => cases p <;> first | with_reducible rfl | exact absurd (hp (by decide)) hq
       on_goal 2 => exact State.store_of_tables rfl rfl rfl b
       on_goal 2 => first | exact id | (intro hs; simp only [State.shaped] at hs ⊢; simp_all)))

theorem State.conf_linkHeader_eq {s0 s t : State} {ps : List Part} {rs : Nat → Prop} (a1 : Side) (a2 : BitVec 416) (a3 : BitVec 24) {x : Bool} (e : State.linkHeader s a1 a2 a3 = (t, x)) (h : Confined s0 ps rs s) (hp : [.sset, .bumped, .caused, .ident, .sideA, .sideB, .link, .outA, .outB, .frame, .fixer] ⊆ ps) (hr : ∀ a ∈ [Reg.CHIP_ID_STATUS, Reg.FRAME_CHECK_ERR_A, Reg.FRAME_CHECK_ERR_B, Reg.FRAME_FRAME_STATUS, Reg.FRAME_VOID_COUNT, Reg.LINK_LINK_STATUS], rs a) : Confined s0 ps rs t := by
  have := State.conf_linkHeader a1 a2 a3 h hp hr
  rwa [e] at this

theorem State.conf_rekey {s0 s : State} {ps : List Part} {rs : Nat → Prop} (a1 : Epoch32) (a2 : Epoch32) (a3 : Bool) (h : Confined s0 ps rs s) (hp : [.frame, .print] ⊆ ps) (_hr : ∀ a ∈ ([] : List Nat), rs a) : Confined s0 ps rs (State.rekey s a1 a2 a3) := by
  unfold State.rekey
  repeat' (first
    | with_reducible assumption
    | with_reducible exact sub_parts hp (by decide)
    | with_reducible exact sub_parts _hp (by decide)
    | with_reducible exact sub_regs _hr (by decide)
    | (extract_lets +onlyGivenNames x
       first
         | (refine conf_cut (s0 := s0) (ps := ps) (rs := rs) (s := x) ?_ (fun _ => ?_); (focus unfold x); on_goal 2 => clear_value x)
         | (unfold x; clear x)
         | clear_value x)
    | with_reducible apply conf_ite
    | split
    | (with_reducible refine conf_src rfl ?_ (fun p hq => ?_) (fun b _ => ?_) ?_
       on_goal 2 => cases p <;> first | with_reducible rfl | exact absurd (hp (by decide)) hq
       on_goal 2 => exact State.store_of_tables rfl rfl rfl b
       on_goal 2 => first | exact id | (intro hs; simp only [State.shaped] at hs ⊢; simp_all)))

theorem State.conf_shiftStages {s0 s : State} {ps : List Part} {rs : Nat → Prop} (a1 : Epoch) (h : Confined s0 ps rs s) (hp : [.stage] ⊆ ps) (_hr : ∀ a ∈ ([] : List Nat), rs a) : Confined s0 ps rs (State.shiftStages s a1) := by
  unfold State.shiftStages
  repeat' (first
    | with_reducible assumption
    | with_reducible exact sub_parts hp (by decide)
    | with_reducible exact sub_parts _hp (by decide)
    | with_reducible exact sub_regs _hr (by decide)
    | (extract_lets +onlyGivenNames x
       first
         | (refine conf_cut (s0 := s0) (ps := ps) (rs := rs) (s := x) ?_ (fun _ => ?_); (focus unfold x); on_goal 2 => clear_value x)
         | (unfold x; clear x)
         | clear_value x)
    | (with_reducible refine conf_src rfl ?_ (fun p hq => ?_) (fun b _ => ?_) ?_
       on_goal 2 => cases p <;> first | with_reducible rfl | exact absurd (hp (by decide)) hq
       on_goal 2 => exact State.store_of_tables rfl rfl rfl b
       on_goal 2 => first | exact id | (intro hs; simp only [State.shaped] at hs ⊢; simp_all)))

theorem State.conf_adopt {s0 s : State} {ps : List Part} {rs : Nat → Prop} (a1 : Epoch32) (a2 : Bool := false) (h : Confined s0 ps rs s) (hp : [.sset, .bumped, .caused, .clk, .outA, .outB, .frame, .print, .stage] ⊆ ps) (hr : ∀ a ∈ [Reg.CHIP_CLK_STATUS], rs a) : Confined s0 ps rs (State.adopt s a1 a2) := by
  unfold State.adopt
  repeat' (first
    | with_reducible assumption
    | with_reducible exact sub_parts hp (by decide)
    | with_reducible exact sub_parts _hp (by decide)
    | with_reducible exact sub_regs hr (by decide)
    | with_reducible exact hr _ (by decide)
    | with_reducible apply State.conf_forward
    | with_reducible apply State.conf_rekey
    | with_reducible apply State.conf_shiftStages
    | with_reducible apply State.conf_setFlag
    | (extract_lets +onlyGivenNames x
       first
         | (refine conf_cut (s0 := s0) (ps := ps) (rs := rs) (s := x) ?_ (fun _ => ?_); (focus unfold x); on_goal 2 => clear_value x)
         | (unfold x; clear x)
         | clear_value x)
    | with_reducible apply conf_ite
    | split
    | (with_reducible refine conf_src rfl ?_ (fun p hq => ?_) (fun b _ => ?_) ?_
       on_goal 2 => cases p <;> first | with_reducible rfl | exact absurd (hp (by decide)) hq
       on_goal 2 => exact State.store_of_tables rfl rfl rfl b
       on_goal 2 => first | exact id | (intro hs; simp only [State.shaped] at hs ⊢; simp_all)))

theorem State.conf_advanceEpoch {s0 s : State} {ps : List Part} {rs : Nat → Prop}  (h : Confined s0 ps rs s) (hp : [.sset, .bumped, .caused, .clk] ⊆ ps) (hr : ∀ a ∈ [Reg.CHIP_CLK_STATUS], rs a) : Confined s0 ps rs (State.advanceEpoch s) := by
  unfold State.advanceEpoch
  repeat' (first
    | with_reducible assumption
    | with_reducible exact sub_parts hp (by decide)
    | with_reducible exact sub_parts _hp (by decide)
    | with_reducible exact sub_regs hr (by decide)
    | with_reducible exact hr _ (by decide)
    | with_reducible apply State.conf_setFlag
    | (extract_lets +onlyGivenNames x
       first
         | (refine conf_cut (s0 := s0) (ps := ps) (rs := rs) (s := x) ?_ (fun _ => ?_); (focus unfold x); on_goal 2 => clear_value x)
         | (unfold x; clear x)
         | clear_value x)
    | with_reducible apply conf_ite
    | split
    | (with_reducible refine conf_src rfl ?_ (fun p hq => ?_) (fun b _ => ?_) ?_
       on_goal 2 => cases p <;> first | with_reducible rfl | exact absurd (hp (by decide)) hq
       on_goal 2 => exact State.store_of_tables rfl rfl rfl b
       on_goal 2 => first | exact id | (intro hs; simp only [State.shaped] at hs ⊢; simp_all)))

theorem State.conf_recordGap {s0 s : State} {ps : List Part} {rs : Nat → Prop} (a1 : Nat) (a2 : Epoch32) (h : Confined s0 ps rs s) (hp : [.sset, .bumped, .caused, .fixer] ⊆ ps) (hr : ∀ a ∈ [Reg.CHIP_CLK_STATUS, Reg.CHIP_GAP_COUNT, Reg.CHIP_GAP_LAST], rs a) : Confined s0 ps rs (State.recordGap s a1 a2) := by
  unfold State.recordGap
  repeat' (first
    | with_reducible assumption
    | with_reducible exact sub_parts hp (by decide)
    | with_reducible exact sub_parts _hp (by decide)
    | with_reducible exact sub_regs hr (by decide)
    | with_reducible exact hr _ (by decide)
    | with_reducible apply State.conf_setReg
    | with_reducible apply State.conf_countWrap
    | with_reducible apply State.conf_setFlag
    | with_reducible apply State.conf_raise
    | (extract_lets +onlyGivenNames x
       first
         | (refine conf_cut (s0 := s0) (ps := ps) (rs := rs) (s := x) ?_ (fun _ => ?_); (focus unfold x); on_goal 2 => clear_value x)
         | (unfold x; clear x)
         | clear_value x))

theorem State.conf_recordBack {s0 s : State} {ps : List Part} {rs : Nat → Prop} (a1 : Nat) (h : Confined s0 ps rs s) (hp : [.sset, .bumped, .caused, .clk, .frame, .fixer] ⊆ ps) (hr : ∀ a ∈ [Reg.CHIP_CLK_STATUS, Reg.FIXER_FIXER_STATUS, Reg.FIXER_LASTING_COUNT], rs a) : Confined s0 ps rs (State.recordBack s a1) := by
  unfold State.recordBack
  repeat' (first
    | with_reducible assumption
    | with_reducible exact sub_parts hp (by decide)
    | with_reducible exact sub_parts _hp (by decide)
    | with_reducible exact sub_regs hr (by decide)
    | with_reducible exact hr _ (by decide)
    | with_reducible apply State.conf_setFlag
    | with_reducible apply State.conf_raise
    | with_reducible apply State.conf_fixerEmpty
    | with_reducible apply State.conf_clockCount
    | (extract_lets +onlyGivenNames x
       first
         | (refine conf_cut (s0 := s0) (ps := ps) (rs := rs) (s := x) ?_ (fun _ => ?_); (focus unfold x); on_goal 2 => clear_value x)
         | (unfold x; clear x)
         | clear_value x)
    | (with_reducible refine conf_src rfl ?_ (fun p hq => ?_) (fun b _ => ?_) ?_
       on_goal 2 => cases p <;> first | with_reducible rfl | exact absurd (hp (by decide)) hq
       on_goal 2 => exact State.store_of_tables rfl rfl rfl b
       on_goal 2 => first | exact id | (intro hs; simp only [State.shaped] at hs ⊢; simp_all)))

theorem State.conf_beginFault {s0 s : State} {ps : List Part} {rs : Nat → Prop} (a1 : Nat) (h : Confined s0 ps rs s) (hp : [.sset, .bumped, .caused, .clk, .fixer] ⊆ ps) (hr : ∀ a ∈ [Reg.CHIP_CLK_FAULTS, Reg.CHIP_CLK_STATUS, Reg.FIXER_FIXER_STATUS, Reg.FIXER_LASTING_COUNT], rs a) : Confined s0 ps rs (State.beginFault s a1) := by
  unfold State.beginFault
  repeat' (first
    | with_reducible assumption
    | with_reducible exact sub_parts hp (by decide)
    | with_reducible exact sub_parts _hp (by decide)
    | with_reducible exact sub_regs hr (by decide)
    | with_reducible exact hr _ (by decide)
    | with_reducible apply State.conf_setFlag
    | with_reducible apply State.conf_countWrap
    | with_reducible apply State.conf_raise
    | with_reducible apply State.conf_clockCount
    | (extract_lets +onlyGivenNames x
       first
         | (refine conf_cut (s0 := s0) (ps := ps) (rs := rs) (s := x) ?_ (fun _ => ?_); (focus unfold x); on_goal 2 => clear_value x)
         | (unfold x; clear x)
         | clear_value x)
    | with_reducible apply conf_ite
    | split
    | (with_reducible refine conf_src rfl ?_ (fun p hq => ?_) (fun b _ => ?_) ?_
       on_goal 2 => cases p <;> first | with_reducible rfl | exact absurd (hp (by decide)) hq
       on_goal 2 => exact State.store_of_tables rfl rfl rfl b
       on_goal 2 => first | exact id | (intro hs; simp only [State.shaped] at hs ⊢; simp_all)))

theorem State.conf_clockFrameStart {s0 s : State} {ps : List Part} {rs : Nat → Prop} (a1 : FrameIn) (a2 : Bool) (a3 : Bool) (h : Confined s0 ps rs s) (hp : [.sset, .bumped, .caused, .clk, .fixer] ⊆ ps) (hr : ∀ a ∈ [Reg.CHIP_CLK_FAULTS, Reg.CHIP_CLK_STATUS, Reg.FIXER_FIXER_STATUS, Reg.FIXER_LASTING_COUNT], rs a) : Confined s0 ps rs (State.clockFrameStart s a1 a2 a3) := by
  unfold State.clockFrameStart
  repeat' (first
    | with_reducible assumption
    | with_reducible exact sub_parts hp (by decide)
    | with_reducible exact sub_parts _hp (by decide)
    | with_reducible exact sub_regs hr (by decide)
    | with_reducible exact hr _ (by decide)
    | with_reducible apply State.conf_beginFault
    | with_reducible apply State.conf_setFlag
    | with_reducible apply State.conf_raise
    | (extract_lets +onlyGivenNames x
       first
         | (refine conf_cut (s0 := s0) (ps := ps) (rs := rs) (s := x) ?_ (fun _ => ?_); (focus unfold x); on_goal 2 => clear_value x)
         | (unfold x; clear x)
         | clear_value x)
    | with_reducible apply conf_ite
    | split
    | (with_reducible refine conf_src rfl ?_ (fun p hq => ?_) (fun b _ => ?_) ?_
       on_goal 2 => cases p <;> first | with_reducible rfl | exact absurd (hp (by decide)) hq
       on_goal 2 => exact State.store_of_tables rfl rfl rfl b
       on_goal 2 => first | exact id | (intro hs; simp only [State.shaped] at hs ⊢; simp_all)))

theorem State.conf_endFault {s0 s : State} {ps : List Part} {rs : Nat → Prop}  (h : Confined s0 ps rs s) (hp : [.clk, .sheet, .stage] ⊆ ps) (_hr : ∀ a ∈ ([] : List Nat), rs a) : Confined s0 ps rs (State.endFault s) := by
  unfold State.endFault
  repeat' (first
    | with_reducible assumption
    | with_reducible exact sub_parts hp (by decide)
    | with_reducible exact sub_parts _hp (by decide)
    | with_reducible exact sub_regs _hr (by decide)
    | (extract_lets +onlyGivenNames x
       first
         | (refine conf_cut (s0 := s0) (ps := ps) (rs := rs) (s := x) ?_ (fun _ => ?_); (focus unfold x); on_goal 2 => clear_value x)
         | (unfold x; clear x)
         | clear_value x)
    | (with_reducible refine conf_src rfl ?_ (fun p hq => ?_) (fun b _ => ?_) ?_
       on_goal 2 => cases p <;> first | with_reducible rfl | exact absurd (hp (by decide)) hq
       on_goal 2 => exact State.store_of_tables rfl rfl rfl b
       on_goal 2 => first | exact id | (intro hs; simp only [State.shaped] at hs ⊢; simp_all)))

end Sys2Proof.Machine
end

