-- ==== Sys2Proof/Laws/ConfTankMap.lean ====
section
/-! SUPPORT. What every operation of Machine/TankMap.lean is confined to: the parts of the state and the registers it can change. -/

set_option linter.unusedTactic false
set_option linter.unreachableTactic false
set_option linter.unusedVariables false
set_option linter.tactic.unusedName false

namespace Sys2Proof.Machine

theorem State.conf_eccEntry {s0 s : State} {ps : List Part} {rs : Nat → Prop} (a1 : Nat) (a2 : Nat) (a3 : Nat) (a4 : Nat) (h : Confined s0 ps rs s) (hp : [.fixer] ⊆ ps) (_hr : ∀ a ∈ ([] : List Nat), rs a) : Confined s0 ps rs (State.eccEntry s a1 a2 a3 a4) := by
  unfold State.eccEntry
  repeat' (first
    | with_reducible assumption
    | with_reducible exact sub_parts hp (by decide)
    | with_reducible exact sub_parts _hp (by decide)
    | with_reducible exact sub_regs _hr (by decide)
    | with_reducible apply State.conf_raise)

theorem State.conf_noteCe {s0 s : State} {ps : List Part} {rs : Nat → Prop} (a1 : Nat) (a2 : Nat) (a3 : Nat) (h : Confined s0 ps rs s) (hp : [.sset, .bumped, .caused, .fixer] ⊆ ps) (hr : ∀ a ∈ [Reg.TANK_CE_ADDR, Reg.TANK_CE_COUNT, Reg.TANK_TANK_STATUS], rs a) : Confined s0 ps rs (State.noteCe s a1 a2 a3) := by
  unfold State.noteCe
  repeat' (first
    | with_reducible assumption
    | with_reducible exact sub_parts hp (by decide)
    | with_reducible exact sub_parts _hp (by decide)
    | with_reducible exact sub_regs hr (by decide)
    | with_reducible exact hr _ (by decide)
    | with_reducible apply State.conf_countSat
    | with_reducible apply State.conf_setReg
    | with_reducible apply State.conf_setFlag
    | with_reducible apply State.conf_eccEntry
    | (extract_lets +onlyGivenNames x
       first
         | (refine conf_cut (s0 := s0) (ps := ps) (rs := rs) (s := x) ?_ (fun _ => ?_); (focus unfold x); on_goal 2 => clear_value x)
         | (unfold x; clear x)
         | clear_value x)
    | with_reducible apply conf_ite
    | split)

theorem State.conf_noteUe {s0 s : State} {ps : List Part} {rs : Nat → Prop} (a1 : Nat) (a2 : Nat) (a3 : Nat) (h : Confined s0 ps rs s) (hp : [.sset, .bumped, .caused, .fixer] ⊆ ps) (hr : ∀ a ∈ [Reg.FIXER_FIXER_STATUS, Reg.FIXER_LASTING_COUNT, Reg.TANK_TANK_STATUS, Reg.TANK_UE_ADDR, Reg.TANK_UE_COUNT], rs a) : Confined s0 ps rs (State.noteUe s a1 a2 a3) := by
  unfold State.noteUe
  repeat' (first
    | with_reducible assumption
    | with_reducible exact sub_parts hp (by decide)
    | with_reducible exact sub_parts _hp (by decide)
    | with_reducible exact sub_regs hr (by decide)
    | with_reducible exact hr _ (by decide)
    | with_reducible apply State.conf_countSat
    | with_reducible apply State.conf_setReg
    | with_reducible apply State.conf_setFlag
    | with_reducible apply State.conf_eccEntry
    | with_reducible apply State.conf_fixerReport
    | (extract_lets +onlyGivenNames x
       first
         | (refine conf_cut (s0 := s0) (ps := ps) (rs := rs) (s := x) ?_ (fun _ => ?_); (focus unfold x); on_goal 2 => clear_value x)
         | (unfold x; clear x)
         | clear_value x))

theorem State.conf_eccClear {s0 s : State} {ps : List Part} {rs : Nat → Prop} (a1 : Nat) (a2 : Nat) (h : Confined s0 ps rs s) (hp : [.bank] ⊆ ps) (_hr : ∀ a ∈ ([] : List Nat), rs a) : Confined s0 ps rs (State.eccClear s a1 a2) := by
  unfold State.eccClear
  repeat' (first
    | with_reducible assumption
    | with_reducible exact sub_parts hp (by decide)
    | with_reducible exact sub_parts _hp (by decide)
    | with_reducible exact sub_regs _hr (by decide)
    | (extract_lets +onlyGivenNames x
       first
         | (refine conf_cut (s0 := s0) (ps := ps) (rs := rs) (s := x) ?_ (fun _ => ?_); (focus unfold x); on_goal 2 => clear_value x)
         | (unfold x; clear x)
         | clear_value x)
    | (with_reducible refine conf_src rfl ?_ (fun p hq => ?_) (fun b _ => ?_) ?_
       on_goal 2 => cases p <;> first | with_reducible rfl | exact absurd (hp (by decide)) hq
       on_goal 2 => exact State.store_of_tables rfl rfl rfl b
       on_goal 2 => first | exact id | (intro hs; simp only [State.shaped] at hs ⊢; simp_all)))

theorem State.conf_eccRead {s0 s : State} {ps : List Part} {rs : Nat → Prop} (a1 : Nat) (a2 : Nat) (a3 : Nat) (h : Confined s0 ps rs s) (hp : [.sset, .bumped, .caused, .fixer] ⊆ ps) (hr : ∀ a ∈ [Reg.FIXER_FIXER_STATUS, Reg.FIXER_LASTING_COUNT, Reg.TANK_CE_ADDR, Reg.TANK_CE_COUNT, Reg.TANK_TANK_STATUS, Reg.TANK_UE_ADDR, Reg.TANK_UE_COUNT], rs a) : Confined s0 ps rs (State.eccRead s a1 a2 a3).1 := by
  unfold State.eccRead
  repeat' (first
    | with_reducible assumption
    | with_reducible exact sub_parts hp (by decide)
    | with_reducible exact sub_parts _hp (by decide)
    | with_reducible exact sub_regs hr (by decide)
    | with_reducible exact hr _ (by decide)
    | with_reducible apply State.conf_noteCe
    | with_reducible apply State.conf_noteUe
    | (extract_lets +onlyGivenNames x
       first
         | (refine conf_cut (s0 := s0) (ps := ps) (rs := rs) (s := x) ?_ (fun _ => ?_); (focus unfold x); on_goal 2 => clear_value x)
         | (unfold x; clear x)
         | clear_value x)
    | split
    | (with_reducible refine conf_src rfl ?_ (fun p hq => ?_) (fun b _ => ?_) ?_
       on_goal 2 => cases p <;> first | with_reducible rfl | exact absurd (hp (by decide)) hq
       on_goal 2 => exact State.store_of_tables rfl rfl rfl b
       on_goal 2 => first | exact id | (intro hs; simp only [State.shaped] at hs ⊢; simp_all)))

theorem State.conf_eccRead_eq {s0 s t : State} {ps : List Part} {rs : Nat → Prop} (a1 : Nat) (a2 : Nat) (a3 : Nat) {x : Bool} (e : State.eccRead s a1 a2 a3 = (t, x)) (h : Confined s0 ps rs s) (hp : [.sset, .bumped, .caused, .fixer] ⊆ ps) (hr : ∀ a ∈ [Reg.FIXER_FIXER_STATUS, Reg.FIXER_LASTING_COUNT, Reg.TANK_CE_ADDR, Reg.TANK_CE_COUNT, Reg.TANK_TANK_STATUS, Reg.TANK_UE_ADDR, Reg.TANK_UE_COUNT], rs a) : Confined s0 ps rs t := by
  have := State.conf_eccRead a1 a2 a3 h hp hr
  rwa [e] at this

theorem State.conf_fogNext {s0 s : State} {ps : List Part} {rs : Nat → Prop}  (h : Confined s0 ps rs s) (hp : [.sset, .bumped, .caused, .bank] ⊆ ps) (hr : ∀ a ∈ [Reg.TANK_FOG_PASSES, Reg.TANK_TANK_STATUS], rs a) : Confined s0 ps rs (State.fogNext s) := by
  unfold State.fogNext
  repeat' (first
    | with_reducible assumption
    | with_reducible exact sub_parts hp (by decide)
    | with_reducible exact sub_parts _hp (by decide)
    | with_reducible exact sub_regs hr (by decide)
    | with_reducible exact hr _ (by decide)
    | with_reducible apply State.conf_countWrap
    | with_reducible apply State.conf_setFlag
    | (extract_lets +onlyGivenNames x
       first
         | (refine conf_cut (s0 := s0) (ps := ps) (rs := rs) (s := x) ?_ (fun _ => ?_); (focus unfold x); on_goal 2 => clear_value x)
         | (unfold x; clear x)
         | clear_value x)
    | with_reducible apply conf_ite
    | split
    | (with_reducible refine conf_src rfl ?_ (fun p hq => ?_) (fun b _ => ?_) ?_
       on_goal 2 => cases p <;> first | with_reducible rfl | exact absurd (hp (by decide)) hq
       on_goal 2 => exact State.store_of_tables rfl rfl rfl b
       on_goal 2 => first | exact id | (intro hs; simp only [State.shaped] at hs ⊢; simp_all)))

theorem State.conf_fogRestore {s0 s : State} {ps : List Part} {rs : Nat → Prop}  (h : Confined s0 ps rs s) (hp : [.bank] ⊆ ps) (_hr : ∀ a ∈ ([] : List Nat), rs a) : Confined s0 ps rs (State.fogRestore s) := by
  unfold State.fogRestore
  repeat' (first
    | with_reducible assumption
    | with_reducible exact sub_parts hp (by decide)
    | with_reducible exact sub_parts _hp (by decide)
    | with_reducible exact sub_regs _hr (by decide)
    | (extract_lets +onlyGivenNames x
       first
         | (refine conf_cut (s0 := s0) (ps := ps) (rs := rs) (s := x) ?_ (fun _ => ?_); (focus unfold x); on_goal 2 => clear_value x)
         | (unfold x; clear x)
         | clear_value x)
    | (with_reducible refine conf_src rfl ?_ (fun p hq => ?_) (fun b _ => ?_) ?_
       on_goal 2 => cases p <;> first | with_reducible rfl | exact absurd (hp (by decide)) hq
       on_goal 2 => exact State.store_of_tables rfl rfl rfl b
       on_goal 2 => first | exact id | (intro hs; simp only [State.shaped] at hs ⊢; simp_all)))

theorem State.conf_fogSkip {s0 s : State} {ps : List Part} {rs : Nat → Prop} (a1 : Nat) (h : Confined s0 ps rs s) (hp : [.sset, .bumped, .caused, .fixer, .bank] ⊆ ps) (hr : ∀ a ∈ [Reg.TANK_FOG_PASSES, Reg.TANK_FOG_SKIPS, Reg.TANK_TANK_STATUS], rs a) : Confined s0 ps rs (State.fogSkip s a1) := by
  unfold State.fogSkip
  repeat' (first
    | with_reducible assumption
    | with_reducible exact sub_parts hp (by decide)
    | with_reducible exact sub_parts _hp (by decide)
    | with_reducible exact sub_regs hr (by decide)
    | with_reducible exact hr _ (by decide)
    | with_reducible apply State.conf_countSat
    | with_reducible apply State.conf_raise
    | with_reducible apply State.conf_fogNext
    | (extract_lets +onlyGivenNames x
       first
         | (refine conf_cut (s0 := s0) (ps := ps) (rs := rs) (s := x) ?_ (fun _ => ?_); (focus unfold x); on_goal 2 => clear_value x)
         | (unfold x; clear x)
         | clear_value x))

theorem State.conf_fogAbort {s0 s : State} {ps : List Part} {rs : Nat → Prop}  (h : Confined s0 ps rs s) (hp : [.sset, .bumped, .caused, .fixer, .bank] ⊆ ps) (hr : ∀ a ∈ [Reg.TANK_FOG_PASSES, Reg.TANK_FOG_SKIPS, Reg.TANK_TANK_STATUS], rs a) : Confined s0 ps rs (State.fogAbort s) := by
  unfold State.fogAbort
  repeat' (first
    | with_reducible assumption
    | with_reducible exact sub_parts hp (by decide)
    | with_reducible exact sub_parts _hp (by decide)
    | with_reducible exact sub_regs hr (by decide)
    | with_reducible exact hr _ (by decide)
    | with_reducible apply State.conf_fogRestore
    | with_reducible apply State.conf_fogSkip
    | (extract_lets +onlyGivenNames x
       first
         | (refine conf_cut (s0 := s0) (ps := ps) (rs := rs) (s := x) ?_ (fun _ => ?_); (focus unfold x); on_goal 2 => clear_value x)
         | (unfold x; clear x)
         | clear_value x)
    | with_reducible apply conf_ite
    | split
    | (with_reducible refine conf_src rfl ?_ (fun p hq => ?_) (fun b _ => ?_) ?_
       on_goal 2 => cases p <;> first | with_reducible rfl | exact absurd (hp (by decide)) hq
       on_goal 2 => exact State.store_of_tables rfl rfl rfl b
       on_goal 2 => first | exact id | (intro hs; simp only [State.shaped] at hs ⊢; simp_all)))

theorem State.conf_fogYield {s0 s : State} {ps : List Part} {rs : Nat → Prop} (a1 : Nat) (h : Confined s0 ps rs s) (hp : [.sset, .bumped, .caused, .fixer, .bank] ⊆ ps) (hr : ∀ a ∈ [Reg.TANK_FOG_PASSES, Reg.TANK_FOG_SKIPS, Reg.TANK_TANK_STATUS], rs a) : Confined s0 ps rs (State.fogYield s a1) := by
  unfold State.fogYield
  repeat' (first
    | with_reducible assumption
    | with_reducible exact sub_parts hp (by decide)
    | with_reducible exact sub_parts _hp (by decide)
    | with_reducible exact sub_regs hr (by decide)
    | with_reducible exact hr _ (by decide)
    | with_reducible apply State.conf_fogAbort
    | with_reducible apply conf_ite
    | split)

theorem State.conf_fogReads {s0 s : State} {ps : List Part} {rs : Nat → Prop} (a1 : List Nat) (h : Confined s0 ps rs s) (hp : [.sset, .bumped, .caused, .fixer, .bank] ⊆ ps) (hr : ∀ a ∈ [Reg.TANK_FOG_PASSES, Reg.TANK_FOG_SKIPS, Reg.TANK_TANK_STATUS], rs a) : Confined s0 ps rs (State.fogReads s a1) := by
  unfold State.fogReads
  repeat' (first
    | with_reducible assumption
    | with_reducible exact sub_parts hp (by decide)
    | with_reducible exact sub_parts _hp (by decide)
    | with_reducible exact sub_regs hr (by decide)
    | with_reducible exact hr _ (by decide)
    | intro _ _ _
    | with_reducible apply State.conf_fogYield
    | with_reducible apply conf_foldl)

theorem State.conf_fogSpan {s0 s : State} {ps : List Part} {rs : Nat → Prop} (a1 : Nat) (a2 : Nat) (h : Confined s0 ps rs s) (hp : [.sset, .bumped, .caused, .fixer, .bank] ⊆ ps) (hr : ∀ a ∈ [Reg.TANK_FOG_PASSES, Reg.TANK_FOG_SKIPS, Reg.TANK_TANK_STATUS], rs a) : Confined s0 ps rs (State.fogSpan s a1 a2) := by
  unfold State.fogSpan
  repeat' (first
    | with_reducible assumption
    | with_reducible exact sub_parts hp (by decide)
    | with_reducible exact sub_parts _hp (by decide)
    | with_reducible exact sub_regs hr (by decide)
    | with_reducible exact hr _ (by decide)
    | with_reducible apply State.conf_fogAbort
    | with_reducible apply conf_ite
    | split)

theorem State.conf_ringWrite {s0 s : State} {ps : List Part} {rs : Nat → Prop} (a1 : Nat) (a2 : Word) (h : Confined s0 ps rs s) (hp : [.queue] ⊆ ps) (_hr : ∀ a ∈ ([] : List Nat), rs a) : Confined s0 ps rs (State.ringWrite s a1 a2) := by
  unfold State.ringWrite
  repeat' (first
    | with_reducible assumption
    | with_reducible exact sub_parts hp (by decide)
    | with_reducible exact sub_parts _hp (by decide)
    | with_reducible exact sub_regs _hr (by decide)
    | (extract_lets +onlyGivenNames x
       first
         | (refine conf_cut (s0 := s0) (ps := ps) (rs := rs) (s := x) ?_ (fun _ => ?_); (focus unfold x); on_goal 2 => clear_value x)
         | (unfold x; clear x)
         | clear_value x)
    | with_reducible apply conf_ite
    | split
    | (with_reducible refine conf_src rfl ?_ (fun p hq => ?_) (fun b _ => ?_) ?_
       on_goal 2 => cases p <;> first | with_reducible rfl | exact absurd (hp (by decide)) hq
       on_goal 2 => exact State.store_of_tables rfl rfl rfl b
       on_goal 2 => first | exact id | (intro hs; simp only [State.shaped] at hs ⊢; simp_all)))

theorem State.conf_putWord {s0 s : State} {ps : List Part} {rs : Nat → Prop} (a1 : Nat) (a2 : Word) (h : Confined s0 ps rs s) (hp : [.queue, .mem] ⊆ ps) (_hr : ∀ a ∈ ([] : List Nat), rs a) : Confined s0 ps rs (State.putWord s a1 a2) := by
  unfold State.putWord
  repeat' (first
    | with_reducible assumption
    | with_reducible exact sub_parts hp (by decide)
    | with_reducible exact sub_parts _hp (by decide)
    | with_reducible exact sub_regs _hr (by decide)
    | with_reducible apply State.conf_ringWrite
    | (extract_lets +onlyGivenNames x
       first
         | (refine conf_cut (s0 := s0) (ps := ps) (rs := rs) (s := x) ?_ (fun _ => ?_); (focus unfold x); on_goal 2 => clear_value x)
         | (unfold x; clear x)
         | clear_value x)
    | (with_reducible refine conf_src rfl ?_ (fun p hq => ?_) (fun b _ => ?_) ?_
       on_goal 2 => cases p <;> first | with_reducible rfl | exact absurd (hp (by decide)) hq
       on_goal 2 => exact State.store_of_tables rfl rfl rfl b
       on_goal 2 => first | exact id | (intro hs; simp only [State.shaped] at hs ⊢; simp_all)))

theorem State.conf_storeLane {s0 s : State} {ps : List Part} {rs : Nat → Prop} (k w : Nat) (v : Word) (h : Confined s0 ps rs s) (hp : [.sset, .bumped, .caused, .queue, .fixer, .bank, .mem] ⊆ ps) (hr : ∀ a ∈ [Reg.FIXER_FIXER_STATUS, Reg.FIXER_LASTING_COUNT, Reg.TANK_CE_ADDR, Reg.TANK_CE_COUNT, Reg.TANK_FOG_PASSES, Reg.TANK_FOG_SKIPS, Reg.TANK_TANK_STATUS, Reg.TANK_UE_ADDR, Reg.TANK_UE_COUNT], rs a) :
    Confined s0 ps rs (State.storeLane s k w v) := by
  unfold State.storeLane
  extract_lets s1
  have h0 : Confined s0 ps rs s1 := State.conf_fogYield _ h (sub_parts hp (by decide)) (sub_regs hr (by decide))
  clear_value s1
  split
  · exact (conf_upd h0 (by intro p hq; cases p <;> first | rfl | exact absurd (hp (by decide)) hq) (fun b _ => State.store_of_tables rfl rfl rfl b) (by intro hs; first | exact hs | (simp only [State.shaped] at hs ⊢; simp_all)))
  · rename_i double e
    have h1 := State.conf_eccRead (w / 8) (w % 8 / 2) k h0 (sub_parts hp (by decide)) (sub_regs hr (by decide))
    dsimp only
    have h2 := State.conf_eccClear (w / 8) (w % 8 / 2) h1 (sub_parts hp (by decide)) (sub_regs hr (by decide))
    generalize ((s1.eccRead (w / 8) (w % 8 / 2) k).1.eccClear (w / 8) (w % 8 / 2)) = s2 at h2 ⊢
    have h3 : Confined s0 ps rs (if double then s2.putWord (pairLane w) 0 else s2) := conf_ite (State.conf_putWord _ _ h2 (sub_parts hp (by decide)) (sub_regs hr (by decide))) h2
    generalize (if double then s2.putWord (pairLane w) 0 else s2) = s3 at h3 ⊢
    exact (conf_upd h3 (by intro p hq; cases p <;> first | rfl | exact absurd (hp (by decide)) hq) (fun b _ => State.store_of_tables rfl rfl rfl b) (by intro hs; first | exact hs | (simp only [State.shaped] at hs ⊢; simp_all)))

theorem State.conf_setTank {s0 s : State} {ps : List Part} {rs : Nat → Prop} (a1 : Nat) (a2 : Word) (h : Confined s0 ps rs s) (hp : [.sset, .bumped, .caused, .queue, .fixer, .bank, .mem] ⊆ ps) (hr : ∀ a ∈ [Reg.FIXER_FIXER_STATUS, Reg.FIXER_LASTING_COUNT, Reg.TANK_CE_ADDR, Reg.TANK_CE_COUNT, Reg.TANK_FOG_PASSES, Reg.TANK_FOG_SKIPS, Reg.TANK_TANK_STATUS, Reg.TANK_UE_ADDR, Reg.TANK_UE_COUNT], rs a) : Confined s0 ps rs (State.setTank s a1 a2) := by
  unfold State.setTank
  repeat' (first
    | with_reducible assumption
    | with_reducible exact sub_parts hp (by decide)
    | with_reducible exact sub_parts _hp (by decide)
    | with_reducible exact sub_regs hr (by decide)
    | with_reducible exact hr _ (by decide)
    | with_reducible apply State.conf_storeLane)

theorem State.conf_setLanes {s0 s : State} {ps : List Part} {rs : Nat → Prop} (w : Nat) (vs : List Word) (h : Confined s0 ps rs s) (hp : [.sset, .bumped, .caused, .queue, .fixer, .bank, .mem] ⊆ ps) (hr : ∀ a ∈ [Reg.FIXER_FIXER_STATUS, Reg.FIXER_LASTING_COUNT, Reg.TANK_CE_ADDR, Reg.TANK_CE_COUNT, Reg.TANK_FOG_PASSES, Reg.TANK_FOG_SKIPS, Reg.TANK_TANK_STATUS, Reg.TANK_UE_ADDR, Reg.TANK_UE_COUNT], rs a) :
    Confined s0 ps rs (State.setLanes s w vs) := by
  induction vs generalizing s w with
  | nil => exact h
  | cons v vs ih => exact ih _ (State.conf_setTank _ _ h hp hr)

theorem State.conf_freshGroups {s0 s : State} {ps : List Part} {rs : Nat → Prop} (a1 : Nat) (a2 : Nat) (h : Confined s0 ps rs s) (hp : [.bank] ⊆ ps) (_hr : ∀ a ∈ ([] : List Nat), rs a) : Confined s0 ps rs (State.freshGroups s a1 a2) := by
  unfold State.freshGroups
  repeat' (first
    | with_reducible assumption
    | with_reducible exact sub_parts hp (by decide)
    | with_reducible exact sub_parts _hp (by decide)
    | with_reducible exact sub_regs _hr (by decide)
    | (extract_lets +onlyGivenNames x
       first
         | (refine conf_cut (s0 := s0) (ps := ps) (rs := rs) (s := x) ?_ (fun _ => ?_); (focus unfold x); on_goal 2 => clear_value x)
         | (unfold x; clear x)
         | clear_value x)
    | (with_reducible refine conf_src rfl ?_ (fun p hq => ?_) (fun b _ => ?_) ?_
       on_goal 2 => cases p <;> first | with_reducible rfl | exact absurd (hp (by decide)) hq
       on_goal 2 => exact State.store_of_tables rfl rfl rfl b
       on_goal 2 => first | exact id | (intro hs; simp only [State.shaped] at hs ⊢; simp_all)))

theorem State.conf_setTankWords {s0 s : State} {ps : List Part} {rs : Nat → Prop} (a1 : Nat) (a2 : List Word) (h : Confined s0 ps rs s) (hp : [.sset, .bumped, .caused, .queue, .fixer, .bank, .mem] ⊆ ps) (hr : ∀ a ∈ [Reg.FIXER_FIXER_STATUS, Reg.FIXER_LASTING_COUNT, Reg.TANK_CE_ADDR, Reg.TANK_CE_COUNT, Reg.TANK_FOG_PASSES, Reg.TANK_FOG_SKIPS, Reg.TANK_TANK_STATUS, Reg.TANK_UE_ADDR, Reg.TANK_UE_COUNT], rs a) : Confined s0 ps rs (State.setTankWords s a1 a2) := by
  unfold State.setTankWords
  repeat' (first
    | with_reducible assumption
    | with_reducible exact sub_parts hp (by decide)
    | with_reducible exact sub_parts _hp (by decide)
    | with_reducible exact sub_regs hr (by decide)
    | with_reducible exact hr _ (by decide)
    | with_reducible apply State.conf_freshGroups
    | with_reducible apply State.conf_setLanes)

end Sys2Proof.Machine
end

