-- ==== Sys2Proof/Laws/ConfRings.lean ====
section
/-! SUPPORT. What every operation of Machine/Rings.lean is confined to: the parts of the state and the registers it can change. -/

set_option linter.unusedTactic false
set_option linter.unreachableTactic false
set_option linter.unusedVariables false
set_option linter.tactic.unusedName false

namespace Sys2Proof.Machine

theorem State.conf_judgeCheck {s0 s : State} {ps : List Part} {rs : Nat → Prop} (a1 : Side) (a2 : Nat) (a3 : Bool) (h : Confined s0 ps rs s) (hp : [.sset, .bumped, .caused] ⊆ ps) (hr : ∀ a ∈ [Reg.FRAME_CHECK_ERR_A, Reg.FRAME_CHECK_ERR_B, Reg.FRAME_FRAME_STATUS], rs a) : Confined s0 ps rs (State.judgeCheck s a1 a2 a3) := by
  unfold State.judgeCheck
  repeat' (first
    | with_reducible assumption
    | with_reducible exact sub_parts hp (by decide)
    | with_reducible exact sub_parts _hp (by decide)
    | with_reducible exact sub_regs hr (by decide)
    | with_reducible exact hr _ (by decide)
    | with_reducible apply State.conf_checkFailed
    | with_reducible apply conf_ite
    | split)

theorem State.conf_captureShow {s0 s : State} {ps : List Part} {rs : Nat → Prop} (a1 : Side) (a2 : List Sample) (a3 : Word) (h : Confined s0 ps rs s) (hp : [.sset, .bumped, .caused, .sideA, .sideB, .outA, .outB] ⊆ ps) (hr : ∀ a ∈ [Reg.FRAME_CHECK_ERR_A, Reg.FRAME_CHECK_ERR_B, Reg.FRAME_FRAME_STATUS], rs a) : Confined s0 ps rs (State.captureShow s a1 a2 a3) := by
  unfold State.captureShow
  repeat' (first
    | with_reducible assumption
    | with_reducible exact sub_parts hp (by decide)
    | with_reducible exact sub_parts _hp (by decide)
    | with_reducible exact sub_regs hr (by decide)
    | with_reducible exact hr _ (by decide)
    | with_reducible apply State.conf_judgeCheck
    | with_reducible apply State.conf_modSd
    | with_reducible apply State.conf_forwardField
    | (extract_lets +onlyGivenNames x
       first
         | (refine conf_cut (s0 := s0) (ps := ps) (rs := rs) (s := x) ?_ (fun _ => ?_); (focus unfold x); on_goal 2 => clear_value x)
         | (unfold x; clear x)
         | clear_value x)
    | with_reducible apply conf_ite
    | split
    | (with_reducible refine conf_src rfl ?_ (fun p hq => ?_) (fun b _ => ?_) ?_
       on_goal 2 => cases p <;> first | with_reducible rfl | exact absurd (hp (by decide)) hq
       on_goal 2 => exact State.store_of_tables rfl rfl rfl b
       on_goal 2 => first | exact id | (intro hs; simp only [State.shaped] at hs ⊢; simp_all)))

theorem State.conf_endMissRun {s0 s : State} {ps : List Part} {rs : Nat → Prop}  (h : Confined s0 ps rs s) (hp : [.frame, .fixer] ⊆ ps) (_hr : ∀ a ∈ ([] : List Nat), rs a) : Confined s0 ps rs (State.endMissRun s) := by
  unfold State.endMissRun
  repeat' (first
    | with_reducible assumption
    | with_reducible exact sub_parts hp (by decide)
    | with_reducible exact sub_parts _hp (by decide)
    | with_reducible exact sub_regs _hr (by decide)
    | with_reducible apply State.conf_raiseAt
    | (extract_lets +onlyGivenNames x
       first
         | (refine conf_cut (s0 := s0) (ps := ps) (rs := rs) (s := x) ?_ (fun _ => ?_); (focus unfold x); on_goal 2 => clear_value x)
         | (unfold x; clear x)
         | clear_value x)
    | split
    | (with_reducible refine conf_src rfl ?_ (fun p hq => ?_) (fun b _ => ?_) ?_
       on_goal 2 => cases p <;> first | with_reducible rfl | exact absurd (hp (by decide)) hq
       on_goal 2 => exact State.store_of_tables rfl rfl rfl b
       on_goal 2 => first | exact id | (intro hs; simp only [State.shaped] at hs ⊢; simp_all)))

theorem State.conf_showMissing {s0 s : State} {ps : List Part} {rs : Nat → Prop} (a1 : Epoch32) (h : Confined s0 ps rs s) (hp : [.sset, .bumped, .caused, .frame, .fixer] ⊆ ps) (hr : ∀ a ∈ [Reg.FIXER_FIXER_STATUS, Reg.FIXER_LASTING_COUNT, Reg.FRAME_FRAME_STATUS, Reg.FRAME_SHOW_MISS_COUNT], rs a) : Confined s0 ps rs (State.showMissing s a1) := by
  unfold State.showMissing
  repeat' (first
    | with_reducible assumption
    | with_reducible exact sub_parts hp (by decide)
    | with_reducible exact sub_parts _hp (by decide)
    | with_reducible exact sub_regs hr (by decide)
    | with_reducible exact hr _ (by decide)
    | with_reducible apply State.conf_setFlag
    | with_reducible apply State.conf_countWrap
    | with_reducible apply State.conf_endMissRun
    | with_reducible apply State.conf_fixerCountAt
    | with_reducible refine State.conf_fixerCountAt_eq (by with_reducible assumption) ?_ ?_ ?_
    | (extract_lets +onlyGivenNames x
       first
         | (refine conf_cut (s0 := s0) (ps := ps) (rs := rs) (s := x) ?_ (fun _ => ?_); (focus unfold x); on_goal 2 => clear_value x)
         | (unfold x; clear x)
         | clear_value x)
    | with_reducible apply conf_ite
    | split
    | (with_reducible refine conf_src rfl ?_ (fun p hq => ?_) (fun b _ => ?_) ?_
       on_goal 2 => cases p <;> first | with_reducible rfl | exact absurd (hp (by decide)) hq
       on_goal 2 => exact State.store_of_tables rfl rfl rfl b
       on_goal 2 => first | exact id | (intro hs; simp only [State.shaped] at hs ⊢; simp_all)))

theorem State.conf_handOver {s0 s : State} {ps : List Part} {rs : Nat → Prop} (a1 : Epoch32) (a2 : Option Capture) (a3 : Nat) (h : Confined s0 ps rs s) (hp : [.frame] ⊆ ps) (_hr : ∀ a ∈ ([] : List Nat), rs a) : Confined s0 ps rs (State.handOver s a1 a2 a3) := by
  unfold State.handOver
  repeat' (first
    | with_reducible assumption
    | with_reducible exact sub_parts hp (by decide)
    | with_reducible exact sub_parts _hp (by decide)
    | with_reducible exact sub_regs _hr (by decide)
    | (extract_lets +onlyGivenNames x
       first
         | (refine conf_cut (s0 := s0) (ps := ps) (rs := rs) (s := x) ?_ (fun _ => ?_); (focus unfold x); on_goal 2 => clear_value x)
         | (unfold x; clear x)
         | clear_value x)
    | split
    | (with_reducible refine conf_src rfl ?_ (fun p hq => ?_) (fun b _ => ?_) ?_
       on_goal 2 => cases p <;> first | with_reducible rfl | exact absurd (hp (by decide)) hq
       on_goal 2 => exact State.store_of_tables rfl rfl rfl b
       on_goal 2 => first | exact id | (intro hs; simp only [State.shaped] at hs ⊢; simp_all)))

theorem State.conf_decideShow {s0 s : State} {ps : List Part} {rs : Nat → Prop} (a1 : Epoch32) (a2 : List Epoch32) (h : Confined s0 ps rs s) (hp : [.sset, .bumped, .caused, .frame, .fixer] ⊆ ps) (hr : ∀ a ∈ [Reg.FIXER_FIXER_STATUS, Reg.FIXER_LASTING_COUNT, Reg.FRAME_FRAME_STATUS, Reg.FRAME_SHOW_ALT_COUNT, Reg.FRAME_SHOW_MISS_COUNT], rs a) : Confined s0 ps rs (State.decideShow s a1 a2) := by
  unfold State.decideShow
  repeat' (first
    | with_reducible assumption
    | with_reducible exact sub_parts hp (by decide)
    | with_reducible exact sub_parts _hp (by decide)
    | with_reducible exact sub_regs hr (by decide)
    | with_reducible exact hr _ (by decide)
    | with_reducible apply State.conf_endMissRun
    | with_reducible apply State.conf_handOver
    | with_reducible apply State.conf_setFlag
    | with_reducible apply State.conf_countWrap
    | with_reducible apply State.conf_showMissing
    | (extract_lets +onlyGivenNames x
       first
         | (refine conf_cut (s0 := s0) (ps := ps) (rs := rs) (s := x) ?_ (fun _ => ?_); (focus unfold x); on_goal 2 => clear_value x)
         | (unfold x; clear x)
         | clear_value x)
    | split
    | (with_reducible refine conf_src rfl ?_ (fun p hq => ?_) (fun b _ => ?_) ?_
       on_goal 2 => cases p <;> first | with_reducible rfl | exact absurd (hp (by decide)) hq
       on_goal 2 => exact State.store_of_tables rfl rfl rfl b
       on_goal 2 => first | exact id | (intro hs; simp only [State.shaped] at hs ⊢; simp_all)))

theorem State.conf_setTag {s0 s : State} {ps : List Part} {rs : Nat → Prop} (a1 : Nat) (a2 : TagState) (h : Confined s0 ps rs s) (hp : [.queue] ⊆ ps) (_hr : ∀ a ∈ ([] : List Nat), rs a) : Confined s0 ps rs (State.setTag s a1 a2) := by
  unfold State.setTag
  repeat' (first
    | with_reducible assumption
    | with_reducible exact sub_parts hp (by decide)
    | with_reducible exact sub_parts _hp (by decide)
    | with_reducible exact sub_regs _hr (by decide)
    | (extract_lets +onlyGivenNames x
       first
         | (refine conf_cut (s0 := s0) (ps := ps) (rs := rs) (s := x) ?_ (fun _ => ?_); (focus unfold x); on_goal 2 => clear_value x)
         | (unfold x; clear x)
         | clear_value x)
    | (with_reducible refine conf_src rfl ?_ (fun p hq => ?_) (fun b _ => ?_) ?_
       on_goal 2 => cases p <;> first | with_reducible rfl | exact absurd (hp (by decide)) hq
       on_goal 2 => exact State.store_of_tables rfl rfl rfl b
       on_goal 2 => first | exact id | (intro hs; simp only [State.shaped] at hs ⊢; simp_all)))

theorem State.conf_dropCmd {s0 s : State} {ps : List Part} {rs : Nat → Prop} (a1 : Word) (a2 : Nat) (h : Confined s0 ps rs s) (hp : [.sset, .bumped, .caused, .fixer] ⊆ ps) (hr : ∀ a ∈ [Reg.QUEUE_CMD_DROPS, Reg.QUEUE_QUEUE_STATUS], rs a) : Confined s0 ps rs (State.dropCmd s a1 a2) := by
  unfold State.dropCmd
  repeat' (first
    | with_reducible assumption
    | with_reducible exact sub_parts hp (by decide)
    | with_reducible exact sub_parts _hp (by decide)
    | with_reducible exact sub_regs hr (by decide)
    | with_reducible exact hr _ (by decide)
    | with_reducible apply State.conf_setFlags
    | with_reducible apply State.conf_countSat
    | with_reducible apply State.conf_raise
    | (extract_lets +onlyGivenNames x
       first
         | (refine conf_cut (s0 := s0) (ps := ps) (rs := rs) (s := x) ?_ (fun _ => ?_); (focus unfold x); on_goal 2 => clear_value x)
         | (unfold x; clear x)
         | clear_value x)
    | with_reducible apply conf_ite
    | split)

theorem State.conf_storeCmd {s0 s : State} {ps : List Part} {rs : Nat → Prop} (a1 : Packet) (h : Confined s0 ps rs s) (hp : [.sset, .bumped, .caused, .queue, .fixer, .bank, .mem] ⊆ ps) (hr : ∀ a ∈ [Reg.FIXER_FIXER_STATUS, Reg.FIXER_LASTING_COUNT, Reg.TANK_CE_ADDR, Reg.TANK_CE_COUNT, Reg.TANK_FOG_PASSES, Reg.TANK_FOG_SKIPS, Reg.TANK_TANK_STATUS, Reg.TANK_UE_ADDR, Reg.TANK_UE_COUNT], rs a) : Confined s0 ps rs (State.storeCmd s a1) := by
  unfold State.storeCmd
  repeat' (first
    | with_reducible assumption
    | with_reducible exact sub_parts hp (by decide)
    | with_reducible exact sub_parts _hp (by decide)
    | with_reducible exact sub_regs hr (by decide)
    | with_reducible exact hr _ (by decide)
    | with_reducible apply State.conf_setTankWords
    | (extract_lets +onlyGivenNames x
       first
         | (refine conf_cut (s0 := s0) (ps := ps) (rs := rs) (s := x) ?_ (fun _ => ?_); (focus unfold x); on_goal 2 => clear_value x)
         | (unfold x; clear x)
         | clear_value x)
    | (with_reducible refine conf_src rfl ?_ (fun p hq => ?_) (fun b _ => ?_) ?_
       on_goal 2 => cases p <;> first | with_reducible rfl | exact absurd (hp (by decide)) hq
       on_goal 2 => exact State.store_of_tables rfl rfl rfl b
       on_goal 2 => first | exact id | (intro hs; simp only [State.shaped] at hs ⊢; simp_all)))

theorem State.conf_acceptPacket {s0 s : State} {ps : List Part} {rs : Nat → Prop} (a1 : Packet) (h : Confined s0 ps rs s) (hp : [.sset, .bumped, .caused, .queue, .fixer, .bank, .mem] ⊆ ps) (hr : ∀ a ∈ [Reg.FIXER_FIXER_STATUS, Reg.FIXER_LASTING_COUNT, Reg.QUEUE_CMD_DROPS, Reg.QUEUE_QUEUE_STATUS, Reg.TANK_CE_ADDR, Reg.TANK_CE_COUNT, Reg.TANK_FOG_PASSES, Reg.TANK_FOG_SKIPS, Reg.TANK_TANK_STATUS, Reg.TANK_UE_ADDR, Reg.TANK_UE_COUNT], rs a) : Confined s0 ps rs (State.acceptPacket s a1) := by
  unfold State.acceptPacket
  repeat' (first
    | with_reducible assumption
    | with_reducible exact sub_parts hp (by decide)
    | with_reducible exact sub_parts _hp (by decide)
    | with_reducible exact sub_regs hr (by decide)
    | with_reducible exact hr _ (by decide)
    | with_reducible apply State.conf_dropCmd
    | with_reducible apply State.conf_storeCmd
    | with_reducible apply State.conf_setTag
    | (extract_lets +onlyGivenNames x
       first
         | (refine conf_cut (s0 := s0) (ps := ps) (rs := rs) (s := x) ?_ (fun _ => ?_); (focus unfold x); on_goal 2 => clear_value x)
         | (unfold x; clear x)
         | clear_value x)
    | with_reducible apply conf_ite
    | split
    | (with_reducible refine conf_src rfl ?_ (fun p hq => ?_) (fun b _ => ?_) ?_
       on_goal 2 => cases p <;> first | with_reducible rfl | exact absurd (hp (by decide)) hq
       on_goal 2 => exact State.store_of_tables rfl rfl rfl b
       on_goal 2 => first | exact id | (intro hs; simp only [State.shaped] at hs ⊢; simp_all)))

theorem State.conf_pushReply {s0 s : State} {ps : List Part} {rs : Nat → Prop} (a1 : Nat) (a2 : Nat) (a3 : List Word) (h : Confined s0 ps rs s) (hp : [.sset, .bumped, .caused, .queue, .fixer, .bank, .mem] ⊆ ps) (hr : ∀ a ∈ [Reg.FIXER_FIXER_STATUS, Reg.FIXER_LASTING_COUNT, Reg.TANK_CE_ADDR, Reg.TANK_CE_COUNT, Reg.TANK_FOG_PASSES, Reg.TANK_FOG_SKIPS, Reg.TANK_TANK_STATUS, Reg.TANK_UE_ADDR, Reg.TANK_UE_COUNT], rs a) : Confined s0 ps rs (State.pushReply s a1 a2 a3) := by
  unfold State.pushReply
  repeat' (first
    | with_reducible assumption
    | with_reducible exact sub_parts hp (by decide)
    | with_reducible exact sub_parts _hp (by decide)
    | with_reducible exact sub_regs hr (by decide)
    | with_reducible exact hr _ (by decide)
    | with_reducible apply State.conf_setTankWords
    | (extract_lets +onlyGivenNames x
       first
         | (refine conf_cut (s0 := s0) (ps := ps) (rs := rs) (s := x) ?_ (fun _ => ?_); (focus unfold x); on_goal 2 => clear_value x)
         | (unfold x; clear x)
         | clear_value x)
    | (with_reducible refine conf_src rfl ?_ (fun p hq => ?_) (fun b _ => ?_) ?_
       on_goal 2 => cases p <;> first | with_reducible rfl | exact absurd (hp (by decide)) hq
       on_goal 2 => exact State.store_of_tables rfl rfl rfl b
       on_goal 2 => first | exact id | (intro hs; simp only [State.shaped] at hs ⊢; simp_all)))

theorem State.conf_retireReplies {s0 s : State} {ps : List Part} {rs : Nat → Prop}  (h : Confined s0 ps rs s) (hp : [.queue] ⊆ ps) (hr : ∀ a ∈ [Reg.QUEUE_REPLY_COUNT], rs a) : Confined s0 ps rs (State.retireReplies s) := by
  unfold State.retireReplies
  repeat' (first
    | with_reducible assumption
    | with_reducible exact sub_parts hp (by decide)
    | with_reducible exact sub_parts _hp (by decide)
    | with_reducible exact sub_regs hr (by decide)
    | with_reducible exact hr _ (by decide)
    | with_reducible apply State.conf_setReg
    | (extract_lets +onlyGivenNames x
       first
         | (refine conf_cut (s0 := s0) (ps := ps) (rs := rs) (s := x) ?_ (fun _ => ?_); (focus unfold x); on_goal 2 => clear_value x)
         | (unfold x; clear x)
         | clear_value x)
    | (with_reducible refine conf_src rfl ?_ (fun p hq => ?_) (fun b _ => ?_) ?_
       on_goal 2 => cases p <;> first | with_reducible rfl | exact absurd (hp (by decide)) hq
       on_goal 2 => exact State.store_of_tables rfl rfl rfl b
       on_goal 2 => first | exact id | (intro hs; simp only [State.shaped] at hs ⊢; simp_all)))

theorem State.conf_keepEvents {s0 s : State} {ps : List Part} {rs : Nat → Prop} (a1 : List Event) (h : Confined s0 ps rs s) (hp : [.queue] ⊆ ps) (_hr : ∀ a ∈ ([] : List Nat), rs a) : Confined s0 ps rs (State.keepEvents s a1) := by
  unfold State.keepEvents
  repeat' (first
    | with_reducible assumption
    | with_reducible exact sub_parts hp (by decide)
    | with_reducible exact sub_parts _hp (by decide)
    | with_reducible exact sub_regs _hr (by decide)
    | (extract_lets +onlyGivenNames x
       first
         | (refine conf_cut (s0 := s0) (ps := ps) (rs := rs) (s := x) ?_ (fun _ => ?_); (focus unfold x); on_goal 2 => clear_value x)
         | (unfold x; clear x)
         | clear_value x)
    | (with_reducible refine conf_src rfl ?_ (fun p hq => ?_) (fun b _ => ?_) ?_
       on_goal 2 => cases p <;> first | with_reducible rfl | exact absurd (hp (by decide)) hq
       on_goal 2 => exact State.store_of_tables rfl rfl rfl b
       on_goal 2 => first | exact id | (intro hs; simp only [State.shaped] at hs ⊢; simp_all)))

theorem State.conf_retireEvents {s0 s : State} {ps : List Part} {rs : Nat → Prop}  (h : Confined s0 ps rs s) (hp : [.queue] ⊆ ps) (_hr : ∀ a ∈ ([] : List Nat), rs a) : Confined s0 ps rs (State.retireEvents s) := by
  unfold State.retireEvents
  repeat' (first
    | with_reducible assumption
    | with_reducible exact sub_parts hp (by decide)
    | with_reducible exact sub_parts _hp (by decide)
    | with_reducible exact sub_regs _hr (by decide)
    | with_reducible apply State.conf_keepEvents
    | with_reducible apply conf_ite
    | split)

theorem State.conf_setRegSrc {s0 s : State} {ps : List Part} {rs : Nat → Prop} (a1 : Epoch32) (a2 : Nat) (h : Confined s0 ps rs s) (hp : [.frame] ⊆ ps) (_hr : ∀ a ∈ ([] : List Nat), rs a) : Confined s0 ps rs (State.setRegSrc s a1 a2) := by
  unfold State.setRegSrc
  repeat' (first
    | with_reducible assumption
    | with_reducible exact sub_parts hp (by decide)
    | with_reducible exact sub_parts _hp (by decide)
    | with_reducible exact sub_regs _hr (by decide)
    | (extract_lets +onlyGivenNames x
       first
         | (refine conf_cut (s0 := s0) (ps := ps) (rs := rs) (s := x) ?_ (fun _ => ?_); (focus unfold x); on_goal 2 => clear_value x)
         | (unfold x; clear x)
         | clear_value x)
    | with_reducible apply conf_ite
    | split
    | (with_reducible refine conf_src rfl ?_ (fun p hq => ?_) (fun b _ => ?_) ?_
       on_goal 2 => cases p <;> first | with_reducible rfl | exact absurd (hp (by decide)) hq
       on_goal 2 => exact State.store_of_tables rfl rfl rfl b
       on_goal 2 => first | exact id | (intro hs; simp only [State.shaped] at hs ⊢; simp_all)))

theorem State.conf_endRegRun {s0 s : State} {ps : List Part} {rs : Nat → Prop}  (h : Confined s0 ps rs s) (hp : [.frame, .fixer] ⊆ ps) (_hr : ∀ a ∈ ([] : List Nat), rs a) : Confined s0 ps rs (State.endRegRun s) := by
  unfold State.endRegRun
  repeat' (first
    | with_reducible assumption
    | with_reducible exact sub_parts hp (by decide)
    | with_reducible exact sub_parts _hp (by decide)
    | with_reducible exact sub_regs _hr (by decide)
    | with_reducible apply State.conf_raiseAt
    | (extract_lets +onlyGivenNames x
       first
         | (refine conf_cut (s0 := s0) (ps := ps) (rs := rs) (s := x) ?_ (fun _ => ?_); (focus unfold x); on_goal 2 => clear_value x)
         | (unfold x; clear x)
         | clear_value x)
    | split
    | (with_reducible refine conf_src rfl ?_ (fun p hq => ?_) (fun b _ => ?_) ?_
       on_goal 2 => cases p <;> first | with_reducible rfl | exact absurd (hp (by decide)) hq
       on_goal 2 => exact State.store_of_tables rfl rfl rfl b
       on_goal 2 => first | exact id | (intro hs; simp only [State.shaped] at hs ⊢; simp_all)))

theorem State.conf_regRunMissing {s0 s : State} {ps : List Part} {rs : Nat → Prop} (a1 : Epoch32) (h : Confined s0 ps rs s) (hp : [.frame, .fixer] ⊆ ps) (_hr : ∀ a ∈ ([] : List Nat), rs a) : Confined s0 ps rs (State.regRunMissing s a1) := by
  unfold State.regRunMissing
  repeat' (first
    | with_reducible assumption
    | with_reducible exact sub_parts hp (by decide)
    | with_reducible exact sub_parts _hp (by decide)
    | with_reducible exact sub_regs _hr (by decide)
    | with_reducible apply State.conf_endRegRun
    | (extract_lets +onlyGivenNames x
       first
         | (refine conf_cut (s0 := s0) (ps := ps) (rs := rs) (s := x) ?_ (fun _ => ?_); (focus unfold x); on_goal 2 => clear_value x)
         | (unfold x; clear x)
         | clear_value x)
    | with_reducible apply conf_ite
    | split
    | (with_reducible refine conf_src rfl ?_ (fun p hq => ?_) (fun b _ => ?_) ?_
       on_goal 2 => cases p <;> first | with_reducible rfl | exact absurd (hp (by decide)) hq
       on_goal 2 => exact State.store_of_tables rfl rfl rfl b
       on_goal 2 => first | exact id | (intro hs; simp only [State.shaped] at hs ⊢; simp_all)))

theorem State.conf_tellRun {s0 s : State} {ps : List Part} {rs : Nat → Prop} (a1 : RegSeen) (h : Confined s0 ps rs s) (hp : [.frame, .fixer] ⊆ ps) (_hr : ∀ a ∈ ([] : List Nat), rs a) : Confined s0 ps rs (State.tellRun s a1) := by
  unfold State.tellRun
  repeat' (first
    | with_reducible assumption
    | with_reducible exact sub_parts hp (by decide)
    | with_reducible exact sub_parts _hp (by decide)
    | with_reducible exact sub_regs _hr (by decide)
    | with_reducible apply State.conf_endRegRun
    | with_reducible apply State.conf_regRunMissing
    | (extract_lets +onlyGivenNames x
       first
         | (refine conf_cut (s0 := s0) (ps := ps) (rs := rs) (s := x) ?_ (fun _ => ?_); (focus unfold x); on_goal 2 => clear_value x)
         | (unfold x; clear x)
         | clear_value x)
    | with_reducible apply conf_ite
    | split
    | (with_reducible refine conf_src rfl ?_ (fun p hq => ?_) (fun b _ => ?_) ?_
       on_goal 2 => cases p <;> first | with_reducible rfl | exact absurd (hp (by decide)) hq
       on_goal 2 => exact State.store_of_tables rfl rfl rfl b
       on_goal 2 => first | exact id | (intro hs; simp only [State.shaped] at hs ⊢; simp_all)))

theorem State.conf_settleRuns {s0 s : State} {ps : List Part} {rs : Nat → Prop} (l : List RegSeen) (h : Confined s0 ps rs s) (hp : [.frame, .fixer] ⊆ ps) (_hr : ∀ a ∈ ([] : List Nat), rs a) : Confined s0 ps rs (State.settleRuns l s) := by
  induction l generalizing s with
  | nil => exact h
  | cons r l ih =>
    unfold State.settleRuns
    exact conf_ite (ih (State.conf_tellRun _ h (sub_parts hp (by decide)) (sub_regs _hr (by decide)))) (conf_ite h (ih h))

theorem State.conf_noteSeen {s0 s : State} {ps : List Part} {rs : Nat → Prop} (r : RegSeen) (h : Confined s0 ps rs s) (hp : [.frame, .fixer] ⊆ ps) (_hr : ∀ a ∈ ([] : List Nat), rs a) : Confined s0 ps rs (State.noteSeen s r) := by
  unfold State.noteSeen
  refine State.conf_settleRuns _ ?_ (sub_parts hp (by decide)) (sub_regs _hr (by decide))
  exact (conf_upd h (by intro p hq; cases p <;> first | rfl | exact absurd (hp (by decide)) hq) (fun b _ => State.store_of_tables rfl rfl rfl b) (by intro hs; first | exact hs | (simp only [State.shaped] at hs ⊢; simp_all)))

theorem State.conf_regMissing {s0 s : State} {ps : List Part} {rs : Nat → Prop} (a1 : Epoch32) (h : Confined s0 ps rs s) (hp : [.sset, .bumped, .caused, .frame] ⊆ ps) (hr : ∀ a ∈ [Reg.FRAME_FRAME_STATUS], rs a) : Confined s0 ps rs (State.regMissing s a1) := by
  unfold State.regMissing
  repeat' (first
    | with_reducible assumption
    | with_reducible exact sub_parts hp (by decide)
    | with_reducible exact sub_parts _hp (by decide)
    | with_reducible exact sub_regs hr (by decide)
    | with_reducible exact hr _ (by decide)
    | with_reducible apply State.conf_setFlag
    | with_reducible apply State.conf_setRegSrc)

theorem State.conf_regCopyBad {s0 s : State} {ps : List Part} {rs : Nat → Prop} (a1 : Side) (a2 : Epoch32) (h : Confined s0 ps rs s) (hp : [.sset, .bumped, .caused, .frame, .fixer] ⊆ ps) (hr : ∀ a ∈ [Reg.FRAME_FRAME_STATUS], rs a) : Confined s0 ps rs (State.regCopyBad s a1 a2) := by
  unfold State.regCopyBad
  repeat' (first
    | with_reducible assumption
    | with_reducible exact sub_parts hp (by decide)
    | with_reducible exact sub_parts _hp (by decide)
    | with_reducible exact sub_regs hr (by decide)
    | with_reducible exact hr _ (by decide)
    | with_reducible apply State.conf_regMissing
    | with_reducible apply State.conf_noteSeen
    | (extract_lets +onlyGivenNames x
       first
         | (refine conf_cut (s0 := s0) (ps := ps) (rs := rs) (s := x) ?_ (fun _ => ?_); (focus unfold x); on_goal 2 => clear_value x)
         | (unfold x; clear x)
         | clear_value x)
    | with_reducible apply conf_ite
    | split)

theorem State.conf_regBarred {s0 s : State} {ps : List Part} {rs : Nat → Prop} (x : Side) (e : Epoch32) (h : Confined s0 ps rs s) (hp : [.frame, .fixer] ⊆ ps) (_hr : ∀ a ∈ ([] : List Nat), rs a) : Confined s0 ps rs (State.regBarred s x e) := by
  unfold State.regBarred
  exact State.conf_noteSeen _ (conf_ite h (State.conf_setRegSrc _ _ h (sub_parts hp (by decide)) (sub_regs _hr (by decide)))) (sub_parts hp (by decide)) (sub_regs _hr (by decide))

theorem State.conf_judgeLost {s0 s : State} {ps : List Part} {rs : Nat → Prop} (a1 : Side) (h : Confined s0 ps rs s) (hp : [.sset, .bumped, .caused, .frame, .fixer] ⊆ ps) (hr : ∀ a ∈ [Reg.FRAME_FRAME_STATUS], rs a) : Confined s0 ps rs (State.judgeLost s a1) := by
  unfold State.judgeLost
  repeat' (first
    | with_reducible assumption
    | with_reducible exact sub_parts hp (by decide)
    | with_reducible exact sub_parts _hp (by decide)
    | with_reducible exact sub_regs hr (by decide)
    | with_reducible exact hr _ (by decide)
    | intro _ _ _
    | with_reducible apply State.conf_regCopyBad
    | (extract_lets +onlyGivenNames x
       first
         | (refine conf_cut (s0 := s0) (ps := ps) (rs := rs) (s := x) ?_ (fun _ => ?_); (focus unfold x); on_goal 2 => clear_value x)
         | (unfold x; clear x)
         | clear_value x)
    | with_reducible apply conf_foldl)

theorem State.conf_judgeDropped {s0 s : State} {ps : List Part} {rs : Nat → Prop} (a1 : State) (h : Confined s0 ps rs s) (hp : [.sset, .bumped, .caused, .frame, .fixer] ⊆ ps) (hr : ∀ a ∈ [Reg.FRAME_FRAME_STATUS], rs a) : Confined s0 ps rs (State.judgeDropped s a1) := by
  unfold State.judgeDropped
  repeat' (first
    | with_reducible assumption
    | with_reducible exact sub_parts hp (by decide)
    | with_reducible exact sub_parts _hp (by decide)
    | with_reducible exact sub_regs hr (by decide)
    | with_reducible exact hr _ (by decide)
    | with_reducible apply State.conf_judgeLost
    | (extract_lets +onlyGivenNames x
       first
         | (refine conf_cut (s0 := s0) (ps := ps) (rs := rs) (s := x) ?_ (fun _ => ?_); (focus unfold x); on_goal 2 => clear_value x)
         | (unfold x; clear x)
         | clear_value x)
    | with_reducible apply conf_ite
    | split)

theorem State.conf_executeField {s0 s : State} {ps : List Part} {rs : Nat → Prop} (x : Side) (e : Epoch32) (qs : List Packet) (h : Confined s0 ps rs s) (hp : [.sset, .bumped, .caused, .frame, .queue, .fixer, .bank, .mem] ⊆ ps) (hr : ∀ a ∈ [Reg.FIXER_FIXER_STATUS, Reg.FIXER_LASTING_COUNT, Reg.QUEUE_CMD_DROPS, Reg.QUEUE_QUEUE_STATUS, Reg.TANK_CE_ADDR, Reg.TANK_CE_COUNT, Reg.TANK_FOG_PASSES, Reg.TANK_FOG_SKIPS, Reg.TANK_TANK_STATUS, Reg.TANK_UE_ADDR, Reg.TANK_UE_COUNT], rs a) :
    Confined s0 ps rs (State.executeField s x e qs) := by
  unfold State.executeField
  extract_lets r rn s1
  have h1 : Confined s0 ps rs s1 := State.conf_setRegSrc _ _ (State.conf_noteSeen _ h (sub_parts hp (by decide)) (sub_regs hr (by decide))) (sub_parts hp (by decide)) (sub_regs hr (by decide))
  exact conf_ite h (conf_foldl (fun _ _ ht => State.conf_acceptPacket _ ht (sub_parts hp (by decide)) (sub_regs hr (by decide))) h1)

theorem State.conf_registerField {s0 s : State} {ps : List Part} {rs : Nat → Prop} (a1 : Side) (a2 : List Word) (a3 : Half)
    (h : Confined s0 ps rs s) (hp : [.sset, .bumped, .caused, .outA, .outB, .frame, .queue, .fixer, .bank, .mem] ⊆ ps) (hr : ∀ a ∈ [Reg.FIXER_FIXER_STATUS, Reg.FIXER_LASTING_COUNT, Reg.FRAME_CHECK_ERR_A, Reg.FRAME_CHECK_ERR_B, Reg.FRAME_FRAME_STATUS, Reg.QUEUE_CMD_DROPS, Reg.QUEUE_QUEUE_STATUS, Reg.QUEUE_REPLY_COUNT, Reg.TANK_CE_ADDR, Reg.TANK_CE_COUNT, Reg.TANK_FOG_PASSES, Reg.TANK_FOG_SKIPS, Reg.TANK_TANK_STATUS, Reg.TANK_UE_ADDR, Reg.TANK_UE_COUNT], rs a) : Confined s0 ps rs (State.registerField s a1 a2 a3) := by
  unfold State.registerField
  extract_lets n ok s1
  split
  rename_i pk fail e
  extract_lets s2 insert
  have h1 : Confined s0 ps rs s1 := State.conf_judgeCheck _ _ _ h (sub_parts hp (by decide)) (sub_regs hr (by decide))
  clear_value s1
  have h2 : Confined s0 ps rs s2 := by
    unfold s2
    split
    · with_reducible apply conf_ite
      · exact State.conf_raise _ _ _ _ (State.conf_setFlag _ _ h1 (sub_parts hp (by decide)) (hr _ (by decide))) (sub_parts hp (by decide)) (sub_regs hr (by decide))
      · exact h1
    · exact h1
  clear_value s2
  split
  rename_i ws' rps e2
  extract_lets s3 check s4 s5
  have h3 : Confined s0 ps rs s3 := by
    refine conf_upd h2 (fun p hq => ?_) (fun b _ => State.store_of_tables rfl rfl rfl b) id
    cases p <;> first | rfl | exact absurd (hp (by decide)) hq
  have h4 : Confined s0 ps rs s4 := State.conf_forwardField _ _ _ _ h3 (sub_parts hp (by decide)) (sub_regs hr (by decide))
  clear_value s4
  have h5 : Confined s0 ps rs s5 := State.conf_retireReplies h4 (sub_parts hp (by decide)) (sub_regs hr (by decide))
  clear_value s5
  with_reducible apply conf_ite
  · exact h4
  · with_reducible apply conf_ite
    · exact h5
    · with_reducible apply conf_ite
      · exact conf_ite (State.conf_executeField _ _ _ h5 (sub_parts hp (by decide)) (sub_regs hr (by decide))) (State.conf_regBarred _ _ h5 (sub_parts hp (by decide)) (sub_regs hr (by decide)))
      · exact State.conf_regCopyBad _ _ h5 (sub_parts hp (by decide)) (sub_regs hr (by decide))

theorem State.conf_complete {s0 s : State} {ps : List Part} {rs : Nat → Prop} (a1 : Cmd) (a2 : Nat) (a3 : List Word)
    (h : Confined s0 ps rs s) (hp : [.sset, .bumped, .caused, .queue, .fixer, .bank, .mem] ⊆ ps) (hr : ∀ a ∈ [Reg.FIXER_FIXER_STATUS, Reg.FIXER_LASTING_COUNT, Reg.QUEUE_CMD_COUNT, Reg.QUEUE_QUEUE_STATUS, Reg.TANK_CE_ADDR, Reg.TANK_CE_COUNT, Reg.TANK_FOG_PASSES, Reg.TANK_FOG_SKIPS, Reg.TANK_TANK_STATUS, Reg.TANK_UE_ADDR, Reg.TANK_UE_COUNT], rs a) : Confined s0 ps rs (State.complete s a1 a2 a3) := by
  unfold State.complete
  extract_lets op t qu s1 s2 s3 s4 qu2 s5 late qu3 s6
  have h1 : Confined s0 ps rs s1 := by
    refine conf_upd h (fun p hq => ?_) (fun b _ => State.store_of_tables rfl rfl rfl b) id
    cases p <;> first | rfl | exact absurd (hp (by decide)) hq
  clear_value s1
  have h2 : Confined s0 ps rs s2 := State.conf_countWrap _ h1 (hr _ (by decide))
  clear_value s2
  have h3 : Confined s0 ps rs s3 := conf_ite (State.conf_setFlag _ _ h2 (sub_parts hp (by decide)) (hr _ (by decide)))
    (conf_ite (State.conf_setFlag _ _ h2 (sub_parts hp (by decide)) (hr _ (by decide))) h2)
  clear_value s3
  have h4 : Confined s0 ps rs s4 := State.conf_pushReply _ _ _ h3 (sub_parts hp (by decide)) (sub_regs hr (by decide))
  clear_value s4
  have h5 : Confined s0 ps rs s5 := by
    unfold s5 qu2
    refine conf_upd h4 (fun p hq => ?_) (fun b _ => State.store_of_tables rfl rfl rfl b) ?_
    · cases p <;> first | rfl | exact absurd (hp (by decide)) hq
    · intro hs; simpa [State.shaped] using hs
  clear_value s5
  have h6 : Confined s0 ps rs s6 := by
    refine conf_upd h5 (fun p hq => ?_) (fun b _ => State.store_of_tables rfl rfl rfl b) id
    cases p <;> first | rfl | exact absurd (hp (by decide)) hq
  clear_value s6
  with_reducible apply conf_ite
  · exact conf_foldl (fun _ _ ht => State.conf_pushReply _ _ _ ht (sub_parts hp (by decide)) (sub_regs hr (by decide))) h6
  · exact h3

theorem State.conf_examineAbort {s0 s : State} {ps : List Part} {rs : Nat → Prop} (a1 : Nat) (h : Confined s0 ps rs s) (hp : [.sset, .bumped, .caused, .queue, .fixer, .bank, .mem] ⊆ ps) (hr : ∀ a ∈ [Reg.FIXER_FIXER_STATUS, Reg.FIXER_LASTING_COUNT, Reg.QUEUE_QUEUE_STATUS, Reg.TANK_CE_ADDR, Reg.TANK_CE_COUNT, Reg.TANK_FOG_PASSES, Reg.TANK_FOG_SKIPS, Reg.TANK_TANK_STATUS, Reg.TANK_UE_ADDR, Reg.TANK_UE_COUNT], rs a) : Confined s0 ps rs (State.examineAbort s a1) := by
  unfold State.examineAbort
  repeat' (first
    | with_reducible assumption
    | with_reducible exact sub_parts hp (by decide)
    | with_reducible exact sub_parts _hp (by decide)
    | with_reducible exact sub_regs hr (by decide)
    | with_reducible exact hr _ (by decide)
    | with_reducible apply State.conf_pushReply
    | with_reducible apply State.conf_setTag
    | with_reducible apply State.conf_setFlag
    | (extract_lets +onlyGivenNames x
       first
         | (refine conf_cut (s0 := s0) (ps := ps) (rs := rs) (s := x) ?_ (fun _ => ?_); (focus unfold x); on_goal 2 => clear_value x)
         | (unfold x; clear x)
         | clear_value x)
    | with_reducible apply conf_ite
    | split
    | (with_reducible refine conf_src rfl ?_ (fun p hq => ?_) (fun b _ => ?_) ?_
       on_goal 2 => cases p <;> first | with_reducible rfl | exact absurd (hp (by decide)) hq
       on_goal 2 => exact State.store_of_tables rfl rfl rfl b
       on_goal 2 => first | exact id | (intro hs; simp only [State.shaped] at hs ⊢; simp_all)))

theorem State.conf_dueAborts {s0 s : State} {ps : List Part} {rs : Nat → Prop}  (h : Confined s0 ps rs s) (hp : [.queue] ⊆ ps) (_hr : ∀ a ∈ ([] : List Nat), rs a) : Confined s0 ps rs (State.dueAborts s) := by
  unfold State.dueAborts
  repeat' (first
    | with_reducible assumption
    | with_reducible exact sub_parts hp (by decide)
    | with_reducible exact sub_parts _hp (by decide)
    | with_reducible exact sub_regs _hr (by decide)
    | (extract_lets +onlyGivenNames x
       first
         | (refine conf_cut (s0 := s0) (ps := ps) (rs := rs) (s := x) ?_ (fun _ => ?_); (focus unfold x); on_goal 2 => clear_value x)
         | (unfold x; clear x)
         | clear_value x)
    | (with_reducible refine conf_src rfl ?_ (fun p hq => ?_) (fun b _ => ?_) ?_
       on_goal 2 => cases p <;> first | with_reducible rfl | exact absurd (hp (by decide)) hq
       on_goal 2 => exact State.store_of_tables rfl rfl rfl b
       on_goal 2 => first | exact id | (intro hs; simp only [State.shaped] at hs ⊢; simp_all)))

theorem State.conf_eventField {s0 s : State} {ps : List Part} {rs : Nat → Prop} (a1 : Side) (a2 : List Word) (a3 : Half) (h : Confined s0 ps rs s) (hp : [.sset, .bumped, .caused, .outA, .outB, .queue] ⊆ ps) (hr : ∀ a ∈ [Reg.FRAME_CHECK_ERR_A, Reg.FRAME_CHECK_ERR_B, Reg.FRAME_FRAME_STATUS, Reg.QUEUE_REPLY_COUNT], rs a) : Confined s0 ps rs (State.eventField s a1 a2 a3) := by
  unfold State.eventField
  repeat' (first
    | with_reducible assumption
    | with_reducible exact sub_parts hp (by decide)
    | with_reducible exact sub_parts _hp (by decide)
    | with_reducible exact sub_regs hr (by decide)
    | with_reducible exact hr _ (by decide)
    | with_reducible apply State.conf_judgeCheck
    | with_reducible apply State.conf_forwardField
    | with_reducible apply State.conf_retireReplies
    | with_reducible apply State.conf_retireEvents
    | (extract_lets +onlyGivenNames x
       first
         | (refine conf_cut (s0 := s0) (ps := ps) (rs := rs) (s := x) ?_ (fun _ => ?_); (focus unfold x); on_goal 2 => clear_value x)
         | (unfold x; clear x)
         | clear_value x)
    | with_reducible apply conf_ite
    | split
    | (with_reducible refine conf_src rfl ?_ (fun p hq => ?_) (fun b _ => ?_) ?_
       on_goal 2 => cases p <;> first | with_reducible rfl | exact absurd (hp (by decide)) hq
       on_goal 2 => exact State.store_of_tables rfl rfl rfl b
       on_goal 2 => first | exact id | (intro hs; simp only [State.shaped] at hs ⊢; simp_all)))

end Sys2Proof.Machine
end

