-- ==== Sys2Proof/Laws/ConfDecim.lean ====
section
/-! SUPPORT. What every operation of Machine/Decim.lean is confined to: the parts of the state and the registers it can change. -/

set_option linter.unusedTactic false
set_option linter.unreachableTactic false
set_option linter.unusedVariables false
set_option linter.tactic.unusedName false

namespace Sys2Proof.Machine

theorem State.conf_coefWrite {s0 s : State} {ps : List Part} {rs : Nat → Prop} (a1 : Nat) (a2 : Word) (h : Confined s0 ps rs s) (hp : [.decim] ⊆ ps) (_hr : ∀ a ∈ ([] : List Nat), rs a) : Confined s0 ps rs (State.coefWrite s a1 a2) := by
  unfold State.coefWrite
  repeat' (first
    | with_reducible assumption
    | with_reducible exact sub_parts hp (by decide)
    | with_reducible exact sub_parts _hp (by decide)
    | with_reducible exact sub_regs _hr (by decide)
    | (extract_lets +onlyGivenNames x
       first
         | (refine conf_cut (s0 := s0) (ps := ps) (rs := rs) (s := x) ?_ (fun _ => ?_); (focus unfold x); on_goal 2 => clear_value x)
         | (unfold x; clear x)
         | clear_value x)
    | with_reducible apply conf_ite
    | split
    | (with_reducible refine conf_src rfl ?_ (fun p hq => ?_) (fun b _ => ?_) ?_
       on_goal 2 => cases p <;> first | with_reducible rfl | exact absurd (hp (by decide)) hq
       on_goal 2 => exact State.store_of_tables rfl rfl rfl b
       on_goal 2 => first | exact id | (intro hs; simp only [State.shaped] at hs ⊢; simp_all)))

theorem State.conf_coefUpset {s0 s : State} {ps : List Part} {rs : Nat → Prop} (a1 : Nat) (a2 : Nat) (h : Confined s0 ps rs s) (hp : [.decim] ⊆ ps) (_hr : ∀ a ∈ ([] : List Nat), rs a) : Confined s0 ps rs (State.coefUpset s a1 a2) := by
  unfold State.coefUpset
  repeat' (first
    | with_reducible assumption
    | with_reducible exact sub_parts hp (by decide)
    | with_reducible exact sub_parts _hp (by decide)
    | with_reducible exact sub_regs _hr (by decide)
    | (extract_lets +onlyGivenNames x
       first
         | (refine conf_cut (s0 := s0) (ps := ps) (rs := rs) (s := x) ?_ (fun _ => ?_); (focus unfold x); on_goal 2 => clear_value x)
         | (unfold x; clear x)
         | clear_value x)
    | with_reducible apply conf_ite
    | split
    | (with_reducible refine conf_src rfl ?_ (fun p hq => ?_) (fun b _ => ?_) ?_
       on_goal 2 => cases p <;> first | with_reducible rfl | exact absurd (hp (by decide)) hq
       on_goal 2 => exact State.store_of_tables rfl rfl rfl b
       on_goal 2 => first | exact id | (intro hs; simp only [State.shaped] at hs ⊢; simp_all)))

theorem State.conf_dcStep {s0 s : State} {ps : List Part} {rs : Nat → Prop} (a1 : Nat) (a2 : Int) (a3 : Bool) (a4 : Bool) (a5 : Bool) (a6 : Nat) (h : Confined s0 ps rs s) (hp : [.decim] ⊆ ps) (_hr : ∀ a ∈ ([] : List Nat), rs a) : Confined s0 ps rs (State.dcStep s a1 a2 a3 a4 a5 a6).2 := by
  unfold State.dcStep
  repeat' (first
    | with_reducible assumption
    | with_reducible exact sub_parts hp (by decide)
    | with_reducible exact sub_parts _hp (by decide)
    | with_reducible exact sub_regs _hr (by decide)
    | (extract_lets +onlyGivenNames x
       first
         | (refine conf_cut (s0 := s0) (ps := ps) (rs := rs) (s := x) ?_ (fun _ => ?_); (focus unfold x); on_goal 2 => clear_value x)
         | (unfold x; clear x)
         | clear_value x)
    | split
    | (with_reducible refine conf_src rfl ?_ (fun p hq => ?_) (fun b _ => ?_) ?_
       on_goal 2 => cases p <;> first | with_reducible rfl | exact absurd (hp (by decide)) hq
       on_goal 2 => exact State.store_of_tables rfl rfl rfl b
       on_goal 2 => first | exact id | (intro hs; simp only [State.shaped] at hs ⊢; simp_all)))

theorem State.conf_dcStep_eq {s0 s t : State} {ps : List Part} {rs : Nat → Prop} (a1 : Nat) (a2 : Int) (a3 : Bool) (a4 : Bool) (a5 : Bool) (a6 : Nat) {x : Int} (e : State.dcStep s a1 a2 a3 a4 a5 a6 = (x, t)) (h : Confined s0 ps rs s) (hp : [.decim] ⊆ ps) (_hr : ∀ a ∈ ([] : List Nat), rs a) : Confined s0 ps rs t := by
  have := State.conf_dcStep a1 a2 a3 a4 a5 a6 h hp _hr
  rwa [e] at this

theorem State.conf_samplePhase {s0 s : State} {ps : List Part} {rs : Nat → Prop}  (h : Confined s0 ps rs s) (hp : [.decim] ⊆ ps) (_hr : ∀ a ∈ ([] : List Nat), rs a) : Confined s0 ps rs (State.samplePhase s) := by
  unfold State.samplePhase
  repeat' (first
    | with_reducible assumption
    | with_reducible exact sub_parts hp (by decide)
    | with_reducible exact sub_parts _hp (by decide)
    | with_reducible exact sub_regs _hr (by decide)
    | (extract_lets +onlyGivenNames x
       first
         | (refine conf_cut (s0 := s0) (ps := ps) (rs := rs) (s := x) ?_ (fun _ => ?_); (focus unfold x); on_goal 2 => clear_value x)
         | (unfold x; clear x)
         | clear_value x)
    | (with_reducible refine conf_src rfl ?_ (fun p hq => ?_) (fun b _ => ?_) ?_
       on_goal 2 => cases p <;> first | with_reducible rfl | exact absurd (hp (by decide)) hq
       on_goal 2 => exact State.store_of_tables rfl rfl rfl b
       on_goal 2 => first | exact id | (intro hs; simp only [State.shaped] at hs ⊢; simp_all)))

theorem State.conf_stepTransition {s0 s : State} {ps : List Part} {rs : Nat → Prop}  (h : Confined s0 ps rs s) (hp : [.decim] ⊆ ps) (_hr : ∀ a ∈ ([] : List Nat), rs a) : Confined s0 ps rs (State.stepTransition s) := by
  unfold State.stepTransition
  repeat' (first
    | with_reducible assumption
    | with_reducible exact sub_parts hp (by decide)
    | with_reducible exact sub_parts _hp (by decide)
    | with_reducible exact sub_regs _hr (by decide)
    | (extract_lets +onlyGivenNames x
       first
         | (refine conf_cut (s0 := s0) (ps := ps) (rs := rs) (s := x) ?_ (fun _ => ?_); (focus unfold x); on_goal 2 => clear_value x)
         | (unfold x; clear x)
         | clear_value x)
    | with_reducible apply conf_ite
    | split
    | (with_reducible refine conf_src rfl ?_ (fun p hq => ?_) (fun b _ => ?_) ?_
       on_goal 2 => cases p <;> first | with_reducible rfl | exact absurd (hp (by decide)) hq
       on_goal 2 => exact State.store_of_tables rfl rfl rfl b
       on_goal 2 => first | exact id | (intro hs; simp only [State.shaped] at hs ⊢; simp_all)))

theorem State.conf_countSatOut {s0 s : State} {ps : List Part} {rs : Nat → Prop} (a1 : Nat) (h : Confined s0 ps rs s) (hp : [.sset, .bumped, .caused] ⊆ ps) (hr : ∀ a ∈ [Reg.DECIM_DECIM_STATUS, Reg.DECIM_SAT_COUNT], rs a) : Confined s0 ps rs (State.countSatOut s a1) := by
  unfold State.countSatOut
  repeat' (first
    | with_reducible assumption
    | with_reducible exact sub_parts hp (by decide)
    | with_reducible exact sub_parts _hp (by decide)
    | with_reducible exact sub_regs hr (by decide)
    | with_reducible exact hr _ (by decide)
    | with_reducible apply State.conf_setFlag
    | with_reducible apply State.conf_countSat)

theorem State.conf_captureWord {s0 s : State} {ps : List Part} {rs : Nat → Prop} (a1 : Nat) (a2 : Word) (h : Confined s0 ps rs s) (hp : [.sset, .bumped, .caused, .queue, .fixer, .front, .bank, .mem] ⊆ ps) (hr : ∀ a ∈ [Reg.FIXER_FIXER_STATUS, Reg.FIXER_LASTING_COUNT, Reg.TANK_CE_ADDR, Reg.TANK_CE_COUNT, Reg.TANK_FOG_PASSES, Reg.TANK_FOG_SKIPS, Reg.TANK_TANK_STATUS, Reg.TANK_UE_ADDR, Reg.TANK_UE_COUNT], rs a) : Confined s0 ps rs (State.captureWord s a1 a2) := by
  unfold State.captureWord
  repeat' (first
    | with_reducible assumption
    | with_reducible exact sub_parts hp (by decide)
    | with_reducible exact sub_parts _hp (by decide)
    | with_reducible exact sub_regs hr (by decide)
    | with_reducible exact hr _ (by decide)
    | with_reducible apply State.conf_setTank
    | (extract_lets +onlyGivenNames x
       first
         | (refine conf_cut (s0 := s0) (ps := ps) (rs := rs) (s := x) ?_ (fun _ => ?_); (focus unfold x); on_goal 2 => clear_value x)
         | (unfold x; clear x)
         | clear_value x)
    | with_reducible apply conf_ite
    | split
    | (with_reducible refine conf_src rfl ?_ (fun p hq => ?_) (fun b _ => ?_) ?_
       on_goal 2 => cases p <;> first | with_reducible rfl | exact absurd (hp (by decide)) hq
       on_goal 2 => exact State.store_of_tables rfl rfl rfl b
       on_goal 2 => first | exact id | (intro hs; simp only [State.shaped] at hs ⊢; simp_all)))

theorem State.conf_filterChannel {s0 s : State} {ps : List Part} {rs : Nat → Prop} (k : Nat) (sent : List Bool) (l m : Option TapSet) (h : Confined s0 ps rs s) (hp : [.front, .decim] ⊆ ps) (_hr : ∀ a ∈ ([] : List Nat), rs a) :
    Confined s0 ps rs (State.filterChannel s k sent l m).2 := by
  unfold State.filterChannel
  split
  extract_lets f1 s1 dc s2
  have h1 : Confined s0 ps rs s1 := by
    refine conf_ite ?_ h
    exact (conf_upd h (by intro p hq; cases p <;> first | rfl | exact absurd (hp (by decide)) hq) (fun b _ => State.store_of_tables rfl rfl rfl b) (by intro hs; first | exact hs | (simp only [State.shaped] at hs ⊢; simp_all)))
  clear_value s1
  exact (conf_upd h1 (by intro p hq; cases p <;> first | rfl | exact absurd (hp (by decide)) hq) (fun b _ => State.store_of_tables rfl rfl rfl b) (by intro hs; first | exact hs | (simp only [State.shaped] at hs ⊢; simp_all)))

theorem State.conf_filterChannel_eq {s0 s t : State} {ps : List Part} {rs : Nat → Prop} (a1 : Nat) (a2 : List Bool) (a3 : Option TapSet) (a4 : Option TapSet) {x : Int} (e : State.filterChannel s a1 a2 a3 a4 = (x, t)) (h : Confined s0 ps rs s) (hp : [.front, .decim] ⊆ ps) (_hr : ∀ a ∈ ([] : List Nat), rs a) : Confined s0 ps rs t := by
  have := State.conf_filterChannel a1 a2 a3 a4 h hp _hr
  rwa [e] at this


theorem State.conf_hqChannel {s0 s : State} {ps : List Part} {rs : Nat → Prop} (a1 : HqIn) (a2 : Option TapSet) (a3 : Option TapSet) (a4 : Nat) (h : Confined s0 ps rs s) (hp : [.sset, .bumped, .caused, .queue, .fixer, .front, .decim, .bank, .mem] ⊆ ps) (hr : ∀ a ∈ [Reg.DECIM_DECIM_STATUS, Reg.DECIM_SAT_COUNT, Reg.FIXER_FIXER_STATUS, Reg.FIXER_LASTING_COUNT, Reg.TANK_CE_ADDR, Reg.TANK_CE_COUNT, Reg.TANK_FOG_PASSES, Reg.TANK_FOG_SKIPS, Reg.TANK_TANK_STATUS, Reg.TANK_UE_ADDR, Reg.TANK_UE_COUNT], rs a) : Confined s0 ps rs (State.hqChannel s a1 a2 a3 a4) := by
  unfold State.hqChannel
  repeat' (first
    | with_reducible assumption
    | with_reducible exact sub_parts hp (by decide)
    | with_reducible exact sub_parts _hp (by decide)
    | with_reducible exact sub_regs hr (by decide)
    | with_reducible exact hr _ (by decide)
    | with_reducible apply State.conf_setTank
    | with_reducible apply State.conf_captureWord
    | with_reducible apply State.conf_filterChannel
    | with_reducible refine State.conf_filterChannel_eq (by with_reducible assumption) ?_ ?_ ?_
    | with_reducible apply State.conf_dcStep
    | with_reducible refine State.conf_dcStep_eq (by with_reducible assumption) ?_ ?_ ?_
    | with_reducible apply State.conf_countSatOut
    | (extract_lets +onlyGivenNames x
       first
         | (refine conf_cut (s0 := s0) (ps := ps) (rs := rs) (s := x) ?_ (fun _ => ?_); (focus unfold x); on_goal 2 => clear_value x)
         | (unfold x; clear x)
         | clear_value x)
    | with_reducible apply conf_ite
    | split)

theorem State.conf_reloadCoef {s0 s : State} {ps : List Part} {rs : Nat → Prop} (a1 : Bool) (h : Confined s0 ps rs s) (hp : [.decim] ⊆ ps) (_hr : ∀ a ∈ ([] : List Nat), rs a) : Confined s0 ps rs (State.reloadCoef s a1) := by
  unfold State.reloadCoef
  repeat' (first
    | with_reducible assumption
    | with_reducible exact sub_parts hp (by decide)
    | with_reducible exact sub_parts _hp (by decide)
    | with_reducible exact sub_regs _hr (by decide)
    | (extract_lets +onlyGivenNames x
       first
         | (refine conf_cut (s0 := s0) (ps := ps) (rs := rs) (s := x) ?_ (fun _ => ?_); (focus unfold x); on_goal 2 => clear_value x)
         | (unfold x; clear x)
         | clear_value x)
    | with_reducible apply conf_ite
    | split
    | (with_reducible refine conf_src rfl ?_ (fun p hq => ?_) (fun b _ => ?_) ?_
       on_goal 2 => cases p <;> first | with_reducible rfl | exact absurd (hp (by decide)) hq
       on_goal 2 => exact State.store_of_tables rfl rfl rfl b
       on_goal 2 => first | exact id | (intro hs; simp only [State.shaped] at hs ⊢; simp_all)))

theorem State.conf_coefParity {s0 s : State} {ps : List Part} {rs : Nat → Prop} (a1 : Nat) (a2 : Bool) (h : Confined s0 ps rs s) (hp : [.sset, .bumped, .caused, .fixer, .decim] ⊆ ps) (hr : ∀ a ∈ [Reg.DECIM_DECIM_STATUS, Reg.FIXER_FIXER_STATUS, Reg.FIXER_LASTING_COUNT], rs a) : Confined s0 ps rs (State.coefParity s a1 a2) := by
  unfold State.coefParity
  repeat' (first
    | with_reducible assumption
    | with_reducible exact sub_parts hp (by decide)
    | with_reducible exact sub_parts _hp (by decide)
    | with_reducible exact sub_regs hr (by decide)
    | with_reducible exact hr _ (by decide)
    | with_reducible apply State.conf_setFlag
    | with_reducible apply State.conf_raise
    | with_reducible apply State.conf_fixerReport
    | (extract_lets +onlyGivenNames x
       first
         | (refine conf_cut (s0 := s0) (ps := ps) (rs := rs) (s := x) ?_ (fun _ => ?_); (focus unfold x); on_goal 2 => clear_value x)
         | (unfold x; clear x)
         | clear_value x)
    | with_reducible apply conf_ite
    | split
    | (with_reducible refine conf_src rfl ?_ (fun p hq => ?_) (fun b _ => ?_) ?_
       on_goal 2 => cases p <;> first | with_reducible rfl | exact absurd (hp (by decide)) hq
       on_goal 2 => exact State.store_of_tables rfl rfl rfl b
       on_goal 2 => first | exact id | (intro hs; simp only [State.shaped] at hs ⊢; simp_all)))

theorem State.conf_coefCheck {s0 s : State} {ps : List Part} {rs : Nat → Prop} (a1 : Bool) (a2 : List Nat) (h : Confined s0 ps rs s) (hp : [.sset, .bumped, .caused, .fixer, .decim] ⊆ ps) (hr : ∀ a ∈ [Reg.DECIM_DECIM_STATUS, Reg.FIXER_FIXER_STATUS, Reg.FIXER_LASTING_COUNT], rs a) : Confined s0 ps rs (State.coefCheck s a1 a2) := by
  unfold State.coefCheck
  repeat' (first
    | with_reducible assumption
    | with_reducible exact sub_parts hp (by decide)
    | with_reducible exact sub_parts _hp (by decide)
    | with_reducible exact sub_regs hr (by decide)
    | with_reducible exact hr _ (by decide)
    | with_reducible apply State.conf_coefParity
    | (extract_lets +onlyGivenNames x
       first
         | (refine conf_cut (s0 := s0) (ps := ps) (rs := rs) (s := x) ?_ (fun _ => ?_); (focus unfold x); on_goal 2 => clear_value x)
         | (unfold x; clear x)
         | clear_value x)
    | with_reducible apply conf_ite
    | split
    | (with_reducible refine conf_src rfl ?_ (fun p hq => ?_) (fun b _ => ?_) ?_
       on_goal 2 => cases p <;> first | with_reducible rfl | exact absurd (hp (by decide)) hq
       on_goal 2 => exact State.store_of_tables rfl rfl rfl b
       on_goal 2 => first | exact id | (intro hs; simp only [State.shaped] at hs ⊢; simp_all)))

theorem State.conf_hqChannels {s0 s : State} {ps : List Part} {rs : Nat → Prop} (a1 : HqIn) (h : Confined s0 ps rs s) (hp : [.sset, .bumped, .caused, .queue, .fixer, .front, .decim, .bank, .mem] ⊆ ps) (hr : ∀ a ∈ [Reg.DECIM_DECIM_STATUS, Reg.DECIM_SAT_COUNT, Reg.FIXER_FIXER_STATUS, Reg.FIXER_LASTING_COUNT, Reg.TANK_CE_ADDR, Reg.TANK_CE_COUNT, Reg.TANK_FOG_PASSES, Reg.TANK_FOG_SKIPS, Reg.TANK_TANK_STATUS, Reg.TANK_UE_ADDR, Reg.TANK_UE_COUNT], rs a) : Confined s0 ps rs (State.hqChannels s a1) := by
  unfold State.hqChannels
  repeat' (first
    | with_reducible assumption
    | with_reducible exact sub_parts hp (by decide)
    | with_reducible exact sub_parts _hp (by decide)
    | with_reducible exact sub_regs hr (by decide)
    | with_reducible exact hr _ (by decide)
    | intro _ _ _
    | with_reducible apply State.conf_stepTransition
    | with_reducible apply State.conf_hqChannel
    | with_reducible apply State.conf_coefCheck
    | (extract_lets +onlyGivenNames x
       first
         | (refine conf_cut (s0 := s0) (ps := ps) (rs := rs) (s := x) ?_ (fun _ => ?_); (focus unfold x); on_goal 2 => clear_value x)
         | (unfold x; clear x)
         | clear_value x)
    | with_reducible apply conf_ite
    | with_reducible apply conf_foldl
    | split)

theorem State.conf_lpPhase {s0 s : State} {ps : List Part} {rs : Nat → Prop}  (h : Confined s0 ps rs s) (hp : [.sset, .bumped, .caused, .fixer, .decim] ⊆ ps) (hr : ∀ a ∈ [Reg.DECIM_DECIM_STATUS], rs a) : Confined s0 ps rs (State.lpPhase s).2 := by
  unfold State.lpPhase
  repeat' (first
    | with_reducible assumption
    | with_reducible exact sub_parts hp (by decide)
    | with_reducible exact sub_parts _hp (by decide)
    | with_reducible exact sub_regs hr (by decide)
    | with_reducible exact hr _ (by decide)
    | with_reducible apply State.conf_setFlag
    | with_reducible apply State.conf_raise
    | (extract_lets +onlyGivenNames x
       first
         | (refine conf_cut (s0 := s0) (ps := ps) (rs := rs) (s := x) ?_ (fun _ => ?_); (focus unfold x); on_goal 2 => clear_value x)
         | (unfold x; clear x)
         | clear_value x)
    | with_reducible apply conf_ite
    | split
    | (with_reducible refine conf_src rfl ?_ (fun p hq => ?_) (fun b _ => ?_) ?_
       on_goal 2 => cases p <;> first | with_reducible rfl | exact absurd (hp (by decide)) hq
       on_goal 2 => exact State.store_of_tables rfl rfl rfl b
       on_goal 2 => first | exact id | (intro hs; simp only [State.shaped] at hs ⊢; simp_all)))

theorem State.conf_lpPhase_eq {s0 s t : State} {ps : List Part} {rs : Nat → Prop}  {x : Bool} (e : State.lpPhase s = (x, t)) (h : Confined s0 ps rs s) (hp : [.sset, .bumped, .caused, .fixer, .decim] ⊆ ps) (hr : ∀ a ∈ [Reg.DECIM_DECIM_STATUS], rs a) : Confined s0 ps rs t := by
  have := State.conf_lpPhase  h hp hr
  rwa [e] at this

theorem State.conf_filterWatch {s0 s : State} {ps : List Part} {rs : Nat → Prop} (a1 : List Bool) (h : Confined s0 ps rs s) (hp : [.decim] ⊆ ps) (_hr : ∀ a ∈ ([] : List Nat), rs a) : Confined s0 ps rs (State.filterWatch s a1).2 := by
  unfold State.filterWatch
  repeat' (first
    | with_reducible assumption
    | with_reducible exact sub_parts hp (by decide)
    | with_reducible exact sub_parts _hp (by decide)
    | with_reducible exact sub_regs _hr (by decide)
    | (extract_lets +onlyGivenNames x
       first
         | (refine conf_cut (s0 := s0) (ps := ps) (rs := rs) (s := x) ?_ (fun _ => ?_); (focus unfold x); on_goal 2 => clear_value x)
         | (unfold x; clear x)
         | clear_value x)
    | split
    | (with_reducible refine conf_src rfl ?_ (fun p hq => ?_) (fun b _ => ?_) ?_
       on_goal 2 => cases p <;> first | with_reducible rfl | exact absurd (hp (by decide)) hq
       on_goal 2 => exact State.store_of_tables rfl rfl rfl b
       on_goal 2 => first | exact id | (intro hs; simp only [State.shaped] at hs ⊢; simp_all)))

theorem State.conf_filterWatch_eq {s0 s t : State} {ps : List Part} {rs : Nat → Prop} (a1 : List Bool) {x : Int} (e : State.filterWatch s a1 = (x, t)) (h : Confined s0 ps rs s) (hp : [.decim] ⊆ ps) (_hr : ∀ a ∈ ([] : List Nat), rs a) : Confined s0 ps rs t := by
  have := State.conf_filterWatch a1 h hp _hr
  rwa [e] at this

theorem State.conf_lpSample {s0 s : State} {ps : List Part} {rs : Nat → Prop} (a1 : List Bool) (h : Confined s0 ps rs s) (hp : [.sset, .bumped, .caused, .queue, .fixer, .decim, .bank, .mem] ⊆ ps) (hr : ∀ a ∈ [Reg.DECIM_DECIM_STATUS, Reg.DECIM_SAT_COUNT, Reg.FIXER_FIXER_STATUS, Reg.FIXER_LASTING_COUNT, Reg.TANK_CE_ADDR, Reg.TANK_CE_COUNT, Reg.TANK_FOG_PASSES, Reg.TANK_FOG_SKIPS, Reg.TANK_TANK_STATUS, Reg.TANK_UE_ADDR, Reg.TANK_UE_COUNT], rs a) : Confined s0 ps rs (State.lpSample s a1) := by
  unfold State.lpSample
  split
  rename_i misphase s1 e
  have h1 : Confined s0 ps rs s1 := State.conf_lpPhase_eq e h (sub_parts hp (by decide)) (sub_regs hr (by decide))
  extract_lets src1 d1 ok x
  have h2 : Confined s0 ps rs x := by
    unfold x
    split
    · have h3 : Confined s0 ps rs src1 := State.conf_setTank (lpWindowAddr s1.clk.epoch) 0 h1 (sub_parts hp (by decide)) (sub_regs hr (by decide))
      exact (conf_upd h3 (by intro p hq; cases p <;> first | rfl | exact absurd (hp (by decide)) hq) (fun b _ => State.store_of_tables rfl rfl rfl b) (by intro hs; first | exact hs | (simp only [State.shaped] at hs ⊢; simp_all)))
    · split
      rename_i y s2 e2
      have h3 : Confined s0 ps rs s2 := State.conf_filterWatch_eq _ e2 h1 (sub_parts hp (by decide)) (sub_regs hr (by decide))
      split
      rename_i y2 s3 e3
      have h3 : Confined s0 ps rs s3 := State.conf_dcStep_eq _ _ _ _ _ _ e3 h3 (sub_parts hp (by decide)) (sub_regs hr (by decide))
      extract_lets r c s4 valid src2 d2
      have h4 : Confined s0 ps rs s4 := conf_ite h3 (State.conf_countSatOut _ h3 (sub_parts hp (by decide)) (sub_regs hr (by decide)))
      clear_value s4
      have h5 : Confined s0 ps rs src2 := State.conf_setTank (lpWindowAddr s4.clk.epoch) (lpWord c valid) h4 (sub_parts hp (by decide)) (sub_regs hr (by decide))
      exact (conf_upd h5 (by intro p hq; cases p <;> first | rfl | exact absurd (hp (by decide)) hq) (fun b _ => State.store_of_tables rfl rfl rfl b) (by intro hs; first | exact hs | (simp only [State.shaped] at hs ⊢; simp_all)))
  clear_value x
  exact conf_ite (State.conf_coefCheck _ _ h2 (sub_parts hp (by decide)) (sub_regs hr (by decide))) h2

theorem State.conf_applySwap {s0 s : State} {ps : List Part} {rs : Nat → Prop} (a1 : Nat) (h : Confined s0 ps rs s) (hp : [.sset, .bumped, .caused, .fixer, .decim] ⊆ ps) (hr : ∀ a ∈ [Reg.DECIM_DECIM_STATUS, Reg.DECIM_SWAP_COUNT], rs a) : Confined s0 ps rs (State.applySwap s a1) := by
  unfold State.applySwap
  repeat' (first
    | with_reducible assumption
    | with_reducible exact sub_parts hp (by decide)
    | with_reducible exact sub_parts _hp (by decide)
    | with_reducible exact sub_regs hr (by decide)
    | with_reducible exact hr _ (by decide)
    | with_reducible apply State.conf_setFlag
    | with_reducible apply State.conf_countWrap
    | with_reducible apply State.conf_raise
    | (extract_lets +onlyGivenNames x
       first
         | (refine conf_cut (s0 := s0) (ps := ps) (rs := rs) (s := x) ?_ (fun _ => ?_); (focus unfold x); on_goal 2 => clear_value x)
         | (unfold x; clear x)
         | clear_value x)
    | (with_reducible refine conf_src rfl ?_ (fun p hq => ?_) (fun b _ => ?_) ?_
       on_goal 2 => cases p <;> first | with_reducible rfl | exact absurd (hp (by decide)) hq
       on_goal 2 => exact State.store_of_tables rfl rfl rfl b
       on_goal 2 => first | exact id | (intro hs; simp only [State.shaped] at hs ⊢; simp_all)))

theorem State.conf_hqHalt {s0 s : State} {ps : List Part} {rs : Nat → Prop}  (h : Confined s0 ps rs s) (hp : [.sset, .bumped, .caused, .fixer, .decim] ⊆ ps) (hr : ∀ a ∈ [Reg.DECIM_DECIM_STATUS, Reg.DECIM_SWAP_COUNT], rs a) : Confined s0 ps rs (State.hqHalt s) := by
  unfold State.hqHalt
  repeat' (first
    | with_reducible assumption
    | with_reducible exact sub_parts hp (by decide)
    | with_reducible exact sub_parts _hp (by decide)
    | with_reducible exact sub_regs hr (by decide)
    | with_reducible exact hr _ (by decide)
    | with_reducible apply State.conf_applySwap
    | with_reducible apply State.conf_reloadCoef
    | (extract_lets +onlyGivenNames x
       first
         | (refine conf_cut (s0 := s0) (ps := ps) (rs := rs) (s := x) ?_ (fun _ => ?_); (focus unfold x); on_goal 2 => clear_value x)
         | (unfold x; clear x)
         | clear_value x)
    | with_reducible apply conf_ite
    | split
    | (with_reducible refine conf_src rfl ?_ (fun p hq => ?_) (fun b _ => ?_) ?_
       on_goal 2 => cases p <;> first | with_reducible rfl | exact absurd (hp (by decide)) hq
       on_goal 2 => exact State.store_of_tables rfl rfl rfl b
       on_goal 2 => first | exact id | (intro hs; simp only [State.shaped] at hs ⊢; simp_all)))

theorem State.conf_pathStop {s0 s : State} {ps : List Part} {rs : Nat → Prop} (a1 : Bool) (h : Confined s0 ps rs s) (hp : [.sset, .bumped, .caused, .fixer, .decim] ⊆ ps) (hr : ∀ a ∈ [Reg.DECIM_DECIM_STATUS, Reg.DECIM_SWAP_COUNT], rs a) : Confined s0 ps rs (State.pathStop s a1) := by
  unfold State.pathStop
  repeat' (first
    | with_reducible assumption
    | with_reducible exact sub_parts hp (by decide)
    | with_reducible exact sub_parts _hp (by decide)
    | with_reducible exact sub_regs hr (by decide)
    | with_reducible exact hr _ (by decide)
    | with_reducible apply State.conf_setFlag
    | with_reducible apply State.conf_hqHalt
    | with_reducible apply State.conf_reloadCoef
    | (extract_lets +onlyGivenNames x
       first
         | (refine conf_cut (s0 := s0) (ps := ps) (rs := rs) (s := x) ?_ (fun _ => ?_); (focus unfold x); on_goal 2 => clear_value x)
         | (unfold x; clear x)
         | clear_value x)
    | with_reducible apply conf_ite
    | split
    | (with_reducible refine conf_src rfl ?_ (fun p hq => ?_) (fun b _ => ?_) ?_
       on_goal 2 => cases p <;> first | with_reducible rfl | exact absurd (hp (by decide)) hq
       on_goal 2 => exact State.store_of_tables rfl rfl rfl b
       on_goal 2 => first | exact id | (intro hs; simp only [State.shaped] at hs ⊢; simp_all)))

theorem State.conf_hqBegin {s0 s : State} {ps : List Part} {rs : Nat → Prop}  (h : Confined s0 ps rs s) (hp : [.decim] ⊆ ps) (_hr : ∀ a ∈ ([] : List Nat), rs a) : Confined s0 ps rs (State.hqBegin s) := by
  unfold State.hqBegin
  repeat' (first
    | with_reducible assumption
    | with_reducible exact sub_parts hp (by decide)
    | with_reducible exact sub_parts _hp (by decide)
    | with_reducible exact sub_regs _hr (by decide)
    | (extract_lets +onlyGivenNames x
       first
         | (refine conf_cut (s0 := s0) (ps := ps) (rs := rs) (s := x) ?_ (fun _ => ?_); (focus unfold x); on_goal 2 => clear_value x)
         | (unfold x; clear x)
         | clear_value x)
    | (with_reducible refine conf_src rfl ?_ (fun p hq => ?_) (fun b _ => ?_) ?_
       on_goal 2 => cases p <;> first | with_reducible rfl | exact absurd (hp (by decide)) hq
       on_goal 2 => exact State.store_of_tables rfl rfl rfl b
       on_goal 2 => first | exact id | (intro hs; simp only [State.shaped] at hs ⊢; simp_all)))

theorem State.conf_lpBegin {s0 s : State} {ps : List Part} {rs : Nat → Prop}  (h : Confined s0 ps rs s) (hp : [.decim] ⊆ ps) (_hr : ∀ a ∈ ([] : List Nat), rs a) : Confined s0 ps rs (State.lpBegin s) := by
  unfold State.lpBegin
  repeat' (first
    | with_reducible assumption
    | with_reducible exact sub_parts hp (by decide)
    | with_reducible exact sub_parts _hp (by decide)
    | with_reducible exact sub_regs _hr (by decide)
    | (extract_lets +onlyGivenNames x
       first
         | (refine conf_cut (s0 := s0) (ps := ps) (rs := rs) (s := x) ?_ (fun _ => ?_); (focus unfold x); on_goal 2 => clear_value x)
         | (unfold x; clear x)
         | clear_value x)
    | (with_reducible refine conf_src rfl ?_ (fun p hq => ?_) (fun b _ => ?_) ?_
       on_goal 2 => cases p <;> first | with_reducible rfl | exact absurd (hp (by decide)) hq
       on_goal 2 => exact State.store_of_tables rfl rfl rfl b
       on_goal 2 => first | exact id | (intro hs; simp only [State.shaped] at hs ⊢; simp_all)))

theorem State.conf_pathStart {s0 s : State} {ps : List Part} {rs : Nat → Prop} (a1 : Bool) (h : Confined s0 ps rs s) (hp : [.decim] ⊆ ps) (_hr : ∀ a ∈ ([] : List Nat), rs a) : Confined s0 ps rs (State.pathStart s a1) := by
  unfold State.pathStart
  repeat' (first
    | with_reducible assumption
    | with_reducible exact sub_parts hp (by decide)
    | with_reducible exact sub_parts _hp (by decide)
    | with_reducible exact sub_regs _hr (by decide)
    | with_reducible apply State.conf_hqBegin
    | with_reducible apply State.conf_lpBegin
    | (extract_lets +onlyGivenNames x
       first
         | (refine conf_cut (s0 := s0) (ps := ps) (rs := rs) (s := x) ?_ (fun _ => ?_); (focus unfold x); on_goal 2 => clear_value x)
         | (unfold x; clear x)
         | clear_value x)
    | with_reducible apply conf_ite
    | split
    | (with_reducible refine conf_src rfl ?_ (fun p hq => ?_) (fun b _ => ?_) ?_
       on_goal 2 => cases p <;> first | with_reducible rfl | exact absurd (hp (by decide)) hq
       on_goal 2 => exact State.store_of_tables rfl rfl rfl b
       on_goal 2 => first | exact id | (intro hs; simp only [State.shaped] at hs ⊢; simp_all)))

theorem State.conf_requestSwap {s0 s : State} {ps : List Part} {rs : Nat → Prop} (a1 : Nat) (h : Confined s0 ps rs s) (hp : [.sset, .bumped, .caused, .decim] ⊆ ps) (hr : ∀ a ∈ [Reg.DECIM_DECIM_STATUS], rs a) : Confined s0 ps rs (State.requestSwap s a1) := by
  unfold State.requestSwap
  repeat' (first
    | with_reducible assumption
    | with_reducible exact sub_parts hp (by decide)
    | with_reducible exact sub_parts _hp (by decide)
    | with_reducible exact sub_regs hr (by decide)
    | with_reducible exact hr _ (by decide)
    | with_reducible apply State.conf_setFlag
    | (extract_lets +onlyGivenNames x
       first
         | (refine conf_cut (s0 := s0) (ps := ps) (rs := rs) (s := x) ?_ (fun _ => ?_); (focus unfold x); on_goal 2 => clear_value x)
         | (unfold x; clear x)
         | clear_value x)
    | with_reducible apply conf_ite
    | split
    | (with_reducible refine conf_src rfl ?_ (fun p hq => ?_) (fun b _ => ?_) ?_
       on_goal 2 => cases p <;> first | with_reducible rfl | exact absurd (hp (by decide)) hq
       on_goal 2 => exact State.store_of_tables rfl rfl rfl b
       on_goal 2 => first | exact id | (intro hs; simp only [State.shaped] at hs ⊢; simp_all)))

end Sys2Proof.Machine
end

