-- ==== Sys2Proof/Laws/ConfMx.lean ====
section
/-! SUPPORT. What every operation of Machine/Mx.lean is confined to: the parts of the state and the registers it can change. -/

set_option linter.unusedTactic false
set_option linter.unreachableTactic false
set_option linter.unusedVariables false
set_option linter.tactic.unusedName false

namespace Sys2Proof.Machine

theorem State.conf_openWindow {s0 s : State} {ps : List Part} {rs : Nat → Prop} (a1 : Epoch) (h : Confined s0 ps rs s) (hp : [.mx] ⊆ ps) (_hr : ∀ a ∈ ([] : List Nat), rs a) : Confined s0 ps rs (State.openWindow s a1) := by
  unfold State.openWindow
  repeat' (first
    | with_reducible assumption
    | with_reducible exact sub_parts hp (by decide)
    | with_reducible exact sub_parts _hp (by decide)
    | with_reducible exact sub_regs _hr (by decide)
    | (extract_lets +onlyGivenNames x
       first
         | (refine conf_cut (s0 := s0) (ps := ps) (rs := rs) (s := x) ?_ (fun _ => ?_); (focus unfold x); on_goal 2 => clear_value x)
         | (unfold x; clear x)
         | clear_value x)
    | with_reducible apply conf_ite
    | split
    | (with_reducible refine conf_src rfl ?_ (fun p hq => ?_) (fun b _ => ?_) ?_
       on_goal 2 => cases p <;> first | with_reducible rfl | exact absurd (hp (by decide)) hq
       on_goal 2 => exact State.store_of_tables rfl rfl rfl b
       on_goal 2 => first | exact id | (intro hs; simp only [State.shaped] at hs ⊢; simp_all)))

theorem State.conf_closeWindow {s0 s : State} {ps : List Part} {rs : Nat → Prop}  (h : Confined s0 ps rs s) (hp : [.mx] ⊆ ps) (_hr : ∀ a ∈ ([] : List Nat), rs a) : Confined s0 ps rs (State.closeWindow s) := by
  unfold State.closeWindow
  repeat' (first
    | with_reducible assumption
    | with_reducible exact sub_parts hp (by decide)
    | with_reducible exact sub_parts _hp (by decide)
    | with_reducible exact sub_regs _hr (by decide)
    | (extract_lets +onlyGivenNames x
       first
         | (refine conf_cut (s0 := s0) (ps := ps) (rs := rs) (s := x) ?_ (fun _ => ?_); (focus unfold x); on_goal 2 => clear_value x)
         | (unfold x; clear x)
         | clear_value x)
    | split
    | (with_reducible refine conf_src rfl ?_ (fun p hq => ?_) (fun b _ => ?_) ?_
       on_goal 2 => cases p <;> first | with_reducible rfl | exact absurd (hp (by decide)) hq
       on_goal 2 => exact State.store_of_tables rfl rfl rfl b
       on_goal 2 => first | exact id | (intro hs; simp only [State.shaped] at hs ⊢; simp_all)))

theorem State.conf_forgetDecisions {s0 s : State} {ps : List Part} {rs : Nat → Prop}  (h : Confined s0 ps rs s) (hp : [.mx] ⊆ ps) (_hr : ∀ a ∈ ([] : List Nat), rs a) : Confined s0 ps rs (State.forgetDecisions s) := by
  unfold State.forgetDecisions
  repeat' (first
    | with_reducible assumption
    | with_reducible exact sub_parts hp (by decide)
    | with_reducible exact sub_parts _hp (by decide)
    | with_reducible exact sub_regs _hr (by decide)
    | (extract_lets +onlyGivenNames x
       first
         | (refine conf_cut (s0 := s0) (ps := ps) (rs := rs) (s := x) ?_ (fun _ => ?_); (focus unfold x); on_goal 2 => clear_value x)
         | (unfold x; clear x)
         | clear_value x)
    | (with_reducible refine conf_src rfl ?_ (fun p hq => ?_) (fun b _ => ?_) ?_
       on_goal 2 => cases p <;> first | with_reducible rfl | exact absurd (hp (by decide)) hq
       on_goal 2 => exact State.store_of_tables rfl rfl rfl b
       on_goal 2 => first | exact id | (intro hs; simp only [State.shaped] at hs ⊢; simp_all)))

theorem State.conf_mxDecide {s0 s : State} {ps : List Part} {rs : Nat → Prop} (a1 : Epoch32) (a2 : Nat) (a3 : Word) (a4 : Word) (h : Confined s0 ps rs s) (hp : [.sset, .bumped, .caused, .fixer, .mx, .bank] ⊆ ps) (hr : ∀ a ∈ [Reg.MX_MX_STATUS, Reg.MX_SKIP_COUNT, Reg.TANK_FOG_PASSES, Reg.TANK_FOG_SKIPS, Reg.TANK_TANK_STATUS], rs a) : Confined s0 ps rs (State.mxDecide s a1 a2 a3 a4).2 := by
  unfold State.mxDecide
  repeat' (first
    | with_reducible assumption
    | with_reducible exact sub_parts hp (by decide)
    | with_reducible exact sub_parts _hp (by decide)
    | with_reducible exact sub_regs hr (by decide)
    | with_reducible exact hr _ (by decide)
    | with_reducible apply State.conf_fogReads
    | with_reducible apply State.conf_setFlag
    | with_reducible apply State.conf_countSat
    | with_reducible apply State.conf_raise
    | (extract_lets +onlyGivenNames x
       first
         | (refine conf_cut (s0 := s0) (ps := ps) (rs := rs) (s := x) ?_ (fun _ => ?_); (focus unfold x); on_goal 2 => clear_value x)
         | (unfold x; clear x)
         | clear_value x)
    | with_reducible apply conf_ite
    | split
    | (with_reducible refine conf_src rfl ?_ (fun p hq => ?_) (fun b _ => ?_) ?_
       on_goal 2 => cases p <;> first | with_reducible rfl | exact absurd (hp (by decide)) hq
       on_goal 2 => exact State.store_of_tables rfl rfl rfl b
       on_goal 2 => first | exact id | (intro hs; simp only [State.shaped] at hs ⊢; simp_all)))

theorem State.conf_mxDecide_eq {s0 s t : State} {ps : List Part} {rs : Nat → Prop} (a1 : Epoch32) (a2 : Nat) (a3 : Word) (a4 : Word) {x : Option Int} (e : State.mxDecide s a1 a2 a3 a4 = (x, t)) (h : Confined s0 ps rs s) (hp : [.sset, .bumped, .caused, .fixer, .mx, .bank] ⊆ ps) (hr : ∀ a ∈ [Reg.MX_MX_STATUS, Reg.MX_SKIP_COUNT, Reg.TANK_FOG_PASSES, Reg.TANK_FOG_SKIPS, Reg.TANK_TANK_STATUS], rs a) : Confined s0 ps rs t := by
  have := State.conf_mxDecide a1 a2 a3 a4 h hp hr
  rwa [e] at this

theorem State.conf_mxEntry {s0 s : State} {ps : List Part} {rs : Nat → Prop} (e : Epoch32) (n : Nat) (w g : Word) (ws : List Word) (h : Confined s0 ps rs s) (hp : [.sset, .bumped, .caused, .fixer, .mx, .bank] ⊆ ps) (hr : ∀ a ∈ [Reg.MX_CONTRIB_COUNT, Reg.MX_MX_STATUS, Reg.MX_SAT_COUNT, Reg.MX_SKIP_COUNT, Reg.TANK_FOG_PASSES, Reg.TANK_FOG_SKIPS, Reg.TANK_TANK_STATUS], rs a) :
    Confined s0 ps rs (State.mxEntry s e n w g ws).1 := by
  unfold State.mxEntry
  have hd := State.conf_mxDecide e n w g h (sub_parts hp (by decide)) (sub_regs hr (by decide))
  split
  · revert hd
    generalize State.mxDecide s e n w g = r
    intro hd
    obtain ⟨c, s1⟩ := r
    cases c with
    | none => exact hd
    | some c =>
      have h2 : Confined s0 ps rs (s1.countWrap Reg.MX_CONTRIB_COUNT) := State.conf_countWrap _ hd (hr _ (by decide))
      exact conf_ite (State.conf_countSat _ (State.conf_setFlag _ _ h2 (sub_parts hp (by decide)) (hr _ (by decide))) (hr _ (by decide))) h2
  · exact h

theorem State.conf_mxEntry_eq {s0 s t : State} {ps : List Part} {rs : Nat → Prop} (a1 : Epoch32) (a2 : Nat) (a3 : Word) (a4 : Word) (a5 : List Word) {x : List Word} (e : State.mxEntry s a1 a2 a3 a4 a5 = (t, x)) (h : Confined s0 ps rs s) (hp : [.sset, .bumped, .caused, .fixer, .mx, .bank] ⊆ ps) (hr : ∀ a ∈ [Reg.MX_CONTRIB_COUNT, Reg.MX_MX_STATUS, Reg.MX_SAT_COUNT, Reg.MX_SKIP_COUNT, Reg.TANK_FOG_PASSES, Reg.TANK_FOG_SKIPS, Reg.TANK_TANK_STATUS], rs a) : Confined s0 ps rs t := by
  have := State.conf_mxEntry a1 a2 a3 a4 a5 h hp hr
  rwa [e] at this


theorem State.conf_mxEntries {s0 s : State} {ps : List Part} {rs : Nat → Prop} (e : Epoch32) (n : Nat) (qs : List (Word × Word)) (ws : List Word) (h : Confined s0 ps rs s) (hp : [.sset, .bumped, .caused, .fixer, .mx, .bank] ⊆ ps) (hr : ∀ a ∈ [Reg.MX_CONTRIB_COUNT, Reg.MX_MX_STATUS, Reg.MX_SAT_COUNT, Reg.MX_SKIP_COUNT, Reg.TANK_FOG_PASSES, Reg.TANK_FOG_SKIPS, Reg.TANK_TANK_STATUS], rs a) :
    Confined s0 ps rs (State.mxEntries s e n qs ws).1 := by
  induction qs generalizing s n ws with
  | nil => exact h
  | cons q qs ih =>
    unfold State.mxEntries
    exact ih _ _ (State.conf_mxEntry _ _ _ _ _ h (sub_parts hp (by decide)) (sub_regs hr (by decide)))

theorem State.conf_listenField {s0 s : State} {ps : List Part} {rs : Nat → Prop} (x : Side) (ws : List Word) (check : Word) (h : Confined s0 ps rs s) (hp : [.sset, .bumped, .caused, .outA, .outB, .fixer, .mx, .bank] ⊆ ps) (hr : ∀ a ∈ [Reg.FRAME_CHECK_ERR_A, Reg.FRAME_CHECK_ERR_B, Reg.FRAME_FRAME_STATUS, Reg.MX_CONTRIB_COUNT, Reg.MX_MX_STATUS, Reg.MX_SAT_COUNT, Reg.MX_SKIP_COUNT, Reg.TANK_FOG_PASSES, Reg.TANK_FOG_SKIPS, Reg.TANK_TANK_STATUS], rs a) :
    Confined s0 ps rs (State.listenField s x ws check) := by
  unfold State.listenField
  extract_lets ok s1 e
  have h1 : Confined s0 ps rs s1 := State.conf_judgeCheck _ _ _ h (sub_parts hp (by decide)) (sub_regs hr (by decide))
  clear_value s1
  split
  rename_i s2 ws' eq
  have h2 : Confined s0 ps rs s2 := by
    split at eq
    · have := State.conf_mxEntries e 0 (s1.planFor e) ws h1 (sub_parts hp (by decide)) (sub_regs hr (by decide))
      rwa [eq] at this
    · cases eq
      exact h1
  exact State.conf_forwardField _ _ _ _ h2 (sub_parts hp (by decide)) (sub_regs hr (by decide))

theorem State.conf_mxArm {s0 s : State} {ps : List Part} {rs : Nat → Prop}  (h : Confined s0 ps rs s) (hp : [.sset, .bumped, .caused, .fixer, .mx] ⊆ ps) (hr : ∀ a ∈ [Reg.MX_MX_STATUS], rs a) : Confined s0 ps rs (State.mxArm s) := by
  unfold State.mxArm
  repeat' (first
    | with_reducible assumption
    | with_reducible exact sub_parts hp (by decide)
    | with_reducible exact sub_parts _hp (by decide)
    | with_reducible exact sub_regs hr (by decide)
    | with_reducible exact hr _ (by decide)
    | with_reducible apply State.conf_setFlag
    | with_reducible apply State.conf_raise
    | (extract_lets +onlyGivenNames x
       first
         | (refine conf_cut (s0 := s0) (ps := ps) (rs := rs) (s := x) ?_ (fun _ => ?_); (focus unfold x); on_goal 2 => clear_value x)
         | (unfold x; clear x)
         | clear_value x)
    | with_reducible apply conf_ite
    | split
    | (with_reducible refine conf_src rfl ?_ (fun p hq => ?_) (fun b _ => ?_) ?_
       on_goal 2 => cases p <;> first | with_reducible rfl | exact absurd (hp (by decide)) hq
       on_goal 2 => exact State.store_of_tables rfl rfl rfl b
       on_goal 2 => first | exact id | (intro hs; simp only [State.shaped] at hs ⊢; simp_all)))

theorem State.conf_mxCancel {s0 s : State} {ps : List Part} {rs : Nat → Prop}  (h : Confined s0 ps rs s) (hp : [.mx] ⊆ ps) (_hr : ∀ a ∈ ([] : List Nat), rs a) : Confined s0 ps rs (State.mxCancel s) := by
  unfold State.mxCancel
  repeat' (first
    | with_reducible assumption
    | with_reducible exact sub_parts hp (by decide)
    | with_reducible exact sub_parts _hp (by decide)
    | with_reducible exact sub_regs _hr (by decide)
    | (extract_lets +onlyGivenNames x
       first
         | (refine conf_cut (s0 := s0) (ps := ps) (rs := rs) (s := x) ?_ (fun _ => ?_); (focus unfold x); on_goal 2 => clear_value x)
         | (unfold x; clear x)
         | clear_value x)
    | (with_reducible refine conf_src rfl ?_ (fun p hq => ?_) (fun b _ => ?_) ?_
       on_goal 2 => cases p <;> first | with_reducible rfl | exact absurd (hp (by decide)) hq
       on_goal 2 => exact State.store_of_tables rfl rfl rfl b
       on_goal 2 => first | exact id | (intro hs; simp only [State.shaped] at hs ⊢; simp_all)))

theorem State.conf_mxSwitch {s0 s : State} {ps : List Part} {rs : Nat → Prop}  (h : Confined s0 ps rs s) (hp : [.sset, .bumped, .caused, .fixer, .mx] ⊆ ps) (hr : ∀ a ∈ [Reg.MX_MX_STATUS], rs a) : Confined s0 ps rs (State.mxSwitch s) := by
  unfold State.mxSwitch
  repeat' (first
    | with_reducible assumption
    | with_reducible exact sub_parts hp (by decide)
    | with_reducible exact sub_parts _hp (by decide)
    | with_reducible exact sub_regs hr (by decide)
    | with_reducible exact hr _ (by decide)
    | with_reducible apply State.conf_setFlag
    | with_reducible apply State.conf_raise
    | (extract_lets +onlyGivenNames x
       first
         | (refine conf_cut (s0 := s0) (ps := ps) (rs := rs) (s := x) ?_ (fun _ => ?_); (focus unfold x); on_goal 2 => clear_value x)
         | (unfold x; clear x)
         | clear_value x)
    | split
    | (with_reducible refine conf_src rfl ?_ (fun p hq => ?_) (fun b _ => ?_) ?_
       on_goal 2 => cases p <;> first | with_reducible rfl | exact absurd (hp (by decide)) hq
       on_goal 2 => exact State.store_of_tables rfl rfl rfl b
       on_goal 2 => first | exact id | (intro hs; simp only [State.shaped] at hs ⊢; simp_all)))

theorem State.conf_mxToSafe {s0 s : State} {ps : List Part} {rs : Nat → Prop}  (h : Confined s0 ps rs s) (hp : [.sset, .bumped, .caused, .mx] ⊆ ps) (hr : ∀ a ∈ [Reg.MX_MX_STATUS], rs a) : Confined s0 ps rs (State.mxToSafe s) := by
  unfold State.mxToSafe
  repeat' (first
    | with_reducible assumption
    | with_reducible exact sub_parts hp (by decide)
    | with_reducible exact sub_parts _hp (by decide)
    | with_reducible exact sub_regs hr (by decide)
    | with_reducible exact hr _ (by decide)
    | with_reducible apply State.conf_setFlag
    | (extract_lets +onlyGivenNames x
       first
         | (refine conf_cut (s0 := s0) (ps := ps) (rs := rs) (s := x) ?_ (fun _ => ?_); (focus unfold x); on_goal 2 => clear_value x)
         | (unfold x; clear x)
         | clear_value x)
    | split
    | (with_reducible refine conf_src rfl ?_ (fun p hq => ?_) (fun b _ => ?_) ?_
       on_goal 2 => cases p <;> first | with_reducible rfl | exact absurd (hp (by decide)) hq
       on_goal 2 => exact State.store_of_tables rfl rfl rfl b
       on_goal 2 => first | exact id | (intro hs; simp only [State.shaped] at hs ⊢; simp_all)))

theorem State.conf_planUpset {s0 s : State} {ps : List Part} {rs : Nat → Prop} (a1 : Nat) (a2 : Nat) (h : Confined s0 ps rs s) (hp : [.mx] ⊆ ps) (_hr : ∀ a ∈ ([] : List Nat), rs a) : Confined s0 ps rs (State.planUpset s a1 a2) := by
  unfold State.planUpset
  repeat' (first
    | with_reducible assumption
    | with_reducible exact sub_parts hp (by decide)
    | with_reducible exact sub_parts _hp (by decide)
    | with_reducible exact sub_regs _hr (by decide)
    | (extract_lets +onlyGivenNames x
       first
         | (refine conf_cut (s0 := s0) (ps := ps) (rs := rs) (s := x) ?_ (fun _ => ?_); (focus unfold x); on_goal 2 => clear_value x)
         | (unfold x; clear x)
         | clear_value x)
    | with_reducible apply conf_ite
    | split
    | (with_reducible refine conf_src rfl ?_ (fun p hq => ?_) (fun b _ => ?_) ?_
       on_goal 2 => cases p <;> first | with_reducible rfl | exact absurd (hp (by decide)) hq
       on_goal 2 => exact State.store_of_tables rfl rfl rfl b
       on_goal 2 => first | exact id | (intro hs; simp only [State.shaped] at hs ⊢; simp_all)))

theorem State.conf_planParity {s0 s : State} {ps : List Part} {rs : Nat → Prop}  (h : Confined s0 ps rs s) (hp : [.sset, .bumped, .caused, .fixer, .mx] ⊆ ps) (hr : ∀ a ∈ [Reg.FIXER_FIXER_STATUS, Reg.FIXER_LASTING_COUNT, Reg.MX_MX_STATUS], rs a) : Confined s0 ps rs (State.planParity s) := by
  unfold State.planParity
  repeat' (first
    | with_reducible assumption
    | with_reducible exact sub_parts hp (by decide)
    | with_reducible exact sub_parts _hp (by decide)
    | with_reducible exact sub_regs hr (by decide)
    | with_reducible exact hr _ (by decide)
    | with_reducible apply State.conf_setFlag
    | with_reducible apply State.conf_raise
    | with_reducible apply State.conf_fixerReport
    | (extract_lets +onlyGivenNames x
       first
         | (refine conf_cut (s0 := s0) (ps := ps) (rs := rs) (s := x) ?_ (fun _ => ?_); (focus unfold x); on_goal 2 => clear_value x)
         | (unfold x; clear x)
         | clear_value x)
    | split
    | (with_reducible refine conf_src rfl ?_ (fun p hq => ?_) (fun b _ => ?_) ?_
       on_goal 2 => cases p <;> first | with_reducible rfl | exact absurd (hp (by decide)) hq
       on_goal 2 => exact State.store_of_tables rfl rfl rfl b
       on_goal 2 => first | exact id | (intro hs; simp only [State.shaped] at hs ⊢; simp_all)))

theorem State.conf_strapMx {s0 s : State} {ps : List Part} {rs : Nat → Prop}  (h : Confined s0 ps rs s) (hp : [.mx] ⊆ ps) (_hr : ∀ a ∈ ([] : List Nat), rs a) : Confined s0 ps rs (State.strapMx s) := by
  unfold State.strapMx
  repeat' (first
    | with_reducible assumption
    | with_reducible exact sub_parts hp (by decide)
    | with_reducible exact sub_parts _hp (by decide)
    | with_reducible exact sub_regs _hr (by decide)
    | (extract_lets +onlyGivenNames x
       first
         | (refine conf_cut (s0 := s0) (ps := ps) (rs := rs) (s := x) ?_ (fun _ => ?_); (focus unfold x); on_goal 2 => clear_value x)
         | (unfold x; clear x)
         | clear_value x)
    | (with_reducible refine conf_src rfl ?_ (fun p hq => ?_) (fun b _ => ?_) ?_
       on_goal 2 => cases p <;> first | with_reducible rfl | exact absurd (hp (by decide)) hq
       on_goal 2 => exact State.store_of_tables rfl rfl rfl b
       on_goal 2 => first | exact id | (intro hs; simp only [State.shaped] at hs ⊢; simp_all)))

end Sys2Proof.Machine
end

