-- ==== Sys2Proof/Laws/ConfPrint.lean ====
section
/-! SUPPORT. What every operation of Machine/Print.lean is confined to: the parts of the state and the registers it can change. -/

set_option linter.unusedTactic false
set_option linter.unreachableTactic false
set_option linter.unusedVariables false
set_option linter.tactic.unusedName false

namespace Sys2Proof.Machine

theorem State.conf_sampleDrives {s0 s : State} {ps : List Part} {rs : Nat → Prop} (a1 : Epoch32) (h : Confined s0 ps rs s) (hp : [.frame, .print] ⊆ ps) (_hr : ∀ a ∈ ([] : List Nat), rs a) : Confined s0 ps rs (State.sampleDrives s a1) := by
  unfold State.sampleDrives
  repeat' (first
    | with_reducible assumption
    | with_reducible exact sub_parts hp (by decide)
    | with_reducible exact sub_parts _hp (by decide)
    | with_reducible exact sub_regs _hr (by decide)
    | (extract_lets +onlyGivenNames x
       first
         | (refine conf_cut (s0 := s0) (ps := ps) (rs := rs) (s := x) ?_ (fun _ => ?_); (focus unfold x); on_goal 2 => clear_value x)
         | (unfold x; clear x)
         | clear_value x)
    | (with_reducible refine conf_src rfl ?_ (fun p hq => ?_) (fun b _ => ?_) ?_
       on_goal 2 => cases p <;> first | with_reducible rfl | exact absurd (hp (by decide)) hq
       on_goal 2 => exact State.store_of_tables rfl rfl rfl b
       on_goal 2 => first | exact id | (intro hs; simp only [State.shaped] at hs ⊢; simp_all)))

theorem State.conf_noteClip {s0 s : State} {ps : List Part} {rs : Nat → Prop} (a1 : Nat) (a2 : Bool) (h : Confined s0 ps rs s) (hp : [.sset, .bumped, .caused, .fixer, .print] ⊆ ps) (hr : ∀ a ∈ [Reg.PRINT_CLIP_COUNT, Reg.PRINT_PRINT_STATUS], rs a) : Confined s0 ps rs (State.noteClip s a1 a2) := by
  unfold State.noteClip
  repeat' (first
    | with_reducible assumption
    | with_reducible exact sub_parts hp (by decide)
    | with_reducible exact sub_parts _hp (by decide)
    | with_reducible exact sub_regs hr (by decide)
    | with_reducible exact hr _ (by decide)
    | with_reducible apply State.conf_modDrive
    | with_reducible apply State.conf_countSat
    | with_reducible apply State.conf_setFlag
    | with_reducible apply State.conf_raise
    | (extract_lets +onlyGivenNames x
       first
         | (refine conf_cut (s0 := s0) (ps := ps) (rs := rs) (s := x) ?_ (fun _ => ?_); (focus unfold x); on_goal 2 => clear_value x)
         | (unfold x; clear x)
         | clear_value x)
    | with_reducible apply conf_ite
    | split
    | (with_reducible refine conf_src rfl ?_ (fun p hq => ?_) (fun b _ => ?_) ?_
       on_goal 2 => cases p <;> first | with_reducible rfl | exact absurd (hp (by decide)) hq
       on_goal 2 => exact State.store_of_tables rfl rfl rfl b
       on_goal 2 => first | exact id | (intro hs; simp only [State.shaped] at hs ⊢; simp_all)))

theorem State.conf_endProof {s0 s : State} {ps : List Part} {rs : Nat → Prop} (h : Confined s0 ps rs s) (hp : [.print] ⊆ ps) (hr : ∀ a ∈ [Reg.PRINT_PROOF_CTL_A, Reg.PRINT_PROOF_CTL_B], rs a) :
    Confined s0 ps rs (State.endProof s) := by
  unfold State.endProof
  have h1 := State.conf_setPair Reg.PRINT_PROOF_CTL_A (setBits (s.reg Reg.PRINT_PROOF_CTL_A) 0 2 0) h (hr _ (by decide)) (hr _ (by decide))
  exact (conf_upd h1 (by intro p hq; cases p <;> first | rfl | exact absurd (hp (by decide)) hq) (fun b _ => State.store_of_tables rfl rfl rfl b) (by intro hs; first | exact hs | (simp only [State.shaped] at hs ⊢; simp_all)))

theorem State.conf_loopOff {s0 s : State} {ps : List Part} {rs : Nat → Prop} (a1 : Nat) (h : Confined s0 ps rs s) (hp : [.print] ⊆ ps) (hr : ∀ a ∈ [Reg.PRINT_PROOF_CTL_A, Reg.PRINT_PROOF_CTL_B], rs a) : Confined s0 ps rs (State.loopOff s a1) := by
  unfold State.loopOff
  repeat' (first
    | with_reducible assumption
    | with_reducible exact sub_parts hp (by decide)
    | with_reducible exact sub_parts _hp (by decide)
    | with_reducible exact sub_regs hr (by decide)
    | with_reducible exact hr _ (by decide)
    | with_reducible apply State.conf_endProof
    | (extract_lets +onlyGivenNames x
       first
         | (refine conf_cut (s0 := s0) (ps := ps) (rs := rs) (s := x) ?_ (fun _ => ?_); (focus unfold x); on_goal 2 => clear_value x)
         | (unfold x; clear x)
         | clear_value x)
    | with_reducible apply conf_ite
    | split
    | (with_reducible refine conf_src rfl ?_ (fun p hq => ?_) (fun b _ => ?_) ?_
       on_goal 2 => cases p <;> first | with_reducible rfl | exact absurd (hp (by decide)) hq
       on_goal 2 => exact State.store_of_tables rfl rfl rfl b
       on_goal 2 => first | exact id | (intro hs; simp only [State.shaped] at hs ⊢; simp_all)))

/-- A channel that enters any state but OFF ends no stage loop. -/
theorem State.conf_driveTo_on {s0 s : State} {ps : List Part} {rs : Nat → Prop} (n : Nat) (st : DriveState) (h : Confined s0 ps rs s) (hp : [.print, .stage] ⊆ ps) (_hr : ∀ a ∈ ([] : List Nat), rs a) (hs : st ≠ .off) :
    Confined s0 ps rs (State.driveTo s n st) := by
  unfold State.driveTo
  extract_lets was s1 s2
  have h1 : Confined s0 ps rs s1 := State.conf_modDrive _ _ h (sub_parts hp (by decide)) (sub_regs _hr (by decide))
  have h2 : Confined s0 ps rs s2 := by
    unfold s2
    rw [if_neg hs]
    exact h1
  clear_value s2
  exact conf_ite h2 (State.conf_noteShdn _ _ h2 (sub_parts hp (by decide)) (sub_regs _hr (by decide)))

theorem State.conf_driveTo {s0 s : State} {ps : List Part} {rs : Nat → Prop} (a1 : Nat) (a2 : DriveState) (h : Confined s0 ps rs s) (hp : [.print, .stage] ⊆ ps) (hr : ∀ a ∈ [Reg.PRINT_PROOF_CTL_A, Reg.PRINT_PROOF_CTL_B], rs a) : Confined s0 ps rs (State.driveTo s a1 a2) := by
  unfold State.driveTo
  repeat' (first
    | with_reducible assumption
    | with_reducible exact sub_parts hp (by decide)
    | with_reducible exact sub_parts _hp (by decide)
    | with_reducible exact sub_regs hr (by decide)
    | with_reducible exact hr _ (by decide)
    | with_reducible apply State.conf_modDrive
    | with_reducible apply State.conf_loopOff
    | with_reducible apply State.conf_noteShdn
    | (extract_lets +onlyGivenNames x
       first
         | (refine conf_cut (s0 := s0) (ps := ps) (rs := rs) (s := x) ?_ (fun _ => ?_); (focus unfold x); on_goal 2 => clear_value x)
         | (unfold x; clear x)
         | clear_value x)
    | with_reducible apply conf_ite
    | split
    | (with_reducible refine conf_src rfl ?_ (fun p hq => ?_) (fun b _ => ?_) ?_
       on_goal 2 => cases p <;> first | with_reducible rfl | exact absurd (hp (by decide)) hq
       on_goal 2 => exact State.store_of_tables rfl rfl rfl b
       on_goal 2 => first | exact id | (intro hs; simp only [State.shaped] at hs ⊢; simp_all)))

theorem State.conf_driveArm {s0 s : State} {ps : List Part} {rs : Nat → Prop} (a1 : Nat) (a2 : Bool) (h : Confined s0 ps rs s) (hp : [.print, .stage] ⊆ ps) (_hr : ∀ a ∈ ([] : List Nat), rs a) : Confined s0 ps rs (State.driveArm s a1 a2) := by
  unfold State.driveArm
  repeat' (first
    | with_reducible assumption
    | with_reducible exact sub_parts hp (by decide)
    | with_reducible exact sub_parts _hp (by decide)
    | with_reducible exact sub_regs _hr (by decide)
    | with_reducible refine State.conf_driveTo_on _ _ ?_ ?_ ?_ (by decide)
    | with_reducible apply State.conf_modDrive
    | (extract_lets +onlyGivenNames x
       first
         | (refine conf_cut (s0 := s0) (ps := ps) (rs := rs) (s := x) ?_ (fun _ => ?_); (focus unfold x); on_goal 2 => clear_value x)
         | (unfold x; clear x)
         | clear_value x)
    | (with_reducible refine conf_src rfl ?_ (fun p hq => ?_) (fun b _ => ?_) ?_
       on_goal 2 => cases p <;> first | with_reducible rfl | exact absurd (hp (by decide)) hq
       on_goal 2 => exact State.store_of_tables rfl rfl rfl b
       on_goal 2 => first | exact id | (intro hs; simp only [State.shaped] at hs ⊢; simp_all)))

theorem State.conf_driveMute {s0 s : State} {ps : List Part} {rs : Nat → Prop} (a1 : Nat) (h : Confined s0 ps rs s) (hp : [.print, .stage] ⊆ ps) (hr : ∀ a ∈ [Reg.PRINT_MUTE_COUNT], rs a) : Confined s0 ps rs (State.driveMute s a1) := by
  unfold State.driveMute
  repeat' (first
    | with_reducible assumption
    | with_reducible exact sub_parts hp (by decide)
    | with_reducible exact sub_parts _hp (by decide)
    | with_reducible exact sub_regs hr (by decide)
    | with_reducible exact hr _ (by decide)
    | with_reducible refine State.conf_driveTo_on _ _ ?_ ?_ ?_ (by decide)
    | with_reducible apply State.conf_modDrive
    | with_reducible apply State.conf_countSat
    | (extract_lets +onlyGivenNames x
       first
         | (refine conf_cut (s0 := s0) (ps := ps) (rs := rs) (s := x) ?_ (fun _ => ?_); (focus unfold x); on_goal 2 => clear_value x)
         | (unfold x; clear x)
         | clear_value x)
    | (with_reducible refine conf_src rfl ?_ (fun p hq => ?_) (fun b _ => ?_) ?_
       on_goal 2 => cases p <;> first | with_reducible rfl | exact absurd (hp (by decide)) hq
       on_goal 2 => exact State.store_of_tables rfl rfl rfl b
       on_goal 2 => first | exact id | (intro hs; simp only [State.shaped] at hs ⊢; simp_all)))

theorem State.conf_stopEntry {s0 s : State} {ps : List Part} {rs : Nat → Prop} (a1 : Nat) (h : Confined s0 ps rs s) (hp : [.fixer] ⊆ ps) (_hr : ∀ a ∈ ([] : List Nat), rs a) : Confined s0 ps rs (State.stopEntry s a1) := by
  unfold State.stopEntry
  repeat' (first
    | with_reducible assumption
    | with_reducible exact sub_parts hp (by decide)
    | with_reducible exact sub_parts _hp (by decide)
    | with_reducible exact sub_regs _hr (by decide)
    | with_reducible apply State.conf_raise
    | (extract_lets +onlyGivenNames x
       first
         | (refine conf_cut (s0 := s0) (ps := ps) (rs := rs) (s := x) ?_ (fun _ => ?_); (focus unfold x); on_goal 2 => clear_value x)
         | (unfold x; clear x)
         | clear_value x)
    | with_reducible apply conf_ite
    | split)

theorem State.conf_bathe {s0 s : State} {ps : List Part} {rs : Nat → Prop} (a1 : Nat) (a2 : Nat) (a3 : Bool) (a4 : Nat) (h : Confined s0 ps rs s) (hp : [.print, .stage] ⊆ ps) (_hr : ∀ a ∈ ([] : List Nat), rs a) : Confined s0 ps rs (State.bathe s a1 a2 a3 a4) := by
  unfold State.bathe
  repeat' (first
    | with_reducible assumption
    | with_reducible exact sub_parts hp (by decide)
    | with_reducible exact sub_parts _hp (by decide)
    | with_reducible exact sub_regs _hr (by decide)
    | with_reducible apply State.conf_modDrive
    | with_reducible refine State.conf_driveTo_on _ _ ?_ ?_ ?_ (by decide)
    | (extract_lets +onlyGivenNames x
       first
         | (refine conf_cut (s0 := s0) (ps := ps) (rs := rs) (s := x) ?_ (fun _ => ?_); (focus unfold x); on_goal 2 => clear_value x)
         | (unfold x; clear x)
         | clear_value x)
    | with_reducible apply conf_ite
    | split
    | (with_reducible refine conf_src rfl ?_ (fun p hq => ?_) (fun b _ => ?_) ?_
       on_goal 2 => cases p <;> first | with_reducible rfl | exact absurd (hp (by decide)) hq
       on_goal 2 => exact State.store_of_tables rfl rfl rfl b
       on_goal 2 => first | exact id | (intro hs; simp only [State.shaped] at hs ⊢; simp_all)))

theorem State.conf_stopNow {s0 s : State} {ps : List Part} {rs : Nat → Prop} (a1 : Nat) (a2 : Nat) (h : Confined s0 ps rs s) (hp : [.fixer, .print, .stage] ⊆ ps) (hr : ∀ a ∈ [Reg.PRINT_PROOF_CTL_A, Reg.PRINT_PROOF_CTL_B], rs a) : Confined s0 ps rs (State.stopNow s a1 a2) := by
  unfold State.stopNow
  repeat' (first
    | with_reducible assumption
    | with_reducible exact sub_parts hp (by decide)
    | with_reducible exact sub_parts _hp (by decide)
    | with_reducible exact sub_regs hr (by decide)
    | with_reducible exact hr _ (by decide)
    | with_reducible apply State.conf_stopEntry
    | with_reducible apply State.conf_driveTo
    | with_reducible apply State.conf_bathe
    | (extract_lets +onlyGivenNames x
       first
         | (refine conf_cut (s0 := s0) (ps := ps) (rs := rs) (s := x) ?_ (fun _ => ?_); (focus unfold x); on_goal 2 => clear_value x)
         | (unfold x; clear x)
         | clear_value x)
    | with_reducible apply conf_ite
    | split
    | (with_reducible refine conf_src rfl ?_ (fun p hq => ?_) (fun b _ => ?_) ?_
       on_goal 2 => cases p <;> first | with_reducible rfl | exact absurd (hp (by decide)) hq
       on_goal 2 => exact State.store_of_tables rfl rfl rfl b
       on_goal 2 => first | exact id | (intro hs; simp only [State.shaped] at hs ⊢; simp_all)))

theorem State.conf_beginRamp {s0 s : State} {ps : List Part} {rs : Nat → Prop} (a1 : Nat) (a2 : Nat) (a3 : Bool) (h : Confined s0 ps rs s) (hp : [.print, .stage] ⊆ ps) (_hr : ∀ a ∈ ([] : List Nat), rs a) : Confined s0 ps rs (State.beginRamp s a1 a2 a3) := by
  unfold State.beginRamp
  repeat' (first
    | with_reducible assumption
    | with_reducible exact sub_parts hp (by decide)
    | with_reducible exact sub_parts _hp (by decide)
    | with_reducible exact sub_regs _hr (by decide)
    | with_reducible refine State.conf_driveTo_on _ _ ?_ ?_ ?_ (by decide)
    | with_reducible apply State.conf_modDrive
    | (extract_lets +onlyGivenNames x
       first
         | (refine conf_cut (s0 := s0) (ps := ps) (rs := rs) (s := x) ?_ (fun _ => ?_); (focus unfold x); on_goal 2 => clear_value x)
         | (unfold x; clear x)
         | clear_value x)
    | with_reducible apply conf_ite
    | split
    | (with_reducible refine conf_src rfl ?_ (fun p hq => ?_) (fun b _ => ?_) ?_
       on_goal 2 => cases p <;> first | with_reducible rfl | exact absurd (hp (by decide)) hq
       on_goal 2 => exact State.store_of_tables rfl rfl rfl b
       on_goal 2 => first | exact id | (intro hs; simp only [State.shaped] at hs ⊢; simp_all)))

theorem State.conf_examineArm {s0 s : State} {ps : List Part} {rs : Nat → Prop} (a1 : Nat) (h : Confined s0 ps rs s) (hp : [.print, .stage] ⊆ ps) (_hr : ∀ a ∈ ([] : List Nat), rs a) : Confined s0 ps rs (State.examineArm s a1) := by
  unfold State.examineArm
  repeat' (first
    | with_reducible assumption
    | with_reducible exact sub_parts hp (by decide)
    | with_reducible exact sub_parts _hp (by decide)
    | with_reducible exact sub_regs _hr (by decide)
    | with_reducible apply State.conf_modDrive
    | with_reducible apply State.conf_beginRamp
    | (extract_lets +onlyGivenNames x
       first
         | (refine conf_cut (s0 := s0) (ps := ps) (rs := rs) (s := x) ?_ (fun _ => ?_); (focus unfold x); on_goal 2 => clear_value x)
         | (unfold x; clear x)
         | clear_value x)
    | with_reducible apply conf_ite
    | split
    | (with_reducible refine conf_src rfl ?_ (fun p hq => ?_) (fun b _ => ?_) ?_
       on_goal 2 => cases p <;> first | with_reducible rfl | exact absurd (hp (by decide)) hq
       on_goal 2 => exact State.store_of_tables rfl rfl rfl b
       on_goal 2 => first | exact id | (intro hs; simp only [State.shaped] at hs ⊢; simp_all)))

theorem State.conf_proofSample {s0 s : State} {ps : List Part} {rs : Nat → Prop} (a1 : Nat) (a2 : Nat × Word) (h : Confined s0 ps rs s) (hp : [.print] ⊆ ps) (_hr : ∀ a ∈ ([] : List Nat), rs a) : Confined s0 ps rs (State.proofSample s a1 a2).2 := by
  unfold State.proofSample
  repeat' (first
    | with_reducible assumption
    | with_reducible exact sub_parts hp (by decide)
    | with_reducible exact sub_parts _hp (by decide)
    | with_reducible exact sub_regs _hr (by decide)
    | with_reducible apply State.conf_modDrive
    | (extract_lets +onlyGivenNames x
       first
         | (refine conf_cut (s0 := s0) (ps := ps) (rs := rs) (s := x) ?_ (fun _ => ?_); (focus unfold x); on_goal 2 => clear_value x)
         | (unfold x; clear x)
         | clear_value x)
    | (with_reducible refine conf_src rfl ?_ (fun p hq => ?_) (fun b _ => ?_) ?_
       on_goal 2 => cases p <;> first | with_reducible rfl | exact absurd (hp (by decide)) hq
       on_goal 2 => exact State.store_of_tables rfl rfl rfl b
       on_goal 2 => first | exact id | (intro hs; simp only [State.shaped] at hs ⊢; simp_all)))

theorem State.conf_proofSample_eq {s0 s t : State} {ps : List Part} {rs : Nat → Prop} (a1 : Nat) (a2 : Nat × Word) {x : Sample} (e : State.proofSample s a1 a2 = (x, t)) (h : Confined s0 ps rs s) (hp : [.print] ⊆ ps) (_hr : ∀ a ∈ ([] : List Nat), rs a) : Confined s0 ps rs t := by
  have := State.conf_proofSample a1 a2 h hp _hr
  rwa [e] at this

theorem State.conf_driveRead {s0 s : State} {ps : List Part} {rs : Nat → Prop} (a1 : Nat) (a2 : Epoch32) (h : Confined s0 ps rs s) (hp : [.sset, .bumped, .caused, .fixer, .print] ⊆ ps) (hr : ∀ a ∈ [Reg.PRINT_CLIP_COUNT, Reg.PRINT_PRINT_STATUS], rs a) : Confined s0 ps rs (State.driveRead s a1 a2).1 := by
  unfold State.driveRead
  repeat' (first
    | with_reducible assumption
    | with_reducible exact sub_parts hp (by decide)
    | with_reducible exact sub_parts _hp (by decide)
    | with_reducible exact sub_regs hr (by decide)
    | with_reducible exact hr _ (by decide)
    | with_reducible apply State.conf_proofSample
    | with_reducible refine State.conf_proofSample_eq (by with_reducible assumption) ?_ ?_ ?_
    | with_reducible apply State.conf_modDrive
    | with_reducible apply State.conf_noteClip
    | (extract_lets +onlyGivenNames x
       first
         | (refine conf_cut (s0 := s0) (ps := ps) (rs := rs) (s := x) ?_ (fun _ => ?_); (focus unfold x); on_goal 2 => clear_value x)
         | (unfold x; clear x)
         | clear_value x)
    | with_reducible apply conf_ite
    | split
    | (with_reducible refine conf_src rfl ?_ (fun p hq => ?_) (fun b _ => ?_) ?_
       on_goal 2 => cases p <;> first | with_reducible rfl | exact absurd (hp (by decide)) hq
       on_goal 2 => exact State.store_of_tables rfl rfl rfl b
       on_goal 2 => first | exact id | (intro hs; simp only [State.shaped] at hs ⊢; simp_all)))

theorem State.conf_driveRead_eq {s0 s t : State} {ps : List Part} {rs : Nat → Prop} (a1 : Nat) (a2 : Epoch32) {x : Read} (e : State.driveRead s a1 a2 = (t, x)) (h : Confined s0 ps rs s) (hp : [.sset, .bumped, .caused, .fixer, .print] ⊆ ps) (hr : ∀ a ∈ [Reg.PRINT_CLIP_COUNT, Reg.PRINT_PRINT_STATUS], rs a) : Confined s0 ps rs t := by
  have := State.conf_driveRead a1 a2 h hp hr
  rwa [e] at this

theorem State.conf_driveParity {s0 s : State} {ps : List Part} {rs : Nat → Prop} (a1 : Nat) (a2 : ReadIn) (h : Confined s0 ps rs s) (hp : [.sset, .bumped, .caused, .fixer, .print, .stage] ⊆ ps) (hr : ∀ a ∈ [Reg.FIXER_FIXER_STATUS, Reg.FIXER_LASTING_COUNT, Reg.PRINT_PRINT_STATUS, Reg.PRINT_PROOF_CTL_A, Reg.PRINT_PROOF_CTL_B], rs a) : Confined s0 ps rs (State.driveParity s a1 a2) := by
  unfold State.driveParity
  repeat' (first
    | with_reducible assumption
    | with_reducible exact sub_parts hp (by decide)
    | with_reducible exact sub_parts _hp (by decide)
    | with_reducible exact sub_regs hr (by decide)
    | with_reducible exact hr _ (by decide)
    | with_reducible apply State.conf_modDrive
    | with_reducible apply State.conf_endProof
    | with_reducible apply State.conf_setFlag
    | with_reducible apply State.conf_raise
    | with_reducible apply State.conf_fixerReport
    | with_reducible apply State.conf_stopNow
    | (extract_lets +onlyGivenNames x
       first
         | (refine conf_cut (s0 := s0) (ps := ps) (rs := rs) (s := x) ?_ (fun _ => ?_); (focus unfold x); on_goal 2 => clear_value x)
         | (unfold x; clear x)
         | clear_value x)
    | with_reducible apply conf_ite
    | split
    | (with_reducible refine conf_src rfl ?_ (fun p hq => ?_) (fun b _ => ?_) ?_
       on_goal 2 => cases p <;> first | with_reducible rfl | exact absurd (hp (by decide)) hq
       on_goal 2 => exact State.store_of_tables rfl rfl rfl b
       on_goal 2 => first | exact id | (intro hs; simp only [State.shaped] at hs ⊢; simp_all)))

theorem State.conf_stopHeld {s0 s : State} {ps : List Part} {rs : Nat → Prop}  (h : Confined s0 ps rs s) (hp : [.fixer, .print, .stage] ⊆ ps) (hr : ∀ a ∈ [Reg.PRINT_PROOF_CTL_A, Reg.PRINT_PROOF_CTL_B], rs a) : Confined s0 ps rs (State.stopHeld s) := by
  unfold State.stopHeld
  repeat' (first
    | with_reducible assumption
    | with_reducible exact sub_parts hp (by decide)
    | with_reducible exact sub_parts _hp (by decide)
    | with_reducible exact sub_regs hr (by decide)
    | with_reducible exact hr _ (by decide)
    | intro _ _ _
    | with_reducible apply State.conf_modDrive
    | with_reducible apply State.conf_stopNow
    | (extract_lets +onlyGivenNames x
       first
         | (refine conf_cut (s0 := s0) (ps := ps) (rs := rs) (s := x) ?_ (fun _ => ?_); (focus unfold x); on_goal 2 => clear_value x)
         | (unfold x; clear x)
         | clear_value x)
    | with_reducible apply conf_ite
    | with_reducible apply conf_foldl
    | split
    | (with_reducible refine conf_src rfl ?_ (fun p hq => ?_) (fun b _ => ?_) ?_
       on_goal 2 => cases p <;> first | with_reducible rfl | exact absurd (hp (by decide)) hq
       on_goal 2 => exact State.store_of_tables rfl rfl rfl b
       on_goal 2 => first | exact id | (intro hs; simp only [State.shaped] at hs ⊢; simp_all)))

theorem State.conf_driveFault {s0 s : State} {ps : List Part} {rs : Nat → Prop} (a1 : Nat) (h : Confined s0 ps rs s) (hp : [.fixer, .print, .stage] ⊆ ps) (hr : ∀ a ∈ [Reg.PRINT_PROOF_CTL_A, Reg.PRINT_PROOF_CTL_B], rs a) : Confined s0 ps rs (State.driveFault s a1) := by
  unfold State.driveFault
  repeat' (first
    | with_reducible assumption
    | with_reducible exact sub_parts hp (by decide)
    | with_reducible exact sub_parts _hp (by decide)
    | with_reducible exact sub_regs hr (by decide)
    | with_reducible exact hr _ (by decide)
    | with_reducible apply State.conf_modStage
    | with_reducible apply State.conf_stopNow
    | (extract_lets +onlyGivenNames x
       first
         | (refine conf_cut (s0 := s0) (ps := ps) (rs := rs) (s := x) ?_ (fun _ => ?_); (focus unfold x); on_goal 2 => clear_value x)
         | (unfold x; clear x)
         | clear_value x)
    | with_reducible apply conf_ite
    | split
    | (with_reducible refine conf_src rfl ?_ (fun p hq => ?_) (fun b _ => ?_) ?_
       on_goal 2 => cases p <;> first | with_reducible rfl | exact absurd (hp (by decide)) hq
       on_goal 2 => exact State.store_of_tables rfl rfl rfl b
       on_goal 2 => first | exact id | (intro hs; simp only [State.shaped] at hs ⊢; simp_all)))

theorem State.conf_driveEdgeWait {s0 s : State} {ps : List Part} {rs : Nat → Prop} (a1 : Nat) (a2 : Bool) (h : Confined s0 ps rs s) (hp : [.print] ⊆ ps) (_hr : ∀ a ∈ ([] : List Nat), rs a) : Confined s0 ps rs (State.driveEdgeWait s a1 a2) := by
  unfold State.driveEdgeWait
  repeat' (first
    | with_reducible assumption
    | with_reducible exact sub_parts hp (by decide)
    | with_reducible exact sub_parts _hp (by decide)
    | with_reducible exact sub_regs _hr (by decide)
    | with_reducible apply State.conf_modDrive
    | (extract_lets +onlyGivenNames x
       first
         | (refine conf_cut (s0 := s0) (ps := ps) (rs := rs) (s := x) ?_ (fun _ => ?_); (focus unfold x); on_goal 2 => clear_value x)
         | (unfold x; clear x)
         | clear_value x)
    | with_reducible apply conf_ite
    | split
    | (with_reducible refine conf_src rfl ?_ (fun p hq => ?_) (fun b _ => ?_) ?_
       on_goal 2 => cases p <;> first | with_reducible rfl | exact absurd (hp (by decide)) hq
       on_goal 2 => exact State.store_of_tables rfl rfl rfl b
       on_goal 2 => first | exact id | (intro hs; simp only [State.shaped] at hs ⊢; simp_all)))

theorem State.conf_driveRequest {s0 s : State} {ps : List Part} {rs : Nat → Prop} (a1 : Nat) (a2 : Bool) (h : Confined s0 ps rs s) (hp : [.fixer, .print, .stage] ⊆ ps) (hr : ∀ a ∈ [Reg.PRINT_PROOF_CTL_A, Reg.PRINT_PROOF_CTL_B], rs a) : Confined s0 ps rs (State.driveRequest s a1 a2) := by
  unfold State.driveRequest
  repeat' (first
    | with_reducible assumption
    | with_reducible exact sub_parts hp (by decide)
    | with_reducible exact sub_parts _hp (by decide)
    | with_reducible exact sub_regs hr (by decide)
    | with_reducible exact hr _ (by decide)
    | with_reducible refine State.conf_driveTo_on _ _ ?_ ?_ ?_ (by decide)
    | with_reducible apply State.conf_modDrive
    | with_reducible apply State.conf_stopEntry
    | with_reducible apply State.conf_driveTo
    | with_reducible apply State.conf_bathe
    | (extract_lets +onlyGivenNames x
       first
         | (refine conf_cut (s0 := s0) (ps := ps) (rs := rs) (s := x) ?_ (fun _ => ?_); (focus unfold x); on_goal 2 => clear_value x)
         | (unfold x; clear x)
         | clear_value x)
    | with_reducible apply conf_ite
    | split
    | (with_reducible refine conf_src rfl ?_ (fun p hq => ?_) (fun b _ => ?_) ?_
       on_goal 2 => cases p <;> first | with_reducible rfl | exact absurd (hp (by decide)) hq
       on_goal 2 => exact State.store_of_tables rfl rfl rfl b
       on_goal 2 => first | exact id | (intro hs; simp only [State.shaped] at hs ⊢; simp_all)))

theorem State.conf_nonAudioEntries {s0 s : State} {ps : List Part} {rs : Nat → Prop} (a1 : Nat) (a2 : Bool) (a3 : Bool) (a4 : Epoch32) (a5 : Nat) (h : Confined s0 ps rs s) (hp : [.sset, .bumped, .caused, .fixer, .print] ⊆ ps) (hr : ∀ a ∈ [Reg.PRINT_PRINT_STATUS], rs a) : Confined s0 ps rs (State.nonAudioEntries s a1 a2 a3 a4 a5) := by
  unfold State.nonAudioEntries
  repeat' (first
    | with_reducible assumption
    | with_reducible exact sub_parts hp (by decide)
    | with_reducible exact sub_parts _hp (by decide)
    | with_reducible exact sub_regs hr (by decide)
    | with_reducible exact hr _ (by decide)
    | with_reducible apply State.conf_modDrive
    | with_reducible apply State.conf_setFlag
    | with_reducible apply State.conf_raise
    | (extract_lets +onlyGivenNames x
       first
         | (refine conf_cut (s0 := s0) (ps := ps) (rs := rs) (s := x) ?_ (fun _ => ?_); (focus unfold x); on_goal 2 => clear_value x)
         | (unfold x; clear x)
         | clear_value x)
    | with_reducible apply conf_ite
    | split
    | (with_reducible refine conf_src rfl ?_ (fun p hq => ?_) (fun b _ => ?_) ?_
       on_goal 2 => cases p <;> first | with_reducible rfl | exact absurd (hp (by decide)) hq
       on_goal 2 => exact State.store_of_tables rfl rfl rfl b
       on_goal 2 => first | exact id | (intro hs; simp only [State.shaped] at hs ⊢; simp_all)))

theorem State.conf_nonAudioSound {s0 s : State} {ps : List Part} {rs : Nat → Prop} (a1 : Nat) (a2 : Bool) (a3 : Bool) (a4 : Epoch32) (a5 : Nat) (h : Confined s0 ps rs s) (hp : [.sset, .bumped, .caused, .fixer, .print, .stage] ⊆ ps) (hr : ∀ a ∈ [Reg.PRINT_PRINT_STATUS], rs a) : Confined s0 ps rs (State.nonAudioSound s a1 a2 a3 a4 a5) := by
  unfold State.nonAudioSound
  repeat' (first
    | with_reducible assumption
    | with_reducible exact sub_parts hp (by decide)
    | with_reducible exact sub_parts _hp (by decide)
    | with_reducible exact sub_regs hr (by decide)
    | with_reducible exact hr _ (by decide)
    | with_reducible apply State.conf_bathe
    | with_reducible apply State.conf_nonAudioEntries
    | (extract_lets +onlyGivenNames x
       first
         | (refine conf_cut (s0 := s0) (ps := ps) (rs := rs) (s := x) ?_ (fun _ => ?_); (focus unfold x); on_goal 2 => clear_value x)
         | (unfold x; clear x)
         | clear_value x)
    | with_reducible apply conf_ite
    | split
    | (with_reducible refine conf_src rfl ?_ (fun p hq => ?_) (fun b _ => ?_) ?_
       on_goal 2 => cases p <;> first | with_reducible rfl | exact absurd (hp (by decide)) hq
       on_goal 2 => exact State.store_of_tables rfl rfl rfl b
       on_goal 2 => first | exact id | (intro hs; simp only [State.shaped] at hs ⊢; simp_all)))

theorem State.conf_driveMissing {s0 s : State} {ps : List Part} {rs : Nat → Prop} (a1 : Nat) (a2 : Epoch32) (a3 : Bool) (h : Confined s0 ps rs s) (hp : [.sset, .bumped, .caused, .fixer, .print, .stage] ⊆ ps) (hr : ∀ a ∈ [Reg.PRINT_PRINT_STATUS], rs a) : Confined s0 ps rs (State.driveMissing s a1 a2 a3) := by
  unfold State.driveMissing
  repeat' (first
    | with_reducible assumption
    | with_reducible exact sub_parts hp (by decide)
    | with_reducible exact sub_parts _hp (by decide)
    | with_reducible exact sub_regs hr (by decide)
    | with_reducible exact hr _ (by decide)
    | with_reducible apply State.conf_modDrive
    | with_reducible apply State.conf_bathe
    | with_reducible apply State.conf_setFlag
    | with_reducible apply State.conf_raise
    | (extract_lets +onlyGivenNames x
       first
         | (refine conf_cut (s0 := s0) (ps := ps) (rs := rs) (s := x) ?_ (fun _ => ?_); (focus unfold x); on_goal 2 => clear_value x)
         | (unfold x; clear x)
         | clear_value x)
    | with_reducible apply conf_ite
    | split
    | (with_reducible refine conf_src rfl ?_ (fun p hq => ?_) (fun b _ => ?_) ?_
       on_goal 2 => cases p <;> first | with_reducible rfl | exact absurd (hp (by decide)) hq
       on_goal 2 => exact State.store_of_tables rfl rfl rfl b
       on_goal 2 => first | exact id | (intro hs; simp only [State.shaped] at hs ⊢; simp_all)))

theorem State.conf_dropCauses {s0 s : State} {ps : List Part} {rs : Nat → Prop} (a1 : Nat) (h : Confined s0 ps rs s) (hp : [.print] ⊆ ps) (_hr : ∀ a ∈ ([] : List Nat), rs a) : Confined s0 ps rs (State.dropCauses s a1) := by
  unfold State.dropCauses
  repeat' (first
    | with_reducible assumption
    | with_reducible exact sub_parts hp (by decide)
    | with_reducible exact sub_parts _hp (by decide)
    | with_reducible exact sub_regs _hr (by decide)
    | with_reducible apply State.conf_modDrive
    | (extract_lets +onlyGivenNames x
       first
         | (refine conf_cut (s0 := s0) (ps := ps) (rs := rs) (s := x) ?_ (fun _ => ?_); (focus unfold x); on_goal 2 => clear_value x)
         | (unfold x; clear x)
         | clear_value x)
    | with_reducible apply conf_ite
    | split
    | (with_reducible refine conf_src rfl ?_ (fun p hq => ?_) (fun b _ => ?_) ?_
       on_goal 2 => cases p <;> first | with_reducible rfl | exact absurd (hp (by decide)) hq
       on_goal 2 => exact State.store_of_tables rfl rfl rfl b
       on_goal 2 => first | exact id | (intro hs; simp only [State.shaped] at hs ⊢; simp_all)))

theorem State.conf_driveMuted {s0 s : State} {ps : List Part} {rs : Nat → Prop} (a1 : Nat) (a2 : Read) (h : Confined s0 ps rs s) (hp : [.print] ⊆ ps) (_hr : ∀ a ∈ ([] : List Nat), rs a) : Confined s0 ps rs (State.driveMuted s a1 a2) := by
  unfold State.driveMuted
  repeat' (first
    | with_reducible assumption
    | with_reducible exact sub_parts hp (by decide)
    | with_reducible exact sub_parts _hp (by decide)
    | with_reducible exact sub_regs _hr (by decide)
    | with_reducible apply State.conf_modDrive
    | with_reducible apply State.conf_dropCauses
    | (extract_lets +onlyGivenNames x
       first
         | (refine conf_cut (s0 := s0) (ps := ps) (rs := rs) (s := x) ?_ (fun _ => ?_); (focus unfold x); on_goal 2 => clear_value x)
         | (unfold x; clear x)
         | clear_value x)
    | with_reducible apply conf_ite
    | split
    | (with_reducible refine conf_src rfl ?_ (fun p hq => ?_) (fun b _ => ?_) ?_
       on_goal 2 => cases p <;> first | with_reducible rfl | exact absurd (hp (by decide)) hq
       on_goal 2 => exact State.store_of_tables rfl rfl rfl b
       on_goal 2 => first | exact id | (intro hs; simp only [State.shaped] at hs ⊢; simp_all)))

theorem State.conf_driveOutput {s0 s : State} {ps : List Part} {rs : Nat → Prop} (a1 : Nat) (a2 : Read) (h : Confined s0 ps rs s) (hp : [.print, .stage] ⊆ ps) (hr : ∀ a ∈ [Reg.PRINT_PROOF_CTL_A, Reg.PRINT_PROOF_CTL_B], rs a) : Confined s0 ps rs (State.driveOutput s a1 a2) := by
  unfold State.driveOutput
  repeat' (first
    | with_reducible assumption
    | with_reducible exact sub_parts hp (by decide)
    | with_reducible exact sub_parts _hp (by decide)
    | with_reducible exact sub_regs hr (by decide)
    | with_reducible exact hr _ (by decide)
    | with_reducible apply State.conf_modDrive
    | with_reducible apply State.conf_examineArm
    | with_reducible apply State.conf_bathe
    | with_reducible apply State.conf_driveTo
    | (extract_lets +onlyGivenNames x
       first
         | (refine conf_cut (s0 := s0) (ps := ps) (rs := rs) (s := x) ?_ (fun _ => ?_); (focus unfold x); on_goal 2 => clear_value x)
         | (unfold x; clear x)
         | clear_value x)
    | with_reducible apply conf_ite
    | split
    | (with_reducible refine conf_src rfl ?_ (fun p hq => ?_) (fun b _ => ?_) ?_
       on_goal 2 => cases p <;> first | with_reducible rfl | exact absurd (hp (by decide)) hq
       on_goal 2 => exact State.store_of_tables rfl rfl rfl b
       on_goal 2 => first | exact id | (intro hs; simp only [State.shaped] at hs ⊢; simp_all)))

theorem State.conf_interpolate {s0 s : State} {ps : List Part} {rs : Nat → Prop} (a1 : Nat) (a2 : Word) (a3 : Option Int) (h : Confined s0 ps rs s) (hp : [.print] ⊆ ps) (_hr : ∀ a ∈ ([] : List Nat), rs a) : Confined s0 ps rs (State.interpolate s a1 a2 a3) := by
  unfold State.interpolate
  repeat' (first
    | with_reducible assumption
    | with_reducible exact sub_parts hp (by decide)
    | with_reducible exact sub_parts _hp (by decide)
    | with_reducible exact sub_regs _hr (by decide)
    | with_reducible apply State.conf_modDrive
    | (extract_lets +onlyGivenNames x
       first
         | (refine conf_cut (s0 := s0) (ps := ps) (rs := rs) (s := x) ?_ (fun _ => ?_); (focus unfold x); on_goal 2 => clear_value x)
         | (unfold x; clear x)
         | clear_value x)
    | with_reducible apply conf_ite
    | split
    | (with_reducible refine conf_src rfl ?_ (fun p hq => ?_) (fun b _ => ?_) ?_
       on_goal 2 => cases p <;> first | with_reducible rfl | exact absurd (hp (by decide)) hq
       on_goal 2 => exact State.store_of_tables rfl rfl rfl b
       on_goal 2 => first | exact id | (intro hs; simp only [State.shaped] at hs ⊢; simp_all)))

theorem State.conf_sendOut {s0 s : State} {ps : List Part} {rs : Nat → Prop} (a1 : Nat) (a2 : Word) (a3 : Option Int) (h : Confined s0 ps rs s) (hp : [.print, .stage] ⊆ ps) (_hr : ∀ a ∈ ([] : List Nat), rs a) : Confined s0 ps rs (State.sendOut s a1 a2 a3) := by
  unfold State.sendOut
  repeat' (first
    | with_reducible assumption
    | with_reducible exact sub_parts hp (by decide)
    | with_reducible exact sub_parts _hp (by decide)
    | with_reducible exact sub_regs _hr (by decide)
    | with_reducible apply State.conf_modStage
    | with_reducible apply State.conf_interpolate
    | (extract_lets +onlyGivenNames x
       first
         | (refine conf_cut (s0 := s0) (ps := ps) (rs := rs) (s := x) ?_ (fun _ => ?_); (focus unfold x); on_goal 2 => clear_value x)
         | (unfold x; clear x)
         | clear_value x)
    | with_reducible apply conf_ite
    | split
    | (with_reducible refine conf_src rfl ?_ (fun p hq => ?_) (fun b _ => ?_) ?_
       on_goal 2 => cases p <;> first | with_reducible rfl | exact absurd (hp (by decide)) hq
       on_goal 2 => exact State.store_of_tables rfl rfl rfl b
       on_goal 2 => first | exact id | (intro hs; simp only [State.shaped] at hs ⊢; simp_all)))

theorem State.conf_readAt {s0 s : State} {ps : List Part} {rs : Nat → Prop} (n : Nat) (i : ReadIn) (e : Epoch32) (h : Confined s0 ps rs s) (hp : [.sset, .bumped, .caused, .fixer, .print, .stage, .free] ⊆ ps) (hr : ∀ a ∈ [Reg.FIXER_FIXER_STATUS, Reg.FIXER_LASTING_COUNT, Reg.PRINT_CLIP_COUNT, Reg.PRINT_MUTE_COUNT, Reg.PRINT_PRINT_STATUS, Reg.PRINT_PROOF_CTL_A, Reg.PRINT_PROOF_CTL_B], rs a) :
    Confined s0 ps rs (State.readAt s n i e) := by
  unfold State.readAt
  split
  rename_i s r e'
  have h1 : Confined s0 ps rs s := State.conf_driveRead_eq _ _ e' h (sub_parts hp (by decide)) (sub_regs hr (by decide))
  clear e'
  extract_lets s1 s2 st sounds cls pre c s3 s4 s5 s6 s7
  have h2 : Confined s0 ps rs s1 :=
    State.conf_driveEdgeWait _ _ (State.conf_driveFault _ (State.conf_driveParity _ _ h1 (sub_parts hp (by decide)) (sub_regs hr (by decide))) (sub_parts hp (by decide)) (sub_regs hr (by decide))) (sub_parts hp (by decide)) (sub_regs hr (by decide))
  clear_value s1
  have h3 : Confined s0 ps rs s2 := State.conf_driveRequest _ _ h2 (sub_parts hp (by decide)) (sub_regs hr (by decide))
  clear_value s2
  have h4 : Confined s0 ps rs s3 := State.conf_nonAudioEntries _ _ _ _ _ h3 (sub_parts hp (by decide)) (sub_regs hr (by decide))
  clear_value s3
  have h5 : Confined s0 ps rs s4 := by
    unfold s4
    with_reducible apply conf_ite
    · with_reducible apply conf_ite
      · exact State.conf_nonAudioSound _ _ _ _ _ h3 (sub_parts hp (by decide)) (sub_regs hr (by decide))
      · split
        · exact State.conf_driveMissing _ _ _ h3 (sub_parts hp (by decide)) (sub_regs hr (by decide))
        · exact State.conf_modDrive _ _ h3 (sub_parts hp (by decide)) (sub_regs hr (by decide))
    · with_reducible apply conf_ite
      · with_reducible apply conf_ite
        · with_reducible apply conf_ite
          · exact State.conf_modDrive _ _ h4 (sub_parts hp (by decide)) (sub_regs hr (by decide))
          · exact State.conf_driveMute _ h4 (sub_parts hp (by decide)) (sub_regs hr (by decide))
        · exact h3
      · exact h3
  clear_value s4
  have h6 : Confined s0 ps rs s5 := conf_ite (State.conf_driveMuted _ _ h5 (sub_parts hp (by decide)) (sub_regs hr (by decide))) h5
  clear_value s5
  have h7 : Confined s0 ps rs s6 := State.conf_verifyTap _ _ (State.conf_driveOutput _ _ h6 (sub_parts hp (by decide)) (sub_regs hr (by decide))) (sub_parts hp (by decide)) (sub_regs hr (by decide))
  clear_value s6
  have h8 : Confined s0 ps rs s7 := conf_ite h7 (State.conf_modStage _ _ h7 (sub_parts hp (by decide)) (sub_regs hr (by decide)))
  clear_value s7
  exact State.conf_sendOut _ _ _ h8 (sub_parts hp (by decide)) (sub_regs hr (by decide))

theorem State.conf_readInstant {s0 s : State} {ps : List Part} {rs : Nat → Prop} (a1 : Nat) (a2 : ReadIn) (h : Confined s0 ps rs s) (hp : [.sset, .bumped, .caused, .fixer, .print, .stage, .free] ⊆ ps) (hr : ∀ a ∈ [Reg.FIXER_FIXER_STATUS, Reg.FIXER_LASTING_COUNT, Reg.PRINT_CLIP_COUNT, Reg.PRINT_MUTE_COUNT, Reg.PRINT_PRINT_STATUS, Reg.PRINT_PROOF_CTL_A, Reg.PRINT_PROOF_CTL_B], rs a) : Confined s0 ps rs (State.readInstant s a1 a2) := by
  unfold State.readInstant
  repeat' (first
    | with_reducible assumption
    | with_reducible exact sub_parts hp (by decide)
    | with_reducible exact sub_parts _hp (by decide)
    | with_reducible exact sub_regs hr (by decide)
    | with_reducible exact hr _ (by decide)
    | with_reducible apply State.conf_readAt
    | (extract_lets +onlyGivenNames x
       first
         | (refine conf_cut (s0 := s0) (ps := ps) (rs := rs) (s := x) ?_ (fun _ => ?_); (focus unfold x); on_goal 2 => clear_value x)
         | (unfold x; clear x)
         | clear_value x)
    | split
    | (with_reducible refine conf_src rfl ?_ (fun p hq => ?_) (fun b _ => ?_) ?_
       on_goal 2 => cases p <;> first | with_reducible rfl | exact absurd (hp (by decide)) hq
       on_goal 2 => exact State.store_of_tables rfl rfl rfl b
       on_goal 2 => first | exact id | (intro hs; simp only [State.shaped] at hs ⊢; simp_all)))

theorem State.conf_wakeEnd {s0 s : State} {ps : List Part} {rs : Nat → Prop} (a1 : Nat) (h : Confined s0 ps rs s) (hp : [.print, .stage] ⊆ ps) (_hr : ∀ a ∈ ([] : List Nat), rs a) : Confined s0 ps rs (State.wakeEnd s a1) := by
  unfold State.wakeEnd
  repeat' (first
    | with_reducible assumption
    | with_reducible exact sub_parts hp (by decide)
    | with_reducible exact sub_parts _hp (by decide)
    | with_reducible exact sub_regs _hr (by decide)
    | with_reducible apply State.conf_driveArm
    | with_reducible apply State.conf_modDrive
    | (extract_lets +onlyGivenNames x
       first
         | (refine conf_cut (s0 := s0) (ps := ps) (rs := rs) (s := x) ?_ (fun _ => ?_); (focus unfold x); on_goal 2 => clear_value x)
         | (unfold x; clear x)
         | clear_value x)
    | (with_reducible refine conf_src rfl ?_ (fun p hq => ?_) (fun b _ => ?_) ?_
       on_goal 2 => cases p <;> first | with_reducible rfl | exact absurd (hp (by decide)) hq
       on_goal 2 => exact State.store_of_tables rfl rfl rfl b
       on_goal 2 => first | exact id | (intro hs; simp only [State.shaped] at hs ⊢; simp_all)))

theorem State.conf_zcTimeout {s0 s : State} {ps : List Part} {rs : Nat → Prop} (a1 : Nat) (h : Confined s0 ps rs s) (hp : [.sset, .bumped, .caused, .print, .stage] ⊆ ps) (hr : ∀ a ∈ [Reg.PRINT_PRINT_STATUS, Reg.PRINT_ZC_TIMEOUTS], rs a) : Confined s0 ps rs (State.zcTimeout s a1) := by
  unfold State.zcTimeout
  repeat' (first
    | with_reducible assumption
    | with_reducible exact sub_parts hp (by decide)
    | with_reducible exact sub_parts _hp (by decide)
    | with_reducible exact sub_regs hr (by decide)
    | with_reducible exact hr _ (by decide)
    | with_reducible apply State.conf_countSat
    | with_reducible apply State.conf_setFlag
    | with_reducible apply State.conf_beginRamp
    | with_reducible apply State.conf_bathe
    | (extract_lets +onlyGivenNames x
       first
         | (refine conf_cut (s0 := s0) (ps := ps) (rs := rs) (s := x) ?_ (fun _ => ?_); (focus unfold x); on_goal 2 => clear_value x)
         | (unfold x; clear x)
         | clear_value x)
    | with_reducible apply conf_ite
    | split)

theorem State.conf_rampEnd {s0 s : State} {ps : List Part} {rs : Nat → Prop} (n : Nat) (h : Confined s0 ps rs s) (hp : [.fixer, .print, .stage] ⊆ ps) (hr : ∀ a ∈ [Reg.PRINT_START_COUNT], rs a) :
    Confined s0 ps rs (State.rampEnd s n) := by
  unfold State.rampEnd
  extract_lets d s1 pr s2
  have h1 : Confined s0 ps rs s1 := State.conf_countWrap _ (State.conf_driveTo_on _ _ h (sub_parts hp (by decide)) (sub_regs hr (by decide)) (by decide)) (hr _ (by decide))
  clear_value s1
  have h2 : Confined s0 ps rs s2 := by
    unfold s2
    split
    · with_reducible apply conf_ite
      · exact (conf_upd h1 (by intro p hq; cases p <;> first | rfl | exact absurd (hp (by decide)) hq) (fun b _ => State.store_of_tables rfl rfl rfl b) (by intro hs; first | exact hs | (simp only [State.shaped] at hs ⊢; simp_all)))
      · exact h1
    · exact h1
  clear_value s2
  exact conf_ite (State.conf_raise _ _ _ _ h2 (sub_parts hp (by decide)) (sub_regs hr (by decide))) (State.conf_raise _ _ _ _ h2 (sub_parts hp (by decide)) (sub_regs hr (by decide)))

theorem State.conf_bathEnd {s0 s : State} {ps : List Part} {rs : Nat → Prop} (a1 : Nat) (h : Confined s0 ps rs s) (hp : [.print, .stage] ⊆ ps) (hr : ∀ a ∈ [Reg.PRINT_MUTE_COUNT], rs a) : Confined s0 ps rs (State.bathEnd s a1) := by
  unfold State.bathEnd
  repeat' (first
    | with_reducible assumption
    | with_reducible exact sub_parts hp (by decide)
    | with_reducible exact sub_parts _hp (by decide)
    | with_reducible exact sub_regs hr (by decide)
    | with_reducible exact hr _ (by decide)
    | with_reducible apply State.conf_driveMute
    | with_reducible apply State.conf_driveArm
    | with_reducible apply State.conf_modDrive
    | (extract_lets +onlyGivenNames x
       first
         | (refine conf_cut (s0 := s0) (ps := ps) (rs := rs) (s := x) ?_ (fun _ => ?_); (focus unfold x); on_goal 2 => clear_value x)
         | (unfold x; clear x)
         | clear_value x)
    | with_reducible apply conf_ite
    | split
    | (with_reducible refine conf_src rfl ?_ (fun p hq => ?_) (fun b _ => ?_) ?_
       on_goal 2 => cases p <;> first | with_reducible rfl | exact absurd (hp (by decide)) hq
       on_goal 2 => exact State.store_of_tables rfl rfl rfl b
       on_goal 2 => first | exact id | (intro hs; simp only [State.shaped] at hs ⊢; simp_all)))

theorem State.conf_dwellEnd {s0 s : State} {ps : List Part} {rs : Nat → Prop} (a1 : Nat) (h : Confined s0 ps rs s) (hp : [.print, .stage] ⊆ ps) (hr : ∀ a ∈ [Reg.PRINT_PROOF_CTL_A, Reg.PRINT_PROOF_CTL_B], rs a) : Confined s0 ps rs (State.dwellEnd s a1) := by
  unfold State.dwellEnd
  repeat' (first
    | with_reducible assumption
    | with_reducible exact sub_parts hp (by decide)
    | with_reducible exact sub_parts _hp (by decide)
    | with_reducible exact sub_regs hr (by decide)
    | with_reducible exact hr _ (by decide)
    | with_reducible apply State.conf_driveArm
    | with_reducible apply State.conf_driveTo
    | with_reducible apply conf_ite
    | split)

theorem State.conf_muteResume {s0 s : State} {ps : List Part} {rs : Nat → Prop} (a1 : Nat) (h : Confined s0 ps rs s) (hp : [.print, .stage] ⊆ ps) (_hr : ∀ a ∈ ([] : List Nat), rs a) : Confined s0 ps rs (State.muteResume s a1) := by
  unfold State.muteResume
  repeat' (first
    | with_reducible assumption
    | with_reducible exact sub_parts hp (by decide)
    | with_reducible exact sub_parts _hp (by decide)
    | with_reducible exact sub_regs _hr (by decide)
    | with_reducible apply State.conf_driveArm
    | with_reducible apply State.conf_examineArm
    | with_reducible apply State.conf_modDrive
    | with_reducible apply State.conf_sendOut
    | (extract_lets +onlyGivenNames x
       first
         | (refine conf_cut (s0 := s0) (ps := ps) (rs := rs) (s := x) ?_ (fun _ => ?_); (focus unfold x); on_goal 2 => clear_value x)
         | (unfold x; clear x)
         | clear_value x)
    | (with_reducible refine conf_src rfl ?_ (fun p hq => ?_) (fun b _ => ?_) ?_
       on_goal 2 => cases p <;> first | with_reducible rfl | exact absurd (hp (by decide)) hq
       on_goal 2 => exact State.store_of_tables rfl rfl rfl b
       on_goal 2 => first | exact id | (intro hs; simp only [State.shaped] at hs ⊢; simp_all)))

theorem State.conf_autoRestart {s0 s : State} {ps : List Part} {rs : Nat → Prop} (a1 : Nat) (h : Confined s0 ps rs s) (hp : [.print, .stage] ⊆ ps) (_hr : ∀ a ∈ ([] : List Nat), rs a) : Confined s0 ps rs (State.autoRestart s a1) := by
  unfold State.autoRestart
  repeat' (first
    | with_reducible assumption
    | with_reducible exact sub_parts hp (by decide)
    | with_reducible exact sub_parts _hp (by decide)
    | with_reducible exact sub_regs _hr (by decide)
    | with_reducible apply State.conf_modDrive
    | with_reducible apply State.conf_muteResume
    | (extract_lets +onlyGivenNames x
       first
         | (refine conf_cut (s0 := s0) (ps := ps) (rs := rs) (s := x) ?_ (fun _ => ?_); (focus unfold x); on_goal 2 => clear_value x)
         | (unfold x; clear x)
         | clear_value x)
    | with_reducible apply conf_ite
    | split
    | (with_reducible refine conf_src rfl ?_ (fun p hq => ?_) (fun b _ => ?_) ?_
       on_goal 2 => cases p <;> first | with_reducible rfl | exact absurd (hp (by decide)) hq
       on_goal 2 => exact State.store_of_tables rfl rfl rfl b
       on_goal 2 => first | exact id | (intro hs; simp only [State.shaped] at hs ⊢; simp_all)))

theorem State.conf_masterOn {s0 s : State} {ps : List Part} {rs : Nat → Prop}  (h : Confined s0 ps rs s) (hp : [.clk, .fixer, .print] ⊆ ps) (_hr : ∀ a ∈ ([] : List Nat), rs a) : Confined s0 ps rs (State.masterOn s) := by
  unfold State.masterOn
  repeat' (first
    | with_reducible assumption
    | with_reducible exact sub_parts hp (by decide)
    | with_reducible exact sub_parts _hp (by decide)
    | with_reducible exact sub_regs _hr (by decide)
    | intro _ _ _
    | with_reducible apply State.conf_fixerRelease
    | with_reducible apply State.conf_modDrive
    | (extract_lets +onlyGivenNames x
       first
         | (refine conf_cut (s0 := s0) (ps := ps) (rs := rs) (s := x) ?_ (fun _ => ?_); (focus unfold x); on_goal 2 => clear_value x)
         | (unfold x; clear x)
         | clear_value x)
    | with_reducible apply conf_foldl
    | (with_reducible refine conf_src rfl ?_ (fun p hq => ?_) (fun b _ => ?_) ?_
       on_goal 2 => cases p <;> first | with_reducible rfl | exact absurd (hp (by decide)) hq
       on_goal 2 => exact State.store_of_tables rfl rfl rfl b
       on_goal 2 => first | exact id | (intro hs; simp only [State.shaped] at hs ⊢; simp_all)))

theorem State.conf_edgeLoss {s0 s : State} {ps : List Part} {rs : Nat → Prop} (h : Confined s0 ps rs s) (hp : [.sset, .bumped, .caused, .clk, .print, .stage] ⊆ ps) (hr : ∀ a ∈ [Reg.CHIP_CLK_STATUS, Reg.PRINT_PROOF_CTL_A, Reg.PRINT_PROOF_CTL_B], rs a) :
    Confined s0 ps rs (State.edgeLoss s) := by
  unfold State.edgeLoss
  extract_lets s1 s2
  have h1 : Confined s0 ps rs s1 := by
    unfold s1
    with_reducible refine conf_foldl (fun u n hu => ?_) h
    exact State.conf_modDrive _ _ (conf_ite hu (State.conf_modDrive _ _ (State.conf_driveTo _ _ hu (sub_parts hp (by decide)) (sub_regs hr (by decide))) (sub_parts hp (by decide)) (sub_regs hr (by decide)))) (sub_parts hp (by decide)) (sub_regs hr (by decide))
  clear_value s1
  have h2 : Confined s0 ps rs s2 := State.conf_setFlag _ _ h1 (sub_parts hp (by decide)) (hr _ (by decide))
  clear_value s2
  exact (conf_upd h2 (by intro p hq; cases p <;> first | rfl | exact absurd (hp (by decide)) hq) (fun b _ => State.store_of_tables rfl rfl rfl b) (by intro hs; first | exact hs | (simp only [State.shaped] at hs ⊢; simp_all)))

theorem State.conf_printToSafe {s0 s : State} {ps : List Part} {rs : Nat → Prop}  (h : Confined s0 ps rs s) (hp : [.print, .stage] ⊆ ps) (hr : ∀ a ∈ [Reg.PRINT_MASTER_A, Reg.PRINT_MASTER_B, Reg.PRINT_PROOF_CTL_A, Reg.PRINT_PROOF_CTL_B], rs a) : Confined s0 ps rs (State.printToSafe s) := by
  unfold State.printToSafe
  repeat' (first
    | with_reducible assumption
    | with_reducible exact sub_parts hp (by decide)
    | with_reducible exact sub_parts _hp (by decide)
    | with_reducible exact sub_regs hr (by decide)
    | with_reducible exact hr _ (by decide)
    | intro _ _ _
    | with_reducible apply State.conf_setPair
    | with_reducible apply State.conf_driveTo
    | with_reducible apply State.conf_modDrive
    | with_reducible apply State.conf_endProof
    | (extract_lets +onlyGivenNames x
       first
         | (refine conf_cut (s0 := s0) (ps := ps) (rs := rs) (s := x) ?_ (fun _ => ?_); (focus unfold x); on_goal 2 => clear_value x)
         | (unfold x; clear x)
         | clear_value x)
    | with_reducible apply conf_ite
    | with_reducible apply conf_foldl
    | split
    | (with_reducible refine conf_src rfl ?_ (fun p hq => ?_) (fun b _ => ?_) ?_
       on_goal 2 => cases p <;> first | with_reducible rfl | exact absurd (hp (by decide)) hq
       on_goal 2 => exact State.store_of_tables rfl rfl rfl b
       on_goal 2 => first | exact id | (intro hs; simp only [State.shaped] at hs ⊢; simp_all)))

theorem State.conf_strapPrint {s0 s : State} {ps : List Part} {rs : Nat → Prop}  (h : Confined s0 ps rs s) (hp : [.print] ⊆ ps) (_hr : ∀ a ∈ ([] : List Nat), rs a) : Confined s0 ps rs (State.strapPrint s) := by
  unfold State.strapPrint
  repeat' (first
    | with_reducible assumption
    | with_reducible exact sub_parts hp (by decide)
    | with_reducible exact sub_parts _hp (by decide)
    | with_reducible exact sub_regs _hr (by decide)
    | (extract_lets +onlyGivenNames x
       first
         | (refine conf_cut (s0 := s0) (ps := ps) (rs := rs) (s := x) ?_ (fun _ => ?_); (focus unfold x); on_goal 2 => clear_value x)
         | (unfold x; clear x)
         | clear_value x)
    | (with_reducible refine conf_src rfl ?_ (fun p hq => ?_) (fun b _ => ?_) ?_
       on_goal 2 => cases p <;> first | with_reducible rfl | exact absurd (hp (by decide)) hq
       on_goal 2 => exact State.store_of_tables rfl rfl rfl b
       on_goal 2 => first | exact id | (intro hs; simp only [State.shaped] at hs ⊢; simp_all)))

theorem State.conf_endStageLoop {s0 s : State} {ps : List Part} {rs : Nat → Prop}  (h : Confined s0 ps rs s) (hp : [.print] ⊆ ps) (_hr : ∀ a ∈ ([] : List Nat), rs a) : Confined s0 ps rs (State.endStageLoop s) := by
  unfold State.endStageLoop
  repeat' (first
    | with_reducible assumption
    | with_reducible exact sub_parts hp (by decide)
    | with_reducible exact sub_parts _hp (by decide)
    | with_reducible exact sub_regs _hr (by decide)
    | (extract_lets +onlyGivenNames x
       first
         | (refine conf_cut (s0 := s0) (ps := ps) (rs := rs) (s := x) ?_ (fun _ => ?_); (focus unfold x); on_goal 2 => clear_value x)
         | (unfold x; clear x)
         | clear_value x)
    | with_reducible apply conf_ite
    | split
    | (with_reducible refine conf_src rfl ?_ (fun p hq => ?_) (fun b _ => ?_) ?_
       on_goal 2 => cases p <;> first | with_reducible rfl | exact absurd (hp (by decide)) hq
       on_goal 2 => exact State.store_of_tables rfl rfl rfl b
       on_goal 2 => first | exact id | (intro hs; simp only [State.shaped] at hs ⊢; simp_all)))

theorem State.conf_cutProof {s0 s : State} {ps : List Part} {rs : Nat → Prop}  (h : Confined s0 ps rs s) (hp : [.print] ⊆ ps) (_hr : ∀ a ∈ ([] : List Nat), rs a) : Confined s0 ps rs (State.cutProof s) := by
  unfold State.cutProof
  repeat' (first
    | with_reducible assumption
    | with_reducible exact sub_parts hp (by decide)
    | with_reducible exact sub_parts _hp (by decide)
    | with_reducible exact sub_regs _hr (by decide)
    | (extract_lets +onlyGivenNames x
       first
         | (refine conf_cut (s0 := s0) (ps := ps) (rs := rs) (s := x) ?_ (fun _ => ?_); (focus unfold x); on_goal 2 => clear_value x)
         | (unfold x; clear x)
         | clear_value x)
    | (with_reducible refine conf_src rfl ?_ (fun p hq => ?_) (fun b _ => ?_) ?_
       on_goal 2 => cases p <;> first | with_reducible rfl | exact absurd (hp (by decide)) hq
       on_goal 2 => exact State.store_of_tables rfl rfl rfl b
       on_goal 2 => first | exact id | (intro hs; simp only [State.shaped] at hs ⊢; simp_all)))

theorem State.conf_startProof {s0 s : State} {ps : List Part} {rs : Nat → Prop}  (h : Confined s0 ps rs s) (hp : [.print] ⊆ ps) (hr : ∀ a ∈ [Reg.PRINT_PROOF_CTL_A, Reg.PRINT_PROOF_CTL_B], rs a) : Confined s0 ps rs (State.startProof s) := by
  unfold State.startProof
  repeat' (first
    | with_reducible assumption
    | with_reducible exact sub_parts hp (by decide)
    | with_reducible exact sub_parts _hp (by decide)
    | with_reducible exact sub_regs hr (by decide)
    | with_reducible exact hr _ (by decide)
    | with_reducible apply State.conf_setPair
    | with_reducible apply State.conf_modDrive
    | with_reducible apply State.conf_endStageLoop
    | (extract_lets +onlyGivenNames x
       first
         | (refine conf_cut (s0 := s0) (ps := ps) (rs := rs) (s := x) ?_ (fun _ => ?_); (focus unfold x); on_goal 2 => clear_value x)
         | (unfold x; clear x)
         | clear_value x)
    | with_reducible apply conf_ite
    | split
    | (with_reducible refine conf_src rfl ?_ (fun p hq => ?_) (fun b _ => ?_) ?_
       on_goal 2 => cases p <;> first | with_reducible rfl | exact absurd (hp (by decide)) hq
       on_goal 2 => exact State.store_of_tables rfl rfl rfl b
       on_goal 2 => first | exact id | (intro hs; simp only [State.shaped] at hs ⊢; simp_all)))

theorem State.conf_proofDone {s0 s : State} {ps : List Part} {rs : Nat → Prop} (a1 : Half) (h : Confined s0 ps rs s) (hp : [.sset, .bumped, .caused, .print] ⊆ ps) (hr : ∀ a ∈ [Reg.PRINT_PRINT_STATUS, Reg.PRINT_PROOF_CTL_A, Reg.PRINT_PROOF_CTL_B], rs a) : Confined s0 ps rs (State.proofDone s a1) := by
  unfold State.proofDone
  repeat' (first
    | with_reducible assumption
    | with_reducible exact sub_parts hp (by decide)
    | with_reducible exact sub_parts _hp (by decide)
    | with_reducible exact sub_regs hr (by decide)
    | with_reducible exact hr _ (by decide)
    | with_reducible apply State.conf_setFlag
    | with_reducible apply State.conf_endProof
    | (extract_lets +onlyGivenNames x
       first
         | (refine conf_cut (s0 := s0) (ps := ps) (rs := rs) (s := x) ?_ (fun _ => ?_); (focus unfold x); on_goal 2 => clear_value x)
         | (unfold x; clear x)
         | clear_value x)
    | with_reducible apply conf_ite
    | split
    | (with_reducible refine conf_src rfl ?_ (fun p hq => ?_) (fun b _ => ?_) ?_
       on_goal 2 => cases p <;> first | with_reducible rfl | exact absurd (hp (by decide)) hq
       on_goal 2 => exact State.store_of_tables rfl rfl rfl b
       on_goal 2 => first | exact id | (intro hs; simp only [State.shaped] at hs ⊢; simp_all)))

end Sys2Proof.Machine
end

