-- ==== Sys2Proof/Laws/ConfTank.lean ====
section
/-! SUPPORT. What every operation of Machine/Tank.lean is confined to: the parts of the state and the registers it can change. -/

set_option linter.unusedTactic false
set_option linter.unreachableTactic false
set_option linter.unusedVariables false
set_option linter.tactic.unusedName false

namespace Sys2Proof.Machine

theorem State.conf_writeLifeRecord {s0 s : State} {ps : List Part} {rs : Nat → Prop}  (h : Confined s0 ps rs s) (hp : [.sset, .bumped, .caused, .queue, .fixer, .bank, .mem] ⊆ ps) (hr : ∀ a ∈ [Reg.FIXER_FIXER_STATUS, Reg.FIXER_LASTING_COUNT, Reg.TANK_CE_ADDR, Reg.TANK_CE_COUNT, Reg.TANK_FOG_PASSES, Reg.TANK_FOG_SKIPS, Reg.TANK_TANK_STATUS, Reg.TANK_UE_ADDR, Reg.TANK_UE_COUNT], rs a) : Confined s0 ps rs (State.writeLifeRecord s) := by
  unfold State.writeLifeRecord
  repeat' (first
    | with_reducible assumption
    | with_reducible exact sub_parts hp (by decide)
    | with_reducible exact sub_parts _hp (by decide)
    | with_reducible exact sub_regs hr (by decide)
    | with_reducible exact hr _ (by decide)
    | with_reducible apply State.conf_setTank)

theorem State.conf_pendWipe {s0 s : State} {ps : List Part} {rs : Nat → Prop} (a1 : Nat) (h : Confined s0 ps rs s) (hp : [.bank] ⊆ ps) (_hr : ∀ a ∈ ([] : List Nat), rs a) : Confined s0 ps rs (State.pendWipe s a1) := by
  unfold State.pendWipe
  repeat' (first
    | with_reducible assumption
    | with_reducible exact sub_parts hp (by decide)
    | with_reducible exact sub_parts _hp (by decide)
    | with_reducible exact sub_regs _hr (by decide)
    | (extract_lets +onlyGivenNames x
       first
         | (refine conf_cut (s0 := s0) (ps := ps) (rs := rs) (s := x) ?_ (fun _ => ?_); (focus unfold x); on_goal 2 => clear_value x)
         | (unfold x; clear x)
         | clear_value x)
    | with_reducible apply conf_ite
    | split
    | (with_reducible refine conf_src rfl ?_ (fun p hq => ?_) (fun b _ => ?_) ?_
       on_goal 2 => cases p <;> first | with_reducible rfl | exact absurd (hp (by decide)) hq
       on_goal 2 => exact State.store_of_tables rfl rfl rfl b
       on_goal 2 => first | exact id | (intro hs; simp only [State.shaped] at hs ⊢; simp_all)))

theorem State.conf_eraseSecure {s0 s : State} {ps : List Part} {rs : Nat → Prop}  (h : Confined s0 ps rs s) (hp : [.bank, .mem] ⊆ ps) (_hr : ∀ a ∈ ([] : List Nat), rs a) : Confined s0 ps rs (State.eraseSecure s) := by
  unfold State.eraseSecure
  repeat' (first
    | with_reducible assumption
    | with_reducible exact sub_parts hp (by decide)
    | with_reducible exact sub_parts _hp (by decide)
    | with_reducible exact sub_regs _hr (by decide)
    | (extract_lets +onlyGivenNames x
       first
         | (refine conf_cut (s0 := s0) (ps := ps) (rs := rs) (s := x) ?_ (fun _ => ?_); (focus unfold x); on_goal 2 => clear_value x)
         | (unfold x; clear x)
         | clear_value x)
    | (with_reducible refine conf_src rfl ?_ (fun p hq => ?_) (fun b _ => ?_) ?_
       on_goal 2 => cases p <;> first | with_reducible rfl | exact absurd (hp (by decide)) hq
       on_goal 2 => exact State.store_of_tables rfl rfl rfl b
       on_goal 2 => first | exact id | (intro hs; simp only [State.shaped] at hs ⊢; simp_all)))

theorem State.conf_startWipe {s0 s : State} {ps : List Part} {rs : Nat → Prop}  (h : Confined s0 ps rs s) (hp : [.bank, .mem] ⊆ ps) (_hr : ∀ a ∈ ([] : List Nat), rs a) : Confined s0 ps rs (State.startWipe s) := by
  unfold State.startWipe
  repeat' (first
    | with_reducible assumption
    | with_reducible exact sub_parts hp (by decide)
    | with_reducible exact sub_parts _hp (by decide)
    | with_reducible exact sub_regs _hr (by decide)
    | with_reducible apply State.conf_eraseSecure
    | (extract_lets +onlyGivenNames x
       first
         | (refine conf_cut (s0 := s0) (ps := ps) (rs := rs) (s := x) ?_ (fun _ => ?_); (focus unfold x); on_goal 2 => clear_value x)
         | (unfold x; clear x)
         | clear_value x)
    | (with_reducible refine conf_src rfl ?_ (fun p hq => ?_) (fun b _ => ?_) ?_
       on_goal 2 => cases p <;> first | with_reducible rfl | exact absurd (hp (by decide)) hq
       on_goal 2 => exact State.store_of_tables rfl rfl rfl b
       on_goal 2 => first | exact id | (intro hs; simp only [State.shaped] at hs ⊢; simp_all)))

theorem State.conf_latchAfterWipe {s0 s : State} {ps : List Part} {rs : Nat → Prop}  (h : Confined s0 ps rs s) (hp : [.bank] ⊆ ps) (_hr : ∀ a ∈ ([] : List Nat), rs a) : Confined s0 ps rs (State.latchAfterWipe s) := by
  unfold State.latchAfterWipe
  repeat' (first
    | with_reducible assumption
    | with_reducible exact sub_parts hp (by decide)
    | with_reducible exact sub_parts _hp (by decide)
    | with_reducible exact sub_regs _hr (by decide)
    | (extract_lets +onlyGivenNames x
       first
         | (refine conf_cut (s0 := s0) (ps := ps) (rs := rs) (s := x) ?_ (fun _ => ?_); (focus unfold x); on_goal 2 => clear_value x)
         | (unfold x; clear x)
         | clear_value x)
    | with_reducible apply conf_ite
    | split
    | (with_reducible refine conf_src rfl ?_ (fun p hq => ?_) (fun b _ => ?_) ?_
       on_goal 2 => cases p <;> first | with_reducible rfl | exact absurd (hp (by decide)) hq
       on_goal 2 => exact State.store_of_tables rfl rfl rfl b
       on_goal 2 => first | exact id | (intro hs; simp only [State.shaped] at hs ⊢; simp_all)))

theorem State.conf_endWipe {s0 s : State} {ps : List Part} {rs : Nat → Prop} (a1 : Option Nat) (h : Confined s0 ps rs s) (hp : [.sset, .bumped, .caused, .queue, .fixer, .bank, .mem] ⊆ ps) (hr : ∀ a ∈ [Reg.FIXER_FIXER_STATUS, Reg.FIXER_LASTING_COUNT, Reg.TANK_CE_ADDR, Reg.TANK_CE_COUNT, Reg.TANK_FOG_PASSES, Reg.TANK_FOG_SKIPS, Reg.TANK_TANK_STATUS, Reg.TANK_UE_ADDR, Reg.TANK_UE_COUNT], rs a) : Confined s0 ps rs (State.endWipe s a1) := by
  unfold State.endWipe
  repeat' (first
    | with_reducible assumption
    | with_reducible exact sub_parts hp (by decide)
    | with_reducible exact sub_parts _hp (by decide)
    | with_reducible exact sub_regs hr (by decide)
    | with_reducible exact hr _ (by decide)
    | with_reducible apply State.conf_eraseSecure
    | with_reducible apply State.conf_setTankWords
    | with_reducible apply State.conf_setFlag
    | with_reducible apply State.conf_raise
    | with_reducible apply State.conf_latchAfterWipe
    | (extract_lets +onlyGivenNames x
       first
         | (refine conf_cut (s0 := s0) (ps := ps) (rs := rs) (s := x) ?_ (fun _ => ?_); (focus unfold x); on_goal 2 => clear_value x)
         | (unfold x; clear x)
         | clear_value x)
    | with_reducible apply conf_ite
    | split
    | (with_reducible refine conf_src rfl ?_ (fun p hq => ?_) (fun b _ => ?_) ?_
       on_goal 2 => cases p <;> first | with_reducible rfl | exact absurd (hp (by decide)) hq
       on_goal 2 => exact State.store_of_tables rfl rfl rfl b
       on_goal 2 => first | exact id | (intro hs; simp only [State.shaped] at hs ⊢; simp_all)))

theorem State.conf_afterWipe {s0 s : State} {ps : List Part} {rs : Nat → Prop} (a1 : Bool) (h : Confined s0 ps rs s) (hp : [.loupe] ⊆ ps) (_hr : ∀ a ∈ ([] : List Nat), rs a) : Confined s0 ps rs (State.afterWipe s a1) := by
  unfold State.afterWipe
  repeat' (first
    | with_reducible assumption
    | with_reducible exact sub_parts hp (by decide)
    | with_reducible exact sub_parts _hp (by decide)
    | with_reducible exact sub_regs _hr (by decide)
    | (extract_lets +onlyGivenNames x
       first
         | (refine conf_cut (s0 := s0) (ps := ps) (rs := rs) (s := x) ?_ (fun _ => ?_); (focus unfold x); on_goal 2 => clear_value x)
         | (unfold x; clear x)
         | clear_value x)
    | with_reducible apply conf_ite
    | split
    | (with_reducible refine conf_src rfl ?_ (fun p hq => ?_) (fun b _ => ?_) ?_
       on_goal 2 => cases p <;> first | with_reducible rfl | exact absurd (hp (by decide)) hq
       on_goal 2 => exact State.store_of_tables rfl rfl rfl b
       on_goal 2 => first | exact id | (intro hs; simp only [State.shaped] at hs ⊢; simp_all)))

theorem State.conf_tamperOff {s0 s : State} {ps : List Part} {rs : Nat → Prop}  (h : Confined s0 ps rs s) (hp : [.bank] ⊆ ps) (_hr : ∀ a ∈ ([] : List Nat), rs a) : Confined s0 ps rs (State.tamperOff s) := by
  unfold State.tamperOff
  repeat' (first
    | with_reducible assumption
    | with_reducible exact sub_parts hp (by decide)
    | with_reducible exact sub_parts _hp (by decide)
    | with_reducible exact sub_regs _hr (by decide)
    | (extract_lets +onlyGivenNames x
       first
         | (refine conf_cut (s0 := s0) (ps := ps) (rs := rs) (s := x) ?_ (fun _ => ?_); (focus unfold x); on_goal 2 => clear_value x)
         | (unfold x; clear x)
         | clear_value x)
    | with_reducible apply conf_ite
    | split
    | (with_reducible refine conf_src rfl ?_ (fun p hq => ?_) (fun b _ => ?_) ?_
       on_goal 2 => cases p <;> first | with_reducible rfl | exact absurd (hp (by decide)) hq
       on_goal 2 => exact State.store_of_tables rfl rfl rfl b
       on_goal 2 => first | exact id | (intro hs; simp only [State.shaped] at hs ⊢; simp_all)))

theorem State.conf_fogEnd {s0 s : State} {ps : List Part} {rs : Nat → Prop}  (h : Confined s0 ps rs s) (hp : [.bank] ⊆ ps) (_hr : ∀ a ∈ ([] : List Nat), rs a) : Confined s0 ps rs (State.fogEnd s) := by
  unfold State.fogEnd
  repeat' (first
    | with_reducible assumption
    | with_reducible exact sub_parts hp (by decide)
    | with_reducible exact sub_parts _hp (by decide)
    | with_reducible exact sub_regs _hr (by decide)
    | with_reducible apply State.conf_fogRestore
    | with_reducible apply conf_ite
    | split)

theorem State.conf_fogSave {s0 s : State} {ps : List Part} {rs : Nat → Prop} (struck : Bool) (h : Confined s0 ps rs s) (hp : [.sset, .bumped, .caused, .fixer, .bank] ⊆ ps) (hr : ∀ a ∈ [Reg.FIXER_FIXER_STATUS, Reg.FIXER_LASTING_COUNT, Reg.TANK_CE_ADDR, Reg.TANK_CE_COUNT, Reg.TANK_TANK_STATUS, Reg.TANK_UE_ADDR, Reg.TANK_UE_COUNT], rs a) :
    Confined s0 ps rs (State.fogSave s struck).1 := by
  unfold State.fogSave
  extract_lets w t s1
  have h1 : Confined s0 ps rs s1 := by
    unfold s1
    with_reducible apply conf_ite
    · exact (conf_upd h (by intro p hq; cases p <;> first | rfl | exact absurd (hp (by decide)) hq) (fun b _ => State.store_of_tables rfl rfl rfl b) (by intro hs; first | exact hs | (simp only [State.shaped] at hs ⊢; simp_all)))
    · exact h
  clear_value s1
  with_reducible refine conf_foldl_fst (fun q a hq => ?_) h1
  exact State.conf_eccRead _ _ _ hq (sub_parts hp (by decide)) (sub_regs hr (by decide))

theorem State.conf_fogSave_eq {s0 s t : State} {ps : List Part} {rs : Nat → Prop} (a1 : Bool) {x : Bool} (e : State.fogSave s a1 = (t, x)) (h : Confined s0 ps rs s) (hp : [.sset, .bumped, .caused, .fixer, .bank] ⊆ ps) (hr : ∀ a ∈ [Reg.FIXER_FIXER_STATUS, Reg.FIXER_LASTING_COUNT, Reg.TANK_CE_ADDR, Reg.TANK_CE_COUNT, Reg.TANK_TANK_STATUS, Reg.TANK_UE_ADDR, Reg.TANK_UE_COUNT], rs a) : Confined s0 ps rs t := by
  have := State.conf_fogSave a1 h hp hr
  rwa [e] at this


theorem State.conf_fogBegin {s0 s : State} {ps : List Part} {rs : Nat → Prop} (a1 : FogIn) (h : Confined s0 ps rs s) (hp : [.bank] ⊆ ps) (_hr : ∀ a ∈ ([] : List Nat), rs a) : Confined s0 ps rs (State.fogBegin s a1) := by
  unfold State.fogBegin
  repeat' (first
    | with_reducible assumption
    | with_reducible exact sub_parts hp (by decide)
    | with_reducible exact sub_parts _hp (by decide)
    | with_reducible exact sub_regs _hr (by decide)
    | (extract_lets +onlyGivenNames x
       first
         | (refine conf_cut (s0 := s0) (ps := ps) (rs := rs) (s := x) ?_ (fun _ => ?_); (focus unfold x); on_goal 2 => clear_value x)
         | (unfold x; clear x)
         | clear_value x)
    | with_reducible apply conf_ite
    | split
    | (with_reducible refine conf_src rfl ?_ (fun p hq => ?_) (fun b _ => ?_) ?_
       on_goal 2 => cases p <;> first | with_reducible rfl | exact absurd (hp (by decide)) hq
       on_goal 2 => exact State.store_of_tables rfl rfl rfl b
       on_goal 2 => first | exact id | (intro hs; simp only [State.shaped] at hs ⊢; simp_all)))

theorem State.conf_fogBorrow {s0 s : State} {ps : List Part} {rs : Nat → Prop} (i : FogIn) (h : Confined s0 ps rs s) (hp : [.sset, .bumped, .caused, .fixer, .bank] ⊆ ps) (hr : ∀ a ∈ [Reg.FIXER_FIXER_STATUS, Reg.FIXER_LASTING_COUNT, Reg.TANK_CE_ADDR, Reg.TANK_CE_COUNT, Reg.TANK_FOG_PASSES, Reg.TANK_FOG_SKIPS, Reg.TANK_TANK_STATUS, Reg.TANK_UE_ADDR, Reg.TANK_UE_COUNT], rs a) : Confined s0 ps rs (State.fogBorrow s i) := by
  unfold State.fogBorrow
  split
  rename_i t ue e
  have h1 : Confined s0 ps rs t := State.conf_fogSave_eq _ e h (sub_parts hp (by decide)) (sub_regs hr (by decide))
  refine conf_ite (State.conf_fogSkip _ h1 (sub_parts hp (by decide)) (sub_regs hr (by decide))) ?_
  exact (conf_upd h1 (by intro p hq; cases p <;> first | rfl | exact absurd (hp (by decide)) hq) (fun b _ => State.store_of_tables rfl rfl rfl b) (by intro hs; first | exact hs | (simp only [State.shaped] at hs ⊢; simp_all)))

theorem State.conf_fogMarched {s0 s : State} {ps : List Part} {rs : Nat → Prop} (a1 : Option Nat) (h : Confined s0 ps rs s) (hp : [.sset, .bumped, .caused, .fixer, .bank] ⊆ ps) (hr : ∀ a ∈ [Reg.FIXER_FIXER_STATUS, Reg.FIXER_LASTING_COUNT, Reg.TANK_FOG_FAIL_ADDR, Reg.TANK_TANK_STATUS], rs a) : Confined s0 ps rs (State.fogMarched s a1) := by
  unfold State.fogMarched
  repeat' (first
    | with_reducible assumption
    | with_reducible exact sub_parts hp (by decide)
    | with_reducible exact sub_parts _hp (by decide)
    | with_reducible exact sub_regs hr (by decide)
    | with_reducible exact hr _ (by decide)
    | with_reducible apply State.conf_setReg
    | with_reducible apply State.conf_setFlag
    | with_reducible apply State.conf_raise
    | with_reducible apply State.conf_fixerReport
    | (extract_lets +onlyGivenNames x
       first
         | (refine conf_cut (s0 := s0) (ps := ps) (rs := rs) (s := x) ?_ (fun _ => ?_); (focus unfold x); on_goal 2 => clear_value x)
         | (unfold x; clear x)
         | clear_value x)
    | split
    | (with_reducible refine conf_src rfl ?_ (fun p hq => ?_) (fun b _ => ?_) ?_
       on_goal 2 => cases p <;> first | with_reducible rfl | exact absurd (hp (by decide)) hq
       on_goal 2 => exact State.store_of_tables rfl rfl rfl b
       on_goal 2 => first | exact id | (intro hs; simp only [State.shaped] at hs ⊢; simp_all)))

theorem State.conf_fogStep {s0 s : State} {ps : List Part} {rs : Nat → Prop} (a1 : FogIn) (h : Confined s0 ps rs s) (hp : [.sset, .bumped, .caused, .fixer, .bank] ⊆ ps) (hr : ∀ a ∈ [Reg.FIXER_FIXER_STATUS, Reg.FIXER_LASTING_COUNT, Reg.TANK_CE_ADDR, Reg.TANK_CE_COUNT, Reg.TANK_FOG_FAIL_ADDR, Reg.TANK_FOG_PASSES, Reg.TANK_FOG_SKIPS, Reg.TANK_TANK_STATUS, Reg.TANK_UE_ADDR, Reg.TANK_UE_COUNT], rs a) : Confined s0 ps rs (State.fogStep s a1) := by
  unfold State.fogStep
  repeat' (first
    | with_reducible assumption
    | with_reducible exact sub_parts hp (by decide)
    | with_reducible exact sub_parts _hp (by decide)
    | with_reducible exact sub_regs hr (by decide)
    | with_reducible exact hr _ (by decide)
    | with_reducible apply State.conf_fogBegin
    | with_reducible apply State.conf_fogBorrow
    | with_reducible apply State.conf_fogMarched
    | with_reducible apply State.conf_fogNext
    | with_reducible apply State.conf_fogRestore
    | (extract_lets +onlyGivenNames x
       first
         | (refine conf_cut (s0 := s0) (ps := ps) (rs := rs) (s := x) ?_ (fun _ => ?_); (focus unfold x); on_goal 2 => clear_value x)
         | (unfold x; clear x)
         | clear_value x)
    | with_reducible apply conf_ite
    | split)

theorem State.conf_strike {s0 s : State} {ps : List Part} {rs : Nat → Prop} (word : Nat) (o : Option (Nat × Bool)) (h : Confined s0 ps rs s) (hp : [.bank] ⊆ ps) (_hr : ∀ a ∈ ([] : List Nat), rs a) :
    Confined s0 ps rs (State.strike s word o) := by
  cases o with
  | none => exact h
  | some p =>
    have h1 : Confined s0 ps rs (s.eccClear word p.1) := State.conf_eccClear _ _ h (sub_parts hp (by decide)) (sub_regs _hr (by decide))
    unfold State.strike
    dsimp only
    generalize s.eccClear word p.1 = s1 at h1 ⊢
    exact (conf_upd h1 (by intro p hq; cases p <;> first | rfl | exact absurd (hp (by decide)) hq) (fun b _ => State.store_of_tables rfl rfl rfl b) (by intro hs; first | exact hs | (simp only [State.shaped] at hs ⊢; simp_all)))

theorem State.conf_dropCommand {s0 s : State} {ps : List Part} {rs : Nat → Prop} (a1 : Nat) (h : Confined s0 ps rs s) (hp : [.queue] ⊆ ps) (_hr : ∀ a ∈ ([] : List Nat), rs a) : Confined s0 ps rs (State.dropCommand s a1) := by
  unfold State.dropCommand
  repeat' (first
    | with_reducible assumption
    | with_reducible exact sub_parts hp (by decide)
    | with_reducible exact sub_parts _hp (by decide)
    | with_reducible exact sub_regs _hr (by decide)
    | with_reducible apply State.conf_setTag
    | (extract_lets +onlyGivenNames x
       first
         | (refine conf_cut (s0 := s0) (ps := ps) (rs := rs) (s := x) ?_ (fun _ => ?_); (focus unfold x); on_goal 2 => clear_value x)
         | (unfold x; clear x)
         | clear_value x)
    | with_reducible apply conf_ite
    | split
    | (with_reducible refine conf_src rfl ?_ (fun p hq => ?_) (fun b _ => ?_) ?_
       on_goal 2 => cases p <;> first | with_reducible rfl | exact absurd (hp (by decide)) hq
       on_goal 2 => exact State.store_of_tables rfl rfl rfl b
       on_goal 2 => first | exact id | (intro hs; simp only [State.shaped] at hs ⊢; simp_all)))

theorem State.conf_dropEntry {s0 s : State} {ps : List Part} {rs : Nat → Prop} (a1 : Nat) (h : Confined s0 ps rs s) (hp : [.queue] ⊆ ps) (_hr : ∀ a ∈ ([] : List Nat), rs a) : Confined s0 ps rs (State.dropEntry s a1) := by
  unfold State.dropEntry
  repeat' (first
    | with_reducible assumption
    | with_reducible exact sub_parts hp (by decide)
    | with_reducible exact sub_parts _hp (by decide)
    | with_reducible exact sub_regs _hr (by decide)
    | with_reducible apply State.conf_dropCommand
    | with_reducible apply State.conf_keepEvents
    | (extract_lets +onlyGivenNames x
       first
         | (refine conf_cut (s0 := s0) (ps := ps) (rs := rs) (s := x) ?_ (fun _ => ?_); (focus unfold x); on_goal 2 => clear_value x)
         | (unfold x; clear x)
         | clear_value x)
    | with_reducible apply conf_ite
    | split
    | (with_reducible refine conf_src rfl ?_ (fun p hq => ?_) (fun b _ => ?_) ?_
       on_goal 2 => cases p <;> first | with_reducible rfl | exact absurd (hp (by decide)) hq
       on_goal 2 => exact State.store_of_tables rfl rfl rfl b
       on_goal 2 => first | exact id | (intro hs; simp only [State.shaped] at hs ⊢; simp_all)))

theorem State.conf_busFault {s0 s : State} {ps : List Part} {rs : Nat → Prop}  (h : Confined s0 ps rs s) (hp : [.port] ⊆ ps) (_hr : ∀ a ∈ ([] : List Nat), rs a) : Confined s0 ps rs (State.busFault s) := by
  unfold State.busFault
  repeat' (first
    | with_reducible assumption
    | with_reducible exact sub_parts hp (by decide)
    | with_reducible exact sub_parts _hp (by decide)
    | with_reducible exact sub_regs _hr (by decide)
    | (extract_lets +onlyGivenNames x
       first
         | (refine conf_cut (s0 := s0) (ps := ps) (rs := rs) (s := x) ?_ (fun _ => ?_); (focus unfold x); on_goal 2 => clear_value x)
         | (unfold x; clear x)
         | clear_value x)
    | (with_reducible refine conf_src rfl ?_ (fun p hq => ?_) (fun b _ => ?_) ?_
       on_goal 2 => cases p <;> first | with_reducible rfl | exact absurd (hp (by decide)) hq
       on_goal 2 => exact State.store_of_tables rfl rfl rfl b
       on_goal 2 => first | exact id | (intro hs; simp only [State.shaped] at hs ⊢; simp_all)))

theorem State.conf_loupeUe {s0 s : State} {ps : List Part} {rs : Nat → Prop} (a1 : Bool) (h : Confined s0 ps rs s) (hp : [.port, .loupe] ⊆ ps) (_hr : ∀ a ∈ ([] : List Nat), rs a) : Confined s0 ps rs (State.loupeUe s a1) := by
  unfold State.loupeUe
  repeat' (first
    | with_reducible assumption
    | with_reducible exact sub_parts hp (by decide)
    | with_reducible exact sub_parts _hp (by decide)
    | with_reducible exact sub_regs _hr (by decide)
    | with_reducible apply State.conf_busFault
    | (extract_lets +onlyGivenNames x
       first
         | (refine conf_cut (s0 := s0) (ps := ps) (rs := rs) (s := x) ?_ (fun _ => ?_); (focus unfold x); on_goal 2 => clear_value x)
         | (unfold x; clear x)
         | clear_value x)
    | (with_reducible refine conf_src rfl ?_ (fun p hq => ?_) (fun b _ => ?_) ?_
       on_goal 2 => cases p <;> first | with_reducible rfl | exact absurd (hp (by decide)) hq
       on_goal 2 => exact State.store_of_tables rfl rfl rfl b
       on_goal 2 => first | exact id | (intro hs; simp only [State.shaped] at hs ⊢; simp_all)))

theorem State.conf_developerUe {s0 s : State} {ps : List Part} {rs : Nat → Prop} (a1 : Nat) (h : Confined s0 ps rs s) (hp : [.sset, .bumped, .caused, .fixer, .dev, .sheet] ⊆ ps) (hr : ∀ a ∈ [Reg.FIXER_FIXER_STATUS, Reg.FIXER_LASTING_COUNT, Reg.SHEET_SHEET_STATUS], rs a) : Confined s0 ps rs (State.developerUe s a1) := by
  unfold State.developerUe
  repeat' (first
    | with_reducible assumption
    | with_reducible exact sub_parts hp (by decide)
    | with_reducible exact sub_parts _hp (by decide)
    | with_reducible exact sub_regs hr (by decide)
    | with_reducible exact hr _ (by decide)
    | with_reducible apply State.conf_countSample
    | with_reducible apply State.conf_templateEcc
    | (extract_lets +onlyGivenNames x
       first
         | (refine conf_cut (s0 := s0) (ps := ps) (rs := rs) (s := x) ?_ (fun _ => ?_); (focus unfold x); on_goal 2 => clear_value x)
         | (unfold x; clear x)
         | clear_value x)
    | with_reducible apply conf_ite
    | split
    | (with_reducible refine conf_src rfl ?_ (fun p hq => ?_) (fun b _ => ?_) ?_
       on_goal 2 => cases p <;> first | with_reducible rfl | exact absurd (hp (by decide)) hq
       on_goal 2 => exact State.store_of_tables rfl rfl rfl b
       on_goal 2 => first | exact id | (intro hs; simp only [State.shaped] at hs ⊢; simp_all)))

theorem State.conf_readLost {s0 s : State} {ps : List Part} {rs : Nat → Prop} (a1 : TankReq) (a2 : List Nat) (h : Confined s0 ps rs s) (hp : [.sset, .bumped, .caused, .queue, .port, .fixer, .dev, .sheet, .loupe] ⊆ ps) (hr : ∀ a ∈ [Reg.FIXER_FIXER_STATUS, Reg.FIXER_LASTING_COUNT, Reg.SHEET_SHEET_STATUS], rs a) : Confined s0 ps rs (State.readLost s a1 a2) := by
  unfold State.readLost
  repeat' (first
    | with_reducible assumption
    | with_reducible exact sub_parts hp (by decide)
    | with_reducible exact sub_parts _hp (by decide)
    | with_reducible exact sub_regs hr (by decide)
    | with_reducible exact hr _ (by decide)
    | intro _ _ _
    | with_reducible apply State.conf_dropEntry
    | with_reducible apply State.conf_developerUe
    | with_reducible apply State.conf_loupeUe
    | (extract_lets +onlyGivenNames x
       first
         | (refine conf_cut (s0 := s0) (ps := ps) (rs := rs) (s := x) ?_ (fun _ => ?_); (focus unfold x); on_goal 2 => clear_value x)
         | (unfold x; clear x)
         | clear_value x)
    | with_reducible apply conf_ite
    | with_reducible apply conf_foldl
    | split
    | (with_reducible refine conf_src rfl ?_ (fun p hq => ?_) (fun b _ => ?_) ?_
       on_goal 2 => cases p <;> first | with_reducible rfl | exact absurd (hp (by decide)) hq
       on_goal 2 => exact State.store_of_tables rfl rfl rfl b
       on_goal 2 => first | exact id | (intro hs; simp only [State.shaped] at hs ⊢; simp_all)))

theorem State.conf_readGroups {s0 s : State} {ps : List Part} {rs : Nat → Prop} (word rank : Nat) (gs : List Nat) (h : Confined s0 ps rs s) (hp : [.sset, .bumped, .caused, .fixer] ⊆ ps) (hr : ∀ a ∈ [Reg.FIXER_FIXER_STATUS, Reg.FIXER_LASTING_COUNT, Reg.TANK_CE_ADDR, Reg.TANK_CE_COUNT, Reg.TANK_TANK_STATUS, Reg.TANK_UE_ADDR, Reg.TANK_UE_COUNT], rs a) :
    Confined s0 ps rs (State.readGroups s word rank gs).1 := by
  induction gs generalizing s with
  | nil => exact h
  | cons g gs ih => exact ih (State.conf_eccRead _ _ _ h (sub_parts hp (by decide)) (sub_regs hr (by decide)))

theorem State.conf_readGroups_eq {s0 s t : State} {ps : List Part} {rs : Nat → Prop} (word rank : Nat) (gs : List Nat) {x : List Nat}
    (e : State.readGroups s word rank gs = (t, x)) (h : Confined s0 ps rs s) (hp : [.sset, .bumped, .caused, .fixer] ⊆ ps) (hr : ∀ a ∈ [Reg.FIXER_FIXER_STATUS, Reg.FIXER_LASTING_COUNT, Reg.TANK_CE_ADDR, Reg.TANK_CE_COUNT, Reg.TANK_TANK_STATUS, Reg.TANK_UE_ADDR, Reg.TANK_UE_COUNT], rs a) : Confined s0 ps rs t := by
  have := State.conf_readGroups word rank gs h (sub_parts hp (by decide)) (sub_regs hr (by decide))
  rwa [e] at this


theorem State.conf_writeGroup {s0 s : State} {ps : List Part} {rs : Nat → Prop} (r : TankReq) (g : Nat) (h : Confined s0 ps rs s) (hp : [.sset, .bumped, .caused, .queue, .fixer, .bank, .mem] ⊆ ps) (hr : ∀ a ∈ [Reg.FIXER_FIXER_STATUS, Reg.FIXER_LASTING_COUNT, Reg.TANK_CE_ADDR, Reg.TANK_CE_COUNT, Reg.TANK_TANK_STATUS, Reg.TANK_UE_ADDR, Reg.TANK_UE_COUNT], rs a) : Confined s0 ps rs (State.writeGroup s r g).1 := by
  unfold State.writeGroup
  extract_lets lo hi
  split
  · exact State.conf_eccClear _ _ h (sub_parts hp (by decide)) (sub_regs hr (by decide))
  · split
    rename_i t ue e
    have h1 : Confined s0 ps rs (t.eccClear r.word g) := State.conf_eccClear _ _ (State.conf_eccRead_eq _ _ _ e h (sub_parts hp (by decide)) (sub_regs hr (by decide))) (sub_parts hp (by decide)) (sub_regs hr (by decide))
    dsimp only
    generalize t.eccClear r.word g = t at h1 ⊢
    split
    · exact State.conf_putWord _ _ h1 (sub_parts hp (by decide)) (sub_regs hr (by decide))
    · exact h1

theorem State.conf_writeGroup_eq {s0 s t : State} {ps : List Part} {rs : Nat → Prop} (a1 : TankReq) (a2 : Nat) {x : Bool} (e : State.writeGroup s a1 a2 = (t, x)) (h : Confined s0 ps rs s) (hp : [.sset, .bumped, .caused, .queue, .fixer, .bank, .mem] ⊆ ps) (hr : ∀ a ∈ [Reg.FIXER_FIXER_STATUS, Reg.FIXER_LASTING_COUNT, Reg.TANK_CE_ADDR, Reg.TANK_CE_COUNT, Reg.TANK_TANK_STATUS, Reg.TANK_UE_ADDR, Reg.TANK_UE_COUNT], rs a) : Confined s0 ps rs t := by
  have := State.conf_writeGroup a1 a2 h hp hr
  rwa [e] at this


theorem State.conf_writeGroups {s0 s : State} {ps : List Part} {rs : Nat → Prop} (r : TankReq) (h : Confined s0 ps rs s) (hp : [.sset, .bumped, .caused, .queue, .port, .fixer, .bank, .loupe, .mem] ⊆ ps) (hr : ∀ a ∈ [Reg.FIXER_FIXER_STATUS, Reg.FIXER_LASTING_COUNT, Reg.TANK_CE_ADDR, Reg.TANK_CE_COUNT, Reg.TANK_TANK_STATUS, Reg.TANK_UE_ADDR, Reg.TANK_UE_COUNT], rs a) : Confined s0 ps rs (State.writeGroups s r) := by
  unfold State.writeGroups
  split
  rename_i t bad e
  have h1 : Confined s0 ps rs t := by
    rw [show t = (t, bad).1 from rfl, ← e]
    exact conf_foldl_fst (fun q a hq => State.conf_writeGroup r a hq (sub_parts hp (by decide)) (sub_regs hr (by decide))) h
  exact conf_ite (State.conf_loupeUe _ h1 (sub_parts hp (by decide)) (sub_regs hr (by decide))) h1

theorem State.conf_wipeRead {s0 s : State} {ps : List Part} {rs : Nat → Prop} (r : TankReq) (h : Confined s0 ps rs s) (hp : [.sset, .bumped, .caused, .queue, .fixer, .bank, .loupe, .mem] ⊆ ps) (hr : ∀ a ∈ [Reg.FIXER_FIXER_STATUS, Reg.FIXER_LASTING_COUNT, Reg.TANK_CE_ADDR, Reg.TANK_CE_COUNT, Reg.TANK_FOG_PASSES, Reg.TANK_FOG_SKIPS, Reg.TANK_TANK_STATUS, Reg.TANK_UE_ADDR, Reg.TANK_UE_COUNT], rs a) : Confined s0 ps rs (State.wipeRead s r) := by
  unfold State.wipeRead
  extract_lets struck
  split
  rename_i t bad e
  have h1 : Confined s0 ps rs t := State.conf_readGroups_eq _ _ _ e h (sub_parts hp (by decide)) (sub_regs hr (by decide))
  extract_lets n b t'
  have h2 : Confined s0 ps rs t' := (conf_upd h1 (by intro p hq; cases p <;> first | rfl | exact absurd (hp (by decide)) hq) (fun b _ => State.store_of_tables rfl rfl rfl b) (by intro hs; first | exact hs | (simp only [State.shaped] at hs ⊢; simp_all)))
  clear_value t'
  exact conf_ite h1 (conf_ite h2 (State.conf_afterWipe _ (State.conf_endWipe _ h2 (sub_parts hp (by decide)) (sub_regs hr (by decide))) (sub_parts hp (by decide)) (sub_regs hr (by decide))))

theorem State.conf_loupeAccess {s0 s : State} {ps : List Part} {rs : Nat → Prop} (a1 : Bool) (h : Confined s0 ps rs s) (hp : [.port, .loupe] ⊆ ps) (_hr : ∀ a ∈ ([] : List Nat), rs a) : Confined s0 ps rs (State.loupeAccess s a1) := by
  unfold State.loupeAccess
  repeat' (first
    | with_reducible assumption
    | with_reducible exact sub_parts hp (by decide)
    | with_reducible exact sub_parts _hp (by decide)
    | with_reducible exact sub_regs _hr (by decide)
    | (extract_lets +onlyGivenNames x
       first
         | (refine conf_cut (s0 := s0) (ps := ps) (rs := rs) (s := x) ?_ (fun _ => ?_); (focus unfold x); on_goal 2 => clear_value x)
         | (unfold x; clear x)
         | clear_value x)
    | (with_reducible refine conf_src rfl ?_ (fun p hq => ?_) (fun b _ => ?_) ?_
       on_goal 2 => cases p <;> first | with_reducible rfl | exact absurd (hp (by decide)) hq
       on_goal 2 => exact State.store_of_tables rfl rfl rfl b
       on_goal 2 => first | exact id | (intro hs; simp only [State.shaped] at hs ⊢; simp_all)))

theorem State.conf_tankAccess {s0 s : State} {ps : List Part} {rs : Nat → Prop} (r : TankReq) (h : Confined s0 ps rs s) (hp : [.sset, .bumped, .caused, .queue, .port, .fixer, .dev, .sheet, .bank, .loupe, .mem] ⊆ ps) (hr : ∀ a ∈ [Reg.FIXER_FIXER_STATUS, Reg.FIXER_LASTING_COUNT, Reg.SHEET_SHEET_STATUS, Reg.TANK_CE_ADDR, Reg.TANK_CE_COUNT, Reg.TANK_FOG_PASSES, Reg.TANK_FOG_SKIPS, Reg.TANK_TANK_STATUS, Reg.TANK_UE_ADDR, Reg.TANK_UE_COUNT], rs a) : Confined s0 ps rs (State.tankAccess s r) := by
  unfold State.tankAccess
  extract_lets w loupe s1 s2 s3 s4
  have h1 : Confined s0 ps rs s1 := State.conf_strike _ _ h (sub_parts hp (by decide)) (sub_regs hr (by decide))
  clear_value s1
  have h2 : Confined s0 ps rs s2 := conf_ite h1 (State.conf_fogYield _ h1 (sub_parts hp (by decide)) (sub_regs hr (by decide)))
  clear_value s2
  have h3 : Confined s0 ps rs s3 := conf_ite (State.conf_loupeAccess _ h2 (sub_parts hp (by decide)) (sub_regs hr (by decide))) h2
  clear_value s3
  have h4 : Confined s0 ps rs s4 := State.conf_writeGroups _ h3 (sub_parts hp (by decide)) (sub_regs hr (by decide))
  clear_value s4
  refine conf_ite h ?_
  split
  · refine conf_ite (State.conf_wipeRead _ h3 (sub_parts hp (by decide)) (sub_regs hr (by decide))) ?_
    split
    rename_i t bad e
    have h5 : Confined s0 ps rs (t.readLost r bad) := State.conf_readLost _ _ (State.conf_readGroups_eq _ _ _ e h3 (sub_parts hp (by decide)) (sub_regs hr (by decide))) (sub_parts hp (by decide)) (sub_regs hr (by decide))
    generalize t.readLost r bad = s5 at h5 ⊢
    refine conf_ite ?_ h5
    exact (conf_upd h5 (by intro p hq; cases p <;> first | rfl | exact absurd (hp (by decide)) hq) (fun b _ => State.store_of_tables rfl rfl rfl b) (by intro hs; first | exact hs | (simp only [State.shaped] at hs ⊢; simp_all)))
  · refine conf_ite (conf_foldl (fun u _ hu => ?_) h4) h4
    exact State.conf_putWord _ _ hu (sub_parts hp (by decide)) (sub_regs hr (by decide))

theorem State.conf_tankCycle {s0 s : State} {ps : List Part} {rs : Nat → Prop} (a1 : List TankReq) (h : Confined s0 ps rs s) (hp : [.sset, .bumped, .caused, .queue, .port, .fixer, .dev, .sheet, .bank, .loupe, .mem] ⊆ ps) (hr : ∀ a ∈ [Reg.FIXER_FIXER_STATUS, Reg.FIXER_LASTING_COUNT, Reg.SHEET_SHEET_STATUS, Reg.TANK_CE_ADDR, Reg.TANK_CE_COUNT, Reg.TANK_FOG_PASSES, Reg.TANK_FOG_SKIPS, Reg.TANK_TANK_STATUS, Reg.TANK_UE_ADDR, Reg.TANK_UE_COUNT], rs a) : Confined s0 ps rs (State.tankCycle s a1) := by
  unfold State.tankCycle
  repeat' (first
    | with_reducible assumption
    | with_reducible exact sub_parts hp (by decide)
    | with_reducible exact sub_parts _hp (by decide)
    | with_reducible exact sub_regs hr (by decide)
    | with_reducible exact hr _ (by decide)
    | intro _ _ _
    | with_reducible apply State.conf_busFault
    | with_reducible apply State.conf_tankAccess
    | (extract_lets +onlyGivenNames x
       first
         | (refine conf_cut (s0 := s0) (ps := ps) (rs := rs) (s := x) ?_ (fun _ => ?_); (focus unfold x); on_goal 2 => clear_value x)
         | (unfold x; clear x)
         | clear_value x)
    | with_reducible apply conf_ite
    | with_reducible apply conf_foldl
    | split)

theorem State.conf_atomic {s0 s : State} {ps : List Part} {rs : Nat → Prop} (word lane : Nat) (i : AtomicIn) (f : Word → Word) (h : Confined s0 ps rs s) (hp : [.sset, .bumped, .caused, .queue, .port, .fixer, .bank, .loupe, .mem, .free] ⊆ ps) (hr : ∀ a ∈ [Reg.FIXER_FIXER_STATUS, Reg.FIXER_LASTING_COUNT, Reg.TANK_CE_ADDR, Reg.TANK_CE_COUNT, Reg.TANK_FOG_PASSES, Reg.TANK_FOG_SKIPS, Reg.TANK_TANK_STATUS, Reg.TANK_UE_ADDR, Reg.TANK_UE_COUNT], rs a) :
    Confined s0 ps rs (State.atomic s word lane i f) := by
  unfold State.atomic
  extract_lets w s1
  with_reducible apply conf_ite
  · exact h
  with_reducible apply conf_ite
  · exact State.conf_busFault h (sub_parts hp (by decide)) (sub_regs hr (by decide))
  have h1 : Confined s0 ps rs s1 := State.conf_loupeAccess _ (State.conf_fogYield _ h (sub_parts hp (by decide)) (sub_regs hr (by decide))) (sub_parts hp (by decide)) (sub_regs hr (by decide))
  clear_value s1
  split
  rename_i s2 ue e
  have h2 : Confined s0 ps rs (s2.eccClear word (lane / 2)) :=
    State.conf_eccClear _ _ (State.conf_eccRead_eq _ _ _ e h1 (sub_parts hp (by decide)) (sub_regs hr (by decide))) (sub_parts hp (by decide)) (sub_regs hr (by decide))
  generalize s2.eccClear word (lane / 2) = s3 at h2 ⊢
  dsimp only
  with_reducible apply conf_ite
  · have h3 := State.conf_freeWord h2 (sub_parts hp (by decide)) (sub_regs hr (by decide))
    generalize s3.freeWord = q at h3 ⊢
    exact State.conf_loupeUe _ (State.conf_putWord _ _ (State.conf_putWord _ _ h3 (sub_parts hp (by decide)) (sub_regs hr (by decide))) (sub_parts hp (by decide)) (sub_regs hr (by decide))) (sub_parts hp (by decide)) (sub_regs hr (by decide))
  · have h3 : ∀ v, Confined s0 ps rs (s3.putWord w v) := fun v => State.conf_putWord _ _ h2 (sub_parts hp (by decide)) (sub_regs hr (by decide))
    generalize hg : s3.putWord w (f (s3.tank w)) = s4
    have h4 : Confined s0 ps rs s4 := hg ▸ h3 _
    exact (conf_upd h4 (by intro p hq; cases p <;> first | rfl | exact absurd (hp (by decide)) hq) (fun b _ => State.store_of_tables rfl rfl rfl b) (by intro hs; first | exact hs | (simp only [State.shaped] at hs ⊢; simp_all)))

theorem State.conf_windowRead {s0 s : State} {ps : List Part} {rs : Nat → Prop} (w : Nat) (h : Confined s0 ps rs s) (hp : [.sset, .bumped, .caused, .fixer, .bank, .free] ⊆ ps) (hr : ∀ a ∈ [Reg.FIXER_FIXER_STATUS, Reg.FIXER_LASTING_COUNT, Reg.TANK_CE_ADDR, Reg.TANK_CE_COUNT, Reg.TANK_FOG_PASSES, Reg.TANK_FOG_SKIPS, Reg.TANK_TANK_STATUS, Reg.TANK_UE_ADDR, Reg.TANK_UE_COUNT], rs a) : Confined s0 ps rs (State.windowRead s w).2 := by
  unfold State.windowRead
  have h1 := State.conf_eccRead (w / 8) (w % 8 / 2) 6 (State.conf_fogYield (w / 8) h (sub_parts hp (by decide)) (sub_regs hr (by decide))) (sub_parts hp (by decide)) (sub_regs hr (by decide))
  dsimp only
  split
  · exact State.conf_freeWord h1 (sub_parts hp (by decide)) (sub_regs hr (by decide))
  · exact h1

theorem State.conf_windowRead_eq {s0 s t : State} {ps : List Part} {rs : Nat → Prop} (a1 : Nat) {x : Word} (e : State.windowRead s a1 = (x, t)) (h : Confined s0 ps rs s) (hp : [.sset, .bumped, .caused, .fixer, .bank, .free] ⊆ ps) (hr : ∀ a ∈ [Reg.FIXER_FIXER_STATUS, Reg.FIXER_LASTING_COUNT, Reg.TANK_CE_ADDR, Reg.TANK_CE_COUNT, Reg.TANK_FOG_PASSES, Reg.TANK_FOG_SKIPS, Reg.TANK_TANK_STATUS, Reg.TANK_UE_ADDR, Reg.TANK_UE_COUNT], rs a) : Confined s0 ps rs t := by
  have := State.conf_windowRead a1 h hp hr
  rwa [e] at this


theorem State.conf_latentRead {s0 s t : State} {ps : List Part} {rs : Nat → Prop} {w : Nat} {v : Word} (h : Confined s0 ps rs s) (hp : [.sset, .bumped, .caused, .fixer, .bank, .free] ⊆ ps) (hr : ∀ a ∈ [Reg.FIXER_FIXER_STATUS, Reg.FIXER_LASTING_COUNT, Reg.LATENT_LAT_STATUS, Reg.TANK_CE_ADDR, Reg.TANK_CE_COUNT, Reg.TANK_FOG_PASSES, Reg.TANK_FOG_SKIPS, Reg.TANK_TANK_STATUS, Reg.TANK_UE_ADDR, Reg.TANK_UE_COUNT], rs a)
    (e : State.latentRead s w = some (v, t)) : Confined s0 ps rs t := by
  unfold State.latentRead at e
  obtain ⟨p, -, e⟩ := Option.map_eq_some_iff.mp e
  have hw := State.conf_windowRead p.1 h (sub_parts hp (by decide)) (sub_regs hr (by decide))
  dsimp only at e
  split at e
  · split at e
    · obtain ⟨-, rfl⟩ := Prod.mk.inj e
      exact State.conf_raise _ _ _ _ (State.conf_setFlag _ _ hw (sub_parts hp (by decide)) (hr _ (by decide))) (sub_parts hp (by decide)) (sub_regs hr (by decide))
    · rwa [e] at hw
  · rwa [e] at hw

end Sys2Proof.Machine
end

