-- ==== Sys2Proof/Laws/ConfLoupe.lean ====
section
/-! SUPPORT. What every operation of Machine/Loupe.lean is confined to: the parts of the state and the registers it can change. -/

set_option linter.unusedTactic false
set_option linter.unreachableTactic false
set_option linter.unusedVariables false
set_option linter.tactic.unusedName false

namespace Sys2Proof.Machine

theorem State.conf_blankSensors {s0 s : State} {ps : List Part} {rs : Nat → Prop}  (h : Confined s0 ps rs s) (hp : [.loupe] ⊆ ps) (hr : ∀ a ∈ [Reg.LOUPE_SUPPLY_0, Reg.LOUPE_SUPPLY_1, Reg.LOUPE_SUPPLY_2, Reg.LOUPE_TEMP_01, Reg.LOUPE_TEMP_23], rs a) : Confined s0 ps rs (State.blankSensors s) := by
  unfold State.blankSensors
  repeat' (first
    | with_reducible assumption
    | with_reducible exact sub_parts hp (by decide)
    | with_reducible exact sub_parts _hp (by decide)
    | with_reducible exact sub_regs hr (by decide)
    | with_reducible exact hr _ (by decide)
    | with_reducible apply State.conf_setReg
    | (extract_lets +onlyGivenNames x
       first
         | (refine conf_cut (s0 := s0) (ps := ps) (rs := rs) (s := x) ?_ (fun _ => ?_); (focus unfold x); on_goal 2 => clear_value x)
         | (unfold x; clear x)
         | clear_value x)
    | (with_reducible refine conf_src rfl ?_ (fun p hq => ?_) (fun b _ => ?_) ?_
       on_goal 2 => cases p <;> first | with_reducible rfl | exact absurd (hp (by decide)) hq
       on_goal 2 => exact State.store_of_tables rfl rfl rfl b
       on_goal 2 => first | exact id | (intro hs; simp only [State.shaped] at hs ⊢; simp_all)))

theorem State.conf_dropPatch {s0 s : State} {ps : List Part} {rs : Nat → Prop}  (h : Confined s0 ps rs s) (hp : [.loupe] ⊆ ps) (hr : ∀ a ∈ [Reg.LOUPE_PATCH_INFO], rs a) : Confined s0 ps rs (State.dropPatch s) := by
  unfold State.dropPatch
  repeat' (first
    | with_reducible assumption
    | with_reducible exact sub_parts hp (by decide)
    | with_reducible exact sub_parts _hp (by decide)
    | with_reducible exact sub_regs hr (by decide)
    | with_reducible exact hr _ (by decide)
    | with_reducible apply State.conf_setReg
    | (extract_lets +onlyGivenNames x
       first
         | (refine conf_cut (s0 := s0) (ps := ps) (rs := rs) (s := x) ?_ (fun _ => ?_); (focus unfold x); on_goal 2 => clear_value x)
         | (unfold x; clear x)
         | clear_value x)
    | (with_reducible refine conf_src rfl ?_ (fun p hq => ?_) (fun b _ => ?_) ?_
       on_goal 2 => cases p <;> first | with_reducible rfl | exact absurd (hp (by decide)) hq
       on_goal 2 => exact State.store_of_tables rfl rfl rfl b
       on_goal 2 => first | exact id | (intro hs; simp only [State.shaped] at hs ⊢; simp_all)))

theorem State.conf_startLoupe {s0 s : State} {ps : List Part} {rs : Nat → Prop}  (h : Confined s0 ps rs s) (hp : [.mode, .loupe] ⊆ ps) (hr : ∀ a ∈ [Reg.LOUPE_SUPPLY_0, Reg.LOUPE_SUPPLY_1, Reg.LOUPE_SUPPLY_2, Reg.LOUPE_TEMP_01, Reg.LOUPE_TEMP_23], rs a) : Confined s0 ps rs (State.startLoupe s) := by
  unfold State.startLoupe
  repeat' (first
    | with_reducible assumption
    | with_reducible exact sub_parts hp (by decide)
    | with_reducible exact sub_parts _hp (by decide)
    | with_reducible exact sub_regs hr (by decide)
    | with_reducible exact hr _ (by decide)
    | with_reducible apply State.conf_blankSensors
    | (extract_lets +onlyGivenNames x
       first
         | (refine conf_cut (s0 := s0) (ps := ps) (rs := rs) (s := x) ?_ (fun _ => ?_); (focus unfold x); on_goal 2 => clear_value x)
         | (unfold x; clear x)
         | clear_value x)
    | with_reducible apply conf_ite
    | split
    | (with_reducible refine conf_src rfl ?_ (fun p hq => ?_) (fun b _ => ?_) ?_
       on_goal 2 => cases p <;> first | with_reducible rfl | exact absurd (hp (by decide)) hq
       on_goal 2 => exact State.store_of_tables rfl rfl rfl b
       on_goal 2 => first | exact id | (intro hs; simp only [State.shaped] at hs ⊢; simp_all)))

theorem State.conf_copyKeys {s0 s : State} {ps : List Part} {rs : Nat → Prop}  (h : Confined s0 ps rs s) (hp : [.sset, .bumped, .caused, .queue, .fixer, .bank, .mem] ⊆ ps) (hr : ∀ a ∈ [Reg.FIXER_FIXER_STATUS, Reg.FIXER_LASTING_COUNT, Reg.TANK_CE_ADDR, Reg.TANK_CE_COUNT, Reg.TANK_FOG_PASSES, Reg.TANK_FOG_SKIPS, Reg.TANK_TANK_STATUS, Reg.TANK_UE_ADDR, Reg.TANK_UE_COUNT], rs a) : Confined s0 ps rs (State.copyKeys s) := by
  unfold State.copyKeys
  repeat' (first
    | with_reducible assumption
    | with_reducible exact sub_parts hp (by decide)
    | with_reducible exact sub_parts _hp (by decide)
    | with_reducible exact sub_regs hr (by decide)
    | with_reducible exact hr _ (by decide)
    | intro _ _ _
    | with_reducible apply State.conf_storeLane
    | with_reducible apply conf_ite
    | with_reducible apply conf_foldl
    | split)

theorem State.conf_loupeReady {s0 s : State} {ps : List Part} {rs : Nat → Prop}  (h : Confined s0 ps rs s) (hp : [.sset, .bumped, .caused, .queue, .fixer, .bank, .mode, .loupe, .mem] ⊆ ps) (hr : ∀ a ∈ [Reg.FIXER_FIXER_STATUS, Reg.FIXER_LASTING_COUNT, Reg.TANK_CE_ADDR, Reg.TANK_CE_COUNT, Reg.TANK_FOG_PASSES, Reg.TANK_FOG_SKIPS, Reg.TANK_TANK_STATUS, Reg.TANK_UE_ADDR, Reg.TANK_UE_COUNT], rs a) : Confined s0 ps rs (State.loupeReady s) := by
  unfold State.loupeReady
  repeat' (first
    | with_reducible assumption
    | with_reducible exact sub_parts hp (by decide)
    | with_reducible exact sub_parts _hp (by decide)
    | with_reducible exact sub_regs hr (by decide)
    | with_reducible exact hr _ (by decide)
    | with_reducible apply State.conf_copyKeys
    | (extract_lets +onlyGivenNames x
       first
         | (refine conf_cut (s0 := s0) (ps := ps) (rs := rs) (s := x) ?_ (fun _ => ?_); (focus unfold x); on_goal 2 => clear_value x)
         | (unfold x; clear x)
         | clear_value x)
    | with_reducible apply conf_ite
    | split
    | (with_reducible refine conf_src rfl ?_ (fun p hq => ?_) (fun b _ => ?_) ?_
       on_goal 2 => cases p <;> first | with_reducible rfl | exact absurd (hp (by decide)) hq
       on_goal 2 => exact State.store_of_tables rfl rfl rfl b
       on_goal 2 => first | exact id | (intro hs; simp only [State.shaped] at hs ⊢; simp_all)))

theorem State.conf_loupeToSafe {s0 s : State} {ps : List Part} {rs : Nat → Prop} (h : Confined s0 ps rs s) (hp : [.fixer, .mode, .loupe] ⊆ ps) (hr : ∀ a ∈ [Reg.LOUPE_PATCH_INFO], rs a) : Confined s0 ps rs (State.loupeToSafe s) := by
  unfold State.loupeToSafe
  extract_lets late keep s1 lp s2 s3
  have h1 : Confined s0 ps rs s1 := conf_ite (State.conf_raise _ _ _ _ h (sub_parts hp (by decide)) (sub_regs hr (by decide))) h
  clear_value s1
  have h2 : Confined s0 ps rs s2 := by
    unfold s2
    with_reducible apply conf_ite
    · exact (conf_upd h1 (by intro p hq; cases p <;> first | rfl | exact absurd (hp (by decide)) hq) (fun b _ => State.store_of_tables rfl rfl rfl b) (by intro hs; first | exact hs | (simp only [State.shaped] at hs ⊢; simp_all)))
    · exact h1
  clear_value s2
  have h3 : Confined s0 ps rs s3 := State.conf_dropPatch h2 (sub_parts hp (by decide)) (sub_regs hr (by decide))
  clear_value s3
  exact (conf_upd h3 (by intro p hq; cases p <;> first | rfl | exact absurd (hp (by decide)) hq) (fun b _ => State.store_of_tables rfl rfl rfl b) (by intro hs; first | exact hs | (simp only [State.shaped] at hs ⊢; simp_all)))

theorem State.conf_loupeCancel {s0 s : State} {ps : List Part} {rs : Nat → Prop}  (h : Confined s0 ps rs s) (hp : [.mode, .loupe] ⊆ ps) (hr : ∀ a ∈ [Reg.LOUPE_PATCH_INFO, Reg.LOUPE_SUPPLY_0, Reg.LOUPE_SUPPLY_1, Reg.LOUPE_SUPPLY_2, Reg.LOUPE_TEMP_01, Reg.LOUPE_TEMP_23], rs a) : Confined s0 ps rs (State.loupeCancel s) := by
  unfold State.loupeCancel
  repeat' (first
    | with_reducible assumption
    | with_reducible exact sub_parts hp (by decide)
    | with_reducible exact sub_parts _hp (by decide)
    | with_reducible exact sub_regs hr (by decide)
    | with_reducible exact hr _ (by decide)
    | with_reducible apply State.conf_dropPatch
    | with_reducible apply State.conf_startLoupe
    | (extract_lets +onlyGivenNames x
       first
         | (refine conf_cut (s0 := s0) (ps := ps) (rs := rs) (s := x) ?_ (fun _ => ?_); (focus unfold x); on_goal 2 => clear_value x)
         | (unfold x; clear x)
         | clear_value x)
    | (with_reducible refine conf_src rfl ?_ (fun p hq => ?_) (fun b _ => ?_) ?_
       on_goal 2 => cases p <;> first | with_reducible rfl | exact absurd (hp (by decide)) hq
       on_goal 2 => exact State.store_of_tables rfl rfl rfl b
       on_goal 2 => first | exact id | (intro hs; simp only [State.shaped] at hs ⊢; simp_all)))

theorem State.conf_restartBase {s0 s : State} {ps : List Part} {rs : Nat → Prop}  (h : Confined s0 ps rs s) (hp : [.fixer, .mode, .loupe] ⊆ ps) (hr : ∀ a ∈ [Reg.LOUPE_PATCH_INFO, Reg.LOUPE_SUPPLY_0, Reg.LOUPE_SUPPLY_1, Reg.LOUPE_SUPPLY_2, Reg.LOUPE_TEMP_01, Reg.LOUPE_TEMP_23], rs a) : Confined s0 ps rs (State.restartBase s) := by
  unfold State.restartBase
  repeat' (first
    | with_reducible assumption
    | with_reducible exact sub_parts hp (by decide)
    | with_reducible exact sub_parts _hp (by decide)
    | with_reducible exact sub_regs hr (by decide)
    | with_reducible exact hr _ (by decide)
    | with_reducible apply State.conf_startLoupe
    | with_reducible apply State.conf_dropPatch
    | (extract_lets +onlyGivenNames x
       first
         | (refine conf_cut (s0 := s0) (ps := ps) (rs := rs) (s := x) ?_ (fun _ => ?_); (focus unfold x); on_goal 2 => clear_value x)
         | (unfold x; clear x)
         | clear_value x)
    | (with_reducible refine conf_src rfl ?_ (fun p hq => ?_) (fun b _ => ?_) ?_
       on_goal 2 => cases p <;> first | with_reducible rfl | exact absurd (hp (by decide)) hq
       on_goal 2 => exact State.store_of_tables rfl rfl rfl b
       on_goal 2 => first | exact id | (intro hs; simp only [State.shaped] at hs ⊢; simp_all)))

theorem State.conf_abandonVerify {s0 s : State} {ps : List Part} {rs : Nat → Prop}  (h : Confined s0 ps rs s) (hp : [.sset, .bumped, .caused, .fixer, .loupe] ⊆ ps) (hr : ∀ a ∈ [Reg.LOUPE_LOUPE_STATUS, Reg.LOUPE_PATCH_FAILS, Reg.LOUPE_PATCH_INFO], rs a) : Confined s0 ps rs (State.abandonVerify s) := by
  unfold State.abandonVerify
  repeat' (first
    | with_reducible assumption
    | with_reducible exact sub_parts hp (by decide)
    | with_reducible exact sub_parts _hp (by decide)
    | with_reducible exact sub_regs hr (by decide)
    | with_reducible exact hr _ (by decide)
    | with_reducible apply State.conf_setFlag
    | with_reducible apply State.conf_countSat
    | with_reducible apply State.conf_raise
    | with_reducible apply State.conf_dropPatch
    | with_reducible apply conf_ite
    | split)

theorem State.conf_makeWipe {s0 s : State} {ps : List Part} {rs : Nat → Prop} (a1 : Nat) (h : Confined s0 ps rs s) (hp : [.sset, .bumped, .caused, .fixer, .bank, .mode, .loupe] ⊆ ps) (hr : ∀ a ∈ [Reg.LOUPE_LOUPE_STATUS, Reg.LOUPE_PATCH_FAILS, Reg.LOUPE_PATCH_INFO, Reg.LOUPE_SUPPLY_0, Reg.LOUPE_SUPPLY_1, Reg.LOUPE_SUPPLY_2, Reg.LOUPE_TEMP_01, Reg.LOUPE_TEMP_23], rs a) : Confined s0 ps rs (State.makeWipe s a1) := by
  unfold State.makeWipe
  repeat' (first
    | with_reducible assumption
    | with_reducible exact sub_parts hp (by decide)
    | with_reducible exact sub_parts _hp (by decide)
    | with_reducible exact sub_regs hr (by decide)
    | with_reducible exact hr _ (by decide)
    | with_reducible apply State.conf_pendWipe
    | with_reducible apply State.conf_abandonVerify
    | with_reducible apply State.conf_restartBase
    | with_reducible apply State.conf_dropPatch
    | (extract_lets +onlyGivenNames x
       first
         | (refine conf_cut (s0 := s0) (ps := ps) (rs := rs) (s := x) ?_ (fun _ => ?_); (focus unfold x); on_goal 2 => clear_value x)
         | (unfold x; clear x)
         | clear_value x)
    | with_reducible apply conf_ite
    | split)

theorem State.conf_tjWarn {s0 s : State} {ps : List Part} {rs : Nat → Prop} (a1 : List Int) (a2 : Nat) (h : Confined s0 ps rs s) (hp : [.sset, .bumped, .caused, .fixer, .loupe] ⊆ ps) (hr : ∀ a ∈ [Reg.LOUPE_LOUPE_STATUS], rs a) : Confined s0 ps rs (State.tjWarn s a1 a2) := by
  unfold State.tjWarn
  repeat' (first
    | with_reducible assumption
    | with_reducible exact sub_parts hp (by decide)
    | with_reducible exact sub_parts _hp (by decide)
    | with_reducible exact sub_regs hr (by decide)
    | with_reducible exact hr _ (by decide)
    | with_reducible apply State.conf_setFlag
    | with_reducible apply State.conf_raise
    | (extract_lets +onlyGivenNames x
       first
         | (refine conf_cut (s0 := s0) (ps := ps) (rs := rs) (s := x) ?_ (fun _ => ?_); (focus unfold x); on_goal 2 => clear_value x)
         | (unfold x; clear x)
         | clear_value x)
    | with_reducible apply conf_ite
    | split
    | (with_reducible refine conf_src rfl ?_ (fun p hq => ?_) (fun b _ => ?_) ?_
       on_goal 2 => cases p <;> first | with_reducible rfl | exact absurd (hp (by decide)) hq
       on_goal 2 => exact State.store_of_tables rfl rfl rfl b
       on_goal 2 => first | exact id | (intro hs; simp only [State.shaped] at hs ⊢; simp_all)))

theorem State.conf_tickTj {s0 s : State} {ps : List Part} {rs : Nat → Prop} (a1 : TickIn) (h : Confined s0 ps rs s) (hp : [.sset, .bumped, .caused, .fixer, .loupe] ⊆ ps) (hr : ∀ a ∈ [Reg.LOUPE_LOUPE_STATUS], rs a) : Confined s0 ps rs (State.tickTj s a1) := by
  unfold State.tickTj
  repeat' (first
    | with_reducible assumption
    | with_reducible exact sub_parts hp (by decide)
    | with_reducible exact sub_parts _hp (by decide)
    | with_reducible exact sub_regs hr (by decide)
    | with_reducible exact hr _ (by decide)
    | with_reducible apply State.conf_tjWarn
    | (extract_lets +onlyGivenNames x
       first
         | (refine conf_cut (s0 := s0) (ps := ps) (rs := rs) (s := x) ?_ (fun _ => ?_); (focus unfold x); on_goal 2 => clear_value x)
         | (unfold x; clear x)
         | clear_value x)
    | with_reducible apply conf_ite
    | split
    | (with_reducible refine conf_src rfl ?_ (fun p hq => ?_) (fun b _ => ?_) ?_
       on_goal 2 => cases p <;> first | with_reducible rfl | exact absurd (hp (by decide)) hq
       on_goal 2 => exact State.store_of_tables rfl rfl rfl b
       on_goal 2 => first | exact id | (intro hs; simp only [State.shaped] at hs ⊢; simp_all)))

theorem State.conf_tjTrip {s0 s : State} {ps : List Part} {rs : Nat → Prop} (a1 : Nat) (h : Confined s0 ps rs s) (hp : [.sset, .bumped, .caused, .fixer, .loupe] ⊆ ps) (hr : ∀ a ∈ [Reg.LOUPE_LOUPE_STATUS, Reg.PRINT_MASTER_A, Reg.PRINT_MASTER_B], rs a) : Confined s0 ps rs (State.tjTrip s a1) := by
  unfold State.tjTrip
  repeat' (first
    | with_reducible assumption
    | with_reducible exact sub_parts hp (by decide)
    | with_reducible exact sub_parts _hp (by decide)
    | with_reducible exact sub_regs hr (by decide)
    | with_reducible exact hr _ (by decide)
    | with_reducible apply State.conf_setPair
    | with_reducible apply State.conf_setFlag
    | with_reducible apply State.conf_raise
    | (extract_lets +onlyGivenNames x
       first
         | (refine conf_cut (s0 := s0) (ps := ps) (rs := rs) (s := x) ?_ (fun _ => ?_); (focus unfold x); on_goal 2 => clear_value x)
         | (unfold x; clear x)
         | clear_value x)
    | (with_reducible refine conf_src rfl ?_ (fun p hq => ?_) (fun b _ => ?_) ?_
       on_goal 2 => cases p <;> first | with_reducible rfl | exact absurd (hp (by decide)) hq
       on_goal 2 => exact State.store_of_tables rfl rfl rfl b
       on_goal 2 => first | exact id | (intro hs; simp only [State.shaped] at hs ⊢; simp_all)))

theorem State.conf_judgeSupply {s0 s : State} {ps : List Part} {rs : Nat → Prop} (a0 : Sensors) (a2 : Nat) (h : Confined s0 ps rs s) (hp : [.fixer, .loupe] ⊆ ps) (_hr : ∀ a ∈ ([] : List Nat), rs a) : Confined s0 ps rs (State.judgeSupply a0 s a2) := by
  unfold State.judgeSupply
  repeat' (first
    | with_reducible assumption
    | with_reducible exact sub_parts hp (by decide)
    | with_reducible exact sub_parts _hp (by decide)
    | with_reducible exact sub_regs _hr (by decide)
    | with_reducible apply State.conf_raise
    | (extract_lets +onlyGivenNames x
       first
         | (refine conf_cut (s0 := s0) (ps := ps) (rs := rs) (s := x) ?_ (fun _ => ?_); (focus unfold x); on_goal 2 => clear_value x)
         | (unfold x; clear x)
         | clear_value x)
    | with_reducible apply conf_ite
    | split
    | (with_reducible refine conf_src rfl ?_ (fun p hq => ?_) (fun b _ => ?_) ?_
       on_goal 2 => cases p <;> first | with_reducible rfl | exact absurd (hp (by decide)) hq
       on_goal 2 => exact State.store_of_tables rfl rfl rfl b
       on_goal 2 => first | exact id | (intro hs; simp only [State.shaped] at hs ⊢; simp_all)))

theorem State.conf_takeSensors {s0 s : State} {ps : List Part} {rs : Nat → Prop} (a1 : Sensors) (h : Confined s0 ps rs s) (hp : [.sset, .bumped, .caused, .fixer, .loupe] ⊆ ps) (hr : ∀ a ∈ [Reg.LOUPE_LOUPE_STATUS, Reg.LOUPE_SUPPLY_0, Reg.LOUPE_SUPPLY_1, Reg.LOUPE_SUPPLY_2, Reg.LOUPE_TEMP_01, Reg.LOUPE_TEMP_23], rs a) : Confined s0 ps rs (State.takeSensors s a1) := by
  unfold State.takeSensors
  repeat' (first
    | with_reducible assumption
    | with_reducible exact sub_parts hp (by decide)
    | with_reducible exact sub_parts _hp (by decide)
    | with_reducible exact sub_regs hr (by decide)
    | with_reducible exact hr _ (by decide)
    | intro _ _ _
    | with_reducible apply State.conf_setReg
    | with_reducible apply State.conf_judgeSupply
    | with_reducible apply State.conf_tjWarn
    | (extract_lets +onlyGivenNames x
       first
         | (refine conf_cut (s0 := s0) (ps := ps) (rs := rs) (s := x) ?_ (fun _ => ?_); (focus unfold x); on_goal 2 => clear_value x)
         | (unfold x; clear x)
         | clear_value x)
    | with_reducible apply conf_foldl
    | (with_reducible refine conf_src rfl ?_ (fun p hq => ?_) (fun b _ => ?_) ?_
       on_goal 2 => cases p <;> first | with_reducible rfl | exact absurd (hp (by decide)) hq
       on_goal 2 => exact State.store_of_tables rfl rfl rfl b
       on_goal 2 => first | exact id | (intro hs; simp only [State.shaped] at hs ⊢; simp_all)))

theorem State.conf_noteFrameLen {s0 s : State} {ps : List Part} {rs : Nat → Prop} (a1 : Nat) (h : Confined s0 ps rs s) (hp : [.loupe] ⊆ ps) (hr : ∀ a ∈ [Reg.LOUPE_FRAME_LEN], rs a) : Confined s0 ps rs (State.noteFrameLen s a1) := by
  unfold State.noteFrameLen
  repeat' (first
    | with_reducible assumption
    | with_reducible exact sub_parts hp (by decide)
    | with_reducible exact sub_parts _hp (by decide)
    | with_reducible exact sub_regs hr (by decide)
    | with_reducible exact hr _ (by decide)
    | with_reducible apply State.conf_setReg
    | (extract_lets +onlyGivenNames x
       first
         | (refine conf_cut (s0 := s0) (ps := ps) (rs := rs) (s := x) ?_ (fun _ => ?_); (focus unfold x); on_goal 2 => clear_value x)
         | (unfold x; clear x)
         | clear_value x)
    | with_reducible apply conf_ite
    | split
    | (with_reducible refine conf_src rfl ?_ (fun p hq => ?_) (fun b _ => ?_) ?_
       on_goal 2 => cases p <;> first | with_reducible rfl | exact absurd (hp (by decide)) hq
       on_goal 2 => exact State.store_of_tables rfl rfl rfl b
       on_goal 2 => first | exact id | (intro hs; simp only [State.shaped] at hs ⊢; simp_all)))

theorem State.conf_mbxPass {s0 s : State} {ps : List Part} {rs : Nat → Prop} (a1 : Nat) (h : Confined s0 ps rs s) (hp : [.loupe] ⊆ ps) (_hr : ∀ a ∈ ([] : List Nat), rs a) : Confined s0 ps rs (State.mbxPass s a1) := by
  unfold State.mbxPass
  repeat' (first
    | with_reducible assumption
    | with_reducible exact sub_parts hp (by decide)
    | with_reducible exact sub_parts _hp (by decide)
    | with_reducible exact sub_regs _hr (by decide)
    | (extract_lets +onlyGivenNames x
       first
         | (refine conf_cut (s0 := s0) (ps := ps) (rs := rs) (s := x) ?_ (fun _ => ?_); (focus unfold x); on_goal 2 => clear_value x)
         | (unfold x; clear x)
         | clear_value x)
    | (with_reducible refine conf_src rfl ?_ (fun p hq => ?_) (fun b _ => ?_) ?_
       on_goal 2 => cases p <;> first | with_reducible rfl | exact absurd (hp (by decide)) hq
       on_goal 2 => exact State.store_of_tables rfl rfl rfl b
       on_goal 2 => first | exact id | (intro hs; simp only [State.shaped] at hs ⊢; simp_all)))

theorem State.conf_mbxResult {s0 s : State} {ps : List Part} {rs : Nat → Prop} (a1 : Nat) (a2 : Word) (a3 : Word) (h : Confined s0 ps rs s) (hp : [.sset, .bumped, .caused, .fixer, .bank, .free] ⊆ ps) (hr : ∀ a ∈ [Reg.TANK_FOG_PASSES, Reg.TANK_FOG_SKIPS, Reg.TANK_TANK_STATUS], rs a) : Confined s0 ps rs (State.mbxResult s a1 a2 a3).2 := by
  unfold State.mbxResult
  repeat' (first
    | with_reducible assumption
    | with_reducible exact sub_parts hp (by decide)
    | with_reducible exact sub_parts _hp (by decide)
    | with_reducible exact sub_regs hr (by decide)
    | with_reducible exact hr _ (by decide)
    | with_reducible apply State.conf_freeWord
    | with_reducible refine State.conf_freeWord_eq (by with_reducible assumption) ?_ ?_ ?_
    | with_reducible apply State.conf_fogSpan
    | (extract_lets +onlyGivenNames x
       first
         | (refine conf_cut (s0 := s0) (ps := ps) (rs := rs) (s := x) ?_ (fun _ => ?_); (focus unfold x); on_goal 2 => clear_value x)
         | (unfold x; clear x)
         | clear_value x)
    | with_reducible apply conf_ite
    | split
    | (with_reducible refine conf_src rfl ?_ (fun p hq => ?_) (fun b _ => ?_) ?_
       on_goal 2 => cases p <;> first | with_reducible rfl | exact absurd (hp (by decide)) hq
       on_goal 2 => exact State.store_of_tables rfl rfl rfl b
       on_goal 2 => first | exact id | (intro hs; simp only [State.shaped] at hs ⊢; simp_all)))

theorem State.conf_mbxResult_eq {s0 s t : State} {ps : List Part} {rs : Nat → Prop} (a1 : Nat) (a2 : Word) (a3 : Word) {x : Word} (e : State.mbxResult s a1 a2 a3 = (x, t)) (h : Confined s0 ps rs s) (hp : [.sset, .bumped, .caused, .fixer, .bank, .free] ⊆ ps) (hr : ∀ a ∈ [Reg.TANK_FOG_PASSES, Reg.TANK_FOG_SKIPS, Reg.TANK_TANK_STATUS], rs a) : Confined s0 ps rs t := by
  have := State.conf_mbxResult a1 a2 a3 h hp hr
  rwa [e] at this

theorem State.conf_mbxDone {s0 s : State} {ps : List Part} {rs : Nat → Prop} (patch : Word) (snap : Sensors) (h : Confined s0 ps rs s) (hp : [.sset, .bumped, .caused, .fixer, .bank, .loupe, .free] ⊆ ps) (hr : ∀ a ∈ [Reg.LOUPE_LOUPE_STATUS, Reg.LOUPE_MBX_RESULT, Reg.LOUPE_SUPPLY_0, Reg.LOUPE_SUPPLY_1, Reg.LOUPE_SUPPLY_2, Reg.LOUPE_TEMP_01, Reg.LOUPE_TEMP_23, Reg.TANK_FOG_PASSES, Reg.TANK_FOG_SKIPS, Reg.TANK_TANK_STATUS], rs a) : Confined s0 ps rs (State.mbxDone s patch snap) := by
  unfold State.mbxDone
  split
  · exact h
  · rename_i op arg _
    have h1 : Confined s0 ps rs (if op = 1 then s.takeSensors snap else s) := conf_ite (State.conf_takeSensors _ h (sub_parts hp (by decide)) (sub_regs hr (by decide))) h
    generalize (if op = 1 then s.takeSensors snap else s) = s1 at h1 ⊢
    dsimp only
    have h2 := State.conf_mbxResult op arg patch h1 (sub_parts hp (by decide)) (sub_regs hr (by decide))
    generalize s1.mbxResult op arg patch = q at h2 ⊢
    have h3 := State.conf_setReg Reg.LOUPE_MBX_RESULT q.1 h2 (hr _ (by decide))
    refine State.conf_setFlag _ _ ?_ (sub_parts hp (by decide)) (hr _ (by decide))
    exact (conf_upd h3 (by intro p hq; cases p <;> first | rfl | exact absurd (hp (by decide)) hq) (fun b _ => State.store_of_tables rfl rfl rfl b) (by intro hs; first | exact hs | (simp only [State.shaped] at hs ⊢; simp_all)))

theorem State.conf_enterPatch {s0 s : State} {ps : List Part} {rs : Nat → Prop}  (h : Confined s0 ps rs s) (hp : [.sset, .bumped, .caused, .fixer, .loupe] ⊆ ps) (hr : ∀ a ∈ [Reg.LOUPE_LOUPE_STATUS, Reg.LOUPE_PATCH_INFO], rs a) : Confined s0 ps rs (State.enterPatch s) := by
  unfold State.enterPatch
  repeat' (first
    | with_reducible assumption
    | with_reducible exact sub_parts hp (by decide)
    | with_reducible exact sub_parts _hp (by decide)
    | with_reducible exact sub_regs hr (by decide)
    | with_reducible exact hr _ (by decide)
    | with_reducible apply State.conf_setReg
    | with_reducible apply State.conf_setFlag
    | with_reducible apply State.conf_raise
    | (extract_lets +onlyGivenNames x
       first
         | (refine conf_cut (s0 := s0) (ps := ps) (rs := rs) (s := x) ?_ (fun _ => ?_); (focus unfold x); on_goal 2 => clear_value x)
         | (unfold x; clear x)
         | clear_value x)
    | (with_reducible refine conf_src rfl ?_ (fun p hq => ?_) (fun b _ => ?_) ?_
       on_goal 2 => cases p <;> first | with_reducible rfl | exact absurd (hp (by decide)) hq
       on_goal 2 => exact State.store_of_tables rfl rfl rfl b
       on_goal 2 => first | exact id | (intro hs; simp only [State.shaped] at hs ⊢; simp_all)))

theorem State.conf_patchBad {s0 s : State} {ps : List Part} {rs : Nat → Prop} (a1 : Nat) (h : Confined s0 ps rs s) (hp : [.sset, .bumped, .caused, .fixer, .loupe] ⊆ ps) (hr : ∀ a ∈ [Reg.LOUPE_LOUPE_STATUS, Reg.LOUPE_PATCH_FAILS, Reg.LOUPE_PATCH_INFO], rs a) : Confined s0 ps rs (State.patchBad s a1) := by
  unfold State.patchBad
  repeat' (first
    | with_reducible assumption
    | with_reducible exact sub_parts hp (by decide)
    | with_reducible exact sub_parts _hp (by decide)
    | with_reducible exact sub_regs hr (by decide)
    | with_reducible exact hr _ (by decide)
    | with_reducible apply State.conf_dropPatch
    | with_reducible apply State.conf_setFlag
    | with_reducible apply State.conf_countSat
    | with_reducible apply State.conf_raise
    | (extract_lets +onlyGivenNames x
       first
         | (refine conf_cut (s0 := s0) (ps := ps) (rs := rs) (s := x) ?_ (fun _ => ?_); (focus unfold x); on_goal 2 => clear_value x)
         | (unfold x; clear x)
         | clear_value x))

theorem State.conf_verifyDone {s0 s : State} {ps : List Part} {rs : Nat → Prop}  (h : Confined s0 ps rs s) (hp : [.sset, .bumped, .caused, .fixer, .bank, .loupe] ⊆ ps) (hr : ∀ a ∈ [Reg.LOUPE_LOUPE_STATUS, Reg.LOUPE_PATCH_FAILS, Reg.LOUPE_PATCH_INFO, Reg.TANK_FOG_PASSES, Reg.TANK_FOG_SKIPS, Reg.TANK_TANK_STATUS], rs a) : Confined s0 ps rs (State.verifyDone s) := by
  unfold State.verifyDone
  repeat' (first
    | with_reducible assumption
    | with_reducible exact sub_parts hp (by decide)
    | with_reducible exact sub_parts _hp (by decide)
    | with_reducible exact sub_regs hr (by decide)
    | with_reducible exact hr _ (by decide)
    | with_reducible apply State.conf_fogSpan
    | with_reducible apply State.conf_patchBad
    | with_reducible apply State.conf_enterPatch
    | (extract_lets +onlyGivenNames x
       first
         | (refine conf_cut (s0 := s0) (ps := ps) (rs := rs) (s := x) ?_ (fun _ => ?_); (focus unfold x); on_goal 2 => clear_value x)
         | (unfold x; clear x)
         | clear_value x)
    | with_reducible apply conf_ite
    | split
    | (with_reducible refine conf_src rfl ?_ (fun p hq => ?_) (fun b _ => ?_) ?_
       on_goal 2 => cases p <;> first | with_reducible rfl | exact absurd (hp (by decide)) hq
       on_goal 2 => exact State.store_of_tables rfl rfl rfl b
       on_goal 2 => first | exact id | (intro hs; simp only [State.shaped] at hs ⊢; simp_all)))

theorem State.conf_raiseFloor {s0 s : State} {ps : List Part} {rs : Nat → Prop}  (h : Confined s0 ps rs s) (hp : [.sset, .bumped, .caused, .queue, .fixer, .bank, .loupe, .mem] ⊆ ps) (hr : ∀ a ∈ [Reg.FIXER_FIXER_STATUS, Reg.FIXER_LASTING_COUNT, Reg.LOUPE_LOUPE_STATUS, Reg.LOUPE_PATCH_INFO, Reg.TANK_CE_ADDR, Reg.TANK_CE_COUNT, Reg.TANK_FOG_PASSES, Reg.TANK_FOG_SKIPS, Reg.TANK_TANK_STATUS, Reg.TANK_UE_ADDR, Reg.TANK_UE_COUNT], rs a) : Confined s0 ps rs (State.raiseFloor s) := by
  unfold State.raiseFloor
  repeat' (first
    | with_reducible assumption
    | with_reducible exact sub_parts hp (by decide)
    | with_reducible exact sub_parts _hp (by decide)
    | with_reducible exact sub_regs hr (by decide)
    | with_reducible exact hr _ (by decide)
    | with_reducible apply State.conf_writeLifeRecord
    | with_reducible apply State.conf_enterPatch
    | (extract_lets +onlyGivenNames x
       first
         | (refine conf_cut (s0 := s0) (ps := ps) (rs := rs) (s := x) ?_ (fun _ => ?_); (focus unfold x); on_goal 2 => clear_value x)
         | (unfold x; clear x)
         | clear_value x)
    | with_reducible apply conf_ite
    | split
    | (with_reducible refine conf_src rfl ?_ (fun p hq => ?_) (fun b _ => ?_) ?_
       on_goal 2 => cases p <;> first | with_reducible rfl | exact absurd (hp (by decide)) hq
       on_goal 2 => exact State.store_of_tables rfl rfl rfl b
       on_goal 2 => first | exact id | (intro hs; simp only [State.shaped] at hs ⊢; simp_all)))

theorem State.conf_patchWrite {s0 s : State} {ps : List Part} {rs : Nat → Prop} (v : Word) (h : Confined s0 ps rs s) (hp : [.fixer, .mode, .loupe] ⊆ ps) (hr : ∀ a ∈ [Reg.LOUPE_PATCH_INFO, Reg.LOUPE_SUPPLY_0, Reg.LOUPE_SUPPLY_1, Reg.LOUPE_SUPPLY_2, Reg.LOUPE_TEMP_01, Reg.LOUPE_TEMP_23], rs a) : Confined s0 ps rs (State.patchWrite s v) := by
  unfold State.patchWrite
  have h1 : Confined s0 ps rs { s with loupe := { s.loupe with halted := false } } := (conf_upd h (by intro p hq; cases p <;> first | rfl | exact absurd (hp (by decide)) hq) (fun b _ => State.store_of_tables rfl rfl rfl b) (by intro hs; first | exact hs | (simp only [State.shaped] at hs ⊢; simp_all)))
  have h2 : Confined s0 ps rs (if bitOf v 2 then (({ s with loupe := { s.loupe with halted := false } }).fixerRelease 43).restartBase else s) :=
    conf_ite (State.conf_restartBase (State.conf_fixerRelease _ h1 (sub_parts hp (by decide)) (sub_regs hr (by decide))) (sub_parts hp (by decide)) (sub_regs hr (by decide))) h
  generalize (if bitOf v 2 then (({ s with loupe := { s.loupe with halted := false } }).fixerRelease 43).restartBase else s) = s2 at h2 ⊢
  have h3 : Confined s0 ps rs s2.dropPatch := State.conf_dropPatch h2 (sub_parts hp (by decide)) (sub_regs hr (by decide))
  dsimp only
  generalize s2.dropPatch = s3 at h3 ⊢
  with_reducible apply conf_ite
  · exact (conf_upd h3 (by intro p hq; cases p <;> first | rfl | exact absurd (hp (by decide)) hq) (fun b _ => State.store_of_tables rfl rfl rfl b) (by intro hs; first | exact hs | (simp only [State.shaped] at hs ⊢; simp_all)))
  · with_reducible apply conf_ite
    · exact State.conf_restartBase h2 (sub_parts hp (by decide)) (sub_regs hr (by decide))
    · exact h2

theorem State.conf_requestLife {s0 s : State} {ps : List Part} {rs : Nat → Prop} (a1 : Word) (h : Confined s0 ps rs s) (hp : [.sset, .bumped, .caused, .fixer, .bank, .mode, .loupe] ⊆ ps) (hr : ∀ a ∈ [Reg.LOUPE_LOUPE_STATUS, Reg.LOUPE_PATCH_FAILS, Reg.LOUPE_PATCH_INFO, Reg.LOUPE_SUPPLY_0, Reg.LOUPE_SUPPLY_1, Reg.LOUPE_SUPPLY_2, Reg.LOUPE_TEMP_01, Reg.LOUPE_TEMP_23], rs a) : Confined s0 ps rs (State.requestLife s a1) := by
  unfold State.requestLife
  repeat' (first
    | with_reducible assumption
    | with_reducible exact sub_parts hp (by decide)
    | with_reducible exact sub_parts _hp (by decide)
    | with_reducible exact sub_regs hr (by decide)
    | with_reducible exact hr _ (by decide)
    | with_reducible apply State.conf_makeWipe
    | (extract_lets +onlyGivenNames x
       first
         | (refine conf_cut (s0 := s0) (ps := ps) (rs := rs) (s := x) ?_ (fun _ => ?_); (focus unfold x); on_goal 2 => clear_value x)
         | (unfold x; clear x)
         | clear_value x)
    | (with_reducible refine conf_src rfl ?_ (fun p hq => ?_) (fun b _ => ?_) ?_
       on_goal 2 => cases p <;> first | with_reducible rfl | exact absurd (hp (by decide)) hq
       on_goal 2 => exact State.store_of_tables rfl rfl rfl b
       on_goal 2 => first | exact id | (intro hs; simp only [State.shaped] at hs ⊢; simp_all)))

theorem State.conf_lifecycle {s0 s : State} {ps : List Part} {rs : Nat → Prop}  (h : Confined s0 ps rs s) (hp : [.sset, .bumped, .caused, .queue, .fixer, .bank, .loupe, .mem] ⊆ ps) (hr : ∀ a ∈ [Reg.CHIP_TEST_A, Reg.CHIP_TEST_B, Reg.FIXER_FIXER_STATUS, Reg.FIXER_LASTING_COUNT, Reg.LOUPE_LOUPE_STATUS, Reg.TANK_CE_ADDR, Reg.TANK_CE_COUNT, Reg.TANK_FOG_PASSES, Reg.TANK_FOG_SKIPS, Reg.TANK_TANK_STATUS, Reg.TANK_UE_ADDR, Reg.TANK_UE_COUNT], rs a) : Confined s0 ps rs (State.lifecycle s) := by
  unfold State.lifecycle
  repeat' (first
    | with_reducible assumption
    | with_reducible exact sub_parts hp (by decide)
    | with_reducible exact sub_parts _hp (by decide)
    | with_reducible exact sub_regs hr (by decide)
    | with_reducible exact hr _ (by decide)
    | with_reducible apply State.conf_writeLifeRecord
    | with_reducible apply State.conf_setPair
    | with_reducible apply State.conf_setFlag
    | with_reducible apply State.conf_raise
    | (extract_lets +onlyGivenNames x
       first
         | (refine conf_cut (s0 := s0) (ps := ps) (rs := rs) (s := x) ?_ (fun _ => ?_); (focus unfold x); on_goal 2 => clear_value x)
         | (unfold x; clear x)
         | clear_value x)
    | split
    | (with_reducible refine conf_src rfl ?_ (fun p hq => ?_) (fun b _ => ?_) ?_
       on_goal 2 => cases p <;> first | with_reducible rfl | exact absurd (hp (by decide)) hq
       on_goal 2 => exact State.store_of_tables rfl rfl rfl b
       on_goal 2 => first | exact id | (intro hs; simp only [State.shaped] at hs ⊢; simp_all)))

theorem State.conf_watchdog {s0 s : State} {ps : List Part} {rs : Nat → Prop}  (h : Confined s0 ps rs s) (hp : [.sset, .bumped, .caused, .fixer, .mode, .loupe] ⊆ ps) (hr : ∀ a ∈ [Reg.FIXER_FIXER_STATUS, Reg.FIXER_LASTING_COUNT, Reg.LOUPE_PATCH_INFO, Reg.LOUPE_SUPPLY_0, Reg.LOUPE_SUPPLY_1, Reg.LOUPE_SUPPLY_2, Reg.LOUPE_TEMP_01, Reg.LOUPE_TEMP_23, Reg.LOUPE_WDOG_COUNT], rs a) : Confined s0 ps rs (State.watchdog s) := by
  unfold State.watchdog
  repeat' (first
    | with_reducible assumption
    | with_reducible exact sub_parts hp (by decide)
    | with_reducible exact sub_parts _hp (by decide)
    | with_reducible exact sub_regs hr (by decide)
    | with_reducible exact hr _ (by decide)
    | with_reducible apply State.conf_dropPatch
    | with_reducible apply State.conf_countSat
    | with_reducible apply State.conf_raise
    | with_reducible apply State.conf_fixerCount
    | with_reducible refine State.conf_fixerCount_eq (by with_reducible assumption) ?_ ?_ ?_
    | with_reducible apply State.conf_blankSensors
    | with_reducible apply State.conf_startLoupe
    | (extract_lets +onlyGivenNames x
       first
         | (refine conf_cut (s0 := s0) (ps := ps) (rs := rs) (s := x) ?_ (fun _ => ?_); (focus unfold x); on_goal 2 => clear_value x)
         | (unfold x; clear x)
         | clear_value x)
    | with_reducible apply conf_ite
    | split
    | (with_reducible refine conf_src rfl ?_ (fun p hq => ?_) (fun b _ => ?_) ?_
       on_goal 2 => cases p <;> first | with_reducible rfl | exact absurd (hp (by decide)) hq
       on_goal 2 => exact State.store_of_tables rfl rfl rfl b
       on_goal 2 => first | exact id | (intro hs; simp only [State.shaped] at hs ⊢; simp_all)))

end Sys2Proof.Machine
end

