-- ==== Sys2Proof/Laws/ConfStrap.lean ====
section
/-! SUPPORT. What every operation of Machine/Strap.lean is confined to: the parts of the state and the registers it can change. -/

set_option linter.unusedTactic false
set_option linter.unreachableTactic false
set_option linter.unusedVariables false
set_option linter.tactic.unusedName false

namespace Sys2Proof.Machine

theorem State.conf_atRest {s0 s : State} {ps : List Part} {rs : Nat → Prop} (power : Power) (h : Confined s0 ps rs s) (hp : [.sset, .bumped, .caused, .clk, .ident, .sideA, .sideB, .link, .outA, .outB, .frame, .queue, .port, .fixer, .front, .decim, .aper, .mx, .dev, .sheet, .latent, .print, .stage, .bank, .mode, .loupe, .mem] ⊆ ps) (hr : ∀ a, rs a) : Confined s0 ps rs (State.atRest s power) :=
  conf_upd h (by intro p hq; cases p <;> first | rfl | exact absurd (hp (by decide)) hq) (fun b hb => absurd (hr b) hb)
    (fun hs => ⟨rfl, rfl, rfl, rfl, rfl, rfl, rfl, rfl⟩)

theorem State.conf_resetAll {s0 s : State} {ps : List Part} {rs : Nat → Prop} (power : Power) (cause : Nat) (h : Confined s0 ps rs s) (hp : [.sset, .bumped, .caused, .clk, .ident, .sideA, .sideB, .link, .outA, .outB, .frame, .queue, .port, .fixer, .front, .decim, .aper, .mx, .dev, .sheet, .latent, .print, .stage, .bank, .mode, .loupe, .mem] ⊆ ps) (hr : ∀ a, rs a) : Confined s0 ps rs (State.resetAll s power cause) :=
  conf_upd h (by intro p hq; cases p <;> first | rfl | exact absurd (hp (by decide)) hq) (fun b hb => absurd (hr b) hb)
    (fun hs => ⟨rfl, rfl, rfl, rfl, (List.length_map _).trans hs.2.2.2.2.1, rfl, rfl, rfl⟩)

theorem State.conf_powerLoss {s0 s : State} {ps : List Part} {rs : Nat → Prop}  (h : Confined s0 ps rs s) (hp : [.sset, .bumped, .caused, .clk, .ident, .sideA, .sideB, .link, .outA, .outB, .frame, .queue, .port, .fixer, .front, .decim, .aper, .mx, .dev, .sheet, .latent, .print, .stage, .bank, .mode, .loupe, .mem] ⊆ ps) (hr : ∀ a, rs a) : Confined s0 ps rs (State.powerLoss s ) :=
  conf_upd h (by intro p hq; cases p <;> first | rfl | exact absurd (hp (by decide)) hq) (fun b hb => absurd (hr b) hb)
    (fun hs => ⟨rfl, rfl, rfl, rfl, rfl, rfl, rfl, rfl⟩)

theorem State.conf_porRelease {s0 s : State} {ps : List Part} {rs : Nat → Prop}  (h : Confined s0 ps rs s) (hp : [.clk, .link, .bank] ⊆ ps) (_hr : ∀ a ∈ ([] : List Nat), rs a) : Confined s0 ps rs (State.porRelease s) := by
  unfold State.porRelease
  repeat' (first
    | with_reducible assumption
    | with_reducible exact sub_parts hp (by decide)
    | with_reducible exact sub_parts _hp (by decide)
    | with_reducible exact sub_regs _hr (by decide)
    | with_reducible apply State.conf_pendWipe
    | (extract_lets +onlyGivenNames x
       first
         | (refine conf_cut (s0 := s0) (ps := ps) (rs := rs) (s := x) ?_ (fun _ => ?_); (focus unfold x); on_goal 2 => clear_value x)
         | (unfold x; clear x)
         | clear_value x)
    | with_reducible apply conf_ite
    | split
    | (with_reducible refine conf_src rfl ?_ (fun p hq => ?_) (fun b _ => ?_) ?_
       on_goal 2 => cases p <;> first | with_reducible rfl | exact absurd (hp (by decide)) hq
       on_goal 2 => exact State.store_of_tables rfl rfl rfl b
       on_goal 2 => first | exact id | (intro hs; simp only [State.shaped] at hs ⊢; simp_all)))

theorem State.conf_holdRise {s0 s : State} {ps : List Part} {rs : Nat → Prop}  (h : Confined s0 ps rs s) (hp : [.sset, .bumped, .caused, .clk, .ident, .sideA, .sideB, .link, .outA, .outB, .frame, .queue, .port, .fixer, .front, .decim, .aper, .mx, .dev, .sheet, .latent, .print, .stage, .bank, .mode, .loupe, .mem] ⊆ ps) (hr : ∀ a, rs a) : Confined s0 ps rs (State.holdRise s) := by
  unfold State.holdRise
  repeat' (first
    | with_reducible assumption
    | with_reducible exact sub_parts hp (by decide)
    | with_reducible exact sub_parts _hp (by decide)
    | with_reducible exact fun a _ => hr a
    | with_reducible exact hr
    | with_reducible exact hr _
    | with_reducible apply State.conf_resetAll
    | (extract_lets +onlyGivenNames x
       first
         | (refine conf_cut (s0 := s0) (ps := ps) (rs := rs) (s := x) ?_ (fun _ => ?_); (focus unfold x); on_goal 2 => clear_value x)
         | (unfold x; clear x)
         | clear_value x)
    | with_reducible apply conf_ite
    | split
    | (with_reducible refine conf_src rfl ?_ (fun p hq => ?_) (fun b _ => ?_) ?_
       on_goal 2 => cases p <;> first | with_reducible rfl | exact absurd (hp (by decide)) hq
       on_goal 2 => exact State.store_of_tables rfl rfl rfl b
       on_goal 2 => first | exact id | (intro hs; simp only [State.shaped] at hs ⊢; simp_all)))

theorem State.conf_holdFall {s0 s : State} {ps : List Part} {rs : Nat → Prop}  (h : Confined s0 ps rs s) (hp : [.clk, .mode] ⊆ ps) (_hr : ∀ a ∈ ([] : List Nat), rs a) : Confined s0 ps rs (State.holdFall s) := by
  unfold State.holdFall
  repeat' (first
    | with_reducible assumption
    | with_reducible exact sub_parts hp (by decide)
    | with_reducible exact sub_parts _hp (by decide)
    | with_reducible exact sub_regs _hr (by decide)
    | (extract_lets +onlyGivenNames x
       first
         | (refine conf_cut (s0 := s0) (ps := ps) (rs := rs) (s := x) ?_ (fun _ => ?_); (focus unfold x); on_goal 2 => clear_value x)
         | (unfold x; clear x)
         | clear_value x)
    | with_reducible apply conf_ite
    | split
    | (with_reducible refine conf_src rfl ?_ (fun p hq => ?_) (fun b _ => ?_) ?_
       on_goal 2 => cases p <;> first | with_reducible rfl | exact absurd (hp (by decide)) hq
       on_goal 2 => exact State.store_of_tables rfl rfl rfl b
       on_goal 2 => first | exact id | (intro hs; simp only [State.shaped] at hs ⊢; simp_all)))

theorem State.conf_strapLoad {s0 s : State} {ps : List Part} {rs : Nat → Prop} (a r b : Nat) (f : Bool) (h : Confined s0 ps rs s) (hp : [.ident, .queue, .port, .fixer] ⊆ ps) (hr : ∀ a, rs a) : Confined s0 ps rs (State.strapLoad s a r b f) :=
  conf_upd h (by intro p hq; cases p <;> first | rfl | exact absurd (hp (by decide)) hq) (fun b hb => absurd (hr b) hb)
    (fun hs => ⟨hs.1, hs.2.1, hs.2.2.1, hs.2.2.2.1, hs.2.2.2.2.1, rfl, rfl, hs.2.2.2.2.2.2.2⟩)

theorem State.conf_strapBlocks {s0 s : State} {ps : List Part} {rs : Nat → Prop}  (h : Confined s0 ps rs s) (hp : [.sset, .bumped, .caused, .queue, .fixer, .front, .decim, .aper, .mx, .dev, .sheet, .latent, .print, .stage, .bank, .loupe, .mem] ⊆ ps) (hr : ∀ a ∈ [Reg.FIXER_FIXER_STATUS, Reg.FIXER_LASTING_COUNT, Reg.TANK_CE_ADDR, Reg.TANK_CE_COUNT, Reg.TANK_FOG_PASSES, Reg.TANK_FOG_SKIPS, Reg.TANK_TANK_STATUS, Reg.TANK_UE_ADDR, Reg.TANK_UE_COUNT], rs a) : Confined s0 ps rs (State.strapBlocks s) := by
  unfold State.strapBlocks
  repeat' (first
    | with_reducible assumption
    | with_reducible exact sub_parts hp (by decide)
    | with_reducible exact sub_parts _hp (by decide)
    | with_reducible exact sub_regs hr (by decide)
    | with_reducible exact hr _ (by decide)
    | with_reducible apply State.conf_strapAper
    | with_reducible apply State.conf_strapMx
    | with_reducible apply State.conf_strapDev
    | with_reducible apply State.conf_strapSheet
    | with_reducible apply State.conf_strapPrint
    | with_reducible apply State.conf_strapStage
    | with_reducible apply State.conf_strapLatent
    | with_reducible apply State.conf_updateBiases
    | with_reducible apply State.conf_updateWatch
    | (extract_lets +onlyGivenNames x
       first
         | (refine conf_cut (s0 := s0) (ps := ps) (rs := rs) (s := x) ?_ (fun _ => ?_); (focus unfold x); on_goal 2 => clear_value x)
         | (unfold x; clear x)
         | clear_value x)
    | (with_reducible refine conf_src rfl ?_ (fun p hq => ?_) (fun b _ => ?_) ?_
       on_goal 2 => cases p <;> first | with_reducible rfl | exact absurd (hp (by decide)) hq
       on_goal 2 => exact State.store_of_tables rfl rfl rfl b
       on_goal 2 => first | exact id | (intro hs; simp only [State.shaped] at hs ⊢; simp_all)))

theorem State.conf_noteReset {s0 s : State} {ps : List Part} {rs : Nat → Prop} (h : Confined s0 ps rs s) (hp : [.sset, .bumped, .caused, .mode] ⊆ ps) (hr : ∀ a ∈ [Reg.CHIP_MODE_STATUS], rs a) : Confined s0 ps rs (State.noteReset s) := by
  unfold State.noteReset
  with_reducible apply conf_ite
  · exact h
  · have h1 := State.conf_setFlag Reg.CHIP_MODE_STATUS 4 h (sub_parts hp (by decide)) (hr _ (by decide))
    exact (conf_upd h1 (by intro p hq; cases p <;> first | rfl | exact absurd (hp (by decide)) hq) (fun b _ => State.store_of_tables rfl rfl rfl b) (by intro hs; first | exact hs | (simp only [State.shaped] at hs ⊢; simp_all)))

theorem State.conf_strapDone {s0 s : State} {ps : List Part} {rs : Nat → Prop} (a1 : StrapSample) (a2 : StrapSample) (a3 : StrapSample) (a4 : ForeSample) (h : Confined s0 ps rs s) (hp : [.sset, .bumped, .caused, .ident, .queue, .port, .fixer, .front, .decim, .aper, .mx, .dev, .sheet, .latent, .print, .stage, .bank, .mode, .loupe, .mem] ⊆ ps) (hr : ∀ a, rs a) : Confined s0 ps rs (State.strapDone s a1 a2 a3 a4) := by
  unfold State.strapDone
  repeat' (first
    | with_reducible assumption
    | with_reducible exact sub_parts hp (by decide)
    | with_reducible exact sub_parts _hp (by decide)
    | with_reducible exact fun a _ => hr a
    | with_reducible exact hr
    | with_reducible exact hr _
    | intro _ _ _
    | with_reducible apply State.conf_strapLoad
    | with_reducible apply State.conf_setFlags
    | with_reducible apply State.conf_raise
    | with_reducible apply State.conf_noteReset
    | with_reducible apply State.conf_strapBlocks
    | (extract_lets +onlyGivenNames x
       first
         | (refine conf_cut (s0 := s0) (ps := ps) (rs := rs) (s := x) ?_ (fun _ => ?_); (focus unfold x); on_goal 2 => clear_value x)
         | (unfold x; clear x)
         | clear_value x)
    | with_reducible apply conf_foldl
    | split)

theorem State.conf_override {s0 s : State} {ps : List Part} {rs : Nat → Prop} (a1 : Word) (h : Confined s0 ps rs s) (hp : [.sset, .bumped, .caused, .ident, .fixer] ⊆ ps) (hr : ∀ a ∈ [Reg.CHIP_ID_STATUS], rs a) : Confined s0 ps rs (State.override s a1) := by
  unfold State.override
  repeat' (first
    | with_reducible assumption
    | with_reducible exact sub_parts hp (by decide)
    | with_reducible exact sub_parts _hp (by decide)
    | with_reducible exact sub_regs hr (by decide)
    | with_reducible exact hr _ (by decide)
    | intro _ _ _
    | with_reducible apply State.conf_setFlag
    | with_reducible apply State.conf_raise
    | (extract_lets +onlyGivenNames x
       first
         | (refine conf_cut (s0 := s0) (ps := ps) (rs := rs) (s := x) ?_ (fun _ => ?_); (focus unfold x); on_goal 2 => clear_value x)
         | (unfold x; clear x)
         | clear_value x)
    | with_reducible apply conf_ite
    | with_reducible apply conf_foldl
    | split
    | (with_reducible refine conf_src rfl ?_ (fun p hq => ?_) (fun b _ => ?_) ?_
       on_goal 2 => cases p <;> first | with_reducible rfl | exact absurd (hp (by decide)) hq
       on_goal 2 => exact State.store_of_tables rfl rfl rfl b
       on_goal 2 => first | exact id | (intro hs; simp only [State.shaped] at hs ⊢; simp_all)))

theorem State.conf_overrideWith {s0 s : State} {ps : List Part} {rs : Nat → Prop} (a1 : Word) (h : Confined s0 ps rs s) (hp : [.ident] ⊆ ps) (hr : ∀ a ∈ [Reg.CHIP_ADDR_OVR_A, Reg.CHIP_ADDR_OVR_B], rs a) : Confined s0 ps rs (State.overrideWith s a1) := by
  unfold State.overrideWith
  repeat' (first
    | with_reducible assumption
    | with_reducible exact sub_parts hp (by decide)
    | with_reducible exact sub_parts _hp (by decide)
    | with_reducible exact sub_regs hr (by decide)
    | with_reducible exact hr _ (by decide)
    | with_reducible apply State.conf_setPair
    | (extract_lets +onlyGivenNames x
       first
         | (refine conf_cut (s0 := s0) (ps := ps) (rs := rs) (s := x) ?_ (fun _ => ?_); (focus unfold x); on_goal 2 => clear_value x)
         | (unfold x; clear x)
         | clear_value x)
    | (with_reducible refine conf_src rfl ?_ (fun p hq => ?_) (fun b _ => ?_) ?_
       on_goal 2 => cases p <;> first | with_reducible rfl | exact absurd (hp (by decide)) hq
       on_goal 2 => exact State.store_of_tables rfl rfl rfl b
       on_goal 2 => first | exact id | (intro hs; simp only [State.shaped] at hs ⊢; simp_all)))

theorem State.conf_applyOverride {s0 s : State} {ps : List Part} {rs : Nat → Prop}  (h : Confined s0 ps rs s) (hp : [.ident] ⊆ ps) (hr : ∀ a ∈ [Reg.CHIP_ADDR_OVR_A, Reg.CHIP_ADDR_OVR_B], rs a) : Confined s0 ps rs (State.applyOverride s) := by
  unfold State.applyOverride
  repeat' (first
    | with_reducible assumption
    | with_reducible exact sub_parts hp (by decide)
    | with_reducible exact sub_parts _hp (by decide)
    | with_reducible exact sub_regs hr (by decide)
    | with_reducible exact hr _ (by decide)
    | intro _ _ _
    | with_reducible apply State.conf_overrideWith
    | (extract_lets +onlyGivenNames x
       first
         | (refine conf_cut (s0 := s0) (ps := ps) (rs := rs) (s := x) ?_ (fun _ => ?_); (focus unfold x); on_goal 2 => clear_value x)
         | (unfold x; clear x)
         | clear_value x)
    | with_reducible apply conf_foldl
    | (with_reducible refine conf_src rfl ?_ (fun p hq => ?_) (fun b _ => ?_) ?_
       on_goal 2 => cases p <;> first | with_reducible rfl | exact absurd (hp (by decide)) hq
       on_goal 2 => exact State.store_of_tables rfl rfl rfl b
       on_goal 2 => first | exact id | (intro hs; simp only [State.shaped] at hs ⊢; simp_all)))

end Sys2Proof.Machine
end

