-- ==== Sys2Proof/Laws/ConfPort.lean ====
section
/-! SUPPORT. What every operation of Machine/Port.lean is confined to: the parts of the state and the registers it can change. -/

set_option linter.unusedTactic false
set_option linter.unreachableTactic false
set_option linter.unusedVariables false
set_option linter.tactic.unusedName false

namespace Sys2Proof.Machine

theorem State.conf_setArmed {s0 s : State} {ps : List Part} {rs : Nat → Prop} (a1 : Src) (a2 : Option Armed) (h : Confined s0 ps rs s) (hp : [.port] ⊆ ps) (_hr : ∀ a ∈ ([] : List Nat), rs a) : Confined s0 ps rs (State.setArmed s a1 a2) := by
  unfold State.setArmed
  repeat' (first
    | with_reducible assumption
    | with_reducible exact sub_parts hp (by decide)
    | with_reducible exact sub_parts _hp (by decide)
    | with_reducible exact sub_regs _hr (by decide)
    | (extract_lets +onlyGivenNames x
       first
         | (refine conf_cut (s0 := s0) (ps := ps) (rs := rs) (s := x) ?_ (fun _ => ?_); (focus unfold x); on_goal 2 => clear_value x)
         | (unfold x; clear x)
         | clear_value x)
    | split
    | (with_reducible refine conf_src rfl ?_ (fun p hq => ?_) (fun b _ => ?_) ?_
       on_goal 2 => cases p <;> first | with_reducible rfl | exact absurd (hp (by decide)) hq
       on_goal 2 => exact State.store_of_tables rfl rfl rfl b
       on_goal 2 => first | exact id | (intro hs; simp only [State.shaped] at hs ⊢; simp_all)))

theorem State.conf_guardFault {s0 s : State} {ps : List Part} {rs : Nat → Prop} (a1 : Src) (a2 : Nat) (a3 : Nat) (h : Confined s0 ps rs s) (hp : [.sset, .bumped, .caused, .fixer] ⊆ ps) (hr : ∀ a ∈ [Reg.CHIP_REG_FAULT, Reg.CHIP_REG_STATUS], rs a) : Confined s0 ps rs (State.guardFault s a1 a2 a3) := by
  unfold State.guardFault
  repeat' (first
    | with_reducible assumption
    | with_reducible exact sub_parts hp (by decide)
    | with_reducible exact sub_parts _hp (by decide)
    | with_reducible exact sub_regs hr (by decide)
    | with_reducible exact hr _ (by decide)
    | with_reducible apply State.conf_setReg
    | with_reducible apply State.conf_setFlag
    | with_reducible apply State.conf_raise
    | (extract_lets +onlyGivenNames x
       first
         | (refine conf_cut (s0 := s0) (ps := ps) (rs := rs) (s := x) ?_ (fun _ => ?_); (focus unfold x); on_goal 2 => clear_value x)
         | (unfold x; clear x)
         | clear_value x))

theorem State.conf_breakPair {s0 s : State} {ps : List Part} {rs : Nat → Prop} (a1 : Src) (h : Confined s0 ps rs s) (hp : [.sset, .bumped, .caused, .port, .fixer] ⊆ ps) (hr : ∀ a ∈ [Reg.CHIP_REG_FAULT, Reg.CHIP_REG_STATUS], rs a) : Confined s0 ps rs (State.breakPair s a1) := by
  unfold State.breakPair
  repeat' (first
    | with_reducible assumption
    | with_reducible exact sub_parts hp (by decide)
    | with_reducible exact sub_parts _hp (by decide)
    | with_reducible exact sub_regs hr (by decide)
    | with_reducible exact hr _ (by decide)
    | with_reducible apply State.conf_setArmed
    | with_reducible apply State.conf_guardFault
    | (extract_lets +onlyGivenNames x
       first
         | (refine conf_cut (s0 := s0) (ps := ps) (rs := rs) (s := x) ?_ (fun _ => ?_); (focus unfold x); on_goal 2 => clear_value x)
         | (unfold x; clear x)
         | clear_value x)
    | split
    | (with_reducible refine conf_src rfl ?_ (fun p hq => ?_) (fun b _ => ?_) ?_
       on_goal 2 => cases p <;> first | with_reducible rfl | exact absurd (hp (by decide)) hq
       on_goal 2 => exact State.store_of_tables rfl rfl rfl b
       on_goal 2 => first | exact id | (intro hs; simp only [State.shaped] at hs ⊢; simp_all)))

theorem State.conf_touch {s0 s : State} {ps : List Part} {rs : Nat → Prop} (a1 : Src) (a2 : Nat) (a3 : Bool) (a4 : Bool) (h : Confined s0 ps rs s) (hp : [.sset, .bumped, .caused, .port, .fixer] ⊆ ps) (hr : ∀ a ∈ [Reg.CHIP_REG_FAULT, Reg.CHIP_REG_STATUS], rs a) : Confined s0 ps rs (State.touch s a1 a2 a3 a4) := by
  unfold State.touch
  repeat' (first
    | with_reducible assumption
    | with_reducible exact sub_parts hp (by decide)
    | with_reducible exact sub_parts _hp (by decide)
    | with_reducible exact sub_regs hr (by decide)
    | with_reducible exact hr _ (by decide)
    | with_reducible apply State.conf_breakPair
    | with_reducible apply State.conf_setArmed
    | with_reducible apply State.conf_guardFault
    | (extract_lets +onlyGivenNames x
       first
         | (refine conf_cut (s0 := s0) (ps := ps) (rs := rs) (s := x) ?_ (fun _ => ?_); (focus unfold x); on_goal 2 => clear_value x)
         | (unfold x; clear x)
         | clear_value x)
    | with_reducible apply conf_ite
    | split
    | (with_reducible refine conf_src rfl ?_ (fun p hq => ?_) (fun b _ => ?_) ?_
       on_goal 2 => cases p <;> first | with_reducible rfl | exact absurd (hp (by decide)) hq
       on_goal 2 => exact State.store_of_tables rfl rfl rfl b
       on_goal 2 => first | exact id | (intro hs; simp only [State.shaped] at hs ⊢; simp_all)))

theorem State.conf_guardReads {s0 s : State} {ps : List Part} {rs : Nat → Prop} (a1 : Src) (a2 : Nat) (a3 : Word) (h : Confined s0 ps rs s) (hp : [.sset, .bumped, .caused, .fixer, .bank] ⊆ ps) (hr : ∀ a ∈ [Reg.TANK_FOG_PASSES, Reg.TANK_FOG_SKIPS, Reg.TANK_TANK_STATUS], rs a) : Confined s0 ps rs (State.guardReads s a1 a2 a3) := by
  unfold State.guardReads
  repeat' (first
    | with_reducible assumption
    | with_reducible exact sub_parts hp (by decide)
    | with_reducible exact sub_parts _hp (by decide)
    | with_reducible exact sub_regs hr (by decide)
    | with_reducible exact hr _ (by decide)
    | with_reducible apply State.conf_fogSpan
    | with_reducible apply conf_ite
    | split)

theorem State.conf_endLoopAt {s0 s : State} {ps : List Part} {rs : Nat → Prop}  (h : Confined s0 ps rs s) (hp : [.sset, .bumped, .caused, .sideA, .sideB, .link, .outA, .outB, .frame, .fixer] ⊆ ps) (hr : ∀ a ∈ [Reg.FRAME_FRAME_STATUS], rs a) : Confined s0 ps rs (State.endLoopAt s) := by
  unfold State.endLoopAt
  repeat' (first
    | with_reducible assumption
    | with_reducible exact sub_parts hp (by decide)
    | with_reducible exact sub_parts _hp (by decide)
    | with_reducible exact sub_regs hr (by decide)
    | with_reducible exact hr _ (by decide)
    | with_reducible apply State.conf_endLoop
    | with_reducible apply State.conf_judgeLost
    | (extract_lets +onlyGivenNames x
       first
         | (refine conf_cut (s0 := s0) (ps := ps) (rs := rs) (s := x) ?_ (fun _ => ?_); (focus unfold x); on_goal 2 => clear_value x)
         | (unfold x; clear x)
         | clear_value x)
    | with_reducible apply conf_ite
    | split
    | (with_reducible refine conf_src rfl ?_ (fun p hq => ?_) (fun b _ => ?_) ?_
       on_goal 2 => cases p <;> first | with_reducible rfl | exact absurd (hp (by decide)) hq
       on_goal 2 => exact State.store_of_tables rfl rfl rfl b
       on_goal 2 => first | exact id | (intro hs; simp only [State.shaped] at hs ⊢; simp_all)))

theorem State.conf_guardEffect {s0 s : State} {ps : List Part} {rs : Nat → Prop} (a1 : Src) (a2 : Nat) (a3 : Word) (h : Confined s0 ps rs s) (hp : [.sset, .bumped, .caused, .clk, .ident, .sideA, .sideB, .link, .outA, .outB, .frame, .fixer, .front, .print, .bank, .mode, .loupe] ⊆ ps) (hr : ∀ a ∈ [Reg.CHIP_ID_STATUS, Reg.FRAME_FRAME_STATUS, Reg.LOUPE_LOUPE_STATUS, Reg.LOUPE_PATCH_FAILS, Reg.LOUPE_PATCH_INFO, Reg.LOUPE_SUPPLY_0, Reg.LOUPE_SUPPLY_1, Reg.LOUPE_SUPPLY_2, Reg.LOUPE_TEMP_01, Reg.LOUPE_TEMP_23], rs a) : Confined s0 ps rs (State.guardEffect s a1 a2 a3) := by
  unfold State.guardEffect
  repeat' (first
    | with_reducible assumption
    | with_reducible exact sub_parts hp (by decide)
    | with_reducible exact sub_parts _hp (by decide)
    | with_reducible exact sub_regs hr (by decide)
    | with_reducible exact hr _ (by decide)
    | with_reducible apply State.conf_override
    | with_reducible apply State.conf_endLoopAt
    | with_reducible apply State.conf_masterOn
    | with_reducible apply State.conf_makeWipe
    | with_reducible apply State.conf_patchWrite
    | with_reducible apply State.conf_requestLife
    | (extract_lets +onlyGivenNames x
       first
         | (refine conf_cut (s0 := s0) (ps := ps) (rs := rs) (s := x) ?_ (fun _ => ?_); (focus unfold x); on_goal 2 => clear_value x)
         | (unfold x; clear x)
         | clear_value x)
    | with_reducible apply conf_ite
    | split
    | (with_reducible refine conf_src rfl ?_ (fun p hq => ?_) (fun b _ => ?_) ?_
       on_goal 2 => cases p <;> first | with_reducible rfl | exact absurd (hp (by decide)) hq
       on_goal 2 => exact State.store_of_tables rfl rfl rfl b
       on_goal 2 => first | exact id | (intro hs; simp only [State.shaped] at hs ⊢; simp_all)))

theorem State.conf_guardCommit {s0 s : State} {ps : List Part} {rs : Nat → Prop} (a1 : Src) (a2 : Nat) (a3 : Word) (h : Confined s0 ps rs s) (hp : [.sset, .bumped, .caused, .clk, .ident, .sideA, .sideB, .link, .outA, .outB, .frame, .fixer, .front, .print, .bank, .mode, .loupe] ⊆ ps) (hr : ∀ a, rs a) : Confined s0 ps rs (State.guardCommit s a1 a2 a3).1 := by
  unfold State.guardCommit
  repeat' (first
    | with_reducible assumption
    | with_reducible exact sub_parts hp (by decide)
    | with_reducible exact sub_parts _hp (by decide)
    | with_reducible exact fun a _ => hr a
    | with_reducible exact hr
    | with_reducible exact hr _
    | with_reducible apply State.conf_guardReads
    | with_reducible apply State.conf_setPair
    | with_reducible apply State.conf_guardEffect
    | (extract_lets +onlyGivenNames x
       first
         | (refine conf_cut (s0 := s0) (ps := ps) (rs := rs) (s := x) ?_ (fun _ => ?_); (focus unfold x); on_goal 2 => clear_value x)
         | (unfold x; clear x)
         | clear_value x)
    | with_reducible apply conf_ite
    | split)

theorem State.conf_guardCommit_eq {s0 s t : State} {ps : List Part} {rs : Nat → Prop} (a1 : Src) (a2 : Nat) (a3 : Word) {x : Nat} (e : State.guardCommit s a1 a2 a3 = (t, x)) (h : Confined s0 ps rs s) (hp : [.sset, .bumped, .caused, .clk, .ident, .sideA, .sideB, .link, .outA, .outB, .frame, .fixer, .front, .print, .bank, .mode, .loupe] ⊆ ps) (hr : ∀ a, rs a) : Confined s0 ps rs t := by
  have := State.conf_guardCommit a1 a2 a3 h hp hr
  rwa [e] at this

theorem State.conf_writeG {s0 s : State} {ps : List Part} {rs : Nat → Prop} (a1 : Src) (a2 : Nat) (a3 : Word) (a4 : Bool) (h : Confined s0 ps rs s) (hp : [.sset, .bumped, .caused, .clk, .ident, .sideA, .sideB, .link, .outA, .outB, .frame, .port, .fixer, .front, .print, .bank, .mode, .loupe] ⊆ ps) (hr : ∀ a, rs a) : Confined s0 ps rs (State.writeG s a1 a2 a3 a4).1 := by
  unfold State.writeG
  repeat' (first
    | with_reducible assumption
    | with_reducible exact sub_parts hp (by decide)
    | with_reducible exact sub_parts _hp (by decide)
    | with_reducible exact fun a _ => hr a
    | with_reducible exact hr
    | with_reducible exact hr _
    | with_reducible apply State.conf_guardFault
    | with_reducible apply State.conf_setArmed
    | with_reducible apply State.conf_guardCommit
    | with_reducible refine State.conf_guardCommit_eq (by with_reducible assumption) ?_ ?_ ?_
    | (extract_lets +onlyGivenNames x
       first
         | (refine conf_cut (s0 := s0) (ps := ps) (rs := rs) (s := x) ?_ (fun _ => ?_); (focus unfold x); on_goal 2 => clear_value x)
         | (unfold x; clear x)
         | clear_value x)
    | with_reducible apply conf_ite
    | split
    | (with_reducible refine conf_src rfl ?_ (fun p hq => ?_) (fun b _ => ?_) ?_
       on_goal 2 => cases p <;> first | with_reducible rfl | exact absurd (hp (by decide)) hq
       on_goal 2 => exact State.store_of_tables rfl rfl rfl b
       on_goal 2 => first | exact id | (intro hs; simp only [State.shaped] at hs ⊢; simp_all)))

theorem State.conf_writeG_eq {s0 s t : State} {ps : List Part} {rs : Nat → Prop} (a1 : Src) (a2 : Nat) (a3 : Word) (a4 : Bool) {x : Nat} (e : State.writeG s a1 a2 a3 a4 = (t, x)) (h : Confined s0 ps rs s) (hp : [.sset, .bumped, .caused, .clk, .ident, .sideA, .sideB, .link, .outA, .outB, .frame, .port, .fixer, .front, .print, .bank, .mode, .loupe] ⊆ ps) (hr : ∀ a, rs a) : Confined s0 ps rs t := by
  have := State.conf_writeG a1 a2 a3 a4 h hp hr
  rwa [e] at this

theorem State.conf_biasWrite {s0 s : State} {ps : List Part} {rs : Nat → Prop} (a1 : Bool) (a2 : Word) (h : Confined s0 ps rs s) (hp : [.fixer, .front] ⊆ ps) (hr : ∀ a ∈ [Reg.FRONT_BIAS_EN], rs a) : Confined s0 ps rs (State.biasWrite s a1 a2) := by
  unfold State.biasWrite
  repeat' (first
    | with_reducible assumption
    | with_reducible exact sub_parts hp (by decide)
    | with_reducible exact sub_parts _hp (by decide)
    | with_reducible exact sub_regs hr (by decide)
    | with_reducible exact hr _ (by decide)
    | intro _ _ _
    | with_reducible apply State.conf_releaseBias
    | with_reducible apply State.conf_setFld
    | with_reducible apply State.conf_updateBiases
    | (extract_lets +onlyGivenNames x
       first
         | (refine conf_cut (s0 := s0) (ps := ps) (rs := rs) (s := x) ?_ (fun _ => ?_); (focus unfold x); on_goal 2 => clear_value x)
         | (unfold x; clear x)
         | clear_value x)
    | with_reducible apply conf_ite
    | with_reducible apply conf_foldl
    | split)

theorem State.conf_arrayEffect {s0 s : State} {ps : List Part} {rs : Nat → Prop} (a1 : Src) (a2 : Nat) (a3 : Word) (a4 : Word) (h : Confined s0 ps rs s) (hp : [.sset, .bumped, .caused, .fixer, .front, .decim, .aper, .mx] ⊆ ps) (hr : ∀ a ∈ [Reg.APER_APER_STATUS, Reg.DECIM_DECIM_STATUS, Reg.FRONT_BIAS_EN, Reg.MX_MX_STATUS], rs a) : Confined s0 ps rs (State.arrayEffect s a1 a2 a3 a4) := by
  unfold State.arrayEffect
  repeat' (first
    | with_reducible assumption
    | with_reducible exact sub_parts hp (by decide)
    | with_reducible exact sub_parts _hp (by decide)
    | with_reducible exact sub_regs hr (by decide)
    | with_reducible exact hr _ (by decide)
    | with_reducible apply State.conf_biasWrite
    | with_reducible apply State.conf_updateBiases
    | with_reducible apply State.conf_updateWatch
    | with_reducible apply State.conf_requestSwap
    | with_reducible apply State.conf_commitBeam
    | with_reducible apply State.conf_mxCancel
    | with_reducible apply State.conf_mxArm
    | with_reducible apply conf_ite
    | split)

theorem State.conf_watchEffect {s0 s : State} {ps : List Part} {rs : Nat → Prop} (a1 : Nat) (a2 : Word) (a3 : Word) (h : Confined s0 ps rs s) (hp : [.sset, .bumped, .caused, .fixer, .dev, .sheet, .latent, .bank] ⊆ ps) (hr : ∀ a ∈ [Reg.DEV_DEV_STATUS, Reg.FIXER_FIXER_STATUS, Reg.FIXER_LASTING_COUNT, Reg.SHEET_SHEET_STATUS, Reg.TANK_FOG_PASSES, Reg.TANK_FOG_SKIPS, Reg.TANK_TANK_STATUS, Reg.TANK_UE_ADDR, Reg.TANK_UE_COUNT], rs a) : Confined s0 ps rs (State.watchEffect s a1 a2 a3) := by
  unfold State.watchEffect
  repeat' (first
    | with_reducible assumption
    | with_reducible exact sub_parts hp (by decide)
    | with_reducible exact sub_parts _hp (by decide)
    | with_reducible exact sub_regs hr (by decide)
    | with_reducible exact hr _ (by decide)
    | with_reducible apply State.conf_loadSeed
    | with_reducible apply State.conf_commitProfile
    | with_reducible apply State.conf_requestEnable
    | with_reducible apply State.conf_requestDisable
    | with_reducible apply State.conf_resetScore
    | with_reducible apply State.conf_release
    | with_reducible apply State.conf_startRunD
    | (extract_lets +onlyGivenNames x
       first
         | (refine conf_cut (s0 := s0) (ps := ps) (rs := rs) (s := x) ?_ (fun _ => ?_); (focus unfold x); on_goal 2 => clear_value x)
         | (unfold x; clear x)
         | clear_value x)
    | with_reducible apply conf_ite
    | split)

theorem State.conf_highEffect {s0 s : State} {ps : List Part} {rs : Nat → Prop} (a1 : Src) (a2 : Nat) (a3 : Word) (a4 : Word) (a5 : Word) (h : Confined s0 ps rs s) (hp : [.sset, .bumped, .caused, .fixer, .stage, .bank, .loupe] ⊆ ps) (hr : ∀ a, rs a) : Confined s0 ps rs (State.highEffect s a1 a2 a3 a4 a5) := by
  unfold State.highEffect
  repeat' (first
    | with_reducible assumption
    | with_reducible exact sub_parts hp (by decide)
    | with_reducible exact sub_parts _hp (by decide)
    | with_reducible exact fun a _ => hr a
    | with_reducible exact hr
    | with_reducible exact hr _
    | intro _ _ _
    | with_reducible apply State.conf_startSearch
    | with_reducible apply State.conf_setReg
    | with_reducible apply State.conf_writeLatch
    | with_reducible apply State.conf_verifyRestart
    | with_reducible apply State.conf_fogEnd
    | with_reducible apply State.conf_mbxPass
    | with_reducible apply State.conf_fixerRelease
    | (extract_lets +onlyGivenNames x
       first
         | (refine conf_cut (s0 := s0) (ps := ps) (rs := rs) (s := x) ?_ (fun _ => ?_); (focus unfold x); on_goal 2 => clear_value x)
         | (unfold x; clear x)
         | clear_value x)
    | with_reducible apply conf_ite
    | with_reducible apply conf_foldl
    | split
    | (with_reducible refine conf_src rfl ?_ (fun p hq => ?_) (fun b _ => ?_) ?_
       on_goal 2 => cases p <;> first | with_reducible rfl | exact absurd (hp (by decide)) hq
       on_goal 2 => exact State.store_of_tables rfl rfl rfl b
       on_goal 2 => first | exact id | (intro hs; simp only [State.shaped] at hs ⊢; simp_all)))

theorem State.conf_writeM {s0 s : State} {ps : List Part} {rs : Nat → Prop} (src : Src) (a : Nat) (v : Word) (h : Confined s0 ps rs s) (hp : [.sset, .bumped, .caused, .fixer, .front, .decim, .aper, .mx, .dev, .sheet, .latent, .stage, .bank, .loupe] ⊆ ps) (hr : ∀ a, rs a) : Confined s0 ps rs (State.writeM s src a v).1 := by
  unfold State.writeM
  extract_lets old new s1 p s2
  have h1 : Confined s0 ps rs s1 := State.conf_setReg _ _ h (hr _)
  clear_value s1
  have h2 : Confined s0 ps rs s2 :=
    conf_ite h1 (conf_ite (State.conf_arrayEffect _ _ _ _ h1 (sub_parts hp (by decide)) (fun a _ => hr a)) (conf_ite (State.conf_watchEffect _ _ _ h1 (sub_parts hp (by decide)) (fun a _ => hr a))
      (State.conf_highEffect _ _ _ _ _ h1 (sub_parts hp (by decide)) hr)))
  clear_value s2
  split
  · exact h
  · split
    · exact h
    · exact h2

theorem State.conf_writeM_eq {s0 s t : State} {ps : List Part} {rs : Nat → Prop} (a1 : Src) (a2 : Nat) (a3 : Word) {x : Nat} (e : State.writeM s a1 a2 a3 = (t, x)) (h : Confined s0 ps rs s) (hp : [.sset, .bumped, .caused, .fixer, .front, .decim, .aper, .mx, .dev, .sheet, .latent, .stage, .bank, .loupe] ⊆ ps) (hr : ∀ a, rs a) : Confined s0 ps rs t := by
  have := State.conf_writeM a1 a2 a3 h hp hr
  rwa [e] at this


theorem State.conf_noteIx {s0 s : State} {ps : List Part} {rs : Nat → Prop} (a1 : Bool) (h : Confined s0 ps rs s) (hp : [.port] ⊆ ps) (_hr : ∀ a ∈ ([] : List Nat), rs a) : Confined s0 ps rs (State.noteIx s a1) := by
  unfold State.noteIx
  repeat' (first
    | with_reducible assumption
    | with_reducible exact sub_parts hp (by decide)
    | with_reducible exact sub_parts _hp (by decide)
    | with_reducible exact sub_regs _hr (by decide)
    | (extract_lets +onlyGivenNames x
       first
         | (refine conf_cut (s0 := s0) (ps := ps) (rs := rs) (s := x) ?_ (fun _ => ?_); (focus unfold x); on_goal 2 => clear_value x)
         | (unfold x; clear x)
         | clear_value x)
    | (with_reducible refine conf_src rfl ?_ (fun p hq => ?_) (fun b _ => ?_) ?_
       on_goal 2 => cases p <;> first | with_reducible rfl | exact absurd (hp (by decide)) hq
       on_goal 2 => exact State.store_of_tables rfl rfl rfl b
       on_goal 2 => first | exact id | (intro hs; simp only [State.shaped] at hs ⊢; simp_all)))

theorem State.conf_ixAdvance {s0 s : State} {ps : List Part} {rs : Nat → Prop}  (h : Confined s0 ps rs s) (hp : [.port] ⊆ ps) (hr : ∀ a ∈ [Reg.CHIP_IX_ADDR], rs a) : Confined s0 ps rs (State.ixAdvance s) := by
  unfold State.ixAdvance
  repeat' (first
    | with_reducible assumption
    | with_reducible exact sub_parts hp (by decide)
    | with_reducible exact sub_parts _hp (by decide)
    | with_reducible exact sub_regs hr (by decide)
    | with_reducible exact hr _ (by decide)
    | with_reducible apply State.conf_setFld
    | with_reducible apply State.conf_noteIx)

theorem State.conf_ixRefuse {s0 s : State} {ps : List Part} {rs : Nat → Prop}  (h : Confined s0 ps rs s) (hp : [.sset, .bumped, .caused, .port] ⊆ ps) (hr : ∀ a ∈ [Reg.CHIP_REG_STATUS], rs a) : Confined s0 ps rs (State.ixRefuse s) := by
  unfold State.ixRefuse
  repeat' (first
    | with_reducible assumption
    | with_reducible exact sub_parts hp (by decide)
    | with_reducible exact sub_parts _hp (by decide)
    | with_reducible exact sub_regs hr (by decide)
    | with_reducible exact hr _ (by decide)
    | with_reducible apply State.conf_setFlag
    | with_reducible apply State.conf_noteIx)

theorem State.conf_ixFetch {s0 s t : State} {ps : List Part} {rs : Nat → Prop} {space w : Nat} {v : Word} (h : Confined s0 ps rs s) (hp : [.sset, .bumped, .caused, .fixer, .bank, .free] ⊆ ps) (hr : ∀ a ∈ [Reg.FIXER_FIXER_STATUS, Reg.FIXER_LASTING_COUNT, Reg.LATENT_LAT_STATUS, Reg.TANK_CE_ADDR, Reg.TANK_CE_COUNT, Reg.TANK_FOG_PASSES, Reg.TANK_FOG_SKIPS, Reg.TANK_TANK_STATUS, Reg.TANK_UE_ADDR, Reg.TANK_UE_COUNT], rs a)
    (e : State.ixFetch s space w = some (v, t)) : Confined s0 ps rs t := by
  unfold State.ixFetch at e
  repeat' split at e
  all_goals try contradiction
  · have := State.conf_windowRead w h (sub_parts hp (by decide)) (sub_regs hr (by decide))
    rwa [Option.some.inj e] at this
  · exact (Prod.mk.inj (Option.some.inj e)).2 ▸ h
  · exact (Prod.mk.inj (Option.some.inj e)).2 ▸ h
  · have := State.conf_windowRead (Tank.templates + w) h (sub_parts hp (by decide)) (sub_regs hr (by decide))
    rwa [Option.some.inj e] at this
  · exact State.conf_latentRead h (sub_parts hp (by decide)) (sub_regs hr (by decide)) e

theorem State.conf_ixStore {s0 s t : State} {ps : List Part} {rs : Nat → Prop} {space w : Nat} {v : Word} (h : Confined s0 ps rs s) (hp : [.sset, .bumped, .caused, .queue, .fixer, .front, .decim, .bank, .mem] ⊆ ps) (hr : ∀ a ∈ [Reg.FIXER_FIXER_STATUS, Reg.FIXER_LASTING_COUNT, Reg.TANK_CE_ADDR, Reg.TANK_CE_COUNT, Reg.TANK_FOG_PASSES, Reg.TANK_FOG_SKIPS, Reg.TANK_TANK_STATUS, Reg.TANK_UE_ADDR, Reg.TANK_UE_COUNT], rs a)
    (e : State.ixStore s space w v = some t) : Confined s0 ps rs t := by
  unfold State.ixStore at e
  repeat' split at e
  all_goals try contradiction
  all_goals simp only [Option.some.injEq] at e
  all_goals subst e
  · exact State.conf_setTank _ _ h (sub_parts hp (by decide)) (sub_regs hr (by decide))
  · exact State.conf_trimWrite _ _ h (sub_parts hp (by decide)) (sub_regs hr (by decide))
  · exact State.conf_coefWrite _ _ h (sub_parts hp (by decide)) (sub_regs hr (by decide))
  · exact State.conf_setTank _ _ h (sub_parts hp (by decide)) (sub_regs hr (by decide))

theorem State.conf_ixRead {s0 s : State} {ps : List Part} {rs : Nat → Prop} (h : Confined s0 ps rs s) (hp : [.sset, .bumped, .caused, .port, .fixer, .bank, .free] ⊆ ps) (hr : ∀ a ∈ [Reg.CHIP_IX_ADDR, Reg.CHIP_REG_STATUS, Reg.FIXER_FIXER_STATUS, Reg.FIXER_LASTING_COUNT, Reg.LATENT_LAT_STATUS, Reg.TANK_CE_ADDR, Reg.TANK_CE_COUNT, Reg.TANK_FOG_PASSES, Reg.TANK_FOG_SKIPS, Reg.TANK_TANK_STATUS, Reg.TANK_UE_ADDR, Reg.TANK_UE_COUNT], rs a) : Confined s0 ps rs (State.ixRead s).1 := by
  unfold State.ixRead
  split
  · rename_i e
    exact State.conf_ixAdvance (State.conf_ixFetch h (sub_parts hp (by decide)) (sub_regs hr (by decide)) e) (sub_parts hp (by decide)) (sub_regs hr (by decide))
  · exact State.conf_ixRefuse h (sub_parts hp (by decide)) (sub_regs hr (by decide))

theorem State.conf_ixRead_eq {s0 s t : State} {ps : List Part} {rs : Nat → Prop}  {x : Nat × Word} (e : State.ixRead s = (t, x)) (h : Confined s0 ps rs s) (hp : [.sset, .bumped, .caused, .port, .fixer, .bank, .free] ⊆ ps) (hr : ∀ a ∈ [Reg.CHIP_IX_ADDR, Reg.CHIP_REG_STATUS, Reg.FIXER_FIXER_STATUS, Reg.FIXER_LASTING_COUNT, Reg.LATENT_LAT_STATUS, Reg.TANK_CE_ADDR, Reg.TANK_CE_COUNT, Reg.TANK_FOG_PASSES, Reg.TANK_FOG_SKIPS, Reg.TANK_TANK_STATUS, Reg.TANK_UE_ADDR, Reg.TANK_UE_COUNT], rs a) : Confined s0 ps rs t := by
  have := State.conf_ixRead  h hp hr
  rwa [e] at this


theorem State.conf_ixWrite {s0 s : State} {ps : List Part} {rs : Nat → Prop} (v : Word) (h : Confined s0 ps rs s) (hp : [.sset, .bumped, .caused, .queue, .port, .fixer, .front, .decim, .bank, .mem] ⊆ ps) (hr : ∀ a ∈ [Reg.CHIP_IX_ADDR, Reg.CHIP_REG_STATUS, Reg.FIXER_FIXER_STATUS, Reg.FIXER_LASTING_COUNT, Reg.TANK_CE_ADDR, Reg.TANK_CE_COUNT, Reg.TANK_FOG_PASSES, Reg.TANK_FOG_SKIPS, Reg.TANK_TANK_STATUS, Reg.TANK_UE_ADDR, Reg.TANK_UE_COUNT], rs a) : Confined s0 ps rs (State.ixWrite s v).1 := by
  unfold State.ixWrite
  split
  · rename_i e
    exact State.conf_ixAdvance (State.conf_ixStore h (sub_parts hp (by decide)) (sub_regs hr (by decide)) e) (sub_parts hp (by decide)) (sub_regs hr (by decide))
  · exact State.conf_ixRefuse h (sub_parts hp (by decide)) (sub_regs hr (by decide))

theorem State.conf_ixWrite_eq {s0 s t : State} {ps : List Part} {rs : Nat → Prop} (a1 : Word) {x : Nat} (e : State.ixWrite s a1 = (t, x)) (h : Confined s0 ps rs s) (hp : [.sset, .bumped, .caused, .queue, .port, .fixer, .front, .decim, .bank, .mem] ⊆ ps) (hr : ∀ a ∈ [Reg.CHIP_IX_ADDR, Reg.CHIP_REG_STATUS, Reg.FIXER_FIXER_STATUS, Reg.FIXER_LASTING_COUNT, Reg.TANK_CE_ADDR, Reg.TANK_CE_COUNT, Reg.TANK_FOG_PASSES, Reg.TANK_FOG_SKIPS, Reg.TANK_TANK_STATUS, Reg.TANK_UE_ADDR, Reg.TANK_UE_COUNT], rs a) : Confined s0 ps rs t := by
  have := State.conf_ixWrite a1 h hp hr
  rwa [e] at this


theorem State.conf_writeF {s0 s : State} {ps : List Part} {rs : Nat → Prop} (a1 : Nat) (a2 : Word) (h : Confined s0 ps rs s) (hp : [.sset, .bumped, .caused, .queue, .port, .fixer, .front, .decim, .stage, .bank, .mem] ⊆ ps) (hr : ∀ a, rs a) : Confined s0 ps rs (State.writeF s a1 a2).1 := by
  unfold State.writeF
  repeat' (first
    | with_reducible assumption
    | with_reducible exact sub_parts hp (by decide)
    | with_reducible exact sub_parts _hp (by decide)
    | with_reducible exact fun a _ => hr a
    | with_reducible exact hr
    | with_reducible exact hr _
    | with_reducible apply State.conf_ixWrite
    | with_reducible refine State.conf_ixWrite_eq (by with_reducible assumption) ?_ ?_ ?_
    | with_reducible apply State.conf_setReg
    | with_reducible apply State.conf_noteIx
    | with_reducible apply State.conf_verifyRestart
    | (extract_lets +onlyGivenNames x
       first
         | (refine conf_cut (s0 := s0) (ps := ps) (rs := rs) (s := x) ?_ (fun _ => ?_); (focus unfold x); on_goal 2 => clear_value x)
         | (unfold x; clear x)
         | clear_value x)
    | with_reducible apply conf_ite
    | split)

theorem State.conf_writeF_eq {s0 s t : State} {ps : List Part} {rs : Nat → Prop} (a1 : Nat) (a2 : Word) {x : Nat} (e : State.writeF s a1 a2 = (t, x)) (h : Confined s0 ps rs s) (hp : [.sset, .bumped, .caused, .queue, .port, .fixer, .front, .decim, .stage, .bank, .mem] ⊆ ps) (hr : ∀ a, rs a) : Confined s0 ps rs t := by
  have := State.conf_writeF a1 a2 h hp hr
  rwa [e] at this

theorem State.conf_writeS {s0 s : State} {ps : List Part} {rs : Nat → Prop} (a1 : Nat) (a2 : Word) (h : Confined s0 ps rs s) (hp : [.sset, .bumped, .port] ⊆ ps) (hr : ∀ a, rs a) : Confined s0 ps rs (State.writeS s a1 a2) := by
  unfold State.writeS
  repeat' (first
    | with_reducible assumption
    | with_reducible exact sub_parts hp (by decide)
    | with_reducible exact sub_parts _hp (by decide)
    | with_reducible exact fun a _ => hr a
    | with_reducible exact hr
    | with_reducible exact hr _
    | with_reducible apply State.conf_clearFlags
    | (extract_lets +onlyGivenNames x
       first
         | (refine conf_cut (s0 := s0) (ps := ps) (rs := rs) (s := x) ?_ (fun _ => ?_); (focus unfold x); on_goal 2 => clear_value x)
         | (unfold x; clear x)
         | clear_value x)
    | with_reducible apply conf_ite
    | split
    | (with_reducible refine conf_src rfl ?_ (fun p hq => ?_) (fun b _ => ?_) ?_
       on_goal 2 => cases p <;> first | with_reducible rfl | exact absurd (hp (by decide)) hq
       on_goal 2 => exact State.store_of_tables rfl rfl rfl b
       on_goal 2 => first | exact id | (intro hs; simp only [State.shaped] at hs ⊢; simp_all)))

theorem State.conf_portWrite {s0 s : State} {ps : List Part} {rs : Nat → Prop} (a1 : Src) (a2 : Nat) (a3 : Word) (a4 : Bool) (h : Confined s0 ps rs s) (hp : [.sset, .bumped, .caused, .clk, .ident, .sideA, .sideB, .link, .outA, .outB, .frame, .queue, .port, .fixer, .front, .decim, .aper, .mx, .dev, .sheet, .latent, .print, .stage, .bank, .mode, .loupe, .mem] ⊆ ps) (hr : ∀ a, rs a) : Confined s0 ps rs (State.portWrite s a1 a2 a3 a4).1 := by
  unfold State.portWrite
  repeat' (first
    | with_reducible assumption
    | with_reducible exact sub_parts hp (by decide)
    | with_reducible exact sub_parts _hp (by decide)
    | with_reducible exact fun a _ => hr a
    | with_reducible exact hr
    | with_reducible exact hr _
    | with_reducible apply State.conf_touch
    | with_reducible apply State.conf_writeS
    | with_reducible apply State.conf_writeG
    | with_reducible refine State.conf_writeG_eq (by with_reducible assumption) ?_ ?_ ?_
    | with_reducible apply State.conf_writeM
    | with_reducible refine State.conf_writeM_eq (by with_reducible assumption) ?_ ?_ ?_
    | with_reducible apply State.conf_writeF
    | with_reducible refine State.conf_writeF_eq (by with_reducible assumption) ?_ ?_ ?_
    | with_reducible apply State.conf_setReg
    | (extract_lets +onlyGivenNames x
       first
         | (refine conf_cut (s0 := s0) (ps := ps) (rs := rs) (s := x) ?_ (fun _ => ?_); (focus unfold x); on_goal 2 => clear_value x)
         | (unfold x; clear x)
         | clear_value x)
    | with_reducible apply conf_ite
    | split
    | (with_reducible refine conf_src rfl ?_ (fun p hq => ?_) (fun b _ => ?_) ?_
       on_goal 2 => cases p <;> first | with_reducible rfl | exact absurd (hp (by decide)) hq
       on_goal 2 => exact State.store_of_tables rfl rfl rfl b
       on_goal 2 => first | exact id | (intro hs; simp only [State.shaped] at hs ⊢; simp_all)))

theorem State.conf_portWrite_eq {s0 s t : State} {ps : List Part} {rs : Nat → Prop} (a1 : Src) (a2 : Nat) (a3 : Word) (a4 : Bool) {x : Nat} (e : State.portWrite s a1 a2 a3 a4 = (t, x)) (h : Confined s0 ps rs s) (hp : [.sset, .bumped, .caused, .clk, .ident, .sideA, .sideB, .link, .outA, .outB, .frame, .queue, .port, .fixer, .front, .decim, .aper, .mx, .dev, .sheet, .latent, .print, .stage, .bank, .mode, .loupe, .mem] ⊆ ps) (hr : ∀ a, rs a) : Confined s0 ps rs t := by
  have := State.conf_portWrite a1 a2 a3 a4 h hp hr
  rwa [e] at this

theorem State.conf_readBefore {s0 s : State} {ps : List Part} {rs : Nat → Prop} (a1 : Nat) (h : Confined s0 ps rs s) (hp : [.sheet] ⊆ ps) (hr : ∀ a ∈ [Reg.CHIP_EPOCH_HI], rs a) : Confined s0 ps rs (State.readBefore s a1) := by
  unfold State.readBefore
  repeat' (first
    | with_reducible assumption
    | with_reducible exact sub_parts hp (by decide)
    | with_reducible exact sub_parts _hp (by decide)
    | with_reducible exact sub_regs hr (by decide)
    | with_reducible exact hr _ (by decide)
    | with_reducible apply State.conf_latchFeat
    | with_reducible apply State.conf_setReg
    | with_reducible apply conf_ite
    | split)

theorem State.conf_readAfter {s0 s : State} {ps : List Part} {rs : Nat → Prop} (a1 : Nat) (h : Confined s0 ps rs s) (hp : [.sheet] ⊆ ps) (hr : ∀ a, rs a) : Confined s0 ps rs (State.readAfter s a1) := by
  unfold State.readAfter
  repeat' (first
    | with_reducible assumption
    | with_reducible exact sub_parts hp (by decide)
    | with_reducible exact sub_parts _hp (by decide)
    | with_reducible exact fun a _ => hr a
    | with_reducible exact hr
    | with_reducible exact hr _
    | with_reducible apply State.conf_resetScore
    | with_reducible apply State.conf_setReg
    | with_reducible apply conf_ite
    | split)

theorem State.conf_portRead {s0 s : State} {ps : List Part} {rs : Nat → Prop} (a1 : Src) (a2 : Nat) (h : Confined s0 ps rs s) (hp : [.sset, .bumped, .caused, .port, .fixer, .sheet, .bank, .free] ⊆ ps) (hr : ∀ a, rs a) : Confined s0 ps rs (State.portRead s a1 a2).1 := by
  unfold State.portRead
  repeat' (first
    | with_reducible assumption
    | with_reducible exact sub_parts hp (by decide)
    | with_reducible exact sub_parts _hp (by decide)
    | with_reducible exact fun a _ => hr a
    | with_reducible exact hr
    | with_reducible exact hr _
    | with_reducible apply State.conf_touch
    | with_reducible apply State.conf_ixRead
    | with_reducible refine State.conf_ixRead_eq (by with_reducible assumption) ?_ ?_ ?_
    | with_reducible apply State.conf_readBefore
    | with_reducible apply State.conf_readAfter
    | (extract_lets +onlyGivenNames x
       first
         | (refine conf_cut (s0 := s0) (ps := ps) (rs := rs) (s := x) ?_ (fun _ => ?_); (focus unfold x); on_goal 2 => clear_value x)
         | (unfold x; clear x)
         | clear_value x)
    | with_reducible apply conf_ite
    | split)

theorem State.conf_portRead_eq {s0 s t : State} {ps : List Part} {rs : Nat → Prop} (a1 : Src) (a2 : Nat) {x : Nat × Word} (e : State.portRead s a1 a2 = (t, x)) (h : Confined s0 ps rs s) (hp : [.sset, .bumped, .caused, .port, .fixer, .sheet, .bank, .free] ⊆ ps) (hr : ∀ a, rs a) : Confined s0 ps rs t := by
  have := State.conf_portRead a1 a2 h hp hr
  rwa [e] at this

theorem State.conf_answer {s0 s : State} {ps : List Part} {rs : Nat → Prop} (a1 : Nat) (a2 : List Word) (h : Confined s0 ps rs s) (hp : [.port] ⊆ ps) (_hr : ∀ a ∈ ([] : List Nat), rs a) : Confined s0 ps rs (State.answer s a1 a2) := by
  unfold State.answer
  repeat' (first
    | with_reducible assumption
    | with_reducible exact sub_parts hp (by decide)
    | with_reducible exact sub_parts _hp (by decide)
    | with_reducible exact sub_regs _hr (by decide)
    | (extract_lets +onlyGivenNames x
       first
         | (refine conf_cut (s0 := s0) (ps := ps) (rs := rs) (s := x) ?_ (fun _ => ?_); (focus unfold x); on_goal 2 => clear_value x)
         | (unfold x; clear x)
         | clear_value x)
    | (with_reducible refine conf_src rfl ?_ (fun p hq => ?_) (fun b _ => ?_) ?_
       on_goal 2 => cases p <;> first | with_reducible rfl | exact absurd (hp (by decide)) hq
       on_goal 2 => exact State.store_of_tables rfl rfl rfl b
       on_goal 2 => first | exact id | (intro hs; simp only [State.shaped] at hs ⊢; simp_all)))

theorem State.conf_accessWrite {s0 s : State} {ps : List Part} {rs : Nat → Prop} (a1 : Src) (a2 : Nat) (a3 : Word) (h : Confined s0 ps rs s) (hp : [.sset, .bumped, .caused, .clk, .ident, .sideA, .sideB, .link, .outA, .outB, .frame, .queue, .port, .fixer, .front, .decim, .aper, .mx, .dev, .sheet, .latent, .print, .stage, .bank, .mode, .loupe, .mem] ⊆ ps) (hr : ∀ a, rs a) : Confined s0 ps rs (State.accessWrite s a1 a2 a3) := by
  unfold State.accessWrite
  repeat' (first
    | with_reducible assumption
    | with_reducible exact sub_parts hp (by decide)
    | with_reducible exact sub_parts _hp (by decide)
    | with_reducible exact fun a _ => hr a
    | with_reducible exact hr
    | with_reducible exact hr _
    | with_reducible apply State.conf_busFault
    | with_reducible apply State.conf_portWrite
    | with_reducible refine State.conf_portWrite_eq (by with_reducible assumption) ?_ ?_ ?_
    | with_reducible apply State.conf_answer
    | (extract_lets +onlyGivenNames x
       first
         | (refine conf_cut (s0 := s0) (ps := ps) (rs := rs) (s := x) ?_ (fun _ => ?_); (focus unfold x); on_goal 2 => clear_value x)
         | (unfold x; clear x)
         | clear_value x)
    | with_reducible apply conf_ite
    | split)

theorem State.conf_accessRead {s0 s : State} {ps : List Part} {rs : Nat → Prop} (a1 : Src) (a2 : Nat) (h : Confined s0 ps rs s) (hp : [.sset, .bumped, .caused, .port, .fixer, .sheet, .bank, .free] ⊆ ps) (hr : ∀ a, rs a) : Confined s0 ps rs (State.accessRead s a1 a2) := by
  unfold State.accessRead
  repeat' (first
    | with_reducible assumption
    | with_reducible exact sub_parts hp (by decide)
    | with_reducible exact sub_parts _hp (by decide)
    | with_reducible exact fun a _ => hr a
    | with_reducible exact hr
    | with_reducible exact hr _
    | with_reducible apply State.conf_busFault
    | with_reducible apply State.conf_portRead
    | with_reducible refine State.conf_portRead_eq (by with_reducible assumption) ?_ ?_ ?_
    | with_reducible apply State.conf_answer
    | (extract_lets +onlyGivenNames x
       first
         | (refine conf_cut (s0 := s0) (ps := ps) (rs := rs) (s := x) ?_ (fun _ => ?_); (focus unfold x); on_goal 2 => clear_value x)
         | (unfold x; clear x)
         | clear_value x)
    | with_reducible apply conf_ite
    | split)

theorem State.conf_narrowWrite {s0 s : State} {ps : List Part} {rs : Nat → Prop} (a1 : Nat) (a2 : Nat) (h : Confined s0 ps rs s) (hp : [.sset, .bumped, .caused, .port, .fixer] ⊆ ps) (hr : ∀ a ∈ [Reg.CHIP_REG_STATUS], rs a) : Confined s0 ps rs (State.narrowWrite s a1 a2) := by
  unfold State.narrowWrite
  repeat' (first
    | with_reducible assumption
    | with_reducible exact sub_parts hp (by decide)
    | with_reducible exact sub_parts _hp (by decide)
    | with_reducible exact sub_regs hr (by decide)
    | with_reducible exact hr _ (by decide)
    | with_reducible apply State.conf_setFlag
    | with_reducible apply State.conf_raise
    | with_reducible apply State.conf_answer
    | (extract_lets +onlyGivenNames x
       first
         | (refine conf_cut (s0 := s0) (ps := ps) (rs := rs) (s := x) ?_ (fun _ => ?_); (focus unfold x); on_goal 2 => clear_value x)
         | (unfold x; clear x)
         | clear_value x)
    | with_reducible apply conf_ite
    | split)

theorem State.conf_unaligned {s0 s : State} {ps : List Part} {rs : Nat → Prop} (a1 : Nat) (a2 : Nat) (h : Confined s0 ps rs s) (hp : [.sset, .bumped, .caused, .port, .fixer] ⊆ ps) (hr : ∀ a ∈ [Reg.CHIP_REG_STATUS], rs a) : Confined s0 ps rs (State.unaligned s a1 a2) := by
  unfold State.unaligned
  repeat' (first
    | with_reducible assumption
    | with_reducible exact sub_parts hp (by decide)
    | with_reducible exact sub_parts _hp (by decide)
    | with_reducible exact sub_regs hr (by decide)
    | with_reducible exact hr _ (by decide)
    | with_reducible apply State.conf_setFlag
    | with_reducible apply State.conf_raise
    | with_reducible apply State.conf_busFault
    | with_reducible apply conf_ite
    | split)

theorem State.conf_narrowRead {s0 s : State} {ps : List Part} {rs : Nat → Prop} (a1 : Nat) (a2 : Nat) (h : Confined s0 ps rs s) (hp : [.sset, .bumped, .caused, .port, .fixer, .bank, .free] ⊆ ps) (hr : ∀ a ∈ [Reg.FIXER_FIXER_STATUS, Reg.FIXER_LASTING_COUNT, Reg.LATENT_LAT_STATUS, Reg.TANK_CE_ADDR, Reg.TANK_CE_COUNT, Reg.TANK_FOG_PASSES, Reg.TANK_FOG_SKIPS, Reg.TANK_TANK_STATUS, Reg.TANK_UE_ADDR, Reg.TANK_UE_COUNT], rs a) : Confined s0 ps rs (State.narrowRead s a1 a2) := by
  unfold State.narrowRead
  repeat' (first
    | with_reducible assumption
    | with_reducible exact sub_parts hp (by decide)
    | with_reducible exact sub_parts _hp (by decide)
    | with_reducible exact sub_regs hr (by decide)
    | with_reducible exact hr _ (by decide)
    | with_reducible apply State.conf_answer
    | (extract_lets +onlyGivenNames x
       first
         | (refine conf_cut (s0 := s0) (ps := ps) (rs := rs) (s := x) ?_ (fun _ => ?_); (focus unfold x); on_goal 2 => clear_value x)
         | (unfold x; clear x)
         | clear_value x)
    | with_reducible apply conf_ite
    | split
    | (with_reducible refine conf_src rfl ?_ (fun p hq => ?_) (fun b _ => ?_) ?_
       on_goal 2 => cases p <;> first | with_reducible rfl | exact absurd (hp (by decide)) hq
       on_goal 2 => exact State.store_of_tables rfl rfl rfl b
       on_goal 2 => first | exact id | (intro hs; simp only [State.shaped] at hs ⊢; simp_all)))

theorem State.conf_loupeRead {s0 s : State} {ps : List Part} {rs : Nat → Prop} (a1 : Nat) (a2 : Nat) (h : Confined s0 ps rs s) (hp : [.sset, .bumped, .caused, .port, .fixer, .sheet, .bank, .free] ⊆ ps) (hr : ∀ a, rs a) : Confined s0 ps rs (State.loupeRead s a1 a2) := by
  unfold State.loupeRead
  repeat' (first
    | with_reducible assumption
    | with_reducible exact sub_parts hp (by decide)
    | with_reducible exact sub_parts _hp (by decide)
    | with_reducible exact fun a _ => hr a
    | with_reducible exact hr
    | with_reducible exact hr _
    | with_reducible apply State.conf_unaligned
    | with_reducible apply State.conf_narrowRead
    | with_reducible apply State.conf_accessRead
    | with_reducible apply State.conf_busFault
    | with_reducible apply State.conf_endCycle
    | (extract_lets +onlyGivenNames x
       first
         | (refine conf_cut (s0 := s0) (ps := ps) (rs := rs) (s := x) ?_ (fun _ => ?_); (focus unfold x); on_goal 2 => clear_value x)
         | (unfold x; clear x)
         | clear_value x)
    | with_reducible apply conf_ite
    | split
    | (with_reducible refine conf_src rfl ?_ (fun p hq => ?_) (fun b _ => ?_) ?_
       on_goal 2 => cases p <;> first | with_reducible rfl | exact absurd (hp (by decide)) hq
       on_goal 2 => exact State.store_of_tables rfl rfl rfl b
       on_goal 2 => first | exact id | (intro hs; simp only [State.shaped] at hs ⊢; simp_all)))

theorem State.conf_beginCmd {s0 s : State} {ps : List Part} {rs : Nat → Prop} (a1 : Cmd) (h : Confined s0 ps rs s) (hp : [.queue] ⊆ ps) (_hr : ∀ a ∈ ([] : List Nat), rs a) : Confined s0 ps rs (State.beginCmd s a1) := by
  unfold State.beginCmd
  repeat' (first
    | with_reducible assumption
    | with_reducible exact sub_parts hp (by decide)
    | with_reducible exact sub_parts _hp (by decide)
    | with_reducible exact sub_regs _hr (by decide)
    | with_reducible apply State.conf_setTag
    | (extract_lets +onlyGivenNames x
       first
         | (refine conf_cut (s0 := s0) (ps := ps) (rs := rs) (s := x) ?_ (fun _ => ?_); (focus unfold x); on_goal 2 => clear_value x)
         | (unfold x; clear x)
         | clear_value x)
    | with_reducible apply conf_ite
    | split
    | (with_reducible refine conf_src rfl ?_ (fun p hq => ?_) (fun b _ => ?_) ?_
       on_goal 2 => cases p <;> first | with_reducible rfl | exact absurd (hp (by decide)) hq
       on_goal 2 => exact State.store_of_tables rfl rfl rfl b
       on_goal 2 => first | exact id | (intro hs; simp only [State.shaped] at hs ⊢; simp_all)))

theorem State.conf_cmdWord {s0 s : State} {ps : List Part} {rs : Nat → Prop} (a1 : Cmd) (a2 : Nat) (h : Confined s0 ps rs s) (hp : [.sset, .bumped, .caused, .clk, .ident, .sideA, .sideB, .link, .outA, .outB, .frame, .queue, .port, .fixer, .front, .decim, .aper, .mx, .dev, .sheet, .latent, .print, .stage, .bank, .mode, .loupe, .mem, .free] ⊆ ps) (hr : ∀ a, rs a) : Confined s0 ps rs (State.cmdWord s a1 a2).1 := by
  unfold State.cmdWord
  repeat' (first
    | with_reducible assumption
    | with_reducible exact sub_parts hp (by decide)
    | with_reducible exact sub_parts _hp (by decide)
    | with_reducible exact fun a _ => hr a
    | with_reducible exact hr
    | with_reducible exact hr _
    | with_reducible apply State.conf_portRead
    | with_reducible refine State.conf_portRead_eq (by with_reducible assumption) ?_ ?_ ?_
    | with_reducible apply State.conf_portWrite
    | with_reducible refine State.conf_portWrite_eq (by with_reducible assumption) ?_ ?_ ?_
    | (extract_lets +onlyGivenNames x
       first
         | (refine conf_cut (s0 := s0) (ps := ps) (rs := rs) (s := x) ?_ (fun _ => ?_); (focus unfold x); on_goal 2 => clear_value x)
         | (unfold x; clear x)
         | clear_value x)
    | with_reducible apply conf_ite
    | split)

theorem State.conf_cmdWord_eq {s0 s t : State} {ps : List Part} {rs : Nat → Prop} (a1 : Cmd) (a2 : Nat) {x : Nat × List Word} (e : State.cmdWord s a1 a2 = (t, x)) (h : Confined s0 ps rs s) (hp : [.sset, .bumped, .caused, .clk, .ident, .sideA, .sideB, .link, .outA, .outB, .frame, .queue, .port, .fixer, .front, .decim, .aper, .mx, .dev, .sheet, .latent, .print, .stage, .bank, .mode, .loupe, .mem, .free] ⊆ ps) (hr : ∀ a, rs a) : Confined s0 ps rs t := by
  have := State.conf_cmdWord a1 a2 h hp hr
  rwa [e] at this

theorem State.conf_cmdWords {s0 s : State} {ps : List Part} {rs : Nat → Prop} (c : Cmd) (n : Nat) (h : Confined s0 ps rs s) (hp : [.sset, .bumped, .caused, .clk, .ident, .sideA, .sideB, .link, .outA, .outB, .frame, .queue, .port, .fixer, .front, .decim, .aper, .mx, .dev, .sheet, .latent, .print, .stage, .bank, .mode, .loupe, .mem, .free] ⊆ ps) (hr : ∀ a, rs a) : Confined s0 ps rs (State.cmdWords s c n) := by
  induction n generalizing s with
  | zero => exact h
  | succ n ih =>
    unfold State.cmdWords
    have hw := State.conf_cmdWord c s.queue.done h (sub_parts hp (by decide)) hr
    dsimp only
    with_reducible apply conf_ite
    · exact State.conf_complete _ _ _ hw (sub_parts hp (by decide)) (fun a _ => hr a)
    · with_reducible apply conf_ite
      · exact State.conf_complete _ _ _ hw (sub_parts hp (by decide)) (fun a _ => hr a)
      · refine ih (State.conf_endCycle ?_ (sub_parts hp (by decide)) (fun a _ => hr a))
        exact (conf_upd hw (by intro p hq; cases p <;> first | rfl | exact absurd (hp (by decide)) hq) (fun b _ => State.store_of_tables rfl rfl rfl b) (by intro hs; first | exact hs | (simp only [State.shaped] at hs ⊢; simp_all)))

theorem State.conf_hostRun {s0 s : State} {ps : List Part} {rs : Nat → Prop} (a1 : Nat) (a2 : Nat) (h : Confined s0 ps rs s) (hp : [.sset, .bumped, .caused, .clk, .ident, .sideA, .sideB, .link, .outA, .outB, .frame, .queue, .port, .fixer, .front, .decim, .aper, .mx, .dev, .sheet, .latent, .print, .stage, .bank, .mode, .loupe, .mem, .free] ⊆ ps) (hr : ∀ a, rs a) : Confined s0 ps rs (State.hostRun s a1 a2) := by
  unfold State.hostRun
  repeat' (first
    | with_reducible assumption
    | with_reducible exact sub_parts hp (by decide)
    | with_reducible exact sub_parts _hp (by decide)
    | with_reducible exact fun a _ => hr a
    | with_reducible exact hr
    | with_reducible exact hr _
    | with_reducible apply State.conf_beginCmd
    | with_reducible apply State.conf_breakPair
    | with_reducible apply State.conf_complete
    | with_reducible apply State.conf_cmdWords
    | (extract_lets +onlyGivenNames x
       first
         | (refine conf_cut (s0 := s0) (ps := ps) (rs := rs) (s := x) ?_ (fun _ => ?_); (focus unfold x); on_goal 2 => clear_value x)
         | (unfold x; clear x)
         | clear_value x)
    | with_reducible apply conf_ite
    | split
    | (with_reducible refine conf_src rfl ?_ (fun p hq => ?_) (fun b _ => ?_) ?_
       on_goal 2 => cases p <;> first | with_reducible rfl | exact absurd (hp (by decide)) hq
       on_goal 2 => exact State.store_of_tables rfl rfl rfl b
       on_goal 2 => first | exact id | (intro hs; simp only [State.shaped] at hs ⊢; simp_all)))

theorem State.conf_abortStep {s0 s : State} {ps : List Part} {rs : Nat → Prop}  (h : Confined s0 ps rs s) (hp : [.sset, .bumped, .caused, .queue, .fixer, .bank, .mem] ⊆ ps) (hr : ∀ a ∈ [Reg.FIXER_FIXER_STATUS, Reg.FIXER_LASTING_COUNT, Reg.QUEUE_QUEUE_STATUS, Reg.TANK_CE_ADDR, Reg.TANK_CE_COUNT, Reg.TANK_FOG_PASSES, Reg.TANK_FOG_SKIPS, Reg.TANK_TANK_STATUS, Reg.TANK_UE_ADDR, Reg.TANK_UE_COUNT], rs a) : Confined s0 ps rs (State.abortStep s) := by
  unfold State.abortStep
  repeat' (first
    | with_reducible assumption
    | with_reducible exact sub_parts hp (by decide)
    | with_reducible exact sub_parts _hp (by decide)
    | with_reducible exact sub_regs hr (by decide)
    | with_reducible exact hr _ (by decide)
    | with_reducible apply State.conf_examineAbort
    | (extract_lets +onlyGivenNames x
       first
         | (refine conf_cut (s0 := s0) (ps := ps) (rs := rs) (s := x) ?_ (fun _ => ?_); (focus unfold x); on_goal 2 => clear_value x)
         | (unfold x; clear x)
         | clear_value x)
    | with_reducible apply conf_ite
    | split
    | (with_reducible refine conf_src rfl ?_ (fun p hq => ?_) (fun b _ => ?_) ?_
       on_goal 2 => cases p <;> first | with_reducible rfl | exact absurd (hp (by decide)) hq
       on_goal 2 => exact State.store_of_tables rfl rfl rfl b
       on_goal 2 => first | exact id | (intro hs; simp only [State.shaped] at hs ⊢; simp_all)))

theorem State.conf_postEvent {s0 s : State} {ps : List Part} {rs : Nat → Prop} (a1 : LogEntry) (a2 : Nat) (h : Confined s0 ps rs s) (hp : [.sset, .bumped, .caused, .queue, .fixer, .bank, .mem] ⊆ ps) (hr : ∀ a ∈ [Reg.FIXER_FIXER_STATUS, Reg.FIXER_LASTING_COUNT, Reg.QUEUE_EVT_COUNT, Reg.QUEUE_EVT_DROPS, Reg.QUEUE_QUEUE_STATUS, Reg.TANK_CE_ADDR, Reg.TANK_CE_COUNT, Reg.TANK_FOG_PASSES, Reg.TANK_FOG_SKIPS, Reg.TANK_TANK_STATUS, Reg.TANK_UE_ADDR, Reg.TANK_UE_COUNT], rs a) : Confined s0 ps rs (State.postEvent s a1 a2) := by
  unfold State.postEvent
  repeat' (first
    | with_reducible assumption
    | with_reducible exact sub_parts hp (by decide)
    | with_reducible exact sub_parts _hp (by decide)
    | with_reducible exact sub_regs hr (by decide)
    | with_reducible exact hr _ (by decide)
    | with_reducible apply State.conf_setTank
    | with_reducible apply State.conf_countWrap
    | with_reducible apply State.conf_countSat
    | with_reducible apply State.conf_setFlag
    | with_reducible apply State.conf_raise
    | (extract_lets +onlyGivenNames x
       first
         | (refine conf_cut (s0 := s0) (ps := ps) (rs := rs) (s := x) ?_ (fun _ => ?_); (focus unfold x); on_goal 2 => clear_value x)
         | (unfold x; clear x)
         | clear_value x)
    | with_reducible apply conf_ite
    | split
    | (with_reducible refine conf_src rfl ?_ (fun p hq => ?_) (fun b _ => ?_) ?_
       on_goal 2 => cases p <;> first | with_reducible rfl | exact absurd (hp (by decide)) hq
       on_goal 2 => exact State.store_of_tables rfl rfl rfl b
       on_goal 2 => first | exact id | (intro hs; simp only [State.shaped] at hs ⊢; simp_all)))

theorem State.conf_logStep {s0 s : State} {ps : List Part} {rs : Nat → Prop}  (h : Confined s0 ps rs s) (hp : [.sset, .bumped, .caused, .queue, .fixer, .bank, .mem] ⊆ ps) (hr : ∀ a ∈ [Reg.FIXER_FIXER_STATUS, Reg.FIXER_LASTING_COUNT, Reg.FIXER_LOG_TOTAL, Reg.QUEUE_EVT_COUNT, Reg.QUEUE_EVT_DROPS, Reg.QUEUE_QUEUE_STATUS, Reg.TANK_CE_ADDR, Reg.TANK_CE_COUNT, Reg.TANK_FOG_PASSES, Reg.TANK_FOG_SKIPS, Reg.TANK_TANK_STATUS, Reg.TANK_UE_ADDR, Reg.TANK_UE_COUNT], rs a) : Confined s0 ps rs (State.logStep s) := by
  unfold State.logStep
  repeat' (first
    | with_reducible assumption
    | with_reducible exact sub_parts hp (by decide)
    | with_reducible exact sub_parts _hp (by decide)
    | with_reducible exact sub_regs hr (by decide)
    | with_reducible exact hr _ (by decide)
    | with_reducible apply State.conf_setTankWords
    | with_reducible apply State.conf_setReg
    | with_reducible apply State.conf_postEvent
    | (extract_lets +onlyGivenNames x
       first
         | (refine conf_cut (s0 := s0) (ps := ps) (rs := rs) (s := x) ?_ (fun _ => ?_); (focus unfold x); on_goal 2 => clear_value x)
         | (unfold x; clear x)
         | clear_value x)
    | with_reducible apply conf_ite
    | split
    | (with_reducible refine conf_src rfl ?_ (fun p hq => ?_) (fun b _ => ?_) ?_
       on_goal 2 => cases p <;> first | with_reducible rfl | exact absurd (hp (by decide)) hq
       on_goal 2 => exact State.store_of_tables rfl rfl rfl b
       on_goal 2 => first | exact id | (intro hs; simp only [State.shaped] at hs ⊢; simp_all)))

end Sys2Proof.Machine
end

