-- ==== Sys2Proof/Laws/ConfFrame.lean ====
section
/-! SUPPORT. What every operation of Machine/Frame.lean is confined to: the parts of the state and the registers it can change. -/

set_option linter.unusedTactic false
set_option linter.unreachableTactic false
set_option linter.unusedVariables false
set_option linter.tactic.unusedName false

namespace Sys2Proof.Machine

theorem State.conf_reloaded {s0 s : State} {ps : List Part} {rs : Nat → Prop} (a1 : Nat) (a2 : Bool) (h : Confined s0 ps rs s) (hp : [.sset, .bumped, .caused, .sideA, .sideB, .link, .outA, .outB, .frame, .fixer, .front, .decim, .latent, .print, .bank] ⊆ ps) (hr : ∀ a ∈ [Reg.FRAME_FRAME_STATUS], rs a) : Confined s0 ps rs (State.reloaded s a1 a2) := by
  unfold State.reloaded
  repeat' (first
    | with_reducible assumption
    | with_reducible exact sub_parts hp (by decide)
    | with_reducible exact sub_parts _hp (by decide)
    | with_reducible exact sub_regs hr (by decide)
    | with_reducible exact hr _ (by decide)
    | with_reducible apply State.conf_endLoopAt
    | with_reducible apply State.conf_cutProof
    | with_reducible apply State.conf_updateWatch
    | with_reducible apply State.conf_fogEnd
    | with_reducible apply State.conf_startRunD
    | with_reducible apply State.conf_updateBiases
    | (extract_lets +onlyGivenNames x
       first
         | (refine conf_cut (s0 := s0) (ps := ps) (rs := rs) (s := x) ?_ (fun _ => ?_); (focus unfold x); on_goal 2 => clear_value x)
         | (unfold x; clear x)
         | clear_value x)
    | with_reducible apply conf_ite
    | split
    | (with_reducible refine conf_src rfl ?_ (fun p hq => ?_) (fun b _ => ?_) ?_
       on_goal 2 => cases p <;> first | with_reducible rfl | exact absurd (hp (by decide)) hq
       on_goal 2 => exact State.store_of_tables rfl rfl rfl b
       on_goal 2 => first | exact id | (intro hs; simp only [State.shaped] at hs ⊢; simp_all)))

theorem State.conf_upset {s0 s : State} {ps : List Part} {rs : Nat → Prop} (a i : Nat) (h : Confined s0 ps rs s) (_hp : ([] : List Part) ⊆ ps) (hr : ∀ a, rs a) : Confined s0 ps rs (State.upset s a i) := by
  unfold State.upset
  dsimp only
  have h1 : ∀ (r : List (Nat × Word)) (q : List (Nat × Bool)), Confined s0 ps rs { s with regs := r, par := q } := fun r q =>
    conf_upd h (by intro p _; cases p <;> rfl) (fun b hb => absurd (hr b) hb) id
  exact conf_ite (h1 _ _) (h1 s.regs _)

theorem State.conf_configParity {s0 s : State} {ps : List Part} {rs : Nat → Prop} (run : Bool) (a : Nat) (h : Confined s0 ps rs s) (hp : [.sset, .bumped, .caused, .sideA, .sideB, .link, .outA, .outB, .frame, .port, .fixer, .front, .decim, .latent, .print, .bank] ⊆ ps) (hr : ∀ a, rs a) : Confined s0 ps rs (State.configParity run s a) := by
  unfold State.configParity
  extract_lets base w p s0' po fx s1 s2 s3 s4
  have h0 : Confined s0 ps rs s0' := conf_ite (State.conf_endStageLoop h (sub_parts hp (by decide)) (fun a _ => hr a)) h
  clear_value s0'
  have h1 : Confined s0 ps rs s1 :=
    conf_upd h0 (by intro p hq; cases p <;> first | rfl | exact absurd (hp (by decide)) hq) (fun b hb => absurd (hr b) hb) id
  clear_value s1
  have h2 : Confined s0 ps rs s2 := State.conf_setFld _ _ _ _ (State.conf_setFlag _ _ h1 (sub_parts hp (by decide)) (hr _)) (hr _)
  clear_value s2
  have h3 : Confined s0 ps rs s3 := State.conf_raise _ _ _ _ (State.conf_countSat _ h2 (hr _)) (sub_parts hp (by decide)) (fun a _ => hr a)
  clear_value s3
  have h4 : Confined s0 ps rs s4 := State.conf_fixerReport _ h3 (sub_parts hp (by decide)) (fun a _ => hr a)
  clear_value s4
  exact State.conf_reloaded _ _ h4 (sub_parts hp (by decide)) (fun a _ => hr a)

theorem State.conf_checkConfig {s0 s : State} {ps : List Part} {rs : Nat → Prop} (upsets : List (Nat × Nat)) (h : Confined s0 ps rs s) (hp : [.sset, .bumped, .caused, .sideA, .sideB, .link, .outA, .outB, .frame, .port, .fixer, .front, .decim, .latent, .print, .stage, .bank] ⊆ ps) (hr : ∀ a, rs a) : Confined s0 ps rs (State.checkConfig s upsets) := by
  unfold State.checkConfig
  extract_lets run old s1 s2
  have h1 : Confined s0 ps rs s1 := conf_foldl (fun u p hu => State.conf_upset _ _ hu (sub_parts hp (by decide)) hr) h
  clear_value s1
  have h2 : Confined s0 ps rs s2 := State.conf_stopHeld (conf_foldl (fun u a hu => State.conf_configParity run a hu (sub_parts hp (by decide)) hr) h1) (sub_parts hp (by decide)) (fun a _ => hr a)
  clear_value s2
  exact conf_foldl (fun u n hu => conf_ite hu (State.conf_verifyRestart _ hu (sub_parts hp (by decide)) (fun a _ => hr a))) h2

theorem State.conf_applyEpochHi {s0 s : State} {ps : List Part} {rs : Nat → Prop}  (h : Confined s0 ps rs s) (hp : [.clk, .mx, .latent, .stage] ⊆ ps) (hr : ∀ a ∈ [Reg.CHIP_EPOCH_HI_SET_A, Reg.CHIP_EPOCH_HI_SET_B], rs a) : Confined s0 ps rs (State.applyEpochHi s) := by
  unfold State.applyEpochHi
  repeat' (first
    | with_reducible assumption
    | with_reducible exact sub_parts hp (by decide)
    | with_reducible exact sub_parts _hp (by decide)
    | with_reducible exact sub_regs hr (by decide)
    | with_reducible exact hr _ (by decide)
    | with_reducible apply State.conf_setPair
    | with_reducible apply State.conf_shiftStages
    | (extract_lets +onlyGivenNames x
       first
         | (refine conf_cut (s0 := s0) (ps := ps) (rs := rs) (s := x) ?_ (fun _ => ?_); (focus unfold x); on_goal 2 => clear_value x)
         | (unfold x; clear x)
         | clear_value x)
    | split
    | (with_reducible refine conf_src rfl ?_ (fun p hq => ?_) (fun b _ => ?_) ?_
       on_goal 2 => cases p <;> first | with_reducible rfl | exact absurd (hp (by decide)) hq
       on_goal 2 => exact State.store_of_tables rfl rfl rfl b
       on_goal 2 => first | exact id | (intro hs; simp only [State.shaped] at hs ⊢; simp_all)))

theorem State.conf_logHandOver {s0 s : State} {ps : List Part} {rs : Nat → Prop}  (h : Confined s0 ps rs s) (hp : [.fixer, .mode] ⊆ ps) (_hr : ∀ a ∈ ([] : List Nat), rs a) : Confined s0 ps rs (State.logHandOver s) := by
  unfold State.logHandOver
  repeat' (first
    | with_reducible assumption
    | with_reducible exact sub_parts hp (by decide)
    | with_reducible exact sub_parts _hp (by decide)
    | with_reducible exact sub_regs _hr (by decide)
    | (extract_lets +onlyGivenNames x
       first
         | (refine conf_cut (s0 := s0) (ps := ps) (rs := rs) (s := x) ?_ (fun _ => ?_); (focus unfold x); on_goal 2 => clear_value x)
         | (unfold x; clear x)
         | clear_value x)
    | with_reducible apply conf_ite
    | split
    | (with_reducible refine conf_src rfl ?_ (fun p hq => ?_) (fun b _ => ?_) ?_
       on_goal 2 => cases p <;> first | with_reducible rfl | exact absurd (hp (by decide)) hq
       on_goal 2 => exact State.store_of_tables rfl rfl rfl b
       on_goal 2 => first | exact id | (intro hs; simp only [State.shaped] at hs ⊢; simp_all)))

theorem State.conf_faultBegan {s0 s : State} {ps : List Part} {rs : Nat → Prop} (a1 : State) (h : Confined s0 ps rs s) (hp : [.mx, .stage, .bank] ⊆ ps) (_hr : ∀ a ∈ ([] : List Nat), rs a) : Confined s0 ps rs (State.faultBegan s a1) := by
  unfold State.faultBegan
  repeat' (first
    | with_reducible assumption
    | with_reducible exact sub_parts hp (by decide)
    | with_reducible exact sub_parts _hp (by decide)
    | with_reducible exact sub_regs _hr (by decide)
    | with_reducible apply State.conf_openWindow
    | with_reducible apply State.conf_fogEnd
    | with_reducible apply State.conf_syncHold
    | with_reducible apply conf_ite
    | split)

theorem State.conf_markFaulted {s0 s : State} {ps : List Part} {rs : Nat → Prop}  (h : Confined s0 ps rs s) (hp : [.clk] ⊆ ps) (_hr : ∀ a ∈ ([] : List Nat), rs a) : Confined s0 ps rs (State.markFaulted s) := by
  unfold State.markFaulted
  repeat' (first
    | with_reducible assumption
    | with_reducible exact sub_parts hp (by decide)
    | with_reducible exact sub_parts _hp (by decide)
    | with_reducible exact sub_regs _hr (by decide)
    | (extract_lets +onlyGivenNames x
       first
         | (refine conf_cut (s0 := s0) (ps := ps) (rs := rs) (s := x) ?_ (fun _ => ?_); (focus unfold x); on_goal 2 => clear_value x)
         | (unfold x; clear x)
         | clear_value x)
    | with_reducible apply conf_ite
    | split
    | (with_reducible refine conf_src rfl ?_ (fun p hq => ?_) (fun b _ => ?_) ?_
       on_goal 2 => cases p <;> first | with_reducible rfl | exact absurd (hp (by decide)) hq
       on_goal 2 => exact State.store_of_tables rfl rfl rfl b
       on_goal 2 => first | exact id | (intro hs; simp only [State.shaped] at hs ⊢; simp_all)))

theorem State.conf_sampleControls {s0 s : State} {ps : List Part} {rs : Nat → Prop}  (h : Confined s0 ps rs s) (hp : [.sset, .bumped, .caused, .frame, .fixer, .front, .decim, .aper, .dev, .sheet, .print, .stage] ⊆ ps) (hr : ∀ a ∈ [Reg.FIXER_FIXER_STATUS, Reg.FIXER_LASTING_COUNT, Reg.FRONT_FRONT_STATUS, Reg.FRONT_PROOF_CTL_A, Reg.FRONT_PROOF_CTL_B, Reg.STAGE_LATCH, Reg.STAGE_STAGE_STATUS, Reg.STAGE_TRIP_COUNT], rs a) : Confined s0 ps rs (State.sampleControls s) := by
  unfold State.sampleControls
  repeat' (first
    | with_reducible assumption
    | with_reducible exact sub_parts hp (by decide)
    | with_reducible exact sub_parts _hp (by decide)
    | with_reducible exact sub_regs hr (by decide)
    | with_reducible exact hr _ (by decide)
    | with_reducible apply State.conf_repeatSearch
    | with_reducible apply State.conf_sampleDrives
    | with_reducible apply State.conf_sampleFront
    | with_reducible apply State.conf_samplePhase
    | with_reducible apply State.conf_sampleAper
    | with_reducible apply State.conf_sampleDev
    | with_reducible apply State.conf_sampleSheet
    | with_reducible apply State.conf_sampleStages
    | (extract_lets +onlyGivenNames x
       first
         | (refine conf_cut (s0 := s0) (ps := ps) (rs := rs) (s := x) ?_ (fun _ => ?_); (focus unfold x); on_goal 2 => clear_value x)
         | (unfold x; clear x)
         | clear_value x)
    | with_reducible apply conf_ite
    | split
    | (with_reducible refine conf_src rfl ?_ (fun p hq => ?_) (fun b _ => ?_) ?_
       on_goal 2 => cases p <;> first | with_reducible rfl | exact absurd (hp (by decide)) hq
       on_goal 2 => exact State.store_of_tables rfl rfl rfl b
       on_goal 2 => first | exact id | (intro hs; simp only [State.shaped] at hs ⊢; simp_all)))

theorem State.conf_parityChecks {s0 s : State} {ps : List Part} {rs : Nat → Prop} (i : FrameIn) (h : Confined s0 ps rs s) (hp : [.sset, .bumped, .caused, .sideA, .sideB, .link, .outA, .outB, .frame, .port, .fixer, .front, .decim, .aper, .mx, .dev, .latent, .print, .stage, .bank] ⊆ ps) (hr : ∀ a, rs a) : Confined s0 ps rs (State.parityChecks s i) := by
  unfold State.parityChecks
  extract_lets s1 s2 s3 s4 s5 s6
  have h1 : Confined s0 ps rs s1 := State.conf_checkConfig _ h (sub_parts hp (by decide)) hr
  clear_value s1
  have h2 : Confined s0 ps rs s2 := conf_foldl (fun u p hu => State.conf_tableUpset _ hu (sub_parts hp (by decide)) (fun a _ => hr a)) h1
  clear_value s2
  have h3 : Confined s0 ps rs s3 := conf_ite (conf_foldl (fun u p hu => State.conf_checkTables _ _ hu (sub_parts hp (by decide)) (fun a _ => hr a)) h2) h2
  clear_value s3
  have h4 : Confined s0 ps rs s4 := conf_foldl (fun u p hu => State.conf_planUpset _ _ hu (sub_parts hp (by decide)) (fun a _ => hr a)) h3
  clear_value s4
  have h5 : Confined s0 ps rs s5 := conf_ite (State.conf_planParity h4 (sub_parts hp (by decide)) (fun a _ => hr a)) h4
  clear_value s5
  have h6 : Confined s0 ps rs s6 := conf_foldl (fun u p hu => State.conf_profUpset _ _ hu (sub_parts hp (by decide)) (fun a _ => hr a)) h5
  clear_value s6
  exact conf_foldl (fun u p hu => State.conf_profileParity p hu (sub_parts hp (by decide)) (fun a _ => hr a)) h6

theorem State.conf_frameWork {s0 s : State} {ps : List Part} {rs : Nat → Prop} (a1 : FrameIn) (h : Confined s0 ps rs s) (hp : [.sset, .bumped, .caused, .clk, .ident, .sideA, .sideB, .link, .outA, .outB, .frame, .queue, .port, .fixer, .front, .decim, .aper, .mx, .dev, .sheet, .latent, .print, .stage, .bank, .mode, .loupe] ⊆ ps) (hr : ∀ a, rs a) : Confined s0 ps rs (State.frameWork s a1) := by
  unfold State.frameWork
  repeat' (first
    | with_reducible assumption
    | with_reducible exact sub_parts hp (by decide)
    | with_reducible exact sub_parts _hp (by decide)
    | with_reducible exact fun a _ => hr a
    | with_reducible exact hr
    | with_reducible exact hr _
    | with_reducible apply State.conf_dueAborts
    | with_reducible apply State.conf_applyEpochHi
    | with_reducible apply State.conf_applyOverride
    | with_reducible apply State.conf_startLoop
    | with_reducible apply State.conf_startProof
    | with_reducible apply State.conf_logHandOver
    | with_reducible apply State.conf_noteFrameLen
    | with_reducible apply State.conf_sampleControls
    | with_reducible apply State.conf_parityChecks
    | (extract_lets +onlyGivenNames x
       first
         | (refine conf_cut (s0 := s0) (ps := ps) (rs := rs) (s := x) ?_ (fun _ => ?_); (focus unfold x); on_goal 2 => clear_value x)
         | (unfold x; clear x)
         | clear_value x)
    | with_reducible apply conf_ite
    | split
    | (with_reducible refine conf_src rfl ?_ (fun p hq => ?_) (fun b _ => ?_) ?_
       on_goal 2 => cases p <;> first | with_reducible rfl | exact absurd (hp (by decide)) hq
       on_goal 2 => exact State.store_of_tables rfl rfl rfl b
       on_goal 2 => first | exact id | (intro hs; simp only [State.shaped] at hs ⊢; simp_all)))

theorem State.conf_lostCopy {s0 s : State} {ps : List Part} {rs : Nat → Prop} (a1 : Side) (a2 : FrameIn) (a3 : Bool) (h : Confined s0 ps rs s) (hp : [.sset, .bumped, .caused, .frame, .fixer] ⊆ ps) (hr : ∀ a ∈ [Reg.FRAME_FRAME_STATUS], rs a) : Confined s0 ps rs (State.lostCopy s a1 a2 a3) := by
  unfold State.lostCopy
  repeat' (first
    | with_reducible assumption
    | with_reducible exact sub_parts hp (by decide)
    | with_reducible exact sub_parts _hp (by decide)
    | with_reducible exact sub_regs hr (by decide)
    | with_reducible exact hr _ (by decide)
    | with_reducible apply State.conf_regCopyBad
    | with_reducible apply State.conf_judgeLost
    | (extract_lets +onlyGivenNames x
       first
         | (refine conf_cut (s0 := s0) (ps := ps) (rs := rs) (s := x) ?_ (fun _ => ?_); (focus unfold x); on_goal 2 => clear_value x)
         | (unfold x; clear x)
         | clear_value x)
    | with_reducible apply conf_ite
    | split)

theorem State.conf_judgeClock {s0 s : State} {ps : List Part} {rs : Nat → Prop} (a1 : FrameIn) (a2 : Bool) (a3 : Bool) (h : Confined s0 ps rs s) (hp : [.sset, .bumped, .caused, .clk, .fixer] ⊆ ps) (hr : ∀ a ∈ [Reg.CHIP_CLK_FAULTS, Reg.CHIP_CLK_STATUS, Reg.FIXER_FIXER_STATUS, Reg.FIXER_LASTING_COUNT], rs a) : Confined s0 ps rs (State.judgeClock s a1 a2 a3) := by
  unfold State.judgeClock
  repeat' (first
    | with_reducible assumption
    | with_reducible exact sub_parts hp (by decide)
    | with_reducible exact sub_parts _hp (by decide)
    | with_reducible exact sub_regs hr (by decide)
    | with_reducible exact hr _ (by decide)
    | with_reducible apply State.conf_clockFrameStart
    | with_reducible apply State.conf_markFaulted
    | (extract_lets +onlyGivenNames x
       first
         | (refine conf_cut (s0 := s0) (ps := ps) (rs := rs) (s := x) ?_ (fun _ => ?_); (focus unfold x); on_goal 2 => clear_value x)
         | (unfold x; clear x)
         | clear_value x)
    | with_reducible apply conf_ite
    | split)

theorem State.conf_selectedStart {s0 s : State} {ps : List Part} {rs : Nat → Prop} (a1 : Side) (a2 : FrameIn) (h : Confined s0 ps rs s) (hp : [.sset, .bumped, .caused, .clk, .ident, .sideA, .sideB, .link, .outA, .outB, .frame, .queue, .port, .fixer, .front, .decim, .aper, .mx, .dev, .sheet, .latent, .print, .stage, .bank, .mode, .loupe] ⊆ ps) (hr : ∀ a, rs a) : Confined s0 ps rs (State.selectedStart s a1 a2) := by
  unfold State.selectedStart
  repeat' (first
    | with_reducible assumption
    | with_reducible exact sub_parts hp (by decide)
    | with_reducible exact sub_parts _hp (by decide)
    | with_reducible exact fun a _ => hr a
    | with_reducible exact hr
    | with_reducible exact hr _
    | with_reducible apply State.conf_newFlagFrame
    | with_reducible apply State.conf_linkFrameStart
    | with_reducible apply State.conf_trainFrame
    | with_reducible apply State.conf_judgeClock
    | with_reducible apply State.conf_faultBegan
    | with_reducible apply State.conf_lostCopy
    | with_reducible apply State.conf_frameWork
    | (extract_lets +onlyGivenNames x
       first
         | (refine conf_cut (s0 := s0) (ps := ps) (rs := rs) (s := x) ?_ (fun _ => ?_); (focus unfold x); on_goal 2 => clear_value x)
         | (unfold x; clear x)
         | clear_value x)
    | with_reducible apply conf_ite
    | split
    | (with_reducible refine conf_src rfl ?_ (fun p hq => ?_) (fun b _ => ?_) ?_
       on_goal 2 => cases p <;> first | with_reducible rfl | exact absurd (hp (by decide)) hq
       on_goal 2 => exact State.store_of_tables rfl rfl rfl b
       on_goal 2 => first | exact id | (intro hs; simp only [State.shaped] at hs ⊢; simp_all)))

theorem State.conf_otherStart {s0 s : State} {ps : List Part} {rs : Nat → Prop} (a1 : Side) (a2 : FrameIn) (h : Confined s0 ps rs s) (hp : [.sset, .bumped, .caused, .sideA, .sideB, .link, .outA, .outB, .frame, .fixer] ⊆ ps) (hr : ∀ a ∈ [Reg.FRAME_FRAME_STATUS, Reg.LINK_FAW_MISS_A, Reg.LINK_FAW_MISS_B], rs a) : Confined s0 ps rs (State.otherStart s a1 a2) := by
  unfold State.otherStart
  repeat' (first
    | with_reducible assumption
    | with_reducible exact sub_parts hp (by decide)
    | with_reducible exact sub_parts _hp (by decide)
    | with_reducible exact sub_regs hr (by decide)
    | with_reducible exact hr _ (by decide)
    | with_reducible apply State.conf_trainFrame
    | with_reducible apply State.conf_linkFrameStart
    | with_reducible apply State.conf_lostCopy
    | with_reducible apply State.conf_modSd
    | (extract_lets +onlyGivenNames x
       first
         | (refine conf_cut (s0 := s0) (ps := ps) (rs := rs) (s := x) ?_ (fun _ => ?_); (focus unfold x); on_goal 2 => clear_value x)
         | (unfold x; clear x)
         | clear_value x)
    | with_reducible apply conf_ite
    | split
    | (with_reducible refine conf_src rfl ?_ (fun p hq => ?_) (fun b _ => ?_) ?_
       on_goal 2 => cases p <;> first | with_reducible rfl | exact absurd (hp (by decide)) hq
       on_goal 2 => exact State.store_of_tables rfl rfl rfl b
       on_goal 2 => first | exact id | (intro hs; simp only [State.shaped] at hs ⊢; simp_all)))

theorem State.conf_resetFrame {s0 s : State} {ps : List Part} {rs : Nat → Prop} (a1 : Side) (h : Confined s0 ps rs s) (hp : [.clk] ⊆ ps) (_hr : ∀ a ∈ ([] : List Nat), rs a) : Confined s0 ps rs (State.resetFrame s a1) := by
  unfold State.resetFrame
  repeat' (first
    | with_reducible assumption
    | with_reducible exact sub_parts hp (by decide)
    | with_reducible exact sub_parts _hp (by decide)
    | with_reducible exact sub_regs _hr (by decide)
    | (extract_lets +onlyGivenNames x
       first
         | (refine conf_cut (s0 := s0) (ps := ps) (rs := rs) (s := x) ?_ (fun _ => ?_); (focus unfold x); on_goal 2 => clear_value x)
         | (unfold x; clear x)
         | clear_value x)
    | with_reducible apply conf_ite
    | split
    | (with_reducible refine conf_src rfl ?_ (fun p hq => ?_) (fun b _ => ?_) ?_
       on_goal 2 => cases p <;> first | with_reducible rfl | exact absurd (hp (by decide)) hq
       on_goal 2 => exact State.store_of_tables rfl rfl rfl b
       on_goal 2 => first | exact id | (intro hs; simp only [State.shaped] at hs ⊢; simp_all)))

theorem State.conf_frameStart {s0 s : State} {ps : List Part} {rs : Nat → Prop} (a1 : Side) (a2 : FrameIn) (h : Confined s0 ps rs s) (hp : [.sset, .bumped, .caused, .clk, .ident, .sideA, .sideB, .link, .outA, .outB, .frame, .queue, .port, .fixer, .front, .decim, .aper, .mx, .dev, .sheet, .latent, .print, .stage, .bank, .mode, .loupe, .mem] ⊆ ps) (hr : ∀ a, rs a) : Confined s0 ps rs (State.frameStart s a1 a2) := by
  unfold State.frameStart
  repeat' (first
    | with_reducible assumption
    | with_reducible exact sub_parts hp (by decide)
    | with_reducible exact sub_parts _hp (by decide)
    | with_reducible exact fun a _ => hr a
    | with_reducible exact hr
    | with_reducible exact hr _
    | with_reducible apply State.conf_resetFrame
    | with_reducible apply State.conf_restoreOut
    | with_reducible apply State.conf_outStart
    | with_reducible apply State.conf_countProof
    | with_reducible apply State.conf_otherStart
    | with_reducible apply State.conf_resetAll
    | with_reducible apply State.conf_selectedStart
    | with_reducible apply State.conf_noteWithheld
    | with_reducible apply State.conf_modSd
    | (extract_lets +onlyGivenNames x
       first
         | (refine conf_cut (s0 := s0) (ps := ps) (rs := rs) (s := x) ?_ (fun _ => ?_); (focus unfold x); on_goal 2 => clear_value x)
         | (unfold x; clear x)
         | clear_value x)
    | with_reducible apply conf_ite
    | split
    | (with_reducible refine conf_src rfl ?_ (fun p hq => ?_) (fun b _ => ?_) ?_
       on_goal 2 => cases p <;> first | with_reducible rfl | exact absurd (hp (by decide)) hq
       on_goal 2 => exact State.store_of_tables rfl rfl rfl b
       on_goal 2 => first | exact id | (intro hs; simp only [State.shaped] at hs ⊢; simp_all)))

theorem State.conf_settleFrom {s0 s : State} {ps : List Part} {rs : Nat → Prop}  (h : Confined s0 ps rs s) (hp : [.clk, .aper, .mx] ⊆ ps) (_hr : ∀ a ∈ ([] : List Nat), rs a) : Confined s0 ps rs (State.settleFrom s) := by
  unfold State.settleFrom
  repeat' (first
    | with_reducible assumption
    | with_reducible exact sub_parts hp (by decide)
    | with_reducible exact sub_parts _hp (by decide)
    | with_reducible exact sub_regs _hr (by decide)
    | with_reducible apply State.conf_openWindow
    | (extract_lets +onlyGivenNames x
       first
         | (refine conf_cut (s0 := s0) (ps := ps) (rs := rs) (s := x) ?_ (fun _ => ?_); (focus unfold x); on_goal 2 => clear_value x)
         | (unfold x; clear x)
         | clear_value x)
    | (with_reducible refine conf_src rfl ?_ (fun p hq => ?_) (fun b _ => ?_) ?_
       on_goal 2 => cases p <;> first | with_reducible rfl | exact absurd (hp (by decide)) hq
       on_goal 2 => exact State.store_of_tables rfl rfl rfl b
       on_goal 2 => first | exact id | (intro hs; simp only [State.shaped] at hs ⊢; simp_all)))

theorem State.conf_afterGap {s0 s : State} {ps : List Part} {rs : Nat → Prop} (a1 : Nat) (h : Confined s0 ps rs s) (hp : [.clk, .front, .aper, .mx, .dev, .sheet, .latent] ⊆ ps) (_hr : ∀ a ∈ ([] : List Nat), rs a) : Confined s0 ps rs (State.afterGap s a1) := by
  unfold State.afterGap
  repeat' (first
    | with_reducible assumption
    | with_reducible exact sub_parts hp (by decide)
    | with_reducible exact sub_parts _hp (by decide)
    | with_reducible exact sub_regs _hr (by decide)
    | with_reducible apply State.conf_settleFrom
    | with_reducible apply State.conf_devGap
    | with_reducible apply State.conf_pdmGap
    | with_reducible apply State.conf_staleGap
    | with_reducible apply State.conf_gapMark
    | (extract_lets +onlyGivenNames x
       first
         | (refine conf_cut (s0 := s0) (ps := ps) (rs := rs) (s := x) ?_ (fun _ => ?_); (focus unfold x); on_goal 2 => clear_value x)
         | (unfold x; clear x)
         | clear_value x)
    | with_reducible apply conf_ite
    | split)

theorem State.conf_afterBack {s0 s : State} {ps : List Part} {rs : Nat → Prop}  (h : Confined s0 ps rs s) (hp : [.clk, .front, .aper, .mx, .dev, .sheet, .latent] ⊆ ps) (_hr : ∀ a ∈ ([] : List Nat), rs a) : Confined s0 ps rs (State.afterBack s) := by
  unfold State.afterBack
  repeat' (first
    | with_reducible assumption
    | with_reducible exact sub_parts hp (by decide)
    | with_reducible exact sub_parts _hp (by decide)
    | with_reducible exact sub_regs _hr (by decide)
    | with_reducible apply State.conf_settleFrom
    | with_reducible apply State.conf_devGap
    | with_reducible apply State.conf_pdmGap
    | with_reducible apply State.conf_staleGap
    | with_reducible apply State.conf_forgetDecisions
    | with_reducible apply State.conf_gapMark)

theorem State.conf_compareEpoch {s0 s : State} {ps : List Part} {rs : Nat → Prop} (a1 : Epoch32) (a2 : Bool) (h : Confined s0 ps rs s) (hp : [.sset, .bumped, .caused, .clk, .outA, .outB, .frame, .fixer, .front, .aper, .mx, .dev, .sheet, .latent, .print, .stage] ⊆ ps) (hr : ∀ a ∈ [Reg.CHIP_CLK_STATUS, Reg.CHIP_GAP_COUNT, Reg.CHIP_GAP_LAST, Reg.FIXER_FIXER_STATUS, Reg.FIXER_LASTING_COUNT], rs a) : Confined s0 ps rs (State.compareEpoch s a1 a2) := by
  unfold State.compareEpoch
  repeat' (first
    | with_reducible assumption
    | with_reducible exact sub_parts hp (by decide)
    | with_reducible exact sub_parts _hp (by decide)
    | with_reducible exact sub_regs hr (by decide)
    | with_reducible exact hr _ (by decide)
    | with_reducible apply State.conf_forward
    | with_reducible apply State.conf_adopt
    | with_reducible apply State.conf_recordGap
    | with_reducible apply State.conf_clockCount
    | with_reducible apply State.conf_afterGap
    | with_reducible apply State.conf_recordBack
    | with_reducible apply State.conf_afterBack
    | (extract_lets +onlyGivenNames x
       first
         | (refine conf_cut (s0 := s0) (ps := ps) (rs := rs) (s := x) ?_ (fun _ => ?_); (focus unfold x); on_goal 2 => clear_value x)
         | (unfold x; clear x)
         | clear_value x)
    | with_reducible apply conf_ite
    | split
    | (with_reducible refine conf_src rfl ?_ (fun p hq => ?_) (fun b _ => ?_) ?_
       on_goal 2 => cases p <;> first | with_reducible rfl | exact absurd (hp (by decide)) hq
       on_goal 2 => exact State.store_of_tables rfl rfl rfl b
       on_goal 2 => first | exact id | (intro hs; simp only [State.shaped] at hs ⊢; simp_all)))

theorem State.conf_firstEpoch {s0 s : State} {ps : List Part} {rs : Nat → Prop} (a1 : Epoch32) (h : Confined s0 ps rs s) (hp : [.sset, .bumped, .caused, .clk, .outA, .outB, .frame, .fixer, .latent, .print, .stage, .mode] ⊆ ps) (hr : ∀ a ∈ [Reg.CHIP_CLK_STATUS], rs a) : Confined s0 ps rs (State.firstEpoch s a1) := by
  unfold State.firstEpoch
  repeat' (first
    | with_reducible assumption
    | with_reducible exact sub_parts hp (by decide)
    | with_reducible exact sub_parts _hp (by decide)
    | with_reducible exact sub_regs hr (by decide)
    | with_reducible exact hr _ (by decide)
    | with_reducible apply State.conf_gapMark
    | with_reducible apply State.conf_adopt
    | with_reducible apply State.conf_raise
    | (extract_lets +onlyGivenNames x
       first
         | (refine conf_cut (s0 := s0) (ps := ps) (rs := rs) (s := x) ?_ (fun _ => ?_); (focus unfold x); on_goal 2 => clear_value x)
         | (unfold x; clear x)
         | clear_value x)
    | with_reducible apply conf_ite
    | split
    | (with_reducible refine conf_src rfl ?_ (fun p hq => ?_) (fun b _ => ?_) ?_
       on_goal 2 => cases p <;> first | with_reducible rfl | exact absurd (hp (by decide)) hq
       on_goal 2 => exact State.store_of_tables rfl rfl rfl b
       on_goal 2 => first | exact id | (intro hs; simp only [State.shaped] at hs ⊢; simp_all)))

theorem State.conf_rateHeader {s0 s : State} {ps : List Part} {rs : Nat → Prop} (a1 : Epoch32) (h : Confined s0 ps rs s) (hp : [.sset, .bumped, .caused, .clk, .outA, .outB, .frame, .fixer, .front, .aper, .mx, .dev, .sheet, .latent, .print, .stage] ⊆ ps) (hr : ∀ a ∈ [Reg.CHIP_CLK_STATUS, Reg.FIXER_FIXER_STATUS, Reg.FIXER_LASTING_COUNT], rs a) : Confined s0 ps rs (State.rateHeader s a1) := by
  unfold State.rateHeader
  repeat' (first
    | with_reducible assumption
    | with_reducible exact sub_parts hp (by decide)
    | with_reducible exact sub_parts _hp (by decide)
    | with_reducible exact sub_regs hr (by decide)
    | with_reducible exact hr _ (by decide)
    | with_reducible apply State.conf_forward
    | with_reducible apply State.conf_adopt
    | with_reducible apply State.conf_recordBack
    | with_reducible apply State.conf_afterBack
    | with_reducible apply State.conf_setFlag
    | with_reducible apply State.conf_raise
    | (extract_lets +onlyGivenNames x
       first
         | (refine conf_cut (s0 := s0) (ps := ps) (rs := rs) (s := x) ?_ (fun _ => ?_); (focus unfold x); on_goal 2 => clear_value x)
         | (unfold x; clear x)
         | clear_value x)
    | with_reducible apply conf_ite
    | split
    | (with_reducible refine conf_src rfl ?_ (fun p hq => ?_) (fun b _ => ?_) ?_
       on_goal 2 => cases p <;> first | with_reducible rfl | exact absurd (hp (by decide)) hq
       on_goal 2 => exact State.store_of_tables rfl rfl rfl b
       on_goal 2 => first | exact id | (intro hs; simp only [State.shaped] at hs ⊢; simp_all)))

theorem State.conf_switchHeader {s0 s : State} {ps : List Part} {rs : Nat → Prop} (a1 : Epoch32) (h : Confined s0 ps rs s) (hp : [.sset, .bumped, .caused, .clk, .outA, .outB, .frame, .fixer, .front, .aper, .mx, .dev, .sheet, .latent, .print, .stage] ⊆ ps) (hr : ∀ a ∈ [Reg.CHIP_CLK_STATUS, Reg.CHIP_GAP_COUNT, Reg.CHIP_GAP_LAST, Reg.FIXER_FIXER_STATUS, Reg.FIXER_LASTING_COUNT], rs a) : Confined s0 ps rs (State.switchHeader s a1) := by
  unfold State.switchHeader
  repeat' (first
    | with_reducible assumption
    | with_reducible exact sub_parts hp (by decide)
    | with_reducible exact sub_parts _hp (by decide)
    | with_reducible exact sub_regs hr (by decide)
    | with_reducible exact hr _ (by decide)
    | with_reducible apply State.conf_adopt
    | with_reducible apply State.conf_raise
    | with_reducible apply State.conf_compareEpoch
    | (extract_lets +onlyGivenNames x
       first
         | (refine conf_cut (s0 := s0) (ps := ps) (rs := rs) (s := x) ?_ (fun _ => ?_); (focus unfold x); on_goal 2 => clear_value x)
         | (unfold x; clear x)
         | clear_value x)
    | with_reducible apply conf_ite
    | split
    | (with_reducible refine conf_src rfl ?_ (fun p hq => ?_) (fun b _ => ?_) ?_
       on_goal 2 => cases p <;> first | with_reducible rfl | exact absurd (hp (by decide)) hq
       on_goal 2 => exact State.store_of_tables rfl rfl rfl b
       on_goal 2 => first | exact id | (intro hs; simp only [State.shaped] at hs ⊢; simp_all)))

theorem State.conf_rateRecover {s0 s : State} {ps : List Part} {rs : Nat → Prop} (a1 : Epoch32) (h : Confined s0 ps rs s) (hp : [.sset, .bumped, .caused, .clk, .outA, .outB, .frame, .fixer, .front, .aper, .mx, .dev, .sheet, .latent, .print, .stage] ⊆ ps) (hr : ∀ a ∈ [Reg.CHIP_CLK_STATUS, Reg.CHIP_GAP_COUNT, Reg.CHIP_GAP_LAST, Reg.FIXER_FIXER_STATUS, Reg.FIXER_LASTING_COUNT], rs a) : Confined s0 ps rs (State.rateRecover s a1) := by
  unfold State.rateRecover
  repeat' (first
    | with_reducible assumption
    | with_reducible exact sub_parts hp (by decide)
    | with_reducible exact sub_parts _hp (by decide)
    | with_reducible exact sub_regs hr (by decide)
    | with_reducible exact hr _ (by decide)
    | with_reducible apply State.conf_compareEpoch
    | with_reducible apply State.conf_gapMark
    | (extract_lets +onlyGivenNames x
       first
         | (refine conf_cut (s0 := s0) (ps := ps) (rs := rs) (s := x) ?_ (fun _ => ?_); (focus unfold x); on_goal 2 => clear_value x)
         | (unfold x; clear x)
         | clear_value x)
    | (with_reducible refine conf_src rfl ?_ (fun p hq => ?_) (fun b _ => ?_) ?_
       on_goal 2 => cases p <;> first | with_reducible rfl | exact absurd (hp (by decide)) hq
       on_goal 2 => exact State.store_of_tables rfl rfl rfl b
       on_goal 2 => first | exact id | (intro hs; simp only [State.shaped] at hs ⊢; simp_all)))

theorem State.conf_epochHeader {s0 s : State} {ps : List Part} {rs : Nat → Prop} (a1 : Epoch32) (h : Confined s0 ps rs s) (hp : [.sset, .bumped, .caused, .clk, .outA, .outB, .frame, .fixer, .front, .aper, .mx, .dev, .sheet, .latent, .print, .stage, .mode] ⊆ ps) (hr : ∀ a ∈ [Reg.CHIP_CLK_STATUS, Reg.CHIP_GAP_COUNT, Reg.CHIP_GAP_LAST, Reg.FIXER_FIXER_STATUS, Reg.FIXER_LASTING_COUNT], rs a) : Confined s0 ps rs (State.epochHeader s a1) := by
  unfold State.epochHeader
  repeat' (first
    | with_reducible assumption
    | with_reducible exact sub_parts hp (by decide)
    | with_reducible exact sub_parts _hp (by decide)
    | with_reducible exact sub_regs hr (by decide)
    | with_reducible exact hr _ (by decide)
    | with_reducible apply State.conf_resumeStages
    | with_reducible apply State.conf_firstEpoch
    | with_reducible apply State.conf_rateRecover
    | with_reducible apply State.conf_switchHeader
    | with_reducible apply State.conf_rateHeader
    | with_reducible apply State.conf_compareEpoch
    | (extract_lets +onlyGivenNames x
       first
         | (refine conf_cut (s0 := s0) (ps := ps) (rs := rs) (s := x) ?_ (fun _ => ?_); (focus unfold x); on_goal 2 => clear_value x)
         | (unfold x; clear x)
         | clear_value x)
    | with_reducible apply conf_ite
    | split)

theorem State.conf_faultHeader {s0 s : State} {ps : List Part} {rs : Nat → Prop}  (h : Confined s0 ps rs s) (hp : [.clk, .aper, .sheet, .stage] ⊆ ps) (_hr : ∀ a ∈ ([] : List Nat), rs a) : Confined s0 ps rs (State.faultHeader s) := by
  unfold State.faultHeader
  repeat' (first
    | with_reducible assumption
    | with_reducible exact sub_parts hp (by decide)
    | with_reducible exact sub_parts _hp (by decide)
    | with_reducible exact sub_regs _hr (by decide)
    | with_reducible apply State.conf_endFault
    | (extract_lets +onlyGivenNames x
       first
         | (refine conf_cut (s0 := s0) (ps := ps) (rs := rs) (s := x) ?_ (fun _ => ?_); (focus unfold x); on_goal 2 => clear_value x)
         | (unfold x; clear x)
         | clear_value x)
    | with_reducible apply conf_ite
    | split
    | (with_reducible refine conf_src rfl ?_ (fun p hq => ?_) (fun b _ => ?_) ?_
       on_goal 2 => cases p <;> first | with_reducible rfl | exact absurd (hp (by decide)) hq
       on_goal 2 => exact State.store_of_tables rfl rfl rfl b
       on_goal 2 => first | exact id | (intro hs; simp only [State.shaped] at hs ⊢; simp_all)))

theorem State.conf_edgeHeader {s0 s : State} {ps : List Part} {rs : Nat → Prop}  (h : Confined s0 ps rs s) (hp : [.clk, .fixer] ⊆ ps) (_hr : ∀ a ∈ ([] : List Nat), rs a) : Confined s0 ps rs (State.edgeHeader s) := by
  unfold State.edgeHeader
  repeat' (first
    | with_reducible assumption
    | with_reducible exact sub_parts hp (by decide)
    | with_reducible exact sub_parts _hp (by decide)
    | with_reducible exact sub_regs _hr (by decide)
    | with_reducible apply State.conf_raise
    | (extract_lets +onlyGivenNames x
       first
         | (refine conf_cut (s0 := s0) (ps := ps) (rs := rs) (s := x) ?_ (fun _ => ?_); (focus unfold x); on_goal 2 => clear_value x)
         | (unfold x; clear x)
         | clear_value x)
    | with_reducible apply conf_ite
    | split
    | (with_reducible refine conf_src rfl ?_ (fun p hq => ?_) (fun b _ => ?_) ?_
       on_goal 2 => cases p <;> first | with_reducible rfl | exact absurd (hp (by decide)) hq
       on_goal 2 => exact State.store_of_tables rfl rfl rfl b
       on_goal 2 => first | exact id | (intro hs; simp only [State.shaped] at hs ⊢; simp_all)))

theorem State.conf_prepareSafe {s0 s : State} {ps : List Part} {rs : Nat → Prop}  (h : Confined s0 ps rs s) (hp : [.sset, .bumped, .caused, .fixer, .front, .decim, .sheet, .latent, .mode] ⊆ ps) (hr : ∀ a ∈ [Reg.FRONT_FRONT_STATUS, Reg.FRONT_PROOF_CTL_A, Reg.FRONT_PROOF_CTL_B], rs a) : Confined s0 ps rs (State.prepareSafe s) := by
  unfold State.prepareSafe
  repeat' (first
    | with_reducible assumption
    | with_reducible exact sub_parts hp (by decide)
    | with_reducible exact sub_parts _hp (by decide)
    | with_reducible exact sub_regs hr (by decide)
    | with_reducible exact hr _ (by decide)
    | with_reducible apply State.conf_endFrontLoops
    | with_reducible apply State.conf_autoRelease
    | with_reducible apply State.conf_updateBiases
    | with_reducible apply State.conf_updateWatch
    | with_reducible apply State.conf_updateDrain
    | (extract_lets +onlyGivenNames x
       first
         | (refine conf_cut (s0 := s0) (ps := ps) (rs := rs) (s := x) ?_ (fun _ => ?_); (focus unfold x); on_goal 2 => clear_value x)
         | (unfold x; clear x)
         | clear_value x)
    | (with_reducible refine conf_src rfl ?_ (fun p hq => ?_) (fun b _ => ?_) ?_
       on_goal 2 => cases p <;> first | with_reducible rfl | exact absurd (hp (by decide)) hq
       on_goal 2 => exact State.store_of_tables rfl rfl rfl b
       on_goal 2 => first | exact id | (intro hs; simp only [State.shaped] at hs ⊢; simp_all)))

theorem State.conf_domainsOff {s0 s : State} {ps : List Part} {rs : Nat → Prop}  (h : Confined s0 ps rs s) (hp : [.mode] ⊆ ps) (_hr : ∀ a ∈ ([] : List Nat), rs a) : Confined s0 ps rs (State.domainsOff s) := by
  unfold State.domainsOff
  repeat' (first
    | with_reducible assumption
    | with_reducible exact sub_parts hp (by decide)
    | with_reducible exact sub_parts _hp (by decide)
    | with_reducible exact sub_regs _hr (by decide)
    | (extract_lets +onlyGivenNames x
       first
         | (refine conf_cut (s0 := s0) (ps := ps) (rs := rs) (s := x) ?_ (fun _ => ?_); (focus unfold x); on_goal 2 => clear_value x)
         | (unfold x; clear x)
         | clear_value x)
    | (with_reducible refine conf_src rfl ?_ (fun p hq => ?_) (fun b _ => ?_) ?_
       on_goal 2 => cases p <;> first | with_reducible rfl | exact absurd (hp (by decide)) hq
       on_goal 2 => exact State.store_of_tables rfl rfl rfl b
       on_goal 2 => first | exact id | (intro hs; simp only [State.shaped] at hs ⊢; simp_all)))

theorem State.conf_dropSegments {s0 s : State} {ps : List Part} {rs : Nat → Prop}  (h : Confined s0 ps rs s) (hp : [.bank, .mem] ⊆ ps) (_hr : ∀ a ∈ ([] : List Nat), rs a) : Confined s0 ps rs (State.dropSegments s) := by
  unfold State.dropSegments
  repeat' (first
    | with_reducible assumption
    | with_reducible exact sub_parts hp (by decide)
    | with_reducible exact sub_parts _hp (by decide)
    | with_reducible exact sub_regs _hr (by decide)
    | (extract_lets +onlyGivenNames x
       first
         | (refine conf_cut (s0 := s0) (ps := ps) (rs := rs) (s := x) ?_ (fun _ => ?_); (focus unfold x); on_goal 2 => clear_value x)
         | (unfold x; clear x)
         | clear_value x)
    | (with_reducible refine conf_src rfl ?_ (fun p hq => ?_) (fun b _ => ?_) ?_
       on_goal 2 => cases p <;> first | with_reducible rfl | exact absurd (hp (by decide)) hq
       on_goal 2 => exact State.store_of_tables rfl rfl rfl b
       on_goal 2 => first | exact id | (intro hs; simp only [State.shaped] at hs ⊢; simp_all)))

theorem State.conf_beginCount {s0 s : State} {ps : List Part} {rs : Nat → Prop} (a1 : Nat) (a2 : Nat) (h : Confined s0 ps rs s) (hp : [.sset, .bumped, .caused, .clk, .fixer, .front, .decim, .sheet, .latent, .mode] ⊆ ps) (hr : ∀ a ∈ [Reg.CHIP_MODE_STATUS, Reg.FRONT_FRONT_STATUS, Reg.FRONT_PROOF_CTL_A, Reg.FRONT_PROOF_CTL_B], rs a) : Confined s0 ps rs (State.beginCount s a1 a2) := by
  unfold State.beginCount
  repeat' (first
    | with_reducible assumption
    | with_reducible exact sub_parts hp (by decide)
    | with_reducible exact sub_parts _hp (by decide)
    | with_reducible exact sub_regs hr (by decide)
    | with_reducible exact hr _ (by decide)
    | with_reducible apply State.conf_setFlag
    | with_reducible apply State.conf_raise
    | with_reducible apply State.conf_domainsOff
    | with_reducible apply State.conf_prepareSafe
    | (extract_lets +onlyGivenNames x
       first
         | (refine conf_cut (s0 := s0) (ps := ps) (rs := rs) (s := x) ?_ (fun _ => ?_); (focus unfold x); on_goal 2 => clear_value x)
         | (unfold x; clear x)
         | clear_value x)
    | with_reducible apply conf_ite
    | split
    | (with_reducible refine conf_src rfl ?_ (fun p hq => ?_) (fun b _ => ?_) ?_
       on_goal 2 => cases p <;> first | with_reducible rfl | exact absurd (hp (by decide)) hq
       on_goal 2 => exact State.store_of_tables rfl rfl rfl b
       on_goal 2 => first | exact id | (intro hs; simp only [State.shaped] at hs ⊢; simp_all)))

theorem State.conf_cancelCount {s0 s : State} {ps : List Part} {rs : Nat → Prop}  (h : Confined s0 ps rs s) (hp : [.sset, .bumped, .caused, .clk, .fixer, .front, .decim, .sheet, .bank, .mode, .loupe, .mem] ⊆ ps) (hr : ∀ a ∈ [Reg.CHIP_MODE_STATUS, Reg.LOUPE_PATCH_INFO, Reg.LOUPE_SUPPLY_0, Reg.LOUPE_SUPPLY_1, Reg.LOUPE_SUPPLY_2, Reg.LOUPE_TEMP_01, Reg.LOUPE_TEMP_23, Reg.PRINT_MASTER_A, Reg.PRINT_MASTER_B], rs a) : Confined s0 ps rs (State.cancelCount s) := by
  unfold State.cancelCount
  repeat' (first
    | with_reducible assumption
    | with_reducible exact sub_parts hp (by decide)
    | with_reducible exact sub_parts _hp (by decide)
    | with_reducible exact sub_regs hr (by decide)
    | with_reducible exact hr _ (by decide)
    | with_reducible apply State.conf_setFlag
    | with_reducible apply State.conf_raise
    | with_reducible apply State.conf_dropSegments
    | with_reducible apply State.conf_setPair
    | with_reducible apply State.conf_updateBiases
    | with_reducible apply State.conf_updateWatch
    | with_reducible apply State.conf_updateDrain
    | with_reducible apply State.conf_loupeCancel
    | with_reducible apply State.conf_domainsOff
    | (extract_lets +onlyGivenNames x
       first
         | (refine conf_cut (s0 := s0) (ps := ps) (rs := rs) (s := x) ?_ (fun _ => ?_); (focus unfold x); on_goal 2 => clear_value x)
         | (unfold x; clear x)
         | clear_value x)
    | with_reducible apply conf_ite
    | split
    | (with_reducible refine conf_src rfl ?_ (fun p hq => ?_) (fun b _ => ?_) ?_
       on_goal 2 => cases p <;> first | with_reducible rfl | exact absurd (hp (by decide)) hq
       on_goal 2 => exact State.store_of_tables rfl rfl rfl b
       on_goal 2 => first | exact id | (intro hs; simp only [State.shaped] at hs ⊢; simp_all)))

theorem State.conf_ignoreCount {s0 s : State} {ps : List Part} {rs : Nat → Prop} (a1 : Nat) (a2 : Nat) (h : Confined s0 ps rs s) (hp : [.sset, .bumped, .caused, .clk, .fixer] ⊆ ps) (hr : ∀ a ∈ [Reg.CHIP_MODE_STATUS], rs a) : Confined s0 ps rs (State.ignoreCount s a1 a2) := by
  unfold State.ignoreCount
  repeat' (first
    | with_reducible assumption
    | with_reducible exact sub_parts hp (by decide)
    | with_reducible exact sub_parts _hp (by decide)
    | with_reducible exact sub_regs hr (by decide)
    | with_reducible exact hr _ (by decide)
    | with_reducible apply State.conf_setFlag
    | with_reducible apply State.conf_raise
    | (extract_lets +onlyGivenNames x
       first
         | (refine conf_cut (s0 := s0) (ps := ps) (rs := rs) (s := x) ?_ (fun _ => ?_); (focus unfold x); on_goal 2 => clear_value x)
         | (unfold x; clear x)
         | clear_value x)
    | with_reducible apply conf_ite
    | split
    | (with_reducible refine conf_src rfl ?_ (fun p hq => ?_) (fun b _ => ?_) ?_
       on_goal 2 => cases p <;> first | with_reducible rfl | exact absurd (hp (by decide)) hq
       on_goal 2 => exact State.store_of_tables rfl rfl rfl b
       on_goal 2 => first | exact id | (intro hs; simp only [State.shaped] at hs ⊢; simp_all)))

theorem State.conf_countHeader {s0 s : State} {ps : List Part} {rs : Nat → Prop} (a1 : BitVec 416) (h : Confined s0 ps rs s) (hp : [.sset, .bumped, .caused, .clk, .fixer, .front, .decim, .sheet, .latent, .bank, .mode, .loupe, .mem] ⊆ ps) (hr : ∀ a ∈ [Reg.CHIP_MODE_STATUS, Reg.FRONT_FRONT_STATUS, Reg.FRONT_PROOF_CTL_A, Reg.FRONT_PROOF_CTL_B, Reg.LOUPE_PATCH_INFO, Reg.LOUPE_SUPPLY_0, Reg.LOUPE_SUPPLY_1, Reg.LOUPE_SUPPLY_2, Reg.LOUPE_TEMP_01, Reg.LOUPE_TEMP_23, Reg.PRINT_MASTER_A, Reg.PRINT_MASTER_B], rs a) : Confined s0 ps rs (State.countHeader s a1) := by
  unfold State.countHeader
  repeat' (first
    | with_reducible assumption
    | with_reducible exact sub_parts hp (by decide)
    | with_reducible exact sub_parts _hp (by decide)
    | with_reducible exact sub_regs hr (by decide)
    | with_reducible exact hr _ (by decide)
    | with_reducible apply State.conf_cancelCount
    | with_reducible apply State.conf_ignoreCount
    | with_reducible apply State.conf_beginCount
    | (extract_lets +onlyGivenNames x
       first
         | (refine conf_cut (s0 := s0) (ps := ps) (rs := rs) (s := x) ?_ (fun _ => ?_); (focus unfold x); on_goal 2 => clear_value x)
         | (unfold x; clear x)
         | clear_value x)
    | with_reducible apply conf_ite
    | split
    | (with_reducible refine conf_src rfl ?_ (fun p hq => ?_) (fun b _ => ?_) ?_
       on_goal 2 => cases p <;> first | with_reducible rfl | exact absurd (hp (by decide)) hq
       on_goal 2 => exact State.store_of_tables rfl rfl rfl b
       on_goal 2 => first | exact id | (intro hs; simp only [State.shaped] at hs ⊢; simp_all)))

theorem State.conf_countOn {s0 s : State} {ps : List Part} {rs : Nat → Prop}  (h : Confined s0 ps rs s) (hp : [.clk] ⊆ ps) (_hr : ∀ a ∈ ([] : List Nat), rs a) : Confined s0 ps rs (State.countOn s) := by
  unfold State.countOn
  repeat' (first
    | with_reducible assumption
    | with_reducible exact sub_parts hp (by decide)
    | with_reducible exact sub_parts _hp (by decide)
    | with_reducible exact sub_regs _hr (by decide)
    | (extract_lets +onlyGivenNames x
       first
         | (refine conf_cut (s0 := s0) (ps := ps) (rs := rs) (s := x) ?_ (fun _ => ?_); (focus unfold x); on_goal 2 => clear_value x)
         | (unfold x; clear x)
         | clear_value x)
    | with_reducible apply conf_ite
    | split
    | (with_reducible refine conf_src rfl ?_ (fun p hq => ?_) (fun b _ => ?_) ?_
       on_goal 2 => cases p <;> first | with_reducible rfl | exact absurd (hp (by decide)) hq
       on_goal 2 => exact State.store_of_tables rfl rfl rfl b
       on_goal 2 => first | exact id | (intro hs; simp only [State.shaped] at hs ⊢; simp_all)))

theorem State.conf_selectedHeader {s0 s : State} {ps : List Part} {rs : Nat → Prop} (a1 : Side) (a2 : BitVec 416) (h : Confined s0 ps rs s) (hp : [.sset, .bumped, .caused, .clk, .outA, .outB, .frame, .fixer, .front, .decim, .aper, .mx, .dev, .sheet, .latent, .print, .stage, .bank, .mode, .loupe, .mem] ⊆ ps) (hr : ∀ a ∈ [Reg.CHIP_CLK_STATUS, Reg.CHIP_GAP_COUNT, Reg.CHIP_GAP_LAST, Reg.CHIP_MODE_STATUS, Reg.FIXER_FIXER_STATUS, Reg.FIXER_LASTING_COUNT, Reg.FRONT_FRONT_STATUS, Reg.FRONT_PROOF_CTL_A, Reg.FRONT_PROOF_CTL_B, Reg.LOUPE_PATCH_INFO, Reg.LOUPE_SUPPLY_0, Reg.LOUPE_SUPPLY_1, Reg.LOUPE_SUPPLY_2, Reg.LOUPE_TEMP_01, Reg.LOUPE_TEMP_23, Reg.PRINT_MASTER_A, Reg.PRINT_MASTER_B], rs a) : Confined s0 ps rs (State.selectedHeader s a1 a2) := by
  unfold State.selectedHeader
  repeat' (first
    | with_reducible assumption
    | with_reducible exact sub_parts hp (by decide)
    | with_reducible exact sub_parts _hp (by decide)
    | with_reducible exact sub_regs hr (by decide)
    | with_reducible exact hr _ (by decide)
    | with_reducible apply State.conf_epochHeader
    | with_reducible apply State.conf_edgeHeader
    | with_reducible apply State.conf_faultHeader
    | with_reducible apply State.conf_countHeader
    | (extract_lets +onlyGivenNames x
       first
         | (refine conf_cut (s0 := s0) (ps := ps) (rs := rs) (s := x) ?_ (fun _ => ?_); (focus unfold x); on_goal 2 => clear_value x)
         | (unfold x; clear x)
         | clear_value x)
    | (with_reducible refine conf_src rfl ?_ (fun p hq => ?_) (fun b _ => ?_) ?_
       on_goal 2 => cases p <;> first | with_reducible rfl | exact absurd (hp (by decide)) hq
       on_goal 2 => exact State.store_of_tables rfl rfl rfl b
       on_goal 2 => first | exact id | (intro hs; simp only [State.shaped] at hs ⊢; simp_all)))

theorem State.conf_ownHeader {s0 s : State} {ps : List Part} {rs : Nat → Prop}  (h : Confined s0 ps rs s) (hp : [.clk, .frame] ⊆ ps) (_hr : ∀ a ∈ ([] : List Nat), rs a) : Confined s0 ps rs (State.ownHeader s) := by
  unfold State.ownHeader
  repeat' (first
    | with_reducible assumption
    | with_reducible exact sub_parts hp (by decide)
    | with_reducible exact sub_parts _hp (by decide)
    | with_reducible exact sub_regs _hr (by decide)
    | with_reducible apply State.conf_countOn
    | (extract_lets +onlyGivenNames x
       first
         | (refine conf_cut (s0 := s0) (ps := ps) (rs := rs) (s := x) ?_ (fun _ => ?_); (focus unfold x); on_goal 2 => clear_value x)
         | (unfold x; clear x)
         | clear_value x)
    | (with_reducible refine conf_src rfl ?_ (fun p hq => ?_) (fun b _ => ?_) ?_
       on_goal 2 => cases p <;> first | with_reducible rfl | exact absurd (hp (by decide)) hq
       on_goal 2 => exact State.store_of_tables rfl rfl rfl b
       on_goal 2 => first | exact id | (intro hs; simp only [State.shaped] at hs ⊢; simp_all)))

theorem State.conf_bothFailed {s0 s : State} {ps : List Part} {rs : Nat → Prop} (a1 : Side) (h : Confined s0 ps rs s) (hp : [.sset, .bumped, .caused, .clk, .fixer, .mx, .stage, .bank] ⊆ ps) (hr : ∀ a ∈ [Reg.CHIP_CLK_FAULTS, Reg.CHIP_CLK_STATUS, Reg.FIXER_FIXER_STATUS, Reg.FIXER_LASTING_COUNT], rs a) : Confined s0 ps rs (State.bothFailed s a1) := by
  unfold State.bothFailed
  repeat' (first
    | with_reducible assumption
    | with_reducible exact sub_parts hp (by decide)
    | with_reducible exact sub_parts _hp (by decide)
    | with_reducible exact sub_regs hr (by decide)
    | with_reducible exact hr _ (by decide)
    | with_reducible apply State.conf_beginFault
    | with_reducible apply State.conf_markFaulted
    | with_reducible apply State.conf_faultBegan
    | (extract_lets +onlyGivenNames x
       first
         | (refine conf_cut (s0 := s0) (ps := ps) (rs := rs) (s := x) ?_ (fun _ => ?_); (focus unfold x); on_goal 2 => clear_value x)
         | (unfold x; clear x)
         | clear_value x)
    | with_reducible apply conf_ite
    | split)

theorem State.conf_markStanding {s0 s : State} {ps : List Part} {rs : Nat → Prop}  (h : Confined s0 ps rs s) (hp : [.clk] ⊆ ps) (_hr : ∀ a ∈ ([] : List Nat), rs a) : Confined s0 ps rs (State.markStanding s) := by
  unfold State.markStanding
  repeat' (first
    | with_reducible assumption
    | with_reducible exact sub_parts hp (by decide)
    | with_reducible exact sub_parts _hp (by decide)
    | with_reducible exact sub_regs _hr (by decide)
    | with_reducible apply State.conf_markFaulted
    | with_reducible apply conf_ite
    | split)

theorem State.conf_headerEnd {s0 s : State} {ps : List Part} {rs : Nat → Prop} (x : Side) (w : BitVec 416) (skew : BitVec 24) (h : Confined s0 ps rs s) (hp : [.sset, .bumped, .caused, .clk, .ident, .sideA, .sideB, .link, .outA, .outB, .frame, .fixer, .front, .decim, .aper, .mx, .dev, .sheet, .latent, .print, .stage, .bank, .mode, .loupe, .mem] ⊆ ps) (hr : ∀ a ∈ [Reg.APER_APER_STATUS, Reg.CHIP_CLK_FAULTS, Reg.CHIP_CLK_STATUS, Reg.CHIP_GAP_COUNT, Reg.CHIP_GAP_LAST, Reg.CHIP_ID_STATUS, Reg.CHIP_MODE_STATUS, Reg.FIXER_FIXER_STATUS, Reg.FIXER_LASTING_COUNT, Reg.FRAME_CHECK_ERR_A, Reg.FRAME_CHECK_ERR_B, Reg.FRAME_FRAME_STATUS, Reg.FRAME_VOID_COUNT, Reg.FRONT_FRONT_STATUS, Reg.FRONT_PROOF_CTL_A, Reg.FRONT_PROOF_CTL_B, Reg.LINK_LINK_STATUS, Reg.LOUPE_PATCH_INFO, Reg.LOUPE_SUPPLY_0, Reg.LOUPE_SUPPLY_1, Reg.LOUPE_SUPPLY_2, Reg.LOUPE_TEMP_01, Reg.LOUPE_TEMP_23, Reg.PRINT_MASTER_A, Reg.PRINT_MASTER_B], rs a) :
    Confined s0 ps rs (State.headerEnd s x w skew) := by
  unfold State.headerEnd
  refine conf_ite (State.conf_forwardHeader _ _ _ _ h (sub_parts hp (by decide)) (sub_regs hr (by decide))) (conf_ite h ?_)
  have h1 := State.conf_linkHeader x w skew h (sub_parts hp (by decide)) (sub_regs hr (by decide))
  generalize s.linkHeader x w skew = q at h1 ⊢
  obtain ⟨t, valid⟩ := q
  dsimp only at h1 ⊢
  refine conf_ite h1 ?_
  have h2 : Confined s0 ps rs (if Hdr.checkOk t.clk.daylight w then t else t.bothFailed x) :=
    conf_ite h1 (State.conf_bothFailed _ h1 (sub_parts hp (by decide)) (sub_regs hr (by decide)))
  generalize (if Hdr.checkOk t.clk.daylight w then t else t.bothFailed x) = t at h2 ⊢
  refine conf_ite (State.conf_noteWithheld _ h2 (sub_parts hp (by decide)) (sub_regs hr (by decide))) ?_
  have h3 : Confined s0 ps rs (t.noteEarly x) := State.conf_noteEarly _ h2 (sub_parts hp (by decide)) (sub_regs hr (by decide))
  generalize t.noteEarly x = t at h3 ⊢
  exact State.conf_noteWithheld _ (State.conf_markStanding (conf_ite (State.conf_selectedHeader _ _ h3 (sub_parts hp (by decide)) (sub_regs hr (by decide))) (State.conf_ownHeader h3 (sub_parts hp (by decide)) (sub_regs hr (by decide)))) (sub_parts hp (by decide)) (sub_regs hr (by decide))) (sub_parts hp (by decide)) (sub_regs hr (by decide))

theorem State.conf_countTick {s0 s : State} {ps : List Part} {rs : Nat → Prop} (a1 : TickIn) (h : Confined s0 ps rs s) (hp : [.sset, .bumped, .caused, .clk, .sideA, .sideB, .link] ⊆ ps) (hr : ∀ a ∈ [Reg.CHIP_CLK_STATUS], rs a) : Confined s0 ps rs (State.countTick s a1) := by
  unfold State.countTick
  repeat' (first
    | with_reducible assumption
    | with_reducible exact sub_parts hp (by decide)
    | with_reducible exact sub_parts _hp (by decide)
    | with_reducible exact sub_regs hr (by decide)
    | with_reducible exact hr _ (by decide)
    | with_reducible apply State.conf_advanceEpoch
    | with_reducible apply State.conf_scanLanes
    | (extract_lets +onlyGivenNames x
       first
         | (refine conf_cut (s0 := s0) (ps := ps) (rs := rs) (s := x) ?_ (fun _ => ?_); (focus unfold x); on_goal 2 => clear_value x)
         | (unfold x; clear x)
         | clear_value x)
    | with_reducible apply conf_ite
    | split
    | (with_reducible refine conf_src rfl ?_ (fun p hq => ?_) (fun b _ => ?_) ?_
       on_goal 2 => cases p <;> first | with_reducible rfl | exact absurd (hp (by decide)) hq
       on_goal 2 => exact State.store_of_tables rfl rfl rfl b
       on_goal 2 => first | exact id | (intro hs; simp only [State.shaped] at hs ⊢; simp_all)))

theorem State.conf_tick {s0 s : State} {ps : List Part} {rs : Nat → Prop} (a1 : TickIn) (h : Confined s0 ps rs s) (hp : [.sset, .bumped, .caused, .clk, .sideA, .sideB, .link, .fixer, .front, .stage, .loupe] ⊆ ps) (hr : ∀ a ∈ [Reg.CHIP_CLK_STATUS, Reg.LOUPE_LOUPE_STATUS, Reg.STAGE_STAGE_STATUS], rs a) : Confined s0 ps rs (State.tick s a1) := by
  unfold State.tick
  repeat' (first
    | with_reducible assumption
    | with_reducible exact sub_parts hp (by decide)
    | with_reducible exact sub_parts _hp (by decide)
    | with_reducible exact sub_regs hr (by decide)
    | with_reducible exact hr _ (by decide)
    | with_reducible apply State.conf_countTick
    | with_reducible apply State.conf_tickBiases
    | with_reducible apply State.conf_tickStages
    | with_reducible apply State.conf_tickTj
    | (extract_lets +onlyGivenNames x
       first
         | (refine conf_cut (s0 := s0) (ps := ps) (rs := rs) (s := x) ?_ (fun _ => ?_); (focus unfold x); on_goal 2 => clear_value x)
         | (unfold x; clear x)
         | clear_value x)
    | with_reducible apply conf_ite
    | split)

theorem State.conf_settleEnd {s0 s : State} {ps : List Part} {rs : Nat → Prop}  (h : Confined s0 ps rs s) (hp : [.clk, .mx] ⊆ ps) (_hr : ∀ a ∈ ([] : List Nat), rs a) : Confined s0 ps rs (State.settleEnd s) := by
  unfold State.settleEnd
  repeat' (first
    | with_reducible assumption
    | with_reducible exact sub_parts hp (by decide)
    | with_reducible exact sub_parts _hp (by decide)
    | with_reducible exact sub_regs _hr (by decide)
    | with_reducible apply State.conf_closeWindow
    | (extract_lets +onlyGivenNames x
       first
         | (refine conf_cut (s0 := s0) (ps := ps) (rs := rs) (s := x) ?_ (fun _ => ?_); (focus unfold x); on_goal 2 => clear_value x)
         | (unfold x; clear x)
         | clear_value x)
    | with_reducible apply conf_ite
    | split
    | (with_reducible refine conf_src rfl ?_ (fun p hq => ?_) (fun b _ => ?_) ?_
       on_goal 2 => cases p <;> first | with_reducible rfl | exact absurd (hp (by decide)) hq
       on_goal 2 => exact State.store_of_tables rfl rfl rfl b
       on_goal 2 => first | exact id | (intro hs; simp only [State.shaped] at hs ⊢; simp_all)))

theorem State.conf_withholdEnd {s0 s : State} {ps : List Part} {rs : Nat → Prop}  (h : Confined s0 ps rs s) (hp : [.aper] ⊆ ps) (_hr : ∀ a ∈ ([] : List Nat), rs a) : Confined s0 ps rs (State.withholdEnd s) := by
  unfold State.withholdEnd
  repeat' (first
    | with_reducible assumption
    | with_reducible exact sub_parts hp (by decide)
    | with_reducible exact sub_parts _hp (by decide)
    | with_reducible exact sub_regs _hr (by decide)
    | (extract_lets +onlyGivenNames x
       first
         | (refine conf_cut (s0 := s0) (ps := ps) (rs := rs) (s := x) ?_ (fun _ => ?_); (focus unfold x); on_goal 2 => clear_value x)
         | (unfold x; clear x)
         | clear_value x)
    | with_reducible apply conf_ite
    | split
    | (with_reducible refine conf_src rfl ?_ (fun p hq => ?_) (fun b _ => ?_) ?_
       on_goal 2 => cases p <;> first | with_reducible rfl | exact absurd (hp (by decide)) hq
       on_goal 2 => exact State.store_of_tables rfl rfl rfl b
       on_goal 2 => first | exact id | (intro hs; simp only [State.shaped] at hs ⊢; simp_all)))

theorem State.conf_changeRate {s0 s : State} {ps : List Part} {rs : Nat → Prop} (a1 : Bool) (h : Confined s0 ps rs s) (hp : [.clk, .frame, .decim, .print] ⊆ ps) (hr : ∀ a ∈ [Reg.CHIP_MODE_CHANGES, Reg.CHIP_MODE_REQ_A, Reg.CHIP_MODE_REQ_B], rs a) : Confined s0 ps rs (State.changeRate s a1) := by
  unfold State.changeRate
  repeat' (first
    | with_reducible assumption
    | with_reducible exact sub_parts hp (by decide)
    | with_reducible exact sub_parts _hp (by decide)
    | with_reducible exact sub_regs hr (by decide)
    | with_reducible exact hr _ (by decide)
    | with_reducible apply State.conf_setPair
    | with_reducible apply State.conf_countWrap
    | (extract_lets +onlyGivenNames x
       first
         | (refine conf_cut (s0 := s0) (ps := ps) (rs := rs) (s := x) ?_ (fun _ => ?_); (focus unfold x); on_goal 2 => clear_value x)
         | (unfold x; clear x)
         | clear_value x)
    | with_reducible apply conf_ite
    | split
    | (with_reducible refine conf_src rfl ?_ (fun p hq => ?_) (fun b _ => ?_) ?_
       on_goal 2 => cases p <;> first | with_reducible rfl | exact absurd (hp (by decide)) hq
       on_goal 2 => exact State.store_of_tables rfl rfl rfl b
       on_goal 2 => first | exact id | (intro hs; simp only [State.shaped] at hs ⊢; simp_all)))

theorem State.conf_domainLate {s0 s : State} {ps : List Part} {rs : Nat → Prop}  (h : Confined s0 ps rs s) (hp : [.sset, .bumped, .caused, .fixer] ⊆ ps) (hr : ∀ a ∈ [Reg.CHIP_MODE_STATUS], rs a) : Confined s0 ps rs (State.domainLate s) := by
  unfold State.domainLate
  repeat' (first
    | with_reducible assumption
    | with_reducible exact sub_parts hp (by decide)
    | with_reducible exact sub_parts _hp (by decide)
    | with_reducible exact sub_regs hr (by decide)
    | with_reducible exact hr _ (by decide)
    | with_reducible apply State.conf_setFlag
    | with_reducible apply State.conf_raise
    | (extract_lets +onlyGivenNames x
       first
         | (refine conf_cut (s0 := s0) (ps := ps) (rs := rs) (s := x) ?_ (fun _ => ?_); (focus unfold x); on_goal 2 => clear_value x)
         | (unfold x; clear x)
         | clear_value x)
    | with_reducible apply conf_ite
    | split)

theorem State.conf_startBlocks {s0 s : State} {ps : List Part} {rs : Nat → Prop} (a1 : Nat → Bool) (h : Confined s0 ps rs s) (hp : [.front, .decim, .aper, .mode, .loupe] ⊆ ps) (hr : ∀ a ∈ [Reg.APER_COMMIT_COUNT, Reg.LOUPE_SUPPLY_0, Reg.LOUPE_SUPPLY_1, Reg.LOUPE_SUPPLY_2, Reg.LOUPE_TEMP_01, Reg.LOUPE_TEMP_23], rs a) : Confined s0 ps rs (State.startBlocks s a1) := by
  unfold State.startBlocks
  repeat' (first
    | with_reducible assumption
    | with_reducible exact sub_parts hp (by decide)
    | with_reducible exact sub_parts _hp (by decide)
    | with_reducible exact sub_regs hr (by decide)
    | with_reducible exact hr _ (by decide)
    | with_reducible apply State.conf_updateChans
    | with_reducible apply State.conf_hqBegin
    | with_reducible apply State.conf_aperBegin
    | with_reducible apply State.conf_startLoupe
    | with_reducible apply State.conf_updateBiases
    | (extract_lets +onlyGivenNames x
       first
         | (refine conf_cut (s0 := s0) (ps := ps) (rs := rs) (s := x) ?_ (fun _ => ?_); (focus unfold x); on_goal 2 => clear_value x)
         | (unfold x; clear x)
         | clear_value x)
    | with_reducible apply conf_ite
    | split)

theorem State.conf_toDaylight {s0 s : State} {ps : List Part} {rs : Nat → Prop}  (h : Confined s0 ps rs s) (hp : [.sset, .bumped, .caused, .clk, .link, .outA, .outB, .frame, .queue, .fixer, .front, .decim, .aper, .dev, .sheet, .latent, .print, .stage, .bank, .mode, .loupe, .mem] ⊆ ps) (hr : ∀ a ∈ [Reg.APER_COMMIT_COUNT, Reg.CHIP_MODE_CHANGES, Reg.CHIP_MODE_REQ_A, Reg.CHIP_MODE_REQ_B, Reg.CHIP_MODE_STATUS, Reg.FIXER_FIXER_STATUS, Reg.FIXER_LASTING_COUNT, Reg.LOUPE_SUPPLY_0, Reg.LOUPE_SUPPLY_1, Reg.LOUPE_SUPPLY_2, Reg.LOUPE_TEMP_01, Reg.LOUPE_TEMP_23, Reg.TANK_CE_ADDR, Reg.TANK_CE_COUNT, Reg.TANK_FOG_PASSES, Reg.TANK_FOG_SKIPS, Reg.TANK_TANK_STATUS, Reg.TANK_UE_ADDR, Reg.TANK_UE_COUNT], rs a) : Confined s0 ps rs (State.toDaylight s) := by
  unfold State.toDaylight
  repeat' (first
    | with_reducible assumption
    | with_reducible exact sub_parts hp (by decide)
    | with_reducible exact sub_parts _hp (by decide)
    | with_reducible exact sub_regs hr (by decide)
    | with_reducible exact hr _ (by decide)
    | intro _ _ _
    | with_reducible apply State.conf_changeRate
    | with_reducible apply State.conf_latentToDay
    | with_reducible apply State.conf_devToDay
    | with_reducible apply State.conf_updateBiases
    | with_reducible apply State.conf_updateWatch
    | with_reducible apply State.conf_startBlocks
    | with_reducible apply State.conf_domainLate
    | with_reducible apply State.conf_verifyRestart
    | with_reducible apply State.conf_repeatSearch
    | with_reducible apply State.conf_updateDrain
    | with_reducible apply State.conf_startTraining
    | (extract_lets +onlyGivenNames x
       first
         | (refine conf_cut (s0 := s0) (ps := ps) (rs := rs) (s := x) ?_ (fun _ => ?_); (focus unfold x); on_goal 2 => clear_value x)
         | (unfold x; clear x)
         | clear_value x)
    | with_reducible apply conf_foldl)

theorem State.conf_stageToSafe {s0 s : State} {ps : List Part} {rs : Nat → Prop}  (h : Confined s0 ps rs s) (hp : [.stage] ⊆ ps) (_hr : ∀ a ∈ ([] : List Nat), rs a) : Confined s0 ps rs (State.stageToSafe s) := by
  unfold State.stageToSafe
  repeat' (first
    | with_reducible assumption
    | with_reducible exact sub_parts hp (by decide)
    | with_reducible exact sub_parts _hp (by decide)
    | with_reducible exact sub_regs _hr (by decide)
    | intro _ _ _
    | with_reducible apply State.conf_haltMeasure
    | (extract_lets +onlyGivenNames x
       first
         | (refine conf_cut (s0 := s0) (ps := ps) (rs := rs) (s := x) ?_ (fun _ => ?_); (focus unfold x); on_goal 2 => clear_value x)
         | (unfold x; clear x)
         | clear_value x)
    | with_reducible apply conf_foldl
    | (with_reducible refine conf_src rfl ?_ (fun p hq => ?_) (fun b _ => ?_) ?_
       on_goal 2 => cases p <;> first | with_reducible rfl | exact absurd (hp (by decide)) hq
       on_goal 2 => exact State.store_of_tables rfl rfl rfl b
       on_goal 2 => first | exact id | (intro hs; simp only [State.shaped] at hs ⊢; simp_all)))

theorem State.conf_toSafelight {s0 s : State} {ps : List Part} {rs : Nat → Prop} (h : Confined s0 ps rs s) (hp : [.sset, .bumped, .caused, .clk, .link, .outA, .outB, .frame, .fixer, .front, .decim, .aper, .mx, .dev, .sheet, .print, .stage, .bank, .mode, .loupe, .mem] ⊆ ps) (hr : ∀ a ∈ [Reg.APER_COMMIT_COUNT, Reg.CHIP_MODE_CHANGES, Reg.CHIP_MODE_REQ_A, Reg.CHIP_MODE_REQ_B, Reg.DECIM_DECIM_STATUS, Reg.DECIM_SWAP_COUNT, Reg.DEV_WAKE_COUNT, Reg.DEV_WAKE_STATUS, Reg.LOUPE_PATCH_INFO, Reg.MX_MX_STATUS, Reg.PRINT_MASTER_A, Reg.PRINT_MASTER_B, Reg.PRINT_PROOF_CTL_A, Reg.PRINT_PROOF_CTL_B, Reg.SHEET_ABANDON_COUNT, Reg.SHEET_MATCH_COUNT, Reg.SHEET_SHEET_STATUS], rs a) : Confined s0 ps rs (State.toSafelight s) := by
  unfold State.toSafelight
  extract_lets s1 s2 s3 s4 s5 s6 fx s7
  have a1 : Confined s0 ps rs s1 :=
    State.conf_stageToSafe (State.conf_printToSafe (State.conf_loupeToSafe (State.conf_fogEnd h (sub_parts hp (by decide)) (sub_regs hr (by decide))) (sub_parts hp (by decide)) (sub_regs hr (by decide))) (sub_parts hp (by decide)) (sub_regs hr (by decide))) (sub_parts hp (by decide)) (sub_regs hr (by decide))
  clear_value s1
  have a2 : Confined s0 ps rs s2 := State.conf_domainsOff (State.conf_devToSafe (State.conf_changeRate false a1 (sub_parts hp (by decide)) (sub_regs hr (by decide))) (sub_parts hp (by decide)) (sub_regs hr (by decide))) (sub_parts hp (by decide)) (sub_regs hr (by decide))
  clear_value s2
  have h3 : Confined s0 ps rs s3 := State.conf_loseTemplates _ a2 (sub_parts hp (by decide)) (sub_regs hr (by decide))
  clear_value s3
  have h4 : Confined s0 ps rs s4 := State.conf_hqHalt (State.conf_mxToSafe (State.conf_settleTables h3 (sub_parts hp (by decide)) (sub_regs hr (by decide))) (sub_parts hp (by decide)) (sub_regs hr (by decide))) (sub_parts hp (by decide)) (sub_regs hr (by decide))
  clear_value s4
  have h5 : Confined s0 ps rs s5 := State.conf_updateChans (State.conf_pdmStop h4 (sub_parts hp (by decide)) (sub_regs hr (by decide))) (sub_parts hp (by decide)) (sub_regs hr (by decide))
  clear_value s5
  have h6 : Confined s0 ps rs s6 := State.conf_updateDrain (State.conf_updateWatch (State.conf_updateBiases h5 (sub_parts hp (by decide)) (sub_regs hr (by decide))) (sub_parts hp (by decide)) (sub_regs hr (by decide))) (sub_parts hp (by decide)) (sub_regs hr (by decide))
  clear_value s6
  have h7 : Confined s0 ps rs s7 := (conf_upd h6 (by intro p hq; cases p <;> first | rfl | exact absurd (hp (by decide)) hq) (fun b _ => State.store_of_tables rfl rfl rfl b) (by intro hs; first | exact hs | (simp only [State.shaped] at hs ⊢; simp_all)))
  clear_value s7
  exact State.conf_startTraining (State.conf_dropSegments h7 (sub_parts hp (by decide)) (sub_regs hr (by decide))) (sub_parts hp (by decide)) (sub_regs hr (by decide))

theorem State.conf_rateBoundary {s0 s : State} {ps : List Part} {rs : Nat → Prop}  (h : Confined s0 ps rs s) (hp : [.sset, .bumped, .caused, .clk, .link, .outA, .outB, .frame, .queue, .fixer, .front, .decim, .aper, .mx, .dev, .sheet, .latent, .print, .stage, .bank, .mode, .loupe, .mem] ⊆ ps) (hr : ∀ a ∈ [Reg.APER_APER_STATUS, Reg.APER_COMMIT_COUNT, Reg.CHIP_MODE_CHANGES, Reg.CHIP_MODE_REQ_A, Reg.CHIP_MODE_REQ_B, Reg.CHIP_MODE_STATUS, Reg.DECIM_DECIM_STATUS, Reg.DECIM_SWAP_COUNT, Reg.DEV_WAKE_COUNT, Reg.DEV_WAKE_STATUS, Reg.FIXER_FIXER_STATUS, Reg.FIXER_LASTING_COUNT, Reg.LATENT_LAT_STATUS, Reg.LATENT_REC_COUNT, Reg.LOUPE_PATCH_INFO, Reg.LOUPE_SUPPLY_0, Reg.LOUPE_SUPPLY_1, Reg.LOUPE_SUPPLY_2, Reg.LOUPE_TEMP_01, Reg.LOUPE_TEMP_23, Reg.MX_MX_STATUS, Reg.PRINT_MASTER_A, Reg.PRINT_MASTER_B, Reg.PRINT_PROOF_CTL_A, Reg.PRINT_PROOF_CTL_B, Reg.SHEET_ABANDON_COUNT, Reg.SHEET_MATCH_COUNT, Reg.SHEET_SHEET_STATUS, Reg.TANK_CE_ADDR, Reg.TANK_CE_COUNT, Reg.TANK_FOG_PASSES, Reg.TANK_FOG_SKIPS, Reg.TANK_TANK_STATUS, Reg.TANK_UE_ADDR, Reg.TANK_UE_COUNT], rs a) : Confined s0 ps rs (State.rateBoundary s) := by
  unfold State.rateBoundary
  repeat' (first
    | with_reducible assumption
    | with_reducible exact sub_parts hp (by decide)
    | with_reducible exact sub_parts _hp (by decide)
    | with_reducible exact sub_regs hr (by decide)
    | with_reducible exact hr _ (by decide)
    | with_reducible apply State.conf_toDaylight
    | with_reducible apply State.conf_toSafelight
    | with_reducible apply State.conf_writeRecords
    | with_reducible apply State.conf_noteWithheld
    | with_reducible apply conf_ite
    | split)

theorem State.conf_trainingCentre {s0 s : State} {ps : List Part} {rs : Nat → Prop}  (h : Confined s0 ps rs s) (hp : [.sset, .bumped, .caused, .sideA, .sideB, .link, .frame, .fixer] ⊆ ps) (hr : ∀ a ∈ [Reg.FRAME_FRAME_STATUS, Reg.LINK_LINK_STATUS], rs a) : Confined s0 ps rs (State.trainingCentre s) := by
  unfold State.trainingCentre
  repeat' (first
    | with_reducible assumption
    | with_reducible exact sub_parts hp (by decide)
    | with_reducible exact sub_parts _hp (by decide)
    | with_reducible exact sub_regs hr (by decide)
    | with_reducible exact hr _ (by decide)
    | with_reducible apply State.conf_trainCentre
    | with_reducible apply State.conf_judgeDropped
    | (extract_lets +onlyGivenNames x
       first
         | (refine conf_cut (s0 := s0) (ps := ps) (rs := rs) (s := x) ?_ (fun _ => ?_); (focus unfold x); on_goal 2 => clear_value x)
         | (unfold x; clear x)
         | clear_value x)
    | with_reducible apply conf_ite
    | split
    | (with_reducible refine conf_src rfl ?_ (fun p hq => ?_) (fun b _ => ?_) ?_
       on_goal 2 => cases p <;> first | with_reducible rfl | exact absurd (hp (by decide)) hq
       on_goal 2 => exact State.store_of_tables rfl rfl rfl b
       on_goal 2 => first | exact id | (intro hs; simp only [State.shaped] at hs ⊢; simp_all)))

theorem State.conf_trainingEnd {s0 s : State} {ps : List Part} {rs : Nat → Prop}  (h : Confined s0 ps rs s) (hp : [.sset, .bumped, .caused, .sideA, .sideB, .link, .outA, .outB, .frame, .fixer] ⊆ ps) (hr : ∀ a ∈ [Reg.FRAME_FRAME_STATUS, Reg.LINK_LINK_STATUS], rs a) : Confined s0 ps rs (State.trainingEnd s) := by
  unfold State.trainingEnd
  repeat' (first
    | with_reducible assumption
    | with_reducible exact sub_parts hp (by decide)
    | with_reducible exact sub_parts _hp (by decide)
    | with_reducible exact sub_regs hr (by decide)
    | with_reducible exact hr _ (by decide)
    | with_reducible apply State.conf_trainEndSide
    | with_reducible apply State.conf_judgeDropped
    | (extract_lets +onlyGivenNames x
       first
         | (refine conf_cut (s0 := s0) (ps := ps) (rs := rs) (s := x) ?_ (fun _ => ?_); (focus unfold x); on_goal 2 => clear_value x)
         | (unfold x; clear x)
         | clear_value x)
    | with_reducible apply conf_ite
    | split
    | (with_reducible refine conf_src rfl ?_ (fun p hq => ?_) (fun b _ => ?_) ?_
       on_goal 2 => cases p <;> first | with_reducible rfl | exact absurd (hp (by decide)) hq
       on_goal 2 => exact State.store_of_tables rfl rfl rfl b
       on_goal 2 => first | exact id | (intro hs; simp only [State.shaped] at hs ⊢; simp_all)))

theorem State.conf_domainStep {s0 s : State} {ps : List Part} {rs : Nat → Prop}  (h : Confined s0 ps rs s) (hp : [.mode] ⊆ ps) (_hr : ∀ a ∈ ([] : List Nat), rs a) : Confined s0 ps rs (State.domainStep s) := by
  unfold State.domainStep
  repeat' (first
    | with_reducible assumption
    | with_reducible exact sub_parts hp (by decide)
    | with_reducible exact sub_parts _hp (by decide)
    | with_reducible exact sub_regs _hr (by decide)
    | (extract_lets +onlyGivenNames x
       first
         | (refine conf_cut (s0 := s0) (ps := ps) (rs := rs) (s := x) ?_ (fun _ => ?_); (focus unfold x); on_goal 2 => clear_value x)
         | (unfold x; clear x)
         | clear_value x)
    | with_reducible apply conf_ite
    | split
    | (with_reducible refine conf_src rfl ?_ (fun p hq => ?_) (fun b _ => ?_) ?_
       on_goal 2 => cases p <;> first | with_reducible rfl | exact absurd (hp (by decide)) hq
       on_goal 2 => exact State.store_of_tables rfl rfl rfl b
       on_goal 2 => first | exact id | (intro hs; simp only [State.shaped] at hs ⊢; simp_all)))

theorem State.conf_domainGood {s0 s : State} {ps : List Part} {rs : Nat → Prop} (a1 : Nat) (h : Confined s0 ps rs s) (hp : [.front, .decim, .aper, .mode, .loupe] ⊆ ps) (hr : ∀ a ∈ [Reg.APER_COMMIT_COUNT, Reg.LOUPE_SUPPLY_0, Reg.LOUPE_SUPPLY_1, Reg.LOUPE_SUPPLY_2, Reg.LOUPE_TEMP_01, Reg.LOUPE_TEMP_23], rs a) : Confined s0 ps rs (State.domainGood s a1) := by
  unfold State.domainGood
  repeat' (first
    | with_reducible assumption
    | with_reducible exact sub_parts hp (by decide)
    | with_reducible exact sub_parts _hp (by decide)
    | with_reducible exact sub_regs hr (by decide)
    | with_reducible exact hr _ (by decide)
    | with_reducible apply State.conf_startBlocks
    | (extract_lets +onlyGivenNames x
       first
         | (refine conf_cut (s0 := s0) (ps := ps) (rs := rs) (s := x) ?_ (fun _ => ?_); (focus unfold x); on_goal 2 => clear_value x)
         | (unfold x; clear x)
         | clear_value x)
    | with_reducible apply conf_ite
    | split
    | (with_reducible refine conf_src rfl ?_ (fun p hq => ?_) (fun b _ => ?_) ?_
       on_goal 2 => cases p <;> first | with_reducible rfl | exact absurd (hp (by decide)) hq
       on_goal 2 => exact State.store_of_tables rfl rfl rfl b
       on_goal 2 => first | exact id | (intro hs; simp only [State.shaped] at hs ⊢; simp_all)))

end Sys2Proof.Machine
end

