-- ==== Sys2Proof/Laws/ConfLinkCmds.lean ====
section
/-! SUPPORT. What every operation of Machine/LinkCmds.lean is confined to: the parts of the state and the registers it can change. -/

set_option linter.unusedTactic false
set_option linter.unreachableTactic false
set_option linter.unusedVariables false
set_option linter.tactic.unusedName false

namespace Sys2Proof.Machine

theorem State.conf_sideDown {s0 s : State} {ps : List Part} {rs : Nat → Prop} (a1 : Side) (a2 : Bool) (h : Confined s0 ps rs s) (hp : [.sset, .bumped, .caused, .sideA, .sideB, .link, .frame, .fixer] ⊆ ps) (hr : ∀ a ∈ [Reg.FIXER_FIXER_STATUS, Reg.FIXER_LASTING_COUNT, Reg.FRAME_FRAME_STATUS, Reg.LINK_LINK_STATUS], rs a) : Confined s0 ps rs (State.sideDown s a1 a2) := by
  unfold State.sideDown
  repeat' (first
    | with_reducible assumption
    | with_reducible exact sub_parts hp (by decide)
    | with_reducible exact sub_parts _hp (by decide)
    | with_reducible exact sub_regs hr (by decide)
    | with_reducible exact hr _ (by decide)
    | with_reducible apply State.conf_declareDown
    | with_reducible apply State.conf_judgeLost
    | with_reducible apply conf_ite
    | split)

theorem State.conf_wrapStep {s0 s : State} {ps : List Part} {rs : Nat → Prop}  (h : Confined s0 ps rs s) (hp : [.sset, .bumped, .caused, .link, .fixer] ⊆ ps) (hr : ∀ a ∈ [Reg.LINK_LINK_STATUS, Reg.LINK_WRAP_COUNT], rs a) : Confined s0 ps rs (State.wrapStep s) := by
  unfold State.wrapStep
  repeat' (first
    | with_reducible assumption
    | with_reducible exact sub_parts hp (by decide)
    | with_reducible exact sub_parts _hp (by decide)
    | with_reducible exact sub_regs hr (by decide)
    | with_reducible exact hr _ (by decide)
    | with_reducible apply State.conf_startWrap
    | (extract_lets +onlyGivenNames x
       first
         | (refine conf_cut (s0 := s0) (ps := ps) (rs := rs) (s := x) ?_ (fun _ => ?_); (focus unfold x); on_goal 2 => clear_value x)
         | (unfold x; clear x)
         | clear_value x)
    | with_reducible apply conf_ite
    | split
    | (with_reducible refine conf_src rfl ?_ (fun p hq => ?_) (fun b _ => ?_) ?_
       on_goal 2 => cases p <;> first | with_reducible rfl | exact absurd (hp (by decide)) hq
       on_goal 2 => exact State.store_of_tables rfl rfl rfl b
       on_goal 2 => first | exact id | (intro hs; simp only [State.shaped] at hs ⊢; simp_all)))

theorem State.conf_unwrapStep {s0 s : State} {ps : List Part} {rs : Nat → Prop}  (h : Confined s0 ps rs s) (hp : [.sset, .bumped, .caused, .sideA, .sideB, .link, .fixer] ⊆ ps) (hr : ∀ a ∈ [Reg.LINK_LINK_STATUS], rs a) : Confined s0 ps rs (State.unwrapStep s) := by
  unfold State.unwrapStep
  repeat' (first
    | with_reducible assumption
    | with_reducible exact sub_parts hp (by decide)
    | with_reducible exact sub_parts _hp (by decide)
    | with_reducible exact sub_regs hr (by decide)
    | with_reducible exact hr _ (by decide)
    | with_reducible apply State.conf_endWrap
    | (extract_lets +onlyGivenNames x
       first
         | (refine conf_cut (s0 := s0) (ps := ps) (rs := rs) (s := x) ?_ (fun _ => ?_); (focus unfold x); on_goal 2 => clear_value x)
         | (unfold x; clear x)
         | clear_value x)
    | with_reducible apply conf_ite
    | split
    | (with_reducible refine conf_src rfl ?_ (fun p hq => ?_) (fun b _ => ?_) ?_
       on_goal 2 => cases p <;> first | with_reducible rfl | exact absurd (hp (by decide)) hq
       on_goal 2 => exact State.store_of_tables rfl rfl rfl b
       on_goal 2 => first | exact id | (intro hs; simp only [State.shaped] at hs ⊢; simp_all)))

theorem State.conf_trackLanes {s0 s : State} {ps : List Part} {rs : Nat → Prop} (a1 : List LaneMove) (h : Confined s0 ps rs s) (hp : [.sset, .bumped, .caused, .sideA, .sideB, .fixer] ⊆ ps) (hr : ∀ a ∈ [Reg.LINK_LINK_STATUS], rs a) : Confined s0 ps rs (State.trackLanes s a1) := by
  unfold State.trackLanes
  repeat' (first
    | with_reducible assumption
    | with_reducible exact sub_parts hp (by decide)
    | with_reducible exact sub_parts _hp (by decide)
    | with_reducible exact sub_regs hr (by decide)
    | with_reducible exact hr _ (by decide)
    | intro _ _ _
    | with_reducible apply State.conf_trackLane
    | with_reducible apply conf_ite
    | with_reducible apply conf_foldl
    | split)

theorem State.conf_fieldOr {s0 s : State} {ps : List Part} {rs : Nat → Prop} (x : Side) (n : Nat) (put : OutSide → OutSide) (f : State → State) (h : Confined s0 ps rs s)
    (hf : Confined s0 ps rs (f s)) (hp : [.outA, .outB] ⊆ ps) (_hr : ∀ a ∈ ([] : List Nat), rs a) : Confined s0 ps rs (State.fieldOr s x n put f) := by
  unfold State.fieldOr
  exact conf_ite (State.conf_forward _ _ _ _ h (sub_parts hp (by decide)) (sub_regs _hr (by decide))) (conf_ite hf h)

theorem State.conf_showDecision {s0 s : State} {ps : List Part} {rs : Nat → Prop}  (h : Confined s0 ps rs s) (hp : [.sset, .bumped, .caused, .frame, .fixer] ⊆ ps) (hr : ∀ a ∈ [Reg.FIXER_FIXER_STATUS, Reg.FIXER_LASTING_COUNT, Reg.FRAME_FRAME_STATUS, Reg.FRAME_SHOW_ALT_COUNT, Reg.FRAME_SHOW_MISS_COUNT], rs a) : Confined s0 ps rs (State.showDecision s) := by
  unfold State.showDecision
  repeat' (first
    | with_reducible assumption
    | with_reducible exact sub_parts hp (by decide)
    | with_reducible exact sub_parts _hp (by decide)
    | with_reducible exact sub_regs hr (by decide)
    | with_reducible exact hr _ (by decide)
    | with_reducible apply State.conf_decideShow
    | (extract_lets +onlyGivenNames x
       first
         | (refine conf_cut (s0 := s0) (ps := ps) (rs := rs) (s := x) ?_ (fun _ => ?_); (focus unfold x); on_goal 2 => clear_value x)
         | (unfold x; clear x)
         | clear_value x)
    | with_reducible apply conf_ite
    | split
    | (with_reducible refine conf_src rfl ?_ (fun p hq => ?_) (fun b _ => ?_) ?_
       on_goal 2 => cases p <;> first | with_reducible rfl | exact absurd (hp (by decide)) hq
       on_goal 2 => exact State.store_of_tables rfl rfl rfl b
       on_goal 2 => first | exact id | (intro hs; simp only [State.shaped] at hs ⊢; simp_all)))

end Sys2Proof.Machine
end

