-- ==== Sys2Proof/Laws/ConfPortCmds.lean ====
section
/-! SUPPORT. What every operation of Machine/PortCmds.lean is confined to: the parts of the state and the registers it can change. -/

set_option linter.unusedTactic false
set_option linter.unreachableTactic false
set_option linter.unusedVariables false
set_option linter.tactic.unusedName false

namespace Sys2Proof.Machine

theorem State.conf_readStep {s0 s : State} {ps : List Part} {rs : Nat → Prop} (who : ReadBy) (h : Confined s0 ps rs s) (hp : [.sset, .bumped, .caused, .clk, .ident, .sideA, .sideB, .link, .outA, .outB, .frame, .queue, .port, .fixer, .front, .decim, .aper, .mx, .dev, .sheet, .latent, .print, .stage, .bank, .mode, .loupe, .mem, .free] ⊆ ps) (hr : ∀ a, rs a) : Confined s0 ps rs (State.readStep s who) := by
  cases who with
  | host n => exact State.conf_hostRun 1 n h (sub_parts hp (by decide)) hr
  | loupe addr width => exact State.conf_loupeRead addr width h (sub_parts hp (by decide)) hr

theorem State.conf_statusWrite {s0 s : State} {ps : List Part} {rs : Nat → Prop} (a1 : Src) (a2 : Nat) (a3 : Word) (h : Confined s0 ps rs s) (hp : [.sset, .bumped, .caused, .clk, .ident, .sideA, .sideB, .link, .outA, .outB, .frame, .queue, .port, .fixer, .front, .decim, .aper, .mx, .dev, .sheet, .latent, .print, .stage, .bank, .mode, .loupe, .mem] ⊆ ps) (hr : ∀ a, rs a) : Confined s0 ps rs (State.statusWrite s a1 a2 a3) := by
  unfold State.statusWrite
  repeat' (first
    | with_reducible assumption
    | with_reducible exact sub_parts hp (by decide)
    | with_reducible exact sub_parts _hp (by decide)
    | with_reducible exact fun a _ => hr a
    | with_reducible exact hr
    | with_reducible exact hr _
    | with_reducible apply State.conf_accessWrite
    | with_reducible apply conf_ite
    | split)

theorem State.conf_armWrite {s0 s : State} {ps : List Part} {rs : Nat → Prop} (a1 : Src) (a2 : Nat) (a3 : Word) (h : Confined s0 ps rs s) (hp : [.sset, .bumped, .caused, .clk, .ident, .sideA, .sideB, .link, .outA, .outB, .frame, .queue, .port, .fixer, .front, .decim, .aper, .mx, .dev, .sheet, .latent, .print, .stage, .bank, .mode, .loupe, .mem] ⊆ ps) (hr : ∀ a, rs a) : Confined s0 ps rs (State.armWrite s a1 a2 a3) := by
  unfold State.armWrite
  repeat' (first
    | with_reducible assumption
    | with_reducible exact sub_parts hp (by decide)
    | with_reducible exact sub_parts _hp (by decide)
    | with_reducible exact fun a _ => hr a
    | with_reducible exact hr
    | with_reducible exact hr _
    | with_reducible apply State.conf_accessWrite
    | with_reducible apply conf_ite
    | split)

theorem State.conf_logWrite {s0 s : State} {ps : List Part} {rs : Nat → Prop}  (h : Confined s0 ps rs s) (hp : [.sset, .bumped, .caused, .queue, .fixer, .bank, .mem] ⊆ ps) (hr : ∀ a ∈ [Reg.FIXER_FIXER_STATUS, Reg.FIXER_LASTING_COUNT, Reg.FIXER_LOG_TOTAL, Reg.QUEUE_EVT_COUNT, Reg.QUEUE_EVT_DROPS, Reg.QUEUE_QUEUE_STATUS, Reg.TANK_CE_ADDR, Reg.TANK_CE_COUNT, Reg.TANK_FOG_PASSES, Reg.TANK_FOG_SKIPS, Reg.TANK_TANK_STATUS, Reg.TANK_UE_ADDR, Reg.TANK_UE_COUNT], rs a) : Confined s0 ps rs (State.logWrite s) := by
  unfold State.logWrite
  repeat' (first
    | with_reducible assumption
    | with_reducible exact sub_parts hp (by decide)
    | with_reducible exact sub_parts _hp (by decide)
    | with_reducible exact sub_regs hr (by decide)
    | with_reducible exact hr _ (by decide)
    | with_reducible apply State.conf_logStep
    | with_reducible apply conf_ite
    | split)

end Sys2Proof.Machine
end

