-- ==== Sys2Proof/Laws/ConfGuardCmds.lean ====
section
/-! SUPPORT. What every operation of Machine/GuardCmds.lean is confined to: the parts of the state and the registers it can change. -/

set_option linter.unusedTactic false
set_option linter.unreachableTactic false
set_option linter.unusedVariables false
set_option linter.tactic.unusedName false

namespace Sys2Proof.Machine

theorem State.conf_guardedWrite {s0 s : State} {ps : List Part} {rs : Nat → Prop} (a1 : Src) (a2 : Nat) (a3 : Word → Bool) (a4 : Word) (h : Confined s0 ps rs s) (hp : [.sset, .bumped, .caused, .clk, .ident, .sideA, .sideB, .link, .outA, .outB, .frame, .queue, .port, .fixer, .front, .decim, .aper, .mx, .dev, .sheet, .latent, .print, .stage, .bank, .mode, .loupe, .mem] ⊆ ps) (hr : ∀ a, rs a) : Confined s0 ps rs (State.guardedWrite s a1 a2 a3 a4) := by
  unfold State.guardedWrite
  repeat' (first
    | with_reducible assumption
    | with_reducible exact sub_parts hp (by decide)
    | with_reducible exact sub_parts _hp (by decide)
    | with_reducible exact fun a _ => hr a
    | with_reducible exact hr
    | with_reducible exact hr _
    | with_reducible apply State.conf_accessWrite
    | (extract_lets +onlyGivenNames x
       first
         | (refine conf_cut (s0 := s0) (ps := ps) (rs := rs) (s := x) ?_ (fun _ => ?_); (focus unfold x); on_goal 2 => clear_value x)
         | (unfold x; clear x)
         | clear_value x)
    | with_reducible apply conf_ite
    | split
    | (with_reducible refine conf_src rfl ?_ (fun p hq => ?_) (fun b _ => ?_) ?_
       on_goal 2 => cases p <;> first | with_reducible rfl | exact absurd (hp (by decide)) hq
       on_goal 2 => exact State.store_of_tables rfl rfl rfl b
       on_goal 2 => first | exact id | (intro hs; simp only [State.shaped] at hs ⊢; simp_all)))

end Sys2Proof.Machine
end

