-- ==== Sys2Proof/Laws/ConfMaskedCmds.lean ====
section
/-! SUPPORT. What every operation of Machine/MaskedCmds.lean is confined to: the parts of the state and the registers it can change. -/

set_option linter.unusedTactic false
set_option linter.unreachableTactic false
set_option linter.unusedVariables false
set_option linter.tactic.unusedName false

namespace Sys2Proof.Machine

theorem State.conf_commandWrite {s0 s : State} {ps : List Part} {rs : Nat → Prop} (a1 : Src) (a2 : Nat) (a3 : Word → Word → Bool) (a4 : Word) (h : Confined s0 ps rs s) (hp : [.sset, .bumped, .caused, .clk, .ident, .sideA, .sideB, .link, .outA, .outB, .frame, .queue, .port, .fixer, .front, .decim, .aper, .mx, .dev, .sheet, .latent, .print, .stage, .bank, .mode, .loupe, .mem] ⊆ ps) (hr : ∀ a, rs a) : Confined s0 ps rs (State.commandWrite s a1 a2 a3 a4) := by
  unfold State.commandWrite
  repeat' (first
    | with_reducible assumption
    | with_reducible exact sub_parts hp (by decide)
    | with_reducible exact sub_parts _hp (by decide)
    | with_reducible exact fun a _ => hr a
    | with_reducible exact hr
    | with_reducible exact hr _
    | with_reducible apply State.conf_accessWrite
    | with_reducible apply conf_ite
    | split)

end Sys2Proof.Machine
end

