-- ==== Sys2Proof/Laws/ConfWatchCmds.lean ====
section
/-! SUPPORT. What every operation of Machine/WatchCmds.lean is confined to: the parts of the state and the registers it can change. -/

set_option linter.unusedTactic false
set_option linter.unreachableTactic false
set_option linter.unusedVariables false
set_option linter.tactic.unusedName false

namespace Sys2Proof.Machine

theorem State.conf_prerollStep {s0 s : State} {ps : List Part} {rs : Nat → Prop}  (h : Confined s0 ps rs s) (hp : [.sset, .bumped, .caused, .fixer, .sheet, .latent] ⊆ ps) (hr : ∀ a ∈ [Reg.LATENT_LAT_STATUS], rs a) : Confined s0 ps rs (State.prerollStep s) := by
  unfold State.prerollStep
  repeat' (first
    | with_reducible assumption
    | with_reducible exact sub_parts hp (by decide)
    | with_reducible exact sub_parts _hp (by decide)
    | with_reducible exact sub_regs hr (by decide)
    | with_reducible exact hr _ (by decide)
    | with_reducible apply State.conf_updateDrain
    | with_reducible apply State.conf_fillPreroll
    | with_reducible apply conf_ite
    | split)

theorem State.conf_loupeShut {s0 s : State} {ps : List Part} {rs : Nat → Prop}  (h : Confined s0 ps rs s) (hp : [.sset, .bumped, .caused, .queue, .fixer, .bank, .loupe, .mem] ⊆ ps) (hr : ∀ a ∈ [Reg.FIXER_FIXER_STATUS, Reg.FIXER_LASTING_COUNT, Reg.TANK_CE_ADDR, Reg.TANK_CE_COUNT, Reg.TANK_FOG_PASSES, Reg.TANK_FOG_SKIPS, Reg.TANK_TANK_STATUS, Reg.TANK_UE_ADDR, Reg.TANK_UE_COUNT], rs a) : Confined s0 ps rs (State.loupeShut s) := by
  unfold State.loupeShut
  repeat' (first
    | with_reducible assumption
    | with_reducible exact sub_parts hp (by decide)
    | with_reducible exact sub_parts _hp (by decide)
    | with_reducible exact sub_regs hr (by decide)
    | with_reducible exact hr _ (by decide)
    | with_reducible apply State.conf_setTankWords
    | (extract_lets +onlyGivenNames x
       first
         | (refine conf_cut (s0 := s0) (ps := ps) (rs := rs) (s := x) ?_ (fun _ => ?_); (focus unfold x); on_goal 2 => clear_value x)
         | (unfold x; clear x)
         | clear_value x)
    | with_reducible apply conf_ite
    | split
    | (with_reducible refine conf_src rfl ?_ (fun p hq => ?_) (fun b _ => ?_) ?_
       on_goal 2 => cases p <;> first | with_reducible rfl | exact absurd (hp (by decide)) hq
       on_goal 2 => exact State.store_of_tables rfl rfl rfl b
       on_goal 2 => first | exact id | (intro hs; simp only [State.shaped] at hs ⊢; simp_all)))

theorem State.conf_blockStep {s0 s : State} {ps : List Part} {rs : Nat → Prop} (a1 : DevIn) (h : Confined s0 ps rs s) (hp : [.sset, .bumped, .caused, .queue, .fixer, .dev, .sheet, .latent, .bank, .mem] ⊆ ps) (hr : ∀ a ∈ [Reg.DEV_ACT_COUNT, Reg.DEV_ALARM_COUNT, Reg.DEV_DEV_STATUS, Reg.DEV_WAKE_COUNT, Reg.DEV_WAKE_STATUS, Reg.FIXER_FIXER_STATUS, Reg.FIXER_LASTING_COUNT, Reg.LATENT_LAT_STATUS, Reg.LATENT_REC_COUNT, Reg.SHEET_ABANDON_COUNT, Reg.SHEET_MATCH_COUNT, Reg.SHEET_SHEET_STATUS, Reg.TANK_CE_ADDR, Reg.TANK_CE_COUNT, Reg.TANK_FOG_PASSES, Reg.TANK_FOG_SKIPS, Reg.TANK_TANK_STATUS, Reg.TANK_UE_ADDR, Reg.TANK_UE_COUNT], rs a) : Confined s0 ps rs (State.blockStep s a1) := by
  unfold State.blockStep
  repeat' (first
    | with_reducible assumption
    | with_reducible exact sub_parts hp (by decide)
    | with_reducible exact sub_parts _hp (by decide)
    | with_reducible exact sub_regs hr (by decide)
    | with_reducible exact hr _ (by decide)
    | with_reducible apply State.conf_devBlock
    | with_reducible apply conf_ite
    | split)

theorem State.conf_tripStep {s0 s : State} {ps : List Part} {rs : Nat → Prop} (a1 : Nat) (h : Confined s0 ps rs s) (hp : [.sset, .bumped, .caused, .fixer, .loupe] ⊆ ps) (hr : ∀ a ∈ [Reg.LOUPE_LOUPE_STATUS, Reg.PRINT_MASTER_A, Reg.PRINT_MASTER_B], rs a) : Confined s0 ps rs (State.tripStep s a1) := by
  unfold State.tripStep
  repeat' (first
    | with_reducible assumption
    | with_reducible exact sub_parts hp (by decide)
    | with_reducible exact sub_parts _hp (by decide)
    | with_reducible exact sub_regs hr (by decide)
    | with_reducible exact hr _ (by decide)
    | with_reducible apply State.conf_tjTrip
    | with_reducible apply conf_ite
    | split)

theorem State.conf_expiryStep {s0 s : State} {ps : List Part} {rs : Nat → Prop}  (h : Confined s0 ps rs s) (hp : [.sset, .bumped, .caused, .fixer, .mode, .loupe] ⊆ ps) (hr : ∀ a ∈ [Reg.FIXER_FIXER_STATUS, Reg.FIXER_LASTING_COUNT, Reg.LOUPE_PATCH_INFO, Reg.LOUPE_SUPPLY_0, Reg.LOUPE_SUPPLY_1, Reg.LOUPE_SUPPLY_2, Reg.LOUPE_TEMP_01, Reg.LOUPE_TEMP_23, Reg.LOUPE_WDOG_COUNT], rs a) : Confined s0 ps rs (State.expiryStep s) := by
  unfold State.expiryStep
  repeat' (first
    | with_reducible assumption
    | with_reducible exact sub_parts hp (by decide)
    | with_reducible exact sub_parts _hp (by decide)
    | with_reducible exact sub_regs hr (by decide)
    | with_reducible exact hr _ (by decide)
    | with_reducible apply State.conf_watchdog
    | with_reducible apply conf_ite
    | split)

end Sys2Proof.Machine
end

