-- ==== Sys2Proof/Laws/ConfPrintCmds.lean ====
section
/-! SUPPORT. What every operation of Machine/PrintCmds.lean is confined to: the parts of the state and the registers it can change. -/

set_option linter.unusedTactic false
set_option linter.unreachableTactic false
set_option linter.unusedVariables false
set_option linter.tactic.unusedName false

namespace Sys2Proof.Machine

theorem State.conf_measureStep {s0 s : State} {ps : List Part} {rs : Nat → Prop} (a1 : Nat) (a2 : Nat) (h : Confined s0 ps rs s) (hp : [.sset, .bumped, .caused, .fixer, .stage] ⊆ ps) (hr : ∀ a ∈ [Reg.STAGE_STAGE_STATUS], rs a) : Confined s0 ps rs (State.measureStep s a1 a2) := by
  unfold State.measureStep
  repeat' (first
    | with_reducible assumption
    | with_reducible exact sub_parts hp (by decide)
    | with_reducible exact sub_parts _hp (by decide)
    | with_reducible exact sub_regs hr (by decide)
    | with_reducible exact hr _ (by decide)
    | with_reducible apply State.conf_measured
    | with_reducible apply conf_ite
    | split)

theorem State.conf_instantStep {s0 s : State} {ps : List Part} {rs : Nat → Prop} (a1 : Nat) (a2 : ReadIn) (h : Confined s0 ps rs s) (hp : [.sset, .bumped, .caused, .fixer, .print, .stage, .free] ⊆ ps) (hr : ∀ a ∈ [Reg.FIXER_FIXER_STATUS, Reg.FIXER_LASTING_COUNT, Reg.PRINT_CLIP_COUNT, Reg.PRINT_MUTE_COUNT, Reg.PRINT_PRINT_STATUS, Reg.PRINT_PROOF_CTL_A, Reg.PRINT_PROOF_CTL_B], rs a) : Confined s0 ps rs (State.instantStep s a1 a2) := by
  unfold State.instantStep
  repeat' (first
    | with_reducible assumption
    | with_reducible exact sub_parts hp (by decide)
    | with_reducible exact sub_parts _hp (by decide)
    | with_reducible exact sub_regs hr (by decide)
    | with_reducible exact hr _ (by decide)
    | with_reducible apply State.conf_readInstant
    | with_reducible apply conf_ite
    | split)

theorem State.conf_lostStep {s0 s : State} {ps : List Part} {rs : Nat → Prop} (a1 : Nat) (h : Confined s0 ps rs s) (hp : [.sset, .bumped, .caused, .fixer, .stage] ⊆ ps) (hr : ∀ a ∈ [Reg.FIXER_FIXER_STATUS, Reg.FIXER_LASTING_COUNT, Reg.STAGE_LATCH, Reg.STAGE_STAGE_STATUS, Reg.STAGE_TRIP_COUNT], rs a) : Confined s0 ps rs (State.lostStep s a1) := by
  unfold State.lostStep
  repeat' (first
    | with_reducible assumption
    | with_reducible exact sub_parts hp (by decide)
    | with_reducible exact sub_parts _hp (by decide)
    | with_reducible exact sub_regs hr (by decide)
    | with_reducible exact hr _ (by decide)
    | with_reducible apply State.conf_stageFault
    | with_reducible apply conf_ite
    | split)

theorem State.conf_thermalStep {s0 s : State} {ps : List Part} {rs : Nat → Prop} (a1 : Nat) (h : Confined s0 ps rs s) (hp : [.sset, .bumped, .caused, .fixer, .stage] ⊆ ps) (hr : ∀ a ∈ [Reg.FIXER_FIXER_STATUS, Reg.FIXER_LASTING_COUNT, Reg.STAGE_LATCH, Reg.STAGE_STAGE_STATUS, Reg.STAGE_TRIP_COUNT], rs a) : Confined s0 ps rs (State.thermalStep s a1) := by
  unfold State.thermalStep
  repeat' (first
    | with_reducible assumption
    | with_reducible exact sub_parts hp (by decide)
    | with_reducible exact sub_parts _hp (by decide)
    | with_reducible exact sub_regs hr (by decide)
    | with_reducible exact hr _ (by decide)
    | with_reducible apply State.conf_stageFault
    | with_reducible apply conf_ite
    | split)

end Sys2Proof.Machine
end

