-- ==== Sys2Proof/Laws/ConfRaceCmds.lean ====
section
/-! SUPPORT. What every operation of Machine/RaceCmds.lean is confined to: the parts of the state and the registers it can change. -/

set_option linter.unusedTactic false
set_option linter.unreachableTactic false
set_option linter.unusedVariables false
set_option linter.tactic.unusedName false

namespace Sys2Proof.Machine

theorem State.conf_hardware {s0 s : State} {ps : List Part} {rs : Nat → Prop} (b : Beside) (h : Confined s0 ps rs s) (hp : [.sset, .bumped, .caused, .clk, .ident, .sideA, .sideB, .link, .outA, .outB, .frame, .queue, .port, .fixer, .front, .decim, .aper, .mx, .dev, .sheet, .latent, .print, .stage, .bank, .mode, .loupe, .mem, .free] ⊆ ps) (hr : ∀ a, rs a) : Confined s0 ps rs (State.hardware s b) := by
  cases b
  all_goals
    dsimp only [State.hardware]
    first
    | with_reducible apply State.conf_frameStart
    | with_reducible apply State.conf_headerEnd
    | with_reducible apply State.conf_sideDown
    | with_reducible apply State.conf_showDecision
    | with_reducible apply State.conf_rateBoundary
    | with_reducible apply State.conf_hqBoundary
    | with_reducible apply State.conf_lpBoundary
    | with_reducible apply State.conf_blockStep
    | with_reducible apply State.conf_shortStep
    | with_reducible apply State.conf_instantStep
    | with_reducible apply State.conf_lostStep
    | with_reducible apply State.conf_thermalStep
    | with_reducible apply State.conf_tripStep
    | with_reducible apply State.conf_expiryStep
    | with_reducible apply State.conf_fogMove
    | with_reducible apply State.conf_accessStep
    | with_reducible apply State.conf_logWrite
  all_goals first | with_reducible assumption | with_reducible exact sub_parts hp (by decide) | exact hr | exact fun a _ => hr a

theorem State.conf_besideStep {s0 s : State} {ps : List Part} {rs : Nat → Prop} (b : Option Beside) (h : Confined s0 ps rs s) (hp : [.sset, .bumped, .caused, .clk, .ident, .sideA, .sideB, .link, .outA, .outB, .frame, .queue, .port, .fixer, .front, .decim, .aper, .mx, .dev, .sheet, .latent, .print, .stage, .bank, .mode, .loupe, .mem, .free] ⊆ ps) (hr : ∀ a, rs a) : Confined s0 ps rs (State.besideStep s b) := by
  cases b with
  | none => exact h
  | some b => exact State.conf_hardware b h (sub_parts hp (by decide)) hr

theorem State.conf_cycleWrite {s0 s : State} {ps : List Part} {rs : Nat → Prop} (a1 : Src) (a2 : Nat) (a3 : Word) (a4 : Option Beside) (h : Confined s0 ps rs s) (hp : [.sset, .bumped, .caused, .clk, .ident, .sideA, .sideB, .link, .outA, .outB, .frame, .queue, .port, .fixer, .front, .decim, .aper, .mx, .dev, .sheet, .latent, .print, .stage, .bank, .mode, .loupe, .mem, .free] ⊆ ps) (hr : ∀ a, rs a) : Confined s0 ps rs (State.cycleWrite s a1 a2 a3 a4) := by
  unfold State.cycleWrite
  repeat' (first
    | with_reducible assumption
    | with_reducible exact sub_parts hp (by decide)
    | with_reducible exact sub_parts _hp (by decide)
    | with_reducible exact fun a _ => hr a
    | with_reducible exact hr
    | with_reducible exact hr _
    | with_reducible apply State.conf_accessWrite
    | with_reducible apply State.conf_besideStep
    | with_reducible apply conf_ite
    | split)

theorem State.conf_registerWrite {s0 s : State} {ps : List Part} {rs : Nat → Prop} (a1 : Src) (a2 : Nat) (a3 : WriteIn) (h : Confined s0 ps rs s) (hp : [.sset, .bumped, .caused, .clk, .ident, .sideA, .sideB, .link, .outA, .outB, .frame, .queue, .port, .fixer, .front, .decim, .aper, .mx, .dev, .sheet, .latent, .print, .stage, .bank, .mode, .loupe, .mem, .free] ⊆ ps) (hr : ∀ a, rs a) : Confined s0 ps rs (State.registerWrite s a1 a2 a3) := by
  unfold State.registerWrite
  repeat' (first
    | with_reducible assumption
    | with_reducible exact sub_parts hp (by decide)
    | with_reducible exact sub_parts _hp (by decide)
    | with_reducible exact fun a _ => hr a
    | with_reducible exact hr
    | with_reducible exact hr _
    | with_reducible apply State.conf_cycleWrite
    | with_reducible apply State.conf_besideStep
    | with_reducible apply State.conf_endCycle
    | with_reducible apply State.conf_accessWrite
    | (extract_lets +onlyGivenNames x
       first
         | (refine conf_cut (s0 := s0) (ps := ps) (rs := rs) (s := x) ?_ (fun _ => ?_); (focus unfold x); on_goal 2 => clear_value x)
         | (unfold x; clear x)
         | clear_value x)
    | with_reducible apply conf_ite
    | split
    | (with_reducible refine conf_src rfl ?_ (fun p hq => ?_) (fun b _ => ?_) ?_
       on_goal 2 => cases p <;> first | with_reducible rfl | exact absurd (hp (by decide)) hq
       on_goal 2 => exact State.store_of_tables rfl rfl rfl b
       on_goal 2 => first | exact id | (intro hs; simp only [State.shaped] at hs ⊢; simp_all)))

end Sys2Proof.Machine
end

