-- ==== Sys2Proof/Laws/Mem.lean ====
section
/-! SUPPORT. Tank as a list of bytes: what a read finds after a write, and that every operation keeps the canonical form. -/

namespace Sys2Proof.Machine

/-- The canonical form as a statement about every entry and every pair of neighbours. -/
theorem Mem.wf_cons (c : Host.Cell) (t : List Host.Cell) :
    Mem.wf (c :: t) = true ↔ c.2 ≠ Mem.blank ∧ (∀ d ∈ t.head?, c.1 < d.1) ∧ Mem.wf t = true := by
  cases t with
  | nil => simp [Mem.wf]
  | cons d u => simp [Mem.wf, and_assoc]

/-- In canonical form every later entry lies above the first. -/
theorem Mem.wf_lt {c : Host.Cell} {t : List Host.Cell} (h : Mem.wf (c :: t) = true) : ∀ d ∈ t, c.1 < d.1 := by
  induction t generalizing c with
  | nil => simp
  | cons e u ih =>
    have h1 := (Mem.wf_cons c (e :: u)).1 h
    have he : c.1 < e.1 := h1.2.1 e (by simp)
    intro d hd
    rcases List.mem_cons.1 hd with rfl | hd
    · exact he
    · exact lt_trans he (ih h1.2.2 d hd)

/-- The canonical form says: no blank entry, and rising addresses. -/
theorem Mem.wf_iff (m : List Host.Cell) :
    Mem.wf m = true ↔ (∀ c ∈ m, c.2 ≠ Mem.blank) ∧ m.Pairwise (fun c d => c.1 < d.1) := by
  induction m with
  | nil => simp [Mem.wf]
  | cons c t ih =>
    constructor
    · intro h
      have h1 := (Mem.wf_cons c t).1 h
      have h2 := ih.1 h1.2.2
      exact ⟨List.forall_mem_cons.2 ⟨h1.1, h2.1⟩, List.pairwise_cons.2 ⟨Mem.wf_lt h, h2.2⟩⟩
    · rintro ⟨h1, h2⟩
      rw [List.pairwise_cons] at h2
      rw [List.forall_mem_cons] at h1
      refine (Mem.wf_cons c t).2 ⟨h1.1, ?_, ih.2 ⟨h1.2, h2.2⟩⟩
      intro d hd
      exact h2.1 d (List.mem_of_mem_head? hd)

/-- Removing entries keeps the canonical form. -/
theorem Mem.wf_filter {m : List Host.Cell} (p : Host.Cell → Bool) (h : Mem.wf m = true) : Mem.wf (m.filter p) = true := by
  rw [Mem.wf_iff] at *
  exact ⟨fun c hc => h.1 c (List.mem_of_mem_filter hc), h.2.filter p⟩

theorem Mem.wf_keep {m : List Host.Cell} (p : Nat → Bool) (h : Mem.wf m = true) : Mem.wf (Mem.keep m p) = true :=
  Mem.wf_filter _ h

theorem Mem.wf_erase {m : List Host.Cell} (a b : Nat) (h : Mem.wf m = true) : Mem.wf (Mem.erase m a b) = true :=
  Mem.wf_filter _ h

/-- Every entry after a write is an old one or the one written. -/
theorem Mem.mem_write {m : List Host.Cell} {a : Nat} {v : Byte} {c : Host.Cell} (h : c ∈ Mem.write m a v) :
    c ∈ m ∨ (c = (a, v) ∧ v ≠ Mem.blank) := by
  induction m with
  | nil =>
    simp only [Mem.write] at h
    split at h
    · simp at h
    · exact .inr ⟨by simpa using h, ‹_›⟩
  | cons d t ih =>
    simp only [Mem.write] at h
    split at h
    · split at h
      · exact .inl (List.mem_cons_of_mem _ h)
      · rcases List.mem_cons.1 h with h | h
        · exact .inr ⟨h, ‹_›⟩
        · exact .inl (List.mem_cons_of_mem _ h)
    · split at h
      · split at h
        · exact .inl h
        · rcases List.mem_cons.1 h with h | h
          · exact .inr ⟨h, ‹_›⟩
          · exact .inl h
      · rcases List.mem_cons.1 h with h | h
        · exact .inl (by simp [h])
        · rcases ih h with h | h
          · exact .inl (List.mem_cons_of_mem _ h)
          · exact .inr h

/-- A write of one byte keeps the canonical form. -/
theorem Mem.wf_write {m : List Host.Cell} (a : Nat) (v : Byte) (h : Mem.wf m = true) : Mem.wf (Mem.write m a v) = true := by
  induction m with
  | nil => simp only [Mem.write]; split <;> simp_all [Mem.wf]
  | cons d t ih =>
    have hd := (Mem.wf_cons d t).1 h
    have hlt := Mem.wf_lt h
    simp only [Mem.write]
    split
    · rename_i hda
      split
      · exact hd.2.2
      · exact (Mem.wf_cons _ _).2 ⟨‹_›, by rw [← hda]; exact hd.2.1, hd.2.2⟩
    · split
      · split
        · exact h
        · refine (Mem.wf_cons _ _).2 ⟨‹_›, ?_, h⟩
          simpa
      · refine (Mem.wf_cons _ _).2 ⟨hd.1, ?_, ih hd.2.2⟩
        intro e he
        rcases Mem.mem_write (List.mem_of_mem_head? he) with h | h
        · exact hlt e h
        · rw [h.1]; show d.1 < a; omega

theorem Mem.wf_write32 {m : List Host.Cell} (a : Nat) (w : Word) (h : Mem.wf m = true) : Mem.wf (Mem.write32 m a w) = true :=
  Mem.wf_write _ _ (Mem.wf_write _ _ (Mem.wf_write _ _ (Mem.wf_write _ _ h)))

theorem Mem.wf_writeWords {m : List Host.Cell} (a : Nat) (ws : List Word) (h : Mem.wf m = true) :
    Mem.wf (Mem.writeWords m a ws) = true := by
  induction ws generalizing m a with
  | nil => exact h
  | cons w ws ih => exact ih _ (Mem.wf_write32 _ _ h)

theorem Mem.wf_fill {m : List Host.Cell} (a n : Nat) (v : Byte) (h : Mem.wf m = true) : Mem.wf (Mem.fill m a n v) = true := by
  induction n generalizing m a with
  | zero => exact h
  | succ n ih => exact ih _ (Mem.wf_write _ _ h)

/-- An address below every entry reads blank. -/
theorem Mem.read_blank {m : List Host.Cell} {a : Nat} (h : ∀ c ∈ m, a < c.1) : Mem.read m a = Mem.blank := by
  induction m with
  | nil => rfl
  | cons c t ih =>
    have hc := h c (by simp)
    simp only [Mem.read]
    rw [if_neg (by omega)]
    exact ih (fun d hd => h d (List.mem_cons_of_mem _ hd))

/-- A byte read back is the byte written. -/
theorem Mem.read_write_same {m : List Host.Cell} (a : Nat) (v : Byte) (h : Mem.wf m = true) :
    Mem.read (Mem.write m a v) a = v := by
  induction m with
  | nil => simp only [Mem.write]; split <;> simp_all [Mem.read]
  | cons d t ih =>
    have hd := (Mem.wf_cons d t).1 h
    have hlt := Mem.wf_lt h
    simp only [Mem.write]
    split
    · rename_i hda
      split
      · rename_i hv
        rw [hv]
        exact Mem.read_blank (fun c hc => by have := hlt c hc; omega)
      · simp [Mem.read]
    · split
      · split
        · rename_i hv
          rw [hv]
          refine Mem.read_blank (fun c hc => ?_)
          rcases List.mem_cons.1 hc with rfl | hc
          · assumption
          · have := hlt c hc; omega
        · simp [Mem.read]
      · simp only [Mem.read]
        rw [if_neg ‹_›]
        exact ih hd.2.2

/-- A write leaves every other byte alone. -/
theorem Mem.read_write_other {m : List Host.Cell} {a b : Nat} (v : Byte) (h : Mem.wf m = true) (hab : b ≠ a) :
    Mem.read (Mem.write m a v) b = Mem.read m b := by
  induction m with
  | nil => simp only [Mem.write]; split <;> simp [Mem.read, Ne.symm hab]
  | cons d t ih =>
    have hd := (Mem.wf_cons d t).1 h
    have hlt := Mem.wf_lt h
    simp only [Mem.write]
    split
    · rename_i hda
      split
      · simp only [Mem.read]
        rw [if_neg (by omega)]
      · simp only [Mem.read]
        rw [if_neg (by omega), if_neg (by omega)]
    · split
      · split
        · rfl
        · simp only [Mem.read]
          rw [if_neg (by omega)]
      · simp only [Mem.read]
        rw [ih hd.2.2]

/-- A 32-bit write leaves every byte outside its four alone. -/
theorem Mem.read_write32_other {m : List Host.Cell} {a b : Nat} (w : Word) (h : Mem.wf m = true) (hab : b < a ∨ a + 4 ≤ b) :
    Mem.read (Mem.write32 m a w) b = Mem.read m b := by
  unfold Mem.write32
  have h1 := Mem.wf_write a (byteOf w 0) h
  have h2 := Mem.wf_write (a + 1) (byteOf w 1) h1
  have h3 := Mem.wf_write (a + 2) (byteOf w 2) h2
  rw [Mem.read_write_other _ h3 (by omega), Mem.read_write_other _ h2 (by omega), Mem.read_write_other _ h1 (by omega),
    Mem.read_write_other _ h (by omega)]

end Sys2Proof.Machine
end

