-- ==== Sys2Proof/Laws/Kept.lean ====
section
/-! SUPPORT. What every operation of the model keeps: Tank's canonical form, the queue of waiting commands, the bound of the
log's staging queue between cycles, and the bound of the event ring. -/

namespace Sys2Proof.Machine

/-- A staging queue within its 64 entries, the 64th taken only by the LOG_DROP entry of a run of drops (R692, R693). -/
def StagedOk (st : List LogEntry) (dropRun : Bool) : Prop := st.length ≤ 63 ∨ (st.length ≤ 64 ∧ dropRun = true)

/-- A state of these parts keeps what state `s0` had: the canonical form, the waiting commands, a staging queue within its
bound, and at most 64 events. -/
def Kept (s0 : State) (mem : List Host.Cell) (pending : List Instr) (staged : List LogEntry) (dropRun : Bool)
    (events : List Event) : Prop :=
  (Mem.wf s0.mem = true → Mem.wf mem = true) ∧ pending = s0.pending
    ∧ (StagedOk s0.fixer.staged s0.fixer.dropRun → StagedOk staged dropRun)
    ∧ (s0.queue.events.length ≤ 64 → events.length ≤ 64)

/-- State `t` keeps what `s0` had. -/
abbrev KeptBy (s0 t : State) : Prop := Kept s0 t.mem t.pending t.fixer.staged t.fixer.dropRun t.queue.events

theorem kept_refl (s : State) : KeptBy s s := ⟨id, rfl, id, id⟩

theorem kept_ite {s0 a b : State} {c : Prop} [Decidable c] (ha : KeptBy s0 a) (hb : KeptBy s0 b) :
    KeptBy s0 (if c then a else b) := by
  split
  · exact ha
  · exact hb

theorem kept_foldl {α : Type} {s0 s : State} {f : State → α → State} {l : List α}
    (hf : ∀ t a, KeptBy s0 t → KeptBy s0 (f t a)) (h : KeptBy s0 s) : KeptBy s0 (l.foldl f s) := by
  induction l generalizing s with
  | nil => exact h
  | cons a l ih => exact ih (hf s a h)

theorem kept_foldl_fst {α β : Type} {s0 : State} {p : State × β} {f : State × β → α → State × β} {l : List α}
    (hf : ∀ q a, KeptBy s0 q.1 → KeptBy s0 (f q a).1) (h : KeptBy s0 p.1) : KeptBy s0 (l.foldl f p).1 := by
  induction l generalizing p with
  | nil => exact h
  | cons a l ih => exact ih (hf p a h)

/-- A local value of a meaning: what holds of it serves the rest. -/
theorem kept_cut {s0 x : State} {P : Prop} (hx : KeptBy s0 x) (h : KeptBy s0 x → P) : P := h hx

section
variable {s0 : State} {m : List Host.Cell} {p : List Instr} {st : List LogEntry} {dr : Bool} {ev : List Event}

theorem kept_write32 (a : Nat) (w : Word) (h : Kept s0 m p st dr ev) : Kept s0 (Mem.write32 m a w) p st dr ev :=
  ⟨fun h0 => Mem.wf_write32 a w (h.1 h0), h.2⟩

theorem kept_keep (q : Nat → Bool) (h : Kept s0 m p st dr ev) : Kept s0 (Mem.keep m q) p st dr ev :=
  ⟨fun h0 => Mem.wf_keep q (h.1 h0), h.2⟩

theorem kept_erase (a b : Nat) (h : Kept s0 m p st dr ev) : Kept s0 (Mem.erase m a b) p st dr ev :=
  ⟨fun h0 => Mem.wf_erase a b (h.1 h0), h.2⟩

theorem kept_no_mem (h : Kept s0 m p st dr ev) : Kept s0 [] p st dr ev := ⟨fun _ => rfl, h.2⟩

theorem kept_no_staged (h : Kept s0 m p st dr ev) (dr' : Bool) : Kept s0 m p [] dr' ev :=
  ⟨h.1, h.2.1, fun _ => .inl (by simp), h.2.2.2⟩

theorem kept_fewer_events {ev' : List Event} (h : Kept s0 m p st dr ev) (hl : ev'.length ≤ ev.length) : Kept s0 m p st dr ev' :=
  ⟨h.1, h.2.1, h.2.2.1, fun h0 => le_trans hl (h.2.2.2 h0)⟩

end

end Sys2Proof.Machine
end

