-- ==== Sys2Proof/Laws/KeptFlags.lean ====
section
/-! SUPPORT. Every operation of Machine/Flags.lean keeps what `Kept` says. -/

set_option linter.unusedTactic false
set_option linter.unreachableTactic false
set_option linter.tactic.unusedName false

namespace Sys2Proof.Machine

theorem State.kept_setReg {s0 s : State} (a1 : Nat) (a2 : Word) (h : KeptBy s0 s) : KeptBy s0 (State.setReg s a1 a2) := by
  unfold State.setReg
  repeat' (first
    | with_reducible assumption
    | (extract_lets +onlyGivenNames x
       first
         | (refine kept_cut (s0 := s0) (x := x) ?_ (fun _ => ?_); (focus unfold x); on_goal 2 => clear_value x)
         | ((first | have y : Queue := x | have y : Fixer := x); clear y; unfold x; clear x)
         | clear_value x))

theorem State.kept_setPair {s0 s : State} (a1 : Nat) (a2 : Word) (h : KeptBy s0 s) : KeptBy s0 (State.setPair s a1 a2) := by
  unfold State.setPair
  repeat' (first
    | with_reducible assumption
    | with_reducible apply State.kept_setReg
    | (extract_lets +onlyGivenNames x
       first
         | (refine kept_cut (s0 := s0) (x := x) ?_ (fun _ => ?_); (focus unfold x); on_goal 2 => clear_value x)
         | ((first | have y : Queue := x | have y : Fixer := x); clear y; unfold x; clear x)
         | clear_value x))

theorem State.kept_setFld {s0 s : State} (a1 : Nat) (a2 : Nat) (a3 : Nat) (a4 : Nat) (h : KeptBy s0 s) : KeptBy s0 (State.setFld s a1 a2 a3 a4) := by
  unfold State.setFld
  repeat' (first
    | with_reducible assumption
    | with_reducible apply State.kept_setReg)

theorem State.kept_countWrap {s0 s : State} (a1 : Nat) (h : KeptBy s0 s) : KeptBy s0 (State.countWrap s a1) := by
  unfold State.countWrap
  repeat' (first
    | with_reducible assumption
    | with_reducible apply State.kept_setReg)

theorem State.kept_countSat {s0 s : State} (a1 : Nat) (h : KeptBy s0 s) : KeptBy s0 (State.countSat s a1) := by
  unfold State.countSat
  repeat' (first
    | with_reducible assumption
    | with_reducible apply State.kept_setReg)

theorem State.kept_countSatN {s0 s : State} (a1 : Nat) (a2 : Nat) (h : KeptBy s0 s) : KeptBy s0 (State.countSatN s a1 a2) := by
  unfold State.countSatN
  repeat' (first
    | with_reducible assumption
    | with_reducible apply State.kept_setReg)

theorem State.kept_bumpSeq {s0 s : State} (a1 : Nat) (a2 : Half) (h : KeptBy s0 s) : KeptBy s0 (State.bumpSeq s a1 a2) := by
  unfold State.bumpSeq
  repeat' (first
    | with_reducible assumption
    | with_reducible apply State.kept_setReg
    | with_reducible apply kept_ite
    | (extract_lets +onlyGivenNames x
       first
         | (refine kept_cut (s0 := s0) (x := x) ?_ (fun _ => ?_); (focus unfold x); on_goal 2 => clear_value x)
         | ((first | have y : Queue := x | have y : Fixer := x); clear y; unfold x; clear x)
         | clear_value x)
    | split)

theorem State.kept_setFlags {s0 s : State} (a1 : Nat) (a2 : Half) (h : KeptBy s0 s) : KeptBy s0 (State.setFlags s a1 a2) := by
  unfold State.setFlags
  repeat' (first
    | with_reducible assumption
    | with_reducible apply State.kept_bumpSeq
    | with_reducible apply kept_ite
    | (extract_lets +onlyGivenNames x
       first
         | (refine kept_cut (s0 := s0) (x := x) ?_ (fun _ => ?_); (focus unfold x); on_goal 2 => clear_value x)
         | ((first | have y : Queue := x | have y : Fixer := x); clear y; unfold x; clear x)
         | clear_value x)
    | split)

theorem State.kept_setFlag {s0 s : State} (a1 : Nat) (a2 : Nat) (h : KeptBy s0 s) : KeptBy s0 (State.setFlag s a1 a2) := by
  unfold State.setFlag
  repeat' (first
    | with_reducible assumption
    | with_reducible apply State.kept_setFlags)

theorem State.kept_clearFlags {s0 s : State} (a1 : Nat) (a2 : Word) (h : KeptBy s0 s) : KeptBy s0 (State.clearFlags s a1 a2) := by
  unfold State.clearFlags
  repeat' (first
    | with_reducible assumption
    | with_reducible apply State.kept_setReg
    | with_reducible apply State.kept_bumpSeq
    | with_reducible apply kept_ite
    | (extract_lets +onlyGivenNames x
       first
         | (refine kept_cut (s0 := s0) (x := x) ?_ (fun _ => ?_); (focus unfold x); on_goal 2 => clear_value x)
         | ((first | have y : Queue := x | have y : Fixer := x); clear y; unfold x; clear x)
         | clear_value x)
    | split)

theorem State.kept_newFlagFrame {s0 s : State}  (h : KeptBy s0 s) : KeptBy s0 (State.newFlagFrame s) := by
  unfold State.newFlagFrame
  repeat' (first
    | with_reducible assumption
    | (extract_lets +onlyGivenNames x
       first
         | (refine kept_cut (s0 := s0) (x := x) ?_ (fun _ => ?_); (focus unfold x); on_goal 2 => clear_value x)
         | ((first | have y : Queue := x | have y : Fixer := x); clear y; unfold x; clear x)
         | clear_value x))

end Sys2Proof.Machine
end

