-- ==== Sys2Proof/Laws/KeptOps.lean ====
section
/-! SUPPORT. Every operation of Machine/Ops.lean keeps what `Kept` says. -/

set_option linter.unusedTactic false
set_option linter.unreachableTactic false
set_option linter.tactic.unusedName false

namespace Sys2Proof.Machine

theorem State.kept_modSd {s0 s : State} (a1 : Side) (a2 : LinkSide → LinkSide) (h : KeptBy s0 s) : KeptBy s0 (State.modSd s a1 a2) := by
  unfold State.modSd
  repeat' (first
    | with_reducible assumption
    | (extract_lets +onlyGivenNames x
       first
         | (refine kept_cut (s0 := s0) (x := x) ?_ (fun _ => ?_); (focus unfold x); on_goal 2 => clear_value x)
         | ((first | have y : Queue := x | have y : Fixer := x); clear y; unfold x; clear x)
         | clear_value x)
    | split)

theorem State.kept_modOut {s0 s : State} (a1 : Side) (a2 : OutSide → OutSide) (h : KeptBy s0 s) : KeptBy s0 (State.modOut s a1 a2) := by
  unfold State.modOut
  repeat' (first
    | with_reducible assumption
    | (extract_lets +onlyGivenNames x
       first
         | (refine kept_cut (s0 := s0) (x := x) ?_ (fun _ => ?_); (focus unfold x); on_goal 2 => clear_value x)
         | ((first | have y : Queue := x | have y : Fixer := x); clear y; unfold x; clear x)
         | clear_value x)
    | split)

theorem State.kept_freeWord {s0 s : State}  (h : KeptBy s0 s) : KeptBy s0 (State.freeWord s).2 := by
  unfold State.freeWord
  repeat' (first
    | with_reducible assumption
    | (extract_lets +onlyGivenNames x
       first
         | (refine kept_cut (s0 := s0) (x := x) ?_ (fun _ => ?_); (focus unfold x); on_goal 2 => clear_value x)
         | ((first | have y : Queue := x | have y : Fixer := x); clear y; unfold x; clear x)
         | clear_value x))

theorem State.kept_freeWord_eq {s0 s t : State}  {x : Word} (e : State.freeWord s = (x, t)) (h : KeptBy s0 s) : KeptBy s0 t := by
  have := State.kept_freeWord  h
  rwa [e] at this

theorem State.kept_raiseAt {s0 s : State} (a1 : Epoch) (a2 : Nat) (a3 : Nat) (a4 : Word) (a5 : Word) (h : KeptBy s0 s) : KeptBy s0 (State.raiseAt s a1 a2 a3 a4 a5) := by
  unfold State.raiseAt
  repeat' (first
    | with_reducible assumption
    | (extract_lets +onlyGivenNames x
       first
         | (refine kept_cut (s0 := s0) (x := x) ?_ (fun _ => ?_); (focus unfold x); on_goal 2 => clear_value x)
         | ((first | have y : Queue := x | have y : Fixer := x); clear y; unfold x; clear x)
         | clear_value x))

theorem State.kept_raise {s0 s : State} (a1 : Nat) (a2 : Nat) (a3 : Word := 0) (a4 : Word := 0) (h : KeptBy s0 s) : KeptBy s0 (State.raise s a1 a2 a3 a4) := by
  unfold State.raise
  repeat' (first
    | with_reducible assumption
    | with_reducible apply State.kept_raiseAt)

theorem State.kept_stageEntry {s0 s : State} (e : LogEntry) (h : KeptBy s0 s) : KeptBy s0 (State.stageEntry s e) := by
  unfold State.stageEntry
  split
  · rename_i hl
    exact ⟨h.1, h.2.1, fun _ => .inl (by simp only [List.length_append, List.length_singleton]; omega), h.2.2.2⟩
  · have h1 : KeptBy s0 (s.countSat Reg.FIXER_LOG_DROPS) := State.kept_countSat _ h
    revert h1
    generalize s.countSat Reg.FIXER_LOG_DROPS = s1
    intro h1
    dsimp only
    split
    · exact h1
    · rename_i hd
      have h2 : KeptBy s0 (s1.setFlag Reg.FIXER_FIXER_STATUS 1) := State.kept_setFlag _ _ h1
      have hs : (s1.setFlag Reg.FIXER_FIXER_STATUS 1).fixer = s1.fixer := by
        unfold State.setFlag State.setFlags
        dsimp only
        split <;> rfl
      refine ⟨h2.1, h2.2.1, fun h0 => .inr ⟨?_, rfl⟩, h2.2.2.2⟩
      simp only [hs, List.length_append, List.length_singleton]
      rcases h1.2.2.1 h0 with h3 | h3
      · omega
      · exact absurd h3.2 hd

theorem State.kept_endCycle {s0 s : State} (h : KeptBy s0 s) : KeptBy s0 (State.endCycle s) := by
  unfold State.endCycle
  extract_lets raised fx s1 s2
  have h1 : KeptBy s0 s1 := h
  clear_value s1
  have h2 : KeptBy s0 s2 := kept_foldl (fun _ _ ht => State.kept_stageEntry _ ht) h1
  exact h2

theorem State.kept_modHistory {s0 s : State} (a1 : Nat) (a2 : History → History) (h : KeptBy s0 s) : KeptBy s0 (State.modHistory s a1 a2) := by
  unfold State.modHistory
  repeat' (first
    | with_reducible assumption
    | (extract_lets +onlyGivenNames x
       first
         | (refine kept_cut (s0 := s0) (x := x) ?_ (fun _ => ?_); (focus unfold x); on_goal 2 => clear_value x)
         | ((first | have y : Queue := x | have y : Fixer := x); clear y; unfold x; clear x)
         | clear_value x))

theorem State.kept_fixerCountAt {s0 s : State} (a1 : Nat) (a2 : Epoch) (h : KeptBy s0 s) : KeptBy s0 (State.fixerCountAt s a1 a2).1 := by
  unfold State.fixerCountAt
  repeat' (first
    | with_reducible assumption
    | with_reducible apply State.kept_modHistory
    | with_reducible apply State.kept_setFlag
    | with_reducible apply State.kept_countSat
    | with_reducible apply State.kept_raiseAt
    | with_reducible apply kept_ite
    | (extract_lets +onlyGivenNames x
       first
         | (refine kept_cut (s0 := s0) (x := x) ?_ (fun _ => ?_); (focus unfold x); on_goal 2 => clear_value x)
         | ((first | have y : Queue := x | have y : Fixer := x); clear y; unfold x; clear x)
         | clear_value x)
    | split)

theorem State.kept_fixerCountAt_eq {s0 s t : State} (a1 : Nat) (a2 : Epoch) {x : Nat × Bool} (e : State.fixerCountAt s a1 a2 = (t, x)) (h : KeptBy s0 s) : KeptBy s0 t := by
  have := State.kept_fixerCountAt a1 a2 h
  rwa [e] at this

theorem State.kept_fixerCount {s0 s : State} (a1 : Nat) (h : KeptBy s0 s) : KeptBy s0 (State.fixerCount s a1).1 := by
  unfold State.fixerCount
  repeat' (first
    | with_reducible assumption
    | with_reducible apply State.kept_fixerCountAt
    | with_reducible refine State.kept_fixerCountAt_eq (by with_reducible assumption) ?_)

theorem State.kept_fixerCount_eq {s0 s t : State} (a1 : Nat) {x : Nat × Bool} (e : State.fixerCount s a1 = (t, x)) (h : KeptBy s0 s) : KeptBy s0 t := by
  have := State.kept_fixerCount a1 h
  rwa [e] at this

theorem State.kept_fixerReport {s0 s : State} (a1 : Nat) (h : KeptBy s0 s) : KeptBy s0 (State.fixerReport s a1) := by
  unfold State.fixerReport
  repeat' (first
    | with_reducible assumption
    | with_reducible apply State.kept_fixerCount
    | with_reducible refine State.kept_fixerCount_eq (by with_reducible assumption) ?_)

theorem State.kept_fixerRelease {s0 s : State} (a1 : Nat) (h : KeptBy s0 s) : KeptBy s0 (State.fixerRelease s a1) := by
  unfold State.fixerRelease
  repeat' (first
    | with_reducible assumption
    | with_reducible apply State.kept_modHistory
    | with_reducible apply kept_ite
    | (extract_lets +onlyGivenNames x
       first
         | (refine kept_cut (s0 := s0) (x := x) ?_ (fun _ => ?_); (focus unfold x); on_goal 2 => clear_value x)
         | ((first | have y : Queue := x | have y : Fixer := x); clear y; unfold x; clear x)
         | clear_value x)
    | split)

theorem State.kept_fixerEmpty {s0 s : State}  (h : KeptBy s0 s) : KeptBy s0 (State.fixerEmpty s) := by
  unfold State.fixerEmpty
  repeat' (first
    | with_reducible assumption
    | (extract_lets +onlyGivenNames x
       first
         | (refine kept_cut (s0 := s0) (x := x) ?_ (fun _ => ?_); (focus unfold x); on_goal 2 => clear_value x)
         | ((first | have y : Queue := x | have y : Fixer := x); clear y; unfold x; clear x)
         | clear_value x))

theorem State.kept_clockCount {s0 s : State}  (h : KeptBy s0 s) : KeptBy s0 (State.clockCount s) := by
  unfold State.clockCount
  repeat' (first
    | with_reducible assumption
    | with_reducible apply State.kept_fixerCount
    | with_reducible refine State.kept_fixerCount_eq (by with_reducible assumption) ?_
    | with_reducible apply State.kept_setFlag
    | with_reducible apply State.kept_raise
    | with_reducible apply kept_ite
    | (extract_lets +onlyGivenNames x
       first
         | (refine kept_cut (s0 := s0) (x := x) ?_ (fun _ => ?_); (focus unfold x); on_goal 2 => clear_value x)
         | ((first | have y : Queue := x | have y : Fixer := x); clear y; unfold x; clear x)
         | clear_value x)
    | split)

end Sys2Proof.Machine
end

