-- ==== Sys2Proof/Laws/KeptLink.lean ====
section
/-! SUPPORT. Every operation of Machine/Link.lean keeps what `Kept` says. -/

set_option linter.unusedTactic false
set_option linter.unreachableTactic false
set_option linter.tactic.unusedName false

namespace Sys2Proof.Machine

theorem State.kept_modFed {s0 s : State} (a1 : Side) (a2 : OutSide → OutSide) (h : KeptBy s0 s) : KeptBy s0 (State.modFed s a1 a2) := by
  unfold State.modFed
  repeat' (first
    | with_reducible assumption
    | with_reducible apply State.kept_modOut
    | with_reducible apply kept_ite
    | (extract_lets +onlyGivenNames x
       first
         | (refine kept_cut (s0 := s0) (x := x) ?_ (fun _ => ?_); (focus unfold x); on_goal 2 => clear_value x)
         | ((first | have y : Queue := x | have y : Fixer := x); clear y; unfold x; clear x)
         | clear_value x)
    | split)

theorem State.kept_forward {s0 s : State} (a1 : Side) (a2 : Nat) (a3 : OutSide → OutSide) (a4 : OutSide → OutSide) (h : KeptBy s0 s) : KeptBy s0 (State.forward s a1 a2 a3 a4) := by
  unfold State.forward
  repeat' (first
    | with_reducible assumption
    | with_reducible apply State.kept_modOut
    | with_reducible apply State.kept_modFed
    | with_reducible apply kept_ite
    | (extract_lets +onlyGivenNames x
       first
         | (refine kept_cut (s0 := s0) (x := x) ?_ (fun _ => ?_); (focus unfold x); on_goal 2 => clear_value x)
         | ((first | have y : Queue := x | have y : Fixer := x); clear y; unfold x; clear x)
         | clear_value x)
    | split)

theorem State.kept_voidOut {s0 s : State} (a1 : Side) (h : KeptBy s0 s) : KeptBy s0 (State.voidOut s a1) := by
  unfold State.voidOut
  repeat' (first
    | with_reducible assumption
    | with_reducible apply State.kept_modFed)

theorem State.kept_voidFill {s0 s : State} (a1 : Side) (a2 : List Bool) (h : KeptBy s0 s) : KeptBy s0 (State.voidFill s a1 a2) := by
  unfold State.voidFill
  repeat' (first
    | with_reducible assumption
    | with_reducible apply State.kept_modFed
    | with_reducible apply kept_ite
    | split)

theorem State.kept_forwardField {s0 s : State} (a1 : Side) (a2 : Nat) (a3 : OutSide → OutSide) (a4 : OutSide → OutSide) (h : KeptBy s0 s) : KeptBy s0 (State.forwardField s a1 a2 a3 a4) := by
  unfold State.forwardField
  repeat' (first
    | with_reducible assumption
    | with_reducible apply State.kept_forward
    | with_reducible apply State.kept_modOut
    | with_reducible apply kept_ite
    | (extract_lets +onlyGivenNames x
       first
         | (refine kept_cut (s0 := s0) (x := x) ?_ (fun _ => ?_); (focus unfold x); on_goal 2 => clear_value x)
         | ((first | have y : Queue := x | have y : Fixer := x); clear y; unfold x; clear x)
         | clear_value x)
    | split)

theorem State.kept_fawMissed {s0 s : State} (a1 : Side) (a2 : Bool) (h : KeptBy s0 s) : KeptBy s0 (State.fawMissed s a1 a2) := by
  unfold State.fawMissed
  repeat' (first
    | with_reducible assumption
    | with_reducible apply State.kept_countWrap
    | with_reducible apply State.kept_voidOut
    | with_reducible apply kept_ite
    | (extract_lets +onlyGivenNames x
       first
         | (refine kept_cut (s0 := s0) (x := x) ?_ (fun _ => ?_); (focus unfold x); on_goal 2 => clear_value x)
         | ((first | have y : Queue := x | have y : Fixer := x); clear y; unfold x; clear x)
         | clear_value x)
    | split)

theorem State.kept_outStart {s0 s : State} (a1 : Side) (a2 : FrameIn) (h : KeptBy s0 s) : KeptBy s0 (State.outStart s a1 a2) := by
  unfold State.outStart
  repeat' (first
    | with_reducible assumption
    | with_reducible apply State.kept_modOut
    | with_reducible apply State.kept_modFed
    | with_reducible apply kept_ite
    | (extract_lets +onlyGivenNames x
       first
         | (refine kept_cut (s0 := s0) (x := x) ?_ (fun _ => ?_); (focus unfold x); on_goal 2 => clear_value x)
         | ((first | have y : Queue := x | have y : Fixer := x); clear y; unfold x; clear x)
         | clear_value x)
    | split)

theorem State.kept_restoreOut {s0 s : State} (a1 : Side) (a2 : FrameIn) (h : KeptBy s0 s) : KeptBy s0 (State.restoreOut s a1 a2) := by
  unfold State.restoreOut
  repeat' (first
    | with_reducible assumption
    | with_reducible apply State.kept_modSd
    | (extract_lets +onlyGivenNames x
       first
         | (refine kept_cut (s0 := s0) (x := x) ?_ (fun _ => ?_); (focus unfold x); on_goal 2 => clear_value x)
         | ((first | have y : Queue := x | have y : Fixer := x); clear y; unfold x; clear x)
         | clear_value x))

theorem State.kept_linkFrameStart {s0 s : State} (a1 : Side) (a2 : FrameIn) (h : KeptBy s0 s) : KeptBy s0 (State.linkFrameStart s a1 a2) := by
  unfold State.linkFrameStart
  repeat' (first
    | with_reducible assumption
    | with_reducible apply State.kept_modSd
    | with_reducible apply State.kept_restoreOut
    | with_reducible apply State.kept_outStart
    | with_reducible apply State.kept_fawMissed
    | with_reducible apply kept_ite
    | (extract_lets +onlyGivenNames x
       first
         | (refine kept_cut (s0 := s0) (x := x) ?_ (fun _ => ?_); (focus unfold x); on_goal 2 => clear_value x)
         | ((first | have y : Queue := x | have y : Fixer := x); clear y; unfold x; clear x)
         | clear_value x)
    | split)

theorem State.kept_countProof {s0 s : State} (a1 : Side) (a2 : FrameIn) (h : KeptBy s0 s) : KeptBy s0 (State.countProof s a1 a2) := by
  unfold State.countProof
  repeat' (first
    | with_reducible assumption
    | with_reducible apply State.kept_countSatN
    | with_reducible apply kept_ite
    | (extract_lets +onlyGivenNames x
       first
         | (refine kept_cut (s0 := s0) (x := x) ?_ (fun _ => ?_); (focus unfold x); on_goal 2 => clear_value x)
         | ((first | have y : Queue := x | have y : Fixer := x); clear y; unfold x; clear x)
         | clear_value x)
    | split)

theorem State.kept_takeLock {s0 s : State} (a1 : Side) (a2 : Nat) (h : KeptBy s0 s) : KeptBy s0 (State.takeLock s a1 a2) := by
  unfold State.takeLock
  repeat' (first
    | with_reducible assumption
    | with_reducible apply State.kept_modSd
    | with_reducible apply State.kept_raise
    | with_reducible apply State.kept_setFlag
    | with_reducible apply kept_ite
    | (extract_lets +onlyGivenNames x
       first
         | (refine kept_cut (s0 := s0) (x := x) ?_ (fun _ => ?_); (focus unfold x); on_goal 2 => clear_value x)
         | ((first | have y : Queue := x | have y : Fixer := x); clear y; unfold x; clear x)
         | clear_value x)
    | split)

theorem State.kept_tryLock {s0 s : State} (a1 : Side) (a2 : Bool) (h : KeptBy s0 s) : KeptBy s0 (State.tryLock s a1 a2) := by
  unfold State.tryLock
  repeat' (first
    | with_reducible assumption
    | with_reducible apply State.kept_takeLock
    | with_reducible apply kept_ite
    | (extract_lets +onlyGivenNames x
       first
         | (refine kept_cut (s0 := s0) (x := x) ?_ (fun _ => ?_); (focus unfold x); on_goal 2 => clear_value x)
         | ((first | have y : Queue := x | have y : Fixer := x); clear y; unfold x; clear x)
         | clear_value x)
    | split)

theorem State.kept_dropLock {s0 s : State} (a1 : Side) (h : KeptBy s0 s) : KeptBy s0 (State.dropLock s a1) := by
  unfold State.dropLock
  repeat' (first
    | with_reducible assumption
    | with_reducible apply State.kept_modSd
    | (extract_lets +onlyGivenNames x
       first
         | (refine kept_cut (s0 := s0) (x := x) ?_ (fun _ => ?_); (focus unfold x); on_goal 2 => clear_value x)
         | ((first | have y : Queue := x | have y : Fixer := x); clear y; unfold x; clear x)
         | clear_value x))

theorem State.kept_clockLost {s0 s : State} (a1 : Side) (a2 : List Bool) (h : KeptBy s0 s) : KeptBy s0 (State.clockLost s a1 a2) := by
  unfold State.clockLost
  repeat' (first
    | with_reducible assumption
    | with_reducible apply State.kept_voidFill
    | with_reducible apply State.kept_modSd
    | with_reducible apply State.kept_setFlag
    | with_reducible apply kept_ite
    | (extract_lets +onlyGivenNames x
       first
         | (refine kept_cut (s0 := s0) (x := x) ?_ (fun _ => ?_); (focus unfold x); on_goal 2 => clear_value x)
         | ((first | have y : Queue := x | have y : Fixer := x); clear y; unfold x; clear x)
         | clear_value x)
    | split)

theorem State.kept_clockReturn {s0 s : State} (a1 : Side) (h : KeptBy s0 s) : KeptBy s0 (State.clockReturn s a1) := by
  unfold State.clockReturn
  repeat' (first
    | with_reducible assumption
    | with_reducible apply State.kept_modSd
    | (extract_lets +onlyGivenNames x
       first
         | (refine kept_cut (s0 := s0) (x := x) ?_ (fun _ => ?_); (focus unfold x); on_goal 2 => clear_value x)
         | ((first | have y : Queue := x | have y : Fixer := x); clear y; unfold x; clear x)
         | clear_value x)
    | split)

theorem State.kept_declareDown {s0 s : State} (a1 : Side) (a2 : Bool) (h : KeptBy s0 s) : KeptBy s0 (State.declareDown s a1 a2) := by
  unfold State.declareDown
  repeat' (first
    | with_reducible assumption
    | with_reducible apply State.kept_modSd
    | with_reducible apply State.kept_setFlag
    | with_reducible apply State.kept_raise
    | with_reducible apply State.kept_fixerReport
    | with_reducible apply kept_ite
    | (extract_lets +onlyGivenNames x
       first
         | (refine kept_cut (s0 := s0) (x := x) ?_ (fun _ => ?_); (focus unfold x); on_goal 2 => clear_value x)
         | ((first | have y : Queue := x | have y : Fixer := x); clear y; unfold x; clear x)
         | clear_value x)
    | split)

theorem State.kept_startWrap {s0 s : State} (a1 : Side) (h : KeptBy s0 s) : KeptBy s0 (State.startWrap s a1) := by
  unfold State.startWrap
  repeat' (first
    | with_reducible assumption
    | with_reducible apply State.kept_setFlag
    | with_reducible apply State.kept_countWrap
    | with_reducible apply State.kept_raise
    | (extract_lets +onlyGivenNames x
       first
         | (refine kept_cut (s0 := s0) (x := x) ?_ (fun _ => ?_); (focus unfold x); on_goal 2 => clear_value x)
         | ((first | have y : Queue := x | have y : Fixer := x); clear y; unfold x; clear x)
         | clear_value x))

theorem State.kept_endWrap {s0 s : State} (a1 : Side) (h : KeptBy s0 s) : KeptBy s0 (State.endWrap s a1) := by
  unfold State.endWrap
  repeat' (first
    | with_reducible assumption
    | with_reducible apply State.kept_modSd
    | with_reducible apply State.kept_setFlag
    | with_reducible apply State.kept_raise
    | (extract_lets +onlyGivenNames x
       first
         | (refine kept_cut (s0 := s0) (x := x) ?_ (fun _ => ?_); (focus unfold x); on_goal 2 => clear_value x)
         | ((first | have y : Queue := x | have y : Fixer := x); clear y; unfold x; clear x)
         | clear_value x))

theorem State.kept_setDelay {s0 s : State} (a1 : Nat) (a2 : Nat) (h : KeptBy s0 s) : KeptBy s0 (State.setDelay s a1 a2) := by
  unfold State.setDelay
  repeat' (first
    | with_reducible assumption
    | with_reducible apply State.kept_modSd
    | with_reducible apply kept_ite
    | (extract_lets +onlyGivenNames x
       first
         | (refine kept_cut (s0 := s0) (x := x) ?_ (fun _ => ?_); (focus unfold x); on_goal 2 => clear_value x)
         | ((first | have y : Queue := x | have y : Fixer := x); clear y; unfold x; clear x)
         | clear_value x)
    | split)

theorem State.kept_trackLane {s0 s : State} (a1 : Nat) (a2 : LaneMove) (h : KeptBy s0 s) : KeptBy s0 (State.trackLane s a1 a2) := by
  unfold State.trackLane
  repeat' (first
    | with_reducible assumption
    | with_reducible apply State.kept_setDelay
    | with_reducible apply State.kept_setFlag
    | with_reducible apply State.kept_raise
    | with_reducible apply kept_ite
    | (extract_lets +onlyGivenNames x
       first
         | (refine kept_cut (s0 := s0) (x := x) ?_ (fun _ => ?_); (focus unfold x); on_goal 2 => clear_value x)
         | ((first | have y : Queue := x | have y : Fixer := x); clear y; unfold x; clear x)
         | clear_value x)
    | split)

theorem State.kept_startTraining {s0 s : State}  (h : KeptBy s0 s) : KeptBy s0 (State.startTraining s) := by
  unfold State.startTraining
  repeat' (first
    | with_reducible assumption
    | (extract_lets +onlyGivenNames x
       first
         | (refine kept_cut (s0 := s0) (x := x) ?_ (fun _ => ?_); (focus unfold x); on_goal 2 => clear_value x)
         | ((first | have y : Queue := x | have y : Fixer := x); clear y; unfold x; clear x)
         | clear_value x))

theorem State.kept_scanLanes {s0 s : State} (a1 : Nat) (h : KeptBy s0 s) : KeptBy s0 (State.scanLanes s a1) := by
  unfold State.scanLanes
  repeat' (first
    | with_reducible assumption
    | intro _
    | with_reducible apply State.kept_setDelay
    | with_reducible apply kept_foldl
    | (extract_lets +onlyGivenNames x
       first
         | (refine kept_cut (s0 := s0) (x := x) ?_ (fun _ => ?_); (focus unfold x); on_goal 2 => clear_value x)
         | ((first | have y : Queue := x | have y : Fixer := x); clear y; unfold x; clear x)
         | clear_value x)
    | split)

theorem State.kept_trainFrame {s0 s : State} (a1 : Side) (a2 : FrameIn) (h : KeptBy s0 s) : KeptBy s0 (State.trainFrame s a1 a2) := by
  unfold State.trainFrame
  repeat' (first
    | with_reducible assumption
    | with_reducible apply kept_ite
    | (extract_lets +onlyGivenNames x
       first
         | (refine kept_cut (s0 := s0) (x := x) ?_ (fun _ => ?_); (focus unfold x); on_goal 2 => clear_value x)
         | ((first | have y : Queue := x | have y : Fixer := x); clear y; unfold x; clear x)
         | clear_value x)
    | split)

theorem State.kept_trainFail {s0 s : State} (a1 : Side) (a2 : Nat) (h : KeptBy s0 s) : KeptBy s0 (State.trainFail s a1 a2) := by
  unfold State.trainFail
  repeat' (first
    | with_reducible assumption
    | with_reducible apply State.kept_setFlag
    | with_reducible apply State.kept_raise
    | with_reducible apply State.kept_dropLock
    | (extract_lets +onlyGivenNames x
       first
         | (refine kept_cut (s0 := s0) (x := x) ?_ (fun _ => ?_); (focus unfold x); on_goal 2 => clear_value x)
         | ((first | have y : Queue := x | have y : Fixer := x); clear y; unfold x; clear x)
         | clear_value x))

theorem State.kept_trainCentre {s0 s : State} (a1 : Training) (h : KeptBy s0 s) : KeptBy s0 (State.trainCentre s a1) := by
  unfold State.trainCentre
  repeat' (first
    | with_reducible assumption
    | intro _
    | with_reducible apply State.kept_setDelay
    | with_reducible apply State.kept_trainFail
    | with_reducible apply kept_ite
    | with_reducible apply kept_foldl
    | (extract_lets +onlyGivenNames x
       first
         | (refine kept_cut (s0 := s0) (x := x) ?_ (fun _ => ?_); (focus unfold x); on_goal 2 => clear_value x)
         | ((first | have y : Queue := x | have y : Fixer := x); clear y; unfold x; clear x)
         | clear_value x)
    | split)

theorem State.kept_trainEndSide {s0 s : State} (a1 : Training) (a2 : Side) (h : KeptBy s0 s) : KeptBy s0 (State.trainEndSide s a1 a2) := by
  unfold State.trainEndSide
  repeat' (first
    | with_reducible assumption
    | with_reducible apply State.kept_trainFail
    | with_reducible apply State.kept_takeLock
    | with_reducible apply kept_ite
    | (extract_lets +onlyGivenNames x
       first
         | (refine kept_cut (s0 := s0) (x := x) ?_ (fun _ => ?_); (focus unfold x); on_goal 2 => clear_value x)
         | ((first | have y : Queue := x | have y : Fixer := x); clear y; unfold x; clear x)
         | clear_value x)
    | split)

theorem State.kept_startLoop {s0 s : State}  (h : KeptBy s0 s) : KeptBy s0 (State.startLoop s) := by
  unfold State.startLoop
  repeat' (first
    | with_reducible assumption
    | with_reducible apply State.kept_setReg
    | with_reducible apply State.kept_setPair
    | with_reducible apply kept_ite
    | (extract_lets +onlyGivenNames x
       first
         | (refine kept_cut (s0 := s0) (x := x) ?_ (fun _ => ?_); (focus unfold x); on_goal 2 => clear_value x)
         | ((first | have y : Queue := x | have y : Fixer := x); clear y; unfold x; clear x)
         | clear_value x)
    | split)

theorem State.kept_endLoop {s0 s : State}  (h : KeptBy s0 s) : KeptBy s0 (State.endLoop s) := by
  unfold State.endLoop
  repeat' (first
    | with_reducible assumption
    | with_reducible apply State.kept_dropLock
    | with_reducible apply kept_ite
    | (extract_lets +onlyGivenNames x
       first
         | (refine kept_cut (s0 := s0) (x := x) ?_ (fun _ => ?_); (focus unfold x); on_goal 2 => clear_value x)
         | ((first | have y : Queue := x | have y : Fixer := x); clear y; unfold x; clear x)
         | clear_value x)
    | split)

end Sys2Proof.Machine
end

