-- ==== Sys2Proof/Laws/KeptHeader.lean ====
section
/-! SUPPORT. Every operation of Machine/Header.lean keeps what `Kept` says. -/

set_option linter.unusedTactic false
set_option linter.unreachableTactic false
set_option linter.tactic.unusedName false

namespace Sys2Proof.Machine

theorem State.kept_checkFailed {s0 s : State} (a1 : Side) (a2 : Nat) (h : KeptBy s0 s) : KeptBy s0 (State.checkFailed s a1 a2) := by
  unfold State.checkFailed
  repeat' (first
    | with_reducible assumption
    | with_reducible apply State.kept_setFlag
    | with_reducible apply State.kept_countWrap)

theorem State.kept_takePosition {s0 s : State} (a1 : Nat) (h : KeptBy s0 s) : KeptBy s0 (State.takePosition s a1) := by
  unfold State.takePosition
  repeat' (first
    | with_reducible assumption
    | with_reducible apply State.kept_setFlag
    | with_reducible apply kept_ite
    | (extract_lets +onlyGivenNames x
       first
         | (refine kept_cut (s0 := s0) (x := x) ?_ (fun _ => ?_); (focus unfold x); on_goal 2 => clear_value x)
         | ((first | have y : Queue := x | have y : Fixer := x); clear y; unfold x; clear x)
         | clear_value x)
    | split)

theorem State.kept_waveA {s0 s : State} (a1 : Nat) (h : KeptBy s0 s) : KeptBy s0 (State.waveA s a1).1 := by
  unfold State.waveA
  repeat' (first
    | with_reducible assumption
    | with_reducible apply State.kept_setFlag
    | with_reducible apply State.kept_takePosition
    | with_reducible apply kept_ite
    | (extract_lets +onlyGivenNames x
       first
         | (refine kept_cut (s0 := s0) (x := x) ?_ (fun _ => ?_); (focus unfold x); on_goal 2 => clear_value x)
         | ((first | have y : Queue := x | have y : Fixer := x); clear y; unfold x; clear x)
         | clear_value x)
    | split)

theorem State.kept_waveA_eq {s0 s t : State} (a1 : Nat) {x : Nat} (e : State.waveA s a1 = (t, x)) (h : KeptBy s0 s) : KeptBy s0 t := by
  have := State.kept_waveA a1 h
  rwa [e] at this

theorem State.kept_waveB {s0 s : State} (a1 : Nat) (h : KeptBy s0 s) : KeptBy s0 (State.waveB s a1).1 := by
  unfold State.waveB
  repeat' (first
    | with_reducible assumption
    | with_reducible apply State.kept_takePosition
    | with_reducible apply kept_ite
    | (extract_lets +onlyGivenNames x
       first
         | (refine kept_cut (s0 := s0) (x := x) ?_ (fun _ => ?_); (focus unfold x); on_goal 2 => clear_value x)
         | ((first | have y : Queue := x | have y : Fixer := x); clear y; unfold x; clear x)
         | clear_value x)
    | split)

theorem State.kept_waveB_eq {s0 s t : State} (a1 : Nat) {x : Nat} (e : State.waveB s a1 = (t, x)) (h : KeptBy s0 s) : KeptBy s0 t := by
  have := State.kept_waveB a1 h
  rwa [e] at this

theorem State.kept_enumerate {s0 s : State} (a1 : Side) (a2 : BitVec 416) (h : KeptBy s0 s) : KeptBy s0 (State.enumerate s a1 a2).1 := by
  unfold State.enumerate
  repeat' (first
    | with_reducible assumption
    | with_reducible apply State.kept_waveA
    | with_reducible refine State.kept_waveA_eq (by with_reducible assumption) ?_
    | with_reducible apply State.kept_waveB
    | with_reducible refine State.kept_waveB_eq (by with_reducible assumption) ?_
    | with_reducible apply kept_ite
    | (extract_lets +onlyGivenNames x
       first
         | (refine kept_cut (s0 := s0) (x := x) ?_ (fun _ => ?_); (focus unfold x); on_goal 2 => clear_value x)
         | ((first | have y : Queue := x | have y : Fixer := x); clear y; unfold x; clear x)
         | clear_value x)
    | split)

theorem State.kept_enumerate_eq {s0 s t : State} (a1 : Side) (a2 : BitVec 416) {x : BitVec 416} (e : State.enumerate s a1 a2 = (t, x)) (h : KeptBy s0 s) : KeptBy s0 t := by
  have := State.kept_enumerate a1 a2 h
  rwa [e] at this

theorem State.kept_forwardHeader {s0 s : State} (a1 : Side) (a2 : BitVec 416) (a3 : BitVec 416) (a4 : Bool) (h : KeptBy s0 s) : KeptBy s0 (State.forwardHeader s a1 a2 a3 a4) := by
  unfold State.forwardHeader
  repeat' (first
    | with_reducible assumption
    | with_reducible apply State.kept_forward
    | with_reducible apply State.kept_modOut
    | with_reducible apply kept_ite
    | (extract_lets +onlyGivenNames x
       first
         | (refine kept_cut (s0 := s0) (x := x) ?_ (fun _ => ?_); (focus unfold x); on_goal 2 => clear_value x)
         | ((first | have y : Queue := x | have y : Fixer := x); clear y; unfold x; clear x)
         | clear_value x)
    | split)

theorem State.kept_classEpoch {s0 s : State} (a1 : ClassSeen) (h : KeptBy s0 s) : KeptBy s0 (State.classEpoch s a1) := by
  unfold State.classEpoch
  repeat' (first
    | with_reducible assumption
    | with_reducible apply State.kept_raiseAt
    | with_reducible apply kept_ite
    | (extract_lets +onlyGivenNames x
       first
         | (refine kept_cut (s0 := s0) (x := x) ?_ (fun _ => ?_); (focus unfold x); on_goal 2 => clear_value x)
         | ((first | have y : Queue := x | have y : Fixer := x); clear y; unfold x; clear x)
         | clear_value x)
    | split)

theorem State.kept_settleClasses {s0 s : State} (l : List ClassSeen) (h : KeptBy s0 s) : KeptBy s0 (State.settleClasses s l) := by
  induction l generalizing s with
  | nil => exact h
  | cons c l ih =>
    unfold State.settleClasses
    split
    · exact ih (State.kept_classEpoch _ h)
    · exact h

theorem State.kept_classRun {s0 s : State} (a1 : Side) (a2 : Epoch32) (a3 : BitVec 64) (h : KeptBy s0 s) : KeptBy s0 (State.classRun s a1 a2 a3) := by
  unfold State.classRun
  repeat' (first
    | with_reducible assumption
    | with_reducible apply State.kept_setFlag
    | with_reducible apply State.kept_settleClasses
    | with_reducible apply kept_ite
    | (extract_lets +onlyGivenNames x
       first
         | (refine kept_cut (s0 := s0) (x := x) ?_ (fun _ => ?_); (focus unfold x); on_goal 2 => clear_value x)
         | ((first | have y : Queue := x | have y : Fixer := x); clear y; unfold x; clear x)
         | clear_value x)
    | split)

theorem State.kept_measureSkew {s0 s : State} (a1 : Side) (a2 : Epoch32) (a3 : BitVec 24) (h : KeptBy s0 s) : KeptBy s0 (State.measureSkew s a1 a2 a3) := by
  unfold State.measureSkew
  repeat' (first
    | with_reducible assumption
    | with_reducible apply kept_ite
    | (extract_lets +onlyGivenNames x
       first
         | (refine kept_cut (s0 := s0) (x := x) ?_ (fun _ => ?_); (focus unfold x); on_goal 2 => clear_value x)
         | ((first | have y : Queue := x | have y : Fixer := x); clear y; unfold x; clear x)
         | clear_value x)
    | split)

theorem State.kept_noteEarly {s0 s : State} (a1 : Side) (h : KeptBy s0 s) : KeptBy s0 (State.noteEarly s a1) := by
  unfold State.noteEarly
  repeat' (first
    | with_reducible assumption
    | (extract_lets +onlyGivenNames x
       first
         | (refine kept_cut (s0 := s0) (x := x) ?_ (fun _ => ?_); (focus unfold x); on_goal 2 => clear_value x)
         | ((first | have y : Queue := x | have y : Fixer := x); clear y; unfold x; clear x)
         | clear_value x))

theorem State.kept_linkHeader {s0 s : State} (a1 : Side) (a2 : BitVec 416) (a3 : BitVec 24) (h : KeptBy s0 s) : KeptBy s0 (State.linkHeader s a1 a2 a3).1 := by
  unfold State.linkHeader
  repeat' (first
    | with_reducible assumption
    | with_reducible apply State.kept_modSd
    | with_reducible apply State.kept_setFlag
    | with_reducible apply State.kept_countWrap
    | with_reducible apply State.kept_checkFailed
    | with_reducible apply State.kept_tryLock
    | with_reducible apply State.kept_enumerate
    | with_reducible refine State.kept_enumerate_eq (by with_reducible assumption) ?_
    | with_reducible apply State.kept_forwardHeader
    | with_reducible apply State.kept_classRun
    | with_reducible apply State.kept_measureSkew
    | with_reducible apply kept_ite
    | (extract_lets +onlyGivenNames x
       first
         | (refine kept_cut (s0 := s0) (x := x) ?_ (fun _ => ?_); (focus unfold x); on_goal 2 => clear_value x)
         | ((first | have y : Queue := x | have y : Fixer := x); clear y; unfold x; clear x)
         | clear_value x)
    | split)

theorem State.kept_linkHeader_eq {s0 s t : State} (a1 : Side) (a2 : BitVec 416) (a3 : BitVec 24) {x : Bool} (e : State.linkHeader s a1 a2 a3 = (t, x)) (h : KeptBy s0 s) : KeptBy s0 t := by
  have := State.kept_linkHeader a1 a2 a3 h
  rwa [e] at this

theorem State.kept_rekey {s0 s : State} (a1 : Epoch32) (a2 : Epoch32) (a3 : Bool) (h : KeptBy s0 s) : KeptBy s0 (State.rekey s a1 a2 a3) := by
  unfold State.rekey
  repeat' (first
    | with_reducible assumption
    | with_reducible apply kept_ite
    | (extract_lets +onlyGivenNames x
       first
         | (refine kept_cut (s0 := s0) (x := x) ?_ (fun _ => ?_); (focus unfold x); on_goal 2 => clear_value x)
         | ((first | have y : Queue := x | have y : Fixer := x); clear y; unfold x; clear x)
         | clear_value x)
    | split)

theorem State.kept_shiftStages {s0 s : State} (a1 : Epoch) (h : KeptBy s0 s) : KeptBy s0 (State.shiftStages s a1) := by
  unfold State.shiftStages
  repeat' (first
    | with_reducible assumption
    | (extract_lets +onlyGivenNames x
       first
         | (refine kept_cut (s0 := s0) (x := x) ?_ (fun _ => ?_); (focus unfold x); on_goal 2 => clear_value x)
         | ((first | have y : Queue := x | have y : Fixer := x); clear y; unfold x; clear x)
         | clear_value x))

theorem State.kept_adopt {s0 s : State} (a1 : Epoch32) (a2 : Bool := false) (h : KeptBy s0 s) : KeptBy s0 (State.adopt s a1 a2) := by
  unfold State.adopt
  repeat' (first
    | with_reducible assumption
    | with_reducible apply State.kept_forward
    | with_reducible apply State.kept_rekey
    | with_reducible apply State.kept_shiftStages
    | with_reducible apply State.kept_setFlag
    | with_reducible apply kept_ite
    | (extract_lets +onlyGivenNames x
       first
         | (refine kept_cut (s0 := s0) (x := x) ?_ (fun _ => ?_); (focus unfold x); on_goal 2 => clear_value x)
         | ((first | have y : Queue := x | have y : Fixer := x); clear y; unfold x; clear x)
         | clear_value x)
    | split)

theorem State.kept_advanceEpoch {s0 s : State}  (h : KeptBy s0 s) : KeptBy s0 (State.advanceEpoch s) := by
  unfold State.advanceEpoch
  repeat' (first
    | with_reducible assumption
    | with_reducible apply State.kept_setFlag
    | with_reducible apply kept_ite
    | (extract_lets +onlyGivenNames x
       first
         | (refine kept_cut (s0 := s0) (x := x) ?_ (fun _ => ?_); (focus unfold x); on_goal 2 => clear_value x)
         | ((first | have y : Queue := x | have y : Fixer := x); clear y; unfold x; clear x)
         | clear_value x)
    | split)

theorem State.kept_recordGap {s0 s : State} (a1 : Nat) (a2 : Epoch32) (h : KeptBy s0 s) : KeptBy s0 (State.recordGap s a1 a2) := by
  unfold State.recordGap
  repeat' (first
    | with_reducible assumption
    | with_reducible apply State.kept_setReg
    | with_reducible apply State.kept_countWrap
    | with_reducible apply State.kept_setFlag
    | with_reducible apply State.kept_raise
    | (extract_lets +onlyGivenNames x
       first
         | (refine kept_cut (s0 := s0) (x := x) ?_ (fun _ => ?_); (focus unfold x); on_goal 2 => clear_value x)
         | ((first | have y : Queue := x | have y : Fixer := x); clear y; unfold x; clear x)
         | clear_value x))

theorem State.kept_recordBack {s0 s : State} (a1 : Nat) (h : KeptBy s0 s) : KeptBy s0 (State.recordBack s a1) := by
  unfold State.recordBack
  repeat' (first
    | with_reducible assumption
    | with_reducible apply State.kept_setFlag
    | with_reducible apply State.kept_raise
    | with_reducible apply State.kept_fixerEmpty
    | with_reducible apply State.kept_clockCount
    | (extract_lets +onlyGivenNames x
       first
         | (refine kept_cut (s0 := s0) (x := x) ?_ (fun _ => ?_); (focus unfold x); on_goal 2 => clear_value x)
         | ((first | have y : Queue := x | have y : Fixer := x); clear y; unfold x; clear x)
         | clear_value x))

theorem State.kept_beginFault {s0 s : State} (a1 : Nat) (h : KeptBy s0 s) : KeptBy s0 (State.beginFault s a1) := by
  unfold State.beginFault
  repeat' (first
    | with_reducible assumption
    | with_reducible apply State.kept_setFlag
    | with_reducible apply State.kept_countWrap
    | with_reducible apply State.kept_raise
    | with_reducible apply State.kept_clockCount
    | with_reducible apply kept_ite
    | (extract_lets +onlyGivenNames x
       first
         | (refine kept_cut (s0 := s0) (x := x) ?_ (fun _ => ?_); (focus unfold x); on_goal 2 => clear_value x)
         | ((first | have y : Queue := x | have y : Fixer := x); clear y; unfold x; clear x)
         | clear_value x)
    | split)

theorem State.kept_clockFrameStart {s0 s : State} (a1 : FrameIn) (a2 : Bool) (a3 : Bool) (h : KeptBy s0 s) : KeptBy s0 (State.clockFrameStart s a1 a2 a3) := by
  unfold State.clockFrameStart
  repeat' (first
    | with_reducible assumption
    | with_reducible apply State.kept_beginFault
    | with_reducible apply State.kept_setFlag
    | with_reducible apply State.kept_raise
    | with_reducible apply kept_ite
    | (extract_lets +onlyGivenNames x
       first
         | (refine kept_cut (s0 := s0) (x := x) ?_ (fun _ => ?_); (focus unfold x); on_goal 2 => clear_value x)
         | ((first | have y : Queue := x | have y : Fixer := x); clear y; unfold x; clear x)
         | clear_value x)
    | split)

theorem State.kept_endFault {s0 s : State}  (h : KeptBy s0 s) : KeptBy s0 (State.endFault s) := by
  unfold State.endFault
  repeat' (first
    | with_reducible assumption
    | (extract_lets +onlyGivenNames x
       first
         | (refine kept_cut (s0 := s0) (x := x) ?_ (fun _ => ?_); (focus unfold x); on_goal 2 => clear_value x)
         | ((first | have y : Queue := x | have y : Fixer := x); clear y; unfold x; clear x)
         | clear_value x))

end Sys2Proof.Machine
end

