-- ==== Sys2Proof/Laws/KeptTankMap.lean ====
section
/-! SUPPORT. Every operation of Machine/TankMap.lean keeps what `Kept` says. -/

set_option linter.unusedTactic false
set_option linter.unreachableTactic false
set_option linter.tactic.unusedName false

namespace Sys2Proof.Machine

theorem State.kept_eccEntry {s0 s : State} (a1 : Nat) (a2 : Nat) (a3 : Nat) (a4 : Nat) (h : KeptBy s0 s) : KeptBy s0 (State.eccEntry s a1 a2 a3 a4) := by
  unfold State.eccEntry
  repeat' (first
    | with_reducible assumption
    | with_reducible apply State.kept_raise)

theorem State.kept_noteCe {s0 s : State} (a1 : Nat) (a2 : Nat) (a3 : Nat) (h : KeptBy s0 s) : KeptBy s0 (State.noteCe s a1 a2 a3) := by
  unfold State.noteCe
  repeat' (first
    | with_reducible assumption
    | with_reducible apply State.kept_countSat
    | with_reducible apply State.kept_setReg
    | with_reducible apply State.kept_setFlag
    | with_reducible apply State.kept_eccEntry
    | with_reducible apply kept_ite
    | (extract_lets +onlyGivenNames x
       first
         | (refine kept_cut (s0 := s0) (x := x) ?_ (fun _ => ?_); (focus unfold x); on_goal 2 => clear_value x)
         | ((first | have y : Queue := x | have y : Fixer := x); clear y; unfold x; clear x)
         | clear_value x)
    | split)

theorem State.kept_noteUe {s0 s : State} (a1 : Nat) (a2 : Nat) (a3 : Nat) (h : KeptBy s0 s) : KeptBy s0 (State.noteUe s a1 a2 a3) := by
  unfold State.noteUe
  repeat' (first
    | with_reducible assumption
    | with_reducible apply State.kept_countSat
    | with_reducible apply State.kept_setReg
    | with_reducible apply State.kept_setFlag
    | with_reducible apply State.kept_eccEntry
    | with_reducible apply State.kept_fixerReport
    | (extract_lets +onlyGivenNames x
       first
         | (refine kept_cut (s0 := s0) (x := x) ?_ (fun _ => ?_); (focus unfold x); on_goal 2 => clear_value x)
         | ((first | have y : Queue := x | have y : Fixer := x); clear y; unfold x; clear x)
         | clear_value x))

theorem State.kept_eccClear {s0 s : State} (a1 : Nat) (a2 : Nat) (h : KeptBy s0 s) : KeptBy s0 (State.eccClear s a1 a2) := by
  unfold State.eccClear
  repeat' (first
    | with_reducible assumption
    | (extract_lets +onlyGivenNames x
       first
         | (refine kept_cut (s0 := s0) (x := x) ?_ (fun _ => ?_); (focus unfold x); on_goal 2 => clear_value x)
         | ((first | have y : Queue := x | have y : Fixer := x); clear y; unfold x; clear x)
         | clear_value x))

theorem State.kept_eccRead {s0 s : State} (a1 : Nat) (a2 : Nat) (a3 : Nat) (h : KeptBy s0 s) : KeptBy s0 (State.eccRead s a1 a2 a3).1 := by
  unfold State.eccRead
  repeat' (first
    | with_reducible assumption
    | with_reducible apply State.kept_noteCe
    | with_reducible apply State.kept_noteUe
    | (extract_lets +onlyGivenNames x
       first
         | (refine kept_cut (s0 := s0) (x := x) ?_ (fun _ => ?_); (focus unfold x); on_goal 2 => clear_value x)
         | ((first | have y : Queue := x | have y : Fixer := x); clear y; unfold x; clear x)
         | clear_value x)
    | split)

theorem State.kept_eccRead_eq {s0 s t : State} (a1 : Nat) (a2 : Nat) (a3 : Nat) {x : Bool} (e : State.eccRead s a1 a2 a3 = (t, x)) (h : KeptBy s0 s) : KeptBy s0 t := by
  have := State.kept_eccRead a1 a2 a3 h
  rwa [e] at this

theorem State.kept_fogNext {s0 s : State}  (h : KeptBy s0 s) : KeptBy s0 (State.fogNext s) := by
  unfold State.fogNext
  repeat' (first
    | with_reducible assumption
    | with_reducible apply State.kept_countWrap
    | with_reducible apply State.kept_setFlag
    | with_reducible apply kept_ite
    | (extract_lets +onlyGivenNames x
       first
         | (refine kept_cut (s0 := s0) (x := x) ?_ (fun _ => ?_); (focus unfold x); on_goal 2 => clear_value x)
         | ((first | have y : Queue := x | have y : Fixer := x); clear y; unfold x; clear x)
         | clear_value x)
    | split)

theorem State.kept_fogRestore {s0 s : State}  (h : KeptBy s0 s) : KeptBy s0 (State.fogRestore s) := by
  unfold State.fogRestore
  repeat' (first
    | with_reducible assumption
    | (extract_lets +onlyGivenNames x
       first
         | (refine kept_cut (s0 := s0) (x := x) ?_ (fun _ => ?_); (focus unfold x); on_goal 2 => clear_value x)
         | ((first | have y : Queue := x | have y : Fixer := x); clear y; unfold x; clear x)
         | clear_value x))

theorem State.kept_fogSkip {s0 s : State} (a1 : Nat) (h : KeptBy s0 s) : KeptBy s0 (State.fogSkip s a1) := by
  unfold State.fogSkip
  repeat' (first
    | with_reducible assumption
    | with_reducible apply State.kept_countSat
    | with_reducible apply State.kept_raise
    | with_reducible apply State.kept_fogNext
    | (extract_lets +onlyGivenNames x
       first
         | (refine kept_cut (s0 := s0) (x := x) ?_ (fun _ => ?_); (focus unfold x); on_goal 2 => clear_value x)
         | ((first | have y : Queue := x | have y : Fixer := x); clear y; unfold x; clear x)
         | clear_value x))

theorem State.kept_fogAbort {s0 s : State}  (h : KeptBy s0 s) : KeptBy s0 (State.fogAbort s) := by
  unfold State.fogAbort
  repeat' (first
    | with_reducible assumption
    | with_reducible apply State.kept_fogRestore
    | with_reducible apply State.kept_fogSkip
    | with_reducible apply kept_ite
    | (extract_lets +onlyGivenNames x
       first
         | (refine kept_cut (s0 := s0) (x := x) ?_ (fun _ => ?_); (focus unfold x); on_goal 2 => clear_value x)
         | ((first | have y : Queue := x | have y : Fixer := x); clear y; unfold x; clear x)
         | clear_value x)
    | split)

theorem State.kept_fogYield {s0 s : State} (a1 : Nat) (h : KeptBy s0 s) : KeptBy s0 (State.fogYield s a1) := by
  unfold State.fogYield
  repeat' (first
    | with_reducible assumption
    | with_reducible apply State.kept_fogAbort
    | with_reducible apply kept_ite
    | split)

theorem State.kept_fogReads {s0 s : State} (a1 : List Nat) (h : KeptBy s0 s) : KeptBy s0 (State.fogReads s a1) := by
  unfold State.fogReads
  repeat' (first
    | with_reducible assumption
    | intro _
    | with_reducible apply State.kept_fogYield
    | with_reducible apply kept_foldl)

theorem State.kept_fogSpan {s0 s : State} (a1 : Nat) (a2 : Nat) (h : KeptBy s0 s) : KeptBy s0 (State.fogSpan s a1 a2) := by
  unfold State.fogSpan
  repeat' (first
    | with_reducible assumption
    | with_reducible apply State.kept_fogAbort
    | with_reducible apply kept_ite
    | split)

theorem State.kept_ringWrite {s0 s : State} (w : Nat) (v : Word) (h : KeptBy s0 s) : KeptBy s0 (State.ringWrite s w v) := by
  unfold State.ringWrite
  exact kept_ite h (kept_ite h (kept_ite h (kept_fewer_events h (List.length_map _).le)))

theorem State.kept_putWord {s0 s : State} (a1 : Nat) (a2 : Word) (h : KeptBy s0 s) : KeptBy s0 (State.putWord s a1 a2) := by
  unfold State.putWord
  repeat' (first
    | with_reducible assumption
    | with_reducible apply State.kept_ringWrite
    | (extract_lets +onlyGivenNames x
       first
         | (refine kept_cut (s0 := s0) (x := x) ?_ (fun _ => ?_); (focus unfold x); on_goal 2 => clear_value x)
         | ((first | have y : Queue := x | have y : Fixer := x); clear y; unfold x; clear x)
         | clear_value x)
    | with_reducible apply kept_write32
    | with_reducible apply kept_keep
    | with_reducible apply kept_erase)

theorem State.kept_storeLane {s0 s : State} (a1 : Nat) (a2 : Nat) (a3 : Word) (h : KeptBy s0 s) : KeptBy s0 (State.storeLane s a1 a2 a3) := by
  unfold State.storeLane
  repeat' (first
    | with_reducible assumption
    | with_reducible apply State.kept_fogYield
    | with_reducible apply State.kept_eccRead
    | with_reducible refine State.kept_eccRead_eq (by with_reducible assumption) ?_
    | with_reducible apply State.kept_eccClear
    | with_reducible apply State.kept_putWord
    | with_reducible apply kept_ite
    | (extract_lets +onlyGivenNames x
       first
         | (refine kept_cut (s0 := s0) (x := x) ?_ (fun _ => ?_); (focus unfold x); on_goal 2 => clear_value x)
         | ((first | have y : Queue := x | have y : Fixer := x); clear y; unfold x; clear x)
         | clear_value x)
    | with_reducible apply kept_write32
    | with_reducible apply kept_keep
    | with_reducible apply kept_erase
    | split)

theorem State.kept_setTank {s0 s : State} (a1 : Nat) (a2 : Word) (h : KeptBy s0 s) : KeptBy s0 (State.setTank s a1 a2) := by
  unfold State.setTank
  repeat' (first
    | with_reducible assumption
    | with_reducible apply State.kept_storeLane)

theorem State.kept_setLanes {s0 s : State} (w : Nat) (vs : List Word) (h : KeptBy s0 s) :
    KeptBy s0 (State.setLanes s w vs) := by
  induction vs generalizing s w with
  | nil => exact h
  | cons v vs ih => exact ih _ (State.kept_setTank _ _ h)

theorem State.kept_freshGroups {s0 s : State} (a1 : Nat) (a2 : Nat) (h : KeptBy s0 s) : KeptBy s0 (State.freshGroups s a1 a2) := by
  unfold State.freshGroups
  repeat' (first
    | with_reducible assumption
    | (extract_lets +onlyGivenNames x
       first
         | (refine kept_cut (s0 := s0) (x := x) ?_ (fun _ => ?_); (focus unfold x); on_goal 2 => clear_value x)
         | ((first | have y : Queue := x | have y : Fixer := x); clear y; unfold x; clear x)
         | clear_value x))

theorem State.kept_setTankWords {s0 s : State} (a1 : Nat) (a2 : List Word) (h : KeptBy s0 s) : KeptBy s0 (State.setTankWords s a1 a2) := by
  unfold State.setTankWords
  repeat' (first
    | with_reducible assumption
    | with_reducible apply State.kept_freshGroups
    | with_reducible apply State.kept_setLanes)

end Sys2Proof.Machine
end

