-- ==== Sys2Proof/Laws/KeptRings.lean ====
section
/-! SUPPORT. Every operation of Machine/Rings.lean keeps what `Kept` says. -/

set_option linter.unusedTactic false
set_option linter.unreachableTactic false
set_option linter.tactic.unusedName false

namespace Sys2Proof.Machine

theorem State.kept_judgeCheck {s0 s : State} (a1 : Side) (a2 : Nat) (a3 : Bool) (h : KeptBy s0 s) : KeptBy s0 (State.judgeCheck s a1 a2 a3) := by
  unfold State.judgeCheck
  repeat' (first
    | with_reducible assumption
    | with_reducible apply State.kept_checkFailed
    | with_reducible apply kept_ite
    | split)

theorem State.kept_captureShow {s0 s : State} (a1 : Side) (a2 : List Sample) (a3 : Word) (h : KeptBy s0 s) : KeptBy s0 (State.captureShow s a1 a2 a3) := by
  unfold State.captureShow
  repeat' (first
    | with_reducible assumption
    | with_reducible apply State.kept_judgeCheck
    | with_reducible apply State.kept_modSd
    | with_reducible apply State.kept_forwardField
    | with_reducible apply kept_ite
    | (extract_lets +onlyGivenNames x
       first
         | (refine kept_cut (s0 := s0) (x := x) ?_ (fun _ => ?_); (focus unfold x); on_goal 2 => clear_value x)
         | ((first | have y : Queue := x | have y : Fixer := x); clear y; unfold x; clear x)
         | clear_value x)
    | split)

theorem State.kept_endMissRun {s0 s : State}  (h : KeptBy s0 s) : KeptBy s0 (State.endMissRun s) := by
  unfold State.endMissRun
  repeat' (first
    | with_reducible assumption
    | with_reducible apply State.kept_raiseAt
    | (extract_lets +onlyGivenNames x
       first
         | (refine kept_cut (s0 := s0) (x := x) ?_ (fun _ => ?_); (focus unfold x); on_goal 2 => clear_value x)
         | ((first | have y : Queue := x | have y : Fixer := x); clear y; unfold x; clear x)
         | clear_value x)
    | split)

theorem State.kept_showMissing {s0 s : State} (a1 : Epoch32) (h : KeptBy s0 s) : KeptBy s0 (State.showMissing s a1) := by
  unfold State.showMissing
  repeat' (first
    | with_reducible assumption
    | with_reducible apply State.kept_setFlag
    | with_reducible apply State.kept_countWrap
    | with_reducible apply State.kept_endMissRun
    | with_reducible apply State.kept_fixerCountAt
    | with_reducible refine State.kept_fixerCountAt_eq (by with_reducible assumption) ?_
    | with_reducible apply kept_ite
    | (extract_lets +onlyGivenNames x
       first
         | (refine kept_cut (s0 := s0) (x := x) ?_ (fun _ => ?_); (focus unfold x); on_goal 2 => clear_value x)
         | ((first | have y : Queue := x | have y : Fixer := x); clear y; unfold x; clear x)
         | clear_value x)
    | split)

theorem State.kept_handOver {s0 s : State} (a1 : Epoch32) (a2 : Option Capture) (a3 : Nat) (h : KeptBy s0 s) : KeptBy s0 (State.handOver s a1 a2 a3) := by
  unfold State.handOver
  repeat' (first
    | with_reducible assumption
    | (extract_lets +onlyGivenNames x
       first
         | (refine kept_cut (s0 := s0) (x := x) ?_ (fun _ => ?_); (focus unfold x); on_goal 2 => clear_value x)
         | ((first | have y : Queue := x | have y : Fixer := x); clear y; unfold x; clear x)
         | clear_value x)
    | split)

theorem State.kept_decideShow {s0 s : State} (a1 : Epoch32) (a2 : List Epoch32) (h : KeptBy s0 s) : KeptBy s0 (State.decideShow s a1 a2) := by
  unfold State.decideShow
  repeat' (first
    | with_reducible assumption
    | with_reducible apply State.kept_endMissRun
    | with_reducible apply State.kept_handOver
    | with_reducible apply State.kept_setFlag
    | with_reducible apply State.kept_countWrap
    | with_reducible apply State.kept_showMissing
    | (extract_lets +onlyGivenNames x
       first
         | (refine kept_cut (s0 := s0) (x := x) ?_ (fun _ => ?_); (focus unfold x); on_goal 2 => clear_value x)
         | ((first | have y : Queue := x | have y : Fixer := x); clear y; unfold x; clear x)
         | clear_value x)
    | split)

theorem State.kept_setTag {s0 s : State} (a1 : Nat) (a2 : TagState) (h : KeptBy s0 s) : KeptBy s0 (State.setTag s a1 a2) := by
  unfold State.setTag
  repeat' (first
    | with_reducible assumption
    | (extract_lets +onlyGivenNames x
       first
         | (refine kept_cut (s0 := s0) (x := x) ?_ (fun _ => ?_); (focus unfold x); on_goal 2 => clear_value x)
         | ((first | have y : Queue := x | have y : Fixer := x); clear y; unfold x; clear x)
         | clear_value x))

theorem State.kept_dropCmd {s0 s : State} (a1 : Word) (a2 : Nat) (h : KeptBy s0 s) : KeptBy s0 (State.dropCmd s a1 a2) := by
  unfold State.dropCmd
  repeat' (first
    | with_reducible assumption
    | with_reducible apply State.kept_setFlags
    | with_reducible apply State.kept_countSat
    | with_reducible apply State.kept_raise
    | with_reducible apply kept_ite
    | (extract_lets +onlyGivenNames x
       first
         | (refine kept_cut (s0 := s0) (x := x) ?_ (fun _ => ?_); (focus unfold x); on_goal 2 => clear_value x)
         | ((first | have y : Queue := x | have y : Fixer := x); clear y; unfold x; clear x)
         | clear_value x)
    | split)

theorem State.kept_storeCmd {s0 s : State} (a1 : Packet) (h : KeptBy s0 s) : KeptBy s0 (State.storeCmd s a1) := by
  unfold State.storeCmd
  repeat' (first
    | with_reducible assumption
    | with_reducible apply State.kept_setTankWords
    | (extract_lets +onlyGivenNames x
       first
         | (refine kept_cut (s0 := s0) (x := x) ?_ (fun _ => ?_); (focus unfold x); on_goal 2 => clear_value x)
         | ((first | have y : Queue := x | have y : Fixer := x); clear y; unfold x; clear x)
         | clear_value x))

theorem State.kept_acceptPacket {s0 s : State} (a1 : Packet) (h : KeptBy s0 s) : KeptBy s0 (State.acceptPacket s a1) := by
  unfold State.acceptPacket
  repeat' (first
    | with_reducible assumption
    | with_reducible apply State.kept_dropCmd
    | with_reducible apply State.kept_storeCmd
    | with_reducible apply State.kept_setTag
    | with_reducible apply kept_ite
    | (extract_lets +onlyGivenNames x
       first
         | (refine kept_cut (s0 := s0) (x := x) ?_ (fun _ => ?_); (focus unfold x); on_goal 2 => clear_value x)
         | ((first | have y : Queue := x | have y : Fixer := x); clear y; unfold x; clear x)
         | clear_value x)
    | split)

theorem State.kept_pushReply {s0 s : State} (a1 : Nat) (a2 : Nat) (a3 : List Word) (h : KeptBy s0 s) : KeptBy s0 (State.pushReply s a1 a2 a3) := by
  unfold State.pushReply
  repeat' (first
    | with_reducible assumption
    | with_reducible apply State.kept_setTankWords
    | (extract_lets +onlyGivenNames x
       first
         | (refine kept_cut (s0 := s0) (x := x) ?_ (fun _ => ?_); (focus unfold x); on_goal 2 => clear_value x)
         | ((first | have y : Queue := x | have y : Fixer := x); clear y; unfold x; clear x)
         | clear_value x))

theorem State.kept_retireReplies {s0 s : State}  (h : KeptBy s0 s) : KeptBy s0 (State.retireReplies s) := by
  unfold State.retireReplies
  repeat' (first
    | with_reducible assumption
    | with_reducible apply State.kept_setReg
    | (extract_lets +onlyGivenNames x
       first
         | (refine kept_cut (s0 := s0) (x := x) ?_ (fun _ => ?_); (focus unfold x); on_goal 2 => clear_value x)
         | ((first | have y : Queue := x | have y : Fixer := x); clear y; unfold x; clear x)
         | clear_value x))

theorem State.kept_keepEvents {s0 s : State} {l : List Event} (h : KeptBy s0 s) (hl : l.length ≤ s.queue.events.length) :
    KeptBy s0 (State.keepEvents s l) := kept_fewer_events h hl

theorem State.kept_retireEvents {s0 s : State} (h : KeptBy s0 s) : KeptBy s0 (State.retireEvents s) := by
  unfold State.retireEvents
  exact kept_ite h (State.kept_keepEvents h (List.length_filter_le _ _))

theorem State.kept_setRegSrc {s0 s : State} (a1 : Epoch32) (a2 : Nat) (h : KeptBy s0 s) : KeptBy s0 (State.setRegSrc s a1 a2) := by
  unfold State.setRegSrc
  repeat' (first
    | with_reducible assumption
    | with_reducible apply kept_ite
    | (extract_lets +onlyGivenNames x
       first
         | (refine kept_cut (s0 := s0) (x := x) ?_ (fun _ => ?_); (focus unfold x); on_goal 2 => clear_value x)
         | ((first | have y : Queue := x | have y : Fixer := x); clear y; unfold x; clear x)
         | clear_value x)
    | split)

theorem State.kept_endRegRun {s0 s : State}  (h : KeptBy s0 s) : KeptBy s0 (State.endRegRun s) := by
  unfold State.endRegRun
  repeat' (first
    | with_reducible assumption
    | with_reducible apply State.kept_raiseAt
    | (extract_lets +onlyGivenNames x
       first
         | (refine kept_cut (s0 := s0) (x := x) ?_ (fun _ => ?_); (focus unfold x); on_goal 2 => clear_value x)
         | ((first | have y : Queue := x | have y : Fixer := x); clear y; unfold x; clear x)
         | clear_value x)
    | split)

theorem State.kept_regRunMissing {s0 s : State} (a1 : Epoch32) (h : KeptBy s0 s) : KeptBy s0 (State.regRunMissing s a1) := by
  unfold State.regRunMissing
  repeat' (first
    | with_reducible assumption
    | with_reducible apply State.kept_endRegRun
    | with_reducible apply kept_ite
    | (extract_lets +onlyGivenNames x
       first
         | (refine kept_cut (s0 := s0) (x := x) ?_ (fun _ => ?_); (focus unfold x); on_goal 2 => clear_value x)
         | ((first | have y : Queue := x | have y : Fixer := x); clear y; unfold x; clear x)
         | clear_value x)
    | split)

theorem State.kept_tellRun {s0 s : State} (a1 : RegSeen) (h : KeptBy s0 s) : KeptBy s0 (State.tellRun s a1) := by
  unfold State.tellRun
  repeat' (first
    | with_reducible assumption
    | with_reducible apply State.kept_endRegRun
    | with_reducible apply State.kept_regRunMissing
    | with_reducible apply kept_ite
    | (extract_lets +onlyGivenNames x
       first
         | (refine kept_cut (s0 := s0) (x := x) ?_ (fun _ => ?_); (focus unfold x); on_goal 2 => clear_value x)
         | ((first | have y : Queue := x | have y : Fixer := x); clear y; unfold x; clear x)
         | clear_value x)
    | split)

theorem State.kept_settleRuns {s0 s : State} (l : List RegSeen) (h : KeptBy s0 s) : KeptBy s0 (State.settleRuns l s) := by
  induction l generalizing s with
  | nil => exact h
  | cons r l ih =>
    unfold State.settleRuns
    exact kept_ite (ih (State.kept_tellRun _ h)) (kept_ite h (ih h))

theorem State.kept_noteSeen {s0 s : State} (a1 : RegSeen) (h : KeptBy s0 s) : KeptBy s0 (State.noteSeen s a1) := by
  unfold State.noteSeen
  repeat' (first
    | with_reducible assumption
    | with_reducible apply State.kept_settleRuns
    | (extract_lets +onlyGivenNames x
       first
         | (refine kept_cut (s0 := s0) (x := x) ?_ (fun _ => ?_); (focus unfold x); on_goal 2 => clear_value x)
         | ((first | have y : Queue := x | have y : Fixer := x); clear y; unfold x; clear x)
         | clear_value x))

theorem State.kept_regMissing {s0 s : State} (a1 : Epoch32) (h : KeptBy s0 s) : KeptBy s0 (State.regMissing s a1) := by
  unfold State.regMissing
  repeat' (first
    | with_reducible assumption
    | with_reducible apply State.kept_setFlag
    | with_reducible apply State.kept_setRegSrc)

theorem State.kept_regCopyBad {s0 s : State} (a1 : Side) (a2 : Epoch32) (h : KeptBy s0 s) : KeptBy s0 (State.regCopyBad s a1 a2) := by
  unfold State.regCopyBad
  repeat' (first
    | with_reducible assumption
    | with_reducible apply State.kept_regMissing
    | with_reducible apply State.kept_noteSeen
    | with_reducible apply kept_ite
    | (extract_lets +onlyGivenNames x
       first
         | (refine kept_cut (s0 := s0) (x := x) ?_ (fun _ => ?_); (focus unfold x); on_goal 2 => clear_value x)
         | ((first | have y : Queue := x | have y : Fixer := x); clear y; unfold x; clear x)
         | clear_value x)
    | split)

theorem State.kept_regBarred {s0 s : State} (a1 : Side) (a2 : Epoch32) (h : KeptBy s0 s) : KeptBy s0 (State.regBarred s a1 a2) := by
  unfold State.regBarred
  repeat' (first
    | with_reducible assumption
    | with_reducible apply State.kept_setRegSrc
    | with_reducible apply State.kept_noteSeen
    | with_reducible apply kept_ite
    | (extract_lets +onlyGivenNames x
       first
         | (refine kept_cut (s0 := s0) (x := x) ?_ (fun _ => ?_); (focus unfold x); on_goal 2 => clear_value x)
         | ((first | have y : Queue := x | have y : Fixer := x); clear y; unfold x; clear x)
         | clear_value x)
    | split)

theorem State.kept_judgeLost {s0 s : State} (a1 : Side) (h : KeptBy s0 s) : KeptBy s0 (State.judgeLost s a1) := by
  unfold State.judgeLost
  repeat' (first
    | with_reducible assumption
    | intro _
    | with_reducible apply State.kept_regCopyBad
    | with_reducible apply kept_foldl
    | (extract_lets +onlyGivenNames x
       first
         | (refine kept_cut (s0 := s0) (x := x) ?_ (fun _ => ?_); (focus unfold x); on_goal 2 => clear_value x)
         | ((first | have y : Queue := x | have y : Fixer := x); clear y; unfold x; clear x)
         | clear_value x))

theorem State.kept_judgeDropped {s0 s : State} (a1 : State) (h : KeptBy s0 s) : KeptBy s0 (State.judgeDropped s a1) := by
  unfold State.judgeDropped
  repeat' (first
    | with_reducible assumption
    | with_reducible apply State.kept_judgeLost
    | with_reducible apply kept_ite
    | (extract_lets +onlyGivenNames x
       first
         | (refine kept_cut (s0 := s0) (x := x) ?_ (fun _ => ?_); (focus unfold x); on_goal 2 => clear_value x)
         | ((first | have y : Queue := x | have y : Fixer := x); clear y; unfold x; clear x)
         | clear_value x)
    | split)

theorem State.kept_executeField {s0 s : State} (a1 : Side) (a2 : Epoch32) (a3 : List Packet) (h : KeptBy s0 s) : KeptBy s0 (State.executeField s a1 a2 a3) := by
  unfold State.executeField
  repeat' (first
    | with_reducible assumption
    | intro _
    | with_reducible apply State.kept_noteSeen
    | with_reducible apply State.kept_setRegSrc
    | with_reducible apply State.kept_acceptPacket
    | with_reducible apply kept_ite
    | with_reducible apply kept_foldl
    | (extract_lets +onlyGivenNames x
       first
         | (refine kept_cut (s0 := s0) (x := x) ?_ (fun _ => ?_); (focus unfold x); on_goal 2 => clear_value x)
         | ((first | have y : Queue := x | have y : Fixer := x); clear y; unfold x; clear x)
         | clear_value x)
    | split)

theorem State.kept_registerField {s0 s : State} (a1 : Side) (a2 : List Word) (a3 : Half) (h : KeptBy s0 s) : KeptBy s0 (State.registerField s a1 a2 a3) := by
  unfold State.registerField
  repeat' (first
    | with_reducible assumption
    | with_reducible apply State.kept_judgeCheck
    | with_reducible apply State.kept_setFlag
    | with_reducible apply State.kept_raise
    | with_reducible apply State.kept_forwardField
    | with_reducible apply State.kept_retireReplies
    | with_reducible apply State.kept_executeField
    | with_reducible apply State.kept_regBarred
    | with_reducible apply State.kept_regCopyBad
    | with_reducible apply kept_ite
    | (extract_lets +onlyGivenNames x
       first
         | (refine kept_cut (s0 := s0) (x := x) ?_ (fun _ => ?_); (focus unfold x); on_goal 2 => clear_value x)
         | ((first | have y : Queue := x | have y : Fixer := x); clear y; unfold x; clear x)
         | clear_value x)
    | split)

theorem State.kept_complete {s0 s : State} (a1 : Cmd) (a2 : Nat) (a3 : List Word) (h : KeptBy s0 s) : KeptBy s0 (State.complete s a1 a2 a3) := by
  unfold State.complete
  repeat' (first
    | with_reducible assumption
    | intro _
    | with_reducible apply State.kept_countWrap
    | with_reducible apply State.kept_setFlag
    | with_reducible apply State.kept_pushReply
    | with_reducible apply kept_ite
    | with_reducible apply kept_foldl
    | (extract_lets +onlyGivenNames x
       first
         | (refine kept_cut (s0 := s0) (x := x) ?_ (fun _ => ?_); (focus unfold x); on_goal 2 => clear_value x)
         | ((first | have y : Queue := x | have y : Fixer := x); clear y; unfold x; clear x)
         | clear_value x)
    | split)

theorem State.kept_examineAbort {s0 s : State} (a1 : Nat) (h : KeptBy s0 s) : KeptBy s0 (State.examineAbort s a1) := by
  unfold State.examineAbort
  repeat' (first
    | with_reducible assumption
    | with_reducible apply State.kept_pushReply
    | with_reducible apply State.kept_setTag
    | with_reducible apply State.kept_setFlag
    | with_reducible apply kept_ite
    | (extract_lets +onlyGivenNames x
       first
         | (refine kept_cut (s0 := s0) (x := x) ?_ (fun _ => ?_); (focus unfold x); on_goal 2 => clear_value x)
         | ((first | have y : Queue := x | have y : Fixer := x); clear y; unfold x; clear x)
         | clear_value x)
    | split)

theorem State.kept_dueAborts {s0 s : State}  (h : KeptBy s0 s) : KeptBy s0 (State.dueAborts s) := by
  unfold State.dueAborts
  repeat' (first
    | with_reducible assumption
    | (extract_lets +onlyGivenNames x
       first
         | (refine kept_cut (s0 := s0) (x := x) ?_ (fun _ => ?_); (focus unfold x); on_goal 2 => clear_value x)
         | ((first | have y : Queue := x | have y : Fixer := x); clear y; unfold x; clear x)
         | clear_value x))

theorem insertEvents_length (may : Nat → Bool) (x : Side) (both : Bool) (addr w : Nat) (vs : List Word) (es : List Event) :
    (insertEvents may x both addr w vs es).2.length = es.length := by
  induction vs generalizing w es with
  | nil => rfl
  | cons v vs ih =>
    unfold insertEvents
    split
    · split
      · dsimp only
        rw [ih]
        exact List.length_modify ..
      · exact ih _ _
    · rfl

theorem State.kept_eventField {s0 s : State} (a1 : Side) (a2 : List Word) (a3 : Half) (h : KeptBy s0 s) :
    KeptBy s0 (State.eventField s a1 a2 a3) := by
  unfold State.eventField
  extract_lets ok s1 q insert
  have h1 : KeptBy s0 s1 := State.kept_judgeCheck _ _ _ h
  clear_value s1
  split
  rename_i ws' es e
  have hl : es.length ≤ s1.queue.events.length := by
    split at e
    · have := congrArg (·.2.length) e
      simp only [insertEvents_length] at this
      exact this.ge
    · cases e
      exact le_rfl
  extract_lets s2 check s3
  have h2 : KeptBy s0 s2 := kept_fewer_events h1 hl
  have h3 : KeptBy s0 s3 := State.kept_forwardField _ _ _ _ h2
  clear_value s3
  split
  · exact State.kept_retireEvents (State.kept_retireReplies h3)
  · exact h3

end Sys2Proof.Machine
end

