-- ==== Sys2Proof/Laws/KeptFront.lean ====
section
/-! SUPPORT. Every operation of Machine/Front.lean keeps what `Kept` says. -/

set_option linter.unusedTactic false
set_option linter.unreachableTactic false
set_option linter.tactic.unusedName false

namespace Sys2Proof.Machine

theorem State.kept_modBias {s0 s : State} (a1 : Nat) (a2 : Bias → Bias) (h : KeptBy s0 s) : KeptBy s0 (State.modBias s a1 a2) := by
  unfold State.modBias
  repeat' (first
    | with_reducible assumption
    | (extract_lets +onlyGivenNames x
       first
         | (refine kept_cut (s0 := s0) (x := x) ?_ (fun _ => ?_); (focus unfold x); on_goal 2 => clear_value x)
         | ((first | have y : Queue := x | have y : Fixer := x); clear y; unfold x; clear x)
         | clear_value x))

theorem State.kept_modChan {s0 s : State} (a1 : Nat) (a2 : Chan → Chan) (h : KeptBy s0 s) : KeptBy s0 (State.modChan s a1 a2) := by
  unfold State.modChan
  repeat' (first
    | with_reducible assumption
    | (extract_lets +onlyGivenNames x
       first
         | (refine kept_cut (s0 := s0) (x := x) ?_ (fun _ => ?_); (focus unfold x); on_goal 2 => clear_value x)
         | ((first | have y : Queue := x | have y : Fixer := x); clear y; unfold x; clear x)
         | clear_value x))

theorem State.kept_updateBias {s0 s : State} (a1 : Nat) (h : KeptBy s0 s) : KeptBy s0 (State.updateBias s a1) := by
  unfold State.updateBias
  repeat' (first
    | with_reducible assumption
    | with_reducible apply State.kept_modBias
    | with_reducible apply kept_ite
    | (extract_lets +onlyGivenNames x
       first
         | (refine kept_cut (s0 := s0) (x := x) ?_ (fun _ => ?_); (focus unfold x); on_goal 2 => clear_value x)
         | ((first | have y : Queue := x | have y : Fixer := x); clear y; unfold x; clear x)
         | clear_value x)
    | split)

theorem State.kept_updateBiases {s0 s : State}  (h : KeptBy s0 s) : KeptBy s0 (State.updateBiases s) := by
  unfold State.updateBiases
  repeat' (first
    | with_reducible assumption
    | intro _
    | with_reducible apply State.kept_updateBias
    | with_reducible apply kept_foldl)

theorem State.kept_updateWatch {s0 s : State}  (h : KeptBy s0 s) : KeptBy s0 (State.updateWatch s) := by
  unfold State.updateWatch
  repeat' (first
    | with_reducible assumption
    | with_reducible apply kept_ite
    | (extract_lets +onlyGivenNames x
       first
         | (refine kept_cut (s0 := s0) (x := x) ?_ (fun _ => ?_); (focus unfold x); on_goal 2 => clear_value x)
         | ((first | have y : Queue := x | have y : Fixer := x); clear y; unfold x; clear x)
         | clear_value x)
    | split)

theorem State.kept_updateChan {s0 s : State} (a1 : Nat) (h : KeptBy s0 s) : KeptBy s0 (State.updateChan s a1) := by
  unfold State.updateChan
  repeat' (first
    | with_reducible assumption
    | with_reducible apply State.kept_modChan
    | with_reducible apply kept_ite
    | (extract_lets +onlyGivenNames x
       first
         | (refine kept_cut (s0 := s0) (x := x) ?_ (fun _ => ?_); (focus unfold x); on_goal 2 => clear_value x)
         | ((first | have y : Queue := x | have y : Fixer := x); clear y; unfold x; clear x)
         | clear_value x)
    | split)

theorem State.kept_updateChans {s0 s : State}  (h : KeptBy s0 s) : KeptBy s0 (State.updateChans s) := by
  unfold State.updateChans
  repeat' (first
    | with_reducible assumption
    | intro _
    | with_reducible apply State.kept_updateChan
    | with_reducible apply kept_foldl)

theorem State.kept_pdmStart {s0 s : State}  (h : KeptBy s0 s) : KeptBy s0 (State.pdmStart s) := by
  unfold State.pdmStart
  repeat' (first
    | with_reducible assumption
    | with_reducible apply State.kept_updateChans
    | (extract_lets +onlyGivenNames x
       first
         | (refine kept_cut (s0 := s0) (x := x) ?_ (fun _ => ?_); (focus unfold x); on_goal 2 => clear_value x)
         | ((first | have y : Queue := x | have y : Fixer := x); clear y; unfold x; clear x)
         | clear_value x))

theorem State.kept_pdmStop {s0 s : State}  (h : KeptBy s0 s) : KeptBy s0 (State.pdmStop s) := by
  unfold State.pdmStop
  repeat' (first
    | with_reducible assumption
    | with_reducible apply State.kept_updateChans
    | (extract_lets +onlyGivenNames x
       first
         | (refine kept_cut (s0 := s0) (x := x) ?_ (fun _ => ?_); (focus unfold x); on_goal 2 => clear_value x)
         | ((first | have y : Queue := x | have y : Fixer := x); clear y; unfold x; clear x)
         | clear_value x))

theorem State.kept_samplePdm {s0 s : State}  (h : KeptBy s0 s) : KeptBy s0 (State.samplePdm s) := by
  unfold State.samplePdm
  repeat' (first
    | with_reducible assumption
    | with_reducible apply State.kept_pdmStart
    | with_reducible apply State.kept_pdmStop
    | with_reducible apply kept_ite
    | (extract_lets +onlyGivenNames x
       first
         | (refine kept_cut (s0 := s0) (x := x) ?_ (fun _ => ?_); (focus unfold x); on_goal 2 => clear_value x)
         | ((first | have y : Queue := x | have y : Fixer := x); clear y; unfold x; clear x)
         | clear_value x)
    | split)

theorem State.kept_sampleWatch {s0 s : State}  (h : KeptBy s0 s) : KeptBy s0 (State.sampleWatch s) := by
  unfold State.sampleWatch
  repeat' (first
    | with_reducible assumption
    | with_reducible apply State.kept_updateBiases
    | with_reducible apply State.kept_setFlag
    | with_reducible apply kept_ite
    | (extract_lets +onlyGivenNames x
       first
         | (refine kept_cut (s0 := s0) (x := x) ?_ (fun _ => ?_); (focus unfold x); on_goal 2 => clear_value x)
         | ((first | have y : Queue := x | have y : Fixer := x); clear y; unfold x; clear x)
         | clear_value x)
    | split)

theorem State.kept_startFrontLoop {s0 s : State}  (h : KeptBy s0 s) : KeptBy s0 (State.startFrontLoop s) := by
  unfold State.startFrontLoop
  repeat' (first
    | with_reducible assumption
    | with_reducible apply State.kept_setPair
    | with_reducible apply kept_ite
    | (extract_lets +onlyGivenNames x
       first
         | (refine kept_cut (s0 := s0) (x := x) ?_ (fun _ => ?_); (focus unfold x); on_goal 2 => clear_value x)
         | ((first | have y : Queue := x | have y : Fixer := x); clear y; unfold x; clear x)
         | clear_value x)
    | split)

theorem State.kept_sampleFront {s0 s : State}  (h : KeptBy s0 s) : KeptBy s0 (State.sampleFront s) := by
  unfold State.sampleFront
  repeat' (first
    | with_reducible assumption
    | with_reducible apply State.kept_samplePdm
    | with_reducible apply State.kept_updateChans
    | with_reducible apply State.kept_startFrontLoop
    | with_reducible apply State.kept_sampleWatch
    | (extract_lets +onlyGivenNames x
       first
         | (refine kept_cut (s0 := s0) (x := x) ?_ (fun _ => ?_); (focus unfold x); on_goal 2 => clear_value x)
         | ((first | have y : Queue := x | have y : Fixer := x); clear y; unfold x; clear x)
         | clear_value x))

theorem State.kept_endFrontLoops {s0 s : State}  (h : KeptBy s0 s) : KeptBy s0 (State.endFrontLoops s) := by
  unfold State.endFrontLoops
  repeat' (first
    | with_reducible assumption
    | with_reducible apply State.kept_setPair
    | with_reducible apply State.kept_setFlag
    | (extract_lets +onlyGivenNames x
       first
         | (refine kept_cut (s0 := s0) (x := x) ?_ (fun _ => ?_); (focus unfold x); on_goal 2 => clear_value x)
         | ((first | have y : Queue := x | have y : Fixer := x); clear y; unfold x; clear x)
         | clear_value x))

theorem State.kept_pdmGap {s0 s : State}  (h : KeptBy s0 s) : KeptBy s0 (State.pdmGap s) := by
  unfold State.pdmGap
  repeat' (first
    | with_reducible assumption
    | with_reducible apply kept_ite
    | (extract_lets +onlyGivenNames x
       first
         | (refine kept_cut (s0 := s0) (x := x) ?_ (fun _ => ?_); (focus unfold x); on_goal 2 => clear_value x)
         | ((first | have y : Queue := x | have y : Fixer := x); clear y; unfold x; clear x)
         | clear_value x)
    | split)

theorem State.kept_tickBiases {s0 s : State} (a1 : TickIn) (h : KeptBy s0 s) : KeptBy s0 (State.tickBiases s a1) := by
  unfold State.tickBiases
  repeat' (first
    | with_reducible assumption
    | (extract_lets +onlyGivenNames x
       first
         | (refine kept_cut (s0 := s0) (x := x) ?_ (fun _ => ?_); (focus unfold x); on_goal 2 => clear_value x)
         | ((first | have y : Queue := x | have y : Fixer := x); clear y; unfold x; clear x)
         | clear_value x))

theorem State.kept_biasShort {s0 s : State} (a1 : Nat) (h : KeptBy s0 s) : KeptBy s0 (State.biasShort s a1) := by
  unfold State.biasShort
  repeat' (first
    | with_reducible assumption
    | with_reducible apply State.kept_modBias
    | with_reducible apply State.kept_setFlag
    | with_reducible apply State.kept_countSat
    | with_reducible apply State.kept_raise
    | with_reducible apply State.kept_fixerCount
    | with_reducible refine State.kept_fixerCount_eq (by with_reducible assumption) ?_
    | with_reducible apply State.kept_setFld
    | with_reducible apply kept_ite
    | (extract_lets +onlyGivenNames x
       first
         | (refine kept_cut (s0 := s0) (x := x) ?_ (fun _ => ?_); (focus unfold x); on_goal 2 => clear_value x)
         | ((first | have y : Queue := x | have y : Fixer := x); clear y; unfold x; clear x)
         | clear_value x)
    | split)

theorem State.kept_releaseBias {s0 s : State} (a1 : Nat) (h : KeptBy s0 s) : KeptBy s0 (State.releaseBias s a1) := by
  unfold State.releaseBias
  repeat' (first
    | with_reducible assumption
    | with_reducible apply State.kept_fixerRelease
    | with_reducible apply State.kept_modBias
    | with_reducible apply kept_ite
    | (extract_lets +onlyGivenNames x
       first
         | (refine kept_cut (s0 := s0) (x := x) ?_ (fun _ => ?_); (focus unfold x); on_goal 2 => clear_value x)
         | ((first | have y : Queue := x | have y : Fixer := x); clear y; unfold x; clear x)
         | clear_value x)
    | split)

theorem State.kept_biasOpen {s0 s : State} (a1 : Nat) (h : KeptBy s0 s) : KeptBy s0 (State.biasOpen s a1) := by
  unfold State.biasOpen
  repeat' (first
    | with_reducible assumption
    | with_reducible apply State.kept_modBias
    | with_reducible apply State.kept_setFlag
    | with_reducible apply State.kept_raise
    | (extract_lets +onlyGivenNames x
       first
         | (refine kept_cut (s0 := s0) (x := x) ?_ (fun _ => ?_); (focus unfold x); on_goal 2 => clear_value x)
         | ((first | have y : Queue := x | have y : Fixer := x); clear y; unfold x; clear x)
         | clear_value x))

theorem State.kept_trimWrite {s0 s : State} (a1 : Nat) (a2 : Word) (h : KeptBy s0 s) : KeptBy s0 (State.trimWrite s a1 a2) := by
  unfold State.trimWrite
  repeat' (first
    | with_reducible assumption
    | with_reducible apply kept_ite
    | (extract_lets +onlyGivenNames x
       first
         | (refine kept_cut (s0 := s0) (x := x) ?_ (fun _ => ?_); (focus unfold x); on_goal 2 => clear_value x)
         | ((first | have y : Queue := x | have y : Fixer := x); clear y; unfold x; clear x)
         | clear_value x)
    | split)

end Sys2Proof.Machine
end

