-- ==== Sys2Proof/Laws/KeptDecim.lean ====
section
/-! SUPPORT. Every operation of Machine/Decim.lean keeps what `Kept` says. -/

set_option linter.unusedTactic false
set_option linter.unreachableTactic false
set_option linter.tactic.unusedName false

namespace Sys2Proof.Machine

theorem State.kept_coefWrite {s0 s : State} (a1 : Nat) (a2 : Word) (h : KeptBy s0 s) : KeptBy s0 (State.coefWrite s a1 a2) := by
  unfold State.coefWrite
  repeat' (first
    | with_reducible assumption
    | with_reducible apply kept_ite
    | (extract_lets +onlyGivenNames x
       first
         | (refine kept_cut (s0 := s0) (x := x) ?_ (fun _ => ?_); (focus unfold x); on_goal 2 => clear_value x)
         | ((first | have y : Queue := x | have y : Fixer := x); clear y; unfold x; clear x)
         | clear_value x)
    | split)

theorem State.kept_coefUpset {s0 s : State} (a1 : Nat) (a2 : Nat) (h : KeptBy s0 s) : KeptBy s0 (State.coefUpset s a1 a2) := by
  unfold State.coefUpset
  repeat' (first
    | with_reducible assumption
    | with_reducible apply kept_ite
    | (extract_lets +onlyGivenNames x
       first
         | (refine kept_cut (s0 := s0) (x := x) ?_ (fun _ => ?_); (focus unfold x); on_goal 2 => clear_value x)
         | ((first | have y : Queue := x | have y : Fixer := x); clear y; unfold x; clear x)
         | clear_value x)
    | split)

theorem State.kept_dcStep {s0 s : State} (a1 : Nat) (a2 : Int) (a3 : Bool) (a4 : Bool) (a5 : Bool) (a6 : Nat) (h : KeptBy s0 s) : KeptBy s0 (State.dcStep s a1 a2 a3 a4 a5 a6).2 := by
  unfold State.dcStep
  repeat' (first
    | with_reducible assumption
    | (extract_lets +onlyGivenNames x
       first
         | (refine kept_cut (s0 := s0) (x := x) ?_ (fun _ => ?_); (focus unfold x); on_goal 2 => clear_value x)
         | ((first | have y : Queue := x | have y : Fixer := x); clear y; unfold x; clear x)
         | clear_value x)
    | split)

theorem State.kept_dcStep_eq {s0 s t : State} (a1 : Nat) (a2 : Int) (a3 : Bool) (a4 : Bool) (a5 : Bool) (a6 : Nat) {x : Int} (e : State.dcStep s a1 a2 a3 a4 a5 a6 = (x, t)) (h : KeptBy s0 s) : KeptBy s0 t := by
  have := State.kept_dcStep a1 a2 a3 a4 a5 a6 h
  rwa [e] at this

theorem State.kept_samplePhase {s0 s : State}  (h : KeptBy s0 s) : KeptBy s0 (State.samplePhase s) := by
  unfold State.samplePhase
  repeat' (first
    | with_reducible assumption
    | (extract_lets +onlyGivenNames x
       first
         | (refine kept_cut (s0 := s0) (x := x) ?_ (fun _ => ?_); (focus unfold x); on_goal 2 => clear_value x)
         | ((first | have y : Queue := x | have y : Fixer := x); clear y; unfold x; clear x)
         | clear_value x))

theorem State.kept_stepTransition {s0 s : State}  (h : KeptBy s0 s) : KeptBy s0 (State.stepTransition s) := by
  unfold State.stepTransition
  repeat' (first
    | with_reducible assumption
    | with_reducible apply kept_ite
    | (extract_lets +onlyGivenNames x
       first
         | (refine kept_cut (s0 := s0) (x := x) ?_ (fun _ => ?_); (focus unfold x); on_goal 2 => clear_value x)
         | ((first | have y : Queue := x | have y : Fixer := x); clear y; unfold x; clear x)
         | clear_value x)
    | split)

theorem State.kept_countSatOut {s0 s : State} (a1 : Nat) (h : KeptBy s0 s) : KeptBy s0 (State.countSatOut s a1) := by
  unfold State.countSatOut
  repeat' (first
    | with_reducible assumption
    | with_reducible apply State.kept_setFlag
    | with_reducible apply State.kept_countSat)

theorem State.kept_captureWord {s0 s : State} (a1 : Nat) (a2 : Word) (h : KeptBy s0 s) : KeptBy s0 (State.captureWord s a1 a2) := by
  unfold State.captureWord
  repeat' (first
    | with_reducible assumption
    | with_reducible apply State.kept_setTank
    | with_reducible apply kept_ite
    | (extract_lets +onlyGivenNames x
       first
         | (refine kept_cut (s0 := s0) (x := x) ?_ (fun _ => ?_); (focus unfold x); on_goal 2 => clear_value x)
         | ((first | have y : Queue := x | have y : Fixer := x); clear y; unfold x; clear x)
         | clear_value x)
    | split)

theorem State.kept_filterChannel {s0 s : State} (a1 : Nat) (a2 : List Bool) (a3 : Option TapSet) (a4 : Option TapSet) (h : KeptBy s0 s) : KeptBy s0 (State.filterChannel s a1 a2 a3 a4).2 := by
  unfold State.filterChannel
  repeat' (first
    | with_reducible assumption
    | with_reducible apply kept_ite
    | (extract_lets +onlyGivenNames x
       first
         | (refine kept_cut (s0 := s0) (x := x) ?_ (fun _ => ?_); (focus unfold x); on_goal 2 => clear_value x)
         | ((first | have y : Queue := x | have y : Fixer := x); clear y; unfold x; clear x)
         | clear_value x)
    | split)

theorem State.kept_filterChannel_eq {s0 s t : State} (a1 : Nat) (a2 : List Bool) (a3 : Option TapSet) (a4 : Option TapSet) {x : Int} (e : State.filterChannel s a1 a2 a3 a4 = (x, t)) (h : KeptBy s0 s) : KeptBy s0 t := by
  have := State.kept_filterChannel a1 a2 a3 a4 h
  rwa [e] at this

theorem State.kept_hqChannel {s0 s : State} (a1 : HqIn) (a2 : Option TapSet) (a3 : Option TapSet) (a4 : Nat) (h : KeptBy s0 s) : KeptBy s0 (State.hqChannel s a1 a2 a3 a4) := by
  unfold State.hqChannel
  repeat' (first
    | with_reducible assumption
    | with_reducible apply State.kept_setTank
    | with_reducible apply State.kept_captureWord
    | with_reducible apply State.kept_filterChannel
    | with_reducible refine State.kept_filterChannel_eq (by with_reducible assumption) ?_
    | with_reducible apply State.kept_dcStep
    | with_reducible refine State.kept_dcStep_eq (by with_reducible assumption) ?_
    | with_reducible apply State.kept_countSatOut
    | with_reducible apply kept_ite
    | (extract_lets +onlyGivenNames x
       first
         | (refine kept_cut (s0 := s0) (x := x) ?_ (fun _ => ?_); (focus unfold x); on_goal 2 => clear_value x)
         | ((first | have y : Queue := x | have y : Fixer := x); clear y; unfold x; clear x)
         | clear_value x)
    | split)

theorem State.kept_reloadCoef {s0 s : State} (a1 : Bool) (h : KeptBy s0 s) : KeptBy s0 (State.reloadCoef s a1) := by
  unfold State.reloadCoef
  repeat' (first
    | with_reducible assumption
    | with_reducible apply kept_ite
    | (extract_lets +onlyGivenNames x
       first
         | (refine kept_cut (s0 := s0) (x := x) ?_ (fun _ => ?_); (focus unfold x); on_goal 2 => clear_value x)
         | ((first | have y : Queue := x | have y : Fixer := x); clear y; unfold x; clear x)
         | clear_value x)
    | split)

theorem State.kept_coefParity {s0 s : State} (a1 : Nat) (a2 : Bool) (h : KeptBy s0 s) : KeptBy s0 (State.coefParity s a1 a2) := by
  unfold State.coefParity
  repeat' (first
    | with_reducible assumption
    | with_reducible apply State.kept_setFlag
    | with_reducible apply State.kept_raise
    | with_reducible apply State.kept_fixerReport
    | with_reducible apply kept_ite
    | (extract_lets +onlyGivenNames x
       first
         | (refine kept_cut (s0 := s0) (x := x) ?_ (fun _ => ?_); (focus unfold x); on_goal 2 => clear_value x)
         | ((first | have y : Queue := x | have y : Fixer := x); clear y; unfold x; clear x)
         | clear_value x)
    | split)

theorem State.kept_coefCheck {s0 s : State} (a1 : Bool) (a2 : List Nat) (h : KeptBy s0 s) : KeptBy s0 (State.coefCheck s a1 a2) := by
  unfold State.coefCheck
  repeat' (first
    | with_reducible assumption
    | with_reducible apply State.kept_coefParity
    | with_reducible apply kept_ite
    | (extract_lets +onlyGivenNames x
       first
         | (refine kept_cut (s0 := s0) (x := x) ?_ (fun _ => ?_); (focus unfold x); on_goal 2 => clear_value x)
         | ((first | have y : Queue := x | have y : Fixer := x); clear y; unfold x; clear x)
         | clear_value x)
    | split)

theorem State.kept_hqChannels {s0 s : State} (a1 : HqIn) (h : KeptBy s0 s) : KeptBy s0 (State.hqChannels s a1) := by
  unfold State.hqChannels
  repeat' (first
    | with_reducible assumption
    | intro _
    | with_reducible apply State.kept_stepTransition
    | with_reducible apply State.kept_hqChannel
    | with_reducible apply State.kept_coefCheck
    | with_reducible apply kept_ite
    | with_reducible apply kept_foldl
    | (extract_lets +onlyGivenNames x
       first
         | (refine kept_cut (s0 := s0) (x := x) ?_ (fun _ => ?_); (focus unfold x); on_goal 2 => clear_value x)
         | ((first | have y : Queue := x | have y : Fixer := x); clear y; unfold x; clear x)
         | clear_value x)
    | split)

theorem State.kept_lpPhase {s0 s : State}  (h : KeptBy s0 s) : KeptBy s0 (State.lpPhase s).2 := by
  unfold State.lpPhase
  repeat' (first
    | with_reducible assumption
    | with_reducible apply State.kept_setFlag
    | with_reducible apply State.kept_raise
    | with_reducible apply kept_ite
    | (extract_lets +onlyGivenNames x
       first
         | (refine kept_cut (s0 := s0) (x := x) ?_ (fun _ => ?_); (focus unfold x); on_goal 2 => clear_value x)
         | ((first | have y : Queue := x | have y : Fixer := x); clear y; unfold x; clear x)
         | clear_value x)
    | split)

theorem State.kept_lpPhase_eq {s0 s t : State}  {x : Bool} (e : State.lpPhase s = (x, t)) (h : KeptBy s0 s) : KeptBy s0 t := by
  have := State.kept_lpPhase  h
  rwa [e] at this

theorem State.kept_filterWatch {s0 s : State} (a1 : List Bool) (h : KeptBy s0 s) : KeptBy s0 (State.filterWatch s a1).2 := by
  unfold State.filterWatch
  repeat' (first
    | with_reducible assumption
    | (extract_lets +onlyGivenNames x
       first
         | (refine kept_cut (s0 := s0) (x := x) ?_ (fun _ => ?_); (focus unfold x); on_goal 2 => clear_value x)
         | ((first | have y : Queue := x | have y : Fixer := x); clear y; unfold x; clear x)
         | clear_value x)
    | split)

theorem State.kept_filterWatch_eq {s0 s t : State} (a1 : List Bool) {x : Int} (e : State.filterWatch s a1 = (x, t)) (h : KeptBy s0 s) : KeptBy s0 t := by
  have := State.kept_filterWatch a1 h
  rwa [e] at this

theorem State.kept_lpSample {s0 s : State} (a1 : List Bool) (h : KeptBy s0 s) : KeptBy s0 (State.lpSample s a1) := by
  unfold State.lpSample
  repeat' (first
    | with_reducible assumption
    | with_reducible apply State.kept_lpPhase
    | with_reducible refine State.kept_lpPhase_eq (by with_reducible assumption) ?_
    | with_reducible apply State.kept_setTank
    | with_reducible apply State.kept_filterWatch
    | with_reducible refine State.kept_filterWatch_eq (by with_reducible assumption) ?_
    | with_reducible apply State.kept_dcStep
    | with_reducible refine State.kept_dcStep_eq (by with_reducible assumption) ?_
    | with_reducible apply State.kept_countSatOut
    | with_reducible apply State.kept_coefCheck
    | with_reducible apply kept_ite
    | (extract_lets +onlyGivenNames x
       first
         | (refine kept_cut (s0 := s0) (x := x) ?_ (fun _ => ?_); (focus unfold x); on_goal 2 => clear_value x)
         | ((first | have y : Queue := x | have y : Fixer := x); clear y; unfold x; clear x)
         | clear_value x)
    | split)

theorem State.kept_applySwap {s0 s : State} (a1 : Nat) (h : KeptBy s0 s) : KeptBy s0 (State.applySwap s a1) := by
  unfold State.applySwap
  repeat' (first
    | with_reducible assumption
    | with_reducible apply State.kept_setFlag
    | with_reducible apply State.kept_countWrap
    | with_reducible apply State.kept_raise
    | (extract_lets +onlyGivenNames x
       first
         | (refine kept_cut (s0 := s0) (x := x) ?_ (fun _ => ?_); (focus unfold x); on_goal 2 => clear_value x)
         | ((first | have y : Queue := x | have y : Fixer := x); clear y; unfold x; clear x)
         | clear_value x))

theorem State.kept_hqHalt {s0 s : State}  (h : KeptBy s0 s) : KeptBy s0 (State.hqHalt s) := by
  unfold State.hqHalt
  repeat' (first
    | with_reducible assumption
    | with_reducible apply State.kept_applySwap
    | with_reducible apply State.kept_reloadCoef
    | with_reducible apply kept_ite
    | (extract_lets +onlyGivenNames x
       first
         | (refine kept_cut (s0 := s0) (x := x) ?_ (fun _ => ?_); (focus unfold x); on_goal 2 => clear_value x)
         | ((first | have y : Queue := x | have y : Fixer := x); clear y; unfold x; clear x)
         | clear_value x)
    | split)

theorem State.kept_pathStop {s0 s : State} (a1 : Bool) (h : KeptBy s0 s) : KeptBy s0 (State.pathStop s a1) := by
  unfold State.pathStop
  repeat' (first
    | with_reducible assumption
    | with_reducible apply State.kept_setFlag
    | with_reducible apply State.kept_hqHalt
    | with_reducible apply State.kept_reloadCoef
    | with_reducible apply kept_ite
    | (extract_lets +onlyGivenNames x
       first
         | (refine kept_cut (s0 := s0) (x := x) ?_ (fun _ => ?_); (focus unfold x); on_goal 2 => clear_value x)
         | ((first | have y : Queue := x | have y : Fixer := x); clear y; unfold x; clear x)
         | clear_value x)
    | split)

theorem State.kept_hqBegin {s0 s : State}  (h : KeptBy s0 s) : KeptBy s0 (State.hqBegin s) := by
  unfold State.hqBegin
  repeat' (first
    | with_reducible assumption
    | (extract_lets +onlyGivenNames x
       first
         | (refine kept_cut (s0 := s0) (x := x) ?_ (fun _ => ?_); (focus unfold x); on_goal 2 => clear_value x)
         | ((first | have y : Queue := x | have y : Fixer := x); clear y; unfold x; clear x)
         | clear_value x))

theorem State.kept_lpBegin {s0 s : State}  (h : KeptBy s0 s) : KeptBy s0 (State.lpBegin s) := by
  unfold State.lpBegin
  repeat' (first
    | with_reducible assumption
    | (extract_lets +onlyGivenNames x
       first
         | (refine kept_cut (s0 := s0) (x := x) ?_ (fun _ => ?_); (focus unfold x); on_goal 2 => clear_value x)
         | ((first | have y : Queue := x | have y : Fixer := x); clear y; unfold x; clear x)
         | clear_value x))

theorem State.kept_pathStart {s0 s : State} (a1 : Bool) (h : KeptBy s0 s) : KeptBy s0 (State.pathStart s a1) := by
  unfold State.pathStart
  repeat' (first
    | with_reducible assumption
    | with_reducible apply State.kept_hqBegin
    | with_reducible apply State.kept_lpBegin
    | with_reducible apply kept_ite
    | (extract_lets +onlyGivenNames x
       first
         | (refine kept_cut (s0 := s0) (x := x) ?_ (fun _ => ?_); (focus unfold x); on_goal 2 => clear_value x)
         | ((first | have y : Queue := x | have y : Fixer := x); clear y; unfold x; clear x)
         | clear_value x)
    | split)

theorem State.kept_requestSwap {s0 s : State} (a1 : Nat) (h : KeptBy s0 s) : KeptBy s0 (State.requestSwap s a1) := by
  unfold State.requestSwap
  repeat' (first
    | with_reducible assumption
    | with_reducible apply State.kept_setFlag
    | with_reducible apply kept_ite
    | (extract_lets +onlyGivenNames x
       first
         | (refine kept_cut (s0 := s0) (x := x) ?_ (fun _ => ?_); (focus unfold x); on_goal 2 => clear_value x)
         | ((first | have y : Queue := x | have y : Fixer := x); clear y; unfold x; clear x)
         | clear_value x)
    | split)

end Sys2Proof.Machine
end

