-- ==== Sys2Proof/Laws/KeptAper.lean ====
section
/-! SUPPORT. Every operation of Machine/Aper.lean keeps what `Kept` says. -/

set_option linter.unusedTactic false
set_option linter.unreachableTactic false
set_option linter.tactic.unusedName false

namespace Sys2Proof.Machine

theorem State.kept_modBeam {s0 s : State} (a1 : Nat) (a2 : Beam → Beam) (h : KeptBy s0 s) : KeptBy s0 (State.modBeam s a1 a2) := by
  unfold State.modBeam
  repeat' (first
    | with_reducible assumption
    | (extract_lets +onlyGivenNames x
       first
         | (refine kept_cut (s0 := s0) (x := x) ?_ (fun _ => ?_); (focus unfold x); on_goal 2 => clear_value x)
         | ((first | have y : Queue := x | have y : Fixer := x); clear y; unfold x; clear x)
         | clear_value x))

theorem State.kept_noteClamp {s0 s : State} (a1 : Nat) (a2 : Table) (a3 : Nat) (h : KeptBy s0 s) : KeptBy s0 (State.noteClamp s a1 a2 a3).1 := by
  unfold State.noteClamp
  repeat' (first
    | with_reducible assumption
    | with_reducible apply State.kept_setFlag
    | with_reducible apply State.kept_raise
    | with_reducible apply kept_ite
    | (extract_lets +onlyGivenNames x
       first
         | (refine kept_cut (s0 := s0) (x := x) ?_ (fun _ => ?_); (focus unfold x); on_goal 2 => clear_value x)
         | ((first | have y : Queue := x | have y : Fixer := x); clear y; unfold x; clear x)
         | clear_value x)
    | split)

theorem State.kept_noteClamp_eq {s0 s t : State} (a1 : Nat) (a2 : Table) (a3 : Nat) {x : Table} (e : State.noteClamp s a1 a2 a3 = (t, x)) (h : KeptBy s0 s) : KeptBy s0 t := by
  have := State.kept_noteClamp a1 a2 a3 h
  rwa [e] at this

theorem State.kept_noteWithheld {s0 s : State} (a1 : State) (h : KeptBy s0 s) : KeptBy s0 (State.noteWithheld s a1) := by
  unfold State.noteWithheld
  repeat' (first
    | with_reducible assumption
    | with_reducible apply State.kept_setFlag
    | with_reducible apply kept_ite
    | split)

theorem State.kept_beamBoundary {s0 s : State} (a1 : Nat) (h : KeptBy s0 s) : KeptBy s0 (State.beamBoundary s a1) := by
  unfold State.beamBoundary
  repeat' (first
    | with_reducible assumption
    | with_reducible apply State.kept_modBeam
    | with_reducible apply State.kept_noteClamp
    | with_reducible refine State.kept_noteClamp_eq (by with_reducible assumption) ?_
    | with_reducible apply State.kept_setTank
    | with_reducible apply State.kept_fogReads
    | with_reducible apply State.kept_setFlag
    | with_reducible apply State.kept_countSat
    | with_reducible apply kept_ite
    | (extract_lets +onlyGivenNames x
       first
         | (refine kept_cut (s0 := s0) (x := x) ?_ (fun _ => ?_); (focus unfold x); on_goal 2 => clear_value x)
         | ((first | have y : Queue := x | have y : Fixer := x); clear y; unfold x; clear x)
         | clear_value x)
    | split)

theorem State.kept_beamsBoundary {s0 s : State}  (h : KeptBy s0 s) : KeptBy s0 (State.beamsBoundary s) := by
  unfold State.beamsBoundary
  repeat' (first
    | with_reducible assumption
    | intro _
    | with_reducible apply State.kept_beamBoundary
    | with_reducible apply kept_foldl)

theorem State.kept_commitBeam {s0 s : State} (a1 : Nat) (h : KeptBy s0 s) : KeptBy s0 (State.commitBeam s a1) := by
  unfold State.commitBeam
  repeat' (first
    | with_reducible assumption
    | with_reducible apply State.kept_setFlag
    | with_reducible apply State.kept_modBeam
    | with_reducible apply kept_ite
    | (extract_lets +onlyGivenNames x
       first
         | (refine kept_cut (s0 := s0) (x := x) ?_ (fun _ => ?_); (focus unfold x); on_goal 2 => clear_value x)
         | ((first | have y : Queue := x | have y : Fixer := x); clear y; unfold x; clear x)
         | clear_value x)
    | split)

theorem State.kept_sampleAper {s0 s : State}  (h : KeptBy s0 s) : KeptBy s0 (State.sampleAper s) := by
  unfold State.sampleAper
  repeat' (first
    | with_reducible assumption
    | with_reducible apply kept_ite
    | (extract_lets +onlyGivenNames x
       first
         | (refine kept_cut (s0 := s0) (x := x) ?_ (fun _ => ?_); (focus unfold x); on_goal 2 => clear_value x)
         | ((first | have y : Queue := x | have y : Fixer := x); clear y; unfold x; clear x)
         | clear_value x)
    | split)

theorem State.kept_startFade {s0 s : State} (a1 : Nat) (h : KeptBy s0 s) : KeptBy s0 (State.startFade s a1) := by
  unfold State.startFade
  repeat' (first
    | with_reducible assumption
    | with_reducible apply State.kept_modBeam
    | (extract_lets +onlyGivenNames x
       first
         | (refine kept_cut (s0 := s0) (x := x) ?_ (fun _ => ?_); (focus unfold x); on_goal 2 => clear_value x)
         | ((first | have y : Queue := x | have y : Fixer := x); clear y; unfold x; clear x)
         | clear_value x)
    | split)

theorem State.kept_endFade {s0 s : State} (a1 : Nat) (h : KeptBy s0 s) : KeptBy s0 (State.endFade s a1) := by
  unfold State.endFade
  repeat' (first
    | with_reducible assumption
    | with_reducible apply State.kept_modBeam
    | with_reducible apply State.kept_setFlag
    | with_reducible apply State.kept_countWrap
    | with_reducible apply kept_ite
    | (extract_lets +onlyGivenNames x
       first
         | (refine kept_cut (s0 := s0) (x := x) ?_ (fun _ => ?_); (focus unfold x); on_goal 2 => clear_value x)
         | ((first | have y : Queue := x | have y : Fixer := x); clear y; unfold x; clear x)
         | clear_value x)
    | split)

theorem State.kept_applyScale {s0 s : State} (a1 : Nat) (h : KeptBy s0 s) : KeptBy s0 (State.applyScale s a1) := by
  unfold State.applyScale
  repeat' (first
    | with_reducible assumption
    | with_reducible apply kept_ite
    | (extract_lets +onlyGivenNames x
       first
         | (refine kept_cut (s0 := s0) (x := x) ?_ (fun _ => ?_); (focus unfold x); on_goal 2 => clear_value x)
         | ((first | have y : Queue := x | have y : Fixer := x); clear y; unfold x; clear x)
         | clear_value x)
    | split)

theorem State.kept_settleTables {s0 s : State}  (h : KeptBy s0 s) : KeptBy s0 (State.settleTables s) := by
  unfold State.settleTables
  repeat' (first
    | with_reducible assumption
    | with_reducible apply State.kept_setReg
    | (extract_lets +onlyGivenNames x
       first
         | (refine kept_cut (s0 := s0) (x := x) ?_ (fun _ => ?_); (focus unfold x); on_goal 2 => clear_value x)
         | ((first | have y : Queue := x | have y : Fixer := x); clear y; unfold x; clear x)
         | clear_value x)
    | split)

theorem State.kept_aperBegin {s0 s : State}  (h : KeptBy s0 s) : KeptBy s0 (State.aperBegin s) := by
  unfold State.aperBegin
  repeat' (first
    | with_reducible assumption
    | with_reducible apply State.kept_settleTables
    | (extract_lets +onlyGivenNames x
       first
         | (refine kept_cut (s0 := s0) (x := x) ?_ (fun _ => ?_); (focus unfold x); on_goal 2 => clear_value x)
         | ((first | have y : Queue := x | have y : Fixer := x); clear y; unfold x; clear x)
         | clear_value x))

theorem State.kept_strapAper {s0 s : State} (a1 : Bool) (h : KeptBy s0 s) : KeptBy s0 (State.strapAper s a1) := by
  unfold State.strapAper
  repeat' (first
    | with_reducible assumption
    | (extract_lets +onlyGivenNames x
       first
         | (refine kept_cut (s0 := s0) (x := x) ?_ (fun _ => ?_); (focus unfold x); on_goal 2 => clear_value x)
         | ((first | have y : Queue := x | have y : Fixer := x); clear y; unfold x; clear x)
         | clear_value x))

theorem State.kept_tableUpset {s0 s : State} (a1 : TableUpset) (h : KeptBy s0 s) : KeptBy s0 (State.tableUpset s a1) := by
  unfold State.tableUpset
  repeat' (first
    | with_reducible assumption
    | with_reducible apply State.kept_modBeam
    | with_reducible apply kept_ite
    | (extract_lets +onlyGivenNames x
       first
         | (refine kept_cut (s0 := s0) (x := x) ?_ (fun _ => ?_); (focus unfold x); on_goal 2 => clear_value x)
         | ((first | have y : Queue := x | have y : Fixer := x); clear y; unfold x; clear x)
         | clear_value x)
    | split)

theorem State.kept_checkTables {s0 s : State} (a0 : Bool) (a2 : Nat) (h : KeptBy s0 s) : KeptBy s0 (State.checkTables a0 s a2) := by
  unfold State.checkTables
  repeat' (first
    | with_reducible assumption
    | with_reducible apply State.kept_modBeam
    | with_reducible apply State.kept_setFlag
    | with_reducible apply State.kept_raise
    | with_reducible apply State.kept_fixerReport
    | (extract_lets +onlyGivenNames x
       first
         | (refine kept_cut (s0 := s0) (x := x) ?_ (fun _ => ?_); (focus unfold x); on_goal 2 => clear_value x)
         | ((first | have y : Queue := x | have y : Fixer := x); clear y; unfold x; clear x)
         | clear_value x)
    | split)

end Sys2Proof.Machine
end

