-- ==== Sys2Proof/Laws/KeptMx.lean ====
section
/-! SUPPORT. Every operation of Machine/Mx.lean keeps what `Kept` says. -/

set_option linter.unusedTactic false
set_option linter.unreachableTactic false
set_option linter.tactic.unusedName false

namespace Sys2Proof.Machine

theorem State.kept_openWindow {s0 s : State} (a1 : Epoch) (h : KeptBy s0 s) : KeptBy s0 (State.openWindow s a1) := by
  unfold State.openWindow
  repeat' (first
    | with_reducible assumption
    | with_reducible apply kept_ite
    | (extract_lets +onlyGivenNames x
       first
         | (refine kept_cut (s0 := s0) (x := x) ?_ (fun _ => ?_); (focus unfold x); on_goal 2 => clear_value x)
         | ((first | have y : Queue := x | have y : Fixer := x); clear y; unfold x; clear x)
         | clear_value x)
    | split)

theorem State.kept_closeWindow {s0 s : State}  (h : KeptBy s0 s) : KeptBy s0 (State.closeWindow s) := by
  unfold State.closeWindow
  repeat' (first
    | with_reducible assumption
    | (extract_lets +onlyGivenNames x
       first
         | (refine kept_cut (s0 := s0) (x := x) ?_ (fun _ => ?_); (focus unfold x); on_goal 2 => clear_value x)
         | ((first | have y : Queue := x | have y : Fixer := x); clear y; unfold x; clear x)
         | clear_value x)
    | split)

theorem State.kept_forgetDecisions {s0 s : State}  (h : KeptBy s0 s) : KeptBy s0 (State.forgetDecisions s) := by
  unfold State.forgetDecisions
  repeat' (first
    | with_reducible assumption
    | (extract_lets +onlyGivenNames x
       first
         | (refine kept_cut (s0 := s0) (x := x) ?_ (fun _ => ?_); (focus unfold x); on_goal 2 => clear_value x)
         | ((first | have y : Queue := x | have y : Fixer := x); clear y; unfold x; clear x)
         | clear_value x))

theorem State.kept_mxDecide {s0 s : State} (e : Epoch32) (n : Nat) (w g : Word) (h : KeptBy s0 s) :
    KeptBy s0 (State.mxDecide s e n w g).2 := by
  unfold State.mxDecide
  split
  · exact h
  · extract_lets t s1 keep
    have hs : KeptBy s0 s1 := State.kept_fogReads _ h
    clear_value s1
    have h1 : KeptBy s0 ((s1.setFlag Reg.MX_MX_STATUS 0).countSat Reg.MX_SKIP_COUNT) :=
      State.kept_countSat _ (State.kept_setFlag _ _ hs)
    dsimp only
    split
    · exact kept_ite h1 (State.kept_raise _ _ _ _ h1)
    · exact hs

theorem State.kept_mxEntry {s0 s : State} (e : Epoch32) (n : Nat) (w g : Word) (ws : List Word) (h : KeptBy s0 s) :
    KeptBy s0 (State.mxEntry s e n w g ws).1 := by
  unfold State.mxEntry
  have hd := State.kept_mxDecide e n w g h
  split
  · revert hd
    generalize State.mxDecide s e n w g = r
    intro hd
    obtain ⟨c, s1⟩ := r
    cases c with
    | none => exact hd
    | some c =>
      have h2 : KeptBy s0 (s1.countWrap Reg.MX_CONTRIB_COUNT) := State.kept_countWrap _ hd
      exact kept_ite (State.kept_countSat _ (State.kept_setFlag _ _ h2)) h2
  · exact h

theorem State.kept_mxEntries {s0 s : State} (e : Epoch32) (n : Nat) (ps : List (Word × Word)) (ws : List Word) (h : KeptBy s0 s) :
    KeptBy s0 (State.mxEntries s e n ps ws).1 := by
  induction ps generalizing s n ws with
  | nil => exact h
  | cons p ps ih =>
    unfold State.mxEntries
    exact ih _ _ (State.kept_mxEntry _ _ _ _ _ h)

theorem State.kept_listenField {s0 s : State} (x : Side) (ws : List Word) (check : Word) (h : KeptBy s0 s) :
    KeptBy s0 (State.listenField s x ws check) := by
  unfold State.listenField
  extract_lets ok s1 e
  have h1 : KeptBy s0 s1 := State.kept_judgeCheck _ _ _ h
  clear_value s1
  split
  rename_i s2 ws' eq
  have h2 : KeptBy s0 s2 := by
    split at eq
    · have := State.kept_mxEntries e 0 (s1.planFor e) ws h1
      rwa [eq] at this
    · cases eq
      exact h1
  exact State.kept_forwardField _ _ _ _ h2

theorem State.kept_mxArm {s0 s : State}  (h : KeptBy s0 s) : KeptBy s0 (State.mxArm s) := by
  unfold State.mxArm
  repeat' (first
    | with_reducible assumption
    | with_reducible apply State.kept_setFlag
    | with_reducible apply State.kept_raise
    | with_reducible apply kept_ite
    | (extract_lets +onlyGivenNames x
       first
         | (refine kept_cut (s0 := s0) (x := x) ?_ (fun _ => ?_); (focus unfold x); on_goal 2 => clear_value x)
         | ((first | have y : Queue := x | have y : Fixer := x); clear y; unfold x; clear x)
         | clear_value x)
    | split)

theorem State.kept_mxCancel {s0 s : State}  (h : KeptBy s0 s) : KeptBy s0 (State.mxCancel s) := by
  unfold State.mxCancel
  repeat' (first
    | with_reducible assumption
    | (extract_lets +onlyGivenNames x
       first
         | (refine kept_cut (s0 := s0) (x := x) ?_ (fun _ => ?_); (focus unfold x); on_goal 2 => clear_value x)
         | ((first | have y : Queue := x | have y : Fixer := x); clear y; unfold x; clear x)
         | clear_value x))

theorem State.kept_mxSwitch {s0 s : State}  (h : KeptBy s0 s) : KeptBy s0 (State.mxSwitch s) := by
  unfold State.mxSwitch
  repeat' (first
    | with_reducible assumption
    | with_reducible apply State.kept_setFlag
    | with_reducible apply State.kept_raise
    | (extract_lets +onlyGivenNames x
       first
         | (refine kept_cut (s0 := s0) (x := x) ?_ (fun _ => ?_); (focus unfold x); on_goal 2 => clear_value x)
         | ((first | have y : Queue := x | have y : Fixer := x); clear y; unfold x; clear x)
         | clear_value x)
    | split)

theorem State.kept_mxToSafe {s0 s : State}  (h : KeptBy s0 s) : KeptBy s0 (State.mxToSafe s) := by
  unfold State.mxToSafe
  repeat' (first
    | with_reducible assumption
    | with_reducible apply State.kept_setFlag
    | (extract_lets +onlyGivenNames x
       first
         | (refine kept_cut (s0 := s0) (x := x) ?_ (fun _ => ?_); (focus unfold x); on_goal 2 => clear_value x)
         | ((first | have y : Queue := x | have y : Fixer := x); clear y; unfold x; clear x)
         | clear_value x)
    | split)

theorem State.kept_planUpset {s0 s : State} (a1 : Nat) (a2 : Nat) (h : KeptBy s0 s) : KeptBy s0 (State.planUpset s a1 a2) := by
  unfold State.planUpset
  repeat' (first
    | with_reducible assumption
    | with_reducible apply kept_ite
    | (extract_lets +onlyGivenNames x
       first
         | (refine kept_cut (s0 := s0) (x := x) ?_ (fun _ => ?_); (focus unfold x); on_goal 2 => clear_value x)
         | ((first | have y : Queue := x | have y : Fixer := x); clear y; unfold x; clear x)
         | clear_value x)
    | split)

theorem State.kept_planParity {s0 s : State}  (h : KeptBy s0 s) : KeptBy s0 (State.planParity s) := by
  unfold State.planParity
  repeat' (first
    | with_reducible assumption
    | with_reducible apply State.kept_setFlag
    | with_reducible apply State.kept_raise
    | with_reducible apply State.kept_fixerReport
    | (extract_lets +onlyGivenNames x
       first
         | (refine kept_cut (s0 := s0) (x := x) ?_ (fun _ => ?_); (focus unfold x); on_goal 2 => clear_value x)
         | ((first | have y : Queue := x | have y : Fixer := x); clear y; unfold x; clear x)
         | clear_value x)
    | split)

theorem State.kept_strapMx {s0 s : State}  (h : KeptBy s0 s) : KeptBy s0 (State.strapMx s) := by
  unfold State.strapMx
  repeat' (first
    | with_reducible assumption
    | (extract_lets +onlyGivenNames x
       first
         | (refine kept_cut (s0 := s0) (x := x) ?_ (fun _ => ?_); (focus unfold x); on_goal 2 => clear_value x)
         | ((first | have y : Queue := x | have y : Fixer := x); clear y; unfold x; clear x)
         | clear_value x))

end Sys2Proof.Machine
end

