-- ==== Sys2Proof/Laws/KeptLatent.lean ====
section
/-! SUPPORT. Every operation of Machine/Latent.lean keeps what `Kept` says. -/

set_option linter.unusedTactic false
set_option linter.unreachableTactic false
set_option linter.tactic.unusedName false

namespace Sys2Proof.Machine

theorem State.kept_modRing {s0 s : State} (a1 : Bool) (a2 : Ring → Ring) (h : KeptBy s0 s) : KeptBy s0 (State.modRing s a1 a2) := by
  unfold State.modRing
  repeat' (first
    | with_reducible assumption
    | with_reducible apply kept_ite
    | (extract_lets +onlyGivenNames x
       first
         | (refine kept_cut (s0 := s0) (x := x) ?_ (fun _ => ?_); (focus unfold x); on_goal 2 => clear_value x)
         | ((first | have y : Queue := x | have y : Fixer := x); clear y; unfold x; clear x)
         | clear_value x)
    | split)

theorem State.kept_writeAnchor {s0 s : State} (a1 : Bool) (a2 : Epoch32) (h : KeptBy s0 s) : KeptBy s0 (State.writeAnchor s a1 a2) := by
  unfold State.writeAnchor
  repeat' (first
    | with_reducible assumption
    | with_reducible apply State.kept_setFlag
    | with_reducible apply State.kept_raise
    | with_reducible apply State.kept_setTankWords
    | with_reducible apply State.kept_modRing
    | with_reducible apply kept_ite
    | (extract_lets +onlyGivenNames x
       first
         | (refine kept_cut (s0 := s0) (x := x) ?_ (fun _ => ?_); (focus unfold x); on_goal 2 => clear_value x)
         | ((first | have y : Queue := x | have y : Fixer := x); clear y; unfold x; clear x)
         | clear_value x)
    | split)

theorem State.kept_anchorFor {s0 s : State} (a1 : Bool) (a2 : Epoch32) (a3 : Bool) (h : KeptBy s0 s) : KeptBy s0 (State.anchorFor s a1 a2 a3) := by
  unfold State.anchorFor
  repeat' (first
    | with_reducible assumption
    | with_reducible apply State.kept_modRing
    | with_reducible apply State.kept_writeAnchor
    | with_reducible apply kept_ite
    | (extract_lets +onlyGivenNames x
       first
         | (refine kept_cut (s0 := s0) (x := x) ?_ (fun _ => ?_); (focus unfold x); on_goal 2 => clear_value x)
         | ((first | have y : Queue := x | have y : Fixer := x); clear y; unfold x; clear x)
         | clear_value x)
    | split)

theorem State.kept_writeCell {s0 s : State} (a1 : Bool) (h : KeptBy s0 s) : KeptBy s0 (State.writeCell s a1) := by
  unfold State.writeCell
  repeat' (first
    | with_reducible assumption
    | with_reducible apply State.kept_anchorFor
    | with_reducible apply State.kept_setTank
    | with_reducible apply State.kept_modRing
    | with_reducible apply kept_ite
    | (extract_lets +onlyGivenNames x
       first
         | (refine kept_cut (s0 := s0) (x := x) ?_ (fun _ => ?_); (focus unfold x); on_goal 2 => clear_value x)
         | ((first | have y : Queue := x | have y : Fixer := x); clear y; unfold x; clear x)
         | clear_value x)
    | split)

theorem State.kept_writeSet {s0 s : State}  (h : KeptBy s0 s) : KeptBy s0 (State.writeSet s) := by
  unfold State.writeSet
  repeat' (first
    | with_reducible assumption
    | with_reducible apply State.kept_modRing
    | with_reducible apply State.kept_anchorFor
    | with_reducible apply State.kept_setTankWords
    | with_reducible apply kept_ite
    | (extract_lets +onlyGivenNames x
       first
         | (refine kept_cut (s0 := s0) (x := x) ?_ (fun _ => ?_); (focus unfold x); on_goal 2 => clear_value x)
         | ((first | have y : Queue := x | have y : Fixer := x); clear y; unfold x; clear x)
         | clear_value x)
    | split)

theorem State.kept_armFreeze {s0 s : State} (a1 : Bool) (a2 : Nat) (h : KeptBy s0 s) : KeptBy s0 (State.armFreeze s a1 a2).1 := by
  unfold State.armFreeze
  repeat' (first
    | with_reducible assumption
    | with_reducible apply State.kept_modRing
    | with_reducible apply kept_ite
    | (extract_lets +onlyGivenNames x
       first
         | (refine kept_cut (s0 := s0) (x := x) ?_ (fun _ => ?_); (focus unfold x); on_goal 2 => clear_value x)
         | ((first | have y : Queue := x | have y : Fixer := x); clear y; unfold x; clear x)
         | clear_value x)
    | split)

theorem State.kept_armFreeze_eq {s0 s t : State} (a1 : Bool) (a2 : Nat) {x : Bool} (e : State.armFreeze s a1 a2 = (t, x)) (h : KeptBy s0 s) : KeptBy s0 t := by
  have := State.kept_armFreeze a1 a2 h
  rwa [e] at this

theorem State.kept_writeRecord {s0 s : State} (a1 : LogEntry) (a2 : Nat) (h : KeptBy s0 s) : KeptBy s0 (State.writeRecord s a1 a2) := by
  unfold State.writeRecord
  repeat' (first
    | with_reducible assumption
    | with_reducible apply State.kept_armFreeze
    | with_reducible refine State.kept_armFreeze_eq (by with_reducible assumption) ?_
    | with_reducible apply State.kept_setTankWords
    | with_reducible apply State.kept_setFlag
    | with_reducible apply State.kept_countWrap
    | with_reducible apply kept_ite
    | (extract_lets +onlyGivenNames x
       first
         | (refine kept_cut (s0 := s0) (x := x) ?_ (fun _ => ?_); (focus unfold x); on_goal 2 => clear_value x)
         | ((first | have y : Queue := x | have y : Fixer := x); clear y; unfold x; clear x)
         | clear_value x)
    | split)

theorem State.kept_writeRecords {s0 s : State}  (h : KeptBy s0 s) : KeptBy s0 (State.writeRecords s) := by
  unfold State.writeRecords
  repeat' (first
    | with_reducible assumption
    | intro _
    | with_reducible apply State.kept_writeRecord
    | with_reducible apply kept_ite
    | with_reducible apply kept_foldl
    | (extract_lets +onlyGivenNames x
       first
         | (refine kept_cut (s0 := s0) (x := x) ?_ (fun _ => ?_); (focus unfold x); on_goal 2 => clear_value x)
         | ((first | have y : Queue := x | have y : Fixer := x); clear y; unfold x; clear x)
         | clear_value x)
    | split)

theorem State.kept_freeze {s0 s : State} (a1 : Bool) (h : KeptBy s0 s) : KeptBy s0 (State.freeze s a1) := by
  unfold State.freeze
  repeat' (first
    | with_reducible assumption
    | with_reducible apply State.kept_modRing
    | with_reducible apply State.kept_setFlag
    | with_reducible apply State.kept_raise
    | with_reducible apply kept_ite
    | (extract_lets +onlyGivenNames x
       first
         | (refine kept_cut (s0 := s0) (x := x) ?_ (fun _ => ?_); (focus unfold x); on_goal 2 => clear_value x)
         | ((first | have y : Queue := x | have y : Fixer := x); clear y; unfold x; clear x)
         | clear_value x)
    | split)

theorem State.kept_release {s0 s : State} (a1 : Bool) (a2 : Bool) (h : KeptBy s0 s) : KeptBy s0 (State.release s a1 a2) := by
  unfold State.release
  repeat' (first
    | with_reducible assumption
    | with_reducible apply State.kept_modRing
    | with_reducible apply State.kept_raise
    | with_reducible apply kept_ite
    | (extract_lets +onlyGivenNames x
       first
         | (refine kept_cut (s0 := s0) (x := x) ?_ (fun _ => ?_); (focus unfold x); on_goal 2 => clear_value x)
         | ((first | have y : Queue := x | have y : Fixer := x); clear y; unfold x; clear x)
         | clear_value x)
    | split)

theorem State.kept_autoRelease {s0 s : State}  (h : KeptBy s0 s) : KeptBy s0 (State.autoRelease s) := by
  unfold State.autoRelease
  repeat' (first
    | with_reducible assumption
    | with_reducible apply State.kept_release
    | with_reducible apply kept_ite
    | split)

theorem State.kept_emptyD {s0 s : State}  (h : KeptBy s0 s) : KeptBy s0 (State.emptyD s) := by
  unfold State.emptyD
  repeat' (first
    | with_reducible assumption
    | with_reducible apply State.kept_modRing
    | (extract_lets +onlyGivenNames x
       first
         | (refine kept_cut (s0 := s0) (x := x) ?_ (fun _ => ?_); (focus unfold x); on_goal 2 => clear_value x)
         | ((first | have y : Queue := x | have y : Fixer := x); clear y; unfold x; clear x)
         | clear_value x))

theorem State.kept_startRunD {s0 s : State}  (h : KeptBy s0 s) : KeptBy s0 (State.startRunD s) := by
  unfold State.startRunD
  repeat' (first
    | with_reducible assumption
    | with_reducible apply State.kept_emptyD
    | with_reducible apply State.kept_modRing
    | (extract_lets +onlyGivenNames x
       first
         | (refine kept_cut (s0 := s0) (x := x) ?_ (fun _ => ?_); (focus unfold x); on_goal 2 => clear_value x)
         | ((first | have y : Queue := x | have y : Fixer := x); clear y; unfold x; clear x)
         | clear_value x))

theorem State.kept_stitch {s0 s : State} (a1 : Epoch) (a2 : Epoch) (a3 : Epoch) (a4 : Nat) (h : KeptBy s0 s) : KeptBy s0 (State.stitch s a1 a2 a3 a4) := by
  unfold State.stitch
  repeat' (first
    | with_reducible assumption
    | with_reducible apply State.kept_setTank
    | with_reducible apply State.kept_setTankWords
    | with_reducible apply kept_ite
    | (extract_lets +onlyGivenNames x
       first
         | (refine kept_cut (s0 := s0) (x := x) ?_ (fun _ => ?_); (focus unfold x); on_goal 2 => clear_value x)
         | ((first | have y : Queue := x | have y : Fixer := x); clear y; unfold x; clear x)
         | clear_value x)
    | split)

theorem State.kept_latentToDay {s0 s : State} (a1 : Bool) (h : KeptBy s0 s) : KeptBy s0 (State.latentToDay s a1) := by
  unfold State.latentToDay
  repeat' (first
    | with_reducible assumption
    | intro _
    | with_reducible apply State.kept_emptyD
    | with_reducible apply State.kept_stitch
    | with_reducible apply kept_ite
    | with_reducible apply kept_foldl
    | (extract_lets +onlyGivenNames x
       first
         | (refine kept_cut (s0 := s0) (x := x) ?_ (fun _ => ?_); (focus unfold x); on_goal 2 => clear_value x)
         | ((first | have y : Queue := x | have y : Fixer := x); clear y; unfold x; clear x)
         | clear_value x)
    | split)

theorem State.kept_reachJoin {s0 s : State}  (h : KeptBy s0 s) : KeptBy s0 (State.reachJoin s) := by
  unfold State.reachJoin
  repeat' (first
    | with_reducible assumption
    | intro _
    | with_reducible apply State.kept_setTank
    | with_reducible apply kept_ite
    | with_reducible apply kept_foldl
    | (extract_lets +onlyGivenNames x
       first
         | (refine kept_cut (s0 := s0) (x := x) ?_ (fun _ => ?_); (focus unfold x); on_goal 2 => clear_value x)
         | ((first | have y : Queue := x | have y : Fixer := x); clear y; unfold x; clear x)
         | clear_value x)
    | split)

theorem State.kept_fillPreroll {s0 s : State}  (h : KeptBy s0 s) : KeptBy s0 (State.fillPreroll s) := by
  unfold State.fillPreroll
  repeat' (first
    | with_reducible assumption
    | with_reducible apply State.kept_setFlag
    | with_reducible apply State.kept_raise
    | (extract_lets +onlyGivenNames x
       first
         | (refine kept_cut (s0 := s0) (x := x) ?_ (fun _ => ?_); (focus unfold x); on_goal 2 => clear_value x)
         | ((first | have y : Queue := x | have y : Fixer := x); clear y; unfold x; clear x)
         | clear_value x)
    | split)

theorem State.kept_gapMark {s0 s : State}  (h : KeptBy s0 s) : KeptBy s0 (State.gapMark s) := by
  unfold State.gapMark
  repeat' (first
    | with_reducible assumption
    | with_reducible apply State.kept_modRing
    | (extract_lets +onlyGivenNames x
       first
         | (refine kept_cut (s0 := s0) (x := x) ?_ (fun _ => ?_); (focus unfold x); on_goal 2 => clear_value x)
         | ((first | have y : Queue := x | have y : Fixer := x); clear y; unfold x; clear x)
         | clear_value x))

theorem State.kept_strapLatent {s0 s : State}  (h : KeptBy s0 s) : KeptBy s0 (State.strapLatent s) := by
  unfold State.strapLatent
  repeat' (first
    | with_reducible assumption
    | intro _
    | with_reducible apply State.kept_setTank
    | with_reducible apply kept_foldl
    | (extract_lets +onlyGivenNames x
       first
         | (refine kept_cut (s0 := s0) (x := x) ?_ (fun _ => ?_); (focus unfold x); on_goal 2 => clear_value x)
         | ((first | have y : Queue := x | have y : Fixer := x); clear y; unfold x; clear x)
         | clear_value x))

end Sys2Proof.Machine
end

