-- ==== Sys2Proof/Laws/KeptSheet.lean ====
section
/-! SUPPORT. Every operation of Machine/Sheet.lean keeps what `Kept` says. -/

set_option linter.unusedTactic false
set_option linter.unreachableTactic false
set_option linter.tactic.unusedName false

namespace Sys2Proof.Machine

theorem State.kept_dropReq {s0 s : State} (a1 : Nat) (h : KeptBy s0 s) : KeptBy s0 (State.dropReq s a1) := by
  unfold State.dropReq
  repeat' (first
    | with_reducible assumption
    | (extract_lets +onlyGivenNames x
       first
         | (refine kept_cut (s0 := s0) (x := x) ?_ (fun _ => ?_); (focus unfold x); on_goal 2 => clear_value x)
         | ((first | have y : Queue := x | have y : Fixer := x); clear y; unfold x; clear x)
         | clear_value x))

theorem State.kept_tplUe {s0 s : State} (a1 : Nat) (a2 : Nat) (h : KeptBy s0 s) : KeptBy s0 (State.tplUe s a1 a2) := by
  unfold State.tplUe
  repeat' (first
    | with_reducible assumption
    | with_reducible apply State.kept_noteUe)

theorem State.kept_tplUnreadable {s0 s : State} (a1 : Nat) (a2 : Nat) (h : KeptBy s0 s) : KeptBy s0 (State.tplUnreadable s a1 a2) := by
  unfold State.tplUnreadable
  repeat' (first
    | with_reducible assumption
    | with_reducible apply State.kept_setFlag
    | with_reducible apply State.kept_raise
    | with_reducible apply State.kept_fixerReport)

theorem State.kept_requestEnable {s0 s : State} (a1 : Nat) (h : KeptBy s0 s) : KeptBy s0 (State.requestEnable s a1) := by
  unfold State.requestEnable
  repeat' (first
    | with_reducible assumption
    | with_reducible apply State.kept_dropReq
    | with_reducible apply State.kept_fogReads
    | with_reducible apply State.kept_tplUe
    | with_reducible apply State.kept_tplUnreadable
    | with_reducible apply State.kept_setFlag
    | with_reducible apply State.kept_raise
    | with_reducible apply kept_ite
    | (extract_lets +onlyGivenNames x
       first
         | (refine kept_cut (s0 := s0) (x := x) ?_ (fun _ => ?_); (focus unfold x); on_goal 2 => clear_value x)
         | ((first | have y : Queue := x | have y : Fixer := x); clear y; unfold x; clear x)
         | clear_value x)
    | split)

theorem State.kept_requestDisable {s0 s : State} (a1 : Nat) (h : KeptBy s0 s) : KeptBy s0 (State.requestDisable s a1) := by
  unfold State.requestDisable
  repeat' (first
    | with_reducible assumption
    | (extract_lets +onlyGivenNames x
       first
         | (refine kept_cut (s0 := s0) (x := x) ?_ (fun _ => ?_); (focus unfold x); on_goal 2 => clear_value x)
         | ((first | have y : Queue := x | have y : Fixer := x); clear y; unfold x; clear x)
         | clear_value x))

theorem State.kept_dropPairs {s0 s : State} (a1 : Nat) (h : KeptBy s0 s) : KeptBy s0 (State.dropPairs s a1) := by
  unfold State.dropPairs
  repeat' (first
    | with_reducible assumption
    | (extract_lets +onlyGivenNames x
       first
         | (refine kept_cut (s0 := s0) (x := x) ?_ (fun _ => ?_); (focus unfold x); on_goal 2 => clear_value x)
         | ((first | have y : Queue := x | have y : Fixer := x); clear y; unfold x; clear x)
         | clear_value x))

theorem State.kept_disable {s0 s : State} (a1 : Nat) (h : KeptBy s0 s) : KeptBy s0 (State.disable s a1) := by
  unfold State.disable
  repeat' (first
    | with_reducible assumption
    | with_reducible apply State.kept_dropPairs
    | (extract_lets +onlyGivenNames x
       first
         | (refine kept_cut (s0 := s0) (x := x) ?_ (fun _ => ?_); (focus unfold x); on_goal 2 => clear_value x)
         | ((first | have y : Queue := x | have y : Fixer := x); clear y; unfold x; clear x)
         | clear_value x))

theorem State.kept_applyRequests {s0 s : State}  (h : KeptBy s0 s) : KeptBy s0 (State.applyRequests s) := by
  unfold State.applyRequests
  repeat' (first
    | with_reducible assumption
    | intro _
    | with_reducible apply State.kept_disable
    | with_reducible apply kept_ite
    | with_reducible apply kept_foldl
    | (extract_lets +onlyGivenNames x
       first
         | (refine kept_cut (s0 := s0) (x := x) ?_ (fun _ => ?_); (focus unfold x); on_goal 2 => clear_value x)
         | ((first | have y : Queue := x | have y : Fixer := x); clear y; unfold x; clear x)
         | clear_value x)
    | split)

theorem State.kept_templateEcc {s0 s : State} (a1 : Nat) (a2 : Nat) (h : KeptBy s0 s) : KeptBy s0 (State.templateEcc s a1 a2) := by
  unfold State.templateEcc
  repeat' (first
    | with_reducible assumption
    | with_reducible apply State.kept_disable
    | with_reducible apply State.kept_tplUnreadable
    | with_reducible apply kept_ite
    | split)

theorem State.kept_tplStrike {s0 s : State} (a1 : Nat) (a2 : Nat) (h : KeptBy s0 s) : KeptBy s0 (State.tplStrike s a1 a2) := by
  unfold State.tplStrike
  repeat' (first
    | with_reducible assumption
    | with_reducible apply State.kept_eccClear
    | (extract_lets +onlyGivenNames x
       first
         | (refine kept_cut (s0 := s0) (x := x) ?_ (fun _ => ?_); (focus unfold x); on_goal 2 => clear_value x)
         | ((first | have y : Queue := x | have y : Fixer := x); clear y; unfold x; clear x)
         | clear_value x))

theorem State.kept_noteWake {s0 s : State} (a1 : Nat) (h : KeptBy s0 s) : KeptBy s0 (State.noteWake s a1) := by
  unfold State.noteWake
  repeat' (first
    | with_reducible assumption
    | with_reducible apply State.kept_setFlag
    | with_reducible apply State.kept_countWrap
    | with_reducible apply kept_ite
    | (extract_lets +onlyGivenNames x
       first
         | (refine kept_cut (s0 := s0) (x := x) ?_ (fun _ => ?_); (focus unfold x); on_goal 2 => clear_value x)
         | ((first | have y : Queue := x | have y : Fixer := x); clear y; unfold x; clear x)
         | clear_value x)
    | split)

theorem State.kept_raiseWake {s0 s : State} (a1 : Bool) (a2 : Nat) (a3 : Nat) (a4 : Nat) (a5 : Word) (a6 : Word) (h : KeptBy s0 s) : KeptBy s0 (State.raiseWake s a1 a2 a3 a4 a5 a6) := by
  unfold State.raiseWake
  repeat' (first
    | with_reducible assumption
    | with_reducible apply kept_ite
    | (extract_lets +onlyGivenNames x
       first
         | (refine kept_cut (s0 := s0) (x := x) ?_ (fun _ => ?_); (focus unfold x); on_goal 2 => clear_value x)
         | ((first | have y : Queue := x | have y : Fixer := x); clear y; unfold x; clear x)
         | clear_value x)
    | split)

theorem State.kept_putPair {s0 s : State} (a1 : Pair) (h : KeptBy s0 s) : KeptBy s0 (State.putPair s a1) := by
  unfold State.putPair
  repeat' (first
    | with_reducible assumption
    | (extract_lets +onlyGivenNames x
       first
         | (refine kept_cut (s0 := s0) (x := x) ?_ (fun _ => ?_); (focus unfold x); on_goal 2 => clear_value x)
         | ((first | have y : Queue := x | have y : Fixer := x); clear y; unfold x; clear x)
         | clear_value x))

theorem State.kept_reportMatch {s0 s : State} (a1 : Nat) (a2 : Nat) (a3 : Cand) (h : KeptBy s0 s) : KeptBy s0 (State.reportMatch s a1 a2 a3) := by
  unfold State.reportMatch
  repeat' (first
    | with_reducible assumption
    | with_reducible apply State.kept_noteWake
    | with_reducible apply State.kept_setFlag
    | with_reducible apply State.kept_countWrap
    | with_reducible apply State.kept_raiseWake
    | with_reducible apply State.kept_putPair
    | (extract_lets +onlyGivenNames x
       first
         | (refine kept_cut (s0 := s0) (x := x) ?_ (fun _ => ?_); (focus unfold x); on_goal 2 => clear_value x)
         | ((first | have y : Queue := x | have y : Fixer := x); clear y; unfold x; clear x)
         | clear_value x))

theorem State.kept_consumeFrame {s0 s : State} (a1 : Nat) (a2 : Nat) (a3 : List Nat) (a4 : Epoch32) (h : KeptBy s0 s) : KeptBy s0 (State.consumeFrame s a1 a2 a3 a4) := by
  unfold State.consumeFrame
  repeat' (first
    | with_reducible assumption
    | with_reducible apply State.kept_putPair
    | with_reducible apply State.kept_reportMatch
    | with_reducible apply kept_ite
    | (extract_lets +onlyGivenNames x
       first
         | (refine kept_cut (s0 := s0) (x := x) ?_ (fun _ => ?_); (focus unfold x); on_goal 2 => clear_value x)
         | ((first | have y : Queue := x | have y : Fixer := x); clear y; unfold x; clear x)
         | clear_value x)
    | split)

theorem State.kept_abandon {s0 s : State} (a1 : Nat) (a2 : Nat) (h : KeptBy s0 s) : KeptBy s0 (State.abandon s a1 a2) := by
  unfold State.abandon
  repeat' (first
    | with_reducible assumption
    | intro _
    | with_reducible apply State.kept_reportMatch
    | with_reducible apply State.kept_setFlag
    | with_reducible apply State.kept_countSat
    | with_reducible apply State.kept_raise
    | with_reducible apply kept_ite
    | with_reducible apply kept_foldl
    | (extract_lets +onlyGivenNames x
       first
         | (refine kept_cut (s0 := s0) (x := x) ?_ (fun _ => ?_); (focus unfold x); on_goal 2 => clear_value x)
         | ((first | have y : Queue := x | have y : Fixer := x); clear y; unfold x; clear x)
         | clear_value x)
    | split)

theorem State.kept_payOwed {s0 s : State} (a1 : Nat) (h : KeptBy s0 s) : KeptBy s0 (State.payOwed s a1) := by
  unfold State.payOwed
  repeat' (first
    | with_reducible assumption
    | intro _
    | with_reducible apply State.kept_abandon
    | with_reducible apply kept_ite
    | with_reducible apply kept_foldl
    | (extract_lets +onlyGivenNames x
       first
         | (refine kept_cut (s0 := s0) (x := x) ?_ (fun _ => ?_); (focus unfold x); on_goal 2 => clear_value x)
         | ((first | have y : Queue := x | have y : Fixer := x); clear y; unfold x; clear x)
         | clear_value x)
    | split)

theorem State.kept_abandonInvalid {s0 s : State} (a1 : Nat) (h : KeptBy s0 s) : KeptBy s0 (State.abandonInvalid s a1) := by
  unfold State.abandonInvalid
  repeat' (first
    | with_reducible assumption
    | with_reducible apply State.kept_abandon
    | with_reducible apply kept_ite
    | split)

theorem State.kept_updateDrain {s0 s : State}  (h : KeptBy s0 s) : KeptBy s0 (State.updateDrain s) := by
  unfold State.updateDrain
  repeat' (first
    | with_reducible assumption
    | with_reducible apply kept_ite
    | (extract_lets +onlyGivenNames x
       first
         | (refine kept_cut (s0 := s0) (x := x) ?_ (fun _ => ?_); (focus unfold x); on_goal 2 => clear_value x)
         | ((first | have y : Queue := x | have y : Fixer := x); clear y; unfold x; clear x)
         | clear_value x)
    | split)

theorem State.kept_endDrain {s0 s : State}  (h : KeptBy s0 s) : KeptBy s0 (State.endDrain s) := by
  unfold State.endDrain
  repeat' (first
    | with_reducible assumption
    | with_reducible apply State.kept_setFlag
    | with_reducible apply kept_ite
    | (extract_lets +onlyGivenNames x
       first
         | (refine kept_cut (s0 := s0) (x := x) ?_ (fun _ => ?_); (focus unfold x); on_goal 2 => clear_value x)
         | ((first | have y : Queue := x | have y : Fixer := x); clear y; unfold x; clear x)
         | clear_value x)
    | split)

theorem State.kept_applyRun {s0 s : State}  (h : KeptBy s0 s) : KeptBy s0 (State.applyRun s) := by
  unfold State.applyRun
  repeat' (first
    | with_reducible assumption
    | with_reducible apply kept_ite
    | (extract_lets +onlyGivenNames x
       first
         | (refine kept_cut (s0 := s0) (x := x) ?_ (fun _ => ?_); (focus unfold x); on_goal 2 => clear_value x)
         | ((first | have y : Queue := x | have y : Fixer := x); clear y; unfold x; clear x)
         | clear_value x)
    | split)

theorem State.kept_featureFrame {s0 s : State} (a1 : Nat) (a2 : List Int) (h : KeptBy s0 s) : KeptBy s0 (State.featureFrame s a1 a2) := by
  unfold State.featureFrame
  repeat' (first
    | with_reducible assumption
    | intro _
    | with_reducible apply State.kept_abandon
    | with_reducible apply State.kept_fogReads
    | with_reducible apply State.kept_tplUe
    | with_reducible apply State.kept_templateEcc
    | with_reducible apply State.kept_consumeFrame
    | with_reducible apply kept_ite
    | with_reducible apply kept_foldl
    | (extract_lets +onlyGivenNames x
       first
         | (refine kept_cut (s0 := s0) (x := x) ?_ (fun _ => ?_); (focus unfold x); on_goal 2 => clear_value x)
         | ((first | have y : Queue := x | have y : Fixer := x); clear y; unfold x; clear x)
         | clear_value x)
    | split)

theorem State.kept_loseTemplates {s0 s : State} (a1 : Nat → Bool) (h : KeptBy s0 s) : KeptBy s0 (State.loseTemplates s a1) := by
  unfold State.loseTemplates
  repeat' (first
    | with_reducible assumption
    | intro _
    | with_reducible apply State.kept_disable
    | with_reducible apply State.kept_setFlag
    | with_reducible apply State.kept_raise
    | with_reducible apply kept_foldl
    | (extract_lets +onlyGivenNames x
       first
         | (refine kept_cut (s0 := s0) (x := x) ?_ (fun _ => ?_); (focus unfold x); on_goal 2 => clear_value x)
         | ((first | have y : Queue := x | have y : Fixer := x); clear y; unfold x; clear x)
         | clear_value x))

theorem State.kept_strapSheet {s0 s : State}  (h : KeptBy s0 s) : KeptBy s0 (State.strapSheet s) := by
  unfold State.strapSheet
  repeat' (first
    | with_reducible assumption
    | (extract_lets +onlyGivenNames x
       first
         | (refine kept_cut (s0 := s0) (x := x) ?_ (fun _ => ?_); (focus unfold x); on_goal 2 => clear_value x)
         | ((first | have y : Queue := x | have y : Fixer := x); clear y; unfold x; clear x)
         | clear_value x))

theorem State.kept_sampleSheet {s0 s : State}  (h : KeptBy s0 s) : KeptBy s0 (State.sampleSheet s) := by
  unfold State.sampleSheet
  repeat' (first
    | with_reducible assumption
    | (extract_lets +onlyGivenNames x
       first
         | (refine kept_cut (s0 := s0) (x := x) ?_ (fun _ => ?_); (focus unfold x); on_goal 2 => clear_value x)
         | ((first | have y : Queue := x | have y : Fixer := x); clear y; unfold x; clear x)
         | clear_value x))

theorem State.kept_latchFeat {s0 s : State}  (h : KeptBy s0 s) : KeptBy s0 (State.latchFeat s) := by
  unfold State.latchFeat
  repeat' (first
    | with_reducible assumption
    | with_reducible apply kept_ite
    | (extract_lets +onlyGivenNames x
       first
         | (refine kept_cut (s0 := s0) (x := x) ?_ (fun _ => ?_); (focus unfold x); on_goal 2 => clear_value x)
         | ((first | have y : Queue := x | have y : Fixer := x); clear y; unfold x; clear x)
         | clear_value x)
    | split)

theorem State.kept_resetScore {s0 s : State}  (h : KeptBy s0 s) : KeptBy s0 (State.resetScore s) := by
  unfold State.resetScore
  repeat' (first
    | with_reducible assumption
    | (extract_lets +onlyGivenNames x
       first
         | (refine kept_cut (s0 := s0) (x := x) ?_ (fun _ => ?_); (focus unfold x); on_goal 2 => clear_value x)
         | ((first | have y : Queue := x | have y : Fixer := x); clear y; unfold x; clear x)
         | clear_value x))

end Sys2Proof.Machine
end

