-- ==== Sys2Proof/Laws/KeptDev.lean ====
section
/-! SUPPORT. Every operation of Machine/Dev.lean keeps what `Kept` says. -/

set_option linter.unusedTactic false
set_option linter.unreachableTactic false
set_option linter.tactic.unusedName false

namespace Sys2Proof.Machine

theorem State.kept_modStream {s0 s : State} (a1 : Nat) (a2 : Stream → Stream) (h : KeptBy s0 s) : KeptBy s0 (State.modStream s a1 a2) := by
  unfold State.modStream
  repeat' (first
    | with_reducible assumption
    | (extract_lets +onlyGivenNames x
       first
         | (refine kept_cut (s0 := s0) (x := x) ?_ (fun _ => ?_); (focus unfold x); on_goal 2 => clear_value x)
         | ((first | have y : Queue := x | have y : Fixer := x); clear y; unfold x; clear x)
         | clear_value x))

theorem State.kept_sampleDev {s0 s : State}  (h : KeptBy s0 s) : KeptBy s0 (State.sampleDev s) := by
  unfold State.sampleDev
  repeat' (first
    | with_reducible assumption
    | with_reducible apply kept_ite
    | (extract_lets +onlyGivenNames x
       first
         | (refine kept_cut (s0 := s0) (x := x) ?_ (fun _ => ?_); (focus unfold x); on_goal 2 => clear_value x)
         | ((first | have y : Queue := x | have y : Fixer := x); clear y; unfold x; clear x)
         | clear_value x)
    | split)

theorem State.kept_countSample {s0 s : State} (a1 : Nat) (a2 : Bool) (h : KeptBy s0 s) : KeptBy s0 (State.countSample s a1 a2) := by
  unfold State.countSample
  repeat' (first
    | with_reducible assumption
    | with_reducible apply kept_ite
    | (extract_lets +onlyGivenNames x
       first
         | (refine kept_cut (s0 := s0) (x := x) ?_ (fun _ => ?_); (focus unfold x); on_goal 2 => clear_value x)
         | ((first | have y : Queue := x | have y : Fixer := x); clear y; unfold x; clear x)
         | clear_value x)
    | split)

theorem State.kept_takeSample {s0 s : State} (a1 : Nat) (a2 : Int) (a3 : Bool) (h : KeptBy s0 s) : KeptBy s0 (State.takeSample s a1 a2 a3) := by
  unfold State.takeSample
  repeat' (first
    | with_reducible assumption
    | with_reducible apply State.kept_countSample
    | (extract_lets +onlyGivenNames x
       first
         | (refine kept_cut (s0 := s0) (x := x) ?_ (fun _ => ?_); (focus unfold x); on_goal 2 => clear_value x)
         | ((first | have y : Queue := x | have y : Fixer := x); clear y; unfold x; clear x)
         | clear_value x)
    | with_reducible apply kept_write32
    | with_reducible apply kept_keep
    | with_reducible apply kept_erase)

theorem State.kept_countSamples {s0 s : State}  (h : KeptBy s0 s) : KeptBy s0 (State.countSamples s) := by
  unfold State.countSamples
  repeat' (first
    | with_reducible assumption
    | intro _
    | with_reducible apply State.kept_takeSample
    | with_reducible apply kept_foldl
    | (extract_lets +onlyGivenNames x
       first
         | (refine kept_cut (s0 := s0) (x := x) ?_ (fun _ => ?_); (focus unfold x); on_goal 2 => clear_value x)
         | ((first | have y : Queue := x | have y : Fixer := x); clear y; unfold x; clear x)
         | clear_value x))

theorem State.kept_countWatch {s0 s : State}  (h : KeptBy s0 s) : KeptBy s0 (State.countWatch s) := by
  unfold State.countWatch
  repeat' (first
    | with_reducible assumption
    | with_reducible apply State.kept_takeSample)

theorem State.kept_breakRuns {s0 s : State}  (h : KeptBy s0 s) : KeptBy s0 (State.breakRuns s) := by
  unfold State.breakRuns
  repeat' (first
    | with_reducible assumption
    | (extract_lets +onlyGivenNames x
       first
         | (refine kept_cut (s0 := s0) (x := x) ?_ (fun _ => ?_); (focus unfold x); on_goal 2 => clear_value x)
         | ((first | have y : Queue := x | have y : Fixer := x); clear y; unfold x; clear x)
         | clear_value x))

theorem State.kept_fogEnded {s0 s : State} (a1 : Nat) (a2 : Bool) (h : KeptBy s0 s) : KeptBy s0 (State.fogEnded s a1 a2) := by
  unfold State.fogEnded
  repeat' (first
    | with_reducible assumption
    | with_reducible apply State.kept_setFlag
    | with_reducible apply State.kept_raise)

theorem State.kept_fogStart {s0 s : State} (a1 : Nat) (a2 : Nat) (h : KeptBy s0 s) : KeptBy s0 (State.fogStart s a1 a2) := by
  unfold State.fogStart
  repeat' (first
    | with_reducible assumption
    | with_reducible apply State.kept_modStream
    | with_reducible apply State.kept_raise
    | (extract_lets +onlyGivenNames x
       first
         | (refine kept_cut (s0 := s0) (x := x) ?_ (fun _ => ?_); (focus unfold x); on_goal 2 => clear_value x)
         | ((first | have y : Queue := x | have y : Fixer := x); clear y; unfold x; clear x)
         | clear_value x))

theorem State.kept_updateFloors {s0 s : State} (a1 : Nat) (a2 : List Int) (h : KeptBy s0 s) : KeptBy s0 (State.updateFloors s a1 a2) := by
  unfold State.updateFloors
  repeat' (first
    | with_reducible assumption
    | with_reducible apply State.kept_modStream
    | with_reducible apply State.kept_fogEnded
    | with_reducible apply State.kept_setFlag
    | with_reducible apply State.kept_fogStart
    | with_reducible apply kept_ite
    | (extract_lets +onlyGivenNames x
       first
         | (refine kept_cut (s0 := s0) (x := x) ?_ (fun _ => ?_); (focus unfold x); on_goal 2 => clear_value x)
         | ((first | have y : Queue := x | have y : Fixer := x); clear y; unfold x; clear x)
         | clear_value x)
    | split)

theorem State.kept_endActivity {s0 s : State} (a1 : Nat) (h : KeptBy s0 s) : KeptBy s0 (State.endActivity s a1) := by
  unfold State.endActivity
  repeat' (first
    | with_reducible assumption
    | with_reducible apply State.kept_modStream
    | with_reducible apply State.kept_raise
    | (extract_lets +onlyGivenNames x
       first
         | (refine kept_cut (s0 := s0) (x := x) ?_ (fun _ => ?_); (focus unfold x); on_goal 2 => clear_value x)
         | ((first | have y : Queue := x | have y : Fixer := x); clear y; unfold x; clear x)
         | clear_value x))

theorem State.kept_beginActivity {s0 s : State} (a1 : Nat) (a2 : Nat) (h : KeptBy s0 s) : KeptBy s0 (State.beginActivity s a1 a2) := by
  unfold State.beginActivity
  repeat' (first
    | with_reducible assumption
    | with_reducible apply State.kept_modStream
    | with_reducible apply State.kept_noteWake
    | with_reducible apply State.kept_countWrap
    | with_reducible apply State.kept_raiseWake
    | (extract_lets +onlyGivenNames x
       first
         | (refine kept_cut (s0 := s0) (x := x) ?_ (fun _ => ?_); (focus unfold x); on_goal 2 => clear_value x)
         | ((first | have y : Queue := x | have y : Fixer := x); clear y; unfold x; clear x)
         | clear_value x))

theorem State.kept_updateActivity {s0 s : State} (a1 : Nat) (a2 : List Int) (h : KeptBy s0 s) : KeptBy s0 (State.updateActivity s a1 a2) := by
  unfold State.updateActivity
  repeat' (first
    | with_reducible assumption
    | with_reducible apply State.kept_modStream
    | with_reducible apply State.kept_beginActivity
    | with_reducible apply State.kept_endActivity
    | with_reducible apply kept_ite
    | (extract_lets +onlyGivenNames x
       first
         | (refine kept_cut (s0 := s0) (x := x) ?_ (fun _ => ?_); (focus unfold x); on_goal 2 => clear_value x)
         | ((first | have y : Queue := x | have y : Fixer := x); clear y; unfold x; clear x)
         | clear_value x)
    | split)

theorem State.kept_commitProfile {s0 s : State} (a1 : Nat) (h : KeptBy s0 s) : KeptBy s0 (State.commitProfile s a1) := by
  unfold State.commitProfile
  repeat' (first
    | with_reducible assumption
    | with_reducible apply State.kept_setFlag
    | with_reducible apply State.kept_raise
    | (extract_lets +onlyGivenNames x
       first
         | (refine kept_cut (s0 := s0) (x := x) ?_ (fun _ => ?_); (focus unfold x); on_goal 2 => clear_value x)
         | ((first | have y : Queue := x | have y : Fixer := x); clear y; unfold x; clear x)
         | clear_value x)
    | split)

theorem State.kept_modTracker {s0 s : State} (a1 : Nat) (a2 : Nat) (a3 : Tracker → Tracker) (h : KeptBy s0 s) : KeptBy s0 (State.modTracker s a1 a2 a3) := by
  unfold State.modTracker
  repeat' (first
    | with_reducible assumption
    | (extract_lets +onlyGivenNames x
       first
         | (refine kept_cut (s0 := s0) (x := x) ?_ (fun _ => ?_); (focus unfold x); on_goal 2 => clear_value x)
         | ((first | have y : Queue := x | have y : Fixer := x); clear y; unfold x; clear x)
         | clear_value x))

theorem State.kept_endAlarm {s0 s : State} (a1 : Nat) (a2 : Nat) (h : KeptBy s0 s) : KeptBy s0 (State.endAlarm s a1 a2) := by
  unfold State.endAlarm
  repeat' (first
    | with_reducible assumption
    | with_reducible apply State.kept_modTracker
    | with_reducible apply State.kept_raise
    | (extract_lets +onlyGivenNames x
       first
         | (refine kept_cut (s0 := s0) (x := x) ?_ (fun _ => ?_); (focus unfold x); on_goal 2 => clear_value x)
         | ((first | have y : Queue := x | have y : Fixer := x); clear y; unfold x; clear x)
         | clear_value x))

theorem State.kept_storeProfile {s0 s : State} (a1 : Nat) (a2 : List Word) (h : KeptBy s0 s) : KeptBy s0 (State.storeProfile s a1 a2) := by
  unfold State.storeProfile
  repeat' (first
    | with_reducible assumption
    | (extract_lets +onlyGivenNames x
       first
         | (refine kept_cut (s0 := s0) (x := x) ?_ (fun _ => ?_); (focus unfold x); on_goal 2 => clear_value x)
         | ((first | have y : Queue := x | have y : Fixer := x); clear y; unfold x; clear x)
         | clear_value x))

theorem State.kept_installProfiles {s0 s : State} (h : KeptBy s0 s) : KeptBy s0 (State.installProfiles s) := by
  unfold State.installProfiles
  with_reducible apply kept_foldl
  · intro t p ht
    split
    · exact ht
    · extract_lets s1 s2
      have h1 : KeptBy s0 s1 := by
        unfold s1
        with_reducible apply kept_foldl
        · intro u i hu
          with_reducible apply kept_ite
          · exact State.kept_endAlarm _ _ hu
          · exact hu
        · exact ht
      clear_value s1
      have h2 : KeptBy s0 s2 := by
        unfold s2
        with_reducible apply kept_foldl
        · intro u i hu
          exact State.kept_modTracker _ _ _ hu
        · exact h1
      clear_value s2
      exact h2
  · exact h

theorem State.kept_profUpset {s0 s : State} (a1 : Nat) (a2 : Nat) (h : KeptBy s0 s) : KeptBy s0 (State.profUpset s a1 a2) := by
  unfold State.profUpset
  repeat' (first
    | with_reducible assumption
    | with_reducible apply kept_ite
    | (extract_lets +onlyGivenNames x
       first
         | (refine kept_cut (s0 := s0) (x := x) ?_ (fun _ => ?_); (focus unfold x); on_goal 2 => clear_value x)
         | ((first | have y : Queue := x | have y : Fixer := x); clear y; unfold x; clear x)
         | clear_value x)
    | split)

theorem State.kept_profileParity {s0 s : State} (a1 : Nat) (h : KeptBy s0 s) : KeptBy s0 (State.profileParity s a1) := by
  unfold State.profileParity
  repeat' (first
    | with_reducible assumption
    | intro _
    | with_reducible apply State.kept_storeProfile
    | with_reducible apply State.kept_modTracker
    | with_reducible apply State.kept_setFlag
    | with_reducible apply State.kept_raise
    | with_reducible apply kept_ite
    | with_reducible apply kept_foldl
    | (extract_lets +onlyGivenNames x
       first
         | (refine kept_cut (s0 := s0) (x := x) ?_ (fun _ => ?_); (focus unfold x); on_goal 2 => clear_value x)
         | ((first | have y : Queue := x | have y : Fixer := x); clear y; unfold x; clear x)
         | clear_value x)
    | split)

theorem State.kept_raiseAlarm {s0 s : State} (a1 : Nat) (a2 : Nat) (a3 : Epoch32) (h : KeptBy s0 s) : KeptBy s0 (State.raiseAlarm s a1 a2 a3) := by
  unfold State.raiseAlarm
  repeat' (first
    | with_reducible assumption
    | with_reducible apply State.kept_modTracker
    | with_reducible apply State.kept_noteWake
    | with_reducible apply State.kept_countWrap
    | with_reducible apply State.kept_raiseWake
    | with_reducible apply kept_ite
    | (extract_lets +onlyGivenNames x
       first
         | (refine kept_cut (s0 := s0) (x := x) ?_ (fun _ => ?_); (focus unfold x); on_goal 2 => clear_value x)
         | ((first | have y : Queue := x | have y : Fixer := x); clear y; unfold x; clear x)
         | clear_value x)
    | split)

theorem State.kept_updateAlarm {s0 s : State} (a1 : Spectrum) (a2 : Nat) (a3 : Nat) (h : KeptBy s0 s) : KeptBy s0 (State.updateAlarm s a1 a2 a3) := by
  unfold State.updateAlarm
  repeat' (first
    | with_reducible assumption
    | with_reducible apply State.kept_modTracker
    | with_reducible apply State.kept_raiseAlarm
    | with_reducible apply State.kept_endAlarm
    | with_reducible apply kept_ite
    | (extract_lets +onlyGivenNames x
       first
         | (refine kept_cut (s0 := s0) (x := x) ?_ (fun _ => ?_); (focus unfold x); on_goal 2 => clear_value x)
         | ((first | have y : Queue := x | have y : Fixer := x); clear y; unfold x; clear x)
         | clear_value x)
    | split)

theorem State.kept_applyStream {s0 s : State} (a1 : Nat) (h : KeptBy s0 s) : KeptBy s0 (State.applyStream s a1) := by
  unfold State.applyStream
  repeat' (first
    | with_reducible assumption
    | with_reducible apply State.kept_modStream
    | with_reducible apply kept_ite
    | (extract_lets +onlyGivenNames x
       first
         | (refine kept_cut (s0 := s0) (x := x) ?_ (fun _ => ?_); (focus unfold x); on_goal 2 => clear_value x)
         | ((first | have y : Queue := x | have y : Fixer := x); clear y; unfold x; clear x)
         | clear_value x)
    | split)

theorem State.kept_restartStream {s0 s : State} (a1 : Nat) (h : KeptBy s0 s) : KeptBy s0 (State.restartStream s a1) := by
  unfold State.restartStream
  repeat' (first
    | with_reducible assumption
    | intro _
    | with_reducible apply State.kept_endActivity
    | with_reducible apply State.kept_modStream
    | with_reducible apply State.kept_modTracker
    | with_reducible apply State.kept_fogStart
    | with_reducible apply State.kept_abandon
    | with_reducible apply kept_ite
    | with_reducible apply kept_foldl
    | (extract_lets +onlyGivenNames x
       first
         | (refine kept_cut (s0 := s0) (x := x) ?_ (fun _ => ?_); (focus unfold x); on_goal 2 => clear_value x)
         | ((first | have y : Queue := x | have y : Fixer := x); clear y; unfold x; clear x)
         | clear_value x)
    | split)

theorem State.kept_invalidBlock {s0 s : State} (a1 : Nat) (h : KeptBy s0 s) : KeptBy s0 (State.invalidBlock s a1) := by
  unfold State.invalidBlock
  repeat' (first
    | with_reducible assumption
    | intro _
    | with_reducible apply State.kept_modTracker
    | with_reducible apply State.kept_abandonInvalid
    | with_reducible apply kept_foldl)

theorem State.kept_detect {s0 s : State} (a1 : Nat) (a2 : Spectrum) (h : KeptBy s0 s) : KeptBy s0 (State.detect s a1 a2) := by
  unfold State.detect
  repeat' (first
    | with_reducible assumption
    | intro _
    | with_reducible apply State.kept_updateFloors
    | with_reducible apply State.kept_updateActivity
    | with_reducible apply State.kept_updateAlarm
    | with_reducible apply kept_foldl
    | (extract_lets +onlyGivenNames x
       first
         | (refine kept_cut (s0 := s0) (x := x) ?_ (fun _ => ?_); (focus unfold x); on_goal 2 => clear_value x)
         | ((first | have y : Queue := x | have y : Fixer := x); clear y; unfold x; clear x)
         | clear_value x))

theorem State.kept_streamBlock {s0 s : State} (a1 : Nat) (h : KeptBy s0 s) : KeptBy s0 (State.streamBlock s a1) := by
  unfold State.streamBlock
  repeat' (first
    | with_reducible assumption
    | with_reducible apply State.kept_applyStream
    | with_reducible apply State.kept_payOwed
    | with_reducible apply State.kept_restartStream
    | with_reducible apply State.kept_abandonInvalid
    | with_reducible apply State.kept_invalidBlock
    | with_reducible apply State.kept_detect
    | with_reducible apply State.kept_featureFrame
    | with_reducible apply kept_ite
    | (extract_lets +onlyGivenNames x
       first
         | (refine kept_cut (s0 := s0) (x := x) ?_ (fun _ => ?_); (focus unfold x); on_goal 2 => clear_value x)
         | ((first | have y : Queue := x | have y : Fixer := x); clear y; unfold x; clear x)
         | clear_value x)
    | split)

theorem State.kept_devBlock {s0 s : State} (a1 : DevIn) (h : KeptBy s0 s) : KeptBy s0 (State.devBlock s a1) := by
  unfold State.devBlock
  repeat' (first
    | with_reducible assumption
    | intro _
    | with_reducible apply State.kept_installProfiles
    | with_reducible apply State.kept_tplStrike
    | with_reducible apply State.kept_applyRequests
    | with_reducible apply State.kept_updateDrain
    | with_reducible apply State.kept_streamBlock
    | with_reducible apply State.kept_endDrain
    | with_reducible apply State.kept_writeRecords
    | with_reducible apply State.kept_applyRun
    | with_reducible apply kept_foldl
    | (extract_lets +onlyGivenNames x
       first
         | (refine kept_cut (s0 := s0) (x := x) ?_ (fun _ => ?_); (focus unfold x); on_goal 2 => clear_value x)
         | ((first | have y : Queue := x | have y : Fixer := x); clear y; unfold x; clear x)
         | clear_value x))

theorem State.kept_loadSeed {s0 s : State} (a1 : Nat) (h : KeptBy s0 s) : KeptBy s0 (State.loadSeed s a1) := by
  unfold State.loadSeed
  repeat' (first
    | with_reducible assumption
    | intro _
    | with_reducible apply State.kept_modStream
    | with_reducible apply kept_ite
    | with_reducible apply kept_foldl
    | (extract_lets +onlyGivenNames x
       first
         | (refine kept_cut (s0 := s0) (x := x) ?_ (fun _ => ?_); (focus unfold x); on_goal 2 => clear_value x)
         | ((first | have y : Queue := x | have y : Fixer := x); clear y; unfold x; clear x)
         | clear_value x)
    | split)

theorem State.kept_staleGap {s0 s : State}  (h : KeptBy s0 s) : KeptBy s0 (State.staleGap s) := by
  unfold State.staleGap
  repeat' (first
    | with_reducible assumption
    | (extract_lets +onlyGivenNames x
       first
         | (refine kept_cut (s0 := s0) (x := x) ?_ (fun _ => ?_); (focus unfold x); on_goal 2 => clear_value x)
         | ((first | have y : Queue := x | have y : Fixer := x); clear y; unfold x; clear x)
         | clear_value x))

theorem State.kept_devGap {s0 s : State} (a1 : Nat) (h : KeptBy s0 s) : KeptBy s0 (State.devGap s a1) := by
  unfold State.devGap
  repeat' (first
    | with_reducible assumption
    | with_reducible apply State.kept_breakRuns
    | with_reducible apply kept_ite
    | (extract_lets +onlyGivenNames x
       first
         | (refine kept_cut (s0 := s0) (x := x) ?_ (fun _ => ?_); (focus unfold x); on_goal 2 => clear_value x)
         | ((first | have y : Queue := x | have y : Fixer := x); clear y; unfold x; clear x)
         | clear_value x)
    | split)

theorem State.kept_devToSafe {s0 s : State}  (h : KeptBy s0 s) : KeptBy s0 (State.devToSafe s) := by
  unfold State.devToSafe
  repeat' (first
    | with_reducible assumption
    | intro _
    | with_reducible apply State.kept_endAlarm
    | with_reducible apply State.kept_modTracker
    | with_reducible apply State.kept_abandon
    | with_reducible apply State.kept_modStream
    | with_reducible apply kept_ite
    | with_reducible apply kept_foldl
    | (extract_lets +onlyGivenNames x
       first
         | (refine kept_cut (s0 := s0) (x := x) ?_ (fun _ => ?_); (focus unfold x); on_goal 2 => clear_value x)
         | ((first | have y : Queue := x | have y : Fixer := x); clear y; unfold x; clear x)
         | clear_value x)
    | split)

theorem State.kept_devToDay {s0 s : State}  (h : KeptBy s0 s) : KeptBy s0 (State.devToDay s) := by
  unfold State.devToDay
  repeat' (first
    | with_reducible assumption
    | intro _
    | with_reducible apply State.kept_modStream
    | with_reducible apply kept_foldl
    | (extract_lets +onlyGivenNames x
       first
         | (refine kept_cut (s0 := s0) (x := x) ?_ (fun _ => ?_); (focus unfold x); on_goal 2 => clear_value x)
         | ((first | have y : Queue := x | have y : Fixer := x); clear y; unfold x; clear x)
         | clear_value x))

theorem State.kept_strapDev {s0 s : State}  (h : KeptBy s0 s) : KeptBy s0 (State.strapDev s) := by
  unfold State.strapDev
  repeat' (first
    | with_reducible assumption
    | (extract_lets +onlyGivenNames x
       first
         | (refine kept_cut (s0 := s0) (x := x) ?_ (fun _ => ?_); (focus unfold x); on_goal 2 => clear_value x)
         | ((first | have y : Queue := x | have y : Fixer := x); clear y; unfold x; clear x)
         | clear_value x)
    | with_reducible apply kept_write32
    | with_reducible apply kept_keep
    | with_reducible apply kept_erase)

end Sys2Proof.Machine
end

