-- ==== Sys2Proof/Laws/KeptStage.lean ====
section
/-! SUPPORT. Every operation of Machine/Stage.lean keeps what `Kept` says. -/

set_option linter.unusedTactic false
set_option linter.unreachableTactic false
set_option linter.tactic.unusedName false

namespace Sys2Proof.Machine

theorem State.kept_modDrive {s0 s : State} (a1 : Nat) (a2 : Drive → Drive) (h : KeptBy s0 s) : KeptBy s0 (State.modDrive s a1 a2) := by
  unfold State.modDrive
  repeat' (first
    | with_reducible assumption
    | (extract_lets +onlyGivenNames x
       first
         | (refine kept_cut (s0 := s0) (x := x) ?_ (fun _ => ?_); (focus unfold x); on_goal 2 => clear_value x)
         | ((first | have y : Queue := x | have y : Fixer := x); clear y; unfold x; clear x)
         | clear_value x))

theorem State.kept_modStage {s0 s : State} (a1 : Nat) (a2 : StageCh → StageCh) (h : KeptBy s0 s) : KeptBy s0 (State.modStage s a1 a2) := by
  unfold State.modStage
  repeat' (first
    | with_reducible assumption
    | (extract_lets +onlyGivenNames x
       first
         | (refine kept_cut (s0 := s0) (x := x) ?_ (fun _ => ?_); (focus unfold x); on_goal 2 => clear_value x)
         | ((first | have y : Queue := x | have y : Fixer := x); clear y; unfold x; clear x)
         | clear_value x))

theorem State.kept_beginMeasure {s0 s : State} (a1 : Nat) (h : KeptBy s0 s) : KeptBy s0 (State.beginMeasure s a1) := by
  unfold State.beginMeasure
  repeat' (first
    | with_reducible assumption
    | with_reducible apply State.kept_modStage
    | (extract_lets +onlyGivenNames x
       first
         | (refine kept_cut (s0 := s0) (x := x) ?_ (fun _ => ?_); (focus unfold x); on_goal 2 => clear_value x)
         | ((first | have y : Queue := x | have y : Fixer := x); clear y; unfold x; clear x)
         | clear_value x))

theorem State.kept_haltMeasure {s0 s : State} (a1 : Nat) (h : KeptBy s0 s) : KeptBy s0 (State.haltMeasure s a1) := by
  unfold State.haltMeasure
  repeat' (first
    | with_reducible assumption
    | with_reducible apply State.kept_modStage
    | with_reducible apply State.kept_beginMeasure
    | (extract_lets +onlyGivenNames x
       first
         | (refine kept_cut (s0 := s0) (x := x) ?_ (fun _ => ?_); (focus unfold x); on_goal 2 => clear_value x)
         | ((first | have y : Queue := x | have y : Fixer := x); clear y; unfold x; clear x)
         | clear_value x))

theorem State.kept_noteShdn {s0 s : State} (a1 : Nat) (a2 : Bool) (h : KeptBy s0 s) : KeptBy s0 (State.noteShdn s a1 a2) := by
  unfold State.noteShdn
  repeat' (first
    | with_reducible assumption
    | with_reducible apply State.kept_modStage
    | with_reducible apply State.kept_haltMeasure
    | with_reducible apply kept_ite
    | (extract_lets +onlyGivenNames x
       first
         | (refine kept_cut (s0 := s0) (x := x) ?_ (fun _ => ?_); (focus unfold x); on_goal 2 => clear_value x)
         | ((first | have y : Queue := x | have y : Fixer := x); clear y; unfold x; clear x)
         | clear_value x)
    | split)

theorem State.kept_stageFault {s0 s : State} (a1 : Nat) (a2 : Nat) (h : KeptBy s0 s) : KeptBy s0 (State.stageFault s a1 a2) := by
  unfold State.stageFault
  repeat' (first
    | with_reducible assumption
    | with_reducible apply State.kept_modStage
    | with_reducible apply State.kept_setFlag
    | with_reducible apply State.kept_countSat
    | with_reducible apply State.kept_raise
    | with_reducible apply State.kept_fixerCount
    | with_reducible refine State.kept_fixerCount_eq (by with_reducible assumption) ?_
    | with_reducible apply State.kept_setFld
    | with_reducible apply kept_ite
    | (extract_lets +onlyGivenNames x
       first
         | (refine kept_cut (s0 := s0) (x := x) ?_ (fun _ => ?_); (focus unfold x); on_goal 2 => clear_value x)
         | ((first | have y : Queue := x | have y : Fixer := x); clear y; unfold x; clear x)
         | clear_value x)
    | split)

theorem State.kept_sampleLatches {s0 s : State} (a1 : Nat) (h : KeptBy s0 s) : KeptBy s0 (State.sampleLatches s a1) := by
  unfold State.sampleLatches
  repeat' (first
    | with_reducible assumption
    | with_reducible apply State.kept_modStage
    | with_reducible apply State.kept_stageFault
    | with_reducible apply kept_ite
    | (extract_lets +onlyGivenNames x
       first
         | (refine kept_cut (s0 := s0) (x := x) ?_ (fun _ => ?_); (focus unfold x); on_goal 2 => clear_value x)
         | ((first | have y : Queue := x | have y : Fixer := x); clear y; unfold x; clear x)
         | clear_value x)
    | split)

theorem State.kept_sampleStages {s0 s : State}  (h : KeptBy s0 s) : KeptBy s0 (State.sampleStages s) := by
  unfold State.sampleStages
  repeat' (first
    | with_reducible assumption
    | intro _
    | with_reducible apply State.kept_sampleLatches
    | with_reducible apply kept_foldl)

theorem State.kept_tickStage {s0 s : State} (a1 : TickIn) (a2 : Nat) (h : KeptBy s0 s) : KeptBy s0 (State.tickStage s a1 a2) := by
  unfold State.tickStage
  repeat' (first
    | with_reducible assumption
    | with_reducible apply State.kept_beginMeasure
    | with_reducible apply State.kept_modStage
    | with_reducible apply State.kept_setFlag
    | with_reducible apply State.kept_raise
    | with_reducible apply kept_ite
    | (extract_lets +onlyGivenNames x
       first
         | (refine kept_cut (s0 := s0) (x := x) ?_ (fun _ => ?_); (focus unfold x); on_goal 2 => clear_value x)
         | ((first | have y : Queue := x | have y : Fixer := x); clear y; unfold x; clear x)
         | clear_value x)
    | split)

theorem State.kept_tickStages {s0 s : State} (a1 : TickIn) (h : KeptBy s0 s) : KeptBy s0 (State.tickStages s a1) := by
  unfold State.tickStages
  repeat' (first
    | with_reducible assumption
    | intro _
    | with_reducible apply State.kept_tickStage
    | with_reducible apply kept_ite
    | with_reducible apply kept_foldl
    | (extract_lets +onlyGivenNames x
       first
         | (refine kept_cut (s0 := s0) (x := x) ?_ (fun _ => ?_); (focus unfold x); on_goal 2 => clear_value x)
         | ((first | have y : Queue := x | have y : Fixer := x); clear y; unfold x; clear x)
         | clear_value x)
    | split)

theorem State.kept_thermalClear {s0 s : State} (a1 : Nat) (h : KeptBy s0 s) : KeptBy s0 (State.thermalClear s a1) := by
  unfold State.thermalClear
  repeat' (first
    | with_reducible assumption
    | with_reducible apply State.kept_modStage
    | with_reducible apply State.kept_raise
    | (extract_lets +onlyGivenNames x
       first
         | (refine kept_cut (s0 := s0) (x := x) ?_ (fun _ => ?_); (focus unfold x); on_goal 2 => clear_value x)
         | ((first | have y : Queue := x | have y : Fixer := x); clear y; unfold x; clear x)
         | clear_value x))

theorem State.kept_stageRestart {s0 s : State} (a1 : Nat) (h : KeptBy s0 s) : KeptBy s0 (State.stageRestart s a1) := by
  unfold State.stageRestart
  repeat' (first
    | with_reducible assumption
    | with_reducible apply State.kept_modStage
    | (extract_lets +onlyGivenNames x
       first
         | (refine kept_cut (s0 := s0) (x := x) ?_ (fun _ => ?_); (focus unfold x); on_goal 2 => clear_value x)
         | ((first | have y : Queue := x | have y : Fixer := x); clear y; unfold x; clear x)
         | clear_value x))

theorem State.kept_stopStages {s0 s : State}  (h : KeptBy s0 s) : KeptBy s0 (State.stopStages s) := by
  unfold State.stopStages
  repeat' (first
    | with_reducible assumption
    | (extract_lets +onlyGivenNames x
       first
         | (refine kept_cut (s0 := s0) (x := x) ?_ (fun _ => ?_); (focus unfold x); on_goal 2 => clear_value x)
         | ((first | have y : Queue := x | have y : Fixer := x); clear y; unfold x; clear x)
         | clear_value x))

theorem State.kept_resumeStages {s0 s : State} (a1 : Epoch32) (h : KeptBy s0 s) : KeptBy s0 (State.resumeStages s a1) := by
  unfold State.resumeStages
  repeat' (first
    | with_reducible assumption
    | with_reducible apply State.kept_forward
    | (extract_lets +onlyGivenNames x
       first
         | (refine kept_cut (s0 := s0) (x := x) ?_ (fun _ => ?_); (focus unfold x); on_goal 2 => clear_value x)
         | ((first | have y : Queue := x | have y : Fixer := x); clear y; unfold x; clear x)
         | clear_value x)
    | split)

theorem State.kept_servo {s0 s : State} (a1 : Nat) (a2 : Int) (a3 : Nat) (h : KeptBy s0 s) : KeptBy s0 (State.servo s a1 a2 a3) := by
  unfold State.servo
  repeat' (first
    | with_reducible assumption
    | with_reducible apply State.kept_modStage
    | with_reducible apply State.kept_raise
    | with_reducible apply State.kept_setFlag
    | with_reducible apply kept_ite
    | (extract_lets +onlyGivenNames x
       first
         | (refine kept_cut (s0 := s0) (x := x) ?_ (fun _ => ?_); (focus unfold x); on_goal 2 => clear_value x)
         | ((first | have y : Queue := x | have y : Fixer := x); clear y; unfold x; clear x)
         | clear_value x)
    | split)

theorem State.kept_measured {s0 s : State} (a1 : Nat) (a2 : Nat) (h : KeptBy s0 s) : KeptBy s0 (State.measured s a1 a2) := by
  unfold State.measured
  repeat' (first
    | with_reducible assumption
    | with_reducible apply State.kept_modStage
    | with_reducible apply State.kept_servo
    | with_reducible apply State.kept_beginMeasure
    | with_reducible apply kept_ite
    | (extract_lets +onlyGivenNames x
       first
         | (refine kept_cut (s0 := s0) (x := x) ?_ (fun _ => ?_); (focus unfold x); on_goal 2 => clear_value x)
         | ((first | have y : Queue := x | have y : Fixer := x); clear y; unfold x; clear x)
         | clear_value x)
    | split)

theorem State.kept_notMeasured {s0 s : State} (a1 : Nat) (h : KeptBy s0 s) : KeptBy s0 (State.notMeasured s a1) := by
  unfold State.notMeasured
  repeat' (first
    | with_reducible assumption
    | with_reducible apply State.kept_modStage
    | with_reducible apply State.kept_haltMeasure
    | with_reducible apply kept_ite
    | (extract_lets +onlyGivenNames x
       first
         | (refine kept_cut (s0 := s0) (x := x) ?_ (fun _ => ?_); (focus unfold x); on_goal 2 => clear_value x)
         | ((first | have y : Queue := x | have y : Fixer := x); clear y; unfold x; clear x)
         | clear_value x)
    | split)

theorem State.kept_startSearch {s0 s : State} (a1 : Nat) (h : KeptBy s0 s) : KeptBy s0 (State.startSearch s a1) := by
  unfold State.startSearch
  repeat' (first
    | with_reducible assumption
    | with_reducible apply State.kept_setFlag
    | with_reducible apply State.kept_raise
    | (extract_lets +onlyGivenNames x
       first
         | (refine kept_cut (s0 := s0) (x := x) ?_ (fun _ => ?_); (focus unfold x); on_goal 2 => clear_value x)
         | ((first | have y : Queue := x | have y : Fixer := x); clear y; unfold x; clear x)
         | clear_value x)
    | split)

theorem State.kept_repeatSearch {s0 s : State}  (h : KeptBy s0 s) : KeptBy s0 (State.repeatSearch s) := by
  unfold State.repeatSearch
  repeat' (first
    | with_reducible assumption
    | (extract_lets +onlyGivenNames x
       first
         | (refine kept_cut (s0 := s0) (x := x) ?_ (fun _ => ?_); (focus unfold x); on_goal 2 => clear_value x)
         | ((first | have y : Queue := x | have y : Fixer := x); clear y; unfold x; clear x)
         | clear_value x)
    | split)

theorem State.kept_finishSearch {s0 s : State}  (h : KeptBy s0 s) : KeptBy s0 (State.finishSearch s) := by
  unfold State.finishSearch
  repeat' (first
    | with_reducible assumption
    | with_reducible apply State.kept_setFlag
    | with_reducible apply State.kept_raise
    | with_reducible apply kept_ite
    | (extract_lets +onlyGivenNames x
       first
         | (refine kept_cut (s0 := s0) (x := x) ?_ (fun _ => ?_); (focus unfold x); on_goal 2 => clear_value x)
         | ((first | have y : Queue := x | have y : Fixer := x); clear y; unfold x; clear x)
         | clear_value x)
    | split)

theorem State.kept_writeLatch {s0 s : State} (a1 : Bool) (a2 : Word) (h : KeptBy s0 s) : KeptBy s0 (State.writeLatch s a1 a2) := by
  unfold State.writeLatch
  repeat' (first
    | with_reducible assumption
    | intro _
    | with_reducible apply State.kept_setReg
    | with_reducible apply State.kept_fixerRelease
    | with_reducible apply kept_ite
    | with_reducible apply kept_foldl
    | (extract_lets +onlyGivenNames x
       first
         | (refine kept_cut (s0 := s0) (x := x) ?_ (fun _ => ?_); (focus unfold x); on_goal 2 => clear_value x)
         | ((first | have y : Queue := x | have y : Fixer := x); clear y; unfold x; clear x)
         | clear_value x)
    | split)

theorem State.kept_verifyRestart {s0 s : State} (a1 : Nat) (h : KeptBy s0 s) : KeptBy s0 (State.verifyRestart s a1) := by
  unfold State.verifyRestart
  repeat' (first
    | with_reducible assumption
    | with_reducible apply State.kept_modStage
    | (extract_lets +onlyGivenNames x
       first
         | (refine kept_cut (s0 := s0) (x := x) ?_ (fun _ => ?_); (focus unfold x); on_goal 2 => clear_value x)
         | ((first | have y : Queue := x | have y : Fixer := x); clear y; unfold x; clear x)
         | clear_value x))

theorem State.kept_senseFailed {s0 s : State}  (h : KeptBy s0 s) : KeptBy s0 (State.senseFailed s) := by
  unfold State.senseFailed
  repeat' (first
    | with_reducible assumption
    | (extract_lets +onlyGivenNames x
       first
         | (refine kept_cut (s0 := s0) (x := x) ?_ (fun _ => ?_); (focus unfold x); on_goal 2 => clear_value x)
         | ((first | have y : Queue := x | have y : Fixer := x); clear y; unfold x; clear x)
         | clear_value x))

theorem State.kept_judgeWindow {s0 s : State} (a1 : Nat) (a2 : Int) (a3 : Bool) (h : KeptBy s0 s) : KeptBy s0 (State.judgeWindow s a1 a2 a3) := by
  unfold State.judgeWindow
  repeat' (first
    | with_reducible assumption
    | with_reducible apply State.kept_modStage
    | with_reducible apply State.kept_raise
    | with_reducible apply State.kept_setFlag
    | with_reducible apply kept_ite
    | (extract_lets +onlyGivenNames x
       first
         | (refine kept_cut (s0 := s0) (x := x) ?_ (fun _ => ?_); (focus unfold x); on_goal 2 => clear_value x)
         | ((first | have y : Queue := x | have y : Fixer := x); clear y; unfold x; clear x)
         | clear_value x)
    | split)

theorem State.kept_verifyTap {s0 s : State} (a1 : Nat) (a2 : Int) (h : KeptBy s0 s) : KeptBy s0 (State.verifyTap s a1 a2) := by
  unfold State.verifyTap
  repeat' (first
    | with_reducible assumption
    | with_reducible apply State.kept_modStage
    | (extract_lets +onlyGivenNames x
       first
         | (refine kept_cut (s0 := s0) (x := x) ?_ (fun _ => ?_); (focus unfold x); on_goal 2 => clear_value x)
         | ((first | have y : Queue := x | have y : Fixer := x); clear y; unfold x; clear x)
         | clear_value x))

theorem State.kept_verifyChannel {s0 s : State} (a1 : Nat) (h : KeptBy s0 s) : KeptBy s0 (State.verifyChannel s a1) := by
  unfold State.verifyChannel
  repeat' (first
    | with_reducible assumption
    | with_reducible apply State.kept_modStage
    | with_reducible apply kept_ite
    | (extract_lets +onlyGivenNames x
       first
         | (refine kept_cut (s0 := s0) (x := x) ?_ (fun _ => ?_); (focus unfold x); on_goal 2 => clear_value x)
         | ((first | have y : Queue := x | have y : Fixer := x); clear y; unfold x; clear x)
         | clear_value x)
    | split)

theorem State.kept_verifyBoundary {s0 s : State}  (h : KeptBy s0 s) : KeptBy s0 (State.verifyBoundary s) := by
  unfold State.verifyBoundary
  repeat' (first
    | with_reducible assumption
    | intro _
    | with_reducible apply State.kept_senseFailed
    | with_reducible apply State.kept_verifyChannel
    | with_reducible apply kept_ite
    | with_reducible apply kept_foldl
    | (extract_lets +onlyGivenNames x
       first
         | (refine kept_cut (s0 := s0) (x := x) ?_ (fun _ => ?_); (focus unfold x); on_goal 2 => clear_value x)
         | ((first | have y : Queue := x | have y : Fixer := x); clear y; unfold x; clear x)
         | clear_value x)
    | split)

theorem State.kept_verifyEnd {s0 s : State} (a0 : List Bool) (a2 : Nat) (h : KeptBy s0 s) : KeptBy s0 (State.verifyEnd a0 s a2) := by
  unfold State.verifyEnd
  repeat' (first
    | with_reducible assumption
    | with_reducible apply State.kept_judgeWindow
    | with_reducible apply State.kept_modStage
    | with_reducible apply kept_ite
    | (extract_lets +onlyGivenNames x
       first
         | (refine kept_cut (s0 := s0) (x := x) ?_ (fun _ => ?_); (focus unfold x); on_goal 2 => clear_value x)
         | ((first | have y : Queue := x | have y : Fixer := x); clear y; unfold x; clear x)
         | clear_value x)
    | split)

theorem State.kept_verifyWindow {s0 s : State} (a1 : List Bool) (h : KeptBy s0 s) : KeptBy s0 (State.verifyWindow s a1) := by
  unfold State.verifyWindow
  repeat' (first
    | with_reducible assumption
    | intro _
    | with_reducible apply State.kept_verifyEnd
    | with_reducible apply kept_foldl)

theorem State.kept_strapStage {s0 s : State}  (h : KeptBy s0 s) : KeptBy s0 (State.strapStage s) := by
  unfold State.strapStage
  repeat' (first
    | with_reducible assumption
    | (extract_lets +onlyGivenNames x
       first
         | (refine kept_cut (s0 := s0) (x := x) ?_ (fun _ => ?_); (focus unfold x); on_goal 2 => clear_value x)
         | ((first | have y : Queue := x | have y : Fixer := x); clear y; unfold x; clear x)
         | clear_value x))

theorem State.kept_syncHold {s0 s : State}  (h : KeptBy s0 s) : KeptBy s0 (State.syncHold s) := by
  unfold State.syncHold
  repeat' (first
    | with_reducible assumption
    | (extract_lets +onlyGivenNames x
       first
         | (refine kept_cut (s0 := s0) (x := x) ?_ (fun _ => ?_); (focus unfold x); on_goal 2 => clear_value x)
         | ((first | have y : Queue := x | have y : Fixer := x); clear y; unfold x; clear x)
         | clear_value x))

end Sys2Proof.Machine
end

