-- ==== Sys2Proof/Laws/KeptPrint.lean ====
section
/-! SUPPORT. Every operation of Machine/Print.lean keeps what `Kept` says. -/

set_option linter.unusedTactic false
set_option linter.unreachableTactic false
set_option linter.tactic.unusedName false

namespace Sys2Proof.Machine

theorem State.kept_sampleDrives {s0 s : State} (a1 : Epoch32) (h : KeptBy s0 s) : KeptBy s0 (State.sampleDrives s a1) := by
  unfold State.sampleDrives
  repeat' (first
    | with_reducible assumption
    | (extract_lets +onlyGivenNames x
       first
         | (refine kept_cut (s0 := s0) (x := x) ?_ (fun _ => ?_); (focus unfold x); on_goal 2 => clear_value x)
         | ((first | have y : Queue := x | have y : Fixer := x); clear y; unfold x; clear x)
         | clear_value x))

theorem State.kept_noteClip {s0 s : State} (a1 : Nat) (a2 : Bool) (h : KeptBy s0 s) : KeptBy s0 (State.noteClip s a1 a2) := by
  unfold State.noteClip
  repeat' (first
    | with_reducible assumption
    | with_reducible apply State.kept_modDrive
    | with_reducible apply State.kept_countSat
    | with_reducible apply State.kept_setFlag
    | with_reducible apply State.kept_raise
    | with_reducible apply kept_ite
    | (extract_lets +onlyGivenNames x
       first
         | (refine kept_cut (s0 := s0) (x := x) ?_ (fun _ => ?_); (focus unfold x); on_goal 2 => clear_value x)
         | ((first | have y : Queue := x | have y : Fixer := x); clear y; unfold x; clear x)
         | clear_value x)
    | split)

theorem State.kept_endProof {s0 s : State}  (h : KeptBy s0 s) : KeptBy s0 (State.endProof s) := by
  unfold State.endProof
  repeat' (first
    | with_reducible assumption
    | with_reducible apply State.kept_setPair
    | (extract_lets +onlyGivenNames x
       first
         | (refine kept_cut (s0 := s0) (x := x) ?_ (fun _ => ?_); (focus unfold x); on_goal 2 => clear_value x)
         | ((first | have y : Queue := x | have y : Fixer := x); clear y; unfold x; clear x)
         | clear_value x))

theorem State.kept_loopOff {s0 s : State} (a1 : Nat) (h : KeptBy s0 s) : KeptBy s0 (State.loopOff s a1) := by
  unfold State.loopOff
  repeat' (first
    | with_reducible assumption
    | with_reducible apply State.kept_endProof
    | with_reducible apply kept_ite
    | (extract_lets +onlyGivenNames x
       first
         | (refine kept_cut (s0 := s0) (x := x) ?_ (fun _ => ?_); (focus unfold x); on_goal 2 => clear_value x)
         | ((first | have y : Queue := x | have y : Fixer := x); clear y; unfold x; clear x)
         | clear_value x)
    | split)

theorem State.kept_driveTo {s0 s : State} (a1 : Nat) (a2 : DriveState) (h : KeptBy s0 s) : KeptBy s0 (State.driveTo s a1 a2) := by
  unfold State.driveTo
  repeat' (first
    | with_reducible assumption
    | with_reducible apply State.kept_modDrive
    | with_reducible apply State.kept_loopOff
    | with_reducible apply State.kept_noteShdn
    | with_reducible apply kept_ite
    | (extract_lets +onlyGivenNames x
       first
         | (refine kept_cut (s0 := s0) (x := x) ?_ (fun _ => ?_); (focus unfold x); on_goal 2 => clear_value x)
         | ((first | have y : Queue := x | have y : Fixer := x); clear y; unfold x; clear x)
         | clear_value x)
    | split)

theorem State.kept_driveArm {s0 s : State} (a1 : Nat) (a2 : Bool) (h : KeptBy s0 s) : KeptBy s0 (State.driveArm s a1 a2) := by
  unfold State.driveArm
  repeat' (first
    | with_reducible assumption
    | with_reducible apply State.kept_driveTo
    | with_reducible apply State.kept_modDrive
    | (extract_lets +onlyGivenNames x
       first
         | (refine kept_cut (s0 := s0) (x := x) ?_ (fun _ => ?_); (focus unfold x); on_goal 2 => clear_value x)
         | ((first | have y : Queue := x | have y : Fixer := x); clear y; unfold x; clear x)
         | clear_value x))

theorem State.kept_driveMute {s0 s : State} (a1 : Nat) (h : KeptBy s0 s) : KeptBy s0 (State.driveMute s a1) := by
  unfold State.driveMute
  repeat' (first
    | with_reducible assumption
    | with_reducible apply State.kept_driveTo
    | with_reducible apply State.kept_modDrive
    | with_reducible apply State.kept_countSat
    | (extract_lets +onlyGivenNames x
       first
         | (refine kept_cut (s0 := s0) (x := x) ?_ (fun _ => ?_); (focus unfold x); on_goal 2 => clear_value x)
         | ((first | have y : Queue := x | have y : Fixer := x); clear y; unfold x; clear x)
         | clear_value x))

theorem State.kept_stopEntry {s0 s : State} (a1 : Nat) (h : KeptBy s0 s) : KeptBy s0 (State.stopEntry s a1) := by
  unfold State.stopEntry
  repeat' (first
    | with_reducible assumption
    | with_reducible apply State.kept_raise
    | with_reducible apply kept_ite
    | (extract_lets +onlyGivenNames x
       first
         | (refine kept_cut (s0 := s0) (x := x) ?_ (fun _ => ?_); (focus unfold x); on_goal 2 => clear_value x)
         | ((first | have y : Queue := x | have y : Fixer := x); clear y; unfold x; clear x)
         | clear_value x)
    | split)

theorem State.kept_bathe {s0 s : State} (a1 : Nat) (a2 : Nat) (a3 : Bool) (a4 : Nat) (h : KeptBy s0 s) : KeptBy s0 (State.bathe s a1 a2 a3 a4) := by
  unfold State.bathe
  repeat' (first
    | with_reducible assumption
    | with_reducible apply State.kept_modDrive
    | with_reducible apply State.kept_driveTo
    | with_reducible apply kept_ite
    | (extract_lets +onlyGivenNames x
       first
         | (refine kept_cut (s0 := s0) (x := x) ?_ (fun _ => ?_); (focus unfold x); on_goal 2 => clear_value x)
         | ((first | have y : Queue := x | have y : Fixer := x); clear y; unfold x; clear x)
         | clear_value x)
    | split)

theorem State.kept_stopNow {s0 s : State} (a1 : Nat) (a2 : Nat) (h : KeptBy s0 s) : KeptBy s0 (State.stopNow s a1 a2) := by
  unfold State.stopNow
  repeat' (first
    | with_reducible assumption
    | with_reducible apply State.kept_stopEntry
    | with_reducible apply State.kept_driveTo
    | with_reducible apply State.kept_bathe
    | with_reducible apply kept_ite
    | (extract_lets +onlyGivenNames x
       first
         | (refine kept_cut (s0 := s0) (x := x) ?_ (fun _ => ?_); (focus unfold x); on_goal 2 => clear_value x)
         | ((first | have y : Queue := x | have y : Fixer := x); clear y; unfold x; clear x)
         | clear_value x)
    | split)

theorem State.kept_beginRamp {s0 s : State} (a1 : Nat) (a2 : Nat) (a3 : Bool) (h : KeptBy s0 s) : KeptBy s0 (State.beginRamp s a1 a2 a3) := by
  unfold State.beginRamp
  repeat' (first
    | with_reducible assumption
    | with_reducible apply State.kept_driveTo
    | with_reducible apply State.kept_modDrive
    | with_reducible apply kept_ite
    | (extract_lets +onlyGivenNames x
       first
         | (refine kept_cut (s0 := s0) (x := x) ?_ (fun _ => ?_); (focus unfold x); on_goal 2 => clear_value x)
         | ((first | have y : Queue := x | have y : Fixer := x); clear y; unfold x; clear x)
         | clear_value x)
    | split)

theorem State.kept_examineArm {s0 s : State} (a1 : Nat) (h : KeptBy s0 s) : KeptBy s0 (State.examineArm s a1) := by
  unfold State.examineArm
  repeat' (first
    | with_reducible assumption
    | with_reducible apply State.kept_modDrive
    | with_reducible apply State.kept_beginRamp
    | with_reducible apply kept_ite
    | (extract_lets +onlyGivenNames x
       first
         | (refine kept_cut (s0 := s0) (x := x) ?_ (fun _ => ?_); (focus unfold x); on_goal 2 => clear_value x)
         | ((first | have y : Queue := x | have y : Fixer := x); clear y; unfold x; clear x)
         | clear_value x)
    | split)

theorem State.kept_proofSample {s0 s : State} (a1 : Nat) (a2 : Nat × Word) (h : KeptBy s0 s) : KeptBy s0 (State.proofSample s a1 a2).2 := by
  unfold State.proofSample
  repeat' (first
    | with_reducible assumption
    | with_reducible apply State.kept_modDrive
    | (extract_lets +onlyGivenNames x
       first
         | (refine kept_cut (s0 := s0) (x := x) ?_ (fun _ => ?_); (focus unfold x); on_goal 2 => clear_value x)
         | ((first | have y : Queue := x | have y : Fixer := x); clear y; unfold x; clear x)
         | clear_value x))

theorem State.kept_proofSample_eq {s0 s t : State} (a1 : Nat) (a2 : Nat × Word) {x : Sample} (e : State.proofSample s a1 a2 = (x, t)) (h : KeptBy s0 s) : KeptBy s0 t := by
  have := State.kept_proofSample a1 a2 h
  rwa [e] at this

theorem State.kept_driveRead {s0 s : State} (a1 : Nat) (a2 : Epoch32) (h : KeptBy s0 s) : KeptBy s0 (State.driveRead s a1 a2).1 := by
  unfold State.driveRead
  repeat' (first
    | with_reducible assumption
    | with_reducible apply State.kept_proofSample
    | with_reducible refine State.kept_proofSample_eq (by with_reducible assumption) ?_
    | with_reducible apply State.kept_modDrive
    | with_reducible apply State.kept_noteClip
    | with_reducible apply kept_ite
    | (extract_lets +onlyGivenNames x
       first
         | (refine kept_cut (s0 := s0) (x := x) ?_ (fun _ => ?_); (focus unfold x); on_goal 2 => clear_value x)
         | ((first | have y : Queue := x | have y : Fixer := x); clear y; unfold x; clear x)
         | clear_value x)
    | split)

theorem State.kept_driveRead_eq {s0 s t : State} (a1 : Nat) (a2 : Epoch32) {x : Read} (e : State.driveRead s a1 a2 = (t, x)) (h : KeptBy s0 s) : KeptBy s0 t := by
  have := State.kept_driveRead a1 a2 h
  rwa [e] at this

theorem State.kept_driveParity {s0 s : State} (a1 : Nat) (a2 : ReadIn) (h : KeptBy s0 s) : KeptBy s0 (State.driveParity s a1 a2) := by
  unfold State.driveParity
  repeat' (first
    | with_reducible assumption
    | with_reducible apply State.kept_modDrive
    | with_reducible apply State.kept_endProof
    | with_reducible apply State.kept_setFlag
    | with_reducible apply State.kept_raise
    | with_reducible apply State.kept_fixerReport
    | with_reducible apply State.kept_stopNow
    | with_reducible apply kept_ite
    | (extract_lets +onlyGivenNames x
       first
         | (refine kept_cut (s0 := s0) (x := x) ?_ (fun _ => ?_); (focus unfold x); on_goal 2 => clear_value x)
         | ((first | have y : Queue := x | have y : Fixer := x); clear y; unfold x; clear x)
         | clear_value x)
    | split)

theorem State.kept_stopHeld {s0 s : State}  (h : KeptBy s0 s) : KeptBy s0 (State.stopHeld s) := by
  unfold State.stopHeld
  repeat' (first
    | with_reducible assumption
    | intro _
    | with_reducible apply State.kept_modDrive
    | with_reducible apply State.kept_stopNow
    | with_reducible apply kept_ite
    | with_reducible apply kept_foldl
    | (extract_lets +onlyGivenNames x
       first
         | (refine kept_cut (s0 := s0) (x := x) ?_ (fun _ => ?_); (focus unfold x); on_goal 2 => clear_value x)
         | ((first | have y : Queue := x | have y : Fixer := x); clear y; unfold x; clear x)
         | clear_value x)
    | split)

theorem State.kept_driveFault {s0 s : State} (a1 : Nat) (h : KeptBy s0 s) : KeptBy s0 (State.driveFault s a1) := by
  unfold State.driveFault
  repeat' (first
    | with_reducible assumption
    | with_reducible apply State.kept_modStage
    | with_reducible apply State.kept_stopNow
    | with_reducible apply kept_ite
    | (extract_lets +onlyGivenNames x
       first
         | (refine kept_cut (s0 := s0) (x := x) ?_ (fun _ => ?_); (focus unfold x); on_goal 2 => clear_value x)
         | ((first | have y : Queue := x | have y : Fixer := x); clear y; unfold x; clear x)
         | clear_value x)
    | split)

theorem State.kept_driveEdgeWait {s0 s : State} (a1 : Nat) (a2 : Bool) (h : KeptBy s0 s) : KeptBy s0 (State.driveEdgeWait s a1 a2) := by
  unfold State.driveEdgeWait
  repeat' (first
    | with_reducible assumption
    | with_reducible apply State.kept_modDrive
    | with_reducible apply kept_ite
    | (extract_lets +onlyGivenNames x
       first
         | (refine kept_cut (s0 := s0) (x := x) ?_ (fun _ => ?_); (focus unfold x); on_goal 2 => clear_value x)
         | ((first | have y : Queue := x | have y : Fixer := x); clear y; unfold x; clear x)
         | clear_value x)
    | split)

theorem State.kept_driveRequest {s0 s : State} (a1 : Nat) (a2 : Bool) (h : KeptBy s0 s) : KeptBy s0 (State.driveRequest s a1 a2) := by
  unfold State.driveRequest
  repeat' (first
    | with_reducible assumption
    | with_reducible apply State.kept_driveTo
    | with_reducible apply State.kept_modDrive
    | with_reducible apply State.kept_stopEntry
    | with_reducible apply State.kept_bathe
    | with_reducible apply kept_ite
    | (extract_lets +onlyGivenNames x
       first
         | (refine kept_cut (s0 := s0) (x := x) ?_ (fun _ => ?_); (focus unfold x); on_goal 2 => clear_value x)
         | ((first | have y : Queue := x | have y : Fixer := x); clear y; unfold x; clear x)
         | clear_value x)
    | split)

theorem State.kept_nonAudioEntries {s0 s : State} (a1 : Nat) (a2 : Bool) (a3 : Bool) (a4 : Epoch32) (a5 : Nat) (h : KeptBy s0 s) : KeptBy s0 (State.nonAudioEntries s a1 a2 a3 a4 a5) := by
  unfold State.nonAudioEntries
  repeat' (first
    | with_reducible assumption
    | with_reducible apply State.kept_modDrive
    | with_reducible apply State.kept_setFlag
    | with_reducible apply State.kept_raise
    | with_reducible apply kept_ite
    | (extract_lets +onlyGivenNames x
       first
         | (refine kept_cut (s0 := s0) (x := x) ?_ (fun _ => ?_); (focus unfold x); on_goal 2 => clear_value x)
         | ((first | have y : Queue := x | have y : Fixer := x); clear y; unfold x; clear x)
         | clear_value x)
    | split)

theorem State.kept_nonAudioSound {s0 s : State} (a1 : Nat) (a2 : Bool) (a3 : Bool) (a4 : Epoch32) (a5 : Nat) (h : KeptBy s0 s) : KeptBy s0 (State.nonAudioSound s a1 a2 a3 a4 a5) := by
  unfold State.nonAudioSound
  repeat' (first
    | with_reducible assumption
    | with_reducible apply State.kept_bathe
    | with_reducible apply State.kept_nonAudioEntries
    | with_reducible apply kept_ite
    | (extract_lets +onlyGivenNames x
       first
         | (refine kept_cut (s0 := s0) (x := x) ?_ (fun _ => ?_); (focus unfold x); on_goal 2 => clear_value x)
         | ((first | have y : Queue := x | have y : Fixer := x); clear y; unfold x; clear x)
         | clear_value x)
    | split)

theorem State.kept_driveMissing {s0 s : State} (a1 : Nat) (a2 : Epoch32) (a3 : Bool) (h : KeptBy s0 s) : KeptBy s0 (State.driveMissing s a1 a2 a3) := by
  unfold State.driveMissing
  repeat' (first
    | with_reducible assumption
    | with_reducible apply State.kept_modDrive
    | with_reducible apply State.kept_bathe
    | with_reducible apply State.kept_setFlag
    | with_reducible apply State.kept_raise
    | with_reducible apply kept_ite
    | (extract_lets +onlyGivenNames x
       first
         | (refine kept_cut (s0 := s0) (x := x) ?_ (fun _ => ?_); (focus unfold x); on_goal 2 => clear_value x)
         | ((first | have y : Queue := x | have y : Fixer := x); clear y; unfold x; clear x)
         | clear_value x)
    | split)

theorem State.kept_dropCauses {s0 s : State} (a1 : Nat) (h : KeptBy s0 s) : KeptBy s0 (State.dropCauses s a1) := by
  unfold State.dropCauses
  repeat' (first
    | with_reducible assumption
    | with_reducible apply State.kept_modDrive
    | with_reducible apply kept_ite
    | (extract_lets +onlyGivenNames x
       first
         | (refine kept_cut (s0 := s0) (x := x) ?_ (fun _ => ?_); (focus unfold x); on_goal 2 => clear_value x)
         | ((first | have y : Queue := x | have y : Fixer := x); clear y; unfold x; clear x)
         | clear_value x)
    | split)

theorem State.kept_driveMuted {s0 s : State} (a1 : Nat) (a2 : Read) (h : KeptBy s0 s) : KeptBy s0 (State.driveMuted s a1 a2) := by
  unfold State.driveMuted
  repeat' (first
    | with_reducible assumption
    | with_reducible apply State.kept_modDrive
    | with_reducible apply State.kept_dropCauses
    | with_reducible apply kept_ite
    | (extract_lets +onlyGivenNames x
       first
         | (refine kept_cut (s0 := s0) (x := x) ?_ (fun _ => ?_); (focus unfold x); on_goal 2 => clear_value x)
         | ((first | have y : Queue := x | have y : Fixer := x); clear y; unfold x; clear x)
         | clear_value x)
    | split)

theorem State.kept_driveOutput {s0 s : State} (a1 : Nat) (a2 : Read) (h : KeptBy s0 s) : KeptBy s0 (State.driveOutput s a1 a2) := by
  unfold State.driveOutput
  repeat' (first
    | with_reducible assumption
    | with_reducible apply State.kept_modDrive
    | with_reducible apply State.kept_examineArm
    | with_reducible apply State.kept_bathe
    | with_reducible apply State.kept_driveTo
    | with_reducible apply kept_ite
    | (extract_lets +onlyGivenNames x
       first
         | (refine kept_cut (s0 := s0) (x := x) ?_ (fun _ => ?_); (focus unfold x); on_goal 2 => clear_value x)
         | ((first | have y : Queue := x | have y : Fixer := x); clear y; unfold x; clear x)
         | clear_value x)
    | split)

theorem State.kept_interpolate {s0 s : State} (a1 : Nat) (a2 : Word) (a3 : Option Int) (h : KeptBy s0 s) : KeptBy s0 (State.interpolate s a1 a2 a3) := by
  unfold State.interpolate
  repeat' (first
    | with_reducible assumption
    | with_reducible apply State.kept_modDrive
    | with_reducible apply kept_ite
    | (extract_lets +onlyGivenNames x
       first
         | (refine kept_cut (s0 := s0) (x := x) ?_ (fun _ => ?_); (focus unfold x); on_goal 2 => clear_value x)
         | ((first | have y : Queue := x | have y : Fixer := x); clear y; unfold x; clear x)
         | clear_value x)
    | split)

theorem State.kept_sendOut {s0 s : State} (a1 : Nat) (a2 : Word) (a3 : Option Int) (h : KeptBy s0 s) : KeptBy s0 (State.sendOut s a1 a2 a3) := by
  unfold State.sendOut
  repeat' (first
    | with_reducible assumption
    | with_reducible apply State.kept_modStage
    | with_reducible apply State.kept_interpolate
    | with_reducible apply kept_ite
    | (extract_lets +onlyGivenNames x
       first
         | (refine kept_cut (s0 := s0) (x := x) ?_ (fun _ => ?_); (focus unfold x); on_goal 2 => clear_value x)
         | ((first | have y : Queue := x | have y : Fixer := x); clear y; unfold x; clear x)
         | clear_value x)
    | split)

theorem State.kept_readAt {s0 s : State} (a1 : Nat) (a2 : ReadIn) (a3 : Epoch32) (h : KeptBy s0 s) : KeptBy s0 (State.readAt s a1 a2 a3) := by
  unfold State.readAt
  repeat' (first
    | with_reducible assumption
    | with_reducible apply State.kept_driveRead
    | with_reducible refine State.kept_driveRead_eq (by with_reducible assumption) ?_
    | with_reducible apply State.kept_driveParity
    | with_reducible apply State.kept_driveFault
    | with_reducible apply State.kept_driveEdgeWait
    | with_reducible apply State.kept_driveRequest
    | with_reducible apply State.kept_nonAudioSound
    | with_reducible apply State.kept_driveMissing
    | with_reducible apply State.kept_modDrive
    | with_reducible apply State.kept_nonAudioEntries
    | with_reducible apply State.kept_driveMute
    | with_reducible apply State.kept_driveMuted
    | with_reducible apply State.kept_driveOutput
    | with_reducible apply State.kept_verifyTap
    | with_reducible apply State.kept_modStage
    | with_reducible apply State.kept_sendOut
    | with_reducible apply kept_ite
    | (extract_lets +onlyGivenNames x
       first
         | (refine kept_cut (s0 := s0) (x := x) ?_ (fun _ => ?_); (focus unfold x); on_goal 2 => clear_value x)
         | ((first | have y : Queue := x | have y : Fixer := x); clear y; unfold x; clear x)
         | clear_value x)
    | split)

theorem State.kept_readInstant {s0 s : State} (a1 : Nat) (a2 : ReadIn) (h : KeptBy s0 s) : KeptBy s0 (State.readInstant s a1 a2) := by
  unfold State.readInstant
  repeat' (first
    | with_reducible assumption
    | with_reducible apply State.kept_readAt
    | (extract_lets +onlyGivenNames x
       first
         | (refine kept_cut (s0 := s0) (x := x) ?_ (fun _ => ?_); (focus unfold x); on_goal 2 => clear_value x)
         | ((first | have y : Queue := x | have y : Fixer := x); clear y; unfold x; clear x)
         | clear_value x)
    | split)

theorem State.kept_wakeEnd {s0 s : State} (a1 : Nat) (h : KeptBy s0 s) : KeptBy s0 (State.wakeEnd s a1) := by
  unfold State.wakeEnd
  repeat' (first
    | with_reducible assumption
    | with_reducible apply State.kept_driveArm
    | with_reducible apply State.kept_modDrive
    | (extract_lets +onlyGivenNames x
       first
         | (refine kept_cut (s0 := s0) (x := x) ?_ (fun _ => ?_); (focus unfold x); on_goal 2 => clear_value x)
         | ((first | have y : Queue := x | have y : Fixer := x); clear y; unfold x; clear x)
         | clear_value x))

theorem State.kept_zcTimeout {s0 s : State} (a1 : Nat) (h : KeptBy s0 s) : KeptBy s0 (State.zcTimeout s a1) := by
  unfold State.zcTimeout
  repeat' (first
    | with_reducible assumption
    | with_reducible apply State.kept_countSat
    | with_reducible apply State.kept_setFlag
    | with_reducible apply State.kept_beginRamp
    | with_reducible apply State.kept_bathe
    | with_reducible apply kept_ite
    | (extract_lets +onlyGivenNames x
       first
         | (refine kept_cut (s0 := s0) (x := x) ?_ (fun _ => ?_); (focus unfold x); on_goal 2 => clear_value x)
         | ((first | have y : Queue := x | have y : Fixer := x); clear y; unfold x; clear x)
         | clear_value x)
    | split)

theorem State.kept_rampEnd {s0 s : State} (a1 : Nat) (h : KeptBy s0 s) : KeptBy s0 (State.rampEnd s a1) := by
  unfold State.rampEnd
  repeat' (first
    | with_reducible assumption
    | with_reducible apply State.kept_driveTo
    | with_reducible apply State.kept_countWrap
    | with_reducible apply State.kept_raise
    | with_reducible apply kept_ite
    | (extract_lets +onlyGivenNames x
       first
         | (refine kept_cut (s0 := s0) (x := x) ?_ (fun _ => ?_); (focus unfold x); on_goal 2 => clear_value x)
         | ((first | have y : Queue := x | have y : Fixer := x); clear y; unfold x; clear x)
         | clear_value x)
    | split)

theorem State.kept_bathEnd {s0 s : State} (a1 : Nat) (h : KeptBy s0 s) : KeptBy s0 (State.bathEnd s a1) := by
  unfold State.bathEnd
  repeat' (first
    | with_reducible assumption
    | with_reducible apply State.kept_driveMute
    | with_reducible apply State.kept_driveArm
    | with_reducible apply State.kept_modDrive
    | with_reducible apply kept_ite
    | (extract_lets +onlyGivenNames x
       first
         | (refine kept_cut (s0 := s0) (x := x) ?_ (fun _ => ?_); (focus unfold x); on_goal 2 => clear_value x)
         | ((first | have y : Queue := x | have y : Fixer := x); clear y; unfold x; clear x)
         | clear_value x)
    | split)

theorem State.kept_dwellEnd {s0 s : State} (a1 : Nat) (h : KeptBy s0 s) : KeptBy s0 (State.dwellEnd s a1) := by
  unfold State.dwellEnd
  repeat' (first
    | with_reducible assumption
    | with_reducible apply State.kept_driveArm
    | with_reducible apply State.kept_driveTo
    | with_reducible apply kept_ite
    | split)

theorem State.kept_muteResume {s0 s : State} (a1 : Nat) (h : KeptBy s0 s) : KeptBy s0 (State.muteResume s a1) := by
  unfold State.muteResume
  repeat' (first
    | with_reducible assumption
    | with_reducible apply State.kept_driveArm
    | with_reducible apply State.kept_examineArm
    | with_reducible apply State.kept_modDrive
    | with_reducible apply State.kept_sendOut
    | (extract_lets +onlyGivenNames x
       first
         | (refine kept_cut (s0 := s0) (x := x) ?_ (fun _ => ?_); (focus unfold x); on_goal 2 => clear_value x)
         | ((first | have y : Queue := x | have y : Fixer := x); clear y; unfold x; clear x)
         | clear_value x))

theorem State.kept_autoRestart {s0 s : State} (a1 : Nat) (h : KeptBy s0 s) : KeptBy s0 (State.autoRestart s a1) := by
  unfold State.autoRestart
  repeat' (first
    | with_reducible assumption
    | with_reducible apply State.kept_modDrive
    | with_reducible apply State.kept_muteResume
    | with_reducible apply kept_ite
    | (extract_lets +onlyGivenNames x
       first
         | (refine kept_cut (s0 := s0) (x := x) ?_ (fun _ => ?_); (focus unfold x); on_goal 2 => clear_value x)
         | ((first | have y : Queue := x | have y : Fixer := x); clear y; unfold x; clear x)
         | clear_value x)
    | split)

theorem State.kept_masterOn {s0 s : State}  (h : KeptBy s0 s) : KeptBy s0 (State.masterOn s) := by
  unfold State.masterOn
  repeat' (first
    | with_reducible assumption
    | intro _
    | with_reducible apply State.kept_fixerRelease
    | with_reducible apply State.kept_modDrive
    | with_reducible apply kept_foldl
    | (extract_lets +onlyGivenNames x
       first
         | (refine kept_cut (s0 := s0) (x := x) ?_ (fun _ => ?_); (focus unfold x); on_goal 2 => clear_value x)
         | ((first | have y : Queue := x | have y : Fixer := x); clear y; unfold x; clear x)
         | clear_value x))

theorem State.kept_edgeLoss {s0 s : State}  (h : KeptBy s0 s) : KeptBy s0 (State.edgeLoss s) := by
  unfold State.edgeLoss
  repeat' (first
    | with_reducible assumption
    | intro _
    | with_reducible apply State.kept_driveTo
    | with_reducible apply State.kept_modDrive
    | with_reducible apply State.kept_setFlag
    | with_reducible apply kept_ite
    | with_reducible apply kept_foldl
    | (extract_lets +onlyGivenNames x
       first
         | (refine kept_cut (s0 := s0) (x := x) ?_ (fun _ => ?_); (focus unfold x); on_goal 2 => clear_value x)
         | ((first | have y : Queue := x | have y : Fixer := x); clear y; unfold x; clear x)
         | clear_value x)
    | split)

theorem State.kept_printToSafe {s0 s : State}  (h : KeptBy s0 s) : KeptBy s0 (State.printToSafe s) := by
  unfold State.printToSafe
  repeat' (first
    | with_reducible assumption
    | intro _
    | with_reducible apply State.kept_setPair
    | with_reducible apply State.kept_driveTo
    | with_reducible apply State.kept_modDrive
    | with_reducible apply State.kept_endProof
    | with_reducible apply kept_ite
    | with_reducible apply kept_foldl
    | (extract_lets +onlyGivenNames x
       first
         | (refine kept_cut (s0 := s0) (x := x) ?_ (fun _ => ?_); (focus unfold x); on_goal 2 => clear_value x)
         | ((first | have y : Queue := x | have y : Fixer := x); clear y; unfold x; clear x)
         | clear_value x)
    | split)

theorem State.kept_strapPrint {s0 s : State}  (h : KeptBy s0 s) : KeptBy s0 (State.strapPrint s) := by
  unfold State.strapPrint
  repeat' (first
    | with_reducible assumption
    | (extract_lets +onlyGivenNames x
       first
         | (refine kept_cut (s0 := s0) (x := x) ?_ (fun _ => ?_); (focus unfold x); on_goal 2 => clear_value x)
         | ((first | have y : Queue := x | have y : Fixer := x); clear y; unfold x; clear x)
         | clear_value x))

theorem State.kept_endStageLoop {s0 s : State}  (h : KeptBy s0 s) : KeptBy s0 (State.endStageLoop s) := by
  unfold State.endStageLoop
  repeat' (first
    | with_reducible assumption
    | with_reducible apply kept_ite
    | (extract_lets +onlyGivenNames x
       first
         | (refine kept_cut (s0 := s0) (x := x) ?_ (fun _ => ?_); (focus unfold x); on_goal 2 => clear_value x)
         | ((first | have y : Queue := x | have y : Fixer := x); clear y; unfold x; clear x)
         | clear_value x)
    | split)

theorem State.kept_cutProof {s0 s : State}  (h : KeptBy s0 s) : KeptBy s0 (State.cutProof s) := by
  unfold State.cutProof
  repeat' (first
    | with_reducible assumption
    | (extract_lets +onlyGivenNames x
       first
         | (refine kept_cut (s0 := s0) (x := x) ?_ (fun _ => ?_); (focus unfold x); on_goal 2 => clear_value x)
         | ((first | have y : Queue := x | have y : Fixer := x); clear y; unfold x; clear x)
         | clear_value x))

theorem State.kept_startProof {s0 s : State}  (h : KeptBy s0 s) : KeptBy s0 (State.startProof s) := by
  unfold State.startProof
  repeat' (first
    | with_reducible assumption
    | with_reducible apply State.kept_setPair
    | with_reducible apply State.kept_modDrive
    | with_reducible apply State.kept_endStageLoop
    | with_reducible apply kept_ite
    | (extract_lets +onlyGivenNames x
       first
         | (refine kept_cut (s0 := s0) (x := x) ?_ (fun _ => ?_); (focus unfold x); on_goal 2 => clear_value x)
         | ((first | have y : Queue := x | have y : Fixer := x); clear y; unfold x; clear x)
         | clear_value x)
    | split)

theorem State.kept_proofDone {s0 s : State} (a1 : Half) (h : KeptBy s0 s) : KeptBy s0 (State.proofDone s a1) := by
  unfold State.proofDone
  repeat' (first
    | with_reducible assumption
    | with_reducible apply State.kept_setFlag
    | with_reducible apply State.kept_endProof
    | with_reducible apply kept_ite
    | (extract_lets +onlyGivenNames x
       first
         | (refine kept_cut (s0 := s0) (x := x) ?_ (fun _ => ?_); (focus unfold x); on_goal 2 => clear_value x)
         | ((first | have y : Queue := x | have y : Fixer := x); clear y; unfold x; clear x)
         | clear_value x)
    | split)

end Sys2Proof.Machine
end

