-- ==== Sys2Proof/Laws/KeptTank.lean ====
section
/-! SUPPORT. Every operation of Machine/Tank.lean keeps what `Kept` says. -/

set_option linter.unusedTactic false
set_option linter.unreachableTactic false
set_option linter.tactic.unusedName false

namespace Sys2Proof.Machine

theorem State.kept_writeLifeRecord {s0 s : State}  (h : KeptBy s0 s) : KeptBy s0 (State.writeLifeRecord s) := by
  unfold State.writeLifeRecord
  repeat' (first
    | with_reducible assumption
    | with_reducible apply State.kept_setTank)

theorem State.kept_pendWipe {s0 s : State} (a1 : Nat) (h : KeptBy s0 s) : KeptBy s0 (State.pendWipe s a1) := by
  unfold State.pendWipe
  repeat' (first
    | with_reducible assumption
    | with_reducible apply kept_ite
    | (extract_lets +onlyGivenNames x
       first
         | (refine kept_cut (s0 := s0) (x := x) ?_ (fun _ => ?_); (focus unfold x); on_goal 2 => clear_value x)
         | ((first | have y : Queue := x | have y : Fixer := x); clear y; unfold x; clear x)
         | clear_value x)
    | split)

theorem State.kept_eraseSecure {s0 s : State}  (h : KeptBy s0 s) : KeptBy s0 (State.eraseSecure s) := by
  unfold State.eraseSecure
  repeat' (first
    | with_reducible assumption
    | (extract_lets +onlyGivenNames x
       first
         | (refine kept_cut (s0 := s0) (x := x) ?_ (fun _ => ?_); (focus unfold x); on_goal 2 => clear_value x)
         | ((first | have y : Queue := x | have y : Fixer := x); clear y; unfold x; clear x)
         | clear_value x)
    | with_reducible apply kept_write32
    | with_reducible apply kept_keep
    | with_reducible apply kept_erase)

theorem State.kept_startWipe {s0 s : State}  (h : KeptBy s0 s) : KeptBy s0 (State.startWipe s) := by
  unfold State.startWipe
  repeat' (first
    | with_reducible assumption
    | with_reducible apply State.kept_eraseSecure
    | (extract_lets +onlyGivenNames x
       first
         | (refine kept_cut (s0 := s0) (x := x) ?_ (fun _ => ?_); (focus unfold x); on_goal 2 => clear_value x)
         | ((first | have y : Queue := x | have y : Fixer := x); clear y; unfold x; clear x)
         | clear_value x))

theorem State.kept_latchAfterWipe {s0 s : State}  (h : KeptBy s0 s) : KeptBy s0 (State.latchAfterWipe s) := by
  unfold State.latchAfterWipe
  repeat' (first
    | with_reducible assumption
    | with_reducible apply kept_ite
    | (extract_lets +onlyGivenNames x
       first
         | (refine kept_cut (s0 := s0) (x := x) ?_ (fun _ => ?_); (focus unfold x); on_goal 2 => clear_value x)
         | ((first | have y : Queue := x | have y : Fixer := x); clear y; unfold x; clear x)
         | clear_value x)
    | split)

theorem State.kept_endWipe {s0 s : State} (a1 : Option Nat) (h : KeptBy s0 s) : KeptBy s0 (State.endWipe s a1) := by
  unfold State.endWipe
  repeat' (first
    | with_reducible assumption
    | with_reducible apply State.kept_eraseSecure
    | with_reducible apply State.kept_setTankWords
    | with_reducible apply State.kept_setFlag
    | with_reducible apply State.kept_raise
    | with_reducible apply State.kept_latchAfterWipe
    | with_reducible apply kept_ite
    | (extract_lets +onlyGivenNames x
       first
         | (refine kept_cut (s0 := s0) (x := x) ?_ (fun _ => ?_); (focus unfold x); on_goal 2 => clear_value x)
         | ((first | have y : Queue := x | have y : Fixer := x); clear y; unfold x; clear x)
         | clear_value x)
    | split)

theorem State.kept_afterWipe {s0 s : State} (a1 : Bool) (h : KeptBy s0 s) : KeptBy s0 (State.afterWipe s a1) := by
  unfold State.afterWipe
  repeat' (first
    | with_reducible assumption
    | with_reducible apply kept_ite
    | (extract_lets +onlyGivenNames x
       first
         | (refine kept_cut (s0 := s0) (x := x) ?_ (fun _ => ?_); (focus unfold x); on_goal 2 => clear_value x)
         | ((first | have y : Queue := x | have y : Fixer := x); clear y; unfold x; clear x)
         | clear_value x)
    | split)

theorem State.kept_tamperOff {s0 s : State}  (h : KeptBy s0 s) : KeptBy s0 (State.tamperOff s) := by
  unfold State.tamperOff
  repeat' (first
    | with_reducible assumption
    | with_reducible apply kept_ite
    | (extract_lets +onlyGivenNames x
       first
         | (refine kept_cut (s0 := s0) (x := x) ?_ (fun _ => ?_); (focus unfold x); on_goal 2 => clear_value x)
         | ((first | have y : Queue := x | have y : Fixer := x); clear y; unfold x; clear x)
         | clear_value x)
    | split)

theorem State.kept_fogEnd {s0 s : State}  (h : KeptBy s0 s) : KeptBy s0 (State.fogEnd s) := by
  unfold State.fogEnd
  repeat' (first
    | with_reducible assumption
    | with_reducible apply State.kept_fogRestore
    | with_reducible apply kept_ite
    | split)

theorem State.kept_fogSave {s0 s : State} (struck : Bool) (h : KeptBy s0 s) : KeptBy s0 (State.fogSave s struck).1 := by
  unfold State.fogSave
  extract_lets w t s1
  have h1 : KeptBy s0 s1 := kept_ite h h
  clear_value s1
  with_reducible apply kept_foldl_fst
  · intro q a hq
    exact State.kept_eccRead _ _ _ hq
  · exact h1

theorem State.kept_fogSave_eq {s0 s t : State} (struck : Bool) {x : Bool} (e : State.fogSave s struck = (t, x)) (h : KeptBy s0 s) :
    KeptBy s0 t := by
  have := State.kept_fogSave struck h
  rwa [e] at this

theorem State.kept_fogBegin {s0 s : State} (a1 : FogIn) (h : KeptBy s0 s) : KeptBy s0 (State.fogBegin s a1) := by
  unfold State.fogBegin
  repeat' (first
    | with_reducible assumption
    | with_reducible apply kept_ite
    | (extract_lets +onlyGivenNames x
       first
         | (refine kept_cut (s0 := s0) (x := x) ?_ (fun _ => ?_); (focus unfold x); on_goal 2 => clear_value x)
         | ((first | have y : Queue := x | have y : Fixer := x); clear y; unfold x; clear x)
         | clear_value x)
    | split)

theorem State.kept_fogBorrow {s0 s : State} (a1 : FogIn) (h : KeptBy s0 s) : KeptBy s0 (State.fogBorrow s a1) := by
  unfold State.fogBorrow
  repeat' (first
    | with_reducible assumption
    | with_reducible apply State.kept_fogSave
    | with_reducible refine State.kept_fogSave_eq (by with_reducible assumption) ?_
    | with_reducible apply State.kept_fogSkip
    | with_reducible apply kept_ite
    | (extract_lets +onlyGivenNames x
       first
         | (refine kept_cut (s0 := s0) (x := x) ?_ (fun _ => ?_); (focus unfold x); on_goal 2 => clear_value x)
         | ((first | have y : Queue := x | have y : Fixer := x); clear y; unfold x; clear x)
         | clear_value x)
    | split)

theorem State.kept_fogMarched {s0 s : State} (a1 : Option Nat) (h : KeptBy s0 s) : KeptBy s0 (State.fogMarched s a1) := by
  unfold State.fogMarched
  repeat' (first
    | with_reducible assumption
    | with_reducible apply State.kept_setReg
    | with_reducible apply State.kept_setFlag
    | with_reducible apply State.kept_raise
    | with_reducible apply State.kept_fixerReport
    | (extract_lets +onlyGivenNames x
       first
         | (refine kept_cut (s0 := s0) (x := x) ?_ (fun _ => ?_); (focus unfold x); on_goal 2 => clear_value x)
         | ((first | have y : Queue := x | have y : Fixer := x); clear y; unfold x; clear x)
         | clear_value x)
    | split)

theorem State.kept_fogStep {s0 s : State} (a1 : FogIn) (h : KeptBy s0 s) : KeptBy s0 (State.fogStep s a1) := by
  unfold State.fogStep
  repeat' (first
    | with_reducible assumption
    | with_reducible apply State.kept_fogBegin
    | with_reducible apply State.kept_fogBorrow
    | with_reducible apply State.kept_fogMarched
    | with_reducible apply State.kept_fogNext
    | with_reducible apply State.kept_fogRestore
    | with_reducible apply kept_ite
    | (extract_lets +onlyGivenNames x
       first
         | (refine kept_cut (s0 := s0) (x := x) ?_ (fun _ => ?_); (focus unfold x); on_goal 2 => clear_value x)
         | ((first | have y : Queue := x | have y : Fixer := x); clear y; unfold x; clear x)
         | clear_value x)
    | split)

theorem State.kept_strike {s0 s : State} (word : Nat) (o : Option (Nat × Bool)) (h : KeptBy s0 s) :
    KeptBy s0 (State.strike s word o) := by
  cases o with
  | none => exact h
  | some p => exact State.kept_eccClear word p.1 h

theorem State.kept_dropCommand {s0 s : State} (a1 : Nat) (h : KeptBy s0 s) : KeptBy s0 (State.dropCommand s a1) := by
  unfold State.dropCommand
  repeat' (first
    | with_reducible assumption
    | with_reducible apply State.kept_setTag
    | with_reducible apply kept_ite
    | (extract_lets +onlyGivenNames x
       first
         | (refine kept_cut (s0 := s0) (x := x) ?_ (fun _ => ?_); (focus unfold x); on_goal 2 => clear_value x)
         | ((first | have y : Queue := x | have y : Fixer := x); clear y; unfold x; clear x)
         | clear_value x)
    | split)

theorem State.kept_dropEntry {s0 s : State} (w : Nat) (h : KeptBy s0 s) : KeptBy s0 (State.dropEntry s w) := by
  unfold State.dropEntry
  exact kept_ite h (kept_ite (State.kept_dropCommand _ h) (kept_ite h (State.kept_keepEvents h (List.length_filter_le _ _))))

theorem State.kept_busFault {s0 s : State}  (h : KeptBy s0 s) : KeptBy s0 (State.busFault s) := by
  unfold State.busFault
  repeat' (first
    | with_reducible assumption
    | (extract_lets +onlyGivenNames x
       first
         | (refine kept_cut (s0 := s0) (x := x) ?_ (fun _ => ?_); (focus unfold x); on_goal 2 => clear_value x)
         | ((first | have y : Queue := x | have y : Fixer := x); clear y; unfold x; clear x)
         | clear_value x))

theorem State.kept_loupeUe {s0 s : State} (a1 : Bool) (h : KeptBy s0 s) : KeptBy s0 (State.loupeUe s a1) := by
  unfold State.loupeUe
  repeat' (first
    | with_reducible assumption
    | with_reducible apply State.kept_busFault
    | (extract_lets +onlyGivenNames x
       first
         | (refine kept_cut (s0 := s0) (x := x) ?_ (fun _ => ?_); (focus unfold x); on_goal 2 => clear_value x)
         | ((first | have y : Queue := x | have y : Fixer := x); clear y; unfold x; clear x)
         | clear_value x))

theorem State.kept_developerUe {s0 s : State} (a1 : Nat) (h : KeptBy s0 s) : KeptBy s0 (State.developerUe s a1) := by
  unfold State.developerUe
  repeat' (first
    | with_reducible assumption
    | with_reducible apply State.kept_countSample
    | with_reducible apply State.kept_templateEcc
    | with_reducible apply kept_ite
    | (extract_lets +onlyGivenNames x
       first
         | (refine kept_cut (s0 := s0) (x := x) ?_ (fun _ => ?_); (focus unfold x); on_goal 2 => clear_value x)
         | ((first | have y : Queue := x | have y : Fixer := x); clear y; unfold x; clear x)
         | clear_value x)
    | split)

theorem State.kept_readLost {s0 s : State} (a1 : TankReq) (a2 : List Nat) (h : KeptBy s0 s) : KeptBy s0 (State.readLost s a1 a2) := by
  unfold State.readLost
  repeat' (first
    | with_reducible assumption
    | intro _
    | with_reducible apply State.kept_dropEntry
    | with_reducible apply State.kept_developerUe
    | with_reducible apply State.kept_loupeUe
    | with_reducible apply kept_ite
    | with_reducible apply kept_foldl
    | (extract_lets +onlyGivenNames x
       first
         | (refine kept_cut (s0 := s0) (x := x) ?_ (fun _ => ?_); (focus unfold x); on_goal 2 => clear_value x)
         | ((first | have y : Queue := x | have y : Fixer := x); clear y; unfold x; clear x)
         | clear_value x)
    | split)

theorem State.kept_readGroups {s0 s : State} (word rank : Nat) (gs : List Nat) (h : KeptBy s0 s) :
    KeptBy s0 (State.readGroups s word rank gs).1 := by
  induction gs generalizing s with
  | nil => exact h
  | cons g gs ih => exact ih (State.kept_eccRead _ _ _ h)

theorem State.kept_readGroups_eq {s0 s t : State} (word rank : Nat) (gs : List Nat) {x : List Nat}
    (e : State.readGroups s word rank gs = (t, x)) (h : KeptBy s0 s) : KeptBy s0 t := by
  have := State.kept_readGroups word rank gs h
  rwa [e] at this

theorem State.kept_writeGroup {s0 s : State} (r : TankReq) (g : Nat) (h : KeptBy s0 s) : KeptBy s0 (State.writeGroup s r g).1 := by
  unfold State.writeGroup
  extract_lets lo hi
  split
  · exact State.kept_eccClear _ _ h
  · split
    rename_i t ue e
    have h1 : KeptBy s0 (t.eccClear r.word g) := State.kept_eccClear _ _ (State.kept_eccRead_eq _ _ _ e h)
    dsimp only
    split
    · exact State.kept_putWord _ _ h1
    · exact h1

theorem State.kept_writeGroups {s0 s : State} (r : TankReq) (h : KeptBy s0 s) : KeptBy s0 (State.writeGroups s r) := by
  unfold State.writeGroups
  split
  rename_i t bad e
  have h1 : KeptBy s0 t := by
    rw [show t = (t, bad).1 from rfl, ← e]
    exact kept_foldl_fst (fun q a hq => State.kept_writeGroup r a hq) h
  exact kept_ite (State.kept_loupeUe _ h1) h1

theorem State.kept_wipeRead {s0 s : State} (r : TankReq) (h : KeptBy s0 s) : KeptBy s0 (State.wipeRead s r) := by
  unfold State.wipeRead
  extract_lets struck
  split
  rename_i t bad e
  have h1 : KeptBy s0 t := State.kept_readGroups_eq _ _ _ e h
  extract_lets n b t'
  have h2 : KeptBy s0 t' := kept_erase _ _ h1
  clear_value t'
  exact kept_ite h1 (kept_ite h2 (State.kept_afterWipe _ (State.kept_endWipe _ h2)))

theorem State.kept_loupeAccess {s0 s : State} (a1 : Bool) (h : KeptBy s0 s) : KeptBy s0 (State.loupeAccess s a1) := by
  unfold State.loupeAccess
  repeat' (first
    | with_reducible assumption
    | (extract_lets +onlyGivenNames x
       first
         | (refine kept_cut (s0 := s0) (x := x) ?_ (fun _ => ?_); (focus unfold x); on_goal 2 => clear_value x)
         | ((first | have y : Queue := x | have y : Fixer := x); clear y; unfold x; clear x)
         | clear_value x))

theorem State.kept_tankAccess {s0 s : State} (r : TankReq) (h : KeptBy s0 s) : KeptBy s0 (State.tankAccess s r) := by
  unfold State.tankAccess
  extract_lets w loupe s1 s2 s3 s4
  have h1 : KeptBy s0 s1 := State.kept_strike _ _ h
  clear_value s1
  have h2 : KeptBy s0 s2 := kept_ite h1 (State.kept_fogYield _ h1)
  clear_value s2
  have h3 : KeptBy s0 s3 := kept_ite (State.kept_loupeAccess _ h2) h2
  clear_value s3
  have h4 : KeptBy s0 s4 := State.kept_writeGroups _ h3
  clear_value s4
  refine kept_ite h ?_
  split
  · refine kept_ite (State.kept_wipeRead _ h3) ?_
    split
    rename_i t bad e
    have h5 : KeptBy s0 (t.readLost r bad) := State.kept_readLost _ _ (State.kept_readGroups_eq _ _ _ e h3)
    exact kept_ite h5 h5
  · exact kept_ite (kept_foldl (fun _ _ hu => State.kept_putWord _ _ hu) h4) h4

theorem State.kept_tankCycle {s0 s : State} (a1 : List TankReq) (h : KeptBy s0 s) : KeptBy s0 (State.tankCycle s a1) := by
  unfold State.tankCycle
  repeat' (first
    | with_reducible assumption
    | intro _
    | with_reducible apply State.kept_busFault
    | with_reducible apply State.kept_tankAccess
    | with_reducible apply kept_ite
    | with_reducible apply kept_foldl
    | (extract_lets +onlyGivenNames x
       first
         | (refine kept_cut (s0 := s0) (x := x) ?_ (fun _ => ?_); (focus unfold x); on_goal 2 => clear_value x)
         | ((first | have y : Queue := x | have y : Fixer := x); clear y; unfold x; clear x)
         | clear_value x)
    | split)

theorem State.kept_atomic {s0 s : State} (word lane : Nat) (i : AtomicIn) (f : Word → Word) (h : KeptBy s0 s) :
    KeptBy s0 (State.atomic s word lane i f) := by
  unfold State.atomic
  extract_lets w s1
  with_reducible apply kept_ite
  · exact h
  with_reducible apply kept_ite
  · exact State.kept_busFault h
  have h1 : KeptBy s0 s1 := State.kept_loupeAccess _ (State.kept_fogYield _ h)
  clear_value s1
  split
  rename_i s2 ue e
  have h2 : KeptBy s0 (s2.eccClear word (lane / 2)) := State.kept_eccClear _ _ (State.kept_eccRead_eq _ _ _ e h1)
  dsimp only
  with_reducible apply kept_ite
  · exact State.kept_loupeUe _ (State.kept_putWord _ _ (State.kept_putWord _ _ (State.kept_freeWord h2)))
  · exact State.kept_putWord _ _ h2

theorem State.kept_windowRead {s0 s : State} (w : Nat) (h : KeptBy s0 s) : KeptBy s0 (State.windowRead s w).2 := by
  unfold State.windowRead
  have h1 := State.kept_eccRead (w / 8) (w % 8 / 2) 6 (State.kept_fogYield (w / 8) h)
  dsimp only
  split
  · exact State.kept_freeWord h1
  · exact h1

theorem State.kept_windowRead_eq {s0 s t : State} (w : Nat) {x : Word} (e : State.windowRead s w = (x, t)) (h : KeptBy s0 s) :
    KeptBy s0 t := by
  have := State.kept_windowRead w h
  rwa [e] at this

theorem State.kept_latentRead {s0 s t : State} {w : Nat} {v : Word} (h : KeptBy s0 s)
    (e : State.latentRead s w = some (v, t)) : KeptBy s0 t := by
  unfold State.latentRead at e
  obtain ⟨p, -, e⟩ := Option.map_eq_some_iff.mp e
  have hw := State.kept_windowRead p.1 h
  dsimp only at e
  split at e
  · split at e
    · obtain ⟨-, rfl⟩ := Prod.mk.inj e
      exact State.kept_raise _ _ _ _ (State.kept_setFlag _ _ hw)
    · rwa [e] at hw
  · rwa [e] at hw

end Sys2Proof.Machine
end

