-- ==== Sys2Proof/Laws/KeptLoupe.lean ====
section
/-! SUPPORT. Every operation of Machine/Loupe.lean keeps what `Kept` says. -/

set_option linter.unusedTactic false
set_option linter.unreachableTactic false
set_option linter.tactic.unusedName false

namespace Sys2Proof.Machine

theorem State.kept_blankSensors {s0 s : State}  (h : KeptBy s0 s) : KeptBy s0 (State.blankSensors s) := by
  unfold State.blankSensors
  repeat' (first
    | with_reducible assumption
    | with_reducible apply State.kept_setReg
    | (extract_lets +onlyGivenNames x
       first
         | (refine kept_cut (s0 := s0) (x := x) ?_ (fun _ => ?_); (focus unfold x); on_goal 2 => clear_value x)
         | ((first | have y : Queue := x | have y : Fixer := x); clear y; unfold x; clear x)
         | clear_value x))

theorem State.kept_dropPatch {s0 s : State}  (h : KeptBy s0 s) : KeptBy s0 (State.dropPatch s) := by
  unfold State.dropPatch
  repeat' (first
    | with_reducible assumption
    | with_reducible apply State.kept_setReg
    | (extract_lets +onlyGivenNames x
       first
         | (refine kept_cut (s0 := s0) (x := x) ?_ (fun _ => ?_); (focus unfold x); on_goal 2 => clear_value x)
         | ((first | have y : Queue := x | have y : Fixer := x); clear y; unfold x; clear x)
         | clear_value x))

theorem State.kept_startLoupe {s0 s : State}  (h : KeptBy s0 s) : KeptBy s0 (State.startLoupe s) := by
  unfold State.startLoupe
  repeat' (first
    | with_reducible assumption
    | with_reducible apply State.kept_blankSensors
    | with_reducible apply kept_ite
    | (extract_lets +onlyGivenNames x
       first
         | (refine kept_cut (s0 := s0) (x := x) ?_ (fun _ => ?_); (focus unfold x); on_goal 2 => clear_value x)
         | ((first | have y : Queue := x | have y : Fixer := x); clear y; unfold x; clear x)
         | clear_value x)
    | split)

theorem State.kept_copyKeys {s0 s : State}  (h : KeptBy s0 s) : KeptBy s0 (State.copyKeys s) := by
  unfold State.copyKeys
  repeat' (first
    | with_reducible assumption
    | intro _
    | with_reducible apply State.kept_storeLane
    | with_reducible apply kept_ite
    | with_reducible apply kept_foldl
    | split)

theorem State.kept_loupeReady {s0 s : State}  (h : KeptBy s0 s) : KeptBy s0 (State.loupeReady s) := by
  unfold State.loupeReady
  repeat' (first
    | with_reducible assumption
    | with_reducible apply State.kept_copyKeys
    | with_reducible apply kept_ite
    | (extract_lets +onlyGivenNames x
       first
         | (refine kept_cut (s0 := s0) (x := x) ?_ (fun _ => ?_); (focus unfold x); on_goal 2 => clear_value x)
         | ((first | have y : Queue := x | have y : Fixer := x); clear y; unfold x; clear x)
         | clear_value x)
    | split)

theorem State.kept_loupeToSafe {s0 s : State}  (h : KeptBy s0 s) : KeptBy s0 (State.loupeToSafe s) := by
  unfold State.loupeToSafe
  repeat' (first
    | with_reducible assumption
    | with_reducible apply State.kept_raise
    | with_reducible apply State.kept_dropPatch
    | with_reducible apply kept_ite
    | (extract_lets +onlyGivenNames x
       first
         | (refine kept_cut (s0 := s0) (x := x) ?_ (fun _ => ?_); (focus unfold x); on_goal 2 => clear_value x)
         | ((first | have y : Queue := x | have y : Fixer := x); clear y; unfold x; clear x)
         | clear_value x)
    | split)

theorem State.kept_loupeCancel {s0 s : State}  (h : KeptBy s0 s) : KeptBy s0 (State.loupeCancel s) := by
  unfold State.loupeCancel
  repeat' (first
    | with_reducible assumption
    | with_reducible apply State.kept_dropPatch
    | with_reducible apply State.kept_startLoupe
    | (extract_lets +onlyGivenNames x
       first
         | (refine kept_cut (s0 := s0) (x := x) ?_ (fun _ => ?_); (focus unfold x); on_goal 2 => clear_value x)
         | ((first | have y : Queue := x | have y : Fixer := x); clear y; unfold x; clear x)
         | clear_value x))

theorem State.kept_restartBase {s0 s : State}  (h : KeptBy s0 s) : KeptBy s0 (State.restartBase s) := by
  unfold State.restartBase
  repeat' (first
    | with_reducible assumption
    | with_reducible apply State.kept_startLoupe
    | with_reducible apply State.kept_dropPatch
    | (extract_lets +onlyGivenNames x
       first
         | (refine kept_cut (s0 := s0) (x := x) ?_ (fun _ => ?_); (focus unfold x); on_goal 2 => clear_value x)
         | ((first | have y : Queue := x | have y : Fixer := x); clear y; unfold x; clear x)
         | clear_value x))

theorem State.kept_abandonVerify {s0 s : State}  (h : KeptBy s0 s) : KeptBy s0 (State.abandonVerify s) := by
  unfold State.abandonVerify
  repeat' (first
    | with_reducible assumption
    | with_reducible apply State.kept_setFlag
    | with_reducible apply State.kept_countSat
    | with_reducible apply State.kept_raise
    | with_reducible apply State.kept_dropPatch
    | with_reducible apply kept_ite
    | split)

theorem State.kept_makeWipe {s0 s : State} (a1 : Nat) (h : KeptBy s0 s) : KeptBy s0 (State.makeWipe s a1) := by
  unfold State.makeWipe
  repeat' (first
    | with_reducible assumption
    | with_reducible apply State.kept_pendWipe
    | with_reducible apply State.kept_abandonVerify
    | with_reducible apply State.kept_restartBase
    | with_reducible apply State.kept_dropPatch
    | with_reducible apply kept_ite
    | (extract_lets +onlyGivenNames x
       first
         | (refine kept_cut (s0 := s0) (x := x) ?_ (fun _ => ?_); (focus unfold x); on_goal 2 => clear_value x)
         | ((first | have y : Queue := x | have y : Fixer := x); clear y; unfold x; clear x)
         | clear_value x)
    | split)

theorem State.kept_tjWarn {s0 s : State} (a1 : List Int) (a2 : Nat) (h : KeptBy s0 s) : KeptBy s0 (State.tjWarn s a1 a2) := by
  unfold State.tjWarn
  repeat' (first
    | with_reducible assumption
    | with_reducible apply State.kept_setFlag
    | with_reducible apply State.kept_raise
    | with_reducible apply kept_ite
    | (extract_lets +onlyGivenNames x
       first
         | (refine kept_cut (s0 := s0) (x := x) ?_ (fun _ => ?_); (focus unfold x); on_goal 2 => clear_value x)
         | ((first | have y : Queue := x | have y : Fixer := x); clear y; unfold x; clear x)
         | clear_value x)
    | split)

theorem State.kept_tickTj {s0 s : State} (a1 : TickIn) (h : KeptBy s0 s) : KeptBy s0 (State.tickTj s a1) := by
  unfold State.tickTj
  repeat' (first
    | with_reducible assumption
    | with_reducible apply State.kept_tjWarn
    | with_reducible apply kept_ite
    | (extract_lets +onlyGivenNames x
       first
         | (refine kept_cut (s0 := s0) (x := x) ?_ (fun _ => ?_); (focus unfold x); on_goal 2 => clear_value x)
         | ((first | have y : Queue := x | have y : Fixer := x); clear y; unfold x; clear x)
         | clear_value x)
    | split)

theorem State.kept_tjTrip {s0 s : State} (a1 : Nat) (h : KeptBy s0 s) : KeptBy s0 (State.tjTrip s a1) := by
  unfold State.tjTrip
  repeat' (first
    | with_reducible assumption
    | with_reducible apply State.kept_setPair
    | with_reducible apply State.kept_setFlag
    | with_reducible apply State.kept_raise
    | (extract_lets +onlyGivenNames x
       first
         | (refine kept_cut (s0 := s0) (x := x) ?_ (fun _ => ?_); (focus unfold x); on_goal 2 => clear_value x)
         | ((first | have y : Queue := x | have y : Fixer := x); clear y; unfold x; clear x)
         | clear_value x))

theorem State.kept_judgeSupply {s0 s : State} (a0 : Sensors) (a2 : Nat) (h : KeptBy s0 s) : KeptBy s0 (State.judgeSupply a0 s a2) := by
  unfold State.judgeSupply
  repeat' (first
    | with_reducible assumption
    | with_reducible apply State.kept_raise
    | with_reducible apply kept_ite
    | (extract_lets +onlyGivenNames x
       first
         | (refine kept_cut (s0 := s0) (x := x) ?_ (fun _ => ?_); (focus unfold x); on_goal 2 => clear_value x)
         | ((first | have y : Queue := x | have y : Fixer := x); clear y; unfold x; clear x)
         | clear_value x)
    | split)

theorem State.kept_takeSensors {s0 s : State} (a1 : Sensors) (h : KeptBy s0 s) : KeptBy s0 (State.takeSensors s a1) := by
  unfold State.takeSensors
  repeat' (first
    | with_reducible assumption
    | intro _
    | with_reducible apply State.kept_setReg
    | with_reducible apply State.kept_judgeSupply
    | with_reducible apply State.kept_tjWarn
    | with_reducible apply kept_foldl
    | (extract_lets +onlyGivenNames x
       first
         | (refine kept_cut (s0 := s0) (x := x) ?_ (fun _ => ?_); (focus unfold x); on_goal 2 => clear_value x)
         | ((first | have y : Queue := x | have y : Fixer := x); clear y; unfold x; clear x)
         | clear_value x))

theorem State.kept_noteFrameLen {s0 s : State} (a1 : Nat) (h : KeptBy s0 s) : KeptBy s0 (State.noteFrameLen s a1) := by
  unfold State.noteFrameLen
  repeat' (first
    | with_reducible assumption
    | with_reducible apply State.kept_setReg
    | with_reducible apply kept_ite
    | (extract_lets +onlyGivenNames x
       first
         | (refine kept_cut (s0 := s0) (x := x) ?_ (fun _ => ?_); (focus unfold x); on_goal 2 => clear_value x)
         | ((first | have y : Queue := x | have y : Fixer := x); clear y; unfold x; clear x)
         | clear_value x)
    | split)

theorem State.kept_mbxPass {s0 s : State} (a1 : Nat) (h : KeptBy s0 s) : KeptBy s0 (State.mbxPass s a1) := by
  unfold State.mbxPass
  repeat' (first
    | with_reducible assumption
    | (extract_lets +onlyGivenNames x
       first
         | (refine kept_cut (s0 := s0) (x := x) ?_ (fun _ => ?_); (focus unfold x); on_goal 2 => clear_value x)
         | ((first | have y : Queue := x | have y : Fixer := x); clear y; unfold x; clear x)
         | clear_value x))

theorem State.kept_mbxResult {s0 s : State} (a1 : Nat) (a2 : Word) (a3 : Word) (h : KeptBy s0 s) : KeptBy s0 (State.mbxResult s a1 a2 a3).2 := by
  unfold State.mbxResult
  repeat' (first
    | with_reducible assumption
    | with_reducible apply State.kept_freeWord
    | with_reducible refine State.kept_freeWord_eq (by with_reducible assumption) ?_
    | with_reducible apply State.kept_fogSpan
    | with_reducible apply kept_ite
    | (extract_lets +onlyGivenNames x
       first
         | (refine kept_cut (s0 := s0) (x := x) ?_ (fun _ => ?_); (focus unfold x); on_goal 2 => clear_value x)
         | ((first | have y : Queue := x | have y : Fixer := x); clear y; unfold x; clear x)
         | clear_value x)
    | split)

theorem State.kept_mbxResult_eq {s0 s t : State} (a1 : Nat) (a2 : Word) (a3 : Word) {x : Word} (e : State.mbxResult s a1 a2 a3 = (x, t)) (h : KeptBy s0 s) : KeptBy s0 t := by
  have := State.kept_mbxResult a1 a2 a3 h
  rwa [e] at this

theorem State.kept_mbxDone {s0 s : State} (a1 : Word) (a2 : Sensors) (h : KeptBy s0 s) : KeptBy s0 (State.mbxDone s a1 a2) := by
  unfold State.mbxDone
  repeat' (first
    | with_reducible assumption
    | with_reducible apply State.kept_takeSensors
    | with_reducible apply State.kept_mbxResult
    | with_reducible refine State.kept_mbxResult_eq (by with_reducible assumption) ?_
    | with_reducible apply State.kept_setReg
    | with_reducible apply State.kept_setFlag
    | with_reducible apply kept_ite
    | (extract_lets +onlyGivenNames x
       first
         | (refine kept_cut (s0 := s0) (x := x) ?_ (fun _ => ?_); (focus unfold x); on_goal 2 => clear_value x)
         | ((first | have y : Queue := x | have y : Fixer := x); clear y; unfold x; clear x)
         | clear_value x)
    | split)

theorem State.kept_enterPatch {s0 s : State}  (h : KeptBy s0 s) : KeptBy s0 (State.enterPatch s) := by
  unfold State.enterPatch
  repeat' (first
    | with_reducible assumption
    | with_reducible apply State.kept_setReg
    | with_reducible apply State.kept_setFlag
    | with_reducible apply State.kept_raise
    | (extract_lets +onlyGivenNames x
       first
         | (refine kept_cut (s0 := s0) (x := x) ?_ (fun _ => ?_); (focus unfold x); on_goal 2 => clear_value x)
         | ((first | have y : Queue := x | have y : Fixer := x); clear y; unfold x; clear x)
         | clear_value x))

theorem State.kept_patchBad {s0 s : State} (a1 : Nat) (h : KeptBy s0 s) : KeptBy s0 (State.patchBad s a1) := by
  unfold State.patchBad
  repeat' (first
    | with_reducible assumption
    | with_reducible apply State.kept_dropPatch
    | with_reducible apply State.kept_setFlag
    | with_reducible apply State.kept_countSat
    | with_reducible apply State.kept_raise
    | (extract_lets +onlyGivenNames x
       first
         | (refine kept_cut (s0 := s0) (x := x) ?_ (fun _ => ?_); (focus unfold x); on_goal 2 => clear_value x)
         | ((first | have y : Queue := x | have y : Fixer := x); clear y; unfold x; clear x)
         | clear_value x))

theorem State.kept_verifyDone {s0 s : State}  (h : KeptBy s0 s) : KeptBy s0 (State.verifyDone s) := by
  unfold State.verifyDone
  repeat' (first
    | with_reducible assumption
    | with_reducible apply State.kept_fogSpan
    | with_reducible apply State.kept_patchBad
    | with_reducible apply State.kept_enterPatch
    | with_reducible apply kept_ite
    | (extract_lets +onlyGivenNames x
       first
         | (refine kept_cut (s0 := s0) (x := x) ?_ (fun _ => ?_); (focus unfold x); on_goal 2 => clear_value x)
         | ((first | have y : Queue := x | have y : Fixer := x); clear y; unfold x; clear x)
         | clear_value x)
    | split)

theorem State.kept_raiseFloor {s0 s : State}  (h : KeptBy s0 s) : KeptBy s0 (State.raiseFloor s) := by
  unfold State.raiseFloor
  repeat' (first
    | with_reducible assumption
    | with_reducible apply State.kept_writeLifeRecord
    | with_reducible apply State.kept_enterPatch
    | with_reducible apply kept_ite
    | (extract_lets +onlyGivenNames x
       first
         | (refine kept_cut (s0 := s0) (x := x) ?_ (fun _ => ?_); (focus unfold x); on_goal 2 => clear_value x)
         | ((first | have y : Queue := x | have y : Fixer := x); clear y; unfold x; clear x)
         | clear_value x)
    | split)

theorem State.kept_patchWrite {s0 s : State} (a1 : Word) (h : KeptBy s0 s) : KeptBy s0 (State.patchWrite s a1) := by
  unfold State.patchWrite
  repeat' (first
    | with_reducible assumption
    | with_reducible apply State.kept_fixerRelease
    | with_reducible apply State.kept_restartBase
    | with_reducible apply State.kept_dropPatch
    | with_reducible apply kept_ite
    | (extract_lets +onlyGivenNames x
       first
         | (refine kept_cut (s0 := s0) (x := x) ?_ (fun _ => ?_); (focus unfold x); on_goal 2 => clear_value x)
         | ((first | have y : Queue := x | have y : Fixer := x); clear y; unfold x; clear x)
         | clear_value x)
    | split)

theorem State.kept_requestLife {s0 s : State} (a1 : Word) (h : KeptBy s0 s) : KeptBy s0 (State.requestLife s a1) := by
  unfold State.requestLife
  repeat' (first
    | with_reducible assumption
    | with_reducible apply State.kept_makeWipe
    | (extract_lets +onlyGivenNames x
       first
         | (refine kept_cut (s0 := s0) (x := x) ?_ (fun _ => ?_); (focus unfold x); on_goal 2 => clear_value x)
         | ((first | have y : Queue := x | have y : Fixer := x); clear y; unfold x; clear x)
         | clear_value x))

theorem State.kept_lifecycle {s0 s : State}  (h : KeptBy s0 s) : KeptBy s0 (State.lifecycle s) := by
  unfold State.lifecycle
  repeat' (first
    | with_reducible assumption
    | with_reducible apply State.kept_writeLifeRecord
    | with_reducible apply State.kept_setPair
    | with_reducible apply State.kept_setFlag
    | with_reducible apply State.kept_raise
    | (extract_lets +onlyGivenNames x
       first
         | (refine kept_cut (s0 := s0) (x := x) ?_ (fun _ => ?_); (focus unfold x); on_goal 2 => clear_value x)
         | ((first | have y : Queue := x | have y : Fixer := x); clear y; unfold x; clear x)
         | clear_value x)
    | split)

theorem State.kept_watchdog {s0 s : State}  (h : KeptBy s0 s) : KeptBy s0 (State.watchdog s) := by
  unfold State.watchdog
  repeat' (first
    | with_reducible assumption
    | with_reducible apply State.kept_dropPatch
    | with_reducible apply State.kept_countSat
    | with_reducible apply State.kept_raise
    | with_reducible apply State.kept_fixerCount
    | with_reducible refine State.kept_fixerCount_eq (by with_reducible assumption) ?_
    | with_reducible apply State.kept_blankSensors
    | with_reducible apply State.kept_startLoupe
    | with_reducible apply kept_ite
    | (extract_lets +onlyGivenNames x
       first
         | (refine kept_cut (s0 := s0) (x := x) ?_ (fun _ => ?_); (focus unfold x); on_goal 2 => clear_value x)
         | ((first | have y : Queue := x | have y : Fixer := x); clear y; unfold x; clear x)
         | clear_value x)
    | split)

end Sys2Proof.Machine
end

