-- ==== Sys2Proof/Laws/KeptStrap.lean ====
section
/-! SUPPORT. Every operation of Machine/Strap.lean keeps what `Kept` says. -/

set_option linter.unusedTactic false
set_option linter.unreachableTactic false
set_option linter.tactic.unusedName false

namespace Sys2Proof.Machine

theorem State.kept_atRest {s0 s : State} (p : Power) (h : KeptBy s0 s) : KeptBy s0 (State.atRest s p) :=
  ⟨fun _ => rfl, h.2.1, fun _ => .inl (Nat.zero_le _), fun _ => Nat.zero_le _⟩

theorem State.kept_resetAll {s0 s : State} (p : Power) (c : Nat) (h : KeptBy s0 s) : KeptBy s0 (State.resetAll s p c) := by
  have hm : Mem.wf s0.mem = true → Mem.wf (s.resetAll p c).mem = true := by
    intro h0
    unfold State.resetAll
    dsimp only
    exact Mem.wf_keep _ (h.1 h0)
  exact ⟨hm, h.2.1, fun _ => .inl (Nat.zero_le _), fun _ => Nat.zero_le _⟩

theorem State.kept_powerLoss {s0 s : State} (h : KeptBy s0 s) : KeptBy s0 (State.powerLoss s) :=
  ⟨fun _ => rfl, h.2.1, fun _ => .inl (Nat.zero_le _), fun _ => Nat.zero_le _⟩

theorem State.kept_porRelease {s0 s : State}  (h : KeptBy s0 s) : KeptBy s0 (State.porRelease s) := by
  unfold State.porRelease
  repeat' (first
    | with_reducible assumption
    | with_reducible apply State.kept_pendWipe
    | with_reducible apply kept_ite
    | (extract_lets +onlyGivenNames x
       first
         | (refine kept_cut (s0 := s0) (x := x) ?_ (fun _ => ?_); (focus unfold x); on_goal 2 => clear_value x)
         | ((first | have y : Queue := x | have y : Fixer := x); clear y; unfold x; clear x)
         | clear_value x)
    | split)

theorem State.kept_holdRise {s0 s : State}  (h : KeptBy s0 s) : KeptBy s0 (State.holdRise s) := by
  unfold State.holdRise
  repeat' (first
    | with_reducible assumption
    | with_reducible apply State.kept_resetAll
    | with_reducible apply kept_ite
    | (extract_lets +onlyGivenNames x
       first
         | (refine kept_cut (s0 := s0) (x := x) ?_ (fun _ => ?_); (focus unfold x); on_goal 2 => clear_value x)
         | ((first | have y : Queue := x | have y : Fixer := x); clear y; unfold x; clear x)
         | clear_value x)
    | split)

theorem State.kept_holdFall {s0 s : State}  (h : KeptBy s0 s) : KeptBy s0 (State.holdFall s) := by
  unfold State.holdFall
  repeat' (first
    | with_reducible assumption
    | with_reducible apply kept_ite
    | (extract_lets +onlyGivenNames x
       first
         | (refine kept_cut (s0 := s0) (x := x) ?_ (fun _ => ?_); (focus unfold x); on_goal 2 => clear_value x)
         | ((first | have y : Queue := x | have y : Fixer := x); clear y; unfold x; clear x)
         | clear_value x)
    | split)

theorem State.kept_strapLoad {s0 s : State} (a r b : Nat) (f : Bool) (h : KeptBy s0 s) :
    KeptBy s0 (State.strapLoad s a r b f) :=
  ⟨h.1, h.2.1, h.2.2.1, fun _ => Nat.zero_le _⟩

theorem State.kept_strapBlocks {s0 s : State}  (h : KeptBy s0 s) : KeptBy s0 (State.strapBlocks s) := by
  unfold State.strapBlocks
  repeat' (first
    | with_reducible assumption
    | with_reducible apply State.kept_strapAper
    | with_reducible apply State.kept_strapMx
    | with_reducible apply State.kept_strapDev
    | with_reducible apply State.kept_strapSheet
    | with_reducible apply State.kept_strapPrint
    | with_reducible apply State.kept_strapStage
    | with_reducible apply State.kept_strapLatent
    | with_reducible apply State.kept_updateBiases
    | with_reducible apply State.kept_updateWatch
    | (extract_lets +onlyGivenNames x
       first
         | (refine kept_cut (s0 := s0) (x := x) ?_ (fun _ => ?_); (focus unfold x); on_goal 2 => clear_value x)
         | ((first | have y : Queue := x | have y : Fixer := x); clear y; unfold x; clear x)
         | clear_value x))

theorem State.kept_noteReset {s0 s : State}  (h : KeptBy s0 s) : KeptBy s0 (State.noteReset s) := by
  unfold State.noteReset
  repeat' (first
    | with_reducible assumption
    | with_reducible apply State.kept_setFlag
    | with_reducible apply kept_ite
    | (extract_lets +onlyGivenNames x
       first
         | (refine kept_cut (s0 := s0) (x := x) ?_ (fun _ => ?_); (focus unfold x); on_goal 2 => clear_value x)
         | ((first | have y : Queue := x | have y : Fixer := x); clear y; unfold x; clear x)
         | clear_value x)
    | split)

theorem State.kept_strapDone {s0 s : State} (a1 : StrapSample) (a2 : StrapSample) (a3 : StrapSample) (a4 : ForeSample) (h : KeptBy s0 s) : KeptBy s0 (State.strapDone s a1 a2 a3 a4) := by
  unfold State.strapDone
  repeat' (first
    | with_reducible assumption
    | intro _
    | with_reducible apply State.kept_strapLoad
    | with_reducible apply State.kept_setFlags
    | with_reducible apply State.kept_raise
    | with_reducible apply State.kept_noteReset
    | with_reducible apply State.kept_strapBlocks
    | with_reducible apply kept_foldl
    | (extract_lets +onlyGivenNames x
       first
         | (refine kept_cut (s0 := s0) (x := x) ?_ (fun _ => ?_); (focus unfold x); on_goal 2 => clear_value x)
         | ((first | have y : Queue := x | have y : Fixer := x); clear y; unfold x; clear x)
         | clear_value x)
    | split)

theorem State.kept_override {s0 s : State} (a1 : Word) (h : KeptBy s0 s) : KeptBy s0 (State.override s a1) := by
  unfold State.override
  repeat' (first
    | with_reducible assumption
    | intro _
    | with_reducible apply State.kept_setFlag
    | with_reducible apply State.kept_raise
    | with_reducible apply kept_ite
    | with_reducible apply kept_foldl
    | (extract_lets +onlyGivenNames x
       first
         | (refine kept_cut (s0 := s0) (x := x) ?_ (fun _ => ?_); (focus unfold x); on_goal 2 => clear_value x)
         | ((first | have y : Queue := x | have y : Fixer := x); clear y; unfold x; clear x)
         | clear_value x)
    | split)

theorem State.kept_overrideWith {s0 s : State} (a1 : Word) (h : KeptBy s0 s) : KeptBy s0 (State.overrideWith s a1) := by
  unfold State.overrideWith
  repeat' (first
    | with_reducible assumption
    | with_reducible apply State.kept_setPair
    | (extract_lets +onlyGivenNames x
       first
         | (refine kept_cut (s0 := s0) (x := x) ?_ (fun _ => ?_); (focus unfold x); on_goal 2 => clear_value x)
         | ((first | have y : Queue := x | have y : Fixer := x); clear y; unfold x; clear x)
         | clear_value x))

theorem State.kept_applyOverride {s0 s : State}  (h : KeptBy s0 s) : KeptBy s0 (State.applyOverride s) := by
  unfold State.applyOverride
  repeat' (first
    | with_reducible assumption
    | intro _
    | with_reducible apply State.kept_overrideWith
    | with_reducible apply kept_foldl
    | (extract_lets +onlyGivenNames x
       first
         | (refine kept_cut (s0 := s0) (x := x) ?_ (fun _ => ?_); (focus unfold x); on_goal 2 => clear_value x)
         | ((first | have y : Queue := x | have y : Fixer := x); clear y; unfold x; clear x)
         | clear_value x))

end Sys2Proof.Machine
end

