-- ==== Sys2Proof/Laws/KeptPort.lean ====
section
/-! SUPPORT. Every operation of Machine/Port.lean keeps what `Kept` says. -/

set_option linter.unusedTactic false
set_option linter.unreachableTactic false
set_option linter.tactic.unusedName false

namespace Sys2Proof.Machine

theorem State.kept_setArmed {s0 s : State} (a1 : Src) (a2 : Option Armed) (h : KeptBy s0 s) : KeptBy s0 (State.setArmed s a1 a2) := by
  unfold State.setArmed
  repeat' (first
    | with_reducible assumption
    | (extract_lets +onlyGivenNames x
       first
         | (refine kept_cut (s0 := s0) (x := x) ?_ (fun _ => ?_); (focus unfold x); on_goal 2 => clear_value x)
         | ((first | have y : Queue := x | have y : Fixer := x); clear y; unfold x; clear x)
         | clear_value x)
    | split)

theorem State.kept_guardFault {s0 s : State} (a1 : Src) (a2 : Nat) (a3 : Nat) (h : KeptBy s0 s) : KeptBy s0 (State.guardFault s a1 a2 a3) := by
  unfold State.guardFault
  repeat' (first
    | with_reducible assumption
    | with_reducible apply State.kept_setReg
    | with_reducible apply State.kept_setFlag
    | with_reducible apply State.kept_raise
    | (extract_lets +onlyGivenNames x
       first
         | (refine kept_cut (s0 := s0) (x := x) ?_ (fun _ => ?_); (focus unfold x); on_goal 2 => clear_value x)
         | ((first | have y : Queue := x | have y : Fixer := x); clear y; unfold x; clear x)
         | clear_value x))

theorem State.kept_breakPair {s0 s : State} (a1 : Src) (h : KeptBy s0 s) : KeptBy s0 (State.breakPair s a1) := by
  unfold State.breakPair
  repeat' (first
    | with_reducible assumption
    | with_reducible apply State.kept_setArmed
    | with_reducible apply State.kept_guardFault
    | (extract_lets +onlyGivenNames x
       first
         | (refine kept_cut (s0 := s0) (x := x) ?_ (fun _ => ?_); (focus unfold x); on_goal 2 => clear_value x)
         | ((first | have y : Queue := x | have y : Fixer := x); clear y; unfold x; clear x)
         | clear_value x)
    | split)

theorem State.kept_touch {s0 s : State} (a1 : Src) (a2 : Nat) (a3 : Bool) (a4 : Bool) (h : KeptBy s0 s) : KeptBy s0 (State.touch s a1 a2 a3 a4) := by
  unfold State.touch
  repeat' (first
    | with_reducible assumption
    | with_reducible apply State.kept_breakPair
    | with_reducible apply State.kept_setArmed
    | with_reducible apply State.kept_guardFault
    | with_reducible apply kept_ite
    | (extract_lets +onlyGivenNames x
       first
         | (refine kept_cut (s0 := s0) (x := x) ?_ (fun _ => ?_); (focus unfold x); on_goal 2 => clear_value x)
         | ((first | have y : Queue := x | have y : Fixer := x); clear y; unfold x; clear x)
         | clear_value x)
    | split)

theorem State.kept_guardReads {s0 s : State} (a1 : Src) (a2 : Nat) (a3 : Word) (h : KeptBy s0 s) : KeptBy s0 (State.guardReads s a1 a2 a3) := by
  unfold State.guardReads
  repeat' (first
    | with_reducible assumption
    | with_reducible apply State.kept_fogSpan
    | with_reducible apply kept_ite
    | split)

theorem State.kept_endLoopAt {s0 s : State}  (h : KeptBy s0 s) : KeptBy s0 (State.endLoopAt s) := by
  unfold State.endLoopAt
  repeat' (first
    | with_reducible assumption
    | with_reducible apply State.kept_endLoop
    | with_reducible apply State.kept_judgeLost
    | with_reducible apply kept_ite
    | (extract_lets +onlyGivenNames x
       first
         | (refine kept_cut (s0 := s0) (x := x) ?_ (fun _ => ?_); (focus unfold x); on_goal 2 => clear_value x)
         | ((first | have y : Queue := x | have y : Fixer := x); clear y; unfold x; clear x)
         | clear_value x)
    | split)

theorem State.kept_guardEffect {s0 s : State} (a1 : Src) (a2 : Nat) (a3 : Word) (h : KeptBy s0 s) : KeptBy s0 (State.guardEffect s a1 a2 a3) := by
  unfold State.guardEffect
  repeat' (first
    | with_reducible assumption
    | with_reducible apply State.kept_override
    | with_reducible apply State.kept_endLoopAt
    | with_reducible apply State.kept_masterOn
    | with_reducible apply State.kept_makeWipe
    | with_reducible apply State.kept_patchWrite
    | with_reducible apply State.kept_requestLife
    | with_reducible apply kept_ite
    | (extract_lets +onlyGivenNames x
       first
         | (refine kept_cut (s0 := s0) (x := x) ?_ (fun _ => ?_); (focus unfold x); on_goal 2 => clear_value x)
         | ((first | have y : Queue := x | have y : Fixer := x); clear y; unfold x; clear x)
         | clear_value x)
    | split)

theorem State.kept_guardCommit {s0 s : State} (a1 : Src) (a2 : Nat) (a3 : Word) (h : KeptBy s0 s) : KeptBy s0 (State.guardCommit s a1 a2 a3).1 := by
  unfold State.guardCommit
  repeat' (first
    | with_reducible assumption
    | with_reducible apply State.kept_guardReads
    | with_reducible apply State.kept_setPair
    | with_reducible apply State.kept_guardEffect
    | with_reducible apply kept_ite
    | (extract_lets +onlyGivenNames x
       first
         | (refine kept_cut (s0 := s0) (x := x) ?_ (fun _ => ?_); (focus unfold x); on_goal 2 => clear_value x)
         | ((first | have y : Queue := x | have y : Fixer := x); clear y; unfold x; clear x)
         | clear_value x)
    | split)

theorem State.kept_guardCommit_eq {s0 s t : State} (a1 : Src) (a2 : Nat) (a3 : Word) {x : Nat} (e : State.guardCommit s a1 a2 a3 = (t, x)) (h : KeptBy s0 s) : KeptBy s0 t := by
  have := State.kept_guardCommit a1 a2 a3 h
  rwa [e] at this

theorem State.kept_writeG {s0 s : State} (a1 : Src) (a2 : Nat) (a3 : Word) (a4 : Bool) (h : KeptBy s0 s) : KeptBy s0 (State.writeG s a1 a2 a3 a4).1 := by
  unfold State.writeG
  repeat' (first
    | with_reducible assumption
    | with_reducible apply State.kept_guardFault
    | with_reducible apply State.kept_setArmed
    | with_reducible apply State.kept_guardCommit
    | with_reducible refine State.kept_guardCommit_eq (by with_reducible assumption) ?_
    | with_reducible apply kept_ite
    | (extract_lets +onlyGivenNames x
       first
         | (refine kept_cut (s0 := s0) (x := x) ?_ (fun _ => ?_); (focus unfold x); on_goal 2 => clear_value x)
         | ((first | have y : Queue := x | have y : Fixer := x); clear y; unfold x; clear x)
         | clear_value x)
    | split)

theorem State.kept_writeG_eq {s0 s t : State} (a1 : Src) (a2 : Nat) (a3 : Word) (a4 : Bool) {x : Nat} (e : State.writeG s a1 a2 a3 a4 = (t, x)) (h : KeptBy s0 s) : KeptBy s0 t := by
  have := State.kept_writeG a1 a2 a3 a4 h
  rwa [e] at this

theorem State.kept_biasWrite {s0 s : State} (a1 : Bool) (a2 : Word) (h : KeptBy s0 s) : KeptBy s0 (State.biasWrite s a1 a2) := by
  unfold State.biasWrite
  repeat' (first
    | with_reducible assumption
    | intro _
    | with_reducible apply State.kept_releaseBias
    | with_reducible apply State.kept_setFld
    | with_reducible apply State.kept_updateBiases
    | with_reducible apply kept_ite
    | with_reducible apply kept_foldl
    | (extract_lets +onlyGivenNames x
       first
         | (refine kept_cut (s0 := s0) (x := x) ?_ (fun _ => ?_); (focus unfold x); on_goal 2 => clear_value x)
         | ((first | have y : Queue := x | have y : Fixer := x); clear y; unfold x; clear x)
         | clear_value x)
    | split)

theorem State.kept_arrayEffect {s0 s : State} (a1 : Src) (a2 : Nat) (a3 : Word) (a4 : Word) (h : KeptBy s0 s) : KeptBy s0 (State.arrayEffect s a1 a2 a3 a4) := by
  unfold State.arrayEffect
  repeat' (first
    | with_reducible assumption
    | with_reducible apply State.kept_biasWrite
    | with_reducible apply State.kept_updateBiases
    | with_reducible apply State.kept_updateWatch
    | with_reducible apply State.kept_requestSwap
    | with_reducible apply State.kept_commitBeam
    | with_reducible apply State.kept_mxCancel
    | with_reducible apply State.kept_mxArm
    | with_reducible apply kept_ite
    | split)

theorem State.kept_watchEffect {s0 s : State} (a1 : Nat) (a2 : Word) (a3 : Word) (h : KeptBy s0 s) : KeptBy s0 (State.watchEffect s a1 a2 a3) := by
  unfold State.watchEffect
  repeat' (first
    | with_reducible assumption
    | with_reducible apply State.kept_loadSeed
    | with_reducible apply State.kept_commitProfile
    | with_reducible apply State.kept_requestEnable
    | with_reducible apply State.kept_requestDisable
    | with_reducible apply State.kept_resetScore
    | with_reducible apply State.kept_release
    | with_reducible apply State.kept_startRunD
    | with_reducible apply kept_ite
    | (extract_lets +onlyGivenNames x
       first
         | (refine kept_cut (s0 := s0) (x := x) ?_ (fun _ => ?_); (focus unfold x); on_goal 2 => clear_value x)
         | ((first | have y : Queue := x | have y : Fixer := x); clear y; unfold x; clear x)
         | clear_value x)
    | split)

theorem State.kept_highEffect {s0 s : State} (a1 : Src) (a2 : Nat) (a3 : Word) (a4 : Word) (a5 : Word) (h : KeptBy s0 s) : KeptBy s0 (State.highEffect s a1 a2 a3 a4 a5) := by
  unfold State.highEffect
  repeat' (first
    | with_reducible assumption
    | intro _
    | with_reducible apply State.kept_startSearch
    | with_reducible apply State.kept_setReg
    | with_reducible apply State.kept_writeLatch
    | with_reducible apply State.kept_verifyRestart
    | with_reducible apply State.kept_fogEnd
    | with_reducible apply State.kept_mbxPass
    | with_reducible apply State.kept_fixerRelease
    | with_reducible apply kept_ite
    | with_reducible apply kept_foldl
    | (extract_lets +onlyGivenNames x
       first
         | (refine kept_cut (s0 := s0) (x := x) ?_ (fun _ => ?_); (focus unfold x); on_goal 2 => clear_value x)
         | ((first | have y : Queue := x | have y : Fixer := x); clear y; unfold x; clear x)
         | clear_value x)
    | split)

theorem State.kept_writeM {s0 s : State} (a1 : Src) (a2 : Nat) (a3 : Word) (h : KeptBy s0 s) : KeptBy s0 (State.writeM s a1 a2 a3).1 := by
  unfold State.writeM
  repeat' (first
    | with_reducible assumption
    | with_reducible apply State.kept_setReg
    | with_reducible apply State.kept_arrayEffect
    | with_reducible apply State.kept_watchEffect
    | with_reducible apply State.kept_highEffect
    | with_reducible apply kept_ite
    | (extract_lets +onlyGivenNames x
       first
         | (refine kept_cut (s0 := s0) (x := x) ?_ (fun _ => ?_); (focus unfold x); on_goal 2 => clear_value x)
         | ((first | have y : Queue := x | have y : Fixer := x); clear y; unfold x; clear x)
         | clear_value x)
    | split)

theorem State.kept_writeM_eq {s0 s t : State} (a1 : Src) (a2 : Nat) (a3 : Word) {x : Nat} (e : State.writeM s a1 a2 a3 = (t, x)) (h : KeptBy s0 s) : KeptBy s0 t := by
  have := State.kept_writeM a1 a2 a3 h
  rwa [e] at this

theorem State.kept_noteIx {s0 s : State} (a1 : Bool) (h : KeptBy s0 s) : KeptBy s0 (State.noteIx s a1) := by
  unfold State.noteIx
  repeat' (first
    | with_reducible assumption
    | (extract_lets +onlyGivenNames x
       first
         | (refine kept_cut (s0 := s0) (x := x) ?_ (fun _ => ?_); (focus unfold x); on_goal 2 => clear_value x)
         | ((first | have y : Queue := x | have y : Fixer := x); clear y; unfold x; clear x)
         | clear_value x))

theorem State.kept_ixAdvance {s0 s : State}  (h : KeptBy s0 s) : KeptBy s0 (State.ixAdvance s) := by
  unfold State.ixAdvance
  repeat' (first
    | with_reducible assumption
    | with_reducible apply State.kept_setFld
    | with_reducible apply State.kept_noteIx)

theorem State.kept_ixRefuse {s0 s : State}  (h : KeptBy s0 s) : KeptBy s0 (State.ixRefuse s) := by
  unfold State.ixRefuse
  repeat' (first
    | with_reducible assumption
    | with_reducible apply State.kept_setFlag
    | with_reducible apply State.kept_noteIx)

theorem State.kept_ixFetch {s0 s t : State} {space w : Nat} {v : Word} (h : KeptBy s0 s)
    (e : State.ixFetch s space w = some (v, t)) : KeptBy s0 t := by
  unfold State.ixFetch at e
  repeat' split at e
  all_goals try contradiction
  · have := State.kept_windowRead w h 
    rwa [Option.some.inj e] at this
  · exact (Prod.mk.inj (Option.some.inj e)).2 ▸ h
  · exact (Prod.mk.inj (Option.some.inj e)).2 ▸ h
  · have := State.kept_windowRead (Tank.templates + w) h 
    rwa [Option.some.inj e] at this
  · exact State.kept_latentRead h  e

theorem State.kept_ixStore {s0 s t : State} {space w : Nat} {v : Word} (h : KeptBy s0 s)
    (e : State.ixStore s space w v = some t) : KeptBy s0 t := by
  unfold State.ixStore at e
  repeat' split at e
  all_goals try contradiction
  all_goals simp only [Option.some.injEq] at e
  all_goals subst e
  all_goals first
    | exact State.kept_setTank _ _ h
    | exact State.kept_trimWrite _ _ h
    | exact State.kept_coefWrite _ _ h

theorem State.kept_ixRead {s0 s : State} (h : KeptBy s0 s) : KeptBy s0 (State.ixRead s).1 := by
  unfold State.ixRead
  split
  · rename_i e
    exact State.kept_ixAdvance (State.kept_ixFetch h e)
  · exact State.kept_ixRefuse h

theorem State.kept_ixWrite {s0 s : State} (v : Word) (h : KeptBy s0 s) : KeptBy s0 (State.ixWrite s v).1 := by
  unfold State.ixWrite
  split
  · rename_i e
    exact State.kept_ixAdvance (State.kept_ixStore h e)
  · exact State.kept_ixRefuse h

theorem State.kept_writeF {s0 s : State} (a1 : Nat) (a2 : Word) (h : KeptBy s0 s) : KeptBy s0 (State.writeF s a1 a2).1 := by
  unfold State.writeF
  repeat' (first
    | with_reducible assumption
    | with_reducible apply State.kept_ixWrite
    | with_reducible refine State.kept_ixWrite_eq (by with_reducible assumption) ?_
    | with_reducible apply State.kept_setReg
    | with_reducible apply State.kept_noteIx
    | with_reducible apply State.kept_verifyRestart
    | with_reducible apply kept_ite
    | (extract_lets +onlyGivenNames x
       first
         | (refine kept_cut (s0 := s0) (x := x) ?_ (fun _ => ?_); (focus unfold x); on_goal 2 => clear_value x)
         | ((first | have y : Queue := x | have y : Fixer := x); clear y; unfold x; clear x)
         | clear_value x)
    | split)

theorem State.kept_writeF_eq {s0 s t : State} (a1 : Nat) (a2 : Word) {x : Nat} (e : State.writeF s a1 a2 = (t, x)) (h : KeptBy s0 s) : KeptBy s0 t := by
  have := State.kept_writeF a1 a2 h
  rwa [e] at this

theorem State.kept_writeS {s0 s : State} (a1 : Nat) (a2 : Word) (h : KeptBy s0 s) : KeptBy s0 (State.writeS s a1 a2) := by
  unfold State.writeS
  repeat' (first
    | with_reducible assumption
    | with_reducible apply State.kept_clearFlags
    | with_reducible apply kept_ite
    | (extract_lets +onlyGivenNames x
       first
         | (refine kept_cut (s0 := s0) (x := x) ?_ (fun _ => ?_); (focus unfold x); on_goal 2 => clear_value x)
         | ((first | have y : Queue := x | have y : Fixer := x); clear y; unfold x; clear x)
         | clear_value x)
    | split)

theorem State.kept_portWrite {s0 s : State} (a1 : Src) (a2 : Nat) (a3 : Word) (a4 : Bool) (h : KeptBy s0 s) : KeptBy s0 (State.portWrite s a1 a2 a3 a4).1 := by
  unfold State.portWrite
  repeat' (first
    | with_reducible assumption
    | with_reducible apply State.kept_touch
    | with_reducible apply State.kept_writeS
    | with_reducible apply State.kept_writeG
    | with_reducible refine State.kept_writeG_eq (by with_reducible assumption) ?_
    | with_reducible apply State.kept_writeM
    | with_reducible refine State.kept_writeM_eq (by with_reducible assumption) ?_
    | with_reducible apply State.kept_writeF
    | with_reducible refine State.kept_writeF_eq (by with_reducible assumption) ?_
    | with_reducible apply State.kept_setReg
    | with_reducible apply kept_ite
    | (extract_lets +onlyGivenNames x
       first
         | (refine kept_cut (s0 := s0) (x := x) ?_ (fun _ => ?_); (focus unfold x); on_goal 2 => clear_value x)
         | ((first | have y : Queue := x | have y : Fixer := x); clear y; unfold x; clear x)
         | clear_value x)
    | split)

theorem State.kept_portWrite_eq {s0 s t : State} (a1 : Src) (a2 : Nat) (a3 : Word) (a4 : Bool) {x : Nat} (e : State.portWrite s a1 a2 a3 a4 = (t, x)) (h : KeptBy s0 s) : KeptBy s0 t := by
  have := State.kept_portWrite a1 a2 a3 a4 h
  rwa [e] at this

theorem State.kept_readBefore {s0 s : State} (a1 : Nat) (h : KeptBy s0 s) : KeptBy s0 (State.readBefore s a1) := by
  unfold State.readBefore
  repeat' (first
    | with_reducible assumption
    | with_reducible apply State.kept_latchFeat
    | with_reducible apply State.kept_setReg
    | with_reducible apply kept_ite
    | split)

theorem State.kept_readAfter {s0 s : State} (a1 : Nat) (h : KeptBy s0 s) : KeptBy s0 (State.readAfter s a1) := by
  unfold State.readAfter
  repeat' (first
    | with_reducible assumption
    | with_reducible apply State.kept_resetScore
    | with_reducible apply State.kept_setReg
    | with_reducible apply kept_ite
    | split)

theorem State.kept_portRead {s0 s : State} (a1 : Src) (a2 : Nat) (h : KeptBy s0 s) : KeptBy s0 (State.portRead s a1 a2).1 := by
  unfold State.portRead
  repeat' (first
    | with_reducible assumption
    | with_reducible apply State.kept_touch
    | with_reducible apply State.kept_ixRead
    | with_reducible refine State.kept_ixRead_eq (by with_reducible assumption) ?_
    | with_reducible apply State.kept_readBefore
    | with_reducible apply State.kept_readAfter
    | with_reducible apply kept_ite
    | (extract_lets +onlyGivenNames x
       first
         | (refine kept_cut (s0 := s0) (x := x) ?_ (fun _ => ?_); (focus unfold x); on_goal 2 => clear_value x)
         | ((first | have y : Queue := x | have y : Fixer := x); clear y; unfold x; clear x)
         | clear_value x)
    | split)

theorem State.kept_portRead_eq {s0 s t : State} (a1 : Src) (a2 : Nat) {x : Nat × Word} (e : State.portRead s a1 a2 = (t, x)) (h : KeptBy s0 s) : KeptBy s0 t := by
  have := State.kept_portRead a1 a2 h
  rwa [e] at this

theorem State.kept_answer {s0 s : State} (a1 : Nat) (a2 : List Word) (h : KeptBy s0 s) : KeptBy s0 (State.answer s a1 a2) := by
  unfold State.answer
  repeat' (first
    | with_reducible assumption
    | (extract_lets +onlyGivenNames x
       first
         | (refine kept_cut (s0 := s0) (x := x) ?_ (fun _ => ?_); (focus unfold x); on_goal 2 => clear_value x)
         | ((first | have y : Queue := x | have y : Fixer := x); clear y; unfold x; clear x)
         | clear_value x))

theorem State.kept_accessWrite {s0 s : State} (a1 : Src) (a2 : Nat) (a3 : Word) (h : KeptBy s0 s) : KeptBy s0 (State.accessWrite s a1 a2 a3) := by
  unfold State.accessWrite
  repeat' (first
    | with_reducible assumption
    | with_reducible apply State.kept_busFault
    | with_reducible apply State.kept_portWrite
    | with_reducible refine State.kept_portWrite_eq (by with_reducible assumption) ?_
    | with_reducible apply State.kept_answer
    | with_reducible apply kept_ite
    | (extract_lets +onlyGivenNames x
       first
         | (refine kept_cut (s0 := s0) (x := x) ?_ (fun _ => ?_); (focus unfold x); on_goal 2 => clear_value x)
         | ((first | have y : Queue := x | have y : Fixer := x); clear y; unfold x; clear x)
         | clear_value x)
    | split)

theorem State.kept_accessRead {s0 s : State} (a1 : Src) (a2 : Nat) (h : KeptBy s0 s) : KeptBy s0 (State.accessRead s a1 a2) := by
  unfold State.accessRead
  repeat' (first
    | with_reducible assumption
    | with_reducible apply State.kept_busFault
    | with_reducible apply State.kept_portRead
    | with_reducible refine State.kept_portRead_eq (by with_reducible assumption) ?_
    | with_reducible apply State.kept_answer
    | with_reducible apply kept_ite
    | (extract_lets +onlyGivenNames x
       first
         | (refine kept_cut (s0 := s0) (x := x) ?_ (fun _ => ?_); (focus unfold x); on_goal 2 => clear_value x)
         | ((first | have y : Queue := x | have y : Fixer := x); clear y; unfold x; clear x)
         | clear_value x)
    | split)

theorem State.kept_narrowWrite {s0 s : State} (a1 : Nat) (a2 : Nat) (h : KeptBy s0 s) : KeptBy s0 (State.narrowWrite s a1 a2) := by
  unfold State.narrowWrite
  repeat' (first
    | with_reducible assumption
    | with_reducible apply State.kept_setFlag
    | with_reducible apply State.kept_raise
    | with_reducible apply State.kept_answer
    | with_reducible apply kept_ite
    | (extract_lets +onlyGivenNames x
       first
         | (refine kept_cut (s0 := s0) (x := x) ?_ (fun _ => ?_); (focus unfold x); on_goal 2 => clear_value x)
         | ((first | have y : Queue := x | have y : Fixer := x); clear y; unfold x; clear x)
         | clear_value x)
    | split)

theorem State.kept_unaligned {s0 s : State} (a1 : Nat) (a2 : Nat) (h : KeptBy s0 s) : KeptBy s0 (State.unaligned s a1 a2) := by
  unfold State.unaligned
  repeat' (first
    | with_reducible assumption
    | with_reducible apply State.kept_setFlag
    | with_reducible apply State.kept_raise
    | with_reducible apply State.kept_busFault
    | with_reducible apply kept_ite
    | split)

theorem State.kept_narrowRead {s0 s : State} (a1 : Nat) (a2 : Nat) (h : KeptBy s0 s) : KeptBy s0 (State.narrowRead s a1 a2) := by
  unfold State.narrowRead
  repeat' (first
    | with_reducible assumption
    | with_reducible apply State.kept_answer
    | with_reducible apply kept_ite
    | (extract_lets +onlyGivenNames x
       first
         | (refine kept_cut (s0 := s0) (x := x) ?_ (fun _ => ?_); (focus unfold x); on_goal 2 => clear_value x)
         | ((first | have y : Queue := x | have y : Fixer := x); clear y; unfold x; clear x)
         | clear_value x)
    | split)

theorem State.kept_loupeRead {s0 s : State} (a1 : Nat) (a2 : Nat) (h : KeptBy s0 s) : KeptBy s0 (State.loupeRead s a1 a2) := by
  unfold State.loupeRead
  repeat' (first
    | with_reducible assumption
    | with_reducible apply State.kept_unaligned
    | with_reducible apply State.kept_narrowRead
    | with_reducible apply State.kept_accessRead
    | with_reducible apply State.kept_busFault
    | with_reducible apply State.kept_endCycle
    | with_reducible apply kept_ite
    | (extract_lets +onlyGivenNames x
       first
         | (refine kept_cut (s0 := s0) (x := x) ?_ (fun _ => ?_); (focus unfold x); on_goal 2 => clear_value x)
         | ((first | have y : Queue := x | have y : Fixer := x); clear y; unfold x; clear x)
         | clear_value x)
    | split)

theorem State.kept_beginCmd {s0 s : State} (a1 : Cmd) (h : KeptBy s0 s) : KeptBy s0 (State.beginCmd s a1) := by
  unfold State.beginCmd
  repeat' (first
    | with_reducible assumption
    | with_reducible apply State.kept_setTag
    | with_reducible apply kept_ite
    | (extract_lets +onlyGivenNames x
       first
         | (refine kept_cut (s0 := s0) (x := x) ?_ (fun _ => ?_); (focus unfold x); on_goal 2 => clear_value x)
         | ((first | have y : Queue := x | have y : Fixer := x); clear y; unfold x; clear x)
         | clear_value x)
    | split)

theorem State.kept_cmdWord {s0 s : State} (a1 : Cmd) (a2 : Nat) (h : KeptBy s0 s) : KeptBy s0 (State.cmdWord s a1 a2).1 := by
  unfold State.cmdWord
  repeat' (first
    | with_reducible assumption
    | with_reducible apply State.kept_portRead
    | with_reducible refine State.kept_portRead_eq (by with_reducible assumption) ?_
    | with_reducible apply State.kept_portWrite
    | with_reducible refine State.kept_portWrite_eq (by with_reducible assumption) ?_
    | with_reducible apply kept_ite
    | (extract_lets +onlyGivenNames x
       first
         | (refine kept_cut (s0 := s0) (x := x) ?_ (fun _ => ?_); (focus unfold x); on_goal 2 => clear_value x)
         | ((first | have y : Queue := x | have y : Fixer := x); clear y; unfold x; clear x)
         | clear_value x)
    | split)

theorem State.kept_cmdWord_eq {s0 s t : State} (a1 : Cmd) (a2 : Nat) {x : Nat × List Word} (e : State.cmdWord s a1 a2 = (t, x)) (h : KeptBy s0 s) : KeptBy s0 t := by
  have := State.kept_cmdWord a1 a2 h
  rwa [e] at this

theorem State.kept_cmdWords {s0 s : State} (c : Cmd) (n : Nat) (h : KeptBy s0 s) : KeptBy s0 (State.cmdWords s c n) := by
  induction n generalizing s with
  | zero => exact h
  | succ n ih =>
    unfold State.cmdWords
    have hw := State.kept_cmdWord c s.queue.done h
    dsimp only
    with_reducible apply kept_ite
    · exact State.kept_complete _ _ _ hw
    · with_reducible apply kept_ite
      · exact State.kept_complete _ _ _ hw
      · exact ih (State.kept_endCycle hw)

theorem State.kept_hostRun {s0 s : State} (a1 : Nat) (a2 : Nat) (h : KeptBy s0 s) : KeptBy s0 (State.hostRun s a1 a2) := by
  unfold State.hostRun
  repeat' (first
    | with_reducible assumption
    | with_reducible apply State.kept_beginCmd
    | with_reducible apply State.kept_breakPair
    | with_reducible apply State.kept_complete
    | with_reducible apply State.kept_cmdWords
    | with_reducible apply kept_ite
    | (extract_lets +onlyGivenNames x
       first
         | (refine kept_cut (s0 := s0) (x := x) ?_ (fun _ => ?_); (focus unfold x); on_goal 2 => clear_value x)
         | ((first | have y : Queue := x | have y : Fixer := x); clear y; unfold x; clear x)
         | clear_value x)
    | split)

theorem State.kept_abortStep {s0 s : State}  (h : KeptBy s0 s) : KeptBy s0 (State.abortStep s) := by
  unfold State.abortStep
  repeat' (first
    | with_reducible assumption
    | with_reducible apply State.kept_examineAbort
    | with_reducible apply kept_ite
    | (extract_lets +onlyGivenNames x
       first
         | (refine kept_cut (s0 := s0) (x := x) ?_ (fun _ => ?_); (focus unfold x); on_goal 2 => clear_value x)
         | ((first | have y : Queue := x | have y : Fixer := x); clear y; unfold x; clear x)
         | clear_value x)
    | split)

/-- A write of a Tank word, whatever ring entry it falls on, leaves the event ring its number of entries. -/
theorem State.ringWrite_events (s : State) (w : Nat) (v : Word) : (s.ringWrite w v).queue.events.length = s.queue.events.length := by
  unfold State.ringWrite
  dsimp only
  split
  · rfl
  · split
    · rfl
    · split
      · rfl
      · exact List.length_map _

theorem State.setTank_events (s : State) (w : Nat) (v : Word) : (s.setTank w v).queue.events.length = s.queue.events.length := by
  have hy : (s.fogYield (w / 8)).queue = s.queue :=
    (State.conf_fogYield _ (conf_refl s _ (fun _ => True)) (List.Subset.refl _) (fun _ _ => trivial)).1.1 .queue (by decide)
  unfold State.setTank State.storeLane
  extract_lets s1
  have h1 : s1.queue = s.queue := hy
  clear_value s1
  split
  · exact congrArg (fun q : Queue => q.events.length) h1
  · have hr : ((s1.eccRead (w / 8) (w % 8 / 2) (writerRank w)).1.eccClear (w / 8) (w % 8 / 2)).queue = s1.queue :=
      (State.conf_eccClear _ _ (State.conf_eccRead _ _ _ (conf_refl s1 [.sset, .bumped, .caused, .fixer, .bank] (fun _ => True)) (by decide) (fun _ _ => trivial))
        (by decide) (fun _ _ => trivial)).1.1 .queue (by decide)
    dsimp only
    generalize (s1.eccRead (w / 8) (w % 8 / 2) (writerRank w)).1.eccClear (w / 8) (w % 8 / 2) = s2 at hr ⊢
    have h2 : s2.queue.events.length = s.queue.events.length := by rw [hr, h1]
    split
    · exact (State.ringWrite_events _ _ _).trans h2
    · exact h2

theorem State.kept_postEvent {s0 s : State} (e : LogEntry) (n : Nat) (h : KeptBy s0 s) : KeptBy s0 (State.postEvent s e n) := by
  unfold State.postEvent
  extract_lets notice k ev s1 qu s2
  by_cases hc : s.queue.events.length < (if notice = true then 64 else 63)
  · rw [if_pos hc]
    have h1 : KeptBy s0 s1 := State.kept_setTank _ _ h
    refine State.kept_countWrap _ ⟨h1.1, h1.2.1, h1.2.2.1, fun _ => ?_⟩
    have : (s.queue.events.length < 64) := lt_of_lt_of_le hc (by split <;> omega)
    have he : s1.queue.events.length = s.queue.events.length := State.setTank_events _ _ _
    simp only [he, List.length_append, List.length_singleton]
    omega
  · rw [if_neg hc]
    have h1 : KeptBy s0 s2 := State.kept_setFlag _ _ (State.kept_countSat _ h)
    split
    · exact h1
    · exact State.kept_raise _ _ _ _ h1

theorem State.kept_logStep {s0 s : State} (h : KeptBy s0 s) : KeptBy s0 (State.logStep s) := by
  unfold State.logStep
  split
  · exact h
  · rename_i e rest hs
    extract_lets n s1 s2 fx s3
    have h1 : KeptBy s0 s1 := by
      unfold s1
      with_reducible exact State.kept_setTankWords _ _ h
    clear_value s1
    have h2 : KeptBy s0 s2 := State.kept_setReg _ _ h1
    have h3 : KeptBy s0 s3 := by
      refine ⟨h2.1, h2.2.1, fun h0 => .inl ?_, h2.2.2.2⟩
      have hk := h.2.2.1 h0
      rw [hs] at hk
      show rest.length ≤ 63
      rcases hk with hk | hk <;> simp only [List.length_cons] at hk <;> omega
    clear_value s3
    with_reducible apply kept_ite
    · exact State.kept_postEvent _ _ h3
    · exact h3

end Sys2Proof.Machine
end

