-- ==== Sys2Proof/Laws/KeptFrame.lean ====
section
/-! SUPPORT. Every operation of Machine/Frame.lean keeps what `Kept` says. -/

set_option linter.unusedTactic false
set_option linter.unreachableTactic false
set_option linter.tactic.unusedName false

namespace Sys2Proof.Machine

theorem State.kept_reloaded {s0 s : State} (a1 : Nat) (a2 : Bool) (h : KeptBy s0 s) : KeptBy s0 (State.reloaded s a1 a2) := by
  unfold State.reloaded
  repeat' (first
    | with_reducible assumption
    | with_reducible apply State.kept_endLoopAt
    | with_reducible apply State.kept_cutProof
    | with_reducible apply State.kept_updateWatch
    | with_reducible apply State.kept_fogEnd
    | with_reducible apply State.kept_startRunD
    | with_reducible apply State.kept_updateBiases
    | with_reducible apply kept_ite
    | (extract_lets +onlyGivenNames x
       first
         | (refine kept_cut (s0 := s0) (x := x) ?_ (fun _ => ?_); (focus unfold x); on_goal 2 => clear_value x)
         | ((first | have y : Queue := x | have y : Fixer := x); clear y; unfold x; clear x)
         | clear_value x)
    | split)

theorem State.kept_upset {s0 s : State} (a1 : Nat) (a2 : Nat) (h : KeptBy s0 s) : KeptBy s0 (State.upset s a1 a2) := by
  unfold State.upset
  repeat' (first
    | with_reducible assumption
    | with_reducible apply kept_ite
    | (extract_lets +onlyGivenNames x
       first
         | (refine kept_cut (s0 := s0) (x := x) ?_ (fun _ => ?_); (focus unfold x); on_goal 2 => clear_value x)
         | ((first | have y : Queue := x | have y : Fixer := x); clear y; unfold x; clear x)
         | clear_value x)
    | split)

theorem State.kept_configParity {s0 s : State} (a0 : Bool) (a2 : Nat) (h : KeptBy s0 s) : KeptBy s0 (State.configParity a0 s a2) := by
  unfold State.configParity
  repeat' (first
    | with_reducible assumption
    | with_reducible apply State.kept_endStageLoop
    | with_reducible apply State.kept_setFlag
    | with_reducible apply State.kept_setFld
    | with_reducible apply State.kept_countSat
    | with_reducible apply State.kept_raise
    | with_reducible apply State.kept_fixerReport
    | with_reducible apply State.kept_reloaded
    | with_reducible apply kept_ite
    | (extract_lets +onlyGivenNames x
       first
         | (refine kept_cut (s0 := s0) (x := x) ?_ (fun _ => ?_); (focus unfold x); on_goal 2 => clear_value x)
         | ((first | have y : Queue := x | have y : Fixer := x); clear y; unfold x; clear x)
         | clear_value x)
    | split)

theorem State.kept_checkConfig {s0 s : State} (a1 : List (Nat × Nat)) (h : KeptBy s0 s) : KeptBy s0 (State.checkConfig s a1) := by
  unfold State.checkConfig
  repeat' (first
    | with_reducible assumption
    | intro _
    | with_reducible apply State.kept_upset
    | with_reducible apply State.kept_configParity
    | with_reducible apply State.kept_stopHeld
    | with_reducible apply State.kept_verifyRestart
    | with_reducible apply kept_ite
    | with_reducible apply kept_foldl
    | (extract_lets +onlyGivenNames x
       first
         | (refine kept_cut (s0 := s0) (x := x) ?_ (fun _ => ?_); (focus unfold x); on_goal 2 => clear_value x)
         | ((first | have y : Queue := x | have y : Fixer := x); clear y; unfold x; clear x)
         | clear_value x)
    | split)

theorem State.kept_applyEpochHi {s0 s : State}  (h : KeptBy s0 s) : KeptBy s0 (State.applyEpochHi s) := by
  unfold State.applyEpochHi
  repeat' (first
    | with_reducible assumption
    | with_reducible apply State.kept_setPair
    | with_reducible apply State.kept_shiftStages
    | (extract_lets +onlyGivenNames x
       first
         | (refine kept_cut (s0 := s0) (x := x) ?_ (fun _ => ?_); (focus unfold x); on_goal 2 => clear_value x)
         | ((first | have y : Queue := x | have y : Fixer := x); clear y; unfold x; clear x)
         | clear_value x)
    | split)

theorem State.kept_logHandOver {s0 s : State}  (h : KeptBy s0 s) : KeptBy s0 (State.logHandOver s) := by
  unfold State.logHandOver
  repeat' (first
    | with_reducible assumption
    | with_reducible apply kept_ite
    | (extract_lets +onlyGivenNames x
       first
         | (refine kept_cut (s0 := s0) (x := x) ?_ (fun _ => ?_); (focus unfold x); on_goal 2 => clear_value x)
         | ((first | have y : Queue := x | have y : Fixer := x); clear y; unfold x; clear x)
         | clear_value x)
    | split)

theorem State.kept_faultBegan {s0 s : State} (a1 : State) (h : KeptBy s0 s) : KeptBy s0 (State.faultBegan s a1) := by
  unfold State.faultBegan
  repeat' (first
    | with_reducible assumption
    | with_reducible apply State.kept_openWindow
    | with_reducible apply State.kept_fogEnd
    | with_reducible apply State.kept_syncHold
    | with_reducible apply kept_ite
    | split)

theorem State.kept_markFaulted {s0 s : State}  (h : KeptBy s0 s) : KeptBy s0 (State.markFaulted s) := by
  unfold State.markFaulted
  repeat' (first
    | with_reducible assumption
    | with_reducible apply kept_ite
    | (extract_lets +onlyGivenNames x
       first
         | (refine kept_cut (s0 := s0) (x := x) ?_ (fun _ => ?_); (focus unfold x); on_goal 2 => clear_value x)
         | ((first | have y : Queue := x | have y : Fixer := x); clear y; unfold x; clear x)
         | clear_value x)
    | split)

theorem State.kept_sampleControls {s0 s : State}  (h : KeptBy s0 s) : KeptBy s0 (State.sampleControls s) := by
  unfold State.sampleControls
  repeat' (first
    | with_reducible assumption
    | with_reducible apply State.kept_repeatSearch
    | with_reducible apply State.kept_sampleDrives
    | with_reducible apply State.kept_sampleFront
    | with_reducible apply State.kept_samplePhase
    | with_reducible apply State.kept_sampleAper
    | with_reducible apply State.kept_sampleDev
    | with_reducible apply State.kept_sampleSheet
    | with_reducible apply State.kept_sampleStages
    | with_reducible apply kept_ite
    | (extract_lets +onlyGivenNames x
       first
         | (refine kept_cut (s0 := s0) (x := x) ?_ (fun _ => ?_); (focus unfold x); on_goal 2 => clear_value x)
         | ((first | have y : Queue := x | have y : Fixer := x); clear y; unfold x; clear x)
         | clear_value x)
    | split)

theorem State.kept_parityChecks {s0 s : State} (a1 : FrameIn) (h : KeptBy s0 s) : KeptBy s0 (State.parityChecks s a1) := by
  unfold State.parityChecks
  repeat' (first
    | with_reducible assumption
    | intro _
    | with_reducible apply State.kept_checkConfig
    | with_reducible apply State.kept_tableUpset
    | with_reducible apply State.kept_checkTables
    | with_reducible apply State.kept_planUpset
    | with_reducible apply State.kept_planParity
    | with_reducible apply State.kept_profUpset
    | with_reducible apply State.kept_profileParity
    | with_reducible apply kept_ite
    | with_reducible apply kept_foldl
    | (extract_lets +onlyGivenNames x
       first
         | (refine kept_cut (s0 := s0) (x := x) ?_ (fun _ => ?_); (focus unfold x); on_goal 2 => clear_value x)
         | ((first | have y : Queue := x | have y : Fixer := x); clear y; unfold x; clear x)
         | clear_value x)
    | split)

theorem State.kept_frameWork {s0 s : State} (a1 : FrameIn) (h : KeptBy s0 s) : KeptBy s0 (State.frameWork s a1) := by
  unfold State.frameWork
  repeat' (first
    | with_reducible assumption
    | with_reducible apply State.kept_dueAborts
    | with_reducible apply State.kept_applyEpochHi
    | with_reducible apply State.kept_applyOverride
    | with_reducible apply State.kept_startLoop
    | with_reducible apply State.kept_startProof
    | with_reducible apply State.kept_logHandOver
    | with_reducible apply State.kept_noteFrameLen
    | with_reducible apply State.kept_sampleControls
    | with_reducible apply State.kept_parityChecks
    | with_reducible apply kept_ite
    | (extract_lets +onlyGivenNames x
       first
         | (refine kept_cut (s0 := s0) (x := x) ?_ (fun _ => ?_); (focus unfold x); on_goal 2 => clear_value x)
         | ((first | have y : Queue := x | have y : Fixer := x); clear y; unfold x; clear x)
         | clear_value x)
    | split)

theorem State.kept_lostCopy {s0 s : State} (a1 : Side) (a2 : FrameIn) (a3 : Bool) (h : KeptBy s0 s) : KeptBy s0 (State.lostCopy s a1 a2 a3) := by
  unfold State.lostCopy
  repeat' (first
    | with_reducible assumption
    | with_reducible apply State.kept_regCopyBad
    | with_reducible apply State.kept_judgeLost
    | with_reducible apply kept_ite
    | (extract_lets +onlyGivenNames x
       first
         | (refine kept_cut (s0 := s0) (x := x) ?_ (fun _ => ?_); (focus unfold x); on_goal 2 => clear_value x)
         | ((first | have y : Queue := x | have y : Fixer := x); clear y; unfold x; clear x)
         | clear_value x)
    | split)

theorem State.kept_judgeClock {s0 s : State} (a1 : FrameIn) (a2 : Bool) (a3 : Bool) (h : KeptBy s0 s) : KeptBy s0 (State.judgeClock s a1 a2 a3) := by
  unfold State.judgeClock
  repeat' (first
    | with_reducible assumption
    | with_reducible apply State.kept_clockFrameStart
    | with_reducible apply State.kept_markFaulted
    | with_reducible apply kept_ite
    | (extract_lets +onlyGivenNames x
       first
         | (refine kept_cut (s0 := s0) (x := x) ?_ (fun _ => ?_); (focus unfold x); on_goal 2 => clear_value x)
         | ((first | have y : Queue := x | have y : Fixer := x); clear y; unfold x; clear x)
         | clear_value x)
    | split)

theorem State.kept_selectedStart {s0 s : State} (a1 : Side) (a2 : FrameIn) (h : KeptBy s0 s) : KeptBy s0 (State.selectedStart s a1 a2) := by
  unfold State.selectedStart
  repeat' (first
    | with_reducible assumption
    | with_reducible apply State.kept_newFlagFrame
    | with_reducible apply State.kept_linkFrameStart
    | with_reducible apply State.kept_trainFrame
    | with_reducible apply State.kept_judgeClock
    | with_reducible apply State.kept_faultBegan
    | with_reducible apply State.kept_lostCopy
    | with_reducible apply State.kept_frameWork
    | with_reducible apply kept_ite
    | (extract_lets +onlyGivenNames x
       first
         | (refine kept_cut (s0 := s0) (x := x) ?_ (fun _ => ?_); (focus unfold x); on_goal 2 => clear_value x)
         | ((first | have y : Queue := x | have y : Fixer := x); clear y; unfold x; clear x)
         | clear_value x)
    | split)

theorem State.kept_otherStart {s0 s : State} (a1 : Side) (a2 : FrameIn) (h : KeptBy s0 s) : KeptBy s0 (State.otherStart s a1 a2) := by
  unfold State.otherStart
  repeat' (first
    | with_reducible assumption
    | with_reducible apply State.kept_trainFrame
    | with_reducible apply State.kept_linkFrameStart
    | with_reducible apply State.kept_lostCopy
    | with_reducible apply State.kept_modSd
    | with_reducible apply kept_ite
    | (extract_lets +onlyGivenNames x
       first
         | (refine kept_cut (s0 := s0) (x := x) ?_ (fun _ => ?_); (focus unfold x); on_goal 2 => clear_value x)
         | ((first | have y : Queue := x | have y : Fixer := x); clear y; unfold x; clear x)
         | clear_value x)
    | split)

theorem State.kept_resetFrame {s0 s : State} (a1 : Side) (h : KeptBy s0 s) : KeptBy s0 (State.resetFrame s a1) := by
  unfold State.resetFrame
  repeat' (first
    | with_reducible assumption
    | with_reducible apply kept_ite
    | (extract_lets +onlyGivenNames x
       first
         | (refine kept_cut (s0 := s0) (x := x) ?_ (fun _ => ?_); (focus unfold x); on_goal 2 => clear_value x)
         | ((first | have y : Queue := x | have y : Fixer := x); clear y; unfold x; clear x)
         | clear_value x)
    | split)

theorem State.kept_frameStart {s0 s : State} (a1 : Side) (a2 : FrameIn) (h : KeptBy s0 s) : KeptBy s0 (State.frameStart s a1 a2) := by
  unfold State.frameStart
  repeat' (first
    | with_reducible assumption
    | with_reducible apply State.kept_resetFrame
    | with_reducible apply State.kept_restoreOut
    | with_reducible apply State.kept_outStart
    | with_reducible apply State.kept_countProof
    | with_reducible apply State.kept_otherStart
    | with_reducible apply State.kept_resetAll
    | with_reducible apply State.kept_selectedStart
    | with_reducible apply State.kept_noteWithheld
    | with_reducible apply State.kept_modSd
    | with_reducible apply kept_ite
    | (extract_lets +onlyGivenNames x
       first
         | (refine kept_cut (s0 := s0) (x := x) ?_ (fun _ => ?_); (focus unfold x); on_goal 2 => clear_value x)
         | ((first | have y : Queue := x | have y : Fixer := x); clear y; unfold x; clear x)
         | clear_value x)
    | split)

theorem State.kept_settleFrom {s0 s : State}  (h : KeptBy s0 s) : KeptBy s0 (State.settleFrom s) := by
  unfold State.settleFrom
  repeat' (first
    | with_reducible assumption
    | with_reducible apply State.kept_openWindow
    | (extract_lets +onlyGivenNames x
       first
         | (refine kept_cut (s0 := s0) (x := x) ?_ (fun _ => ?_); (focus unfold x); on_goal 2 => clear_value x)
         | ((first | have y : Queue := x | have y : Fixer := x); clear y; unfold x; clear x)
         | clear_value x))

theorem State.kept_afterGap {s0 s : State} (a1 : Nat) (h : KeptBy s0 s) : KeptBy s0 (State.afterGap s a1) := by
  unfold State.afterGap
  repeat' (first
    | with_reducible assumption
    | with_reducible apply State.kept_settleFrom
    | with_reducible apply State.kept_devGap
    | with_reducible apply State.kept_pdmGap
    | with_reducible apply State.kept_staleGap
    | with_reducible apply State.kept_gapMark
    | with_reducible apply kept_ite
    | (extract_lets +onlyGivenNames x
       first
         | (refine kept_cut (s0 := s0) (x := x) ?_ (fun _ => ?_); (focus unfold x); on_goal 2 => clear_value x)
         | ((first | have y : Queue := x | have y : Fixer := x); clear y; unfold x; clear x)
         | clear_value x)
    | split)

theorem State.kept_afterBack {s0 s : State}  (h : KeptBy s0 s) : KeptBy s0 (State.afterBack s) := by
  unfold State.afterBack
  repeat' (first
    | with_reducible assumption
    | with_reducible apply State.kept_settleFrom
    | with_reducible apply State.kept_devGap
    | with_reducible apply State.kept_pdmGap
    | with_reducible apply State.kept_staleGap
    | with_reducible apply State.kept_forgetDecisions
    | with_reducible apply State.kept_gapMark)

theorem State.kept_compareEpoch {s0 s : State} (a1 : Epoch32) (a2 : Bool) (h : KeptBy s0 s) : KeptBy s0 (State.compareEpoch s a1 a2) := by
  unfold State.compareEpoch
  repeat' (first
    | with_reducible assumption
    | with_reducible apply State.kept_forward
    | with_reducible apply State.kept_adopt
    | with_reducible apply State.kept_recordGap
    | with_reducible apply State.kept_clockCount
    | with_reducible apply State.kept_afterGap
    | with_reducible apply State.kept_recordBack
    | with_reducible apply State.kept_afterBack
    | with_reducible apply kept_ite
    | (extract_lets +onlyGivenNames x
       first
         | (refine kept_cut (s0 := s0) (x := x) ?_ (fun _ => ?_); (focus unfold x); on_goal 2 => clear_value x)
         | ((first | have y : Queue := x | have y : Fixer := x); clear y; unfold x; clear x)
         | clear_value x)
    | split)

theorem State.kept_firstEpoch {s0 s : State} (a1 : Epoch32) (h : KeptBy s0 s) : KeptBy s0 (State.firstEpoch s a1) := by
  unfold State.firstEpoch
  repeat' (first
    | with_reducible assumption
    | with_reducible apply State.kept_gapMark
    | with_reducible apply State.kept_adopt
    | with_reducible apply State.kept_raise
    | with_reducible apply kept_ite
    | (extract_lets +onlyGivenNames x
       first
         | (refine kept_cut (s0 := s0) (x := x) ?_ (fun _ => ?_); (focus unfold x); on_goal 2 => clear_value x)
         | ((first | have y : Queue := x | have y : Fixer := x); clear y; unfold x; clear x)
         | clear_value x)
    | split)

theorem State.kept_rateHeader {s0 s : State} (a1 : Epoch32) (h : KeptBy s0 s) : KeptBy s0 (State.rateHeader s a1) := by
  unfold State.rateHeader
  repeat' (first
    | with_reducible assumption
    | with_reducible apply State.kept_forward
    | with_reducible apply State.kept_adopt
    | with_reducible apply State.kept_recordBack
    | with_reducible apply State.kept_afterBack
    | with_reducible apply State.kept_setFlag
    | with_reducible apply State.kept_raise
    | with_reducible apply kept_ite
    | (extract_lets +onlyGivenNames x
       first
         | (refine kept_cut (s0 := s0) (x := x) ?_ (fun _ => ?_); (focus unfold x); on_goal 2 => clear_value x)
         | ((first | have y : Queue := x | have y : Fixer := x); clear y; unfold x; clear x)
         | clear_value x)
    | split)

theorem State.kept_switchHeader {s0 s : State} (a1 : Epoch32) (h : KeptBy s0 s) : KeptBy s0 (State.switchHeader s a1) := by
  unfold State.switchHeader
  repeat' (first
    | with_reducible assumption
    | with_reducible apply State.kept_adopt
    | with_reducible apply State.kept_raise
    | with_reducible apply State.kept_compareEpoch
    | with_reducible apply kept_ite
    | (extract_lets +onlyGivenNames x
       first
         | (refine kept_cut (s0 := s0) (x := x) ?_ (fun _ => ?_); (focus unfold x); on_goal 2 => clear_value x)
         | ((first | have y : Queue := x | have y : Fixer := x); clear y; unfold x; clear x)
         | clear_value x)
    | split)

theorem State.kept_rateRecover {s0 s : State} (a1 : Epoch32) (h : KeptBy s0 s) : KeptBy s0 (State.rateRecover s a1) := by
  unfold State.rateRecover
  repeat' (first
    | with_reducible assumption
    | with_reducible apply State.kept_compareEpoch
    | with_reducible apply State.kept_gapMark
    | (extract_lets +onlyGivenNames x
       first
         | (refine kept_cut (s0 := s0) (x := x) ?_ (fun _ => ?_); (focus unfold x); on_goal 2 => clear_value x)
         | ((first | have y : Queue := x | have y : Fixer := x); clear y; unfold x; clear x)
         | clear_value x))

theorem State.kept_epochHeader {s0 s : State} (a1 : Epoch32) (h : KeptBy s0 s) : KeptBy s0 (State.epochHeader s a1) := by
  unfold State.epochHeader
  repeat' (first
    | with_reducible assumption
    | with_reducible apply State.kept_resumeStages
    | with_reducible apply State.kept_firstEpoch
    | with_reducible apply State.kept_rateRecover
    | with_reducible apply State.kept_switchHeader
    | with_reducible apply State.kept_rateHeader
    | with_reducible apply State.kept_compareEpoch
    | with_reducible apply kept_ite
    | (extract_lets +onlyGivenNames x
       first
         | (refine kept_cut (s0 := s0) (x := x) ?_ (fun _ => ?_); (focus unfold x); on_goal 2 => clear_value x)
         | ((first | have y : Queue := x | have y : Fixer := x); clear y; unfold x; clear x)
         | clear_value x)
    | split)

theorem State.kept_faultHeader {s0 s : State}  (h : KeptBy s0 s) : KeptBy s0 (State.faultHeader s) := by
  unfold State.faultHeader
  repeat' (first
    | with_reducible assumption
    | with_reducible apply State.kept_endFault
    | with_reducible apply kept_ite
    | (extract_lets +onlyGivenNames x
       first
         | (refine kept_cut (s0 := s0) (x := x) ?_ (fun _ => ?_); (focus unfold x); on_goal 2 => clear_value x)
         | ((first | have y : Queue := x | have y : Fixer := x); clear y; unfold x; clear x)
         | clear_value x)
    | split)

theorem State.kept_edgeHeader {s0 s : State}  (h : KeptBy s0 s) : KeptBy s0 (State.edgeHeader s) := by
  unfold State.edgeHeader
  repeat' (first
    | with_reducible assumption
    | with_reducible apply State.kept_raise
    | with_reducible apply kept_ite
    | (extract_lets +onlyGivenNames x
       first
         | (refine kept_cut (s0 := s0) (x := x) ?_ (fun _ => ?_); (focus unfold x); on_goal 2 => clear_value x)
         | ((first | have y : Queue := x | have y : Fixer := x); clear y; unfold x; clear x)
         | clear_value x)
    | split)

theorem State.kept_prepareSafe {s0 s : State}  (h : KeptBy s0 s) : KeptBy s0 (State.prepareSafe s) := by
  unfold State.prepareSafe
  repeat' (first
    | with_reducible assumption
    | with_reducible apply State.kept_endFrontLoops
    | with_reducible apply State.kept_autoRelease
    | with_reducible apply State.kept_updateBiases
    | with_reducible apply State.kept_updateWatch
    | with_reducible apply State.kept_updateDrain
    | (extract_lets +onlyGivenNames x
       first
         | (refine kept_cut (s0 := s0) (x := x) ?_ (fun _ => ?_); (focus unfold x); on_goal 2 => clear_value x)
         | ((first | have y : Queue := x | have y : Fixer := x); clear y; unfold x; clear x)
         | clear_value x))

theorem State.kept_domainsOff {s0 s : State}  (h : KeptBy s0 s) : KeptBy s0 (State.domainsOff s) := by
  unfold State.domainsOff
  repeat' (first
    | with_reducible assumption
    | (extract_lets +onlyGivenNames x
       first
         | (refine kept_cut (s0 := s0) (x := x) ?_ (fun _ => ?_); (focus unfold x); on_goal 2 => clear_value x)
         | ((first | have y : Queue := x | have y : Fixer := x); clear y; unfold x; clear x)
         | clear_value x))

theorem State.kept_dropSegments {s0 s : State}  (h : KeptBy s0 s) : KeptBy s0 (State.dropSegments s) := by
  unfold State.dropSegments
  repeat' (first
    | with_reducible assumption
    | (extract_lets +onlyGivenNames x
       first
         | (refine kept_cut (s0 := s0) (x := x) ?_ (fun _ => ?_); (focus unfold x); on_goal 2 => clear_value x)
         | ((first | have y : Queue := x | have y : Fixer := x); clear y; unfold x; clear x)
         | clear_value x)
    | with_reducible apply kept_write32
    | with_reducible apply kept_keep
    | with_reducible apply kept_erase)

theorem State.kept_beginCount {s0 s : State} (a1 : Nat) (a2 : Nat) (h : KeptBy s0 s) : KeptBy s0 (State.beginCount s a1 a2) := by
  unfold State.beginCount
  repeat' (first
    | with_reducible assumption
    | with_reducible apply State.kept_setFlag
    | with_reducible apply State.kept_raise
    | with_reducible apply State.kept_domainsOff
    | with_reducible apply State.kept_prepareSafe
    | with_reducible apply kept_ite
    | (extract_lets +onlyGivenNames x
       first
         | (refine kept_cut (s0 := s0) (x := x) ?_ (fun _ => ?_); (focus unfold x); on_goal 2 => clear_value x)
         | ((first | have y : Queue := x | have y : Fixer := x); clear y; unfold x; clear x)
         | clear_value x)
    | split)

theorem State.kept_cancelCount {s0 s : State}  (h : KeptBy s0 s) : KeptBy s0 (State.cancelCount s) := by
  unfold State.cancelCount
  repeat' (first
    | with_reducible assumption
    | with_reducible apply State.kept_setFlag
    | with_reducible apply State.kept_raise
    | with_reducible apply State.kept_dropSegments
    | with_reducible apply State.kept_setPair
    | with_reducible apply State.kept_updateBiases
    | with_reducible apply State.kept_updateWatch
    | with_reducible apply State.kept_updateDrain
    | with_reducible apply State.kept_loupeCancel
    | with_reducible apply State.kept_domainsOff
    | with_reducible apply kept_ite
    | (extract_lets +onlyGivenNames x
       first
         | (refine kept_cut (s0 := s0) (x := x) ?_ (fun _ => ?_); (focus unfold x); on_goal 2 => clear_value x)
         | ((first | have y : Queue := x | have y : Fixer := x); clear y; unfold x; clear x)
         | clear_value x)
    | split)

theorem State.kept_ignoreCount {s0 s : State} (a1 : Nat) (a2 : Nat) (h : KeptBy s0 s) : KeptBy s0 (State.ignoreCount s a1 a2) := by
  unfold State.ignoreCount
  repeat' (first
    | with_reducible assumption
    | with_reducible apply State.kept_setFlag
    | with_reducible apply State.kept_raise
    | with_reducible apply kept_ite
    | (extract_lets +onlyGivenNames x
       first
         | (refine kept_cut (s0 := s0) (x := x) ?_ (fun _ => ?_); (focus unfold x); on_goal 2 => clear_value x)
         | ((first | have y : Queue := x | have y : Fixer := x); clear y; unfold x; clear x)
         | clear_value x)
    | split)

theorem State.kept_countHeader {s0 s : State} (a1 : BitVec 416) (h : KeptBy s0 s) : KeptBy s0 (State.countHeader s a1) := by
  unfold State.countHeader
  repeat' (first
    | with_reducible assumption
    | with_reducible apply State.kept_cancelCount
    | with_reducible apply State.kept_ignoreCount
    | with_reducible apply State.kept_beginCount
    | with_reducible apply kept_ite
    | (extract_lets +onlyGivenNames x
       first
         | (refine kept_cut (s0 := s0) (x := x) ?_ (fun _ => ?_); (focus unfold x); on_goal 2 => clear_value x)
         | ((first | have y : Queue := x | have y : Fixer := x); clear y; unfold x; clear x)
         | clear_value x)
    | split)

theorem State.kept_countOn {s0 s : State}  (h : KeptBy s0 s) : KeptBy s0 (State.countOn s) := by
  unfold State.countOn
  repeat' (first
    | with_reducible assumption
    | with_reducible apply kept_ite
    | (extract_lets +onlyGivenNames x
       first
         | (refine kept_cut (s0 := s0) (x := x) ?_ (fun _ => ?_); (focus unfold x); on_goal 2 => clear_value x)
         | ((first | have y : Queue := x | have y : Fixer := x); clear y; unfold x; clear x)
         | clear_value x)
    | split)

theorem State.kept_selectedHeader {s0 s : State} (a1 : Side) (a2 : BitVec 416) (h : KeptBy s0 s) : KeptBy s0 (State.selectedHeader s a1 a2) := by
  unfold State.selectedHeader
  repeat' (first
    | with_reducible assumption
    | with_reducible apply State.kept_epochHeader
    | with_reducible apply State.kept_edgeHeader
    | with_reducible apply State.kept_faultHeader
    | with_reducible apply State.kept_countHeader
    | (extract_lets +onlyGivenNames x
       first
         | (refine kept_cut (s0 := s0) (x := x) ?_ (fun _ => ?_); (focus unfold x); on_goal 2 => clear_value x)
         | ((first | have y : Queue := x | have y : Fixer := x); clear y; unfold x; clear x)
         | clear_value x))

theorem State.kept_ownHeader {s0 s : State}  (h : KeptBy s0 s) : KeptBy s0 (State.ownHeader s) := by
  unfold State.ownHeader
  repeat' (first
    | with_reducible assumption
    | with_reducible apply State.kept_countOn
    | (extract_lets +onlyGivenNames x
       first
         | (refine kept_cut (s0 := s0) (x := x) ?_ (fun _ => ?_); (focus unfold x); on_goal 2 => clear_value x)
         | ((first | have y : Queue := x | have y : Fixer := x); clear y; unfold x; clear x)
         | clear_value x))

theorem State.kept_bothFailed {s0 s : State} (a1 : Side) (h : KeptBy s0 s) : KeptBy s0 (State.bothFailed s a1) := by
  unfold State.bothFailed
  repeat' (first
    | with_reducible assumption
    | with_reducible apply State.kept_beginFault
    | with_reducible apply State.kept_markFaulted
    | with_reducible apply State.kept_faultBegan
    | with_reducible apply kept_ite
    | (extract_lets +onlyGivenNames x
       first
         | (refine kept_cut (s0 := s0) (x := x) ?_ (fun _ => ?_); (focus unfold x); on_goal 2 => clear_value x)
         | ((first | have y : Queue := x | have y : Fixer := x); clear y; unfold x; clear x)
         | clear_value x)
    | split)

theorem State.kept_markStanding {s0 s : State}  (h : KeptBy s0 s) : KeptBy s0 (State.markStanding s) := by
  unfold State.markStanding
  repeat' (first
    | with_reducible assumption
    | with_reducible apply State.kept_markFaulted
    | with_reducible apply kept_ite
    | split)

theorem State.kept_headerEnd {s0 s : State} (a1 : Side) (a2 : BitVec 416) (a3 : BitVec 24) (h : KeptBy s0 s) : KeptBy s0 (State.headerEnd s a1 a2 a3) := by
  unfold State.headerEnd
  repeat' (first
    | with_reducible assumption
    | with_reducible apply State.kept_forwardHeader
    | with_reducible apply State.kept_linkHeader
    | with_reducible refine State.kept_linkHeader_eq (by with_reducible assumption) ?_
    | with_reducible apply State.kept_bothFailed
    | with_reducible apply State.kept_noteWithheld
    | with_reducible apply State.kept_noteEarly
    | with_reducible apply State.kept_selectedHeader
    | with_reducible apply State.kept_ownHeader
    | with_reducible apply State.kept_markStanding
    | with_reducible apply kept_ite
    | (extract_lets +onlyGivenNames x
       first
         | (refine kept_cut (s0 := s0) (x := x) ?_ (fun _ => ?_); (focus unfold x); on_goal 2 => clear_value x)
         | ((first | have y : Queue := x | have y : Fixer := x); clear y; unfold x; clear x)
         | clear_value x)
    | split)

theorem State.kept_countTick {s0 s : State} (a1 : TickIn) (h : KeptBy s0 s) : KeptBy s0 (State.countTick s a1) := by
  unfold State.countTick
  repeat' (first
    | with_reducible assumption
    | with_reducible apply State.kept_advanceEpoch
    | with_reducible apply State.kept_scanLanes
    | with_reducible apply kept_ite
    | (extract_lets +onlyGivenNames x
       first
         | (refine kept_cut (s0 := s0) (x := x) ?_ (fun _ => ?_); (focus unfold x); on_goal 2 => clear_value x)
         | ((first | have y : Queue := x | have y : Fixer := x); clear y; unfold x; clear x)
         | clear_value x)
    | split)

theorem State.kept_tick {s0 s : State} (a1 : TickIn) (h : KeptBy s0 s) : KeptBy s0 (State.tick s a1) := by
  unfold State.tick
  repeat' (first
    | with_reducible assumption
    | with_reducible apply State.kept_countTick
    | with_reducible apply State.kept_tickBiases
    | with_reducible apply State.kept_tickStages
    | with_reducible apply State.kept_tickTj
    | with_reducible apply kept_ite
    | (extract_lets +onlyGivenNames x
       first
         | (refine kept_cut (s0 := s0) (x := x) ?_ (fun _ => ?_); (focus unfold x); on_goal 2 => clear_value x)
         | ((first | have y : Queue := x | have y : Fixer := x); clear y; unfold x; clear x)
         | clear_value x)
    | split)

theorem State.kept_settleEnd {s0 s : State}  (h : KeptBy s0 s) : KeptBy s0 (State.settleEnd s) := by
  unfold State.settleEnd
  repeat' (first
    | with_reducible assumption
    | with_reducible apply State.kept_closeWindow
    | with_reducible apply kept_ite
    | (extract_lets +onlyGivenNames x
       first
         | (refine kept_cut (s0 := s0) (x := x) ?_ (fun _ => ?_); (focus unfold x); on_goal 2 => clear_value x)
         | ((first | have y : Queue := x | have y : Fixer := x); clear y; unfold x; clear x)
         | clear_value x)
    | split)

theorem State.kept_withholdEnd {s0 s : State}  (h : KeptBy s0 s) : KeptBy s0 (State.withholdEnd s) := by
  unfold State.withholdEnd
  repeat' (first
    | with_reducible assumption
    | with_reducible apply kept_ite
    | (extract_lets +onlyGivenNames x
       first
         | (refine kept_cut (s0 := s0) (x := x) ?_ (fun _ => ?_); (focus unfold x); on_goal 2 => clear_value x)
         | ((first | have y : Queue := x | have y : Fixer := x); clear y; unfold x; clear x)
         | clear_value x)
    | split)

theorem State.kept_changeRate {s0 s : State} (a1 : Bool) (h : KeptBy s0 s) : KeptBy s0 (State.changeRate s a1) := by
  unfold State.changeRate
  repeat' (first
    | with_reducible assumption
    | with_reducible apply State.kept_setPair
    | with_reducible apply State.kept_countWrap
    | with_reducible apply kept_ite
    | (extract_lets +onlyGivenNames x
       first
         | (refine kept_cut (s0 := s0) (x := x) ?_ (fun _ => ?_); (focus unfold x); on_goal 2 => clear_value x)
         | ((first | have y : Queue := x | have y : Fixer := x); clear y; unfold x; clear x)
         | clear_value x)
    | split)

theorem State.kept_domainLate {s0 s : State}  (h : KeptBy s0 s) : KeptBy s0 (State.domainLate s) := by
  unfold State.domainLate
  repeat' (first
    | with_reducible assumption
    | with_reducible apply State.kept_setFlag
    | with_reducible apply State.kept_raise
    | with_reducible apply kept_ite
    | (extract_lets +onlyGivenNames x
       first
         | (refine kept_cut (s0 := s0) (x := x) ?_ (fun _ => ?_); (focus unfold x); on_goal 2 => clear_value x)
         | ((first | have y : Queue := x | have y : Fixer := x); clear y; unfold x; clear x)
         | clear_value x)
    | split)

theorem State.kept_startBlocks {s0 s : State} (a1 : Nat → Bool) (h : KeptBy s0 s) : KeptBy s0 (State.startBlocks s a1) := by
  unfold State.startBlocks
  repeat' (first
    | with_reducible assumption
    | with_reducible apply State.kept_updateChans
    | with_reducible apply State.kept_hqBegin
    | with_reducible apply State.kept_aperBegin
    | with_reducible apply State.kept_startLoupe
    | with_reducible apply State.kept_updateBiases
    | with_reducible apply kept_ite
    | (extract_lets +onlyGivenNames x
       first
         | (refine kept_cut (s0 := s0) (x := x) ?_ (fun _ => ?_); (focus unfold x); on_goal 2 => clear_value x)
         | ((first | have y : Queue := x | have y : Fixer := x); clear y; unfold x; clear x)
         | clear_value x)
    | split)

theorem State.kept_toDaylight {s0 s : State}  (h : KeptBy s0 s) : KeptBy s0 (State.toDaylight s) := by
  unfold State.toDaylight
  repeat' (first
    | with_reducible assumption
    | intro _
    | with_reducible apply State.kept_changeRate
    | with_reducible apply State.kept_latentToDay
    | with_reducible apply State.kept_devToDay
    | with_reducible apply State.kept_updateBiases
    | with_reducible apply State.kept_updateWatch
    | with_reducible apply State.kept_startBlocks
    | with_reducible apply State.kept_domainLate
    | with_reducible apply State.kept_verifyRestart
    | with_reducible apply State.kept_repeatSearch
    | with_reducible apply State.kept_updateDrain
    | with_reducible apply State.kept_startTraining
    | with_reducible apply kept_foldl
    | (extract_lets +onlyGivenNames x
       first
         | (refine kept_cut (s0 := s0) (x := x) ?_ (fun _ => ?_); (focus unfold x); on_goal 2 => clear_value x)
         | ((first | have y : Queue := x | have y : Fixer := x); clear y; unfold x; clear x)
         | clear_value x))

theorem State.kept_stageToSafe {s0 s : State}  (h : KeptBy s0 s) : KeptBy s0 (State.stageToSafe s) := by
  unfold State.stageToSafe
  repeat' (first
    | with_reducible assumption
    | intro _
    | with_reducible apply State.kept_haltMeasure
    | with_reducible apply kept_foldl
    | (extract_lets +onlyGivenNames x
       first
         | (refine kept_cut (s0 := s0) (x := x) ?_ (fun _ => ?_); (focus unfold x); on_goal 2 => clear_value x)
         | ((first | have y : Queue := x | have y : Fixer := x); clear y; unfold x; clear x)
         | clear_value x))

theorem State.kept_toSafelight {s0 s : State}  (h : KeptBy s0 s) : KeptBy s0 (State.toSafelight s) := by
  unfold State.toSafelight
  repeat' (first
    | with_reducible assumption
    | with_reducible apply State.kept_fogEnd
    | with_reducible apply State.kept_loupeToSafe
    | with_reducible apply State.kept_stageToSafe
    | with_reducible apply State.kept_changeRate
    | with_reducible apply State.kept_devToSafe
    | with_reducible apply State.kept_domainsOff
    | with_reducible apply State.kept_loseTemplates
    | with_reducible apply State.kept_settleTables
    | with_reducible apply State.kept_mxToSafe
    | with_reducible apply State.kept_hqHalt
    | with_reducible apply State.kept_pdmStop
    | with_reducible apply State.kept_updateChans
    | with_reducible apply State.kept_updateBiases
    | with_reducible apply State.kept_updateWatch
    | with_reducible apply State.kept_updateDrain
    | with_reducible apply State.kept_dropSegments
    | with_reducible apply State.kept_startTraining
    | with_reducible apply State.kept_printToSafe
    | (extract_lets +onlyGivenNames x
       first
         | (refine kept_cut (s0 := s0) (x := x) ?_ (fun _ => ?_); (focus unfold x); on_goal 2 => clear_value x)
         | ((first | have y : Queue := x | have y : Fixer := x); clear y; unfold x; clear x)
         | clear_value x))

theorem State.kept_rateBoundary {s0 s : State}  (h : KeptBy s0 s) : KeptBy s0 (State.rateBoundary s) := by
  unfold State.rateBoundary
  repeat' (first
    | with_reducible assumption
    | with_reducible apply State.kept_toDaylight
    | with_reducible apply State.kept_toSafelight
    | with_reducible apply State.kept_writeRecords
    | with_reducible apply State.kept_noteWithheld
    | with_reducible apply kept_ite
    | split)

theorem State.kept_trainingCentre {s0 s : State}  (h : KeptBy s0 s) : KeptBy s0 (State.trainingCentre s) := by
  unfold State.trainingCentre
  repeat' (first
    | with_reducible assumption
    | with_reducible apply State.kept_trainCentre
    | with_reducible apply State.kept_judgeDropped
    | with_reducible apply kept_ite
    | (extract_lets +onlyGivenNames x
       first
         | (refine kept_cut (s0 := s0) (x := x) ?_ (fun _ => ?_); (focus unfold x); on_goal 2 => clear_value x)
         | ((first | have y : Queue := x | have y : Fixer := x); clear y; unfold x; clear x)
         | clear_value x)
    | split)

theorem State.kept_trainingEnd {s0 s : State}  (h : KeptBy s0 s) : KeptBy s0 (State.trainingEnd s) := by
  unfold State.trainingEnd
  repeat' (first
    | with_reducible assumption
    | with_reducible apply State.kept_trainEndSide
    | with_reducible apply State.kept_judgeDropped
    | with_reducible apply kept_ite
    | (extract_lets +onlyGivenNames x
       first
         | (refine kept_cut (s0 := s0) (x := x) ?_ (fun _ => ?_); (focus unfold x); on_goal 2 => clear_value x)
         | ((first | have y : Queue := x | have y : Fixer := x); clear y; unfold x; clear x)
         | clear_value x)
    | split)

theorem State.kept_domainStep {s0 s : State}  (h : KeptBy s0 s) : KeptBy s0 (State.domainStep s) := by
  unfold State.domainStep
  repeat' (first
    | with_reducible assumption
    | with_reducible apply kept_ite
    | (extract_lets +onlyGivenNames x
       first
         | (refine kept_cut (s0 := s0) (x := x) ?_ (fun _ => ?_); (focus unfold x); on_goal 2 => clear_value x)
         | ((first | have y : Queue := x | have y : Fixer := x); clear y; unfold x; clear x)
         | clear_value x)
    | split)

theorem State.kept_domainGood {s0 s : State} (a1 : Nat) (h : KeptBy s0 s) : KeptBy s0 (State.domainGood s a1) := by
  unfold State.domainGood
  repeat' (first
    | with_reducible assumption
    | with_reducible apply State.kept_startBlocks
    | with_reducible apply kept_ite
    | (extract_lets +onlyGivenNames x
       first
         | (refine kept_cut (s0 := s0) (x := x) ?_ (fun _ => ?_); (focus unfold x); on_goal 2 => clear_value x)
         | ((first | have y : Queue := x | have y : Fixer := x); clear y; unfold x; clear x)
         | clear_value x)
    | split)

end Sys2Proof.Machine
end

