-- ==== Sys2Proof/Laws/KeptPowerCmds.lean ====
section
/-! SUPPORT. Every operation of Machine/PowerCmds.lean keeps what `Kept` says. -/

set_option linter.unusedTactic false
set_option linter.unreachableTactic false
set_option linter.tactic.unusedName false

namespace Sys2Proof.Machine

theorem State.kept_clockStop {s0 s : State}  (h : KeptBy s0 s) : KeptBy s0 (State.clockStop s) := by
  unfold State.clockStop
  repeat' (first
    | with_reducible assumption
    | with_reducible apply State.kept_stopStages
    | (extract_lets +onlyGivenNames x
       first
         | (refine kept_cut (s0 := s0) (x := x) ?_ (fun _ => ?_); (focus unfold x); on_goal 2 => clear_value x)
         | ((first | have y : Queue := x | have y : Fixer := x); clear y; unfold x; clear x)
         | clear_value x))

theorem State.kept_inputReturn {s0 s : State} (a1 : Side) (h : KeptBy s0 s) : KeptBy s0 (State.inputReturn s a1) := by
  unfold State.inputReturn
  repeat' (first
    | with_reducible assumption
    | with_reducible apply State.kept_gapMark
    | with_reducible apply State.kept_clockReturn
    | with_reducible apply State.kept_updateBiases
    | with_reducible apply kept_ite
    | (extract_lets +onlyGivenNames x
       first
         | (refine kept_cut (s0 := s0) (x := x) ?_ (fun _ => ?_); (focus unfold x); on_goal 2 => clear_value x)
         | ((first | have y : Queue := x | have y : Fixer := x); clear y; unfold x; clear x)
         | clear_value x)
    | split)

theorem State.kept_vbiasFall {s0 s : State}  (h : KeptBy s0 s) : KeptBy s0 (State.vbiasFall s) := by
  unfold State.vbiasFall
  repeat' (first
    | with_reducible assumption
    | (extract_lets +onlyGivenNames x
       first
         | (refine kept_cut (s0 := s0) (x := x) ?_ (fun _ => ?_); (focus unfold x); on_goal 2 => clear_value x)
         | ((first | have y : Queue := x | have y : Fixer := x); clear y; unfold x; clear x)
         | clear_value x))

theorem State.kept_vbiasRise {s0 s : State}  (h : KeptBy s0 s) : KeptBy s0 (State.vbiasRise s) := by
  unfold State.vbiasRise
  repeat' (first
    | with_reducible assumption
    | with_reducible apply State.kept_updateBiases
    | with_reducible apply kept_ite
    | (extract_lets +onlyGivenNames x
       first
         | (refine kept_cut (s0 := s0) (x := x) ?_ (fun _ => ?_); (focus unfold x); on_goal 2 => clear_value x)
         | ((first | have y : Queue := x | have y : Fixer := x); clear y; unfold x; clear x)
         | clear_value x)
    | split)

end Sys2Proof.Machine
end

