-- ==== Sys2Proof/Laws/KeptLinkCmds.lean ====
section
/-! SUPPORT. Every operation of Machine/LinkCmds.lean keeps what `Kept` says. -/

set_option linter.unusedTactic false
set_option linter.unreachableTactic false
set_option linter.tactic.unusedName false

namespace Sys2Proof.Machine

theorem State.kept_sideDown {s0 s : State} (a1 : Side) (a2 : Bool) (h : KeptBy s0 s) : KeptBy s0 (State.sideDown s a1 a2) := by
  unfold State.sideDown
  repeat' (first
    | with_reducible assumption
    | with_reducible apply State.kept_declareDown
    | with_reducible apply State.kept_judgeLost
    | with_reducible apply kept_ite
    | split)

theorem State.kept_wrapStep {s0 s : State}  (h : KeptBy s0 s) : KeptBy s0 (State.wrapStep s) := by
  unfold State.wrapStep
  repeat' (first
    | with_reducible assumption
    | with_reducible apply State.kept_startWrap
    | with_reducible apply kept_ite
    | (extract_lets +onlyGivenNames x
       first
         | (refine kept_cut (s0 := s0) (x := x) ?_ (fun _ => ?_); (focus unfold x); on_goal 2 => clear_value x)
         | ((first | have y : Queue := x | have y : Fixer := x); clear y; unfold x; clear x)
         | clear_value x)
    | split)

theorem State.kept_unwrapStep {s0 s : State}  (h : KeptBy s0 s) : KeptBy s0 (State.unwrapStep s) := by
  unfold State.unwrapStep
  repeat' (first
    | with_reducible assumption
    | with_reducible apply State.kept_endWrap
    | with_reducible apply kept_ite
    | (extract_lets +onlyGivenNames x
       first
         | (refine kept_cut (s0 := s0) (x := x) ?_ (fun _ => ?_); (focus unfold x); on_goal 2 => clear_value x)
         | ((first | have y : Queue := x | have y : Fixer := x); clear y; unfold x; clear x)
         | clear_value x)
    | split)

theorem State.kept_trackLanes {s0 s : State} (a1 : List LaneMove) (h : KeptBy s0 s) : KeptBy s0 (State.trackLanes s a1) := by
  unfold State.trackLanes
  repeat' (first
    | with_reducible assumption
    | intro _
    | with_reducible apply State.kept_trackLane
    | with_reducible apply kept_ite
    | with_reducible apply kept_foldl
    | split)

theorem State.kept_fieldOr {s0 s : State} (x : Side) (n : Nat) (put : OutSide → OutSide) (f : State → State) (h : KeptBy s0 s)
    (hf : KeptBy s0 (f s)) : KeptBy s0 (State.fieldOr s x n put f) := by
  unfold State.fieldOr
  repeat' (first
    | with_reducible assumption
    | with_reducible apply State.kept_forwardField
    | with_reducible apply State.kept_forward
    | with_reducible apply State.kept_holdField
    | with_reducible apply kept_ite)

theorem State.kept_showDecision {s0 s : State}  (h : KeptBy s0 s) : KeptBy s0 (State.showDecision s) := by
  unfold State.showDecision
  repeat' (first
    | with_reducible assumption
    | with_reducible apply State.kept_decideShow
    | with_reducible apply kept_ite
    | (extract_lets +onlyGivenNames x
       first
         | (refine kept_cut (s0 := s0) (x := x) ?_ (fun _ => ?_); (focus unfold x); on_goal 2 => clear_value x)
         | ((first | have y : Queue := x | have y : Fixer := x); clear y; unfold x; clear x)
         | clear_value x)
    | split)

end Sys2Proof.Machine
end

