-- ==== Sys2Proof/Laws/KeptPortCmds.lean ====
section
/-! SUPPORT. Every operation of Machine/PortCmds.lean keeps what `Kept` says. -/

set_option linter.unusedTactic false
set_option linter.unreachableTactic false
set_option linter.tactic.unusedName false

namespace Sys2Proof.Machine

theorem State.kept_readStep {s0 s : State} (who : ReadBy) (h : KeptBy s0 s) : KeptBy s0 (State.readStep s who) := by
  cases who with
  | host n => exact State.kept_hostRun 1 n h
  | loupe addr width => exact State.kept_loupeRead addr width h

theorem State.kept_statusWrite {s0 s : State} (a1 : Src) (a2 : Nat) (a3 : Word) (h : KeptBy s0 s) : KeptBy s0 (State.statusWrite s a1 a2 a3) := by
  unfold State.statusWrite
  repeat' (first
    | with_reducible assumption
    | with_reducible apply State.kept_accessWrite
    | with_reducible apply kept_ite
    | split)

theorem State.kept_armWrite {s0 s : State} (a1 : Src) (a2 : Nat) (a3 : Word) (h : KeptBy s0 s) : KeptBy s0 (State.armWrite s a1 a2 a3) := by
  unfold State.armWrite
  repeat' (first
    | with_reducible assumption
    | with_reducible apply State.kept_accessWrite
    | with_reducible apply kept_ite
    | split)

theorem State.kept_logWrite {s0 s : State}  (h : KeptBy s0 s) : KeptBy s0 (State.logWrite s) := by
  unfold State.logWrite
  repeat' (first
    | with_reducible assumption
    | with_reducible apply State.kept_logStep
    | with_reducible apply kept_ite
    | split)

end Sys2Proof.Machine
end

