-- ==== Sys2Proof/Laws/KeptGuardCmds.lean ====
section
/-! SUPPORT. Every operation of Machine/GuardCmds.lean keeps what `Kept` says. -/

set_option linter.unusedTactic false
set_option linter.unreachableTactic false
set_option linter.tactic.unusedName false

namespace Sys2Proof.Machine

theorem State.kept_guardedWrite {s0 s : State} (a1 : Src) (a2 : Nat) (a3 : Word → Bool) (a4 : Word) (h : KeptBy s0 s) : KeptBy s0 (State.guardedWrite s a1 a2 a3 a4) := by
  unfold State.guardedWrite
  repeat' (first
    | with_reducible assumption
    | with_reducible apply State.kept_accessWrite
    | with_reducible apply kept_ite
    | (extract_lets +onlyGivenNames x
       first
         | (refine kept_cut (s0 := s0) (x := x) ?_ (fun _ => ?_); (focus unfold x); on_goal 2 => clear_value x)
         | ((first | have y : Queue := x | have y : Fixer := x); clear y; unfold x; clear x)
         | clear_value x)
    | split)

end Sys2Proof.Machine
end

