-- ==== Sys2Proof/Laws/KeptMaskedCmds.lean ====
section
/-! SUPPORT. Every operation of Machine/MaskedCmds.lean keeps what `Kept` says. -/

set_option linter.unusedTactic false
set_option linter.unreachableTactic false
set_option linter.tactic.unusedName false

namespace Sys2Proof.Machine

theorem State.kept_commandWrite {s0 s : State} (a1 : Src) (a2 : Nat) (a3 : Word → Word → Bool) (a4 : Word) (h : KeptBy s0 s) : KeptBy s0 (State.commandWrite s a1 a2 a3 a4) := by
  unfold State.commandWrite
  repeat' (first
    | with_reducible assumption
    | with_reducible apply State.kept_accessWrite
    | with_reducible apply kept_ite
    | split)

end Sys2Proof.Machine
end

