-- ==== Sys2Proof/Laws/KeptArrayCmds.lean ====
section
/-! SUPPORT. Every operation of Machine/ArrayCmds.lean keeps what `Kept` says. -/

set_option linter.unusedTactic false
set_option linter.unreachableTactic false
set_option linter.tactic.unusedName false

namespace Sys2Proof.Machine

theorem State.kept_biasRamped {s0 s : State} (a1 : Nat) (h : KeptBy s0 s) : KeptBy s0 (State.biasRamped s a1) := by
  unfold State.biasRamped
  repeat' (first
    | with_reducible assumption
    | with_reducible apply State.kept_modBias
    | with_reducible apply kept_ite
    | (extract_lets +onlyGivenNames x
       first
         | (refine kept_cut (s0 := s0) (x := x) ?_ (fun _ => ?_); (focus unfold x); on_goal 2 => clear_value x)
         | ((first | have y : Queue := x | have y : Fixer := x); clear y; unfold x; clear x)
         | clear_value x)
    | split)

theorem State.kept_biasSettled {s0 s : State} (a1 : Nat) (h : KeptBy s0 s) : KeptBy s0 (State.biasSettled s a1) := by
  unfold State.biasSettled
  repeat' (first
    | with_reducible assumption
    | with_reducible apply State.kept_modBias
    | with_reducible apply kept_ite
    | (extract_lets +onlyGivenNames x
       first
         | (refine kept_cut (s0 := s0) (x := x) ?_ (fun _ => ?_); (focus unfold x); on_goal 2 => clear_value x)
         | ((first | have y : Queue := x | have y : Fixer := x); clear y; unfold x; clear x)
         | clear_value x)
    | split)

theorem State.kept_biasRestart {s0 s : State} (a1 : Nat) (h : KeptBy s0 s) : KeptBy s0 (State.biasRestart s a1) := by
  unfold State.biasRestart
  repeat' (first
    | with_reducible assumption
    | with_reducible apply State.kept_modBias
    | with_reducible apply State.kept_updateBias
    | with_reducible apply kept_ite
    | (extract_lets +onlyGivenNames x
       first
         | (refine kept_cut (s0 := s0) (x := x) ?_ (fun _ => ?_); (focus unfold x); on_goal 2 => clear_value x)
         | ((first | have y : Queue := x | have y : Fixer := x); clear y; unfold x; clear x)
         | clear_value x)
    | split)

theorem State.kept_biasRearm {s0 s : State} (a1 : Nat) (h : KeptBy s0 s) : KeptBy s0 (State.biasRearm s a1) := by
  unfold State.biasRearm
  repeat' (first
    | with_reducible assumption
    | with_reducible apply State.kept_modBias
    | with_reducible apply kept_ite
    | (extract_lets +onlyGivenNames x
       first
         | (refine kept_cut (s0 := s0) (x := x) ?_ (fun _ => ?_); (focus unfold x); on_goal 2 => clear_value x)
         | ((first | have y : Queue := x | have y : Fixer := x); clear y; unfold x; clear x)
         | clear_value x)
    | split)

theorem State.kept_chanStarted {s0 s : State} (a1 : Nat) (h : KeptBy s0 s) : KeptBy s0 (State.chanStarted s a1) := by
  unfold State.chanStarted
  repeat' (first
    | with_reducible assumption
    | with_reducible apply State.kept_modChan
    | with_reducible apply kept_ite
    | (extract_lets +onlyGivenNames x
       first
         | (refine kept_cut (s0 := s0) (x := x) ?_ (fun _ => ?_); (focus unfold x); on_goal 2 => clear_value x)
         | ((first | have y : Queue := x | have y : Fixer := x); clear y; unfold x; clear x)
         | clear_value x)
    | split)

theorem State.kept_watchStarted {s0 s : State}  (h : KeptBy s0 s) : KeptBy s0 (State.watchStarted s) := by
  unfold State.watchStarted
  repeat' (first
    | with_reducible assumption
    | with_reducible apply kept_ite
    | (extract_lets +onlyGivenNames x
       first
         | (refine kept_cut (s0 := s0) (x := x) ?_ (fun _ => ?_); (focus unfold x); on_goal 2 => clear_value x)
         | ((first | have y : Queue := x | have y : Fixer := x); clear y; unfold x; clear x)
         | clear_value x)
    | split)

theorem State.kept_overload {s0 s : State} (a1 : Nat) (h : KeptBy s0 s) : KeptBy s0 (State.overload s a1) := by
  unfold State.overload
  repeat' (first
    | with_reducible assumption
    | with_reducible apply State.kept_senseFailed
    | with_reducible apply State.kept_setFlag
    | with_reducible apply kept_ite
    | split)

theorem State.kept_pdmDecimate {s0 s : State}  (h : KeptBy s0 s) : KeptBy s0 (State.pdmDecimate s) := by
  unfold State.pdmDecimate
  repeat' (first
    | with_reducible assumption
    | with_reducible apply kept_ite
    | (extract_lets +onlyGivenNames x
       first
         | (refine kept_cut (s0 := s0) (x := x) ?_ (fun _ => ?_); (focus unfold x); on_goal 2 => clear_value x)
         | ((first | have y : Queue := x | have y : Fixer := x); clear y; unfold x; clear x)
         | clear_value x)
    | split)

theorem State.kept_pdmBecomesReady {s0 s : State}  (h : KeptBy s0 s) : KeptBy s0 (State.pdmBecomesReady s) := by
  unfold State.pdmBecomesReady
  repeat' (first
    | with_reducible assumption
    | with_reducible apply State.kept_setFlag
    | with_reducible apply State.kept_raise
    | with_reducible apply kept_ite
    | (extract_lets +onlyGivenNames x
       first
         | (refine kept_cut (s0 := s0) (x := x) ?_ (fun _ => ?_); (focus unfold x); on_goal 2 => clear_value x)
         | ((first | have y : Queue := x | have y : Fixer := x); clear y; unfold x; clear x)
         | clear_value x)
    | split)

theorem State.kept_captureDone {s0 s : State}  (h : KeptBy s0 s) : KeptBy s0 (State.captureDone s) := by
  unfold State.captureDone
  repeat' (first
    | with_reducible assumption
    | with_reducible apply State.kept_setFlag
    | with_reducible apply kept_ite
    | (extract_lets +onlyGivenNames x
       first
         | (refine kept_cut (s0 := s0) (x := x) ?_ (fun _ => ?_); (focus unfold x); on_goal 2 => clear_value x)
         | ((first | have y : Queue := x | have y : Fixer := x); clear y; unfold x; clear x)
         | clear_value x)
    | split)

theorem State.kept_hqBoundary {s0 s : State} (a1 : HqIn) (h : KeptBy s0 s) : KeptBy s0 (State.hqBoundary s a1) := by
  unfold State.hqBoundary
  repeat' (first
    | with_reducible assumption
    | intro _
    | with_reducible apply State.kept_coefUpset
    | with_reducible apply State.kept_hqChannels
    | with_reducible apply State.kept_beamsBoundary
    | with_reducible apply State.kept_writeSet
    | with_reducible apply State.kept_verifyBoundary
    | with_reducible apply State.kept_countSamples
    | with_reducible apply kept_ite
    | with_reducible apply kept_foldl
    | (extract_lets +onlyGivenNames x
       first
         | (refine kept_cut (s0 := s0) (x := x) ?_ (fun _ => ?_); (focus unfold x); on_goal 2 => clear_value x)
         | ((first | have y : Queue := x | have y : Fixer := x); clear y; unfold x; clear x)
         | clear_value x)
    | split)

theorem State.kept_lpBoundary {s0 s : State} (a1 : List Bool) (a2 : List (Nat × Nat)) (h : KeptBy s0 s) : KeptBy s0 (State.lpBoundary s a1 a2) := by
  unfold State.lpBoundary
  repeat' (first
    | with_reducible assumption
    | intro _
    | with_reducible apply State.kept_coefUpset
    | with_reducible apply State.kept_lpPhase
    | with_reducible refine State.kept_lpPhase_eq (by with_reducible assumption) ?_
    | with_reducible apply State.kept_lpSample
    | with_reducible apply State.kept_writeCell
    | with_reducible apply State.kept_countWatch
    | with_reducible apply kept_ite
    | with_reducible apply kept_foldl
    | (extract_lets +onlyGivenNames x
       first
         | (refine kept_cut (s0 := s0) (x := x) ?_ (fun _ => ?_); (focus unfold x); on_goal 2 => clear_value x)
         | ((first | have y : Queue := x | have y : Fixer := x); clear y; unfold x; clear x)
         | clear_value x)
    | split)

theorem State.kept_primed {s0 s : State}  (h : KeptBy s0 s) : KeptBy s0 (State.primed s) := by
  unfold State.primed
  repeat' (first
    | with_reducible assumption
    | with_reducible apply kept_ite
    | (extract_lets +onlyGivenNames x
       first
         | (refine kept_cut (s0 := s0) (x := x) ?_ (fun _ => ?_); (focus unfold x); on_goal 2 => clear_value x)
         | ((first | have y : Queue := x | have y : Fixer := x); clear y; unfold x; clear x)
         | clear_value x)
    | split)

theorem State.kept_phaseDone {s0 s : State}  (h : KeptBy s0 s) : KeptBy s0 (State.phaseDone s) := by
  unfold State.phaseDone
  repeat' (first
    | with_reducible assumption
    | with_reducible apply State.kept_setFlag
    | with_reducible apply State.kept_raise
    | with_reducible apply kept_ite
    | (extract_lets +onlyGivenNames x
       first
         | (refine kept_cut (s0 := s0) (x := x) ?_ (fun _ => ?_); (focus unfold x); on_goal 2 => clear_value x)
         | ((first | have y : Queue := x | have y : Fixer := x); clear y; unfold x; clear x)
         | clear_value x)
    | split)

theorem State.kept_swapStep {s0 s : State}  (h : KeptBy s0 s) : KeptBy s0 (State.swapStep s) := by
  unfold State.swapStep
  repeat' (first
    | with_reducible assumption
    | with_reducible apply State.kept_applySwap
    | with_reducible apply kept_ite
    | (extract_lets +onlyGivenNames x
       first
         | (refine kept_cut (s0 := s0) (x := x) ?_ (fun _ => ?_); (focus unfold x); on_goal 2 => clear_value x)
         | ((first | have y : Queue := x | have y : Fixer := x); clear y; unfold x; clear x)
         | clear_value x)
    | split)

theorem State.kept_beamFade {s0 s : State} (a1 : Nat) (h : KeptBy s0 s) : KeptBy s0 (State.beamFade s a1) := by
  unfold State.beamFade
  repeat' (first
    | with_reducible assumption
    | with_reducible apply State.kept_startFade
    | with_reducible apply kept_ite
    | split)

theorem State.kept_beamFaded {s0 s : State} (a1 : Nat) (h : KeptBy s0 s) : KeptBy s0 (State.beamFaded s a1) := by
  unfold State.beamFaded
  repeat' (first
    | with_reducible assumption
    | with_reducible apply State.kept_endFade
    | with_reducible apply kept_ite
    | (extract_lets +onlyGivenNames x
       first
         | (refine kept_cut (s0 := s0) (x := x) ?_ (fun _ => ?_); (focus unfold x); on_goal 2 => clear_value x)
         | ((first | have y : Queue := x | have y : Fixer := x); clear y; unfold x; clear x)
         | clear_value x)
    | split)

theorem State.kept_scaleStep {s0 s : State}  (h : KeptBy s0 s) : KeptBy s0 (State.scaleStep s) := by
  unfold State.scaleStep
  repeat' (first
    | with_reducible assumption
    | with_reducible apply State.kept_applyScale
    | with_reducible apply kept_ite
    | (extract_lets +onlyGivenNames x
       first
         | (refine kept_cut (s0 := s0) (x := x) ?_ (fun _ => ?_); (focus unfold x); on_goal 2 => clear_value x)
         | ((first | have y : Queue := x | have y : Fixer := x); clear y; unfold x; clear x)
         | clear_value x)
    | split)

theorem State.kept_planStep {s0 s : State}  (h : KeptBy s0 s) : KeptBy s0 (State.planStep s) := by
  unfold State.planStep
  repeat' (first
    | with_reducible assumption
    | with_reducible apply State.kept_mxSwitch
    | with_reducible apply kept_ite
    | split)

theorem State.kept_shortStep {s0 s : State} (a1 : Nat) (h : KeptBy s0 s) : KeptBy s0 (State.shortStep s a1) := by
  unfold State.shortStep
  repeat' (first
    | with_reducible assumption
    | with_reducible apply State.kept_biasShort
    | with_reducible apply kept_ite
    | split)

end Sys2Proof.Machine
end

