-- ==== Sys2Proof/Laws/KeptWatchCmds.lean ====
section
/-! SUPPORT. Every operation of Machine/WatchCmds.lean keeps what `Kept` says. -/

set_option linter.unusedTactic false
set_option linter.unreachableTactic false
set_option linter.tactic.unusedName false

namespace Sys2Proof.Machine

theorem State.kept_prerollStep {s0 s : State}  (h : KeptBy s0 s) : KeptBy s0 (State.prerollStep s) := by
  unfold State.prerollStep
  repeat' (first
    | with_reducible assumption
    | with_reducible apply State.kept_updateDrain
    | with_reducible apply State.kept_fillPreroll
    | with_reducible apply kept_ite
    | split)

theorem State.kept_loupeShut {s0 s : State}  (h : KeptBy s0 s) : KeptBy s0 (State.loupeShut s) := by
  unfold State.loupeShut
  repeat' (first
    | with_reducible assumption
    | with_reducible apply State.kept_setTankWords
    | with_reducible apply kept_ite
    | (extract_lets +onlyGivenNames x
       first
         | (refine kept_cut (s0 := s0) (x := x) ?_ (fun _ => ?_); (focus unfold x); on_goal 2 => clear_value x)
         | ((first | have y : Queue := x | have y : Fixer := x); clear y; unfold x; clear x)
         | clear_value x)
    | split)

theorem State.kept_blockStep {s0 s : State} (a1 : DevIn) (h : KeptBy s0 s) : KeptBy s0 (State.blockStep s a1) := by
  unfold State.blockStep
  repeat' (first
    | with_reducible assumption
    | with_reducible apply State.kept_devBlock
    | with_reducible apply kept_ite
    | split)

theorem State.kept_tripStep {s0 s : State} (a1 : Nat) (h : KeptBy s0 s) : KeptBy s0 (State.tripStep s a1) := by
  unfold State.tripStep
  repeat' (first
    | with_reducible assumption
    | with_reducible apply State.kept_tjTrip
    | with_reducible apply kept_ite
    | split)

theorem State.kept_expiryStep {s0 s : State}  (h : KeptBy s0 s) : KeptBy s0 (State.expiryStep s) := by
  unfold State.expiryStep
  repeat' (first
    | with_reducible assumption
    | with_reducible apply State.kept_watchdog
    | with_reducible apply kept_ite
    | split)

end Sys2Proof.Machine
end

