-- ==== Sys2Proof/Laws/KeptPrintCmds.lean ====
section
/-! SUPPORT. Every operation of Machine/PrintCmds.lean keeps what `Kept` says. -/

set_option linter.unusedTactic false
set_option linter.unreachableTactic false
set_option linter.tactic.unusedName false

namespace Sys2Proof.Machine

theorem State.kept_measureStep {s0 s : State} (a1 : Nat) (a2 : Nat) (h : KeptBy s0 s) : KeptBy s0 (State.measureStep s a1 a2) := by
  unfold State.measureStep
  repeat' (first
    | with_reducible assumption
    | with_reducible apply State.kept_measured
    | with_reducible apply kept_ite
    | split)

theorem State.kept_instantStep {s0 s : State} (a1 : Nat) (a2 : ReadIn) (h : KeptBy s0 s) : KeptBy s0 (State.instantStep s a1 a2) := by
  unfold State.instantStep
  repeat' (first
    | with_reducible assumption
    | with_reducible apply State.kept_readInstant
    | with_reducible apply kept_ite
    | split)

theorem State.kept_lostStep {s0 s : State} (a1 : Nat) (h : KeptBy s0 s) : KeptBy s0 (State.lostStep s a1) := by
  unfold State.lostStep
  repeat' (first
    | with_reducible assumption
    | with_reducible apply State.kept_stageFault
    | with_reducible apply kept_ite
    | split)

theorem State.kept_thermalStep {s0 s : State} (a1 : Nat) (h : KeptBy s0 s) : KeptBy s0 (State.thermalStep s a1) := by
  unfold State.thermalStep
  repeat' (first
    | with_reducible assumption
    | with_reducible apply State.kept_stageFault
    | with_reducible apply kept_ite
    | split)

end Sys2Proof.Machine
end

