-- ==== Sys2Proof/Laws/KeptTankCmds.lean ====
section
/-! SUPPORT. Every operation of Machine/TankCmds.lean keeps what `Kept` says. -/

set_option linter.unusedTactic false
set_option linter.unreachableTactic false
set_option linter.tactic.unusedName false

namespace Sys2Proof.Machine

theorem State.kept_tamperOn {s0 s : State}  (h : KeptBy s0 s) : KeptBy s0 (State.tamperOn s) := by
  unfold State.tamperOn
  repeat' (first
    | with_reducible assumption
    | (extract_lets +onlyGivenNames x
       first
         | (refine kept_cut (s0 := s0) (x := x) ?_ (fun _ => ?_); (focus unfold x); on_goal 2 => clear_value x)
         | ((first | have y : Queue := x | have y : Fixer := x); clear y; unfold x; clear x)
         | clear_value x))

theorem State.kept_tamperEdge {s0 s : State}  (h : KeptBy s0 s) : KeptBy s0 (State.tamperEdge s) := by
  unfold State.tamperEdge
  repeat' (first
    | with_reducible assumption
    | with_reducible apply State.kept_setFlag
    | with_reducible apply State.kept_raise
    | with_reducible apply State.kept_makeWipe
    | with_reducible apply kept_ite
    | (extract_lets +onlyGivenNames x
       first
         | (refine kept_cut (s0 := s0) (x := x) ?_ (fun _ => ?_); (focus unfold x); on_goal 2 => clear_value x)
         | ((first | have y : Queue := x | have y : Fixer := x); clear y; unfold x; clear x)
         | clear_value x)
    | split)

theorem State.kept_wipeEnd {s0 s : State} (a1 : Option Nat) (h : KeptBy s0 s) : KeptBy s0 (State.wipeEnd s a1) := by
  unfold State.wipeEnd
  repeat' (first
    | with_reducible assumption
    | with_reducible apply State.kept_endWipe
    | with_reducible apply State.kept_afterWipe
    | with_reducible apply kept_ite
    | split)

theorem State.kept_fogMove {s0 s : State} (a1 : FogIn) (h : KeptBy s0 s) : KeptBy s0 (State.fogMove s a1) := by
  unfold State.fogMove
  repeat' (first
    | with_reducible assumption
    | with_reducible apply State.kept_fogStep
    | with_reducible apply kept_ite
    | split)

theorem State.kept_fogHeld {s0 s : State}  (h : KeptBy s0 s) : KeptBy s0 (State.fogHeld s) := by
  unfold State.fogHeld
  repeat' (first
    | with_reducible assumption
    | with_reducible apply State.kept_fogAbort
    | with_reducible apply kept_ite
    | split)

theorem State.kept_fogCut {s0 s : State}  (h : KeptBy s0 s) : KeptBy s0 (State.fogCut s) := by
  unfold State.fogCut
  repeat' (first
    | with_reducible assumption
    | with_reducible apply State.kept_fogAbort
    | with_reducible apply kept_ite
    | split)

theorem State.kept_faultExpiry {s0 s : State}  (h : KeptBy s0 s) : KeptBy s0 (State.faultExpiry s) := by
  unfold State.faultExpiry
  repeat' (first
    | with_reducible assumption
    | with_reducible apply State.kept_watchdog
    | with_reducible apply kept_ite
    | split)

theorem State.kept_accessStep {s0 s : State} (a1 : List TankReq) (h : KeptBy s0 s) : KeptBy s0 (State.accessStep s a1) := by
  unfold State.accessStep
  repeat' (first
    | with_reducible assumption
    | with_reducible apply State.kept_tankCycle
    | with_reducible apply State.kept_faultExpiry
    | with_reducible apply kept_ite
    | split)

end Sys2Proof.Machine
end

