-- ==== Sys2Proof/Laws/KeptRaceCmds.lean ====
section
/-! SUPPORT. Every operation of Machine/RaceCmds.lean keeps what `Kept` says. -/

set_option linter.unusedTactic false
set_option linter.unreachableTactic false
set_option linter.tactic.unusedName false

namespace Sys2Proof.Machine

theorem State.kept_hardware {s0 s : State} (b : Beside) (h : KeptBy s0 s) : KeptBy s0 (State.hardware s b) := by
  cases b
  all_goals
    dsimp only [State.hardware]
    first
    | with_reducible apply State.kept_frameStart
    | with_reducible apply State.kept_headerEnd
    | with_reducible apply State.kept_sideDown
    | with_reducible apply State.kept_showDecision
    | with_reducible apply State.kept_rateBoundary
    | with_reducible apply State.kept_hqBoundary
    | with_reducible apply State.kept_lpBoundary
    | with_reducible apply State.kept_blockStep
    | with_reducible apply State.kept_shortStep
    | with_reducible apply State.kept_instantStep
    | with_reducible apply State.kept_lostStep
    | with_reducible apply State.kept_thermalStep
    | with_reducible apply State.kept_tripStep
    | with_reducible apply State.kept_expiryStep
    | with_reducible apply State.kept_fogMove
    | with_reducible apply State.kept_accessStep
    | with_reducible apply State.kept_logWrite
    exact h

theorem State.kept_besideStep {s0 s : State} (b : Option Beside) (h : KeptBy s0 s) : KeptBy s0 (State.besideStep s b) := by
  cases b with
  | none => exact h
  | some b => exact State.kept_hardware b h

theorem State.kept_cycleWrite {s0 s : State} (a1 : Src) (a2 : Nat) (a3 : Word) (a4 : Option Beside) (h : KeptBy s0 s) : KeptBy s0 (State.cycleWrite s a1 a2 a3 a4) := by
  unfold State.cycleWrite
  repeat' (first
    | with_reducible assumption
    | with_reducible apply State.kept_accessWrite
    | with_reducible apply State.kept_besideStep
    | with_reducible apply kept_ite
    | split)

theorem State.kept_registerWrite {s0 s : State} (a1 : Src) (a2 : Nat) (a3 : WriteIn) (h : KeptBy s0 s) : KeptBy s0 (State.registerWrite s a1 a2 a3) := by
  unfold State.registerWrite
  repeat' (first
    | with_reducible assumption
    | with_reducible apply State.kept_cycleWrite
    | with_reducible apply State.kept_besideStep
    | with_reducible apply State.kept_endCycle
    | with_reducible apply State.kept_accessWrite
    | with_reducible apply kept_ite
    | (extract_lets +onlyGivenNames x
       first
         | (refine kept_cut (s0 := s0) (x := x) ?_ (fun _ => ?_); (focus unfold x); on_goal 2 => clear_value x)
         | ((first | have y : Queue := x | have y : Fixer := x); clear y; unfold x; clear x)
         | clear_value x)
    | split)

end Sys2Proof.Machine
end

