-- ==== Sys2Proof/Laws/DoesPowerCmds.lean ====
section
/-! SUPPORT. What every command of Machine/PowerCmds.lean does at most: it answers a next state, the parts and registers it can change,
and what no command breaks. -/

set_option linter.unusedTactic false
set_option linter.unreachableTactic false

namespace Sys2Proof.Machine

theorem execPorRelease_does (s : State) : ∃ t, execPorRelease s = .next t ∧ Confined s [.sset, .bumped, .caused, .clk, .link, .fixer, .bank] ((· ∈ [Reg.FIXER_FIXER_STATUS, Reg.FIXER_LOG_DROPS])) t ∧ KeptBy s t ∧ t.between := by
  unfold execPorRelease
  refine ⟨_, rfl, ?_, ?_, State.endCycle_between _⟩
  · repeat' (first | with_reducible exact conf_refl _ _ _ | with_reducible assumption | decide | exact fun _ _ => trivial | exact fun _ => trivial | exact trivial | with_reducible apply State.conf_porRelease | with_reducible apply State.conf_endCycle | with_reducible apply conf_ite | split)
  · repeat' (first | with_reducible exact kept_refl _ | with_reducible assumption | with_reducible apply State.kept_porRelease | with_reducible apply State.kept_endCycle | with_reducible apply kept_ite | split)

theorem execPowerLoss_does (s : State) : ∃ t, execPowerLoss s = .next t ∧ Confined s [.sset, .bumped, .caused, .clk, .ident, .sideA, .sideB, .link, .outA, .outB, .frame, .queue, .port, .fixer, .front, .decim, .aper, .mx, .dev, .sheet, .latent, .print, .stage, .bank, .mode, .loupe, .mem] (fun _ => True) t ∧ KeptBy s t ∧ t.between := by
  unfold execPowerLoss
  refine ⟨_, rfl, ?_, ?_, State.endCycle_between _⟩
  · repeat' (first | with_reducible exact conf_refl _ _ _ | with_reducible assumption | decide | exact fun _ _ => trivial | exact fun _ => trivial | exact trivial | with_reducible apply State.conf_endCycle | with_reducible apply State.conf_powerLoss)
  · repeat' (first | with_reducible exact kept_refl _ | with_reducible assumption | with_reducible apply State.kept_endCycle | with_reducible apply State.kept_powerLoss)

theorem execStrapReadDone_does (a0 : StrapSample) (a1 : StrapSample) (a2 : StrapSample) (a3 : ForeSample) (s : State) : ∃ t, execStrapReadDone a0 a1 a2 a3 s = .next t ∧ Confined s [.sset, .bumped, .caused, .ident, .queue, .port, .fixer, .front, .decim, .aper, .mx, .dev, .sheet, .latent, .print, .stage, .bank, .mode, .loupe, .mem] (fun _ => True) t ∧ KeptBy s t ∧ t.between := by
  unfold execStrapReadDone
  refine ⟨_, rfl, ?_, ?_, State.endCycle_between _⟩
  · repeat' (first | with_reducible exact conf_refl _ _ _ | with_reducible assumption | decide | exact fun _ _ => trivial | exact fun _ => trivial | exact trivial | with_reducible apply State.conf_strapDone | with_reducible apply State.conf_endCycle | with_reducible apply conf_ite | split)
  · repeat' (first | with_reducible exact kept_refl _ | with_reducible assumption | with_reducible apply State.kept_strapDone | with_reducible apply State.kept_endCycle | with_reducible apply kept_ite | split)

theorem execHoldRise_does (s : State) : ∃ t, execHoldRise s = .next t ∧ Confined s [.sset, .bumped, .caused, .clk, .ident, .sideA, .sideB, .link, .outA, .outB, .frame, .queue, .port, .fixer, .front, .decim, .aper, .mx, .dev, .sheet, .latent, .print, .stage, .bank, .mode, .loupe, .mem] (fun _ => True) t ∧ KeptBy s t ∧ t.between := by
  unfold execHoldRise
  refine ⟨_, rfl, ?_, ?_, State.endCycle_between _⟩
  · repeat' (first | with_reducible exact conf_refl _ _ _ | with_reducible assumption | decide | exact fun _ _ => trivial | exact fun _ => trivial | exact trivial | with_reducible apply State.conf_endCycle | with_reducible apply State.conf_holdRise)
  · repeat' (first | with_reducible exact kept_refl _ | with_reducible assumption | with_reducible apply State.kept_endCycle | with_reducible apply State.kept_holdRise)

theorem execHoldFall_does (s : State) : ∃ t, execHoldFall s = .next t ∧ Confined s [.sset, .bumped, .caused, .clk, .fixer, .mode] ((· ∈ [Reg.FIXER_FIXER_STATUS, Reg.FIXER_LOG_DROPS])) t ∧ KeptBy s t ∧ t.between := by
  unfold execHoldFall
  refine ⟨_, rfl, ?_, ?_, State.endCycle_between _⟩
  · repeat' (first | with_reducible exact conf_refl _ _ _ | with_reducible assumption | decide | exact fun _ _ => trivial | exact fun _ => trivial | exact trivial | with_reducible apply State.conf_endCycle | with_reducible apply State.conf_holdFall)
  · repeat' (first | with_reducible exact kept_refl _ | with_reducible assumption | with_reducible apply State.kept_endCycle | with_reducible apply State.kept_holdFall)

theorem execClockStop_does (s : State) : ∃ t, execClockStop s = .next t ∧ Confined s [.sset, .bumped, .caused, .clk, .fixer, .stage] ((· ∈ [Reg.FIXER_FIXER_STATUS, Reg.FIXER_LOG_DROPS])) t ∧ KeptBy s t ∧ t.between := by
  unfold execClockStop
  refine ⟨_, rfl, ?_, ?_, State.endCycle_between _⟩
  · repeat' (first | with_reducible exact conf_refl _ _ _ | with_reducible assumption | decide | exact fun _ _ => trivial | exact fun _ => trivial | exact trivial | with_reducible apply State.conf_endCycle | with_reducible apply State.conf_clockStop)
  · repeat' (first | with_reducible exact kept_refl _ | with_reducible assumption | with_reducible apply State.kept_endCycle | with_reducible apply State.kept_clockStop)

theorem execEdgeLoss_does (s : State) : ∃ t, execEdgeLoss s = .next t ∧ Confined s [.sset, .bumped, .caused, .clk, .fixer, .print, .stage] ((· ∈ [Reg.CHIP_CLK_STATUS, Reg.FIXER_FIXER_STATUS, Reg.FIXER_LOG_DROPS, Reg.PRINT_PROOF_CTL_A, Reg.PRINT_PROOF_CTL_B])) t ∧ KeptBy s t ∧ t.between := by
  unfold execEdgeLoss
  refine ⟨_, rfl, ?_, ?_, State.endCycle_between _⟩
  · repeat' (first | with_reducible exact conf_refl _ _ _ | with_reducible assumption | decide | exact fun _ _ => trivial | exact fun _ => trivial | exact trivial | with_reducible apply State.conf_edgeLoss | with_reducible apply State.conf_endCycle | with_reducible apply conf_ite | split)
  · repeat' (first | with_reducible exact kept_refl _ | with_reducible assumption | with_reducible apply State.kept_edgeLoss | with_reducible apply State.kept_endCycle | with_reducible apply kept_ite | split)

theorem execClockInputLost_does (a0 : LossIn) (s : State) : ∃ t, execClockInputLost a0 s = .next t ∧ Confined s [.sset, .bumped, .caused, .clk, .sideA, .sideB, .outA, .outB, .fixer] ((· ∈ [Reg.CHIP_CLK_STATUS, Reg.FIXER_FIXER_STATUS, Reg.FIXER_LOG_DROPS])) t ∧ KeptBy s t ∧ t.between := by
  unfold execClockInputLost
  refine ⟨_, rfl, ?_, ?_, State.endCycle_between _⟩
  · repeat' (first | with_reducible exact conf_refl _ _ _ | with_reducible assumption | decide | exact fun _ _ => trivial | exact fun _ => trivial | exact trivial | with_reducible apply State.conf_clockLost | with_reducible apply State.conf_endCycle | with_reducible apply conf_ite | split)
  · repeat' (first | with_reducible exact kept_refl _ | with_reducible assumption | with_reducible apply State.kept_clockLost | with_reducible apply State.kept_endCycle | with_reducible apply kept_ite | split)

theorem execClockInputReturn_does (a0 : Side) (s : State) : ∃ t, execClockInputReturn a0 s = .next t ∧ Confined s [.sset, .bumped, .caused, .clk, .sideA, .sideB, .fixer, .front, .latent] ((· ∈ [Reg.FIXER_FIXER_STATUS, Reg.FIXER_LOG_DROPS])) t ∧ KeptBy s t ∧ t.between := by
  unfold execClockInputReturn
  refine ⟨_, rfl, ?_, ?_, State.endCycle_between _⟩
  · repeat' (first | with_reducible exact conf_refl _ _ _ | with_reducible assumption | decide | exact fun _ _ => trivial | exact fun _ => trivial | exact trivial | with_reducible apply State.conf_inputReturn | with_reducible apply State.conf_endCycle)
  · repeat' (first | with_reducible exact kept_refl _ | with_reducible assumption | with_reducible apply State.kept_inputReturn | with_reducible apply State.kept_endCycle)

theorem execRateBoundary_does (s : State) : ∃ t, execRateBoundary s = .next t ∧ Confined s [.sset, .bumped, .caused, .clk, .link, .outA, .outB, .frame, .queue, .fixer, .front, .decim, .aper, .mx, .dev, .sheet, .latent, .print, .stage, .bank, .mode, .loupe, .mem] ((· ∈ [Reg.APER_APER_STATUS, Reg.APER_COMMIT_COUNT, Reg.CHIP_MODE_CHANGES, Reg.CHIP_MODE_REQ_A, Reg.CHIP_MODE_REQ_B, Reg.CHIP_MODE_STATUS, Reg.DECIM_DECIM_STATUS, Reg.DECIM_SWAP_COUNT, Reg.DEV_WAKE_COUNT, Reg.DEV_WAKE_STATUS, Reg.FIXER_FIXER_STATUS, Reg.FIXER_LASTING_COUNT, Reg.FIXER_LOG_DROPS, Reg.LATENT_LAT_STATUS, Reg.LATENT_REC_COUNT, Reg.LOUPE_PATCH_INFO, Reg.LOUPE_SUPPLY_0, Reg.LOUPE_SUPPLY_1, Reg.LOUPE_SUPPLY_2, Reg.LOUPE_TEMP_01, Reg.LOUPE_TEMP_23, Reg.MX_MX_STATUS, Reg.PRINT_MASTER_A, Reg.PRINT_MASTER_B, Reg.PRINT_PROOF_CTL_A, Reg.PRINT_PROOF_CTL_B, Reg.SHEET_ABANDON_COUNT, Reg.SHEET_MATCH_COUNT, Reg.SHEET_SHEET_STATUS, Reg.TANK_CE_ADDR, Reg.TANK_CE_COUNT, Reg.TANK_FOG_PASSES, Reg.TANK_FOG_SKIPS, Reg.TANK_TANK_STATUS, Reg.TANK_UE_ADDR, Reg.TANK_UE_COUNT])) t ∧ KeptBy s t ∧ t.between := by
  unfold execRateBoundary
  refine ⟨_, rfl, ?_, ?_, State.endCycle_between _⟩
  · repeat' (first | with_reducible exact conf_refl _ _ _ | with_reducible assumption | decide | exact fun _ _ => trivial | exact fun _ => trivial | exact trivial | with_reducible apply State.conf_endCycle | with_reducible apply State.conf_rateBoundary)
  · repeat' (first | with_reducible exact kept_refl _ | with_reducible assumption | with_reducible apply State.kept_endCycle | with_reducible apply State.kept_rateBoundary)

theorem execTrainingCentre_does (s : State) : ∃ t, execTrainingCentre s = .next t ∧ Confined s [.sset, .bumped, .caused, .sideA, .sideB, .link, .frame, .fixer] ((· ∈ [Reg.FIXER_FIXER_STATUS, Reg.FIXER_LOG_DROPS, Reg.FRAME_FRAME_STATUS, Reg.LINK_LINK_STATUS])) t ∧ KeptBy s t ∧ t.between := by
  unfold execTrainingCentre
  refine ⟨_, rfl, ?_, ?_, State.endCycle_between _⟩
  · repeat' (first | with_reducible exact conf_refl _ _ _ | with_reducible assumption | decide | exact fun _ _ => trivial | exact fun _ => trivial | exact trivial | with_reducible apply State.conf_endCycle | with_reducible apply State.conf_trainingCentre)
  · repeat' (first | with_reducible exact kept_refl _ | with_reducible assumption | with_reducible apply State.kept_endCycle | with_reducible apply State.kept_trainingCentre)

theorem execTrainingEnd_does (s : State) : ∃ t, execTrainingEnd s = .next t ∧ Confined s [.sset, .bumped, .caused, .sideA, .sideB, .link, .outA, .outB, .frame, .fixer] ((· ∈ [Reg.FIXER_FIXER_STATUS, Reg.FIXER_LOG_DROPS, Reg.FRAME_FRAME_STATUS, Reg.LINK_LINK_STATUS])) t ∧ KeptBy s t ∧ t.between := by
  unfold execTrainingEnd
  refine ⟨_, rfl, ?_, ?_, State.endCycle_between _⟩
  · repeat' (first | with_reducible exact conf_refl _ _ _ | with_reducible assumption | decide | exact fun _ _ => trivial | exact fun _ => trivial | exact trivial | with_reducible apply State.conf_endCycle | with_reducible apply State.conf_trainingEnd)
  · repeat' (first | with_reducible exact kept_refl _ | with_reducible assumption | with_reducible apply State.kept_endCycle | with_reducible apply State.kept_trainingEnd)

theorem execDomainSwitchOnStep_does (s : State) : ∃ t, execDomainSwitchOnStep s = .next t ∧ Confined s [.sset, .bumped, .caused, .fixer, .mode] ((· ∈ [Reg.FIXER_FIXER_STATUS, Reg.FIXER_LOG_DROPS])) t ∧ KeptBy s t ∧ t.between := by
  unfold execDomainSwitchOnStep
  refine ⟨_, rfl, ?_, ?_, State.endCycle_between _⟩
  · repeat' (first | with_reducible exact conf_refl _ _ _ | with_reducible assumption | decide | exact fun _ _ => trivial | exact fun _ => trivial | exact trivial | with_reducible apply State.conf_endCycle | with_reducible apply State.conf_domainStep)
  · repeat' (first | with_reducible exact kept_refl _ | with_reducible assumption | with_reducible apply State.kept_endCycle | with_reducible apply State.kept_domainStep)

theorem execDomainPowerGood_does (a0 : Nat) (s : State) : ∃ t, execDomainPowerGood a0 s = .next t ∧ Confined s [.sset, .bumped, .caused, .fixer, .front, .decim, .aper, .mode, .loupe] ((· ∈ [Reg.APER_COMMIT_COUNT, Reg.FIXER_FIXER_STATUS, Reg.FIXER_LOG_DROPS, Reg.LOUPE_SUPPLY_0, Reg.LOUPE_SUPPLY_1, Reg.LOUPE_SUPPLY_2, Reg.LOUPE_TEMP_01, Reg.LOUPE_TEMP_23])) t ∧ KeptBy s t ∧ t.between := by
  unfold execDomainPowerGood
  refine ⟨_, rfl, ?_, ?_, State.endCycle_between _⟩
  · repeat' (first | with_reducible exact conf_refl _ _ _ | with_reducible assumption | decide | exact fun _ _ => trivial | exact fun _ => trivial | exact trivial | with_reducible apply State.conf_domainGood | with_reducible apply State.conf_endCycle)
  · repeat' (first | with_reducible exact kept_refl _ | with_reducible assumption | with_reducible apply State.kept_domainGood | with_reducible apply State.kept_endCycle)

theorem execSettleEnd_does (s : State) : ∃ t, execSettleEnd s = .next t ∧ Confined s [.sset, .bumped, .caused, .clk, .fixer, .mx] ((· ∈ [Reg.FIXER_FIXER_STATUS, Reg.FIXER_LOG_DROPS])) t ∧ KeptBy s t ∧ t.between := by
  unfold execSettleEnd
  refine ⟨_, rfl, ?_, ?_, State.endCycle_between _⟩
  · repeat' (first | with_reducible exact conf_refl _ _ _ | with_reducible assumption | decide | exact fun _ _ => trivial | exact fun _ => trivial | exact trivial | with_reducible apply State.conf_endCycle | with_reducible apply State.conf_settleEnd)
  · repeat' (first | with_reducible exact kept_refl _ | with_reducible assumption | with_reducible apply State.kept_endCycle | with_reducible apply State.kept_settleEnd)

theorem execVbiasLow_does (s : State) : ∃ t, execVbiasLow s = .next t ∧ Confined s [.sset, .bumped, .caused, .fixer, .front] ((· ∈ [Reg.FIXER_FIXER_STATUS, Reg.FIXER_LOG_DROPS])) t ∧ KeptBy s t ∧ t.between := by
  unfold execVbiasLow
  refine ⟨_, rfl, ?_, ?_, State.endCycle_between _⟩
  · repeat' (first | with_reducible exact conf_refl _ _ _ | with_reducible assumption | decide | exact fun _ _ => trivial | exact fun _ => trivial | exact trivial | with_reducible apply State.conf_endCycle | with_reducible apply State.conf_vbiasFall)
  · repeat' (first | with_reducible exact kept_refl _ | with_reducible assumption | with_reducible apply State.kept_endCycle | with_reducible apply State.kept_vbiasFall)

theorem execVbiasRise_does (s : State) : ∃ t, execVbiasRise s = .next t ∧ Confined s [.sset, .bumped, .caused, .fixer, .front] ((· ∈ [Reg.FIXER_FIXER_STATUS, Reg.FIXER_LOG_DROPS])) t ∧ KeptBy s t ∧ t.between := by
  unfold execVbiasRise
  refine ⟨_, rfl, ?_, ?_, State.endCycle_between _⟩
  · repeat' (first | with_reducible exact conf_refl _ _ _ | with_reducible assumption | decide | exact fun _ _ => trivial | exact fun _ => trivial | exact trivial | with_reducible apply State.conf_endCycle | with_reducible apply State.conf_vbiasRise)
  · repeat' (first | with_reducible exact kept_refl _ | with_reducible assumption | with_reducible apply State.kept_endCycle | with_reducible apply State.kept_vbiasRise)

theorem execWithholdEnd_does (s : State) : ∃ t, execWithholdEnd s = .next t ∧ Confined s [.sset, .bumped, .caused, .fixer, .aper] ((· ∈ [Reg.FIXER_FIXER_STATUS, Reg.FIXER_LOG_DROPS])) t ∧ KeptBy s t ∧ t.between := by
  unfold execWithholdEnd
  refine ⟨_, rfl, ?_, ?_, State.endCycle_between _⟩
  · repeat' (first | with_reducible exact conf_refl _ _ _ | with_reducible assumption | decide | exact fun _ _ => trivial | exact fun _ => trivial | exact trivial | with_reducible apply State.conf_endCycle | with_reducible apply State.conf_withholdEnd)
  · repeat' (first | with_reducible exact kept_refl _ | with_reducible assumption | with_reducible apply State.kept_endCycle | with_reducible apply State.kept_withholdEnd)

end Sys2Proof.Machine
end

