-- ==== Sys2Proof/Laws/DoesLinkCmds.lean ====
section
/-! SUPPORT. What every command of Machine/LinkCmds.lean does at most: it answers a next state, the parts and registers it can change,
and what no command breaks. -/

set_option linter.unusedTactic false
set_option linter.unreachableTactic false

namespace Sys2Proof.Machine

theorem execSideDown_does (a0 : Side) (a1 : Bool) (s : State) : ∃ t, execSideDown a0 a1 s = .next t ∧ Confined s [.sset, .bumped, .caused, .sideA, .sideB, .link, .frame, .fixer] ((· ∈ [Reg.FIXER_FIXER_STATUS, Reg.FIXER_LASTING_COUNT, Reg.FIXER_LOG_DROPS, Reg.FRAME_FRAME_STATUS, Reg.LINK_LINK_STATUS])) t ∧ KeptBy s t ∧ t.between := by
  unfold execSideDown
  refine ⟨_, rfl, ?_, ?_, State.endCycle_between _⟩
  · repeat' (first | with_reducible exact conf_refl _ _ _ | with_reducible assumption | decide | exact fun _ _ => trivial | exact fun _ => trivial | exact trivial | with_reducible apply State.conf_sideDown | with_reducible apply State.conf_endCycle)
  · repeat' (first | with_reducible exact kept_refl _ | with_reducible assumption | with_reducible apply State.kept_sideDown | with_reducible apply State.kept_endCycle)

theorem execWrap_does (s : State) : ∃ t, execWrap s = .next t ∧ Confined s [.sset, .bumped, .caused, .link, .fixer] ((· ∈ [Reg.FIXER_FIXER_STATUS, Reg.FIXER_LOG_DROPS, Reg.LINK_LINK_STATUS, Reg.LINK_WRAP_COUNT])) t ∧ KeptBy s t ∧ t.between := by
  unfold execWrap
  refine ⟨_, rfl, ?_, ?_, State.endCycle_between _⟩
  · repeat' (first | with_reducible exact conf_refl _ _ _ | with_reducible assumption | decide | exact fun _ _ => trivial | exact fun _ => trivial | exact trivial | with_reducible apply State.conf_endCycle | with_reducible apply State.conf_wrapStep)
  · repeat' (first | with_reducible exact kept_refl _ | with_reducible assumption | with_reducible apply State.kept_endCycle | with_reducible apply State.kept_wrapStep)

theorem execUnwrap_does (s : State) : ∃ t, execUnwrap s = .next t ∧ Confined s [.sset, .bumped, .caused, .sideA, .sideB, .link, .fixer] ((· ∈ [Reg.FIXER_FIXER_STATUS, Reg.FIXER_LOG_DROPS, Reg.LINK_LINK_STATUS])) t ∧ KeptBy s t ∧ t.between := by
  unfold execUnwrap
  refine ⟨_, rfl, ?_, ?_, State.endCycle_between _⟩
  · repeat' (first | with_reducible exact conf_refl _ _ _ | with_reducible assumption | decide | exact fun _ _ => trivial | exact fun _ => trivial | exact trivial | with_reducible apply State.conf_endCycle | with_reducible apply State.conf_unwrapStep)
  · repeat' (first | with_reducible exact kept_refl _ | with_reducible assumption | with_reducible apply State.kept_endCycle | with_reducible apply State.kept_unwrapStep)

theorem execDelayTrack_does (a0 : List LaneMove) (s : State) : ∃ t, execDelayTrack a0 s = .next t ∧ Confined s [.sset, .bumped, .caused, .sideA, .sideB, .fixer] ((· ∈ [Reg.FIXER_FIXER_STATUS, Reg.FIXER_LOG_DROPS, Reg.LINK_LINK_STATUS])) t ∧ KeptBy s t ∧ t.between := by
  unfold execDelayTrack
  refine ⟨_, rfl, ?_, ?_, State.endCycle_between _⟩
  · repeat' (first | with_reducible exact conf_refl _ _ _ | with_reducible assumption | decide | exact fun _ _ => trivial | exact fun _ => trivial | exact trivial | with_reducible apply State.conf_trackLanes | with_reducible apply State.conf_endCycle)
  · repeat' (first | with_reducible exact kept_refl _ | with_reducible assumption | with_reducible apply State.kept_trackLanes | with_reducible apply State.kept_endCycle)

theorem execTick_does (a0 : TickIn) (s : State) : ∃ t, execTick a0 s = .next t ∧ Confined s [.sset, .bumped, .caused, .clk, .sideA, .sideB, .link, .fixer, .front, .stage, .loupe] ((· ∈ [Reg.CHIP_CLK_STATUS, Reg.FIXER_FIXER_STATUS, Reg.FIXER_LOG_DROPS, Reg.LOUPE_LOUPE_STATUS, Reg.STAGE_STAGE_STATUS])) t ∧ KeptBy s t ∧ t.between := by
  unfold execTick
  refine ⟨_, rfl, ?_, ?_, State.endCycle_between _⟩
  · repeat' (first | with_reducible exact conf_refl _ _ _ | with_reducible assumption | decide | exact fun _ _ => trivial | exact fun _ => trivial | exact trivial | with_reducible apply State.conf_tick | with_reducible apply State.conf_endCycle)
  · repeat' (first | with_reducible exact kept_refl _ | with_reducible assumption | with_reducible apply State.kept_tick | with_reducible apply State.kept_endCycle)

theorem execFrameStart_does (a0 : Side) (a1 : FrameIn) (s : State) : ∃ t, execFrameStart a0 a1 s = .next t ∧ Confined s [.sset, .bumped, .caused, .clk, .ident, .sideA, .sideB, .link, .outA, .outB, .frame, .queue, .port, .fixer, .front, .decim, .aper, .mx, .dev, .sheet, .latent, .print, .stage, .bank, .mode, .loupe, .mem] (fun _ => True) t ∧ KeptBy s t ∧ t.between := by
  unfold execFrameStart
  refine ⟨_, rfl, ?_, ?_, State.endCycle_between _⟩
  · repeat' (first | with_reducible exact conf_refl _ _ _ | with_reducible assumption | decide | exact fun _ _ => trivial | exact fun _ => trivial | exact trivial | with_reducible apply State.conf_frameStart | with_reducible apply State.conf_endCycle)
  · repeat' (first | with_reducible exact kept_refl _ | with_reducible assumption | with_reducible apply State.kept_frameStart | with_reducible apply State.kept_endCycle)

theorem execHeaderEnd_does (a0 : Side) (a1 : BitVec 416) (a2 : BitVec 24) (s : State) : ∃ t, execHeaderEnd a0 a1 a2 s = .next t ∧ Confined s [.sset, .bumped, .caused, .clk, .ident, .sideA, .sideB, .link, .outA, .outB, .frame, .fixer, .front, .decim, .aper, .mx, .dev, .sheet, .latent, .print, .stage, .bank, .mode, .loupe, .mem] ((· ∈ [Reg.APER_APER_STATUS, Reg.CHIP_CLK_FAULTS, Reg.CHIP_CLK_STATUS, Reg.CHIP_GAP_COUNT, Reg.CHIP_GAP_LAST, Reg.CHIP_ID_STATUS, Reg.CHIP_MODE_STATUS, Reg.FIXER_FIXER_STATUS, Reg.FIXER_LASTING_COUNT, Reg.FIXER_LOG_DROPS, Reg.FRAME_CHECK_ERR_A, Reg.FRAME_CHECK_ERR_B, Reg.FRAME_FRAME_STATUS, Reg.FRAME_VOID_COUNT, Reg.FRONT_FRONT_STATUS, Reg.FRONT_PROOF_CTL_A, Reg.FRONT_PROOF_CTL_B, Reg.LINK_LINK_STATUS, Reg.LOUPE_PATCH_INFO, Reg.LOUPE_SUPPLY_0, Reg.LOUPE_SUPPLY_1, Reg.LOUPE_SUPPLY_2, Reg.LOUPE_TEMP_01, Reg.LOUPE_TEMP_23, Reg.PRINT_MASTER_A, Reg.PRINT_MASTER_B])) t ∧ KeptBy s t ∧ t.between := by
  unfold execHeaderEnd
  refine ⟨_, rfl, ?_, ?_, State.endCycle_between _⟩
  · repeat' (first | with_reducible exact conf_refl _ _ _ | with_reducible assumption | decide | exact fun _ _ => trivial | exact fun _ => trivial | exact trivial | with_reducible apply State.conf_headerEnd | with_reducible apply State.conf_endCycle)
  · repeat' (first | with_reducible exact kept_refl _ | with_reducible assumption | with_reducible apply State.kept_headerEnd | with_reducible apply State.kept_endCycle)

theorem execShowCapture_does (a0 : Side) (a1 : List Sample) (a2 : Word) (s : State) : ∃ t, execShowCapture a0 a1 a2 s = .next t ∧ Confined s [.sset, .bumped, .caused, .sideA, .sideB, .outA, .outB, .fixer] ((· ∈ [Reg.FIXER_FIXER_STATUS, Reg.FIXER_LOG_DROPS, Reg.FRAME_CHECK_ERR_A, Reg.FRAME_CHECK_ERR_B, Reg.FRAME_FRAME_STATUS])) t ∧ KeptBy s t ∧ t.between := by
  unfold execShowCapture
  refine ⟨_, rfl, ?_, ?_, State.endCycle_between _⟩
  · repeat' (first | with_reducible exact conf_refl _ _ _ | with_reducible assumption | decide | exact fun _ _ => trivial | exact fun _ => trivial | exact trivial | with_reducible apply State.conf_fieldOr | with_reducible apply State.conf_captureShow | with_reducible apply State.conf_endCycle | with_reducible apply conf_ite | split)
  · repeat' (first | with_reducible exact kept_refl _ | with_reducible assumption | with_reducible apply State.kept_fieldOr | with_reducible apply State.kept_captureShow | with_reducible apply State.kept_endCycle | with_reducible apply kept_ite | split)

theorem execShowDecision_does (s : State) : ∃ t, execShowDecision s = .next t ∧ Confined s [.sset, .bumped, .caused, .frame, .fixer] ((· ∈ [Reg.FIXER_FIXER_STATUS, Reg.FIXER_LASTING_COUNT, Reg.FIXER_LOG_DROPS, Reg.FRAME_FRAME_STATUS, Reg.FRAME_SHOW_ALT_COUNT, Reg.FRAME_SHOW_MISS_COUNT])) t ∧ KeptBy s t ∧ t.between := by
  unfold execShowDecision
  refine ⟨_, rfl, ?_, ?_, State.endCycle_between _⟩
  · repeat' (first | with_reducible exact conf_refl _ _ _ | with_reducible assumption | decide | exact fun _ _ => trivial | exact fun _ => trivial | exact trivial | with_reducible apply State.conf_endCycle | with_reducible apply State.conf_showDecision)
  · repeat' (first | with_reducible exact kept_refl _ | with_reducible assumption | with_reducible apply State.kept_endCycle | with_reducible apply State.kept_showDecision)

theorem execListenField_does (a0 : Side) (a1 : List Word) (a2 : Word) (s : State) : ∃ t, execListenField a0 a1 a2 s = .next t ∧ Confined s [.sset, .bumped, .caused, .outA, .outB, .fixer, .mx, .bank] ((· ∈ [Reg.FIXER_FIXER_STATUS, Reg.FIXER_LOG_DROPS, Reg.FRAME_CHECK_ERR_A, Reg.FRAME_CHECK_ERR_B, Reg.FRAME_FRAME_STATUS, Reg.MX_CONTRIB_COUNT, Reg.MX_MX_STATUS, Reg.MX_SAT_COUNT, Reg.MX_SKIP_COUNT, Reg.TANK_FOG_PASSES, Reg.TANK_FOG_SKIPS, Reg.TANK_TANK_STATUS])) t ∧ KeptBy s t ∧ t.between := by
  unfold execListenField
  refine ⟨_, rfl, ?_, ?_, State.endCycle_between _⟩
  · repeat' (first | with_reducible exact conf_refl _ _ _ | with_reducible assumption | decide | exact fun _ _ => trivial | exact fun _ => trivial | exact trivial | with_reducible apply State.conf_fieldOr | with_reducible apply State.conf_listenField | with_reducible apply State.conf_endCycle)
  · repeat' (first | with_reducible exact kept_refl _ | with_reducible assumption | with_reducible apply State.kept_fieldOr | with_reducible apply State.kept_listenField | with_reducible apply State.kept_endCycle)

theorem execRegisterField_does (a0 : Side) (a1 : List Word) (a2 : Half) (s : State) : ∃ t, execRegisterField a0 a1 a2 s = .next t ∧ Confined s [.sset, .bumped, .caused, .outA, .outB, .frame, .queue, .fixer, .bank, .mem] ((· ∈ [Reg.FIXER_FIXER_STATUS, Reg.FIXER_LASTING_COUNT, Reg.FIXER_LOG_DROPS, Reg.FRAME_CHECK_ERR_A, Reg.FRAME_CHECK_ERR_B, Reg.FRAME_FRAME_STATUS, Reg.QUEUE_CMD_DROPS, Reg.QUEUE_QUEUE_STATUS, Reg.QUEUE_REPLY_COUNT, Reg.TANK_CE_ADDR, Reg.TANK_CE_COUNT, Reg.TANK_FOG_PASSES, Reg.TANK_FOG_SKIPS, Reg.TANK_TANK_STATUS, Reg.TANK_UE_ADDR, Reg.TANK_UE_COUNT])) t ∧ KeptBy s t ∧ t.between := by
  unfold execRegisterField
  refine ⟨_, rfl, ?_, ?_, State.endCycle_between _⟩
  · repeat' (first | with_reducible exact conf_refl _ _ _ | with_reducible assumption | decide | exact fun _ _ => trivial | exact fun _ => trivial | exact trivial | with_reducible apply State.conf_fieldOr | with_reducible apply State.conf_registerField | with_reducible apply State.conf_endCycle)
  · repeat' (first | with_reducible exact kept_refl _ | with_reducible assumption | with_reducible apply State.kept_fieldOr | with_reducible apply State.kept_registerField | with_reducible apply State.kept_endCycle)

theorem execEventField_does (a0 : Side) (a1 : List Word) (a2 : Half) (s : State) : ∃ t, execEventField a0 a1 a2 s = .next t ∧ Confined s [.sset, .bumped, .caused, .outA, .outB, .queue, .fixer] ((· ∈ [Reg.FIXER_FIXER_STATUS, Reg.FIXER_LOG_DROPS, Reg.FRAME_CHECK_ERR_A, Reg.FRAME_CHECK_ERR_B, Reg.FRAME_FRAME_STATUS, Reg.QUEUE_REPLY_COUNT])) t ∧ KeptBy s t ∧ t.between := by
  unfold execEventField
  refine ⟨_, rfl, ?_, ?_, State.endCycle_between _⟩
  · repeat' (first | with_reducible exact conf_refl _ _ _ | with_reducible assumption | decide | exact fun _ _ => trivial | exact fun _ => trivial | exact trivial | with_reducible apply State.conf_fieldOr | with_reducible apply State.conf_eventField | with_reducible apply State.conf_endCycle)
  · repeat' (first | with_reducible exact kept_refl _ | with_reducible assumption | with_reducible apply State.kept_fieldOr | with_reducible apply State.kept_eventField | with_reducible apply State.kept_endCycle)

end Sys2Proof.Machine
end

