-- ==== Sys2Proof/Laws/DoesPortCmds.lean ====
section
/-! SUPPORT. What every command of Machine/PortCmds.lean does at most: it answers a next state, the parts and registers it can change,
and what no command breaks. -/

set_option linter.unusedTactic false
set_option linter.unreachableTactic false

namespace Sys2Proof.Machine

theorem execRead_does (a0 : ReadBy) (s : State) : ∃ t, execRead a0 s = .next t ∧ Confined s [.sset, .bumped, .caused, .clk, .ident, .sideA, .sideB, .link, .outA, .outB, .frame, .queue, .port, .fixer, .front, .decim, .aper, .mx, .dev, .sheet, .latent, .print, .stage, .bank, .mode, .loupe, .mem, .free] (fun _ => True) t ∧ KeptBy s t ∧ t.between := by
  unfold execRead
  refine ⟨_, rfl, ?_, ?_, State.endCycle_between _⟩
  · repeat' (first | with_reducible exact conf_refl _ _ _ | with_reducible assumption | decide | exact fun _ _ => trivial | exact fun _ => trivial | exact trivial | with_reducible apply State.conf_readStep | with_reducible apply State.conf_endCycle)
  · repeat' (first | with_reducible exact kept_refl _ | with_reducible assumption | with_reducible apply State.kept_readStep | with_reducible apply State.kept_endCycle)

theorem execWrite_does (a0 : Nat) (s : State) : ∃ t, execWrite a0 s = .next t ∧ Confined s [.sset, .bumped, .caused, .clk, .ident, .sideA, .sideB, .link, .outA, .outB, .frame, .queue, .port, .fixer, .front, .decim, .aper, .mx, .dev, .sheet, .latent, .print, .stage, .bank, .mode, .loupe, .mem, .free] (fun _ => True) t ∧ KeptBy s t ∧ t.between := by
  unfold execWrite
  refine ⟨_, rfl, ?_, ?_, State.endCycle_between _⟩
  · repeat' (first | with_reducible exact conf_refl _ _ _ | with_reducible assumption | decide | exact fun _ _ => trivial | exact fun _ => trivial | exact trivial | with_reducible apply State.conf_hostRun | with_reducible apply State.conf_endCycle)
  · repeat' (first | with_reducible exact kept_refl _ | with_reducible assumption | with_reducible apply State.kept_hostRun | with_reducible apply State.kept_endCycle)

theorem execWriteP_does (a0 : Nat) (s : State) : ∃ t, execWriteP a0 s = .next t ∧ Confined s [.sset, .bumped, .caused, .clk, .ident, .sideA, .sideB, .link, .outA, .outB, .frame, .queue, .port, .fixer, .front, .decim, .aper, .mx, .dev, .sheet, .latent, .print, .stage, .bank, .mode, .loupe, .mem, .free] (fun _ => True) t ∧ KeptBy s t ∧ t.between := by
  unfold execWriteP
  refine ⟨_, rfl, ?_, ?_, State.endCycle_between _⟩
  · repeat' (first | with_reducible exact conf_refl _ _ _ | with_reducible assumption | decide | exact fun _ _ => trivial | exact fun _ => trivial | exact trivial | with_reducible apply State.conf_hostRun | with_reducible apply State.conf_endCycle)
  · repeat' (first | with_reducible exact kept_refl _ | with_reducible assumption | with_reducible apply State.kept_hostRun | with_reducible apply State.kept_endCycle)

theorem execBurstRead_does (a0 : Nat) (s : State) : ∃ t, execBurstRead a0 s = .next t ∧ Confined s [.sset, .bumped, .caused, .clk, .ident, .sideA, .sideB, .link, .outA, .outB, .frame, .queue, .port, .fixer, .front, .decim, .aper, .mx, .dev, .sheet, .latent, .print, .stage, .bank, .mode, .loupe, .mem, .free] (fun _ => True) t ∧ KeptBy s t ∧ t.between := by
  unfold execBurstRead
  refine ⟨_, rfl, ?_, ?_, State.endCycle_between _⟩
  · repeat' (first | with_reducible exact conf_refl _ _ _ | with_reducible assumption | decide | exact fun _ _ => trivial | exact fun _ => trivial | exact trivial | with_reducible apply State.conf_hostRun | with_reducible apply State.conf_endCycle)
  · repeat' (first | with_reducible exact kept_refl _ | with_reducible assumption | with_reducible apply State.kept_hostRun | with_reducible apply State.kept_endCycle)

theorem execBurstWrite_does (a0 : Nat) (s : State) : ∃ t, execBurstWrite a0 s = .next t ∧ Confined s [.sset, .bumped, .caused, .clk, .ident, .sideA, .sideB, .link, .outA, .outB, .frame, .queue, .port, .fixer, .front, .decim, .aper, .mx, .dev, .sheet, .latent, .print, .stage, .bank, .mode, .loupe, .mem, .free] (fun _ => True) t ∧ KeptBy s t ∧ t.between := by
  unfold execBurstWrite
  refine ⟨_, rfl, ?_, ?_, State.endCycle_between _⟩
  · repeat' (first | with_reducible exact conf_refl _ _ _ | with_reducible assumption | decide | exact fun _ _ => trivial | exact fun _ => trivial | exact trivial | with_reducible apply State.conf_hostRun | with_reducible apply State.conf_endCycle)
  · repeat' (first | with_reducible exact kept_refl _ | with_reducible assumption | with_reducible apply State.kept_hostRun | with_reducible apply State.kept_endCycle)

theorem execBurstWriteP_does (a0 : Nat) (s : State) : ∃ t, execBurstWriteP a0 s = .next t ∧ Confined s [.sset, .bumped, .caused, .clk, .ident, .sideA, .sideB, .link, .outA, .outB, .frame, .queue, .port, .fixer, .front, .decim, .aper, .mx, .dev, .sheet, .latent, .print, .stage, .bank, .mode, .loupe, .mem, .free] (fun _ => True) t ∧ KeptBy s t ∧ t.between := by
  unfold execBurstWriteP
  refine ⟨_, rfl, ?_, ?_, State.endCycle_between _⟩
  · repeat' (first | with_reducible exact conf_refl _ _ _ | with_reducible assumption | decide | exact fun _ _ => trivial | exact fun _ => trivial | exact trivial | with_reducible apply State.conf_hostRun | with_reducible apply State.conf_endCycle)
  · repeat' (first | with_reducible exact kept_refl _ | with_reducible assumption | with_reducible apply State.kept_hostRun | with_reducible apply State.kept_endCycle)

theorem execAbort_does (s : State) : ∃ t, execAbort s = .next t ∧ Confined s [.sset, .bumped, .caused, .queue, .fixer, .bank, .mem] ((· ∈ [Reg.FIXER_FIXER_STATUS, Reg.FIXER_LASTING_COUNT, Reg.FIXER_LOG_DROPS, Reg.QUEUE_QUEUE_STATUS, Reg.TANK_CE_ADDR, Reg.TANK_CE_COUNT, Reg.TANK_FOG_PASSES, Reg.TANK_FOG_SKIPS, Reg.TANK_TANK_STATUS, Reg.TANK_UE_ADDR, Reg.TANK_UE_COUNT])) t ∧ KeptBy s t ∧ t.between := by
  unfold execAbort
  refine ⟨_, rfl, ?_, ?_, State.endCycle_between _⟩
  · repeat' (first | with_reducible exact conf_refl _ _ _ | with_reducible assumption | decide | exact fun _ _ => trivial | exact fun _ => trivial | exact trivial | with_reducible apply State.conf_endCycle | with_reducible apply State.conf_abortStep)
  · repeat' (first | with_reducible exact kept_refl _ | with_reducible assumption | with_reducible apply State.kept_endCycle | with_reducible apply State.kept_abortStep)

theorem execStatusClear_does (a0 : Src) (a1 : Nat) (a2 : Word) (s : State) : ∃ t, execStatusClear a0 a1 a2 s = .next t ∧ Confined s [.sset, .bumped, .caused, .clk, .ident, .sideA, .sideB, .link, .outA, .outB, .frame, .queue, .port, .fixer, .front, .decim, .aper, .mx, .dev, .sheet, .latent, .print, .stage, .bank, .mode, .loupe, .mem] (fun _ => True) t ∧ KeptBy s t ∧ t.between := by
  unfold execStatusClear
  refine ⟨_, rfl, ?_, ?_, State.endCycle_between _⟩
  · repeat' (first | with_reducible exact conf_refl _ _ _ | with_reducible assumption | decide | exact fun _ _ => trivial | exact fun _ => trivial | exact trivial | with_reducible apply State.conf_statusWrite | with_reducible apply State.conf_endCycle)
  · repeat' (first | with_reducible exact kept_refl _ | with_reducible assumption | with_reducible apply State.kept_statusWrite | with_reducible apply State.kept_endCycle)

theorem execGuardArm_does (a0 : Src) (a1 : Nat) (a2 : Word) (s : State) : ∃ t, execGuardArm a0 a1 a2 s = .next t ∧ Confined s [.sset, .bumped, .caused, .clk, .ident, .sideA, .sideB, .link, .outA, .outB, .frame, .queue, .port, .fixer, .front, .decim, .aper, .mx, .dev, .sheet, .latent, .print, .stage, .bank, .mode, .loupe, .mem] (fun _ => True) t ∧ KeptBy s t ∧ t.between := by
  unfold execGuardArm
  refine ⟨_, rfl, ?_, ?_, State.endCycle_between _⟩
  · repeat' (first | with_reducible exact conf_refl _ _ _ | with_reducible assumption | decide | exact fun _ _ => trivial | exact fun _ => trivial | exact trivial | with_reducible apply State.conf_armWrite | with_reducible apply State.conf_endCycle)
  · repeat' (first | with_reducible exact kept_refl _ | with_reducible assumption | with_reducible apply State.kept_armWrite | with_reducible apply State.kept_endCycle)

theorem execIxAddrWrite_does (a0 : Src) (a1 : Word) (s : State) : ∃ t, execIxAddrWrite a0 a1 s = .next t ∧ Confined s [.sset, .bumped, .caused, .clk, .ident, .sideA, .sideB, .link, .outA, .outB, .frame, .queue, .port, .fixer, .front, .decim, .aper, .mx, .dev, .sheet, .latent, .print, .stage, .bank, .mode, .loupe, .mem] (fun _ => True) t ∧ KeptBy s t ∧ t.between := by
  unfold execIxAddrWrite
  refine ⟨_, rfl, ?_, ?_, State.endCycle_between _⟩
  · repeat' (first | with_reducible exact conf_refl _ _ _ | with_reducible assumption | decide | exact fun _ _ => trivial | exact fun _ => trivial | exact trivial | with_reducible apply State.conf_accessWrite | with_reducible apply State.conf_endCycle)
  · repeat' (first | with_reducible exact kept_refl _ | with_reducible assumption | with_reducible apply State.kept_accessWrite | with_reducible apply State.kept_endCycle)

theorem execIxDataRead_does (a0 : Src) (s : State) : ∃ t, execIxDataRead a0 s = .next t ∧ Confined s [.sset, .bumped, .caused, .port, .fixer, .sheet, .bank, .free] (fun _ => True) t ∧ KeptBy s t ∧ t.between := by
  unfold execIxDataRead
  refine ⟨_, rfl, ?_, ?_, State.endCycle_between _⟩
  · repeat' (first | with_reducible exact conf_refl _ _ _ | with_reducible assumption | decide | exact fun _ _ => trivial | exact fun _ => trivial | exact trivial | with_reducible apply State.conf_accessRead | with_reducible apply State.conf_endCycle)
  · repeat' (first | with_reducible exact kept_refl _ | with_reducible assumption | with_reducible apply State.kept_accessRead | with_reducible apply State.kept_endCycle)

theorem execIxDataWrite_does (a0 : Src) (a1 : Word) (s : State) : ∃ t, execIxDataWrite a0 a1 s = .next t ∧ Confined s [.sset, .bumped, .caused, .clk, .ident, .sideA, .sideB, .link, .outA, .outB, .frame, .queue, .port, .fixer, .front, .decim, .aper, .mx, .dev, .sheet, .latent, .print, .stage, .bank, .mode, .loupe, .mem] (fun _ => True) t ∧ KeptBy s t ∧ t.between := by
  unfold execIxDataWrite
  refine ⟨_, rfl, ?_, ?_, State.endCycle_between _⟩
  · repeat' (first | with_reducible exact conf_refl _ _ _ | with_reducible assumption | decide | exact fun _ _ => trivial | exact fun _ => trivial | exact trivial | with_reducible apply State.conf_accessWrite | with_reducible apply State.conf_endCycle)
  · repeat' (first | with_reducible exact kept_refl _ | with_reducible assumption | with_reducible apply State.kept_accessWrite | with_reducible apply State.kept_endCycle)

theorem execEpochLoRead_does (a0 : Src) (s : State) : ∃ t, execEpochLoRead a0 s = .next t ∧ Confined s [.sset, .bumped, .caused, .port, .fixer, .sheet, .bank, .free] (fun _ => True) t ∧ KeptBy s t ∧ t.between := by
  unfold execEpochLoRead
  refine ⟨_, rfl, ?_, ?_, State.endCycle_between _⟩
  · repeat' (first | with_reducible exact conf_refl _ _ _ | with_reducible assumption | decide | exact fun _ _ => trivial | exact fun _ => trivial | exact trivial | with_reducible apply State.conf_accessRead | with_reducible apply State.conf_endCycle)
  · repeat' (first | with_reducible exact kept_refl _ | with_reducible assumption | with_reducible apply State.kept_accessRead | with_reducible apply State.kept_endCycle)

theorem execScoreRead_does (a0 : Src) (s : State) : ∃ t, execScoreRead a0 s = .next t ∧ Confined s [.sset, .bumped, .caused, .port, .fixer, .sheet, .bank, .free] (fun _ => True) t ∧ KeptBy s t ∧ t.between := by
  unfold execScoreRead
  refine ⟨_, rfl, ?_, ?_, State.endCycle_between _⟩
  · repeat' (first | with_reducible exact conf_refl _ _ _ | with_reducible assumption | decide | exact fun _ _ => trivial | exact fun _ => trivial | exact trivial | with_reducible apply State.conf_accessRead | with_reducible apply State.conf_endCycle)
  · repeat' (first | with_reducible exact kept_refl _ | with_reducible assumption | with_reducible apply State.kept_accessRead | with_reducible apply State.kept_endCycle)

theorem execFeatRead_does (a0 : Src) (s : State) : ∃ t, execFeatRead a0 s = .next t ∧ Confined s [.sset, .bumped, .caused, .port, .fixer, .sheet, .bank, .free] (fun _ => True) t ∧ KeptBy s t ∧ t.between := by
  unfold execFeatRead
  refine ⟨_, rfl, ?_, ?_, State.endCycle_between _⟩
  · repeat' (first | with_reducible exact conf_refl _ _ _ | with_reducible assumption | decide | exact fun _ _ => trivial | exact fun _ => trivial | exact trivial | with_reducible apply State.conf_accessRead | with_reducible apply State.conf_endCycle)
  · repeat' (first | with_reducible exact kept_refl _ | with_reducible assumption | with_reducible apply State.kept_accessRead | with_reducible apply State.kept_endCycle)

theorem execFrameLenRead_does (a0 : Src) (s : State) : ∃ t, execFrameLenRead a0 s = .next t ∧ Confined s [.sset, .bumped, .caused, .port, .fixer, .sheet, .bank, .free] (fun _ => True) t ∧ KeptBy s t ∧ t.between := by
  unfold execFrameLenRead
  refine ⟨_, rfl, ?_, ?_, State.endCycle_between _⟩
  · repeat' (first | with_reducible exact conf_refl _ _ _ | with_reducible assumption | decide | exact fun _ _ => trivial | exact fun _ => trivial | exact trivial | with_reducible apply State.conf_accessRead | with_reducible apply State.conf_endCycle)
  · repeat' (first | with_reducible exact kept_refl _ | with_reducible assumption | with_reducible apply State.kept_accessRead | with_reducible apply State.kept_endCycle)

theorem execLoupeNarrowWrite_does (a0 : Nat) (a1 : Nat) (a2 : Word) (s : State) : ∃ t, execLoupeNarrowWrite a0 a1 a2 s = .next t ∧ Confined s [.sset, .bumped, .caused, .port, .fixer] ((· ∈ [Reg.CHIP_REG_STATUS, Reg.FIXER_FIXER_STATUS, Reg.FIXER_LOG_DROPS])) t ∧ KeptBy s t ∧ t.between := by
  unfold execLoupeNarrowWrite
  refine ⟨_, rfl, ?_, ?_, State.endCycle_between _⟩
  · repeat' (first | with_reducible exact conf_refl _ _ _ | with_reducible assumption | decide | exact fun _ _ => trivial | exact fun _ => trivial | exact trivial | with_reducible apply State.conf_narrowWrite | with_reducible apply State.conf_endCycle)
  · repeat' (first | with_reducible exact kept_refl _ | with_reducible assumption | with_reducible apply State.kept_narrowWrite | with_reducible apply State.kept_endCycle)

theorem execLoupeUnaligned_does (a0 : Nat) (a1 : Nat) (s : State) : ∃ t, execLoupeUnaligned a0 a1 s = .next t ∧ Confined s [.sset, .bumped, .caused, .port, .fixer] ((· ∈ [Reg.CHIP_REG_STATUS, Reg.FIXER_FIXER_STATUS, Reg.FIXER_LOG_DROPS])) t ∧ KeptBy s t ∧ t.between := by
  unfold execLoupeUnaligned
  refine ⟨_, rfl, ?_, ?_, State.endCycle_between _⟩
  · repeat' (first | with_reducible exact conf_refl _ _ _ | with_reducible assumption | decide | exact fun _ _ => trivial | exact fun _ => trivial | exact trivial | with_reducible apply State.conf_unaligned | with_reducible apply State.conf_endCycle)
  · repeat' (first | with_reducible exact kept_refl _ | with_reducible assumption | with_reducible apply State.kept_unaligned | with_reducible apply State.kept_endCycle)

theorem execLogWrite_does (s : State) : ∃ t, execLogWrite s = .next t ∧ Confined s [.sset, .bumped, .caused, .queue, .fixer, .bank, .mem] ((· ∈ [Reg.FIXER_FIXER_STATUS, Reg.FIXER_LASTING_COUNT, Reg.FIXER_LOG_DROPS, Reg.FIXER_LOG_TOTAL, Reg.QUEUE_EVT_COUNT, Reg.QUEUE_EVT_DROPS, Reg.QUEUE_QUEUE_STATUS, Reg.TANK_CE_ADDR, Reg.TANK_CE_COUNT, Reg.TANK_FOG_PASSES, Reg.TANK_FOG_SKIPS, Reg.TANK_TANK_STATUS, Reg.TANK_UE_ADDR, Reg.TANK_UE_COUNT])) t ∧ KeptBy s t ∧ t.between := by
  unfold execLogWrite
  refine ⟨_, rfl, ?_, ?_, State.endCycle_between _⟩
  · repeat' (first | with_reducible exact conf_refl _ _ _ | with_reducible assumption | decide | exact fun _ _ => trivial | exact fun _ => trivial | exact trivial | with_reducible apply State.conf_endCycle | with_reducible apply State.conf_logWrite)
  · repeat' (first | with_reducible exact kept_refl _ | with_reducible assumption | with_reducible apply State.kept_endCycle | with_reducible apply State.kept_logWrite)

end Sys2Proof.Machine
end

