-- ==== Sys2Proof/Laws/DoesGuardCmds.lean ====
section
/-! SUPPORT. What every command of Machine/GuardCmds.lean does at most: it answers a next state, the parts and registers it can change,
and what no command breaks. -/

set_option linter.unusedTactic false
set_option linter.unreachableTactic false

namespace Sys2Proof.Machine

theorem execEpochHiSet_does (a0 : Src) (a1 : Word) (s : State) : ∃ t, execEpochHiSet a0 a1 s = .next t ∧ Confined s [.sset, .bumped, .caused, .clk, .ident, .sideA, .sideB, .link, .outA, .outB, .frame, .queue, .port, .fixer, .front, .decim, .aper, .mx, .dev, .sheet, .latent, .print, .stage, .bank, .mode, .loupe, .mem] (fun _ => True) t ∧ KeptBy s t ∧ t.between := by
  unfold execEpochHiSet
  refine ⟨_, rfl, ?_, ?_, State.endCycle_between _⟩
  · repeat' (first | with_reducible exact conf_refl _ _ _ | with_reducible assumption | decide | exact fun _ _ => trivial | exact fun _ => trivial | exact trivial | with_reducible apply State.conf_guardedWrite | with_reducible apply State.conf_endCycle)
  · repeat' (first | with_reducible exact kept_refl _ | with_reducible assumption | with_reducible apply State.kept_guardedWrite | with_reducible apply State.kept_endCycle)

theorem execAddrOverride_does (a0 : Src) (a1 : Word) (s : State) : ∃ t, execAddrOverride a0 a1 s = .next t ∧ Confined s [.sset, .bumped, .caused, .clk, .ident, .sideA, .sideB, .link, .outA, .outB, .frame, .queue, .port, .fixer, .front, .decim, .aper, .mx, .dev, .sheet, .latent, .print, .stage, .bank, .mode, .loupe, .mem] (fun _ => True) t ∧ KeptBy s t ∧ t.between := by
  unfold execAddrOverride
  refine ⟨_, rfl, ?_, ?_, State.endCycle_between _⟩
  · repeat' (first | with_reducible exact conf_refl _ _ _ | with_reducible assumption | decide | exact fun _ _ => trivial | exact fun _ => trivial | exact trivial | with_reducible apply State.conf_guardedWrite | with_reducible apply State.conf_endCycle)
  · repeat' (first | with_reducible exact kept_refl _ | with_reducible assumption | with_reducible apply State.kept_guardedWrite | with_reducible apply State.kept_endCycle)

theorem execPadLoop_does (a0 : Src) (a1 : Word) (s : State) : ∃ t, execPadLoop a0 a1 s = .next t ∧ Confined s [.sset, .bumped, .caused, .clk, .ident, .sideA, .sideB, .link, .outA, .outB, .frame, .queue, .port, .fixer, .front, .decim, .aper, .mx, .dev, .sheet, .latent, .print, .stage, .bank, .mode, .loupe, .mem] (fun _ => True) t ∧ KeptBy s t ∧ t.between := by
  unfold execPadLoop
  refine ⟨_, rfl, ?_, ?_, State.endCycle_between _⟩
  · repeat' (first | with_reducible exact conf_refl _ _ _ | with_reducible assumption | decide | exact fun _ _ => trivial | exact fun _ => trivial | exact trivial | with_reducible apply State.conf_guardedWrite | with_reducible apply State.conf_endCycle)
  · repeat' (first | with_reducible exact kept_refl _ | with_reducible assumption | with_reducible apply State.kept_guardedWrite | with_reducible apply State.kept_endCycle)

theorem execLaneLoop_does (a0 : Src) (a1 : Word) (s : State) : ∃ t, execLaneLoop a0 a1 s = .next t ∧ Confined s [.sset, .bumped, .caused, .clk, .ident, .sideA, .sideB, .link, .outA, .outB, .frame, .queue, .port, .fixer, .front, .decim, .aper, .mx, .dev, .sheet, .latent, .print, .stage, .bank, .mode, .loupe, .mem] (fun _ => True) t ∧ KeptBy s t ∧ t.between := by
  unfold execLaneLoop
  refine ⟨_, rfl, ?_, ?_, State.endCycle_between _⟩
  · repeat' (first | with_reducible exact conf_refl _ _ _ | with_reducible assumption | decide | exact fun _ _ => trivial | exact fun _ => trivial | exact trivial | with_reducible apply State.conf_guardedWrite | with_reducible apply State.conf_endCycle)
  · repeat' (first | with_reducible exact kept_refl _ | with_reducible assumption | with_reducible apply State.kept_guardedWrite | with_reducible apply State.kept_endCycle)

theorem execFrameLoop_does (a0 : Src) (a1 : Word) (s : State) : ∃ t, execFrameLoop a0 a1 s = .next t ∧ Confined s [.sset, .bumped, .caused, .clk, .ident, .sideA, .sideB, .link, .outA, .outB, .frame, .queue, .port, .fixer, .front, .decim, .aper, .mx, .dev, .sheet, .latent, .print, .stage, .bank, .mode, .loupe, .mem] (fun _ => True) t ∧ KeptBy s t ∧ t.between := by
  unfold execFrameLoop
  refine ⟨_, rfl, ?_, ?_, State.endCycle_between _⟩
  · repeat' (first | with_reducible exact conf_refl _ _ _ | with_reducible assumption | decide | exact fun _ _ => trivial | exact fun _ => trivial | exact trivial | with_reducible apply State.conf_guardedWrite | with_reducible apply State.conf_endCycle)
  · repeat' (first | with_reducible exact kept_refl _ | with_reducible assumption | with_reducible apply State.kept_guardedWrite | with_reducible apply State.kept_endCycle)

theorem execLinkLoopOff_does (a0 : Src) (a1 : Word) (s : State) : ∃ t, execLinkLoopOff a0 a1 s = .next t ∧ Confined s [.sset, .bumped, .caused, .clk, .ident, .sideA, .sideB, .link, .outA, .outB, .frame, .queue, .port, .fixer, .front, .decim, .aper, .mx, .dev, .sheet, .latent, .print, .stage, .bank, .mode, .loupe, .mem] (fun _ => True) t ∧ KeptBy s t ∧ t.between := by
  unfold execLinkLoopOff
  refine ⟨_, rfl, ?_, ?_, State.endCycle_between _⟩
  · repeat' (first | with_reducible exact conf_refl _ _ _ | with_reducible assumption | decide | exact fun _ _ => trivial | exact fun _ => trivial | exact trivial | with_reducible apply State.conf_guardedWrite | with_reducible apply State.conf_endCycle)
  · repeat' (first | with_reducible exact kept_refl _ | with_reducible assumption | with_reducible apply State.kept_guardedWrite | with_reducible apply State.kept_endCycle)

theorem execAnalogLoop_does (a0 : Src) (a1 : Word) (s : State) : ∃ t, execAnalogLoop a0 a1 s = .next t ∧ Confined s [.sset, .bumped, .caused, .clk, .ident, .sideA, .sideB, .link, .outA, .outB, .frame, .queue, .port, .fixer, .front, .decim, .aper, .mx, .dev, .sheet, .latent, .print, .stage, .bank, .mode, .loupe, .mem] (fun _ => True) t ∧ KeptBy s t ∧ t.between := by
  unfold execAnalogLoop
  refine ⟨_, rfl, ?_, ?_, State.endCycle_between _⟩
  · repeat' (first | with_reducible exact conf_refl _ _ _ | with_reducible assumption | decide | exact fun _ _ => trivial | exact fun _ => trivial | exact trivial | with_reducible apply State.conf_guardedWrite | with_reducible apply State.conf_endCycle)
  · repeat' (first | with_reducible exact kept_refl _ | with_reducible assumption | with_reducible apply State.kept_guardedWrite | with_reducible apply State.kept_endCycle)

theorem execBitstreamLoop_does (a0 : Src) (a1 : Word) (s : State) : ∃ t, execBitstreamLoop a0 a1 s = .next t ∧ Confined s [.sset, .bumped, .caused, .clk, .ident, .sideA, .sideB, .link, .outA, .outB, .frame, .queue, .port, .fixer, .front, .decim, .aper, .mx, .dev, .sheet, .latent, .print, .stage, .bank, .mode, .loupe, .mem] (fun _ => True) t ∧ KeptBy s t ∧ t.between := by
  unfold execBitstreamLoop
  refine ⟨_, rfl, ?_, ?_, State.endCycle_between _⟩
  · repeat' (first | with_reducible exact conf_refl _ _ _ | with_reducible assumption | decide | exact fun _ _ => trivial | exact fun _ => trivial | exact trivial | with_reducible apply State.conf_guardedWrite | with_reducible apply State.conf_endCycle)
  · repeat' (first | with_reducible exact kept_refl _ | with_reducible assumption | with_reducible apply State.kept_guardedWrite | with_reducible apply State.kept_endCycle)

theorem execPdmLoop_does (a0 : Src) (a1 : Word) (s : State) : ∃ t, execPdmLoop a0 a1 s = .next t ∧ Confined s [.sset, .bumped, .caused, .clk, .ident, .sideA, .sideB, .link, .outA, .outB, .frame, .queue, .port, .fixer, .front, .decim, .aper, .mx, .dev, .sheet, .latent, .print, .stage, .bank, .mode, .loupe, .mem] (fun _ => True) t ∧ KeptBy s t ∧ t.between := by
  unfold execPdmLoop
  refine ⟨_, rfl, ?_, ?_, State.endCycle_between _⟩
  · repeat' (first | with_reducible exact conf_refl _ _ _ | with_reducible assumption | decide | exact fun _ _ => trivial | exact fun _ => trivial | exact trivial | with_reducible apply State.conf_guardedWrite | with_reducible apply State.conf_endCycle)
  · repeat' (first | with_reducible exact kept_refl _ | with_reducible assumption | with_reducible apply State.kept_guardedWrite | with_reducible apply State.kept_endCycle)

theorem execCapture_does (a0 : Src) (a1 : Word) (s : State) : ∃ t, execCapture a0 a1 s = .next t ∧ Confined s [.sset, .bumped, .caused, .clk, .ident, .sideA, .sideB, .link, .outA, .outB, .frame, .queue, .port, .fixer, .front, .decim, .aper, .mx, .dev, .sheet, .latent, .print, .stage, .bank, .mode, .loupe, .mem] (fun _ => True) t ∧ KeptBy s t ∧ t.between := by
  unfold execCapture
  refine ⟨_, rfl, ?_, ?_, State.endCycle_between _⟩
  · repeat' (first | with_reducible exact conf_refl _ _ _ | with_reducible assumption | decide | exact fun _ _ => trivial | exact fun _ => trivial | exact trivial | with_reducible apply State.conf_guardedWrite | with_reducible apply State.conf_endCycle)
  · repeat' (first | with_reducible exact kept_refl _ | with_reducible assumption | with_reducible apply State.kept_guardedWrite | with_reducible apply State.kept_endCycle)

theorem execFrontLoopOff_does (a0 : Src) (a1 : Word) (s : State) : ∃ t, execFrontLoopOff a0 a1 s = .next t ∧ Confined s [.sset, .bumped, .caused, .clk, .ident, .sideA, .sideB, .link, .outA, .outB, .frame, .queue, .port, .fixer, .front, .decim, .aper, .mx, .dev, .sheet, .latent, .print, .stage, .bank, .mode, .loupe, .mem] (fun _ => True) t ∧ KeptBy s t ∧ t.between := by
  unfold execFrontLoopOff
  refine ⟨_, rfl, ?_, ?_, State.endCycle_between _⟩
  · repeat' (first | with_reducible exact conf_refl _ _ _ | with_reducible assumption | decide | exact fun _ _ => trivial | exact fun _ => trivial | exact trivial | with_reducible apply State.conf_guardedWrite | with_reducible apply State.conf_endCycle)
  · repeat' (first | with_reducible exact kept_refl _ | with_reducible assumption | with_reducible apply State.kept_guardedWrite | with_reducible apply State.kept_endCycle)

theorem execModeWithdraw_does (a0 : Src) (a1 : Word) (s : State) : ∃ t, execModeWithdraw a0 a1 s = .next t ∧ Confined s [.sset, .bumped, .caused, .clk, .ident, .sideA, .sideB, .link, .outA, .outB, .frame, .queue, .port, .fixer, .front, .decim, .aper, .mx, .dev, .sheet, .latent, .print, .stage, .bank, .mode, .loupe, .mem] (fun _ => True) t ∧ KeptBy s t ∧ t.between := by
  unfold execModeWithdraw
  refine ⟨_, rfl, ?_, ?_, State.endCycle_between _⟩
  · repeat' (first | with_reducible exact conf_refl _ _ _ | with_reducible assumption | decide | exact fun _ _ => trivial | exact fun _ => trivial | exact trivial | with_reducible apply State.conf_guardedWrite | with_reducible apply State.conf_endCycle)
  · repeat' (first | with_reducible exact kept_refl _ | with_reducible assumption | with_reducible apply State.kept_guardedWrite | with_reducible apply State.kept_endCycle)

theorem execRequestDaylight_does (a0 : Src) (a1 : Word) (s : State) : ∃ t, execRequestDaylight a0 a1 s = .next t ∧ Confined s [.sset, .bumped, .caused, .clk, .ident, .sideA, .sideB, .link, .outA, .outB, .frame, .queue, .port, .fixer, .front, .decim, .aper, .mx, .dev, .sheet, .latent, .print, .stage, .bank, .mode, .loupe, .mem] (fun _ => True) t ∧ KeptBy s t ∧ t.between := by
  unfold execRequestDaylight
  refine ⟨_, rfl, ?_, ?_, State.endCycle_between _⟩
  · repeat' (first | with_reducible exact conf_refl _ _ _ | with_reducible assumption | decide | exact fun _ _ => trivial | exact fun _ => trivial | exact trivial | with_reducible apply State.conf_guardedWrite | with_reducible apply State.conf_endCycle)
  · repeat' (first | with_reducible exact kept_refl _ | with_reducible assumption | with_reducible apply State.kept_guardedWrite | with_reducible apply State.kept_endCycle)

theorem execRequestSafelight_does (a0 : Src) (a1 : Word) (s : State) : ∃ t, execRequestSafelight a0 a1 s = .next t ∧ Confined s [.sset, .bumped, .caused, .clk, .ident, .sideA, .sideB, .link, .outA, .outB, .frame, .queue, .port, .fixer, .front, .decim, .aper, .mx, .dev, .sheet, .latent, .print, .stage, .bank, .mode, .loupe, .mem] (fun _ => True) t ∧ KeptBy s t ∧ t.between := by
  unfold execRequestSafelight
  refine ⟨_, rfl, ?_, ?_, State.endCycle_between _⟩
  · repeat' (first | with_reducible exact conf_refl _ _ _ | with_reducible assumption | decide | exact fun _ _ => trivial | exact fun _ => trivial | exact trivial | with_reducible apply State.conf_guardedWrite | with_reducible apply State.conf_endCycle)
  · repeat' (first | with_reducible exact kept_refl _ | with_reducible assumption | with_reducible apply State.kept_guardedWrite | with_reducible apply State.kept_endCycle)

theorem execUnitReset_does (a0 : Src) (a1 : Word) (s : State) : ∃ t, execUnitReset a0 a1 s = .next t ∧ Confined s [.sset, .bumped, .caused, .clk, .ident, .sideA, .sideB, .link, .outA, .outB, .frame, .queue, .port, .fixer, .front, .decim, .aper, .mx, .dev, .sheet, .latent, .print, .stage, .bank, .mode, .loupe, .mem] (fun _ => True) t ∧ KeptBy s t ∧ t.between := by
  unfold execUnitReset
  refine ⟨_, rfl, ?_, ?_, State.endCycle_between _⟩
  · repeat' (first | with_reducible exact conf_refl _ _ _ | with_reducible assumption | decide | exact fun _ _ => trivial | exact fun _ => trivial | exact trivial | with_reducible apply State.conf_guardedWrite | with_reducible apply State.conf_endCycle)
  · repeat' (first | with_reducible exact kept_refl _ | with_reducible assumption | with_reducible apply State.kept_guardedWrite | with_reducible apply State.kept_endCycle)

theorem execMasterEnable_does (a0 : Src) (a1 : Word) (s : State) : ∃ t, execMasterEnable a0 a1 s = .next t ∧ Confined s [.sset, .bumped, .caused, .clk, .ident, .sideA, .sideB, .link, .outA, .outB, .frame, .queue, .port, .fixer, .front, .decim, .aper, .mx, .dev, .sheet, .latent, .print, .stage, .bank, .mode, .loupe, .mem] (fun _ => True) t ∧ KeptBy s t ∧ t.between := by
  unfold execMasterEnable
  refine ⟨_, rfl, ?_, ?_, State.endCycle_between _⟩
  · repeat' (first | with_reducible exact conf_refl _ _ _ | with_reducible assumption | decide | exact fun _ _ => trivial | exact fun _ => trivial | exact trivial | with_reducible apply State.conf_guardedWrite | with_reducible apply State.conf_endCycle)
  · repeat' (first | with_reducible exact kept_refl _ | with_reducible assumption | with_reducible apply State.kept_guardedWrite | with_reducible apply State.kept_endCycle)

theorem execMasterDisable_does (a0 : Src) (a1 : Word) (s : State) : ∃ t, execMasterDisable a0 a1 s = .next t ∧ Confined s [.sset, .bumped, .caused, .clk, .ident, .sideA, .sideB, .link, .outA, .outB, .frame, .queue, .port, .fixer, .front, .decim, .aper, .mx, .dev, .sheet, .latent, .print, .stage, .bank, .mode, .loupe, .mem] (fun _ => True) t ∧ KeptBy s t ∧ t.between := by
  unfold execMasterDisable
  refine ⟨_, rfl, ?_, ?_, State.endCycle_between _⟩
  · repeat' (first | with_reducible exact conf_refl _ _ _ | with_reducible assumption | decide | exact fun _ _ => trivial | exact fun _ => trivial | exact trivial | with_reducible apply State.conf_guardedWrite | with_reducible apply State.conf_endCycle)
  · repeat' (first | with_reducible exact kept_refl _ | with_reducible assumption | with_reducible apply State.kept_guardedWrite | with_reducible apply State.kept_endCycle)

theorem execDigitalLoop_does (a0 : Src) (a1 : Word) (s : State) : ∃ t, execDigitalLoop a0 a1 s = .next t ∧ Confined s [.sset, .bumped, .caused, .clk, .ident, .sideA, .sideB, .link, .outA, .outB, .frame, .queue, .port, .fixer, .front, .decim, .aper, .mx, .dev, .sheet, .latent, .print, .stage, .bank, .mode, .loupe, .mem] (fun _ => True) t ∧ KeptBy s t ∧ t.between := by
  unfold execDigitalLoop
  refine ⟨_, rfl, ?_, ?_, State.endCycle_between _⟩
  · repeat' (first | with_reducible exact conf_refl _ _ _ | with_reducible assumption | decide | exact fun _ _ => trivial | exact fun _ => trivial | exact trivial | with_reducible apply State.conf_guardedWrite | with_reducible apply State.conf_endCycle)
  · repeat' (first | with_reducible exact kept_refl _ | with_reducible assumption | with_reducible apply State.kept_guardedWrite | with_reducible apply State.kept_endCycle)

theorem execDacLoop_does (a0 : Src) (a1 : Word) (s : State) : ∃ t, execDacLoop a0 a1 s = .next t ∧ Confined s [.sset, .bumped, .caused, .clk, .ident, .sideA, .sideB, .link, .outA, .outB, .frame, .queue, .port, .fixer, .front, .decim, .aper, .mx, .dev, .sheet, .latent, .print, .stage, .bank, .mode, .loupe, .mem] (fun _ => True) t ∧ KeptBy s t ∧ t.between := by
  unfold execDacLoop
  refine ⟨_, rfl, ?_, ?_, State.endCycle_between _⟩
  · repeat' (first | with_reducible exact conf_refl _ _ _ | with_reducible assumption | decide | exact fun _ _ => trivial | exact fun _ => trivial | exact trivial | with_reducible apply State.conf_guardedWrite | with_reducible apply State.conf_endCycle)
  · repeat' (first | with_reducible exact kept_refl _ | with_reducible assumption | with_reducible apply State.kept_guardedWrite | with_reducible apply State.kept_endCycle)

theorem execStageLoop_does (a0 : Src) (a1 : Word) (s : State) : ∃ t, execStageLoop a0 a1 s = .next t ∧ Confined s [.sset, .bumped, .caused, .clk, .ident, .sideA, .sideB, .link, .outA, .outB, .frame, .queue, .port, .fixer, .front, .decim, .aper, .mx, .dev, .sheet, .latent, .print, .stage, .bank, .mode, .loupe, .mem] (fun _ => True) t ∧ KeptBy s t ∧ t.between := by
  unfold execStageLoop
  refine ⟨_, rfl, ?_, ?_, State.endCycle_between _⟩
  · repeat' (first | with_reducible exact conf_refl _ _ _ | with_reducible assumption | decide | exact fun _ _ => trivial | exact fun _ => trivial | exact trivial | with_reducible apply State.conf_guardedWrite | with_reducible apply State.conf_endCycle)
  · repeat' (first | with_reducible exact kept_refl _ | with_reducible assumption | with_reducible apply State.kept_guardedWrite | with_reducible apply State.kept_endCycle)

theorem execWipe_does (a0 : Src) (a1 : Word) (s : State) : ∃ t, execWipe a0 a1 s = .next t ∧ Confined s [.sset, .bumped, .caused, .clk, .ident, .sideA, .sideB, .link, .outA, .outB, .frame, .queue, .port, .fixer, .front, .decim, .aper, .mx, .dev, .sheet, .latent, .print, .stage, .bank, .mode, .loupe, .mem] (fun _ => True) t ∧ KeptBy s t ∧ t.between := by
  unfold execWipe
  refine ⟨_, rfl, ?_, ?_, State.endCycle_between _⟩
  · repeat' (first | with_reducible exact conf_refl _ _ _ | with_reducible assumption | decide | exact fun _ _ => trivial | exact fun _ => trivial | exact trivial | with_reducible apply State.conf_guardedWrite | with_reducible apply State.conf_endCycle)
  · repeat' (first | with_reducible exact kept_refl _ | with_reducible assumption | with_reducible apply State.kept_guardedWrite | with_reducible apply State.kept_endCycle)

theorem execPatchActivate_does (a0 : Src) (a1 : Word) (s : State) : ∃ t, execPatchActivate a0 a1 s = .next t ∧ Confined s [.sset, .bumped, .caused, .clk, .ident, .sideA, .sideB, .link, .outA, .outB, .frame, .queue, .port, .fixer, .front, .decim, .aper, .mx, .dev, .sheet, .latent, .print, .stage, .bank, .mode, .loupe, .mem] (fun _ => True) t ∧ KeptBy s t ∧ t.between := by
  unfold execPatchActivate
  refine ⟨_, rfl, ?_, ?_, State.endCycle_between _⟩
  · repeat' (first | with_reducible exact conf_refl _ _ _ | with_reducible assumption | decide | exact fun _ _ => trivial | exact fun _ => trivial | exact trivial | with_reducible apply State.conf_guardedWrite | with_reducible apply State.conf_endCycle)
  · repeat' (first | with_reducible exact kept_refl _ | with_reducible assumption | with_reducible apply State.kept_guardedWrite | with_reducible apply State.kept_endCycle)

theorem execPatchDeactivate_does (a0 : Src) (a1 : Word) (s : State) : ∃ t, execPatchDeactivate a0 a1 s = .next t ∧ Confined s [.sset, .bumped, .caused, .clk, .ident, .sideA, .sideB, .link, .outA, .outB, .frame, .queue, .port, .fixer, .front, .decim, .aper, .mx, .dev, .sheet, .latent, .print, .stage, .bank, .mode, .loupe, .mem] (fun _ => True) t ∧ KeptBy s t ∧ t.between := by
  unfold execPatchDeactivate
  refine ⟨_, rfl, ?_, ?_, State.endCycle_between _⟩
  · repeat' (first | with_reducible exact conf_refl _ _ _ | with_reducible assumption | decide | exact fun _ _ => trivial | exact fun _ => trivial | exact trivial | with_reducible apply State.conf_guardedWrite | with_reducible apply State.conf_endCycle)
  · repeat' (first | with_reducible exact kept_refl _ | with_reducible assumption | with_reducible apply State.kept_guardedWrite | with_reducible apply State.kept_endCycle)

theorem execLoupeRestart_does (a0 : Src) (a1 : Word) (s : State) : ∃ t, execLoupeRestart a0 a1 s = .next t ∧ Confined s [.sset, .bumped, .caused, .clk, .ident, .sideA, .sideB, .link, .outA, .outB, .frame, .queue, .port, .fixer, .front, .decim, .aper, .mx, .dev, .sheet, .latent, .print, .stage, .bank, .mode, .loupe, .mem] (fun _ => True) t ∧ KeptBy s t ∧ t.between := by
  unfold execLoupeRestart
  refine ⟨_, rfl, ?_, ?_, State.endCycle_between _⟩
  · repeat' (first | with_reducible exact conf_refl _ _ _ | with_reducible assumption | decide | exact fun _ _ => trivial | exact fun _ => trivial | exact trivial | with_reducible apply State.conf_guardedWrite | with_reducible apply State.conf_endCycle)
  · repeat' (first | with_reducible exact kept_refl _ | with_reducible assumption | with_reducible apply State.kept_guardedWrite | with_reducible apply State.kept_endCycle)

theorem execLifecycleRequest_does (a0 : Src) (a1 : Word) (s : State) : ∃ t, execLifecycleRequest a0 a1 s = .next t ∧ Confined s [.sset, .bumped, .caused, .clk, .ident, .sideA, .sideB, .link, .outA, .outB, .frame, .queue, .port, .fixer, .front, .decim, .aper, .mx, .dev, .sheet, .latent, .print, .stage, .bank, .mode, .loupe, .mem] (fun _ => True) t ∧ KeptBy s t ∧ t.between := by
  unfold execLifecycleRequest
  refine ⟨_, rfl, ?_, ?_, State.endCycle_between _⟩
  · repeat' (first | with_reducible exact conf_refl _ _ _ | with_reducible assumption | decide | exact fun _ _ => trivial | exact fun _ => trivial | exact trivial | with_reducible apply State.conf_guardedWrite | with_reducible apply State.conf_endCycle)
  · repeat' (first | with_reducible exact kept_refl _ | with_reducible assumption | with_reducible apply State.kept_guardedWrite | with_reducible apply State.kept_endCycle)

theorem execTestWrite_does (a0 : Src) (a1 : Word) (s : State) : ∃ t, execTestWrite a0 a1 s = .next t ∧ Confined s [.sset, .bumped, .caused, .clk, .ident, .sideA, .sideB, .link, .outA, .outB, .frame, .queue, .port, .fixer, .front, .decim, .aper, .mx, .dev, .sheet, .latent, .print, .stage, .bank, .mode, .loupe, .mem] (fun _ => True) t ∧ KeptBy s t ∧ t.between := by
  unfold execTestWrite
  refine ⟨_, rfl, ?_, ?_, State.endCycle_between _⟩
  · repeat' (first | with_reducible exact conf_refl _ _ _ | with_reducible assumption | decide | exact fun _ _ => trivial | exact fun _ => trivial | exact trivial | with_reducible apply State.conf_guardedWrite | with_reducible apply State.conf_endCycle)
  · repeat' (first | with_reducible exact kept_refl _ | with_reducible assumption | with_reducible apply State.kept_guardedWrite | with_reducible apply State.kept_endCycle)

end Sys2Proof.Machine
end

