-- ==== Sys2Proof/Laws/DoesMaskedCmds.lean ====
section
/-! SUPPORT. What every command of Machine/MaskedCmds.lean does at most: it answers a next state, the parts and registers it can change,
and what no command breaks. -/

set_option linter.unusedTactic false
set_option linter.unreachableTactic false

namespace Sys2Proof.Machine

theorem execSwapRequest_does (a0 : Src) (a1 : Word) (s : State) : ∃ t, execSwapRequest a0 a1 s = .next t ∧ Confined s [.sset, .bumped, .caused, .clk, .ident, .sideA, .sideB, .link, .outA, .outB, .frame, .queue, .port, .fixer, .front, .decim, .aper, .mx, .dev, .sheet, .latent, .print, .stage, .bank, .mode, .loupe, .mem] (fun _ => True) t ∧ KeptBy s t ∧ t.between := by
  unfold execSwapRequest
  refine ⟨_, rfl, ?_, ?_, State.endCycle_between _⟩
  · repeat' (first | with_reducible exact conf_refl _ _ _ | with_reducible assumption | decide | exact fun _ _ => trivial | exact fun _ => trivial | exact trivial | with_reducible apply State.conf_commandWrite | with_reducible apply State.conf_endCycle)
  · repeat' (first | with_reducible exact kept_refl _ | with_reducible assumption | with_reducible apply State.kept_commandWrite | with_reducible apply State.kept_endCycle)

theorem execCommit_does (a0 : Src) (a1 : Word) (s : State) : ∃ t, execCommit a0 a1 s = .next t ∧ Confined s [.sset, .bumped, .caused, .clk, .ident, .sideA, .sideB, .link, .outA, .outB, .frame, .queue, .port, .fixer, .front, .decim, .aper, .mx, .dev, .sheet, .latent, .print, .stage, .bank, .mode, .loupe, .mem] (fun _ => True) t ∧ KeptBy s t ∧ t.between := by
  unfold execCommit
  refine ⟨_, rfl, ?_, ?_, State.endCycle_between _⟩
  · repeat' (first | with_reducible exact conf_refl _ _ _ | with_reducible assumption | decide | exact fun _ _ => trivial | exact fun _ => trivial | exact trivial | with_reducible apply State.conf_commandWrite | with_reducible apply State.conf_endCycle)
  · repeat' (first | with_reducible exact kept_refl _ | with_reducible assumption | with_reducible apply State.kept_commandWrite | with_reducible apply State.kept_endCycle)

theorem execScaleWrite_does (a0 : Src) (a1 : Word) (s : State) : ∃ t, execScaleWrite a0 a1 s = .next t ∧ Confined s [.sset, .bumped, .caused, .clk, .ident, .sideA, .sideB, .link, .outA, .outB, .frame, .queue, .port, .fixer, .front, .decim, .aper, .mx, .dev, .sheet, .latent, .print, .stage, .bank, .mode, .loupe, .mem] (fun _ => True) t ∧ KeptBy s t ∧ t.between := by
  unfold execScaleWrite
  refine ⟨_, rfl, ?_, ?_, State.endCycle_between _⟩
  · repeat' (first | with_reducible exact conf_refl _ _ _ | with_reducible assumption | decide | exact fun _ _ => trivial | exact fun _ => trivial | exact trivial | with_reducible apply State.conf_commandWrite | with_reducible apply State.conf_endCycle)
  · repeat' (first | with_reducible exact kept_refl _ | with_reducible assumption | with_reducible apply State.kept_commandWrite | with_reducible apply State.kept_endCycle)

theorem execSwitchArm_does (a0 : Src) (a1 : Word) (s : State) : ∃ t, execSwitchArm a0 a1 s = .next t ∧ Confined s [.sset, .bumped, .caused, .clk, .ident, .sideA, .sideB, .link, .outA, .outB, .frame, .queue, .port, .fixer, .front, .decim, .aper, .mx, .dev, .sheet, .latent, .print, .stage, .bank, .mode, .loupe, .mem] (fun _ => True) t ∧ KeptBy s t ∧ t.between := by
  unfold execSwitchArm
  refine ⟨_, rfl, ?_, ?_, State.endCycle_between _⟩
  · repeat' (first | with_reducible exact conf_refl _ _ _ | with_reducible assumption | decide | exact fun _ _ => trivial | exact fun _ => trivial | exact trivial | with_reducible apply State.conf_commandWrite | with_reducible apply State.conf_endCycle)
  · repeat' (first | with_reducible exact kept_refl _ | with_reducible assumption | with_reducible apply State.kept_commandWrite | with_reducible apply State.kept_endCycle)

theorem execSwitchCancel_does (a0 : Src) (a1 : Word) (s : State) : ∃ t, execSwitchCancel a0 a1 s = .next t ∧ Confined s [.sset, .bumped, .caused, .clk, .ident, .sideA, .sideB, .link, .outA, .outB, .frame, .queue, .port, .fixer, .front, .decim, .aper, .mx, .dev, .sheet, .latent, .print, .stage, .bank, .mode, .loupe, .mem] (fun _ => True) t ∧ KeptBy s t ∧ t.between := by
  unfold execSwitchCancel
  refine ⟨_, rfl, ?_, ?_, State.endCycle_between _⟩
  · repeat' (first | with_reducible exact conf_refl _ _ _ | with_reducible assumption | decide | exact fun _ _ => trivial | exact fun _ => trivial | exact trivial | with_reducible apply State.conf_commandWrite | with_reducible apply State.conf_endCycle)
  · repeat' (first | with_reducible exact kept_refl _ | with_reducible assumption | with_reducible apply State.kept_commandWrite | with_reducible apply State.kept_endCycle)

theorem execSeedLoad_does (a0 : Src) (a1 : Word) (s : State) : ∃ t, execSeedLoad a0 a1 s = .next t ∧ Confined s [.sset, .bumped, .caused, .clk, .ident, .sideA, .sideB, .link, .outA, .outB, .frame, .queue, .port, .fixer, .front, .decim, .aper, .mx, .dev, .sheet, .latent, .print, .stage, .bank, .mode, .loupe, .mem] (fun _ => True) t ∧ KeptBy s t ∧ t.between := by
  unfold execSeedLoad
  refine ⟨_, rfl, ?_, ?_, State.endCycle_between _⟩
  · repeat' (first | with_reducible exact conf_refl _ _ _ | with_reducible assumption | decide | exact fun _ _ => trivial | exact fun _ => trivial | exact trivial | with_reducible apply State.conf_commandWrite | with_reducible apply State.conf_endCycle)
  · repeat' (first | with_reducible exact kept_refl _ | with_reducible assumption | with_reducible apply State.kept_commandWrite | with_reducible apply State.kept_endCycle)

theorem execProfileCommit_does (a0 : Src) (a1 : Word) (s : State) : ∃ t, execProfileCommit a0 a1 s = .next t ∧ Confined s [.sset, .bumped, .caused, .clk, .ident, .sideA, .sideB, .link, .outA, .outB, .frame, .queue, .port, .fixer, .front, .decim, .aper, .mx, .dev, .sheet, .latent, .print, .stage, .bank, .mode, .loupe, .mem] (fun _ => True) t ∧ KeptBy s t ∧ t.between := by
  unfold execProfileCommit
  refine ⟨_, rfl, ?_, ?_, State.endCycle_between _⟩
  · repeat' (first | with_reducible exact conf_refl _ _ _ | with_reducible assumption | decide | exact fun _ _ => trivial | exact fun _ => trivial | exact trivial | with_reducible apply State.conf_commandWrite | with_reducible apply State.conf_endCycle)
  · repeat' (first | with_reducible exact kept_refl _ | with_reducible assumption | with_reducible apply State.kept_commandWrite | with_reducible apply State.kept_endCycle)

theorem execTemplateEnable_does (a0 : Src) (a1 : Word) (s : State) : ∃ t, execTemplateEnable a0 a1 s = .next t ∧ Confined s [.sset, .bumped, .caused, .clk, .ident, .sideA, .sideB, .link, .outA, .outB, .frame, .queue, .port, .fixer, .front, .decim, .aper, .mx, .dev, .sheet, .latent, .print, .stage, .bank, .mode, .loupe, .mem] (fun _ => True) t ∧ KeptBy s t ∧ t.between := by
  unfold execTemplateEnable
  refine ⟨_, rfl, ?_, ?_, State.endCycle_between _⟩
  · repeat' (first | with_reducible exact conf_refl _ _ _ | with_reducible assumption | decide | exact fun _ _ => trivial | exact fun _ => trivial | exact trivial | with_reducible apply State.conf_commandWrite | with_reducible apply State.conf_endCycle)
  · repeat' (first | with_reducible exact kept_refl _ | with_reducible assumption | with_reducible apply State.kept_commandWrite | with_reducible apply State.kept_endCycle)

theorem execTemplateDisable_does (a0 : Src) (a1 : Word) (s : State) : ∃ t, execTemplateDisable a0 a1 s = .next t ∧ Confined s [.sset, .bumped, .caused, .clk, .ident, .sideA, .sideB, .link, .outA, .outB, .frame, .queue, .port, .fixer, .front, .decim, .aper, .mx, .dev, .sheet, .latent, .print, .stage, .bank, .mode, .loupe, .mem] (fun _ => True) t ∧ KeptBy s t ∧ t.between := by
  unfold execTemplateDisable
  refine ⟨_, rfl, ?_, ?_, State.endCycle_between _⟩
  · repeat' (first | with_reducible exact conf_refl _ _ _ | with_reducible assumption | decide | exact fun _ _ => trivial | exact fun _ => trivial | exact trivial | with_reducible apply State.conf_commandWrite | with_reducible apply State.conf_endCycle)
  · repeat' (first | with_reducible exact kept_refl _ | with_reducible assumption | with_reducible apply State.kept_commandWrite | with_reducible apply State.kept_endCycle)

theorem execReleaseW_does (a0 : Src) (a1 : Word) (s : State) : ∃ t, execReleaseW a0 a1 s = .next t ∧ Confined s [.sset, .bumped, .caused, .clk, .ident, .sideA, .sideB, .link, .outA, .outB, .frame, .queue, .port, .fixer, .front, .decim, .aper, .mx, .dev, .sheet, .latent, .print, .stage, .bank, .mode, .loupe, .mem] (fun _ => True) t ∧ KeptBy s t ∧ t.between := by
  unfold execReleaseW
  refine ⟨_, rfl, ?_, ?_, State.endCycle_between _⟩
  · repeat' (first | with_reducible exact conf_refl _ _ _ | with_reducible assumption | decide | exact fun _ _ => trivial | exact fun _ => trivial | exact trivial | with_reducible apply State.conf_commandWrite | with_reducible apply State.conf_endCycle)
  · repeat' (first | with_reducible exact kept_refl _ | with_reducible assumption | with_reducible apply State.kept_commandWrite | with_reducible apply State.kept_endCycle)

theorem execReleaseD_does (a0 : Src) (a1 : Word) (s : State) : ∃ t, execReleaseD a0 a1 s = .next t ∧ Confined s [.sset, .bumped, .caused, .clk, .ident, .sideA, .sideB, .link, .outA, .outB, .frame, .queue, .port, .fixer, .front, .decim, .aper, .mx, .dev, .sheet, .latent, .print, .stage, .bank, .mode, .loupe, .mem] (fun _ => True) t ∧ KeptBy s t ∧ t.between := by
  unfold execReleaseD
  refine ⟨_, rfl, ?_, ?_, State.endCycle_between _⟩
  · repeat' (first | with_reducible exact conf_refl _ _ _ | with_reducible assumption | decide | exact fun _ _ => trivial | exact fun _ => trivial | exact trivial | with_reducible apply State.conf_commandWrite | with_reducible apply State.conf_endCycle)
  · repeat' (first | with_reducible exact kept_refl _ | with_reducible assumption | with_reducible apply State.kept_commandWrite | with_reducible apply State.kept_endCycle)

theorem execRunDStart_does (a0 : Src) (a1 : Word) (s : State) : ∃ t, execRunDStart a0 a1 s = .next t ∧ Confined s [.sset, .bumped, .caused, .clk, .ident, .sideA, .sideB, .link, .outA, .outB, .frame, .queue, .port, .fixer, .front, .decim, .aper, .mx, .dev, .sheet, .latent, .print, .stage, .bank, .mode, .loupe, .mem] (fun _ => True) t ∧ KeptBy s t ∧ t.between := by
  unfold execRunDStart
  refine ⟨_, rfl, ?_, ?_, State.endCycle_between _⟩
  · repeat' (first | with_reducible exact conf_refl _ _ _ | with_reducible assumption | decide | exact fun _ _ => trivial | exact fun _ => trivial | exact trivial | with_reducible apply State.conf_commandWrite | with_reducible apply State.conf_endCycle)
  · repeat' (first | with_reducible exact kept_refl _ | with_reducible assumption | with_reducible apply State.kept_commandWrite | with_reducible apply State.kept_endCycle)

theorem execSteerSearch_does (a0 : Src) (a1 : Word) (s : State) : ∃ t, execSteerSearch a0 a1 s = .next t ∧ Confined s [.sset, .bumped, .caused, .clk, .ident, .sideA, .sideB, .link, .outA, .outB, .frame, .queue, .port, .fixer, .front, .decim, .aper, .mx, .dev, .sheet, .latent, .print, .stage, .bank, .mode, .loupe, .mem] (fun _ => True) t ∧ KeptBy s t ∧ t.between := by
  unfold execSteerSearch
  refine ⟨_, rfl, ?_, ?_, State.endCycle_between _⟩
  · repeat' (first | with_reducible exact conf_refl _ _ _ | with_reducible assumption | decide | exact fun _ _ => trivial | exact fun _ => trivial | exact trivial | with_reducible apply State.conf_commandWrite | with_reducible apply State.conf_endCycle)
  · repeat' (first | with_reducible exact kept_refl _ | with_reducible assumption | with_reducible apply State.kept_commandWrite | with_reducible apply State.kept_endCycle)

theorem execLatchClear_does (a0 : Src) (a1 : Word) (s : State) : ∃ t, execLatchClear a0 a1 s = .next t ∧ Confined s [.sset, .bumped, .caused, .clk, .ident, .sideA, .sideB, .link, .outA, .outB, .frame, .queue, .port, .fixer, .front, .decim, .aper, .mx, .dev, .sheet, .latent, .print, .stage, .bank, .mode, .loupe, .mem] (fun _ => True) t ∧ KeptBy s t ∧ t.between := by
  unfold execLatchClear
  refine ⟨_, rfl, ?_, ?_, State.endCycle_between _⟩
  · repeat' (first | with_reducible exact conf_refl _ _ _ | with_reducible assumption | decide | exact fun _ _ => trivial | exact fun _ => trivial | exact trivial | with_reducible apply State.conf_commandWrite | with_reducible apply State.conf_endCycle)
  · repeat' (first | with_reducible exact kept_refl _ | with_reducible assumption | with_reducible apply State.kept_commandWrite | with_reducible apply State.kept_endCycle)

theorem execBiasEnSet_does (a0 : Src) (a1 : Word) (s : State) : ∃ t, execBiasEnSet a0 a1 s = .next t ∧ Confined s [.sset, .bumped, .caused, .clk, .ident, .sideA, .sideB, .link, .outA, .outB, .frame, .queue, .port, .fixer, .front, .decim, .aper, .mx, .dev, .sheet, .latent, .print, .stage, .bank, .mode, .loupe, .mem] (fun _ => True) t ∧ KeptBy s t ∧ t.between := by
  unfold execBiasEnSet
  refine ⟨_, rfl, ?_, ?_, State.endCycle_between _⟩
  · repeat' (first | with_reducible exact conf_refl _ _ _ | with_reducible assumption | decide | exact fun _ _ => trivial | exact fun _ => trivial | exact trivial | with_reducible apply State.conf_commandWrite | with_reducible apply State.conf_endCycle)
  · repeat' (first | with_reducible exact kept_refl _ | with_reducible assumption | with_reducible apply State.kept_commandWrite | with_reducible apply State.kept_endCycle)

theorem execEcho_does (a0 : Src) (a1 : Word) (s : State) : ∃ t, execEcho a0 a1 s = .next t ∧ Confined s [.sset, .bumped, .caused, .clk, .ident, .sideA, .sideB, .link, .outA, .outB, .frame, .queue, .port, .fixer, .front, .decim, .aper, .mx, .dev, .sheet, .latent, .print, .stage, .bank, .mode, .loupe, .mem] (fun _ => True) t ∧ KeptBy s t ∧ t.between := by
  unfold execEcho
  refine ⟨_, rfl, ?_, ?_, State.endCycle_between _⟩
  · repeat' (first | with_reducible exact conf_refl _ _ _ | with_reducible assumption | decide | exact fun _ _ => trivial | exact fun _ => trivial | exact trivial | with_reducible apply State.conf_commandWrite | with_reducible apply State.conf_endCycle)
  · repeat' (first | with_reducible exact kept_refl _ | with_reducible assumption | with_reducible apply State.kept_commandWrite | with_reducible apply State.kept_endCycle)

theorem execSnapshot_does (a0 : Src) (a1 : Word) (s : State) : ∃ t, execSnapshot a0 a1 s = .next t ∧ Confined s [.sset, .bumped, .caused, .clk, .ident, .sideA, .sideB, .link, .outA, .outB, .frame, .queue, .port, .fixer, .front, .decim, .aper, .mx, .dev, .sheet, .latent, .print, .stage, .bank, .mode, .loupe, .mem] (fun _ => True) t ∧ KeptBy s t ∧ t.between := by
  unfold execSnapshot
  refine ⟨_, rfl, ?_, ?_, State.endCycle_between _⟩
  · repeat' (first | with_reducible exact conf_refl _ _ _ | with_reducible assumption | decide | exact fun _ _ => trivial | exact fun _ => trivial | exact trivial | with_reducible apply State.conf_commandWrite | with_reducible apply State.conf_endCycle)
  · repeat' (first | with_reducible exact kept_refl _ | with_reducible assumption | with_reducible apply State.kept_commandWrite | with_reducible apply State.kept_endCycle)

theorem execExtreme_does (a0 : Src) (a1 : Word) (s : State) : ∃ t, execExtreme a0 a1 s = .next t ∧ Confined s [.sset, .bumped, .caused, .clk, .ident, .sideA, .sideB, .link, .outA, .outB, .frame, .queue, .port, .fixer, .front, .decim, .aper, .mx, .dev, .sheet, .latent, .print, .stage, .bank, .mode, .loupe, .mem] (fun _ => True) t ∧ KeptBy s t ∧ t.between := by
  unfold execExtreme
  refine ⟨_, rfl, ?_, ?_, State.endCycle_between _⟩
  · repeat' (first | with_reducible exact conf_refl _ _ _ | with_reducible assumption | decide | exact fun _ _ => trivial | exact fun _ => trivial | exact trivial | with_reducible apply State.conf_commandWrite | with_reducible apply State.conf_endCycle)
  · repeat' (first | with_reducible exact kept_refl _ | with_reducible assumption | with_reducible apply State.kept_commandWrite | with_reducible apply State.kept_endCycle)

theorem execPatchSum_does (a0 : Src) (a1 : Word) (s : State) : ∃ t, execPatchSum a0 a1 s = .next t ∧ Confined s [.sset, .bumped, .caused, .clk, .ident, .sideA, .sideB, .link, .outA, .outB, .frame, .queue, .port, .fixer, .front, .decim, .aper, .mx, .dev, .sheet, .latent, .print, .stage, .bank, .mode, .loupe, .mem] (fun _ => True) t ∧ KeptBy s t ∧ t.between := by
  unfold execPatchSum
  refine ⟨_, rfl, ?_, ?_, State.endCycle_between _⟩
  · repeat' (first | with_reducible exact conf_refl _ _ _ | with_reducible assumption | decide | exact fun _ _ => trivial | exact fun _ => trivial | exact trivial | with_reducible apply State.conf_commandWrite | with_reducible apply State.conf_endCycle)
  · repeat' (first | with_reducible exact kept_refl _ | with_reducible assumption | with_reducible apply State.kept_commandWrite | with_reducible apply State.kept_endCycle)

theorem execMbxPatchOp_does (a0 : Src) (a1 : Word) (s : State) : ∃ t, execMbxPatchOp a0 a1 s = .next t ∧ Confined s [.sset, .bumped, .caused, .clk, .ident, .sideA, .sideB, .link, .outA, .outB, .frame, .queue, .port, .fixer, .front, .decim, .aper, .mx, .dev, .sheet, .latent, .print, .stage, .bank, .mode, .loupe, .mem] (fun _ => True) t ∧ KeptBy s t ∧ t.between := by
  unfold execMbxPatchOp
  refine ⟨_, rfl, ?_, ?_, State.endCycle_between _⟩
  · repeat' (first | with_reducible exact conf_refl _ _ _ | with_reducible assumption | decide | exact fun _ _ => trivial | exact fun _ => trivial | exact trivial | with_reducible apply State.conf_commandWrite | with_reducible apply State.conf_endCycle)
  · repeat' (first | with_reducible exact kept_refl _ | with_reducible assumption | with_reducible apply State.kept_commandWrite | with_reducible apply State.kept_endCycle)

theorem execFixerClear_does (a0 : Src) (a1 : Word) (s : State) : ∃ t, execFixerClear a0 a1 s = .next t ∧ Confined s [.sset, .bumped, .caused, .clk, .ident, .sideA, .sideB, .link, .outA, .outB, .frame, .queue, .port, .fixer, .front, .decim, .aper, .mx, .dev, .sheet, .latent, .print, .stage, .bank, .mode, .loupe, .mem] (fun _ => True) t ∧ KeptBy s t ∧ t.between := by
  unfold execFixerClear
  refine ⟨_, rfl, ?_, ?_, State.endCycle_between _⟩
  · repeat' (first | with_reducible exact conf_refl _ _ _ | with_reducible assumption | decide | exact fun _ _ => trivial | exact fun _ => trivial | exact trivial | with_reducible apply State.conf_commandWrite | with_reducible apply State.conf_endCycle)
  · repeat' (first | with_reducible exact kept_refl _ | with_reducible assumption | with_reducible apply State.kept_commandWrite | with_reducible apply State.kept_endCycle)

end Sys2Proof.Machine
end

