-- ==== Sys2Proof/Laws/DoesArrayCmds.lean ====
section
/-! SUPPORT. What every command of Machine/ArrayCmds.lean does at most: it answers a next state, the parts and registers it can change,
and what no command breaks. -/

set_option linter.unusedTactic false
set_option linter.unreachableTactic false

namespace Sys2Proof.Machine

theorem execBiasRampEnd_does (a0 : Nat) (s : State) : ∃ t, execBiasRampEnd a0 s = .next t ∧ Confined s [.sset, .bumped, .caused, .fixer, .front] ((· ∈ [Reg.FIXER_FIXER_STATUS, Reg.FIXER_LOG_DROPS])) t ∧ KeptBy s t ∧ t.between := by
  unfold execBiasRampEnd
  refine ⟨_, rfl, ?_, ?_, State.endCycle_between _⟩
  · repeat' (first | with_reducible exact conf_refl _ _ _ | with_reducible assumption | decide | exact fun _ _ => trivial | exact fun _ => trivial | exact trivial | with_reducible apply State.conf_biasRamped | with_reducible apply State.conf_endCycle)
  · repeat' (first | with_reducible exact kept_refl _ | with_reducible assumption | with_reducible apply State.kept_biasRamped | with_reducible apply State.kept_endCycle)

theorem execBiasWindowEnd_does (a0 : Nat) (s : State) : ∃ t, execBiasWindowEnd a0 s = .next t ∧ Confined s [.sset, .bumped, .caused, .fixer, .front] ((· ∈ [Reg.FIXER_FIXER_STATUS, Reg.FIXER_LOG_DROPS])) t ∧ KeptBy s t ∧ t.between := by
  unfold execBiasWindowEnd
  refine ⟨_, rfl, ?_, ?_, State.endCycle_between _⟩
  · repeat' (first | with_reducible exact conf_refl _ _ _ | with_reducible assumption | decide | exact fun _ _ => trivial | exact fun _ => trivial | exact trivial | with_reducible apply State.conf_biasSettled | with_reducible apply State.conf_endCycle)
  · repeat' (first | with_reducible exact kept_refl _ | with_reducible assumption | with_reducible apply State.kept_biasSettled | with_reducible apply State.kept_endCycle)

theorem execBiasShort_does (a0 : Nat) (s : State) : ∃ t, execBiasShort a0 s = .next t ∧ Confined s [.sset, .bumped, .caused, .fixer, .front] ((· ∈ [Reg.FIXER_FIXER_STATUS, Reg.FIXER_LASTING_COUNT, Reg.FIXER_LOG_DROPS, Reg.FRONT_BIAS_EN, Reg.FRONT_BIAS_FAULTS, Reg.FRONT_BIAS_SHORT])) t ∧ KeptBy s t ∧ t.between := by
  unfold execBiasShort
  refine ⟨_, rfl, ?_, ?_, State.endCycle_between _⟩
  · repeat' (first | with_reducible exact conf_refl _ _ _ | with_reducible assumption | decide | exact fun _ _ => trivial | exact fun _ => trivial | exact trivial | with_reducible apply State.conf_shortStep | with_reducible apply State.conf_endCycle)
  · repeat' (first | with_reducible exact kept_refl _ | with_reducible assumption | with_reducible apply State.kept_shortStep | with_reducible apply State.kept_endCycle)

theorem execBiasRestart_does (a0 : Nat) (s : State) : ∃ t, execBiasRestart a0 s = .next t ∧ Confined s [.sset, .bumped, .caused, .fixer, .front] ((· ∈ [Reg.FIXER_FIXER_STATUS, Reg.FIXER_LOG_DROPS])) t ∧ KeptBy s t ∧ t.between := by
  unfold execBiasRestart
  refine ⟨_, rfl, ?_, ?_, State.endCycle_between _⟩
  · repeat' (first | with_reducible exact conf_refl _ _ _ | with_reducible assumption | decide | exact fun _ _ => trivial | exact fun _ => trivial | exact trivial | with_reducible apply State.conf_biasRestart | with_reducible apply State.conf_endCycle)
  · repeat' (first | with_reducible exact kept_refl _ | with_reducible assumption | with_reducible apply State.kept_biasRestart | with_reducible apply State.kept_endCycle)

theorem execBiasOpen_does (a0 : Nat) (s : State) : ∃ t, execBiasOpen a0 s = .next t ∧ Confined s [.sset, .bumped, .caused, .fixer, .front] ((· ∈ [Reg.FIXER_FIXER_STATUS, Reg.FIXER_LOG_DROPS, Reg.FRONT_BIAS_OPEN])) t ∧ KeptBy s t ∧ t.between := by
  unfold execBiasOpen
  refine ⟨_, rfl, ?_, ?_, State.endCycle_between _⟩
  · repeat' (first | with_reducible exact conf_refl _ _ _ | with_reducible assumption | decide | exact fun _ _ => trivial | exact fun _ => trivial | exact trivial | with_reducible apply State.conf_biasOpen | with_reducible apply State.conf_endCycle | with_reducible apply conf_ite | split)
  · repeat' (first | with_reducible exact kept_refl _ | with_reducible assumption | with_reducible apply State.kept_biasOpen | with_reducible apply State.kept_endCycle | with_reducible apply kept_ite | split)

theorem execBiasOpenRearm_does (a0 : Nat) (s : State) : ∃ t, execBiasOpenRearm a0 s = .next t ∧ Confined s [.sset, .bumped, .caused, .fixer, .front] ((· ∈ [Reg.FIXER_FIXER_STATUS, Reg.FIXER_LOG_DROPS])) t ∧ KeptBy s t ∧ t.between := by
  unfold execBiasOpenRearm
  refine ⟨_, rfl, ?_, ?_, State.endCycle_between _⟩
  · repeat' (first | with_reducible exact conf_refl _ _ _ | with_reducible assumption | decide | exact fun _ _ => trivial | exact fun _ => trivial | exact trivial | with_reducible apply State.conf_biasRearm | with_reducible apply State.conf_endCycle)
  · repeat' (first | with_reducible exact kept_refl _ | with_reducible assumption | with_reducible apply State.kept_biasRearm | with_reducible apply State.kept_endCycle)

theorem execChannelStartEnd_does (a0 : Nat) (s : State) : ∃ t, execChannelStartEnd a0 s = .next t ∧ Confined s [.sset, .bumped, .caused, .fixer, .front] ((· ∈ [Reg.FIXER_FIXER_STATUS, Reg.FIXER_LOG_DROPS])) t ∧ KeptBy s t ∧ t.between := by
  unfold execChannelStartEnd
  refine ⟨_, rfl, ?_, ?_, State.endCycle_between _⟩
  · repeat' (first | with_reducible exact conf_refl _ _ _ | with_reducible assumption | decide | exact fun _ _ => trivial | exact fun _ => trivial | exact trivial | with_reducible apply State.conf_chanStarted | with_reducible apply State.conf_endCycle)
  · repeat' (first | with_reducible exact kept_refl _ | with_reducible assumption | with_reducible apply State.kept_chanStarted | with_reducible apply State.kept_endCycle)

theorem execWatchStartEnd_does (s : State) : ∃ t, execWatchStartEnd s = .next t ∧ Confined s [.sset, .bumped, .caused, .fixer, .front] ((· ∈ [Reg.FIXER_FIXER_STATUS, Reg.FIXER_LOG_DROPS])) t ∧ KeptBy s t ∧ t.between := by
  unfold execWatchStartEnd
  refine ⟨_, rfl, ?_, ?_, State.endCycle_between _⟩
  · repeat' (first | with_reducible exact conf_refl _ _ _ | with_reducible assumption | decide | exact fun _ _ => trivial | exact fun _ => trivial | exact trivial | with_reducible apply State.conf_endCycle | with_reducible apply State.conf_watchStarted)
  · repeat' (first | with_reducible exact kept_refl _ | with_reducible assumption | with_reducible apply State.kept_endCycle | with_reducible apply State.kept_watchStarted)

theorem execConverterOverload_does (a0 : Nat) (s : State) : ∃ t, execConverterOverload a0 s = .next t ∧ Confined s [.sset, .bumped, .caused, .fixer, .stage] ((· ∈ [Reg.FIXER_FIXER_STATUS, Reg.FIXER_LOG_DROPS, Reg.FRONT_CLIP_STATUS, Reg.FRONT_FRONT_STATUS])) t ∧ KeptBy s t ∧ t.between := by
  unfold execConverterOverload
  refine ⟨_, rfl, ?_, ?_, State.endCycle_between _⟩
  · repeat' (first | with_reducible exact conf_refl _ _ _ | with_reducible assumption | decide | exact fun _ _ => trivial | exact fun _ => trivial | exact trivial | with_reducible apply State.conf_overload | with_reducible apply State.conf_endCycle)
  · repeat' (first | with_reducible exact kept_refl _ | with_reducible assumption | with_reducible apply State.kept_overload | with_reducible apply State.kept_endCycle)

theorem execPdmDecimatorStart_does (s : State) : ∃ t, execPdmDecimatorStart s = .next t ∧ Confined s [.sset, .bumped, .caused, .fixer, .front] ((· ∈ [Reg.FIXER_FIXER_STATUS, Reg.FIXER_LOG_DROPS])) t ∧ KeptBy s t ∧ t.between := by
  unfold execPdmDecimatorStart
  refine ⟨_, rfl, ?_, ?_, State.endCycle_between _⟩
  · repeat' (first | with_reducible exact conf_refl _ _ _ | with_reducible assumption | decide | exact fun _ _ => trivial | exact fun _ => trivial | exact trivial | with_reducible apply State.conf_endCycle | with_reducible apply State.conf_pdmDecimate)
  · repeat' (first | with_reducible exact kept_refl _ | with_reducible assumption | with_reducible apply State.kept_endCycle | with_reducible apply State.kept_pdmDecimate)

theorem execPdmReady_does (s : State) : ∃ t, execPdmReady s = .next t ∧ Confined s [.sset, .bumped, .caused, .fixer, .front] ((· ∈ [Reg.FIXER_FIXER_STATUS, Reg.FIXER_LOG_DROPS, Reg.FRONT_FRONT_STATUS])) t ∧ KeptBy s t ∧ t.between := by
  unfold execPdmReady
  refine ⟨_, rfl, ?_, ?_, State.endCycle_between _⟩
  · repeat' (first | with_reducible exact conf_refl _ _ _ | with_reducible assumption | decide | exact fun _ _ => trivial | exact fun _ => trivial | exact trivial | with_reducible apply State.conf_endCycle | with_reducible apply State.conf_pdmBecomesReady)
  · repeat' (first | with_reducible exact kept_refl _ | with_reducible assumption | with_reducible apply State.kept_endCycle | with_reducible apply State.kept_pdmBecomesReady)

theorem execCaptureDone_does (s : State) : ∃ t, execCaptureDone s = .next t ∧ Confined s [.sset, .bumped, .caused, .fixer, .front] ((· ∈ [Reg.FIXER_FIXER_STATUS, Reg.FIXER_LOG_DROPS, Reg.FRONT_FRONT_STATUS])) t ∧ KeptBy s t ∧ t.between := by
  unfold execCaptureDone
  refine ⟨_, rfl, ?_, ?_, State.endCycle_between _⟩
  · repeat' (first | with_reducible exact conf_refl _ _ _ | with_reducible assumption | decide | exact fun _ _ => trivial | exact fun _ => trivial | exact trivial | with_reducible apply State.conf_endCycle | with_reducible apply State.conf_captureDone)
  · repeat' (first | with_reducible exact kept_refl _ | with_reducible assumption | with_reducible apply State.kept_endCycle | with_reducible apply State.kept_captureDone)

theorem execHqBoundary_does (a0 : HqIn) (s : State) : ∃ t, execHqBoundary a0 s = .next t ∧ Confined s [.sset, .bumped, .caused, .queue, .fixer, .front, .decim, .aper, .dev, .latent, .stage, .bank, .mem, .free] ((· ∈ [Reg.APER_APER_STATUS, Reg.APER_SAT_COUNT, Reg.DECIM_DECIM_STATUS, Reg.DECIM_SAT_COUNT, Reg.FIXER_FIXER_STATUS, Reg.FIXER_LASTING_COUNT, Reg.FIXER_LOG_DROPS, Reg.LATENT_LAT_STATUS, Reg.TANK_CE_ADDR, Reg.TANK_CE_COUNT, Reg.TANK_FOG_PASSES, Reg.TANK_FOG_SKIPS, Reg.TANK_TANK_STATUS, Reg.TANK_UE_ADDR, Reg.TANK_UE_COUNT])) t ∧ KeptBy s t ∧ t.between := by
  unfold execHqBoundary
  refine ⟨_, rfl, ?_, ?_, State.endCycle_between _⟩
  · repeat' (first | with_reducible exact conf_refl _ _ _ | with_reducible assumption | decide | exact fun _ _ => trivial | exact fun _ => trivial | exact trivial | with_reducible apply State.conf_hqBoundary | with_reducible apply State.conf_endCycle)
  · repeat' (first | with_reducible exact kept_refl _ | with_reducible assumption | with_reducible apply State.kept_hqBoundary | with_reducible apply State.kept_endCycle)

theorem execLpBoundary_does (a0 : List Bool) (a1 : List (Nat × Nat)) (s : State) : ∃ t, execLpBoundary a0 a1 s = .next t ∧ Confined s [.sset, .bumped, .caused, .queue, .fixer, .decim, .dev, .latent, .bank, .mem] ((· ∈ [Reg.DECIM_DECIM_STATUS, Reg.DECIM_SAT_COUNT, Reg.FIXER_FIXER_STATUS, Reg.FIXER_LASTING_COUNT, Reg.FIXER_LOG_DROPS, Reg.LATENT_LAT_STATUS, Reg.TANK_CE_ADDR, Reg.TANK_CE_COUNT, Reg.TANK_FOG_PASSES, Reg.TANK_FOG_SKIPS, Reg.TANK_TANK_STATUS, Reg.TANK_UE_ADDR, Reg.TANK_UE_COUNT])) t ∧ KeptBy s t ∧ t.between := by
  unfold execLpBoundary
  refine ⟨_, rfl, ?_, ?_, State.endCycle_between _⟩
  · repeat' (first | with_reducible exact conf_refl _ _ _ | with_reducible assumption | decide | exact fun _ _ => trivial | exact fun _ => trivial | exact trivial | with_reducible apply State.conf_lpBoundary | with_reducible apply State.conf_endCycle)
  · repeat' (first | with_reducible exact kept_refl _ | with_reducible assumption | with_reducible apply State.kept_lpBoundary | with_reducible apply State.kept_endCycle)

theorem execPathStop_does (a0 : Bool) (s : State) : ∃ t, execPathStop a0 s = .next t ∧ Confined s [.sset, .bumped, .caused, .fixer, .decim] ((· ∈ [Reg.DECIM_DECIM_STATUS, Reg.DECIM_SWAP_COUNT, Reg.FIXER_FIXER_STATUS, Reg.FIXER_LOG_DROPS])) t ∧ KeptBy s t ∧ t.between := by
  unfold execPathStop
  refine ⟨_, rfl, ?_, ?_, State.endCycle_between _⟩
  · repeat' (first | with_reducible exact conf_refl _ _ _ | with_reducible assumption | decide | exact fun _ _ => trivial | exact fun _ => trivial | exact trivial | with_reducible apply State.conf_pathStop | with_reducible apply State.conf_endCycle | with_reducible apply conf_ite | split)
  · repeat' (first | with_reducible exact kept_refl _ | with_reducible assumption | with_reducible apply State.kept_pathStop | with_reducible apply State.kept_endCycle | with_reducible apply kept_ite | split)

theorem execPathStart_does (a0 : Bool) (s : State) : ∃ t, execPathStart a0 s = .next t ∧ Confined s [.sset, .bumped, .caused, .fixer, .decim] ((· ∈ [Reg.FIXER_FIXER_STATUS, Reg.FIXER_LOG_DROPS])) t ∧ KeptBy s t ∧ t.between := by
  unfold execPathStart
  refine ⟨_, rfl, ?_, ?_, State.endCycle_between _⟩
  · repeat' (first | with_reducible exact conf_refl _ _ _ | with_reducible assumption | decide | exact fun _ _ => trivial | exact fun _ => trivial | exact trivial | with_reducible apply State.conf_pathStart | with_reducible apply State.conf_endCycle | with_reducible apply conf_ite | split)
  · repeat' (first | with_reducible exact kept_refl _ | with_reducible assumption | with_reducible apply State.kept_pathStart | with_reducible apply State.kept_endCycle | with_reducible apply kept_ite | split)

theorem execPrimingEnd_does (s : State) : ∃ t, execPrimingEnd s = .next t ∧ Confined s [.sset, .bumped, .caused, .fixer, .decim] ((· ∈ [Reg.FIXER_FIXER_STATUS, Reg.FIXER_LOG_DROPS])) t ∧ KeptBy s t ∧ t.between := by
  unfold execPrimingEnd
  refine ⟨_, rfl, ?_, ?_, State.endCycle_between _⟩
  · repeat' (first | with_reducible exact conf_refl _ _ _ | with_reducible assumption | decide | exact fun _ _ => trivial | exact fun _ => trivial | exact trivial | with_reducible apply State.conf_endCycle | with_reducible apply State.conf_primed)
  · repeat' (first | with_reducible exact kept_refl _ | with_reducible assumption | with_reducible apply State.kept_endCycle | with_reducible apply State.kept_primed)

theorem execPhaseDone_does (s : State) : ∃ t, execPhaseDone s = .next t ∧ Confined s [.sset, .bumped, .caused, .fixer, .decim] ((· ∈ [Reg.DECIM_DECIM_STATUS, Reg.FIXER_FIXER_STATUS, Reg.FIXER_LOG_DROPS])) t ∧ KeptBy s t ∧ t.between := by
  unfold execPhaseDone
  refine ⟨_, rfl, ?_, ?_, State.endCycle_between _⟩
  · repeat' (first | with_reducible exact conf_refl _ _ _ | with_reducible assumption | decide | exact fun _ _ => trivial | exact fun _ => trivial | exact trivial | with_reducible apply State.conf_endCycle | with_reducible apply State.conf_phaseDone)
  · repeat' (first | with_reducible exact kept_refl _ | with_reducible assumption | with_reducible apply State.kept_endCycle | with_reducible apply State.kept_phaseDone)

theorem execSwapApply_does (s : State) : ∃ t, execSwapApply s = .next t ∧ Confined s [.sset, .bumped, .caused, .fixer, .decim] ((· ∈ [Reg.DECIM_DECIM_STATUS, Reg.DECIM_SWAP_COUNT, Reg.FIXER_FIXER_STATUS, Reg.FIXER_LOG_DROPS])) t ∧ KeptBy s t ∧ t.between := by
  unfold execSwapApply
  refine ⟨_, rfl, ?_, ?_, State.endCycle_between _⟩
  · repeat' (first | with_reducible exact conf_refl _ _ _ | with_reducible assumption | decide | exact fun _ _ => trivial | exact fun _ => trivial | exact trivial | with_reducible apply State.conf_endCycle | with_reducible apply State.conf_swapStep)
  · repeat' (first | with_reducible exact kept_refl _ | with_reducible assumption | with_reducible apply State.kept_endCycle | with_reducible apply State.kept_swapStep)

theorem execBeamXfadeStart_does (a0 : Nat) (s : State) : ∃ t, execBeamXfadeStart a0 s = .next t ∧ Confined s [.sset, .bumped, .caused, .fixer, .aper] ((· ∈ [Reg.FIXER_FIXER_STATUS, Reg.FIXER_LOG_DROPS])) t ∧ KeptBy s t ∧ t.between := by
  unfold execBeamXfadeStart
  refine ⟨_, rfl, ?_, ?_, State.endCycle_between _⟩
  · repeat' (first | with_reducible exact conf_refl _ _ _ | with_reducible assumption | decide | exact fun _ _ => trivial | exact fun _ => trivial | exact trivial | with_reducible apply State.conf_beamFade | with_reducible apply State.conf_endCycle)
  · repeat' (first | with_reducible exact kept_refl _ | with_reducible assumption | with_reducible apply State.kept_beamFade | with_reducible apply State.kept_endCycle)

theorem execXfadeDone_does (a0 : Nat) (s : State) : ∃ t, execXfadeDone a0 s = .next t ∧ Confined s [.sset, .bumped, .caused, .fixer, .aper] ((· ∈ [Reg.APER_APER_STATUS, Reg.APER_COMMIT_COUNT, Reg.FIXER_FIXER_STATUS, Reg.FIXER_LOG_DROPS])) t ∧ KeptBy s t ∧ t.between := by
  unfold execXfadeDone
  refine ⟨_, rfl, ?_, ?_, State.endCycle_between _⟩
  · repeat' (first | with_reducible exact conf_refl _ _ _ | with_reducible assumption | decide | exact fun _ _ => trivial | exact fun _ => trivial | exact trivial | with_reducible apply State.conf_beamFaded | with_reducible apply State.conf_endCycle)
  · repeat' (first | with_reducible exact kept_refl _ | with_reducible assumption | with_reducible apply State.kept_beamFaded | with_reducible apply State.kept_endCycle)

theorem execScaleApply_does (s : State) : ∃ t, execScaleApply s = .next t ∧ Confined s [.sset, .bumped, .caused, .fixer, .aper] ((· ∈ [Reg.FIXER_FIXER_STATUS, Reg.FIXER_LOG_DROPS])) t ∧ KeptBy s t ∧ t.between := by
  unfold execScaleApply
  refine ⟨_, rfl, ?_, ?_, State.endCycle_between _⟩
  · repeat' (first | with_reducible exact conf_refl _ _ _ | with_reducible assumption | decide | exact fun _ _ => trivial | exact fun _ => trivial | exact trivial | with_reducible apply State.conf_endCycle | with_reducible apply State.conf_scaleStep)
  · repeat' (first | with_reducible exact kept_refl _ | with_reducible assumption | with_reducible apply State.kept_endCycle | with_reducible apply State.kept_scaleStep)

theorem execPlanSwitch_does (s : State) : ∃ t, execPlanSwitch s = .next t ∧ Confined s [.sset, .bumped, .caused, .fixer, .mx] ((· ∈ [Reg.FIXER_FIXER_STATUS, Reg.FIXER_LOG_DROPS, Reg.MX_MX_STATUS])) t ∧ KeptBy s t ∧ t.between := by
  unfold execPlanSwitch
  refine ⟨_, rfl, ?_, ?_, State.endCycle_between _⟩
  · repeat' (first | with_reducible exact conf_refl _ _ _ | with_reducible assumption | decide | exact fun _ _ => trivial | exact fun _ => trivial | exact trivial | with_reducible apply State.conf_endCycle | with_reducible apply State.conf_planStep)
  · repeat' (first | with_reducible exact kept_refl _ | with_reducible assumption | with_reducible apply State.kept_endCycle | with_reducible apply State.kept_planStep)

end Sys2Proof.Machine
end

