-- ==== Sys2Proof/Laws/DoesWatchCmds.lean ====
section
/-! SUPPORT. What every command of Machine/WatchCmds.lean does at most: it answers a next state, the parts and registers it can change,
and what no command breaks. -/

set_option linter.unusedTactic false
set_option linter.unreachableTactic false

namespace Sys2Proof.Machine

theorem execMbxDone_does (a0 : Word) (a1 : Sensors) (s : State) : ∃ t, execMbxDone a0 a1 s = .next t ∧ Confined s [.sset, .bumped, .caused, .fixer, .bank, .loupe, .free] ((· ∈ [Reg.FIXER_FIXER_STATUS, Reg.FIXER_LOG_DROPS, Reg.LOUPE_LOUPE_STATUS, Reg.LOUPE_MBX_RESULT, Reg.LOUPE_SUPPLY_0, Reg.LOUPE_SUPPLY_1, Reg.LOUPE_SUPPLY_2, Reg.LOUPE_TEMP_01, Reg.LOUPE_TEMP_23, Reg.TANK_FOG_PASSES, Reg.TANK_FOG_SKIPS, Reg.TANK_TANK_STATUS])) t ∧ KeptBy s t ∧ t.between := by
  unfold execMbxDone
  refine ⟨_, rfl, ?_, ?_, State.endCycle_between _⟩
  · repeat' (first | with_reducible exact conf_refl _ _ _ | with_reducible assumption | decide | exact fun _ _ => trivial | exact fun _ => trivial | exact trivial | with_reducible apply State.conf_mbxDone | with_reducible apply State.conf_endCycle | with_reducible apply conf_ite | split)
  · repeat' (first | with_reducible exact kept_refl _ | with_reducible assumption | with_reducible apply State.kept_mbxDone | with_reducible apply State.kept_endCycle | with_reducible apply kept_ite | split)

theorem execDevBlock_does (a0 : DevIn) (s : State) : ∃ t, execDevBlock a0 s = .next t ∧ Confined s [.sset, .bumped, .caused, .queue, .fixer, .dev, .sheet, .latent, .bank, .mem] ((· ∈ [Reg.DEV_ACT_COUNT, Reg.DEV_ALARM_COUNT, Reg.DEV_DEV_STATUS, Reg.DEV_WAKE_COUNT, Reg.DEV_WAKE_STATUS, Reg.FIXER_FIXER_STATUS, Reg.FIXER_LASTING_COUNT, Reg.FIXER_LOG_DROPS, Reg.LATENT_LAT_STATUS, Reg.LATENT_REC_COUNT, Reg.SHEET_ABANDON_COUNT, Reg.SHEET_MATCH_COUNT, Reg.SHEET_SHEET_STATUS, Reg.TANK_CE_ADDR, Reg.TANK_CE_COUNT, Reg.TANK_FOG_PASSES, Reg.TANK_FOG_SKIPS, Reg.TANK_TANK_STATUS, Reg.TANK_UE_ADDR, Reg.TANK_UE_COUNT])) t ∧ KeptBy s t ∧ t.between := by
  unfold execDevBlock
  refine ⟨_, rfl, ?_, ?_, State.endCycle_between _⟩
  · repeat' (first | with_reducible exact conf_refl _ _ _ | with_reducible assumption | decide | exact fun _ _ => trivial | exact fun _ => trivial | exact trivial | with_reducible apply State.conf_blockStep | with_reducible apply State.conf_endCycle)
  · repeat' (first | with_reducible exact kept_refl _ | with_reducible assumption | with_reducible apply State.kept_blockStep | with_reducible apply State.kept_endCycle)

theorem execJoinReached_does (s : State) : ∃ t, execJoinReached s = .next t ∧ Confined s [.sset, .bumped, .caused, .queue, .fixer, .latent, .bank, .mem] ((· ∈ [Reg.FIXER_FIXER_STATUS, Reg.FIXER_LASTING_COUNT, Reg.FIXER_LOG_DROPS, Reg.TANK_CE_ADDR, Reg.TANK_CE_COUNT, Reg.TANK_FOG_PASSES, Reg.TANK_FOG_SKIPS, Reg.TANK_TANK_STATUS, Reg.TANK_UE_ADDR, Reg.TANK_UE_COUNT])) t ∧ KeptBy s t ∧ t.between := by
  unfold execJoinReached
  refine ⟨_, rfl, ?_, ?_, State.endCycle_between _⟩
  · repeat' (first | with_reducible exact conf_refl _ _ _ | with_reducible assumption | decide | exact fun _ _ => trivial | exact fun _ => trivial | exact trivial | with_reducible apply State.conf_reachJoin | with_reducible apply State.conf_endCycle | with_reducible apply conf_ite | split)
  · repeat' (first | with_reducible exact kept_refl _ | with_reducible assumption | with_reducible apply State.kept_reachJoin | with_reducible apply State.kept_endCycle | with_reducible apply kept_ite | split)

theorem execPrerollFilled_does (s : State) : ∃ t, execPrerollFilled s = .next t ∧ Confined s [.sset, .bumped, .caused, .fixer, .sheet, .latent] ((· ∈ [Reg.FIXER_FIXER_STATUS, Reg.FIXER_LOG_DROPS, Reg.LATENT_LAT_STATUS])) t ∧ KeptBy s t ∧ t.between := by
  unfold execPrerollFilled
  refine ⟨_, rfl, ?_, ?_, State.endCycle_between _⟩
  · repeat' (first | with_reducible exact conf_refl _ _ _ | with_reducible assumption | decide | exact fun _ _ => trivial | exact fun _ => trivial | exact trivial | with_reducible apply State.conf_endCycle | with_reducible apply State.conf_prerollStep)
  · repeat' (first | with_reducible exact kept_refl _ | with_reducible assumption | with_reducible apply State.kept_endCycle | with_reducible apply State.kept_prerollStep)

theorem execLatentFreeze_does (a0 : Bool) (s : State) : ∃ t, execLatentFreeze a0 s = .next t ∧ Confined s [.sset, .bumped, .caused, .fixer, .latent] ((· ∈ [Reg.FIXER_FIXER_STATUS, Reg.FIXER_LOG_DROPS, Reg.LATENT_LAT_STATUS])) t ∧ KeptBy s t ∧ t.between := by
  unfold execLatentFreeze
  refine ⟨_, rfl, ?_, ?_, State.endCycle_between _⟩
  · repeat' (first | with_reducible exact conf_refl _ _ _ | with_reducible assumption | decide | exact fun _ _ => trivial | exact fun _ => trivial | exact trivial | with_reducible apply State.conf_freeze | with_reducible apply State.conf_endCycle | with_reducible apply conf_ite | split)
  · repeat' (first | with_reducible exact kept_refl _ | with_reducible assumption | with_reducible apply State.kept_freeze | with_reducible apply State.kept_endCycle | with_reducible apply kept_ite | split)

theorem execLoupeReady_does (s : State) : ∃ t, execLoupeReady s = .next t ∧ Confined s [.sset, .bumped, .caused, .queue, .fixer, .bank, .mode, .loupe, .mem] ((· ∈ [Reg.FIXER_FIXER_STATUS, Reg.FIXER_LASTING_COUNT, Reg.FIXER_LOG_DROPS, Reg.TANK_CE_ADDR, Reg.TANK_CE_COUNT, Reg.TANK_FOG_PASSES, Reg.TANK_FOG_SKIPS, Reg.TANK_TANK_STATUS, Reg.TANK_UE_ADDR, Reg.TANK_UE_COUNT])) t ∧ KeptBy s t ∧ t.between := by
  unfold execLoupeReady
  refine ⟨_, rfl, ?_, ?_, State.endCycle_between _⟩
  · repeat' (first | with_reducible exact conf_refl _ _ _ | with_reducible assumption | decide | exact fun _ _ => trivial | exact fun _ => trivial | exact trivial | with_reducible apply State.conf_loupeReady | with_reducible apply State.conf_endCycle | with_reducible apply conf_ite | split)
  · repeat' (first | with_reducible exact kept_refl _ | with_reducible assumption | with_reducible apply State.kept_loupeReady | with_reducible apply State.kept_endCycle | with_reducible apply kept_ite | split)

theorem execLoupeShutdownDone_does (s : State) : ∃ t, execLoupeShutdownDone s = .next t ∧ Confined s [.sset, .bumped, .caused, .queue, .fixer, .bank, .loupe, .mem] ((· ∈ [Reg.FIXER_FIXER_STATUS, Reg.FIXER_LASTING_COUNT, Reg.FIXER_LOG_DROPS, Reg.TANK_CE_ADDR, Reg.TANK_CE_COUNT, Reg.TANK_FOG_PASSES, Reg.TANK_FOG_SKIPS, Reg.TANK_TANK_STATUS, Reg.TANK_UE_ADDR, Reg.TANK_UE_COUNT])) t ∧ KeptBy s t ∧ t.between := by
  unfold execLoupeShutdownDone
  refine ⟨_, rfl, ?_, ?_, State.endCycle_between _⟩
  · repeat' (first | with_reducible exact conf_refl _ _ _ | with_reducible assumption | decide | exact fun _ _ => trivial | exact fun _ => trivial | exact trivial | with_reducible apply State.conf_endCycle | with_reducible apply State.conf_loupeShut)
  · repeat' (first | with_reducible exact kept_refl _ | with_reducible assumption | with_reducible apply State.kept_endCycle | with_reducible apply State.kept_loupeShut)

theorem execSensorSample_does (a0 : Sensors) (s : State) : ∃ t, execSensorSample a0 s = .next t ∧ Confined s [.sset, .bumped, .caused, .fixer, .loupe] ((· ∈ [Reg.FIXER_FIXER_STATUS, Reg.FIXER_LOG_DROPS, Reg.LOUPE_LOUPE_STATUS, Reg.LOUPE_SUPPLY_0, Reg.LOUPE_SUPPLY_1, Reg.LOUPE_SUPPLY_2, Reg.LOUPE_TEMP_01, Reg.LOUPE_TEMP_23])) t ∧ KeptBy s t ∧ t.between := by
  unfold execSensorSample
  refine ⟨_, rfl, ?_, ?_, State.endCycle_between _⟩
  · repeat' (first | with_reducible exact conf_refl _ _ _ | with_reducible assumption | decide | exact fun _ _ => trivial | exact fun _ => trivial | exact trivial | with_reducible apply State.conf_takeSensors | with_reducible apply State.conf_endCycle | with_reducible apply conf_ite | split)
  · repeat' (first | with_reducible exact kept_refl _ | with_reducible assumption | with_reducible apply State.kept_takeSensors | with_reducible apply State.kept_endCycle | with_reducible apply kept_ite | split)

theorem execTjTrip_does (a0 : Nat) (s : State) : ∃ t, execTjTrip a0 s = .next t ∧ Confined s [.sset, .bumped, .caused, .fixer, .loupe] ((· ∈ [Reg.FIXER_FIXER_STATUS, Reg.FIXER_LOG_DROPS, Reg.LOUPE_LOUPE_STATUS, Reg.PRINT_MASTER_A, Reg.PRINT_MASTER_B])) t ∧ KeptBy s t ∧ t.between := by
  unfold execTjTrip
  refine ⟨_, rfl, ?_, ?_, State.endCycle_between _⟩
  · repeat' (first | with_reducible exact conf_refl _ _ _ | with_reducible assumption | decide | exact fun _ _ => trivial | exact fun _ => trivial | exact trivial | with_reducible apply State.conf_tripStep | with_reducible apply State.conf_endCycle)
  · repeat' (first | with_reducible exact kept_refl _ | with_reducible assumption | with_reducible apply State.kept_tripStep | with_reducible apply State.kept_endCycle)

theorem execPatchVerifyDone_does (s : State) : ∃ t, execPatchVerifyDone s = .next t ∧ Confined s [.sset, .bumped, .caused, .fixer, .bank, .loupe] ((· ∈ [Reg.FIXER_FIXER_STATUS, Reg.FIXER_LOG_DROPS, Reg.LOUPE_LOUPE_STATUS, Reg.LOUPE_PATCH_FAILS, Reg.LOUPE_PATCH_INFO, Reg.TANK_FOG_PASSES, Reg.TANK_FOG_SKIPS, Reg.TANK_TANK_STATUS])) t ∧ KeptBy s t ∧ t.between := by
  unfold execPatchVerifyDone
  refine ⟨_, rfl, ?_, ?_, State.endCycle_between _⟩
  · repeat' (first | with_reducible exact conf_refl _ _ _ | with_reducible assumption | decide | exact fun _ _ => trivial | exact fun _ => trivial | exact trivial | with_reducible apply State.conf_verifyDone | with_reducible apply State.conf_endCycle | with_reducible apply conf_ite | split)
  · repeat' (first | with_reducible exact kept_refl _ | with_reducible assumption | with_reducible apply State.kept_verifyDone | with_reducible apply State.kept_endCycle | with_reducible apply kept_ite | split)

theorem execLifecycle_does (s : State) : ∃ t, execLifecycle s = .next t ∧ Confined s [.sset, .bumped, .caused, .queue, .fixer, .bank, .loupe, .mem] ((· ∈ [Reg.CHIP_TEST_A, Reg.CHIP_TEST_B, Reg.FIXER_FIXER_STATUS, Reg.FIXER_LASTING_COUNT, Reg.FIXER_LOG_DROPS, Reg.LOUPE_LOUPE_STATUS, Reg.TANK_CE_ADDR, Reg.TANK_CE_COUNT, Reg.TANK_FOG_PASSES, Reg.TANK_FOG_SKIPS, Reg.TANK_TANK_STATUS, Reg.TANK_UE_ADDR, Reg.TANK_UE_COUNT])) t ∧ KeptBy s t ∧ t.between := by
  unfold execLifecycle
  refine ⟨_, rfl, ?_, ?_, State.endCycle_between _⟩
  · repeat' (first | with_reducible exact conf_refl _ _ _ | with_reducible assumption | decide | exact fun _ _ => trivial | exact fun _ => trivial | exact trivial | with_reducible apply State.conf_lifecycle | with_reducible apply State.conf_endCycle | with_reducible apply conf_ite | split)
  · repeat' (first | with_reducible exact kept_refl _ | with_reducible assumption | with_reducible apply State.kept_lifecycle | with_reducible apply State.kept_endCycle | with_reducible apply kept_ite | split)

theorem execWatchdog_does (s : State) : ∃ t, execWatchdog s = .next t ∧ Confined s [.sset, .bumped, .caused, .fixer, .mode, .loupe] ((· ∈ [Reg.FIXER_FIXER_STATUS, Reg.FIXER_LASTING_COUNT, Reg.FIXER_LOG_DROPS, Reg.LOUPE_PATCH_INFO, Reg.LOUPE_SUPPLY_0, Reg.LOUPE_SUPPLY_1, Reg.LOUPE_SUPPLY_2, Reg.LOUPE_TEMP_01, Reg.LOUPE_TEMP_23, Reg.LOUPE_WDOG_COUNT])) t ∧ KeptBy s t ∧ t.between := by
  unfold execWatchdog
  refine ⟨_, rfl, ?_, ?_, State.endCycle_between _⟩
  · repeat' (first | with_reducible exact conf_refl _ _ _ | with_reducible assumption | decide | exact fun _ _ => trivial | exact fun _ => trivial | exact trivial | with_reducible apply State.conf_endCycle | with_reducible apply State.conf_expiryStep)
  · repeat' (first | with_reducible exact kept_refl _ | with_reducible assumption | with_reducible apply State.kept_endCycle | with_reducible apply State.kept_expiryStep)

theorem execFloorFuseRaised_does (s : State) : ∃ t, execFloorFuseRaised s = .next t ∧ Confined s [.sset, .bumped, .caused, .queue, .fixer, .bank, .loupe, .mem] ((· ∈ [Reg.FIXER_FIXER_STATUS, Reg.FIXER_LASTING_COUNT, Reg.FIXER_LOG_DROPS, Reg.LOUPE_LOUPE_STATUS, Reg.LOUPE_PATCH_INFO, Reg.TANK_CE_ADDR, Reg.TANK_CE_COUNT, Reg.TANK_FOG_PASSES, Reg.TANK_FOG_SKIPS, Reg.TANK_TANK_STATUS, Reg.TANK_UE_ADDR, Reg.TANK_UE_COUNT])) t ∧ KeptBy s t ∧ t.between := by
  unfold execFloorFuseRaised
  refine ⟨_, rfl, ?_, ?_, State.endCycle_between _⟩
  · repeat' (first | with_reducible exact conf_refl _ _ _ | with_reducible assumption | decide | exact fun _ _ => trivial | exact fun _ => trivial | exact trivial | with_reducible apply State.conf_raiseFloor | with_reducible apply State.conf_endCycle | with_reducible apply conf_ite | split)
  · repeat' (first | with_reducible exact kept_refl _ | with_reducible assumption | with_reducible apply State.kept_raiseFloor | with_reducible apply State.kept_endCycle | with_reducible apply kept_ite | split)

end Sys2Proof.Machine
end

