-- ==== Sys2Proof/Laws/DoesPrintCmds.lean ====
section
/-! SUPPORT. What every command of Machine/PrintCmds.lean does at most: it answers a next state, the parts and registers it can change,
and what no command breaks. -/

set_option linter.unusedTactic false
set_option linter.unreachableTactic false

namespace Sys2Proof.Machine

theorem execDriveAutoRestart_does (a0 : Nat) (s : State) : ∃ t, execDriveAutoRestart a0 s = .next t ∧ Confined s [.sset, .bumped, .caused, .fixer, .print, .stage] ((· ∈ [Reg.FIXER_FIXER_STATUS, Reg.FIXER_LOG_DROPS])) t ∧ KeptBy s t ∧ t.between := by
  unfold execDriveAutoRestart
  refine ⟨_, rfl, ?_, ?_, State.endCycle_between _⟩
  · repeat' (first | with_reducible exact conf_refl _ _ _ | with_reducible assumption | decide | exact fun _ _ => trivial | exact fun _ => trivial | exact trivial | with_reducible apply State.conf_autoRestart | with_reducible apply State.conf_endCycle | with_reducible apply conf_ite | split)
  · repeat' (first | with_reducible exact kept_refl _ | with_reducible assumption | with_reducible apply State.kept_autoRestart | with_reducible apply State.kept_endCycle | with_reducible apply kept_ite | split)

theorem execReadInstant_does (a0 : Nat) (a1 : ReadIn) (s : State) : ∃ t, execReadInstant a0 a1 s = .next t ∧ Confined s [.sset, .bumped, .caused, .fixer, .print, .stage, .free] ((· ∈ [Reg.FIXER_FIXER_STATUS, Reg.FIXER_LASTING_COUNT, Reg.FIXER_LOG_DROPS, Reg.PRINT_CLIP_COUNT, Reg.PRINT_MUTE_COUNT, Reg.PRINT_PRINT_STATUS, Reg.PRINT_PROOF_CTL_A, Reg.PRINT_PROOF_CTL_B])) t ∧ KeptBy s t ∧ t.between := by
  unfold execReadInstant
  refine ⟨_, rfl, ?_, ?_, State.endCycle_between _⟩
  · repeat' (first | with_reducible exact conf_refl _ _ _ | with_reducible assumption | decide | exact fun _ _ => trivial | exact fun _ => trivial | exact trivial | with_reducible apply State.conf_instantStep | with_reducible apply State.conf_endCycle)
  · repeat' (first | with_reducible exact kept_refl _ | with_reducible assumption | with_reducible apply State.kept_instantStep | with_reducible apply State.kept_endCycle)

theorem execChannelWakeEnd_does (a0 : Nat) (s : State) : ∃ t, execChannelWakeEnd a0 s = .next t ∧ Confined s [.sset, .bumped, .caused, .fixer, .print, .stage] ((· ∈ [Reg.FIXER_FIXER_STATUS, Reg.FIXER_LOG_DROPS])) t ∧ KeptBy s t ∧ t.between := by
  unfold execChannelWakeEnd
  refine ⟨_, rfl, ?_, ?_, State.endCycle_between _⟩
  · repeat' (first | with_reducible exact conf_refl _ _ _ | with_reducible assumption | decide | exact fun _ _ => trivial | exact fun _ => trivial | exact trivial | with_reducible apply State.conf_wakeEnd | with_reducible apply State.conf_endCycle | with_reducible apply conf_ite | split)
  · repeat' (first | with_reducible exact kept_refl _ | with_reducible assumption | with_reducible apply State.kept_wakeEnd | with_reducible apply State.kept_endCycle | with_reducible apply kept_ite | split)

theorem execZcTimeout_does (a0 : Nat) (s : State) : ∃ t, execZcTimeout a0 s = .next t ∧ Confined s [.sset, .bumped, .caused, .fixer, .print, .stage] ((· ∈ [Reg.FIXER_FIXER_STATUS, Reg.FIXER_LOG_DROPS, Reg.PRINT_PRINT_STATUS, Reg.PRINT_ZC_TIMEOUTS])) t ∧ KeptBy s t ∧ t.between := by
  unfold execZcTimeout
  refine ⟨_, rfl, ?_, ?_, State.endCycle_between _⟩
  · repeat' (first | with_reducible exact conf_refl _ _ _ | with_reducible assumption | decide | exact fun _ _ => trivial | exact fun _ => trivial | exact trivial | with_reducible apply State.conf_zcTimeout | with_reducible apply State.conf_endCycle | with_reducible apply conf_ite | split)
  · repeat' (first | with_reducible exact kept_refl _ | with_reducible assumption | with_reducible apply State.kept_zcTimeout | with_reducible apply State.kept_endCycle | with_reducible apply kept_ite | split)

theorem execRampEnd_does (a0 : Nat) (s : State) : ∃ t, execRampEnd a0 s = .next t ∧ Confined s [.sset, .bumped, .caused, .fixer, .print, .stage] ((· ∈ [Reg.FIXER_FIXER_STATUS, Reg.FIXER_LOG_DROPS, Reg.PRINT_START_COUNT])) t ∧ KeptBy s t ∧ t.between := by
  unfold execRampEnd
  refine ⟨_, rfl, ?_, ?_, State.endCycle_between _⟩
  · repeat' (first | with_reducible exact conf_refl _ _ _ | with_reducible assumption | decide | exact fun _ _ => trivial | exact fun _ => trivial | exact trivial | with_reducible apply State.conf_rampEnd | with_reducible apply State.conf_endCycle | with_reducible apply conf_ite | split)
  · repeat' (first | with_reducible exact kept_refl _ | with_reducible assumption | with_reducible apply State.kept_rampEnd | with_reducible apply State.kept_endCycle | with_reducible apply kept_ite | split)

theorem execBathEnd_does (a0 : Nat) (s : State) : ∃ t, execBathEnd a0 s = .next t ∧ Confined s [.sset, .bumped, .caused, .fixer, .print, .stage] ((· ∈ [Reg.FIXER_FIXER_STATUS, Reg.FIXER_LOG_DROPS, Reg.PRINT_MUTE_COUNT])) t ∧ KeptBy s t ∧ t.between := by
  unfold execBathEnd
  refine ⟨_, rfl, ?_, ?_, State.endCycle_between _⟩
  · repeat' (first | with_reducible exact conf_refl _ _ _ | with_reducible assumption | decide | exact fun _ _ => trivial | exact fun _ => trivial | exact trivial | with_reducible apply State.conf_bathEnd | with_reducible apply State.conf_endCycle | with_reducible apply conf_ite | split)
  · repeat' (first | with_reducible exact kept_refl _ | with_reducible assumption | with_reducible apply State.kept_bathEnd | with_reducible apply State.kept_endCycle | with_reducible apply kept_ite | split)

theorem execOffDwellEnd_does (a0 : Nat) (s : State) : ∃ t, execOffDwellEnd a0 s = .next t ∧ Confined s [.sset, .bumped, .caused, .fixer, .print, .stage] ((· ∈ [Reg.FIXER_FIXER_STATUS, Reg.FIXER_LOG_DROPS, Reg.PRINT_PROOF_CTL_A, Reg.PRINT_PROOF_CTL_B])) t ∧ KeptBy s t ∧ t.between := by
  unfold execOffDwellEnd
  refine ⟨_, rfl, ?_, ?_, State.endCycle_between _⟩
  · repeat' (first | with_reducible exact conf_refl _ _ _ | with_reducible assumption | decide | exact fun _ _ => trivial | exact fun _ => trivial | exact trivial | with_reducible apply State.conf_dwellEnd | with_reducible apply State.conf_endCycle | with_reducible apply conf_ite | split)
  · repeat' (first | with_reducible exact kept_refl _ | with_reducible assumption | with_reducible apply State.kept_dwellEnd | with_reducible apply State.kept_endCycle | with_reducible apply kept_ite | split)

theorem execMuteResume_does (a0 : Nat) (s : State) : ∃ t, execMuteResume a0 s = .next t ∧ Confined s [.sset, .bumped, .caused, .fixer, .print, .stage] ((· ∈ [Reg.FIXER_FIXER_STATUS, Reg.FIXER_LOG_DROPS])) t ∧ KeptBy s t ∧ t.between := by
  unfold execMuteResume
  refine ⟨_, rfl, ?_, ?_, State.endCycle_between _⟩
  · repeat' (first | with_reducible exact conf_refl _ _ _ | with_reducible assumption | decide | exact fun _ _ => trivial | exact fun _ => trivial | exact trivial | with_reducible apply State.conf_muteResume | with_reducible apply State.conf_endCycle | with_reducible apply conf_ite | split)
  · repeat' (first | with_reducible exact kept_refl _ | with_reducible assumption | with_reducible apply State.kept_muteResume | with_reducible apply State.kept_endCycle | with_reducible apply kept_ite | split)

theorem execProofDone_does (a0 : BitVec 16) (s : State) : ∃ t, execProofDone a0 s = .next t ∧ Confined s [.sset, .bumped, .caused, .fixer, .print] ((· ∈ [Reg.FIXER_FIXER_STATUS, Reg.FIXER_LOG_DROPS, Reg.PRINT_PRINT_STATUS, Reg.PRINT_PROOF_CTL_A, Reg.PRINT_PROOF_CTL_B])) t ∧ KeptBy s t ∧ t.between := by
  unfold execProofDone
  refine ⟨_, rfl, ?_, ?_, State.endCycle_between _⟩
  · repeat' (first | with_reducible exact conf_refl _ _ _ | with_reducible assumption | decide | exact fun _ _ => trivial | exact fun _ => trivial | exact trivial | with_reducible apply State.conf_proofDone | with_reducible apply State.conf_endCycle | with_reducible apply conf_ite | split)
  · repeat' (first | with_reducible exact kept_refl _ | with_reducible assumption | with_reducible apply State.kept_proofDone | with_reducible apply State.kept_endCycle | with_reducible apply kept_ite | split)

theorem execFltLatch_does (a0 : Nat) (s : State) : ∃ t, execFltLatch a0 s = .next t ∧ Confined s [.sset, .bumped, .caused, .fixer, .stage] ((· ∈ [Reg.FIXER_FIXER_STATUS, Reg.FIXER_LOG_DROPS])) t ∧ KeptBy s t ∧ t.between := by
  unfold execFltLatch
  refine ⟨_, rfl, ?_, ?_, State.endCycle_between _⟩
  · repeat' (first | with_reducible exact conf_refl _ _ _ | with_reducible assumption | decide | exact fun _ _ => trivial | exact fun _ => trivial | exact trivial | with_reducible apply State.conf_modStage | with_reducible apply State.conf_endCycle | with_reducible apply conf_ite | split)
  · repeat' (first | with_reducible exact kept_refl _ | with_reducible assumption | with_reducible apply State.kept_modStage | with_reducible apply State.kept_endCycle | with_reducible apply kept_ite | split)

theorem execImonLatch_does (a0 : ImonIn) (s : State) : ∃ t, execImonLatch a0 s = .next t ∧ Confined s [.sset, .bumped, .caused, .fixer, .stage] ((· ∈ [Reg.FIXER_FIXER_STATUS, Reg.FIXER_LOG_DROPS])) t ∧ KeptBy s t ∧ t.between := by
  unfold execImonLatch
  refine ⟨_, rfl, ?_, ?_, State.endCycle_between _⟩
  · repeat' (first | with_reducible exact conf_refl _ _ _ | with_reducible assumption | decide | exact fun _ _ => trivial | exact fun _ => trivial | exact trivial | with_reducible apply State.conf_modStage | with_reducible apply State.conf_endCycle | with_reducible apply conf_ite | split)
  · repeat' (first | with_reducible exact kept_refl _ | with_reducible assumption | with_reducible apply State.kept_modStage | with_reducible apply State.kept_endCycle | with_reducible apply kept_ite | split)

theorem execSwsMeasurement_does (a0 : Nat) (a1 : Nat) (s : State) : ∃ t, execSwsMeasurement a0 a1 s = .next t ∧ Confined s [.sset, .bumped, .caused, .fixer, .stage] ((· ∈ [Reg.FIXER_FIXER_STATUS, Reg.FIXER_LOG_DROPS, Reg.STAGE_STAGE_STATUS])) t ∧ KeptBy s t ∧ t.between := by
  unfold execSwsMeasurement
  refine ⟨_, rfl, ?_, ?_, State.endCycle_between _⟩
  · repeat' (first | with_reducible exact conf_refl _ _ _ | with_reducible assumption | decide | exact fun _ _ => trivial | exact fun _ => trivial | exact trivial | with_reducible apply State.conf_measureStep | with_reducible apply State.conf_endCycle)
  · repeat' (first | with_reducible exact kept_refl _ | with_reducible assumption | with_reducible apply State.kept_measureStep | with_reducible apply State.kept_endCycle)

theorem execSwsMeasureTimeout_does (a0 : Nat) (s : State) : ∃ t, execSwsMeasureTimeout a0 s = .next t ∧ Confined s [.sset, .bumped, .caused, .fixer, .stage] ((· ∈ [Reg.FIXER_FIXER_STATUS, Reg.FIXER_LOG_DROPS])) t ∧ KeptBy s t ∧ t.between := by
  unfold execSwsMeasureTimeout
  refine ⟨_, rfl, ?_, ?_, State.endCycle_between _⟩
  · repeat' (first | with_reducible exact conf_refl _ _ _ | with_reducible assumption | decide | exact fun _ _ => trivial | exact fun _ => trivial | exact trivial | with_reducible apply State.conf_notMeasured | with_reducible apply State.conf_endCycle | with_reducible apply conf_ite | split)
  · repeat' (first | with_reducible exact kept_refl _ | with_reducible assumption | with_reducible apply State.kept_notMeasured | with_reducible apply State.kept_endCycle | with_reducible apply kept_ite | split)

theorem execSwsLost_does (a0 : Nat) (s : State) : ∃ t, execSwsLost a0 s = .next t ∧ Confined s [.sset, .bumped, .caused, .fixer, .stage] ((· ∈ [Reg.FIXER_FIXER_STATUS, Reg.FIXER_LASTING_COUNT, Reg.FIXER_LOG_DROPS, Reg.STAGE_LATCH, Reg.STAGE_STAGE_STATUS, Reg.STAGE_TRIP_COUNT])) t ∧ KeptBy s t ∧ t.between := by
  unfold execSwsLost
  refine ⟨_, rfl, ?_, ?_, State.endCycle_between _⟩
  · repeat' (first | with_reducible exact conf_refl _ _ _ | with_reducible assumption | decide | exact fun _ _ => trivial | exact fun _ => trivial | exact trivial | with_reducible apply State.conf_lostStep | with_reducible apply State.conf_endCycle)
  · repeat' (first | with_reducible exact kept_refl _ | with_reducible assumption | with_reducible apply State.kept_lostStep | with_reducible apply State.kept_endCycle)

theorem execThermalTrip_does (a0 : Nat) (s : State) : ∃ t, execThermalTrip a0 s = .next t ∧ Confined s [.sset, .bumped, .caused, .fixer, .stage] ((· ∈ [Reg.FIXER_FIXER_STATUS, Reg.FIXER_LASTING_COUNT, Reg.FIXER_LOG_DROPS, Reg.STAGE_LATCH, Reg.STAGE_STAGE_STATUS, Reg.STAGE_TRIP_COUNT])) t ∧ KeptBy s t ∧ t.between := by
  unfold execThermalTrip
  refine ⟨_, rfl, ?_, ?_, State.endCycle_between _⟩
  · repeat' (first | with_reducible exact conf_refl _ _ _ | with_reducible assumption | decide | exact fun _ _ => trivial | exact fun _ => trivial | exact trivial | with_reducible apply State.conf_thermalStep | with_reducible apply State.conf_endCycle)
  · repeat' (first | with_reducible exact kept_refl _ | with_reducible assumption | with_reducible apply State.kept_thermalStep | with_reducible apply State.kept_endCycle)

theorem execThermalClear_does (a0 : Nat) (s : State) : ∃ t, execThermalClear a0 s = .next t ∧ Confined s [.sset, .bumped, .caused, .fixer, .stage] ((· ∈ [Reg.FIXER_FIXER_STATUS, Reg.FIXER_LOG_DROPS])) t ∧ KeptBy s t ∧ t.between := by
  unfold execThermalClear
  refine ⟨_, rfl, ?_, ?_, State.endCycle_between _⟩
  · repeat' (first | with_reducible exact conf_refl _ _ _ | with_reducible assumption | decide | exact fun _ _ => trivial | exact fun _ => trivial | exact trivial | with_reducible apply State.conf_thermalClear | with_reducible apply State.conf_endCycle | with_reducible apply conf_ite | split)
  · repeat' (first | with_reducible exact kept_refl _ | with_reducible assumption | with_reducible apply State.kept_thermalClear | with_reducible apply State.kept_endCycle | with_reducible apply kept_ite | split)

theorem execStageRestart_does (a0 : Nat) (s : State) : ∃ t, execStageRestart a0 s = .next t ∧ Confined s [.sset, .bumped, .caused, .fixer, .stage] ((· ∈ [Reg.FIXER_FIXER_STATUS, Reg.FIXER_LOG_DROPS])) t ∧ KeptBy s t ∧ t.between := by
  unfold execStageRestart
  refine ⟨_, rfl, ?_, ?_, State.endCycle_between _⟩
  · repeat' (first | with_reducible exact conf_refl _ _ _ | with_reducible assumption | decide | exact fun _ _ => trivial | exact fun _ => trivial | exact trivial | with_reducible apply State.conf_stageRestart | with_reducible apply State.conf_endCycle | with_reducible apply conf_ite | split)
  · repeat' (first | with_reducible exact kept_refl _ | with_reducible assumption | with_reducible apply State.kept_stageRestart | with_reducible apply State.kept_endCycle | with_reducible apply kept_ite | split)

theorem execSteerSearchDone_does (s : State) : ∃ t, execSteerSearchDone s = .next t ∧ Confined s [.sset, .bumped, .caused, .fixer, .stage] ((· ∈ [Reg.FIXER_FIXER_STATUS, Reg.FIXER_LOG_DROPS, Reg.STAGE_STAGE_STATUS])) t ∧ KeptBy s t ∧ t.between := by
  unfold execSteerSearchDone
  refine ⟨_, rfl, ?_, ?_, State.endCycle_between _⟩
  · repeat' (first | with_reducible exact conf_refl _ _ _ | with_reducible assumption | decide | exact fun _ _ => trivial | exact fun _ => trivial | exact trivial | with_reducible apply State.conf_finishSearch | with_reducible apply State.conf_endCycle | with_reducible apply conf_ite | split)
  · repeat' (first | with_reducible exact kept_refl _ | with_reducible assumption | with_reducible apply State.kept_finishSearch | with_reducible apply State.kept_endCycle | with_reducible apply kept_ite | split)

theorem execVerifyWindow_does (a0 : List Bool) (s : State) : ∃ t, execVerifyWindow a0 s = .next t ∧ Confined s [.sset, .bumped, .caused, .fixer, .stage] ((· ∈ [Reg.FIXER_FIXER_STATUS, Reg.FIXER_LOG_DROPS, Reg.STAGE_VERIFY_STATUS])) t ∧ KeptBy s t ∧ t.between := by
  unfold execVerifyWindow
  refine ⟨_, rfl, ?_, ?_, State.endCycle_between _⟩
  · repeat' (first | with_reducible exact conf_refl _ _ _ | with_reducible assumption | decide | exact fun _ _ => trivial | exact fun _ => trivial | exact trivial | with_reducible apply State.conf_verifyWindow | with_reducible apply State.conf_endCycle | with_reducible apply conf_ite | split)
  · repeat' (first | with_reducible exact kept_refl _ | with_reducible assumption | with_reducible apply State.kept_verifyWindow | with_reducible apply State.kept_endCycle | with_reducible apply kept_ite | split)

end Sys2Proof.Machine
end

