-- ==== Sys2Proof/Laws/DoesRaceCmds.lean ====
section
/-! SUPPORT. What every command of Machine/RaceCmds.lean does at most: it answers a next state, the parts and registers it can change,
and what no command breaks. -/

set_option linter.unusedTactic false
set_option linter.unreachableTactic false

namespace Sys2Proof.Machine

/-- A REGISTER_WRITE with no step of the hardware in its cycle. -/
theorem State.conf_registerWrite_alone {s : State} (src : Src) (addr : Nat) (i : WriteIn) (hn : i.beside = none) :
    Confined s [.sset, .bumped, .caused, .clk, .ident, .sideA, .sideB, .link, .outA, .outB, .frame, .queue, .port, .fixer, .front, .decim, .aper, .mx, .dev, .sheet, .latent, .print, .stage, .bank, .mode, .loupe, .mem] (fun _ => True) (s.registerWrite src addr i) := by
  have hs : ∀ u : State, u.besideStep i.beside = u := fun u => by rw [hn]; rfl
  have hc : ∀ (u : State) (src : Src) (a : Nat) (v : Word), u.cycleWrite src a v i.beside = u.accessWrite src a v := fun u src a v => by
    rw [hn]
    rfl
  unfold State.registerWrite
  simp only [hs, hc]
  have h0 := conf_refl s [.sset, .bumped, .caused, .clk, .ident, .sideA, .sideB, .link, .outA, .outB, .frame, .queue, .port, .fixer, .front, .decim, .aper, .mx, .dev, .sheet, .latent, .print, .stage, .bank, .mode, .loupe, .mem] (fun _ => True)
  split
  · exact conf_ite (State.conf_accessWrite _ _ _ h0 (by decide) (fun _ => trivial)) h0
  · exact conf_ite (State.conf_accessWrite _ _ _ (State.conf_endCycle (State.conf_accessWrite _ _ _ h0 (by decide) (fun _ => trivial))
      (by decide) (fun _ _ => trivial)) (by decide) (fun _ => trivial)) h0
  · exact h0

theorem execRegisterWrite_does (a0 : Src) (a1 : Nat) (a2 : WriteIn) (s : State) : ∃ t, execRegisterWrite a0 a1 a2 s = .next t ∧
    Confined s (if a2.beside.isNone then [.sset, .bumped, .caused, .clk, .ident, .sideA, .sideB, .link, .outA, .outB, .frame, .queue, .port, .fixer, .front, .decim, .aper, .mx, .dev, .sheet, .latent, .print, .stage, .bank, .mode, .loupe, .mem]
      else [.sset, .bumped, .caused, .clk, .ident, .sideA, .sideB, .link, .outA, .outB, .frame, .queue, .port, .fixer, .front, .decim, .aper, .mx, .dev, .sheet, .latent, .print, .stage, .bank, .mode, .loupe, .mem, .free]) (fun _ => True) t ∧ KeptBy s t ∧ t.between := by
  unfold execRegisterWrite
  refine ⟨_, rfl, ?_, ?_, State.endCycle_between _⟩
  · split
    · rename_i hn
      exact State.conf_endCycle (State.conf_registerWrite_alone a0 a1 a2 (by simpa using hn)) (by decide) (fun _ _ => trivial)
    · exact State.conf_endCycle (State.conf_registerWrite _ _ _ (conf_refl _ _ _) (by decide) (fun _ => trivial)) (by decide) (fun _ _ => trivial)
  · exact State.kept_endCycle (State.kept_registerWrite _ _ _ (kept_refl _))

end Sys2Proof.Machine
end

