-- ==== Sys2Proof/Laws/Ports.lean ====
section
/-! SUPPORT. What a write of one register through the port can change: the register itself, what its effect can, and what a broken
pair can. -/

namespace Sys2Proof.Machine

/-- What an access to the port can change beside its own effect: the pairs and the answer, and the report of a broken pair. -/
abbrev portParts : List Part := [.sset, .bumped, .caused, .fixer, .port]

/-- The registers of that report, and those that the log's staging queue can change. -/
abbrev portRegs : List Nat := [Reg.CHIP_REG_STATUS, Reg.CHIP_REG_FAULT, Reg.FIXER_FIXER_STATUS, Reg.FIXER_LOG_DROPS]

section
variable {s0 s : State} {ps : List Part} {rs : Nat → Prop}

theorem State.armed_setArmed_other (s : State) (src : Src) (o : Option Armed) :
    (s.setArmed (otherSrc src) o).armed src = s.armed src := by cases src <;> rfl

theorem State.armed_setArmed (s : State) (src : Src) (o : Option Armed) : (s.setArmed src o).armed src = o := by cases src <;> rfl

theorem State.armed_guardFault (s : State) (who src : Src) (reason a : Nat) :
    (s.guardFault who reason a).armed src = s.armed src := by
  have h : ∀ (u : State) a i, (u.setFlag a i).port = u.port := fun u a i => by
    unfold State.setFlag State.setFlags; dsimp only; split <;> rfl
  have hp : (s.guardFault who reason a).port = s.port := by
    unfold State.guardFault
    dsimp only
    exact h _ _ _
  unfold State.armed
  rw [hp]

/-- A broken pair is armed no more. -/
theorem State.armed_breakPair (s : State) (src : Src) : (s.breakPair src).armed src = none := by
  unfold State.breakPair
  split
  · rw [State.armed_guardFault, State.armed_setArmed]
  · assumption

/-- A pair that a write leaves armed is the one it is the B write of (R240). -/
theorem State.armed_touch {src : Src} {a : Nat} {arm : Armed} (h : (s.touch src a true false).armed src = some arm) :
    a = arm.addr + 4 := by
  have inner : (match s.armed src with
      | some arm =>
        if (true || src == Src.host) && !(true && !false && a == arm.addr + 4) then s.breakPair src else s
      | none => s).armed src = some arm → a = arm.addr + 4 := by
    intro h1
    split at h1
    · rename_i x hx
      split at h1
      · rw [State.armed_breakPair] at h1
        exact absurd h1 (by simp)
      · rename_i hc
        rw [hx] at h1
        obtain rfl := Option.some.inj h1
        simpa using hc
    · rename_i hx
      rw [hx] at h1
      exact absurd h1 (by simp)
  unfold State.touch at h
  dsimp only at h
  split at h
  · split at h
    · rw [State.armed_guardFault, State.armed_setArmed_other] at h
      exact inner h
    · exact inner h
  · exact inner h

/-- A write of the M register at `a`: the register, and what its effect can change. -/
theorem State.conf_writeM_at (src : Src) (a : Nat) (v : Word) (h : Confined s0 ps rs s) (ha : rs a)
    (heff : ∀ (u : State) (old new : Word), Confined s0 ps rs u → Confined s0 ps rs
      (if Reg.pageOf a ≤ 3 then u else if Reg.pageOf a ≤ 7 then u.arrayEffect src a v new else if Reg.pageOf a ≤ 10 then u.watchEffect a old new
        else u.highEffect src a old v new)) : Confined s0 ps rs (s.writeM src a v).1 := by
  unfold State.writeM
  dsimp only
  split
  · exact h
  · split
    · exact h
    · exact heff _ _ _ (State.conf_setReg _ _ h ha)

/-- A write through the port to the M register at `a`. -/
theorem State.conf_commandWrite_at (src : Src) (a : Nat) (fits : Word → Word → Bool) (v : Word) (hk : Reg.kindOf a = some .m)
    (h : Confined s0 ps rs s) (hp : portParts ⊆ ps) (hr : ∀ a ∈ portRegs, rs a) (ha : rs a)
    (heff : ∀ (u : State) (old new : Word), Confined s0 ps rs u → Confined s0 ps rs
      (if Reg.pageOf a ≤ 3 then u else if Reg.pageOf a ≤ 7 then u.arrayEffect src a v new else if Reg.pageOf a ≤ 10 then u.watchEffect a old new
        else u.highEffect src a old v new)) : Confined s0 ps rs (s.commandWrite src a fits v) := by
  unfold State.commandWrite
  refine conf_ite ?_ h
  unfold State.accessWrite
  refine conf_ite h (conf_ite (State.conf_busFault h (sub_parts hp (by decide)) (fun _ hx => absurd hx (by simp))) ?_)
  have h1 := State.conf_touch src a true false h (sub_parts hp (by decide)) (sub_regs hr (by decide))
  have h2 : Confined s0 ps rs (s.portWrite src a v false).1 := by
    unfold State.portWrite
    dsimp only
    split
    · exact h1
    · rw [hk]
      exact State.conf_writeM_at src a v h1 ha heff
  exact State.conf_answer _ _ h2 (sub_parts hp (by decide)) (sub_regs hr (by decide))

/-- A pair whose B write reads nothing of Tank before it is judged. -/
theorem State.conf_noReads (src : Src) (a : Nat) (w : Word) (hn : a ≠ Reg.LOUPE_LIFE_A) (h : Confined s0 ps rs s) :
    Confined s0 ps rs (s.guardReads src a w) := by
  unfold State.guardReads
  rw [if_neg (fun e => hn e.1)]
  exact h

/-- A write through the port to the B word of the pair whose A word is at `a`. -/
theorem State.conf_guardedWrite_at (src : Src) (a : Nat) (fits : Word → Bool) (v : Word) (hk : Reg.kindOf (a + 4) = some .g)
    (hb : Reg.isPairA (a + 4) = false) (h : Confined s0 ps rs s) (hp : portParts ⊆ ps) (hr : ∀ a ∈ portRegs, rs a) (ha : rs a)
    (ha' : rs (a + 4)) (hread : ∀ (u : State) (w : Word), Confined s0 ps rs u → Confined s0 ps rs (u.guardReads src a w))
    (heff : ∀ (u : State) (w : Word), Confined s0 ps rs u → Confined s0 ps rs (u.guardEffect src a w)) :
    Confined s0 ps rs (s.guardedWrite src a fits v) := by
  have hw : Confined s0 ps rs (s.accessWrite src (a + 4) v) := by
    unfold State.accessWrite
    refine conf_ite h (conf_ite (State.conf_busFault h (sub_parts hp (by decide)) (fun _ hx => absurd hx (by simp))) ?_)
    have h1 := State.conf_touch src (a + 4) true false h (sub_parts hp (by decide)) (sub_regs hr (by decide))
    have h3 : Confined s0 ps rs (s.portWrite src (a + 4) v false).1 := by
      unfold State.portWrite
      dsimp only
      split
      · exact h1
      · rw [hk]
        unfold State.writeG
        simp only [Bool.false_eq_true, if_false, hb]
        split
        · exact State.conf_guardFault _ _ _ h1 (sub_parts hp (by decide)) (sub_regs hr (by decide))
        · rename_i arm he
          have e : arm.addr = a := by have := State.armed_touch he; omega
          have h2 := State.conf_setArmed src none h1 (sub_parts hp (by decide)) (sub_regs hr (by decide))
          split
          · unfold State.guardCommit
            rw [e]
            dsimp only
            have h4 := hread _ (arm.value &&& guardMask a) h2
            split
            · exact h4
            · refine heff _ _ ?_
              exact conf_ite h4 (State.conf_setPair _ _ h4 ha ha')
          · exact State.conf_guardFault _ _ _ h2 (sub_parts hp (by decide)) (sub_regs hr (by decide))
    exact State.conf_answer _ _ h3 (sub_parts hp (by decide)) (sub_regs hr (by decide))
  unfold State.guardedWrite
  split
  · exact conf_ite h hw
  · exact hw

end

end Sys2Proof.Machine
end

