-- ==== Sys2Proof/Laws/Within.lean ====
section
/-! SUPPORT. What the commands that write one register can change: the register, what its effect can, and what a broken pair can. -/

set_option linter.unusedTactic false
set_option linter.unreachableTactic false

namespace Sys2Proof.Machine

theorem execSwapRequest_within (src : Src) (v : Word) (s : State) : ∃ t, execSwapRequest src v s = .next t ∧
    Confined s [.sset, .bumped, .caused, .port, .fixer, .decim] (· ∈ [Reg.CHIP_REG_FAULT, Reg.CHIP_REG_STATUS, Reg.DECIM_DECIM_STATUS, Reg.DECIM_SWAP_CTL, Reg.FIXER_FIXER_STATUS, Reg.FIXER_LOG_DROPS]) t := by
  refine ⟨_, rfl, State.conf_endCycle (State.conf_commandWrite_at src _ _ v rfl (conf_refl s _ _) (by decide) (by decide) (by decide)
    (fun u old new hu => ?_)) (by decide) (by decide)⟩
  show Confined _ _ _ (u.arrayEffect src Reg.DECIM_SWAP_CTL v new)
  unfold State.arrayEffect
  repeat' (first | with_reducible assumption | (rename_i hh; exact absurd hh (by decide)) | decide | with_reducible apply State.conf_requestSwap | with_reducible apply State.conf_setReg | split | (refine conf_upd hu ?_ (fun b _ => State.store_of_tables rfl rfl rfl b) id; intro p hq; cases p <;> first | with_reducible rfl | exact absurd (by decide) hq))

theorem execCommit_within (src : Src) (v : Word) (s : State) : ∃ t, execCommit src v s = .next t ∧
    Confined s [.sset, .bumped, .caused, .port, .fixer, .aper] (· ∈ [Reg.APER_APER_STATUS, Reg.APER_COMMIT, Reg.CHIP_REG_FAULT, Reg.CHIP_REG_STATUS, Reg.FIXER_FIXER_STATUS, Reg.FIXER_LOG_DROPS]) t := by
  refine ⟨_, rfl, State.conf_endCycle (State.conf_commandWrite_at src _ _ v rfl (conf_refl s _ _) (by decide) (by decide) (by decide)
    (fun u old new hu => ?_)) (by decide) (by decide)⟩
  show Confined _ _ _ (u.arrayEffect src Reg.APER_COMMIT v new)
  unfold State.arrayEffect
  repeat' (first | with_reducible assumption | (rename_i hh; exact absurd hh (by decide)) | decide | with_reducible apply State.conf_commitBeam | with_reducible apply State.conf_setReg | split | (refine conf_upd hu ?_ (fun b _ => State.store_of_tables rfl rfl rfl b) id; intro p hq; cases p <;> first | with_reducible rfl | exact absurd (by decide) hq))

theorem execScaleWrite_within (src : Src) (v : Word) (s : State) : ∃ t, execScaleWrite src v s = .next t ∧
    Confined s [.sset, .bumped, .caused, .port, .fixer] (· ∈ [Reg.APER_SCALE, Reg.CHIP_REG_FAULT, Reg.CHIP_REG_STATUS, Reg.FIXER_FIXER_STATUS, Reg.FIXER_LOG_DROPS]) t := by
  refine ⟨_, rfl, State.conf_endCycle (State.conf_commandWrite_at src _ _ v rfl (conf_refl s _ _) (by decide) (by decide) (by decide)
    (fun u old new hu => ?_)) (by decide) (by decide)⟩
  show Confined _ _ _ (u.arrayEffect src Reg.APER_SCALE v new)
  unfold State.arrayEffect
  repeat' (first | with_reducible assumption | (rename_i hh; exact absurd hh (by decide)) | decide | with_reducible apply State.conf_setReg | split | (refine conf_upd hu ?_ (fun b _ => State.store_of_tables rfl rfl rfl b) id; intro p hq; cases p <;> first | with_reducible rfl | exact absurd (by decide) hq))

theorem execSwitchArm_within (src : Src) (v : Word) (s : State) : ∃ t, execSwitchArm src v s = .next t ∧
    Confined s [.sset, .bumped, .caused, .port, .fixer, .mx] (· ∈ [Reg.CHIP_REG_FAULT, Reg.CHIP_REG_STATUS, Reg.FIXER_FIXER_STATUS, Reg.FIXER_LOG_DROPS, Reg.MX_MX_STATUS, Reg.MX_SWITCH_CTL]) t := by
  refine ⟨_, rfl, State.conf_endCycle (State.conf_commandWrite_at src _ _ v rfl (conf_refl s _ _) (by decide) (by decide) (by decide)
    (fun u old new hu => ?_)) (by decide) (by decide)⟩
  show Confined _ _ _ (u.arrayEffect src Reg.MX_SWITCH_CTL v new)
  unfold State.arrayEffect
  repeat' (first | with_reducible assumption | (rename_i hh; exact absurd hh (by decide)) | decide | with_reducible apply State.conf_mxCancel | with_reducible apply State.conf_mxArm | with_reducible apply State.conf_setReg | split | (refine conf_upd hu ?_ (fun b _ => State.store_of_tables rfl rfl rfl b) id; intro p hq; cases p <;> first | with_reducible rfl | exact absurd (by decide) hq))

theorem execSwitchCancel_within (src : Src) (v : Word) (s : State) : ∃ t, execSwitchCancel src v s = .next t ∧
    Confined s [.sset, .bumped, .caused, .port, .fixer, .mx] (· ∈ [Reg.CHIP_REG_FAULT, Reg.CHIP_REG_STATUS, Reg.FIXER_FIXER_STATUS, Reg.FIXER_LOG_DROPS, Reg.MX_MX_STATUS, Reg.MX_SWITCH_CTL]) t := by
  refine ⟨_, rfl, State.conf_endCycle (State.conf_commandWrite_at src _ _ v rfl (conf_refl s _ _) (by decide) (by decide) (by decide)
    (fun u old new hu => ?_)) (by decide) (by decide)⟩
  show Confined _ _ _ (u.arrayEffect src Reg.MX_SWITCH_CTL v new)
  unfold State.arrayEffect
  repeat' (first | with_reducible assumption | (rename_i hh; exact absurd hh (by decide)) | decide | with_reducible apply State.conf_mxCancel | with_reducible apply State.conf_mxArm | with_reducible apply State.conf_setReg | split | (refine conf_upd hu ?_ (fun b _ => State.store_of_tables rfl rfl rfl b) id; intro p hq; cases p <;> first | with_reducible rfl | exact absurd (by decide) hq))

theorem execSeedLoad_within (src : Src) (v : Word) (s : State) : ∃ t, execSeedLoad src v s = .next t ∧
    Confined s [.sset, .bumped, .caused, .port, .fixer, .dev] (· ∈ [Reg.CHIP_REG_FAULT, Reg.CHIP_REG_STATUS, Reg.DEV_SEED_CTL, Reg.FIXER_FIXER_STATUS, Reg.FIXER_LOG_DROPS]) t := by
  refine ⟨_, rfl, State.conf_endCycle (State.conf_commandWrite_at src _ _ v rfl (conf_refl s _ _) (by decide) (by decide) (by decide)
    (fun u old new hu => ?_)) (by decide) (by decide)⟩
  show Confined _ _ _ (u.watchEffect Reg.DEV_SEED_CTL old new)
  unfold State.watchEffect
  repeat' (first | with_reducible assumption | (rename_i hh; exact absurd hh (by decide)) | decide | with_reducible apply State.conf_loadSeed | with_reducible apply State.conf_setReg | split | (refine conf_upd hu ?_ (fun b _ => State.store_of_tables rfl rfl rfl b) id; intro p hq; cases p <;> first | with_reducible rfl | exact absurd (by decide) hq))

theorem execProfileCommit_within (src : Src) (v : Word) (s : State) : ∃ t, execProfileCommit src v s = .next t ∧
    Confined s [.sset, .bumped, .caused, .port, .fixer, .dev] (· ∈ [Reg.CHIP_REG_FAULT, Reg.CHIP_REG_STATUS, Reg.DEV_DEV_STATUS, Reg.DEV_PROF_COMMIT, Reg.FIXER_FIXER_STATUS, Reg.FIXER_LOG_DROPS]) t := by
  refine ⟨_, rfl, State.conf_endCycle (State.conf_commandWrite_at src _ _ v rfl (conf_refl s _ _) (by decide) (by decide) (by decide)
    (fun u old new hu => ?_)) (by decide) (by decide)⟩
  show Confined _ _ _ (u.watchEffect Reg.DEV_PROF_COMMIT old new)
  unfold State.watchEffect
  repeat' (first | with_reducible assumption | (rename_i hh; exact absurd hh (by decide)) | decide | with_reducible apply State.conf_commitProfile | with_reducible apply State.conf_setReg | split | (refine conf_upd hu ?_ (fun b _ => State.store_of_tables rfl rfl rfl b) id; intro p hq; cases p <;> first | with_reducible rfl | exact absurd (by decide) hq))

theorem execTemplateEnable_within (src : Src) (v : Word) (s : State) : ∃ t, execTemplateEnable src v s = .next t ∧
    Confined s [.sset, .bumped, .caused, .port, .fixer, .sheet, .bank] (· ∈ [Reg.CHIP_REG_FAULT, Reg.CHIP_REG_STATUS, Reg.FIXER_FIXER_STATUS, Reg.FIXER_LASTING_COUNT, Reg.FIXER_LOG_DROPS, Reg.SHEET_SHEET_STATUS, Reg.SHEET_TPL_CTL, Reg.TANK_FOG_PASSES, Reg.TANK_FOG_SKIPS, Reg.TANK_TANK_STATUS, Reg.TANK_UE_ADDR, Reg.TANK_UE_COUNT]) t := by
  refine ⟨_, rfl, State.conf_endCycle (State.conf_commandWrite_at src _ _ v rfl (conf_refl s _ _) (by decide) (by decide) (by decide)
    (fun u old new hu => ?_)) (by decide) (by decide)⟩
  show Confined _ _ _ (u.watchEffect Reg.SHEET_TPL_CTL old new)
  unfold State.watchEffect
  repeat' (first | with_reducible assumption | (rename_i hh; exact absurd hh (by decide)) | decide | with_reducible apply State.conf_requestEnable | with_reducible apply State.conf_requestDisable | with_reducible apply State.conf_setReg | split | (refine conf_upd hu ?_ (fun b _ => State.store_of_tables rfl rfl rfl b) id; intro p hq; cases p <;> first | with_reducible rfl | exact absurd (by decide) hq))

theorem execTemplateDisable_within (src : Src) (v : Word) (s : State) : ∃ t, execTemplateDisable src v s = .next t ∧
    Confined s [.sset, .bumped, .caused, .port, .fixer, .sheet, .bank] (· ∈ [Reg.CHIP_REG_FAULT, Reg.CHIP_REG_STATUS, Reg.FIXER_FIXER_STATUS, Reg.FIXER_LASTING_COUNT, Reg.FIXER_LOG_DROPS, Reg.SHEET_SHEET_STATUS, Reg.SHEET_TPL_CTL, Reg.TANK_FOG_PASSES, Reg.TANK_FOG_SKIPS, Reg.TANK_TANK_STATUS, Reg.TANK_UE_ADDR, Reg.TANK_UE_COUNT]) t := by
  refine ⟨_, rfl, State.conf_endCycle (State.conf_commandWrite_at src _ _ v rfl (conf_refl s _ _) (by decide) (by decide) (by decide)
    (fun u old new hu => ?_)) (by decide) (by decide)⟩
  show Confined _ _ _ (u.watchEffect Reg.SHEET_TPL_CTL old new)
  unfold State.watchEffect
  repeat' (first | with_reducible assumption | (rename_i hh; exact absurd hh (by decide)) | decide | with_reducible apply State.conf_requestEnable | with_reducible apply State.conf_requestDisable | with_reducible apply State.conf_setReg | split | (refine conf_upd hu ?_ (fun b _ => State.store_of_tables rfl rfl rfl b) id; intro p hq; cases p <;> first | with_reducible rfl | exact absurd (by decide) hq))

theorem execReleaseW_within (src : Src) (v : Word) (s : State) : ∃ t, execReleaseW src v s = .next t ∧
    Confined s [.sset, .bumped, .caused, .port, .fixer, .latent] (· ∈ [Reg.CHIP_REG_FAULT, Reg.CHIP_REG_STATUS, Reg.FIXER_FIXER_STATUS, Reg.FIXER_LOG_DROPS, Reg.LATENT_LAT_CTL]) t := by
  refine ⟨_, rfl, State.conf_endCycle (State.conf_commandWrite_at src _ _ v rfl (conf_refl s _ _) (by decide) (by decide) (by decide)
    (fun u old new hu => ?_)) (by decide) (by decide)⟩
  show Confined _ _ _ (u.watchEffect Reg.LATENT_LAT_CTL old new)
  unfold State.watchEffect
  repeat' (first | with_reducible assumption | (rename_i hh; exact absurd hh (by decide)) | decide | with_reducible apply State.conf_release | with_reducible apply State.conf_startRunD | with_reducible apply State.conf_setReg | split | (refine conf_upd hu ?_ (fun b _ => State.store_of_tables rfl rfl rfl b) id; intro p hq; cases p <;> first | with_reducible rfl | exact absurd (by decide) hq))

theorem execReleaseD_within (src : Src) (v : Word) (s : State) : ∃ t, execReleaseD src v s = .next t ∧
    Confined s [.sset, .bumped, .caused, .port, .fixer, .latent] (· ∈ [Reg.CHIP_REG_FAULT, Reg.CHIP_REG_STATUS, Reg.FIXER_FIXER_STATUS, Reg.FIXER_LOG_DROPS, Reg.LATENT_LAT_CTL]) t := by
  refine ⟨_, rfl, State.conf_endCycle (State.conf_commandWrite_at src _ _ v rfl (conf_refl s _ _) (by decide) (by decide) (by decide)
    (fun u old new hu => ?_)) (by decide) (by decide)⟩
  show Confined _ _ _ (u.watchEffect Reg.LATENT_LAT_CTL old new)
  unfold State.watchEffect
  repeat' (first | with_reducible assumption | (rename_i hh; exact absurd hh (by decide)) | decide | with_reducible apply State.conf_release | with_reducible apply State.conf_startRunD | with_reducible apply State.conf_setReg | split | (refine conf_upd hu ?_ (fun b _ => State.store_of_tables rfl rfl rfl b) id; intro p hq; cases p <;> first | with_reducible rfl | exact absurd (by decide) hq))

theorem execRunDStart_within (src : Src) (v : Word) (s : State) : ∃ t, execRunDStart src v s = .next t ∧
    Confined s [.sset, .bumped, .caused, .port, .fixer, .latent] (· ∈ [Reg.CHIP_REG_FAULT, Reg.CHIP_REG_STATUS, Reg.FIXER_FIXER_STATUS, Reg.FIXER_LOG_DROPS, Reg.LATENT_LAT_CTL]) t := by
  refine ⟨_, rfl, State.conf_endCycle (State.conf_commandWrite_at src _ _ v rfl (conf_refl s _ _) (by decide) (by decide) (by decide)
    (fun u old new hu => ?_)) (by decide) (by decide)⟩
  show Confined _ _ _ (u.watchEffect Reg.LATENT_LAT_CTL old new)
  unfold State.watchEffect
  repeat' (first | with_reducible assumption | (rename_i hh; exact absurd hh (by decide)) | decide | with_reducible apply State.conf_release | with_reducible apply State.conf_startRunD | with_reducible apply State.conf_setReg | split | (refine conf_upd hu ?_ (fun b _ => State.store_of_tables rfl rfl rfl b) id; intro p hq; cases p <;> first | with_reducible rfl | exact absurd (by decide) hq))

theorem execSteerSearch_within (src : Src) (v : Word) (s : State) : ∃ t, execSteerSearch src v s = .next t ∧
    Confined s [.sset, .bumped, .caused, .port, .fixer, .stage] (· ∈ [Reg.CHIP_REG_FAULT, Reg.CHIP_REG_STATUS, Reg.FIXER_FIXER_STATUS, Reg.FIXER_LOG_DROPS, Reg.STAGE_STAGE_STATUS, Reg.STAGE_STEER_CTL]) t := by
  refine ⟨_, rfl, State.conf_endCycle (State.conf_commandWrite_at src _ _ v rfl (conf_refl s _ _) (by decide) (by decide) (by decide)
    (fun u old new hu => ?_)) (by decide) (by decide)⟩
  show Confined _ _ _ (u.highEffect src Reg.STAGE_STEER_CTL old v new)
  unfold State.highEffect
  repeat' (first | with_reducible assumption | (rename_i hh; exact absurd hh (by decide)) | decide | with_reducible apply State.conf_startSearch | with_reducible apply State.conf_setReg | split | (refine conf_upd hu ?_ (fun b _ => State.store_of_tables rfl rfl rfl b) id; intro p hq; cases p <;> first | with_reducible rfl | exact absurd (by decide) hq))

theorem execLatchClear_within (src : Src) (v : Word) (s : State) : ∃ t, execLatchClear src v s = .next t ∧
    Confined s [.sset, .bumped, .caused, .port, .fixer] (· ∈ [Reg.CHIP_REG_FAULT, Reg.CHIP_REG_STATUS, Reg.FIXER_FIXER_STATUS, Reg.FIXER_LOG_DROPS, Reg.STAGE_LATCH]) t := by
  refine ⟨_, rfl, State.conf_endCycle (State.conf_commandWrite_at src _ _ v rfl (conf_refl s _ _) (by decide) (by decide) (by decide)
    (fun u old new hu => ?_)) (by decide) (by decide)⟩
  show Confined _ _ _ (u.highEffect src Reg.STAGE_LATCH old v new)
  unfold State.highEffect
  repeat' (first | with_reducible assumption | (rename_i hh; exact absurd hh (by decide)) | decide | with_reducible apply State.conf_writeLatch | with_reducible apply State.conf_setReg | split | (refine conf_upd hu ?_ (fun b _ => State.store_of_tables rfl rfl rfl b) id; intro p hq; cases p <;> first | with_reducible rfl | exact absurd (by decide) hq))

theorem execEcho_within (src : Src) (v : Word) (s : State) : ∃ t, execEcho src v s = .next t ∧
    Confined s [.sset, .bumped, .caused, .port, .fixer, .loupe] (· ∈ [Reg.CHIP_REG_FAULT, Reg.CHIP_REG_STATUS, Reg.FIXER_FIXER_STATUS, Reg.FIXER_LOG_DROPS, Reg.LOUPE_MBX_CMD]) t := by
  refine ⟨_, rfl, State.conf_endCycle (State.conf_commandWrite_at src _ _ v rfl (conf_refl s _ _) (by decide) (by decide) (by decide)
    (fun u old new hu => ?_)) (by decide) (by decide)⟩
  show Confined _ _ _ (u.highEffect src Reg.LOUPE_MBX_CMD old v new)
  unfold State.highEffect
  repeat' (first | with_reducible assumption | (rename_i hh; exact absurd hh (by decide)) | decide | with_reducible apply State.conf_mbxPass | with_reducible apply State.conf_setReg | split | (refine conf_upd hu ?_ (fun b _ => State.store_of_tables rfl rfl rfl b) id; intro p hq; cases p <;> first | with_reducible rfl | exact absurd (by decide) hq))

theorem execSnapshot_within (src : Src) (v : Word) (s : State) : ∃ t, execSnapshot src v s = .next t ∧
    Confined s [.sset, .bumped, .caused, .port, .fixer, .loupe] (· ∈ [Reg.CHIP_REG_FAULT, Reg.CHIP_REG_STATUS, Reg.FIXER_FIXER_STATUS, Reg.FIXER_LOG_DROPS, Reg.LOUPE_MBX_CMD]) t := by
  refine ⟨_, rfl, State.conf_endCycle (State.conf_commandWrite_at src _ _ v rfl (conf_refl s _ _) (by decide) (by decide) (by decide)
    (fun u old new hu => ?_)) (by decide) (by decide)⟩
  show Confined _ _ _ (u.highEffect src Reg.LOUPE_MBX_CMD old v new)
  unfold State.highEffect
  repeat' (first | with_reducible assumption | (rename_i hh; exact absurd hh (by decide)) | decide | with_reducible apply State.conf_mbxPass | with_reducible apply State.conf_setReg | split | (refine conf_upd hu ?_ (fun b _ => State.store_of_tables rfl rfl rfl b) id; intro p hq; cases p <;> first | with_reducible rfl | exact absurd (by decide) hq))

theorem execExtreme_within (src : Src) (v : Word) (s : State) : ∃ t, execExtreme src v s = .next t ∧
    Confined s [.sset, .bumped, .caused, .port, .fixer, .loupe] (· ∈ [Reg.CHIP_REG_FAULT, Reg.CHIP_REG_STATUS, Reg.FIXER_FIXER_STATUS, Reg.FIXER_LOG_DROPS, Reg.LOUPE_MBX_CMD]) t := by
  refine ⟨_, rfl, State.conf_endCycle (State.conf_commandWrite_at src _ _ v rfl (conf_refl s _ _) (by decide) (by decide) (by decide)
    (fun u old new hu => ?_)) (by decide) (by decide)⟩
  show Confined _ _ _ (u.highEffect src Reg.LOUPE_MBX_CMD old v new)
  unfold State.highEffect
  repeat' (first | with_reducible assumption | (rename_i hh; exact absurd hh (by decide)) | decide | with_reducible apply State.conf_mbxPass | with_reducible apply State.conf_setReg | split | (refine conf_upd hu ?_ (fun b _ => State.store_of_tables rfl rfl rfl b) id; intro p hq; cases p <;> first | with_reducible rfl | exact absurd (by decide) hq))

theorem execPatchSum_within (src : Src) (v : Word) (s : State) : ∃ t, execPatchSum src v s = .next t ∧
    Confined s [.sset, .bumped, .caused, .port, .fixer, .loupe] (· ∈ [Reg.CHIP_REG_FAULT, Reg.CHIP_REG_STATUS, Reg.FIXER_FIXER_STATUS, Reg.FIXER_LOG_DROPS, Reg.LOUPE_MBX_CMD]) t := by
  refine ⟨_, rfl, State.conf_endCycle (State.conf_commandWrite_at src _ _ v rfl (conf_refl s _ _) (by decide) (by decide) (by decide)
    (fun u old new hu => ?_)) (by decide) (by decide)⟩
  show Confined _ _ _ (u.highEffect src Reg.LOUPE_MBX_CMD old v new)
  unfold State.highEffect
  repeat' (first | with_reducible assumption | (rename_i hh; exact absurd hh (by decide)) | decide | with_reducible apply State.conf_mbxPass | with_reducible apply State.conf_setReg | split | (refine conf_upd hu ?_ (fun b _ => State.store_of_tables rfl rfl rfl b) id; intro p hq; cases p <;> first | with_reducible rfl | exact absurd (by decide) hq))

theorem execMbxPatchOp_within (src : Src) (v : Word) (s : State) : ∃ t, execMbxPatchOp src v s = .next t ∧
    Confined s [.sset, .bumped, .caused, .port, .fixer, .loupe] (· ∈ [Reg.CHIP_REG_FAULT, Reg.CHIP_REG_STATUS, Reg.FIXER_FIXER_STATUS, Reg.FIXER_LOG_DROPS, Reg.LOUPE_MBX_CMD]) t := by
  refine ⟨_, rfl, State.conf_endCycle (State.conf_commandWrite_at src _ _ v rfl (conf_refl s _ _) (by decide) (by decide) (by decide)
    (fun u old new hu => ?_)) (by decide) (by decide)⟩
  show Confined _ _ _ (u.highEffect src Reg.LOUPE_MBX_CMD old v new)
  unfold State.highEffect
  repeat' (first | with_reducible assumption | (rename_i hh; exact absurd hh (by decide)) | decide | with_reducible apply State.conf_mbxPass | with_reducible apply State.conf_setReg | split | (refine conf_upd hu ?_ (fun b _ => State.store_of_tables rfl rfl rfl b) id; intro p hq; cases p <;> first | with_reducible rfl | exact absurd (by decide) hq))

theorem execFixerClear_within (src : Src) (v : Word) (s : State) : ∃ t, execFixerClear src v s = .next t ∧
    Confined s [.sset, .bumped, .caused, .port, .fixer] (· ∈ [Reg.CHIP_REG_FAULT, Reg.CHIP_REG_STATUS, Reg.FIXER_CLEAR, Reg.FIXER_FIXER_STATUS, Reg.FIXER_LOG_DROPS]) t := by
  refine ⟨_, rfl, State.conf_endCycle (State.conf_commandWrite_at src _ _ v rfl (conf_refl s _ _) (by decide) (by decide) (by decide)
    (fun u old new hu => ?_)) (by decide) (by decide)⟩
  show Confined _ _ _ (u.highEffect src Reg.FIXER_CLEAR old v new)
  unfold State.highEffect
  repeat' (first | with_reducible assumption | (rename_i hh; exact absurd hh (by decide)) | decide | with_reducible apply State.conf_fixerRelease | with_reducible apply State.conf_setReg | split | (refine conf_upd hu ?_ (fun b _ => State.store_of_tables rfl rfl rfl b) id; intro p hq; cases p <;> first | with_reducible rfl | exact absurd (by decide) hq))

theorem execBiasEnSet_within (src : Src) (v : Word) (s : State) : ∃ t, execBiasEnSet src v s = .next t ∧
    Confined s [.sset, .bumped, .caused, .port, .fixer, .front] (· ∈ [Reg.CHIP_REG_FAULT, Reg.CHIP_REG_STATUS, Reg.FIXER_FIXER_STATUS, Reg.FIXER_LOG_DROPS, Reg.FRONT_BIAS_EN]) t := by
  refine ⟨_, rfl, State.conf_endCycle (State.conf_commandWrite_at src _ _ v rfl (conf_refl s _ _) (by decide) (by decide) (by decide)
    (fun u old new hu => ?_)) (by decide) (by decide)⟩
  show Confined _ _ _ (u.arrayEffect src Reg.FRONT_BIAS_EN v new)
  unfold State.arrayEffect
  repeat' (first | with_reducible assumption | (rename_i hh; exact absurd hh (by decide)) | decide | with_reducible apply State.conf_biasWrite | with_reducible apply State.conf_setReg | split | (refine conf_upd hu ?_ (fun b _ => State.store_of_tables rfl rfl rfl b) id; intro p hq; cases p <;> first | with_reducible rfl | exact absurd (by decide) hq))

theorem execEpochHiSet_within (src : Src) (v : Word) (s : State) : ∃ t, execEpochHiSet src v s = .next t ∧
    Confined s [.sset, .bumped, .caused, .clk, .port, .fixer] (· ∈ [Reg.CHIP_EPOCH_HI_SET_A, Reg.CHIP_EPOCH_HI_SET_B, Reg.CHIP_REG_FAULT, Reg.CHIP_REG_STATUS, Reg.FIXER_FIXER_STATUS, Reg.FIXER_LOG_DROPS]) t := by
  refine ⟨_, rfl, State.conf_endCycle (State.conf_guardedWrite_at src _ _ v rfl rfl (conf_refl s _ _) (by decide) (by decide) (by decide)
    (by decide) (fun u w hu => State.conf_noReads _ _ _ (by decide) hu) (fun u w hu => ?_)) (by decide) (by decide)⟩
  unfold State.guardEffect
  repeat' (first | with_reducible assumption | (rename_i hh; exact absurd hh (by decide)) | decide | with_reducible apply State.conf_setReg | split | (refine conf_upd hu ?_ (fun b _ => State.store_of_tables rfl rfl rfl b) id; intro p hq; cases p <;> first | with_reducible rfl | exact absurd (by decide) hq))

theorem execAddrOverride_within (src : Src) (v : Word) (s : State) : ∃ t, execAddrOverride src v s = .next t ∧
    Confined s [.sset, .bumped, .caused, .ident, .port, .fixer] (· ∈ [Reg.CHIP_ADDR_OVR_A, Reg.CHIP_ADDR_OVR_B, Reg.CHIP_ID_STATUS, Reg.CHIP_REG_FAULT, Reg.CHIP_REG_STATUS, Reg.FIXER_FIXER_STATUS, Reg.FIXER_LOG_DROPS]) t := by
  refine ⟨_, rfl, State.conf_endCycle (State.conf_guardedWrite_at src _ _ v rfl rfl (conf_refl s _ _) (by decide) (by decide) (by decide)
    (by decide) (fun u w hu => State.conf_noReads _ _ _ (by decide) hu) (fun u w hu => ?_)) (by decide) (by decide)⟩
  unfold State.guardEffect
  repeat' (first | with_reducible assumption | (rename_i hh; exact absurd hh (by decide)) | decide | with_reducible apply State.conf_override | with_reducible apply State.conf_setReg | split | (refine conf_upd hu ?_ (fun b _ => State.store_of_tables rfl rfl rfl b) id; intro p hq; cases p <;> first | with_reducible rfl | exact absurd (by decide) hq))

theorem execPadLoop_within (src : Src) (v : Word) (s : State) : ∃ t, execPadLoop src v s = .next t ∧
    Confined s [.sset, .bumped, .caused, .sideA, .sideB, .link, .outA, .outB, .frame, .port, .fixer] (· ∈ [Reg.CHIP_REG_FAULT, Reg.CHIP_REG_STATUS, Reg.FIXER_FIXER_STATUS, Reg.FIXER_LOG_DROPS, Reg.FRAME_FRAME_STATUS, Reg.LINK_PROOF_CTL_A, Reg.LINK_PROOF_CTL_B]) t := by
  refine ⟨_, rfl, State.conf_endCycle (State.conf_guardedWrite_at src _ _ v rfl rfl (conf_refl s _ _) (by decide) (by decide) (by decide)
    (by decide) (fun u w hu => State.conf_noReads _ _ _ (by decide) hu) (fun u w hu => ?_)) (by decide) (by decide)⟩
  unfold State.guardEffect
  repeat' (first | with_reducible assumption | (rename_i hh; exact absurd hh (by decide)) | decide | with_reducible apply State.conf_endLoopAt | with_reducible apply State.conf_setReg | split | (refine conf_upd hu ?_ (fun b _ => State.store_of_tables rfl rfl rfl b) id; intro p hq; cases p <;> first | with_reducible rfl | exact absurd (by decide) hq))

theorem execLaneLoop_within (src : Src) (v : Word) (s : State) : ∃ t, execLaneLoop src v s = .next t ∧
    Confined s [.sset, .bumped, .caused, .sideA, .sideB, .link, .outA, .outB, .frame, .port, .fixer] (· ∈ [Reg.CHIP_REG_FAULT, Reg.CHIP_REG_STATUS, Reg.FIXER_FIXER_STATUS, Reg.FIXER_LOG_DROPS, Reg.FRAME_FRAME_STATUS, Reg.LINK_PROOF_CTL_A, Reg.LINK_PROOF_CTL_B]) t := by
  refine ⟨_, rfl, State.conf_endCycle (State.conf_guardedWrite_at src _ _ v rfl rfl (conf_refl s _ _) (by decide) (by decide) (by decide)
    (by decide) (fun u w hu => State.conf_noReads _ _ _ (by decide) hu) (fun u w hu => ?_)) (by decide) (by decide)⟩
  unfold State.guardEffect
  repeat' (first | with_reducible assumption | (rename_i hh; exact absurd hh (by decide)) | decide | with_reducible apply State.conf_endLoopAt | with_reducible apply State.conf_setReg | split | (refine conf_upd hu ?_ (fun b _ => State.store_of_tables rfl rfl rfl b) id; intro p hq; cases p <;> first | with_reducible rfl | exact absurd (by decide) hq))

theorem execFrameLoop_within (src : Src) (v : Word) (s : State) : ∃ t, execFrameLoop src v s = .next t ∧
    Confined s [.sset, .bumped, .caused, .sideA, .sideB, .link, .outA, .outB, .frame, .port, .fixer] (· ∈ [Reg.CHIP_REG_FAULT, Reg.CHIP_REG_STATUS, Reg.FIXER_FIXER_STATUS, Reg.FIXER_LOG_DROPS, Reg.FRAME_FRAME_STATUS, Reg.LINK_PROOF_CTL_A, Reg.LINK_PROOF_CTL_B]) t := by
  refine ⟨_, rfl, State.conf_endCycle (State.conf_guardedWrite_at src _ _ v rfl rfl (conf_refl s _ _) (by decide) (by decide) (by decide)
    (by decide) (fun u w hu => State.conf_noReads _ _ _ (by decide) hu) (fun u w hu => ?_)) (by decide) (by decide)⟩
  unfold State.guardEffect
  repeat' (first | with_reducible assumption | (rename_i hh; exact absurd hh (by decide)) | decide | with_reducible apply State.conf_endLoopAt | with_reducible apply State.conf_setReg | split | (refine conf_upd hu ?_ (fun b _ => State.store_of_tables rfl rfl rfl b) id; intro p hq; cases p <;> first | with_reducible rfl | exact absurd (by decide) hq))

theorem execLinkLoopOff_within (src : Src) (v : Word) (s : State) : ∃ t, execLinkLoopOff src v s = .next t ∧
    Confined s [.sset, .bumped, .caused, .sideA, .sideB, .link, .outA, .outB, .frame, .port, .fixer] (· ∈ [Reg.CHIP_REG_FAULT, Reg.CHIP_REG_STATUS, Reg.FIXER_FIXER_STATUS, Reg.FIXER_LOG_DROPS, Reg.FRAME_FRAME_STATUS, Reg.LINK_PROOF_CTL_A, Reg.LINK_PROOF_CTL_B]) t := by
  refine ⟨_, rfl, State.conf_endCycle (State.conf_guardedWrite_at src _ _ v rfl rfl (conf_refl s _ _) (by decide) (by decide) (by decide)
    (by decide) (fun u w hu => State.conf_noReads _ _ _ (by decide) hu) (fun u w hu => ?_)) (by decide) (by decide)⟩
  unfold State.guardEffect
  repeat' (first | with_reducible assumption | (rename_i hh; exact absurd hh (by decide)) | decide | with_reducible apply State.conf_endLoopAt | with_reducible apply State.conf_setReg | split | (refine conf_upd hu ?_ (fun b _ => State.store_of_tables rfl rfl rfl b) id; intro p hq; cases p <;> first | with_reducible rfl | exact absurd (by decide) hq))

theorem execAnalogLoop_within (src : Src) (v : Word) (s : State) : ∃ t, execAnalogLoop src v s = .next t ∧
    Confined s [.sset, .bumped, .caused, .port, .fixer, .front] (· ∈ [Reg.CHIP_REG_FAULT, Reg.CHIP_REG_STATUS, Reg.FIXER_FIXER_STATUS, Reg.FIXER_LOG_DROPS, Reg.FRONT_PROOF_CTL_A, Reg.FRONT_PROOF_CTL_B]) t := by
  refine ⟨_, rfl, State.conf_endCycle (State.conf_guardedWrite_at src _ _ v rfl rfl (conf_refl s _ _) (by decide) (by decide) (by decide)
    (by decide) (fun u w hu => State.conf_noReads _ _ _ (by decide) hu) (fun u w hu => ?_)) (by decide) (by decide)⟩
  unfold State.guardEffect
  repeat' (first | with_reducible assumption | (rename_i hh; exact absurd hh (by decide)) | decide | with_reducible apply State.conf_setReg | split | (refine conf_upd hu ?_ (fun b _ => State.store_of_tables rfl rfl rfl b) id; intro p hq; cases p <;> first | with_reducible rfl | exact absurd (by decide) hq))

theorem execBitstreamLoop_within (src : Src) (v : Word) (s : State) : ∃ t, execBitstreamLoop src v s = .next t ∧
    Confined s [.sset, .bumped, .caused, .port, .fixer, .front] (· ∈ [Reg.CHIP_REG_FAULT, Reg.CHIP_REG_STATUS, Reg.FIXER_FIXER_STATUS, Reg.FIXER_LOG_DROPS, Reg.FRONT_PROOF_CTL_A, Reg.FRONT_PROOF_CTL_B]) t := by
  refine ⟨_, rfl, State.conf_endCycle (State.conf_guardedWrite_at src _ _ v rfl rfl (conf_refl s _ _) (by decide) (by decide) (by decide)
    (by decide) (fun u w hu => State.conf_noReads _ _ _ (by decide) hu) (fun u w hu => ?_)) (by decide) (by decide)⟩
  unfold State.guardEffect
  repeat' (first | with_reducible assumption | (rename_i hh; exact absurd hh (by decide)) | decide | with_reducible apply State.conf_setReg | split | (refine conf_upd hu ?_ (fun b _ => State.store_of_tables rfl rfl rfl b) id; intro p hq; cases p <;> first | with_reducible rfl | exact absurd (by decide) hq))

theorem execPdmLoop_within (src : Src) (v : Word) (s : State) : ∃ t, execPdmLoop src v s = .next t ∧
    Confined s [.sset, .bumped, .caused, .port, .fixer, .front] (· ∈ [Reg.CHIP_REG_FAULT, Reg.CHIP_REG_STATUS, Reg.FIXER_FIXER_STATUS, Reg.FIXER_LOG_DROPS, Reg.FRONT_PROOF_CTL_A, Reg.FRONT_PROOF_CTL_B]) t := by
  refine ⟨_, rfl, State.conf_endCycle (State.conf_guardedWrite_at src _ _ v rfl rfl (conf_refl s _ _) (by decide) (by decide) (by decide)
    (by decide) (fun u w hu => State.conf_noReads _ _ _ (by decide) hu) (fun u w hu => ?_)) (by decide) (by decide)⟩
  unfold State.guardEffect
  repeat' (first | with_reducible assumption | (rename_i hh; exact absurd hh (by decide)) | decide | with_reducible apply State.conf_setReg | split | (refine conf_upd hu ?_ (fun b _ => State.store_of_tables rfl rfl rfl b) id; intro p hq; cases p <;> first | with_reducible rfl | exact absurd (by decide) hq))

theorem execCapture_within (src : Src) (v : Word) (s : State) : ∃ t, execCapture src v s = .next t ∧
    Confined s [.sset, .bumped, .caused, .port, .fixer, .front] (· ∈ [Reg.CHIP_REG_FAULT, Reg.CHIP_REG_STATUS, Reg.FIXER_FIXER_STATUS, Reg.FIXER_LOG_DROPS, Reg.FRONT_PROOF_CTL_A, Reg.FRONT_PROOF_CTL_B]) t := by
  refine ⟨_, rfl, State.conf_endCycle (State.conf_guardedWrite_at src _ _ v rfl rfl (conf_refl s _ _) (by decide) (by decide) (by decide)
    (by decide) (fun u w hu => State.conf_noReads _ _ _ (by decide) hu) (fun u w hu => ?_)) (by decide) (by decide)⟩
  unfold State.guardEffect
  repeat' (first | with_reducible assumption | (rename_i hh; exact absurd hh (by decide)) | decide | with_reducible apply State.conf_setReg | split | (refine conf_upd hu ?_ (fun b _ => State.store_of_tables rfl rfl rfl b) id; intro p hq; cases p <;> first | with_reducible rfl | exact absurd (by decide) hq))

theorem execFrontLoopOff_within (src : Src) (v : Word) (s : State) : ∃ t, execFrontLoopOff src v s = .next t ∧
    Confined s [.sset, .bumped, .caused, .port, .fixer, .front] (· ∈ [Reg.CHIP_REG_FAULT, Reg.CHIP_REG_STATUS, Reg.FIXER_FIXER_STATUS, Reg.FIXER_LOG_DROPS, Reg.FRONT_PROOF_CTL_A, Reg.FRONT_PROOF_CTL_B]) t := by
  refine ⟨_, rfl, State.conf_endCycle (State.conf_guardedWrite_at src _ _ v rfl rfl (conf_refl s _ _) (by decide) (by decide) (by decide)
    (by decide) (fun u w hu => State.conf_noReads _ _ _ (by decide) hu) (fun u w hu => ?_)) (by decide) (by decide)⟩
  unfold State.guardEffect
  repeat' (first | with_reducible assumption | (rename_i hh; exact absurd hh (by decide)) | decide | with_reducible apply State.conf_setReg | split | (refine conf_upd hu ?_ (fun b _ => State.store_of_tables rfl rfl rfl b) id; intro p hq; cases p <;> first | with_reducible rfl | exact absurd (by decide) hq))

theorem execModeWithdraw_within (src : Src) (v : Word) (s : State) : ∃ t, execModeWithdraw src v s = .next t ∧
    Confined s [.sset, .bumped, .caused, .port, .fixer] (· ∈ [Reg.CHIP_MODE_REQ_A, Reg.CHIP_MODE_REQ_B, Reg.CHIP_REG_FAULT, Reg.CHIP_REG_STATUS, Reg.FIXER_FIXER_STATUS, Reg.FIXER_LOG_DROPS]) t := by
  refine ⟨_, rfl, State.conf_endCycle (State.conf_guardedWrite_at src _ _ v rfl rfl (conf_refl s _ _) (by decide) (by decide) (by decide)
    (by decide) (fun u w hu => State.conf_noReads _ _ _ (by decide) hu) (fun u w hu => ?_)) (by decide) (by decide)⟩
  unfold State.guardEffect
  repeat' (first | with_reducible assumption | (rename_i hh; exact absurd hh (by decide)) | decide | with_reducible apply State.conf_setReg | split | (refine conf_upd hu ?_ (fun b _ => State.store_of_tables rfl rfl rfl b) id; intro p hq; cases p <;> first | with_reducible rfl | exact absurd (by decide) hq))

theorem execRequestDaylight_within (src : Src) (v : Word) (s : State) : ∃ t, execRequestDaylight src v s = .next t ∧
    Confined s [.sset, .bumped, .caused, .port, .fixer] (· ∈ [Reg.CHIP_MODE_REQ_A, Reg.CHIP_MODE_REQ_B, Reg.CHIP_REG_FAULT, Reg.CHIP_REG_STATUS, Reg.FIXER_FIXER_STATUS, Reg.FIXER_LOG_DROPS]) t := by
  refine ⟨_, rfl, State.conf_endCycle (State.conf_guardedWrite_at src _ _ v rfl rfl (conf_refl s _ _) (by decide) (by decide) (by decide)
    (by decide) (fun u w hu => State.conf_noReads _ _ _ (by decide) hu) (fun u w hu => ?_)) (by decide) (by decide)⟩
  unfold State.guardEffect
  repeat' (first | with_reducible assumption | (rename_i hh; exact absurd hh (by decide)) | decide | with_reducible apply State.conf_setReg | split | (refine conf_upd hu ?_ (fun b _ => State.store_of_tables rfl rfl rfl b) id; intro p hq; cases p <;> first | with_reducible rfl | exact absurd (by decide) hq))

theorem execRequestSafelight_within (src : Src) (v : Word) (s : State) : ∃ t, execRequestSafelight src v s = .next t ∧
    Confined s [.sset, .bumped, .caused, .port, .fixer] (· ∈ [Reg.CHIP_MODE_REQ_A, Reg.CHIP_MODE_REQ_B, Reg.CHIP_REG_FAULT, Reg.CHIP_REG_STATUS, Reg.FIXER_FIXER_STATUS, Reg.FIXER_LOG_DROPS]) t := by
  refine ⟨_, rfl, State.conf_endCycle (State.conf_guardedWrite_at src _ _ v rfl rfl (conf_refl s _ _) (by decide) (by decide) (by decide)
    (by decide) (fun u w hu => State.conf_noReads _ _ _ (by decide) hu) (fun u w hu => ?_)) (by decide) (by decide)⟩
  unfold State.guardEffect
  repeat' (first | with_reducible assumption | (rename_i hh; exact absurd hh (by decide)) | decide | with_reducible apply State.conf_setReg | split | (refine conf_upd hu ?_ (fun b _ => State.store_of_tables rfl rfl rfl b) id; intro p hq; cases p <;> first | with_reducible rfl | exact absurd (by decide) hq))

theorem execUnitReset_within (src : Src) (v : Word) (s : State) : ∃ t, execUnitReset src v s = .next t ∧
    Confined s [.sset, .bumped, .caused, .port, .fixer, .mode] (· ∈ [Reg.CHIP_REG_FAULT, Reg.CHIP_REG_STATUS, Reg.CHIP_RESET_A, Reg.CHIP_RESET_B, Reg.FIXER_FIXER_STATUS, Reg.FIXER_LOG_DROPS]) t := by
  refine ⟨_, rfl, State.conf_endCycle (State.conf_guardedWrite_at src _ _ v rfl rfl (conf_refl s _ _) (by decide) (by decide) (by decide)
    (by decide) (fun u w hu => State.conf_noReads _ _ _ (by decide) hu) (fun u w hu => ?_)) (by decide) (by decide)⟩
  unfold State.guardEffect
  repeat' (first | with_reducible assumption | (rename_i hh; exact absurd hh (by decide)) | decide | with_reducible apply State.conf_setReg | split | (refine conf_upd hu ?_ (fun b _ => State.store_of_tables rfl rfl rfl b) id; intro p hq; cases p <;> first | with_reducible rfl | exact absurd (by decide) hq))

theorem execMasterEnable_within (src : Src) (v : Word) (s : State) : ∃ t, execMasterEnable src v s = .next t ∧
    Confined s [.sset, .bumped, .caused, .clk, .port, .fixer, .print] (· ∈ [Reg.CHIP_REG_FAULT, Reg.CHIP_REG_STATUS, Reg.FIXER_FIXER_STATUS, Reg.FIXER_LOG_DROPS, Reg.PRINT_MASTER_A, Reg.PRINT_MASTER_B]) t := by
  refine ⟨_, rfl, State.conf_endCycle (State.conf_guardedWrite_at src _ _ v rfl rfl (conf_refl s _ _) (by decide) (by decide) (by decide)
    (by decide) (fun u w hu => State.conf_noReads _ _ _ (by decide) hu) (fun u w hu => ?_)) (by decide) (by decide)⟩
  unfold State.guardEffect
  repeat' (first | with_reducible assumption | (rename_i hh; exact absurd hh (by decide)) | decide | with_reducible apply State.conf_masterOn | with_reducible apply State.conf_setReg | split | (refine conf_upd hu ?_ (fun b _ => State.store_of_tables rfl rfl rfl b) id; intro p hq; cases p <;> first | with_reducible rfl | exact absurd (by decide) hq))

theorem execMasterDisable_within (src : Src) (v : Word) (s : State) : ∃ t, execMasterDisable src v s = .next t ∧
    Confined s [.sset, .bumped, .caused, .clk, .port, .fixer, .print] (· ∈ [Reg.CHIP_REG_FAULT, Reg.CHIP_REG_STATUS, Reg.FIXER_FIXER_STATUS, Reg.FIXER_LOG_DROPS, Reg.PRINT_MASTER_A, Reg.PRINT_MASTER_B]) t := by
  refine ⟨_, rfl, State.conf_endCycle (State.conf_guardedWrite_at src _ _ v rfl rfl (conf_refl s _ _) (by decide) (by decide) (by decide)
    (by decide) (fun u w hu => State.conf_noReads _ _ _ (by decide) hu) (fun u w hu => ?_)) (by decide) (by decide)⟩
  unfold State.guardEffect
  repeat' (first | with_reducible assumption | (rename_i hh; exact absurd hh (by decide)) | decide | with_reducible apply State.conf_masterOn | with_reducible apply State.conf_setReg | split | (refine conf_upd hu ?_ (fun b _ => State.store_of_tables rfl rfl rfl b) id; intro p hq; cases p <;> first | with_reducible rfl | exact absurd (by decide) hq))

theorem execDigitalLoop_within (src : Src) (v : Word) (s : State) : ∃ t, execDigitalLoop src v s = .next t ∧
    Confined s [.sset, .bumped, .caused, .port, .fixer, .print] (· ∈ [Reg.CHIP_REG_FAULT, Reg.CHIP_REG_STATUS, Reg.FIXER_FIXER_STATUS, Reg.FIXER_LOG_DROPS, Reg.PRINT_PROOF_CTL_A, Reg.PRINT_PROOF_CTL_B]) t := by
  refine ⟨_, rfl, State.conf_endCycle (State.conf_guardedWrite_at src _ _ v rfl rfl (conf_refl s _ _) (by decide) (by decide) (by decide)
    (by decide) (fun u w hu => State.conf_noReads _ _ _ (by decide) hu) (fun u w hu => ?_)) (by decide) (by decide)⟩
  unfold State.guardEffect
  repeat' (first | with_reducible assumption | (rename_i hh; exact absurd hh (by decide)) | decide | with_reducible apply State.conf_setReg | split | (refine conf_upd hu ?_ (fun b _ => State.store_of_tables rfl rfl rfl b) id; intro p hq; cases p <;> first | with_reducible rfl | exact absurd (by decide) hq))

theorem execDacLoop_within (src : Src) (v : Word) (s : State) : ∃ t, execDacLoop src v s = .next t ∧
    Confined s [.sset, .bumped, .caused, .port, .fixer, .print] (· ∈ [Reg.CHIP_REG_FAULT, Reg.CHIP_REG_STATUS, Reg.FIXER_FIXER_STATUS, Reg.FIXER_LOG_DROPS, Reg.PRINT_PROOF_CTL_A, Reg.PRINT_PROOF_CTL_B]) t := by
  refine ⟨_, rfl, State.conf_endCycle (State.conf_guardedWrite_at src _ _ v rfl rfl (conf_refl s _ _) (by decide) (by decide) (by decide)
    (by decide) (fun u w hu => State.conf_noReads _ _ _ (by decide) hu) (fun u w hu => ?_)) (by decide) (by decide)⟩
  unfold State.guardEffect
  repeat' (first | with_reducible assumption | (rename_i hh; exact absurd hh (by decide)) | decide | with_reducible apply State.conf_setReg | split | (refine conf_upd hu ?_ (fun b _ => State.store_of_tables rfl rfl rfl b) id; intro p hq; cases p <;> first | with_reducible rfl | exact absurd (by decide) hq))

theorem execStageLoop_within (src : Src) (v : Word) (s : State) : ∃ t, execStageLoop src v s = .next t ∧
    Confined s [.sset, .bumped, .caused, .port, .fixer, .print] (· ∈ [Reg.CHIP_REG_FAULT, Reg.CHIP_REG_STATUS, Reg.FIXER_FIXER_STATUS, Reg.FIXER_LOG_DROPS, Reg.PRINT_PROOF_CTL_A, Reg.PRINT_PROOF_CTL_B]) t := by
  refine ⟨_, rfl, State.conf_endCycle (State.conf_guardedWrite_at src _ _ v rfl rfl (conf_refl s _ _) (by decide) (by decide) (by decide)
    (by decide) (fun u w hu => State.conf_noReads _ _ _ (by decide) hu) (fun u w hu => ?_)) (by decide) (by decide)⟩
  unfold State.guardEffect
  repeat' (first | with_reducible assumption | (rename_i hh; exact absurd hh (by decide)) | decide | with_reducible apply State.conf_setReg | split | (refine conf_upd hu ?_ (fun b _ => State.store_of_tables rfl rfl rfl b) id; intro p hq; cases p <;> first | with_reducible rfl | exact absurd (by decide) hq))

theorem execWipe_within (src : Src) (v : Word) (s : State) : ∃ t, execWipe src v s = .next t ∧
    Confined s [.sset, .bumped, .caused, .port, .fixer, .bank, .mode, .loupe] (· ∈ [Reg.CHIP_REG_FAULT, Reg.CHIP_REG_STATUS, Reg.FIXER_FIXER_STATUS, Reg.FIXER_LOG_DROPS, Reg.LOUPE_LOUPE_STATUS, Reg.LOUPE_PATCH_FAILS, Reg.LOUPE_PATCH_INFO, Reg.LOUPE_SUPPLY_0, Reg.LOUPE_SUPPLY_1, Reg.LOUPE_SUPPLY_2, Reg.LOUPE_TEMP_01, Reg.LOUPE_TEMP_23, Reg.TANK_WIPE_A, Reg.TANK_WIPE_B]) t := by
  refine ⟨_, rfl, State.conf_endCycle (State.conf_guardedWrite_at src _ _ v rfl rfl (conf_refl s _ _) (by decide) (by decide) (by decide)
    (by decide) (fun u w hu => State.conf_noReads _ _ _ (by decide) hu) (fun u w hu => ?_)) (by decide) (by decide)⟩
  unfold State.guardEffect
  repeat' (first | with_reducible assumption | (rename_i hh; exact absurd hh (by decide)) | decide | with_reducible apply State.conf_makeWipe | with_reducible apply State.conf_setReg | split | (refine conf_upd hu ?_ (fun b _ => State.store_of_tables rfl rfl rfl b) id; intro p hq; cases p <;> first | with_reducible rfl | exact absurd (by decide) hq))

theorem execPatchActivate_within (src : Src) (v : Word) (s : State) : ∃ t, execPatchActivate src v s = .next t ∧
    Confined s [.sset, .bumped, .caused, .port, .fixer, .mode, .loupe] (· ∈ [Reg.CHIP_REG_FAULT, Reg.CHIP_REG_STATUS, Reg.FIXER_FIXER_STATUS, Reg.FIXER_LOG_DROPS, Reg.LOUPE_PATCH_ACT_A, Reg.LOUPE_PATCH_ACT_B, Reg.LOUPE_PATCH_INFO, Reg.LOUPE_SUPPLY_0, Reg.LOUPE_SUPPLY_1, Reg.LOUPE_SUPPLY_2, Reg.LOUPE_TEMP_01, Reg.LOUPE_TEMP_23]) t := by
  refine ⟨_, rfl, State.conf_endCycle (State.conf_guardedWrite_at src _ _ v rfl rfl (conf_refl s _ _) (by decide) (by decide) (by decide)
    (by decide) (fun u w hu => State.conf_noReads _ _ _ (by decide) hu) (fun u w hu => ?_)) (by decide) (by decide)⟩
  unfold State.guardEffect
  repeat' (first | with_reducible assumption | (rename_i hh; exact absurd hh (by decide)) | decide | with_reducible apply State.conf_patchWrite | with_reducible apply State.conf_setReg | split | (refine conf_upd hu ?_ (fun b _ => State.store_of_tables rfl rfl rfl b) id; intro p hq; cases p <;> first | with_reducible rfl | exact absurd (by decide) hq))

theorem execPatchDeactivate_within (src : Src) (v : Word) (s : State) : ∃ t, execPatchDeactivate src v s = .next t ∧
    Confined s [.sset, .bumped, .caused, .port, .fixer, .mode, .loupe] (· ∈ [Reg.CHIP_REG_FAULT, Reg.CHIP_REG_STATUS, Reg.FIXER_FIXER_STATUS, Reg.FIXER_LOG_DROPS, Reg.LOUPE_PATCH_ACT_A, Reg.LOUPE_PATCH_ACT_B, Reg.LOUPE_PATCH_INFO, Reg.LOUPE_SUPPLY_0, Reg.LOUPE_SUPPLY_1, Reg.LOUPE_SUPPLY_2, Reg.LOUPE_TEMP_01, Reg.LOUPE_TEMP_23]) t := by
  refine ⟨_, rfl, State.conf_endCycle (State.conf_guardedWrite_at src _ _ v rfl rfl (conf_refl s _ _) (by decide) (by decide) (by decide)
    (by decide) (fun u w hu => State.conf_noReads _ _ _ (by decide) hu) (fun u w hu => ?_)) (by decide) (by decide)⟩
  unfold State.guardEffect
  repeat' (first | with_reducible assumption | (rename_i hh; exact absurd hh (by decide)) | decide | with_reducible apply State.conf_patchWrite | with_reducible apply State.conf_setReg | split | (refine conf_upd hu ?_ (fun b _ => State.store_of_tables rfl rfl rfl b) id; intro p hq; cases p <;> first | with_reducible rfl | exact absurd (by decide) hq))

theorem execLoupeRestart_within (src : Src) (v : Word) (s : State) : ∃ t, execLoupeRestart src v s = .next t ∧
    Confined s [.sset, .bumped, .caused, .port, .fixer, .mode, .loupe] (· ∈ [Reg.CHIP_REG_FAULT, Reg.CHIP_REG_STATUS, Reg.FIXER_FIXER_STATUS, Reg.FIXER_LOG_DROPS, Reg.LOUPE_PATCH_ACT_A, Reg.LOUPE_PATCH_ACT_B, Reg.LOUPE_PATCH_INFO, Reg.LOUPE_SUPPLY_0, Reg.LOUPE_SUPPLY_1, Reg.LOUPE_SUPPLY_2, Reg.LOUPE_TEMP_01, Reg.LOUPE_TEMP_23]) t := by
  refine ⟨_, rfl, State.conf_endCycle (State.conf_guardedWrite_at src _ _ v rfl rfl (conf_refl s _ _) (by decide) (by decide) (by decide)
    (by decide) (fun u w hu => State.conf_noReads _ _ _ (by decide) hu) (fun u w hu => ?_)) (by decide) (by decide)⟩
  unfold State.guardEffect
  repeat' (first | with_reducible assumption | (rename_i hh; exact absurd hh (by decide)) | decide | with_reducible apply State.conf_patchWrite | with_reducible apply State.conf_setReg | split | (refine conf_upd hu ?_ (fun b _ => State.store_of_tables rfl rfl rfl b) id; intro p hq; cases p <;> first | with_reducible rfl | exact absurd (by decide) hq))

theorem execLifecycleRequest_within (src : Src) (v : Word) (s : State) : ∃ t, execLifecycleRequest src v s = .next t ∧
    Confined s [.sset, .bumped, .caused, .port, .fixer, .bank, .mode, .loupe] (· ∈ [Reg.CHIP_REG_FAULT, Reg.CHIP_REG_STATUS, Reg.FIXER_FIXER_STATUS, Reg.FIXER_LOG_DROPS, Reg.LOUPE_LIFE_A, Reg.LOUPE_LIFE_B, Reg.LOUPE_LOUPE_STATUS, Reg.LOUPE_PATCH_FAILS, Reg.LOUPE_PATCH_INFO, Reg.LOUPE_SUPPLY_0, Reg.LOUPE_SUPPLY_1, Reg.LOUPE_SUPPLY_2, Reg.LOUPE_TEMP_01, Reg.LOUPE_TEMP_23, Reg.TANK_FOG_PASSES, Reg.TANK_FOG_SKIPS, Reg.TANK_TANK_STATUS]) t := by
  refine ⟨_, rfl, State.conf_endCycle (State.conf_guardedWrite_at src _ _ v rfl rfl (conf_refl s _ _) (by decide) (by decide) (by decide)
    (by decide) (fun u w hu => State.conf_guardReads _ _ _ hu (by decide) (by decide)) (fun u w hu => ?_)) (by decide) (by decide)⟩
  unfold State.guardEffect
  repeat' (first | with_reducible assumption | (rename_i hh; exact absurd hh (by decide)) | decide | with_reducible apply State.conf_requestLife | with_reducible apply State.conf_setReg | split | (refine conf_upd hu ?_ (fun b _ => State.store_of_tables rfl rfl rfl b) id; intro p hq; cases p <;> first | with_reducible rfl | exact absurd (by decide) hq))

theorem execTestWrite_within (src : Src) (v : Word) (s : State) : ∃ t, execTestWrite src v s = .next t ∧
    Confined s [.sset, .bumped, .caused, .port, .fixer] (· ∈ [Reg.CHIP_REG_FAULT, Reg.CHIP_REG_STATUS, Reg.CHIP_TEST_A, Reg.CHIP_TEST_B, Reg.FIXER_FIXER_STATUS, Reg.FIXER_LOG_DROPS]) t := by
  refine ⟨_, rfl, State.conf_endCycle (State.conf_guardedWrite_at src _ _ v rfl rfl (conf_refl s _ _) (by decide) (by decide) (by decide)
    (by decide) (fun u w hu => State.conf_noReads _ _ _ (by decide) hu) (fun u w hu => ?_)) (by decide) (by decide)⟩
  unfold State.guardEffect
  repeat' (first | with_reducible assumption | (rename_i hh; exact absurd hh (by decide)) | decide | with_reducible apply State.conf_setReg | split | (refine conf_upd hu ?_ (fun b _ => State.store_of_tables rfl rfl rfl b) id; intro p hq; cases p <;> first | with_reducible rfl | exact absurd (by decide) hq))

section
variable {s0 s : State} {ps : List Part} {rs : Nat → Prop}

/-- A read through the port of the register at `a`. -/
theorem State.conf_accessRead_at (src : Src) (a : Nat) (h : Confined s0 ps rs s) (hp : portParts ⊆ ps) (hr : ∀ a ∈ portRegs, rs a)
    (heff : ∀ u : State, Confined s0 ps rs u → Confined s0 ps rs
      (if a = Reg.CHIP_IX_DATA then u.ixRead.1 else (u.readBefore a).readAfter a)) :
    Confined s0 ps rs (s.accessRead src a) := by
  unfold State.accessRead
  refine conf_ite h (conf_ite (State.conf_busFault h (sub_parts hp (by decide)) (fun _ hx => absurd hx (by simp))) ?_)
  have h1 := State.conf_touch src a false false h (sub_parts hp (by decide)) (sub_regs hr (by decide))
  have h2 : Confined s0 ps rs (s.portRead src a).1 := by
    unfold State.portRead
    dsimp only
    split
    · exact h1
    · have h3 := heff _ h1
      split
      · rename_i e
        rw [if_pos e] at h3
        exact h3
      · rename_i e
        rw [if_neg e] at h3
        exact h3
  exact State.conf_answer _ _ h2 (sub_parts hp (by decide)) (sub_regs hr (by decide))

/-- A write through the port to the register at `a`, whatever its class. -/
theorem State.conf_accessWrite_at (src : Src) (a : Nat) (v : Word) (h : Confined s0 ps rs s) (hp : portParts ⊆ ps)
    (hr : ∀ a ∈ portRegs, rs a)
    (heff : ∀ u : State, Confined s0 ps rs u → Confined s0 ps rs (match Reg.kindOf a with
      | none => (u, Status.ok)
      | some .h => (u, Status.access)
      | some .s => (u.writeS a v, Status.ok)
      | some .g => u.writeG src a v false
      | some .m => u.writeM src a v
      | some .f => u.writeF a v
      | some .c => (u.setReg a v, Status.ok)).1) :
    Confined s0 ps rs (s.accessWrite src a v) := by
  unfold State.accessWrite
  refine conf_ite h (conf_ite (State.conf_busFault h (sub_parts hp (by decide)) (fun _ hx => absurd hx (by simp))) ?_)
  have h1 := State.conf_touch src a true false h (sub_parts hp (by decide)) (sub_regs hr (by decide))
  have h2 : Confined s0 ps rs (s.portWrite src a v false).1 := by
    unfold State.portWrite
    dsimp only
    split
    · exact h1
    · exact heff _ h1
  exact State.conf_answer _ _ h2 (sub_parts hp (by decide)) (sub_regs hr (by decide))

theorem State.conf_writeS_at (a : Nat) (v : Word) (h : Confined s0 ps rs s) (hp : [.sset, .bumped, .port] ⊆ ps) (ha : rs a) :
    Confined s0 ps rs (s.writeS a v) := by
  unfold State.writeS
  have h1 := State.conf_clearFlags a v h (sub_parts hp (by decide)) ha
  dsimp only
  split
  · exact conf_upd h1 (by intro p hq; cases p <;> first | rfl | exact absurd (hp (by decide)) hq)
      (fun b _ => State.store_of_tables rfl rfl rfl b) id
  · exact h1

theorem State.conf_ixAddrWrite (v : Word) (h : Confined s0 ps rs s) (hp : [.port] ⊆ ps) (ha : rs Reg.CHIP_IX_ADDR) :
    Confined s0 ps rs (s.writeF Reg.CHIP_IX_ADDR v).1 := by
  unfold State.writeF
  rw [if_neg (by decide)]
  split
  · exact h
  · dsimp only
    rw [if_neg (fun h => absurd h.1 (by decide)), if_pos rfl]
    exact State.conf_noteIx _ (State.conf_setReg _ _ h ha) hp (by simp)

end

theorem execStatusClear_within (src : Src) (addr : Nat) (v : Word) (s : State) : ∃ t, execStatusClear src addr v s = .next t ∧
    Confined s portParts (· ∈ busAddr addr :: portRegs) t := by
  refine ⟨_, rfl, State.conf_endCycle ?_ (by decide) (fun a h => List.mem_cons_of_mem _ (by revert a; decide))⟩
  have hr : ∀ a ∈ portRegs, a ∈ busAddr addr :: portRegs := fun a h => List.mem_cons_of_mem _ h
  unfold State.statusWrite
  split
  · rename_i hk
    have hk : Reg.kindOf (busAddr addr) = some .s := by
      have := (Bool.and_eq_true _ _ ▸ hk).1
      exact eq_of_beq this
    refine State.conf_accessWrite_at src _ v (conf_refl s _ _) (List.Subset.refl _) hr (fun u hu => ?_)
    rw [hk]
    exact State.conf_writeS_at _ v hu (by decide) (List.mem_cons_self ..)
  · exact conf_refl s _ _

theorem execGuardArm_within (src : Src) (addr : Nat) (v : Word) (s : State) : ∃ t, execGuardArm src addr v s = .next t ∧
    Confined s portParts (· ∈ portRegs) t := by
  refine ⟨_, rfl, State.conf_endCycle ?_ (by decide) (by decide)⟩
  unfold State.armWrite
  split
  · rename_i hk
    have hA : Reg.isPairA (busAddr addr) = true := (Bool.and_eq_true _ _ ▸ hk).1
    have hk : Reg.kindOf (busAddr addr) = some .g := by
      unfold Reg.isPairA at hA
      exact eq_of_beq (Bool.and_eq_true _ _ ▸ hA).1
    refine State.conf_accessWrite_at src _ v (conf_refl s _ _) (List.Subset.refl _) (fun _ h => h) (fun u hu => ?_)
    rw [hk]
    show Confined _ _ _ (u.writeG src (busAddr addr) v false).1
    unfold State.writeG
    simp only [Bool.false_eq_true, if_false, hA, if_true]
    exact State.conf_setArmed _ _ hu (by decide) (by decide)
  · exact conf_refl s _ _

theorem execIxAddrWrite_within (src : Src) (v : Word) (s : State) : ∃ t, execIxAddrWrite src v s = .next t ∧
    Confined s portParts (· ∈ Reg.CHIP_IX_ADDR :: portRegs) t := by
  refine ⟨_, rfl, State.conf_endCycle ?_ (by decide) (by decide)⟩
  exact State.conf_accessWrite_at src _ v (conf_refl s _ _) (by decide) (by decide)
    (fun u hu => State.conf_ixAddrWrite v hu (by decide) (by decide))

theorem execIxDataWrite_within (src : Src) (v : Word) (s : State) : ∃ t, execIxDataWrite src v s = .next t ∧
    Confined s [.sset, .bumped, .caused, .queue, .port, .fixer, .front, .decim, .bank, .mem] (· ∈ [Reg.CHIP_IX_ADDR, Reg.CHIP_REG_FAULT, Reg.CHIP_REG_STATUS, Reg.FIXER_FIXER_STATUS, Reg.FIXER_LASTING_COUNT, Reg.FIXER_LOG_DROPS, Reg.TANK_CE_ADDR, Reg.TANK_CE_COUNT, Reg.TANK_FOG_PASSES, Reg.TANK_FOG_SKIPS, Reg.TANK_TANK_STATUS, Reg.TANK_UE_ADDR, Reg.TANK_UE_COUNT]) t := by
  refine ⟨_, rfl, State.conf_endCycle ?_ (by decide) (by decide)⟩
  refine State.conf_accessWrite_at src _ v (conf_refl s _ _) (by decide) (by decide) (fun u hu => ?_)
  show Confined _ _ _ (u.writeF Reg.CHIP_IX_DATA v).1
  unfold State.writeF
  rw [if_pos rfl]
  exact State.conf_ixWrite v hu (by decide) (by decide)

theorem execIxDataRead_within (src : Src) (s : State) : ∃ t, execIxDataRead src s = .next t ∧
    Confined s [.sset, .bumped, .caused, .port, .fixer, .bank, .free] (· ∈ [Reg.CHIP_IX_ADDR, Reg.CHIP_REG_FAULT, Reg.CHIP_REG_STATUS, Reg.FIXER_FIXER_STATUS, Reg.FIXER_LASTING_COUNT, Reg.FIXER_LOG_DROPS, Reg.LATENT_LAT_STATUS, Reg.TANK_CE_ADDR, Reg.TANK_CE_COUNT, Reg.TANK_FOG_PASSES, Reg.TANK_FOG_SKIPS, Reg.TANK_TANK_STATUS, Reg.TANK_UE_ADDR, Reg.TANK_UE_COUNT]) t := by
  refine ⟨_, rfl, State.conf_endCycle ?_ (by decide) (by decide)⟩
  refine State.conf_accessRead_at src _ (conf_refl s _ _) (by decide) (by decide) (fun u hu => ?_)
  exact State.conf_ixRead hu (by decide) (by decide)

theorem execEpochLoRead_within (src : Src) (s : State) : ∃ t, execEpochLoRead src s = .next t ∧
    Confined s portParts (· ∈ Reg.CHIP_EPOCH_HI :: portRegs) t := by
  refine ⟨_, rfl, State.conf_endCycle ?_ (by decide) (by decide)⟩
  refine State.conf_accessRead_at src _ (conf_refl s _ _) (by decide) (by decide) (fun u hu => ?_)
  exact State.conf_setReg _ _ hu (by decide)

theorem execScoreRead_within (src : Src) (s : State) : ∃ t, execScoreRead src s = .next t ∧
    Confined s [.sset, .bumped, .caused, .port, .fixer, .sheet] (· ∈ portRegs) t := by
  refine ⟨_, rfl, State.conf_endCycle ?_ (by decide) (by decide)⟩
  refine State.conf_accessRead_at src _ (conf_refl s _ _) (by decide) (by decide) (fun u hu => ?_)
  exact State.conf_resetScore hu (by decide) (by decide)

theorem execFeatRead_within (src : Src) (s : State) : ∃ t, execFeatRead src s = .next t ∧
    Confined s [.sset, .bumped, .caused, .port, .fixer, .sheet] (· ∈ portRegs) t := by
  refine ⟨_, rfl, State.conf_endCycle ?_ (by decide) (by decide)⟩
  refine State.conf_accessRead_at src _ (conf_refl s _ _) (by decide) (by decide) (fun u hu => ?_)
  exact State.conf_latchFeat hu (by decide) (by decide)

theorem execFrameLenRead_within (src : Src) (s : State) : ∃ t, execFrameLenRead src s = .next t ∧
    Confined s portParts (· ∈ Reg.LOUPE_FRAME_LEN :: portRegs) t := by
  refine ⟨_, rfl, State.conf_endCycle ?_ (by decide) (by decide)⟩
  refine State.conf_accessRead_at src _ (conf_refl s _ _) (by decide) (by decide) (fun u hu => ?_)
  exact State.conf_setReg _ _ hu (by decide)

end Sys2Proof.Machine
end

