-- ==== Sys2Proof/Tests/Slice0.lean ====
section
/-! SUPPORT. Tests: ill-formed commands that `Instr.wf` refuses, worked examples of the spec, and for each statement with
hypotheses a state and operands that meet them. -/

set_option linter.unusedVariables false

namespace Sys2Proof.Machine

/-- A unit in SAFELIGHT, its straps read, at position 5 of group 1, forwarding, both sides in lock. -/
def dark : State :=
  { clk := { power := .up, edgeB := true, hasEpoch := true, epoch := 0x12345, frameEpoch := 0x12345, ticks := 5000 }
    ident := { done := true, group := 1, position := 5 }
    sideA := { lock := true, held := true, faw := true, hdrValid := true, epoch := 0x12345 }
    sideB := { lock := true, held := true, faw := true, hdrValid := true, epoch := 0x12345 }
    link := { forwarding := true }
    loupe := { powered := true, ready := true } }

/-- The same unit in DAYLIGHT, every domain on. -/
def day : State :=
  { dark with clk := { dark.clk with daylight := true }, mode := { good := [true, true, true, true], cause := 0 } }

/-- The unit with command `c` alone in its ring. -/
def State.withCmd (s : State) (c : Cmd) : State := { s with queue := { s.queue with cmds := [c], reserved := 1 } }

/-- The unit with the pair at `a` armed with `v` by the host. -/
def State.armedHost (s : State) (a : Nat) (v : Word) : State := { s with port := { s.port with armHost := some ⟨a, v⟩ } }

/-- A header of epoch `e` with the enumeration bits `act` and `dir` and ENUM_NEXT `nxt`, its check right for the format. -/
def header (daylight : Bool) (e : Nat) (act : Nat := 0) (dir : Nat := 0) (nxt : Nat := 0) : BitVec 416 :=
  Hdr.recheck daylight (Hdr.put (Hdr.put (Hdr.put (Hdr.put (Hdr.put 0 0 8 0x47) 32 32 e) 10 1 act) 11 1 dir) 12 8 nxt) true

/-! ### Ill-formed commands: one for each check of `Instr.wf` -/

/-- `n` readings of a pin at 0 V. -/
def read (n : Nat) : List Nat := List.replicate n 0

/-- A strap sample and a FORE sample of 8 readings. -/
def okS : StrapSample := ⟨read 8, read 8⟩

/-- See `okS`. -/
def okF : ForeSample := ⟨read 8, read 8⟩

/-- Other than 8 readings of a sample (R73, R74, R79). -/
theorem test_ill_formed_straps : ([
    .strapReadDone ⟨read 7, read 8⟩ okS okS okF, .strapReadDone ⟨read 8, read 9⟩ okS okS okF,
    .strapReadDone okS ⟨read 0, read 8⟩ okS okF, .strapReadDone okS okS ⟨read 8, read 7⟩ okF,
    .strapReadDone okS okS okS ⟨read 7, read 8⟩, .strapReadDone okS okS okS ⟨read 8, read 9⟩
    ] : List Instr).all (fun c => !c.wf) = true := by
  decide

/-- Moves for other than four lanes; upsets at places that do not exist. -/
theorem test_ill_formed_frames : ([
    .delayTrack [.stay, .up, .down], .frameStart .a { cfgUpsets := [(0x4000, 0)] }, .frameStart .a { cfgUpsets := [(2, 0)] },
    .frameStart .a { cfgUpsets := [(0, 33)] }, .frameStart .a { tableUpsets := [⟨8, 0, 0, 0⟩] },
    .frameStart .a { tableUpsets := [⟨0, 3, 0, 0⟩] }, .frameStart .a { tableUpsets := [⟨0, 0, 17, 0⟩] },
    .frameStart .a { tableUpsets := [⟨0, 0, 0, 33⟩] }, .frameStart .a { planUpsets := [(16, 0)] },
    .frameStart .a { planUpsets := [(0, 65)] }, .frameStart .a { profUpsets := [(8, 0)] },
    .frameStart .a { profUpsets := [(0, 385)] }
    ] : List Instr).all (fun c => !c.wf) = true := by
  decide

/-- Fields of a length no frame format has (R149, R150, R151). -/
theorem test_ill_formed_fields : ([
    .showCapture .a (List.replicate 1023 0) 0, .listenField .a (List.replicate 12 0) 0,
    .registerField .a (List.replicate 5 0) 0, .eventField .a (List.replicate 5 0) 0
    ] : List Instr).all (fun c => !c.wf) = true := by
  decide +kernel

/-- Packets of a length no command has; a Loupe read outside the map or of no bus width (R227, R261). -/
theorem test_ill_formed_commands : ([
    .read (.host 2), .read (.loupe 0x4000 4), .read (.loupe 0 3), .write 2, .writeP 2, .burstRead 32, .burstWrite 32,
    .burstWriteP 32
    ] : List Instr).all (fun c => !c.wf) = true := by
  decide

/-- Register accesses off the map or off their alignment (R227, R261, R263). -/
theorem test_ill_formed_accesses : ([
    .registerWrite .host 0x4000 { vals := [0] }, .registerWrite .host 2 { vals := [0] },
    .registerWrite .host 0 { vals := [0, 0] }, .registerWrite .loupe 4 { vals := [0, 0] },
    .registerWrite .loupe 0 { vals := [0, 0, 0] }, .statusClear .host 2 0, .guardArm .host 0x4000 0, .loupeNarrowWrite 0 4 0,
    .loupeNarrowWrite 1 2 0, .loupeUnaligned 2 1, .loupeUnaligned 4 4
    ] : List Instr).all (fun c => !c.wf) = true := by
  decide

/-- A domain, a drive channel, a bias supply, a converter, a beam or a microphone the unit does not have. -/
theorem test_ill_formed_array : ([
    .domainPowerGood 4, .driveAutoRestart 8, .biasRampEnd 16, .biasWindowEnd 16, .biasShort 16, .biasRestart 16,
    .biasOpen 16, .biasOpenRearm 16, .channelStartEnd 16, .converterOverload 17,
    .hqBoundary { bits := List.replicate 17 [] }, .hqBoundary { bits := [List.replicate 129 true] },
    .lpBoundary (List.replicate 129 true) [], .hqBoundary { upsets := [(512, 0)] }, .hqBoundary { upsets := [(0, 33)] },
    .lpBoundary [] [(512, 0)], .beamXfadeStart 8, .xfadeDone 8
    ] : List Instr).all (fun c => !c.wf) = true := by
  decide +kernel

/-- A template slot or word that does not exist (R463, R482). -/
theorem test_ill_formed_blocks : ([
    .devBlock { badTpl := [(256, 0)] }, .devBlock { badTpl := [(0, 1024)] }
    ] : List Instr).all (fun c => !c.wf) = true := by
  decide

/-- Readings of other than four sites and five supplies; a fifth site (R659). -/
theorem test_ill_formed_sensors : ([
    .mbxDone 0 ⟨[0], [0, 0, 0, 0, 0]⟩, .sensorSample ⟨[0, 0, 0, 0], [0]⟩, .tjTrip 4
    ] : List Instr).all (fun c => !c.wf) = true := by
  decide

/-- A ninth channel; a measurement over no clock. -/
theorem test_ill_formed_channels : ([
    .readInstant 8 {}, .channelWakeEnd 8, .zcTimeout 8, .rampEnd 8, .bathEnd 8, .offDwellEnd 8, .muteResume 8, .fltLatch 8,
    .swsMeasureTimeout 8, .swsLost 8, .thermalTrip 8, .thermalClear 8, .stageRestart 8, .swsMeasurement 8 1,
    .swsMeasurement 0 0, .imonLatch ⟨8, 0⟩, .verifyWindow (List.replicate 9 true)
    ] : List Instr).all (fun c => !c.wf) = true := by
  decide

/-- Words, lanes and cycles that do not exist; fewer words than lanes (R618, R629, R642). -/
theorem test_ill_formed_tank : ([
    .atomicAdd 0x30000 0 { value := 0 }, .atomicAdd 0 8 { value := 0 }, .atomicSwap 0x30000 0 { value := 0 },
    .atomicSwap 0 8 { value := 0 }, .wipeDone (some 0x800),
    .tankAccess [{ req := .loupe, word := 0x30000, lanes := [0], data := none }],
    .tankAccess [{ req := .loupe, word := 0, lanes := [8], data := none }],
    .tankAccess [{ req := .loupe, word := 0, lanes := [0, 1], data := some [0] }], .fogStep { cycle := 4096 }
    ] : List Instr).all (fun c => !c.wf) = true := by
  decide

/-- A step of the hardware beside a write that would be ill-formed alone (R253). -/
theorem test_ill_formed_steps : ([
    .registerWrite .host 0 { vals := [0], beside := some (.frameStart .a { planUpsets := [(16, 0)] }) },
    .registerWrite .host 0 { vals := [0], beside := some (.hqBoundary { bits := List.replicate 17 [] }) },
    .registerWrite .host 0 { vals := [0], beside := some (.lpBoundary (List.replicate 129 true) []) },
    .registerWrite .host 0 { vals := [0], beside := some (.devBlock { badTpl := [(256, 0)] }) },
    .registerWrite .host 0 { vals := [0], beside := some (.biasShort 16) },
    .registerWrite .host 0 { vals := [0], beside := some (.readInstant 8 {}) },
    .registerWrite .host 0 { vals := [0], beside := some (.swsLost 8) },
    .registerWrite .host 0 { vals := [0], beside := some (.thermalTrip 8) },
    .registerWrite .host 0 { vals := [0], beside := some (.tjTrip 4) },
    .registerWrite .host 0 { vals := [0], beside := some (.fogStep { cycle := 4096 }) },
    .registerWrite .host 0 { vals := [0], beside := some (.tankAccess [{ req := .loupe, word := 0x30000, lanes := [0], data := none }]) }
    ] : List Instr).all (fun c => !c.wf) = true := by
  decide +kernel

/-! ### Worked examples of the spec -/

/-- The samples of a resistor of `ohms`, at 20 µA and at 200 µA, in µV, the second at most 1.8 V. -/
def resistor (ohms : Nat) : StrapSample :=
  ⟨List.replicate 8 (strapVolts 20 ohms), List.replicate 8 (min 1800000 (strapVolts 200 ohms))⟩

/-- The straps of the cabinet of chapter 02: 23.7 kΩ, 42.2 kΩ and 4.22 kΩ, FORE low. -/
def cabinet : State :=
  match exec (.strapReadDone (resistor 23700) (resistor 42200) (resistor 4220) ⟨List.replicate 8 0, List.replicate 8 0⟩)
    { dark with ident := {} } with
  | .next t => t
  | _ => dark

/-- The table of R75: each nominal resistor reads as its code, and its window's ends as the rule has them. -/
theorem test_strap_codes :
    ([1000, 1330, 1780, 2370, 3160, 4220, 5620, 7500, 10000, 13300, 17800, 23700, 31600, 42200, 56200, 75000].map
      (fun r => (decodeStrap (resistor r)).code)) = List.range 16 ∧
    (decodeStrap (resistor 865)).short = true ∧ (decodeStrap (resistor 866)).short = false ∧
    (decodeStrap (resistor 85000)).open_ = false ∧ (decodeStrap (resistor 85001)).open_ = true := by decide +kernel

/-- Chapter 02's worked example: STRAP_CODES, ROLE_DEFAULTS, the slot of drive channel 7. -/
theorem test_straps_of_the_cabinet : cabinet.readReg Reg.CHIP_STRAP_CODES = 0x000105DB#32 ∧
    cabinet.readReg Reg.CHIP_ROLE_DEFAULTS = 0x5A0A080B#32 ∧ cabinet.reg (Reg.PRINT_CH_CTRL_0 + 28) = 727#32 := by decide +kernel

/-- Chapter 02's worked example: ENUM_NEXT 0x25 from port A gives POSITION 37, and UNIT_ADDR reads 0x0000_0B25. -/
theorem test_enumeration_gives_37 : (match exec (.headerEnd .a (header false 0x12345 1 0 0x25) 0)
      { dark with ident := { done := true, group := 11 } } with
    | .next t => t.readReg Reg.CHIP_UNIT_ADDR | _ => 0) = 0x00000B25#32 := by decide +kernel

/-- Chapter 02's worked example: the host reaches the cabinet at 0xB25, 0xF25 and 0xBFF, and not at 0xB26 (R90). -/
theorem test_addresses_of_the_cabinet :
    [0xB25, 0xF25, 0xBFF, 0xB26].map { dark with ident := { done := true, group := 11, position := 37 } }.accepts =
      [true, true, true, false] := by decide +kernel

/-- The unit of chapter 01's worked example as the host's clock returns: its count stands at 72,000,006. -/
def stopped90s : State := { dark with clk := { dark.clk with epoch := 0x044AA206, frameEpoch := 0x044AA200 } }

/-- Chapter 01's worked example: the gap of 8,640,000 ticks, its count, and its entry. -/
theorem test_gap_of_90_seconds : (match exec (.headerEnd .a (header false 0x04CE7806) 0) stopped90s with
    | .next t => (t.reg Reg.CHIP_GAP_LAST, t.reg Reg.CHIP_GAP_COUNT, t.clk.epoch, t.fixer.staged.head?.map LogEntry.words)
    | _ => (0, 0, 0, none)) =
    (0x0083D600#32, 1#32, 0x00000000_04CE7806#48, some [0x04CE7806#32, 0x01010000#32, 0x0083D600#32, 0x044AA206#32]) := by
  decide +kernel

/-- Chapter 19's worked example: entry 77,589 lies at WADDR 0x00_7C54, and its event word carries LSEQ 5. -/
theorem test_log_entry_77589 : (match exec .logWrite ({ dark with fixer := { dark.fixer with
      staged := [⟨0x04CE7806, 1, 1, 0x0083D600, 0x044AA206, true, 0⟩] } }.setReg Reg.FIXER_LOG_TOTAL 77589) with
    | .next t => ([0x7C54, 0x7C55, 0x7C56, 0x7C57].map t.tank, t.queue.events.map (·.lseq), t.reg Reg.FIXER_LOG_TOTAL)
    | _ => ([], [], 0)) =
    ([0x04CE7806#32, 0x01010000#32, 0x0083D600#32, 0x044AA206#32], [5], 77590#32) := by decide

/-- Chapter 05's worked example: the command word 0x15B2_8013 reads CHIP.UNIT_ADDR with tag 5 at 0xB28, and the reply is 0x85B2_8001,
0x0000_0B28. -/
theorem test_read_from_end_to_end : (match exec (.read (.host 1))
      ({ dark with ident := { done := true, group := 11, position := 40 } }.withCmd ⟨0x15B28013, 0, [], false, 0⟩) with
    | .next t => t.queue.replies.map (fun r => r.hdr :: r.data) | _ => []) = [[0x85B28001#32, 0x00000B28#32]] := by decide

/-- Chapter 07's worked example: the write word 0x007F_001B leaves 0x0000_401B in PDM_CFG. -/
theorem test_pdm_cfg_write : (match exec (.registerWrite .host Reg.FRONT_PDM_CFG { vals := [0x007F001B] }) day with
    | .next t => t.reg Reg.FRONT_PDM_CFG | _ => 0) = 0x0000401B#32 := by decide

/-- Chapter 09's worked example: E of microphones 1 and 7 at C_SCALE 0x8000, and of microphone 7 at 0x7DDE. -/
theorem test_beam_delays : (let t : Table := { cfg := 1, taps := [0x000009D9, 0x0BC00EC5, 0, 0, 0, 0, 0, 0x524009D9] }
    [effDelay t 0x8000 true 1, effDelay t 0x8000 true 7, effDelay t 0x7DDE true 7]) = [6017, 42119, 41417] := by decide

/-- Chapter 10's worked example: contributions of the three units, and the slot word along the A copy. -/
theorem test_distributed_beam :
    [mxContribution 10923 0x400000, mxContribution 10923 0x3FF000, mxContribution 10922 0x400800] = [1398144, 1396779, 1398699] ∧
    (mxAdd 0 1398144).1 = 0x05556001#32 ∧ (mxAdd 0x05556001 1396779).1 = 0x0AA96AC2#32 ∧
    (mxAdd 0x0AA96AC2 1398699).1 = 0x0FFF5583#32 ∧ (mxAdd 0 1398699).1 = 0x0555EAC1#32 := by decide

/-- Chapter 10's worked example: the sample stamped 3,000,000 rides in the frame with epoch 3,000,004. -/
theorem test_stream_stamp : mxStamp 3000004 = 3000000#32 ∧ mxDelay 0x800F0007 = 60 ∧ mxSlot 0x800F0007 = 7 := by decide

/-- Chapter 12's worked example: one cell of the match has d = 224 with NORM. -/
theorem test_frame_distance : frameDistance true [100, 110, 130, 150, 170, 174, 160, 140, 120, 110, 100, 90]
    [136, 148, 166, 188, 208, 218, 202, 178, 158, 146, 138, 128] = 224 := by decide

/-- Chapter 15, R558: the first output of a bath from the held sample 0x1A_3C40 is round(0x1A_3C40 × 63/64). -/
theorem test_first_bath_output : roundHalfUp (0x1A3C40 * 63) 64 = 0x19D34F := by decide

/-- The unit of chapter 16's worked example. -/
def festival : State :=
  ((((day.setReg Reg.STAGE_CARRIER_0 0x830680C6).setReg (Reg.STAGE_CARRIER_0 + 4) 0x863984B6).setReg Reg.PRINT_CH_EN 0xFF).setReg
    Reg.STAGE_STEER_WIN 0x1F44B190)

/-- Chapter 16's worked example: the search takes 395 kHz and STEER_RESULT reads 0x018B_0801. -/
theorem test_carrier_search : (match exec (.steerSearch .host 0x000D0005) festival with
    | .next t => match exec .steerSearchDone t with | .next u => u.readReg Reg.STAGE_STEER_RESULT | _ => 0
    | _ => 0) = 0x018B0801#32 := by decide +kernel

/-- Chapter 16's worked example: with a window of 396 to 405 kHz the staggering search takes F_NOM = 400 kHz. -/
theorem test_staggering_search : (⟨[774, 198, 1593, 1206], 396, 400, 405, 1⟩ : Search).result 8 = (2, 400) := by decide +kernel

/-- Chapter 17's worked example: the save of region 0x1_6049 meets a single-bit error, and FOG_STATE reads 0xA001_6049. -/
theorem test_fog_save : (match exec (.fogStep { upTo := .march })
      ({ day with bank := { region := 0x16049, errs := [(0x2C092, 2, false)] } } : State) with
    | .next t => (t.readReg Reg.TANK_FOG_STATE, t.reg Reg.TANK_CE_ADDR, t.reg Reg.TANK_CE_COUNT)
    | _ => (0, 0, 0)) = (0xA0016049#32, 0x8202C092#32, 1#32) := by decide

/-- Chapter 19's worked example: channel 5 with faults at 0, 30,000, 60,000, 90,000 and 100,000 ticks before. -/
def loose : State :=
  { day with clk := { day.clk with epoch := 1110000 }
             fixer := { hist := modNth day.fixer.hist 39 (fun _ => ⟨[1100000, 1090000, 1060000, 1030000, 1000000], false, 5⟩) } }

/-- Chapter 19's worked example: the fault at 110,000 is the fifth in its window and makes the stage lasting. -/
theorem test_intermittent_stage : ((loose.stageFault 5 1).flag Reg.STAGE_LATCH 5, (loose.stageFault 5 1).fixer.raised.map (fun e => (e.code, e.lo))) =
    (true, [(1, ofBytes 5 1 5 0), (2, ofBytes 5 1 0 0)]) := by decide

/-- Chapter 18's worked example: the packet 0x51B2_5E05, 0x0000_0002 is a guarded pair on PATCH_ACT, and its values are complements. -/
theorem test_patch_pair : pktReg 0x51B25E05 = 0xE05 ∧ Reg.canonical 0xE05 = Reg.LOUPE_PATCH_ACT_A ∧
    Reg.isPairA Reg.LOUPE_PATCH_ACT_A = true ∧ (~~~(0x00000003#32) = 0xFFFFFFFC#32) := by decide

/-! ### Single commands -/

/-- A masked write changes the bits of its mask alone (R233). -/
theorem test_masked_write : maskedWrite 0x0648 0x000F0002 = 0x0642#32 := by decide

/-- The gained sample clamps at the ends of 24 bits (R550). -/
theorem test_gain_clamps : gained 0x200000 0x7FFFFF#24 = (0x7FFFFF, true) ∧ gained 0x200000 0x800000#24 = (-0x800000, true) := by decide

/-- MX saturates at the ends of 26 bits, keeps OVF and counts to 31 (R392, R397). -/
theorem test_mx_saturates : mxAdd 0x7FFFFFDF 5 = (0x7FFFFFFF#32, true) := by decide

/-- A SWS count of 509,660 link clocks reads as 395 kHz in 1/16 kHz (R587). -/
theorem test_sws_frequency : swsFreq 509660 = 6320 := by decide

/-- The servo moves by one step within 4 kHz and by eight at most (R595). -/
theorem test_servo_steps : servoCode false 100 1000 1000 = 101 ∧ servoCode false 100 (-20000) 1000 = 92 ∧ servoCode true 3 20000 1000 = 0 := by
  decide

/-- An empty queue leaves the unit as it is (log entry 1). -/
theorem test_idle_step : step dark = .next dark := rfl

/-! ### States for the witnesses -/

/-- A pin voltage in µV with `n` level thresholds at or below it. -/
def ladderMid (n : Nat) : Nat := 1 + [0, 230700, 307700, 410800, 547300, 730400, 974000, 1298500].getD n 0
/-- Samples of a strap read at 200 µA, level `n`. -/
def lowOhm (n : Nat) : StrapSample := ⟨List.replicate 8 20000, List.replicate 8 (max 180000 (ladderMid n))⟩
/-- Samples of a strap read at 20 µA, level `n`. -/
def highOhm (n : Nat) : StrapSample := ⟨List.replicate 8 (max 180000 (ladderMid n)), []⟩
/-- The unit with channel 1 released. -/
def State.released1 (s : State) : State := { s with stage := { s.stage with ch := modNth s.stage.ch 1 (fun c => { c with relTick := some 3 }) } }

/-- A header of epoch `e` with RC_TARGET `r` and RC_COUNT `n`, its check right. -/
def counted (daylight : Bool) (e r n : Nat) : BitVec 416 := Hdr.recheck daylight (Hdr.put (Hdr.put (header daylight e) 20 2 r) 22 8 n) true
/-- DAYLIGHT at an even epoch. -/
def hq : State := { day with clk := { day.clk with epoch := 0x12346, frameEpoch := 0x12346 } }
/-- DAYLIGHT with supply 3 at its current limit for 96 ticks and four shorts behind it. -/
def lastShort : State :=
  { day with front := { bias := modNth day.front.bias 3 (fun b => { b with on := true, limit := 96 }) },
             fixer := { hist := modNth day.fixer.hist 8 (fun _ => ⟨[0x12344, 0x12343, 0x12342, 0x12341, 0x12340], false, 5⟩) } }

/-- DAYLIGHT at the start of a block. -/
def blk : State := { day with clk := { day.clk with epoch := 960 * 77, frameEpoch := 960 * 77 } }
/-- SAFELIGHT at the start of a block, the Watch path running, stream 8 as `d`. -/
def stream8 (d : Stream) : State :=
  { dark with clk := { dark.clk with epoch := 960 * 77, frameEpoch := 960 * 77 },
              front := { watchRun := true }
              dev := { dark.dev with ctl := 0x101, runs := List.replicate 25 512, streams := modNth dark.dev.streams 8 (fun _ => { d with src := 24 }), mem := List.replicate 24 [] ++ [(List.range 256).map (fun j => if j % 8 < 4 then 8000000 else -8000000)] } }

/-- DAYLIGHT with the master enable on and every channel enabled. -/
def pon : State := (day.setReg Reg.PRINT_MASTER_A 1).setReg Reg.PRINT_CH_EN 0xFF
/-- `pon` with drive channel 3 as `d`. -/
def drv (d : Drive) : State := { pon with print := { drives := modNth pon.print.drives 3 (fun _ => d) } }
/-- `pon` without its enables, channel 3 playing and verified, its stage record `c`, at the end of a window. -/
def ver (c : StageCh) : State :=
  ({ day with clk := { day.clk with epoch := 240000, frameEpoch := 240000 }
              stage := { ch := modNth day.stage.ch 3 (fun _ => c) }
              print := { drives := modNth day.print.drives 3 (fun d => { d with st := .play }) } }).setReg Reg.STAGE_VERIFY_CFG 0x08
/-- `pon` with channel 3 about to raise its fifth fault of the window. -/
def lastTrip : State :=
  { pon with stage := { ch := modNth pon.stage.ch 3 (fun c => { c with noEdge := 96, relTick := some 4904 }) }
             fixer := { hist := modNth day.fixer.hist 37 (fun _ => ⟨[0x12344, 0x12343, 0x12342, 0x12341, 0x12340], false, 5⟩) } }

/-! ### Witnesses: states and operands that meet the hypotheses of each clause of each statement -/

theorem test_meets_StepRunsFront :
    (∃ (s : State) (c : Instr) (rest : List Instr), s.pending = c :: rest) ∧
    (∃ (s : State), s.pending = []) :=
  ⟨⟨{ dark with pending := [.logWrite, .tamper] }, .logWrite, [.tamper], by decide⟩,
   ⟨dark, by decide⟩⟩

theorem test_meets_StepKeepsSoundState : ∃ (s t : State), s.sound ∧ step s = .next t :=
  ⟨{ dark with pending := [.tamperLatch] }, _, by unfold State.sound State.between State.stagingBound; decide, rfl⟩

theorem test_meets_StepKeepsShape : ∃ (s t : State), s.shaped ∧ step s = .next t :=
  ⟨{ dark with pending := [.tamperLatch] }, _, by unfold State.shaped; decide, rfl⟩

theorem test_meets_StoppedClockFreezesEverything : ∃ (c : Instr) (s : State),
    s.between ∧ s.clk.stopped = true ∧ unclocked c = false :=
  ⟨.logWrite, { dark with clk := { dark.clk with stopped := true } }, by unfold State.between; decide⟩

theorem test_meets_PowerOnResetReleases : ∃ (s : State),
    s.between ∧ (s.clk.power = .off ∨ s.clk.power = .por) :=
  ⟨State.reset, by unfold State.between; decide⟩

theorem test_meets_HoldAndPowerLossDropStagedEntries :
    (∃ (s : State), s.clk.power = .up) ∧
    (∃ (s : State), s.clk.power = .up) :=
  ⟨⟨(dark.raise 1 2).endCycle, by decide⟩,
   ⟨(day.raise 1 2).endCycle, by decide⟩⟩

theorem test_meets_HoldAndPowerLossReset :
    (∃ (s : State), s.clk.power = .up) ∧
    (∃ (s : State), s.clk.power = .up) ∧
    (∃ (s : State), s.between ∧ s.clk.power = .hold) :=
  ⟨⟨dark, by decide⟩,
   ⟨day, by decide⟩,
   ⟨{ dark with clk := { dark.clk with power := .hold } }, by unfold State.between; decide⟩⟩

theorem test_meets_StrapReadLoadsDefaults :
    (∃ (s : State) (addr : StrapSample) (role : StrapSample) (biasv : StrapSample) (fore : ForeSample), s.running = true ∧
      s.ident.done = false ∧ ((∀ a, a ∉ heldRegs → assocGet s.regs a = none))) ∧
    (∃ (s : State) (addr : StrapSample) (role : StrapSample) (biasv : StrapSample) (fore : ForeSample), s.running = true ∧
      s.ident.done = false ∧ ((∀ a, a ∉ heldRegs → assocGet s.regs a = none))) :=
  ⟨⟨{ dark with ident := {}, regs := [] }, lowOhm 3, lowOhm 1, lowOhm 5, ⟨[], []⟩, by decide, by decide, fun _ _ => rfl⟩,
   ⟨{ dark with ident := {}, regs := [] }, highOhm 2, lowOhm 7, highOhm 4, ⟨List.replicate 8 1800000, List.replicate 8 1800000⟩,
      by decide, by decide, fun _ _ => rfl⟩⟩

theorem test_meets_ClocksStopAndReturn :
    (∃ (s : State), s.between) ∧
    (∃ (s : State), s.between) ∧
    (∃ (s : State), s.between ∧ s.clk.power = .up ∧ s.ident.done = true ∧ s.blockUp 3 = true) ∧
    (∃ (s : State), s.between ∧ s.clk.power = .up ∧ s.ident.done = true ∧ s.blockUp 3 = true) ∧
    (∃ (s : State) (x : Side) (sent : List Bool), s.running = true ∧ (s.sd x).lost = false ∧ (s.sd (other x)).lost = false) ∧
    (∃ (s : State) (x : Side) (sent : List Bool), s.running = true ∧ (s.sd x).lost = false ∧ (s.sd (other x)).lost = false) ∧
    (∃ (s : State) (x : Side), s.between) ∧
    (∃ (s : State) (h : BitVec 416) (skew : BitVec 24), GoodHeader s s.clk.side h ∧ s.clk.hasEpoch = true ∧
      s.clk.rateBad = false ∧ s.clk.switched = false ∧ s.clk.rateCheck = false ∧ 2 ^ 31 ≤ (Hdr.epoch h - s.epoch32).toNat) ∧
    (∃ (s : State) (h : BitVec 416) (skew : BitVec 24), GoodHeader s s.clk.side h ∧ s.clk.hasEpoch = true ∧
      s.clk.rateBad = false ∧ s.clk.switched = false ∧ s.clk.rateCheck = false ∧ 2 ^ 31 ≤ (Hdr.epoch h - s.epoch32).toNat) :=
  ⟨⟨dark, by unfold State.between; decide⟩,
   ⟨{ day with link := { wrap := some .a, forwarding := true } }, by unfold State.between; decide⟩,
   ⟨day, by unfold State.between; decide⟩,
   ⟨day.released1, by unfold State.between; decide⟩,
   ⟨dark, .a, [], by decide⟩,
   ⟨day, .b, [true], by decide⟩,
   ⟨{ dark with clk := { dark.clk with stopped := true } }, .a, by unfold State.between; decide⟩,
   ⟨{ dark with mx := { decided := [] } }, header false 0x12000, 0, by unfold GoodHeader; decide +kernel⟩,
   ⟨{ dark with clk := { dark.clk with side := .b } }, header false 5, 0, by unfold GoodHeader; decide +kernel⟩⟩

theorem test_meets_SidesWrapAndLanesTrack :
    (∃ (s : State) (x : Side) (byClock : Bool), s.roomFor 2 ∧ s.running = true ∧ (s.sd x).down = false ∧
      (if byClock then (s.sd x).lost = true else (s.sd x).lost = false ∧ max 1 (s.fld Reg.LINK_LINK_CFG 7 4) ≤ (s.sd x).misses)) ∧
    (∃ (s : State) (x : Side) (byClock : Bool), s.roomFor 2 ∧ s.running = true ∧ (s.sd x).down = false ∧
      (if byClock then (s.sd x).lost = true else (s.sd x).lost = false ∧ max 1 (s.fld Reg.LINK_LINK_CFG 7 4) ≤ (s.sd x).misses)) ∧
    (∃ (s : State) (y : Side), s.roomFor 1 ∧ s.acting = true ∧ s.flag Reg.LINK_LINK_CFG 2 = false ∧ s.link.wrap = none ∧
      (s.sd y).down = true ∧ (s.sd (other y)).down = false ∧ (s.sd (other y)).lock = true) ∧
    (∃ (s : State) (y : Side), s.roomFor 1 ∧ s.acting = true ∧ s.flag Reg.LINK_LINK_CFG 2 = false ∧ s.link.wrap = none ∧
      (s.sd y).down = true ∧ (s.sd (other y)).down = false ∧ (s.sd (other y)).lock = true) ∧
    (∃ (s : State), s.between ∧ s.flag Reg.LINK_LINK_CFG 2 = true) ∧
    (∃ (s : State) (y : Side), s.roomFor 1 ∧ s.acting = true ∧ s.link.wrap = some y ∧ (s.sd y).lock = true ∧
      s.fld Reg.LINK_LINK_CFG 15 8 ≠ 0 ∧ 16 * s.fld Reg.LINK_LINK_CFG 15 8 ≤ (s.sd y).validRun ∧ s.clk.fault = false) ∧
    (∃ (s : State) (moves : List LaneMove), s.acting = true ∧ s.clk.daylight = true ∧ s.link.training = none ∧
      s.flag Reg.LINK_LINK_CFG 3 = false) ∧
    (∃ (s : State) (moves : List LaneMove), s.acting = true ∧ s.clk.daylight = true ∧ s.link.training = none ∧
      s.flag Reg.LINK_LINK_CFG 3 = false) ∧
    (∃ (s : State) (moves : List LaneMove), s.between ∧ (s.clk.daylight = false ∨ s.flag Reg.LINK_LINK_CFG 3 = true)) ∧
    (∃ (s : State) (moves : List LaneMove), s.between ∧ (s.clk.daylight = false ∨ s.flag Reg.LINK_LINK_CFG 3 = true)) :=
  ⟨⟨{ dark with sideA := { lock := true, lost := true }, sideB := { lock := true, faw := true, hdrValid := true, epoch := 0x12345 }, link := { forwarding := true } }, .a, true,
      by unfold State.roomFor State.between; decide⟩,
   ⟨{ day with sideA := { lock := true, faw := true, hdrValid := true, epoch := 0x12345 }, sideB := { lock := true, misses := 20 }, link := { forwarding := true } }, .b, false,
      by unfold State.roomFor State.between; decide⟩,
   ⟨{ dark with sideA := { lock := true, faw := true, hdrValid := true, epoch := 0x12345 }, sideB := { down := true }, link := { forwarding := true } }, .b,
      by unfold State.roomFor State.between; decide⟩,
   ⟨{ day with sideA := { down := true }, sideB := { lock := true, faw := true, hdrValid := true, epoch := 0x12345 }, link := { forwarding := true } }, .a,
      by unfold State.roomFor State.between; decide⟩,
   ⟨dark.setReg Reg.LINK_LINK_CFG 4, by unfold State.between; decide⟩,
   ⟨{ dark with sideA := { lock := true, validRun := 5000 }, sideB := { lock := true, faw := true, hdrValid := true, epoch := 0x12345 }, link := { forwarding := true, wrap := some .a } }, .a,
      by unfold State.roomFor State.between; decide⟩,
   ⟨day, [.up, .down, .stay, .up], by decide⟩,
   ⟨{ day with sideA := { lock := true, delay0 := 62, delay1 := 1 }, sideB := { lock := true, delay0 := 63, delay1 := 0 }, link := { forwarding := true } }, [.up, .down, .down, .up],
      by decide⟩,
   ⟨dark, [.up], by unfold State.between; decide⟩,
   ⟨day.setReg Reg.LINK_LINK_CFG 8, [.up], by unfold State.between; decide⟩⟩

theorem test_meets_TicksAndFrameStarts :
    (∃ (s : State) (i : TickIn), s.running = true) ∧
    (∃ (s : State) (i : TickIn), s.running = true) ∧
    (∃ (s : State) (i : FrameIn), s.running = true ∧ s.mode.resetPend = true) ∧
    (∃ (s : State) (i : FrameIn), s.holding = true ∧ s.ident.done = false ∧ s.mode.resetPend = false) ∧
    (∃ (s : State) (i : FrameIn), s.holding = true ∧ s.ident.done = false ∧ s.mode.resetPend = false) ∧
    (∃ (s : State) (x : Side) (i : FrameIn), s.running = true ∧ s.link.training = none ∧ x ≠ s.clk.side ∧ (s.sd x).lock = true) ∧
    (∃ (s : State) (x : Side) (i : FrameIn), s.running = true ∧ s.link.training = none ∧ x ≠ s.clk.side ∧ (s.sd x).lock = true) ∧
    (∃ (s : State) (i : FrameIn), s.acting = true ∧ s.mode.resetPend = false) ∧
    (∃ (s : State) (i : FrameIn), s.acting = true ∧ s.mode.resetPend = false) ∧
    (∃ (s : State) (i : FrameIn), s.acting = true ∧ s.mode.resetPend = false ∧ s.link.training = none ∧
      (s.sd s.clk.side).lock = true ∧ (s.sd s.clk.side).held = true ∧
      (((s.sd s.clk.side).marker i).faw ≠ .expected ∨ (i.len ≠ 0 ∧ i.len ≠ frameLen s.clk.daylight))) ∧
    (∃ (s : State) (i : FrameIn), s.acting = true ∧ s.mode.resetPend = false ∧ s.link.training = none ∧
      (s.sd s.clk.side).lock = true ∧ (s.sd s.clk.side).held = true ∧
      (((s.sd s.clk.side).marker i).faw ≠ .expected ∨ (i.len ≠ 0 ∧ i.len ≠ frameLen s.clk.daylight))) ∧
    (∃ (s : State) (i : FrameIn), s.acting = true ∧ s.mode.resetPend = false ∧ s.link.training = none ∧
      (s.sd s.clk.side).lock = true ∧ (s.sd s.clk.side).held = true ∧ ((s.sd s.clk.side).marker i).faw = .expected ∧
      (i.len = 0 ∨ i.len = frameLen s.clk.daylight)) ∧
    (∃ (s : State) (i : FrameIn), s.acting = true ∧ s.mode.resetPend = false ∧ s.link.training = none ∧
      (s.sd s.clk.side).lock = true ∧ (s.sd s.clk.side).held = true ∧ ((s.sd s.clk.side).marker i).faw = .expected ∧
      (i.len = 0 ∨ i.len = frameLen s.clk.daylight)) ∧
    (∃ (s : State) (i : FrameIn), s.acting = true ∧ s.mode.resetPend = false) ∧
    (∃ (s : State) (i : FrameIn), s.acting = true ∧ s.mode.resetPend = false) ∧
    (∃ (s : State) (i : FrameIn) (a : Nat) (b : Nat), s.acting = true ∧ s.mode.resetPend = false ∧ Reg.kindOf a = some .m ∧
      s.checks a = true ∧ assocGet s.par a = none ∧ b ≤ 32 ∧ i.cfgUpsets = [(a, b)]) ∧
    (∃ (s : State) (i : FrameIn) (a : Nat) (b : Nat), s.acting = true ∧ s.mode.resetPend = false ∧ Reg.kindOf a = some .m ∧
      s.checks a = true ∧ assocGet s.par a = none ∧ b ≤ 32 ∧ i.cfgUpsets = [(a, b)]) :=
  ⟨⟨dark, {}, by decide⟩,
   ⟨{ day with clk := { day.clk with epoch := 0xFFFFFFFF } }, {}, by decide⟩,
   ⟨{ dark with mode := { resetPend := true } }, { len := 192 }, by decide⟩,
   ⟨{ dark with clk := { dark.clk with power := .hold }, ident := {} }, { len := 192 }, by decide⟩,
   ⟨{ dark with clk := { dark.clk with power := .hold }, ident := {}, mode := { holdPin := true } }, { len := 192 }, by decide⟩,
   ⟨day, .b, { len := 8192 }, by decide⟩,
   ⟨day, .b, { faw := .missing }, by decide⟩,
   ⟨day, { len := 8192 }, by decide⟩,
   ⟨dark, { len := 192 }, by decide⟩,
   ⟨day, { faw := .missing }, by decide⟩,
   ⟨dark, { len := 190 }, by decide⟩,
   ⟨day, { len := 8192 }, by decide⟩,
   ⟨dark, {}, by decide⟩,
   ⟨{ day with clk := { day.clk with epochHiPend := some 7 }, link := { day.link with loopPend := some 0x13 }, ident := { day.ident with ovrPend := [0x7503] } }, { len := 8192 },
      by decide⟩,
   ⟨{ dark with clk := { dark.clk with epochHiPend := some 7 } }, { faw := .missing }, by decide⟩,
   ⟨day, { cfgUpsets := [(Reg.FRONT_MIC_EN, 3)] }, Reg.FRONT_MIC_EN, 3, by decide⟩,
   ⟨dark, { cfgUpsets := [(Reg.LINK_LINK_CFG, 32)] }, Reg.LINK_LINK_CFG, 32, by decide⟩⟩

theorem test_meets_HeadersGiveEpochAndPosition :
    (∃ (s : State) (h : BitVec 416) (skew : BitVec 24), GoodHeader s s.clk.side h ∧ s.clk.hasEpoch = false) ∧
    (∃ (s : State) (h : BitVec 416) (skew : BitVec 24), GoodHeader s s.clk.side h ∧ s.clk.hasEpoch = true ∧
      s.clk.rateBad = false ∧ s.clk.switched = false ∧ s.clk.rateCheck = false) ∧
    (∃ (s : State) (h : BitVec 416) (skew : BitVec 24), GoodHeader s s.clk.side h ∧ s.clk.hasEpoch = true ∧
      s.clk.rateBad = false ∧ s.clk.switched = false ∧ s.clk.rateCheck = false) ∧
    (∃ (s : State) (h : BitVec 416) (skew : BitVec 24), GoodHeader s .a h ∧ Hdr.enumActive h = true ∧ Hdr.enumDir h = false) ∧
    (∃ (s : State) (h : BitVec 416) (skew : BitVec 24), GoodHeader s .b h ∧ Hdr.enumActive h = true ∧ Hdr.enumDir h = true) ∧
    (∃ (s : State) (h : BitVec 416) (skew : BitVec 24), GoodHeader s .b h ∧ Hdr.enumActive h = true ∧ Hdr.enumDir h = true) ∧
    (∃ (s : State) (x : Side) (h : BitVec 416) (skew : BitVec 24), Hdr.enumActive h = false) :=
  ⟨⟨{ dark with clk := { dark.clk with hasEpoch := false } }, header false 0xFFFFFFFE, 5, by unfold GoodHeader; decide +kernel⟩,
   ⟨dark, header false 0x12345, 0, by unfold GoodHeader; decide +kernel⟩,
   ⟨dark, header false 0x12347, 0, by unfold GoodHeader; decide +kernel⟩,
   ⟨dark, header false 0x12345 1 0 9, 0, by unfold GoodHeader; decide +kernel⟩,
   ⟨{ dark with ident := { dark.ident with position := 0 } }, header false 0x12345 1 1 9, 0,
      by unfold GoodHeader; decide +kernel⟩,
   ⟨dark, header false 0x12345 1 1 9, 0, by unfold GoodHeader; decide +kernel⟩,
   ⟨dark, .a, header false 0x12345, 0, by decide +kernel⟩⟩

theorem test_meets_ShowSlotsAreCapturedAndDecided :
    (∃ (s : State) (x : Side) (slots : List Sample) (check : Word), s.acting = true ∧ s.hears x = true ∧ s.clk.daylight = true ∧
      (s.sd x).lock = true ∧ (s.sd x).faw = true ∧ (s.sd x).void = false) ∧
    (∃ (s : State) (x : Side) (slots : List Sample) (check : Word), s.acting = true ∧ s.hears x = true ∧ s.clk.daylight = true ∧
      (s.sd x).lock = true ∧ (s.sd x).faw = true ∧ (s.sd x).void = false) ∧
    (∃ (s : State) (e : Epoch32) (rest : List Epoch32) (c : Capture), s.acting = true ∧ s.clk.daylight = true ∧
      s.frame.due = e :: rest ∧ s.usable s.clk.side e = some c) ∧
    (∃ (s : State) (e : Epoch32) (rest : List Epoch32) (c : Capture), s.acting = true ∧ s.clk.daylight = true ∧
      s.frame.due = e :: rest ∧ s.usable s.clk.side e = none ∧ s.usable (other s.clk.side) e = some c) ∧
    (∃ (s : State) (e : Epoch32) (rest : List Epoch32), s.acting = true ∧ s.clk.daylight = true ∧ s.frame.due = e :: rest ∧
      s.usable s.clk.side e = none ∧ s.usable (other s.clk.side) e = none) :=
  ⟨⟨day, .a, [1, 2, 3], crc32 (samplesBits [1, 2, 3]), by decide⟩,
   ⟨{ day with sideA := { day.sideA with mask := [0, 2, 40], classes := 0x12 } }, .a, [1, 2, 3], 5, by decide⟩,
   ⟨{ day with frame := { due := [7, 8], masks := [(7, [3])] }, sideA := { lock := true, caps := [{ epoch := 7, valid := true, slots := [(3, 1, 5)] }] }, sideB := { lock := true, caps := [] } }, 7, [8], { epoch := 7, valid := true, slots := [(3, 1, 5)] },
      by decide⟩,
   ⟨{ day with frame := { due := [7, 8], masks := [(7, [3])] }, sideA := { lock := true, caps := [{ epoch := 7, valid := false, slots := [(3, 1, 5)] }] }, sideB := { lock := true, caps := [{ epoch := 7, valid := true, slots := [(3, 1, 5)] }] } }, 7, [8], { epoch := 7, valid := true, slots := [(3, 1, 5)] },
      by decide⟩,
   ⟨{ day with frame := { due := [7, 8], masks := [(7, [3])] }, sideA := { lock := true, caps := [{ epoch := 7, valid := false, slots := [(3, 1, 5)] }] }, sideB := { lock := true, caps := [] } }, 7, [8],
      by decide⟩⟩

theorem test_meets_ListenFieldPasses :
    (∃ (s : State) (x : Side) (ws : List Word) (check : Word), s.running = true ∧ s.link.training = none ∧
      s.link.forwarding = true ∧ s.link.loop = none ∧ s.link.wrap = none ∧ (s.sd x).resourced = false ∧
      (s.out (other x)).void = false ∧ (s.mayAdd x = false ∨ s.clk.daylight = false)) ∧
    (∃ (s : State) (x : Side) (ws : List Word) (check : Word), s.running = true ∧ s.link.training = none ∧
      s.link.forwarding = true ∧ s.link.loop = none ∧ s.link.wrap = none ∧ (s.sd x).resourced = false ∧
      (s.out (other x)).void = false ∧ (s.mayAdd x = false ∨ s.clk.daylight = false)) ∧
    (∃ (s : State) (x : Side) (ws : List Word) (check : Word), s.running = true ∧ s.link.training = none ∧
      s.link.forwarding = true ∧ s.link.loop = none ∧ s.link.wrap = none ∧ (s.sd x).resourced = false ∧
      (s.out (other x)).void = false) ∧
    (∃ (s : State) (x : Side) (ws : List Word) (check : Word), s.running = true ∧ s.link.training = none ∧
      s.link.forwarding = true ∧ s.link.loop = none ∧ s.link.wrap = none ∧ (s.sd x).resourced = false ∧
      (s.out (other x)).void = false) :=
  ⟨⟨dark, .a, [1, 2, 3, 4], 77, by decide⟩,
   ⟨{ day with sideA := { day.sideA with lock := false } }, .a, [1, 2], 7, by decide⟩,
   ⟨day, .a, [0, 64, 128], crc32 (wordsBits [0, 64, 128]), by decide⟩,
   ⟨{ day with mx := { plan := [(0x8000, 0x4000), (0x8001, 0x4000)] } }, .b, [0, 64, 128], 7, by decide⟩⟩

theorem test_meets_RegisterFieldQueuesItsCommand :
    (∃ (s : State) (x : Side) (p : List Word) (k : Nat) (check : Half), s.acting = true ∧ s.hears x = true ∧ s.copyOk x = true ∧
      (s.sd x).wrapped = false ∧ s.copyAllowed x = true ∧ (regSeen s.frame.regs (s.sd x).epoch).taken = false ∧
      1 ≤ bits (p.headD 0) 31 28 ∧ bits (p.headD 0) 31 28 ≤ 7 ∧ packetLen (p.headD 0) (p.getD 1 0) = some p.length ∧
      s.accepts (pktUnit (p.headD 0)) = true ∧ s.dropReason (p.headD 0) = none ∧ s.calmTank ∧ s.queue.tags.length = 16 ∧
      crc16 (wordsBits (p ++ List.replicate k 0)) = check) ∧
    (∃ (s : State) (x : Side) (p : List Word) (k : Nat) (check : Half), s.acting = true ∧ s.hears x = true ∧ s.copyOk x = true ∧
      (s.sd x).wrapped = false ∧ s.copyAllowed x = true ∧ (regSeen s.frame.regs (s.sd x).epoch).taken = false ∧
      1 ≤ bits (p.headD 0) 31 28 ∧ bits (p.headD 0) 31 28 ≤ 7 ∧ packetLen (p.headD 0) (p.getD 1 0) = some p.length ∧
      s.accepts (pktUnit (p.headD 0)) = true ∧ s.dropReason (p.headD 0) = none ∧ s.calmTank ∧ s.queue.tags.length = 16 ∧
      crc16 (wordsBits (p ++ List.replicate k 0)) = check) ∧
    (∃ (s : State) (x : Side) (ws : List Word) (check : Half), s.running = true ∧ s.link.training = none ∧
      (((regSeen s.frame.regs (s.sd x).epoch).taken = true ∧
      (regSeen s.frame.regs (s.sd x).epoch).got x = false) ∨ crc16 (wordsBits ws) ≠ check ∨ s.copyOk x = false)) ∧
    (∃ (s : State) (x : Side) (ws : List Word) (check : Half), s.running = true ∧ s.link.training = none ∧
      (((regSeen s.frame.regs (s.sd x).epoch).taken = true ∧
      (regSeen s.frame.regs (s.sd x).epoch).got x = false) ∨ crc16 (wordsBits ws) ≠ check ∨ s.copyOk x = false)) :=
  ⟨⟨dark, .a, [0x30105100, 0x00F00050], 2, crc16 (wordsBits [0x30105100, 0x00F00050, 0, 0]),
      by unfold State.calmTank; decide +kernel⟩,
   ⟨dark, .b, [0x23105100, 0x00F00050], 2, crc16 (wordsBits [0x23105100, 0x00F00050, 0, 0]),
      by unfold State.calmTank; decide +kernel⟩,
   ⟨dark, .a, [0x30105100, 0x00F00050, 0, 0], 1, by decide +kernel⟩,
   ⟨{ dark with frame := { regs := [{ epoch := 0x12345, gotA := true, taken := true }] } }, .b, [0x30105100, 0x00F00050, 0, 0], crc16 (wordsBits [0x30105100, 0x00F00050, 0, 0]),
      by decide +kernel⟩⟩

theorem test_meets_EventFieldKeepsOtherUnitsWords :
    (∃ (s : State) (x : Side) (ws : List Word) (check : Half), s.running = true ∧ s.link.training = none ∧
      s.link.forwarding = true ∧ s.link.loop = none ∧ s.link.wrap = none ∧ (s.sd x).resourced = false ∧
      (s.out (other x)).void = false) ∧
    (∃ (s : State) (x : Side) (ws : List Word) (check : Half), s.running = true ∧ s.link.training = none ∧
      s.link.forwarding = true ∧ s.link.loop = none ∧ s.link.wrap = none ∧ (s.sd x).resourced = false ∧
      (s.out (other x)).void = false) ∧
    (∃ (s : State) (x : Side) (ws : List Word) (check : Half), s.running = true ∧ s.link.training = none ∧
      s.link.forwarding = true ∧ (s.sd x).resourced = false ∧ (s.out (other x)).void = false ∧ s.link.loop = none ∧
      (s.link.wrap = none ∨ s.link.wrap = some (other x))) ∧
    (∃ (s : State) (x : Side) (ws : List Word) (check : Half), s.running = true ∧ s.link.training = none ∧
      s.link.forwarding = true ∧ (s.sd x).resourced = false ∧ (s.out (other x)).void = false ∧ s.link.loop = none ∧
      (s.link.wrap = none ∨ s.link.wrap = some (other x))) :=
  ⟨⟨dark, .a, [5, 0, 0, 7], crc16 (wordsBits [5, 0, 0, 7]), by decide⟩,
   ⟨{ dark with sideA := { dark.sideA with epoch := 0 }, queue := { events := [⟨1, 2, 3, false, false, 0⟩, ⟨2, 2, 3, false, true, 1⟩] } }, .a, [5, 0, 0, 7], crc16 (wordsBits [5, 0, 0, 7]),
      by decide⟩,
   ⟨dark, .a, [5, 0, 0, 7], crc16 (wordsBits [5, 0, 0, 7]), by decide⟩,
   ⟨{ dark with sideA := { dark.sideA with epoch := 0 }, queue := { events := [⟨1, 2, 3, false, false, 0⟩, ⟨2, 2, 3, false, true, 1⟩] } }, .a, [5, 0, 0, 7], crc16 (wordsBits [5, 0, 0, 7]),
      by decide⟩⟩

theorem test_meets_HostWriteStoresAndReplies :
    (∃ (s : State) (n : Nat) (c : Cmd) (rest : List Cmd) (v : Word), s.between ∧ s.acting = true ∧ s.noPair ∧ s.atHead c rest ∧
      bits c.hdr 31 28 = 2 ∧ 1 ≤ n ∧ c.data = [v] ∧ plainReg (c.addr 0) ∧ c.addr 0 ≠ Reg.QUEUE_CMD_COUNT ∧
      s.pageOff (c.addr 0) = false ∧ s.queue.tags.length = 16 ∧ s.calmTank) ∧
    (∃ (s : State) (n : Nat) (c : Cmd) (rest : List Cmd) (v : Word), s.between ∧ s.acting = true ∧ s.noPair ∧ s.atHead c rest ∧
      bits c.hdr 31 28 = 2 ∧ 1 ≤ n ∧ c.data = [v] ∧ plainReg (c.addr 0) ∧ c.addr 0 ≠ Reg.QUEUE_CMD_COUNT ∧
      s.pageOff (c.addr 0) = false ∧ s.queue.tags.length = 16 ∧ s.calmTank) ∧
    (∃ (s : State) (n : Nat) (c : Cmd) (rest : List Cmd) (v : Word), s.between ∧ s.acting = true ∧ s.noPair ∧ s.atHead c rest ∧
      bits c.hdr 31 28 = 3 ∧ 1 ≤ n ∧ c.data = [v] ∧ plainReg (c.addr 0) ∧ c.addr 0 ≠ Reg.QUEUE_CMD_COUNT ∧
      s.pageOff (c.addr 0) = false) ∧
    (∃ (s : State) (n : Nat) (c : Cmd) (rest : List Cmd), s.between ∧ s.acting = true ∧ s.noPair ∧ s.atHead c rest ∧
      bits c.hdr 31 28 = 2 ∧ 1 ≤ n ∧ (Reg.kindOf (c.addr 0) = some .h ∨ s.pageOff (c.addr 0) = true) ∧ s.calmTank) ∧
    (∃ (s : State) (n : Nat) (c : Cmd) (rest : List Cmd), s.between ∧ s.acting = true ∧ s.noPair ∧ s.atHead c rest ∧
      bits c.hdr 31 28 = 2 ∧ 1 ≤ n ∧ (Reg.kindOf (c.addr 0) = some .h ∨ s.pageOff (c.addr 0) = true) ∧ s.calmTank) :=
  ⟨⟨(dark).withCmd ⟨0x23105100#32, 0, [0x00F00050], false, 0⟩, 1, ⟨0x23105100#32, 0, [0x00F00050], false, 0⟩, [], 0x00F00050,
      by unfold State.atHead plainReg State.calmTank State.between State.noPair; decide⟩,
   ⟨(day).withCmd ⟨0x23105107#32, 0, [7], false, 0⟩, 2, ⟨0x23105107#32, 0, [7], false, 0⟩, [], 7,
      by unfold State.atHead plainReg State.calmTank State.between State.noPair; decide⟩,
   ⟨(dark).withCmd ⟨0x33105100#32, 0, [0x00F00050], false, 0⟩, 1, ⟨0x33105100#32, 0, [0x00F00050], false, 0⟩, [], 0x00F00050,
      by unfold State.atHead plainReg State.between State.noPair; decide⟩,
   ⟨(dark).withCmd ⟨0x23105302#32, 0, [7], false, 0⟩, 1, ⟨0x23105302#32, 0, [7], false, 0⟩, [],
      by unfold State.atHead State.calmTank State.between State.noPair; decide⟩,
   ⟨(dark).withCmd ⟨0x23105612#32, 0, [7], false, 0⟩, 1, ⟨0x23105612#32, 0, [7], false, 0⟩, [],
      by unfold State.atHead State.calmTank State.between State.noPair; decide⟩⟩

theorem test_meets_ReadsAnswerTheRegister :
    (∃ (s : State) (n : Nat) (c : Cmd) (rest : List Cmd), s.between ∧ s.acting = true ∧ s.noPair ∧ s.atHead c rest ∧
      bits c.hdr 31 28 = 1 ∧ 1 ≤ n ∧ c.addr 0 ≠ Reg.CHIP_IX_DATA ∧ c.addr 0 ≠ Reg.CHIP_EPOCH_LO ∧
      c.addr 0 ≠ Reg.SHEET_FEAT_READ_0 ∧ c.addr 0 ≠ Reg.SHEET_SCORE_READ ∧ c.addr 0 ≠ Reg.LOUPE_FRAME_LEN ∧
      s.pageOff (c.addr 0) = false ∧ s.calmTank) ∧
    (∃ (s : State) (n : Nat) (c : Cmd) (rest : List Cmd), s.between ∧ s.acting = true ∧ s.noPair ∧ s.atHead c rest ∧
      bits c.hdr 31 28 = 1 ∧ 1 ≤ n ∧ c.addr 0 ≠ Reg.CHIP_IX_DATA ∧ c.addr 0 ≠ Reg.CHIP_EPOCH_LO ∧
      c.addr 0 ≠ Reg.SHEET_FEAT_READ_0 ∧ c.addr 0 ≠ Reg.SHEET_SCORE_READ ∧ c.addr 0 ≠ Reg.LOUPE_FRAME_LEN ∧
      s.pageOff (c.addr 0) = false ∧ s.calmTank) ∧
    (∃ (s : State) (addr : Nat), s.between ∧ s.reaches .loupe = true ∧ addr % 4 = 0 ∧ ofWindow (busAddr addr) = false ∧
      busAddr addr ≠ Reg.CHIP_EPOCH_LO ∧ busAddr addr ≠ Reg.SHEET_FEAT_READ_0 ∧ busAddr addr ≠ Reg.SHEET_SCORE_READ ∧
      busAddr addr ≠ Reg.LOUPE_FRAME_LEN) ∧
    (∃ (s : State) (addr : Nat), s.between ∧ s.reaches .loupe = true ∧ addr % 4 = 0 ∧ ofWindow (busAddr addr) = false ∧
      busAddr addr ≠ Reg.CHIP_EPOCH_LO ∧ busAddr addr ≠ Reg.SHEET_FEAT_READ_0 ∧ busAddr addr ≠ Reg.SHEET_SCORE_READ ∧
      busAddr addr ≠ Reg.LOUPE_FRAME_LEN) ∧
    (∃ (s : State) (addr : Nat) (width : Nat), s.between ∧ s.reaches .loupe = true ∧ (width = 1 ∨ width = 2) ∧ addr % width = 0 ∧
      ofWindow (busAddr addr) = false) ∧
    (∃ (s : State) (addr : Nat) (width : Nat), s.between ∧ s.reaches .loupe = true ∧ (width = 1 ∨ width = 2) ∧ addr % width = 0 ∧
      ofWindow (busAddr addr) = false) ∧
    (∃ (s : State) (addr : Nat), s.between ∧ s.reaches .loupe = true ∧ addr % 8 = 0 ∧ plainReg (busAddr addr) ∧
      ofWindow (busAddr addr) = false ∧ plainReg (busAddr (addr + 4)) ∧ s.pageOff (busAddr addr) = false ∧
      s.pageOff (busAddr (addr + 4)) = false) :=
  ⟨⟨(dark).withCmd ⟨0x13105100#32, 0, [], false, 0⟩, 1, ⟨0x13105100#32, 0, [], false, 0⟩, [],
      by unfold State.atHead State.calmTank State.between State.noPair; decide⟩,
   ⟨(day).withCmd ⟨0x13105031#32, 0, [], false, 0⟩, 1, ⟨0x13105031#32, 0, [], false, 0⟩, [],
      by unfold State.atHead State.calmTank State.between State.noPair; decide⟩,
   ⟨dark, 1024, by unfold State.between; decide⟩,
   ⟨day, 3084, by unfold State.between; decide⟩,
   ⟨dark, 1026, 2, by unfold State.between; decide⟩,
   ⟨day, 141, 1, by unfold State.between; decide⟩,
   ⟨dark, 1048, by unfold plainReg State.between; decide⟩⟩

theorem test_meets_BurstsRunInOrder :
    (∃ (s : State) (n : Nat) (c : Cmd) (rest : List Cmd), s.between ∧ s.acting = true ∧ s.noPair ∧ s.atHead c rest ∧
      bits c.hdr 31 28 = 4 ∧ c.bad = false ∧ c.n ≤ n ∧ ((∀ k, k < c.n → plainReg (c.addr k) ∧ s.pageOff (c.addr k) = false)) ∧
      s.calmTank) ∧
    (∃ (s : State) (n : Nat) (op : Nat) (c : Cmd) (rest : List Cmd), s.between ∧ s.acting = true ∧ s.noPair ∧ s.atHead c rest ∧
      (op = 5 ∨ op = 6) ∧ bits c.hdr 31 28 = op ∧ c.bad = false ∧ c.n ≤ n ∧ ((∀ k, k < c.n → plainReg (c.addr k) ∧
      s.pageOff (c.addr k) = false ∧ c.addr k ≠ Reg.QUEUE_CMD_COUNT)) ∧ ((∀ j, j < c.n → ∀ i, i < j → c.addr i ≠ c.addr j)) ∧
      s.calmTank) ∧
    (∃ (s : State) (n : Nat) (op : Nat) (c : Cmd) (rest : List Cmd), s.between ∧ s.acting = true ∧ s.noPair ∧ s.atHead c rest ∧
      (op = 5 ∨ op = 6) ∧ bits c.hdr 31 28 = op ∧ c.bad = false ∧ c.n ≤ n ∧ ((∀ k, k < c.n → plainReg (c.addr k) ∧
      s.pageOff (c.addr k) = false ∧ c.addr k ≠ Reg.QUEUE_CMD_COUNT)) ∧ ((∀ j, j < c.n → ∀ i, i < j → c.addr i ≠ c.addr j)) ∧
      s.calmTank) ∧
    (∃ (s : State) (n : Nat) (op : Nat) (c : Cmd) (rest : List Cmd), s.between ∧ s.acting = true ∧ s.noPair ∧ s.calmTank ∧
      s.atHead c rest ∧ (op = 4 ∨ op = 5 ∨ op = 6) ∧ bits c.hdr 31 28 = op ∧ c.bad = true ∧ 1 ≤ n) ∧
    (∃ (s : State) (n : Nat) (op : Nat) (c : Cmd) (rest : List Cmd), s.between ∧ s.acting = true ∧ s.noPair ∧ s.calmTank ∧
      s.atHead c rest ∧ (op = 4 ∨ op = 5 ∨ op = 6) ∧ bits c.hdr 31 28 = op ∧ c.bad = true ∧ 1 ≤ n) :=
  ⟨⟨(dark).withCmd ⟨0x43105203#32, 2, [], false, 0⟩, 2, ⟨0x43105203#32, 2, [], false, 0⟩, [],
      by unfold State.atHead plainReg State.calmTank State.between State.noPair; decide⟩,
   ⟨(day).withCmd ⟨0x53105107#32, 1, [9], false, 0⟩, 1, 5, ⟨0x53105107#32, 1, [9], false, 0⟩, [],
      by unfold State.atHead plainReg State.calmTank State.between State.noPair; decide⟩,
   ⟨(dark).withCmd ⟨0x63105203#32, 2, [9, 8], false, 0⟩, 2, 6, ⟨0x63105203#32, 2, [9, 8], false, 0⟩, [],
      by unfold State.atHead plainReg State.calmTank State.between State.noPair; decide⟩,
   ⟨(dark).withCmd ⟨0x43105100#32, 3, [], true, 0⟩, 1, 4, ⟨0x43105100#32, 3, [], true, 0⟩, [],
      by unfold State.calmTank State.atHead State.between State.noPair; decide⟩,
   ⟨(dark).withCmd ⟨0x53105100#32, 0, [], true, 0⟩, 1, 5, ⟨0x53105100#32, 0, [], true, 0⟩, [],
      by unfold State.calmTank State.atHead State.between State.noPair; decide⟩⟩

theorem test_meets_AbortsAreExaminedOnce :
    (∃ (s : State), s.between ∧ ((∀ a, a ∈ s.queue.aborts → a.waiting = true ∨ a.due = false))) ∧
    (∃ (s : State), s.between ∧ ((∀ a, a ∈ s.queue.aborts → a.waiting = true ∨ a.due = false))) ∧
    (∃ (s : State) (g : Nat) (k : Nat) (rest : List Abort), s.between ∧ s.acting = true ∧ g < 16 ∧ s.queue.tags.length = 16 ∧
      s.queue.aborts = ⟨g, false, true, k⟩ :: rest ∧ s.calmTank) ∧
    (∃ (s : State) (g : Nat) (k : Nat) (rest : List Abort), s.between ∧ s.acting = true ∧ g < 16 ∧ s.queue.tags.length = 16 ∧
      s.queue.aborts = ⟨g, false, true, k⟩ :: rest ∧ s.calmTank) :=
  ⟨⟨{ dark with queue := { aborts := [⟨3, false, false, 0⟩] } }, by unfold State.between; decide⟩,
   ⟨dark, by unfold State.between; decide⟩,
   ⟨{ dark with queue := { aborts := [⟨3, false, true, 0⟩] } }, 3, 0, [], by unfold State.calmTank State.between; decide⟩,
   ⟨{ dark with queue := { cmds := [⟨0x23105100#32, 0, [1], false, 0⟩], tags := modNth dark.queue.tags 3 (fun _ => ⟨.queued, 0⟩), aborts := [⟨3, false, true, 0⟩] } }, 3, 0, [],
      by unfold State.calmTank State.between; decide⟩⟩

theorem test_meets_WritesByRegisterClass :
    (∃ (s : State) (src : Src) (addr : Nat) (v : Word), s.between ∧ s.reaches src = true ∧ s.noPair ∧ addr % 4 = 0 ∧
      ((src = .loupe → ofWindow (busAddr addr) = false))) ∧
    (∃ (s : State) (src : Src) (addr : Nat) (v : Word), s.between ∧ s.reaches src = true ∧ s.noPair ∧ addr % 4 = 0 ∧
      ((src = .loupe → ofWindow (busAddr addr) = false))) ∧
    (∃ (s : State) (i : FrameIn) (src : Src) (v : Word), s.between ∧ s.reaches src = true ∧ s.noPair ∧ s.acting = true ∧
      s.hears .b = true ∧ s.clk.side = .a ∧ (s.sd .b).lock = true ∧ i.faw = .missing) ∧
    (∃ (s : State) (i : FrameIn) (src : Src) (v : Word), s.between ∧ s.reaches src = true ∧ s.noPair ∧ s.acting = true ∧
      s.hears .b = true ∧ s.clk.side = .a ∧ (s.sd .b).lock = true ∧ i.faw = .missing) ∧
    (∃ (s : State) (addr : Nat) (v : Word), s.reaches .loupe = true ∧ addr % 4 = 0 ∧ ofWindow (busAddr addr) = true) ∧
    (∃ (s : State) (addr : Nat) (v : Word), s.reaches .loupe = true ∧ addr % 4 = 0 ∧ ofWindow (busAddr addr) = true) ∧
    (∃ (s : State) (src : Src) (addr : Nat) (v : Word), s.between ∧ s.reaches src = true ∧ s.noPair ∧ addr % 4 = 0 ∧
      Reg.kindOf (busAddr addr) = some .s ∧ s.pageOff (busAddr addr) = false) ∧
    (∃ (s : State) (src : Src) (addr : Nat) (v : Word), s.between ∧ s.reaches src = true ∧ s.noPair ∧ addr % 4 = 0 ∧
      Reg.kindOf (busAddr addr) = some .s ∧ s.pageOff (busAddr addr) = false) :=
  ⟨⟨dark, .host, 1024, 0x00F00050, by unfold State.between State.noPair; decide⟩,
   ⟨dark, .host, 1052, 9, by unfold State.between State.noPair; decide⟩,
   ⟨dark, { faw := .missing }, .host, 77, by unfold State.between State.noPair; decide⟩,
   ⟨day, { faw := .missing }, .loupe, 77, by unfold State.between State.noPair; decide⟩,
   ⟨day, 36, 5, by decide⟩,
   ⟨dark, 32, 5, by decide⟩,
   ⟨(dark.setFlag Reg.QUEUE_QUEUE_STATUS 3).endCycle, .host, 3076, 0x00010008, by unfold State.between State.noPair; decide⟩,
   ⟨(dark.setFlag Reg.QUEUE_QUEUE_STATUS 3).endCycle, .host, 3076, 8, by unfold State.between State.noPair; decide⟩⟩

theorem test_meets_GuardedPairsArmBreakAndStore :
    (∃ (s : State) (src : Src) (addr : Nat) (v : Word), s.between ∧ s.reaches src = true ∧ s.noPair ∧ addr % 4 = 0 ∧
      Reg.isPairA (busAddr addr) = true ∧ s.pageOff (busAddr addr) = false) ∧
    (∃ (s : State) (src : Src) (addr : Nat) (v : Word), s.between ∧ s.reaches src = true ∧ s.noPair ∧ addr % 4 = 0 ∧
      Reg.isPairA (busAddr addr) = true ∧ s.pageOff (busAddr addr) = false) ∧
    (∃ (s : State) (src : Src) (arm : Armed) (addr : Nat) (v : Word), s.roomFor 1 ∧ s.reaches src = true ∧
      s.armed src = some arm ∧ s.armed (otherSrc src) = none ∧ addr % 4 = 0 ∧ busAddr addr ≠ arm.addr + 4 ∧
      plainReg (busAddr addr) ∧ s.pageOff (busAddr addr) = false ∧ busAddr addr ≠ Reg.CHIP_REG_FAULT) ∧
    (∃ (s : State) (src : Src) (arm : Armed) (addr : Nat) (v : Word), s.roomFor 1 ∧ s.reaches src = true ∧
      s.armed src = some arm ∧ addr % 4 = 0 ∧ busAddr addr ≠ arm.addr + 4 ∧ Reg.kindOf (busAddr addr) ≠ some .g ∧
      Reg.kindOf (busAddr addr) ≠ some .s ∧ busAddr addr ≠ Reg.CHIP_REG_FAULT ∧ ofWindow (busAddr addr) = false) ∧
    (∃ (s : State) (src : Src) (arm : Armed) (addr : Nat) (v : Word), s.roomFor 1 ∧ s.reaches src = true ∧
      s.armed src = some arm ∧ addr % 4 = 0 ∧ busAddr addr ≠ arm.addr + 4 ∧ Reg.kindOf (busAddr addr) ≠ some .g ∧
      Reg.kindOf (busAddr addr) ≠ some .s ∧ busAddr addr ≠ Reg.CHIP_REG_FAULT ∧ ofWindow (busAddr addr) = false) ∧
    (∃ (s : State) (n : Nat) (op : Nat) (c : Cmd) (rest : List Cmd) (arm : Armed), s.roomFor 1 ∧ s.acting = true ∧
      s.armed .host = some arm ∧ s.atHead c rest ∧ s.calmTank ∧ (op = 1 ∧ s.pageOff (c.addr 0) = false ∧
      ofWindow (c.addr 0) = false ∨ (op = 4 ∨ op = 5 ∨ op = 6) ∧ c.bad = true) ∧ bits c.hdr 31 28 = op ∧ 1 ≤ n) ∧
    (∃ (s : State) (n : Nat) (op : Nat) (c : Cmd) (rest : List Cmd) (arm : Armed), s.roomFor 1 ∧ s.acting = true ∧
      s.armed .host = some arm ∧ s.atHead c rest ∧ s.calmTank ∧ (op = 1 ∧ s.pageOff (c.addr 0) = false ∧
      ofWindow (c.addr 0) = false ∨ (op = 4 ∨ op = 5 ∨ op = 6) ∧ c.bad = true) ∧ bits c.hdr 31 28 = op ∧ 1 ≤ n) ∧
    (∃ (c : Instr) (s : State) (src : Src) (a : Nat) (v : Word), guardedRow c = some (src, a, v) ∧ s.roomFor 1 ∧
      s.reaches src = true ∧ s.armed (otherSrc src) = none ∧ s.pageOff a = false ∧ s.armed src ≠ some ⟨a, ~~~v⟩ ∧
      ((∀ m ∈ s.armed src, m.addr = a))) ∧
    (∃ (c : Instr) (s : State) (src : Src) (a : Nat) (v : Word), guardedRow c = some (src, a, v) ∧ s.roomFor 1 ∧
      s.reaches src = true ∧ s.armed (otherSrc src) = none ∧ s.pageOff a = false ∧ s.armed src ≠ some ⟨a, ~~~v⟩ ∧
      ((∀ m ∈ s.armed src, m.addr = a))) ∧
    (∃ (c : Instr) (s : State) (src : Src) (a : Nat) (v : Word), guardedRow c = some (src, a, v) ∧ s.pairReady src a v ∧
      rowFits c (~~~v) = true ∧ guardLater a (~~~v &&& guardMask a) = false) ∧
    (∃ (c : Instr) (s : State) (src : Src) (a : Nat) (v : Word), guardedRow c = some (src, a, v) ∧ s.pairReady src a v ∧
      rowFits c (~~~v) = true ∧ guardLater a (~~~v &&& guardMask a) = false) ∧
    (∃ (c : Instr) (s : State) (src : Src) (a : Nat) (v : Word), guardedRow c = some (src, a, v) ∧ s.pairReady src a v ∧
      rowFits c (~~~v) = true ∧ guardLater a (~~~v &&& guardMask a) = true) ∧
    (∃ (c : Instr) (s : State) (src : Src) (a : Nat) (v : Word), guardedRow c = some (src, a, v) ∧ s.pairReady src a v ∧
      rowFits c (~~~v) = true ∧ guardLater a (~~~v &&& guardMask a) = true) ∧
    (∃ (c : Instr) (s : State) (src : Src) (a : Nat) (v : Word), guardedRow c = some (src, a, v) ∧ s.between ∧
      s.reaches src = true ∧ s.armed src = some ⟨a, ~~~v⟩ ∧ s.armed (otherSrc src) = none ∧ s.pageOff a = false ∧
      rowFits c (~~~v) = true ∧ s.guardRefused src a (~~~v &&& guardMask a) = true) ∧
    (∃ (c : Instr) (s : State) (src : Src) (a : Nat) (v : Word), guardedRow c = some (src, a, v) ∧ s.between ∧
      s.reaches src = true ∧ s.armed src = some ⟨a, ~~~v⟩ ∧ s.armed (otherSrc src) = none ∧ s.pageOff a = false ∧
      rowFits c (~~~v) = true ∧ s.guardRefused src a (~~~v &&& guardMask a) = true) :=
  ⟨⟨dark, .host, 192, 1, by unfold State.between State.noPair; decide⟩,
   ⟨day, .loupe, 11264, 1, by unfold State.between State.noPair; decide⟩,
   ⟨dark.armedHost 192 1, .host, ⟨192, 1⟩, 1024, 0x00F00050, by unfold State.roomFor plainReg State.between; decide⟩,
   ⟨day.armedHost 192 1, .host, ⟨192, 1⟩, 1024, 0x00F00050, by unfold State.roomFor State.between; decide⟩,
   ⟨day.armedHost 192 1, .host, ⟨192, 1⟩, 6212, 0x000F0009, by unfold State.roomFor State.between; decide⟩,
   ⟨(dark.armedHost 192 1).withCmd ⟨0x13105100#32, 0, [], false, 0⟩, 1, 1, ⟨0x13105100#32, 0, [], false, 0⟩, [], ⟨192, 1⟩,
      by unfold State.roomFor State.atHead State.calmTank State.between; decide⟩,
   ⟨(day.armedHost 192 1).withCmd ⟨0x53105100#32, 0, [], true, 0⟩, 1, 5, ⟨0x53105100#32, 0, [], true, 0⟩, [], ⟨192, 1⟩,
      by unfold State.roomFor State.atHead State.calmTank State.between; decide⟩,
   ⟨.requestDaylight .host 5, dark, .host, 192, 5, by unfold State.roomFor State.between; decide⟩,
   ⟨.wipe .host 5, day.armedHost 13356 1, .host, 13356, 5, by unfold State.roomFor State.between; decide⟩,
   ⟨.linkLoopOff .host 0xFFFFFFFF, day.armedHost 1056 0, .host, 1056, 0xFFFFFFFF,
      by unfold State.pairReady State.between; decide⟩,
   ⟨.modeWithdraw .host 0xFFFFFFFF, day.armedHost 192 0, .host, 192, 0xFFFFFFFF, by unfold State.pairReady State.between; decide⟩,
   ⟨.epochHiSet .host 0xFFFFEDCB, day.armedHost 148 4660, .host, 148, 0xFFFFEDCB,
      by unfold State.pairReady State.between; decide⟩,
   ⟨.addrOverride .host 0xFFFFBEFA, day.armedHost 80 16645, .host, 80, 0xFFFFBEFA,
      by unfold State.pairReady State.between; decide⟩,
   ⟨.requestDaylight .host 0xFFFFFFFE, ({ dark with clk := { dark.clk with rcTarget := 1 } } : State).armedHost 192 1, .host, 192, 0xFFFFFFFE,
      by unfold State.between; decide⟩,
   ⟨.unitReset .host 0xFFFFFFFE, (day : State).armedHost 216 1, .host, 216, 0xFFFFFFFE, by unfold State.between; decide⟩⟩

theorem test_meets_IndirectWindowReachesItsSpace :
    (∃ (s : State), s.between ∧ s.reaches .host = true ∧ s.noPair ∧ (s.ixSpace = 1 ∧ s.ixWord < 256 ∨ s.ixSpace = 2 ∧
      s.ixWord < 512)) ∧
    (∃ (s : State), s.between ∧ s.reaches .host = true ∧ s.noPair ∧ (s.ixSpace = 1 ∧ s.ixWord < 256 ∨ s.ixSpace = 2 ∧
      s.ixWord < 512)) ∧
    (∃ (s : State), s.between ∧ s.reaches .host = true ∧ s.noPair ∧ (s.ixSpace = 0 ∧
      s.space0Refused s.ixWord = true ∨ s.ixSpace = 1 ∧ 256 ≤ s.ixWord ∨ s.ixSpace = 2 ∧ 512 ≤ s.ixWord ∨ s.ixSpace = 3 ∧
      s.tplOut s.ixWord = true ∨ s.ixSpace = 4 ∧ (s.latentWord s.ixWord).isNone = true)) ∧
    (∃ (s : State), s.between ∧ s.reaches .host = true ∧ s.noPair ∧ (s.ixSpace = 0 ∧
      s.space0Refused s.ixWord = true ∨ s.ixSpace = 1 ∧ 256 ≤ s.ixWord ∨ s.ixSpace = 2 ∧ 512 ≤ s.ixWord ∨ s.ixSpace = 3 ∧
      s.tplOut s.ixWord = true ∨ s.ixSpace = 4 ∧ (s.latentWord s.ixWord).isNone = true)) ∧
    (∃ (s : State) (v : Word), s.between ∧ s.reaches .host = true ∧ s.noPair ∧ s.ixSpace = 0 ∧ s.space0Writable s.ixWord = true ∧
      s.bank.borrowed = false ∧ s.bank.errs = []) ∧
    (∃ (s : State) (v : Word), s.between ∧ s.reaches .host = true ∧ s.noPair ∧ s.ixSpace = 0 ∧ s.space0Writable s.ixWord = true ∧
      s.bank.borrowed = false ∧ s.bank.errs = []) ∧
    (∃ (s : State) (v : Word), s.between ∧ s.reaches .host = true ∧ s.noPair ∧ (s.ixSpace = 0 ∧
      s.space0Writable s.ixWord = false ∨ s.ixSpace = 3 ∧ s.tplLocked (s.ixWord / 1024) = true ∨ s.ixSpace = 4)) ∧
    (∃ (s : State) (v : Word), s.between ∧ s.reaches .host = true ∧ s.noPair ∧ (s.ixSpace = 0 ∧
      s.space0Writable s.ixWord = false ∨ s.ixSpace = 3 ∧ s.tplLocked (s.ixWord / 1024) = true ∨ s.ixSpace = 4)) ∧
    (∃ (s : State) (v : Word), s.between ∧ s.reaches .loupe = true) :=
  ⟨⟨dark.setReg Reg.CHIP_IX_ADDR 0x10000084, by unfold State.between State.noPair; decide +kernel⟩,
   ⟨day.setReg Reg.CHIP_IX_ADDR 0x20000184, by unfold State.between State.noPair; decide +kernel⟩,
   ⟨dark.setReg Reg.CHIP_IX_ADDR 0x00000000, by unfold State.between State.noPair; decide +kernel⟩,
   ⟨dark.setReg Reg.CHIP_IX_ADDR 0x10000100, by unfold State.between State.noPair; decide +kernel⟩,
   ⟨day.setReg Reg.CHIP_IX_ADDR 0x00160005, 0xDEADBEEF, by unfold State.between State.noPair; decide⟩,
   ⟨day.setReg Reg.CHIP_IX_ADDR 0x0017FFFF, 0xDEADBEEF, by unfold State.between State.noPair; decide⟩,
   ⟨dark.setReg Reg.CHIP_IX_ADDR 0x00000005, 1, by unfold State.between State.noPair; decide⟩,
   ⟨({ dark with sheet := { enabled := [3] } }).setReg Reg.CHIP_IX_ADDR 0x30000C05, 1,
      by unfold State.between State.noPair; decide⟩,
   ⟨day, 1, by unfold State.between; decide⟩⟩

theorem test_meets_LatchingAndUnalignedAccesses :
    (∃ (s : State) (src : Src), s.between ∧ s.reaches src = true ∧ s.noPair) ∧
    (∃ (s : State) (src : Src), s.between ∧ s.reaches src = true ∧ s.noPair ∧ s.pageOff Reg.SHEET_SCORE_READ = false) ∧
    (∃ (s : State) (src : Src), s.between ∧ s.reaches src = true ∧ s.noPair ∧ s.pageOff Reg.SHEET_FEAT_READ_0 = false ∧
      s.fld Reg.SHEET_FEAT_SEL 3 0 < 9) ∧
    (∃ (s : State) (src : Src), s.between ∧ s.reaches src = true ∧ s.noPair ∧ s.pageOff Reg.LOUPE_FRAME_LEN = false ∧
      s.loupe.halted = false ∧ s.loupe.lenBlank = false) ∧
    (∃ (s : State) (addr : Nat) (width : Nat), s.roomFor 1 ∧ s.reaches .loupe = true ∧ (width = 2 ∨ width = 4 ∨ width = 8) ∧
      addr % width ≠ 0) :=
  ⟨⟨dark, .host, by unfold State.between State.noPair; decide⟩,
   ⟨dark, .host, by unfold State.between State.noPair; decide⟩,
   ⟨dark, .loupe, by unfold State.between State.noPair; decide⟩,
   ⟨day, .loupe, by unfold State.between State.noPair; decide⟩,
   ⟨dark, 0x1235, 4, by unfold State.roomFor State.between; decide⟩⟩

theorem test_meets_ValuesOutOfRangeHaveNoEffect :
    (∃ (s : State) (v : Word), s.between ∧ s.reaches .host = true ∧ s.noPair) ∧
    (∃ (s : State) (v : Word), s.between ∧ s.reaches .host = true ∧ s.noPair) ∧
    (∃ (s : State) (src : Src) (v : Word), s.between ∧ s.reaches src = true ∧ s.noPair ∧ bits v 31 16 ≠ 0 ∧
      s.pageOff Reg.APER_SCALE = false) ∧
    (∃ (s : State) (src : Src) (v : Word), s.between ∧ s.reaches src = true ∧ s.noPair ∧ bits v 31 16 ≠ 0 ∧
      s.pageOff Reg.APER_SCALE = false) :=
  ⟨⟨dark, 0x00014000, by unfold State.between State.noPair; decide⟩,
   ⟨dark, 0x50000000, by unfold State.between State.noPair; decide⟩,
   ⟨day, .host, 0xFFFF5FFF, by unfold State.between State.noPair; decide⟩,
   ⟨day, .host, 0xFFFF6000, by unfold State.between State.noPair; decide⟩⟩

theorem test_meets_NarrowLoupeWritesAreDiscarded :
    (∃ (s : State) (addr : Nat) (width : Nat) (v : Word), s.roomFor 1 ∧ s.reaches .loupe = true ∧ (width = 1 ∨ width = 2) ∧
      addr % width = 0) ∧
    (∃ (s : State) (addr : Nat) (width : Nat) (v : Word), s.roomFor 1 ∧ s.reaches .loupe = true ∧ (width = 1 ∨ width = 2) ∧
      addr % width = 0) :=
  ⟨⟨dark, 0x1236, 2, 7, by unfold State.roomFor State.between; decide⟩,
   ⟨dark, 0x1237, 1, 7, by unfold State.roomFor State.between; decide⟩⟩

theorem test_meets_SwapsCommitsAndPlanSwitches :
    (∃ (s : State) (src : Src) (v : Word), s.writeReady src Reg.DECIM_SWAP_CTL v ∧
      bitOf (maskedWrite (s.reg Reg.DECIM_SWAP_CTL) v) 0 = true) ∧
    (∃ (s : State) (src : Src) (v : Word), s.writeReady src Reg.DECIM_SWAP_CTL v ∧
      bitOf (maskedWrite (s.reg Reg.DECIM_SWAP_CTL) v) 0 = true) ∧
    (∃ (s : State) (src : Src) (v : Word), s.writeReady src Reg.APER_COMMIT v ∧ s.aper.beams.length = 8 ∧
      bitOf (maskedWrite (s.reg Reg.APER_COMMIT) v) 3 = true) ∧
    (∃ (s : State) (src : Src) (v : Word), s.writeReady src Reg.APER_COMMIT v ∧ s.aper.beams.length = 8 ∧
      bitOf (maskedWrite (s.reg Reg.APER_COMMIT) v) 3 = true) ∧
    (∃ (s : State) (src : Src) (v : Word), s.writeReady src Reg.MX_SWITCH_CTL v ∧ s.roomFor 1 ∧
      bitOf (maskedWrite (s.reg Reg.MX_SWITCH_CTL) v) 0 = true ∧ bitOf (maskedWrite (s.reg Reg.MX_SWITCH_CTL) v) 1 = false) ∧
    (∃ (s : State) (src : Src) (v : Word), s.writeReady src Reg.MX_SWITCH_CTL v ∧ s.roomFor 1 ∧
      bitOf (maskedWrite (s.reg Reg.MX_SWITCH_CTL) v) 0 = true ∧ bitOf (maskedWrite (s.reg Reg.MX_SWITCH_CTL) v) 1 = false) :=
  ⟨⟨(day).setReg Reg.DECIM_DECIM_CFG 0x100, .host, 0x00030003, by unfold State.writeReady State.between State.noPair; decide⟩,
   ⟨day, .host, 0x00030003, by unfold State.writeReady State.between State.noPair; decide⟩,
   ⟨day, .host, 0x000F000B, by unfold State.writeReady State.between State.noPair; decide⟩,
   ⟨{ day with aper := { beams := modNth day.aper.beams 3 (fun b => { b with pend := some {} }) } }, .loupe, 0x000F000B,
      by unfold State.writeReady State.between State.noPair; decide⟩,
   ⟨(day).setReg Reg.MX_SWITCH_EPOCH 0x20000, .host, 0x00010001,
      by unfold State.writeReady State.roomFor State.between State.noPair; decide⟩,
   ⟨(day).setReg Reg.MX_SWITCH_EPOCH 0x12345, .host, 0x00010001,
      by unfold State.writeReady State.roomFor State.between State.noPair; decide⟩⟩

theorem test_meets_CancelDisarmsThePlanSwitch :
    (∃ (s : State) (src : Src) (v : Word), s.writeReady src Reg.MX_SWITCH_CTL v ∧
      bitOf (maskedWrite (s.reg Reg.MX_SWITCH_CTL) v) 1 = true) ∧
    (∃ (s : State) (src : Src) (v : Word), s.writeReady src Reg.MX_SWITCH_CTL v ∧
      bitOf (maskedWrite (s.reg Reg.MX_SWITCH_CTL) v) 1 = true) :=
  ⟨⟨{ day with mx := { armed := some 0x20000 } }, .host, 0x00030003,
      by unfold State.writeReady State.between State.noPair; decide⟩,
   ⟨{ day with mx := { armed := some 0x20000 } }, .host, 0x00020002,
      by unfold State.writeReady State.between State.noPair; decide⟩⟩

theorem test_meets_SeedsProfilesAndTemplatesAreStaged :
    (∃ (s : State) (src : Src) (v : Word), s.writeReady src Reg.DEV_SEED_CTL v ∧ s.dev.streams.length = 9 ∧
      bitOf (maskedWrite (s.reg Reg.DEV_SEED_CTL) v) 9 = true) ∧
    (∃ (s : State) (src : Src) (v : Word), s.writeReady src Reg.DEV_SEED_CTL v ∧ s.dev.streams.length = 9 ∧
      bitOf (maskedWrite (s.reg Reg.DEV_SEED_CTL) v) 9 = true) ∧
    (∃ (s : State) (src : Src) (v : Word), s.writeReady src Reg.DEV_PROF_COMMIT v ∧ s.roomFor 1 ∧
      bitOf (maskedWrite (s.reg Reg.DEV_PROF_COMMIT) v) 3 = true) ∧
    (∃ (s : State) (src : Src) (v : Word), s.writeReady src Reg.DEV_PROF_COMMIT v ∧ s.roomFor 1 ∧
      bitOf (maskedWrite (s.reg Reg.DEV_PROF_COMMIT) v) 3 = true) ∧
    (∃ (s : State) (src : Src) (v : Word) (n : Nat), s.writeReady src Reg.SHEET_TPL_CTL v ∧ s.roomFor 1 ∧
      n = bits (maskedWrite (s.reg Reg.SHEET_TPL_CTL) v) 7 0 ∧ bitOf (maskedWrite (s.reg Reg.SHEET_TPL_CTL) v) 9 = true ∧
      bitOf (maskedWrite (s.reg Reg.SHEET_TPL_CTL) v) 8 = true) ∧
    (∃ (s : State) (src : Src) (v : Word) (n : Nat), s.writeReady src Reg.SHEET_TPL_CTL v ∧ s.roomFor 1 ∧
      n = bits (maskedWrite (s.reg Reg.SHEET_TPL_CTL) v) 7 0 ∧ bitOf (maskedWrite (s.reg Reg.SHEET_TPL_CTL) v) 9 = true ∧
      bitOf (maskedWrite (s.reg Reg.SHEET_TPL_CTL) v) 8 = true) ∧
    (∃ (s : State) (src : Src) (v : Word), s.writeReady src Reg.SHEET_TPL_CTL v ∧
      bitOf (maskedWrite (s.reg Reg.SHEET_TPL_CTL) v) 9 = true ∧ bitOf (maskedWrite (s.reg Reg.SHEET_TPL_CTL) v) 8 = false) :=
  ⟨⟨day, .host, 0x03FF0305, by unfold State.writeReady State.between State.noPair; decide⟩,
   ⟨dark, .host, 0x03FF0201, by unfold State.writeReady State.between State.noPair; decide⟩,
   ⟨day, .host, 0x000F000B, by unfold State.writeReady State.roomFor State.between State.noPair; decide⟩,
   ⟨(dark.setReg Reg.DEV_PROF_STAGE_0 0x03000200).setReg (Reg.DEV_PROF_STAGE_0 + 4) 0xFFFFFFFF, .host, 0x000F000A,
      by unfold State.writeReady State.roomFor State.between State.noPair; decide⟩,
   ⟨day, .host, 0x03FF0305, 5, by unfold State.writeReady State.roomFor State.between State.noPair; decide⟩,
   ⟨{ day with sheet := { enabled := [5], reqs := [(5, false)] } }, .host, 0x03FF0305, 5,
      by unfold State.writeReady State.roomFor State.between State.noPair; decide⟩,
   ⟨day, .host, 0x03FF0205, by unfold State.writeReady State.between State.noPair; decide⟩⟩

theorem test_meets_LatentRingsAreReleasedAndRestarted :
    (∃ (s : State) (src : Src) (v : Word), s.writeReady src Reg.LATENT_LAT_CTL v ∧ s.roomFor 2 ∧
      bitOf (maskedWrite (s.reg Reg.LATENT_LAT_CTL) v) 2 = true) ∧
    (∃ (s : State) (src : Src) (v : Word), s.writeReady src Reg.LATENT_LAT_CTL v ∧ s.roomFor 2 ∧
      bitOf (maskedWrite (s.reg Reg.LATENT_LAT_CTL) v) 2 = true) ∧
    (∃ (s : State) (src : Src) (v : Word), s.writeReady src Reg.LATENT_LAT_CTL v ∧ s.roomFor 2 ∧
      bitOf (maskedWrite (s.reg Reg.LATENT_LAT_CTL) v) 3 = true) ∧
    (∃ (s : State) (src : Src) (v : Word), s.writeReady src Reg.LATENT_LAT_CTL v ∧ s.roomFor 2 ∧
      bitOf (maskedWrite (s.reg Reg.LATENT_LAT_CTL) v) 3 = true) ∧
    (∃ (s : State) (src : Src) (v : Word), s.writeReady src Reg.LATENT_LAT_CTL v ∧ s.flag Reg.LATENT_LAT_CTL 1 = false ∧
      bitOf (maskedWrite (s.reg Reg.LATENT_LAT_CTL) v) 1 = true) ∧
    (∃ (s : State) (src : Src) (v : Word), s.writeReady src Reg.LATENT_LAT_CTL v ∧ s.flag Reg.LATENT_LAT_CTL 1 = false ∧
      bitOf (maskedWrite (s.reg Reg.LATENT_LAT_CTL) v) 1 = true) :=
  ⟨⟨({ day with latent := { w := { frozen := true } } }).setReg Reg.LATENT_LAT_CTL 3, .host, 0x00040004,
      by unfold State.writeReady State.roomFor State.between State.noPair; decide⟩,
   ⟨day, .host, 0x000F000F, by unfold State.writeReady State.roomFor State.between State.noPair; decide⟩,
   ⟨({ day with latent := { d := { pend := some (5, 3) } } }).setReg Reg.LATENT_LAT_CTL 3, .host, 0x00080008,
      by unfold State.writeReady State.roomFor State.between State.noPair; decide⟩,
   ⟨(day).setReg Reg.LATENT_LAT_CTL 1, .host, 0x000F000F,
      by unfold State.writeReady State.roomFor State.between State.noPair; decide⟩,
   ⟨(day).setReg Reg.LATENT_LAT_CTL 1, .host, 0x00020002, by unfold State.writeReady State.between State.noPair; decide⟩,
   ⟨({ day with latent := { d := { frozen := true, total := 8 } } }).setReg Reg.LATENT_LAT_CTL 1, .host, 0x000A000A,
      by unfold State.writeReady State.between State.noPair; decide⟩⟩

theorem test_meets_SearchesLatchesAndClears :
    (∃ (s : State) (src : Src) (v : Word), s.writeReady src Reg.STAGE_STEER_CTL v ∧ s.roomFor 1 ∧
      bitOf (maskedWrite (s.reg Reg.STAGE_STEER_CTL) v) 0 = true) ∧
    (∃ (s : State) (src : Src) (v : Word), s.writeReady src Reg.STAGE_STEER_CTL v ∧ s.roomFor 1 ∧
      bitOf (maskedWrite (s.reg Reg.STAGE_STEER_CTL) v) 0 = true) ∧
    (∃ (c : Instr) (s : State) (src : Src) (v : Word), s.writeReady src Reg.STAGE_LATCH v ∧ s.fixer.hist.length = 44 ∧
      ((bits (s.reg Reg.STAGE_LATCH &&& ~~~maskedWrite (s.reg Reg.STAGE_LATCH) v) 7 0 ≠ 0 ∧
      c = .latchClear src v) ∨ c = .registerWrite src Reg.STAGE_LATCH { vals := [v] })) ∧
    (∃ (c : Instr) (s : State) (src : Src) (v : Word), s.writeReady src Reg.STAGE_LATCH v ∧ s.fixer.hist.length = 44 ∧
      ((bits (s.reg Reg.STAGE_LATCH &&& ~~~maskedWrite (s.reg Reg.STAGE_LATCH) v) 7 0 ≠ 0 ∧
      c = .latchClear src v) ∨ c = .registerWrite src Reg.STAGE_LATCH { vals := [v] })) ∧
    (∃ (s : State) (src : Src) (v : Word), s.writeReady src Reg.FRONT_BIAS_EN v ∧ s.front.bias.length = 16 ∧
      s.fixer.hist.length = 44 ∧ bits (v &&& (v >>> 16)) 15 0 ≠ 0) ∧
    (∃ (s : State) (src : Src) (v : Word), s.writeReady src Reg.FRONT_BIAS_EN v ∧ s.front.bias.length = 16 ∧
      s.fixer.hist.length = 44 ∧ bits (v &&& (v >>> 16)) 15 0 ≠ 0) ∧
    (∃ (s : State) (src : Src) (v : Word), s.writeReady src Reg.FIXER_CLEAR v ∧ s.fixer.hist.length = 44 ∧
      bitOf (maskedWrite (s.reg Reg.FIXER_CLEAR) v) 8 = true) ∧
    (∃ (s : State) (src : Src) (v : Word), s.writeReady src Reg.FIXER_CLEAR v ∧ s.fixer.hist.length = 44 ∧
      bitOf (maskedWrite (s.reg Reg.FIXER_CLEAR) v) 8 = true) :=
  ⟨⟨day, .host, 0x00010001, by unfold State.writeReady State.roomFor State.between State.noPair; decide⟩,
   ⟨(day).setReg Reg.STAGE_STEER_WIN 0x12C64096, .host, 0x000D000D,
      by unfold State.writeReady State.roomFor State.between State.noPair; decide⟩,
   ⟨.latchClear .host 0x00070002, (day).setReg Reg.STAGE_LATCH 0xFF, .host, 0x00070002,
      by unfold State.writeReady State.between State.noPair; decide⟩,
   ⟨.latchClear .loupe 0xFFFF0000, (day).setReg Reg.STAGE_LATCH 0x3, .loupe, 0xFFFF0000,
      by unfold State.writeReady State.between State.noPair; decide⟩,
   ⟨day, .host, 0x00070005, by unfold State.writeReady State.between State.noPair; decide⟩,
   ⟨{ day with front := { bias := modNth day.front.bias 2 (fun b => { b with latched := true, shorted := some 5 }) } }, .loupe, 0x00070005,
      by unfold State.writeReady State.between State.noPair; decide⟩,
   ⟨{ day with fixer := { hist := modNth day.fixer.hist 4 (fun _ => ⟨[5], true, 3⟩) } }, .host, 0x013F0104,
      by unfold State.writeReady State.between State.noPair; decide⟩,
   ⟨day, .host, 0x013F013F, by unfold State.writeReady State.between State.noPair; decide⟩⟩

theorem test_meets_MailboxPassesAndCompletes :
    (∃ (c : Instr) (s : State) (src : Src) (v : Word), mailboxRow c = some (src, v) ∧ s.between ∧ s.reaches src = true ∧
      s.noPair ∧ s.pageOff Reg.LOUPE_MBX_CMD = false ∧ bits v 31 16 ≠ 0 ∧
      bitOf (maskedWrite (s.reg Reg.LOUPE_MBX_CMD) v) 8 = true ∧
      mailboxFits c (bits (maskedWrite (s.reg Reg.LOUPE_MBX_CMD) v) 7 0) = true) ∧
    (∃ (c : Instr) (s : State) (src : Src) (v : Word), mailboxRow c = some (src, v) ∧ s.between ∧ s.reaches src = true ∧
      s.noPair ∧ s.pageOff Reg.LOUPE_MBX_CMD = false ∧ bits v 31 16 ≠ 0 ∧
      bitOf (maskedWrite (s.reg Reg.LOUPE_MBX_CMD) v) 8 = true ∧
      mailboxFits c (bits (maskedWrite (s.reg Reg.LOUPE_MBX_CMD) v) 7 0) = true) ∧
    (∃ (s : State) (r : Word) (snap : Sensors) (op : Nat) (arg : Word), s.acting = true ∧ s.loupe.powered = true ∧
      s.loupe.halted = false ∧ s.loupe.mbx = some (op, arg)) ∧
    (∃ (s : State) (r : Word) (snap : Sensors) (op : Nat) (arg : Word), s.acting = true ∧ s.loupe.powered = true ∧
      s.loupe.halted = false ∧ s.loupe.mbx = some (op, arg)) :=
  ⟨⟨.echo .host 0x01FF0100, day, .host, 0x01FF0100, by unfold State.between State.noPair; decide⟩,
   ⟨.snapshot .host 0x01FF0101, day, .host, 0x01FF0101, by unfold State.between State.noPair; decide⟩,
   ⟨{ day with loupe := { day.loupe with mbx := some (0, 9) } }, 7, ⟨[1, 2, 3, 4], [1, 2, 3, 4, 5]⟩, 0, 9, by decide⟩,
   ⟨{ day with loupe := { day.loupe with mbx := some (1, 0) } }, 7, ⟨[1, 2, 3, 4], [1, 2, 3, 4, 5]⟩, 1, 0, by decide⟩⟩

theorem test_meets_LoopsWaitOrAreRefused :
    (∃ (c : Instr) (s : State) (src : Src) (v : Word), (c = .padLoop src v ∧ bits (~~~v) 1 0 = 1 ∨ c = .laneLoop src v ∧
      bits (~~~v) 1 0 = 2 ∨ c = .frameLoop src v ∧ bits (~~~v) 1 0 = 3) ∧ s.pairReady src Reg.LINK_PROOF_CTL_A v) ∧
    (∃ (c : Instr) (s : State) (src : Src) (v : Word), (c = .padLoop src v ∧ bits (~~~v) 1 0 = 1 ∨ c = .laneLoop src v ∧
      bits (~~~v) 1 0 = 2 ∨ c = .frameLoop src v ∧ bits (~~~v) 1 0 = 3) ∧ s.pairReady src Reg.LINK_PROOF_CTL_A v) ∧
    (∃ (s : State) (src : Src) (v : Word), bits (~~~v) 1 0 = 0 ∧ s.pairReady src Reg.LINK_PROOF_CTL_A v) ∧
    (∃ (s : State) (src : Src) (v : Word), bits (~~~v) 1 0 = 0 ∧ s.pairReady src Reg.LINK_PROOF_CTL_A v) ∧
    (∃ (c : Instr) (s : State) (src : Src) (v : Word), (c = .analogLoop src v ∧ bits (~~~v) 1 0 = 1 ∨ c = .bitstreamLoop src v ∧
      bits (~~~v) 1 0 = 2 ∨ c = .pdmLoop src v ∧ bits (~~~v) 1 0 = 3 ∨ c = .frontLoopOff src v ∧
      bits (~~~v) 1 0 = 0 ∨ c = .capture src v ∧ bitOf (~~~v) 2 = true) ∧ s.pairReady src Reg.FRONT_PROOF_CTL_A v) ∧
    (∃ (c : Instr) (s : State) (src : Src) (v : Word), (c = .analogLoop src v ∧ bits (~~~v) 1 0 = 1 ∨ c = .bitstreamLoop src v ∧
      bits (~~~v) 1 0 = 2 ∨ c = .pdmLoop src v ∧ bits (~~~v) 1 0 = 3 ∨ c = .frontLoopOff src v ∧
      bits (~~~v) 1 0 = 0 ∨ c = .capture src v ∧ bitOf (~~~v) 2 = true) ∧ s.pairReady src Reg.FRONT_PROOF_CTL_A v) ∧
    (∃ (c : Instr) (s : State) (src : Src) (v : Word), (c = .digitalLoop src v ∧ bits (~~~v) 1 0 = 1 ∨ c = .dacLoop src v ∧
      bits (~~~v) 1 0 = 2 ∨ c = .stageLoop src v ∧ bits (~~~v) 1 0 = 3) ∧ s.pairReady src Reg.PRINT_PROOF_CTL_A v) ∧
    (∃ (c : Instr) (s : State) (src : Src) (v : Word), (c = .digitalLoop src v ∧ bits (~~~v) 1 0 = 1 ∨ c = .dacLoop src v ∧
      bits (~~~v) 1 0 = 2 ∨ c = .stageLoop src v ∧ bits (~~~v) 1 0 = 3) ∧ s.pairReady src Reg.PRINT_PROOF_CTL_A v) ∧
    (∃ (c : Instr) (s : State) (src : Src) (v : Word), (c = .analogLoop src v ∧ bits (~~~v) 1 0 = 1 ∧ 12 ≤ bits (~~~v) 7 4 ∧
      s.front.pdmPhase ≠ 0 ∧ s.front.pdmTaken.testBit (bits (~~~v) 7 4 - 12) = true ∨ c = .pdmLoop src v ∧ bits (~~~v) 1 0 = 3 ∧
      (s.front.pdmPhase ≠ 2 ∨ s.front.mirrorEn = false)) ∧ s.between ∧ s.reaches src = true ∧
      s.armed src = some ⟨Reg.FRONT_PROOF_CTL_A, ~~~v⟩ ∧ s.armed (otherSrc src) = none ∧ s.clk.daylight = true) ∧
    (∃ (c : Instr) (s : State) (src : Src) (v : Word), (c = .analogLoop src v ∧ bits (~~~v) 1 0 = 1 ∧ 12 ≤ bits (~~~v) 7 4 ∧
      s.front.pdmPhase ≠ 0 ∧ s.front.pdmTaken.testBit (bits (~~~v) 7 4 - 12) = true ∨ c = .pdmLoop src v ∧ bits (~~~v) 1 0 = 3 ∧
      (s.front.pdmPhase ≠ 2 ∨ s.front.mirrorEn = false)) ∧ s.between ∧ s.reaches src = true ∧
      s.armed src = some ⟨Reg.FRONT_PROOF_CTL_A, ~~~v⟩ ∧ s.armed (otherSrc src) = none ∧ s.clk.daylight = true) ∧
    (∃ (c : Instr) (s : State) (src : Src) (v : Word), (c = .analogLoop src v ∧ bits (~~~v) 1 0 = 1 ∨ c = .bitstreamLoop src v ∧
      bits (~~~v) 1 0 = 2 ∨ c = .pdmLoop src v ∧ bits (~~~v) 1 0 = 3 ∨ c = .frontLoopOff src v ∧
      bits (~~~v) 1 0 = 0 ∨ c = .capture src v ∧ bitOf (~~~v) 2 = true) ∧ s.between ∧ s.reaches src = true ∧
      (s.noPair ∨ (s.armed src = some ⟨Reg.FRONT_PROOF_CTL_A, ~~~v⟩ ∧ s.armed (otherSrc src) = none)) ∧ s.clk.daylight = false) ∧
    (∃ (c : Instr) (s : State) (src : Src) (v : Word), (c = .analogLoop src v ∧ bits (~~~v) 1 0 = 1 ∨ c = .bitstreamLoop src v ∧
      bits (~~~v) 1 0 = 2 ∨ c = .pdmLoop src v ∧ bits (~~~v) 1 0 = 3 ∨ c = .frontLoopOff src v ∧
      bits (~~~v) 1 0 = 0 ∨ c = .capture src v ∧ bitOf (~~~v) 2 = true) ∧ s.between ∧ s.reaches src = true ∧
      (s.noPair ∨ (s.armed src = some ⟨Reg.FRONT_PROOF_CTL_A, ~~~v⟩ ∧ s.armed (otherSrc src) = none)) ∧ s.clk.daylight = false) ∧
    (∃ (c : Instr) (s : State) (src : Src) (v : Word), (c = .digitalLoop src v ∧ bits (~~~v) 1 0 = 1 ∨ c = .dacLoop src v ∧
      bits (~~~v) 1 0 = 2 ∨ c = .stageLoop src v ∧ bits (~~~v) 1 0 = 3) ∧ s.between ∧ s.reaches src = true ∧
      s.armed src = some ⟨Reg.PRINT_PROOF_CTL_A, ~~~v⟩ ∧ s.armed (otherSrc src) = none ∧ s.clk.daylight = true ∧
      ((s.drive (bits (~~~v) 4 2)).st ≠ .off ∨ s.clk.rcTarget ≠ 0 ∨ (bits (~~~v) 1 0 = 3 ∧
      s.flag Reg.PRINT_MASTER_A 0 = false))) ∧
    (∃ (c : Instr) (s : State) (src : Src) (v : Word), (c = .digitalLoop src v ∧ bits (~~~v) 1 0 = 1 ∨ c = .dacLoop src v ∧
      bits (~~~v) 1 0 = 2 ∨ c = .stageLoop src v ∧ bits (~~~v) 1 0 = 3) ∧ s.between ∧ s.reaches src = true ∧
      s.armed src = some ⟨Reg.PRINT_PROOF_CTL_A, ~~~v⟩ ∧ s.armed (otherSrc src) = none ∧ s.clk.daylight = true ∧
      ((s.drive (bits (~~~v) 4 2)).st ≠ .off ∨ s.clk.rcTarget ≠ 0 ∨ (bits (~~~v) 1 0 = 3 ∧
      s.flag Reg.PRINT_MASTER_A 0 = false))) :=
  ⟨⟨.padLoop .host 0xFFFFFFFA, (dark : State).armedHost 1056 5, .host, 0xFFFFFFFA,
      by unfold State.pairReady State.between; decide⟩,
   ⟨.laneLoop .host 0xFFFFFFFD, (day : State).armedHost 1056 2, .host, 0xFFFFFFFD,
      by unfold State.pairReady State.between; decide⟩,
   ⟨(dark : State).armedHost 1056 0, .host, 0xFFFFFFFF, by unfold State.pairReady State.between; decide⟩,
   ⟨({ dark with link := { loop := some (1, .b, 0) } } : State).armedHost 1056 0, .host, 0xFFFFFFFF,
      by unfold State.pairReady State.between; decide⟩,
   ⟨.analogLoop .host 0xFFFFFFCE, (day : State).armedHost 4156 49, .host, 0xFFFFFFCE,
      by unfold State.pairReady State.between; decide⟩,
   ⟨.bitstreamLoop .host 0xFFFFFFCD, (day : State).armedHost 4156 50, .host, 0xFFFFFFCD,
      by unfold State.pairReady State.between; decide⟩,
   ⟨.digitalLoop .host 0xFFFFFFFA, (day : State).armedHost 11356 5, .host, 0xFFFFFFFA,
      by unfold State.pairReady State.between; decide⟩,
   ⟨.dacLoop .host 0xFFFFFFF9, (day : State).armedHost 11356 6, .host, 0xFFFFFFF9,
      by unfold State.pairReady State.between; decide⟩,
   ⟨.analogLoop .host 0xFFFFFF2E, ({ day with front := { pdmPhase := 2, pdmTaken := 3 } } : State).armedHost 4156 209, .host, 0xFFFFFF2E,
      by unfold State.between; decide⟩,
   ⟨.pdmLoop .host 0xFFFFFFFC, (day : State).armedHost 4156 3, .host, 0xFFFFFFFC, by unfold State.between; decide⟩,
   ⟨.bitstreamLoop .host 0xFFFFFFFD, dark, .host, 0xFFFFFFFD, by unfold State.between State.noPair; decide⟩,
   ⟨.analogLoop .host 0xFFFFFFCE, (dark : State).armedHost 4156 49, .host, 0xFFFFFFCE,
      by unfold State.between State.noPair; decide⟩,
   ⟨.digitalLoop .host 0xFFFFFFFA, ({ day with clk := { day.clk with rcTarget := 2 } } : State).armedHost 11356 5, .host, 0xFFFFFFFA,
      by unfold State.between; decide⟩,
   ⟨.dacLoop .host 0xFFFFFFF9, ({ day with print := { drives := modNth day.print.drives 1 (fun d => { d with st := .play }) } } : State).armedHost 11356 6, .host, 0xFFFFFFF9,
      by unfold State.between; decide⟩⟩

theorem test_meets_OverridesModesAndResets :
    (∃ (s : State) (src : Src) (v : Word), s.pairReady src Reg.CHIP_EPOCH_HI_SET_A v) ∧
    (∃ (s : State) (src : Src) (v : Word), s.pairReady src Reg.CHIP_ADDR_OVR_A v) ∧
    (∃ (s : State) (src : Src) (v : Word), s.pairReady src Reg.CHIP_ADDR_OVR_A v) ∧
    (∃ (c : Instr) (s : State) (src : Src) (v : Word), (c = .modeWithdraw src v ∧
      (bits (~~~v) 1 0 = 0 ∨ bits (~~~v) 1 0 = 3) ∨ c = .requestDaylight src v ∧
      bits (~~~v) 1 0 = 1 ∨ c = .requestSafelight src v ∧ bits (~~~v) 1 0 = 2) ∧ s.between ∧ s.reaches src = true ∧
      s.armed src = some ⟨Reg.CHIP_MODE_REQ_A, ~~~v⟩ ∧ s.armed (otherSrc src) = none) ∧
    (∃ (c : Instr) (s : State) (src : Src) (v : Word), (c = .modeWithdraw src v ∧
      (bits (~~~v) 1 0 = 0 ∨ bits (~~~v) 1 0 = 3) ∨ c = .requestDaylight src v ∧
      bits (~~~v) 1 0 = 1 ∨ c = .requestSafelight src v ∧ bits (~~~v) 1 0 = 2) ∧ s.between ∧ s.reaches src = true ∧
      s.armed src = some ⟨Reg.CHIP_MODE_REQ_A, ~~~v⟩ ∧ s.armed (otherSrc src) = none) ∧
    (∃ (s : State) (src : Src) (v : Word), s.between ∧ s.reaches src = true ∧ s.armed src = some ⟨Reg.CHIP_RESET_A, ~~~v⟩ ∧
      s.armed (otherSrc src) = none ∧ bitOf (~~~v) 0 = true) ∧
    (∃ (s : State) (src : Src) (v : Word), s.between ∧ s.reaches src = true ∧ s.armed src = some ⟨Reg.CHIP_RESET_A, ~~~v⟩ ∧
      s.armed (otherSrc src) = none ∧ bitOf (~~~v) 0 = true) :=
  ⟨⟨(dark : State).armedHost 148 4660, .host, 0xFFFFEDCB, by unfold State.pairReady State.between; decide⟩,
   ⟨(dark : State).armedHost 80 16645, .host, 0xFFFFBEFA, by unfold State.pairReady State.between; decide⟩,
   ⟨(day : State).armedHost 80 16639, .host, 0xFFFFBF00, by unfold State.pairReady State.between; decide⟩,
   ⟨.modeWithdraw .host 0xFFFFFFFF, (dark : State).armedHost 192 0, .host, 0xFFFFFFFF, by unfold State.between; decide⟩,
   ⟨.modeWithdraw .host 0xFFFFFFFC, (day : State).armedHost 192 3, .host, 0xFFFFFFFC, by unfold State.between; decide⟩,
   ⟨(dark : State).armedHost 216 1, .host, 0xFFFFFFFE, by unfold State.between; decide⟩,
   ⟨(day : State).armedHost 216 1, .host, 0xFFFFFFFE, by unfold State.between; decide⟩⟩

theorem test_meets_MasterEnableClearsLatchOuts :
    (∃ (s : State) (src : Src) (v : Word), s.pairReady src Reg.PRINT_MASTER_A v ∧ s.print.drives.length = 8 ∧
      bitOf (~~~v) 0 = true) ∧
    (∃ (s : State) (src : Src) (v : Word), s.pairReady src Reg.PRINT_MASTER_A v ∧ s.print.drives.length = 8 ∧
      bitOf (~~~v) 0 = true) ∧
    (∃ (s : State) (src : Src) (v : Word), s.pairReady src Reg.PRINT_MASTER_A v ∧ bitOf (~~~v) 0 = false) ∧
    (∃ (c : Instr) (s : State) (src : Src) (v : Word), (c = .masterEnable src v ∧
      bitOf (~~~v) 0 = true ∨ c = .masterDisable src v ∧ bitOf (~~~v) 0 = false) ∧ s.between ∧ s.reaches src = true ∧
      s.armed src = some ⟨Reg.PRINT_MASTER_A, ~~~v⟩ ∧ s.armed (otherSrc src) = none ∧ s.clk.daylight = true ∧
      s.clk.rcTarget = 2) ∧
    (∃ (c : Instr) (s : State) (src : Src) (v : Word), (c = .masterEnable src v ∧
      bitOf (~~~v) 0 = true ∨ c = .masterDisable src v ∧ bitOf (~~~v) 0 = false) ∧ s.between ∧ s.reaches src = true ∧
      s.armed src = some ⟨Reg.PRINT_MASTER_A, ~~~v⟩ ∧ s.armed (otherSrc src) = none ∧ s.clk.daylight = true ∧
      s.clk.rcTarget = 2) :=
  ⟨⟨(day : State).armedHost 11264 1, .host, 0xFFFFFFFE, by unfold State.pairReady State.between; decide⟩,
   ⟨({ day with print := { drives := modNth day.print.drives 1 (fun d => { d with latchRom := true, latchClock := true, latchMiss := true, latchShadow := true }) } } : State).armedHost 11264 1, .host, 0xFFFFFFFE,
      by unfold State.pairReady State.between; decide⟩,
   ⟨(day.setReg Reg.PRINT_MASTER_A 1 : State).armedHost 11264 0, .host, 0xFFFFFFFF,
      by unfold State.pairReady State.between; decide⟩,
   ⟨.masterEnable .host 0xFFFFFFFE, ({ day with clk := { day.clk with rcTarget := 2 } } : State).armedHost 11264 1, .host, 0xFFFFFFFE,
      by unfold State.between; decide⟩,
   ⟨.masterDisable .host 0xFFFFFFFF, ({ day with clk := { day.clk with rcTarget := 2 } } : State).armedHost 11264 0, .host, 0xFFFFFFFF,
      by unfold State.between; decide⟩⟩

theorem test_meets_WipesLifecyclePatchesAndTest :
    (∃ (s : State) (src : Src) (v : Word), s.pairReady src Reg.TANK_WIPE_A v ∧ bitOf (~~~v) 0 = true) ∧
    (∃ (s : State) (src : Src) (v : Word), s.pairReady src Reg.TANK_WIPE_A v ∧ bitOf (~~~v) 0 = true) ∧
    (∃ (s : State) (v : Word), s.pairReady .host Reg.LOUPE_LIFE_A v) ∧
    (∃ (s : State) (src : Src) (v : Word), s.between ∧ s.reaches src = true ∧ s.armed src = some ⟨Reg.LOUPE_LIFE_A, ~~~v⟩ ∧
      s.armed (otherSrc src) = none ∧ s.pageOff Reg.LOUPE_LIFE_A = false ∧
      (src = .loupe ∨ bits (~~~v) 1 0 ≠ s.loupe.life + 1 ∨ s.clk.rcTarget ≠ 0 ∨ s.sealed = true)) ∧
    (∃ (s : State) (src : Src) (v : Word), s.between ∧ s.reaches src = true ∧ s.armed src = some ⟨Reg.LOUPE_LIFE_A, ~~~v⟩ ∧
      s.armed (otherSrc src) = none ∧ s.pageOff Reg.LOUPE_LIFE_A = false ∧
      (src = .loupe ∨ bits (~~~v) 1 0 ≠ s.loupe.life + 1 ∨ s.clk.rcTarget ≠ 0 ∨ s.sealed = true)) ∧
    (∃ (s : State) (src : Src) (v : Word), s.pairReady src Reg.LOUPE_PATCH_ACT_A v ∧ bitOf (~~~v) 0 = true) ∧
    (∃ (s : State) (src : Src) (v : Word), s.pairReady src Reg.LOUPE_PATCH_ACT_A v ∧ bitOf (~~~v) 0 = true) ∧
    (∃ (s : State) (src : Src) (v : Word), s.pairReady src Reg.LOUPE_PATCH_ACT_A v ∧ bitOf (~~~v) 0 = false ∧
      bitOf (~~~v) 3 = true ∧ s.loupe.patch = 2 ∧ s.loupe.halted = false) ∧
    (∃ (s : State) (src : Src) (v : Word), s.pairReady src Reg.LOUPE_PATCH_ACT_A v ∧ bitOf (~~~v) 0 = false ∧
      bitOf (~~~v) 2 = true ∧ s.fixer.hist.length = 44) ∧
    (∃ (s : State) (src : Src) (v : Word), s.pairReady src Reg.LOUPE_PATCH_ACT_A v ∧ bitOf (~~~v) 0 = false ∧
      bitOf (~~~v) 2 = true ∧ s.fixer.hist.length = 44) ∧
    (∃ (c : Instr) (s : State) (src : Src) (v : Word), (c = .patchActivate src v ∧
      bitOf (~~~v) 0 = true ∨ c = .patchDeactivate src v ∧ bitOf (~~~v) 3 = true) ∧ s.between ∧ s.reaches src = true ∧
      s.armed src = some ⟨Reg.LOUPE_PATCH_ACT_A, ~~~v⟩ ∧ s.armed (otherSrc src) = none ∧
      s.pageOff Reg.LOUPE_PATCH_ACT_A = false ∧ (s.loupe.patch = 1 ∨ s.clk.rcTarget ≠ 0 ∨ (s.loupe.halted = true ∧
      bitOf (~~~v) 2 = false))) ∧
    (∃ (c : Instr) (s : State) (src : Src) (v : Word), (c = .patchActivate src v ∧
      bitOf (~~~v) 0 = true ∨ c = .patchDeactivate src v ∧ bitOf (~~~v) 3 = true) ∧ s.between ∧ s.reaches src = true ∧
      s.armed src = some ⟨Reg.LOUPE_PATCH_ACT_A, ~~~v⟩ ∧ s.armed (otherSrc src) = none ∧
      s.pageOff Reg.LOUPE_PATCH_ACT_A = false ∧ (s.loupe.patch = 1 ∨ s.clk.rcTarget ≠ 0 ∨ (s.loupe.halted = true ∧
      bitOf (~~~v) 2 = false))) ∧
    (∃ (s : State) (src : Src) (v : Word), s.between ∧ s.reaches src = true ∧ s.armed src = some ⟨Reg.CHIP_TEST_A, ~~~v⟩ ∧
      s.armed (otherSrc src) = none) ∧
    (∃ (s : State) (src : Src) (v : Word), s.between ∧ s.reaches src = true ∧ s.armed src = some ⟨Reg.CHIP_TEST_A, ~~~v⟩ ∧
      s.armed (otherSrc src) = none) :=
  ⟨⟨(day : State).armedHost 13356 1, .host, 0xFFFFFFFE, by unfold State.pairReady State.between; decide⟩,
   ⟨({ day with bank := { wipePend := true, wipeCause := 1 } } : State).armedHost 13356 1, .host, 0xFFFFFFFE,
      by unfold State.pairReady State.between; decide⟩,
   ⟨(day : State).armedHost 14368 2, 0xFFFFFFFD, by unfold State.pairReady State.between; decide⟩,
   ⟨(day : State).armedHost 14368 3, .host, 0xFFFFFFFC, by unfold State.between; decide⟩,
   ⟨{ day with port := { armLoupe := some ⟨14368, 2⟩ } }, .loupe, 0xFFFFFFFD, by unfold State.between; decide⟩,
   ⟨(day : State).armedHost 14356 1, .host, 0xFFFFFFFE, by unfold State.pairReady State.between; decide⟩,
   ⟨(day : State).armedHost 14356 3, .host, 0xFFFFFFFC, by unfold State.pairReady State.between; decide⟩,
   ⟨({ day with loupe := { day.loupe with patch := 2 } } : State).armedHost 14356 8, .host, 0xFFFFFFF7,
      by unfold State.pairReady State.between; decide⟩,
   ⟨({ day with loupe := { day.loupe with halted := true } } : State).armedHost 14356 4, .host, 0xFFFFFFFB,
      by unfold State.pairReady State.between; decide⟩,
   ⟨({ day with loupe := { day.loupe with patch := 2 } } : State).armedHost 14356 4, .host, 0xFFFFFFFB,
      by unfold State.pairReady State.between; decide⟩,
   ⟨.patchActivate .host 0xFFFFFFFE, ({ day with loupe := { day.loupe with patch := 1 } } : State).armedHost 14356 1, .host, 0xFFFFFFFE,
      by unfold State.between; decide⟩,
   ⟨.patchDeactivate .host 0xFFFFFFF7, ({ day with loupe := { day.loupe with halted := true } } : State).armedHost 14356 8, .host, 0xFFFFFFF7,
      by unfold State.between; decide⟩,
   ⟨(dark : State).armedHost 232 5, .host, 0xFFFFFFFA, by unfold State.between; decide⟩,
   ⟨({ dark with loupe := { dark.loupe with life := 2 } } : State).armedHost 232 5, .host, 0xFFFFFFFA,
      by unfold State.between; decide⟩⟩

theorem test_meets_BiasesAndTimersRunOut :
    (∃ (s : State), s.acting = true ∧ s.front.bias.length = 16) ∧
    (∃ (s : State), s.acting = true ∧ s.front.bias.length = 16) ∧
    (∃ (s : State) (k : Nat) (t0 : Nat), s.between ∧ s.acting = true ∧ s.front.bias.length = 16 ∧ k < 16 ∧
      (s.biasOf k).ramp = some t0) ∧
    (∃ (s : State) (k : Nat) (t0 : Nat), s.between ∧ s.acting = true ∧ s.front.bias.length = 16 ∧ k < 16 ∧
      (s.biasOf k).ramp = some t0) ∧
    (∃ (s : State) (k : Nat) (t0 : Nat), s.between ∧ s.acting = true ∧ s.front.bias.length = 16 ∧ k < 16 ∧
      (s.biasOf k).window = some t0) ∧
    (∃ (s : State) (k : Nat) (t0 : Nat), s.between ∧ s.acting = true ∧ s.front.bias.length = 16 ∧ k < 16 ∧
      (s.biasOf k).window = some t0) ∧
    (∃ (s : State) (k : Nat) (t0 : Nat), s.between ∧ s.acting = true ∧ s.front.bias.length = 16 ∧ k < 16 ∧
      (s.biasOf k).shorted = some t0) ∧
    (∃ (s : State) (k : Nat) (t0 : Nat), s.between ∧ s.acting = true ∧ s.front.bias.length = 16 ∧ k < 16 ∧
      (s.biasOf k).shorted = some t0) ∧
    (∃ (s : State) (k : Nat), s.between ∧ s.acting = true ∧ s.front.bias.length = 16 ∧ k < 16 ∧ (s.biasOf k).armed = false) ∧
    (∃ (s : State) (k : Nat), s.between ∧ s.acting = true ∧ s.front.bias.length = 16 ∧ k < 16 ∧ (s.biasOf k).armed = false) ∧
    (∃ (s : State) (k : Nat) (t0 : Nat), s.between ∧ s.acting = true ∧ s.front.chan.length = 16 ∧ k < 16 ∧
      (s.chanOf k).starting = some t0) ∧
    (∃ (s : State) (k : Nat) (t0 : Nat), s.between ∧ s.acting = true ∧ s.front.chan.length = 16 ∧ k < 16 ∧
      (s.chanOf k).starting = some t0) ∧
    (∃ (s : State) (t0 : Nat), s.between ∧ s.acting = true ∧ s.front.watchStart = some t0) ∧
    (∃ (s : State) (t0 : Nat), s.between ∧ s.acting = true ∧ s.front.watchStart = some t0) ∧
    (∃ (s : State) (k : Nat), s.roomFor 2 ∧ s.acting = true ∧ s.front.bias.length = 16 ∧ k < 16 ∧ s.front.vbiasOk = true ∧
      (s.biasOf k).on = true ∧ 96 ≤ (s.biasOf k).limit) ∧
    (∃ (s : State) (k : Nat), s.roomFor 2 ∧ s.acting = true ∧ s.front.bias.length = 16 ∧ k < 16 ∧ s.front.vbiasOk = true ∧
      (s.biasOf k).on = true ∧ 96 ≤ (s.biasOf k).limit) ∧
    (∃ (s : State) (k : Nat), s.roomFor 1 ∧ s.acting = true ∧ s.front.bias.length = 16 ∧ k < 16 ∧ s.front.vbiasOk = true ∧
      (s.biasOf k).on = true ∧ (s.biasOf k).armed = true ∧ 960 ≤ (s.biasOf k).low) :=
  ⟨⟨day.setReg Reg.FRONT_BIAS_EN 0xFFFF, by decide⟩,
   ⟨dark, by decide⟩,
   ⟨{ day with front := { bias := modNth day.front.bias 3 (fun b => { b with ramp := some 4904 }) } }, 3, 4904,
      by unfold State.between; decide⟩,
   ⟨{ day with front := { bias := modNth day.front.bias 3 (fun b => { b with ramp := some 4905 }) } }, 3, 4905,
      by unfold State.between; decide⟩,
   ⟨{ day with front := { bias := modNth day.front.bias 3 (fun b => { b with window := some 200 }) } }, 3, 200,
      by unfold State.between; decide⟩,
   ⟨{ day with front := { bias := modNth day.front.bias 3 (fun b => { b with window := some 201 }) } }, 3, 201,
      by unfold State.between; decide⟩,
   ⟨{ day with clk := { day.clk with ticks := 9999 }, front := { bias := modNth day.front.bias 3 (fun b => { b with shorted := some 400 }) } }, 3, 400,
      by unfold State.between; decide⟩,
   ⟨{ day with clk := { day.clk with ticks := 10000 }, front := { bias := modNth day.front.bias 3 (fun b => { b with shorted := some 400 }) } }, 3, 400,
      by unfold State.between; decide⟩,
   ⟨{ day with front := { bias := modNth day.front.bias 3 (fun b => { b with armed := false, high := 959 }) } }, 3,
      by unfold State.between; decide⟩,
   ⟨{ day with front := { bias := modNth day.front.bias 3 (fun b => { b with armed := false, high := 960 }) } }, 3,
      by unfold State.between; decide⟩,
   ⟨{ day with front := { chan := modNth day.front.chan 3 (fun _ => ⟨true, some 4744⟩) } }, 3, 4744,
      by unfold State.between; decide⟩,
   ⟨{ day with front := { chan := modNth day.front.chan 3 (fun _ => ⟨true, some 4745⟩) } }, 3, 4745,
      by unfold State.between; decide⟩,
   ⟨{ day with front := { watchRun := true, watchStart := some 4936 } }, 4936, by unfold State.between; decide⟩,
   ⟨{ day with front := { watchRun := true, watchStart := some 4937 } }, 4937, by unfold State.between; decide⟩,
   ⟨{ day with front := { bias := modNth day.front.bias 3 (fun b => { b with on := true, limit := 96 }) } }, 3,
      by unfold State.roomFor State.between; decide⟩,
   ⟨{ dark with front := { bias := modNth dark.front.bias 3 (fun b => { b with on := true, limit := 96 }) } }, 3,
      by unfold State.roomFor State.between; decide⟩,
   ⟨{ day with front := { bias := modNth day.front.bias 3 (fun b => { b with on := true, armed := true, low := 960 }) } }, 3,
      by unfold State.roomFor State.between; decide⟩⟩

theorem test_meets_ConvertersPdmAndCapture :
    (∃ (s : State) (k : Nat), s.between ∧ s.acting = true ∧ k < 16 ∧ (s.chanOf k).powered = true) ∧
    (∃ (s : State), s.between ∧ s.acting = true ∧ s.front.watchRun = true) ∧
    (∃ (s : State), s.between ∧ s.acting = true ∧ s.front.pdmPhase = 1 ∧ s.front.pdmDecim = false ∧
      s.front.pdmTick + 480 * s.front.pdmWake ≤ s.clk.ticks) ∧
    (∃ (s : State), s.roomFor 1 ∧ s.acting = true ∧ s.front.pdmPhase = 1 ∧ s.front.pdmDecim = true ∧
      s.front.pdmTick + 480 * s.front.pdmWake + 256 ≤ s.clk.ticks) ∧
    (∃ (s : State) (k : Nat) (n : Nat), s.between ∧ s.acting = true ∧ s.front.capture = some (k, n)) ∧
    (∃ (s : State) (k : Nat) (n : Nat), s.between ∧ s.acting = true ∧ s.front.capture = some (k, n)) :=
  ⟨⟨{ day with front := { chan := modNth day.front.chan 3 (fun _ => ⟨true, none⟩) } }, 3, by unfold State.between; decide⟩,
   ⟨{ dark with front := { watchRun := true } }, by unfold State.between; decide⟩,
   ⟨{ day with front := { pdmPhase := 1, pdmTick := 4000 } }, by unfold State.between; decide⟩,
   ⟨{ day with front := { pdmPhase := 1, pdmDecim := true, pdmTick := 3000, pdmTaken := 5 } },
      by unfold State.roomFor State.between; decide⟩,
   ⟨{ day with front := { capture := some (3, 4095) } }, 3, 4095, by unfold State.between; decide⟩,
   ⟨{ day with front := { capture := some (3, 4096) } }, 3, 4096, by unfold State.between; decide⟩⟩

theorem test_meets_BoundariesWriteTheWindows :
    (∃ (s : State) (i : HqIn), s.between ∧ (s.clk.daylight = false ∨ s.clk.epoch.toNat % 2 = 1)) ∧
    (∃ (s : State) (i : HqIn), s.between ∧ (s.clk.daylight = false ∨ s.clk.epoch.toNat % 2 = 1)) ∧
    (∃ (s : State) (i : HqIn), s.acting = true ∧ s.clk.daylight = true ∧ s.clk.epoch.toNat % 2 = 0 ∧ s.blockUp 1 = true ∧
      s.bank.errs = [] ∧ s.latent.d.head < s.latSets ∧ s.latent.d.anchor < 32 ∧ s.aper.beams.length = 8) ∧
    (∃ (s : State) (i : HqIn), s.acting = true ∧ s.clk.daylight = true ∧ s.clk.epoch.toNat % 2 = 0 ∧ s.blockUp 1 = true ∧
      s.bank.errs = [] ∧ s.latent.d.head < s.latSets ∧ s.latent.d.anchor < 32 ∧ s.aper.beams.length = 8) ∧
    (∃ (x : Int) (est : Int) (shift : Nat), -0x80000000 ≤ x ∧ x < 0x80000000) ∧
    (∃ (s : State) (x : List Bool) (w : List (Nat × Nat)), s.between ∧ s.clk.daylight = true ∧ s.clk.epoch.toNat % 6 ≠ 0) ∧
    (∃ (s : State) (x : List Bool) (w : List (Nat × Nat)), s.acting = true ∧
      (s.clk.daylight = false ∨ s.clk.epoch.toNat % 6 = 0) ∧ s.bank.errs = [] ∧ s.latent.w.anchor < 32) ∧
    (∃ (s : State) (x : List Bool) (w : List (Nat × Nat)), s.acting = true ∧
      (s.clk.daylight = false ∨ s.clk.epoch.toNat % 6 = 0) ∧ s.bank.errs = [] ∧ s.latent.w.anchor < 32) :=
  ⟨⟨dark, {}, by unfold State.between; decide⟩,
   ⟨day, {}, by unfold State.between; decide⟩,
   ⟨hq, {}, by decide⟩,
   ⟨{ hq with decim := { hqStopped := true } }, {}, by decide⟩,
   ⟨5, 3, 10, by decide⟩,
   ⟨day, [], [], by unfold State.between; decide⟩,
   ⟨dark, [true, false], [], by decide⟩,
   ⟨({ dark with front := { watchRun := true } } : State).setReg Reg.DECIM_DC_CFG 0x20, List.replicate 48 true, [], by decide⟩⟩

theorem test_meets_PathsTransitionsAndSwaps :
    (∃ (s : State), s.acting = true ∧ s.clk.daylight = true ∧ s.clk.epoch.toNat % 2 = 0 ∧ s.blockUp 1 = true ∧
      s.flag Reg.DECIM_ENGINE_CTL 0 = false ∧ s.decim.hqStopped = false) ∧
    (∃ (s : State), s.acting = true ∧ s.clk.daylight = true ∧ s.clk.epoch.toNat % 2 = 0 ∧ s.blockUp 1 = true ∧
      s.flag Reg.DECIM_ENGINE_CTL 0 = false ∧ s.decim.hqStopped = false) ∧
    (∃ (s : State), s.acting = true ∧ (s.clk.daylight = false ∨ s.clk.epoch.toNat % 6 = 0) ∧
      s.flag Reg.DECIM_ENGINE_CTL 1 = false ∧ s.decim.lpStopped = false) ∧
    (∃ (s : State), s.between ∧ s.acting = true ∧ s.clk.daylight = true ∧ s.clk.epoch.toNat % 2 = 0 ∧ s.blockUp 1 = true ∧
      s.flag Reg.DECIM_ENGINE_CTL 0 = true ∧ s.decim.hqStopped = true) ∧
    (∃ (s : State), s.between ∧ s.acting = true ∧ (s.clk.daylight = false ∨ s.clk.epoch.toNat % 6 = 0) ∧
      s.flag Reg.DECIM_ENGINE_CTL 1 = true ∧ s.decim.lpStopped = true) ∧
    (∃ (s : State) (n : Nat), s.between ∧ s.acting = true ∧ s.decim.trans = some (false, n)) ∧
    (∃ (s : State) (n : Nat), s.between ∧ s.acting = true ∧ s.decim.trans = some (false, n)) ∧
    (∃ (s : State) (n : Nat), s.roomFor 1 ∧ s.acting = true ∧ s.decim.trans = some (true, n)) ∧
    (∃ (s : State) (n : Nat), s.roomFor 1 ∧ s.acting = true ∧ s.decim.trans = some (true, n)) ∧
    (∃ (s : State) (b : Nat), s.roomFor 1 ∧ s.acting = true ∧ s.clk.daylight = true ∧ s.clk.epoch.toNat % 2 = 0 ∧
      s.blockUp 1 = true ∧ s.decim.swap = some b ∧ s.decim.trans = none ∧ s.decim.phase = s.decim.inUse ∧
      ((∀ x ∈ s.aper.beams, x.fade = none))) ∧
    (∃ (s : State) (n : Nat), s.between ∧ s.decim.trans = some (true, n)) :=
  ⟨⟨(hq : State).setReg Reg.DECIM_ENGINE_CTL 2, by decide⟩,
   ⟨({ hq with decim := { swap := some 1, trans := some (true, 5) } } : State).setReg Reg.DECIM_ENGINE_CTL 2, by decide⟩,
   ⟨(dark : State).setReg Reg.DECIM_ENGINE_CTL 1, by decide⟩,
   ⟨{ hq with decim := { hqStopped := true, swap := some 1, phase := true } }, by unfold State.between; decide⟩,
   ⟨{ dark with decim := { lpStopped := true } }, by unfold State.between; decide⟩,
   ⟨{ hq with decim := { trans := some (false, 31) } }, 31, by unfold State.between; decide⟩,
   ⟨{ hq with decim := { trans := some (false, 32) } }, 32, by unfold State.between; decide⟩,
   ⟨{ hq with decim := { trans := some (true, 63) } }, 63, by unfold State.roomFor State.between; decide⟩,
   ⟨{ hq with decim := { trans := some (true, 64) } }, 64, by unfold State.roomFor State.between; decide⟩,
   ⟨{ hq with decim := { swap := some 1 } }, 1, by unfold State.roomFor State.between; decide⟩,
   ⟨{ hq with decim := { swap := some 1, trans := some (true, 3) } }, 3, by unfold State.between; decide⟩⟩

theorem test_meets_BeamsAndPlansSwitch :
    (∃ (s : State) (b : Nat) (x : Table), s.between ∧ s.acting = true ∧ s.clk.daylight = true ∧ s.clk.epoch.toNat % 2 = 0 ∧
      s.blockUp 1 = true ∧ s.aper.beams.length = 8 ∧ b < 8 ∧ (s.beam b).pend = some x ∧ (s.beam b).ready = true ∧
      (s.beam b).fade = none ∧ s.aper.wait = none) ∧
    (∃ (s : State) (b : Nat), s.between ∧ s.acting = true ∧ ((s.beam b).fade.isSome = true ∨ s.aper.wait.isSome = true)) ∧
    (∃ (s : State) (b : Nat) (f : Fade), s.between ∧ s.acting = true ∧ s.aper.beams.length = 8 ∧ b < 8 ∧
      (s.beam b).fade = some f) ∧
    (∃ (s : State) (b : Nat) (f : Fade), s.between ∧ s.acting = true ∧ s.aper.beams.length = 8 ∧ b < 8 ∧
      (s.beam b).fade = some f) ∧
    (∃ (s : State) (v : Nat), s.between ∧ s.acting = true ∧ s.clk.daylight = true ∧ s.clk.epoch.toNat % 2 = 0 ∧
      s.blockUp 1 = true ∧ s.aper.wait = some v ∧ s.aper.beams.length = 8 ∧ ((∀ x ∈ s.aper.beams, x.fade = none))) ∧
    (∃ (s : State) (t0 : Nat), s.between ∧ s.running = true ∧ s.clk.settle = some t0) ∧
    (∃ (s : State) (t0 : Nat), s.between ∧ s.running = true ∧ s.clk.settle = some t0) ∧
    (∃ (s : State) (t0 : Nat), s.between ∧ s.running = true ∧ s.aper.hold = some t0) ∧
    (∃ (s : State) (t0 : Nat), s.between ∧ s.running = true ∧ s.aper.hold = some t0) ∧
    (∃ (s : State) (e : Epoch), s.roomFor 1 ∧ s.acting = true ∧ s.clk.daylight = true ∧ s.mx.armed = some e ∧
      e.toNat + 4 ≤ s.clk.epoch.toNat) ∧
    (∃ (s : State), s.between ∧ s.mx.armed = none) :=
  ⟨⟨{ hq with aper := { beams := modNth day.aper.beams 3 (fun b => { b with pend := some { cfg := 1 }, ready := true }) } }, 3, { cfg := 1 },
      by unfold State.between; decide⟩,
   ⟨{ hq with aper := { wait := some 5 } }, 3, by unfold State.between; decide⟩,
   ⟨{ hq with aper := { beams := modNth day.aper.beams 3 (fun b => { b with fade := some ⟨{ cfg := 1 }, 5, 63, true⟩ }) } }, 3, ⟨{ cfg := 1 }, 5, 63, true⟩,
      by unfold State.between; decide⟩,
   ⟨{ hq with aper := { beams := modNth day.aper.beams 3 (fun b => { b with fade := some ⟨{ cfg := 1 }, 5, 64, true⟩ }) } }, 3, ⟨{ cfg := 1 }, 5, 64, true⟩,
      by unfold State.between; decide⟩,
   ⟨{ hq with aper := { wait := some 0x7000, beams := modNth (modNth day.aper.beams 3 (fun b => { b with active := { cfg := 1 } })) 4 (fun b => { b with active := { cfg := 1 }, pend := some { cfg := 5 } }) } }, 0x7000,
      by unfold State.between; decide⟩,
   ⟨{ day with clk := { day.clk with settle := some 4744 }, mx := { window := some (5, none) } }, 4744,
      by unfold State.between; decide⟩,
   ⟨{ day with clk := { day.clk with settle := some 4745 }, mx := { window := some (5, none) } }, 4745,
      by unfold State.between; decide⟩,
   ⟨{ hq with aper := { hold := some 4744 } }, 4744, by unfold State.between; decide⟩,
   ⟨{ hq with aper := { hold := some 4745 } }, 4745, by unfold State.between; decide⟩,
   ⟨{ day with mx := { armed := some 0x12341 } }, 0x12341, by unfold State.roomFor State.between; decide⟩,
   ⟨day, by unfold State.between; decide⟩⟩

theorem test_meets_RateBoundaryChangesTheMode :
    (∃ (s : State) (h : BitVec 416) (skew : BitVec 24) (r : Nat), GoodHeader s s.clk.side h ∧ s.clk.rcTarget = 0 ∧
      Hdr.rcTarget h = r ∧ (r = 1 ∨ r = 2) ∧ s.request = r ∧ r ≠ (if s.clk.daylight then 1 else 2) ∧
      (if r = 1 then 64 else 128) ≤ Hdr.rcCount h) ∧
    (∃ (s : State) (h : BitVec 416) (skew : BitVec 24) (r : Nat), GoodHeader s s.clk.side h ∧ s.clk.rcTarget = 0 ∧
      Hdr.rcTarget h = r ∧ (r = 1 ∨ r = 2) ∧ s.request = r ∧ r ≠ (if s.clk.daylight then 1 else 2) ∧
      (if r = 1 then 64 else 128) ≤ Hdr.rcCount h) ∧
    (∃ (s : State) (h : BitVec 416) (skew : BitVec 24), GoodHeader s s.clk.side h ∧ s.clk.rcTarget ≠ 0 ∧
      Hdr.rcTarget h = s.clk.rcTarget ∧ s.clk.rcTarget ≠ 3) ∧
    (∃ (s : State) (h : BitVec 416) (skew : BitVec 24), GoodHeader s s.clk.side h ∧ s.clk.rcTarget ≠ 0 ∧
      Hdr.rcTarget h = s.clk.rcTarget ∧ s.clk.rcTarget ≠ 3) ∧
    (∃ (s : State) (h : BitVec 416) (skew : BitVec 24), GoodHeader s s.clk.side h ∧ s.clk.rcTarget ≠ 0 ∧
      Hdr.rcTarget h ≠ s.clk.rcTarget) ∧
    (∃ (s : State) (h : BitVec 416) (skew : BitVec 24), GoodHeader s s.clk.side h ∧ s.clk.rcTarget ≠ 0 ∧
      Hdr.rcTarget h ≠ s.clk.rcTarget) ∧
    (∃ (s : State) (h : BitVec 416) (skew : BitVec 24) (r : Nat), GoodHeader s s.clk.side h ∧ s.clk.rcTarget = 0 ∧
      Hdr.rcTarget h = r ∧ (r = 1 ∨ r = 2) ∧
      (s.request ≠ r ∨ r = (if s.clk.daylight then 1 else 2) ∨ Hdr.rcCount h < (if r = 1 then 64 else 128))) ∧
    (∃ (s : State) (h : BitVec 416) (skew : BitVec 24) (r : Nat), GoodHeader s s.clk.side h ∧ s.clk.rcTarget = 0 ∧
      Hdr.rcTarget h = r ∧ (r = 1 ∨ r = 2) ∧
      (s.request ≠ r ∨ r = (if s.clk.daylight then 1 else 2) ∨ Hdr.rcCount h < (if r = 1 then 64 else 128))) ∧
    (∃ (s : State) (h : BitVec 416) (skew : BitVec 24), s.acting = true ∧ s.hears s.clk.side = true ∧ s.clk.rcTarget ≠ 0 ∧
      Hdr.checkOk s.clk.daylight h = false) ∧
    (∃ (s : State) (h : BitVec 416) (skew : BitVec 24), s.acting = true ∧ s.hears s.clk.side = true ∧ s.clk.rcTarget ≠ 0 ∧
      Hdr.checkOk s.clk.daylight h = false) ∧
    (∃ (s : State), s.acting = true ∧ s.clk.rcTarget = 1 ∧ s.clk.rcCount ≤ 1) ∧
    (∃ (s : State), s.acting = true ∧ s.clk.rcTarget = 1 ∧ s.clk.rcCount ≤ 1) ∧
    (∃ (s : State), s.acting = true ∧ s.clk.rcTarget = 2 ∧ s.clk.rcCount ≤ 1 ∧ s.print.drives.length = 8) ∧
    (∃ (s : State), s.acting = true ∧ s.clk.rcTarget = 2 ∧ s.clk.rcCount ≤ 1 ∧ s.print.drives.length = 8) ∧
    (∃ (s : State), s.between ∧ (s.clk.rcTarget = 0 ∨ 1 < s.clk.rcCount)) ∧
    (∃ (s : State), s.between ∧ (s.clk.rcTarget = 0 ∨ 1 < s.clk.rcCount)) :=
  ⟨⟨dark.setReg Reg.CHIP_MODE_REQ_A 1, counted false 0x12345 1 64, 0, 1, by unfold GoodHeader; decide +kernel⟩,
   ⟨{ day.setReg Reg.CHIP_MODE_REQ_A 2 with clk := { day.clk with side := .b } }, counted true 0x12345 2 255, 0, 2,
      by unfold GoodHeader; decide +kernel⟩,
   ⟨{ dark with clk := { dark.clk with rcTarget := 1, rcCount := 64 } }, counted false 0x12345 1 63, 0,
      by unfold GoodHeader; decide +kernel⟩,
   ⟨{ day with clk := { day.clk with rcTarget := 2, rcCount := 64 } }, counted true 0x12345 2 9, 0,
      by unfold GoodHeader; decide +kernel⟩,
   ⟨{ dark with clk := { dark.clk with rcTarget := 1, rcCount := 64 }, mode := { dark.mode with good := [true, false, false, false] } }, counted false 0x12345 0 0, 0,
      by unfold GoodHeader; decide +kernel⟩,
   ⟨{ day with clk := { day.clk with rcTarget := 2, rcCount := 64 } }, counted true 0x12345 1 9, 0,
      by unfold GoodHeader; decide +kernel⟩,
   ⟨dark.setReg Reg.CHIP_MODE_REQ_A 1, counted false 0x12345 1 63, 0, 1, by unfold GoodHeader; decide +kernel⟩,
   ⟨dark, counted false 0x12345 1 64, 0, 1, by unfold GoodHeader; decide +kernel⟩,
   ⟨{ dark with clk := { dark.clk with rcTarget := 1, rcCount := 64 } }, 0, 0, by decide +kernel⟩,
   ⟨{ day with clk := { day.clk with rcTarget := 2, rcCount := 64 } }, 0, 0, by decide +kernel⟩,
   ⟨{ dark with clk := { dark.clk with rcTarget := 1, rcCount := 1 }, mode := { good := [true, true, true, true] } }, by decide⟩,
   ⟨{ dark with clk := { dark.clk with rcTarget := 1, rcCount := 0 }, mode := { good := [true, true, false, true] } }, by decide⟩,
   ⟨{ day with clk := { day.clk with rcTarget := 2, rcCount := 1 } }, by decide⟩,
   ⟨{ day with clk := { day.clk with rcTarget := 2, rcCount := 1 }, print := { drives := modNth day.print.drives 1 (fun d => { d with st := .play }) }, mx := { armed := some 5 }, decim := { swap := some 1 } },
      by decide⟩,
   ⟨dark, by unfold State.between; decide⟩,
   ⟨{ dark with clk := { dark.clk with rcTarget := 1, rcCount := 2 } }, by unfold State.between; decide⟩⟩

theorem test_meets_TrainingAndDomainsComplete :
    (∃ (s : State) (r : Training), s.between ∧ s.running = true ∧ s.clk.daylight = true ∧ s.link.training = some r ∧
      r.centred = false) ∧
    (∃ (s : State) (r : Training), s.between ∧ s.running = true ∧ s.clk.daylight = true ∧ s.link.training = some r ∧
      r.centred = false) ∧
    (∃ (a : Nat) (n : Nat), a < 64 ∧ n < 64 ∧ 0 < n ∧ a + n ≤ 64) ∧
    (∃ (a : Nat) (n : Nat), a < 64 ∧ n < 64 ∧ 0 < n ∧ a + n ≤ 64) ∧
    (∃ (s : State) (r : Training), s.between ∧ s.running = true ∧ s.link.training = some r) ∧
    (∃ (s : State) (r : Training), s.between ∧ s.running = true ∧ s.link.training = some r) ∧
    (∃ (s : State) (t0 : Nat), s.between ∧ s.running = true ∧ s.clk.rcTarget = 1 ∧ s.mode.stepStart = some t0) ∧
    (∃ (s : State) (t0 : Nat), s.between ∧ s.running = true ∧ s.clk.rcTarget = 1 ∧ s.mode.stepStart = some t0) ∧
    (∃ (s : State) (d : Nat), s.running = true ∧ d < 4 ∧ d < s.mode.steps ∧ s.mode.good.length = 4 ∧
      nth s.mode.good d true = false) ∧
    (∃ (s : State) (d : Nat), s.running = true ∧ d < 4 ∧ d < s.mode.steps ∧ s.mode.good.length = 4 ∧
      nth s.mode.good d true = false) ∧
    (∃ (s : State) (d : Nat), s.between ∧ s.mode.steps ≤ d) :=
  ⟨⟨{ day with link := { training := some { start := 4920, good := [[3, 4, 5, 9], List.range 64, [], [7]], bad := [false, false, false, false], centred := false, failedA := false, failedB := false } } }, { start := 4920, good := [[3, 4, 5, 9], List.range 64, [], [7]], bad := [false, false, false, false], centred := false, failedA := false, failedB := false },
      by unfold State.between; decide⟩,
   ⟨{ day with link := { training := some { start := 4921, good := [[3, 4, 5, 9], List.range 64, [], [7]], bad := [false, false, false, false], centred := false, failedA := false, failedB := false } } }, { start := 4921, good := [[3, 4, 5, 9], List.range 64, [], [7]], bad := [false, false, false, false], centred := false, failedA := false, failedB := false },
      by unfold State.between; decide⟩,
   ⟨1, 63, by decide⟩,
   ⟨63, 1, by decide⟩,
   ⟨{ day with link := { training := some { start := 4872, good := [[3, 4, 5, 9], List.range 64, [], [7]], bad := [false, false, false, false], centred := false, failedA := false, failedB := false } } }, { start := 4872, good := [[3, 4, 5, 9], List.range 64, [], [7]], bad := [false, false, false, false], centred := false, failedA := false, failedB := false },
      by unfold State.between; decide⟩,
   ⟨{ day with link := { training := some { start := 4872, good := [[3, 4, 5, 9], List.range 64, [], [7]], bad := [false, false, false, true], centred := false, failedA := false, failedB := false } } }, { start := 4872, good := [[3, 4, 5, 9], List.range 64, [], [7]], bad := [false, false, false, true], centred := false, failedA := false, failedB := false },
      by unfold State.between; decide⟩,
   ⟨{ dark with clk := { dark.clk with rcTarget := 1 }, mode := { steps := 2, stepStart := some 4872 } }, 4872,
      by unfold State.between; decide⟩,
   ⟨{ dark with clk := { dark.clk with rcTarget := 1 }, mode := { steps := 2, stepStart := some 4873 } }, 4873,
      by unfold State.between; decide⟩,
   ⟨{ dark with mode := { steps := 4, good := [true, false, true, false] } }, 1, by decide⟩,
   ⟨{ day with mode := { steps := 4, good := [true, false, true, false] } }, 1, by decide⟩,
   ⟨dark, 2, by unfold State.between; decide⟩⟩

theorem test_meets_BlocksRunTheStreams :
    (∃ (s : State) (i : DevIn), s.between ∧ s.clk.epoch.toNat % 960 ≠ 0) ∧
    (∃ (s : State) (i : DevIn), s.acting = true ∧ s.clk.epoch.toNat % 960 = 0 ∧ i.badTpl = [] ∧ s.dev.pendProf.length = 8 ∧
      s.dev.profiles.length = 8 ∧ (s.sheet.reqs.map (·.1)).Nodup) ∧
    (∃ (s : State) (i : DevIn), s.acting = true ∧ s.clk.epoch.toNat % 960 = 0 ∧ i.badTpl = [] ∧ s.dev.pendProf.length = 8 ∧
      s.dev.profiles.length = 8 ∧ (s.sheet.reqs.map (·.1)).Nodup) ∧
    (∃ (s : State) (i : DevIn) (k : Nat), s.acting = true ∧ s.clk.epoch.toNat % 960 = 0 ∧ s.devHeld = false ∧ k < 9 ∧
      s.dev.streams.length = 9 ∧ s.dev.ctl.testBit k = (s.stream k).en ∧
      (s.stream k).src = (if k = 8 then 24 else nth s.dev.srcs k 24) ∧ (s.stream k).fresh = false ∧ s.streamRuns k = true) ∧
    (∃ (s : State) (i : DevIn) (k : Nat), s.acting = true ∧ s.clk.epoch.toNat % 960 = 0 ∧ s.devHeld = false ∧ k < 9 ∧
      s.dev.streams.length = 9 ∧ s.dev.ctl.testBit k = (s.stream k).en ∧
      (s.stream k).src = (if k = 8 then 24 else nth s.dev.srcs k 24) ∧ (s.stream k).fresh = false ∧ s.streamRuns k = true) :=
  ⟨⟨day, {}, by unfold State.between; decide⟩,
   ⟨{ blk with sheet := { enabled := [3, 40], reqs := [(3, false), (7, true)] }, dev := { pendProf := modNth blk.dev.pendProf 2 (fun _ => some [1, 2]) } }, {},
      by decide⟩,
   ⟨blk, {}, by decide⟩,
   ⟨stream8 { en := true, fresh := false, onRun := 2 }, {}, 8, by decide⟩,
   ⟨stream8 { en := true, fresh := false, seed := some [1, 2, 3, 4, 5, 6, 7, 8] }, {}, 8, by decide⟩⟩

theorem test_meets_LatentBufferMeetsItsEpochs :
    (∃ (s : State) (b : Epoch) (j : Epoch) (f : Epoch), s.roomFor 1 ∧ s.acting = true ∧ s.latent.preFill = true ∧
      s.latent.rate = some (b, j, f)) ∧
    (∃ (s : State) (b : Epoch) (j : Epoch) (f : Epoch), s.roomFor 1 ∧ s.acting = true ∧ s.latent.preFill = true ∧
      s.latent.rate = some (b, j, f)) ∧
    (∃ (s : State) (b : Epoch) (j : Epoch) (f : Epoch), s.between ∧ s.acting = true ∧ s.latent.preJoin = true ∧
      s.latent.rate = some (b, j, f) ∧ s.bank.errs = []) ∧
    (∃ (s : State) (b : Epoch) (j : Epoch) (f : Epoch), s.between ∧ s.acting = true ∧ s.latent.preJoin = true ∧
      s.latent.rate = some (b, j, f) ∧ s.bank.errs = []) ∧
    (∃ (s : State) (w : Bool) (due : Epoch) (rseq : Nat), s.roomFor 1 ∧ s.acting = true ∧ (s.ring w).pend = some (due, rseq)) ∧
    (∃ (s : State) (w : Bool) (due : Epoch) (rseq : Nat), s.roomFor 1 ∧ s.acting = true ∧ (s.ring w).pend = some (due, rseq)) :=
  ⟨⟨{ day with latent := { preFill := true, rate := some (5, 6, 0x12345) } }, 5, 6, 0x12345,
      by unfold State.roomFor State.between; decide⟩,
   ⟨{ day with latent := { preFill := true, rate := some (5, 6, 0x12346) } }, 5, 6, 0x12346,
      by unfold State.roomFor State.between; decide⟩,
   ⟨{ blk with latent := { preJoin := true, waitJoin := [(3, 5), (4, 0xFFFFFF)], recNext := 5, rate := some (5, 6, 9) } }, 5, 6, 9,
      by unfold State.between; decide⟩,
   ⟨{ blk with latent := { preJoin := true, waitJoin := [(3, 5), (4, 0xFFFFFF)], recNext := 5, rate := some (5, 0xFFFFFF, 9) } }, 5, 0xFFFFFF, 9,
      by unfold State.between; decide⟩,
   ⟨{ day with latent := { w := { pend := some (0x12345, 3), prev := some 7 } } }, true, 0x12345, 3,
      by unfold State.roomFor State.between; decide⟩,
   ⟨{ day with latent := { w := { pend := some (0x12346, 3), prev := some 7 } } }, true, 0x12346, 3,
      by unfold State.roomFor State.between; decide⟩⟩

theorem test_meets_LoupeReportsReadsAndFails :
    (∃ (s : State), s.between ∧ s.acting = true ∧ s.loupe.powered = true ∧ s.loupe.starting = true ∧ s.loupe.halted = false) ∧
    (∃ (s : State), s.between ∧ s.acting = true ∧ s.loupe.powered = true ∧ s.loupe.starting = true ∧ s.loupe.halted = false) ∧
    (∃ (s : State), s.between ∧ s.acting = true ∧ s.loupe.powered = true ∧ s.loupe.halted = false ∧ s.clk.daylight = true ∧
      s.clk.rcTarget = 2) ∧
    (∃ (s : State) (r : Sensors), s.between ∧ s.acting = true ∧ s.loupe.powered = true ∧ s.loupe.halted = false) ∧
    (∃ (s : State) (k : Nat), s.roomFor 1 ∧ s.running = true ∧ s.blockUp 5 = true ∧ k < 4 ∧ 8 ≤ nth s.loupe.tjRun k 0) ∧
    (∃ (s : State), s.between ∧ s.acting = true ∧ s.loupe.powered = true ∧ s.loupe.halted = false) ∧
    (∃ (s : State), s.between ∧ s.acting = true ∧ s.loupe.powered = true ∧ s.loupe.halted = false) ∧
    (∃ (s : State), s.roomFor 1 ∧ s.acting = true ∧ s.loupe.powered = true ∧ s.loupe.halted = false ∧ s.loupe.patch = 1 ∧
      s.loupe.floorBurn = none) ∧
    (∃ (s : State), s.roomFor 1 ∧ s.acting = true ∧ s.loupe.powered = true ∧ s.loupe.halted = false ∧ s.loupe.patch = 1 ∧
      s.loupe.floorBurn = none) ∧
    (∃ (s : State) (g : Nat) (t0 : Nat) (enter : Bool), s.between ∧ s.running = true ∧ s.loupe.floorBurn = some (g, t0, enter) ∧
      s.bank.errs = []) ∧
    (∃ (s : State) (g : Nat) (t0 : Nat) (enter : Bool), s.between ∧ s.running = true ∧ s.loupe.floorBurn = some (g, t0, enter) ∧
      s.bank.errs = []) ∧
    (∃ (s : State) (n : Nat) (t0 : Nat), s.roomFor 1 ∧ s.running = true ∧ s.loupe.lifeReq = some n ∧ s.loupe.lifeBurn = some t0 ∧
      s.bank.errs = []) ∧
    (∃ (s : State) (n : Nat) (t0 : Nat), s.roomFor 1 ∧ s.running = true ∧ s.loupe.lifeReq = some n ∧ s.loupe.lifeBurn = some t0 ∧
      s.bank.errs = []) :=
  ⟨⟨{ day with loupe := { day.loupe with starting := true, ready := false } }, by unfold State.between; decide⟩,
   ⟨{ day with loupe := { day.loupe with starting := true, marked := true } }, by unfold State.between; decide⟩,
   ⟨{ day with clk := { day.clk with rcTarget := 2 } }, by unfold State.between; decide⟩,
   ⟨day, ⟨[0x100, 0x200, 0xFF00, 0x300], [1000, 1100, 1200, 1300, 1400]⟩, by unfold State.between; decide⟩,
   ⟨({ day with loupe := { day.loupe with tjRun := [0, 8, 0, 9], tj := [5, 2000, 5, -7] } } : State).setReg Reg.PRINT_MASTER_A 1, 1,
      by unfold State.roomFor State.between; decide⟩,
   ⟨{ day with loupe := { day.loupe with patch := 2, mbx := some (1, 2) } }, by unfold State.between; decide⟩,
   ⟨{ day with fixer := { hist := modNth day.fixer.hist 43 (fun _ => ⟨[0x12344, 0x12343, 0x12342, 0x12341, 0x12340, 0x12330], false, 6⟩) } },
      by unfold State.between; decide⟩,
   ⟨{ day with loupe := { day.loupe with patch := 1 }, bank := { wipePend := true } },
      by unfold State.roomFor State.between; decide⟩,
   ⟨{ day with loupe := { day.loupe with patch := 1 } }, by unfold State.roomFor State.between; decide⟩,
   ⟨{ day with loupe := { day.loupe with floorBurn := some (5, 4904, true) } }, 5, 4904, true, by unfold State.between; decide⟩,
   ⟨{ day with loupe := { day.loupe with floorBurn := some (5, 4905, true) } }, 5, 4905, true, by unfold State.between; decide⟩,
   ⟨{ dark with loupe := { dark.loupe with lifeReq := some 2, lifeBurn := some 4904 } }, 2, 4904,
      by unfold State.roomFor State.between; decide⟩,
   ⟨{ dark with loupe := { dark.loupe with lifeReq := some 2, lifeBurn := some 4905 } }, 2, 4905,
      by unfold State.roomFor State.between; decide⟩⟩

theorem test_meets_ReadInstantsPlayAndFade :
    (∃ (s : State) (n : Nat) (i : ReadIn), s.between ∧ s.driveRuns n = false) ∧
    (∃ (s : State) (n : Nat) (i : ReadIn), s.between ∧ s.driveRuns n = false) ∧
    (∃ (s : State) (n : Nat) (e : Epoch32), s.roomFor 8 ∧ s.driveRuns n = true ∧ s.print.drives.length = 8 ∧
      (s.drive n).st = .off ∧ e = s.epoch32 - 1 - BitVec.ofNat 32 ((s.drive n).offset / 8192)) ∧
    (∃ (s : State) (n : Nat) (e : Epoch32), s.roomFor 8 ∧ s.driveRuns n = true ∧ s.print.drives.length = 8 ∧
      (s.drive n).st = .off ∧ e = s.epoch32 - 1 - BitVec.ofNat 32 ((s.drive n).offset / 8192)) ∧
    (∃ (s : State) (n : Nat) (e : Epoch32) (c : ShowEpoch), s.roomFor 8 ∧ s.driveRuns n = true ∧ s.print.drives.length = 8 ∧
      s.quietDrive n = true ∧ ((s.drive n).st = .ramp ∨ (s.drive n).st = .play) ∧
      e = s.epoch32 - 1 - BitVec.ofNat 32 ((s.drive n).offset / 8192) ∧ s.runRequest n (s.driveSample e).en = true ∧
      s.shownAt e = some c ∧ c.present = true ∧ s.clk.faulted.contains e = false ∧ s.shownAt (e + 1) = none) ∧
    (∃ (s : State) (n : Nat) (e : Epoch32) (c : ShowEpoch), s.roomFor 8 ∧ s.driveRuns n = true ∧ s.print.drives.length = 8 ∧
      s.quietDrive n = true ∧ ((s.drive n).st = .ramp ∨ (s.drive n).st = .play) ∧
      e = s.epoch32 - 1 - BitVec.ofNat 32 ((s.drive n).offset / 8192) ∧ s.runRequest n (s.driveSample e).en = true ∧
      s.shownAt e = some c ∧ c.present = true ∧ s.clk.faulted.contains e = false ∧ s.shownAt (e + 1) = none) ∧
    (∃ (s : State) (n : Nat) (e : Epoch32), s.roomFor 8 ∧ s.driveRuns n = true ∧ s.print.drives.length = 8 ∧
      s.quietDrive n = true ∧ (s.drive n).st = .play ∧ (s.drive n).causes = 0 ∧ (s.drive n).bath = none ∧
      e = s.epoch32 - 1 - BitVec.ofNat 32 ((s.drive n).offset / 8192) ∧ s.runRequest n (s.driveSample e).en = true ∧
      s.shownAt e = none) ∧
    (∃ (s : State) (n : Nat) (e : Epoch32), s.roomFor 8 ∧ s.driveRuns n = true ∧ s.print.drives.length = 8 ∧
      s.quietDrive n = true ∧ (s.drive n).st = .play ∧ (s.drive n).causes = 0 ∧ (s.drive n).bath = none ∧
      e = s.epoch32 - 1 - BitVec.ofNat 32 ((s.drive n).offset / 8192) ∧ s.runRequest n (s.driveSample e).en = true ∧
      s.shownAt e = none) ∧
    (∃ (s : State) (n : Nat) (e : Epoch32) (c : ShowEpoch) (b : Bool), s.roomFor 8 ∧ s.driveRuns n = true ∧
      s.print.drives.length = 8 ∧ s.quietDrive n = true ∧ (s.drive n).st = .play ∧ s.toSafe = false ∧ s.latched n = false ∧
      e = s.epoch32 - 1 - BitVec.ofNat 32 ((s.drive n).offset / 8192) ∧ s.runRequest n (s.driveSample e).en = false ∧
      s.shownAt e = some c ∧ c.present = true ∧ s.clk.faulted.contains e = false ∧ s.shownAt (e + 1) = none ∧
      b = crosses (if (s.drive n).cur.isSome then (s.drive n).cur else (s.drive n).before) (s.gainedSample n e c)) ∧
    (∃ (s : State) (n : Nat) (e : Epoch32) (c : ShowEpoch) (b : Bool), s.roomFor 8 ∧ s.driveRuns n = true ∧
      s.print.drives.length = 8 ∧ s.quietDrive n = true ∧ (s.drive n).st = .play ∧ s.toSafe = false ∧ s.latched n = false ∧
      e = s.epoch32 - 1 - BitVec.ofNat 32 ((s.drive n).offset / 8192) ∧ s.runRequest n (s.driveSample e).en = false ∧
      s.shownAt e = some c ∧ c.present = true ∧ s.clk.faulted.contains e = false ∧ s.shownAt (e + 1) = none ∧
      b = crosses (if (s.drive n).cur.isSome then (s.drive n).cur else (s.drive n).before) (s.gainedSample n e c)) :=
  ⟨⟨dark, 3, {}, by unfold State.between; decide⟩,
   ⟨day, 9, {}, by unfold State.between; decide⟩,
   ⟨pon, 3, 0x12344, by unfold State.roomFor State.between; decide⟩,
   ⟨day, 3, 0x12344, by unfold State.roomFor State.between; decide⟩,
   ⟨{ drv { st := .play, unknown := false } with frame := { shown := [⟨0x12344, true, [(0, 0, 0x1A3C40), (1, 0, 5)]⟩] } }, 3, 0x12344, ⟨0x12344, true, [(0, 0, 0x1A3C40), (1, 0, 5)]⟩,
      by unfold State.roomFor State.between; decide⟩,
   ⟨{ drv { st := .ramp, k := 31, unknown := false, gFrom := 0x200000, gTo := 0x200000, gNow := 0x200000, miss := 1 } with frame := { shown := [⟨0x12344, true, [(0, 0, 0x8A3C40), (1, 0, 5)]⟩] } }, 3, 0x12344, ⟨0x12344, true, [(0, 0, 0x8A3C40), (1, 0, 5)]⟩,
      by unfold State.roomFor State.between; decide⟩,
   ⟨(drv { st := .play, unknown := false, held := 0x1A3C40, miss := 0, missFirst := 0x12342 }), 3, 0x12344,
      by unfold State.roomFor State.between; decide⟩,
   ⟨(drv { st := .play, unknown := false, held := 0x1A3C40, miss := 1, missFirst := 0x12342 }), 3, 0x12344,
      by unfold State.roomFor State.between; decide⟩,
   ⟨({ drv { st := .play, unknown := false, cur := some 5 } with frame := { shown := [⟨0x12344, true, [(0, 0, 0x1A3C40), (1, 0, 5)]⟩] } } : State).setReg Reg.PRINT_CH_EN 0, 3, 0x12344, ⟨0x12344, true, [(0, 0, 0x1A3C40), (1, 0, 5)]⟩, false,
      by unfold State.roomFor State.between; decide⟩,
   ⟨({ drv { st := .play, unknown := false, cur := some (-5) } with frame := { shown := [⟨0x12344, true, [(0, 0, 0x1A3C40), (1, 0, 5)]⟩] } } : State).setReg Reg.PRINT_CH_EN 0, 3, 0x12344, ⟨0x12344, true, [(0, 0, 0x1A3C40), (1, 0, 5)]⟩, true,
      by unfold State.roomFor State.between; decide⟩⟩

theorem test_meets_DriveWaitsAndLoopsEnd :
    (∃ (s : State) (n : Nat), s.between ∧ s.driveRuns n = true ∧ s.print.drives.length = 8 ∧ (s.drive n).st = .wake) ∧
    (∃ (s : State) (n : Nat), s.between ∧ s.driveRuns n = true ∧ s.print.drives.length = 8 ∧ (s.drive n).st = .wake) ∧
    (∃ (s : State) (n : Nat), s.between ∧ s.driveRuns n = true ∧ s.print.drives.length = 8 ∧
      ((s.drive n).st = .arm ∨ (s.drive n).st = .stopWait)) ∧
    (∃ (s : State) (n : Nat), s.between ∧ s.driveRuns n = true ∧ s.print.drives.length = 8 ∧
      ((s.drive n).st = .arm ∨ (s.drive n).st = .stopWait)) ∧
    (∃ (s : State) (n : Nat), s.roomFor 1 ∧ s.driveRuns n = true ∧ s.print.drives.length = 8 ∧ (s.drive n).st = .ramp) ∧
    (∃ (s : State) (n : Nat), s.roomFor 1 ∧ s.driveRuns n = true ∧ s.print.drives.length = 8 ∧ (s.drive n).st = .ramp) ∧
    (∃ (s : State) (n : Nat) (b : Bath), s.between ∧ s.driveRuns n = true ∧ s.print.drives.length = 8 ∧ (s.drive n).st = .bath ∧
      (s.drive n).bath = some b) ∧
    (∃ (s : State) (n : Nat) (b : Bath), s.between ∧ s.driveRuns n = true ∧ s.print.drives.length = 8 ∧ (s.drive n).st = .bath ∧
      (s.drive n).bath = some b) ∧
    (∃ (s : State) (n : Nat) (k : Nat) (b : Bath), s.between ∧ s.driveRuns n = true ∧ s.print.drives.length = 8 ∧
      s.stage.ch.length = 8 ∧ (s.drive n).st = .bath ∧ (s.drive n).bath = some b ∧ b.dwell = some k ∧ s.stageLoop n = false) ∧
    (∃ (s : State) (n : Nat) (k : Nat) (b : Bath), s.between ∧ s.driveRuns n = true ∧ s.print.drives.length = 8 ∧
      s.stage.ch.length = 8 ∧ (s.drive n).st = .bath ∧ (s.drive n).bath = some b ∧ b.dwell = some k ∧ s.stageLoop n = false) ∧
    (∃ (s : State) (n : Nat), s.between ∧ s.driveRuns n = true ∧ s.print.drives.length = 8 ∧ (s.drive n).st = .muted ∧
      (s.drive n).causes = 1 ∧ s.latched n = false) ∧
    (∃ (s : State) (n : Nat), s.between ∧ s.driveRuns n = true ∧ s.print.drives.length = 8 ∧ (s.drive n).st = .muted ∧
      (s.drive n).causes = 1 ∧ s.latched n = false) ∧
    (∃ (s : State) (n : Nat), s.between ∧ s.driveRuns n = true ∧ s.print.drives.length = 8 ∧ (s.drive n).st = .muted ∧
      (s.drive n).causes = 2 ∧ s.latched n = false ∧ (s.drive n).edgeWait = false) ∧
    (∃ (s : State) (n : Nat), s.between ∧ s.driveRuns n = true ∧ s.print.drives.length = 8 ∧ (s.drive n).st = .muted ∧
      (s.drive n).causes = 2 ∧ s.latched n = false ∧ (s.drive n).edgeWait = false) ∧
    (∃ (s : State) (n : Nat), s.between ∧ s.driveRuns n = true ∧ s.print.drives.length = 8 ∧ (s.drive n).st = .off ∧
      (s.drive n).edgeWait = true) ∧
    (∃ (s : State) (n : Nat), s.between ∧ s.driveRuns n = true ∧ s.print.drives.length = 8 ∧ (s.drive n).st = .off ∧
      (s.drive n).edgeWait = true) ∧
    (∃ (s : State) (level : BitVec 16) (l : Nat) (c : Nat) (t0 : Nat), s.between ∧ s.acting = true ∧
      s.print.loop = some (l, c, some t0)) ∧
    (∃ (s : State) (level : BitVec 16) (l : Nat) (c : Nat) (t0 : Nat), s.between ∧ s.acting = true ∧
      s.print.loop = some (l, c, some t0)) :=
  ⟨⟨(drv { st := .wake, wakeAt := 4904 }), 3, by unfold State.between; decide⟩,
   ⟨(drv { st := .wake, wakeAt := 4905 }), 3, by unfold State.between; decide⟩,
   ⟨(drv { st := .arm, cnt := 191 }), 3, by unfold State.between; decide⟩,
   ⟨(drv { st := .arm, cnt := 192 }), 3, by unfold State.between; decide⟩,
   ⟨(drv { st := .ramp, k := 63, resumed := true, rampFirst := 77, timeout := true }), 3,
      by unfold State.roomFor State.between; decide⟩,
   ⟨(drv { st := .ramp, k := 64, resumed := true, rampFirst := 77, timeout := true }), 3,
      by unfold State.roomFor State.between; decide⟩,
   ⟨(drv { st := .bath, bath := some { ramps := [(64, 63)], held := none, ends := 0 } }), 3, { ramps := [(64, 63)], held := none, ends := 0 },
      by unfold State.between; decide⟩,
   ⟨(drv { st := .bath, bath := some { ramps := [(64, 64)], held := none, ends := 0 } }), 3, { ramps := [(64, 64)], held := none, ends := 0 },
      by unfold State.between; decide⟩,
   ⟨(drv { st := .bath, bath := some { ramps := [(64, 64)], held := none, ends := 1, dwell := some 15 } }), 3, 15, { ramps := [(64, 64)], held := none, ends := 1, dwell := some 15 },
      by unfold State.between; decide⟩,
   ⟨((drv { st := .bath, bath := some { ramps := [(64, 64)], held := none, ends := 1, dwell := some 15 } }) : State).setReg Reg.PRINT_CH_EN 0, 3, 15, { ramps := [(64, 64)], held := none, ends := 1, dwell := some 15 },
      by unfold State.between; decide⟩,
   ⟨((drv { st := .muted, causes := 1, pcm := 31, cur := some 5, before := some 6 }) : State).setReg Reg.PRINT_PRINT_CFG 2, 3,
      by unfold State.between; decide⟩,
   ⟨((drv { st := .muted, causes := 1, pcm := 32, cur := some 5, before := some 6 }) : State).setReg Reg.PRINT_PRINT_CFG 2, 3,
      by unfold State.between; decide⟩,
   ⟨((drv { st := .muted, causes := 2, clean := 31, cur := some 5, before := some 6 }) : State).setReg Reg.CHIP_CLK_CFG 0x20, 3,
      by unfold State.between; decide⟩,
   ⟨((drv { st := .muted, causes := 2, clean := 32, cur := some 5, before := some 6 }) : State).setReg Reg.CHIP_CLK_CFG 0x20, 3,
      by unfold State.between; decide⟩,
   ⟨((drv { edgeWait := true, clean := 31 }) : State).setReg Reg.CHIP_CLK_CFG 0x20, 3, by unfold State.between; decide⟩,
   ⟨((drv { edgeWait := true, clean := 32 }) : State).setReg Reg.CHIP_CLK_CFG 0x20, 3, by unfold State.between; decide⟩,
   ⟨{ pon with print := { loop := some (1, 3, some 904) } }, 0x1234, 1, 3, 904, by unfold State.between; decide⟩,
   ⟨{ pon with print := { loop := some (1, 3, some 905) } }, 0x1234, 1, 3, 905, by unfold State.between; decide⟩⟩

theorem test_meets_LatchesMeasureAndSteer :
    (∃ (s : State) (n : Nat) (d : Nat), s.between ∧ s.clk.power = .up ∧ s.ident.done = true ∧ s.blockUp 4 = true ∧ n < 8 ∧
      s.stage.ch.length = 8) ∧
    (∃ (s : State) (n : Nat) (d : Nat), s.between ∧ s.clk.power = .up ∧ s.ident.done = true ∧ s.blockUp 4 = true ∧ n < 8 ∧
      s.stage.ch.length = 8) ∧
    (∃ (s : State) (n : Nat) (k : Nat), s.between ∧ (k = 0 ∨ 786432 < k)) ∧
    (∃ (s : State) (n : Nat) (k : Nat), s.between ∧ (k = 0 ∨ 786432 < k)) ∧
    (∃ (s : State) (n : Nat) (k : Nat), s.roomFor 2 ∧ s.stageRuns n = true ∧ s.stage.ch.length = 8 ∧ 98306 ≤ k ∧ k ≤ 786432) ∧
    (∃ (s : State) (n : Nat) (k : Nat), s.roomFor 2 ∧ s.stageRuns n = true ∧ s.stage.ch.length = 8 ∧ 98306 ≤ k ∧ k ≤ 786432) ∧
    (∃ (s : State) (n : Nat) (k : Nat) (step : Nat) (e : Int), s.roomFor 2 ∧ s.stageRuns n = true ∧ s.stage.ch.length = 8 ∧
      0 < k ∧ k ≤ 786432 ∧ ((s.stageCh n).mMode = 1 ∨ (s.stageCh n).mMode = 3) ∧ s.released n = true ∧
      (s.stageCh n).loud = false ∧ s.clk.fault = false ∧ (s.stageCh n).code ≤ 255 ∧ e = (s.stageCh n).mFreq * k - 201326592 ∧
      step = max 1 (min 8 (e.natAbs / (2 * k)))) ∧
    (∃ (s : State) (n : Nat) (k : Nat) (step : Nat) (e : Int), s.roomFor 2 ∧ s.stageRuns n = true ∧ s.stage.ch.length = 8 ∧
      0 < k ∧ k ≤ 786432 ∧ ((s.stageCh n).mMode = 1 ∨ (s.stageCh n).mMode = 3) ∧ s.released n = true ∧
      (s.stageCh n).loud = false ∧ s.clk.fault = false ∧ (s.stageCh n).code ≤ 255 ∧ e = (s.stageCh n).mFreq * k - 201326592 ∧
      step = max 1 (min 8 (e.natAbs / (2 * k)))) ∧
    (∃ (s : State) (n : Nat), s.between ∧ s.stageRuns n = true ∧ s.stage.ch.length = 8) :=
  ⟨⟨day, 3, 5000, by unfold State.between; decide⟩,
   ⟨day, 3, 624, by unfold State.between; decide⟩,
   ⟨day, 3, 0, by unfold State.between; decide⟩,
   ⟨day, 3, 786433, by unfold State.between; decide⟩,
   ⟨{ pon with stage := { ch := modNth pon.stage.ch 3 (fun c => { c with mMode := 0, mFreq := 395, locked := true }), resMode := 1 } }, 3, 98306,
      by unfold State.roomFor State.between; decide⟩,
   ⟨{ pon with stage := { ch := modNth pon.stage.ch 3 (fun c => { c with mMode := 0, mFreq := 395, locked := true }), resMode := 1 } }, 3, 509660,
      by unfold State.roomFor State.between; decide⟩,
   ⟨{ (drv { st := .play }) with stage := { ch := modNth (drv { st := .play }).stage.ch 3 (fun c => { c with mMode := 1, mFreq := 395, code := 100, inRun := 0, outRun := 0, locked := false, relTick := some 5 }) } }, 3, 509660, 1, (395*509660-201326592),
      by unfold State.roomFor State.between; decide⟩,
   ⟨{ (drv { st := .play }) with stage := { ch := modNth (drv { st := .play }).stage.ch 3 (fun c => { c with mMode := 1, mFreq := 395, code := 100, inRun := 0, outRun := 0, locked := false, relTick := some 5 }) } }, 3, 512000, 1, (395*512000-201326592),
      by unfold State.roomFor State.between; decide⟩,
   ⟨{ pon with stage := { ch := modNth pon.stage.ch 3 (fun c => { c with freq := 5, valid := true, clear := true, locked := true, mMode := 2, code := 7 }) } }, 3,
      by unfold State.between; decide⟩⟩

theorem test_meets_StageFaultsHoldTheChannel :
    (∃ (s : State) (n : Nat) (t0 : Nat), s.roomFor 2 ∧ s.stageRuns n = true ∧ s.stage.ch.length = 8 ∧
      (s.stageCh n).relTick = some t0 ∧ 96 ≤ (s.stageCh n).noEdge ∧ t0 + 96 ≤ s.clk.ticks) ∧
    (∃ (s : State) (n : Nat) (t0 : Nat), s.roomFor 2 ∧ s.stageRuns n = true ∧ s.stage.ch.length = 8 ∧
      (s.stageCh n).relTick = some t0 ∧ 96 ≤ (s.stageCh n).noEdge ∧ t0 + 96 ≤ s.clk.ticks) ∧
    (∃ (s : State) (n : Nat), s.roomFor 1 ∧ s.stageRuns n = true ∧ s.stage.ch.length = 8 ∧ (s.stageCh n).therm = false) ∧
    (∃ (s : State) (n : Nat), s.roomFor 1 ∧ s.stageRuns n = true ∧ s.stage.ch.length = 8 ∧ (s.stageCh n).therm = false) ∧
    (∃ (s : State) (n : Nat) (e : Epoch), s.roomFor 1 ∧ s.acting = true ∧ s.clk.daylight = true ∧ n < 8 ∧ s.stage.ch.length = 8 ∧
      (s.stageCh n).therm = true ∧ (s.stageCh n).cool = some e) ∧
    (∃ (s : State) (n : Nat) (e : Epoch), s.roomFor 1 ∧ s.acting = true ∧ s.clk.daylight = true ∧ n < 8 ∧ s.stage.ch.length = 8 ∧
      (s.stageCh n).therm = true ∧ (s.stageCh n).cool = some e) ∧
    (∃ (s : State) (n : Nat) (e : Epoch), s.between ∧ s.acting = true ∧ n < 8 ∧ s.stage.ch.length = 8 ∧
      (s.stageCh n).hold = some e) ∧
    (∃ (s : State) (n : Nat) (e : Epoch), s.between ∧ s.acting = true ∧ n < 8 ∧ s.stage.ch.length = 8 ∧
      (s.stageCh n).hold = some e) :=
  ⟨⟨{ pon with stage := { ch := modNth pon.stage.ch 3 (fun c => { c with noEdge := 96, relTick := some 4904 }) } }, 3, 4904,
      by unfold State.roomFor State.between; decide⟩,
   ⟨{ pon with stage := { ch := modNth pon.stage.ch 3 (fun c => { c with noEdge := 96, relTick := some 4904, episode := true }) } }, 3, 4904,
      by unfold State.roomFor State.between; decide⟩,
   ⟨{ pon with stage := { ch := modNth pon.stage.ch 3 (fun c => { c with tripRun := 7 }) } }, 3,
      by unfold State.roomFor State.between; decide⟩,
   ⟨{ pon with stage := { ch := modNth pon.stage.ch 3 (fun c => { c with tripRun := 8 }) } }, 3,
      by unfold State.roomFor State.between; decide⟩,
   ⟨{ pon with stage := { ch := modNth pon.stage.ch 3 (fun c => { c with therm := true, cool := some 0xFDC6 }) } }, 3, 0xFDC6,
      by unfold State.roomFor State.between; decide⟩,
   ⟨{ pon with stage := { ch := modNth pon.stage.ch 3 (fun c => { c with therm := true, cool := some 0xFDC7 }) } }, 3, 0xFDC7,
      by unfold State.roomFor State.between; decide⟩,
   ⟨{ pon with stage := { ch := modNth pon.stage.ch 3 (fun c => { c with hold := some 0x12345 }) } }, 3, 0x12345,
      by unfold State.between; decide⟩,
   ⟨{ pon with stage := { ch := modNth pon.stage.ch 3 (fun c => { c with hold := some 0x12346 }) } }, 3, 0x12346,
      by unfold State.between; decide⟩⟩

theorem test_meets_SearchesAndWindowsEnd :
    (∃ (s : State) (q : Search) (p : Nat), s.roomFor 1 ∧ s.acting = true ∧ s.blockUp 4 = true ∧ s.stage.search = some q ∧
      p = ((List.range 8).filter (fun n => s.flag Reg.PRINT_CH_EN n)).length) ∧
    (∃ (s : State) (q : Search) (p : Nat), s.roomFor 1 ∧ s.acting = true ∧ s.blockUp 4 = true ∧ s.stage.search = some q ∧
      p = ((List.range 8).filter (fun n => s.flag Reg.PRINT_CH_EN n)).length) ∧
    (∃ (q : Search) (hs : List Nat), q.bad = none) ∧
    (∃ (s : State) (up : List Bool), s.between ∧ s.clk.epoch.toNat % 24000 ≠ 0) ∧
    (∃ (s : State) (up : List Bool) (n : Nat) (g : Int), s.between ∧ s.acting = true ∧ s.blockUp 4 = true ∧
      s.clk.epoch.toNat % 24000 = 0 ∧ s.stage.ch.length = 8 ∧ n < 8 ∧
      g = gainLevel (nth up n false) ((s.stageCh n).verify.dm / (s.stageCh n).verify.dd)) ∧
    (∃ (s : State) (up : List Bool) (n : Nat) (g : Int), s.between ∧ s.acting = true ∧ s.blockUp 4 = true ∧
      s.clk.epoch.toNat % 24000 = 0 ∧ s.stage.ch.length = 8 ∧ n < 8 ∧
      g = gainLevel (nth up n false) ((s.stageCh n).verify.dm / (s.stageCh n).verify.dd)) ∧
    (∃ (s : State) (up : List Bool) (n : Nat) (g : Int) (v : Int) (neg : Bool) (depart : Bool) (turned : Bool), s.roomFor 16 ∧
      s.acting = true ∧ s.blockUp 4 = true ∧ s.clk.epoch.toNat % 24000 = 0 ∧ s.stage.ch.length = 8 ∧ n < 8 ∧
      s.verifies n = true ∧ (s.stageCh n).whole = true ∧ s.driveLoud n = true ∧
      g = clampInt (-2048) 2047 (gainLevel (nth up n false) ((s.stageCh n).verify.dm / (s.stageCh n).verify.dd)) ∧
      s.fld (Reg.STAGE_VERIFY_EXP_0 + 4 * n) 15 0 ≠ 0x8000 ∧ v = sgnOf 16 (s.fld (Reg.STAGE_VERIFY_EXP_0 + 4 * n) 15 0) ∧
      neg = s.flag (Reg.STAGE_VERIFY_EXP_0 + 4 * n) 30 ∧ turned = (decide ((s.stageCh n).verify.dm < 0) != neg) ∧
      depart = decide (4 * s.fld Reg.STAGE_VERIFY_CFG 15 8 < (g - v).natAbs)) ∧
    (∃ (s : State) (up : List Bool) (n : Nat) (g : Int) (v : Int) (neg : Bool) (depart : Bool) (turned : Bool), s.roomFor 16 ∧
      s.acting = true ∧ s.blockUp 4 = true ∧ s.clk.epoch.toNat % 24000 = 0 ∧ s.stage.ch.length = 8 ∧ n < 8 ∧
      s.verifies n = true ∧ (s.stageCh n).whole = true ∧ s.driveLoud n = true ∧
      g = clampInt (-2048) 2047 (gainLevel (nth up n false) ((s.stageCh n).verify.dm / (s.stageCh n).verify.dd)) ∧
      s.fld (Reg.STAGE_VERIFY_EXP_0 + 4 * n) 15 0 ≠ 0x8000 ∧ v = sgnOf 16 (s.fld (Reg.STAGE_VERIFY_EXP_0 + 4 * n) 15 0) ∧
      neg = s.flag (Reg.STAGE_VERIFY_EXP_0 + 4 * n) 30 ∧ turned = (decide ((s.stageCh n).verify.dm < 0) != neg) ∧
      depart = decide (4 * s.fld Reg.STAGE_VERIFY_CFG 15 8 < (g - v).natAbs)) :=
  ⟨⟨{ day with stage := { search := some ⟨[1185, 790], 300, 395, 450, 1⟩, snap := some ⟨[1185, 790], 300, 395, 450, 1⟩ } }, ⟨[1185, 790], 300, 395, 450, 1⟩, 0,
      by unfold State.roomFor State.between; decide⟩,
   ⟨{ day with stage := { search := some ⟨[], 300, 395, 450, 0⟩, snap := some ⟨[], 300, 395, 450, 0⟩ } }, ⟨[], 300, 395, 450, 0⟩, 0,
      by unfold State.roomFor State.between; decide⟩,
   ⟨⟨[790, 1185], 300, 395, 450, 1⟩, [1, 2, 3, 4, 5, 6], by decide⟩,
   ⟨day, [], by unfold State.between; decide⟩,
   ⟨ver { whole := true, verify := { dm := 1, dd := 1000000000000000000 } }, [], 3, gainLevel false (1 / 1000000000000000000),
      by unfold State.between; decide, by decide, by decide, by decide, by decide, by decide, by rfl⟩,
   ⟨ver { whole := true, ref := some (5, false), verify := { dm := -3, dd := 1000000000000000000 } }, [true, true, true, true], 3, gainLevel true ((-3) / 1000000000000000000),
      by unfold State.between; decide, by decide, by decide, by decide, by decide, by decide, by rfl⟩,
   ⟨((ver { whole := true, failing := false, verify := { dm := 1000000000000000000, dd := 1000000000000000000 } } : State).setReg (Reg.STAGE_VERIFY_EXP_0 + 12) 0x00000000).setReg Reg.STAGE_VERIFY_CFG 0x0208, [false, false, false, true], 3, clampInt (-2048) 2047 (gainLevel true (1000000000000000000 / 1000000000000000000)), 0, false, decide (8 < (clampInt (-2048) 2047 (gainLevel true (1000000000000000000 / 1000000000000000000)) - 0).natAbs), (false != false),
      by unfold State.roomFor State.between; decide, by decide, by decide, by decide, by decide, by decide, by decide, by decide,
      by decide +kernel, by rfl, by decide, by decide, by decide, by decide, by rfl⟩,
   ⟨((ver { whole := true, failing := false, verify := { dm := 1000000000000000000, dd := 1000000000000000000 } } : State).setReg (Reg.STAGE_VERIFY_EXP_0 + 12) 0x00000009).setReg Reg.STAGE_VERIFY_CFG 0x0208, [false, false, false, true], 3, clampInt (-2048) 2047 (gainLevel true (1000000000000000000 / 1000000000000000000)), 9, false, decide (8 < (clampInt (-2048) 2047 (gainLevel true (1000000000000000000 / 1000000000000000000)) - 9).natAbs), (false != false),
      by unfold State.roomFor State.between; decide, by decide, by decide, by decide, by decide, by decide, by decide, by decide,
      by decide +kernel, by rfl, by decide, by decide, by decide, by decide, by rfl⟩⟩

theorem test_meets_TamperWipesTheSecureRegion :
    (∃ (s : State), s.between) ∧
    (∃ (s : State), s.between) ∧
    (∃ (s : State), s.between) ∧
    (∃ (s : State), s.roomFor 4 ∧ s.bank.wipeCause ≤ 5) ∧
    (∃ (s : State), s.roomFor 4 ∧ s.bank.wipeCause ≤ 5) ∧
    (∃ (s : State), s.between ∧ s.running = true) ∧
    (∃ (s : State), s.between ∧ s.running = true) ∧
    (∃ (s : State) (cnt : Nat), s.roomFor 1 ∧ s.running = true ∧ s.bank.wiping = true ∧ s.bank.errs = [] ∧
      cnt = min 255 (s.bank.sealCnt + (if s.bank.wipeCause = 5 then 1 else 0))) ∧
    (∃ (s : State) (cnt : Nat), s.roomFor 1 ∧ s.running = true ∧ s.bank.wiping = true ∧ s.bank.errs = [] ∧
      cnt = min 255 (s.bank.sealCnt + (if s.bank.wipeCause = 5 then 1 else 0))) ∧
    (∃ (s : State) (w : Nat), s.roomFor 1 ∧ s.running = true ∧ s.bank.wiping = true ∧ w < 0x800) :=
  ⟨⟨day, by unfold State.between; decide⟩,
   ⟨{ day with bank := { tamperPin := true, sealPin := true, tamperLatch := true, tamperSeen := true } },
      by unfold State.between; decide⟩,
   ⟨{ day with bank := { tamperPin := true, sealPin := false, tamperLatch := true, tamperSeen := true } },
      by unfold State.between; decide⟩,
   ⟨{ day with bank := { tamperLatch := true } }, by unfold State.roomFor State.between; decide⟩,
   ⟨{ day with bank := { tamperLatch := true, wiping := true, wipeCause := 2 } }, by unfold State.roomFor State.between; decide⟩,
   ⟨{ day with bank := { wipePend := true, wipeCause := 3 }, mem := [(0x100, 5), (0xFFDF, 5), (0xFFE0, 7)] },
      by unfold State.between; decide⟩,
   ⟨day, by unfold State.between; decide⟩,
   ⟨{ day with bank := { wiping := true, sealCnt := 7, wipeCause := 5, tamperSeen := true, tamperLatch := true, tamperPin := true }, mem := [(0x100, 5), (0xFFE0, 7), (0xFFFF, 3), (0x10000, 9)] }, 8,
      by unfold State.roomFor State.between; decide⟩,
   ⟨{ day with bank := { wiping := true, sealCnt := 7, wipeCause := 3, tamperSeen := true, tamperLatch := true, tamperPin := false }, mem := [(0x100, 5), (0xFFE0, 7), (0xFFFF, 3), (0x10000, 9)] }, 7,
      by unfold State.roomFor State.between; decide⟩,
   ⟨{ day with bank := { wiping := true, wipeCause := 4 }, loupe := { day.loupe with lifeReq := some 2 }, mem := [(0xFFE0, 255), (0x10001, 4)] }, 0x7FF,
      by unfold State.roomFor State.between; decide⟩⟩

theorem test_meets_FogTestMarchesAndYields :
    (∃ (s : State) (i : FogIn), s.between ∧ s.fogRuns = false ∧ (s.acting = false ∨ s.bank.phase = .idle)) ∧
    (∃ (s : State) (k : Nat), s.between ∧ s.fogRuns = true ∧ s.bank.errs = [] ∧ (s.bank.phase ≠ .idle ∨ s.fogDue k = true)) ∧
    (∃ (s : State) (k : Nat), s.between ∧ s.fogRuns = true ∧ s.bank.errs = [] ∧ (s.bank.phase ≠ .idle ∨ s.fogDue k = true)) ∧
    (∃ (s : State) (i : FogIn), s.between ∧ s.fogRuns = true ∧ s.bank.phase = .idle) ∧
    (∃ (s : State) (i : FogIn), s.between ∧ s.fogRuns = true ∧ s.bank.phase = .idle) ∧
    (∃ (s : State) (b : Nat) (k : Nat), s.roomFor 1 ∧ s.fogRuns = true ∧ s.bank.errs = [] ∧ b < 576 ∧ s.bank.region ≤ 0x17FFF ∧
      s.bank.phase ≠ .restore ∧ (s.bank.phase ≠ .idle ∨ s.fogDue k = true)) ∧
    (∃ (s : State) (b : Nat) (k : Nat), s.roomFor 1 ∧ s.fogRuns = true ∧ s.bank.errs = [] ∧ b < 576 ∧ s.bank.region ≤ 0x17FFF ∧
      s.bank.phase ≠ .restore ∧ (s.bank.phase ≠ .idle ∨ s.fogDue k = true)) ∧
    (∃ (s : State), s.between) ∧
    (∃ (s : State), s.between) ∧
    (∃ (c : Instr) (s : State) (r : Nat), (c = .fogAbort ∧ s.bank.borrowed = true ∨ c = .fogStepDeadline ∧
      s.bank.phase ≠ .idle) ∧ s.roomFor 1 ∧ s.acting = true ∧ r = s.bank.region) ∧
    (∃ (c : Instr) (s : State) (r : Nat), (c = .fogAbort ∧ s.bank.borrowed = true ∨ c = .fogStepDeadline ∧
      s.bank.phase ≠ .idle) ∧ s.roomFor 1 ∧ s.acting = true ∧ r = s.bank.region) :=
  ⟨⟨(day.setReg Reg.TANK_TANK_CFG 0), {}, by unfold State.between; decide⟩,
   ⟨(({ day with bank := { region := 0x400, aborts := 3 } } : State).setReg Reg.TANK_TANK_CFG 1), 5,
      by unfold State.between; decide⟩,
   ⟨(({ day with bank := { region := 0x17FFF, aborts := 3 } } : State).setReg Reg.TANK_TANK_CFG 1), 5,
      by unfold State.between; decide⟩,
   ⟨(({ day with bank := { region := 0x500, stepAt := some 20480000 } } : State).setReg Reg.TANK_TANK_CFG 1), { cycle := 1023, upTo := .march },
      by unfold State.between; decide⟩,
   ⟨(({ day with bank := { region := 0x500, stepAt := some 20480000 } } : State).setReg Reg.TANK_TANK_CFG 1), { cycle := 1023, upTo := .save },
      by unfold State.between; decide⟩,
   ⟨(({ day with bank := { region := 0x12345, phase := .march } } : State).setReg Reg.TANK_TANK_CFG 1), 300, 7,
      by unfold State.roomFor State.between; decide⟩,
   ⟨(({ day with bank := { region := 0x12345, phase := .idle } } : State).setReg Reg.TANK_TANK_CFG 1), 300, 7,
      by unfold State.roomFor State.between; decide⟩,
   ⟨(({ day with bank := { region := 0x500 } } : State).setReg Reg.TANK_TANK_CFG 1), by unfold State.between; decide⟩,
   ⟨(({ day with bank := { region := 0x500, phase := .save } } : State).setReg Reg.TANK_TANK_CFG 1),
      by unfold State.between; decide⟩,
   ⟨.fogAbort, (({ day with bank := { region := 0x500, phase := .march, aborts := 6 } } : State).setReg Reg.TANK_TANK_CFG 1), 0x500,
      by unfold State.roomFor State.between; decide⟩,
   ⟨.fogAbort, (({ day with bank := { region := 0x500, phase := .march, aborts := 7 } } : State).setReg Reg.TANK_TANK_CFG 1), 0x500,
      by unfold State.roomFor State.between; decide⟩⟩

theorem test_meets_TankAccessesReachTheirLanes :
    (∃ (s : State) (word : Nat) (lane : Nat) (w : Nat) (x : Word) (patch : Bool) (handler : Bool), s.between ∧
      s.loupe.wedged = false ∧ s.running = true ∧ s.loupeUp = true ∧ word < 0x30000 ∧ lane < 8 ∧ w = 8 * word + lane ∧
      s.segPowered (segmentOf w) = true ∧ w < 0x4000 ∧ (patch = true ∨ s.secureOpen = false)) ∧
    (∃ (s : State) (word : Nat) (lane : Nat) (w : Nat) (x : Word) (patch : Bool) (handler : Bool), s.between ∧
      s.loupe.wedged = false ∧ s.running = true ∧ s.loupeUp = true ∧ word < 0x30000 ∧ lane < 8 ∧ w = 8 * word + lane ∧
      s.segPowered (segmentOf w) = true ∧ w < 0x4000 ∧ (patch = true ∨ s.secureOpen = false)) ∧
    (∃ (s : State) (word : Nat) (lane : Nat) (w : Nat) (x : Word) (patch : Bool) (handler : Bool), s.between ∧
      s.loupe.wedged = false ∧ s.running = true ∧ s.loupeUp = true ∧ word < 0x30000 ∧ lane < 8 ∧ w = 8 * word + lane ∧
      s.segPowered (segmentOf w) = true ∧ (0x4000 ≤ w ∨ (patch = false ∧ s.secureOpen = true)) ∧ s.eccOf word (lane / 2) = none ∧
      s.bank.borrowed = false) ∧
    (∃ (s : State) (word : Nat) (lane : Nat) (w : Nat) (x : Word) (patch : Bool) (handler : Bool), s.between ∧
      s.loupe.wedged = false ∧ s.running = true ∧ s.loupeUp = true ∧ word < 0x30000 ∧ lane < 8 ∧ w = 8 * word + lane ∧
      s.segPowered (segmentOf w) = true ∧ (0x4000 ≤ w ∨ (patch = false ∧ s.secureOpen = true)) ∧ s.eccOf word (lane / 2) = none ∧
      s.bank.borrowed = false) ∧
    (∃ (s : State) (word : Nat) (lane : Nat) (w : Nat) (x : Word), s.between ∧ s.loupe.wedged = false ∧ s.running = true ∧
      s.loupeUp = true ∧ word < 0x30000 ∧ lane < 8 ∧ w = 8 * word + lane ∧ s.segPowered (segmentOf w) = true ∧ 0x4000 ≤ w ∧
      s.eccOf word (lane / 2) = some true ∧ s.bank.borrowed = false) ∧
    (∃ (s : State) (word : Nat) (lane : Nat) (w : Nat) (x : Word), s.between ∧ s.loupe.wedged = false ∧ s.running = true ∧
      s.loupeUp = true ∧ word < 0x30000 ∧ lane < 8 ∧ w = 8 * word + lane ∧ s.segPowered (segmentOf w) = true ∧ 0x4000 ≤ w ∧
      s.eccOf word (lane / 2) = some true ∧ s.bank.borrowed = false) ∧
    (∃ (s : State) (word : Nat) (l : Nat), s.between ∧ s.loupe.wedged = false ∧ s.running = true ∧ s.loupeUp = true ∧
      word < 0x30000 ∧ l < 8 ∧ s.segPowered (segmentOf (8 * word)) = true ∧ (0x4000 ≤ 8 * word ∨ s.secureOpen = true) ∧
      s.bank.errs = [] ∧ s.bank.borrowed = false) ∧
    (∃ (s : State) (word : Nat) (l : Nat), s.between ∧ s.loupe.wedged = false ∧ s.running = true ∧ s.loupeUp = true ∧
      word < 0x30000 ∧ l < 8 ∧ s.segPowered (segmentOf (8 * word)) = true ∧ (0x4000 ≤ 8 * word ∨ s.secureOpen = true) ∧
      s.bank.errs = [] ∧ s.bank.borrowed = false) ∧
    (∃ (s : State) (word : Nat) (l : Nat) (x : Word), s.between ∧ s.loupe.wedged = false ∧ s.running = true ∧ s.loupeUp = true ∧
      word < 0x30000 ∧ l < 8 ∧ s.segPowered (segmentOf (8 * word)) = true ∧ (0x4000 ≤ 8 * word ∨ s.secureOpen = true) ∧
      s.bank.errs = [] ∧ s.bank.borrowed = false) ∧
    (∃ (s : State) (word : Nat) (l : Nat) (x : Word), s.between ∧ s.loupe.wedged = false ∧ s.running = true ∧ s.loupeUp = true ∧
      word < 0x30000 ∧ l < 8 ∧ s.segPowered (segmentOf (8 * word)) = true ∧ (0x4000 ≤ 8 * word ∨ s.secureOpen = true) ∧
      s.bank.errs = [] ∧ s.bank.borrowed = false) ∧
    (∃ (s : State) (r : TankReq), s.between ∧ s.loupe.wedged = false ∧ s.running = true ∧ s.loupeUp = true ∧ r.req = .loupe ∧
      8 * r.word < 0x4000 ∧ ((∀ l, l ∈ r.lanes → l < 8)) ∧ s.segPowered 0 = true ∧ (r.patch = true ∨ s.secureOpen = false)) ∧
    (∃ (s : State) (r : TankReq), s.between ∧ s.loupe.wedged = false ∧ s.running = true ∧ s.loupeUp = true ∧ r.req = .loupe ∧
      8 * r.word < 0x4000 ∧ ((∀ l, l ∈ r.lanes → l < 8)) ∧ s.segPowered 0 = true ∧ (r.patch = true ∨ s.secureOpen = false)) ∧
    (∃ (s : State) (r : TankReq), s.between ∧ r.req ≠ .loupe ∧ r.data = none) ∧
    (∃ (s : State) (r : TankReq), s.between ∧ r.req ≠ .loupe ∧ r.data = none) ∧
    (∃ (s : State) (r : TankReq) (q : TankReq), rankOf r.req < rankOf q.req ∧ r.word ≠ q.word ∧ s.presents r = true ∧
      s.secureRefused r = false ∧ s.secureRefused q = false) ∧
    (∃ (s : State) (word : Nat) (l : Nat) (double : Bool), s.roomFor 1 ∧ s.loupe.wedged = false ∧ (s.fixerCount 42).2.2 = false ∧
      s.running = true ∧ s.loupeUp = true ∧ word < 0x30000 ∧ l < 8 ∧ s.segPowered (segmentOf (8 * word)) = true ∧
      0x4000 ≤ 8 * word ∧ s.bank.errs = [(word, l / 2, double)] ∧ s.bank.borrowed = false) ∧
    (∃ (s : State) (word : Nat) (l : Nat) (double : Bool), s.roomFor 1 ∧ s.loupe.wedged = false ∧ (s.fixerCount 42).2.2 = false ∧
      s.running = true ∧ s.loupeUp = true ∧ word < 0x30000 ∧ l < 8 ∧ s.segPowered (segmentOf (8 * word)) = true ∧
      0x4000 ≤ 8 * word ∧ s.bank.errs = [(word, l / 2, double)] ∧ s.bank.borrowed = false) :=
  ⟨⟨{ day with bank := { wiping := true } }, 5, 3, 43, 7, false, true, by unfold State.between; decide⟩,
   ⟨day, 5, 3, 43, 7, true, false, by unfold State.between; decide⟩,
   ⟨{ day with mem := [(0x140BC, 255), (0x140BD, 5)] }, 0x140BC/32, 0x140BC/4%8, 0x140BC/4, 0xFFFFFFFF, true, false,
      by unfold State.between; decide⟩,
   ⟨{ day with bank := { errs := [(0x1200, 1, true)] } }, 0x1200, 0, 0x9000, 5, false, true, by unfold State.between; decide⟩,
   ⟨{ day with mem := [(0x9000, 5), (0x24004, 7)], bank := { errs := [(0x1200, 0, true)] } }, 0x1200, 0, 0x9000, 5,
      by unfold State.between; decide⟩,
   ⟨{ day with mem := [(0x24000, 7)], bank := { errs := [(0x1200, 0, true)] } }, 0x1200, 1, 0x9001, 5,
      by unfold State.between; decide⟩,
   ⟨{ day with mem := [(0x140BC, 255), (0x140BD, 5)] }, 0x140BC/32, 0x140BC/4%8, by unfold State.between; decide⟩,
   ⟨day, 0x1084, 1, by unfold State.between; decide⟩,
   ⟨{ day with mem := [(0x140BC, 255), (0x140BD, 5)] }, 0x140BC/32, 0x140BC/4%8, 0x12345678, by unfold State.between; decide⟩,
   ⟨day, 0x800, 7, 5, by unfold State.between; decide⟩,
   ⟨{ day with bank := { sealFail := true } }, { req := .loupe, word := 5, lanes := [1, 7], data := some [4, 5] },
      by unfold State.between; decide⟩,
   ⟨day, { req := .loupe, word := 5, lanes := [1], data := none, patch := true }, by unfold State.between; decide⟩,
   ⟨{ day with bank := { wiping := true }, mem := [(33, 5), (0x20000, 4)] }, { req := .wipe, word := 1, lanes := [0, 1, 2, 3, 4, 5, 6, 7], data := none },
      by unfold State.between; decide⟩,
   ⟨day, { req := .aperture, word := 0x1200, lanes := [1], data := none, upset := some (1, true) },
      by unfold State.between; decide⟩,
   ⟨day, { req := .stream, word := 0x1200, lanes := [1], data := none }, { req := .loupe, word := 0x1201, lanes := [1], data := some [4] },
      by decide⟩,
   ⟨{ day with bank := { errs := [(0x1200, 1, true)] } }, 0x1200, 3, true, by unfold State.roomFor State.between; decide⟩,
   ⟨{ day with bank := { errs := [(0x1200, 1, false)] } }, 0x1200, 3, false, by unfold State.roomFor State.between; decide⟩⟩

theorem test_meets_LogWriterNumbersEntries :
    (∃ (s : State), s.between ∧ s.fixer.staged = []) ∧
    (∃ (s : State) (e : LogEntry) (rest : List LogEntry) (n : Nat) (w : Nat), s.between ∧ s.running = true ∧
      s.fixer.staged = e :: rest ∧ s.calmTank ∧ n = (s.reg Reg.FIXER_LOG_TOTAL).toNat ∧ w = 0x4000 + 4 * (n % 4096) ∧
      s.queue.events.length < 63) ∧
    (∃ (s : State) (e : LogEntry) (rest : List LogEntry) (n : Nat) (w : Nat), s.between ∧ s.running = true ∧
      s.fixer.staged = e :: rest ∧ s.calmTank ∧ n = (s.reg Reg.FIXER_LOG_TOTAL).toNat ∧ w = 0x4000 + 4 * (n % 4096) ∧
      s.queue.events.length < 63) :=
  ⟨⟨day, by unfold State.between; decide⟩,
   ⟨({ day with fixer := { staged := [⟨0x4567004CE7806, 4, 1, 5, 6, true, 0⟩, ⟨7, 4, 1, 5, 6, true, 0⟩] } } : State).setReg Reg.FIXER_LOG_TOTAL 77589, ⟨0x4567004CE7806, 4, 1, 5, 6, true, 0⟩, [⟨7, 4, 1, 5, 6, true, 0⟩], 77589, 0x4000 + 4 * (77589 % 4096),
      by unfold State.calmTank State.between; decide⟩,
   ⟨({ day with fixer := { staged := [⟨0x4567004CE7806, 4, 1, 5, 6, true, 0⟩, ⟨7, 4, 1, 5, 6, true, 0⟩] } } : State).setReg Reg.FIXER_LOG_TOTAL 4095, ⟨0x4567004CE7806, 4, 1, 5, 6, true, 0⟩, [⟨7, 4, 1, 5, 6, true, 0⟩], 4095, 0x4000 + 4 * (4095 % 4096),
      by unfold State.calmTank State.between; decide⟩⟩

theorem test_meets_FormsCompleteWithTheirEffect :
    (∃ (s : State) (x : Side) (ws : List Word) (pre : List (Word × Word)) (post : List (Word × Word)) (p : Word × Word) (e : Epoch32), s.running = true ∧
      s.link.training = none ∧ s.link.loop = none ∧ s.link.wrap = none ∧ s.mayAdd x = true ∧ (s.sd x).hdrValid = true ∧
      (s.sd x).resourced = false ∧ (s.out (other x)).void = false ∧ s.blockUp 2 = true ∧ e = (s.sd x).epoch ∧
      s.planFor e = pre ++ p :: post ∧ (pre ++ post).all (fun q => !mxActive q.1) = true ∧ mxActive p.1 = true ∧
      mxOdd p.1 = decide (e.toNat % 2 = 1) ∧ s.mx.decided = [] ∧ s.mxSkip p.1 (mxStamp e) = none ∧ mxSlot p.1 < ws.length) ∧
    (∃ (s : State) (x : Side) (ws : List Word) (pre : List (Word × Word)) (post : List (Word × Word)) (p : Word × Word) (e : Epoch32), s.running = true ∧
      s.link.training = none ∧ s.link.loop = none ∧ s.link.wrap = none ∧ s.mayAdd x = true ∧ (s.sd x).hdrValid = true ∧
      (s.sd x).resourced = false ∧ (s.out (other x)).void = false ∧ s.blockUp 2 = true ∧ e = (s.sd x).epoch ∧
      s.planFor e = pre ++ p :: post ∧ (pre ++ post).all (fun q => !mxActive q.1) = true ∧ mxActive p.1 = true ∧
      mxOdd p.1 = decide (e.toNat % 2 = 1) ∧ s.mx.decided = [] ∧ s.mxSkip p.1 (mxStamp e) = none ∧ mxSlot p.1 < ws.length) ∧
    (∃ (s : State) (x : Side) (ws : List Word) (w : Nat) (ev : Event) (rest : List Event), s.running = true ∧
      s.link.training = none ∧ s.link.loop = none ∧ s.link.wrap = none ∧ s.mayAdd x = true ∧ (s.sd x).hdrValid = true ∧
      (s.sd x).resourced = false ∧ (s.out (other x)).void = false ∧ s.flag Reg.QUEUE_QUEUE_CFG 1 = false ∧ s.ident.position ≠ 0 ∧
      s.queue.events = ev :: rest ∧ ev.sent x = false ∧ w < ws.length ∧ ((∀ j, j < w → nth ws j 0 ≠ 0)) ∧ nth ws w 0 = 0 ∧
      mayTakeEvent s.clk.daylight x (s.sd x).epoch s.ident.position w = true) ∧
    (∃ (s : State) (x : Side) (ws : List Word) (w : Nat) (ev : Event) (rest : List Event), s.running = true ∧
      s.link.training = none ∧ s.link.loop = none ∧ s.link.wrap = none ∧ s.mayAdd x = true ∧ (s.sd x).hdrValid = true ∧
      (s.sd x).resourced = false ∧ (s.out (other x)).void = false ∧ s.flag Reg.QUEUE_QUEUE_CFG 1 = false ∧ s.ident.position ≠ 0 ∧
      s.queue.events = ev :: rest ∧ ev.sent x = false ∧ w < ws.length ∧ ((∀ j, j < w → nth ws j 0 ≠ 0)) ∧ nth ws w 0 = 0 ∧
      mayTakeEvent s.clk.daylight x (s.sd x).epoch s.ident.position w = true) ∧
    (∃ (s : State) (src : Src) (v : Word) (i : Nat), s.writeReady src Reg.DEV_SEED_CTL v ∧ s.dev.streams.length = 9 ∧
      bitOf (maskedWrite (s.reg Reg.DEV_SEED_CTL) v) 9 = true ∧ i < 9 ∧ bitOf (maskedWrite (s.reg Reg.DEV_SEED_CTL) v) i = true) ∧
    (∃ (s : State) (src : Src) (v : Word) (p : List Word), s.writeReady src Reg.DEV_PROF_COMMIT v ∧
      bitOf (maskedWrite (s.reg Reg.DEV_PROF_COMMIT) v) 3 = true ∧
      p = (List.range 12).map (fun i => s.reg (Reg.DEV_PROF_STAGE_0 + 4 * i)) ∧ profileBad p = none) ∧
    (∃ (s : State) (src : Src) (v : Word) (n : Nat), s.writeReady src Reg.SHEET_TPL_CTL v ∧
      bitOf (maskedWrite (s.reg Reg.SHEET_TPL_CTL) v) 9 = true ∧ n = bits (maskedWrite (s.reg Reg.SHEET_TPL_CTL) v) 7 0) ∧
    (∃ (s : State) (src : Src) (v : Word) (n : Nat), s.writeReady src Reg.SHEET_TPL_CTL v ∧
      bitOf (maskedWrite (s.reg Reg.SHEET_TPL_CTL) v) 9 = true ∧ n = bits (maskedWrite (s.reg Reg.SHEET_TPL_CTL) v) 7 0) ∧
    (∃ (s : State) (src : Src) (v : Word), s.writeReady src Reg.LATENT_LAT_CTL v) ∧
    (∃ (s : State) (src : Src) (v : Word), s.writeReady src Reg.STAGE_STEER_CTL v ∧
      bitOf (maskedWrite (s.reg Reg.STAGE_STEER_CTL) v) 0 = true ∧ ((∀ c ∈ s.carriers, 100 ≤ c ∧ c ≤ 1800)) ∧
      150 ≤ s.fld Reg.STAGE_STEER_WIN 19 10 ∧ s.fld Reg.STAGE_STEER_WIN 19 10 ≤ s.fld Reg.STAGE_STEER_WIN 9 0 ∧
      s.fld Reg.STAGE_STEER_WIN 9 0 ≤ s.fld Reg.STAGE_STEER_WIN 29 20 ∧ s.fld Reg.STAGE_STEER_WIN 29 20 ≤ 1000) ∧
    (∃ (c : Instr) (s : State) (src : Src) (v : Word), mailboxRow c = some (src, v) ∧ s.between ∧ s.reaches src = true ∧
      s.noPair ∧ s.pageOff Reg.LOUPE_MBX_CMD = false ∧ bits v 31 16 ≠ 0 ∧
      bitOf (maskedWrite (s.reg Reg.LOUPE_MBX_CMD) v) 8 = true ∧
      mailboxFits c (bits (maskedWrite (s.reg Reg.LOUPE_MBX_CMD) v) 7 0) = true ∧ s.loupe.mbx = none ∧ s.loupe.halted = false) ∧
    (∃ (c : Instr) (s : State) (src : Src) (v : Word), mailboxRow c = some (src, v) ∧ s.between ∧ s.reaches src = true ∧
      s.noPair ∧ s.pageOff Reg.LOUPE_MBX_CMD = false ∧ bits v 31 16 ≠ 0 ∧
      bitOf (maskedWrite (s.reg Reg.LOUPE_MBX_CMD) v) 8 = true ∧
      mailboxFits c (bits (maskedWrite (s.reg Reg.LOUPE_MBX_CMD) v) 7 0) = true ∧ s.loupe.mbx = none ∧ s.loupe.halted = false) ∧
    (∃ (s : State) (b : Epoch) (j : Epoch) (f : Epoch) (w : Bool) (due : Epoch) (rseq : Nat), s.acting = true ∧
      s.latent.rate = some (b, j, f)) ∧
    (∃ (s : State) (b : Epoch) (j : Epoch) (f : Epoch) (w : Bool) (due : Epoch) (rseq : Nat), s.acting = true ∧
      s.latent.rate = some (b, j, f)) :=
  ⟨⟨(({ day with clk := { day.clk with epoch := 0x12346 }, sideA := { day.sideA with epoch := 0x12346 }, sideB := { day.sideB with epoch := 0x12346 }, mx := { plan := [(0, 0), (0x80000001, 0x7FFF), (0x00000101, 0)] } } : State).setTank 0x9821 0x12345601), .a, [5, 64, 128], [(0, 0)], [(0x00000101, 0)], (0x80000001, 0x7FFF), 0x12346,
      by decide⟩,
   ⟨(({ day with clk := { day.clk with epoch := 0x12346 }, sideA := { day.sideA with epoch := 0x12346 }, sideB := { day.sideB with epoch := 0x12346 }, mx := { plan := [(0, 0), (0x80000001, 0x7FFF), (0x00000101, 0)] } } : State).setTank 0x9821 0x12345601), .b, [5, 64, 128], [(0, 0)], [(0x00000101, 0)], (0x80000001, 0x7FFF), 0x12346,
      by decide⟩,
   ⟨{ dark with sideA := { dark.sideA with epoch := 0 }, queue := { events := [⟨1, 2, 3, false, false, 0⟩, ⟨2, 2, 3, false, true, 1⟩] } }, .a, [5, 0, 0, 7], 1, ⟨1, 2, 3, false, false, 0⟩, [⟨2, 2, 3, false, true, 1⟩],
      by decide⟩,
   ⟨{ dark with sideB := { dark.sideB with epoch := 12 }, queue := { events := [⟨1, 2, 3, true, false, 0⟩, ⟨2, 2, 3, false, true, 1⟩] } }, .b, [0, 0, 0, 7], 0, ⟨1, 2, 3, true, false, 0⟩, [⟨2, 2, 3, false, true, 1⟩],
      by decide⟩,
   ⟨day, .host, 0x03FF0305, 0, by unfold State.writeReady State.between State.noPair; decide⟩,
   ⟨((dark.setReg Reg.DEV_PROF_STAGE_0 0x03000200).setReg (Reg.DEV_PROF_STAGE_0 + 4) 0x00010000).setReg (Reg.DEV_PROF_STAGE_0 + 16) 0x80FFF001, .host, 0x000F000A, (List.range 12).map (fun i => (((dark.setReg Reg.DEV_PROF_STAGE_0 0x03000200).setReg (Reg.DEV_PROF_STAGE_0 + 4) 0x00010000).setReg (Reg.DEV_PROF_STAGE_0 + 16) 0x80FFF001).reg (Reg.DEV_PROF_STAGE_0 + 4 * i)),
      by unfold State.writeReady State.between State.noPair; decide⟩,
   ⟨(day.setTank (0x20000 + 5 * 1024) 0x10000040), .host, 0x03FF0305, 5,
      by unfold State.writeReady State.between State.noPair; decide⟩,
   ⟨day, .host, 0x03FF0205, 5, by unfold State.writeReady State.between State.noPair; decide⟩,
   ⟨({ day with latent := { w := { frozen := true }, d := { frozen := true } } } : State).setReg Reg.LATENT_LAT_CTL 1, .host, 0x000F000F,
      by unfold State.writeReady State.between State.noPair; decide⟩,
   ⟨day, .host, 0x00010001, by unfold State.writeReady State.between State.noPair; decide⟩,
   ⟨.echo .host 0x01FF0100, day, .host, 0x01FF0100, by unfold State.between State.noPair; decide⟩,
   ⟨.snapshot .host 0x01FF0101, day, .host, 0x01FF0101, by unfold State.between State.noPair; decide⟩,
   ⟨{ day with latent := { preFill := true, preJoin := true, rate := some (5, 6, 9), w := { pend := some (7, 3), prev := some 7 } } }, 5, 6, 9, true, 7, 3,
      by decide⟩,
   ⟨{ day with latent := { d := { pend := some (7, 3) }, rate := some (5, 6, 9) } }, 5, 6, 9, false, 7, 3, by decide⟩⟩

end Sys2Proof.Machine
end

section
/-! PROOFS. Register values out of range and Loupe writes too narrow (R256, R262, R367): what a write of one register through the port
does where no pair is armed, what the end of its cycle adds, and the two statements of the register rules drawn from them. -/

namespace Sys2Proof.Machine

/-! ### The end of a cycle -/

/-- A state that stands between two commands is as the end of a cycle leaves it. -/
theorem State.endCycle_of_between {s : State} (h : s.between) : s.endCycle = s := by
  obtain ⟨hraised, hbumped, hcaused, hstruck, hfreed, hfresh⟩ := h
  exact s.endCycle_calm hraised hbumped hcaused hstruck hfreed hfresh

/-- Storing an answer leaves nothing over for the end of the cycle. -/
theorem State.endCycle_answer {s : State} (h : s.between) (status : Nat) (data : List Word) :
    (s.answer status data).endCycle = s.answer status data := State.endCycle_of_between h

/-- A cycle that began on `s` and raised one entry, for which the staging queue has room: the entry joins the queue (R692). -/
theorem State.endCycle_raise {s u : State} (source code : Nat) (lo hi : Word) (h : s.roomFor 1) (hfixer : u.fixer = s.fixer) :
    (u.raise source code lo hi).endCycle = { u with
      bumped := s.bumped, caused := s.caused,
      fixer := { s.fixer with staged := s.fixer.staged ++ [u.entry source code lo hi] } } := by
  obtain ⟨⟨hraised, hbumped, hcaused, hstruck, hfreed, hfresh⟩, hroom⟩ := h
  have hone : (u.raise source code lo hi).fixer.raised = [u.entry source code lo hi] := by
    rw [State.raised_raise, hfixer, hraised]
    rfl
  have hfits : (u.raise source code lo hi).fixer.staged.length + (u.raise source code lo hi).fixer.raised.length ≤ 63 := by
    rw [State.staged_raise, hone, hfixer]
    exact hroom
  rw [State.endCycle_fits _ hfits, hone]
  simp [State.raise, State.raiseAt, Log.sort, Log.insert, hfixer, hraised, hbumped, hcaused, hstruck, hfreed, hfresh]

/-! ### What a register's write keeps -/

theorem KeepsRegs.refl (s : State) (l : List Nat) : KeepsRegs s s l := fun _ _ => rfl

theorem State.keepsRegs_setReg (s : State) (a : Nat) (v : Word) : KeepsRegs s (s.setReg a v) [a] :=
  fun _ hb => s.reg_setReg_other v (List.ne_of_not_mem_cons hb)

theorem State.keepsRegs_setFlag (s : State) (a i : Nat) : KeepsRegs s (s.setFlag a i) [a] :=
  fun _ hb => s.reg_setFlag_other i (List.ne_of_not_mem_cons hb)

/-- The log entry of a cause is the same after a flag has set, where the flag is not in the register that makes an entry an event (R456). -/
theorem State.entry_setFlag (s : State) {a : Nat} (i source code : Nat) (lo hi : Word) (h : Reg.DEV_WAKE_CFG ≠ a) :
    (s.setFlag a i).entry source code lo hi = s.entry source code lo hi := by
  have hreg : (s.setFlag a i).reg Reg.DEV_WAKE_CFG = s.reg Reg.DEV_WAKE_CFG := s.reg_setFlag_other i h
  simp [State.entry, Log.isEvent, State.flag, hreg]

/-! ### One write through the port -/

/-- Where neither source holds a pair, an access breaks none (R240, R241). -/
theorem State.touch_of_noPair {s : State} (h : s.noPair) (src : Src) (a : Nat) (write burst : Bool) : s.touch src a write burst = s := by
  obtain ⟨hhost, hloupe⟩ := h
  cases src <;> simp [State.touch, State.armed, otherSrc, hhost, hloupe]

/-- A write that reaches the port is answered with the status of its outcome. -/
theorem State.accessWrite_reaching {s : State} {src : Src} {a : Nat} (v : Word) (hreach : s.reaches src = true)
    (hwindow : src = .loupe → ofWindow a = false) :
    s.accessWrite src a v = (s.portWrite src a v false).1.answer (s.portWrite src a v false).2 [] := by
  have hseen : ¬ (src = .loupe ∧ ofWindow a = true) := fun ⟨hsrc, hof⟩ => by simp [hwindow hsrc] at hof
  simp [State.accessWrite, hreach, hseen]

theorem State.portWrite_masked {s : State} {src : Src} {a : Nat} (v : Word) (burst : Bool) (hpair : s.noPair) (hpower : s.pageOff a = false)
    (hkind : Reg.kindOf a = some .m) : s.portWrite src a v burst = s.writeM src a v := by
  simp [State.portWrite, State.touch_of_noPair hpair, hpower, hkind]

theorem State.portWrite_plain {s : State} {src : Src} {a : Nat} (v : Word) (burst : Bool) (hpair : s.noPair) (hpower : s.pageOff a = false)
    (hkind : Reg.kindOf a = some .f) : s.portWrite src a v burst = s.writeF a v := by
  simp [State.portWrite, State.touch_of_noPair hpair, hpower, hkind]

/-- Page 0 is powered in every mode (R515). -/
theorem State.ixAddr_powered (s : State) : s.pageOff Reg.CHIP_IX_ADDR = false := Bool.and_false _

/-- A write of IX_ADDR is refused by its SPACE or by its reserved bits, and stored otherwise (R256). -/
theorem State.writeF_ixAddr (s : State) (v : Word) :
    s.writeF Reg.CHIP_IX_ADDR v =
      if 4 < bits v 31 28 ∨ bits v 27 24 ≠ 0 then (s, Status.access)
      else ((s.setReg Reg.CHIP_IX_ADDR v).noteIx false, Status.ok) := by
  have hverify : ¬ Reg.STAGE_VERIFY_EXP_0 ≤ Reg.CHIP_IX_ADDR := by decide
  simp [State.writeF, State.plainRefused, hverify]

/-- The values of SCALE that a write may leave (R367). -/
abbrev ScaleInRange (new : Word) : Prop := 0x6000 ≤ bits new 15 0 ∧ bits new 15 0 ≤ 0xA000

/-- A write of SCALE is refused exactly where the masked value is out of range (R367). -/
theorem State.maskedRefused_scale (s : State) (v new : Word) :
    s.maskedRefused Reg.APER_SCALE v new = !decide (ScaleInRange (maskedWrite (s.reg Reg.APER_SCALE) v)) := by
  simp [State.maskedRefused, State.scaleRefused, ScaleInRange]

/-- A write of SCALE is stored where the masked value lies from 0x6000 to 0xA000, and refused otherwise (R367). -/
theorem State.writeM_scale (s : State) (src : Src) {v : Word} (hmask : bits v 31 16 ≠ 0) :
    s.writeM src Reg.APER_SCALE v =
      if ScaleInRange (maskedWrite (s.reg Reg.APER_SCALE) v) then
        (s.setReg Reg.APER_SCALE (maskedWrite (s.reg Reg.APER_SCALE) v), Status.ok)
      else (s, Status.access) := by
  have hpage : Reg.pageOf Reg.APER_SCALE = 6 := by decide
  have hkept : ∀ w : Word, w &&& ~~~selfClear Reg.APER_SCALE = w := fun _ => BitVec.and_allOnes
  by_cases hrange : ScaleInRange (maskedWrite (s.reg Reg.APER_SCALE) v)
  · rw [if_pos hrange]
    simp [State.writeM, State.maskedRefused_scale, State.arrayEffect, hmask, hrange, hpage, hkept]
  · rw [if_neg hrange]
    simp [State.writeM, State.maskedRefused_scale, hmask, hrange]

/-! ### The three commands -/

/-- The host's IX_ADDR_WRITE between two commands: a value out of range is answered with ACCESS, any other is stored (R256). -/
theorem exec_ixAddrWrite_host {s : State} (v : Word) (hbetween : s.between) (hreach : s.reaches .host = true) (hpair : s.noPair) :
    exec (.ixAddrWrite .host v) s = .next
      (if 4 < bits v 31 28 ∨ bits v 27 24 ≠ 0 then s.answer Status.access []
       else ((s.setReg Reg.CHIP_IX_ADDR v).noteIx false).answer Status.ok []) := by
  change Host.Outcome.next (s.accessWrite .host Reg.CHIP_IX_ADDR v).endCycle = _
  rw [State.accessWrite_reaching v hreach (by simp), State.portWrite_plain v false hpair s.ixAddr_powered rfl, State.writeF_ixAddr]
  split
  · rw [State.endCycle_answer hbetween]
  · rw [State.endCycle_answer (s := (s.setReg Reg.CHIP_IX_ADDR v).noteIx false) hbetween]

/-- SCALE_WRITE between two commands: a scale in range is stored, any other is answered with ACCESS (R367). -/
theorem exec_scaleWrite {s : State} {src : Src} {v : Word} (hbetween : s.between) (hreach : s.reaches src = true) (hpair : s.noPair)
    (hmask : bits v 31 16 ≠ 0) (hpower : s.pageOff Reg.APER_SCALE = false) :
    exec (.scaleWrite src v) s = .next
      (if ScaleInRange (maskedWrite (s.reg Reg.APER_SCALE) v) then
        (s.setReg Reg.APER_SCALE (maskedWrite (s.reg Reg.APER_SCALE) v)).answer Status.ok []
       else s.answer Status.access []) := by
  have hcommand : s.commandWrite src Reg.APER_SCALE (fun _ _ => true) v = s.accessWrite src Reg.APER_SCALE v := by
    simp [State.commandWrite, hmask]
  change Host.Outcome.next (s.commandWrite src Reg.APER_SCALE (fun _ _ => true) v).endCycle = _
  rw [hcommand, State.accessWrite_reaching v hreach (fun _ => rfl), State.portWrite_masked v false hpair hpower rfl,
    State.writeM_scale s src hmask]
  split
  · rw [State.endCycle_answer (s := s.setReg Reg.APER_SCALE _) hbetween]
  · rw [State.endCycle_answer hbetween]

/-- LOUPE_NARROW_WRITE between two commands sets ACCESS_SIZE, stages its log entry and is answered, whatever it was to write (R262). -/
theorem exec_loupeNarrowWrite {s : State} {addr width : Nat} (v : Word) (hroom : s.roomFor 1) (hreach : s.reaches .loupe = true)
    (hwidth : width = 1 ∨ width = 2) (haligned : addr % width = 0) :
    exec (.loupeNarrowWrite addr width v) s = .next { (s.setFlag Reg.CHIP_REG_STATUS 2).answer Status.ok [] with
      bumped := s.bumped, caused := s.caused,
      fixer := { s.fixer with
        staged := s.fixer.staged ++ [s.entry Log.REG 3 (ofBytes (addr % 256) (addr / 256 % 256) width 0) 0] } } := by
  have hnarrow : s.narrowWrite addr width = ((s.setFlag Reg.CHIP_REG_STATUS 2).answer Status.ok []).raise Log.REG 3
      (ofBytes (addr % 256) (addr / 256 % 256) width 0) := by
    rw [State.narrowWrite, if_pos (by simp [hreach, hwidth, haligned])]
    rfl
  have hfixer : ((s.setFlag Reg.CHIP_REG_STATUS 2).answer Status.ok []).fixer = s.fixer := s.setFlag_fixer _ _
  change Host.Outcome.next (s.narrowWrite addr width).endCycle = _
  rw [hnarrow, State.endCycle_raise _ _ _ _ hroom hfixer, ← s.entry_setFlag (a := Reg.CHIP_REG_STATUS) 2 _ _ _ _ (by decide)]
  rfl

/-! ### The statements -/

/-- Settles O28: both writes come down to a comparison of the value with its range; a refused one leaves the state but for its answer. -/
theorem valuesOutOfRangeHaveNoEffect : Obligations.ValuesOutOfRangeHaveNoEffect := by
  unfold Obligations.ValuesOutOfRangeHaveNoEffect
  constructor
  · intro s v hbetween hreach hpair
    refine ⟨_, exec_ixAddrWrite_host v hbetween hreach hpair, ?_⟩
    by_cases hbad : 4 < bits v 31 28 ∨ bits v 27 24 ≠ 0
    · simp only [if_pos hbad]
      exact ⟨rfl, KeepsRegs.refl s _, rfl, rfl⟩
    · simp only [if_neg hbad]
      exact ⟨rfl, s.keepsRegs_setReg _ v, s.reg_setReg_same _ v, rfl⟩
  · intro s src v hbetween hreach hpair hmask hpower
    refine ⟨_, exec_scaleWrite hbetween hreach hpair hmask hpower, ?_⟩
    by_cases hgood : ScaleInRange (maskedWrite (s.reg Reg.APER_SCALE) v)
    · simp only [if_pos hgood]
      exact ⟨s.keepsRegs_setReg _ _, rfl, s.reg_setReg_same _ _, rfl⟩
    · simp only [if_neg hgood]
      exact ⟨KeepsRegs.refl s _, rfl, rfl, rfl⟩

/-- Settles O29: the write comes down to the setting of ACCESS_SIZE and one log entry, for which the staging queue has room. -/
theorem narrowLoupeWritesAreDiscarded : Obligations.NarrowLoupeWritesAreDiscarded := by
  unfold Obligations.NarrowLoupeWritesAreDiscarded
  intro s addr width v hroom hreach hwidth haligned
  refine ⟨_, exec_loupeNarrowWrite v hroom hreach hwidth haligned,
    s.flag_setFlag_same Reg.CHIP_REG_STATUS 2 (by decide), s.keepsRegs_setFlag Reg.CHIP_REG_STATUS 2, rfl, ?_, rfl⟩
  simp

end Sys2Proof.Machine
end

section
/-! PROOFS. The cancel of a plan switch (R415): what a masked command write that reaches its register does, its case for SWITCH_CTL with CANCEL
set, and the statement drawn from it. -/

namespace Sys2Proof.Machine

/-! ### A command that is a masked write -/

/-- A masked write that is ready and that its row's condition fits is stored, and the cycle ends with its answer, where its effect leaves
nothing over for the end of the cycle (R233). -/
theorem State.endCycle_commandWrite {s : State} {src : Src} {a : Nat} {v : Word} {fits : Word → Word → Bool} (hready : s.writeReady src a v)
    (hkind : Reg.kindOf a = some .m) (hwindow : src = .loupe → ofWindow a = false)
    (hfits : fits (s.reg a) (maskedWrite (s.reg a) v) = true) (hleft : (s.writeM src a v).1.between) :
    (s.commandWrite src a fits v).endCycle = (s.writeM src a v).1.answer (s.writeM src a v).2 [] := by
  obtain ⟨-, hreach, hpair, hmask, hpower, -⟩ := hready
  have hcommand : s.commandWrite src a fits v = s.accessWrite src a v := by
    simp [State.commandWrite, hmask, hfits]
  rw [hcommand, State.accessWrite_reaching v hreach hwindow, State.portWrite_masked v false hpair hpower hkind]
  exact State.endCycle_answer hleft _ _

/-! ### SWITCH_CTL with CANCEL -/

/-- ARM and CANCEL clear themselves as SWITCH_CTL is stored (R253, R415). -/
theorem switchCtl_stored_clear (w : Word) {i : Nat} (hi : i < 2) : bitOf (w &&& ~~~selfClear Reg.MX_SWITCH_CTL) i = false := by
  have hclear : selfClear Reg.MX_SWITCH_CTL = 0x3#32 := rfl
  rw [hclear, bitOf, BitVec.getLsbD_and]
  obtain rfl | rfl : i = 0 ∨ i = 1 := by omega
  · exact Bool.and_false _
  · exact Bool.and_false _

/-- A masked write of SWITCH_CTL that leaves CANCEL set disarms the switch, whatever it leaves of ARM (R415). -/
theorem State.writeM_switchCtl_cancel (s : State) (src : Src) {v : Word} (hmask : bits v 31 16 ≠ 0)
    (hcancel : bitOf (maskedWrite (s.reg Reg.MX_SWITCH_CTL) v) 1 = true) :
    s.writeM src Reg.MX_SWITCH_CTL v =
      ((s.setReg Reg.MX_SWITCH_CTL (maskedWrite (s.reg Reg.MX_SWITCH_CTL) v &&& ~~~selfClear Reg.MX_SWITCH_CTL)).mxCancel, Status.ok) := by
  have hpage : Reg.pageOf Reg.MX_SWITCH_CTL = 7 := by decide
  have hmay : ∀ new, s.maskedRefused Reg.MX_SWITCH_CTL v new = false := fun _ => rfl
  have heffect : ∀ t : State, t.arrayEffect src Reg.MX_SWITCH_CTL v (maskedWrite (s.reg Reg.MX_SWITCH_CTL) v) = t.mxCancel := fun t => by
    simp [State.arrayEffect, hcancel]
  simp [State.writeM, hmask, hmay, hpage, heffect]

/-- SWITCH_CANCEL between two commands stores SWITCH_CTL without its command bits, disarms the switch and is answered (R415). -/
theorem exec_switchCancel {s : State} {src : Src} {v : Word} (hready : s.writeReady src Reg.MX_SWITCH_CTL v)
    (hcancel : bitOf (maskedWrite (s.reg Reg.MX_SWITCH_CTL) v) 1 = true) :
    exec (.switchCancel src v) s = .next
      ((s.setReg Reg.MX_SWITCH_CTL
        (maskedWrite (s.reg Reg.MX_SWITCH_CTL) v &&& ~~~selfClear Reg.MX_SWITCH_CTL)).mxCancel.answer Status.ok []) := by
  obtain ⟨hbetween, -, -, hmask, -⟩ := id hready
  have hwrite := s.writeM_switchCtl_cancel src hmask hcancel
  have hleft : (s.writeM src Reg.MX_SWITCH_CTL v).1.between := by
    rw [hwrite]
    exact hbetween
  change Host.Outcome.next (s.commandWrite src Reg.MX_SWITCH_CTL (fun _ new => bitOf new 1) v).endCycle = _
  rw [State.endCycle_commandWrite hready rfl (fun _ => rfl) hcancel hleft, hwrite]

/-- Settles O31: the write comes down to the storing of SWITCH_CTL and the disarming, and the stored value has neither command bit. -/
theorem cancelDisarmsThePlanSwitch : Obligations.CancelDisarmsThePlanSwitch := by
  unfold Obligations.CancelDisarmsThePlanSwitch
  intro s src v hready hcancel
  have hstored : ∀ {i}, i < 2 → bitOf ((s.setReg Reg.MX_SWITCH_CTL
      (maskedWrite (s.reg Reg.MX_SWITCH_CTL) v &&& ~~~selfClear Reg.MX_SWITCH_CTL)).reg Reg.MX_SWITCH_CTL) i = false := fun hi => by
    rw [State.reg_setReg_same]
    exact switchCtl_stored_clear _ hi
  exact ⟨_, exec_switchCancel hready hcancel, rfl, rfl, hstored (by decide), hstored (by decide), rfl, s.keepsRegs_setReg _ _⟩

end Sys2Proof.Machine
end

section
/-! PROOFS. The protected carriers (R599): what the clearance test of a frequency decides, which carriers the CARRIER words enable, and the
statement drawn from both. -/

namespace Sys2Proof.Machine

/-! ### The clearance of a frequency -/

/-- The two comparisons of the clearance test are one bound on the distance between a harmonic and a carrier (R599). -/
theorem ten_le_sub_or_ten_le_sub_iff (a b : Int) : (10 ≤ a - b ∨ 10 ≤ b - a) ↔ 10 ≤ (a - b).natAbs := by
  omega

/-- A frequency clears harmonics where each harmonic of it keeps the distance of R599 from each carrier. -/
theorem clears_iff (carriers hs : List Nat) (f : Nat) :
    clears carriers hs f = true ↔ ∀ h, h ∈ hs → ∀ c, c ∈ carriers → 10 ≤ ((h * f : Nat) - (c : Nat) : Int).natAbs := by
  simp only [clears, List.all_eq_true, Bool.or_eq_true, decide_eq_true_eq, ten_le_sub_or_ten_le_sub_iff]

/-! ### The enabled carriers -/

/-- An enabled carrier is the upper or the lower field of one of the eight CARRIER words, with that field's enable bit 1 (R599). -/
theorem State.mem_carriers (s : State) (c : Nat) : c ∈ s.carriers ↔ ∃ i, i < 8 ∧
    ((s.flag (Reg.STAGE_CARRIER_0 + 4 * i) 31 = true ∧ c = s.fld (Reg.STAGE_CARRIER_0 + 4 * i) 26 16) ∨
     (s.flag (Reg.STAGE_CARRIER_0 + 4 * i) 15 = true ∧ c = s.fld (Reg.STAGE_CARRIER_0 + 4 * i) 10 0)) := by
  simp only [State.carriers, State.flag, State.fld, List.mem_flatMap, List.mem_range, List.mem_append, List.mem_ite_nil_right,
    List.mem_singleton]

/-- Settles O55: the test's two comparisons are one distance, and each CARRIER word gives the fields it enables. -/
theorem clearanceIsTenKilohertz : Obligations.ClearanceIsTenKilohertz := by
  unfold Obligations.ClearanceIsTenKilohertz
  exact ⟨clears_iff, State.mem_carriers⟩

end Sys2Proof.Machine
end

section
/-! PROOFS. What HOLD and a loss of power drop (R534, R691, R694): what a memory that loses some of its bytes reads, which registers stand
over HOLD, that the end of the cycle finds nothing left over, and the statement drawn from them. -/

namespace Sys2Proof.Machine

/-! ### What stands -/

/-- A kept byte reads as before, every other one blank (R518, R534). -/
theorem Mem.read_keep (m : List Host.Cell) (p : Nat → Bool) (a : Nat) :
    Mem.read (Mem.keep m p) a = if p a then Mem.read m a else Mem.blank := by
  induction m with
  | nil => exact (ite_self _).symm
  | cons c t ih =>
    have hcons : Mem.keep (c :: t) p = if p c.1 then c :: Mem.keep t p else Mem.keep t p := List.filter_cons
    rw [hcons, Mem.read]
    by_cases hc : c.1 = a
    · subst hc
      cases hp : p c.1 <;> simp [Mem.read, hp, ih]
    · cases p c.1 <;> simp [Mem.read, hc, ih]

/-- A table filled from `f` over a list of keys holds `f` at those keys and nothing elsewhere. -/
theorem assocGet_map_keys {α : Type} (f : Nat → α) (keys : List Nat) (a : Nat) :
    assocGet (keys.map (fun k => (k, f k))) a = if a ∈ keys then some (f a) else none := by
  induction keys with
  | nil => rfl
  | cons k t ih =>
    rw [List.map_cons, assocGet, ih]
    by_cases hk : k = a
    · simp [hk]
    · simp [hk, Ne.symm hk]

/-- A reset by HOLD leaves the log's counters, LATCH and the carriers, and returns every other register to its reset value
(R534, R612, R691). -/
theorem State.reg_resetAll (s : State) (power : Power) (cause a : Nat) :
    (s.resetAll power cause).reg a = if a ∈ heldRegs then s.reg a else Reg.resetOf a := by
  have hregs : assocGet (s.resetAll power cause).regs a = _ := assocGet_map_keys s.reg heldRegs a
  rw [State.reg, hregs]
  split_ifs <;> rfl

/-- A reset by HOLD keeps the bytes of segments 0 to 4 (R516, R534). -/
theorem State.read_resetAll (s : State) (power : Power) (cause a : Nat) :
    Mem.read (s.resetAll power cause).mem a = if a < 5 * 0x20000 then Mem.read s.mem a else Mem.blank := by
  simp only [State.resetAll, Mem.read_keep, decide_eq_true_eq]

/-! ### The two commands -/

/-- HOLD rising on a powered unit resets it, and the end of the cycle finds nothing left over (R533, R694). -/
theorem exec_holdRise {s : State} (hup : s.clk.power = .up) : exec .holdRise s = .next
    (State.resetAll { s with mode := { s.mode with holdPin := true } } .hold 1) := by
  change Host.Outcome.next s.holdRise.endCycle = _
  rw [State.holdRise, if_pos hup]
  exact congrArg _ (State.endCycle_calm _ rfl rfl rfl rfl rfl rfl)

/-- Power lost puts every block at rest, and the end of the cycle finds nothing left over (R134, R694). -/
theorem exec_powerLoss (s : State) : exec .powerLoss s = .next s.powerLoss := by
  change Host.Outcome.next s.powerLoss.endCycle = _
  exact congrArg _ (State.endCycle_calm _ rfl rfl rfl rfl rfl rfl)

/-- Settles O9: either reset empties the Fixer's queue with the cycle's entries, so none of them is staged or written; HOLD keeps the count
of the log and the segment that its ring lies in. -/
theorem holdAndPowerLossDropStagedEntries : Obligations.HoldAndPowerLossDropStagedEntries := by
  unfold Obligations.HoldAndPowerLossDropStagedEntries
  constructor
  · intro s hup
    refine ⟨_, exec_holdRise hup, rfl, ?_, fun a _ hlog => ?_⟩
    · rw [State.reg_resetAll, if_pos (by decide)]
      rfl
    · have hkept : a < 5 * 0x20000 := hlog.trans_le (by decide)
      rw [State.read_resetAll, if_pos hkept]
  · intro s
    exact ⟨_, exec_powerLoss s, rfl, rfl⟩

end Sys2Proof.Machine
end

section
/-! PROOFS. The block as a whole: what each command does at most, arm by arm of `exec` (R184, R193, R699), and the statements on every
command and on every step that follow from it. -/

namespace Sys2Proof.Machine

/-! ### From what a command's law says to the tables of the statements -/

/-- Command `c` answers a next state on `s`, within the parts and registers that the tables give it, keeps what no command breaks and leaves
nothing over for the next cycle. -/
def DoesItsOwn (c : Instr) (s : State) : Prop :=
  ∃ t, exec c s = .next t ∧ Confined s (touchedParts c) (mayWrite c) t ∧ KeptBy s t ∧ t.between

section
variable {c : Instr} {s : State} {ps : List Part} {rs : List Nat} {P : Nat → Prop}

theorem subset_touchedParts (h : ps.all (touchedParts c).contains = true) : ps ⊆ touchedParts c := fun p hp => by
  simpa using List.all_eq_true.mp h p hp

theorem mayWrite_of_all (h : (touchedRegs c).all (fun l => rs.all l.contains) = true) (a : Nat) (ha : a ∈ rs) : mayWrite c a := fun l hl => by
  rw [hl] at h
  simpa using List.all_eq_true.mp h a ha

/-- A law that lists registers gives the tables', where they list the same or more. -/
theorem doesItsOwn_of_listed (h : ∃ t, exec c s = .next t ∧ Confined s ps (· ∈ rs) t ∧ KeptBy s t ∧ t.between)
    (hp : ps.all (touchedParts c).contains = true) (hr : (touchedRegs c).all (fun l => rs.all l.contains) = true) : DoesItsOwn c s := by
  obtain ⟨t, hexec, hconf, hrest⟩ := h
  exact ⟨t, hexec, conf_mono hconf (subset_touchedParts hp) (mayWrite_of_all hr), hrest⟩

/-- A law that lists no register gives the tables' for a command that can write every one. -/
theorem doesItsOwn_of_any (h : ∃ t, exec c s = .next t ∧ Confined s ps P t ∧ KeptBy s t ∧ t.between)
    (hp : ps.all (touchedParts c).contains = true) (hr : touchedRegs c = none) : DoesItsOwn c s := by
  obtain ⟨t, hexec, hconf, hrest⟩ := h
  exact ⟨t, hexec, conf_mono hconf (subset_touchedParts hp) (fun _ _ l hl => by simp [hr] at hl), hrest⟩

/-- A command through the port: one law says what it keeps, another, narrower one what it can change. -/
theorem doesItsOwn_of_within {qs : List Part} (h : ∃ t, exec c s = .next t ∧ Confined s qs P t ∧ KeptBy s t ∧ t.between)
    (hw : ∃ t, exec c s = .next t ∧ Confined s ps (· ∈ rs) t)
    (hp : ps.all (touchedParts c).contains = true) (hr : (touchedRegs c).all (fun l => rs.all l.contains) = true) : DoesItsOwn c s := by
  obtain ⟨t, hexec, -, hrest⟩ := h
  obtain ⟨u, hexec', hconf⟩ := hw
  obtain rfl : t = u := Host.Outcome.next.inj (hexec.symm.trans hexec')
  exact doesItsOwn_of_listed ⟨t, hexec, hconf, hrest⟩ hp hr

end

/-- A STATUS_CLEAR writes the register that it names (R237). -/
theorem doesItsOwn_statusClear (src : Src) (addr : Nat) (v : Word) (s : State) : DoesItsOwn (.statusClear src addr v) s := by
  obtain ⟨t, hexec, -, hrest⟩ := execStatusClear_does src addr v s
  obtain ⟨u, hexec', hconf⟩ := execStatusClear_within src addr v s
  obtain rfl : t = u := Host.Outcome.next.inj (hexec.symm.trans hexec')
  refine ⟨t, hexec, conf_mono hconf (subset_touchedParts rfl) (fun a ha l hl => ?_), hrest⟩
  cases hl
  simp only [List.mem_cons, List.mem_append, List.not_mem_nil, or_false] at ha ⊢
  tauto

/-- A REGISTER_WRITE changes the free values only with a step of the hardware beside it (R253). -/
theorem doesItsOwn_registerWrite (src : Src) (addr : Nat) (i : WriteIn) (s : State) : DoesItsOwn (.registerWrite src addr i) s := by
  obtain ⟨t, hexec, hconf, hrest⟩ := execRegisterWrite_does src addr i s
  refine ⟨t, hexec, conf_mono hconf ?_ (fun _ _ l hl => by cases hl), hrest⟩
  cases hnone : i.beside.isNone <;> simp [touchedParts, ownParts, hnone]

/-- What every command does at most, arm by arm of `exec`. -/
theorem exec_doesItsOwn (c : Instr) (s : State) : DoesItsOwn c s :=
  match c with
  | .porRelease => doesItsOwn_of_listed (execPorRelease_does s) rfl rfl
  | .powerLoss => doesItsOwn_of_any (execPowerLoss_does s) rfl rfl
  | .strapReadDone addr role biasv fore => doesItsOwn_of_any (execStrapReadDone_does addr role biasv fore s) rfl rfl
  | .holdRise => doesItsOwn_of_any (execHoldRise_does s) rfl rfl
  | .holdFall => doesItsOwn_of_listed (execHoldFall_does s) rfl rfl
  | .clockStop => doesItsOwn_of_listed (execClockStop_does s) rfl rfl
  | .edgeLoss => doesItsOwn_of_listed (execEdgeLoss_does s) rfl rfl
  | .clockInputLost inp => doesItsOwn_of_listed (execClockInputLost_does inp s) rfl rfl
  | .clockInputReturn side => doesItsOwn_of_listed (execClockInputReturn_does side s) rfl rfl
  | .sideDown side byClock => doesItsOwn_of_listed (execSideDown_does side byClock s) rfl rfl
  | .wrap => doesItsOwn_of_listed (execWrap_does s) rfl rfl
  | .unwrap => doesItsOwn_of_listed (execUnwrap_does s) rfl rfl
  | .delayTrack moves => doesItsOwn_of_listed (execDelayTrack_does moves s) rfl rfl
  | .tick inp => doesItsOwn_of_listed (execTick_does inp s) rfl rfl
  | .frameStart side inp => doesItsOwn_of_any (execFrameStart_does side inp s) rfl rfl
  | .headerEnd side bits skew => doesItsOwn_of_listed (execHeaderEnd_does side bits skew s) rfl rfl
  | .showCapture side slots check => doesItsOwn_of_listed (execShowCapture_does side slots check s) rfl rfl
  | .showDecision => doesItsOwn_of_listed (execShowDecision_does s) rfl rfl
  | .listenField side words check => doesItsOwn_of_listed (execListenField_does side words check s) rfl rfl
  | .registerField side words check => doesItsOwn_of_listed (execRegisterField_does side words check s) rfl rfl
  | .eventField side words check => doesItsOwn_of_listed (execEventField_does side words check s) rfl rfl
  | .read who => doesItsOwn_of_any (execRead_does who s) rfl rfl
  | .write n => doesItsOwn_of_any (execWrite_does n s) rfl rfl
  | .writeP n => doesItsOwn_of_any (execWriteP_does n s) rfl rfl
  | .burstRead n => doesItsOwn_of_any (execBurstRead_does n s) rfl rfl
  | .burstWrite n => doesItsOwn_of_any (execBurstWrite_does n s) rfl rfl
  | .burstWriteP n => doesItsOwn_of_any (execBurstWriteP_does n s) rfl rfl
  | .abort => doesItsOwn_of_listed (execAbort_does s) rfl rfl
  | .registerWrite src addr inp => doesItsOwn_registerWrite src addr inp s
  | .statusClear src addr v => doesItsOwn_statusClear src addr v s
  | .guardArm src addr v => doesItsOwn_of_within (execGuardArm_does src addr v s) (execGuardArm_within src addr v s) rfl rfl
  | .ixAddrWrite src v => doesItsOwn_of_within (execIxAddrWrite_does src v s) (execIxAddrWrite_within src v s) rfl rfl
  | .ixDataRead src => doesItsOwn_of_within (execIxDataRead_does src s) (execIxDataRead_within src s) rfl rfl
  | .ixDataWrite src v => doesItsOwn_of_within (execIxDataWrite_does src v s) (execIxDataWrite_within src v s) rfl rfl
  | .epochLoRead src => doesItsOwn_of_within (execEpochLoRead_does src s) (execEpochLoRead_within src s) rfl rfl
  | .scoreRead src => doesItsOwn_of_within (execScoreRead_does src s) (execScoreRead_within src s) rfl rfl
  | .featRead src => doesItsOwn_of_within (execFeatRead_does src s) (execFeatRead_within src s) rfl rfl
  | .frameLenRead src => doesItsOwn_of_within (execFrameLenRead_does src s) (execFrameLenRead_within src s) rfl rfl
  | .loupeNarrowWrite addr width v => doesItsOwn_of_listed (execLoupeNarrowWrite_does addr width v s) rfl rfl
  | .loupeUnaligned addr width => doesItsOwn_of_listed (execLoupeUnaligned_does addr width s) rfl rfl
  | .epochHiSet src v => doesItsOwn_of_within (execEpochHiSet_does src v s) (execEpochHiSet_within src v s) rfl rfl
  | .addrOverride src v => doesItsOwn_of_within (execAddrOverride_does src v s) (execAddrOverride_within src v s) rfl rfl
  | .padLoop src v => doesItsOwn_of_within (execPadLoop_does src v s) (execPadLoop_within src v s) rfl rfl
  | .laneLoop src v => doesItsOwn_of_within (execLaneLoop_does src v s) (execLaneLoop_within src v s) rfl rfl
  | .frameLoop src v => doesItsOwn_of_within (execFrameLoop_does src v s) (execFrameLoop_within src v s) rfl rfl
  | .linkLoopOff src v => doesItsOwn_of_within (execLinkLoopOff_does src v s) (execLinkLoopOff_within src v s) rfl rfl
  | .analogLoop src v => doesItsOwn_of_within (execAnalogLoop_does src v s) (execAnalogLoop_within src v s) rfl rfl
  | .bitstreamLoop src v => doesItsOwn_of_within (execBitstreamLoop_does src v s) (execBitstreamLoop_within src v s) rfl rfl
  | .pdmLoop src v => doesItsOwn_of_within (execPdmLoop_does src v s) (execPdmLoop_within src v s) rfl rfl
  | .capture src v => doesItsOwn_of_within (execCapture_does src v s) (execCapture_within src v s) rfl rfl
  | .frontLoopOff src v => doesItsOwn_of_within (execFrontLoopOff_does src v s) (execFrontLoopOff_within src v s) rfl rfl
  | .modeWithdraw src v => doesItsOwn_of_within (execModeWithdraw_does src v s) (execModeWithdraw_within src v s) rfl rfl
  | .requestDaylight src v => doesItsOwn_of_within (execRequestDaylight_does src v s) (execRequestDaylight_within src v s) rfl rfl
  | .requestSafelight src v => doesItsOwn_of_within (execRequestSafelight_does src v s) (execRequestSafelight_within src v s) rfl rfl
  | .unitReset src v => doesItsOwn_of_within (execUnitReset_does src v s) (execUnitReset_within src v s) rfl rfl
  | .masterEnable src v => doesItsOwn_of_within (execMasterEnable_does src v s) (execMasterEnable_within src v s) rfl rfl
  | .masterDisable src v => doesItsOwn_of_within (execMasterDisable_does src v s) (execMasterDisable_within src v s) rfl rfl
  | .digitalLoop src v => doesItsOwn_of_within (execDigitalLoop_does src v s) (execDigitalLoop_within src v s) rfl rfl
  | .dacLoop src v => doesItsOwn_of_within (execDacLoop_does src v s) (execDacLoop_within src v s) rfl rfl
  | .stageLoop src v => doesItsOwn_of_within (execStageLoop_does src v s) (execStageLoop_within src v s) rfl rfl
  | .wipe src v => doesItsOwn_of_within (execWipe_does src v s) (execWipe_within src v s) rfl rfl
  | .patchActivate src v => doesItsOwn_of_within (execPatchActivate_does src v s) (execPatchActivate_within src v s) rfl rfl
  | .patchDeactivate src v => doesItsOwn_of_within (execPatchDeactivate_does src v s) (execPatchDeactivate_within src v s) rfl rfl
  | .loupeRestart src v => doesItsOwn_of_within (execLoupeRestart_does src v s) (execLoupeRestart_within src v s) rfl rfl
  | .lifecycleRequest src v => doesItsOwn_of_within (execLifecycleRequest_does src v s) (execLifecycleRequest_within src v s) rfl rfl
  | .testWrite src v => doesItsOwn_of_within (execTestWrite_does src v s) (execTestWrite_within src v s) rfl rfl
  | .swapRequest src v => doesItsOwn_of_within (execSwapRequest_does src v s) (execSwapRequest_within src v s) rfl rfl
  | .commit src v => doesItsOwn_of_within (execCommit_does src v s) (execCommit_within src v s) rfl rfl
  | .scaleWrite src v => doesItsOwn_of_within (execScaleWrite_does src v s) (execScaleWrite_within src v s) rfl rfl
  | .switchArm src v => doesItsOwn_of_within (execSwitchArm_does src v s) (execSwitchArm_within src v s) rfl rfl
  | .switchCancel src v => doesItsOwn_of_within (execSwitchCancel_does src v s) (execSwitchCancel_within src v s) rfl rfl
  | .seedLoad src v => doesItsOwn_of_within (execSeedLoad_does src v s) (execSeedLoad_within src v s) rfl rfl
  | .profileCommit src v => doesItsOwn_of_within (execProfileCommit_does src v s) (execProfileCommit_within src v s) rfl rfl
  | .templateEnable src v => doesItsOwn_of_within (execTemplateEnable_does src v s) (execTemplateEnable_within src v s) rfl rfl
  | .templateDisable src v => doesItsOwn_of_within (execTemplateDisable_does src v s) (execTemplateDisable_within src v s) rfl rfl
  | .releaseW src v => doesItsOwn_of_within (execReleaseW_does src v s) (execReleaseW_within src v s) rfl rfl
  | .releaseD src v => doesItsOwn_of_within (execReleaseD_does src v s) (execReleaseD_within src v s) rfl rfl
  | .runDStart src v => doesItsOwn_of_within (execRunDStart_does src v s) (execRunDStart_within src v s) rfl rfl
  | .steerSearch src v => doesItsOwn_of_within (execSteerSearch_does src v s) (execSteerSearch_within src v s) rfl rfl
  | .latchClear src v => doesItsOwn_of_within (execLatchClear_does src v s) (execLatchClear_within src v s) rfl rfl
  | .biasEnSet src v => doesItsOwn_of_within (execBiasEnSet_does src v s) (execBiasEnSet_within src v s) rfl rfl
  | .echo src v => doesItsOwn_of_within (execEcho_does src v s) (execEcho_within src v s) rfl rfl
  | .snapshot src v => doesItsOwn_of_within (execSnapshot_does src v s) (execSnapshot_within src v s) rfl rfl
  | .extreme src v => doesItsOwn_of_within (execExtreme_does src v s) (execExtreme_within src v s) rfl rfl
  | .patchSum src v => doesItsOwn_of_within (execPatchSum_does src v s) (execPatchSum_within src v s) rfl rfl
  | .mbxPatchOp src v => doesItsOwn_of_within (execMbxPatchOp_does src v s) (execMbxPatchOp_within src v s) rfl rfl
  | .mbxDone patchResult snap => doesItsOwn_of_listed (execMbxDone_does patchResult snap s) rfl rfl
  | .fixerClear src v => doesItsOwn_of_within (execFixerClear_does src v s) (execFixerClear_within src v s) rfl rfl
  | .atomicAdd word lane operand => doesItsOwn_of_listed (execAtomicAdd_does word lane operand s) rfl rfl
  | .atomicSwap word lane operand => doesItsOwn_of_listed (execAtomicSwap_does word lane operand s) rfl rfl
  | .rateBoundary => doesItsOwn_of_listed (execRateBoundary_does s) rfl rfl
  | .trainingCentre => doesItsOwn_of_listed (execTrainingCentre_does s) rfl rfl
  | .trainingEnd => doesItsOwn_of_listed (execTrainingEnd_does s) rfl rfl
  | .domainSwitchOnStep => doesItsOwn_of_listed (execDomainSwitchOnStep_does s) rfl rfl
  | .domainPowerGood d => doesItsOwn_of_listed (execDomainPowerGood_does d s) rfl rfl
  | .settleEnd => doesItsOwn_of_listed (execSettleEnd_does s) rfl rfl
  | .driveAutoRestart ch => doesItsOwn_of_listed (execDriveAutoRestart_does ch s) rfl rfl
  | .biasRampEnd k => doesItsOwn_of_listed (execBiasRampEnd_does k s) rfl rfl
  | .biasWindowEnd k => doesItsOwn_of_listed (execBiasWindowEnd_does k s) rfl rfl
  | .biasShort k => doesItsOwn_of_listed (execBiasShort_does k s) rfl rfl
  | .biasRestart k => doesItsOwn_of_listed (execBiasRestart_does k s) rfl rfl
  | .biasOpen k => doesItsOwn_of_listed (execBiasOpen_does k s) rfl rfl
  | .biasOpenRearm k => doesItsOwn_of_listed (execBiasOpenRearm_does k s) rfl rfl
  | .channelStartEnd k => doesItsOwn_of_listed (execChannelStartEnd_does k s) rfl rfl
  | .watchStartEnd => doesItsOwn_of_listed (execWatchStartEnd_does s) rfl rfl
  | .converterOverload k => doesItsOwn_of_listed (execConverterOverload_does k s) rfl rfl
  | .pdmDecimatorStart => doesItsOwn_of_listed (execPdmDecimatorStart_does s) rfl rfl
  | .pdmReady => doesItsOwn_of_listed (execPdmReady_does s) rfl rfl
  | .captureDone => doesItsOwn_of_listed (execCaptureDone_does s) rfl rfl
  | .vbiasLow => doesItsOwn_of_listed (execVbiasLow_does s) rfl rfl
  | .vbiasRise => doesItsOwn_of_listed (execVbiasRise_does s) rfl rfl
  | .hqBoundary inp => doesItsOwn_of_listed (execHqBoundary_does inp s) rfl rfl
  | .lpBoundary bits upsets => doesItsOwn_of_listed (execLpBoundary_does bits upsets s) rfl rfl
  | .pathStop hq => doesItsOwn_of_listed (execPathStop_does hq s) rfl rfl
  | .pathStart hq => doesItsOwn_of_listed (execPathStart_does hq s) rfl rfl
  | .primingEnd => doesItsOwn_of_listed (execPrimingEnd_does s) rfl rfl
  | .phaseDone => doesItsOwn_of_listed (execPhaseDone_does s) rfl rfl
  | .swapApply => doesItsOwn_of_listed (execSwapApply_does s) rfl rfl
  | .beamXfadeStart b => doesItsOwn_of_listed (execBeamXfadeStart_does b s) rfl rfl
  | .xfadeDone b => doesItsOwn_of_listed (execXfadeDone_does b s) rfl rfl
  | .scaleApply => doesItsOwn_of_listed (execScaleApply_does s) rfl rfl
  | .withholdEnd => doesItsOwn_of_listed (execWithholdEnd_does s) rfl rfl
  | .planSwitch => doesItsOwn_of_listed (execPlanSwitch_does s) rfl rfl
  | .devBlock inp => doesItsOwn_of_listed (execDevBlock_does inp s) rfl rfl
  | .joinReached => doesItsOwn_of_listed (execJoinReached_does s) rfl rfl
  | .prerollFilled => doesItsOwn_of_listed (execPrerollFilled_does s) rfl rfl
  | .latentFreeze watch => doesItsOwn_of_listed (execLatentFreeze_does watch s) rfl rfl
  | .loupeReady => doesItsOwn_of_listed (execLoupeReady_does s) rfl rfl
  | .loupeShutdownDone => doesItsOwn_of_listed (execLoupeShutdownDone_does s) rfl rfl
  | .sensorSample r => doesItsOwn_of_listed (execSensorSample_does r s) rfl rfl
  | .tjTrip site => doesItsOwn_of_listed (execTjTrip_does site s) rfl rfl
  | .patchVerifyDone => doesItsOwn_of_listed (execPatchVerifyDone_does s) rfl rfl
  | .lifecycle => doesItsOwn_of_listed (execLifecycle_does s) rfl rfl
  | .watchdog => doesItsOwn_of_listed (execWatchdog_does s) rfl rfl
  | .readInstant ch inp => doesItsOwn_of_listed (execReadInstant_does ch inp s) rfl rfl
  | .channelWakeEnd ch => doesItsOwn_of_listed (execChannelWakeEnd_does ch s) rfl rfl
  | .zcTimeout ch => doesItsOwn_of_listed (execZcTimeout_does ch s) rfl rfl
  | .rampEnd ch => doesItsOwn_of_listed (execRampEnd_does ch s) rfl rfl
  | .bathEnd ch => doesItsOwn_of_listed (execBathEnd_does ch s) rfl rfl
  | .offDwellEnd ch => doesItsOwn_of_listed (execOffDwellEnd_does ch s) rfl rfl
  | .muteResume ch => doesItsOwn_of_listed (execMuteResume_does ch s) rfl rfl
  | .proofDone level => doesItsOwn_of_listed (execProofDone_does level s) rfl rfl
  | .fltLatch ch => doesItsOwn_of_listed (execFltLatch_does ch s) rfl rfl
  | .imonLatch inp => doesItsOwn_of_listed (execImonLatch_does inp s) rfl rfl
  | .swsMeasurement ch k => doesItsOwn_of_listed (execSwsMeasurement_does ch k s) rfl rfl
  | .swsMeasureTimeout ch => doesItsOwn_of_listed (execSwsMeasureTimeout_does ch s) rfl rfl
  | .swsLost ch => doesItsOwn_of_listed (execSwsLost_does ch s) rfl rfl
  | .thermalTrip ch => doesItsOwn_of_listed (execThermalTrip_does ch s) rfl rfl
  | .thermalClear ch => doesItsOwn_of_listed (execThermalClear_does ch s) rfl rfl
  | .stageRestart ch => doesItsOwn_of_listed (execStageRestart_does ch s) rfl rfl
  | .steerSearchDone => doesItsOwn_of_listed (execSteerSearchDone_does s) rfl rfl
  | .verifyWindow up => doesItsOwn_of_listed (execVerifyWindow_does up s) rfl rfl
  | .tamperLatch => doesItsOwn_of_listed (execTamperLatch_does s) rfl rfl
  | .tamper => doesItsOwn_of_listed (execTamper_does s) rfl rfl
  | .wipeStart => doesItsOwn_of_listed (execWipeStart_does s) rfl rfl
  | .wipeDone failAt => doesItsOwn_of_listed (execWipeDone_does failAt s) rfl rfl
  | .fogStep inp => doesItsOwn_of_listed (execFogStep_does inp s) rfl rfl
  | .fogAbort => doesItsOwn_of_listed (execFogAbort_does s) rfl rfl
  | .fogStepDeadline => doesItsOwn_of_listed (execFogStepDeadline_does s) rfl rfl
  | .tankAccess rs => doesItsOwn_of_listed (execTankAccess_does rs s) rfl rfl
  | .logWrite => doesItsOwn_of_listed (execLogWrite_does s) rfl rfl
  | .tamperDeassert => doesItsOwn_of_listed (execTamperDeassert_does s) rfl rfl
  | .floorFuseRaised => doesItsOwn_of_listed (execFloorFuseRaised_does s) rfl rfl

/-! ### Steps -/

/-- A step is idle, or it carries out the front command on the state without it. -/
theorem step_cases {s t : State} (h : step s = .next t) :
    t = s ∨ ∃ c rest, s.pending = c :: rest ∧ exec c { s with pending := rest } = .next t := by
  unfold step at h
  split at h
  · exact .inl (Host.Outcome.next.inj h).symm
  · next c rest hp => exact .inr ⟨c, rest, hp, h⟩

/-! ### The statements -/

/-- Settles O1: by the two arms of `step`. -/
theorem stepRunsFront : Obligations.StepRunsFront := by
  unfold Obligations.StepRunsFront
  refine ⟨fun s c => rfl, fun s c rest h => ?_, fun s h => ?_⟩ <;> simp only [step, h]

/-- Settles O2: what every command does keeps the queue. -/
theorem everyCommandCompletesAndKeepsTheQueue : Obligations.EveryCommandCompletesAndKeepsTheQueue := by
  unfold Obligations.EveryCommandCompletesAndKeepsTheQueue
  intro c s
  obtain ⟨t, hexec, -, ⟨-, hpending, -⟩, -⟩ := exec_doesItsOwn c s
  exact ⟨t, hexec, hpending⟩

/-- Settles O3: what every command does stays within the parts and registers of the tables. -/
theorem everyCommandKeepsWhatIsNotItsOwn : Obligations.EveryCommandKeepsWhatIsNotItsOwn := by
  unfold Obligations.EveryCommandKeepsWhatIsNotItsOwn
  intro c s
  obtain ⟨t, hexec, ⟨honly, -⟩, -⟩ := exec_doesItsOwn c s
  exact ⟨t, hexec, honly⟩

/-- Settles O5: no command changes the length of a fixed set, and the queue has none. -/
theorem stepKeepsShape : Obligations.StepKeepsShape := by
  unfold Obligations.StepKeepsShape
  intro s t hshaped hstep
  obtain rfl | ⟨c, rest, -, hexec⟩ := step_cases hstep
  · exact hshaped
  · obtain ⟨u, hexec', ⟨-, hkeeps⟩, -⟩ := exec_doesItsOwn c { s with pending := rest }
    obtain rfl : t = u := Host.Outcome.next.inj (hexec.symm.trans hexec')
    exact hkeeps hshaped

/-- Settles O6: the reset state stores no register and no byte, and its lists have their lengths. -/
theorem resetState : Obligations.ResetState := by
  unfold Obligations.ResetState
  refine ⟨fun _ => rfl, rfl, rfl, rfl, rfl, rfl, rfl, rfl, rfl, fun _ => rfl, rfl, ?_, ?_⟩
  · exact ⟨rfl, ⟨rfl, rfl, rfl, rfl, rfl, rfl⟩, .inl (Nat.zero_le _), Nat.zero_le _, rfl⟩
  · exact ⟨rfl, rfl, rfl, rfl, rfl, rfl, rfl, rfl⟩

end Sys2Proof.Machine
end

section
/-! PROOFS. The freeze of a stopped clock (R33): with no link clock nothing runs, acts or forwards, so the condition of every clocked command
fails; and the statement drawn from it. -/

namespace Sys2Proof.Machine

/-! ### What needs a clock -/

section
variable {s : State} (h : s.clk.stopped = true)
include h

theorem State.running_stopped : s.running = false := by simp [State.running, h]

theorem State.holding_stopped : s.holding = false := by simp [State.holding, h]

theorem State.acting_stopped : s.acting = false := by simp [State.acting, State.running_stopped h]

theorem State.reaches_stopped (src : Src) : s.reaches src = false := by cases src <;> simp [State.reaches, State.acting_stopped h]

theorem State.waited_stopped (t : Option Nat) (n : Nat) : s.waited t n = false := by
  cases t <;> simp [State.waited, State.acting_stopped h]

theorem State.atHq_stopped : s.atHq = false := by simp [State.atHq, State.acting_stopped h]

theorem State.atLp_stopped : s.atLp = false := by simp [State.atLp, State.acting_stopped h]

theorem State.driveRuns_stopped (n : Nat) : s.driveRuns n = false := by simp [State.driveRuns, State.acting_stopped h]

theorem State.stageRuns_stopped (n : Nat) : s.stageRuns n = false := by simp [State.stageRuns, State.acting_stopped h]

/-! ### The link and its frames -/

theorem State.sideDown_stopped (x : Side) (byClock : Bool) : s.sideDown x byClock = s := by simp [State.sideDown, State.running_stopped h]

theorem State.wrapStep_stopped : s.wrapStep = s := by simp [State.wrapStep, State.acting_stopped h]

theorem State.unwrapStep_stopped : s.unwrapStep = s := by
  unfold State.unwrapStep
  split <;> simp [State.acting_stopped h]

theorem State.trackLanes_stopped (moves : List LaneMove) : s.trackLanes moves = s := by simp [State.trackLanes, State.acting_stopped h]

theorem State.tick_stopped (i : TickIn) : s.tick i = s := by simp [State.tick, State.running_stopped h]

theorem State.frameStart_stopped (x : Side) (i : FrameIn) : s.frameStart x i = s := by
  have hreset : s.resetFrame x = s := by simp [State.resetFrame, State.holding_stopped h]
  simp [State.frameStart, hreset, State.holding_stopped h, State.running_stopped h]

theorem State.headerEnd_stopped (x : Side) (w : BitVec 416) (skew : BitVec 24) : s.headerEnd x w skew = s := by
  simp [State.headerEnd, State.holding_stopped h, State.running_stopped h]

theorem State.fieldOr_stopped (x : Side) (k : Nat) (raw : OutSide → OutSide) (work : State → State) : s.fieldOr x k raw work = s := by
  simp [State.fieldOr, State.passing, State.holding_stopped h, State.running_stopped h]

theorem State.showDecision_stopped : s.showDecision = s := by simp [State.showDecision, State.acting_stopped h]

/-! ### The command ring and the register port -/

theorem State.hostRun_stopped (op n : Nat) : s.hostRun op n = s := by
  unfold State.hostRun
  split <;> simp [State.acting_stopped h]

theorem State.abortStep_stopped : s.abortStep = s := by simp [State.abortStep, State.acting_stopped h]

theorem State.accessWrite_stopped (src : Src) (a : Nat) (v : Word) : s.accessWrite src a v = s := by
  simp [State.accessWrite, State.reaches_stopped h]

theorem State.accessRead_stopped (src : Src) (a : Nat) : s.accessRead src a = s := by simp [State.accessRead, State.reaches_stopped h]

theorem State.readStep_stopped (who : ReadBy) : s.readStep who = s := by
  cases who with
  | host n => exact State.hostRun_stopped h 1 n
  | loupe addr width => simp [State.readStep, State.loupeRead, State.reaches_stopped h]

theorem State.statusWrite_stopped (src : Src) (addr : Nat) (v : Word) : s.statusWrite src addr v = s := by
  simp [State.statusWrite, State.accessWrite_stopped h]

theorem State.armWrite_stopped (src : Src) (addr : Nat) (v : Word) : s.armWrite src addr v = s := by
  simp [State.armWrite, State.accessWrite_stopped h]

theorem State.guardedWrite_stopped (src : Src) (a : Nat) (fits : Word → Bool) (v : Word) : s.guardedWrite src a fits v = s := by
  unfold State.guardedWrite
  split <;> simp [State.accessWrite_stopped h]

theorem State.commandWrite_stopped (src : Src) (a : Nat) (fits : Word → Word → Bool) (v : Word) : s.commandWrite src a fits v = s := by
  simp [State.commandWrite, State.accessWrite_stopped h]

theorem State.narrowWrite_stopped (addr width : Nat) : s.narrowWrite addr width = s := by
  simp [State.narrowWrite, State.reaches_stopped h]

theorem State.unaligned_stopped (addr width : Nat) : s.unaligned addr width = s := by
  simp [State.unaligned, State.reaches_stopped h]

theorem State.logWrite_stopped : s.logWrite = s := by simp [State.logWrite, State.running_stopped h]

/-! ### The blocks -/

theorem State.rateBoundary_stopped : s.rateBoundary = s := by simp [State.rateBoundary, State.boundaryDue, State.acting_stopped h]

theorem State.trainingCentre_stopped : s.trainingCentre = s := by
  unfold State.trainingCentre
  split <;> simp [State.running_stopped h]

theorem State.trainingEnd_stopped : s.trainingEnd = s := by
  unfold State.trainingEnd
  split <;> simp [State.running_stopped h]

theorem State.domainStep_stopped : s.domainStep = s := by
  unfold State.domainStep
  split <;> simp [State.running_stopped h]

theorem State.domainGood_stopped (d : Nat) : s.domainGood d = s := by simp [State.domainGood, State.running_stopped h]

theorem State.settleEnd_stopped : s.settleEnd = s := by
  unfold State.settleEnd
  split <;> simp [State.running_stopped h]

theorem State.withholdEnd_stopped : s.withholdEnd = s := by
  unfold State.withholdEnd
  split <;> simp [State.running_stopped h]

theorem State.biasRamped_stopped (k : Nat) : s.biasRamped k = s := by simp [State.biasRamped, State.waited_stopped h]

theorem State.biasSettled_stopped (k : Nat) : s.biasSettled k = s := by simp [State.biasSettled, State.waited_stopped h]

theorem State.shortStep_stopped (k : Nat) : s.shortStep k = s := by simp [State.shortStep, State.shortDue, State.acting_stopped h]

theorem State.biasRestart_stopped (k : Nat) : s.biasRestart k = s := by simp [State.biasRestart, State.waited_stopped h]

theorem State.biasRearm_stopped (k : Nat) : s.biasRearm k = s := by simp [State.biasRearm, State.acting_stopped h]

theorem State.chanStarted_stopped (k : Nat) : s.chanStarted k = s := by simp [State.chanStarted, State.waited_stopped h]

theorem State.watchStarted_stopped : s.watchStarted = s := by simp [State.watchStarted, State.waited_stopped h]

theorem State.overload_stopped (k : Nat) : s.overload k = s := by simp [State.overload, State.acting_stopped h]

theorem State.pdmDecimate_stopped : s.pdmDecimate = s := by simp [State.pdmDecimate, State.acting_stopped h]

theorem State.pdmBecomesReady_stopped : s.pdmBecomesReady = s := by simp [State.pdmBecomesReady, State.acting_stopped h]

theorem State.captureDone_stopped : s.captureDone = s := by
  unfold State.captureDone
  split <;> simp [State.acting_stopped h]

theorem State.hqBoundary_stopped (i : HqIn) : s.hqBoundary i = s := by simp [State.hqBoundary, State.atHq_stopped h]

theorem State.lpBoundary_stopped (sent : List Bool) (upsets : List (Nat × Nat)) : s.lpBoundary sent upsets = s := by
  simp [State.lpBoundary, State.atLp_stopped h]

theorem State.stopDue_stopped (hq : Bool) : s.stopDue hq = false := by simp [State.stopDue, State.atHq_stopped h, State.atLp_stopped h]

theorem State.startDue_stopped (hq : Bool) : s.startDue hq = false := by simp [State.startDue, State.atHq_stopped h, State.atLp_stopped h]

theorem State.primed_stopped : s.primed = s := by
  unfold State.primed
  split <;> simp [State.acting_stopped h]

theorem State.phaseDone_stopped : s.phaseDone = s := by
  unfold State.phaseDone
  split <;> simp [State.acting_stopped h]

theorem State.swapStep_stopped : s.swapStep = s := by
  unfold State.swapStep
  split <;> simp [State.atHq_stopped h]

theorem State.beamFade_stopped (b : Nat) : s.beamFade b = s := by simp [State.beamFade, State.atHq_stopped h]

theorem State.beamFaded_stopped (b : Nat) : s.beamFaded b = s := by
  unfold State.beamFaded
  split <;> simp [State.acting_stopped h]

theorem State.scaleStep_stopped : s.scaleStep = s := by
  unfold State.scaleStep
  split <;> simp [State.atHq_stopped h]

theorem State.planStep_stopped : s.planStep = s := by simp [State.planStep, State.acting_stopped h]

theorem State.blockStep_stopped (i : DevIn) : s.blockStep i = s := by simp [State.blockStep, State.atBlock, State.acting_stopped h]

theorem State.prerollStep_stopped : s.prerollStep = s := by simp [State.prerollStep, State.acting_stopped h]

theorem State.loupeShut_stopped : s.loupeShut = s := by simp [State.loupeShut, State.acting_stopped h]

theorem State.tripStep_stopped (k : Nat) : s.tripStep k = s := by simp [State.tripStep, State.tripDue, State.running_stopped h]

theorem State.loupeActs_stopped : s.loupeActs = false := by simp [State.loupeActs, State.acting_stopped h]

theorem State.lifeDue_stopped : s.lifeDue = false := by
  unfold State.lifeDue
  split <;> simp [State.running_stopped h]

theorem State.floorDue_stopped : s.floorDue = false := by
  unfold State.floorDue
  split <;> simp [State.running_stopped h]

theorem State.expiryStep_stopped : s.expiryStep = s := by simp [State.expiryStep, State.loupeActs_stopped h]

theorem State.instantStep_stopped (n : Nat) (i : ReadIn) : s.instantStep n i = s := by simp [State.instantStep, State.driveRuns_stopped h]

theorem State.measureStep_stopped (n k : Nat) : s.measureStep n k = s := by simp [State.measureStep, State.stageRuns_stopped h]

theorem State.lostStep_stopped (n : Nat) : s.lostStep n = s := by simp [State.lostStep, State.stageRuns_stopped h]

theorem State.thermalStep_stopped (n : Nat) : s.thermalStep n = s := by simp [State.thermalStep, State.stageRuns_stopped h]

theorem State.tamperEdge_stopped : s.tamperEdge = s := by simp [State.tamperEdge, State.tamperDue, State.running_stopped h]

theorem State.wipeEnd_stopped (failAt : Option Nat) : s.wipeEnd failAt = s := by simp [State.wipeEnd, State.running_stopped h]

theorem State.fogMove_stopped (i : FogIn) : s.fogMove i = s := by simp [State.fogMove, State.fogRuns, State.acting_stopped h]

theorem State.fogHeld_stopped : s.fogHeld = s := by simp [State.fogHeld, State.acting_stopped h]

theorem State.fogCut_stopped : s.fogCut = s := by simp [State.fogCut, State.acting_stopped h]

theorem State.accessStep_stopped (rs : List TankReq) : s.accessStep rs = s := by simp [State.accessStep, State.running_stopped h]

/-- A step of the hardware that falls into a write's cycle needs the clock as its own command does (R253). -/
theorem State.hardware_stopped (b : Beside) : s.hardware b = s :=
  match b with
  | .frameStart x i => State.frameStart_stopped h x i
  | .headerEnd x w skew => State.headerEnd_stopped h x w skew
  | .sideDown x c => State.sideDown_stopped h x c
  | .showDecision => State.showDecision_stopped h
  | .rateBoundary => State.rateBoundary_stopped h
  | .hqBoundary i => State.hqBoundary_stopped h i
  | .lpBoundary sent bad => State.lpBoundary_stopped h sent bad
  | .devBlock i => State.blockStep_stopped h i
  | .biasShort k => State.shortStep_stopped h k
  | .readInstant n i => State.instantStep_stopped h n i
  | .swsLost n => State.lostStep_stopped h n
  | .thermalTrip n => State.thermalStep_stopped h n
  | .tjTrip k => State.tripStep_stopped h k
  | .watchdog => State.expiryStep_stopped h
  | .fogStep i => State.fogMove_stopped h i
  | .tankAccess rs => State.accessStep_stopped h rs
  | .logWrite => State.logWrite_stopped h

theorem State.besideStep_stopped (b : Option Beside) : s.besideStep b = s := by
  cases b with
  | none => rfl
  | some b => exact State.hardware_stopped h b

theorem State.cycleWrite_stopped (src : Src) (a : Nat) (v : Word) (b : Option Beside) : s.cycleWrite src a v b = s := by
  simp [State.cycleWrite, State.accessWrite_stopped h, State.besideStep_stopped h]

theorem State.registerWrite_stopped (hbetween : s.between) (src : Src) (addr : Nat) (i : WriteIn) : s.registerWrite src addr i = s := by
  unfold State.registerWrite
  split <;> simp [State.cycleWrite_stopped h, State.besideStep_stopped h, State.endCycle_of_between hbetween, State.accessWrite_stopped h]

end

/-! ### Commands -/

/-- A command that leaves a state between two commands as it is ends its cycle with the same state. -/
theorem next_endCycle_of_eq {s u : State} (hbetween : s.between) (h : u = s) :
    (Host.Outcome.next u.endCycle : Host.Outcome State Fault Refusal) = .next s := by
  rw [h, State.endCycle_of_between hbetween]

/-- The same for a command whose condition does not hold. -/
theorem next_endCycle_of_not {s u : State} {b : Bool} (hbetween : s.between) (h : b = false) :
    (Host.Outcome.next (if b then u else s).endCycle : Host.Outcome State Fault Refusal) = .next s := by
  rw [h]
  exact next_endCycle_of_eq hbetween rfl

/-- With both link clocks stopped a clocked command does nothing, arm by arm of `exec` (R33). -/
theorem exec_stopped {s : State} (hb : s.between) (h : s.clk.stopped = true) : ∀ c : Instr, unclocked c = false → exec c s = .next s
  | .strapReadDone _ _ _ _, _ => next_endCycle_of_not hb (by simp [State.running_stopped h])
  | .clockInputLost _, _ => next_endCycle_of_not hb (by simp [State.running_stopped h, State.holding_stopped h])
  | .sideDown _ _, _ => next_endCycle_of_eq hb (State.sideDown_stopped h _ _)
  | .wrap, _ => next_endCycle_of_eq hb (State.wrapStep_stopped h)
  | .unwrap, _ => next_endCycle_of_eq hb (State.unwrapStep_stopped h)
  | .delayTrack _, _ => next_endCycle_of_eq hb (State.trackLanes_stopped h _)
  | .tick _, _ => next_endCycle_of_eq hb (State.tick_stopped h _)
  | .frameStart _ _, _ => next_endCycle_of_eq hb (State.frameStart_stopped h _ _)
  | .headerEnd _ _ _, _ => next_endCycle_of_eq hb (State.headerEnd_stopped h _ _ _)
  | .showCapture _ _ _, _ => next_endCycle_of_eq hb (State.fieldOr_stopped h _ _ _ _)
  | .showDecision, _ => next_endCycle_of_eq hb (State.showDecision_stopped h)
  | .listenField _ _ _, _ => next_endCycle_of_eq hb (State.fieldOr_stopped h _ _ _ _)
  | .registerField _ _ _, _ => next_endCycle_of_eq hb (State.fieldOr_stopped h _ _ _ _)
  | .eventField _ _ _, _ => next_endCycle_of_eq hb (State.fieldOr_stopped h _ _ _ _)
  | .read _, _ => next_endCycle_of_eq hb (State.readStep_stopped h _)
  | .write _, _ => next_endCycle_of_eq hb (State.hostRun_stopped h _ _)
  | .writeP _, _ => next_endCycle_of_eq hb (State.hostRun_stopped h _ _)
  | .burstRead _, _ => next_endCycle_of_eq hb (State.hostRun_stopped h _ _)
  | .burstWrite _, _ => next_endCycle_of_eq hb (State.hostRun_stopped h _ _)
  | .burstWriteP _, _ => next_endCycle_of_eq hb (State.hostRun_stopped h _ _)
  | .abort, _ => next_endCycle_of_eq hb (State.abortStep_stopped h)
  | .registerWrite _ _ _, _ => next_endCycle_of_eq hb (State.registerWrite_stopped h hb _ _ _)
  | .statusClear _ _ _, _ => next_endCycle_of_eq hb (State.statusWrite_stopped h _ _ _)
  | .guardArm _ _ _, _ => next_endCycle_of_eq hb (State.armWrite_stopped h _ _ _)
  | .ixAddrWrite _ _, _ => next_endCycle_of_eq hb (State.accessWrite_stopped h _ _ _)
  | .ixDataRead _, _ => next_endCycle_of_eq hb (State.accessRead_stopped h _ _)
  | .ixDataWrite _ _, _ => next_endCycle_of_eq hb (State.accessWrite_stopped h _ _ _)
  | .epochLoRead _, _ => next_endCycle_of_eq hb (State.accessRead_stopped h _ _)
  | .scoreRead _, _ => next_endCycle_of_eq hb (State.accessRead_stopped h _ _)
  | .featRead _, _ => next_endCycle_of_eq hb (State.accessRead_stopped h _ _)
  | .frameLenRead _, _ => next_endCycle_of_eq hb (State.accessRead_stopped h _ _)
  | .loupeNarrowWrite _ _ _, _ => next_endCycle_of_eq hb (State.narrowWrite_stopped h _ _)
  | .loupeUnaligned _ _, _ => next_endCycle_of_eq hb (State.unaligned_stopped h _ _)
  | .epochHiSet _ _, _ => next_endCycle_of_eq hb (State.guardedWrite_stopped h _ _ _ _)
  | .addrOverride _ _, _ => next_endCycle_of_eq hb (State.guardedWrite_stopped h _ _ _ _)
  | .padLoop _ _, _ => next_endCycle_of_eq hb (State.guardedWrite_stopped h _ _ _ _)
  | .laneLoop _ _, _ => next_endCycle_of_eq hb (State.guardedWrite_stopped h _ _ _ _)
  | .frameLoop _ _, _ => next_endCycle_of_eq hb (State.guardedWrite_stopped h _ _ _ _)
  | .linkLoopOff _ _, _ => next_endCycle_of_eq hb (State.guardedWrite_stopped h _ _ _ _)
  | .analogLoop _ _, _ => next_endCycle_of_eq hb (State.guardedWrite_stopped h _ _ _ _)
  | .bitstreamLoop _ _, _ => next_endCycle_of_eq hb (State.guardedWrite_stopped h _ _ _ _)
  | .pdmLoop _ _, _ => next_endCycle_of_eq hb (State.guardedWrite_stopped h _ _ _ _)
  | .capture _ _, _ => next_endCycle_of_eq hb (State.guardedWrite_stopped h _ _ _ _)
  | .frontLoopOff _ _, _ => next_endCycle_of_eq hb (State.guardedWrite_stopped h _ _ _ _)
  | .modeWithdraw _ _, _ => next_endCycle_of_eq hb (State.guardedWrite_stopped h _ _ _ _)
  | .requestDaylight _ _, _ => next_endCycle_of_eq hb (State.guardedWrite_stopped h _ _ _ _)
  | .requestSafelight _ _, _ => next_endCycle_of_eq hb (State.guardedWrite_stopped h _ _ _ _)
  | .unitReset _ _, _ => next_endCycle_of_eq hb (State.guardedWrite_stopped h _ _ _ _)
  | .masterEnable _ _, _ => next_endCycle_of_eq hb (State.guardedWrite_stopped h _ _ _ _)
  | .masterDisable _ _, _ => next_endCycle_of_eq hb (State.guardedWrite_stopped h _ _ _ _)
  | .digitalLoop _ _, _ => next_endCycle_of_eq hb (State.guardedWrite_stopped h _ _ _ _)
  | .dacLoop _ _, _ => next_endCycle_of_eq hb (State.guardedWrite_stopped h _ _ _ _)
  | .stageLoop _ _, _ => next_endCycle_of_eq hb (State.guardedWrite_stopped h _ _ _ _)
  | .wipe _ _, _ => next_endCycle_of_eq hb (State.guardedWrite_stopped h _ _ _ _)
  | .patchActivate _ _, _ => next_endCycle_of_eq hb (State.guardedWrite_stopped h _ _ _ _)
  | .patchDeactivate _ _, _ => next_endCycle_of_eq hb (State.guardedWrite_stopped h _ _ _ _)
  | .loupeRestart _ _, _ => next_endCycle_of_eq hb (State.guardedWrite_stopped h _ _ _ _)
  | .lifecycleRequest _ _, _ => next_endCycle_of_eq hb (State.guardedWrite_stopped h _ _ _ _)
  | .testWrite _ _, _ => next_endCycle_of_eq hb (State.guardedWrite_stopped h _ _ _ _)
  | .swapRequest _ _, _ => next_endCycle_of_eq hb (State.commandWrite_stopped h _ _ _ _)
  | .commit _ _, _ => next_endCycle_of_eq hb (State.commandWrite_stopped h _ _ _ _)
  | .scaleWrite _ _, _ => next_endCycle_of_eq hb (State.commandWrite_stopped h _ _ _ _)
  | .switchArm _ _, _ => next_endCycle_of_eq hb (State.commandWrite_stopped h _ _ _ _)
  | .switchCancel _ _, _ => next_endCycle_of_eq hb (State.commandWrite_stopped h _ _ _ _)
  | .seedLoad _ _, _ => next_endCycle_of_eq hb (State.commandWrite_stopped h _ _ _ _)
  | .profileCommit _ _, _ => next_endCycle_of_eq hb (State.commandWrite_stopped h _ _ _ _)
  | .templateEnable _ _, _ => next_endCycle_of_eq hb (State.commandWrite_stopped h _ _ _ _)
  | .templateDisable _ _, _ => next_endCycle_of_eq hb (State.commandWrite_stopped h _ _ _ _)
  | .releaseW _ _, _ => next_endCycle_of_eq hb (State.commandWrite_stopped h _ _ _ _)
  | .releaseD _ _, _ => next_endCycle_of_eq hb (State.commandWrite_stopped h _ _ _ _)
  | .runDStart _ _, _ => next_endCycle_of_eq hb (State.commandWrite_stopped h _ _ _ _)
  | .steerSearch _ _, _ => next_endCycle_of_eq hb (State.commandWrite_stopped h _ _ _ _)
  | .latchClear _ _, _ => next_endCycle_of_eq hb (State.commandWrite_stopped h _ _ _ _)
  | .biasEnSet _ _, _ => next_endCycle_of_eq hb (State.commandWrite_stopped h _ _ _ _)
  | .echo _ _, _ => next_endCycle_of_eq hb (State.commandWrite_stopped h _ _ _ _)
  | .snapshot _ _, _ => next_endCycle_of_eq hb (State.commandWrite_stopped h _ _ _ _)
  | .extreme _ _, _ => next_endCycle_of_eq hb (State.commandWrite_stopped h _ _ _ _)
  | .patchSum _ _, _ => next_endCycle_of_eq hb (State.commandWrite_stopped h _ _ _ _)
  | .mbxPatchOp _ _, _ => next_endCycle_of_eq hb (State.commandWrite_stopped h _ _ _ _)
  | .mbxDone _ _, _ => next_endCycle_of_not hb (State.loupeActs_stopped h)
  | .fixerClear _ _, _ => next_endCycle_of_eq hb (State.commandWrite_stopped h _ _ _ _)
  | .atomicAdd _ _ _, _ => next_endCycle_of_not hb (State.running_stopped h)
  | .atomicSwap _ _ _, _ => next_endCycle_of_not hb (State.running_stopped h)
  | .rateBoundary, _ => next_endCycle_of_eq hb (State.rateBoundary_stopped h)
  | .trainingCentre, _ => next_endCycle_of_eq hb (State.trainingCentre_stopped h)
  | .trainingEnd, _ => next_endCycle_of_eq hb (State.trainingEnd_stopped h)
  | .domainSwitchOnStep, _ => next_endCycle_of_eq hb (State.domainStep_stopped h)
  | .domainPowerGood _, _ => next_endCycle_of_eq hb (State.domainGood_stopped h _)
  | .settleEnd, _ => next_endCycle_of_eq hb (State.settleEnd_stopped h)
  | .driveAutoRestart _, _ => next_endCycle_of_not hb (by simp [State.driveRuns_stopped h])
  | .biasRampEnd _, _ => next_endCycle_of_eq hb (State.biasRamped_stopped h _)
  | .biasWindowEnd _, _ => next_endCycle_of_eq hb (State.biasSettled_stopped h _)
  | .biasShort _, _ => next_endCycle_of_eq hb (State.shortStep_stopped h _)
  | .biasRestart _, _ => next_endCycle_of_eq hb (State.biasRestart_stopped h _)
  | .biasOpen _, _ => next_endCycle_of_not hb (by simp [State.openDue, State.acting_stopped h])
  | .biasOpenRearm _, _ => next_endCycle_of_eq hb (State.biasRearm_stopped h _)
  | .channelStartEnd _, _ => next_endCycle_of_eq hb (State.chanStarted_stopped h _)
  | .watchStartEnd, _ => next_endCycle_of_eq hb (State.watchStarted_stopped h)
  | .converterOverload _, _ => next_endCycle_of_eq hb (State.overload_stopped h _)
  | .pdmDecimatorStart, _ => next_endCycle_of_eq hb (State.pdmDecimate_stopped h)
  | .pdmReady, _ => next_endCycle_of_eq hb (State.pdmBecomesReady_stopped h)
  | .captureDone, _ => next_endCycle_of_eq hb (State.captureDone_stopped h)
  | .hqBoundary _, _ => next_endCycle_of_eq hb (State.hqBoundary_stopped h _)
  | .lpBoundary _ _, _ => next_endCycle_of_eq hb (State.lpBoundary_stopped h _ _)
  | .pathStop _, _ => next_endCycle_of_not hb (State.stopDue_stopped h _)
  | .pathStart _, _ => next_endCycle_of_not hb (State.startDue_stopped h _)
  | .primingEnd, _ => next_endCycle_of_eq hb (State.primed_stopped h)
  | .phaseDone, _ => next_endCycle_of_eq hb (State.phaseDone_stopped h)
  | .swapApply, _ => next_endCycle_of_eq hb (State.swapStep_stopped h)
  | .beamXfadeStart _, _ => next_endCycle_of_eq hb (State.beamFade_stopped h _)
  | .xfadeDone _, _ => next_endCycle_of_eq hb (State.beamFaded_stopped h _)
  | .scaleApply, _ => next_endCycle_of_eq hb (State.scaleStep_stopped h)
  | .withholdEnd, _ => next_endCycle_of_eq hb (State.withholdEnd_stopped h)
  | .planSwitch, _ => next_endCycle_of_eq hb (State.planStep_stopped h)
  | .devBlock _, _ => next_endCycle_of_eq hb (State.blockStep_stopped h _)
  | .joinReached, _ => next_endCycle_of_not hb (by simp [State.acting_stopped h])
  | .prerollFilled, _ => next_endCycle_of_eq hb (State.prerollStep_stopped h)
  | .latentFreeze _, _ => next_endCycle_of_not hb (by simp [State.acting_stopped h])
  | .loupeReady, _ => next_endCycle_of_not hb (by simp [State.mayReport, State.acting_stopped h])
  | .loupeShutdownDone, _ => next_endCycle_of_eq hb (State.loupeShut_stopped h)
  | .sensorSample _, _ => next_endCycle_of_not hb (State.loupeActs_stopped h)
  | .tjTrip _, _ => next_endCycle_of_eq hb (State.tripStep_stopped h _)
  | .patchVerifyDone, _ => next_endCycle_of_not hb (by simp [State.acting_stopped h])
  | .lifecycle, _ => next_endCycle_of_not hb (State.lifeDue_stopped h)
  | .watchdog, _ => next_endCycle_of_eq hb (State.expiryStep_stopped h)
  | .readInstant _ _, _ => next_endCycle_of_eq hb (State.instantStep_stopped h _ _)
  | .channelWakeEnd _, _ => next_endCycle_of_not hb (by simp [State.driveRuns_stopped h])
  | .zcTimeout _, _ => next_endCycle_of_not hb (by simp [State.driveRuns_stopped h])
  | .rampEnd _, _ => next_endCycle_of_not hb (by simp [State.driveRuns_stopped h])
  | .bathEnd _, _ => next_endCycle_of_not hb (by simp [State.driveRuns_stopped h])
  | .offDwellEnd _, _ => next_endCycle_of_not hb (by simp [State.driveRuns_stopped h])
  | .muteResume _, _ => next_endCycle_of_not hb (by simp [State.driveRuns_stopped h])
  | .proofDone _, _ => next_endCycle_of_not hb (by simp [State.acting_stopped h])
  | .swsMeasurement _ _, _ => next_endCycle_of_eq hb (State.measureStep_stopped h _ _)
  | .swsMeasureTimeout _, _ => next_endCycle_of_not hb (State.stageRuns_stopped h _)
  | .swsLost _, _ => next_endCycle_of_eq hb (State.lostStep_stopped h _)
  | .thermalTrip _, _ => next_endCycle_of_eq hb (State.thermalStep_stopped h _)
  | .thermalClear _, _ => next_endCycle_of_not hb (by simp [State.acting_stopped h])
  | .stageRestart _, _ => next_endCycle_of_not hb (by simp [State.acting_stopped h])
  | .steerSearchDone, _ => next_endCycle_of_not hb (by simp [State.acting_stopped h])
  | .verifyWindow _, _ => next_endCycle_of_not hb (by simp [State.atWindow, State.acting_stopped h])
  | .tamper, _ => next_endCycle_of_eq hb (State.tamperEdge_stopped h)
  | .wipeStart, _ => next_endCycle_of_not hb (by simp [State.wipeMayStart, State.running_stopped h])
  | .wipeDone _, _ => next_endCycle_of_eq hb (State.wipeEnd_stopped h _)
  | .fogStep _, _ => next_endCycle_of_eq hb (State.fogMove_stopped h _)
  | .fogAbort, _ => next_endCycle_of_eq hb (State.fogHeld_stopped h)
  | .fogStepDeadline, _ => next_endCycle_of_eq hb (State.fogCut_stopped h)
  | .tankAccess _, _ => next_endCycle_of_eq hb (State.accessStep_stopped h _)
  | .logWrite, _ => next_endCycle_of_eq hb (State.logWrite_stopped h)
  | .floorFuseRaised, _ => next_endCycle_of_not hb (State.floorDue_stopped h)

/-- Settles O7: no clocked command's condition holds while the clocks are stopped. -/
theorem stoppedClockFreezesEverything : Obligations.StoppedClockFreezesEverything := by
  unfold Obligations.StoppedClockFreezesEverything
  exact fun c s hbetween hstopped hclocked => exec_stopped hbetween hstopped c hclocked

end Sys2Proof.Machine
end

section
/-! PROOFS. The Loupe's fault handler (R672, R673): no operation leaves the Loupe in a handler that has faulted, since the watchdog's expiry
follows the fault in its own cycle; and the statement on sound states drawn from it. -/

namespace Sys2Proof.Machine

/-- The Loupe is not in a fault handler that has faulted (R673). -/
abbrev State.unwedged (s : State) : Prop := s.loupe.wedged = false

/-- Every part of the state but the Loupe. -/
abbrev outsideLoupe : List Part :=
  [.sset, .bumped, .caused, .clk, .ident, .sideA, .sideB, .link, .outA, .outB, .frame, .queue, .port, .fixer, .front, .decim, .aper, .mx,
   .dev, .sheet, .latent, .print, .stage, .bank, .mode, .mem, .free, .pending]

abbrev anyReg : Nat → Prop := fun _ => True

/-- An operation that is confined to the other parts keeps the Loupe out of a faulted handler. -/
theorem State.unwedged.through {s t : State} (h : s.unwedged)
    (hconf : Confined s outsideLoupe anyReg s → Confined s outsideLoupe anyReg t) : t.unwedged := by
  obtain ⟨⟨hparts, -⟩, -⟩ := hconf (conf_refl s _ _)
  have hloupe : t.loupe = s.loupe := hparts .loupe (by decide)
  rw [State.unwedged, hloupe]
  exact h

theorem State.unwedged.of_eq {s t : State} (h : s.unwedged) (hsame : t.loupe.wedged = s.loupe.wedged) : t.unwedged := hsame.trans h

theorem unwedged_ite {s t : State} {p : Prop} [Decidable p] (hs : s.unwedged) (ht : t.unwedged) : (if p then s else t).unwedged := by
  split
  · exact hs
  · exact ht

theorem unwedged_foldl {α : Type} {f : State → α → State} (hf : ∀ t a, t.unwedged → (f t a).unwedged) :
    ∀ (l : List α) {s : State}, s.unwedged → (l.foldl f s).unwedged
  | [], _, h => h
  | a :: l, s, h => unwedged_foldl hf l (hf s a h)

section
variable {s : State}

/-! ### The Loupe's own operations -/

theorem State.unwedged_afterWipe (failed : Bool) (h : s.unwedged) : (s.afterWipe failed).unwedged := by
  unfold State.afterWipe
  split
  · exact h
  · exact unwedged_ite h (unwedged_ite h h)

theorem State.unwedged_dropPatch (h : s.unwedged) : s.dropPatch.unwedged := h

theorem State.unwedged_blankSensors (h : s.unwedged) : s.blankSensors.unwedged := h

theorem State.unwedged_startLoupe (h : s.unwedged) : s.startLoupe.unwedged := unwedged_ite h (unwedged_ite h rfl)

theorem State.unwedged_restartBase (h : s.unwedged) : s.restartBase.unwedged := State.unwedged_startLoupe (State.unwedged_dropPatch h)

theorem State.unwedged_loupeCancel (h : s.unwedged) : s.loupeCancel.unwedged := State.unwedged_startLoupe h

theorem State.unwedged_loupeReady (h : s.unwedged) : s.loupeReady.unwedged := by
  have hkeys : s.copyKeys.unwedged := h.through fun c => State.conf_copyKeys c (by decide) fun _ _ => trivial
  exact hkeys

theorem State.unwedged_loupeToSafe (h : s.unwedged) : s.loupeToSafe.unwedged := by
  unfold State.loupeToSafe
  dsimp only
  split <;> exact h

theorem State.unwedged_abandonVerify (h : s.unwedged) : s.abandonVerify.unwedged := by
  refine unwedged_ite ?_ h
  exact (State.unwedged_dropPatch h).through fun c => State.conf_raise _ _ _ _ (State.conf_countSat _ (State.conf_setFlag _ _ c (by decide)
    trivial) trivial) (by decide) fun _ _ => trivial

theorem State.unwedged_makeWipe (cause : Nat) (h : s.unwedged) : (s.makeWipe cause).unwedged := by
  have hpend : (s.pendWipe cause).unwedged := h.through fun c => State.conf_pendWipe _ c (by decide) fun _ _ => trivial
  have hleft := State.unwedged_abandonVerify hpend
  exact unwedged_ite hpend (unwedged_ite hleft (unwedged_ite (State.unwedged_restartBase hleft) (State.unwedged_dropPatch hleft)))

theorem State.unwedged_setFlag {s : State} (a i : Nat) (h : s.unwedged) : (s.setFlag a i).unwedged := by
  rw [State.unwedged, State.setFlag_loupe]
  exact h

theorem State.unwedged_reported {s : State} (a i source code : Nat) (lo hi : Word) (h : s.unwedged) :
    ((s.setFlag a i).raise source code lo hi).unwedged :=
  h.through fun c => State.conf_raise _ _ _ _ (State.conf_setFlag _ _ c (by decide) trivial) (by decide) fun _ _ => trivial

theorem State.unwedged_tjWarn (tj : List Int) (n : Nat) (h : s.unwedged) : (s.tjWarn tj n).unwedged := by
  unfold State.tjWarn
  dsimp only
  split
  · exact unwedged_ite (State.unwedged_reported (s := { s with loupe := _ }) _ _ _ _ _ _ h) h
  · exact h

theorem State.unwedged_tickTj (i : TickIn) (h : s.unwedged) : (s.tickTj i).unwedged := unwedged_ite h (State.unwedged_tjWarn _ _ h)

theorem State.unwedged_tjTrip (k : Nat) (h : s.unwedged) : (s.tjTrip k).unwedged :=
  State.unwedged_reported (s := State.setPair { s with loupe := _ } _ _) _ _ _ _ _ _ h

theorem State.unwedged_judgeSupply (r : Sensors) (k : Nat) (h : s.unwedged) : (State.judgeSupply r s k).unwedged := unwedged_ite h h

theorem State.unwedged_takeSensors (r : Sensors) (h : s.unwedged) : (s.takeSensors r).unwedged :=
  State.unwedged_tjWarn _ _ (unwedged_foldl (fun _ k h => State.unwedged_judgeSupply r k h) _ h)

theorem State.unwedged_noteFrameLen (len : Nat) (h : s.unwedged) : (s.noteFrameLen len).unwedged := unwedged_ite h h

theorem State.unwedged_mbxDone (patch : Word) (snap : Sensors) (h : s.unwedged) : (s.mbxDone patch snap).unwedged := by
  unfold State.mbxDone
  split
  · exact h
  · next op arg _ =>
    have hsensed : (if op = 1 then s.takeSensors snap else s).unwedged := unwedged_ite (State.unwedged_takeSensors snap h) h
    have hresult := hsensed.through fun c => State.conf_mbxResult op arg patch c (by decide) fun _ _ => trivial
    exact State.unwedged_setFlag _ _ hresult

theorem State.unwedged_enterPatch (h : s.unwedged) : s.enterPatch.unwedged :=
  State.unwedged_reported (s := State.setReg { s with loupe := _ } _ _) _ _ _ _ _ _ h

theorem State.unwedged_patchBad (why : Nat) (h : s.unwedged) : (s.patchBad why).unwedged :=
  (State.unwedged_dropPatch h).through fun c => State.conf_raise _ _ _ _ (State.conf_countSat _ (State.conf_setFlag _ _ c (by decide)
    trivial) trivial) (by decide) fun _ _ => trivial

theorem State.unwedged_verifyDone (h : s.unwedged) : s.verifyDone.unwedged := by
  have hspan : (s.fogSpan Tank.patch s.verifyReads).unwedged := h.through fun c => State.conf_fogSpan _ _ c (by decide) fun _ _ => trivial
  unfold State.verifyDone
  dsimp only
  split
  · exact State.unwedged_patchBad _ hspan
  · exact unwedged_ite hspan (State.unwedged_enterPatch hspan)

theorem State.unwedged_writeLifeRecord (h : s.unwedged) : s.writeLifeRecord.unwedged :=
  h.through fun c => State.conf_writeLifeRecord c (by decide) fun _ _ => trivial

theorem State.unwedged_raiseFloor (h : s.unwedged) : s.raiseFloor.unwedged := by
  unfold State.raiseFloor
  split
  · exact h
  · next g _ enter _ =>
    have hfloor : State.unwedged { s with loupe := { s.loupe with floor := g, floorBurn := none } } := h
    have hrecord := unwedged_ite (p := State.secureOpen { s with loupe := { s.loupe with floor := g, floorBurn := none } } = true)
      (State.unwedged_writeLifeRecord hfloor) hfloor
    exact unwedged_ite (State.unwedged_enterPatch hrecord) hrecord

theorem State.unwedged_patchWrite (v : Word) (h : s.unwedged) : (s.patchWrite v).unwedged := by
  have hfreed : ∀ u : State, u.unwedged → (u.fixerRelease 43).unwedged := fun u hu =>
    hu.through fun c => State.conf_fixerRelease 43 c (by decide) fun _ _ => trivial
  have hrestart := unwedged_ite (p := bitOf v 2 = true)
    (State.unwedged_restartBase (hfreed { s with loupe := { s.loupe with halted := false } } h)) h
  exact unwedged_ite (State.unwedged_dropPatch hrestart) (unwedged_ite (State.unwedged_restartBase hrestart) hrestart)

theorem State.unwedged_requestLife (v : Word) (h : s.unwedged) : (s.requestLife v).unwedged := State.unwedged_makeWipe 4 h

theorem State.unwedged_lifecycle (h : s.unwedged) : s.lifecycle.unwedged := by
  unfold State.lifecycle
  split
  · exact h
  · exact State.unwedged_reported (s := State.setPair (State.writeLifeRecord _) _ _) _ _ _ _ _ _
      (State.unwedged_writeLifeRecord (s := { s with loupe := _ }) h)

/-- The watchdog's expiry ends a faulted handler (R672). -/
theorem State.unwedged_watchdog (s : State) : s.watchdog.unwedged := by
  have hcount : ∀ u : State, u.unwedged → (u.fixerCount 43).1.unwedged := fun u h =>
    h.through fun c => State.conf_fixerCount 43 c (by decide) fun _ _ => trivial
  exact unwedged_ite (State.unwedged_blankSensors (hcount _ rfl)) (State.unwedged_startLoupe (hcount _ rfl))

/-- A faulted handler meets the watchdog's expiry in its own cycle (R673). -/
theorem State.unwedged_faultExpiry (s : State) : s.faultExpiry.unwedged := by
  unfold State.faultExpiry
  split
  · exact s.unwedged_watchdog
  · next h => exact eq_false_of_ne_true h

theorem State.unwedged_accessStep (rs : List TankReq) (h : s.unwedged) : (s.accessStep rs).unwedged :=
  unwedged_ite (State.unwedged_faultExpiry _) h

theorem State.unwedged_expiryStep (h : s.unwedged) : s.expiryStep.unwedged := unwedged_ite s.unwedged_watchdog h

theorem State.unwedged_tripStep (k : Nat) (h : s.unwedged) : (s.tripStep k).unwedged := unwedged_ite (State.unwedged_tjTrip k h) h

theorem State.unwedged_tamperEdge (h : s.unwedged) : s.tamperEdge.unwedged :=
  unwedged_ite (State.unwedged_makeWipe 5 (State.unwedged_reported (s := { s with bank := _ }) _ _ _ _ _ _ h)) h

theorem State.unwedged_wipeEnd (failAt : Option Nat) (h : s.unwedged) : (s.wipeEnd failAt).unwedged :=
  unwedged_ite (State.unwedged_afterWipe _ (h.through fun c => State.conf_endWipe failAt c (by decide) fun _ _ => trivial)) h

theorem State.unwedged_loupeShut (h : s.unwedged) : s.loupeShut.unwedged := by
  have hwords : (s.setTankWords Tank.loupeWork s.contextRecord).unwedged :=
    h.through fun c => State.conf_setTankWords _ _ c (by decide) fun _ _ => trivial
  have hmark : ∀ u : State, u.unwedged → State.unwedged { u with loupe := { u.loupe with mark := true } } := fun _ hu => hu
  exact unwedged_ite (hmark _ hwords) h

/-! ### The register port -/

theorem State.unwedged_guardEffect (src : Src) (a : Nat) (v : Word) (h : s.unwedged) : (s.guardEffect src a v).unwedged := by
  unfold State.guardEffect
  refine unwedged_ite h (unwedged_ite ?_ (unwedged_ite (unwedged_ite h h) (unwedged_ite (unwedged_ite ?_ h) (unwedged_ite h
    (unwedged_ite h (unwedged_ite (unwedged_ite ?_ h) (unwedged_ite (unwedged_ite (State.unwedged_makeWipe _ h) h)
      (unwedged_ite (State.unwedged_patchWrite v h) (unwedged_ite (State.unwedged_requestLife v h) h)))))))))
  · exact h.through fun c => State.conf_override v c (by decide) fun _ _ => trivial
  · exact h.through fun c => State.conf_endLoopAt c (by decide) fun _ _ => trivial
  · exact h.through fun c => State.conf_masterOn c (by decide) fun _ _ => trivial

theorem State.unwedged_guardCommit (src : Src) (a : Nat) (v : Word) (h : s.unwedged) : (s.guardCommit src a v).1.unwedged := by
  have hread : (s.guardReads src a v).unwedged := h.through fun c => State.conf_guardReads src a v c (by decide) fun _ _ => trivial
  unfold State.guardCommit
  dsimp only
  split
  · exact hread
  · exact State.unwedged_guardEffect src a v (unwedged_ite hread hread)

theorem State.unwedged_guardFault (src : Src) (reason a : Nat) (h : s.unwedged) : (s.guardFault src reason a).unwedged :=
  h.through fun c => State.conf_guardFault src reason a c (by decide) fun _ _ => trivial

theorem State.unwedged_setArmed (src : Src) (o : Option Armed) (h : s.unwedged) : (s.setArmed src o).unwedged :=
  h.through fun c => State.conf_setArmed src o c (by decide) fun _ _ => trivial

theorem State.unwedged_writeG (src : Src) (a : Nat) (v : Word) (burst : Bool) (h : s.unwedged) : (s.writeG src a v burst).1.unwedged := by
  unfold State.writeG
  split
  · exact State.unwedged_guardFault src 4 a h
  · split
    · exact State.unwedged_setArmed src _ h
    · split
      · exact State.unwedged_guardFault src 0 a h
      · have hnone := State.unwedged_setArmed src none h
        dsimp only
        split
        · exact State.unwedged_guardCommit src _ _ hnone
        · exact State.unwedged_guardFault src 1 a hnone

theorem State.unwedged_highEffect (src : Src) (a : Nat) (old v new : Word) (h : s.unwedged) : (s.highEffect src a old v new).unwedged := by
  have hverify : ∀ (u : State) n, u.unwedged → (u.verifyRestart n).unwedged := fun u n hu =>
    hu.through fun c => State.conf_verifyRestart n c (by decide) fun _ _ => trivial
  unfold State.highEffect
  refine unwedged_ite (unwedged_ite ?_ h) (unwedged_ite ?_ (unwedged_ite (unwedged_ite h (unwedged_foldl hverify _ h))
    (unwedged_ite (unwedged_ite h ?_) (unwedged_ite (unwedged_ite h h) (unwedged_ite (unwedged_ite ?_ h) ?_)))))
  · exact h.through fun c => State.conf_startSearch _ c (by decide) fun _ _ => trivial
  · exact State.unwedged.through (s := s.setReg a old) h fun c => State.conf_writeLatch _ v c (by decide) fun _ _ => trivial
  · exact h.through fun c => State.conf_fogEnd c (by decide) fun _ _ => trivial
  · exact h.through fun c => State.conf_fixerRelease _ c (by decide) fun _ _ => trivial
  · split
    · exact unwedged_ite h (hverify s _ h)
    · exact h

theorem State.unwedged_writeM (src : Src) (a : Nat) (v : Word) (h : s.unwedged) : (s.writeM src a v).1.unwedged := by
  unfold State.writeM
  dsimp only
  split
  · exact h
  · split
    · exact h
    · refine unwedged_ite h (unwedged_ite ?_ (unwedged_ite ?_ (State.unwedged_highEffect src a _ v _ h)))
      · exact State.unwedged.through (s := s.setReg a _) h fun c => State.conf_arrayEffect src a v _ c (by decide) fun _ _ => trivial
      · exact State.unwedged.through (s := s.setReg a _) h fun c => State.conf_watchEffect a _ _ c (by decide) fun _ _ => trivial

theorem State.unwedged_portWrite (src : Src) (a : Nat) (v : Word) (burst : Bool) (h : s.unwedged) :
    (s.portWrite src a v burst).1.unwedged := by
  have htouch : (s.touch src a true burst).unwedged := h.through fun c => State.conf_touch src a true burst c (by decide) fun _ _ => trivial
  unfold State.portWrite
  dsimp only
  split
  · exact htouch
  · split
    · exact htouch
    · exact htouch
    · exact htouch.through fun c => State.conf_writeS a v c (by decide) fun _ => trivial
    · exact State.unwedged_writeG src a v burst htouch
    · exact State.unwedged_writeM src a v htouch
    · exact htouch.through fun c => State.conf_writeF a v c (by decide) fun _ => trivial
    · exact htouch

theorem State.unwedged_accessWrite (src : Src) (a : Nat) (v : Word) (h : s.unwedged) : (s.accessWrite src a v).unwedged :=
  unwedged_ite h (unwedged_ite h (State.unwedged_portWrite src a v false h))

theorem State.unwedged_accessRead (src : Src) (a : Nat) (h : s.unwedged) : (s.accessRead src a).unwedged :=
  h.through fun c => State.conf_accessRead src a c (by decide) fun _ => trivial

theorem State.unwedged_endCycle (h : s.unwedged) : s.endCycle.unwedged :=
  h.through fun c => State.conf_endCycle c (by decide) fun _ _ => trivial

theorem State.unwedged_loupeRead (addr width : Nat) (h : s.unwedged) : (s.loupeRead addr width).unwedged := by
  have htwo := State.unwedged_accessRead .loupe (busAddr (addr + 4))
    (State.unwedged_endCycle (State.unwedged_accessRead .loupe (busAddr addr) h))
  unfold State.loupeRead
  refine unwedged_ite h (unwedged_ite ?_ (unwedged_ite ?_ (unwedged_ite (State.unwedged_accessRead _ _ h) (unwedged_ite htwo htwo))))
  · exact h.through fun c => State.conf_unaligned _ _ c (by decide) fun _ _ => trivial
  · exact h.through fun c => State.conf_narrowRead _ _ c (by decide) fun _ _ => trivial

theorem State.unwedged_cmdWord (c : Cmd) (k : Nat) (h : s.unwedged) : (s.cmdWord c k).1.unwedged := by
  unfold State.cmdWord
  dsimp only
  split
  · exact h.through fun c => State.conf_portRead .host _ c (by decide) fun _ => trivial
  · exact State.unwedged_portWrite .host _ _ _ h

theorem State.unwedged_complete (c : Cmd) (status : Nat) (data : List Word) (h : s.unwedged) : (s.complete c status data).unwedged :=
  h.through fun hc => State.conf_complete c status data hc (by decide) fun _ _ => trivial

theorem State.unwedged_cmdWords (c : Cmd) (n : Nat) (h : s.unwedged) : (s.cmdWords c n).unwedged := by
  induction n generalizing s with
  | zero => exact h
  | succ n ih =>
    have hword := State.unwedged_cmdWord c s.queue.done h
    unfold State.cmdWords
    dsimp only
    exact unwedged_ite (State.unwedged_complete c _ _ hword) (unwedged_ite (State.unwedged_complete c _ _ hword)
      (ih (State.unwedged_endCycle (s := { State.cmdWord s c s.queue.done |>.1 with queue := _ }) hword)))

theorem State.unwedged_hostRun (op n : Nat) (h : s.unwedged) : (s.hostRun op n).unwedged := by
  unfold State.hostRun
  split
  · exact h
  · next c _ _ =>
    have hbegin : (s.beginCmd c).unwedged := h.through fun hc => State.conf_beginCmd c hc (by decide) fun _ _ => trivial
    refine unwedged_ite h (unwedged_ite hbegin (unwedged_ite (State.unwedged_complete c _ _ ?_) (State.unwedged_cmdWords c n hbegin)))
    exact hbegin.through fun c => State.conf_breakPair .host c (by decide) fun _ _ => trivial

theorem State.unwedged_readStep (who : ReadBy) (h : s.unwedged) : (s.readStep who).unwedged := by
  cases who with
  | host n => exact State.unwedged_hostRun 1 n h
  | loupe addr width => exact State.unwedged_loupeRead addr width h

theorem State.unwedged_guardedWrite (src : Src) (a : Nat) (fits : Word → Bool) (v : Word) (h : s.unwedged) :
    (s.guardedWrite src a fits v).unwedged := by
  have hwrite := State.unwedged_accessWrite src (a + 4) v h
  unfold State.guardedWrite
  split
  · exact unwedged_ite h hwrite
  · exact hwrite

theorem State.unwedged_commandWrite (src : Src) (a : Nat) (fits : Word → Word → Bool) (v : Word) (h : s.unwedged) :
    (s.commandWrite src a fits v).unwedged := unwedged_ite (State.unwedged_accessWrite src a v h) h

/-! ### Frames, headers and rate boundaries -/

theorem State.unwedged_resetAll (s : State) (power : Power) (cause : Nat) : (s.resetAll power cause).unwedged := rfl

theorem State.unwedged_powerLoss (s : State) : s.powerLoss.unwedged := rfl

theorem State.unwedged_holdRise (h : s.unwedged) : s.holdRise.unwedged := unwedged_ite rfl h

theorem State.unwedged_startBlocks (b : Nat → Bool) (h : s.unwedged) : (s.startBlocks b).unwedged := by
  have hfront := unwedged_ite (p := b 0 = true) (h.through fun c => State.conf_updateChans (State.conf_updateBiases c (by decide)
    fun _ _ => trivial) (by decide) fun _ _ => trivial) h
  have hhq := unwedged_ite (p := b 1 = true) (hfront.through fun c => State.conf_aperBegin (State.conf_hqBegin c (by decide)
    fun _ _ => trivial) (by decide) fun _ _ => trivial) hfront
  exact unwedged_ite (State.unwedged_startLoupe hhq) hhq

theorem State.unwedged_domainGood (d : Nat) (h : s.unwedged) : (s.domainGood d).unwedged := unwedged_ite (State.unwedged_startBlocks _ h) h

theorem State.unwedged_cancelCount (h : s.unwedged) : s.cancelCount.unwedged := by
  have hnoted := State.unwedged_reported (s := { s with clk := { s.clk with rcTarget := 0, rcCount := 0 } })
    Reg.CHIP_MODE_STATUS 1 Log.MODE 2 (ofBytes s.clk.rcTarget s.clk.rcCount 0 0) 0 h
  refine unwedged_ite ?_ (State.unwedged_loupeCancel ?_)
  · exact hnoted.through fun c => State.conf_dropSegments (State.conf_domainsOff c (by decide) fun _ _ => trivial) (by decide)
      fun _ _ => trivial
  · exact hnoted.through fun c => State.conf_updateDrain (State.conf_updateWatch (State.conf_updateBiases (State.conf_setPair _ _ c
      trivial trivial) (by decide) fun _ _ => trivial) (by decide) fun _ _ => trivial) (by decide) fun _ _ => trivial

theorem State.unwedged_ignoreCount (target count : Nat) (h : s.unwedged) : (s.ignoreCount target count).unwedged :=
  h.through fun c => State.conf_ignoreCount target count c (by decide) fun _ _ => trivial

theorem State.unwedged_countHeader (w : BitVec 416) (h : s.unwedged) : (s.countHeader w).unwedged := by
  have hcancel := State.unwedged_cancelCount h
  unfold State.countHeader
  refine unwedged_ite (unwedged_ite h (unwedged_ite hcancel (State.unwedged_ignoreCount _ _ hcancel)))
    (unwedged_ite h (unwedged_ite ?_ (State.unwedged_ignoreCount _ _ h)))
  exact h.through fun c => State.conf_beginCount _ _ c (by decide) fun _ _ => trivial

theorem State.unwedged_selectedHeader (x : Side) (w : BitVec 416) (h : s.unwedged) : (s.selectedHeader x w).unwedged :=
  have hepoch : State.unwedged { s with frame := { s.frame with hdrSrc := 1 + sideNum x } } := h
  State.unwedged_countHeader w (hepoch.through fun c => State.conf_faultHeader (State.conf_edgeHeader (State.conf_epochHeader (Hdr.epoch w) c
    (by decide) fun _ _ => trivial) (by decide) fun _ _ => trivial) (by decide) fun _ _ => trivial)

theorem State.unwedged_noteWithheld (old : State) (h : s.unwedged) : (s.noteWithheld old).unwedged :=
  h.through fun c => State.conf_noteWithheld old c (by decide) fun _ _ => trivial

theorem State.unwedged_headerEnd (x : Side) (w : BitVec 416) (skew : BitVec 24) (h : s.unwedged) : (s.headerEnd x w skew).unwedged := by
  have hlink : (s.linkHeader x w skew).1.unwedged := h.through fun c => State.conf_linkHeader x w skew c (by decide) fun _ _ => trivial
  have hchecked := unwedged_ite (p := Hdr.checkOk (s.linkHeader x w skew).1.clk.daylight w = true) hlink
    (hlink.through fun c => State.conf_bothFailed x c (by decide) fun _ _ => trivial)
  have hearly := hchecked.through fun c => State.conf_noteEarly x c (by decide) fun _ _ => trivial
  have hown := hearly.through fun c => State.conf_ownHeader c (by decide) fun _ _ => trivial
  unfold State.headerEnd
  refine unwedged_ite (h.through fun c => State.conf_forwardHeader _ _ _ _ c (by decide) fun _ _ => trivial) (unwedged_ite h ?_)
  refine unwedged_ite hlink (unwedged_ite (State.unwedged_noteWithheld s hchecked) (State.unwedged_noteWithheld s ?_))
  exact (unwedged_ite (State.unwedged_selectedHeader x w hearly) hown).through fun c => State.conf_markStanding c (by decide)
    fun _ _ => trivial

theorem State.unwedged_frameWork (i : FrameIn) (h : s.unwedged) : (s.frameWork i).unwedged := by
  have hdue : s.dueAborts.unwedged := h.through fun c => State.conf_dueAborts c (by decide) fun _ _ => trivial
  have hepoch : s.dueAborts.applyEpochHi.unwedged := hdue.through fun c => State.conf_applyEpochHi c (by decide) fun _ _ => trivial
  have hhand : ∀ u : State, u.unwedged → u.applyOverride.startLoop.startProof.logHandOver.unwedged := fun u hu =>
    hu.through fun c => State.conf_logHandOver (State.conf_startProof (State.conf_startLoop (State.conf_applyOverride c (by decide)
      fun _ _ => trivial) (by decide) fun _ _ => trivial) (by decide) fun _ _ => trivial) (by decide) fun _ _ => trivial
  have hchecks : ∀ u : State, u.unwedged → (u.sampleControls.parityChecks i).unwedged := fun u hu =>
    hu.through fun c => State.conf_parityChecks i (State.conf_sampleControls c (by decide) fun _ _ => trivial) (by decide) fun _ => trivial
  unfold State.frameWork
  extract_lets due epoch clk counted handed
  have hcounted : counted.unwedged := unwedged_ite (p := (i.faw == .expected) = true) hepoch hdue
  exact hchecks _ (State.unwedged_noteFrameLen i.len (hhand counted hcounted))

theorem State.unwedged_selectedStart (x : Side) (i : FrameIn) (h : s.unwedged) : (s.selectedStart x i).unwedged := by
  have hlink : ∀ u : State, u.unwedged → (u.linkFrameStart x i).unwedged := fun u hu =>
    hu.through fun c => State.conf_linkFrameStart x i c (by decide) fun _ _ => trivial
  have htrain : ∀ u : State, u.unwedged → (u.trainFrame x i).unwedged := fun u hu =>
    hu.through fun c => State.conf_trainFrame x i c (by decide) fun _ _ => trivial
  have hjudge : ∀ (u : State) (held first : Bool), u.unwedged → (u.judgeClock i held first).unwedged := fun u held first hu =>
    hu.through fun c => State.conf_judgeClock i held first c (by decide) fun _ _ => trivial
  have hlost : ∀ (u v : State) (held : Bool), u.unwedged → ((u.faultBegan v).lostCopy x i held).unwedged := fun u v held hu =>
    hu.through fun c => State.conf_lostCopy x i held (State.conf_faultBegan v c (by decide) fun _ _ => trivial) (by decide)
      fun _ _ => trivial
  have hframe : State.unwedged { s.newFlagFrame with link := { s.link with skewValid := false } } := h
  unfold State.selectedStart
  extract_lets ordinary held first flagged link framed line judged
  have hline : line.unwedged := unwedged_ite (hlink framed hframe) (htrain framed hframe)
  exact unwedged_ite hline (State.unwedged_frameWork i (hlost judged line held (unwedged_ite (hjudge line held first hline) hline)))

theorem State.unwedged_outRestarted (x : Side) (i : FrameIn) (h : s.unwedged) : ((s.restoreOut x i).outStart x i).unwedged :=
  h.through fun c => State.conf_outStart x i (State.conf_restoreOut x i c (by decide) fun _ _ => trivial) (by decide) fun _ _ => trivial

theorem State.unwedged_frameStart (x : Side) (i : FrameIn) (h : s.unwedged) : (s.frameStart x i).unwedged := by
  have hreset : (s.resetFrame x).unwedged := h.through fun c => State.conf_resetFrame x c (by decide) fun _ _ => trivial
  unfold State.frameStart
  refine unwedged_ite (State.unwedged_outRestarted x i hreset) (unwedged_ite hreset ?_)
  have hcount := hreset.through fun c => State.conf_countProof x (((s.resetFrame x).sd x).marker i) c (by decide) fun _ _ => trivial
  refine unwedged_ite (hcount.through fun c => State.conf_otherStart x _ c (by decide) fun _ _ => trivial)
    (unwedged_ite (State.unwedged_outRestarted x _ (State.unwedged_resetAll _ _ _)) ?_)
  exact (State.unwedged_noteWithheld _ (State.unwedged_selectedStart x _ hcount)).through fun c => State.conf_modSd x _ c (by decide)
    fun _ _ => trivial

theorem State.unwedged_tick (i : TickIn) (h : s.unwedged) : (s.tick i).unwedged := by
  have hcount : (s.countTick i).unwedged := h.through fun c => State.conf_countTick i c (by decide) fun _ _ => trivial
  refine unwedged_ite h (unwedged_ite (State.unwedged_tickTj i ?_) hcount)
  exact hcount.through fun c => State.conf_tickStages i (State.conf_tickBiases i c (by decide) fun _ _ => trivial) (by decide)
    fun _ _ => trivial

theorem State.unwedged_toDaylight (h : s.unwedged) : s.toDaylight.unwedged := by
  have hday : ((s.changeRate true).latentToDay s.writingW).devToDay.updateBiases.updateWatch.unwedged :=
    h.through fun c => State.conf_updateWatch (State.conf_updateBiases (State.conf_devToDay (State.conf_latentToDay s.writingW
      (State.conf_changeRate true c (by decide) fun _ _ => trivial) (by decide) fun _ _ => trivial) (by decide) fun _ _ => trivial)
      (by decide) fun _ _ => trivial) (by decide) fun _ _ => trivial
  have hlate : ∀ u : State, u.unwedged → u.domainLate.unwedged := fun u hu =>
    hu.through fun c => State.conf_domainLate c (by decide) fun _ _ => trivial
  have hverify : ∀ (u : State) n, u.unwedged → (u.verifyRestart n).unwedged := fun u n hu =>
    hu.through fun c => State.conf_verifyRestart n c (by decide) fun _ _ => trivial
  have htrain : ∀ u : State, u.unwedged → u.repeatSearch.updateDrain.startTraining.unwedged := fun u hu =>
    hu.through fun c => State.conf_startTraining (State.conf_updateDrain (State.conf_repeatSearch c (by decide) fun _ _ => trivial)
      (by decide) fun _ _ => trivial) (by decide) fun _ _ => trivial
  exact htrain _ (unwedged_foldl hverify _ (hlate _ (State.unwedged_startBlocks _ hday)))

theorem State.unwedged_toSafelight (h : s.unwedged) : s.toSafelight.unwedged := by
  have hfog : s.fogEnd.unwedged := h.through fun c => State.conf_fogEnd c (by decide) fun _ _ => trivial
  have hstage := (State.unwedged_loupeToSafe hfog).through fun c => State.conf_domainsOff (State.conf_devToSafe (State.conf_changeRate false
    (State.conf_stageToSafe (State.conf_printToSafe c (by decide) fun _ _ => trivial) (by decide) fun _ _ => trivial) (by decide)
    fun _ _ => trivial) (by decide) fun _ _ => trivial) (by decide) fun _ _ => trivial
  have hhalt : ∀ (u : State) (f : Nat → Bool), u.unwedged → (u.loseTemplates f).settleTables.mxToSafe.hqHalt.unwedged := fun u f hu =>
    hu.through fun c => State.conf_hqHalt (State.conf_mxToSafe (State.conf_settleTables (State.conf_loseTemplates f c
      (by decide) fun _ _ => trivial) (by decide) fun _ _ => trivial) (by decide) fun _ _ => trivial) (by decide) fun _ _ => trivial
  have hdrain : ∀ u : State, u.unwedged → u.pdmStop.updateChans.updateBiases.updateWatch.updateDrain.unwedged := fun u hu =>
    hu.through fun c => State.conf_updateDrain (State.conf_updateWatch (State.conf_updateBiases (State.conf_updateChans
      (State.conf_pdmStop c (by decide) fun _ _ => trivial) (by decide) fun _ _ => trivial) (by decide) fun _ _ => trivial) (by decide)
      fun _ _ => trivial) (by decide) fun _ _ => trivial
  have htrain : ∀ u : State, u.unwedged → u.dropSegments.startTraining.unwedged := fun u hu =>
    hu.through fun c => State.conf_startTraining (State.conf_dropSegments c (by decide) fun _ _ => trivial) (by decide) fun _ _ => trivial
  unfold State.toSafelight
  have hwriter : ∀ u : State, u.unwedged → State.unwedged { u with fixer := { u.fixer with byLoupe := false } } := fun _ hu => hu
  exact htrain _ (hwriter _ (hdrain _ (hhalt _ _ hstage)))

theorem State.unwedged_rateBoundary (h : s.unwedged) : s.rateBoundary.unwedged :=
  unwedged_ite h (State.unwedged_noteWithheld s ((unwedged_ite (State.unwedged_toDaylight h) (State.unwedged_toSafelight h)).through
    fun c => State.conf_writeRecords c (by decide) fun _ _ => trivial))

theorem State.unwedged_strapBlocks (h : s.unwedged) : s.strapBlocks.unwedged := by
  have hblocks : (s.strapAper s.single).strapMx.strapDev.strapSheet.strapPrint.strapStage.unwedged :=
    h.through fun c => State.conf_strapStage (State.conf_strapPrint (State.conf_strapSheet (State.conf_strapDev (State.conf_strapMx
      (State.conf_strapAper s.single c (by decide) fun _ _ => trivial) (by decide) fun _ _ => trivial) (by decide) fun _ _ => trivial)
      (by decide) fun _ _ => trivial) (by decide) fun _ _ => trivial) (by decide) fun _ _ => trivial
  have hwatch : ∀ u : State, u.unwedged → u.strapLatent.updateBiases.updateWatch.unwedged := fun u hu =>
    hu.through fun c => State.conf_updateWatch (State.conf_updateBiases (State.conf_strapLatent c (by decide)
      fun _ _ => trivial) (by decide) fun _ _ => trivial) (by decide) fun _ _ => trivial
  unfold State.strapBlocks
  generalize (s.strapAper s.single).strapMx.strapDev.strapSheet.strapPrint.strapStage = u at hblocks ⊢
  dsimp only
  exact hwatch _ hblocks

theorem State.unwedged_strapDone (addr role biasv : StrapSample) (fore : ForeSample) (h : s.unwedged) :
    (s.strapDone addr role biasv fore).unwedged := by
  have hflags : ∀ (u : State) (a r b : Nat) (f : Bool) (m : Half), u.unwedged →
      ((u.strapLoad a r b f).setFlags Reg.CHIP_ID_STATUS m).unwedged := fun u a r b f m hu =>
    hu.through fun c => State.conf_setFlags _ _ (State.conf_strapLoad a r b f c (by decide) fun _ => trivial) (by decide) trivial
  have hreset : ∀ u : State, u.unwedged → u.noteReset.unwedged := fun u hu =>
    hu.through fun c => State.conf_noteReset c (by decide) fun _ _ => trivial
  unfold State.strapDone
  dsimp only
  have hraise : ∀ (u : State) (e : Nat × Nat), u.unwedged → (u.raise Log.IDENT 1 (ofBytes e.1 e.2 0 0)).unwedged := fun _ _ hu => hu
  exact hreset _ (State.unwedged_strapBlocks (unwedged_foldl hraise _ (hflags _ _ _ _ _ _ h)))

/-! ### The hardware beside a write -/

theorem State.unwedged_hardware (b : Beside) (h : s.unwedged) : (s.hardware b).unwedged := by
  cases b with
  | frameStart x i => exact State.unwedged_frameStart x i h
  | headerEnd x w skew => exact State.unwedged_headerEnd x w skew h
  | sideDown x c => exact h.through fun hc => State.conf_sideDown x c hc (by decide) fun _ _ => trivial
  | showDecision => exact h.through fun hc => State.conf_showDecision hc (by decide) fun _ _ => trivial
  | rateBoundary => exact State.unwedged_rateBoundary h
  | hqBoundary i => exact h.through fun hc => State.conf_hqBoundary i hc (by decide) fun _ _ => trivial
  | lpBoundary sent bad => exact h.through fun hc => State.conf_lpBoundary sent bad hc (by decide) fun _ _ => trivial
  | devBlock i => exact h.through fun hc => State.conf_blockStep i hc (by decide) fun _ _ => trivial
  | biasShort k => exact h.through fun hc => State.conf_shortStep k hc (by decide) fun _ _ => trivial
  | readInstant n i => exact h.through fun hc => State.conf_instantStep n i hc (by decide) fun _ _ => trivial
  | swsLost n => exact h.through fun hc => State.conf_lostStep n hc (by decide) fun _ _ => trivial
  | thermalTrip n => exact h.through fun hc => State.conf_thermalStep n hc (by decide) fun _ _ => trivial
  | tjTrip k => exact State.unwedged_tripStep k h
  | watchdog => exact State.unwedged_expiryStep h
  | fogStep i => exact h.through fun hc => State.conf_fogMove i hc (by decide) fun _ _ => trivial
  | tankAccess rs => exact State.unwedged_accessStep rs h
  | logWrite => exact h.through fun hc => State.conf_logWrite hc (by decide) fun _ _ => trivial

theorem State.unwedged_besideStep (b : Option Beside) (h : s.unwedged) : (s.besideStep b).unwedged := by
  cases b with
  | none => exact h
  | some b => exact State.unwedged_hardware b h

theorem State.unwedged_cycleWrite (src : Src) (a : Nat) (v : Word) (b : Option Beside) (h : s.unwedged) :
    (s.cycleWrite src a v b).unwedged :=
  unwedged_ite (State.unwedged_besideStep b (State.unwedged_accessWrite src a v h))
    (State.unwedged_accessWrite src a v (State.unwedged_besideStep b h))

theorem State.unwedged_registerWrite (src : Src) (addr : Nat) (i : WriteIn) (h : s.unwedged) : (s.registerWrite src addr i).unwedged := by
  have hbeside := State.unwedged_besideStep i.beside h
  unfold State.registerWrite
  split
  · exact unwedged_ite (State.unwedged_cycleWrite _ _ _ _ h) hbeside
  · exact unwedged_ite (State.unwedged_accessWrite _ _ _ (State.unwedged_endCycle (State.unwedged_cycleWrite _ _ _ _ h))) hbeside
  · exact hbeside

end

/-! ### Commands -/

/-- Command `c` leaves the Loupe out of a faulted handler. -/
def KeepsUnwedged (c : Instr) (s : State) : Prop := s.unwedged → ∀ t, exec c s = .next t → t.unwedged

/-- A command whose parts do not include the Loupe. -/
theorem keepsUnwedged_of_outside {c : Instr} {s : State} (h : (touchedParts c).contains .loupe = false) : KeepsUnwedged c s := by
  intro hs t hexec
  obtain ⟨u, hexec', ⟨⟨hparts, -⟩, -⟩, -⟩ := exec_doesItsOwn c s
  obtain rfl : t = u := Host.Outcome.next.inj (hexec.symm.trans hexec')
  have hloupe : t.loupe = s.loupe := hparts .loupe (by simpa using h)
  exact hs.of_eq (congrArg Loupe.wedged hloupe)

/-- A command that ends its cycle on a state out of a faulted handler. -/
theorem keepsUnwedged_of_op {c : Instr} {s u : State} (h : s.unwedged → u.unwedged) (hexec : exec c s = .next u.endCycle) :
    KeepsUnwedged c s := by
  intro hs t ht
  obtain rfl : t = u.endCycle := Host.Outcome.next.inj (ht.symm.trans hexec)
  exact State.unwedged_endCycle (h hs)

theorem exec_keepsUnwedged (c : Instr) (s : State) : KeepsUnwedged c s := by
  cases c with
  | powerLoss => exact keepsUnwedged_of_op (fun _ => s.unwedged_powerLoss) rfl
  | holdRise => exact keepsUnwedged_of_op State.unwedged_holdRise rfl
  | strapReadDone a r b f => exact keepsUnwedged_of_op (fun h => unwedged_ite (State.unwedged_strapDone a r b f h) h) rfl
  | tick i => exact keepsUnwedged_of_op (State.unwedged_tick i) rfl
  | frameStart x i => exact keepsUnwedged_of_op (State.unwedged_frameStart x i) rfl
  | headerEnd x w skew => exact keepsUnwedged_of_op (State.unwedged_headerEnd x w skew) rfl
  | read who => exact keepsUnwedged_of_op (State.unwedged_readStep who) rfl
  | write n => exact keepsUnwedged_of_op (State.unwedged_hostRun 2 n) rfl
  | writeP n => exact keepsUnwedged_of_op (State.unwedged_hostRun 3 n) rfl
  | burstRead n => exact keepsUnwedged_of_op (State.unwedged_hostRun 4 n) rfl
  | burstWrite n => exact keepsUnwedged_of_op (State.unwedged_hostRun 5 n) rfl
  | burstWriteP n => exact keepsUnwedged_of_op (State.unwedged_hostRun 6 n) rfl
  | registerWrite src addr i => exact keepsUnwedged_of_op (State.unwedged_registerWrite src addr i) rfl
  | wipe src v => exact keepsUnwedged_of_op (State.unwedged_guardedWrite src _ _ v) rfl
  | lifecycleRequest src v => exact keepsUnwedged_of_op (State.unwedged_guardedWrite src _ _ v) rfl
  | patchActivate src v => exact keepsUnwedged_of_op (State.unwedged_guardedWrite src _ _ v) rfl
  | patchDeactivate src v => exact keepsUnwedged_of_op (State.unwedged_guardedWrite src _ _ v) rfl
  | loupeRestart src v => exact keepsUnwedged_of_op (State.unwedged_guardedWrite src _ _ v) rfl
  | echo src v => exact keepsUnwedged_of_op (State.unwedged_commandWrite src _ _ v) rfl
  | snapshot src v => exact keepsUnwedged_of_op (State.unwedged_commandWrite src _ _ v) rfl
  | extreme src v => exact keepsUnwedged_of_op (State.unwedged_commandWrite src _ _ v) rfl
  | patchSum src v => exact keepsUnwedged_of_op (State.unwedged_commandWrite src _ _ v) rfl
  | mbxPatchOp src v => exact keepsUnwedged_of_op (State.unwedged_commandWrite src _ _ v) rfl
  | mbxDone p snap => exact keepsUnwedged_of_op (fun h => unwedged_ite (State.unwedged_mbxDone p snap h) h) rfl
  | atomicAdd w l i => exact keepsUnwedged_of_op (fun h => unwedged_ite (State.unwedged_faultExpiry _) h) rfl
  | atomicSwap w l i => exact keepsUnwedged_of_op (fun h => unwedged_ite (State.unwedged_faultExpiry _) h) rfl
  | rateBoundary => exact keepsUnwedged_of_op State.unwedged_rateBoundary rfl
  | domainPowerGood d => exact keepsUnwedged_of_op (State.unwedged_domainGood d) rfl
  | loupeReady => exact keepsUnwedged_of_op (fun h => unwedged_ite (State.unwedged_loupeReady h) h) rfl
  | loupeShutdownDone => exact keepsUnwedged_of_op State.unwedged_loupeShut rfl
  | sensorSample r => exact keepsUnwedged_of_op (fun h => unwedged_ite (State.unwedged_takeSensors r h) h) rfl
  | tjTrip k => exact keepsUnwedged_of_op (State.unwedged_tripStep k) rfl
  | patchVerifyDone => exact keepsUnwedged_of_op (fun h => unwedged_ite (State.unwedged_verifyDone h) h) rfl
  | lifecycle => exact keepsUnwedged_of_op (fun h => unwedged_ite (State.unwedged_lifecycle h) h) rfl
  | watchdog => exact keepsUnwedged_of_op State.unwedged_expiryStep rfl
  | tamper => exact keepsUnwedged_of_op State.unwedged_tamperEdge rfl
  | wipeDone failAt => exact keepsUnwedged_of_op (State.unwedged_wipeEnd failAt) rfl
  | tankAccess rs => exact keepsUnwedged_of_op (State.unwedged_accessStep rs) rfl
  | floorFuseRaised => exact keepsUnwedged_of_op (fun h => unwedged_ite (State.unwedged_raiseFloor h) h) rfl
  | _ => exact keepsUnwedged_of_outside rfl

/-- Settles O4: every command keeps the queues' bounds and Tank's form, ends its cycle, and leaves no handler faulted. -/
theorem stepKeepsSoundState : Obligations.StepKeepsSoundState := by
  unfold Obligations.StepKeepsSoundState
  intro s t hsound hstep
  obtain rfl | ⟨c, rest, -, hexec⟩ := step_cases hstep
  · exact hsound
  · obtain ⟨hmem, -, hstaged, hevents, hwedged⟩ := hsound
    obtain ⟨u, hexec', -, ⟨hmem', -, hstaged', hevents'⟩, hbetween⟩ := exec_doesItsOwn c { s with pending := rest }
    obtain rfl : t = u := Host.Outcome.next.inj (hexec.symm.trans hexec')
    exact ⟨hmem' hmem, hbetween, hstaged' hstaged, hevents' hevents, exec_keepsUnwedged c { s with pending := rest } hwedged t hexec⟩

end Sys2Proof.Machine
end

section
/-! PROOFS. The release of the power-on reset, HOLD and the loss of power (R115, R134, R532 to R535, R612, R637, R638): what the wipe's pending
state becomes, what a block at rest holds, and the statements drawn from them. -/

namespace Sys2Proof.Machine

/-! ### A pending wipe -/

/-- A wipe asked for pends, or joins the one that does or that runs, and its cause is not lower (R638). -/
theorem State.pendWipe_bank (s : State) (cause : Nat) :
    s.pendWipe cause = { s with bank := { s.bank with
      wipePend := (s.pendWipe cause).bank.wipePend, wipeCause := (s.pendWipe cause).bank.wipeCause } } ∧
    ((s.pendWipe cause).bank.wipePend || (s.pendWipe cause).bank.wiping) = true ∧ cause ≤ (s.pendWipe cause).bank.wipeCause := by
  unfold State.pendWipe
  split
  · next h => exact ⟨rfl, h, Nat.le_max_right _ _⟩
  · exact ⟨rfl, rfl, Nat.le_refl _⟩

/-! ### The release of the power-on reset -/

/-- The release ends with nothing left over, and leaves every part but the clock, the link and Tank (R532). -/
theorem State.endCycle_porRelease {s : State} (hbetween : s.between) : s.porRelease.endCycle = s.porRelease := by
  obtain ⟨hbank, -⟩ := State.pendWipe_bank { s with clk := { s.clk with power := if s.mode.holdPin then .hold else .up }
                                                    link := { s.link with forwarding := true }
                                                    bank := { s.bank with tamperLatch := s.bank.tamperPin } } 1
  refine State.endCycle_of_between ?_
  rw [State.porRelease, hbank]
  exact hbetween

/-- POR_RELEASE under the asserted reset is the release (R707). -/
theorem exec_porRelease {s : State} (hbetween : s.between) (hreset : s.clk.power = .off ∨ s.clk.power = .por) :
    exec .porRelease s = .next s.porRelease := by
  have hunreleased : s.unreleased = true := by
    obtain h | h := hreset <;> simp [State.unreleased, h]
  change Host.Outcome.next (if s.unreleased then s.porRelease else s).endCycle = _
  rw [if_pos hunreleased, State.endCycle_porRelease hbetween]

/-- Settles O8: the release changes three parts, and the wipe it asks for is what it leaves of Tank's besides the latch. -/
theorem powerOnResetReleases : Obligations.PowerOnResetReleases := by
  unfold Obligations.PowerOnResetReleases
  intro s hbetween hreset
  obtain ⟨hbank, hpending, hcause⟩ := State.pendWipe_bank { s with clk := { s.clk with power := if s.mode.holdPin then .hold else .up }
                                                                   link := { s.link with forwarding := true }
                                                                   bank := { s.bank with tamperLatch := s.bank.tamperPin } } 1
  have hclk : s.porRelease.clk = { s.clk with power := if s.mode.holdPin then .hold else .up } := congrArg State.clk hbank
  have hlink : s.porRelease.link = { s.link with forwarding := true } := congrArg State.link hbank
  refine ⟨_, exec_porRelease hbetween hreset, hclk, hlink, fun hloop => ?_, congrArg State.bank hbank, hpending, hcause, ?_⟩
  · simp [State.outClocked, hclk, hlink, hloop]
  · rw [State.porRelease, hbank]

/-! ### HOLD and the loss of power -/

/-- HOLD falling ends the reset of HOLD, in SAFELIGHT with the straps to be read (R535). -/
theorem exec_holdFall {s : State} (hbetween : s.between) (hhold : s.clk.power = .hold) : exec .holdFall s = .next
    { s with clk := { s.clk with power := .up }, mode := { s.mode with holdPin := false, cause := 1 } } := by
  change Host.Outcome.next s.holdFall.endCycle = _
  rw [State.holdFall, if_pos hhold]
  exact congrArg _ (State.endCycle_of_between hbetween)

/-- Under HOLD a stage keeps its code (R612). -/
theorem State.code_resetAll (s : State) (power : Power) (cause n : Nat) : ((s.resetAll power cause).stageCh n).code = (s.stageCh n).code := by
  have hmap : (s.resetAll power cause).stageCh n = nth (s.stage.ch.map fun c => ({ code := c.code } : StageCh)) n {} := rfl
  rw [hmap, State.stageCh, nth, nth, List.getD_map (f := fun c : StageCh => ({ code := c.code } : StageCh)) (d := ({} : StageCh))]

/-- Under HOLD every stage stands with SHDN asserted (R533). -/
theorem State.relTick_resetAll (s : State) (power : Power) (cause : Nat) : ∀ c ∈ (s.resetAll power cause).stage.ch, c.relTick = none := by
  intro c hc
  have hmap : (s.resetAll power cause).stage.ch = s.stage.ch.map fun c => ({ code := c.code } : StageCh) := rfl
  rw [hmap, List.mem_map] at hc
  obtain ⟨-, -, rfl⟩ := hc
  rfl

/-- Settles O10: what a reset by HOLD keeps is written into it, and everything else has its value after power-up. -/
theorem holdAndPowerLossReset : Obligations.HoldAndPowerLossReset := by
  unfold Obligations.HoldAndPowerLossReset
  refine ⟨fun s hup => ?_, fun s hbetween hhold => ⟨_, exec_holdFall hbetween hhold, rfl⟩, fun s => ?_⟩
  · refine ⟨_, exec_holdRise hup, State.reg_resetAll _ _ _, State.code_resetAll _ _ _, rfl, rfl, rfl, State.read_resetAll _ _ _,
      fun d hd => ?_, State.relTick_resetAll _ _ _, fun b hb => ?_, rfl, rfl, rfl, rfl, rfl, rfl, rfl, rfl, rfl, rfl, rfl⟩
    · rw [List.eq_of_mem_replicate hd]
      exact ⟨rfl, rfl⟩
    · rw [List.eq_of_mem_replicate hb]
  · exact ⟨_, exec_powerLoss s, fun _ => rfl, fun _ => rfl, rfl, rfl, rfl, rfl, rfl, rfl, rfl, rfl⟩

end Sys2Proof.Machine
end

section
/-! PROOFS. The end of a command (R233, R692): which registers and log entries the end of the cycle leaves, and what a masked write that a
command's conditions let through comes down to. -/

namespace Sys2Proof.Machine

/-! ### The answer and the end of the cycle -/

@[simp] theorem State.answer_reg (s : State) (status : Nat) (data : List Word) (a : Nat) : (s.answer status data).reg a = s.reg a := rfl

@[simp] theorem State.answer_flag (s : State) (status : Nat) (data : List Word) (a i : Nat) : (s.answer status data).flag a i = s.flag a i := rfl

@[simp] theorem State.answer_status (s : State) (status : Nat) (data : List Word) : (s.answer status data).port.status = status := rfl

@[simp] theorem State.answer_data (s : State) (status : Nat) (data : List Word) : (s.answer status data).port.data = data := rfl

@[simp] theorem State.answer_busError (s : State) (status : Nat) (data : List Word) : (s.answer status data).port.busError = false := rfl

/-- An entry is made of the epoch and of the register that decides which entries are events (R456). -/
theorem State.entry_congr {s u : State} (source code : Nat) (lo hi : Word) (hclk : u.clk = s.clk)
    (hreg : u.reg Reg.DEV_WAKE_CFG = s.reg Reg.DEV_WAKE_CFG) : u.entry source code lo hi = s.entry source code lo hi := by
  simp [State.entry, Log.isEvent, State.flag, hclk, hreg]

/-- What is raised stands after what was raised before it, as the entry of its cause. -/
theorem State.raised_raise_entry (s : State) (source code : Nat) (lo hi : Word) :
    (s.raise source code lo hi).fixer.raised = s.fixer.raised ++ [s.entry source code lo hi] := rfl

/-- The entries that a command has raised are staged in their order at the end of the cycle, where the queue has room for them (R692). -/
theorem State.logged_endCycle {s u : State} {n : Nat} {es : List LogEntry} (hroom : s.roomFor n) (hstaged : u.fixer.staged = s.fixer.staged)
    (hraised : u.fixer.raised = es) (hn : es.length ≤ n) : Logged s u.endCycle (Log.sort es) := by
  obtain ⟨-, hroom⟩ := hroom
  have hfits : u.fixer.staged.length + u.fixer.raised.length ≤ 63 := by
    rw [hstaged, hraised]
    omega
  rw [Logged, State.endCycle_fits _ hfits, hraised, hstaged]

/-- One raised entry is staged, where the queue has room for it (R692). -/
theorem State.logged_endCycle_one {s u : State} {e : LogEntry} (hroom : s.roomFor 1) (hstaged : u.fixer.staged = s.fixer.staged)
    (hraised : u.fixer.raised = [e]) : Logged s u.endCycle [e] := State.logged_endCycle hroom hstaged hraised (Nat.le_refl 1)

/-- A command that raises nothing logs nothing. -/
theorem State.logged_endCycle_nil {s u : State} (hstaged : u.fixer.staged = s.fixer.staged) (hraised : u.fixer.raised = []) :
    Logged s u.endCycle [] := by
  simp [Logged, State.endCycle, hraised, hstaged, Log.sort]

/-- The end of the cycle keeps every register where what was raised is staged. -/
theorem State.keepsRegs_endCycle {s u : State} {n : Nat} {l : List Nat} (hroom : s.roomFor n) (hstaged : u.fixer.staged = s.fixer.staged)
    (hn : u.fixer.raised.length ≤ n) (hkeeps : KeepsRegs s u l) : KeepsRegs s u.endCycle l := by
  obtain ⟨-, hroom⟩ := hroom
  have hfits : u.fixer.staged.length + u.fixer.raised.length ≤ 63 := by
    rw [hstaged]
    omega
  rw [State.endCycle_fits _ hfits]
  exact hkeeps

/-- The end of the cycle keeps every register where nothing was raised. -/
theorem State.endCycle_reg_of_calm {u : State} (hraised : u.fixer.raised = []) (a : Nat) : u.endCycle.reg a = u.reg a := by
  rw [State.endCycle, hraised]
  rfl

theorem State.keepsRegs_endCycle_calm {s u : State} {l : List Nat} (hraised : u.fixer.raised = []) (hkeeps : KeepsRegs s u l) :
    KeepsRegs s u.endCycle l := fun a ha => (State.endCycle_reg_of_calm hraised a).trans (hkeeps a ha)

/-! ### A masked write -/

/-- The state in which a masked write has been stored: its self-clearing bits read 0 (R253). -/
def State.storedM (s : State) (a : Nat) (v : Word) : State := s.setReg a (maskedWrite (s.reg a) v &&& ~~~selfClear a)

theorem State.storedM_reg_same (s : State) (a : Nat) (v : Word) : (s.storedM a v).reg a = maskedWrite (s.reg a) v &&& ~~~selfClear a :=
  s.reg_setReg_same a _

theorem State.storedM_reg_other (s : State) {a b : Nat} (v : Word) (h : b ≠ a) : (s.storedM a v).reg b = s.reg b := s.reg_setReg_other _ h

/-- A self-clearing bit reads 0 after the write (R253). -/
theorem State.storedM_flag_clear (s : State) {a i : Nat} (v : Word) (h : bitOf (selfClear a) i = true) (hi : i < 32) :
    (s.storedM a v).flag a i = false := by
  rw [State.flag, State.storedM_reg_same, bitOf, BitVec.getLsbD_and, BitVec.getLsbD_not]
  rw [bitOf] at h
  simp [h, hi]

theorem State.keepsRegs_storedM (s : State) (a : Nat) (v : Word) : KeepsRegs s (s.storedM a v) [a] := s.keepsRegs_setReg a _

@[simp] theorem State.storedM_fixer (s : State) (a : Nat) (v : Word) : (s.storedM a v).fixer = s.fixer := rfl
@[simp] theorem State.storedM_clk (s : State) (a : Nat) (v : Word) : (s.storedM a v).clk = s.clk := rfl
@[simp] theorem State.storedM_decim (s : State) (a : Nat) (v : Word) : (s.storedM a v).decim = s.decim := rfl
@[simp] theorem State.storedM_aper (s : State) (a : Nat) (v : Word) : (s.storedM a v).aper = s.aper := rfl
@[simp] theorem State.storedM_mx (s : State) (a : Nat) (v : Word) : (s.storedM a v).mx = s.mx := rfl
@[simp] theorem State.storedM_dev (s : State) (a : Nat) (v : Word) : (s.storedM a v).dev = s.dev := rfl
@[simp] theorem State.storedM_sheet (s : State) (a : Nat) (v : Word) : (s.storedM a v).sheet = s.sheet := rfl
@[simp] theorem State.storedM_latent (s : State) (a : Nat) (v : Word) : (s.storedM a v).latent = s.latent := rfl
@[simp] theorem State.storedM_bank (s : State) (a : Nat) (v : Word) : (s.storedM a v).bank = s.bank := rfl
@[simp] theorem State.storedM_stage (s : State) (a : Nat) (v : Word) : (s.storedM a v).stage = s.stage := rfl
@[simp] theorem State.storedM_loupe (s : State) (a : Nat) (v : Word) : (s.storedM a v).loupe = s.loupe := rfl

/-- What a masked write sets off once it is stored, by the page of its register. -/
def State.maskedEffect (s : State) (src : Src) (a : Nat) (old v new : Word) : State :=
  if Reg.pageOf a ≤ 3 then s else if Reg.pageOf a ≤ 7 then s.arrayEffect src a v new else if Reg.pageOf a ≤ 10 then s.watchEffect a old new
  else s.highEffect src a old v new

/-- A masked write that no rule refuses is stored, then its effect follows (R233, R253). -/
theorem State.writeM_of_fits {s : State} {src : Src} {a : Nat} {v : Word} (hmask : bits v 31 16 ≠ 0)
    (hfits : s.maskedRefused a v (maskedWrite (s.reg a) v) = false) :
    s.writeM src a v = ((s.storedM a v).maskedEffect src a (s.reg a) v (maskedWrite (s.reg a) v), Status.ok) := by
  simp [State.writeM, hmask, hfits, State.maskedEffect, State.storedM]

/-- A command that is a masked write ends as the write's effect does, with its answer (R233). -/
theorem State.endCycle_commandWrite_effect {s : State} {src : Src} {a : Nat} {v : Word} {fits : Word → Word → Bool}
    (hready : s.writeReady src a v) (hkind : Reg.kindOf a = some .m) (hwindow : ofWindow a = false)
    (hfits : fits (s.reg a) (maskedWrite (s.reg a) v) = true) :
    (s.commandWrite src a fits v).endCycle =
      (((s.storedM a v).maskedEffect src a (s.reg a) v (maskedWrite (s.reg a) v)).answer Status.ok []).endCycle := by
  obtain ⟨-, hreach, hpair, hmask, hpower, hlet⟩ := hready
  have hcommand : s.commandWrite src a fits v = s.accessWrite src a v := by
    simp [State.commandWrite, hmask, hfits]
  rw [hcommand, State.accessWrite_reaching v hreach (fun _ => hwindow), State.portWrite_masked v false hpair hpower hkind,
    State.writeM_of_fits hmask hlet]

end Sys2Proof.Machine
end

section
/-! PROOFS. Swap requests, commits and plan switches (R348, R370, R411, R414): the three masked writes that ask for them, and the statement drawn
from them. -/

namespace Sys2Proof.Machine

/-! ### SWAP_REQUEST -/

/-- What a swap request leaves pending, by COMPAT and the active bank (R348). -/
theorem State.requestSwap_decim (s : State) (target : Nat) : (s.requestSwap target).decim =
    { s.decim with swap := if s.compat = false then s.decim.swap else if target = s.decim.bank then none else some target } := by
  unfold State.requestSwap
  cases hcompat : s.compat with
  | false => simp
  | true =>
    cases hswap : s.decim.swap with
    | some w => simp
    | none =>
      by_cases htarget : target = s.decim.bank
      · have hsame : { s.decim with swap := none } = s.decim := by rw [← hswap]
        simp only [Bool.not_true, Bool.false_eq_true, Bool.true_eq_false, if_false, if_pos htarget]
        exact hsame.symm
      · simp [htarget]

/-- A swap request writes no register but SWAP_REPLACED's. -/
theorem State.keepsRegs_requestSwap (s : State) (target : Nat) : KeepsRegs s (s.requestSwap target) [Reg.DECIM_DECIM_STATUS] := by
  intro a ha
  unfold State.requestSwap
  split
  · rfl
  · split
    · exact State.reg_setFlag_other _ _ (List.ne_of_not_mem_cons ha)
    · split <;> rfl

/-- A request that finds a swap pending reports that it replaced it (R348). -/
theorem State.requestSwap_replaced (s : State) (target : Nat) (hcompat : s.compat = true) (hswap : s.decim.swap.isSome = true) :
    (s.requestSwap target).flag Reg.DECIM_DECIM_STATUS 4 = true := by
  obtain ⟨w, hw⟩ := Option.isSome_iff_exists.1 hswap
  simp only [State.requestSwap, hcompat, hw]
  exact State.flag_setFlag_same _ _ _ (by decide)

/-- A write of SWAP_CTL that leaves REQUEST set asks for the bank that TARGET names (R348). -/
theorem exec_swapRequest {s : State} {src : Src} {v : Word} (hready : s.writeReady src Reg.DECIM_SWAP_CTL v)
    (hreq : bitOf (maskedWrite (s.reg Reg.DECIM_SWAP_CTL) v) 0 = true) :
    exec (.swapRequest src v) s = .next (((s.storedM Reg.DECIM_SWAP_CTL v).requestSwap
      (bits (maskedWrite (s.reg Reg.DECIM_SWAP_CTL) v) 1 1)).answer Status.ok []).endCycle := by
  have heffect : ∀ t : State, t.maskedEffect src Reg.DECIM_SWAP_CTL (s.reg Reg.DECIM_SWAP_CTL) v (maskedWrite (s.reg Reg.DECIM_SWAP_CTL) v) =
      t.requestSwap (bits (maskedWrite (s.reg Reg.DECIM_SWAP_CTL) v) 1 1) := fun t => if_pos hreq
  rw [← heffect]
  exact congrArg Host.Outcome.next (State.endCycle_commandWrite_effect (fits := fun _ new => bitOf new 0) hready rfl rfl hreq)

/-! ### COMMIT -/

/-- The staged table is what the staging registers hold (R370). -/
theorem State.stagedTable_congr {s u : State} (h : ∀ a, Reg.APER_STAGE_TAP_0 ≤ a → a ≤ Reg.APER_STAGE_CFG → u.reg a = s.reg a) :
    u.stagedTable = s.stagedTable := by
  have htaps : (List.range 16).map (fun k => u.reg (Reg.APER_STAGE_TAP_0 + 4 * k)) =
      (List.range 16).map (fun k => s.reg (Reg.APER_STAGE_TAP_0 + 4 * k)) := List.map_congr_left fun k hk => by
    have hk16 := List.mem_range.1 hk
    refine h _ (Nat.le_add_right _ _) ?_
    simp only [Reg.APER_STAGE_TAP_0, Reg.APER_STAGE_CFG]
    omega
  rw [State.stagedTable, State.stagedTable, htaps, h _ (by decide) (Nat.le_refl _)]

/-- A commit leaves the staged table as its beam's pending one, and reports the one that it replaced (R370). -/
theorem State.commitBeam_eq (s : State) (b : Nat) : s.commitBeam b =
    (if (s.beam b).pend.isSome then s.setFlag Reg.APER_APER_STATUS 1 else s).modBeam b
      (fun x => { x with pend := some s.stagedTable, ready := false }) := by
  have hstaged : (s.setFlag Reg.APER_APER_STATUS 1).stagedTable = s.stagedTable := State.stagedTable_congr fun a _ hlast =>
    State.reg_setFlag_other _ _ (by simp only [Reg.APER_STAGE_CFG, Reg.APER_APER_STATUS] at hlast ⊢; omega)
  unfold State.commitBeam
  split
  · simp only [hstaged]
  · rfl

/-- A commit changes its own beam alone (R370). -/
theorem State.commitBeam_beam (s : State) {b c : Nat} (hb : b < s.aper.beams.length) : (s.commitBeam b).beam c =
    if c = b then { s.beam b with pend := some s.stagedTable, ready := false } else s.beam c := by
  have haper : (if (s.beam b).pend.isSome then s.setFlag Reg.APER_APER_STATUS 1 else s).aper = s.aper := by
    split
    · exact State.setFlag_aper ..
    · rfl
  rw [State.commitBeam_eq, State.beam, State.modBeam]
  dsimp only
  rw [haper]
  by_cases hc : c = b
  · rw [if_pos hc, hc, nth_modNth_same _ _ _ _ hb]
    rfl
  · rw [if_neg hc, nth_modNth_other _ _ _ hc]
    rfl

/-- A commit over a pending table reports that it replaced it (R370). -/
theorem State.commitBeam_replaced (s : State) {b : Nat} (hpend : (s.beam b).pend.isSome = true) :
    (s.commitBeam b).flag Reg.APER_APER_STATUS 1 = true := by
  rw [State.commitBeam_eq, if_pos hpend]
  exact s.flag_setFlag_same _ 1 (by decide)

theorem State.commitBeam_reg_other (s : State) (b : Nat) {a : Nat} (h : a ≠ Reg.APER_APER_STATUS) : (s.commitBeam b).reg a = s.reg a := by
  rw [State.commitBeam_eq]
  split
  · exact s.reg_setFlag_other 1 h
  · rfl

/-- A write of COMMIT that leaves GO set commits the staging registers to the beam it names (R370). -/
theorem exec_commit {s : State} {src : Src} {v : Word} (hready : s.writeReady src Reg.APER_COMMIT v)
    (hgo : bitOf (maskedWrite (s.reg Reg.APER_COMMIT) v) 3 = true) :
    exec (.commit src v) s = .next (((s.storedM Reg.APER_COMMIT v).commitBeam
      (bits (maskedWrite (s.reg Reg.APER_COMMIT) v) 2 0)).answer Status.ok []).endCycle := by
  have heffect : ∀ t : State, t.maskedEffect src Reg.APER_COMMIT (s.reg Reg.APER_COMMIT) v (maskedWrite (s.reg Reg.APER_COMMIT) v) =
      t.commitBeam (bits (maskedWrite (s.reg Reg.APER_COMMIT) v) 2 0) := fun t => if_pos hgo
  rw [← heffect]
  exact congrArg Host.Outcome.next (State.endCycle_commandWrite_effect (fits := fun _ new => bitOf new 3) hready rfl rfl hgo)

/-! ### SWITCH_ARM -/

/-- A switch whose epoch has begun is armed for the next frame and reported late (R414). -/
theorem State.mxArm_late {s : State} (h : (s.clk.frameEpoch.truncate 32 - s.reg Reg.MX_SWITCH_EPOCH).toNat < 2 ^ 31) :
    s.mxArm = ({ s with mx := { s.mx with armed := some (s.clk.frameEpoch + 1) } }.setFlag Reg.MX_MX_STATUS 3).raise Log.MX 3
      (s.reg Reg.MX_SWITCH_EPOCH) ((s.clk.frameEpoch + 1).truncate 32) := by
  simp only [State.mxArm, if_pos h]

/-- A switch whose epoch is to come takes it (R411). -/
theorem State.mxArm_timely {s : State} (h : ¬ (s.clk.frameEpoch.truncate 32 - s.reg Reg.MX_SWITCH_EPOCH).toNat < 2 ^ 31) :
    s.mxArm = { s with mx := { s.mx with
      armed := some (s.clk.frameEpoch + (s.reg Reg.MX_SWITCH_EPOCH - s.clk.frameEpoch.truncate 32).zeroExtend 48) } } := by
  simp only [State.mxArm, if_neg h]

/-- A write of SWITCH_CTL that leaves ARM set and CANCEL at 0 arms the switch (R411). -/
theorem exec_switchArm {s : State} {src : Src} {v : Word} (hready : s.writeReady src Reg.MX_SWITCH_CTL v)
    (harm : bitOf (maskedWrite (s.reg Reg.MX_SWITCH_CTL) v) 0 = true) (hcancel : bitOf (maskedWrite (s.reg Reg.MX_SWITCH_CTL) v) 1 = false) :
    exec (.switchArm src v) s = .next ((s.storedM Reg.MX_SWITCH_CTL v).mxArm.answer Status.ok []).endCycle := by
  have heffect : ∀ t : State, t.maskedEffect src Reg.MX_SWITCH_CTL (s.reg Reg.MX_SWITCH_CTL) v (maskedWrite (s.reg Reg.MX_SWITCH_CTL) v) =
      t.mxArm := fun t =>
    (if_neg (by simp [hcancel]) : (if bitOf (maskedWrite (s.reg Reg.MX_SWITCH_CTL) v) 1 then t.mxCancel else _) = _).trans (if_pos harm)
  rw [← heffect]
  exact congrArg Host.Outcome.next (State.endCycle_commandWrite_effect (fits := fun _ new => bitOf new 0 && !bitOf new 1) hready rfl rfl
    (by simp [harm, hcancel]))

/-! ### The statement -/

/-- A swap request: the pending swap, and its report (R348). -/
theorem swapRequest_asks (s : State) (src : Src) (v : Word) (hready : s.writeReady src Reg.DECIM_SWAP_CTL v)
    (hreq : bitOf (maskedWrite (s.reg Reg.DECIM_SWAP_CTL) v) 0 = true) :
    ∃ t, exec (.swapRequest src v) s = .next t ∧ t.port.status = 0 ∧
      t.reg Reg.DECIM_SWAP_CTL = maskedWrite (s.reg Reg.DECIM_SWAP_CTL) v &&& ~~~0x1#32 ∧
      t.decim = { s.decim with swap := if s.flag Reg.DECIM_DECIM_CFG 8 = false then s.decim.swap
                                       else if bits (maskedWrite (s.reg Reg.DECIM_SWAP_CTL) v) 1 1 = s.decim.bank then none
                                       else some (bits (maskedWrite (s.reg Reg.DECIM_SWAP_CTL) v) 1 1) } ∧
      (s.flag Reg.DECIM_DECIM_CFG 8 = true → s.decim.swap.isSome = true → t.flag Reg.DECIM_DECIM_STATUS 4 = true) := by
  have hcompat : (s.storedM Reg.DECIM_SWAP_CTL v).compat = s.flag Reg.DECIM_DECIM_CFG 8 :=
    congrArg (bitOf · 8) (s.storedM_reg_other v (by decide))
  refine ⟨_, exec_swapRequest hready hreq, ?_, ?_, ?_, fun hon hswap => ?_⟩
  · rw [State.endCycle_port, State.answer_status]
  · rw [State.endCycle_reg _ (by decide) (by decide), State.answer_reg, State.keepsRegs_requestSwap _ _ _ (by decide),
      State.storedM_reg_same]
    rfl
  · rw [State.endCycle_decim, State.answer_decim, State.requestSwap_decim, hcompat]
    rfl
  · rw [State.endCycle_flag _ _ (by decide) (by decide), State.answer_flag]
    exact State.requestSwap_replaced _ _ (hcompat.trans hon) hswap

/-- Settles O30: each write comes down to its effect on the state in which it is stored, and the effect to its branches. -/
theorem swapsCommitsAndPlanSwitches : Obligations.SwapsCommitsAndPlanSwitches := by
  unfold Obligations.SwapsCommitsAndPlanSwitches
  refine ⟨swapRequest_asks, ?_, ?_⟩
  · intro s src v hready hbeams hgo
    have hb : bits (maskedWrite (s.reg Reg.APER_COMMIT) v) 2 0 < (s.storedM Reg.APER_COMMIT v).aper.beams.length := by
      rw [State.storedM_aper, hbeams]
      exact Nat.mod_lt _ (by decide)
    have hstaged : (s.storedM Reg.APER_COMMIT v).stagedTable = s.stagedTable := State.stagedTable_congr fun a _ hlast =>
      State.storedM_reg_other _ _ (by simp only [Reg.APER_STAGE_CFG, Reg.APER_COMMIT] at hlast ⊢; omega)
    refine ⟨_, exec_commit hready hgo, ?_, ?_, fun b _ => ?_, fun hpend => ?_⟩
    · rw [State.endCycle_port, State.answer_status]
    · rw [State.endCycle_flag _ _ (by decide) (by decide), State.answer_flag, State.flag, State.commitBeam_reg_other _ _ (by decide)]
      exact s.storedM_flag_clear v rfl (by decide)
    · rw [State.beam, State.endCycle_aper, State.answer_aper, ← State.beam, State.commitBeam_beam _ hb, hstaged]
      by_cases hbeam : b = bits (maskedWrite (s.reg Reg.APER_COMMIT) v) 2 0
      · rw [if_pos hbeam, if_pos hbeam, hbeam]
        rfl
      · rw [if_neg hbeam, if_neg hbeam]
        rfl
    · rw [State.endCycle_flag _ _ (by decide) (by decide), State.answer_flag]
      exact State.commitBeam_replaced _ hpend
  · intro s src v hready hroom harm hcancel
    have hepoch : (s.storedM Reg.MX_SWITCH_CTL v).reg Reg.MX_SWITCH_EPOCH = s.reg Reg.MX_SWITCH_EPOCH := s.storedM_reg_other v (by decide)
    have hraised : s.fixer.raised = [] := hroom.1.1
    have hentry : ∀ (u : State) (hi : Word), u.clk = s.clk → u.reg Reg.DEV_WAKE_CFG = s.reg Reg.DEV_WAKE_CFG →
        (u.setFlag Reg.MX_MX_STATUS 3).entry Log.MX 3 (s.reg Reg.MX_SWITCH_EPOCH) hi = s.entry Log.MX 3 (s.reg Reg.MX_SWITCH_EPOCH) hi :=
      fun u hi hclk hreg => (State.entry_setFlag u 3 _ _ _ _ (by decide)).trans (State.entry_congr _ _ _ _ hclk hreg)
    refine ⟨_, exec_switchArm hready harm hcancel, ?_, ?_, ?_⟩
    · rw [State.endCycle_port, State.answer_status]
    all_goals by_cases hlate : (s.clk.frameEpoch.truncate 32 - s.reg Reg.MX_SWITCH_EPOCH).toNat < 2 ^ 31
    · rw [if_pos hlate, State.endCycle_mx, State.answer_mx, State.mxArm_late (by rwa [hepoch]), State.raise_mx, State.setFlag_mx]
      rfl
    · rw [if_neg hlate, State.endCycle_mx, State.answer_mx, State.mxArm_timely (by rwa [hepoch]), hepoch]
      rfl
    · rw [if_pos hlate, State.mxArm_late (by rwa [hepoch]), hepoch]
      refine ⟨?_, State.logged_endCycle_one hroom ?_ ?_⟩
      · rw [State.endCycle_flag _ _ (by decide) (by decide), State.answer_flag]
        exact State.flag_setFlag_same _ _ _ (by decide)
      · simp
      · have hnext : (s.clk.frameEpoch + 1).truncate 32 = s.clk.frameEpoch.truncate 32 + 1 := BitVec.setWidth_add _ _ (by decide)
        rw [State.answer_fixer, State.raised_raise_entry, State.setFlag_fixer, hentry, State.storedM_clk, hnext]
        · exact congrArg (· ++ _) hraised
        · rfl
        · exact s.storedM_reg_other v (by decide)
    · rw [if_neg hlate, State.mxArm_timely (by rwa [hepoch])]
      exact ⟨State.keepsRegs_endCycle_calm hraised (s.keepsRegs_storedM _ v), State.logged_endCycle_nil rfl hraised⟩

end Sys2Proof.Machine
end

section
/-! PROOFS. The Latent buffer's releases and restart (R485, R486): the three actions of LAT_CTL, and the statement drawn from them. -/

namespace Sys2Proof.Machine

/-- Two bits of a word read 0 together where each does. -/
theorem bits_two_eq_zero_iff (w : Word) (i : Nat) : bits w (i + 1) i = 0 ↔ bitOf w i = false ∧ bitOf w (i + 1) = false := by
  have hlow : bitOf w i = (w.toNat >>> i).testBit 0 := by simp [bitOf, BitVec.getLsbD]
  have hhigh : bitOf w (i + 1) = (w.toNat >>> i).testBit 1 := by simp [bitOf, BitVec.getLsbD]
  rw [hlow, hhigh, bits, show i + 1 + 1 - i = 2 by omega]
  generalize w.toNat >>> i = n
  simp only [Nat.testBit, Nat.shiftRight_zero, Nat.one_and_eq_mod_two, Nat.shiftRight_one]
  simp
  omega

/-- At most one raised entry is staged, where the queue has room for it (R692). -/
theorem State.logged_endCycle_short {s u : State} {n : Nat} {es : List LogEntry} (hroom : s.roomFor (n + 1))
    (hstaged : u.fixer.staged = s.fixer.staged) (hraised : u.fixer.raised = es) (hes : es.length ≤ 1) : Logged s u.endCycle es := by
  have hsorted : Log.sort es = es := by
    match es, hes with
    | [], _ => rfl
    | [_], _ => rfl
  exact hsorted ▸ State.logged_endCycle hroom hstaged hraised (by omega)

/-! ### A release and a restart -/

/-- A ring that no freeze holds and none waits for. -/
abbrev Ring.freed (r : Ring) : Ring := { r with frozen := false, pend := none }

/-- A ring that is neither frozen nor to be frozen is as its release would leave it. -/
theorem Ring.freed_of_not {r : Ring} (h : ¬ (r.frozen || r.pend.isSome) = true) : r.freed = r := by
  obtain ⟨hfrozen, hpend⟩ : r.frozen = false ∧ r.pend = none := by simpa using h
  cases r
  subst hfrozen hpend
  rfl

/-- A release ends the freeze of its ring and the one that waits, and leaves the other ring. -/
theorem State.release_latent (s : State) (watch auto : Bool) : (s.release watch auto).latent =
    if watch then { s.latent with w := s.latent.w.freed } else { s.latent with d := s.latent.d.freed } := by
  by_cases hheld : ((s.ring watch).frozen || (s.ring watch).pend.isSome) = true
  · simp only [State.release, if_pos hheld, State.raise_latent]
    cases watch <;> rfl
  · have hfreed := Ring.freed_of_not hheld
    simp only [State.release, if_neg hheld]
    cases watch with
    | true => exact congrArg (fun r => { s.latent with w := r }) hfreed.symm
    | false => exact congrArg (fun r => { s.latent with d := r }) hfreed.symm

/-- A release of a ring that is frozen or to be frozen writes its entry, and no other release writes one. -/
theorem State.release_fixer (s : State) (watch auto : Bool) : (s.release watch auto).fixer = { s.fixer with
    raised := s.fixer.raised ++ if (s.ring watch).frozen || (s.ring watch).pend.isSome then
      [s.entry Log.LATENT 3 (ofBytes (b2n (!watch)) (b2n auto) 0 0) 0] else [] } := by
  by_cases hheld : ((s.ring watch).frozen || (s.ring watch).pend.isSome) = true
  · simp only [State.release, if_pos hheld]
    rfl
  · simp [State.release, hheld]

/-- A release writes no register. -/
theorem State.release_reg (s : State) (watch auto : Bool) (a : Nat) : (s.release watch auto).reg a = s.reg a := by
  simp only [State.release]
  split <;> rfl

theorem State.release_clk (s : State) (watch auto : Bool) : (s.release watch auto).clk = s.clk := by
  simp only [State.release]
  split <;> rfl

/-! ### The three actions of LAT_CTL -/

/-- A release by command, where its bit is written 1. -/
def State.releaseIf (s : State) (ask watch : Bool) : State := if ask then s.release watch false else s

theorem State.releaseIf_reg (s : State) (ask watch : Bool) (a : Nat) : (s.releaseIf ask watch).reg a = s.reg a := by
  cases ask
  · rfl
  · exact s.release_reg watch false a

theorem State.releaseIf_clk (s : State) (ask watch : Bool) : (s.releaseIf ask watch).clk = s.clk := by
  cases ask
  · rfl
  · exact s.release_clk watch false

theorem State.releaseIf_latent (s : State) (ask watch : Bool) : (s.releaseIf ask watch).latent =
    if ask then (if watch then { s.latent with w := s.latent.w.freed } else { s.latent with d := s.latent.d.freed }) else s.latent := by
  cases ask
  · rfl
  · exact s.release_latent watch false

theorem State.releaseIf_fixer (s : State) (ask watch : Bool) : (s.releaseIf ask watch).fixer = { s.fixer with
    raised := s.fixer.raised ++ if ask && ((s.ring watch).frozen || (s.ring watch).pend.isSome) then
      [s.entry Log.LATENT 3 (ofBytes (b2n (!watch)) 0 0 0) 0] else [] } := by
  cases ask
  · simp [State.releaseIf]
  · exact s.release_fixer watch false

/-- What a write of LAT_CTL sets off: RELEASE_W, RELEASE_D and RUN_D from 0 to 1, in this order. -/
def State.latCtlEffect (s : State) (old new : Word) : State :=
  if !bitOf old 1 && bitOf new 1 then ((s.releaseIf (bitOf new 2) true).releaseIf (bitOf new 3) false).startRunD
  else (s.releaseIf (bitOf new 2) true).releaseIf (bitOf new 3) false

section
variable {s : State} {src : Src} {v : Word}

/-- A write of LAT_CTL that a command's condition fits stores it and sets off its actions. -/
theorem State.endCycle_latCtl {fits : Word → Word → Bool} (hready : s.writeReady src Reg.LATENT_LAT_CTL v)
    (hfits : fits (s.reg Reg.LATENT_LAT_CTL) (maskedWrite (s.reg Reg.LATENT_LAT_CTL) v) = true) :
    (s.commandWrite src Reg.LATENT_LAT_CTL fits v).endCycle = (((s.storedM Reg.LATENT_LAT_CTL v).latCtlEffect
      (s.reg Reg.LATENT_LAT_CTL) (maskedWrite (s.reg Reg.LATENT_LAT_CTL) v)).answer Status.ok []).endCycle :=
  State.endCycle_commandWrite_effect hready rfl rfl hfits

end

theorem State.latCtlEffect_reg (s : State) (old new : Word) (a : Nat) : (s.latCtlEffect old new).reg a = s.reg a := by
  have hreleased : ((s.releaseIf (bitOf new 2) true).releaseIf (bitOf new 3) false).reg a = s.reg a := by
    rw [State.releaseIf_reg, State.releaseIf_reg]
  unfold State.latCtlEffect
  split
  · exact hreleased
  · exact hreleased

/-- What the three actions of LAT_CTL leave of the two rings. -/
theorem State.latCtlEffect_latent (s : State) (old new : Word) : (s.latCtlEffect old new).latent = { s.latent with
    w := if bitOf new 2 then s.latent.w.freed else s.latent.w
    d := if !bitOf old 1 && bitOf new 1 then
        { s.latent.d with total := 0, head := 0, prev := none, gap := false, mis := false, frozen := false, pend := none }
      else if bitOf new 3 then s.latent.d.freed else s.latent.d } := by
  have hreleased : ((s.releaseIf (bitOf new 2) true).releaseIf (bitOf new 3) false).latent = { s.latent with
      w := if bitOf new 2 then s.latent.w.freed else s.latent.w
      d := if bitOf new 3 then s.latent.d.freed else s.latent.d } := by
    rw [State.releaseIf_latent, State.releaseIf_latent]
    cases bitOf new 2 <;> cases bitOf new 3 <;> rfl
  unfold State.latCtlEffect
  split
  · rw [State.startRunD, State.emptyD, State.modRing, State.modRing, hreleased]
    cases bitOf new 3 <;> rfl
  · exact hreleased

/-- The entries that the two releases of LAT_CTL write. -/
theorem State.latCtlEffect_fixer (s : State) (old new : Word) : (s.latCtlEffect old new).fixer = { s.fixer with
    raised := s.fixer.raised ++
      (if bitOf new 2 && (s.latent.w.frozen || s.latent.w.pend.isSome) then [s.entry Log.LATENT 3 (ofBytes 0 0 0 0) 0] else []) ++
      (if bitOf new 3 && (s.latent.d.frozen || s.latent.d.pend.isSome) then [s.entry Log.LATENT 3 (ofBytes 1 0 0 0) 0] else []) } := by
  have hentry : (s.releaseIf (bitOf new 2) true).entry Log.LATENT 3 (ofBytes 1 0 0 0) 0 = s.entry Log.LATENT 3 (ofBytes 1 0 0 0) 0 :=
    State.entry_congr _ _ _ _ (s.releaseIf_clk _ _) (s.releaseIf_reg _ _ _)
  have hring : (s.releaseIf (bitOf new 2) true).ring false = s.latent.d := by
    rw [State.ring, State.releaseIf_latent]
    cases bitOf new 2 <;> rfl
  have hreleased : ((s.releaseIf (bitOf new 2) true).releaseIf (bitOf new 3) false).fixer = { s.fixer with
      raised := s.fixer.raised ++
        (if bitOf new 2 && (s.latent.w.frozen || s.latent.w.pend.isSome) then [s.entry Log.LATENT 3 (ofBytes 0 0 0 0) 0] else []) ++
        (if bitOf new 3 && (s.latent.d.frozen || s.latent.d.pend.isSome) then [s.entry Log.LATENT 3 (ofBytes 1 0 0 0) 0] else []) } := by
    rw [State.releaseIf_fixer, hring, State.releaseIf_fixer, ← hentry]
    rfl
  unfold State.latCtlEffect
  split
  · exact hreleased
  · exact hreleased

section
variable {s : State} {src : Src} {v : Word} {fits : Word → Word → Bool} (hready : s.writeReady src Reg.LATENT_LAT_CTL v)
  (hfits : fits (s.reg Reg.LATENT_LAT_CTL) (maskedWrite (s.reg Reg.LATENT_LAT_CTL) v) = true)
include hready hfits

/-- A command that is a write of LAT_CTL is answered with OK. -/
theorem State.latCtlWrite_status : (s.commandWrite src Reg.LATENT_LAT_CTL fits v).endCycle.port.status = 0 := by
  rw [State.endCycle_latCtl hready hfits, State.endCycle_port, State.answer_status]

/-- A command that is a write of LAT_CTL leaves in it what was written, without the self-clearing bits. -/
theorem State.latCtlWrite_reg : (s.commandWrite src Reg.LATENT_LAT_CTL fits v).endCycle.reg Reg.LATENT_LAT_CTL =
    maskedWrite (s.reg Reg.LATENT_LAT_CTL) v &&& ~~~selfClear Reg.LATENT_LAT_CTL := by
  rw [State.endCycle_latCtl hready hfits, State.endCycle_reg _ (by decide) (by decide), State.answer_reg, State.latCtlEffect_reg,
    State.storedM_reg_same]

/-- A self-clearing bit of LAT_CTL reads 0 after the write (R253). -/
theorem State.latCtlWrite_flag {i : Nat} (hi : i = 2 ∨ i = 3) :
    (s.commandWrite src Reg.LATENT_LAT_CTL fits v).endCycle.flag Reg.LATENT_LAT_CTL i = false := by
  have hclear := s.storedM_flag_clear (a := Reg.LATENT_LAT_CTL) v (i := i) (by obtain rfl | rfl := hi <;> rfl) (by omega)
  rw [State.flag, State.latCtlWrite_reg hready hfits, ← State.storedM_reg_same]
  exact hclear

/-- What a command that is a write of LAT_CTL leaves of the Latent buffer. -/
theorem State.latCtlWrite_latent : (s.commandWrite src Reg.LATENT_LAT_CTL fits v).endCycle.latent = { s.latent with
    w := if bitOf (maskedWrite (s.reg Reg.LATENT_LAT_CTL) v) 2 then s.latent.w.freed else s.latent.w
    d := if !s.flag Reg.LATENT_LAT_CTL 1 && bitOf (maskedWrite (s.reg Reg.LATENT_LAT_CTL) v) 1 then
        { s.latent.d with total := 0, head := 0, prev := none, gap := false, mis := false, frozen := false, pend := none }
      else if bitOf (maskedWrite (s.reg Reg.LATENT_LAT_CTL) v) 3 then s.latent.d.freed else s.latent.d } := by
  rw [State.endCycle_latCtl hready hfits, State.endCycle_latent, State.answer_latent, State.latCtlEffect_latent]
  rfl

/-- What a command that is a write of LAT_CTL logs, where it releases one ring at most. -/
theorem State.latCtlWrite_logged (hroom : s.roomFor 2)
    (hone : bitOf (maskedWrite (s.reg Reg.LATENT_LAT_CTL) v) 2 = false ∨ bitOf (maskedWrite (s.reg Reg.LATENT_LAT_CTL) v) 3 = false) :
    Logged s (s.commandWrite src Reg.LATENT_LAT_CTL fits v).endCycle
      ((if bitOf (maskedWrite (s.reg Reg.LATENT_LAT_CTL) v) 2 && (s.latent.w.frozen || s.latent.w.pend.isSome) then
          [s.entry Log.LATENT 3 (ofBytes 0 0 0 0) 0] else []) ++
        (if bitOf (maskedWrite (s.reg Reg.LATENT_LAT_CTL) v) 3 && (s.latent.d.frozen || s.latent.d.pend.isSome) then
          [s.entry Log.LATENT 3 (ofBytes 1 0 0 0) 0] else [])) := by
  have hentry : ∀ lo, (s.storedM Reg.LATENT_LAT_CTL v).entry Log.LATENT 3 lo 0 = s.entry Log.LATENT 3 lo 0 := fun lo =>
    State.entry_congr _ _ _ _ rfl (s.storedM_reg_other v (by decide))
  rw [State.endCycle_latCtl hready hfits]
  refine State.logged_endCycle_short hroom ?_ ?_ ?_
  · rw [State.answer_fixer, State.latCtlEffect_fixer]
    rfl
  · rw [State.answer_fixer, State.latCtlEffect_fixer, hentry, hentry, State.storedM_fixer, hroom.1.1]
    rfl
  · obtain hone | hone := hone
    · rw [hone]
      simp only [Bool.false_and, Bool.false_eq_true, if_false, List.nil_append]
      split <;> simp
    · rw [hone]
      simp only [Bool.false_and, Bool.false_eq_true, if_false, List.append_nil]
      split <;> simp

/-- A command that is a write of LAT_CTL and asks for no release logs nothing. -/
theorem State.latCtlWrite_calm (hbetween : s.between) (hnone : bits (maskedWrite (s.reg Reg.LATENT_LAT_CTL) v) 3 2 = 0) :
    Logged s (s.commandWrite src Reg.LATENT_LAT_CTL fits v).endCycle [] ∧ bitOf (maskedWrite (s.reg Reg.LATENT_LAT_CTL) v) 2 = false ∧
      bitOf (maskedWrite (s.reg Reg.LATENT_LAT_CTL) v) 3 = false := by
  obtain ⟨h2, h3⟩ := (bits_two_eq_zero_iff _ 2).1 hnone
  refine ⟨?_, h2, h3⟩
  rw [State.endCycle_latCtl hready hfits]
  refine State.logged_endCycle_nil ?_ ?_
  · rw [State.answer_fixer, State.latCtlEffect_fixer]
    rfl
  · rw [State.answer_fixer, State.latCtlEffect_fixer, h2, h3]
    simp [hbetween.1]

end

/-! ### The statement -/

/-- Settles O33: each command is a write of LAT_CTL, and its actions are what it leaves of the rings and the log. -/
theorem latentRingsAreReleasedAndRestarted : Obligations.LatentRingsAreReleasedAndRestarted := by
  unfold Obligations.LatentRingsAreReleasedAndRestarted
  refine ⟨fun s src v hready hroom hw => ?_, fun s src v hready hroom hd => ?_, fun s src v hready hold hrun => ?_⟩
  · have hlatent := State.latCtlWrite_latent (fits := fun _ new => bitOf new 2) hready hw
    refine ⟨_, rfl, State.latCtlWrite_status hready hw, State.latCtlWrite_flag hready hw (.inl rfl), ?_, fun hd hold => ⟨?_, ?_⟩⟩
    · rw [hlatent, hw]
      rfl
    · rw [hlatent, hw, hd, hold]
      rfl
    · have hlogged := State.latCtlWrite_logged (fits := fun _ new => bitOf new 2) hready hw hroom (.inr hd)
      simpa only [hw, hd, Bool.true_and, Bool.false_and, Bool.false_eq_true, if_false, List.append_nil] using hlogged
  · have hlatent := State.latCtlWrite_latent (fits := fun _ new => bitOf new 3) hready hd
    refine ⟨_, rfl, State.latCtlWrite_status hready hd, State.latCtlWrite_flag hready hd (.inr rfl), ?_, ?_, fun hw hold => ⟨?_, ?_⟩⟩
    · rw [hlatent, hd]
      dsimp only
      split <;> rfl
    · rw [hlatent, hd]
      dsimp only
      split <;> rfl
    · rw [hlatent, hw, hd, hold]
      rfl
    · have hlogged := State.latCtlWrite_logged (fits := fun _ new => bitOf new 3) hready hd hroom (.inl hw)
      simpa only [hw, hd, Bool.true_and, Bool.false_and, Bool.false_eq_true, if_false, List.nil_append] using hlogged
  · have hfits : (!bitOf (s.reg Reg.LATENT_LAT_CTL) 1 && bitOf (maskedWrite (s.reg Reg.LATENT_LAT_CTL) v) 1) = true := by
      rw [State.flag] at hold
      rw [hold, hrun]
      rfl
    have hlatent := State.latCtlWrite_latent (fits := fun old new => !bitOf old 1 && bitOf new 1) hready hfits
    refine ⟨_, rfl, State.latCtlWrite_status hready hfits, State.latCtlWrite_reg hready hfits, ?_, fun hnone => ?_⟩
    · rw [hlatent, hold, hrun]
      rfl
    · obtain ⟨hlogged, hw, -⟩ := State.latCtlWrite_calm (fits := fun old new => !bitOf old 1 && bitOf new 1) hready hfits hready.1 hnone
      refine ⟨?_, hlogged⟩
      rw [hlatent, hw]
      rfl

end Sys2Proof.Machine
end

section
/-! PROOFS. Template enables during the fog test (R444, R643, R645): a request to a word of the borrowed region restores the region first, check
bits and all, so the enable finds no check error there; and the refutation drawn from it. -/

namespace Sys2Proof.Machine

/-- An up unit whose fog test has borrowed the region of template 0's header, with an uncorrectable error at the header. -/
def borrowedTemplate : State :=
  { clk := { power := .up, daylight := true }
    ident := { done := true }
    bank := { phase := .march, region := tplAddr 0 0 / 16, errs := [(tplAddr 0 0 / 8, 0, true)] } }

theorem borrowedTemplate_writeReady : borrowedTemplate.writeReady .host Reg.SHEET_TPL_CTL 0x03000300#32 :=
  ⟨⟨rfl, rfl, rfl, rfl, rfl, rfl⟩, rfl, ⟨rfl, rfl⟩, by decide, rfl, rfl⟩

/-- The enable of template 0 there aborts the fog test's step, which writes fresh check bits: TPL_ECC does not set. -/
theorem exec_templateEnable_borrowed :
    ∃ t, exec (.templateEnable .host 0x03000300#32) borrowedTemplate = .next t ∧ t.flag Reg.SHEET_SHEET_STATUS 3 = false :=
  ⟨_, rfl, by decide⟩

/-- Refutes O32: an uncorrectable error at the header of a template in the borrowed region is gone when the enable reads it, so TPL_ECC does not
set. -/
theorem not_seedsProfilesAndTemplatesAreStaged : ¬ Obligations.SeedsProfilesAndTemplatesAreStaged := by
  unfold Obligations.SeedsProfilesAndTemplatesAreStaged
  rintro ⟨-, -, henable, -⟩
  obtain ⟨t, hexec, -, -, hunreadable, -⟩ := henable borrowedTemplate .host 0x03000300#32 0 borrowedTemplate_writeReady
    ⟨borrowedTemplate_writeReady.1, by decide⟩ rfl rfl rfl
  obtain ⟨u, hu, hflag⟩ := exec_templateEnable_borrowed
  obtain rfl : t = u := Host.Outcome.next.inj (hexec.symm.trans hu)
  obtain ⟨-, -, hset⟩ := hunreadable (by decide) rfl
  exact Bool.noConfusion (hflag.symm.trans hset)

end Sys2Proof.Machine
end

section
/-! PROOFS. Carrier searches, latches, biases and Fixer instances (R274, R284, R600, R608, R690): the four masked writes that start or clear them,
and the statement drawn from them. -/

namespace Sys2Proof.Machine

/-! ### A pass that visits places -/

/-- What a pass leaves at a place: what a visit makes of it where the pass visits the place, and what stood there where it does not. -/
theorem foldl_visit {β : Type} {f : State → Nat → State} {get : State → Nat → β} {upd : Nat → β → β} {I : State → Prop} {Q : Nat → Prop}
    (hI : ∀ s n, I s → Q n → I (f s n)) (hsame : ∀ s n, I s → Q n → get (f s n) n = upd n (get s n))
    (hother : ∀ s n m, I s → Q n → Q m → m ≠ n → get (f s n) m = get s m) (hidem : ∀ n x, upd n (upd n x) = upd n x) :
    ∀ (l : List Nat) (s : State), I s → (∀ n ∈ l, Q n) → ∀ m, Q m → get (l.foldl f s) m = if m ∈ l then upd m (get s m) else get s m
  | [], _, _, _, _, _ => rfl
  | n :: l, s, h, hl, m, hm => by
    have hn : Q n := hl n List.mem_cons_self
    rw [List.foldl_cons, foldl_visit hI hsame hother hidem l (f s n) (hI s n h hn) (fun k hk => hl k (List.mem_cons_of_mem n hk)) m hm]
    by_cases hmn : m = n
    · subst hmn
      rw [hsame s m h hn, hidem, if_pos List.mem_cons_self, ite_self]
    · have hmem : m ∈ n :: l ↔ m ∈ l := by simp [hmn]
      simp only [hother s n m h hn hm hmn, hmem]

/-- What the visits of a pass keep, the pass keeps. -/
theorem foldl_inv {α : Type} {f : State → α → State} {I : State → Prop} (hI : ∀ s n, I s → I (f s n)) :
    ∀ (l : List α) (s : State), I s → I (l.foldl f s)
  | [], _, h => h
  | n :: l, s, h => foldl_inv hI l (f s n) (hI s n h)

/-! ### Fixer instances -/

/-- One of the Fixer's instances with its history empty and its lasting state ended (R690). -/
abbrev History.cleared (h : History) : History := { h with epochs := [], lasting := false }

/-- The Fixer as a release leaves it: the instances alone, and the note of what was released, change. -/
theorem State.fixerRelease_eq {s : State} (i : Nat) (hstruck : s.fixer.struck = []) : s.fixerRelease i =
    { s with fixer := { s.fixer with freed := assocSet s.fixer.freed i (s.history i).epochs, hist := modNth s.fixer.hist i History.cleared } } := by
  simp [State.fixerRelease, hstruck, State.modHistory, State.history]

/-- A release clears, of the instances, its own and no other (R690). -/
theorem State.history_fixerRelease {s : State} {i j : Nat} (hstruck : s.fixer.struck = []) (hi : i < s.fixer.hist.length) :
    (s.fixerRelease i).history j = if j = i then (s.history j).cleared else s.history j := by
  rw [State.fixerRelease_eq i hstruck]
  by_cases hj : j = i
  · rw [if_pos hj, hj]
    exact nth_modNth_same _ _ _ _ hi
  · rw [if_neg hj]
    exact nth_modNth_other _ _ _ hj

/-- The state but for the Fixer's instances and the note of what was released. -/
def State.SameButInstances (s u : State) : Prop :=
  u = { s with fixer := { s.fixer with freed := u.fixer.freed, hist := u.fixer.hist } } ∧ u.fixer.hist.length = s.fixer.hist.length

theorem State.SameButInstances.refl (s : State) : s.SameButInstances s := ⟨rfl, rfl⟩

theorem State.SameButInstances.struck {s u : State} (h : s.SameButInstances u) : u.fixer.struck = s.fixer.struck := by
  rw [h.1]

theorem State.SameButInstances.release {s u : State} (h : s.SameButInstances u) (hstruck : s.fixer.struck = []) (i : Nat) :
    s.SameButInstances (u.fixerRelease i) := by
  have hu := State.fixerRelease_eq i (h.struck.trans hstruck)
  obtain ⟨hsame, hlen⟩ := h
  rw [hu]
  refine ⟨?_, (length_modNth ..).trans hlen⟩
  rw [hsame]

/-- A pass of releases leaves all but the instances. -/
theorem State.SameButInstances.releases {s : State} (hstruck : s.fixer.struck = []) (l : List Nat) :
    s.SameButInstances (l.foldl State.fixerRelease s) :=
  foldl_inv (I := s.SameButInstances) (fun _ i h => h.release hstruck i) l s (.refl s)

/-- A pass of releases clears the instances that it names, and no other. -/
theorem State.history_releases {s : State} (hstruck : s.fixer.struck = []) {l : List Nat} (hl : ∀ i ∈ l, i < s.fixer.hist.length) {j : Nat}
    (hj : j < s.fixer.hist.length) :
    (l.foldl State.fixerRelease s).history j = if j ∈ l then (s.history j).cleared else s.history j := by
  refine foldl_visit (get := State.history) (upd := fun _ => History.cleared) (I := s.SameButInstances) (Q := fun i => i < s.fixer.hist.length)
    (fun u i h _ => h.release hstruck i) (fun u i h hi => ?_) (fun u i m h hi _ hm => ?_) (fun _ _ => rfl) l s (.refl s) hl j hj
  · rw [State.history_fixerRelease (h.struck.trans hstruck) (h.2 ▸ hi), if_pos rfl]
  · rw [State.history_fixerRelease (h.struck.trans hstruck) (h.2 ▸ hi), if_neg hm]

/-- The end of a calm cycle keeps the instances. -/
theorem State.endCycle_history_of_calm {u : State} (hraised : u.fixer.raised = []) (i : Nat) : u.endCycle.history i = u.history i := by
  rw [State.endCycle, hraised]
  rfl

/-! ### FIXER_CLEAR -/

/-- A pass of releases after a calm command is answered ends the cycle with the registers as they were and the instances cleared. -/
theorem State.endCycle_releases {s : State} {l : List Nat} (hbetween : s.between) (hl : ∀ i ∈ l, i < s.fixer.hist.length) :
    KeepsRegs s ((l.foldl State.fixerRelease s).answer Status.ok []).endCycle [] ∧
      ∀ j, j < s.fixer.hist.length → ((l.foldl State.fixerRelease s).answer Status.ok []).endCycle.history j =
        if j ∈ l then (s.history j).cleared else s.history j := by
  obtain ⟨hraised, -, -, hstruck, -⟩ := hbetween
  have hsame := (State.SameButInstances.releases hstruck l).1
  have hcalm : ((l.foldl State.fixerRelease s).answer Status.ok []).fixer.raised = [] := by
    rw [State.answer_fixer, hsame]
    exact hraised
  refine ⟨State.keepsRegs_endCycle_calm hcalm fun a _ => ?_, fun j hj => ?_⟩
  · rw [State.answer_reg, hsame]
    rfl
  · rw [State.endCycle_history_of_calm hcalm]
    exact State.history_releases hstruck hl hj

/-- A write of CLEAR that leaves GO set releases what it names of the instances, where that exists (R690). -/
theorem exec_fixerClear {s : State} {src : Src} {v : Word} (hready : s.writeReady src Reg.FIXER_CLEAR v)
    (hgo : bitOf (maskedWrite (s.reg Reg.FIXER_CLEAR) v) 8 = true) : exec (.fixerClear src v) s =
      .next ((((if bits (maskedWrite (s.reg Reg.FIXER_CLEAR) v) 5 0 < 44 then [bits (maskedWrite (s.reg Reg.FIXER_CLEAR) v) 5 0] else []).foldl
        State.fixerRelease (s.storedM Reg.FIXER_CLEAR v)).answer Status.ok []).endCycle) := by
  have heffect : (s.storedM Reg.FIXER_CLEAR v).maskedEffect src Reg.FIXER_CLEAR (s.reg Reg.FIXER_CLEAR) v (maskedWrite (s.reg Reg.FIXER_CLEAR) v) =
      (if bits (maskedWrite (s.reg Reg.FIXER_CLEAR) v) 5 0 < 44 then [bits (maskedWrite (s.reg Reg.FIXER_CLEAR) v) 5 0] else []).foldl
        State.fixerRelease (s.storedM Reg.FIXER_CLEAR v) := by
    change (if bitOf (maskedWrite (s.reg Reg.FIXER_CLEAR) v) 8 && decide (bits (maskedWrite (s.reg Reg.FIXER_CLEAR) v) 5 0 < 44) then _ else _) = _
    rw [hgo, Bool.true_and]
    by_cases hi : bits (maskedWrite (s.reg Reg.FIXER_CLEAR) v) 5 0 < 44
    · rw [if_pos (decide_eq_true hi), if_pos hi]
      rfl
    · rw [if_neg (by simpa using hi), if_neg hi]
      rfl
  rw [← heffect]
  exact congrArg Host.Outcome.next (State.endCycle_commandWrite_effect (fits := fun _ new => bitOf new 8) hready rfl rfl hgo)

/-! ### LATCH -/

/-- The stage channels' instances that a host's write of LATCH releases (R608). -/
def latchReleases (src : Src) (v : Word) : List Nat :=
  if src == .host then (idxWhere 8 (fun n => bitOf v (16 + n) && !bitOf v n)).map (34 + ·) else []

theorem mem_latchReleases {src : Src} {v : Word} {i : Nat} : i ∈ latchReleases src v ↔
    src = .host ∧ 34 ≤ i ∧ i < 42 ∧ bitOf v (16 + (i - 34)) = true ∧ bitOf v (i - 34) = false := by
  cases src with
  | loupe => simp [latchReleases]
  | host =>
    simp only [latchReleases, beq_self_eq_true, if_true, List.mem_map, idxWhere, List.mem_filter, List.mem_range, Bool.and_eq_true,
      Bool.not_eq_true', true_and]
    constructor
    · rintro ⟨n, ⟨hn, hset, hclear⟩, rfl⟩
      rw [Nat.add_sub_cancel_left]
      exact ⟨by omega, by omega, hset, hclear⟩
    · rintro ⟨hlow, hhigh, hset, hclear⟩
      exact ⟨i - 34, ⟨by omega, hset, hclear⟩, by omega⟩

/-- The write of LATCH stores the masked value, where no channel's fault of this cycle holds its bit, and releases what it clears (R608). -/
theorem State.maskedEffect_latch {s : State} (src : Src) (v : Word) (hstruck : s.fixer.struck = []) :
    (s.storedM Reg.STAGE_LATCH v).maskedEffect src Reg.STAGE_LATCH (s.reg Reg.STAGE_LATCH) v (maskedWrite (s.reg Reg.STAGE_LATCH) v) =
      (latchReleases src v).foldl State.fixerRelease
        (((s.storedM Reg.STAGE_LATCH v).setReg Reg.STAGE_LATCH (s.reg Reg.STAGE_LATCH)).setReg Reg.STAGE_LATCH
          (maskedWrite (s.reg Reg.STAGE_LATCH) v)) := by
  have hforced : ((s.storedM Reg.STAGE_LATCH v).setReg Reg.STAGE_LATCH (s.reg Reg.STAGE_LATCH)).latchForced = 0#32 := by
    have hnone : ((s.storedM Reg.STAGE_LATCH v).setReg Reg.STAGE_LATCH (s.reg Reg.STAGE_LATCH)).fixer.struck = [] := hstruck
    simp only [State.latchForced, hnone]
    rfl
  change ((s.storedM Reg.STAGE_LATCH v).setReg Reg.STAGE_LATCH (s.reg Reg.STAGE_LATCH)).writeLatch (src == .host) v = _
  rw [State.writeLatch, hforced, BitVec.and_zero, BitVec.or_zero, State.reg_setReg_same]
  cases src with
  | loupe => rfl
  | host =>
    simp only [latchReleases, beq_self_eq_true, if_true, idxWhere]
    rw [List.foldl_map, List.foldl_filter]

/-- LATCH_CLEAR, and a register write of LATCH alone, is the write of LATCH (R608). -/
theorem exec_latchWrite {c : Instr} {s : State} {src : Src} {v : Word} (hready : s.writeReady src Reg.STAGE_LATCH v)
    (hc : (bits (s.reg Reg.STAGE_LATCH &&& ~~~maskedWrite (s.reg Reg.STAGE_LATCH) v) 7 0 ≠ 0 ∧ c = .latchClear src v) ∨
      c = .registerWrite src Reg.STAGE_LATCH { vals := [v] }) :
    exec c s = .next (((latchReleases src v).foldl State.fixerRelease
        (((s.storedM Reg.STAGE_LATCH v).setReg Reg.STAGE_LATCH (s.reg Reg.STAGE_LATCH)).setReg Reg.STAGE_LATCH
          (maskedWrite (s.reg Reg.STAGE_LATCH) v))).answer Status.ok []).endCycle := by
  obtain ⟨⟨-, -, -, hstruck, -⟩, hreach, hpair, hmask, hpower, hlet⟩ := id hready
  rw [← State.maskedEffect_latch src v hstruck]
  obtain ⟨hclears, rfl⟩ | rfl := hc
  · exact congrArg Host.Outcome.next (State.endCycle_commandWrite_effect
      (fits := fun old new => bits (old &&& ~~~new) 7 0 != 0) hready rfl rfl (by simpa using hclears))
  · have hwrite : s.registerWrite src Reg.STAGE_LATCH { vals := [v] } = s.accessWrite src Reg.STAGE_LATCH v := by
      cases src <;> rfl
    change Host.Outcome.next (s.registerWrite src Reg.STAGE_LATCH { vals := [v] }).endCycle = _
    rw [hwrite, State.accessWrite_reaching v hreach (fun _ => rfl), State.portWrite_masked v false hpair hpower rfl,
      State.writeM_of_fits hmask hlet]

/-! ### STEER_SEARCH -/

/-- What a search snapshots is in registers below STEER_CTL (R600). -/
theorem State.snapshot_congr {s u : State} (h : ∀ a, Reg.STAGE_CARRIER_0 ≤ a → a < Reg.STAGE_STEER_CTL → u.reg a = s.reg a) (mode : Nat) :
    u.snapshot mode = s.snapshot mode := by
  have hwin : u.reg Reg.STAGE_STEER_WIN = s.reg Reg.STAGE_STEER_WIN := h _ (by decide) (by decide)
  have hcarriers : u.carriers = s.carriers := by
    simp only [State.carriers]
    refine List.flatMap_congr fun i hi => ?_
    have hi8 := List.mem_range.1 hi
    rw [h _ (Nat.le_add_right _ _) (by simp only [Reg.STAGE_CARRIER_0, Reg.STAGE_STEER_CTL]; omega)]
  simp only [State.snapshot, State.fld, hwin, hcarriers]

/-- A write of STEER_CTL that leaves GO set starts a search (R600). -/
theorem exec_steerSearch {s : State} {src : Src} {v : Word} (hready : s.writeReady src Reg.STAGE_STEER_CTL v)
    (hgo : bitOf (maskedWrite (s.reg Reg.STAGE_STEER_CTL) v) 0 = true) :
    exec (.steerSearch src v) s = .next (((s.storedM Reg.STAGE_STEER_CTL v).startSearch
      (bits (maskedWrite (s.reg Reg.STAGE_STEER_CTL) v) 3 2)).answer Status.ok []).endCycle := by
  have heffect : ∀ t : State, t.maskedEffect src Reg.STAGE_STEER_CTL (s.reg Reg.STAGE_STEER_CTL) v (maskedWrite (s.reg Reg.STAGE_STEER_CTL) v) =
      t.startSearch (bits (maskedWrite (s.reg Reg.STAGE_STEER_CTL) v) 3 2) := fun t => if_pos hgo
  rw [← heffect]
  exact congrArg Host.Outcome.next (State.endCycle_commandWrite_effect (fits := fun _ new => bitOf new 0) hready rfl rfl hgo)

/-- The window of a search, from STEER_WIN, is in order and within the carrier's range (R600). -/
abbrev State.SteerWindow (s : State) : Prop :=
  150 ≤ s.fld Reg.STAGE_STEER_WIN 19 10 ∧ s.fld Reg.STAGE_STEER_WIN 19 10 ≤ s.fld Reg.STAGE_STEER_WIN 9 0 ∧
    s.fld Reg.STAGE_STEER_WIN 9 0 ≤ s.fld Reg.STAGE_STEER_WIN 29 20 ∧ s.fld Reg.STAGE_STEER_WIN 29 20 ≤ 1000

/-- A search is refused by a carrier out of its range, then by its window (R600). -/
theorem Search.bad_eq (q : Search) : q.bad = if q.carriers.any (fun c => decide (c < 100 ∨ 1800 < c)) = true then some 0
    else if 150 ≤ q.fMin ∧ q.fMin ≤ q.fNom ∧ q.fNom ≤ q.fMax ∧ q.fMax ≤ 1000 then none else some 1 := by
  have hcarriers : q.carriers.any (fun c => c < 100 || 1800 < c) = q.carriers.any (fun c => decide (c < 100 ∨ 1800 < c)) := by
    simp only [Bool.decide_or]
  rw [Search.bad, hcarriers]
  by_cases hcarrier : q.carriers.any (fun c => decide (c < 100 ∨ 1800 < c)) = true
  · rw [if_pos hcarrier, if_pos hcarrier]
  · rw [if_neg hcarrier, if_neg hcarrier]
    by_cases hwin : 150 ≤ q.fMin ∧ q.fMin ≤ q.fNom ∧ q.fNom ≤ q.fMax ∧ q.fMax ≤ 1000
    · rw [if_pos hwin]
      refine if_neg ?_
      simp only [Bool.or_eq_true, decide_eq_true_eq]
      omega
    · rw [if_neg hwin]
      refine if_pos ?_
      simp only [Bool.or_eq_true, decide_eq_true_eq]
      omega

theorem State.snapshot_bad (s : State) (mode : Nat) : (s.snapshot mode).bad =
    if s.carriers.any (fun c => decide (c < 100 ∨ 1800 < c)) = true then some 0 else if s.SteerWindow then none else some 1 :=
  Search.bad_eq _

/-- A search that is refused reports why, and leaves the search and the snapshot (R600). -/
theorem State.startSearch_refused {s : State} {mode why : Nat} (h : (s.snapshot mode).bad = some why) :
    s.startSearch mode = (s.setFlag Reg.STAGE_STAGE_STATUS 5).raise Log.STAGE 5 (ofBytes why 0 0 0) := by
  simp only [State.startSearch, h]

theorem State.startSearch_accepted {s : State} {mode : Nat} (h : (s.snapshot mode).bad = none) :
    s.startSearch mode = { s with stage := { s.stage with search := some (s.snapshot mode), snap := some (s.snapshot mode) } } := by
  simp only [State.startSearch, h]

/-- The end of a refused search. -/
theorem State.endCycle_startSearch_refused {s u : State} {mode why : Nat} (hroom : s.roomFor 1) (h : (u.snapshot mode).bad = some why)
    (hfixer : u.fixer = s.fixer) (hclk : u.clk = s.clk) (hwake : u.reg Reg.DEV_WAKE_CFG = s.reg Reg.DEV_WAKE_CFG) :
    ((u.startSearch mode).answer Status.ok []).endCycle.stage = u.stage ∧
      ((u.startSearch mode).answer Status.ok []).endCycle.flag Reg.STAGE_STAGE_STATUS 5 = true ∧
      Logged s ((u.startSearch mode).answer Status.ok []).endCycle [s.entry Log.STAGE 5 (ofBytes why 0 0 0) 0] := by
  rw [State.startSearch_refused h]
  refine ⟨?_, ?_, State.logged_endCycle_one hroom ?_ ?_⟩
  · rw [State.endCycle_stage, State.answer_stage, State.raise_stage, State.setFlag_stage]
  · rw [State.endCycle_flag _ _ (by decide) (by decide), State.answer_flag]
    exact u.flag_setFlag_same _ _ (by decide)
  · rw [State.answer_fixer, State.staged_raise, State.setFlag_fixer, hfixer]
  · rw [State.answer_fixer, State.raised_raise_entry, State.setFlag_fixer, hfixer, hroom.1.1, State.entry_setFlag _ _ _ _ _ _ (by decide),
      State.entry_congr _ _ _ _ hclk hwake]
    rfl

/-! ### BIAS_EN -/

/-- The state but for the microphones' biases, the Fixer's instances and the note of what was released. -/
def State.SameButBiases (s u : State) : Prop :=
  u = { s with
    fixer := { s.fixer with freed := u.fixer.freed, hist := u.fixer.hist }
    front := { s.front with bias := u.front.bias } } ∧
  u.fixer.hist.length = s.fixer.hist.length ∧ u.front.bias.length = s.front.bias.length

theorem State.SameButBiases.refl (s : State) : s.SameButBiases s := ⟨rfl, rfl, rfl⟩

theorem State.SameButBiases.trans {s u w : State} (h : s.SameButBiases u) (h' : u.SameButBiases w) : s.SameButBiases w := by
  obtain ⟨hsame, hhist, hbias⟩ := h
  obtain ⟨hsame', hhist', hbias'⟩ := h'
  refine ⟨?_, hhist'.trans hhist, hbias'.trans hbias⟩
  rw [hsame', hsame]

theorem State.SameButBiases.modBias (s : State) (k : Nat) (f : Bias → Bias) : s.SameButBiases (s.modBias k f) :=
  ⟨rfl, rfl, length_modNth ..⟩

theorem State.SameButInstances.biases {s u : State} (h : s.SameButInstances u) : s.SameButBiases u := by
  obtain ⟨hsame, hlen⟩ := h
  refine ⟨?_, hlen, by rw [hsame]⟩
  rw [hsame]

/-- A bias whose lasting short is ended (R284). -/
abbrev Bias.released (b : Bias) : Bias := if b.latched then { b with latched := false, shorted := none } else b

/-- The instances that the end of a bias's lasting short releases: its own, and the watch microphone's (R284). -/
def State.biasInstances (s : State) (k : Nat) : List Nat := if k = s.front.watchMic then [5 + k, 21] else [5 + k]

/-- The release of a bias ends its lasting short and clears its instances (R284). -/
theorem State.releaseBias_eq {s : State} (k : Nat) (hstruck : s.fixer.struck = []) :
    s.releaseBias k = ((s.biasInstances k).foldl State.fixerRelease s).modBias k Bias.released := by
  have hforced : s.biasForced k = false := by simp [State.biasForced, hstruck]
  have hwatch : (s.fixerRelease (5 + k)).front.watchMic = s.front.watchMic := by rw [State.fixerRelease_eq _ hstruck]
  rw [State.releaseBias, if_neg (by simp [hforced])]
  simp only [hwatch, State.biasInstances]
  by_cases hk : k = s.front.watchMic
  · rw [if_pos hk, if_pos hk]
    rfl
  · rw [if_neg hk, if_neg hk]
    rfl

theorem State.SameButBiases.struck {s u : State} (h : s.SameButBiases u) : u.fixer.struck = s.fixer.struck := by
  rw [h.1]

theorem State.SameButBiases.reg {s u : State} (h : s.SameButBiases u) (a : Nat) : u.reg a = s.reg a := by
  rw [h.1]
  rfl

theorem State.SameButBiases.raised {s u : State} (h : s.SameButBiases u) : u.fixer.raised = s.fixer.raised := by
  rw [h.1]

theorem State.SameButBiases.releaseBias {s u : State} (h : s.SameButBiases u) (hstruck : s.fixer.struck = []) (k : Nat) :
    s.SameButBiases (u.releaseBias k) := by
  rw [State.releaseBias_eq k (h.struck.trans hstruck)]
  exact h.trans ((State.SameButInstances.releases (h.struck.trans hstruck) _).biases.trans (.modBias _ _ _))

/-- A bias update changes its own bias alone, whether it is on as well as the rest of it (R279). -/
theorem State.SameButBiases.updateBias (s : State) (k : Nat) : s.SameButBiases (s.updateBias k) := by
  unfold State.updateBias
  dsimp only
  split
  · split
    · exact .refl s
    · split
      · exact .modBias s k _
      · exact .modBias s k _
  · split
    · exact .modBias s k _
    · exact .refl s

theorem State.updateBias_fixer (s : State) (k : Nat) : (s.updateBias k).fixer = s.fixer := by
  unfold State.updateBias
  dsimp only
  (repeat' split) <;> rfl

theorem State.updateBiases_fixer (s : State) : s.updateBiases.fixer = s.fixer :=
  foldl_inv (I := fun u => u.fixer = s.fixer) (fun u k h => (u.updateBias_fixer k).trans h) _ s rfl

theorem State.history_updateBiases (s : State) (i : Nat) : s.updateBiases.history i = s.history i := by
  rw [State.history, s.updateBiases_fixer, State.history]

theorem State.SameButBiases.updateBiases (s : State) : s.SameButBiases s.updateBiases :=
  foldl_inv (I := s.SameButBiases) (fun u k h => h.trans (.updateBias u k)) _ s (.refl s)

/-- The release of a bias ends its own lasting short and no other. -/
theorem State.biasOf_releaseBias {s : State} {k m : Nat} (hstruck : s.fixer.struck = []) (hk : k < s.front.bias.length) :
    (s.releaseBias k).biasOf m = if m = k then (s.biasOf m).released else s.biasOf m := by
  have hbias : ((s.biasInstances k).foldl State.fixerRelease s).front.bias = s.front.bias := by
    rw [(State.SameButInstances.releases hstruck _).1]
  rw [State.releaseBias_eq k hstruck, State.biasOf, State.modBias]
  dsimp only
  rw [hbias]
  by_cases hm : m = k
  · rw [if_pos hm, hm, nth_modNth_same _ _ _ _ hk]
    rfl
  · rw [if_neg hm, nth_modNth_other _ _ _ hm]
    rfl

/-- The release of a bias clears, of the instances, its own microphone's and no other. -/
theorem State.history_releaseBias {s : State} {k m : Nat} (hstruck : s.fixer.struck = []) (hhist : s.fixer.hist.length = 44)
    (hk : k < 16) (hm : m < 16) :
    (s.releaseBias k).history (5 + m) = if m = k then (s.history (5 + m)).cleared else s.history (5 + m) := by
  have hmem : 5 + m ∈ s.biasInstances k ↔ m = k := by
    unfold State.biasInstances
    split
    · simp only [List.mem_cons, List.not_mem_nil, or_false]
      omega
    · simp
  have hrange : ∀ i ∈ s.biasInstances k, i < s.fixer.hist.length := by
    intro i hi
    rw [hhist]
    unfold State.biasInstances at hi
    split at hi <;> (simp at hi; omega)
  rw [State.releaseBias_eq k hstruck]
  exact (State.history_releases hstruck hrange (by omega)).trans (by simp only [hmem])

theorem Bias.released_released (b : Bias) : b.released.released = b.released := by
  cases hb : b.latched <;> simp [Bias.released, hb]

section
variable {s : State} (hstruck : s.fixer.struck = []) (hhist : s.fixer.hist.length = 44) (hbias : s.front.bias.length = 16)
  {l : List Nat} (hl : ∀ k ∈ l, k < 16)
include hstruck

theorem State.SameButBiases.releases : s.SameButBiases (l.foldl State.releaseBias s) :=
  foldl_inv (I := s.SameButBiases) (fun _ k h => h.releaseBias hstruck k) l s (.refl s)

include hbias hl

/-- A pass of releases ends the lasting shorts of the biases it names. -/
theorem State.biasOf_releases {k : Nat} (hk : k < 16) :
    (l.foldl State.releaseBias s).biasOf k = if k ∈ l then (s.biasOf k).released else s.biasOf k := by
  refine foldl_visit (get := State.biasOf) (upd := fun _ => Bias.released) (I := s.SameButBiases) (Q := (· < 16))
    (fun u k h _ => h.releaseBias hstruck k) (fun u k h hk => ?_) (fun u k m h hk _ hm => ?_) (fun _ => Bias.released_released) l s (.refl s)
    hl k hk
  · rw [State.biasOf_releaseBias (h.struck.trans hstruck) (by rw [h.2.2, hbias]; exact hk), if_pos rfl]
  · rw [State.biasOf_releaseBias (h.struck.trans hstruck) (by rw [h.2.2, hbias]; exact hk), if_neg hm]

omit hbias
include hhist

/-- A pass of releases clears the instances of the biases it names. -/
theorem State.history_biasReleases {k : Nat} (hk : k < 16) :
    (l.foldl State.releaseBias s).history (5 + k) = if k ∈ l then (s.history (5 + k)).cleared else s.history (5 + k) := by
  refine foldl_visit (get := fun u k => u.history (5 + k)) (upd := fun _ => History.cleared) (I := s.SameButBiases) (Q := (· < 16))
    (fun u k h _ => h.releaseBias hstruck k) (fun u k h hk => ?_) (fun u k m h hk hm hne => ?_) (fun _ _ => rfl) l s (.refl s) hl k hk
  · rw [State.history_releaseBias (h.struck.trans hstruck) (h.2.1.trans hhist) hk hk, if_pos rfl]
  · rw [State.history_releaseBias (h.struck.trans hstruck) (h.2.1.trans hhist) hk hm, if_neg hne]

end

/-- Of a bias: whether it is on, when it shorted, and whether that is lasting. -/
abbrev State.biasState (s : State) (k : Nat) : Bool × Option Nat × Bool := ((s.biasOf k).on, (s.biasOf k).shorted, (s.biasOf k).latched)

/-- What a bias update makes of a bias, by whether it is wanted (R279). -/
abbrev biasUpdated (want : Bool) : Bool × Option Nat × Bool → Bool × Option Nat × Bool
  | (_, shorted, latched) => (want && shorted.isNone && !latched, shorted, latched)

/-- A bias update turns its bias on where that is wanted and no short holds it, and off otherwise (R279). -/
theorem State.biasState_updateBias {s : State} {k m : Nat} (hk : k < s.front.bias.length) :
    (s.updateBias k).biasState m = if m = k then biasUpdated (s.biasWanted m) (s.biasState m) else s.biasState m := by
  have hmod : ∀ f : Bias → Bias, (s.modBias k f).biasOf m = if m = k then f (s.biasOf k) else s.biasOf m := fun f => by
    by_cases hm : m = k
    · rw [if_pos hm, hm]
      exact nth_modNth_same _ _ _ _ hk
    · rw [if_neg hm]
      exact nth_modNth_other _ _ _ hm
  by_cases hm : m = k
  · subst hm
    simp only [if_true] at hmod ⊢
    unfold State.updateBias
    dsimp only
    cases hwant : s.biasWanted m && (s.biasOf m).shorted.isNone && !(s.biasOf m).latched <;> cases hon : (s.biasOf m).on <;>
      simp [State.biasState, hmod, hon, hwant, State.rampBias, biasUpdated]
    split
    · simp [hon]
    · simp [hmod, hon]
  · simp only [if_neg hm] at hmod ⊢
    unfold State.updateBias
    dsimp only
    (repeat' split) <;> (simp only [State.biasState, hmod])

theorem State.SameButBiases.biasWanted {s u : State} (h : s.SameButBiases u) (k : Nat) : u.biasWanted k = s.biasWanted k := by
  rw [h.1]
  rfl

/-- After the updates each bias is on where it is wanted and no short holds it (R279). -/
theorem State.biasState_updateBiases {s : State} (hbias : s.front.bias.length = 16) {k : Nat} (hk : k < 16) :
    s.updateBiases.biasState k = biasUpdated (s.biasWanted k) (s.biasState k) := by
  have hvisit := foldl_visit (f := State.updateBias) (get := State.biasState) (upd := fun n => biasUpdated (s.biasWanted n))
    (I := s.SameButBiases) (Q := (· < 16)) (fun u k h _ => h.trans (.updateBias u k)) (fun u k h hk => by
      rw [State.biasState_updateBias (by rw [h.2.2, hbias]; exact hk), if_pos rfl, h.biasWanted])
    (fun u k m h hk _ hm => by rw [State.biasState_updateBias (by rw [h.2.2, hbias]; exact hk), if_neg hm])
    (fun _ _ => rfl) (List.range 16) s (.refl s) (fun k hk => List.mem_range.1 hk) k hk
  exact hvisit.trans (if_pos (List.mem_range.2 hk))

/-- The biases that a write of BIAS_EN releases: those that the host writes to 1 (R280). -/
def biasReleases (src : Src) (v : Word) : List Nat := if src == .host then idxWhere 16 (fun k => bitOf v k && bitOf v (16 + k)) else []

theorem mem_biasReleases {src : Src} {v : Word} {k : Nat} :
    k ∈ biasReleases src v ↔ src = .host ∧ k < 16 ∧ bitOf v k = true ∧ bitOf v (16 + k) = true := by
  cases src <;> simp [biasReleases, idxWhere]

/-- BIAS_EN_SET releases the biases that the host writes to 1, then turns each on or off (R274, R280). -/
theorem exec_biasEnSet {s : State} {src : Src} {v : Word} (hready : s.writeReady src Reg.FRONT_BIAS_EN v)
    (hsets : bits (v &&& (v >>> 16)) 15 0 ≠ 0) : exec (.biasEnSet src v) s =
      .next (((((biasReleases src v).foldl State.releaseBias (s.storedM Reg.FRONT_BIAS_EN v)).updateBiases).answer Status.ok []).endCycle) := by
  have hstruck : (s.storedM Reg.FRONT_BIAS_EN v).fixer.struck = [] := hready.1.2.2.2.1
  have hforced : ∀ u : State, u.fixer.struck = [] → idxWhere 16 u.biasForced = [] := fun u hu =>
    List.filter_eq_nil_iff.2 fun k _ => by simp [State.biasForced, hu]
  have heffect : (s.storedM Reg.FRONT_BIAS_EN v).maskedEffect src Reg.FRONT_BIAS_EN (s.reg Reg.FRONT_BIAS_EN) v
      (maskedWrite (s.reg Reg.FRONT_BIAS_EN) v) =
      ((biasReleases src v).foldl State.releaseBias (s.storedM Reg.FRONT_BIAS_EN v)).updateBiases := by
    have hpage : ∀ (u : State) (old new : Word), u.maskedEffect src Reg.FRONT_BIAS_EN old v new = u.biasWrite (src == .host) v :=
      fun _ _ _ => rfl
    have hwrite : ∀ u : State, u.fixer.struck = [] → u.biasWrite (src == .host) v =
        ((biasReleases src v).foldl State.releaseBias u).updateBiases := fun u hu => by
      have hreleased : (if src == .host then (idxWhere 16 (fun k => bitOf v k && bitOf v (16 + k))).foldl State.releaseBias u else u) =
          (biasReleases src v).foldl State.releaseBias u := by
        cases src <;> rfl
      rw [State.biasWrite, hreleased]
      simp only [hforced _ ((State.SameButBiases.releases hu).struck.trans hu), List.foldl_nil]
    rw [hpage, hwrite _ hstruck]
  rw [← heffect]
  exact congrArg Host.Outcome.next (State.endCycle_commandWrite_effect (fits := fun _ _ => bits (v &&& (v >>> 16)) 15 0 != 0) hready rfl rfl
    (by simpa using hsets))

/-! ### The statement -/

/-- A start of a search, or its refusal (R600). -/
theorem steerSearch_starts (s : State) (src : Src) (v : Word) (hready : s.writeReady src Reg.STAGE_STEER_CTL v) (hroom : s.roomFor 1)
    (hgo : bitOf (maskedWrite (s.reg Reg.STAGE_STEER_CTL) v) 0 = true) :
    ∃ t, exec (.steerSearch src v) s = .next t ∧ t.port.status = 0 ∧ t.flag Reg.STAGE_STEER_CTL 0 = false ∧
      (if s.carriers.any (fun c => decide (c < 100 ∨ 1800 < c)) = true then t.stage = s.stage ∧ t.flag Reg.STAGE_STAGE_STATUS 5 = true ∧
          Logged s t [s.entry Log.STAGE 5 (ofBytes 0 0 0 0) 0]
       else if 150 ≤ s.fld Reg.STAGE_STEER_WIN 19 10 ∧ s.fld Reg.STAGE_STEER_WIN 19 10 ≤ s.fld Reg.STAGE_STEER_WIN 9 0 ∧
          s.fld Reg.STAGE_STEER_WIN 9 0 ≤ s.fld Reg.STAGE_STEER_WIN 29 20 ∧ s.fld Reg.STAGE_STEER_WIN 29 20 ≤ 1000 then
          t.stage = { s.stage with search := some (s.snapshot (bits (maskedWrite (s.reg Reg.STAGE_STEER_CTL) v) 3 2)),
                                   snap := some (s.snapshot (bits (maskedWrite (s.reg Reg.STAGE_STEER_CTL) v) 3 2)) } ∧ Logged s t []
       else t.stage = s.stage ∧ t.flag Reg.STAGE_STAGE_STATUS 5 = true ∧ Logged s t [s.entry Log.STAGE 5 (ofBytes 1 0 0 0) 0]) := by
  have hwake : (s.storedM Reg.STAGE_STEER_CTL v).reg Reg.DEV_WAKE_CFG = s.reg Reg.DEV_WAKE_CFG := s.storedM_reg_other v (by decide)
  have hsnap : ∀ mode, (s.storedM Reg.STAGE_STEER_CTL v).snapshot mode = s.snapshot mode :=
    State.snapshot_congr fun a _ hlast => s.storedM_reg_other v (Nat.ne_of_lt hlast)
  generalize hmode : bits (maskedWrite (s.reg Reg.STAGE_STEER_CTL) v) 3 2 = mode at *
  have hstarts := exec_steerSearch hready hgo
  rw [hmode] at hstarts
  have hraised : s.fixer.raised = [] := hroom.1.1
  refine ⟨_, hstarts, ?_, ?_, ?_⟩
  · rw [State.endCycle_port, State.answer_status]
  · rw [State.endCycle_flag _ _ (by decide) (by decide), State.answer_flag]
    have hother : ((s.storedM Reg.STAGE_STEER_CTL v).startSearch mode).reg Reg.STAGE_STEER_CTL =
        (s.storedM Reg.STAGE_STEER_CTL v).reg Reg.STAGE_STEER_CTL := by
      cases hbad : ((s.storedM Reg.STAGE_STEER_CTL v).snapshot mode).bad with
      | none => rw [State.startSearch_accepted hbad]; rfl
      | some why => rw [State.startSearch_refused hbad, State.reg_raise, State.reg_setFlag_other _ _ (by decide)]
    rw [State.flag, hother]
    exact s.storedM_flag_clear v rfl (by decide)
  · have hrefused : ∀ {why}, (s.snapshot mode).bad = some why → _ := fun h =>
      State.endCycle_startSearch_refused hroom ((congrArg Search.bad (hsnap mode)).trans h) rfl rfl hwake
    split
    · next hcarriers => exact hrefused (by rw [State.snapshot_bad, if_pos hcarriers])
    · split
      · next hcarriers hwin =>
        have hbad : ((s.storedM Reg.STAGE_STEER_CTL v).snapshot mode).bad = none := by
          rw [hsnap, State.snapshot_bad, if_neg hcarriers, if_pos hwin]
        rw [State.startSearch_accepted hbad, hsnap]
        exact ⟨State.endCycle_stage _, State.logged_endCycle_nil rfl hraised⟩
      · next hcarriers hwin => exact hrefused (by rw [State.snapshot_bad, if_neg hcarriers, if_neg hwin])

/-- Settles O34: each write comes down to its effect, a search, a pass of releases, or both passes over the biases. -/
theorem searchesLatchesAndClears : Obligations.SearchesLatchesAndClears := by
  unfold Obligations.SearchesLatchesAndClears
  refine ⟨steerSearch_starts, fun c s src v hready hhist hc => ?_, fun s src v hready hbias hhist hsets => ?_,
    fun s src v hready hhist hgo => ?_⟩
  · have hrange : ∀ i ∈ latchReleases src v, i < s.fixer.hist.length := fun i hi => by
      obtain ⟨-, -, hhigh, -⟩ := mem_latchReleases.1 hi
      omega
    obtain ⟨hkeeps, hcleared⟩ := State.endCycle_releases
      (s := ((s.storedM Reg.STAGE_LATCH v).setReg Reg.STAGE_LATCH (s.reg Reg.STAGE_LATCH)).setReg Reg.STAGE_LATCH
        (maskedWrite (s.reg Reg.STAGE_LATCH) v)) hready.1 hrange
    refine ⟨_, exec_latchWrite hready hc, ?_, ?_, fun a ha => ?_, fun i hi => ?_⟩
    · rw [State.endCycle_port, State.answer_status]
    · rw [hkeeps _ (List.not_mem_nil), State.reg_setReg_same]
    · have hother : a ≠ Reg.STAGE_LATCH := List.ne_of_not_mem_cons ha
      rw [hkeeps _ (List.not_mem_nil), State.reg_setReg_other _ _ hother, State.reg_setReg_other _ _ hother, State.storedM_reg_other _ _ hother]
    · rw [hcleared i (by rw [← hhist] at hi; exact hi)]
      simp only [mem_latchReleases]
      rfl
  · have hstruck : (s.storedM Reg.FRONT_BIAS_EN v).fixer.struck = [] := hready.1.2.2.2.1
    have hl : ∀ k ∈ biasReleases src v, k < 16 := fun k hk => (mem_biasReleases.1 hk).2.1
    have hreleased := State.SameButBiases.releases (l := biasReleases src v) hstruck
    have hsame := hreleased.trans (.updateBiases _)
    have hupdated : ∀ k, k < 16 → _ := fun k hk => State.biasState_updateBiases (hreleased.2.2.trans hbias) hk
    have hhistory : ∀ k, k < 16 → _ := fun k hk => State.history_biasReleases hstruck hhist hl hk
    generalize hr : (biasReleases src v).foldl State.releaseBias (s.storedM Reg.FRONT_BIAS_EN v) = r at *
    have hraised : (r.updateBiases.answer Status.ok []).fixer.raised = [] := hsame.raised.trans hready.1.1
    have hkeeps : ∀ a, (r.updateBiases.answer Status.ok []).endCycle.reg a = (s.storedM Reg.FRONT_BIAS_EN v).reg a := fun a =>
      (State.endCycle_reg_of_calm hraised a).trans (hsame.reg a)
    have hend : ∀ i, (r.updateBiases.answer Status.ok []).endCycle.history i = r.history i := fun i =>
      (State.endCycle_history_of_calm hraised i).trans (r.history_updateBiases i)
    have hfront : ∀ k, (r.updateBiases.answer Status.ok []).endCycle.biasOf k = r.updateBiases.biasOf k := fun k => by
      rw [State.biasOf, State.endCycle_front, State.answer_front]
      rfl
    have hlatched : ∀ k, k < 16 → (r.updateBiases.biasOf k).latched = (r.biasOf k).latched := fun k hk =>
      congrArg (fun b => b.2.2) (hupdated k hk)
    have hreleases : ∀ k, k < 16 → r.biasOf k = if k ∈ biasReleases src v then (s.biasOf k).released else s.biasOf k := fun k hk => by
      rw [← hr]
      exact State.biasOf_releases hstruck hbias hl hk
    have hexec := exec_biasEnSet hready hsets
    rw [hr] at hexec
    refine ⟨_, hexec, ?_, ?_, fun a ha => ?_, fun k hk hsrc hone hmask => ?_, fun k hk hnot => ?_, fun k hk => ?_⟩
    · rw [State.endCycle_port, State.answer_status]
    · rw [hkeeps, State.storedM_reg_same]
      exact BitVec.and_allOnes
    · rw [hkeeps, State.storedM_reg_other _ _ (List.ne_of_not_mem_cons ha)]
    · have hmem : k ∈ biasReleases src v := mem_biasReleases.2 ⟨hsrc, hk, hone, hmask⟩
      refine ⟨?_, ?_⟩
      · rw [hfront, hlatched k hk, hreleases k hk, if_pos hmem]
        cases hb : (s.biasOf k).latched <;> simp [Bias.released, hb]
      · rw [hend, hhistory k hk, if_pos hmem]
        exact ⟨rfl, rfl⟩
    · have hmem : k ∉ biasReleases src v := fun h => by
        obtain ⟨hsrc, -, hone, hmask⟩ := mem_biasReleases.1 h
        simp [hsrc, hone, hmask] at hnot
      refine ⟨?_, ?_⟩
      · rw [hfront, hlatched k hk, hreleases k hk, if_neg hmem]
      · rw [hend, hhistory k hk, if_neg hmem]
        rfl
    · have hon : (r.updateBiases.biasOf k).on =
          (r.biasWanted k && (r.updateBiases.biasOf k).shorted.isNone && !(r.updateBiases.biasOf k).latched) := by
        have hstate := hupdated k hk
        have hshorted : (r.updateBiases.biasOf k).shorted = (r.biasOf k).shorted := congrArg (fun b => b.2.1) hstate
        rw [hshorted, hlatched k hk]
        exact congrArg (fun b => b.1) hstate
      rw [hfront, hon, hreleased.biasWanted]
      have hwanted : (s.storedM Reg.FRONT_BIAS_EN v).flag Reg.FRONT_BIAS_EN k = bitOf (maskedWrite (s.reg Reg.FRONT_BIAS_EN) v) k := by
        rw [State.flag, State.storedM_reg_same]
        exact congrArg (bitOf · k) BitVec.and_allOnes
      rw [State.biasWanted, hwanted, Bool.and_right_comm s.ident.done]
      rfl
  · have hraised : s.fixer.raised = [] := hready.1.1
    have hrange : ∀ i ∈ (if bits (maskedWrite (s.reg Reg.FIXER_CLEAR) v) 5 0 < 44 then [bits (maskedWrite (s.reg Reg.FIXER_CLEAR) v) 5 0] else []),
        i < s.fixer.hist.length := by
      intro i hi
      split at hi
      · next hsmall =>
        rw [List.mem_singleton.1 hi, hhist]
        exact hsmall
      · exact absurd hi List.not_mem_nil
    obtain ⟨hkeeps, hcleared⟩ := State.endCycle_releases (s := s.storedM Reg.FIXER_CLEAR v) hready.1 hrange
    refine ⟨_, exec_fixerClear hready hgo, ?_, ?_, fun a ha => ?_, fun i hi => ?_⟩
    · rw [State.endCycle_port, State.answer_status]
    · rw [State.flag, hkeeps _ List.not_mem_nil]
      exact s.storedM_flag_clear v rfl (by decide)
    · rw [hkeeps _ List.not_mem_nil, State.storedM_reg_other _ _ (List.ne_of_not_mem_cons ha)]
    · rw [hcleared i (by rw [← hhist] at hi; exact hi)]
      have hmem : i ∈ (if bits (maskedWrite (s.reg Reg.FIXER_CLEAR) v) 5 0 < 44 then
          [bits (maskedWrite (s.reg Reg.FIXER_CLEAR) v) 5 0] else []) ↔ i = bits (maskedWrite (s.reg Reg.FIXER_CLEAR) v) 5 0 := by
        split
        · exact List.mem_singleton
        · simp only [List.not_mem_nil, false_iff]
          omega
      simp only [hmem]
      rfl

end Sys2Proof.Machine
end

section
/-! PROOFS. The mailbox (R674 to R676): its command passed or refused, the results that the firmware leaves, and the statement drawn from them. -/

namespace Sys2Proof.Machine

/-! ### The command -/

/-- Each mailbox command is the write of MBX_CMD with GO set and an OP of its own. -/
theorem exec_mailbox {c : Instr} {s : State} {src : Src} {v : Word} (hrow : mailboxRow c = some (src, v)) :
    exec c s = .next (s.commandWrite src Reg.LOUPE_MBX_CMD (fun _ new => bitOf new 8 && mailboxFits c (bits new 7 0)) v).endCycle := by
  cases c <;> cases hrow <;> rfl

section
variable {s : State} {src : Src} {v : Word} {fits : Word → Word → Bool} (hbetween : s.between) (hreach : s.reaches src = true)
  (hpair : s.noPair) (hpower : s.pageOff Reg.LOUPE_MBX_CMD = false) (hmask : bits v 31 16 ≠ 0)
  (hgo : bitOf (maskedWrite (s.reg Reg.LOUPE_MBX_CMD) v) 8 = true)
  (hfits : fits (s.reg Reg.LOUPE_MBX_CMD) (maskedWrite (s.reg Reg.LOUPE_MBX_CMD) v) = true)
include hbetween hreach hpair hpower hmask hgo hfits

/-- A mailbox command that finds the firmware busy, or the Loupe halted, is answered with ACCESS and has no effect (R674). -/
theorem State.endCycle_mailbox_busy (hbusy : s.mbxRefused = true) :
    (s.commandWrite src Reg.LOUPE_MBX_CMD fits v).endCycle = s.answer Status.access [] := by
  have hrefused : s.maskedRefused Reg.LOUPE_MBX_CMD v (maskedWrite (s.reg Reg.LOUPE_MBX_CMD) v) = true := by
    change (bitOf (maskedWrite (s.reg Reg.LOUPE_MBX_CMD) v) 8 && s.mbxRefused) = true
    rw [hgo, hbusy]
    rfl
  have hcommand : s.commandWrite src Reg.LOUPE_MBX_CMD fits v = s.accessWrite src Reg.LOUPE_MBX_CMD v := by
    simp [State.commandWrite, hmask, hfits]
  have hwrite : s.writeM src Reg.LOUPE_MBX_CMD v = (s, Status.access) := by
    simp [State.writeM, hmask, hrefused]
  rw [hcommand, State.accessWrite_reaching v hreach (fun _ => rfl), State.portWrite_masked v false hpair hpower rfl, hwrite,
    State.endCycle_answer hbetween]

/-- A mailbox command that finds the firmware free passes its OP and the argument (R674). -/
theorem State.endCycle_mailbox_free (hfree : s.mbxRefused = false) : (s.commandWrite src Reg.LOUPE_MBX_CMD fits v).endCycle =
    ((s.storedM Reg.LOUPE_MBX_CMD v).mbxPass (bits (maskedWrite (s.reg Reg.LOUPE_MBX_CMD) v) 7 0)).answer Status.ok [] := by
  have hlet : s.maskedRefused Reg.LOUPE_MBX_CMD v (maskedWrite (s.reg Reg.LOUPE_MBX_CMD) v) = false := by
    change (bitOf (maskedWrite (s.reg Reg.LOUPE_MBX_CMD) v) 8 && s.mbxRefused) = false
    rw [hgo, hfree]
    rfl
  have heffect : ∀ t : State, t.maskedEffect src Reg.LOUPE_MBX_CMD (s.reg Reg.LOUPE_MBX_CMD) v (maskedWrite (s.reg Reg.LOUPE_MBX_CMD) v) =
      t.mbxPass (bits (maskedWrite (s.reg Reg.LOUPE_MBX_CMD) v) 7 0) := fun t => if_pos hgo
  rw [State.endCycle_commandWrite_effect ⟨hbetween, hreach, hpair, hmask, hpower, hlet⟩ rfl rfl hfits, heffect]
  exact State.endCycle_answer (s := (s.storedM Reg.LOUPE_MBX_CMD v).mbxPass _) hbetween _ _

end

/-! ### The result -/

/-- What the firmware's completion leaves: the result, a free mailbox, and MBX_DONE (R675). -/
theorem State.mbxDone_leaves {s : State} {op : Nat} {arg : Word} (r : Word) (snap : Sensors) (h : s.loupe.mbx = some (op, arg)) :
    (s.mbxDone r snap).loupe.mbx = none ∧ (s.mbxDone r snap).flag Reg.LOUPE_LOUPE_STATUS 0 = true ∧
      (s.mbxDone r snap).reg Reg.LOUPE_MBX_RESULT = ((if op = 1 then s.takeSensors snap else s).mbxResult op arg r).1 := by
  simp only [State.mbxDone, h]
  refine ⟨by rw [State.setFlag_loupe], State.flag_setFlag_same _ _ _ (by decide), ?_⟩
  rw [State.reg_setFlag_other _ _ (by decide)]
  exact State.reg_setReg_same _ _ _

/-- The completion of the firmware's command ends the cycle so. -/
theorem exec_mbxDone {s : State} (r : Word) (snap : Sensors) (hacting : s.acting = true) (hpowered : s.loupe.powered = true)
    (hhalted : s.loupe.halted = false) : exec (.mbxDone r snap) s = .next (s.mbxDone r snap).endCycle := by
  have hacts : s.loupeActs = true := by simp [State.loupeActs, State.loupeUp, hacting, hpowered, hhalted]
  change Host.Outcome.next (if s.loupeActs then s.mbxDone r snap else s).endCycle = _
  rw [if_pos hacts]

/-- The results of the OPs below 0x80 that take nothing from the sensors (R675, R676). -/
theorem State.mbxResult_of_op (s : State) {op : Nat} (arg r : Word) :
    (op = 0 → (s.mbxResult op arg r).1 = arg) ∧ (op = 1 → (s.mbxResult op arg r).1 = 0#32) ∧
      (op = 3 → (s.mbxResult op arg r).1 = if s.loupe.patch = 2 then shaLow s.patchMessage else 0) ∧
      (3 < op → op < 0x80 → (s.mbxResult op arg r).1 = 0xFFFFFFFF#32) ∧
      (0x80 ≤ op → (s.mbxResult op arg r).1 = if s.loupe.patch = 2 then r else 0xFFFFFFFF#32) := by
  refine ⟨?_, ?_, ?_, fun hlow hhigh => ?_, fun hpatch => ?_⟩
  · rintro rfl
    rfl
  · rintro rfl
    rfl
  · rintro rfl
    change (if s.loupe.patch = 2 then (shaLow s.patchMessage, s.fogSpan (Tank.patch + 16) (16 + s.patchLen)) else (0, s)).1 = _
    split <;> rfl
  · simp [State.mbxResult, show op ≠ 0 by omega, show op ≠ 1 by omega, show op ≠ 2 by omega, show op ≠ 3 by omega, hhigh]
  · simp [State.mbxResult, show op ≠ 0 by omega, show op ≠ 1 by omega, show op ≠ 2 by omega, show op ≠ 3 by omega,
      show ¬ op < 0x80 by omega]

/-- EXTREME answers the reading that its argument names, where the unit has had one (R675). -/
theorem State.mbxResult_extreme {s : State} {arg : Word} (r : Word)
    (h : (nth (if bitOf arg 4 then s.loupe.greatest else s.loupe.least) (bits arg 3 0) none).isSome = true) :
    some (s.mbxResult 2 arg r).1 =
      (nth (if bitOf arg 4 then s.loupe.greatest else s.loupe.least) (bits arg 3 0) none).map (fun x => BitVec.ofNat 32 x.toNat) := by
  obtain ⟨x, hx⟩ := Option.isSome_iff_exists.1 h
  simp [State.mbxResult, hx]

/-! ### The statement -/

/-- Settles O35: a command is the write of MBX_CMD, refused or passed on; its completion leaves the result of its OP. -/
theorem mailboxPassesAndCompletes : Obligations.MailboxPassesAndCompletes := by
  unfold Obligations.MailboxPassesAndCompletes
  refine ⟨fun c s src v hrow hbetween hreach hpair hpower hmask hgo hfits => ?_, fun s r snap op arg hacting hpowered hhalted hmbx => ?_⟩
  · have hrowFits : (fun _ new => bitOf new 8 && mailboxFits c (bits new 7 0) : Word → Word → Bool) (s.reg Reg.LOUPE_MBX_CMD)
        (maskedWrite (s.reg Reg.LOUPE_MBX_CMD) v) = true := by simp [hgo, hfits]
    refine ⟨_, exec_mailbox hrow, ?_⟩
    by_cases hbusy : s.mbxRefused = true
    · have hsays : s.loupe.mbx.isSome = true ∨ s.loupe.halted = true := by simpa [State.mbxRefused] using hbusy
      rw [if_pos hsays, State.endCycle_mailbox_busy hbetween hreach hpair hpower hmask hgo hrowFits hbusy]
      exact ⟨fun _ _ => rfl, rfl, rfl⟩
    · have hfree : s.mbxRefused = false := by simpa using hbusy
      have hsays : ¬ (s.loupe.mbx.isSome = true ∨ s.loupe.halted = true) := by simpa [State.mbxRefused] using hfree
      rw [if_neg hsays, State.endCycle_mailbox_free hbetween hreach hpair hpower hmask hgo hrowFits hfree]
      refine ⟨s.keepsRegs_storedM _ v, rfl, s.storedM_reg_same _ v, ?_⟩
      have harg : (s.storedM Reg.LOUPE_MBX_CMD v).reg Reg.LOUPE_MBX_ARG = s.reg Reg.LOUPE_MBX_ARG := s.storedM_reg_other v (by decide)
      rw [State.answer_loupe, State.mbxPass, harg]
      rfl
  · obtain ⟨hnone, hdone, hresult⟩ := State.mbxDone_leaves r snap hmbx
    obtain ⟨h0, -, h3, hunserved, hpatch⟩ := s.mbxResult_of_op (op := op) arg r
    have hreg : (s.mbxDone r snap).endCycle.reg Reg.LOUPE_MBX_RESULT = ((if op = 1 then s.takeSensors snap else s).mbxResult op arg r).1 := by
      rw [State.endCycle_reg _ (by decide) (by decide), hresult]
    have hrest : op ≠ 1 → (s.mbxDone r snap).endCycle.reg Reg.LOUPE_MBX_RESULT = (s.mbxResult op arg r).1 := fun h => by
      rw [hreg, if_neg h]
    refine ⟨_, exec_mbxDone r snap hacting hpowered hhalted, ?_, ?_, fun h => ?_, fun h => ?_, fun h hsome => ?_, fun h => ?_,
      fun hlow hhigh => ?_, fun h => ?_⟩
    · rw [State.endCycle_loupe, hnone]
    · rw [State.endCycle_flag _ _ (by decide) (by decide), hdone]
    · rw [hrest (by omega), h0 h]
    · rw [hreg]
      exact (State.mbxResult_of_op _ arg r).2.1 h
    · rw [hrest (by omega)]
      subst h
      exact State.mbxResult_extreme r hsome
    · rw [hrest (by omega), h3 h]
    · rw [hrest (by omega), hunserved hlow hhigh]
    · rw [hrest (by omega), hpatch h]

end Sys2Proof.Machine
end

section
/-! PROOFS. Guarded pairs on states that two statements leave in: an override whose entry finds the staging queue full, which LOG_DROPS counts
(R692), and a refused lifecycle request for RETURNED, whose reading of the patch's header aborts the fog test there (R645); and the refutations
drawn from them. -/

namespace Sys2Proof.Machine

/-! ### An override with a full staging queue -/

/-- An entry that waits in the staging queue. -/
def waitingEntry : LogEntry := { epoch := 0, source := 0, code := 0, lo := 0, hi := 0, event := false }

/-- An up unit whose staging queue is full and whose host has armed ADDR_OVR with an override of POSITION. -/
def fullStaging : State :=
  { clk := { power := .up }
    ident := { done := true }
    port := { armHost := some ⟨Reg.CHIP_ADDR_OVR_A, ~~~0xFFFFBFFE#32⟩ }
    fixer := { staged := List.replicate 63 waitingEntry } }

theorem fullStaging_pairReady : fullStaging.pairReady .host Reg.CHIP_ADDR_OVR_A 0xFFFFBFFE#32 :=
  ⟨⟨rfl, rfl, rfl, rfl, rfl, rfl⟩, rfl, rfl, rfl, rfl, rfl⟩

/-- The override's entry is dropped there, and LOG_DROPS counts it. -/
theorem exec_addrOverride_full :
    ∃ t, exec (.addrOverride .host 0xFFFFBFFE#32) fullStaging = .next t ∧ t.reg Reg.FIXER_LOG_DROPS ≠ fullStaging.reg Reg.FIXER_LOG_DROPS :=
  ⟨_, rfl, by decide⟩

theorem not_keepsRegs_addrOverride_full {t : State} (h : exec (.addrOverride .host 0xFFFFBFFE#32) fullStaging = .next t) :
    ¬ KeepsRegs fullStaging t [Reg.CHIP_ID_STATUS] := by
  obtain ⟨u, hu, hdrops⟩ := exec_addrOverride_full
  obtain rfl : t = u := Host.Outcome.next.inj (h.symm.trans hu)
  exact fun hkeeps => hdrops (hkeeps _ (by decide))

/-- Refutes O37: the entry of an override that finds the staging queue full is dropped, which LOG_DROPS counts. -/
theorem not_overridesModesAndResets : ¬ Obligations.OverridesModesAndResets := by
  unfold Obligations.OverridesModesAndResets
  rintro ⟨-, hoverride, -⟩
  obtain ⟨t, hexec, -, hkept⟩ := hoverride fullStaging .host 0xFFFFBFFE#32 fullStaging_pairReady
  rw [if_neg (by decide)] at hkept
  exact not_keepsRegs_addrOverride_full hexec hkept.2.2.1

/-- Refutes O25: the value of ADDR_OVR waits, but its entry finds the staging queue full, and LOG_DROPS counts that. -/
theorem not_guardedPairsArmBreakAndStore : ¬ Obligations.GuardedPairsArmBreakAndStore := by
  unfold Obligations.GuardedPairsArmBreakAndStore
  rintro ⟨-, -, -, -, -, -, hwaits, -⟩
  obtain ⟨t, hexec, -, -, -, hkeeps, -⟩ := hwaits (.addrOverride .host 0xFFFFBFFE#32) fullStaging .host Reg.CHIP_ADDR_OVR_A 0xFFFFBFFE#32 rfl
    fullStaging_pairReady rfl rfl
  exact not_keepsRegs_addrOverride_full hexec hkeeps

/-! ### A lifecycle request while the fog test has the patch's header -/

/-- A unit in DAYLIGHT whose fog test has borrowed the region of the patch's header, and whose host has armed LIFE with RETURNED. -/
def borrowedPatch : State :=
  { clk := { power := .up, daylight := true }
    ident := { done := true }
    port := { armHost := some ⟨Reg.LOUPE_LIFE_A, ~~~0xFFFFFFFC#32⟩ }
    bank := { phase := .march, region := Tank.patch / 16 } }

/-- The refused request ends the fog test's step there. -/
theorem exec_lifecycleRequest_borrowed :
    ∃ t, exec (.lifecycleRequest .host 0xFFFFFFFC#32) borrowedPatch = .next t ∧ t.bank.phase ≠ borrowedPatch.bank.phase :=
  ⟨_, rfl, by decide⟩

/-- Refutes O39: a refused request for RETURNED has read the patch's header, which ends the fog test's step there. -/
theorem not_wipesLifecyclePatchesAndTest : ¬ Obligations.WipesLifecyclePatchesAndTest := by
  unfold Obligations.WipesLifecyclePatchesAndTest
  rintro ⟨-, -, hrefused, -⟩
  obtain ⟨t, hexec, -, hsame⟩ := hrefused borrowedPatch .host 0xFFFFFFFC#32 ⟨rfl, rfl, rfl, rfl, rfl, rfl⟩ rfl rfl rfl rfl
    (.inr (.inl (by decide)))
  obtain ⟨u, hu, hphase⟩ := exec_lifecycleRequest_borrowed
  obtain rfl : t = u := Host.Outcome.next.inj (hexec.symm.trans hu)
  exact hphase (congrArg (fun s => s.bank.phase) hsame)

end Sys2Proof.Machine
end

section
/-! PROOFS. The completing write of a guarded pair (R240 to R242), proof loops and the master enable (R251, R327, R547): what a pair's B write
comes down to where its pair is armed, and the statements drawn from it. -/

namespace Sys2Proof.Machine

/-! ### The completing write of a guarded pair -/

/-- The A word of a guarded pair, whose B word follows it on its page (R240). -/
def PairAddr (a : Nat) : Prop :=
  Reg.kindOf (a + 4) = some .g ∧ Reg.isPairA (a + 4) = false ∧ Reg.pageOf (a + 4) = Reg.pageOf a ∧ ofWindow (a + 4) = false

theorem pairAddr_of_guardedRow {c : Instr} {src : Src} {a : Nat} {v : Word} (h : guardedRow c = some (src, a, v)) : PairAddr a := by
  cases c <;> cases h <;> exact ⟨rfl, rfl, rfl, rfl⟩

/-- Each guarded command is the B write of its pair, with the row's condition on the value (R240). -/
theorem exec_guarded {c : Instr} {s : State} {src : Src} {a : Nat} {v : Word} (h : guardedRow c = some (src, a, v)) :
    exec c s = .next (s.guardedWrite src a (rowFits c) v).endCycle := by
  cases c <;> cases h <;> rfl

/-- An access to the armed pair's B word breaks no pair, where the other source holds none (R240). -/
theorem State.touch_of_armed {s : State} {src : Src} {a : Nat} {w : Word} (harmed : s.armed src = some ⟨a, w⟩)
    (hother : s.armed (otherSrc src) = none) : s.touch src (a + 4) true false = s := by
  simp [State.touch, harmed, hother]

section
variable {s : State} {src : Src} {a : Nat} {v : Word} {fits : Word → Bool} (hpair : PairAddr a) (hreach : s.reaches src = true)
  (harmed : s.armed src = some ⟨a, ~~~v⟩) (hother : s.armed (otherSrc src) = none)
include hpair hreach harmed hother

/-- The B write that completes an armed pair is carried out, the pair armed no more (R240). -/
theorem State.guardedWrite_of_armed (hfits : fits (~~~v) = true) (hpower : s.pageOff a = false) :
    s.guardedWrite src a fits v =
      ((s.setArmed src none).guardCommit src a (~~~v &&& guardMask a)).1.answer
        ((s.setArmed src none).guardCommit src a (~~~v &&& guardMask a)).2 [] := by
  obtain ⟨hkind, hnotA, hpage, hwindow⟩ := hpair
  have hoff : s.pageOff (a + 4) = false := by rwa [State.pageOff, hpage]
  have hwrite : s.guardedWrite src a fits v = s.accessWrite src (a + 4) v := by
    simp [State.guardedWrite, harmed, hfits]
  have hport : s.portWrite src (a + 4) v false = (s.setArmed src none).guardCommit src a (~~~v &&& guardMask a) := by
    simp [State.portWrite, State.touch_of_armed harmed hother, hoff, hkind, State.writeG, hnotA, harmed]
  rw [hwrite, State.accessWrite_reaching v hreach (fun _ => hwindow), hport]

/-- The B write on an unpowered page is answered with ACCESS and has no effect (R229). -/
theorem State.guardedWrite_unpowered (hfits : fits (~~~v) = true) (hpower : s.pageOff a = true) :
    s.guardedWrite src a fits v = s.answer Status.access [] := by
  obtain ⟨-, -, hpage, hwindow⟩ := hpair
  have hoff : s.pageOff (a + 4) = true := by rwa [State.pageOff, hpage]
  have hwrite : s.guardedWrite src a fits v = s.accessWrite src (a + 4) v := by
    simp [State.guardedWrite, harmed, hfits]
  have hport : s.portWrite src (a + 4) v false = (s, Status.access) := by
    simp [State.portWrite, State.touch_of_armed harmed hother, hoff]
  rw [hwrite, State.accessWrite_reaching v hreach (fun _ => hwindow), hport]

end

/-- The same with no pair armed at all. -/
theorem State.guardedWrite_unpowered_unarmed {s : State} {src : Src} {a : Nat} {v : Word} {fits : Word → Bool} (hpair : PairAddr a)
    (hreach : s.reaches src = true) (hnone : s.noPair) (hpower : s.pageOff a = true) :
    s.guardedWrite src a fits v = s.answer Status.access [] := by
  obtain ⟨-, -, hpage, hwindow⟩ := hpair
  have hoff : s.pageOff (a + 4) = true := by rwa [State.pageOff, hpage]
  have hunarmed : s.armed src = none := by
    obtain ⟨hhost, hloupe⟩ := hnone
    cases src
    · exact hhost
    · exact hloupe
  have hwrite : s.guardedWrite src a fits v = s.accessWrite src (a + 4) v := by
    simp [State.guardedWrite, hunarmed]
  have hport : s.portWrite src (a + 4) v false = (s, Status.access) := by
    simp [State.portWrite, State.touch_of_noPair hnone, hoff]
  rw [hwrite, State.accessWrite_reaching v hreach (fun _ => hwindow), hport]

/-- The completing write stores its value, or lets it wait, and takes effect (R240). -/
theorem State.guardCommit_of_fits {s : State} {src : Src} {a : Nat} {w : Word} (hlife : a ≠ Reg.LOUPE_LIFE_A)
    (hfits : s.guardRefused src a w = false) :
    s.guardCommit src a w = ((if guardLater a w then s else s.setPair a w).guardEffect src a w, Status.ok) := by
  simp [State.guardCommit, State.guardReads, hlife, hfits]

theorem State.guardCommit_refused {s : State} {src : Src} {a : Nat} {w : Word} (hlife : a ≠ Reg.LOUPE_LIFE_A)
    (hrefused : s.guardRefused src a w = true) : s.guardCommit src a w = (s, Status.access) := by
  simp [State.guardCommit, State.guardReads, hlife, hrefused]

/-- Which pair is armed decides nothing about what a pair's write is refused for. -/
theorem State.guardRefused_setArmed (s : State) (src x : Src) (o : Option Armed) (a : Nat) (w : Word) :
    (s.setArmed x o).guardRefused src a w = s.guardRefused src a w := by
  cases x <;> rfl

theorem State.setArmed_eq (s : State) (src : Src) (o : Option Armed) : s.setArmed src o = { s with port := (s.setArmed src o).port } := rfl

/-- A guarded command whose pair is ready takes effect once its value is stored, or waits (R240). -/
theorem exec_guarded_ready {c : Instr} {s : State} {src : Src} {a : Nat} {v : Word} (hrow : guardedRow c = some (src, a, v))
    (hfits : rowFits c (~~~v) = true) (hready : s.pairReady src a v) (hlife : a ≠ Reg.LOUPE_LIFE_A) :
    exec c s = .next (((if guardLater a (~~~v &&& guardMask a) then s.setArmed src none else (s.setArmed src none).setPair a (~~~v &&& guardMask a)).guardEffect
      src a (~~~v &&& guardMask a)).answer Status.ok []).endCycle := by
  obtain ⟨-, hreach, harmed, hother, hpower, hlet⟩ := hready
  rw [exec_guarded hrow, State.guardedWrite_of_armed (pairAddr_of_guardedRow hrow) hreach harmed hother hfits hpower,
    State.guardCommit_of_fits hlife ((State.guardRefused_setArmed ..).trans hlet)]

/-- A guarded command that a rule refuses is answered with ACCESS and leaves its pair unarmed (R240). -/
theorem exec_guarded_refused {c : Instr} {s : State} {src : Src} {a : Nat} {v : Word} (hrow : guardedRow c = some (src, a, v))
    (hfits : rowFits c (~~~v) = true) (hbetween : s.between) (hreach : s.reaches src = true) (harmed : s.armed src = some ⟨a, ~~~v⟩)
    (hother : s.armed (otherSrc src) = none) (hpower : s.pageOff a = false) (hlife : a ≠ Reg.LOUPE_LIFE_A)
    (hrefused : s.guardRefused src a (~~~v &&& guardMask a) = true) :
    exec c s = .next ((s.setArmed src none).answer Status.access []) := by
  rw [exec_guarded hrow, State.guardedWrite_of_armed (pairAddr_of_guardedRow hrow) hreach harmed hother hfits hpower,
    State.guardCommit_refused hlife ((State.guardRefused_setArmed ..).trans hrefused),
    State.endCycle_answer (s := s.setArmed src none) hbetween]

/-! ### Fields of a masked word -/

/-- A field that a mask leaves whole. -/
theorem bits_and_of_whole {m : Word} {hi lo : Nat} (w : Word) (h : bits m hi lo = 2 ^ (hi + 1 - lo) - 1) : bits (w &&& m) hi lo = bits w hi lo := by
  rw [bits] at h
  rw [bits, bits, BitVec.toNat_and, Nat.shiftRight_and_distrib, Nat.and_mod_two_pow, h, Nat.and_two_pow_sub_one_eq_mod, Nat.mod_mod]

/-- A bit that a mask leaves. -/
theorem bitOf_and_of_set {m : Word} {i : Nat} (w : Word) (h : bitOf m i = true) : bitOf (w &&& m) i = bitOf w i := by
  rw [bitOf] at h
  rw [bitOf, bitOf, BitVec.getLsbD_and, h, Bool.and_true]

/-! ### Loops -/

/-- A link loop that is selected waits for the next frame start (R135). -/
theorem linkLoop_waits {c : Instr} {s : State} {src : Src} {v : Word} (hrow : guardedRow c = some (src, Reg.LINK_PROOF_CTL_A, v))
    (hfits : rowFits c (~~~v) = true) (hselects : bits (~~~v) 1 0 ≠ 0) (hready : s.pairReady src Reg.LINK_PROOF_CTL_A v) :
    ∃ t, exec c s = .next t ∧ t.port.status = 0 ∧ t.link = { s.link with loopPend := some (~~~v &&& 0x37#32) } ∧
      t.sideA = s.sideA ∧ t.sideB = s.sideB ∧ t.outA = s.outA ∧ t.outB = s.outB ∧ KeepsRegs s t [] := by
  have hsel : bits (~~~v &&& guardMask Reg.LINK_PROOF_CTL_A) 1 0 ≠ 0 := by
    rwa [bits_and_of_whole _ rfl]
  have hlater : guardLater Reg.LINK_PROOF_CTL_A (~~~v &&& guardMask Reg.LINK_PROOF_CTL_A) = true := by
    simp [guardLater, hsel]
  have heffect : ∀ u : State, u.guardEffect src Reg.LINK_PROOF_CTL_A (~~~v &&& guardMask Reg.LINK_PROOF_CTL_A) =
      { u with link := { u.link with loopPend := some (~~~v &&& 0x37#32) } } := fun u => if_neg hsel
  rw [exec_guarded_ready hrow hfits hready (by decide), if_pos hlater, heffect, State.endCycle_answer]
  · exact ⟨_, rfl, rfl, rfl, rfl, rfl, rfl, rfl, fun _ _ => rfl⟩
  · exact hready.1

/-- A front-end loop or capture that is selected waits for the next frame start (R299). -/
theorem frontLoop_waits {c : Instr} {s : State} {src : Src} {v : Word} (hrow : guardedRow c = some (src, Reg.FRONT_PROOF_CTL_A, v))
    (hfits : rowFits c (~~~v) = true) (hready : s.pairReady src Reg.FRONT_PROOF_CTL_A v) :
    ∃ t, exec c s = .next t ∧ t.port.status = 0 ∧ t.front = { s.front with loopPend := some (~~~v &&& 0xFFFF7#32) } ∧ KeepsRegs s t [] := by
  have hlater : guardLater Reg.FRONT_PROOF_CTL_A (~~~v &&& guardMask Reg.FRONT_PROOF_CTL_A) = true := rfl
  have heffect : ∀ u : State, u.guardEffect src Reg.FRONT_PROOF_CTL_A (~~~v &&& guardMask Reg.FRONT_PROOF_CTL_A) =
      { u with front := { u.front with loopPend := some (~~~v &&& 0xFFFF7#32) } } := fun _ => rfl
  rw [exec_guarded_ready hrow hfits hready (by decide), if_pos hlater, heffect, State.endCycle_answer]
  · exact ⟨_, rfl, rfl, rfl, fun _ _ => rfl⟩
  · exact hready.1

/-- A drive loop that is selected waits for the next frame start (R593). -/
theorem driveLoop_waits {c : Instr} {s : State} {src : Src} {v : Word} (hrow : guardedRow c = some (src, Reg.PRINT_PROOF_CTL_A, v))
    (hfits : rowFits c (~~~v) = true) (hready : s.pairReady src Reg.PRINT_PROOF_CTL_A v) :
    ∃ t, exec c s = .next t ∧ t.port.status = 0 ∧ t.print = { s.print with loopPend := some (~~~v &&& 0xFFF1F#32) } ∧ KeepsRegs s t [] := by
  have hlater : guardLater Reg.PRINT_PROOF_CTL_A (~~~v &&& guardMask Reg.PRINT_PROOF_CTL_A) = true := rfl
  have heffect : ∀ u : State, u.guardEffect src Reg.PRINT_PROOF_CTL_A (~~~v &&& guardMask Reg.PRINT_PROOF_CTL_A) =
      { u with print := { u.print with loopPend := some (~~~v &&& 0xFFF1F#32) } } := fun _ => rfl
  rw [exec_guarded_ready hrow hfits hready (by decide), if_pos hlater, heffect, State.endCycle_answer]
  · exact ⟨_, rfl, rfl, rfl, fun _ _ => rfl⟩
  · exact hready.1

/-- A guarded command that is refused is answered with ACCESS and changes nothing but its pair. -/
theorem exec_guarded_access {c : Instr} {s : State} {src : Src} {a : Nat} {v : Word} (hrow : guardedRow c = some (src, a, v))
    (hfits : rowFits c (~~~v) = true) (hbetween : s.between) (hreach : s.reaches src = true) (harmed : s.armed src = some ⟨a, ~~~v⟩)
    (hother : s.armed (otherSrc src) = none) (hpower : s.pageOff a = false) (hlife : a ≠ Reg.LOUPE_LIFE_A)
    (hrefused : s.guardRefused src a (~~~v &&& guardMask a) = true) :
    ∃ t, exec c s = .next t ∧ t.port.status = 5 ∧ t = { s with port := t.port } :=
  ⟨_, exec_guarded_refused hrow hfits hbetween hreach harmed hother hpower hlife hrefused, rfl, rfl⟩

/-- Every form of the front-end pair is refused in SAFELIGHT, where its page has no power (R299). -/
theorem frontLoop_unpowered {c : Instr} {s : State} {src : Src} {v : Word} (hrow : guardedRow c = some (src, Reg.FRONT_PROOF_CTL_A, v))
    (hfits : rowFits c (~~~v) = true) (hbetween : s.between) (hreach : s.reaches src = true)
    (harmed : s.noPair ∨ (s.armed src = some ⟨Reg.FRONT_PROOF_CTL_A, ~~~v⟩ ∧ s.armed (otherSrc src) = none)) (hsafe : s.clk.daylight = false) :
    ∃ t, exec c s = .next t ∧ t.port.status = 5 ∧ t = { s with port := t.port } := by
  have hoff : s.pageOff Reg.FRONT_PROOF_CTL_A = true := by
    rw [State.pageOff, hsafe]
    rfl
  have hpair := pairAddr_of_guardedRow hrow
  have hwrite : s.guardedWrite src Reg.FRONT_PROOF_CTL_A (rowFits c) v = s.answer Status.access [] := by
    obtain hnone | ⟨harmed, hother⟩ := harmed
    · exact State.guardedWrite_unpowered_unarmed hpair hreach hnone hoff
    · exact State.guardedWrite_unpowered hpair hreach harmed hother hfits hoff
  rw [exec_guarded hrow, hwrite, State.endCycle_answer hbetween]
  exact ⟨_, rfl, rfl, rfl⟩

/-! ### The end of a link loop -/

/-- The end of a loop leaves the link with none (R137). -/
theorem State.endLoop_link (s : State) : s.endLoop.link = { s.link with loop := none, loopPend := none } := by
  have hsame : ∀ l : Link, l.loop = none → { l with loopPend := none } = { l with loop := none, loopPend := none } := fun l h => by
    cases l
    cases h
    rfl
  unfold State.endLoop
  split
  · next hnone => exact hsame s.link hnone
  · next n y w _ =>
    dsimp only
    split
    · rfl
    · cases y <;> rfl

/-- The end of a loop that turned no lane or pad leaves the sides and the outputs (R137). -/
theorem State.endLoop_sides {s : State} (h : s.link.loop = none ∨ s.link.loop.map (·.1) = some 3) : s.endLoopAt = s.endLoop ∧
    s.endLoop.sideA = s.sideA ∧ s.endLoop.sideB = s.sideB ∧ s.endLoop.outA = s.outA ∧ s.endLoop.outB = s.outB := by
  unfold State.endLoopAt State.endLoop
  obtain hnone | hthree := h
  · simp only [hnone]
    exact ⟨trivial, trivial, trivial, trivial, trivial⟩
  · obtain ⟨⟨n, y, w⟩, hloop, hn⟩ := Option.map_eq_some_iff.1 hthree
    subst hn
    simp only [hloop, if_true]
    exact ⟨trivial, trivial, trivial, trivial, trivial⟩

/-- What a side's loss leaves in the judgement of register fields touches neither the link nor its sides. -/
theorem State.judgeLost_link (s : State) (y : Side) :
    (s.judgeLost y).link = s.link ∧ (s.judgeLost y).sideA = s.sideA ∧ (s.judgeLost y).sideB = s.sideB := by
  obtain ⟨⟨hparts, -⟩, -⟩ := State.conf_judgeLost y (conf_refl s [.sset, .bumped, .caused, .frame, .fixer] (fun _ => True)) (fun _ h => h)
    (fun _ _ => trivial)
  exact ⟨hparts .link (by decide), hparts .sideA (by decide), hparts .sideB (by decide)⟩

theorem State.endLoopAt_link (s : State) : s.endLoopAt.link = { s.link with loop := none, loopPend := none } := by
  unfold State.endLoopAt
  split
  · split
    · exact s.endLoop_link
    · rw [(State.judgeLost_link _ _).1, s.endLoop_link]
  · exact s.endLoop_link

/-- The end of a pad or lane loop drops its side's lock, and leaves the other side (R137). -/
theorem State.endLoopAt_sd {s : State} {n w : Nat} {y : Side} (hloop : s.link.loop = some (n, y, w)) (hn : n ≠ 3) (x : Side) :
    s.endLoopAt.sd x = (s.dropLock y).sd x := by
  have hjudged : s.endLoopAt.sd x = s.endLoop.sd x := by
    obtain ⟨-, hA, hB⟩ := State.judgeLost_link s.endLoop y
    simp only [State.endLoopAt, hloop, if_neg hn]
    cases x
    · exact hA
    · exact hB
  rw [hjudged]
  simp only [State.endLoop, hloop, if_neg hn]
  cases x <;> cases y <;> rfl

/-- LINK_LOOP_OFF ends the loop at once, and its pair's value is stored (R137). -/
theorem exec_linkLoopOff {s : State} {src : Src} {v : Word} (hoff : bits (~~~v) 1 0 = 0) (hready : s.pairReady src Reg.LINK_PROOF_CTL_A v) :
    exec (.linkLoopOff src v) s =
      .next ((((s.setArmed src none).setPair Reg.LINK_PROOF_CTL_A (~~~v &&& 0x37#32)).endLoopAt).answer Status.ok []).endCycle := by
  have hsel : bits (~~~v &&& guardMask Reg.LINK_PROOF_CTL_A) 1 0 = 0 := by
    rwa [bits_and_of_whole _ rfl]
  have hnow : ¬ guardLater Reg.LINK_PROOF_CTL_A (~~~v &&& guardMask Reg.LINK_PROOF_CTL_A) = true := by
    simp [guardLater, hsel]
  have heffect : ∀ u : State, u.guardEffect src Reg.LINK_PROOF_CTL_A (~~~v &&& guardMask Reg.LINK_PROOF_CTL_A) = u.endLoopAt :=
    fun u => if_pos hsel
  rw [exec_guarded_ready (c := .linkLoopOff src v) rfl (by simp [rowFits, hoff]) hready (by decide), if_neg hnow, heffect]
  rfl

theorem linkLoopOff_ends (s : State) (src : Src) (v : Word) (hoff : bits (~~~v) 1 0 = 0) (hready : s.pairReady src Reg.LINK_PROOF_CTL_A v) :
    ∃ t, exec (.linkLoopOff src v) s = .next t ∧ t.port.status = 0 ∧ t.link = { s.link with loop := none, loopPend := none } ∧
      (∀ p ∈ s.link.loop, p.1 ≠ 3 → (t.sd p.2.1).lock = false ∧ t.sd (other p.2.1) = s.sd (other p.2.1) ∧
        t.outClocked .a = s.link.forwarding ∧ t.outClocked .b = s.link.forwarding) ∧
      (s.link.loop = none ∨ (s.link.loop.map (·.1)) = some 3 → t.sideA = s.sideA ∧ t.sideB = s.sideB ∧ t.outA = s.outA ∧ t.outB = s.outB) ∧
      KeepsRegs s t (Reg.LINK_PROOF_CTL_A :: Reg.FRAME_FRAME_STATUS :: logReport) := by
  obtain ⟨u, hu, hlink, hsd, hA, hB, houtA, houtB, hclk, hreg⟩ : ∃ u : State,
      u = (s.setArmed src none).setPair Reg.LINK_PROOF_CTL_A (~~~v &&& 0x37#32) ∧ u.link = s.link ∧ (∀ x, u.sd x = s.sd x) ∧
      u.sideA = s.sideA ∧ u.sideB = s.sideB ∧ u.outA = s.outA ∧ u.outB = s.outB ∧ u.clk = s.clk ∧
      ∀ a, a ≠ Reg.LINK_PROOF_CTL_A → u.reg a = s.reg a :=
    ⟨_, rfl, rfl, fun x => by cases x <;> rfl, rfl, rfl, rfl, rfl, rfl, fun a ha => State.reg_setPair_other _ _ ha⟩
  have hconf := State.conf_endLoopAt (conf_refl u [.sset, .bumped, .caused, .sideA, .sideB, .link, .outA, .outB, .frame, .fixer]
    (· = Reg.FRAME_FRAME_STATUS)) (fun _ h => h) (fun a ha => List.mem_singleton.1 ha)
  have hrunning : s.clk.stopped = false := by
    have hreach := hready.2.1
    have hacting : s.acting = true := by
      cases src
      · exact hreach
      · exact (Bool.and_eq_true_iff.1 hreach).1
    simp only [State.acting, State.running, Bool.and_eq_true, Bool.not_eq_true'] at hacting
    exact hacting.1.2
  refine ⟨_, (exec_linkLoopOff hoff hready).trans (by rw [← hu]), ?_, ?_, fun p hp hn => ?_, fun hsame => ?_, fun a ha => ?_⟩
  · rw [State.endCycle_port, State.answer_status]
  · rw [State.endCycle_link, State.answer_link, State.endLoopAt_link, hlink]
  · obtain ⟨n, y, w⟩ := p
    have hloop : u.link.loop = some (n, y, w) := hlink ▸ hp
    have hend : ∀ x, (u.endLoopAt.answer Status.ok []).endCycle.sd x = (u.dropLock y).sd x := fun x => by
      rw [← State.endLoopAt_sd hloop hn x]
      cases x
      · exact State.endCycle_sideA _
      · exact State.endCycle_sideB _
    have hclocked : ∀ x, (u.endLoopAt.answer Status.ok []).endCycle.outClocked x = s.link.forwarding := fun x => by
      have hclk' : u.endLoopAt.clk = s.clk := (hconf.1.1 .clk (by decide)).trans hclk
      rw [State.outClocked, State.endCycle_link, State.endCycle_clk, State.answer_link, State.answer_clk, State.endLoopAt_link, hlink, hclk',
        hrunning]
      simp
    refine ⟨?_, ?_, hclocked .a, hclocked .b⟩
    · rw [hend]
      cases y <;> rfl
    · rw [hend, ← hsd]
      cases y <;> rfl
  · obtain ⟨hat, hendA, hendB, hendOutA, hendOutB⟩ := State.endLoop_sides (s := u) (by rwa [hlink])
    rw [State.endCycle_sideA, State.endCycle_sideB, State.endCycle_outA, State.endCycle_outB, State.answer_sideA, State.answer_sideB,
      State.answer_outA, State.answer_outB, hat, hendA, hendB, hendOutA, hendOutB]
    exact ⟨hA, hB, houtA, houtB⟩
  · simp only [List.mem_cons, not_or] at ha
    obtain ⟨hpairA, hstatus, hfixer, hdrops, -⟩ := ha
    rw [State.endCycle_reg _ hdrops hfixer, State.answer_reg, (hconf.1.2 a hstatus).1, hreg a hpairA]

/-- Settles O36: a loop that is selected waits, the end of one acts at once, and each refusal is a rule of its pair. -/
theorem loopsWaitOrAreRefused : Obligations.LoopsWaitOrAreRefused := by
  unfold Obligations.LoopsWaitOrAreRefused
  refine ⟨?_, linkLoopOff_ends, ?_, ?_, ?_, ?_, ?_⟩
  · rintro c s src v (⟨rfl, hv⟩ | ⟨rfl, hv⟩ | ⟨rfl, hv⟩) hready
    all_goals exact linkLoop_waits rfl (by simp [rowFits, hv]) (by omega) hready
  · rintro c s src v (⟨rfl, hv⟩ | ⟨rfl, hv⟩ | ⟨rfl, hv⟩ | ⟨rfl, hv⟩ | ⟨rfl, hv⟩) hready
    all_goals exact frontLoop_waits rfl (by simp [rowFits, hv]) hready
  · rintro c s src v (⟨rfl, hv⟩ | ⟨rfl, hv⟩ | ⟨rfl, hv⟩) hready
    all_goals exact driveLoop_waits rfl (by simp [rowFits, hv]) hready
  · intro c s src v hc hbetween hreach harmed hother hday
    have hsel : bits (~~~v &&& guardMask Reg.FRONT_PROOF_CTL_A) 1 0 = bits (~~~v) 1 0 := bits_and_of_whole _ rfl
    have hch : bits (~~~v &&& guardMask Reg.FRONT_PROOF_CTL_A) 7 4 = bits (~~~v) 7 4 := bits_and_of_whole _ rfl
    have hpower : s.pageOff Reg.FRONT_PROOF_CTL_A = false := by rw [State.pageOff, hday]; rfl
    obtain ⟨rfl, hv, htaken⟩ | ⟨rfl, hv, hstill⟩ := hc
    · refine exec_guarded_access rfl (by simp [rowFits, hv]) hbetween hreach harmed hother hpower (by decide) ?_
      change s.frontLoopRefused _ = true
      simp only [State.frontLoopRefused, hsel, hv, hch, State.pdmTakes]
      obtain ⟨hhigh, hphase, htaken⟩ := htaken
      simp [hhigh, hphase, htaken]
    · refine exec_guarded_access rfl (by simp [rowFits, hv]) hbetween hreach harmed hother hpower (by decide) ?_
      change s.frontLoopRefused _ = true
      simp only [State.frontLoopRefused, hsel, hv]
      obtain hphase | hmirror := hstill
      · simp [hphase]
      · simp [hmirror]
  · rintro c s src v (⟨rfl, hv⟩ | ⟨rfl, hv⟩ | ⟨rfl, hv⟩ | ⟨rfl, hv⟩ | ⟨rfl, hv⟩) hbetween hreach harmed hsafe
    all_goals exact frontLoop_unpowered rfl (by simp [rowFits, hv]) hbetween hreach harmed hsafe
  · intro c s src v hc hbetween hreach harmed hother hday hwhy
    have hsel : bits (~~~v &&& guardMask Reg.PRINT_PROOF_CTL_A) 1 0 = bits (~~~v) 1 0 := bits_and_of_whole _ rfl
    have hch : bits (~~~v &&& guardMask Reg.PRINT_PROOF_CTL_A) 4 2 = bits (~~~v) 4 2 := bits_and_of_whole _ rfl
    have hpower : s.pageOff Reg.PRINT_PROOF_CTL_A = false := by rw [State.pageOff, hday]; rfl
    have hrefused : bits (~~~v) 1 0 ≠ 0 → s.guardRefused src Reg.PRINT_PROOF_CTL_A (~~~v &&& guardMask Reg.PRINT_PROOF_CTL_A) = true := by
      intro hn
      change s.proofRefused _ = true
      simp only [State.proofRefused, hsel, hch]
      obtain hst | hcount | ⟨hthree, hmaster⟩ := hwhy
      · simp [hn, hst]
      · simp [hn, hcount]
      · simp [hthree, hmaster]
    obtain ⟨rfl, hv⟩ | ⟨rfl, hv⟩ | ⟨rfl, hv⟩ := hc
    all_goals exact exec_guarded_access rfl (by simp [rowFits, hv]) hbetween hreach harmed hother hpower (by decide) (hrefused (by omega))

/-! ### The master enable -/

/-- What the master enable makes of a channel's latch-outs: those of the clock and of missing audio end, the others stand only where their cause
does (R251, R547). -/
def Drive.enabled (lasting held : Bool) (d : Drive) : Drive :=
  { d with latchRom := d.latchRom && lasting, latchShadow := d.latchShadow && lasting
           latchClock := false, latchMiss := false, latchSafe := d.latchSafe && held }

theorem Drive.enabled_enabled (lasting held : Bool) (d : Drive) : (d.enabled lasting held).enabled lasting held = d.enabled lasting held := by
  simp [Drive.enabled]

/-- The state but for its drive channels. -/
def State.SameButDrives (s u : State) : Prop :=
  u = { s with print := { s.print with drives := u.print.drives } } ∧ u.print.drives.length = s.print.drives.length

theorem State.SameButDrives.refl (s : State) : s.SameButDrives s := ⟨rfl, rfl⟩

theorem State.SameButDrives.modDrive {s u : State} (h : s.SameButDrives u) (n : Nat) (f : Drive → Drive) : s.SameButDrives (u.modDrive n f) := by
  obtain ⟨hsame, hlen⟩ := h
  refine ⟨?_, (length_modNth ..).trans hlen⟩
  rw [hsame]
  rfl

theorem State.SameButDrives.history {s u : State} (h : s.SameButDrives u) (i : Nat) : u.history i = s.history i := by
  rw [h.1]
  rfl

theorem State.SameButDrives.driveHeld {s u : State} (h : s.SameButDrives u) (n : Nat) : u.driveHeld n = s.driveHeld n := by
  rw [h.1]
  rfl

/-- One channel's part of the master enable. -/
def State.enableDrive (s : State) (n : Nat) : State := s.modDrive n (Drive.enabled (s.history (26 + n)).lasting (s.driveHeld n))

theorem State.enableDrives_drive {s : State} (hdrives : s.print.drives.length = 8) {n : Nat} (hn : n < 8) :
    ((List.range 8).foldl State.enableDrive s).drive n = (s.drive n).enabled (s.history (26 + n)).lasting (s.driveHeld n) := by
  have hvisit := foldl_visit (f := State.enableDrive) (get := State.drive)
    (upd := fun n => Drive.enabled (s.history (26 + n)).lasting (s.driveHeld n)) (I := s.SameButDrives) (Q := (· < 8))
    (fun u n h _ => h.modDrive n _) (fun u n h hn => by
      rw [State.enableDrive, State.drive_modDrive_same _ _ _ (by rw [h.2, hdrives]; exact hn), h.history, h.driveHeld])
    (fun u n m h _ _ hm => State.drive_modDrive_other _ _ hm) (fun _ => Drive.enabled_enabled _ _) (List.range 8) s (.refl s)
    (fun n hn => List.mem_range.1 hn) n hn
  exact hvisit.trans (if_pos (List.mem_range.2 hn))

theorem State.SameButDrives.enableDrives (s : State) : s.SameButDrives ((List.range 8).foldl State.enableDrive s) :=
  foldl_inv (I := s.SameButDrives) (fun _ n h => h.modDrive n _) _ s (.refl s)

/-- The master enable frees the clock's window of the Fixer and auto-restart, then each channel's latch-outs (R251). -/
theorem State.masterOn_eq {s : State} (hstruck : s.fixer.struck = []) : s.masterOn =
    (List.range 8).foldl State.enableDrive { s.fixerRelease 0 with clk := { s.clk with autoOff := false } } := by
  have hstruck' : (s.fixerRelease 0).fixer.struck = [] := by rw [State.fixerRelease_eq 0 hstruck]; exact hstruck
  have hclk : (s.fixerRelease 0).clk = s.clk := by rw [State.fixerRelease_eq 0 hstruck]
  simp only [State.masterOn, hstruck', hclk, List.contains_nil, Bool.and_false]
  rfl

/-- What the master enable leaves of the clock, the stages, the registers and each channel (R251). -/
theorem State.masterOn_leaves {s : State} (hstruck : s.fixer.struck = []) (hdrives : s.print.drives.length = 8) :
    s.masterOn.clk = { s.clk with autoOff := false } ∧ s.masterOn.stage = s.stage ∧ s.masterOn.fixer.raised = s.fixer.raised ∧
      (∀ a, s.masterOn.reg a = s.reg a) ∧
      ∀ n, n < 8 → s.masterOn.drive n = (s.drive n).enabled (s.history (26 + n)).lasting (s.driveHeld n) := by
  have hfreed : ∀ i, i ≠ 0 → (s.fixerRelease 0).history i = s.history i := fun i hi => by
    rw [State.fixerRelease_eq 0 hstruck]
    exact nth_modNth_other _ _ _ hi
  rw [State.masterOn_eq hstruck]
  rw [State.fixerRelease_eq 0 hstruck] at hfreed ⊢
  obtain ⟨hsame, -⟩ := State.SameButDrives.enableDrives { s with
    fixer := { s.fixer with freed := assocSet s.fixer.freed 0 (s.history 0).epochs, hist := modNth s.fixer.hist 0 History.cleared }
    clk := { s.clk with autoOff := false } }
  refine ⟨by rw [hsame], by rw [hsame], by rw [hsame], fun a => by rw [hsame]; rfl, fun n hn => ?_⟩
  refine (State.enableDrives_drive ?_ hn).trans ?_
  · exact hdrives
  exact congrArg (fun h => (s.drive n).enabled (History.lasting h) (s.driveHeld n)) (hfreed (26 + n) (by omega))

/-- A word masked to its lowest bit. -/
theorem and_one_eq (w : Word) : w &&& 1#32 = if bitOf w 0 then 1#32 else 0#32 := by
  refine BitVec.eq_of_getLsbD_eq fun i hi => ?_
  rw [BitVec.getLsbD_and, bitOf]
  rcases Nat.eq_zero_or_pos i with rfl | hpos
  · cases h : w.getLsbD 0 <;> rfl
  · have hone : (1#32).getLsbD i = false := by simp [BitVec.getLsbD_one, Nat.pos_iff_ne_zero.1 hpos]
    rw [hone, Bool.and_false]
    split
    · exact hone.symm
    · exact BitVec.getLsbD_zero.symm

section
variable {s : State} {src : Src} {v : Word} (hready : s.pairReady src Reg.PRINT_MASTER_A v)
include hready

/-- MASTER_ENABLE stores 1, frees what a start may, and is answered (R251). -/
theorem exec_masterEnable (hon : bitOf (~~~v) 0 = true) : exec (.masterEnable src v) s =
    .next ((((s.setArmed src none).setPair Reg.PRINT_MASTER_A 1#32).masterOn).answer Status.ok []).endCycle := by
  have hvalue : ~~~v &&& guardMask Reg.PRINT_MASTER_A = 1#32 := (and_one_eq _).trans (if_pos hon)
  have heffect : ∀ u : State, u.guardEffect src Reg.PRINT_MASTER_A 1#32 = u.masterOn := fun _ => rfl
  rw [exec_guarded_ready (c := .masterEnable src v) rfl hon hready (by decide), hvalue, if_neg (by decide), heffect]

/-- MASTER_DISABLE stores 0 and is answered (R251). -/
theorem exec_masterDisable (hoff : bitOf (~~~v) 0 = false) : exec (.masterDisable src v) s =
    .next (((s.setArmed src none).setPair Reg.PRINT_MASTER_A 0#32).answer Status.ok []) := by
  have hvalue : ~~~v &&& guardMask Reg.PRINT_MASTER_A = 0#32 := (and_one_eq _).trans (if_neg (by simp [hoff]))
  have heffect : ∀ u : State, u.guardEffect src Reg.PRINT_MASTER_A 0#32 = u := fun _ => rfl
  rw [exec_guarded_ready (c := .masterDisable src v) rfl (by simp [rowFits, hoff]) hready (by decide), hvalue, if_neg (by decide), heffect,
    State.endCycle_answer]
  exact hready.1

end

/-- Settles O38: the enable stores 1 and frees the latch-outs, the disable stores 0, and a countdown to SAFELIGHT refuses either. -/
theorem masterEnableClearsLatchOuts : Obligations.MasterEnableClearsLatchOuts := by
  unfold Obligations.MasterEnableClearsLatchOuts
  refine ⟨fun s src v hready hdrives hon => ?_, fun s src v hready hoff => ?_,
    fun c s src v hc hbetween hreach harmed hother hday hcount => ?_⟩
  · obtain ⟨hclk, hstage, hraised, hreg, hdrive⟩ := State.masterOn_leaves (s := (s.setArmed src none).setPair Reg.PRINT_MASTER_A 1#32)
      hready.1.2.2.2.1 hdrives
    have hcalm := hraised.trans hready.1.1
    have hend : ∀ n, (((s.setArmed src none).setPair Reg.PRINT_MASTER_A 1#32).masterOn.answer Status.ok []).endCycle.drive n =
        ((s.setArmed src none).setPair Reg.PRINT_MASTER_A 1#32).masterOn.drive n := fun n => by
      rw [State.drive, State.endCycle_print, State.answer_print, State.drive]
    have hkept : ∀ a, (((s.setArmed src none).setPair Reg.PRINT_MASTER_A 1#32).masterOn.answer Status.ok []).endCycle.reg a =
        ((s.setArmed src none).setPair Reg.PRINT_MASTER_A 1#32).reg a := fun a => by
      rw [State.endCycle_reg_of_calm (by exact hcalm), State.answer_reg, hreg]
    refine ⟨_, exec_masterEnable hready hon, ?_, ?_, ?_, fun a ha => ?_, ?_, fun n hn => ?_⟩
    · rw [State.endCycle_port, State.answer_status]
    · exact (hkept _).trans (State.reg_setReg_same _ _ _)
    · rw [State.endCycle_clk, State.answer_clk, hclk]
      rfl
    · exact (hkept a).trans (State.reg_setPair_other _ _ (List.ne_of_not_mem_cons ha))
    · rw [State.endCycle_stage, State.answer_stage, hstage]
      rfl
    · rw [hend, hdrive n hn]
      exact ⟨rfl, rfl, rfl, rfl, rfl⟩
  · exact ⟨_, exec_masterDisable hready hoff, rfl, State.reg_setReg_same _ _ _, rfl,
      fun a ha => State.reg_setPair_other _ _ (List.ne_of_not_mem_cons ha)⟩
  · have hpower : s.pageOff Reg.PRINT_MASTER_A = false := by rw [State.pageOff, hday]; rfl
    have hrefused : s.guardRefused src Reg.PRINT_MASTER_A (~~~v &&& guardMask Reg.PRINT_MASTER_A) = true := by
      change s.toSafe = true
      simp [State.toSafe, hday, hcount]
    obtain ⟨rfl, hv⟩ | ⟨rfl, hv⟩ := hc
    all_goals exact exec_guarded_access rfl (by simp [rowFits, hv]) hbetween hreach harmed hother hpower (by decide) hrefused

end Sys2Proof.Machine
end

section
/-! PROOFS. Commands of the ring that three statements leave in (R200, R202): one of a single word that is marked malformed, which completes with
BAD_OP, and a burst whose count is 0, of which no word is asked for; and the refutations drawn from them. -/

namespace Sys2Proof.Machine

/-! ### Commands marked malformed -/

/-- A command of one word for GAP_COUNT that is marked malformed. -/
def markedCmd (op : Word) (data : List Word) : Cmd :=
  { hdr := op <<< 28 ||| BitVec.ofNat 32 (Reg.CHIP_GAP_COUNT / 4), count := 0, data := data, bad := true }

/-- An up unit with one command in its ring. -/
def oneCommand (c : Cmd) : State := { clk := { power := .up }, ident := { done := true }, queue := { cmds := [c] } }

theorem oneCommand_ready (c : Cmd) : (oneCommand c).between ∧ (oneCommand c).acting = true ∧ (oneCommand c).noPair ∧
    (oneCommand c).atHead c [] ∧ (oneCommand c).calmTank :=
  ⟨⟨rfl, rfl, rfl, rfl, rfl, rfl⟩, rfl, ⟨rfl, rfl⟩, ⟨rfl, rfl, rfl⟩, rfl, rfl⟩

/-- The marked WRITE completes with BAD_OP and stores nothing. -/
theorem exec_write_marked : ∃ t, exec (.write 1) (oneCommand (markedCmd 2 [5#32])) = .next t ∧ t.reg Reg.CHIP_GAP_COUNT = 0#32 :=
  ⟨_, rfl, by decide⟩

/-- Refutes O20: a WRITE of one word that is marked malformed completes with BAD_OP and stores nothing. -/
theorem not_hostWriteStoresAndReplies : ¬ Obligations.HostWriteStoresAndReplies := by
  unfold Obligations.HostWriteStoresAndReplies
  rintro ⟨hwrite, -⟩
  obtain ⟨hbetween, hacting, hpair, hhead, hcalm⟩ := oneCommand_ready (markedCmd 2 [5#32])
  obtain ⟨t, hexec, hstored, -⟩ := hwrite (oneCommand (markedCmd 2 [5#32])) 1 _ [] 5#32 hbetween hacting hpair hhead (by decide) (Nat.le_refl 1) rfl
    (.inl (by decide)) (by decide) (by decide) (by decide) hcalm
  obtain ⟨u, hu, hzero⟩ := exec_write_marked
  obtain rfl : t = u := Host.Outcome.next.inj (hexec.symm.trans hu)
  exact absurd (hzero.symm.trans hstored) (by decide)

/-- The marked READ sets BAD_OP's flag. -/
theorem exec_read_marked : ∃ t, exec (.read (.host 1)) (oneCommand (markedCmd 1 [])) = .next t ∧
    t.reg Reg.QUEUE_QUEUE_STATUS ≠ (oneCommand (markedCmd 1 [])).reg Reg.QUEUE_QUEUE_STATUS :=
  ⟨_, rfl, by decide⟩

/-- Refutes O21: a READ that is marked malformed completes with BAD_OP, whose flag is in a register that the statement keeps. -/
theorem not_readsAnswerTheRegister : ¬ Obligations.ReadsAnswerTheRegister := by
  unfold Obligations.ReadsAnswerTheRegister
  rintro ⟨hread, -⟩
  obtain ⟨hbetween, hacting, hpair, hhead, hcalm⟩ := oneCommand_ready (markedCmd 1 [])
  obtain ⟨t, hexec, hkeeps, -⟩ := hread (oneCommand (markedCmd 1 [])) 1 _ [] hbetween hacting hpair hhead (by decide) (Nat.le_refl 1) (by decide) (by decide) (by decide)
    (by decide) (by decide) (by decide) hcalm
  obtain ⟨u, hu, hflag⟩ := exec_read_marked
  obtain rfl : t = u := Host.Outcome.next.inj (hexec.symm.trans hu)
  exact hflag (hkeeps _ (by decide))

/-! ### A burst of no words -/

/-- A BURST_READ of GAP_COUNT whose count is 0. -/
def emptyBurst : Cmd := { hdr := 0x40000000#32 ||| BitVec.ofNat 32 (Reg.CHIP_GAP_COUNT / 4), count := 0, data := [] }

/-- The burst that is given no word stays at the head of the ring. -/
theorem exec_burstRead_empty : ∃ t, exec (.burstRead 0) (oneCommand emptyBurst) = .next t ∧ t.queue.cmds = [emptyBurst] :=
  ⟨_, rfl, rfl⟩

/-- Refutes O22: a burst whose count is 0, given none of its words, does not complete. -/
theorem not_burstsRunInOrder : ¬ Obligations.BurstsRunInOrder := by
  unfold Obligations.BurstsRunInOrder
  rintro ⟨hread, -⟩
  obtain ⟨hbetween, hacting, hpair, hhead, hcalm⟩ := oneCommand_ready emptyBurst
  obtain ⟨t, hexec, -, -, hgone, -⟩ := hread (oneCommand emptyBurst) 0 _ [] hbetween hacting hpair hhead (by decide) rfl (Nat.le_refl 0)
    (fun k hk => absurd hk (Nat.not_lt_zero k)) hcalm
  obtain ⟨u, hu, hcmds⟩ := exec_burstRead_empty
  obtain rfl : t = u := Host.Outcome.next.inj (hexec.symm.trans hu)
  exact absurd (hcmds.symm.trans hgone) (List.cons_ne_nil _ _)

end Sys2Proof.Machine
end

section
/-! PROOFS. States outside the model's own forms that two statements leave in: a status register with bits above its SEQ, which a clear drops
(R237), and a Tank that lists a byte twice, of which a write of 0 takes back only the first; and the refutations drawn from them. -/

namespace Sys2Proof.Machine

/-! ### A status register with bits above SEQ -/

/-- An up unit whose CLK_STATUS holds bits that the register does not have. -/
def wideStatus : State := { clk := { power := .up }, ident := { done := true }, regs := [(Reg.CHIP_CLK_STATUS, 0xFF000000#32)] }

/-- A status clear that names no flag stores CLK_STATUS anew, from its flags and SEQ alone. -/
theorem exec_statusClear_wide :
    ∃ t, exec (.statusClear .host Reg.CHIP_CLK_STATUS 0#32) wideStatus = .next t ∧ t.reg Reg.CHIP_CLK_STATUS = 0#32 :=
  ⟨_, rfl, by decide⟩

/-- Refutes O24: a status clear whose SEQ matches drops the bits above SEQ of a status register that holds some. -/
theorem not_writesByRegisterClass : ¬ Obligations.WritesByRegisterClass := by
  unfold Obligations.WritesByRegisterClass
  rintro ⟨-, -, -, hclear⟩
  obtain ⟨t, hexec, -, -, hleft⟩ := hclear wideStatus .host Reg.CHIP_CLK_STATUS 0#32 ⟨rfl, rfl, rfl, rfl, rfl, rfl⟩ rfl ⟨rfl, rfl⟩ rfl
    (by decide) (by decide)
  obtain ⟨u, hu, hzero⟩ := exec_statusClear_wide
  obtain rfl : t = u := Host.Outcome.next.inj (hexec.symm.trans hu)
  exact absurd (hzero.symm.trans hleft) (by decide)

/-! ### A Tank that lists a byte twice -/

/-- An up unit in DAYLIGHT whose IX_ADDR names the first word of the patch's segment, and whose Tank lists that word's first byte twice. -/
def doubledByte : State :=
  { clk := { power := .up, daylight := true }
    ident := { done := true }
    regs := [(Reg.CHIP_IX_ADDR, BitVec.ofNat 32 Tank.patch)]
    mem := [(4 * Tank.patch, 5), (4 * Tank.patch, 7)] }

/-- The write of 0 through the window takes back the first of the two. -/
theorem exec_ixDataWrite_doubled : ∃ t, exec (.ixDataWrite .host 0#32) doubledByte = .next t ∧ t.tank Tank.patch = 7#32 :=
  ⟨_, rfl, by decide⟩

/-- Refutes O26: in a Tank that lists a byte twice a word written as 0 reads as the second of the two. -/
theorem not_indirectWindowReachesItsSpace : ¬ Obligations.IndirectWindowReachesItsSpace := by
  unfold Obligations.IndirectWindowReachesItsSpace
  rintro ⟨-, -, hwrite, -⟩
  have hword : doubledByte.ixWord = Tank.patch := by decide
  obtain ⟨t, hexec, -, hstored, -⟩ := hwrite doubledByte 0#32 ⟨rfl, rfl, rfl, rfl, rfl, rfl⟩ rfl ⟨rfl, rfl⟩ (by decide) (by decide) rfl rfl
  obtain ⟨u, hu, hseven⟩ := exec_ixDataWrite_doubled
  obtain rfl : t = u := Host.Outcome.next.inj (hexec.symm.trans hu)
  rw [hword, hseven] at hstored
  exact absurd hstored (by decide)

end Sys2Proof.Machine
end

section
/-! PROOFS. A Tank that lists a byte twice, which five more statements leave in: a write of 0 to that byte takes back the first of the two
cells, and the second reads. One counterexample for each of them. -/

namespace Sys2Proof.Machine

/-- An up unit in DAYLIGHT whose Tank lists byte `a` twice, first as 5 and then as 7. -/
def twiceListed (a : Nat) : State :=
  { clk := { power := .up, daylight := true }
    ident := { done := true }
    mem := [(a, 5), (a, 7)] }

/-! ### A packet -/

/-- The WRITE_P of 0 to every unit's register 0, as its two words. -/
def zeroWriteP : List Word := [0x30FFF000#32, 0#32]

set_option maxRecDepth 20000 in
/-- The check of a register field that carries `zeroWriteP` alone. -/
theorem crc16_zeroWriteP : crc16 (wordsBits (zeroWriteP ++ List.replicate 0 0)) = 25667#16 := by decide

/-- An empty command ring on the doubled byte of its second word, and a valid copy on side A. -/
def ringTwiceListed : State :=
  { twiceListed (4 * (Tank.cmdRing + 1)) with sideA := { lock := true, faw := true, hdrValid := true } }

set_option maxRecDepth 20000 in
/-- The packet's second word, 0, reads as the second cell. -/
theorem exec_registerField_twiceListed :
    ∃ t, exec (.registerField .a (zeroWriteP ++ List.replicate 0 0) 25667#16) ringTwiceListed = .next t ∧
      t.tank (ringTwiceListed.packetAt + 1) = 7#32 :=
  ⟨_, rfl, by decide⟩

/-- Refutes O18: a packet's word of 0 does not stand in a command ring that lists a byte of its place twice. -/
theorem not_registerFieldQueuesItsCommand : ¬ Obligations.RegisterFieldQueuesItsCommand := by
  unfold Obligations.RegisterFieldQueuesItsCommand
  rintro ⟨hqueue, -⟩
  obtain ⟨t, hexec, -, -, -, ⟨hholds, -⟩, -⟩ := hqueue ringTwiceListed .a zeroWriteP 0 25667#16 rfl rfl rfl rfl rfl rfl (by decide)
    (by decide) (by decide) (by decide) (by decide) ⟨rfl, rfl⟩ rfl crc16_zeroWriteP
  obtain ⟨u, hu, hseven⟩ := exec_registerField_twiceListed
  obtain rfl : t = u := Host.Outcome.next.inj (hexec.symm.trans hu)
  exact absurd (hseven.symm.trans (hholds 1 (by decide))) (by decide)

/-! ### The low-power window -/

/-- A SAFELIGHT unit on the doubled byte of the window's first word, its watch path stopped. -/
def windowTwiceListed : State := { twiceListed (4 * 0x9C00) with clk := { power := .up } }

theorem exec_lpBoundary_twiceListed : ∃ t, exec (.lpBoundary [] []) windowTwiceListed = .next t ∧ t.tank 0x9C00 = 7#32 :=
  ⟨_, rfl, by decide⟩

/-- Refutes O42: the word 0 that a stopped path writes does not read as 0 in a window that lists a byte of it twice. -/
theorem not_boundariesWriteTheWindows : ¬ Obligations.BoundariesWriteTheWindows := by
  unfold Obligations.BoundariesWriteTheWindows
  rintro ⟨-, -, -, -, hlow⟩
  obtain ⟨t, hexec, -, -, -, hstopped, -⟩ := hlow windowTwiceListed [] [] rfl (Or.inl rfl) rfl (by decide)
  obtain ⟨u, hu, hseven⟩ := exec_lpBoundary_twiceListed
  obtain rfl : t = u := Host.Outcome.next.inj (hexec.symm.trans hu)
  exact absurd (hseven.symm.trans (hstopped rfl).1) (by decide)

/-! ### A wake record's word 7 -/

/-- A unit at its JOIN block, whose low-power set has delay 0, on the doubled third byte of word 7 of the waiting record 0. -/
def recordTwiceListed : State :=
  { twiceListed (4 * (recAddr 0 + 7) + 2) with
    decim := { coef := [(0x100, 0#32)] }
    latent := { waitJoin := [(0, 0)], preJoin := true, rate := some (0, 0, 0), recNext := 1 } }

theorem exec_joinReached_twiceListed : ∃ t, exec .joinReached recordTwiceListed = .next t ∧
    t.tank (recAddr 0 + 7) ≠ recordTwiceListed.groupDelay :=
  ⟨_, rfl, by decide⟩

/-- Refutes O48: the group delay, with a byte of 0, does not read from a record's word 7 that lists that byte twice. -/
theorem not_latentBufferMeetsItsEpochs : ¬ Obligations.LatentBufferMeetsItsEpochs := by
  unfold Obligations.LatentBufferMeetsItsEpochs
  rintro ⟨-, hjoin, -⟩
  obtain ⟨-, hreached⟩ := hjoin recordTwiceListed 0 0 0 ⟨rfl, rfl, rfl, rfl, rfl, rfl⟩ rfl rfl rfl rfl
  obtain ⟨t, hexec, -, -, hrecord, -⟩ := hreached (by decide)
  obtain ⟨u, hu, hother⟩ := exec_joinReached_twiceListed
  obtain rfl : t = u := Host.Outcome.next.inj (hexec.symm.trans hu)
  exact hother ((hrecord (0, 0) (by decide) (by decide)).2 (by decide))

/-! ### An atomic -/

/-- A unit with its Loupe up, on the doubled first byte of the word behind the secure region. -/
def laneTwiceListed : State := { twiceListed (4 * 0x4000) with loupe := { powered := true } }

theorem exec_atomicSwap_twiceListed : ∃ t, exec (.atomicSwap 0x800 0 ⟨0#32, false, false⟩) laneTwiceListed = .next t ∧ t.tank 0x4000 = 7#32 :=
  ⟨_, rfl, by decide⟩

/-- Refutes O58: a swap with the operand 0 does not leave 0 in a lane that lists a byte twice. -/
theorem not_tankAccessesReachTheirLanes : ¬ Obligations.TankAccessesReachTheirLanes := by
  unfold Obligations.TankAccessesReachTheirLanes
  rintro ⟨-, hatomic, -⟩
  obtain ⟨-, t, hexec, hzero, -⟩ := hatomic laneTwiceListed 0x800 0 0x4000 0#32 false false ⟨rfl, rfl, rfl, rfl, rfl, rfl⟩ rfl rfl rfl
    (by decide) (by decide) rfl rfl (Or.inl (by decide)) rfl rfl
  obtain ⟨u, hu, hseven⟩ := exec_atomicSwap_twiceListed
  obtain rfl : t = u := Host.Outcome.next.inj (hexec.symm.trans hu)
  exact absurd (hseven.symm.trans hzero) (by decide)

/-! ### A log entry -/

/-- An entry of epoch 0, whose first word in Tank is 0. -/
def zeroEntry : LogEntry := { epoch := 0, source := 0, code := 0, lo := 0, hi := 0, event := false }

/-- A unit with `zeroEntry` staged, on the doubled byte of the log's first word. -/
def logTwiceListed : State := { twiceListed (4 * 0x4000) with fixer := { staged := [zeroEntry] } }

theorem exec_logWrite_twiceListed : ∃ t, exec .logWrite logTwiceListed = .next t ∧ t.tank 0x4000 = 7#32 := ⟨_, rfl, by decide⟩

/-- Refutes O59: an entry of epoch 0 does not read as 0 from a place of the log that lists a byte twice. -/
theorem not_logWriterNumbersEntries : ¬ Obligations.LogWriterNumbersEntries := by
  unfold Obligations.LogWriterNumbersEntries
  rintro ⟨-, hwrite⟩
  obtain ⟨t, hexec, hepoch, -⟩ := hwrite logTwiceListed zeroEntry [] 0 0x4000 ⟨rfl, rfl, rfl, rfl, rfl, rfl⟩ rfl rfl ⟨rfl, rfl⟩
    (by decide)
    (by decide) (by decide)
  obtain ⟨u, hu, hseven⟩ := exec_logWrite_twiceListed
  obtain rfl : t = u := Host.Outcome.next.inj (hexec.symm.trans hu)
  exact absurd (hseven.symm.trans hepoch) (by decide)

end Sys2Proof.Machine
end

section
/-! PROOFS. Three statements about frame starts and headers that leave in what they do not mean: a turned bit of a counter among the upsets of
link clock 0, an unannounced rate change that stands at the first header, and an epoch of which no header has told yet; and the refutations
drawn from them. -/

namespace Sys2Proof.Machine

/-! ### A turned bit of a counter -/

/-- An up unit in SAFELIGHT, side A in lock. -/
def lockedUnit : State := { clk := { power := .up }, ident := { done := true }, sideA := { lock := true, held := true } }

/-- A right frame start that reports bit 0 of CLK_FAULTS turned. -/
def counterUpset : FrameIn := { cfgUpsets := [(Reg.CHIP_CLK_FAULTS, 0)] }

set_option maxRecDepth 20000 in
theorem exec_frameStart_counterUpset :
    ∃ t, exec (.frameStart .a counterUpset) lockedUnit = .next t ∧ t.reg Reg.CHIP_CLK_FAULTS = 1#32 :=
  ⟨_, rfl, by decide⟩

/-- Refutes O14: a frame start without a clock fault changes CLK_FAULTS where an upset turns a bit of it. -/
theorem not_ticksAndFrameStarts : ¬ Obligations.TicksAndFrameStarts := by
  unfold Obligations.TicksAndFrameStarts
  rintro ⟨-, -, -, -, -, -, hright, -⟩
  obtain ⟨t, hexec, -, -, -, -, hsame, -⟩ := hright lockedUnit counterUpset rfl rfl rfl rfl rfl (by decide) (Or.inl rfl)
  obtain ⟨u, hu, hone⟩ := exec_frameStart_counterUpset
  obtain rfl : t = u := Host.Outcome.next.inj (hexec.symm.trans hu)
  exact absurd (hone.symm.trans hsame) (by decide)

/-! ### Headers -/

-- A header has 416 bits, and its check is computed on them.
set_option exponentiation.threshold 416

/-- A SAFELIGHT header of epoch 0 with its FAW and a valid check, every other field 0. -/
def safeHeader : BitVec 416 := 7565457779148349375311249479#416

/-- The same header with a countdown to DAYLIGHT of 64. -/
def countingHeader : BitVec 416 := 46119311092478488386135392327#416

set_option maxRecDepth 20000 in
theorem checkOk_safeHeader : Hdr.checkOk false safeHeader = true := by decide

set_option maxRecDepth 20000 in
theorem checkOk_countingHeader : Hdr.checkOk false countingHeader = true := by decide

/-- A unit that has met no header, in an unannounced rate change, whose last marker measured a wrong length. -/
def rateBadUnit : State :=
  { clk := { power := .up, rateBad := true, exact := false }, ident := { done := true }, sideA := { lock := true, faw := true } }

set_option maxRecDepth 20000 in
/-- Such a header tells no epoch. -/
theorem exec_headerEnd_rateBad : ∃ t, exec (.headerEnd .a safeHeader 0) rateBadUnit = .next t ∧ t.clk.hasEpoch = false :=
  ⟨_, rfl, by decide⟩

/-- Refutes O15: the first valid header does not set the epoch while an unannounced rate change holds it. -/
theorem not_headersGiveEpochAndPosition : ¬ Obligations.HeadersGiveEpochAndPosition := by
  unfold Obligations.HeadersGiveEpochAndPosition
  rintro ⟨hfirst, -⟩
  obtain ⟨t, hexec, -, hhas, -⟩ := hfirst rateBadUnit safeHeader 0
    ⟨rfl, rfl, rfl, rfl, by decide, checkOk_safeHeader, by decide, by decide⟩ rfl
  obtain ⟨u, hu, hnone⟩ := exec_headerEnd_rateBad
  obtain rfl : t = u := Host.Outcome.next.inj (hexec.symm.trans hu)
  exact absurd (hnone.symm.trans hhas) (by decide)

/-- A unit that has met no header, DAYLIGHT requested, whose own count stands at 2^32. -/
def unheardUnit : State :=
  { clk := { power := .up, epoch := 0x100000000#48 }, ident := { done := true }, sideA := { lock := true, faw := true }
    regs := [(Reg.CHIP_MODE_REQ_A, 1#32)] }

set_option maxRecDepth 20000 in
/-- The first header takes bits 47:32 to 0, so the countdown's entry carries another epoch than the unit's. -/
theorem exec_headerEnd_unheard : ∃ t, exec (.headerEnd .a countingHeader 0) unheardUnit = .next t ∧
    unheardUnit.entry Log.MODE 1 (ofBytes 1 64 0 0) 0 ∉ t.fixer.staged :=
  ⟨_, rfl, by decide⟩

/-- Refutes O45: the first header of all begins a countdown with an entry of the epoch it has just set, not of the one before it. -/
theorem not_rateBoundaryChangesTheMode : ¬ Obligations.RateBoundaryChangesTheMode := by
  unfold Obligations.RateBoundaryChangesTheMode
  rintro ⟨hbegin, -⟩
  have hcount : Hdr.rcCount countingHeader = 64 := by decide
  obtain ⟨t, hexec, -, -, -, hentry⟩ := hbegin unheardUnit countingHeader 0 1
    ⟨rfl, rfl, rfl, rfl, by decide, checkOk_countingHeader, by decide, by decide⟩ rfl (by decide)
    (Or.inl rfl) (by decide) (by decide) (by decide)
  obtain ⟨u, hu, hmissing⟩ := exec_headerEnd_unheard
  obtain rfl : t = u := Host.Outcome.next.inj (hexec.symm.trans hu)
  have hstaged := hentry ⟨rfl, rfl, rfl, rfl, rfl, rfl⟩ rfl (by decide)
  rw [hcount] at hstaged
  exact hmissing hstaged

end Sys2Proof.Machine
end

section
/-! PROOFS. Five statements that leave in what the model guards against elsewhere: a path that starts in the tick of its stop, a check error
under a template's words or under the Loupe's context record, a drive loop's channel that still plays, and the fog test in the region of the
seal word; and the refutations drawn from them. -/

namespace Sys2Proof.Machine

/-! ### A path stopped in the same tick -/

/-- A unit in DAYLIGHT with RUN_HQ at 1, whose high-quality path has stopped in the present tick. -/
def justHalted : State :=
  { clk := { power := .up, daylight := true }
    ident := { done := true }
    mode := { good := [true, true, true, true] }
    regs := [(Reg.DECIM_ENGINE_CTL, 1#32)]
    decim := { hqStopped := true, hqHaltAt := some 0 } }

/-- The path does not start in that tick (R339). -/
theorem exec_pathStart_justHalted : ∃ t, exec (.pathStart true) justHalted = .next t ∧ t.decim.hqStopped = true :=
  ⟨_, rfl, by decide⟩

/-- Refutes O43: a path does not start at a boundary of the tick in which it stopped. -/
theorem not_pathsTransitionsAndSwaps : ¬ Obligations.PathsTransitionsAndSwaps := by
  unfold Obligations.PathsTransitionsAndSwaps
  rintro ⟨-, -, hstart, -⟩
  obtain ⟨t, hexec, -, hruns, -⟩ := hstart justHalted ⟨rfl, rfl, rfl, rfl, rfl, rfl⟩ rfl rfl rfl rfl (by decide) rfl
  obtain ⟨u, hu, hhalted⟩ := exec_pathStart_justHalted
  obtain rfl : t = u := Host.Outcome.next.inj (hexec.symm.trans hu)
  exact absurd (hhalted.symm.trans hruns) (by decide)

/-! ### A template's unreadable word -/

/-- A unit at a block boundary, stream A running on a valid block, with template 0 of that stream enabled and an uncorrectable error at the
template's first word. -/
def unreadableTemplate : State :=
  { clk := { power := .up, daylight := true }
    ident := { done := true }
    dev := { streams := { en := true, src := 0 } :: List.replicate 8 {}, ctl := 1, srcs := [0], runs := [512] }
    sheet := { enabled := [0], ctl := 1 }
    mem := [(4 * tplAddr 0 0 + 1, 1)]
    bank := { errs := [(tplAddr 0 0 / 8, tplAddr 0 0 % 8 / 2, true)] } }

set_option maxRecDepth 20000 in
/-- The block's feature frame reads the word, and the template is disabled (R482). -/
theorem exec_devBlock_unreadable : ∃ t, exec (.devBlock {}) unreadableTemplate = .next t ∧ t.sheet.enabled = [] :=
  ⟨_, rfl, by decide⟩

/-- Refutes O47: a block disables an enabled template, no request of it standing, where it meets an uncorrectable error in its words. -/
theorem not_blocksRunTheStreams : ¬ Obligations.BlocksRunTheStreams := by
  unfold Obligations.BlocksRunTheStreams
  rintro ⟨-, hblock, -⟩
  obtain ⟨t, hexec, -, -, -, henabled⟩ := hblock unreadableTemplate {} rfl rfl rfl rfl rfl (by decide)
  obtain ⟨u, hu, hnone⟩ := exec_devBlock_unreadable
  obtain rfl : t = u := Host.Outcome.next.inj (hexec.symm.trans hu)
  have hstays : 0 ∈ t.sheet.enabled := (henabled 0 (by decide)).2 (Or.inr ⟨by decide, by decide⟩)
  rw [hnone] at hstays
  exact absurd hstays (by decide)

/-! ### The Loupe's context record -/

/-- A unit in a countdown to SAFELIGHT with its Loupe up, and a check error in the first group of the Loupe's own words. -/
def shuttingDown : State :=
  { clk := { power := .up, daylight := true, rcTarget := 2 }
    ident := { done := true }
    loupe := { powered := true }
    bank := { errs := [(Tank.loupeWork / 8, 0, true)] } }

set_option maxRecDepth 20000 in
/-- The context record writes the whole group anew, and the error is gone. -/
theorem exec_loupeShutdownDone_shuttingDown : ∃ t, exec .loupeShutdownDone shuttingDown = .next t ∧ t.bank.errs = [] :=
  ⟨_, rfl, by decide⟩

/-- Refutes O49: a shutdown writes its context record besides its mark. -/
theorem not_loupeReportsReadsAndFails : ¬ Obligations.LoupeReportsReadsAndFails := by
  unfold Obligations.LoupeReportsReadsAndFails
  rintro ⟨-, hshut, -⟩
  obtain ⟨t, hexec, hmark⟩ := hshut shuttingDown ⟨rfl, rfl, rfl, rfl, rfl, rfl⟩ rfl rfl rfl rfl rfl
  obtain ⟨u, hu, hnone⟩ := exec_loupeShutdownDone_shuttingDown
  obtain rfl : t = u := Host.Outcome.next.inj (hexec.symm.trans hu)
  rw [hmark] at hnone
  exact absurd hnone (by decide)

/-! ### A drive loop's channel that plays -/

/-- A unit whose third kind of drive loop has run its time on channel 0, which is in PLAY. -/
def loopPlaying : State :=
  { clk := { power := .up, daylight := true, ticks := 4096 }
    ident := { done := true }
    print := { loop := some (3, 0, some 0), drives := { st := .play } :: List.replicate 7 {} } }

/-- The loop stands until its channel is in OFF. -/
theorem exec_proofDone_loopPlaying : ∃ t, exec (.proofDone 0#16) loopPlaying = .next t ∧ t.print.loop = some (3, 0, none) :=
  ⟨_, rfl, by decide⟩

/-- Refutes O51: the end of a drive loop of the third kind does not take LOOP to 0 while its channel plays. -/
theorem not_driveWaitsAndLoopsEnd : ¬ Obligations.DriveWaitsAndLoopsEnd := by
  unfold Obligations.DriveWaitsAndLoopsEnd
  rintro ⟨-, -, -, -, -, -, -, -, hproof⟩
  obtain ⟨t, hexec, -, hends⟩ := hproof loopPlaying 0#16 3 0 0 ⟨rfl, rfl, rfl, rfl, rfl, rfl⟩ rfl rfl
  obtain ⟨-, hnone, -⟩ := hends (by decide)
  obtain ⟨u, hu, hstands⟩ := exec_proofDone_loopPlaying
  obtain rfl : t = u := Host.Outcome.next.inj (hexec.symm.trans hu)
  exact absurd (hstands.symm.trans hnone) (by decide)

/-! ### The fog test at the seal word -/

/-- A wipe at its end, while a fog-test step, aborted seven times before, has borrowed the region of the seal word. -/
def wipeUnderFog : State :=
  { clk := { power := .up }
    ident := { done := true }
    bank := { wiping := true, phase := .march, region := 0x3FF, aborts := 7 } }

set_option maxRecDepth 20000 in
/-- The seal word's write aborts the step an eighth time, which skips the region with an entry of its own (R645, R647). -/
theorem exec_wipeDone_underFog : ∃ t, exec (.wipeDone none) wipeUnderFog = .next t ∧ t.fixer.staged.length = 2 :=
  ⟨_, rfl, by decide⟩

/-- Refutes O56: the end of a wipe logs a skipped region besides itself where the fog test has borrowed the seal word's. -/
theorem not_tamperWipesTheSecureRegion : ¬ Obligations.TamperWipesTheSecureRegion := by
  unfold Obligations.TamperWipesTheSecureRegion
  rintro ⟨-, -, -, -, hdone, -⟩
  obtain ⟨t, hexec, -, -, -, -, -, -, -, -, -, hlogged, -⟩ := hdone wipeUnderFog 0 ⟨⟨rfl, rfl, rfl, rfl, rfl, rfl⟩, by decide⟩ rfl rfl rfl
    (by decide)
  obtain ⟨u, hu, htwo⟩ := exec_wipeDone_underFog
  obtain rfl : t = u := Host.Outcome.next.inj (hexec.symm.trans hu)
  have hone : t.fixer.staged.length = 1 := congrArg List.length hlogged
  omega

end Sys2Proof.Machine
end

section
/-! PROOFS. The front end (R272 to R305, R708): what a Fixer occurrence leaves, the waits of a command that acts after its ticks, the biases'
timers, shorts and opens, the converters, the PDM port and the capture; and the statements drawn from them. -/

namespace Sys2Proof.Machine

/-! ### Fixer occurrences -/

/-- What an occurrence answers is made of the epoch, its own history and its window's register (R681, R682). -/
theorem State.fixerCount_snd_congr {s u : State} {i : Nat} (hepoch : u.clk.epoch = s.clk.epoch) (hhist : u.history i = s.history i)
    (hfreed : u.fixer.freed = s.fixer.freed)
    (hreg : u.reg (Reg.FIXER_WIN_CFG_0 + 4 * Fixer.sourceOf i) = s.reg (Reg.FIXER_WIN_CFG_0 + 4 * Fixer.sourceOf i)) :
    (u.fixerCount i).2 = (s.fixerCount i).2 := by
  have hpast : u.pastEpochs i = s.pastEpochs i := by simp only [State.pastEpochs, hhist, hfreed]
  have hw : u.fixerW i = s.fixerW i := by simp only [State.fixerW, State.fld, hreg]
  have hn : u.fixerN i = s.fixerN i := by simp only [State.fixerN, State.fld, hreg]
  simp only [State.fixerCount, State.fixerCountAt, hepoch, hhist, hpast, hw, hn]
  split <;> [split <;> split <;> rfl; rfl]

/-- The instances whose lasting failure has an entry of their own block's instead of FIXER's (R684). -/
abbrev Fixer.ownEntry (i : Nat) : Prop := Fixer.sourceOf i = Log.CLOCK ∨ Fixer.sourceOf i = Log.FRONT ∨ Fixer.sourceOf i = Log.STAGE

/-- An occurrence of one of such instances raises nothing by itself, and no occurrence stages anything. -/
theorem State.fixerCount_raised {s : State} {i : Nat} (h : Fixer.ownEntry i) : (s.fixerCount i).1.fixer.raised = s.fixer.raised := by
  unfold State.fixerCount State.fixerCountAt
  extract_lets hist w win n beyond marked fixer struck noted source
  have hstruck : struck.fixer.raised = s.fixer.raised := by
    unfold struck
    split <;> rfl
  have hnoted : noted.fixer = struck.fixer := by simp [noted]
  split
  · exact (congrArg Fixer.raised hnoted).trans hstruck
  · exact hstruck

theorem State.fixerCount_staged (s : State) (i : Nat) : (s.fixerCount i).1.fixer.staged = s.fixer.staged := by
  unfold State.fixerCount State.fixerCountAt
  extract_lets hist w win n beyond marked fixer struck noted source
  have hstruck : struck.fixer.staged = s.fixer.staged := by
    unfold struck
    split <;> rfl
  have hnoted : noted.fixer.staged = s.fixer.staged := (by simp [noted] : noted.fixer = struck.fixer) ▸ hstruck
  split
  · split <;> exact hnoted
  · exact hstruck

/-- An occurrence writes FIXER_STATUS and LASTING_COUNT alone. -/
theorem State.fixerCount_reg (s : State) (i : Nat) {a : Nat} (h : a ∉ [Reg.FIXER_FIXER_STATUS, Reg.FIXER_LASTING_COUNT]) :
    (s.fixerCount i).1.reg a = s.reg a := by
  have hconf := State.conf_fixerCount i (conf_refl s [.sset, .bumped, .caused, .fixer] (· ∈ [Reg.FIXER_FIXER_STATUS, Reg.FIXER_LASTING_COUNT]))
    (List.Subset.refl _) fun _ hb => hb
  exact (hconf.1.2 a h).1

/-- An occurrence leaves the front end and the stages alone. -/
theorem State.fixerCount_front (s : State) (i : Nat) : (s.fixerCount i).1.front = s.front :=
  (State.conf_fixerCount i (conf_refl s [.sset, .bumped, .caused, .fixer] fun _ => True) (List.Subset.refl _) fun _ _ => trivial).1.1 .front
    (by decide)

theorem State.fixerCount_clk (s : State) (i : Nat) : (s.fixerCount i).1.clk = s.clk :=
  (State.conf_fixerCount i (conf_refl s [.sset, .bumped, .caused, .fixer] fun _ => True) (List.Subset.refl _) fun _ _ => trivial).1.1 .clk
    (by decide)

/-! ### Waits -/

section
variable {c : Instr} {s u : State} {x : Option Nat} {t0 n : Nat}

/-- A command that acts once its ticks have passed leaves the state as it is before that. -/
theorem exec_wait_early (hexec : exec c s = .next (if s.waited x n then u else s).endCycle) (hbetween : s.between) (hx : x = some t0)
    (hearly : s.clk.ticks < t0 + n) : exec c s = .next s := by
  have hwait : s.waited x n = false := by simp [hx, State.waited, State.elapsed, hearly]
  rw [hexec, hwait, if_neg Bool.false_ne_true, State.endCycle_of_between hbetween]

theorem exec_wait_due (hexec : exec c s = .next (if s.waited x n then u else s).endCycle) (hacting : s.acting = true) (hx : x = some t0)
    (hdue : t0 + n ≤ s.clk.ticks) (hu : u.between) : exec c s = .next u := by
  have hwait : s.waited x n = true := by simp [hx, State.waited, State.elapsed, hacting, hdue]
  rw [hexec, if_pos hwait, State.endCycle_of_between hu]

end

/-! ### Biases and channels -/

theorem State.biasOf_modBias (s : State) {k : Nat} (f : Bias → Bias) (hk : k < s.front.bias.length) (j : Nat) :
    (s.modBias k f).biasOf j = if j = k then f (s.biasOf k) else s.biasOf j := by
  by_cases h : j = k
  · subst h
    rw [if_pos rfl]
    exact nth_modNth_same _ _ _ _ hk
  · rw [if_neg h]
    exact nth_modNth_other _ _ _ h

theorem State.chanOf_modChan (s : State) {k : Nat} (f : Chan → Chan) (hk : k < s.front.chan.length) (j : Nat) :
    (s.modChan k f).chanOf j = if j = k then f (s.chanOf k) else s.chanOf j := by
  by_cases h : j = k
  · subst h
    rw [if_pos rfl]
    exact nth_modNth_same _ _ _ _ hk
  · rw [if_neg h]
    exact nth_modNth_other _ _ _ h

/-- VBIAS below its threshold takes every bias to 0 V, and nothing else of the front end changes (R708). -/
theorem exec_vbiasLow (s : State) : ∃ t, exec .vbiasLow s = .next t ∧ t.front = { s.front with vbiasOk := false, bias := t.front.bias } ∧
    ∀ b ∈ t.front.bias, b.on = false ∧ b.ramp = none := by
  refine ⟨_, rfl, ?_, fun b hb => ?_⟩
  · simp [State.vbiasFall]
  · rw [State.endCycle_front] at hb
    obtain ⟨b', -, rfl⟩ := List.mem_map.1 hb
    exact ⟨rfl, rfl⟩

/-- VBIAS above its threshold turns on each bias that its register, format and shorts let on (R708, R279). -/
theorem exec_vbiasRise (s : State) (hacting : s.acting = true) (hlen : s.front.bias.length = 16) :
    ∃ t, exec .vbiasRise s = .next t ∧ t.front = { s.front with vbiasOk := true, bias := t.front.bias } ∧
      ∀ k, k < 16 → (t.biasOf k).on = (s.flag Reg.FRONT_BIAS_EN k && ((s.blockUp 0 && !s.toSafe) || k == s.front.watchMic)
        && (s.biasOf k).shorted.isNone && !(s.biasOf k).latched) := by
  let u : State := { s with front := { s.front with vbiasOk := true } }
  obtain ⟨-, hready⟩ := Bool.and_eq_true_iff.1 hacting
  have hexec : exec .vbiasRise s = .next u.updateBiases.endCycle := by
    show Host.Outcome.next (State.endCycle (if u.acting then u.updateBiases else u)) = _
    rw [if_pos (show u.acting = true from hacting)]
  refine ⟨_, hexec, ?_, fun k hk => ?_⟩
  · rw [State.endCycle_front, (State.SameButBiases.updateBiases u).1]
  · have hstate := congrArg Prod.fst (State.biasState_updateBiases (s := u) hlen hk)
    have hon : (u.updateBiases.endCycle.biasOf k).on = (u.updateBiases.biasOf k).on := by
      simp only [State.biasOf, State.endCycle_front]
    rw [hon]
    refine hstate.trans ?_
    show (u.biasWanted k && _ && _) = _
    simp [State.biasWanted, u, hready, State.blockUp, State.flag, State.reg, State.toSafe, State.biasOf]

/-- A bias update changes the list of biases alone, and in it no other bias. -/
theorem State.updateBias_eq (s : State) (k : Nat) :
    s.updateBias k = { s with front := { s.front with bias := (s.updateBias k).front.bias } } := by
  have hsame := (State.SameButBiases.updateBias s k).1
  rwa [s.updateBias_fixer k] at hsame

theorem State.biasOf_updateBias_other (s : State) {k j : Nat} (h : j ≠ k) : (s.updateBias k).biasOf j = s.biasOf j := by
  have hmod : ∀ f : Bias → Bias, (s.modBias k f).biasOf j = s.biasOf j := fun f => nth_modNth_other _ _ _ h
  unfold State.updateBias
  dsimp only
  (repeat' split) <;> first | rfl | exact hmod _

/-- The wait of a transient short ends: the bias is on again where its register, format and VBIAS let it be (R279). -/
theorem exec_biasRestart_due {s : State} {k t0 : Nat} (hbetween : s.between) (hacting : s.acting = true) (hlen : s.front.bias.length = 16)
    (hk : k < 16) (hshort : (s.biasOf k).shorted = some t0) (hdue : t0 + 9600 ≤ s.clk.ticks) (hlatched : (s.biasOf k).latched = false) :
    ∃ t, exec (.biasRestart k) s = .next t ∧ t = { s with front := { s.front with bias := t.front.bias } } ∧
      (t.biasOf k).shorted = none ∧ (t.biasOf k).on = (s.front.vbiasOk && s.flag Reg.FRONT_BIAS_EN k &&
        ((s.blockUp 0 && !s.toSafe) || k == s.front.watchMic)) ∧ ∀ j, j < 16 → j ≠ k → t.biasOf j = s.biasOf j := by
  have hk' : k < s.front.bias.length := hlen ▸ hk
  obtain ⟨-, hready⟩ := Bool.and_eq_true_iff.1 hacting
  let u := s.modBias k fun b => { b with shorted := none }
  have hu : u.updateBias k = { s with front := { s.front with bias := (u.updateBias k).front.bias } } := u.updateBias_eq k
  have hexec : exec (.biasRestart k) s = .next (u.updateBias k) := by
    have hwait : (s.waited (s.biasOf k).shorted 9600 && !(s.biasOf k).latched) = true := by
      simp [hshort, hlatched, State.waited, State.elapsed, hacting, hdue]
    show Host.Outcome.next (State.endCycle (if _ then u.updateBias k else s)) = _
    rw [if_pos hwait, State.endCycle_of_between]
    rw [hu]
    exact hbetween
  have hbias : u.biasOf k = { s.biasOf k with shorted := none } := (s.biasOf_modBias _ hk' k).trans (if_pos rfl)
  have hstate : (u.updateBias k).biasState k = (u.biasWanted k, none, false) := by
    rw [State.biasState_updateBias (by exact (List.length_modify _ _ _).symm ▸ hk'), if_pos rfl]
    simp [hbias, hlatched, biasUpdated]
  refine ⟨_, hexec, hu, congrArg (·.2.1) hstate, ?_, fun j _ hj => ?_⟩
  · refine (congrArg Prod.fst hstate).trans ?_
    show (s.ident.done && s.front.vbiasOk && s.flag Reg.FRONT_BIAS_EN k && ((s.blockUp 0 && !s.toSafe) || k == s.front.watchMic)) = _
    rw [hready, Bool.true_and]
  · exact (u.biasOf_updateBias_other hj).trans ((s.biasOf_modBias _ hk' j).trans (if_neg hj))

/-- A bias at its limit turns off and reports its short before the Fixer counts it (R278). -/
def State.shortNoted (s : State) (k : Nat) : State :=
  let u := ((s.modBias k fun b => { b with on := false, ramp := none, shorted := some s.clk.ticks, limit := 0 }).setFlag
    Reg.FRONT_BIAS_SHORT k).countSat Reg.FRONT_BIAS_FAULTS
  u.raise Log.FRONT 1 (ofBytes k (b2n u.clk.daylight) 0 0)

/-- A short that the Fixer finds lasting clears its enable and latches its bias off (R278, R280). -/
def State.shortLasts (u : State) (k : Nat) : State :=
  ((u.setFld Reg.FRONT_BIAS_EN k 1 0).modBias k fun b => { b with latched := true }).raise Log.FRONT 2 (ofBytes k 0 0 0)

theorem State.shortNoted_clk (s : State) (k : Nat) : (s.shortNoted k).clk = s.clk := by
  simp [State.shortNoted, State.modBias]

theorem State.shortNoted_front (s : State) (k : Nat) : (s.shortNoted k).front = { s.front with bias := modNth s.front.bias k fun b =>
    { b with on := false, ramp := none, shorted := some s.clk.ticks, limit := 0 } } := by
  simp [State.shortNoted, State.modBias]

theorem State.shortNoted_reg (s : State) (k : Nat) {a : Nat} (h : a ∉ [Reg.FRONT_BIAS_SHORT, Reg.FRONT_BIAS_FAULTS]) :
    (s.shortNoted k).reg a = s.reg a := by
  obtain ⟨hshort, hfaults⟩ : a ≠ Reg.FRONT_BIAS_SHORT ∧ a ≠ Reg.FRONT_BIAS_FAULTS := by simpa using h
  show State.reg (State.countSat _ Reg.FRONT_BIAS_FAULTS) a = s.reg a
  rw [State.reg_countSat_other _ hfaults, State.reg_setFlag_other _ _ hshort]
  rfl

theorem State.shortNoted_faults (s : State) (k : Nat) :
    (s.shortNoted k).reg Reg.FRONT_BIAS_FAULTS = satInc (s.reg Reg.FRONT_BIAS_FAULTS) := by
  show State.reg (State.countSat _ Reg.FRONT_BIAS_FAULTS) _ = _
  rw [State.reg_countSat_same, State.reg_setFlag_other _ _ (by decide)]
  rfl

theorem State.shortNoted_short (s : State) {k : Nat} (hk : k < 16) : (s.shortNoted k).flag Reg.FRONT_BIAS_SHORT k = true := by
  show State.flag (State.countSat _ Reg.FRONT_BIAS_FAULTS) Reg.FRONT_BIAS_SHORT k = true
  rw [State.flag, State.reg_countSat_other _ (by decide)]
  exact State.flag_setFlag_same _ _ _ hk

theorem State.shortNoted_fixer (s : State) (k : Nat) : (s.shortNoted k).fixer =
    { s.fixer with raised := s.fixer.raised ++ [s.entry Log.FRONT 1 (ofBytes k (b2n s.clk.daylight) 0 0) 0] } := by
  let u := ((s.modBias k fun b => { b with on := false, ramp := none, shorted := some s.clk.ticks, limit := 0 }).setFlag
    Reg.FRONT_BIAS_SHORT k).countSat Reg.FRONT_BIAS_FAULTS
  have hfixer : u.fixer = s.fixer := by simp [u, State.modBias]
  have hclk : u.clk = s.clk := by simp [u, State.modBias]
  have hentry := State.entry_congr Log.FRONT 1 (ofBytes k (b2n u.clk.daylight) 0 0) 0 hclk (s.shortNoted_reg k (by decide))
  show { u.fixer with raised := u.fixer.raised ++ [u.entry Log.FRONT 1 (ofBytes k (b2n u.clk.daylight) 0 0) 0] } = _
  rw [hfixer, hentry, hclk]

theorem State.biasInstance_shortNoted (s : State) (k : Nat) : (s.shortNoted k).biasInstance k = s.biasInstance k := by
  rw [State.biasInstance, s.shortNoted_clk, State.biasInstance]

theorem State.biasShort_eq (s : State) (k : Nat) :
    s.biasShort k = if ((s.shortNoted k).fixerCount (s.biasInstance k)).2.2 then
      State.shortLasts ((s.shortNoted k).fixerCount (s.biasInstance k)).1 k
    else ((s.shortNoted k).fixerCount (s.biasInstance k)).1 := by
  rw [← s.biasInstance_shortNoted k]
  rfl

theorem sourceOf_front : ∀ i < 22, 5 ≤ i → Fixer.sourceOf i = Log.FRONT := by decide

theorem sourceOf_biasInstance (s : State) {k : Nat} (hk : k < 16) : Fixer.sourceOf (s.biasInstance k) = Log.FRONT := by
  unfold State.biasInstance
  split
  · exact sourceOf_front _ (by omega) (by omega)
  · rfl

/-- Whether the Fixer finds the short lasting is as it stood before the short was noted. -/
theorem State.fixerCount_shortNoted (s : State) {k : Nat} (hk : k < 16) :
    ((s.shortNoted k).fixerCount (s.biasInstance k)).2 = (s.fixerCount (s.biasInstance k)).2 := by
  refine State.fixerCount_snd_congr (by rw [s.shortNoted_clk]) (by rw [State.history, s.shortNoted_fixer, State.history])
    (by rw [s.shortNoted_fixer]) ?_
  rw [sourceOf_biasInstance s hk]
  exact s.shortNoted_reg k (by decide)

/-- A field of one bit holds its value's lowest bit, and the others are left. -/
theorem bitOf_setBits_one (w : Word) (v : Nat) {i j : Nat} (hj : j < 32) :
    bitOf (setBits w i 1 v) j = if j = i then v.testBit 0 else bitOf w j := by
  simp only [bitOf, setBits, place, BitVec.getLsbD_or, BitVec.getLsbD_and, BitVec.getLsbD_not, BitVec.getLsbD_ofNat, hj, decide_true,
    Bool.true_and, Nat.testBit_shiftLeft, Nat.testBit_mod_two_pow]
  rcases Nat.lt_trichotomy j i with h | rfl | h
  · simp [Nat.not_le.2 h, Nat.ne_of_lt h]
  · simp
  · have hsub : ¬ j - i < 1 := by omega
    simp [hsub, Nat.ne_of_gt h]

theorem State.biasOf_shortLasts {u : State} {k : Nat} (hk : k < u.front.bias.length) (j : Nat) :
    (u.shortLasts k).biasOf j = if j = k then { u.biasOf k with latched := true } else u.biasOf j := by
  have hsame : ∀ j, (u.setFld Reg.FRONT_BIAS_EN k 1 0).biasOf j = u.biasOf j := fun j => by simp [State.biasOf]
  have hmod := (u.setFld Reg.FRONT_BIAS_EN k 1 0).biasOf_modBias (fun b => { b with latched := true }) (k := k) (by simpa using hk) j
  rw [hsame, hsame] at hmod
  exact hmod

theorem State.shortLasts_reg_other (u : State) (k : Nat) {a : Nat} (h : a ≠ Reg.FRONT_BIAS_EN) : (u.shortLasts k).reg a = u.reg a :=
  u.reg_setFld_other k 1 0 h

theorem State.shortLasts_enable (u : State) {k : Nat} (hk : k < 16) : (u.shortLasts k).flag Reg.FRONT_BIAS_EN k = false := by
  show bitOf ((u.setFld Reg.FRONT_BIAS_EN k 1 0).reg Reg.FRONT_BIAS_EN) k = false
  rw [State.reg_setFld_same, bitOf_setBits_one _ 0 (by omega), if_pos rfl]
  rfl

theorem State.shortLasts_raised (u : State) (k : Nat) :
    (u.shortLasts k).fixer.raised = u.fixer.raised ++ [u.entry Log.FRONT 2 (ofBytes k 0 0 0) 0] := by
  let w := (u.setFld Reg.FRONT_BIAS_EN k 1 0).modBias k fun b => { b with latched := true }
  have hfixer : w.fixer = u.fixer := by simp [w, State.modBias]
  show w.fixer.raised ++ [w.entry Log.FRONT 2 (ofBytes k 0 0 0) 0] = _
  rw [hfixer, State.entry_congr Log.FRONT 2 _ _ (s := u) (u := w) (by simp [w, State.modBias]) (u.reg_setFld_other k 1 0 (by decide))]

theorem State.shortLasts_staged (u : State) (k : Nat) : (u.shortLasts k).fixer.staged = u.fixer.staged := by
  simp [State.shortLasts, State.modBias, State.raise, State.raiseAt]

/-- A bias at its current limit for 96 ticks is short: it turns off, and for good where the Fixer finds the short lasting (R278, R280). -/
theorem exec_biasShort {s : State} {k : Nat} (hroom : s.roomFor 2) (hacting : s.acting = true) (hlen : s.front.bias.length = 16)
    (hk : k < 16) (hvbias : s.front.vbiasOk = true) (hon : (s.biasOf k).on = true) (hlimit : 96 ≤ (s.biasOf k).limit) :
    ∃ t, exec (.biasShort k) s = .next t ∧ (t.biasOf k).on = false ∧ (t.biasOf k).shorted = some s.clk.ticks ∧
      (∀ j, j < 16 → j ≠ k → t.biasOf j = s.biasOf j) ∧ t.flag Reg.FRONT_BIAS_SHORT k = true ∧
      t.reg Reg.FRONT_BIAS_FAULTS = satInc (s.reg Reg.FRONT_BIAS_FAULTS) ∧
      (if (s.fixerCount (if s.clk.daylight then 5 + k else 21)).2.2 = true
       then t.flag Reg.FRONT_BIAS_EN k = false ∧ (t.biasOf k).latched = true ∧
         Logged s t [s.entry Log.FRONT 1 (ofBytes k (b2n s.clk.daylight) 0 0) 0, s.entry Log.FRONT 2 (ofBytes k 0 0 0) 0]
       else t.reg Reg.FRONT_BIAS_EN = s.reg Reg.FRONT_BIAS_EN ∧ (t.biasOf k).latched = (s.biasOf k).latched ∧
         Logged s t [s.entry Log.FRONT 1 (ofBytes k (b2n s.clk.daylight) 0 0) 0]) := by
  have hbetween := hroom.1
  have hk' : k < s.front.bias.length := hlen ▸ hk
  let u := s.shortNoted k
  let w := (u.fixerCount (s.biasInstance k)).1
  have hdue : s.shortDue k = true := by simp [State.shortDue, hacting, hvbias, hon, hlimit]
  have hexec : exec (.biasShort k) s = .next (s.biasShort k).endCycle := by
    show Host.Outcome.next (State.endCycle (if s.shortDue k then s.biasShort k else s)) = _
    rw [if_pos hdue]
  have hwbias : ∀ j, w.biasOf j = if j = k then { s.biasOf k with on := false, ramp := none, shorted := some s.clk.ticks, limit := 0 }
      else s.biasOf j := fun j => by
    rw [State.biasOf, u.fixerCount_front, s.shortNoted_front]
    exact s.biasOf_modBias _ hk' j
  have hreg : ∀ a, a ∉ [Reg.FIXER_FIXER_STATUS, Reg.FIXER_LASTING_COUNT] → w.reg a = u.reg a := fun a ha => u.fixerCount_reg _ ha
  have hraised : w.fixer.raised = [s.entry Log.FRONT 1 (ofBytes k (b2n s.clk.daylight) 0 0) 0] := by
    rw [State.fixerCount_raised (Or.inr (Or.inl (sourceOf_biasInstance s hk))), s.shortNoted_fixer, hbetween.1, List.nil_append]
  have hstaged : w.fixer.staged = s.fixer.staged := by rw [u.fixerCount_staged, s.shortNoted_fixer]
  rw [State.biasShort_eq, s.fixerCount_shortNoted hk] at hexec
  have hinstance : s.biasInstance k = if s.clk.daylight then 5 + k else 21 := rfl
  rw [← hinstance]
  have hshort : ∀ v : State, (∀ a, a ≠ Reg.FRONT_BIAS_EN → v.reg a = w.reg a) → v.endCycle.flag Reg.FRONT_BIAS_SHORT k = true ∧
      v.endCycle.reg Reg.FRONT_BIAS_FAULTS = satInc (s.reg Reg.FRONT_BIAS_FAULTS) := fun v hv => by
    rw [State.endCycle_flag _ _ (by decide) (by decide), State.endCycle_reg _ (by decide) (by decide), State.flag, hv _ (by decide),
      hv _ (by decide), hreg _ (by decide), hreg _ (by decide)]
    exact ⟨s.shortNoted_short hk, s.shortNoted_faults k⟩
  have hbias : ∀ (v : State) j, v.endCycle.biasOf j = v.biasOf j := fun v j => by rw [State.biasOf, State.endCycle_front, State.biasOf]
  cases hlasting : (s.fixerCount (s.biasInstance k)).2.2 with
  | false =>
    rw [hlasting] at hexec
    refine ⟨w.endCycle, hexec, ?_⟩
    simp only [hbias, hwbias, if_true, true_and]
    refine ⟨fun j _ hj => if_neg hj, (hshort w fun _ _ => rfl).1, (hshort w fun _ _ => rfl).2, ?_⟩
    rw [if_neg Bool.false_ne_true]
    refine ⟨?_, State.logged_endCycle (es := [_]) hroom hstaged hraised (Nat.le_succ 1)⟩
    rw [State.endCycle_reg _ (by decide) (by decide), hreg _ (by decide)]
    exact s.shortNoted_reg k (by decide)
  | true =>
    rw [hlasting] at hexec
    have hwlen : k < w.front.bias.length := by
      rw [u.fixerCount_front, s.shortNoted_front]
      exact (List.length_modify _ _ _).symm ▸ hk'
    refine ⟨(w.shortLasts k).endCycle, hexec, ?_⟩
    simp only [hbias, State.biasOf_shortLasts hwlen, hwbias, if_true, true_and]
    have hfacts := hshort (w.shortLasts k) fun a ha => w.shortLasts_reg_other k ha
    refine ⟨fun j _ hj => by rw [if_neg hj, if_neg hj], hfacts.1, hfacts.2, ?_, ?_⟩
    · rw [State.endCycle_flag _ _ (by decide) (by decide)]
      exact w.shortLasts_enable hk
    · have hentry : w.entry Log.FRONT 2 (ofBytes k 0 0 0) 0 = s.entry Log.FRONT 2 (ofBytes k 0 0 0) 0 :=
        State.entry_congr _ _ _ _ ((u.fixerCount_clk _).trans (s.shortNoted_clk k)) ((hreg _ (by decide)).trans (s.shortNoted_reg k (by decide)))
      have hlog := State.logged_endCycle (u := w.shortLasts k) (es := [_, _]) hroom ((w.shortLasts_staged k).trans hstaged)
        ((w.shortLasts_raised k).trans (by rw [hraised, hentry]; rfl)) (Nat.le_refl 2)
      exact hlog

/-- A bias that has drawn too little for 960 ticks is open, and its detector is disarmed (R281). -/
theorem exec_biasOpen {s : State} {k : Nat} (hroom : s.roomFor 1) (hacting : s.acting = true) (hlen : s.front.bias.length = 16) (hk : k < 16)
    (hvbias : s.front.vbiasOk = true) (hon : (s.biasOf k).on = true) (harmed : (s.biasOf k).armed = true) (hlow : 960 ≤ (s.biasOf k).low) :
    ∃ t, exec (.biasOpen k) s = .next t ∧ (t.biasOf k).armed = false ∧ (∀ j, j < 16 → j ≠ k → t.biasOf j = s.biasOf j) ∧
      t.flag Reg.FRONT_BIAS_OPEN k = true ∧ KeepsRegs s t [Reg.FRONT_BIAS_OPEN] ∧
      Logged s t [s.entry Log.FRONT 3 (ofBytes k 0 0 0) 0] := by
  have hk' : k < s.front.bias.length := hlen ▸ hk
  let m := s.modBias k fun b => { b with armed := false, high := 0 }
  let u := m.setFlag Reg.FRONT_BIAS_OPEN k
  have hexec : exec (.biasOpen k) s = .next (u.raise Log.FRONT 3 (ofBytes k 0 0 0)).endCycle := by
    have hdue : s.openDue k = true := by simp [State.openDue, hacting, hvbias, hon, harmed, hlow]
    show Host.Outcome.next (State.endCycle (if s.openDue k then s.biasOpen k else s)) = _
    rw [if_pos hdue]
    rfl
  have hbias : ∀ j, (u.raise Log.FRONT 3 (ofBytes k 0 0 0)).endCycle.biasOf j = m.biasOf j := fun j => by
    simp [State.biasOf, u, State.raise, State.raiseAt]
  have hentry : u.entry Log.FRONT 3 (ofBytes k 0 0 0) 0 = s.entry Log.FRONT 3 (ofBytes k 0 0 0) 0 :=
    State.entry_congr _ _ _ _ (by simp [u, m, State.modBias]) (State.reg_setFlag_other _ _ (by decide))
  have hstaged : (u.raise Log.FRONT 3 (ofBytes k 0 0 0)).fixer.staged = s.fixer.staged := by simp [u, m, State.modBias, State.raise, State.raiseAt]
  have hraised : (u.raise Log.FRONT 3 (ofBytes k 0 0 0)).fixer.raised = [s.entry Log.FRONT 3 (ofBytes k 0 0 0) 0] := by
    rw [State.raised_raise_entry, hentry]
    simp [u, m, State.modBias, hroom.1.1]
  refine ⟨_, hexec, ?_, fun j _ hj => ?_, ?_, ?_, State.logged_endCycle_one hroom hstaged hraised⟩
  · rw [hbias, s.biasOf_modBias _ hk', if_pos rfl]
  · rw [hbias, s.biasOf_modBias _ hk', if_neg hj]
  · rw [State.endCycle_flag _ _ (by decide) (by decide)]
    exact State.flag_setFlag_same _ _ _ hk
  · exact State.keepsRegs_endCycle hroom hstaged (hraised ▸ Nat.le_refl 1) (m.keepsRegs_setFlag _ k)

/-- Settles O40: each timer is a wait of its own bias or converter, and a short's two outcomes follow the Fixer's answer. -/
theorem biasesAndTimersRunOut : Obligations.BiasesAndTimersRunOut := by
  unfold Obligations.BiasesAndTimersRunOut
  refine ⟨exec_vbiasLow, exec_vbiasRise, fun s k t0 hbetween hacting hlen hk hramp => ⟨exec_wait_early rfl hbetween hramp, fun hdue =>
      ⟨_, exec_wait_due rfl hacting hramp hdue hbetween, rfl, fun j _ => s.biasOf_modBias _ (hlen ▸ hk) j⟩⟩,
    fun s k t0 hbetween hacting hlen hk hwindow => ⟨exec_wait_early rfl hbetween hwindow, fun hdue =>
      ⟨_, exec_wait_due rfl hacting hwindow hdue hbetween, rfl, fun j _ => s.biasOf_modBias _ (hlen ▸ hk) j⟩⟩,
    fun s k t0 hbetween hacting hlen hk hshort => ⟨fun hearly => ?_, exec_biasRestart_due hbetween hacting hlen hk hshort⟩,
    fun s k hbetween hacting hlen hk harmed => ?_,
    fun s k t0 hbetween hacting hlen hk hstart => ⟨exec_wait_early rfl hbetween hstart, fun hdue =>
      ⟨_, exec_wait_due rfl hacting hstart hdue hbetween, rfl, fun j _ => s.chanOf_modChan _ (hlen ▸ hk) j⟩⟩,
    fun s t0 hbetween hacting hstart => ⟨exec_wait_early rfl hbetween hstart, fun hdue =>
      ⟨_, exec_wait_due rfl hacting hstart hdue hbetween, rfl⟩⟩,
    fun s k => exec_biasShort, fun s k => exec_biasOpen⟩
  · have hwait : (s.waited (s.biasOf k).shorted 9600 && !(s.biasOf k).latched) = false := by
      rcases hearly with hearly | hlatched
      · simp [hshort, State.waited, State.elapsed, hearly]
      · simp [hlatched]
    show Host.Outcome.next (State.endCycle (if _ then _ else s)) = _
    rw [hwait, if_neg Bool.false_ne_true, State.endCycle_of_between hbetween]
  · have hexec : exec (.biasOpenRearm k) s = .next (if 960 ≤ (s.biasOf k).high then s.modBias k fun b => { b with armed := true } else s) := by
      show Host.Outcome.next (State.endCycle (if (s.acting && !(s.biasOf k).armed && decide (960 ≤ (s.biasOf k).high)) then _ else s)) = _
      simp only [hacting, harmed, Bool.not_false, Bool.true_and, decide_eq_true_eq]
      rw [State.endCycle_of_between]
      split <;> exact hbetween
    by_cases hhigh : 960 ≤ (s.biasOf k).high
    · rw [if_pos hhigh] at hexec
      refine ⟨_, hexec, rfl, fun j _ => ?_⟩
      simp only [s.biasOf_modBias _ (hlen ▸ hk : k < s.front.bias.length) j, hhigh, and_true]
    · rw [if_neg hhigh] at hexec
      exact ⟨s, hexec, rfl, fun j _ => by rw [if_neg fun h => hhigh h.2]⟩

/-! ### Converters, the PDM port and the capture -/

/-- A command that sets one flag, and raises nothing, sets it and leaves every other register. -/
theorem State.setFlag_endCycle_calm {s u : State} (hraised : u.fixer.raised = []) (hreg : ∀ a, u.reg a = s.reg a) (a : Nat) {i : Nat} (hi : i < 16)
    (h1 : a ≠ Reg.FIXER_LOG_DROPS) (h2 : a ≠ Reg.FIXER_FIXER_STATUS) :
    (u.setFlag a i).endCycle.flag a i = true ∧ KeepsRegs s (u.setFlag a i).endCycle [a] := by
  refine ⟨?_, State.keepsRegs_endCycle_calm ?_ fun b hb => (u.keepsRegs_setFlag a i b hb).trans (hreg b)⟩
  · rw [State.endCycle_flag _ _ h1 h2]
    exact State.flag_setFlag_same _ _ _ hi
  · rw [State.setFlag_fixer, hraised]

/-- An overload of a running converter sets its clip flag, whatever window of the sense microphone it breaks (R286, R606). -/
theorem exec_converterOverload {s : State} {k : Nat} (hbetween : s.between) (hacting : s.acting = true) (hk : k < 16)
    (hpowered : (s.chanOf k).powered = true) :
    ∃ t, exec (.converterOverload k) s = .next t ∧ t.flag Reg.FRONT_CLIP_STATUS k = true ∧ KeepsRegs s t [Reg.FRONT_CLIP_STATUS] ∧
      t.front = s.front := by
  let u := if s.senseMic == some k then s.senseFailed else s
  have hexec : exec (.converterOverload k) s = .next (u.setFlag Reg.FRONT_CLIP_STATUS k).endCycle := by
    show Host.Outcome.next (State.endCycle (s.overload k)) = _
    rw [State.overload, if_pos hk, if_pos (Bool.and_eq_true_iff.2 ⟨hacting, hpowered⟩)]
  have hraised : u.fixer.raised = [] := by
    unfold u
    split <;> exact hbetween.1
  have hreg : ∀ a, u.reg a = s.reg a := fun a => by
    unfold u
    split <;> rfl
  have hfront : u.front = s.front := by
    unfold u
    split <;> rfl
  obtain ⟨hflag, hkeeps⟩ := State.setFlag_endCycle_calm hraised hreg Reg.FRONT_CLIP_STATUS hk (by decide) (by decide)
  exact ⟨_, hexec, hflag, hkeeps, by rw [State.endCycle_front, State.setFlag_front, hfront]⟩

/-- An overload of the watch converter sets its own flag (R286). -/
theorem exec_watchOverload {s : State} (hbetween : s.between) (hacting : s.acting = true) (hrun : s.front.watchRun = true) :
    ∃ t, exec (.converterOverload 16) s = .next t ∧ t.flag Reg.FRONT_FRONT_STATUS 4 = true ∧ KeepsRegs s t [Reg.FRONT_FRONT_STATUS] ∧
      t.front = s.front := by
  have hexec : exec (.converterOverload 16) s = .next (s.setFlag Reg.FRONT_FRONT_STATUS 4).endCycle := by
    show Host.Outcome.next (State.endCycle (if s.acting && s.front.watchRun then _ else s)) = _
    rw [if_pos (Bool.and_eq_true_iff.2 ⟨hacting, hrun⟩)]
  obtain ⟨hflag, hkeeps⟩ := State.setFlag_endCycle_calm hbetween.1 (fun _ => rfl) Reg.FRONT_FRONT_STATUS (by decide : 4 < 16) (by decide)
    (by decide)
  exact ⟨_, hexec, hflag, hkeeps, by rw [State.endCycle_front, State.setFlag_front]⟩

/-- The PDM decimators start once the modules have woken (R297). -/
theorem exec_pdmDecimatorStart {s : State} (hbetween : s.between) (hacting : s.acting = true) (hphase : s.front.pdmPhase = 1)
    (hdecim : s.front.pdmDecim = false) (hdue : s.front.pdmTick + 480 * s.front.pdmWake ≤ s.clk.ticks) :
    exec .pdmDecimatorStart s = .next { s with front := { s.front with pdmDecim := true } } := by
  have hall : (s.acting && s.front.pdmPhase == 1 && !s.front.pdmDecim && s.elapsed s.front.pdmTick s.pdmWait) = true := by
    simp [hacting, hphase, hdecim, State.elapsed, State.pdmWait, hdue]
  show Host.Outcome.next (State.endCycle (if _ then _ else s)) = _
  rw [if_pos hall, State.endCycle_of_between]
  exact hbetween

/-- The PDM channels are ready 256 ticks later, with their flag and entry (R297). -/
theorem exec_pdmReady {s : State} (hroom : s.roomFor 1) (hacting : s.acting = true) (hphase : s.front.pdmPhase = 1)
    (hdecim : s.front.pdmDecim = true) (hdue : s.front.pdmTick + 480 * s.front.pdmWake + 256 ≤ s.clk.ticks) :
    ∃ t, exec .pdmReady s = .next t ∧ t.front = { s.front with pdmPhase := 2 } ∧ t.flag Reg.FRONT_FRONT_STATUS 1 = true ∧
      KeepsRegs s t [Reg.FRONT_FRONT_STATUS] ∧
      Logged s t [s.entry Log.FRONT 4 (ofBytes (bits s.front.pdmCfg 2 1) s.front.pdmTaken 0 0) 0] := by
  let m : State := { s with front := { s.front with pdmPhase := 2 } }
  let u := m.setFlag Reg.FRONT_FRONT_STATUS 1
  let lo := ofBytes (bits s.front.pdmCfg 2 1) s.front.pdmTaken 0 0
  have hall : (s.acting && s.front.pdmPhase == 1 && s.front.pdmDecim && s.elapsed s.front.pdmTick (s.pdmWait + 256)) = true := by
    have hwait : s.elapsed s.front.pdmTick (s.pdmWait + 256) = true := decide_eq_true ((Nat.add_assoc _ _ _).symm.trans_le hdue)
    rw [hacting, hphase, hdecim, hwait]
    rfl
  have hexec : exec .pdmReady s = .next (u.raise Log.FRONT 4 lo).endCycle := by
    show Host.Outcome.next (State.endCycle (if _ then _ else s)) = _
    rw [if_pos hall]
  have hentry : u.entry Log.FRONT 4 lo 0 = s.entry Log.FRONT 4 lo 0 :=
    State.entry_congr _ _ _ _ (by simp [u, m]) (State.reg_setFlag_other _ _ (by decide))
  have hstaged : (u.raise Log.FRONT 4 lo).fixer.staged = s.fixer.staged := by simp [u, m, State.raise, State.raiseAt]
  have hraised : (u.raise Log.FRONT 4 lo).fixer.raised = [s.entry Log.FRONT 4 lo 0] := by
    rw [State.raised_raise_entry, hentry]
    simp [u, m, hroom.1.1]
  refine ⟨_, hexec, ?_, ?_, ?_, State.logged_endCycle_one hroom hstaged hraised⟩
  · rw [State.endCycle_front]
    simp [u, m, State.raise, State.raiseAt]
  · rw [State.endCycle_flag _ _ (by decide) (by decide)]
    exact State.flag_setFlag_same _ _ _ (by decide)
  · exact State.keepsRegs_endCycle hroom hstaged (hraised ▸ Nat.le_refl 1) (m.keepsRegs_setFlag _ 1)

/-- A capture that holds its 4,096 samples ends, and one that does not goes on (R305). -/
theorem exec_captureDone {s : State} {k n : Nat} (hbetween : s.between) (hacting : s.acting = true) (hcapture : s.front.capture = some (k, n)) :
    (4096 ≤ n → ∃ t, exec .captureDone s = .next t ∧ t.front = { s.front with capture := none } ∧
      t.flag Reg.FRONT_FRONT_STATUS 0 = true ∧ KeepsRegs s t [Reg.FRONT_FRONT_STATUS]) ∧
    (n < 4096 → exec .captureDone s = .next s) := by
  let u : State := { s with front := { s.front with capture := none } }
  have hexec : exec .captureDone s = .next (if 4096 ≤ n then u.setFlag Reg.FRONT_FRONT_STATUS 0 else s).endCycle := by
    show Host.Outcome.next (State.endCycle s.captureDone) = _
    rw [State.captureDone, hcapture]
    simp only [hacting, Bool.true_and, decide_eq_true_eq]
    rfl
  refine ⟨fun hfull => ?_, fun hmore => ?_⟩
  · rw [if_pos hfull] at hexec
    obtain ⟨hflag, hkeeps⟩ := State.setFlag_endCycle_calm (s := s) (u := u) hbetween.1 (fun _ => rfl) Reg.FRONT_FRONT_STATUS (by decide : 0 < 16)
      (by decide) (by decide)
    exact ⟨_, hexec, by rw [State.endCycle_front, State.setFlag_front], hflag, hkeeps⟩
  · rw [hexec, if_neg (Nat.not_le.2 hmore), State.endCycle_of_between hbetween]

/-- Settles O41: overloads, the two steps of the PDM start, and the capture, each by its own condition. -/
theorem convertersPdmAndCapture : Obligations.ConvertersPdmAndCapture := by
  unfold Obligations.ConvertersPdmAndCapture
  exact ⟨fun s k => exec_converterOverload, fun s => exec_watchOverload,
    fun s hbetween hacting hphase hdecim hdue => ⟨_, exec_pdmDecimatorStart hbetween hacting hphase hdecim hdue, rfl⟩,
    fun s => exec_pdmReady, fun s k n => exec_captureDone⟩

end Sys2Proof.Machine
end

section
/-! PROOFS. A stage whose SWS is lost as its thermal trip comes (R589, R592): the loss goes first, and the trip does nothing in that cycle;
and the refutation drawn from it. -/

namespace Sys2Proof.Machine

/-- A stage that has shown no edge for 96 ticks since its release, and whose temperature has stood above the trip for 8. -/
def lostAndHot : State :=
  { clk := { power := .up, daylight := true, ticks := 96 }
    ident := { done := true }
    mode := { good := [true, true, true, true] }
    stage := { ch := { noEdge := 96, relTick := some 0, tripRun := 8 } :: List.replicate 7 {} } }

theorem exec_thermalTrip_lostAndHot : ∃ t, exec (.thermalTrip 0) lostAndHot = .next t ∧ (t.stageCh 0).cause = 0 := ⟨_, rfl, by decide⟩

/-- Refutes O53: a thermal trip does not take its cause while the same channel's SWS is lost. -/
theorem not_stageFaultsHoldTheChannel : ¬ Obligations.StageFaultsHoldTheChannel := by
  unfold Obligations.StageFaultsHoldTheChannel
  rintro ⟨-, htrip, -⟩
  obtain ⟨t, hexec, -, -, -, hfault⟩ := htrip lostAndHot 0 ⟨⟨rfl, rfl, rfl, rfl, rfl, rfl⟩, by decide⟩ (by decide) rfl rfl
  obtain ⟨hcause, -⟩ := hfault (by decide) rfl
  obtain ⟨u, hu, hnone⟩ := exec_thermalTrip_lostAndHot
  obtain rfl : t = u := Host.Outcome.next.inj (hexec.symm.trans hu)
  exact absurd (hnone.symm.trans hcause) (by decide)

end Sys2Proof.Machine
end

section
/-! PROOFS. Reads with an effect of their own, and unaligned Loupe accesses (R31, R262, R485, R660); and the statement drawn from them. -/

namespace Sys2Proof.Machine

/-- A read that reaches a register outside the window, with no pair armed: what the register reads after the read's first effect, and both
effects. -/
theorem State.accessRead_reaching {s : State} {src : Src} {a : Nat} (hreaches : s.reaches src = true) (hpair : s.noPair)
    (hpage : s.pageOff a = false) (hwindow : ofWindow a = false) (hdata : a ≠ Reg.CHIP_IX_DATA) :
    s.accessRead src a = ((s.readBefore a).readAfter a).answer Status.ok [(s.readBefore a).readReg a] := by
  have hport : s.portRead src a = ((s.readBefore a).readAfter a, Status.ok, (s.readBefore a).readReg a) := by
    simp [State.portRead, State.touch_of_noPair hpair, hpage, hdata]
  simp [State.accessRead, hreaches, hwindow, hport]

/-- The same for the registers whose read has an effect of its own, the end of the cycle with it. -/
theorem exec_effectRead {c : Instr} {s : State} {src : Src} {a : Nat} (hexec : exec c s = .next (s.accessRead src a).endCycle)
    (hbetween : ((s.readBefore a).readAfter a).between) (hreaches : s.reaches src = true) (hpair : s.noPair) (hpage : s.pageOff a = false)
    (hwindow : ofWindow a = false) (hdata : a ≠ Reg.CHIP_IX_DATA) :
    exec c s = .next (((s.readBefore a).readAfter a).answer Status.ok [(s.readBefore a).readReg a]) := by
  rw [hexec, State.accessRead_reaching hreaches hpair hpage hwindow hdata, State.endCycle_answer hbetween]

/-- EPOCH_LO answers the frame's epoch and latches its upper bits (R31). -/
theorem exec_epochLoRead {s : State} {src : Src} (hbetween : s.between) (hreaches : s.reaches src = true) (hpair : s.noPair) :
    ∃ t, exec (.epochLoRead src) s = .next t ∧ t.port.data = [s.clk.frameEpoch.truncate 32] ∧ t.port.status = 0 ∧
      t.reg Reg.CHIP_EPOCH_HI = BitVec.ofNat 32 (s.clk.frameEpoch.toNat / 2 ^ 32) ∧ KeepsRegs s t [Reg.CHIP_EPOCH_HI] := by
  have hbits : (s.clk.frameEpoch.extractLsb' 32 16).toNat = s.clk.frameEpoch.toNat / 2 ^ 32 := by
    have h := s.clk.frameEpoch.isLt
    rw [BitVec.extractLsb'_toNat, Nat.shiftRight_eq_div_pow, Nat.mod_eq_of_lt (by omega)]
  have hpage : s.pageOff Reg.CHIP_EPOCH_LO = false := by
    rw [State.pageOff, show pageUnpowered (Reg.pageOf Reg.CHIP_EPOCH_LO) = false by decide, Bool.and_false]
  refine ⟨_, exec_effectRead (a := Reg.CHIP_EPOCH_LO) rfl hbetween hreaches hpair hpage (by decide) (by decide), rfl, rfl, ?_, ?_⟩
  · rw [← hbits]
    exact State.reg_setReg_same _ _ _
  · exact s.keepsRegs_setReg _ _

/-- SCORE_READ answers the best score and starts it anew (R485). -/
theorem exec_scoreRead {s : State} {src : Src} (hbetween : s.between) (hreaches : s.reaches src = true) (hpair : s.noPair)
    (hpage : s.pageOff Reg.SHEET_SCORE_READ = false) :
    ∃ t, exec (.scoreRead src) s = .next t ∧ t.port.data = [BitVec.ofNat 32 s.sheet.best] ∧ t.port.status = 0 ∧
      t = { s with sheet := { s.sheet with best := 0xFFFF }, port := t.port } :=
  ⟨_, exec_effectRead (a := Reg.SHEET_SCORE_READ) rfl hbetween hreaches hpair hpage (by decide) (by decide), rfl, rfl, rfl⟩

/-- FEAT_READ_0 latches the last feature frame of the selected stream and answers its first word (R485, R486). -/
theorem exec_featRead {s : State} {src : Src} (hbetween : s.between) (hreaches : s.reaches src = true) (hpair : s.noPair)
    (hpage : s.pageOff Reg.SHEET_FEAT_READ_0 = false) (hstream : s.fld Reg.SHEET_FEAT_SEL 3 0 < 9) :
    ∃ t, exec (.featRead src) s = .next t ∧ t.port.status = 0 ∧
      t = { s with sheet := { s.sheet with latched := nth s.sheet.feats (s.fld Reg.SHEET_FEAT_SEL 3 0) (0, []) }, port := t.port } ∧
      t.port.data = [featWord (nth s.sheet.feats (s.fld Reg.SHEET_FEAT_SEL 3 0) (0, [])).2 0] := by
  have hlatch : s.latchFeat = { s with sheet := { s.sheet with latched := nth s.sheet.feats (s.fld Reg.SHEET_FEAT_SEL 3 0) (0, []) } } := by
    simp only [State.latchFeat, if_pos hstream]
  have hexec := exec_effectRead (c := .featRead src) (a := Reg.SHEET_FEAT_READ_0) rfl
    (show ((s.readBefore Reg.SHEET_FEAT_READ_0).readAfter Reg.SHEET_FEAT_READ_0).between from hbetween) hreaches hpair hpage (by decide) (by decide)
  have hbefore : s.readBefore Reg.SHEET_FEAT_READ_0 =
      { s with sheet := { s.sheet with latched := nth s.sheet.feats (s.fld Reg.SHEET_FEAT_SEL 3 0) (0, []) } } := hlatch
  rw [hbefore] at hexec
  exact ⟨_, hexec, rfl, rfl, rfl⟩

/-- FRAME_LEN answers its extremes and starts them anew (R660). -/
theorem exec_frameLenRead {s : State} {src : Src} (hbetween : s.between) (hreaches : s.reaches src = true) (hpair : s.noPair)
    (hpage : s.pageOff Reg.LOUPE_FRAME_LEN = false) (hhalted : s.loupe.halted = false) (hblank : s.loupe.lenBlank = false) :
    ∃ t, exec (.frameLenRead src) s = .next t ∧ t.port.data = [s.reg Reg.LOUPE_FRAME_LEN] ∧ t.port.status = 0 ∧
      t.reg Reg.LOUPE_FRAME_LEN = Reg.resetOf Reg.LOUPE_FRAME_LEN ∧ KeepsRegs s t [Reg.LOUPE_FRAME_LEN] := by
  have hread : s.readReg Reg.LOUPE_FRAME_LEN = s.reg Reg.LOUPE_FRAME_LEN := by
    show s.frameLenReg = _
    rw [State.frameLenReg, hhalted, hblank]
    rfl
  refine ⟨_, exec_effectRead (a := Reg.LOUPE_FRAME_LEN) rfl hbetween hreaches hpair hpage (by decide) (by decide), congrArg (fun v => [v]) hread,
    rfl, State.reg_setReg_same _ _ _, s.keepsRegs_setReg _ _⟩

/-- An access off its alignment is a bus error, with its flag and its entry, and no other effect (R262). -/
theorem exec_loupeUnaligned {s : State} {addr width : Nat} (hroom : s.roomFor 1) (hreaches : s.reaches .loupe = true)
    (hwidth : width = 2 ∨ width = 4 ∨ width = 8) (hodd : addr % width ≠ 0) :
    ∃ t, exec (.loupeUnaligned addr width) s = .next t ∧ t.flag Reg.CHIP_REG_STATUS 3 = true ∧
      KeepsRegs s t [Reg.CHIP_REG_STATUS] ∧ t.port.busError = true ∧
      Logged s t [s.entry Log.REG 4 (ofBytes (addr % 256) (addr / 256 % 256) width 0) 0] := by
  let lo := ofBytes (addr % 256) (addr / 256 % 256) width 0
  let u := s.setFlag Reg.CHIP_REG_STATUS 3
  have hoff : (s.reaches .loupe && (width == 2 || width == 4 || width == 8) && addr % width != 0) = true := by
    rw [hreaches, bne_iff_ne.2 hodd]
    rcases hwidth with rfl | rfl | rfl <;> rfl
  have hexec : exec (.loupeUnaligned addr width) s = .next ((u.raise Log.REG 4 lo).busFault).endCycle := by
    show Host.Outcome.next (State.endCycle (if _ then _ else s)) = _
    rw [if_pos hoff]
  have hentry : u.entry Log.REG 4 lo 0 = s.entry Log.REG 4 lo 0 :=
    State.entry_congr _ _ _ _ (by simp [u]) (State.reg_setFlag_other _ _ (by decide))
  have hstaged : (u.raise Log.REG 4 lo).busFault.fixer.staged = s.fixer.staged := by
    simp [u, State.raise, State.raiseAt, State.busFault]
  have hraised : (u.raise Log.REG 4 lo).busFault.fixer.raised = [s.entry Log.REG 4 lo 0] := by
    show (u.raise Log.REG 4 lo).fixer.raised = _
    rw [State.raised_raise_entry, hentry, State.setFlag_fixer, hroom.1.1]
    rfl
  have hkeeps : KeepsRegs s (u.raise Log.REG 4 lo).busFault [Reg.CHIP_REG_STATUS] := fun a ha => s.keepsRegs_setFlag _ 3 a ha
  refine ⟨(u.raise Log.REG 4 lo).busFault.endCycle, hexec, ?_, ?_, ?_, ?_⟩
  · rw [State.endCycle_flag _ _ (by decide) (by decide)]
    exact (show State.flag (State.busFault _) _ _ = u.flag _ _ from rfl).trans (s.flag_setFlag_same _ _ (by decide))
  · exact State.keepsRegs_endCycle hroom hstaged (by rw [hraised]; exact Nat.le_refl 1) hkeeps
  · rw [State.endCycle_port]
    rfl
  · exact State.logged_endCycle_one hroom hstaged hraised

/-- Settles O27: each of the four reads is its register's word between its two effects, and an unaligned access raises its one entry. -/
theorem latchingAndUnalignedAccesses : Obligations.LatchingAndUnalignedAccesses := by
  unfold Obligations.LatchingAndUnalignedAccesses
  exact ⟨fun s src => exec_epochLoRead, fun s src => exec_scoreRead, fun s src => exec_featRead, fun s src => exec_frameLenRead,
    fun s addr width => exec_loupeUnaligned⟩

end Sys2Proof.Machine
end

section
/-! PROOFS. Stage latches, SWS measurements and the servo (R587, R595 to R598, R603, R711); and the statement drawn from them. -/

namespace Sys2Proof.Machine

theorem State.stageCh_modStage (s : State) {n : Nat} (f : StageCh → StageCh) (hn : n < s.stage.ch.length) (j : Nat) :
    (s.modStage n f).stageCh j = if j = n then f (s.stageCh n) else s.stageCh j := by
  by_cases h : j = n
  · subst h
    rw [if_pos rfl]
    exact s.stageCh_modStage_same j f hn
  · rw [if_neg h]
    exact s.stageCh_modStage_other f h

/-! ### Commands that act where they are due -/

section
variable {c : Instr} {s u : State} {due : Bool}

theorem exec_due (hexec : exec c s = .next (if due then u else s).endCycle) (hdue : due = true) : exec c s = .next u.endCycle := by
  rw [hexec, if_pos hdue]

theorem exec_due_calm (hexec : exec c s = .next (if due then u else s).endCycle) (hdue : due = true) (hu : u.between) :
    exec c s = .next u := by
  rw [exec_due hexec hdue, State.endCycle_of_between hu]

theorem exec_notDue (hexec : exec c s = .next (if due then u else s).endCycle) (hdue : due = false) (hs : s.between) : exec c s = .next s := by
  rw [hexec, hdue, if_neg Bool.false_ne_true, State.endCycle_of_between hs]

end

/-! ### The order of the log -/

theorem Log.perm_insert (e : LogEntry) (l : List LogEntry) : (Log.insert e l).Perm (e :: l) := by
  induction l with
  | nil => rfl
  | cons x l ih =>
    unfold Log.insert
    split
    · exact (ih.cons x).trans (.swap e x l)
    · rfl

/-- What is raised is staged, in the order of R691. -/
theorem Log.perm_sort (l : List LogEntry) : (Log.sort l).Perm l := by
  have hfold : ∀ l acc : List LogEntry, (l.foldl (fun acc e => Log.insert e acc) acc).Perm (l ++ acc) := by
    intro l
    induction l with
    | nil => exact fun acc => .refl acc
    | cons e l ih => exact fun acc => (ih _).trans (((Log.perm_insert e acc).append_left l).trans List.perm_middle)
  exact (hfold l []).trans (.of_eq (List.append_nil l))

theorem Log.mem_sort {e : LogEntry} {l : List LogEntry} : e ∈ Log.sort l ↔ e ∈ l := (Log.perm_sort l).mem_iff

/-! ### Latches -/

/-- A stage's FLT latch sets with no clock needed, and no other does (R711). -/
theorem exec_fltLatch {s : State} {n : Nat} (hbetween : s.between) (hruns : s.latchRuns n = true) (hn : n < s.stage.ch.length) :
    ∃ t, exec (.fltLatch n) s = .next t ∧ t = { s with stage := { s.stage with ch := t.stage.ch } } ∧
      ∀ j, j < 8 → t.stageCh j = if j = n then { s.stageCh n with flt := true } else s.stageCh j :=
  ⟨_, exec_due_calm rfl hruns hbetween, rfl, fun j _ => s.stageCh_modStage _ hn j⟩

/-- The IMON latch sets for a departure of at least the limit, and for no smaller one (R590). -/
theorem exec_imonLatch {s : State} {n d : Nat} (hbetween : s.between) (hruns : s.latchRuns n = true) (hn : n < s.stage.ch.length) :
    ∃ t, exec (.imonLatch ⟨n, d⟩) s = .next t ∧ t = { s with stage := { s.stage with ch := t.stage.ch } } ∧
      ∀ j, j < 8 → t.stageCh j = if j = n ∧ 625 * max 1 (s.fld Reg.STAGE_LIMITS 7 0) ≤ d then { s.stageCh n with imon := true }
        else s.stageCh j := by
  by_cases hover : 625 * max 1 (s.fld Reg.STAGE_LIMITS 7 0) ≤ d
  · have hdue : (s.latchRuns n && s.imonOver d) = true := Bool.and_eq_true_iff.2 ⟨hruns, decide_eq_true hover⟩
    refine ⟨_, exec_due_calm rfl hdue hbetween, rfl, fun j _ => ?_⟩
    simp only [hover, and_true]
    exact s.stageCh_modStage _ hn j
  · have hdue : (s.latchRuns n && s.imonOver d) = false := Bool.and_eq_false_iff.2 (Or.inr (decide_eq_false hover))
    exact ⟨s, exec_notDue rfl hdue hbetween, rfl, fun j _ => (if_neg fun h => hover h.2).symm⟩

/-! ### The servo -/

/-- A channel's part of a servo step (R595, R597). -/
def StageCh.servoed (pol : Bool) (e : Int) (k : Nat) (c : StageCh) : StageCh :=
  let code := servoCode pol c.code e k
  let inRun := if e.natAbs ≤ k then c.inRun + 1 else 0
  let outRun := if 2 * k < e.natAbs then c.outRun + 1 else 0
  { c with
    code := code, inRun := inRun, outRun := outRun
    locked := (if 4 ≤ inRun then true else if 4 ≤ outRun then false else c.locked)
    atLimit := if (code == 0 || code == 255) && decide (k < e.natAbs) then true else if code == 0 || code == 255 then c.atLimit else false }

/-- Whether a servo step takes a channel to the end of its codes anew. -/
def StageCh.meetsLimit (pol : Bool) (e : Int) (k : Nat) (c : StageCh) : Bool :=
  ((c.servoed pol e k).code == 0 || (c.servoed pol e k).code == 255) && decide (k < e.natAbs) && !c.atLimit

/-- Whether a servo step takes a channel's lock. -/
def StageCh.losesLock (e : Int) (k : Nat) (c : StageCh) : Bool :=
  decide (4 ≤ if 2 * k < e.natAbs then c.outRun + 1 else 0) && c.locked

/-- What a step of a measurement of channel `n` leaves alone: the other channels and the result in force, every register but STAGE_STATUS, and
what is staged; at most `m` entries are raised. -/
structure State.Measures (s u : State) (n m : Nat) : Prop where
  others : ∀ j, j ≠ n → u.stageCh j = s.stageCh j
  length : u.stage.ch.length = s.stage.ch.length
  result : u.stage.resMode = s.stage.resMode ∧ u.stage.resFreq = s.stage.resFreq
  regs : KeepsRegs s u [Reg.STAGE_STAGE_STATUS]
  clk : u.clk = s.clk
  staged : u.fixer.staged = s.fixer.staged
  raised : u.fixer.raised.length ≤ s.fixer.raised.length + m

theorem State.Measures.modStage (s : State) (n m : Nat) (f : StageCh → StageCh) : s.Measures (s.modStage n f) n m :=
  ⟨fun _ h => s.stageCh_modStage_other f h, List.length_modify _ _ _, ⟨rfl, rfl⟩, KeepsRegs.refl s _, rfl, rfl, Nat.le_add_right _ _⟩

theorem State.Measures.trans {s u w : State} {n m m' : Nat} (h : s.Measures u n m) (h' : u.Measures w n m') : s.Measures w n (m + m') where
  others j hj := (h'.others j hj).trans (h.others j hj)
  length := h'.length.trans h.length
  result := ⟨h'.result.1.trans h.result.1, h'.result.2.trans h.result.2⟩
  regs a ha := (h'.regs a ha).trans (h.regs a ha)
  clk := h'.clk.trans h.clk
  staged := h'.staged.trans h.staged
  raised := by
    have := h.raised
    have := h'.raised
    omega

theorem State.Measures.raise (s : State) (n source code : Nat) (lo : Word) : s.Measures (s.raise source code lo) n 1 :=
  ⟨fun _ _ => rfl, rfl, ⟨rfl, rfl⟩, KeepsRegs.refl s _, rfl, rfl, by rw [State.raised_raise_entry, List.length_append]; rfl⟩

theorem State.Measures.setFlag (s : State) (n i : Nat) : s.Measures (s.setFlag Reg.STAGE_STAGE_STATUS i) n 0 :=
  ⟨fun _ _ => by simp [State.stageCh], by simp, by simp, s.keepsRegs_setFlag _ i, by simp, by simp, by simp⟩

/-- A servo step in its three parts: the channel's own, the entry of a lost lock, and the limit's flag and entry (R595, R597). -/
def State.servoMoved (s : State) (n : Nat) (e : Int) (k : Nat) : State :=
  s.modStage n (StageCh.servoed (s.flag Reg.STAGE_STEER_CTL 1) e k)

def State.lockNoted (s : State) (n : Nat) (lost : Bool) : State := if lost then s.raise Log.STAGE 7 (ofBytes n 0 0 0) else s

def State.limitNoted (s : State) (n code : Nat) (limit : Bool) : State :=
  if limit then (s.setFlag Reg.STAGE_STAGE_STATUS 3).raise Log.STAGE 6 (ofBytes n code 0 0) else s

theorem modNth_congr {α : Type} (l : List α) (n : Nat) {f g : α → α} (d : α) (h : f (nth l n d) = g (nth l n d)) :
    modNth l n f = modNth l n g := by
  by_cases hn : n < l.length
  · have hnth : nth l n d = l[n] := by simp [nth, hn]
    rw [hnth] at h
    simp only [modNth]
    exact List.ext_getElem (by simp) fun i _ hi => by
      rw [List.getElem_modify, List.getElem_modify]
      split
      · next hin => subst hin; exact h
      · rfl
  · simp only [modNth]
    rw [List.modify_eq_self (by omega), List.modify_eq_self (by omega)]

theorem State.modStage_congr (s : State) (n : Nat) {f g : StageCh → StageCh} (h : f (s.stageCh n) = g (s.stageCh n)) :
    s.modStage n f = s.modStage n g := by
  rw [State.modStage, State.modStage, modNth_congr s.stage.ch n {} h]

theorem State.servo_eq (s : State) (n : Nat) (e : Int) (k : Nat) :
    s.servo n e k = ((s.servoMoved n e k).lockNoted n ((s.stageCh n).losesLock e k)).limitNoted n
      (servoCode (s.flag Reg.STAGE_STEER_CTL 1) (s.stageCh n).code e k) ((s.stageCh n).meetsLimit (s.flag Reg.STAGE_STEER_CTL 1) e k) := by
  unfold State.servo
  extract_lets c a code inRun outRun lost limit moved noted
  have hmoved : moved = s.servoMoved n e k := s.modStage_congr n rfl
  unfold noted
  rw [hmoved]
  rfl

theorem State.Measures.refl (s : State) (n m : Nat) : s.Measures s n m :=
  ⟨fun _ _ => rfl, rfl, ⟨rfl, rfl⟩, KeepsRegs.refl s _, rfl, rfl, Nat.le_add_right _ _⟩

theorem State.Measures.lockNoted (s : State) (n : Nat) (lost : Bool) : s.Measures (s.lockNoted n lost) n 1 := by
  unfold State.lockNoted
  split
  · exact .raise s n _ _ _
  · exact .refl s n 1

theorem State.Measures.limitNoted (s : State) (n code : Nat) (limit : Bool) : s.Measures (s.limitNoted n code limit) n 1 := by
  unfold State.limitNoted
  split
  · exact (State.Measures.setFlag s n 3).trans (.raise _ n _ _ _)
  · exact .refl s n 1

/-- What notes a lost lock or a limit leaves every channel. -/
theorem State.stageCh_lockNoted (s : State) (n : Nat) (lost : Bool) (j : Nat) : (s.lockNoted n lost).stageCh j = s.stageCh j := by
  unfold State.lockNoted
  split <;> rfl

theorem State.stageCh_limitNoted (s : State) (n code : Nat) (limit : Bool) (j : Nat) : (s.limitNoted n code limit).stageCh j = s.stageCh j := by
  unfold State.limitNoted
  split
  · simp [State.stageCh]
  · rfl

theorem State.flag_limitNoted (s : State) (n code : Nat) (limit : Bool) :
    (s.limitNoted n code limit).flag Reg.STAGE_STAGE_STATUS 3 = (s.flag Reg.STAGE_STAGE_STATUS 3 || limit) := by
  unfold State.limitNoted
  split
  · next h =>
    rw [h, Bool.or_true]
    exact s.flag_setFlag_same _ 3 (by decide)
  · next h => rw [Bool.eq_false_of_not_eq_true h, Bool.or_false]

theorem State.Measures.servo (s : State) (n : Nat) (e : Int) (k : Nat) : s.Measures (s.servo n e k) n 2 := by
  rw [State.servo_eq]
  exact ((State.Measures.modStage s n 0 _).trans (.lockNoted _ n _)).trans (.limitNoted _ n _ _)

section
variable {s : State} {n : Nat} (e : Int) (k : Nat)

theorem State.stageCh_servo (hn : n < s.stage.ch.length) :
    (s.servo n e k).stageCh n = (s.stageCh n).servoed (s.flag Reg.STAGE_STEER_CTL 1) e k := by
  rw [State.servo_eq, State.stageCh_limitNoted, State.stageCh_lockNoted]
  exact s.stageCh_modStage_same n _ hn

theorem State.flag_servo : (s.servo n e k).flag Reg.STAGE_STAGE_STATUS 3 =
    (s.flag Reg.STAGE_STAGE_STATUS 3 || (s.stageCh n).meetsLimit (s.flag Reg.STAGE_STEER_CTL 1) e k) := by
  rw [State.servo_eq, State.flag_limitNoted]
  congr 1
  unfold State.lockNoted
  split <;> rfl

/-- A lost lock raises its entry (R597). -/
theorem State.raised_servo (hlost : (s.stageCh n).losesLock e k = true) :
    s.entry Log.STAGE 7 (ofBytes n 0 0 0) 0 ∈ (s.servo n e k).fixer.raised := by
  rw [State.servo_eq, hlost]
  have hlock : s.entry Log.STAGE 7 (ofBytes n 0 0 0) 0 ∈ ((s.servoMoved n e k).lockNoted n true).fixer.raised := by
    show _ ∈ ((s.servoMoved n e k).raise Log.STAGE 7 (ofBytes n 0 0 0)).fixer.raised
    rw [State.raised_raise_entry]
    exact List.mem_append_right _ List.mem_cons_self
  unfold State.limitNoted
  split
  · rw [State.raised_raise_entry, State.setFlag_fixer]
    exact List.mem_append_left _ hlock
  · exact hlock

end

/-! ### A measurement -/

/-- A channel with its count taken, before the servo acts on it (R587). -/
def State.counted (s : State) (n k : Nat) : State := s.modStage n fun c => { c with freq := swsFreq k % 65536, valid := true }

/-- What the mode in force makes of a measurement (R595, R603). -/
def State.steered (s : State) (n k : Nat) (c : StageCh) : State :=
  if c.mMode = 2 then s.modStage n fun d =>
    { d with locked := decide (200 * (((c.mFreq * k : Nat) : Int) - (256 * linkKHz : Nat)).natAbs ≤ d.mFreq * k) }
  else if (c.mMode = 1 ∨ c.mMode = 3) ∧ s.released n ∧ !c.loud ∧ !s.clk.fault then
    s.servo n (((c.mFreq * k : Nat) : Int) - (256 * linkKHz : Nat)) k
  else s

theorem State.Measures.steered (s : State) (n k : Nat) (c : StageCh) : s.Measures (s.steered n k c) n 2 := by
  unfold State.steered
  split
  · exact .modStage s n 2 _
  · split
    · exact .servo s n _ k
    · exact .refl s n 2

/-- The end of a measurement: what it says of the carriers, and the next one begun (R587, R595). -/
def State.nextMeasure (s : State) (n k : Nat) : State :=
  (s.modStage n fun d => { d with
    clear := d.mMode == 1 && d.locked && clears (match s.stage.snap with | some q => q.carriers | none => []) steerHarmonics
      ((2 * 256 * linkKHz + k) / (2 * k))
    measuring := true }).beginMeasure n

theorem State.measured_eq (s : State) (n k : Nat) :
    s.measured n k = ((s.counted n k).steered n k (s.stageCh n)).nextMeasure n k := rfl

theorem State.flag_nextMeasure (s : State) (n k a i : Nat) : (s.nextMeasure n k).flag a i = s.flag a i := rfl

theorem State.Measures.nextMeasure (s : State) (n k : Nat) : s.Measures (s.nextMeasure n k) n 0 :=
  (State.Measures.modStage s n 0 _).trans (.modStage _ n 0 _)

theorem State.Measures.measured (s : State) (n k : Nat) : s.Measures (s.measured n k) n 2 := by
  rw [State.measured_eq]
  exact ((State.Measures.modStage s n 0 _).trans (.steered _ n k _)).trans (.nextMeasure _ n k)

/-- What a result does to the fields that the statement names. -/
theorem StageCh.takeResult_fields (mode freq : Nat) (c : StageCh) : (c.takeResult mode freq).code = c.code ∧
    (c.takeResult mode freq).freq = c.freq ∧ (c.takeResult mode freq).valid = c.valid ∧
    (c.clear = false → (c.takeResult mode freq).clear = false) ∧
    (c.takeResult mode freq).locked = (((c.mMode == 2) == (mode == 2)) && c.locked) := by
  unfold StageCh.takeResult
  split
  · next h => exact ⟨rfl, rfl, rfl, id, by rw [h, Bool.true_and]⟩
  · next h => exact ⟨rfl, rfl, rfl, fun _ => rfl, by rw [Bool.eq_false_of_not_eq_true h, Bool.false_and]⟩

/-- The next measurement leaves a channel's code, frequency and validity, and its lock unless the result in force goes into or out of
staggering (R603). -/
theorem State.stageCh_nextMeasure {s : State} {n : Nat} (k : Nat) (hn : n < s.stage.ch.length) :
    ((s.nextMeasure n k).stageCh n).code = (s.stageCh n).code ∧ ((s.nextMeasure n k).stageCh n).freq = (s.stageCh n).freq ∧
    ((s.nextMeasure n k).stageCh n).valid = (s.stageCh n).valid ∧
    ((s.nextMeasure n k).stageCh n).locked = ((((s.stageCh n).mMode == 2) == (s.stage.resMode == 2)) && (s.stageCh n).locked) := by
  unfold State.nextMeasure State.beginMeasure
  rw [State.stageCh_modStage_same _ n _ (by exact (List.length_modify _ _ _).symm ▸ hn), State.stageCh_modStage_same _ n _ hn]
  exact (StageCh.takeResult_fields _ _ _).imp id (.imp id (.imp id And.right))

theorem State.stageCh_counted {s : State} {n : Nat} (k : Nat) (hn : n < s.stage.ch.length) :
    (s.counted n k).stageCh n = { s.stageCh n with freq := swsFreq k % 65536, valid := true } := s.stageCh_modStage_same n _ hn

/-- The mode in force leaves a measurement's frequency and validity, and the mode it was made in. -/
theorem State.stageCh_steered {s : State} {n : Nat} (k : Nat) (c : StageCh) (hn : n < s.stage.ch.length) :
    ((s.steered n k c).stageCh n).freq = (s.stageCh n).freq ∧ ((s.steered n k c).stageCh n).valid = (s.stageCh n).valid ∧
    ((s.steered n k c).stageCh n).mMode = (s.stageCh n).mMode := by
  unfold State.steered
  split
  · rw [State.stageCh_modStage_same s n _ hn]
    exact ⟨rfl, rfl, rfl⟩
  · split
    · rw [State.stageCh_servo _ k hn]
      exact ⟨rfl, rfl, rfl⟩
    · exact ⟨rfl, rfl, rfl⟩

section
variable {s : State} {n k : Nat}

/-- A measurement that the servo does not act on keeps the code (R595). -/
theorem State.code_steered_unmoved {c : StageCh} (hn : n < s.stage.ch.length)
    (h : c.mMode = 0 ∨ c.mMode = 2 ∨ s.released n = false ∨ c.loud = true ∨ s.clk.fault = true) :
    ((s.steered n k c).stageCh n).code = (s.stageCh n).code := by
  unfold State.steered
  split
  · rw [State.stageCh_modStage_same s n _ hn]
  · next htwo =>
    have hstill : ¬ ((c.mMode = 1 ∨ c.mMode = 3) ∧ s.released n ∧ !c.loud ∧ !s.clk.fault) := by
      rintro ⟨hmode, hreleased, hquiet, hclock⟩
      rcases h with h | h | h | h | h
      · omega
      · exact htwo h
      · rw [h] at hreleased
        exact Bool.false_ne_true hreleased
      · rw [h] at hquiet
        exact Bool.false_ne_true hquiet
      · rw [h] at hclock
        exact Bool.false_ne_true hclock
    rw [if_neg hstill]

end

/-- A frequency count of 98,306 link clocks or more fits its register, and is 256 × f_link / k in 1/16 kHz, rounded half up (R587). -/
theorem swsFreq_bounds {k : Nat} (hk : 98306 ≤ k) : 2 * k * (swsFreq k % 65536) ≤ 6442450944 + k ∧
    6442450944 + k < 2 * k * (swsFreq k % 65536 + 1) := by
  have hfreq : swsFreq k = (6442450944 + k) / (2 * k) := if_neg (by omega)
  have hpos : 0 < 2 * k := by omega
  have hfits : (6442450944 + k) / (2 * k) < 65536 := (Nat.div_lt_iff_lt_mul hpos).2 (by omega)
  rw [hfreq, Nat.mod_eq_of_lt hfits]
  exact ⟨Nat.mul_div_le _ _, Nat.lt_mul_div_succ _ hpos⟩

section
variable {s : State} {n k : Nat} (hroom : s.roomFor 2) (hruns : s.stageRuns n = true) (hlen : s.stage.ch.length = 8)

include hruns in
/-- A count that is complete in its 96 ticks is a measurement. -/
theorem exec_swsMeasurement (hpos : 0 < k) (hk : k ≤ 786432) : exec (.swsMeasurement n k) s = .next (s.measured n k).endCycle := by
  have hdue : (s.stageRuns n && k != 0 && decide (k ≤ 96 * 8192)) = true := by
    rw [hruns, bne_iff_ne.2 (by omega), decide_eq_true (by omega)]
    rfl
  exact exec_due rfl hdue

include hruns in
theorem lt_of_stageRuns : n < 8 := by
  obtain ⟨-, hn⟩ := Bool.and_eq_true_iff.1 hruns
  exact of_decide_eq_true hn

include hroom in
/-- A measurement writes STAGE_STATUS alone, and leaves every other channel. -/
theorem State.measured_leaves (k : Nat) : KeepsRegs s (s.measured n k).endCycle [Reg.STAGE_STAGE_STATUS] ∧
    ∀ j, j ≠ n → (s.measured n k).endCycle.stageCh j = s.stageCh j := by
  have hmeasures := State.Measures.measured s n k
  refine ⟨State.keepsRegs_endCycle hroom hmeasures.staged ?_ hmeasures.regs, fun j hj => ?_⟩
  · have := hmeasures.raised
    rw [hroom.1.1] at this
    exact this
  · rw [State.stageCh, State.endCycle_stage]
    exact hmeasures.others j hj

/-- What a measurement gives its channel: the count, and what the mode in force makes of the code and the lock (R587, R595, R603). -/
theorem State.stageCh_measured (k : Nat) (hn : n < s.stage.ch.length) :
    ((s.measured n k).endCycle.stageCh n).freq = swsFreq k % 65536 ∧ ((s.measured n k).endCycle.stageCh n).valid = true ∧
    ((s.measured n k).endCycle.stageCh n).code = (((s.counted n k).steered n k (s.stageCh n)).stageCh n).code ∧
    ((s.measured n k).endCycle.stageCh n).locked = ((((s.stageCh n).mMode == 2) == (s.stage.resMode == 2)) &&
      (((s.counted n k).steered n k (s.stageCh n)).stageCh n).locked) := by
  have hcounted : n < (s.counted n k).stage.ch.length := (State.Measures.modStage s n 0 _).length ▸ hn
  have hsteered := State.Measures.steered (s.counted n k) n k (s.stageCh n)
  obtain ⟨hfreq, hvalid, hmode⟩ := State.stageCh_steered k (s.stageCh n) hcounted
  obtain ⟨hcode', hfreq', hvalid', hlocked'⟩ :=
    State.stageCh_nextMeasure (s := (s.counted n k).steered n k (s.stageCh n)) k (hsteered.length ▸ hcounted)
  rw [State.stageCh_counted k hn] at hfreq hvalid hmode
  rw [hmode, hsteered.result.1] at hlocked'
  rw [State.stageCh, State.endCycle_stage, State.measured_eq]
  exact ⟨hfreq'.trans hfreq, hvalid'.trans hvalid, hcode', hlocked'⟩

end

/-! ### The servo of a measurement -/

/-- The servo acts on a measurement in steering, with the pin released, the outputs quiet and no clock fault (R595). -/
def State.servoes (s : State) (n : Nat) : Prop :=
  ((s.stageCh n).mMode = 1 ∨ (s.stageCh n).mMode = 3) ∧ s.released n = true ∧ (s.stageCh n).loud = false ∧ s.clk.fault = false

theorem State.steered_of_servoes {s : State} {n k : Nat} {e : Int} (h : s.servoes n) (he : e = (s.stageCh n).mFreq * k - 201326592) :
    (s.counted n k).steered n k (s.stageCh n) = (s.counted n k).servo n e k := by
  obtain ⟨hmode, hreleased, hquiet, hclock⟩ := h
  have hdoes : ((s.stageCh n).mMode = 1 ∨ (s.stageCh n).mMode = 3) ∧ (s.counted n k).released n ∧
      !(s.stageCh n).loud ∧ !(s.counted n k).clk.fault := by
    refine ⟨hmode, hreleased, ?_, ?_⟩
    · rw [hquiet]
      rfl
    · show (!s.clk.fault) = true
      rw [hclock]
      rfl
  have herr : ((((s.stageCh n).mFreq * k : Nat) : Int) - (256 * linkKHz : Nat)) = e := by
    rw [he, Nat.cast_mul]
    rfl
  have hmode2 : ¬ (s.stageCh n).mMode = 2 := by omega
  unfold State.steered
  rw [if_neg hmode2, if_pos hdoes, herr]

theorem servoCode_eq (pol : Bool) (code k step : Nat) (e : Int) (hstep : step = max 1 (min 8 (e.natAbs / (2 * k)))) :
    servoCode pol code e k = if 2 * e.natAbs ≤ k then code else if (0 < e ↔ pol = false) then min 255 (code + step) else code - step := by
  have hway : (decide (0 < e) == !pol) = true ↔ (0 < e ↔ pol = false) := by
    cases pol <;> simp
  subst hstep
  unfold servoCode
  by_cases hnear : 2 * e.natAbs ≤ k
  · rw [if_pos hnear, if_neg (by omega)]
  · rw [if_neg hnear, if_pos (by omega)]
    exact if_congr hway rfl rfl

theorem four_le_run {p : Prop} [Decidable p] (run : Nat) : (4 ≤ if p then run + 1 else 0) ↔ p ∧ 3 ≤ run := by
  split
  · next h => exact ⟨fun hrun => ⟨h, by omega⟩, fun hrun => by omega⟩
  · next h => exact ⟨fun hrun => absurd hrun (by omega), fun hrun => absurd hrun.1 h⟩

section
variable {s : State} {n k : Nat} {e : Int} (hroom : s.roomFor 2) (hlen : n < s.stage.ch.length) (hservo : s.servoes n)
  (he : e = (s.stageCh n).mFreq * k - 201326592)

include hlen hservo he in
/-- The code and the lock of a channel on which the servo acts (R595, R597). -/
theorem State.stageCh_measured_servoes :
    ((s.measured n k).endCycle.stageCh n).code = servoCode (s.flag Reg.STAGE_STEER_CTL 1) (s.stageCh n).code e k ∧
    ((s.measured n k).endCycle.stageCh n).locked = (if s.stage.resMode = 2 then false else if e.natAbs ≤ k ∧ 3 ≤ (s.stageCh n).inRun then true
      else if 2 * k < e.natAbs ∧ 3 ≤ (s.stageCh n).outRun then false else (s.stageCh n).locked) := by
  obtain ⟨-, -, hcode, hlocked⟩ := State.stageCh_measured k hlen
  have hcounted : n < (s.counted n k).stage.ch.length := (State.Measures.modStage s n 0 _).length ▸ hlen
  have hmode : ((s.stageCh n).mMode == 2) = false := by
    obtain ⟨hmode, -⟩ := hservo
    exact beq_eq_false_iff_ne.2 (by omega)
  rw [State.steered_of_servoes hservo he, State.stageCh_servo e k hcounted, State.stageCh_counted k hlen] at hcode hlocked
  refine ⟨hcode, hlocked.trans ?_⟩
  rw [hmode]
  simp only [StageCh.servoed, four_le_run]
  by_cases hresult : s.stage.resMode = 2
  · rw [if_pos hresult, beq_iff_eq.2 hresult]
    rfl
  · rw [if_neg hresult, beq_eq_false_iff_ne.2 hresult]
    rfl

include hservo he hlen in
theorem State.flag_measured_servoes : (s.measured n k).endCycle.flag Reg.STAGE_STAGE_STATUS 3 =
    (s.flag Reg.STAGE_STAGE_STATUS 3 || (s.stageCh n).meetsLimit (s.flag Reg.STAGE_STEER_CTL 1) e k) := by
  rw [State.endCycle_flag _ 3 (by decide) (by decide), State.measured_eq, State.steered_of_servoes hservo he, State.flag_nextMeasure,
    State.flag_servo, State.stageCh_counted k hlen]
  rfl

include hroom hservo he hlen in
/-- A channel that loses its lock stages its entry (R597). -/
theorem State.staged_measured_servoes (hlost : (s.stageCh n).losesLock e k = true) :
    s.entry Log.STAGE 7 (ofBytes n 0 0 0) 0 ∈ (s.measured n k).endCycle.fixer.staged := by
  have hmeasures := State.Measures.measured s n k
  have hraised : (s.measured n k).fixer.raised.length ≤ 2 := by
    have := hmeasures.raised
    rw [hroom.1.1] at this
    exact this
  have hlost' : ((s.counted n k).stageCh n).losesLock e k = true := by
    rw [State.stageCh_counted k hlen]
    exact hlost
  have hmem : s.entry Log.STAGE 7 (ofBytes n 0 0 0) 0 ∈ (s.measured n k).fixer.raised := by
    rw [State.measured_eq, State.steered_of_servoes hservo he]
    exact State.raised_servo (s := s.counted n k) e k hlost'
  rw [State.logged_endCycle hroom hmeasures.staged rfl hraised]
  exact List.mem_append_right _ (Log.mem_sort.2 hmem)

end

/-! ### A measurement that was not completed -/

theorem State.stageCh_haltMeasure {s : State} {n : Nat} (hn : n < s.stage.ch.length) :
    ((s.haltMeasure n).stageCh n).freq = (s.stageCh n).freq ∧ ((s.haltMeasure n).stageCh n).valid = (s.stageCh n).valid ∧
    ((s.stageCh n).clear = false → ((s.haltMeasure n).stageCh n).clear = false) ∧ ((s.haltMeasure n).stageCh n).code = (s.stageCh n).code := by
  unfold State.haltMeasure State.beginMeasure
  rw [State.stageCh_modStage_same _ n _ (by exact (List.length_modify _ _ _).symm ▸ hn), State.stageCh_modStage_same _ n _ hn]
  obtain ⟨hcode, hfreq, hvalid, hclear, -⟩ :=
    StageCh.takeResult_fields s.stage.resMode s.stage.resFreq { s.stageCh n with measuring := false }
  exact ⟨hfreq, hvalid, hclear, hcode⟩

/-- A measurement that is not complete in its 96 ticks reports 0, not valid (R587). -/
theorem exec_swsMeasureTimeout {s : State} {n : Nat} (hbetween : s.between) (hruns : s.stageRuns n = true) (hn : n < s.stage.ch.length) :
    ∃ t, exec (.swsMeasureTimeout n) s = .next t ∧ t = { s with stage := { s.stage with ch := t.stage.ch } } ∧
      (t.stageCh n).freq = 0 ∧ (t.stageCh n).valid = false ∧ (t.stageCh n).clear = false ∧ (t.stageCh n).code = (s.stageCh n).code ∧
      ∀ j, j < 8 → j ≠ n → t.stageCh j = s.stageCh j := by
  have hothers : ∀ j, j ≠ n → (s.notMeasured n).stageCh j = s.stageCh j :=
    (((State.Measures.modStage s n 0 _).trans (.modStage _ n 0 _)).trans (.modStage _ n 0 _)).others
  refine ⟨s.notMeasured n, exec_due_calm rfl hruns hbetween, rfl, ?_⟩
  obtain ⟨hfreq, hvalid, hclear, hcode⟩ := State.stageCh_haltMeasure (s := s.modStage n fun c =>
    { c with freq := 0, valid := false, clear := false, locked := if c.mMode = 2 then false else c.locked })
    ((List.length_modify _ _ _).symm ▸ hn)
  rw [State.stageCh_modStage_same s n _ hn] at hfreq hvalid hclear hcode
  exact ⟨hfreq, hvalid, hclear rfl, hcode, fun j _ => hothers j⟩

/-! ### The statement -/

theorem State.latchRuns_of {s : State} {n : Nat} (hpower : s.clk.power = .up) (hdone : s.ident.done = true) (hup : s.blockUp 4 = true)
    (hn : n < 8) : s.latchRuns n = true := by
  rw [State.latchRuns, hpower, hdone, hup, decide_eq_true hn]
  rfl

/-- A count of 0, or one that the 96 ticks do not hold, is no measurement. -/
theorem exec_swsMeasurement_outside {s : State} {n k : Nat} (hbetween : s.between) (hk : k = 0 ∨ 786432 < k) :
    exec (.swsMeasurement n k) s = .next s := by
  have hdue : (s.stageRuns n && k != 0 && decide (k ≤ 96 * 8192)) = false := by
    rcases hk with hk | hk
    · rw [hk, bne_self_eq_false, Bool.and_false, Bool.false_and]
    · rw [decide_eq_false (by omega), Bool.and_false]
  exact exec_notDue rfl hdue hbetween

section
variable {s : State} {n k : Nat} (hroom : s.roomFor 2) (hruns : s.stageRuns n = true) (hlen : s.stage.ch.length = 8)

include hroom hruns hlen in
theorem exec_swsMeasurement_reports (hlow : 98306 ≤ k) (hk : k ≤ 786432) :
    ∃ t, exec (.swsMeasurement n k) s = .next t ∧ (t.stageCh n).valid = true ∧
      2 * k * (t.stageCh n).freq ≤ 6442450944 + k ∧ 6442450944 + k < 2 * k * ((t.stageCh n).freq + 1) ∧
      (∀ j, j < 8 → j ≠ n → t.stageCh j = s.stageCh j) ∧ KeepsRegs s t [Reg.STAGE_STAGE_STATUS] ∧
      ((s.stageCh n).mMode = 0 ∨ (s.stageCh n).mMode = 2 ∨ s.released n = false ∨ (s.stageCh n).loud = true ∨ s.clk.fault = true →
        (t.stageCh n).code = (s.stageCh n).code) ∧
      ((s.stageCh n).mMode = 2 → (t.stageCh n).locked = (decide (s.stage.resMode = 2) &&
        decide (200 * ((s.stageCh n).mFreq * k - 201326592 : Int).natAbs ≤ (s.stageCh n).mFreq * k))) := by
  have hn : n < s.stage.ch.length := hlen.symm ▸ lt_of_stageRuns hruns
  have hcounted : n < (s.counted n k).stage.ch.length := (State.Measures.modStage s n 0 _).length ▸ hn
  obtain ⟨hregs, hothers⟩ := State.measured_leaves hroom k
  obtain ⟨hfreq, hvalid, hcode, hlocked⟩ := State.stageCh_measured k hn
  obtain ⟨hlo, hhi⟩ := swsFreq_bounds hlow
  rw [← hfreq] at hlo hhi
  refine ⟨_, exec_swsMeasurement hruns (by omega) hk, hvalid, hlo, hhi, fun j _ => hothers j, hregs, fun hstill => ?_, fun hmode => ?_⟩
  · rw [hcode, State.code_steered_unmoved hcounted hstill, State.stageCh_counted k hn]
  · rw [hlocked, State.steered, if_pos hmode, State.stageCh_modStage_same _ n _ hcounted, State.stageCh_counted k hn, hmode]
    simp only [Nat.cast_mul]
    congr 1
    by_cases hresult : s.stage.resMode = 2
    · rw [hresult]
      rfl
    · rw [decide_eq_false hresult, beq_eq_false_iff_ne.2 hresult]
      rfl

include hroom hruns hlen in
theorem exec_swsMeasurement_servoes {step : Nat} {e : Int} (hpos : 0 < k) (hk : k ≤ 786432) (hservo : s.servoes n)
    (he : e = (s.stageCh n).mFreq * k - 201326592) (hstep : step = max 1 (min 8 (e.natAbs / (2 * k)))) :
    ∃ t, exec (.swsMeasurement n k) s = .next t ∧
      (t.stageCh n).code = (if 2 * e.natAbs ≤ k then (s.stageCh n).code
        else if (0 < e ↔ s.flag Reg.STAGE_STEER_CTL 1 = false) then min 255 ((s.stageCh n).code + step) else (s.stageCh n).code - step) ∧
      (t.stageCh n).locked = (if s.stage.resMode = 2 then false else if e.natAbs ≤ k ∧ 3 ≤ (s.stageCh n).inRun then true
        else if 2 * k < e.natAbs ∧ 3 ≤ (s.stageCh n).outRun then false else (s.stageCh n).locked) ∧
      (t.flag Reg.STAGE_STAGE_STATUS 3 = (s.flag Reg.STAGE_STAGE_STATUS 3 || (!(s.stageCh n).atLimit && decide (k < e.natAbs) &&
        ((t.stageCh n).code == 0 || (t.stageCh n).code == 255)))) ∧
      (2 * k < e.natAbs → 3 ≤ (s.stageCh n).outRun → (s.stageCh n).locked = true →
        ∃ l, l ∈ t.fixer.staged ∧ l = s.entry Log.STAGE 7 (ofBytes n 0 0 0) 0) := by
  have hn : n < s.stage.ch.length := hlen.symm ▸ lt_of_stageRuns hruns
  obtain ⟨hcode, hlocked⟩ := State.stageCh_measured_servoes hn hservo he
  refine ⟨_, exec_swsMeasurement hruns hpos hk, hcode.trans (servoCode_eq _ _ k step e hstep), hlocked, ?_, fun hfar hrun hheld => ?_⟩
  · rw [State.flag_measured_servoes hn hservo he, hcode, StageCh.meetsLimit, Bool.and_comm _ (!_), Bool.and_comm (_ || _), Bool.and_assoc]
    rfl
  · have hlost : (s.stageCh n).losesLock e k = true :=
      Bool.and_eq_true_iff.2 ⟨decide_eq_true ((four_le_run _).2 ⟨hfar, hrun⟩), hheld⟩
    exact ⟨_, State.staged_measured_servoes hroom hn hservo he hlost, rfl⟩

end

/-- Settles O52: a latch and a measurement reach their own channel alone, and the servo is its code, its lock and its limit in one step. -/
theorem latchesMeasureAndSteer : Obligations.LatchesMeasureAndSteer := by
  unfold Obligations.LatchesMeasureAndSteer
  refine ⟨fun s n d hbetween hpower hdone hup hn hlen => ?_, fun s n k hbetween hk => exec_swsMeasurement_outside hbetween hk,
    fun s n k hroom hruns hlen hlow hk => exec_swsMeasurement_reports hroom hruns hlen hlow hk,
    fun s n k step e hroom hruns hlen hpos hk hmode hreleased hquiet hclock _ he hstep =>
      exec_swsMeasurement_servoes hroom hruns hlen hpos hk ⟨hmode, hreleased, hquiet, hclock⟩ he hstep,
    fun s n hbetween hruns hlen => exec_swsMeasureTimeout hbetween hruns (hlen.symm ▸ lt_of_stageRuns hruns)⟩
  have hruns := State.latchRuns_of hpower hdone hup hn
  exact ⟨exec_fltLatch hbetween hruns (hlen.symm ▸ hn), exec_imonLatch hbetween hruns (hlen.symm ▸ hn)⟩

end Sys2Proof.Machine
end

section
/-! PROOFS. The fog test (R642 to R648), and the statement drawn from it. -/

namespace Sys2Proof.Machine

/-! ### What an occurrence of the Fixer's instances raises -/

/-- An occurrence raises at most one entry of its own, of source FIXER (R683). -/
theorem State.fixerCount_raises (s : State) (i : Nat) : (s.fixerCount i).1.fixer.raised = s.fixer.raised ∨
    ∃ e, e.source = Log.FIXER ∧ (s.fixerCount i).1.fixer.raised = s.fixer.raised ++ [e] := by
  unfold State.fixerCount State.fixerCountAt
  extract_lets hist w win n beyond marked fixer struck noted source
  have hstruck : struck.fixer.raised = s.fixer.raised := by
    unfold struck
    split <;> rfl
  have hnoted : noted.fixer.raised = s.fixer.raised := (by simp [noted] : noted.fixer = struck.fixer) ▸ hstruck
  split
  · split
    · exact .inl hnoted
    · exact .inr ⟨_, rfl, congrArg (· ++ _) hnoted⟩
  · exact .inl hstruck

/-- Whether an occurrence at the present epoch finds its window full (R681, R682). -/
def State.beyondWindow (s : State) (i : Nat) : Bool :=
  s.fixerW i != 0 && decide (s.fixerN i < (Fixer.inWindow (s.clk.epoch :: s.pastEpochs i) s.clk.epoch (s.fixerW i)).length)

/-- What an occurrence makes of a history. -/
def State.occurred (s : State) (i : Nat) (h : History) : History :=
  { epochs := (s.clk.epoch :: (if s.beyondWindow i then s.pastEpochs i else (s.history i).epochs)).take 15
    lasting := h.lasting || s.beyondWindow i, occur := min 0xFFFF (h.occur + 1) }

theorem State.fixerCount_hist (s : State) (i : Nat) : (s.fixerCount i).1.fixer.hist = modNth s.fixer.hist i (s.occurred i) := by
  have hmark : (s.modHistory i (fun h =>
      { epochs := (s.clk.epoch :: (if s.beyondWindow i then s.pastEpochs i else h.epochs)).take 15
        lasting := h.lasting || s.beyondWindow i, occur := min 0xFFFF (h.occur + 1) })).fixer.hist = modNth s.fixer.hist i (s.occurred i) :=
    modNth_congr s.fixer.hist i {} rfl
  unfold State.fixerCount State.fixerCountAt
  extract_lets hist w win n beyond marked fixer struck noted source
  have hstruck : struck.fixer.hist = modNth s.fixer.hist i (s.occurred i) := by
    unfold struck
    split <;> exact hmark
  have hnoted : noted.fixer.hist = modNth s.fixer.hist i (s.occurred i) := (by simp [noted] : noted.fixer = struck.fixer) ▸ hstruck
  split
  · split <;> exact hnoted
  · exact hstruck

/-- An occurrence takes the histories further by the epoch and the window's register alone (R681, R682). -/
theorem State.fixerCount_hist_congr {s u : State} {i : Nat} (hepoch : u.clk.epoch = s.clk.epoch) (hhist : u.fixer.hist = s.fixer.hist)
    (hfreed : u.fixer.freed = s.fixer.freed)
    (hreg : u.reg (Reg.FIXER_WIN_CFG_0 + 4 * Fixer.sourceOf i) = s.reg (Reg.FIXER_WIN_CFG_0 + 4 * Fixer.sourceOf i)) :
    (u.fixerCount i).1.fixer.hist = (s.fixerCount i).1.fixer.hist := by
  have hown : u.history i = s.history i := by simp only [State.history, hhist]
  have hpast : u.pastEpochs i = s.pastEpochs i := by simp only [State.pastEpochs, hown, hfreed]
  have hw : u.fixerW i = s.fixerW i := by simp only [State.fixerW, State.fld, hreg]
  have hn : u.fixerN i = s.fixerN i := by simp only [State.fixerN, State.fld, hreg]
  have hbeyond : u.beyondWindow i = s.beyondWindow i := by simp only [State.beyondWindow, hw, hn, hepoch, hpast]
  rw [State.fixerCount_hist, State.fixerCount_hist, hhist]
  congr 1
  funext h
  simp only [State.occurred, hown, hpast, hbeyond, hepoch]

/-! ### What the end of a cycle stages -/

theorem State.mem_staged_stageEntry {s : State} {e : LogEntry} (x : LogEntry) (h : e ∈ s.fixer.staged) : e ∈ (s.stageEntry x).fixer.staged := by
  unfold State.stageEntry
  split
  · exact List.mem_append_left _ h
  · dsimp only
    split
    · exact h
    · refine List.mem_append_left _ ?_
      rw [State.setFlag_fixer]
      exact h

/-- The first entry of a cycle is staged where the queue takes one, whatever the others come to (R691, R693). -/
theorem State.mem_staged_endCycle {s : State} {e : LogEntry} {es : List LogEntry} (hsort : Log.sort s.fixer.raised = e :: es)
    (hroom : s.fixer.staged.length < 63) : e ∈ s.endCycle.fixer.staged := by
  unfold State.endCycle
  simp only [hsort, List.foldl_cons]
  refine foldl_inv (f := State.stageEntry) (I := fun u : State => e ∈ u.fixer.staged) (fun u x h => State.mem_staged_stageEntry x h) _ _ ?_
  simp only [State.stageEntry, if_pos hroom]
  exact List.mem_append_right _ List.mem_cons_self

/-- The end of a cycle stages; it takes no history further. -/
theorem State.endCycle_hist (s : State) : s.endCycle.fixer.hist = s.fixer.hist := by
  unfold State.endCycle
  refine foldl_inv (f := State.stageEntry) (I := fun u : State => u.fixer.hist = s.fixer.hist) (fun u x h => ?_) _ _ rfl
  unfold State.stageEntry
  split
  · exact h
  · dsimp only
    split
    · exact h
    · simpa using h

/-! ### The parts of a step -/

/-- The bank with the fog test's step in another phase, begun at another cycle. -/
def State.fogAt (s : State) (phase : FogPhase) (stepAt : Option Nat) : State := { s with bank := { s.bank with phase, stepAt } }

section
variable {s : State} (herrs : s.bank.errs = [])

include herrs in
theorem State.eccRead_of_noErrs (word group rank : Nat) : s.eccRead word group rank = (s, false) := by
  have hgood : s.eccOf word group = none := by
    rw [State.eccOf, herrs]
    rfl
  rw [State.eccRead, hgood]

include herrs in
/-- The save of a region without errors reads it alone. -/
theorem State.fogSave_clean : s.fogSave false = (s, false) := by
  simp only [State.fogSave, Bool.false_eq_true, if_false, List.foldl_cons, List.foldl_nil, State.eccRead_of_noErrs herrs, Bool.or_false]

include herrs in
theorem State.fogBorrow_clean {i : FogIn} (hsave : i.saveUe = false) :
    s.fogBorrow i = s.fogAt (if i.streamDue then .idle else .march) s.bank.stepAt := by
  rw [State.fogBorrow, hsave, State.fogSave_clean herrs]
  rfl

include herrs in
theorem State.fogRestore_clean : s.fogRestore = s.fogAt .idle s.bank.stepAt := by
  rw [State.fogRestore, herrs]
  cases s
  simp_all [State.fogAt]

end

/-! ### A step, phase by phase -/

theorem State.fogMarched_bank (s : State) (failBit : Option Nat) :
    (s.fogMarched failBit).bank = { s.bank with phase := .restore } := by
  cases failBit with
  | none => rfl
  | some b =>
    have hconf := State.conf_fixerReport 42 (conf_refl ((((s.fogAt .restore s.bank.stepAt).setReg Reg.TANK_FOG_FAIL_ADDR
      (pack [(22, 10, b), (0, 17, s.bank.region)])).setFlag Reg.TANK_TANK_STATUS 2).raise Log.TANK 3
      (ofBytes (s.bank.region % 256) (s.bank.region / 256 % 256) (s.bank.region / 65536) (b % 256)) (ofBytes (b / 256) 0 0 0))
      [.sset, .bumped, .caused, .fixer] fun _ => True) (List.Subset.refl _) fun _ _ => trivial
    refine (hconf.1.1 .bank (by decide)).trans ?_
    simp [State.raise, State.raiseAt, State.fogAt]

section
variable {s : State} {i : FogIn}

theorem State.fogStep_idle (hphase : s.bank.phase = .idle) (hdue : s.fogDue i.cycle = true) :
    s.fogStep i = (s.fogAt .save (some (s.fogClock i.cycle))).fogStep i := by
  simp [State.fogStep, State.fogBegin, State.fogAt, hphase, hdue]

theorem State.fogStep_save_held (hphase : s.bank.phase = .save) (hreach : fogReach i < 2) : s.fogStep i = s := by
  have hreach' : ¬ 2 ≤ fogReach i := by omega
  simp [State.fogStep, hphase, hreach']

theorem State.fogStep_save (hphase : s.bank.phase = .save) (hreach : 2 ≤ fogReach i) (herrs : s.bank.errs = []) (hsave : i.saveUe = false)
    (hstream : i.streamDue = false) : s.fogStep i = (s.fogAt .march s.bank.stepAt).fogStep i := by
  simp [State.fogStep, State.fogBorrow_clean herrs hsave, hphase, hreach, hstream, State.fogAt]

theorem State.fogStep_save_stream (hphase : s.bank.phase = .save) (hreach : 2 ≤ fogReach i) (herrs : s.bank.errs = []) (hsave : i.saveUe = false)
    (hstream : i.streamDue = true) : s.fogStep i = s.fogAt .idle s.bank.stepAt := by
  simp [State.fogStep, State.fogBorrow_clean herrs hsave, hphase, hreach, hstream, State.fogAt]

theorem State.fogStep_march_held (hphase : s.bank.phase = .march) (hreach : fogReach i < 3) : s.fogStep i = s := by
  have hreach' : ¬ 3 ≤ fogReach i := by omega
  simp [State.fogStep, hphase, hreach']

theorem State.fogStep_march (hphase : s.bank.phase = .march) (hreach : 3 ≤ fogReach i) :
    s.fogStep i = if 4 ≤ fogReach i then (s.fogMarched i.failBit).fogRestore.fogNext else s.fogMarched i.failBit := by
  simp [State.fogStep, hphase, hreach, State.fogMarched_bank]

theorem State.fogStep_restore (hphase : s.bank.phase = .restore) (hreach : 4 ≤ fogReach i) : s.fogStep i = s.fogRestore.fogNext := by
  simp [State.fogStep, hphase, hreach]

end

/-- A step that is taken through its phases, from where it stands before its march is over (R642, R643). -/
theorem State.fogStep_through {s : State} {i : FogIn} (hreach : fogReach i = 4) (herrs : s.bank.errs = []) (hsave : i.saveUe = false)
    (hstream : i.streamDue = false) (hnot : s.bank.phase ≠ .restore) (hgoes : s.bank.phase ≠ .idle ∨ s.fogDue i.cycle = true) :
    ∃ stepAt, s.fogStep i = ((s.fogAt .march stepAt).fogMarched i.failBit).fogRestore.fogNext := by
  have hmarch : ∀ u : State, u.bank.phase = .march → u.fogStep i = (u.fogMarched i.failBit).fogRestore.fogNext := fun u hphase => by
    rw [State.fogStep_march hphase (by omega), if_pos (by omega)]
  have hsaved : ∀ u : State, u.bank.phase = .save → u.bank.errs = [] →
      u.fogStep i = ((u.fogAt .march u.bank.stepAt).fogMarched i.failBit).fogRestore.fogNext := fun u hphase herrs => by
    rw [State.fogStep_save hphase (by omega) herrs hsave hstream, hmarch _ rfl]
  cases hphase : s.bank.phase with
  | idle =>
    have hdue : s.fogDue i.cycle = true := hgoes.resolve_left fun h => h hphase
    rw [State.fogStep_idle hphase hdue]
    exact ⟨_, hsaved (s.fogAt .save _) rfl herrs⟩
  | save => exact ⟨_, hsaved s hphase herrs⟩
  | march =>
    have hsame : s = s.fogAt .march s.bank.stepAt := by
      rw [← hphase]
      rfl
    exact ⟨_, (congrArg (·.fogStep i) hsame).trans (hmarch _ rfl)⟩
  | restore => exact absurd hphase hnot

/-- A step whose march finds nothing, from where it stands. -/
theorem State.fogStep_finds_nothing {s : State} {i : FogIn} (hreach : fogReach i = 4) (herrs : s.bank.errs = []) (hsave : i.saveUe = false)
    (hstream : i.streamDue = false) (hfail : i.failBit = none) (hgoes : s.bank.phase ≠ .idle ∨ s.fogDue i.cycle = true) :
    ∃ stepAt, s.fogStep i = (s.fogAt .idle stepAt).fogNext := by
  by_cases hphase : s.bank.phase = .restore
  · exact ⟨_, by rw [State.fogStep_restore hphase (by omega), State.fogRestore_clean herrs]⟩
  · obtain ⟨stepAt, hstep⟩ := State.fogStep_through hreach herrs hsave hstream hphase hgoes
    rw [hfail] at hstep
    exact ⟨stepAt, by rw [hstep, State.fogRestore_clean (by exact herrs)]; rfl⟩

/-! ### The next region -/

section
variable (s : State)

/-- The region after the present one, the last of a pass before the first (R647). -/
def Fog.after (region : Nat) : Nat := if region = Fog.last then Fog.first else region + 1

/-- The bank on its way to the next region. -/
def State.fogOn : State := { s with bank := { s.bank with aborts := 0, phase := .idle, region := Fog.after s.bank.region } }

theorem State.fogNext_eq : s.fogNext =
    if Fog.after s.bank.region = Fog.first then (s.fogOn.countWrap Reg.TANK_FOG_PASSES).setFlag Reg.TANK_TANK_STATUS 3 else s.fogOn := rfl

theorem State.fogNext_parts : s.fogNext.bank = s.fogOn.bank ∧ s.fogNext.mem = s.mem ∧ s.fogNext.fixer = s.fixer := by
  rw [State.fogNext_eq]
  split
  · exact ⟨by rw [State.setFlag_bank, State.countWrap_bank], by rw [State.setFlag_mem, State.countWrap_mem]; rfl,
      by rw [State.setFlag_fixer, State.countWrap_fixer]; rfl⟩
  · exact ⟨rfl, rfl, rfl⟩

theorem State.fogNext_regs : KeepsRegs s s.fogNext [Reg.TANK_FOG_PASSES, Reg.TANK_TANK_STATUS] := by
  intro a ha
  simp only [List.mem_cons, List.not_mem_nil, or_false, not_or] at ha
  obtain ⟨hpasses, hstatus⟩ := ha
  rw [State.fogNext_eq]
  split
  · rw [State.reg_setFlag_other _ _ hstatus, State.reg_countWrap_other _ hpasses]
    rfl
  · rfl

theorem State.fogNext_regs_midway (h : Fog.after s.bank.region ≠ Fog.first) : KeepsRegs s s.fogNext [] := by
  rw [State.fogNext_eq, if_neg h]
  exact KeepsRegs.refl s _

theorem State.fogNext_pass (h : Fog.after s.bank.region = Fog.first) :
    s.fogNext.reg Reg.TANK_FOG_PASSES = s.reg Reg.TANK_FOG_PASSES + 1 ∧ s.fogNext.flag Reg.TANK_TANK_STATUS 3 = true := by
  rw [State.fogNext_eq, if_pos h]
  refine ⟨?_, State.flag_setFlag_same _ _ _ (by decide)⟩
  rw [State.reg_setFlag_other _ _ (by decide), State.reg_countWrap_same]
  rfl

/-- Going on to the next region keeps every flag that stands. -/
theorem State.fogNext_flag {a i : Nat} (ha : a ≠ Reg.TANK_FOG_PASSES) (hi : i < 16) (h : s.flag a i = true) : s.fogNext.flag a i = true := by
  rw [State.fogNext_eq]
  split
  · refine State.flag_setFlags_mono _ _ _ _ _ hi ?_
    rw [State.flag, State.reg_countWrap_other _ ha]
    exact h
  · exact h

end

/-! ### The commands -/

section
variable {s : State}

/-- A step ends without a mismatch: the next region is due (R642, R647). -/
theorem exec_fogStep_finds_nothing {k : Nat} (hbetween : s.between) (hruns : s.fogRuns = true) (herrs : s.bank.errs = [])
    (hgoes : s.bank.phase ≠ .idle ∨ s.fogDue k = true) :
    ∃ t, exec (.fogStep { cycle := k }) s = .next t ∧ t.mem = s.mem ∧ t.bank.phase = .idle ∧ t.bank.aborts = 0 ∧
      t.bank.region = Fog.after s.bank.region ∧
      (t.bank.region = 0x400 → t.reg Reg.TANK_FOG_PASSES = s.reg Reg.TANK_FOG_PASSES + 1 ∧ t.flag Reg.TANK_TANK_STATUS 3 = true ∧
        KeepsRegs s t [Reg.TANK_FOG_PASSES, Reg.TANK_TANK_STATUS]) ∧
      (t.bank.region ≠ 0x400 → KeepsRegs s t []) := by
  obtain ⟨stepAt, hstep⟩ := State.fogStep_finds_nothing (i := { cycle := k }) rfl herrs rfl rfl rfl hgoes
  obtain ⟨hbank, hmem, hfixer⟩ := State.fogNext_parts (s.fogAt .idle stepAt)
  have hcalm : (s.fogAt .idle stepAt).fogNext.fixer.raised = [] := (congrArg Fixer.raised hfixer).trans hbetween.1
  have hmove : s.fogMove { cycle := k } = (s.fogAt .idle stepAt).fogNext := by
    rw [State.fogMove, hruns, Bool.true_or, if_pos rfl, hstep]
  refine ⟨_, congrArg (fun u : State => Host.Outcome.next u.endCycle) hmove, ?_⟩
  rw [State.endCycle_mem, State.endCycle_bank, hbank, hmem]
  refine ⟨rfl, rfl, rfl, rfl, fun hfirst => ?_, fun hmidway => ?_⟩
  · obtain ⟨hpasses, hflag⟩ := State.fogNext_pass (s.fogAt .idle stepAt) hfirst
    refine ⟨?_, ?_, State.keepsRegs_endCycle_calm hcalm (State.fogNext_regs _)⟩
    · rw [State.endCycle_reg_of_calm hcalm]
      exact hpasses
    · rw [State.flag, State.endCycle_reg_of_calm hcalm]
      exact hflag
  · exact State.keepsRegs_endCycle_calm hcalm (State.fogNext_regs_midway _ hmidway)

theorem exec_fogStep_not (hbetween : s.between) (i : FogIn) (hruns : s.fogRuns = false) (hidle : s.acting = false ∨ s.bank.phase = .idle) :
    exec (.fogStep i) s = .next s := by
  have hstays : (s.fogRuns || (s.acting && s.bank.phase != .idle)) = false := by
    rcases hidle with h | h <;> rw [hruns, h]
    · rfl
    · exact Bool.and_false _
  exact exec_notDue (u := s.fogStep i) rfl hstays hbetween

section
variable {i : FogIn} (hbetween : s.between) (hruns : s.fogRuns = true) (hphase : s.bank.phase = .idle)

include hruns in
theorem exec_fogStep_of {u : State} (hu : u.between) (hstep : s.fogStep i = u) : exec (.fogStep i) s = .next u := by
  have hgoes : (s.fogRuns || (s.acting && s.bank.phase != .idle)) = true := by rw [hruns, Bool.true_or]
  refine (exec_due (u := s.fogStep i) rfl hgoes).trans ?_
  rw [hstep, State.endCycle_of_between hu]

include hbetween hruns hphase in
/-- No step begins sooner than its pace lets it (R642, R652). -/
theorem exec_fogStep_early {b : Nat} (hat : s.bank.stepAt = some b)
    (hearly : 4096 * s.clk.ticks + i.cycle < b + 1024 * max 1 (s.fld Reg.TANK_TANK_CFG 7 4)) : exec (.fogStep i) s = .next s := by
  have hdue : s.fogDue i.cycle = false := by
    rw [State.fogDue, hat]
    exact decide_eq_false (Nat.not_le_of_lt hearly)
  refine exec_fogStep_of hruns hbetween ?_
  simp [State.fogStep, State.fogBegin, hphase, hdue]

variable (hdue : s.fogDue i.cycle = true) (hfail : i.failBit = none) (herrs : s.bank.errs = []) (hsave : i.saveUe = false)

include hbetween hruns hphase hdue hfail in
/-- A step that stands in its save (R642). -/
theorem exec_fogStep_save (hto : i.upTo = .save) :
    exec (.fogStep i) s = .next (s.fogAt .save (some (4096 * s.clk.ticks + i.cycle))) := by
  have hreach : fogReach i < 2 := by simp [fogReach, hfail, hto]
  refine exec_fogStep_of hruns (by exact hbetween) ?_
  rw [State.fogStep_idle hphase hdue, State.fogStep_save_held rfl hreach]
  rfl

include hbetween hruns hphase hdue hfail herrs hsave in
/-- A step that has borrowed its region stands in the march or in the restore (R643). -/
theorem exec_fogStep_borrowed (hto : i.upTo = .march ∨ i.upTo = .restore) (hstream : i.streamDue = false) :
    exec (.fogStep i) s = .next (s.fogAt i.upTo (some (4096 * s.clk.ticks + i.cycle))) := by
  have hreach : 2 ≤ fogReach i := by rcases hto with h | h <;> simp [fogReach, hfail, h]
  refine exec_fogStep_of hruns (by exact hbetween) ?_
  rw [State.fogStep_idle hphase hdue, State.fogStep_save rfl hreach (by exact herrs) hsave hstream]
  rcases hto with hto | hto
  · have hmarch : fogReach i < 3 := by simp [fogReach, hfail, hto]
    rw [State.fogStep_march_held rfl hmarch, hto]
    rfl
  · have hrestore : fogReach i = 3 := by simp [fogReach, hfail, hto]
    rw [State.fogStep_march rfl (by omega), if_neg (by omega), hfail, hto]
    rfl

include hbetween hruns hphase hdue hfail herrs hsave in
/-- A step that would meet the stream port ends before it borrows its region (R644; log 115). -/
theorem exec_fogStep_stream (hto : i.upTo ≠ .save) (hstream : i.streamDue = true) :
    exec (.fogStep i) s = .next { s with bank := { s.bank with stepAt := some (4096 * s.clk.ticks + i.cycle) } } := by
  have hreach : 2 ≤ fogReach i := by
    unfold fogReach
    rw [hfail]
    cases h : i.upTo with
    | save => exact absurd h hto
    | idle | march | restore => decide
  refine exec_fogStep_of hruns (by exact hbetween) ?_
  rw [State.fogStep_idle hphase hdue, State.fogStep_save_stream rfl hreach (by exact herrs) hsave hstream, ← hphase]
  rfl

end

/-! ### A mismatch -/

/-- What a mismatch at bit `b` writes (R648). -/
def State.fogFailed (s : State) (b : Nat) : State :=
  ((s.fogAt .restore s.bank.stepAt).setReg Reg.TANK_FOG_FAIL_ADDR (pack [(22, 10, b), (0, 17, s.bank.region)])).setFlag Reg.TANK_TANK_STATUS 2

/-- The entry of a mismatch (R648). -/
def State.fogFailEntry (s : State) (b : Nat) : LogEntry :=
  s.entry Log.TANK 3 (ofBytes (s.bank.region % 256) (s.bank.region / 256 % 256) (s.bank.region / 65536) (b % 256)) (ofBytes (b / 256) 0 0 0)

/-- A mismatch with its entry raised. -/
def State.fogNoted (s : State) (b : Nat) : State :=
  (s.fogFailed b).raise Log.TANK 3 (ofBytes (s.bank.region % 256) (s.bank.region / 256 % 256) (s.bank.region / 65536) (b % 256))
    (ofBytes (b / 256) 0 0 0)

theorem State.fogMarched_some (s : State) (b : Nat) : s.fogMarched (some b) = ((s.fogNoted b).fixerCount 42).1 := rfl

theorem State.fogFailed_regs (s : State) (b : Nat) : KeepsRegs s (s.fogFailed b) [Reg.TANK_FOG_FAIL_ADDR, Reg.TANK_TANK_STATUS] ∧
    (s.fogFailed b).reg Reg.TANK_FOG_FAIL_ADDR = pack [(22, 10, b), (0, 17, s.bank.region)] ∧
    (s.fogFailed b).flag Reg.TANK_TANK_STATUS 2 = true := by
  refine ⟨fun a ha => ?_, ?_, State.flag_setFlag_same _ _ _ (by decide)⟩
  · simp only [List.mem_cons, List.not_mem_nil, or_false, not_or] at ha
    obtain ⟨haddr, hstatus⟩ := ha
    rw [State.fogFailed, State.reg_setFlag_other _ _ hstatus, State.reg_setReg_other _ _ haddr]
    rfl
  · rw [State.fogFailed, State.reg_setFlag_other _ _ (by decide), State.reg_setReg_same]

/-- A mismatch raises its entry before what its occurrence raises (R648, R683). -/
theorem State.fogMarched_raised {s : State} (hraised : s.fixer.raised = []) (b : Nat) :
    ∃ es, Log.sort (s.fogMarched (some b)).fixer.raised = s.fogFailEntry b :: es := by
  have hnoted : (s.fogNoted b).fixer.raised = [s.fogFailEntry b] := by
    have hentry : (s.fogFailed b).entry Log.TANK 3
        (ofBytes (s.bank.region % 256) (s.bank.region / 256 % 256) (s.bank.region / 65536) (b % 256)) (ofBytes (b / 256) 0 0 0) =
        s.fogFailEntry b := by
      refine State.entry_congr _ _ _ _ ?_ ((s.fogFailed_regs b).1 _ (by decide))
      rw [State.fogFailed, State.setFlag_clk]
      rfl
    rw [State.fogNoted, State.raised_raise_entry, hentry, State.fogFailed, State.setFlag_fixer]
    exact congrArg (· ++ _) hraised
  rw [State.fogMarched_some]
  rcases State.fixerCount_raises (s.fogNoted b) 42 with h | ⟨e, hsource, h⟩
  · exact ⟨[], by rw [h, hnoted]; rfl⟩
  · have hbefore : ((s.fogFailEntry b).source < e.source ||
      ((s.fogFailEntry b).source == e.source && decide ((s.fogFailEntry b).code ≤ e.code))) = true := by
      rw [hsource]
      rfl
    refine ⟨[e], ?_⟩
    rw [h, hnoted]
    exact if_pos hbefore

theorem State.fogMarched_some_parts (s : State) (b : Nat) :
    (s.fogMarched (some b)).mem = s.mem ∧ (s.fogMarched (some b)).fixer.staged = s.fixer.staged ∧
    (s.fogMarched (some b)).reg Reg.TANK_FOG_FAIL_ADDR = pack [(22, 10, b), (0, 17, s.bank.region)] ∧
    (s.fogMarched (some b)).flag Reg.TANK_TANK_STATUS 2 = true ∧
    (s.fogMarched (some b)).fixer.hist = (s.fixerReport 42).fixer.hist := by
  obtain ⟨hregs, haddr, hflag⟩ := s.fogFailed_regs b
  have hfixer : (s.fogFailed b).fixer = s.fixer := by
    rw [State.fogFailed, State.setFlag_fixer]
    rfl
  have hstaged : (s.fogFailed b).fixer.staged = s.fixer.staged := congrArg Fixer.staged hfixer
  have hhist : (s.fogFailed b).fixer.hist = s.fixer.hist := congrArg Fixer.hist hfixer
  have hfreed : (s.fogFailed b).fixer.freed = s.fixer.freed := congrArg Fixer.freed hfixer
  have hconf := State.conf_fixerCount 42 (conf_refl (s.fogNoted b) [.sset, .bumped, .caused, .fixer]
    (· ∈ [Reg.FIXER_FIXER_STATUS, Reg.FIXER_LASTING_COUNT])) (List.Subset.refl _) fun _ hb => hb
  rw [State.fogMarched_some]
  refine ⟨(hconf.1.1 .mem (by decide)).trans ?_, (State.fixerCount_staged _ _).trans hstaged, ?_, ?_, ?_⟩
  · show (s.fogFailed b).mem = s.mem
    rw [State.fogFailed, State.setFlag_mem]
    rfl
  · rw [State.fixerCount_reg _ _ (by decide)]
    exact haddr
  · rw [State.flag, State.fixerCount_reg _ _ (by decide)]
    exact hflag
  · refine State.fixerCount_hist_congr ?_ hhist hfreed (hregs _ (by decide))
    show (s.fogFailed b).clk.epoch = s.clk.epoch
    rw [State.fogFailed, State.setFlag_clk]
    rfl

/-- A step that finds a failing bit records it (R648). -/
theorem exec_fogStep_fails {b k : Nat} (hroom : s.roomFor 1) (hruns : s.fogRuns = true) (herrs : s.bank.errs = [])
    (hnot : s.bank.phase ≠ .restore) (hgoes : s.bank.phase ≠ .idle ∨ s.fogDue k = true) :
    ∃ t, exec (.fogStep { cycle := k, failBit := some b }) s = .next t ∧ t.mem = s.mem ∧ t.bank.phase = .idle ∧
      t.reg Reg.TANK_FOG_FAIL_ADDR = pack [(22, 10, b), (0, 17, s.bank.region)] ∧ t.flag Reg.TANK_TANK_STATUS 2 = true ∧
      t.fixer.hist = (s.fixerReport 42).fixer.hist ∧ s.fogFailEntry b ∈ t.fixer.staged := by
  obtain ⟨hbetween, hstaged⟩ := hroom
  obtain ⟨stepAt, hstep⟩ := State.fogStep_through (i := { cycle := k, failBit := some b }) rfl herrs rfl rfl hnot hgoes
  have hmove : s.fogMove { cycle := k, failBit := some b } = (((s.fogAt .march stepAt).fogMarched (some b)).fogAt .idle stepAt).fogNext := by
    have herrs' : ((s.fogAt .march stepAt).fogMarched (some b)).bank.errs = [] := by
      rw [State.fogMarched_bank]
      exact herrs
    rw [State.fogMove, hruns, Bool.true_or, if_pos rfl, hstep, State.fogRestore_clean herrs', State.fogMarched_bank]
    rfl
  obtain ⟨hbank, hmem, hfixer⟩ := State.fogNext_parts (((s.fogAt .march stepAt).fogMarched (some b)).fogAt .idle stepAt)
  obtain ⟨hmem', hstaged', haddr, hflag, hhist⟩ := (s.fogAt .march stepAt).fogMarched_some_parts b
  obtain ⟨es, hraised⟩ := State.fogMarched_raised (s := s.fogAt .march stepAt) hbetween.1 b
  refine ⟨_, congrArg (fun u : State => Host.Outcome.next u.endCycle) hmove, ?_⟩
  rw [State.endCycle_mem, State.endCycle_bank, State.endCycle_reg _ (by decide) (by decide), State.endCycle_flag _ 2 (by decide) (by decide),
    State.endCycle_hist, hbank, hmem, hfixer]
  refine ⟨hmem', rfl, (State.fogNext_regs _ _ (by decide)).trans haddr, State.fogNext_flag _ (by decide) (by decide) hflag,
    hhist.trans (State.fixerCount_hist_congr rfl rfl rfl rfl), ?_⟩
  refine State.mem_staged_endCycle ((congrArg (fun f : Fixer => Log.sort f.raised) hfixer).trans hraised) ?_
  rw [hfixer]
  exact hstaged' ▸ hstaged

end

/-! ### An abort -/

/-- A step ends with its region restored and counted (R645). -/
def State.fogCounted (s : State) : State := { s.fogRestore with bank := { s.fogRestore.bank with aborts := s.bank.aborts + 1 } }

theorem State.fogAbort_early {s : State} (h : s.bank.aborts < 7) : s.fogAbort = s.fogCounted := if_neg (by
  show ¬ 8 ≤ s.bank.aborts + 1
  omega)

/-- The eighth abort in a row gives the region up for this pass (R647). -/
theorem State.fogAbort_last {s : State} (h : 7 ≤ s.bank.aborts) : s.fogAbort = s.fogRestore.fogSkip 0 := if_pos (by
  show 8 ≤ s.bank.aborts + 1
  omega)

/-- The state in which a skipped region is counted and its entry raised. -/
def State.fogSkipped (s : State) (why : Nat) : State :=
  (s.countSat Reg.TANK_FOG_SKIPS).raise Log.TANK 4 (ofBytes (s.bank.region % 256) (s.bank.region / 256 % 256) (s.bank.region / 65536) why)

theorem State.fogSkip_eq (s : State) (why : Nat) : s.fogSkip why = (s.fogSkipped why).fogNext := rfl

section
variable {s : State}

/-- An abort that is not the eighth writes no register. -/
theorem State.fogAbort_endCycle_early (hbetween : s.between) (h : s.bank.aborts < 7) :
    s.fogAbort.endCycle.mem = s.mem ∧ s.fogAbort.endCycle.bank.phase = .idle ∧
    s.fogAbort.endCycle.bank.aborts = s.bank.aborts + 1 ∧ s.fogAbort.endCycle.bank.region = s.bank.region ∧
    KeepsRegs s s.fogAbort.endCycle [] := by
  have hcounted : s.fogCounted.between := hbetween
  rw [State.fogAbort_early h, State.endCycle_of_between hcounted]
  exact ⟨rfl, rfl, rfl, rfl, KeepsRegs.refl s _⟩

/-- The eighth abort skips the region, counts it and logs it. -/
theorem State.fogAbort_endCycle_last (hroom : s.roomFor 1) (h : 7 ≤ s.bank.aborts) :
    s.fogAbort.endCycle.mem = s.mem ∧ s.fogAbort.endCycle.bank.phase = .idle ∧ s.fogAbort.endCycle.bank.aborts = 0 ∧
    s.fogAbort.endCycle.bank.region = Fog.after s.bank.region ∧
    s.fogAbort.endCycle.reg Reg.TANK_FOG_SKIPS = satInc (s.reg Reg.TANK_FOG_SKIPS) ∧
    Logged s s.fogAbort.endCycle
      [s.entry Log.TANK 4 (ofBytes (s.bank.region % 256) (s.bank.region / 256 % 256) (s.bank.region / 65536) 0) 0] := by
  obtain ⟨hbank, hmem, hfixer⟩ := State.fogNext_parts (s.fogRestore.fogSkipped 0)
  have hraised : (s.fogRestore.fogSkipped 0).fixer.raised =
      [s.entry Log.TANK 4 (ofBytes (s.bank.region % 256) (s.bank.region / 256 % 256) (s.bank.region / 65536) 0) 0] := by
    rw [State.fogSkipped, State.raised_raise_entry]
    refine (congrArg (· ++ _) hroom.1.1).trans (congrArg (fun e => [e]) ?_)
    exact State.entry_congr _ _ _ _ rfl (State.reg_countSat_other _ (by decide))
  rw [State.fogAbort_last h, State.fogSkip_eq, State.endCycle_mem, State.endCycle_bank, State.endCycle_reg _ (by decide) (by decide), hbank, hmem,
    State.fogNext_regs _ _ (by decide)]
  refine ⟨rfl, rfl, rfl, rfl, State.reg_countSat_same _ _, State.logged_endCycle_one hroom ?_ ?_⟩
  · rw [hfixer]
    rfl
  · rw [hfixer, hraised]

/-- Both ways of a step to abort. -/
theorem exec_fogAborts {c : Instr} (hc : c = .fogAbort ∧ s.bank.borrowed = true ∨ c = .fogStepDeadline ∧ s.bank.phase ≠ .idle)
    (hacting : s.acting = true) : exec c s = .next s.fogAbort.endCycle := by
  rcases hc with ⟨rfl, hborrowed⟩ | ⟨rfl, hphase⟩
  · exact exec_due rfl (Bool.and_eq_true_iff.2 ⟨hacting, hborrowed⟩)
  · exact exec_due rfl (Bool.and_eq_true_iff.2 ⟨hacting, bne_iff_ne.2 hphase⟩)

theorem exec_fogAborts_not (hbetween : s.between) : (s.bank.borrowed = false → exec .fogAbort s = .next s) ∧
    (s.bank.phase = .idle → exec .fogStepDeadline s = .next s) := by
  refine ⟨fun h => exec_notDue (u := s.fogAbort) rfl ?_ hbetween, fun h => exec_notDue (u := s.fogAbort) rfl ?_ hbetween⟩
  · rw [h, Bool.and_false]
  · rw [h]
    exact Bool.and_false _

end

/-! ### The statement -/

/-- Settles O57: a step that is due goes through its phases, and an abort leaves it at once, each with the writes of its own. -/
theorem fogTestMarchesAndYields : Obligations.FogTestMarchesAndYields := by
  unfold Obligations.FogTestMarchesAndYields
  refine ⟨fun s i hbetween hruns hidle => exec_fogStep_not hbetween i hruns hidle,
    fun s k hbetween hruns herrs hgoes => exec_fogStep_finds_nothing hbetween hruns herrs hgoes,
    fun s i hbetween hruns hphase => ⟨fun b hat hearly => exec_fogStep_early hbetween hruns hphase hat hearly,
      fun hdue hfail hsave herrs => ⟨fun hto => exec_fogStep_save hbetween hruns hphase hdue hfail hto,
        fun hto hstream => exec_fogStep_borrowed hbetween hruns hphase hdue hfail herrs hsave hto hstream,
        fun hto hstream => exec_fogStep_stream hbetween hruns hphase hdue hfail herrs hsave hto hstream⟩⟩,
    fun s b k hroom hruns herrs _ _ hnot hgoes => exec_fogStep_fails hroom hruns herrs hnot hgoes,
    fun s hbetween => exec_fogAborts_not hbetween, fun c s r hc hroom hacting hr => ?_⟩
  refine ⟨_, exec_fogAborts hc hacting, ?_⟩
  subst hr
  by_cases hlast : 7 ≤ s.bank.aborts
  · obtain ⟨hmem, hphase, haborts, hregion, hskips, hlogged⟩ := State.fogAbort_endCycle_last hroom hlast
    exact ⟨hmem, hphase, fun h => absurd h (by omega), fun _ => ⟨haborts, hregion, hskips, hlogged⟩⟩
  · obtain ⟨hmem, hphase, haborts, hregion, hkeeps⟩ := State.fogAbort_endCycle_early hroom.1 (by omega)
    exact ⟨hmem, hphase, fun _ => ⟨haborts, hregion, hkeeps⟩, fun h => absurd h hlast⟩

end Sys2Proof.Machine
end

section
/-! PROOFS. Beams that fade to their tables, a scale applied, the waits after a change of format, and the switch of a plan (R45, R369 to R381,
R411 to R414); and the statement drawn from them. -/

namespace Sys2Proof.Machine

/-! ### Beams -/

theorem State.beam_modBeam (s : State) {b : Nat} (f : Beam → Beam) (hb : b < s.aper.beams.length) (j : Nat) :
    (s.modBeam b f).beam j = if j = b then f (s.beam b) else s.beam j := by
  by_cases h : j = b
  · subst h
    rw [if_pos rfl]
    exact nth_modNth_same _ _ _ _ hb
  · rw [if_neg h]
    exact nth_modNth_other _ _ _ h

section
variable {s : State}

theorem State.atHq_of (hacting : s.acting = true) (hday : s.clk.daylight = true) (heven : s.clk.epoch.toNat % 2 = 0) : s.atHq = true := by
  rw [State.atHq, hacting, hday, heven]
  rfl

/-- A pending table that a frame sample has followed begins its cross-fade (R372). -/
theorem exec_beamXfadeStart {b : Nat} {x : Table} (hbetween : s.between) (hhq : s.atHq = true) (hup : s.blockUp 1 = true)
    (hb : b < s.aper.beams.length) (hpend : (s.beam b).pend = some x) (hready : (s.beam b).ready = true) (hfade : (s.beam b).fade = none)
    (hwait : s.aper.wait = none) :
    ∃ t, exec (.beamXfadeStart b) s = .next t ∧ t = { s with aper := { s.aper with beams := t.aper.beams } } ∧
      ∀ j, j < 8 → t.beam j = if j = b
        then { s.beam b with pend := none, ready := false, fade := some ⟨x, s.aper.scale, 0, true⟩ } else s.beam j := by
  have hdue : (s.atHq && s.blockUp 1 && s.mayFade b) = true := by
    rw [State.mayFade, hhq, hup, hready, hpend, hfade, hwait]
    rfl
  refine ⟨_, exec_due_calm (u := s.startFade b) rfl hdue hbetween, rfl, fun j _ => ?_⟩
  rw [State.startFade, State.beam_modBeam s _ hb, hpend]

theorem exec_beamXfadeStart_not {b : Nat} (hbetween : s.between) (hbusy : (s.beam b).fade.isSome = true ∨ s.aper.wait.isSome = true) :
    exec (.beamXfadeStart b) s = .next s := by
  have hdue : (s.atHq && s.blockUp 1 && s.mayFade b) = false := by
    have hmay : s.mayFade b = false := by
      unfold State.mayFade
      rcases hbusy with h | h
      · obtain ⟨f, hf⟩ := Option.isSome_iff_exists.1 h
        simp [hf]
      · obtain ⟨v, hv⟩ := Option.isSome_iff_exists.1 h
        simp [hv]
    rw [hmay, Bool.and_false]
  exact exec_notDue (u := s.startFade b) rfl hdue hbetween

/-! ### The end of a fade -/

/-- A beam that has reached its table, with its flag (R372). -/
def State.fadeEnded (s : State) (b : Nat) (f : Fade) : State :=
  (s.modBeam b fun x => { x with active := f.new, fade := none }).setFlag Reg.APER_APER_STATUS 0

theorem State.beamFaded_eq {b : Nat} {f : Fade} (hfade : (s.beam b).fade = some f) : s.beamFaded b =
    if s.acting && decide (64 ≤ f.n) then if f.commit then (s.fadeEnded b f).countWrap Reg.APER_COMMIT_COUNT else s.fadeEnded b f else s := by
  simp only [State.beamFaded, State.endFade, hfade]
  rfl

theorem State.fadeEnded_aper (s : State) (b : Nat) (f : Fade) :
    (s.fadeEnded b f).aper = (s.modBeam b fun x => { x with active := f.new, fade := none }).aper := State.setFlag_aper _ _ _

theorem State.fadeEnded_reg (s : State) (b : Nat) (f : Fade) : KeepsRegs s (s.fadeEnded b f) [Reg.APER_APER_STATUS] :=
  (s.modBeam b _).keepsRegs_setFlag _ 0

/-- The 64th output of a cross-fade makes its table the active one (R372). -/
theorem exec_xfadeDone {b : Nat} {f : Fade} (hbetween : s.between) (hacting : s.acting = true) (hb : b < s.aper.beams.length)
    (hfade : (s.beam b).fade = some f) (hn : 64 ≤ f.n) :
    ∃ t, exec (.xfadeDone b) s = .next t ∧ t.aper = { s.aper with beams := t.aper.beams } ∧
      t.flag Reg.APER_APER_STATUS 0 = true ∧ KeepsRegs s t [Reg.APER_APER_STATUS, Reg.APER_COMMIT_COUNT] ∧
      t.reg Reg.APER_COMMIT_COUNT = s.reg Reg.APER_COMMIT_COUNT + (if f.commit then 1#32 else 0#32) ∧
      ∀ j, j < 8 → t.beam j = if j = b then { s.beam b with active := f.new, fade := none } else s.beam j := by
  have hdue : (s.acting && decide (64 ≤ f.n)) = true := by rw [hacting, decide_eq_true hn, Bool.and_self]
  have hstep := State.beamFaded_eq hfade
  rw [if_pos hdue] at hstep
  have hfixer : (s.beamFaded b).fixer = s.fixer := by
    rw [hstep, State.fadeEnded]
    split <;> simp
  have haper : (s.beamFaded b).aper = (s.modBeam b fun x => { x with active := f.new, fade := none }).aper := by
    rw [hstep, ← s.fadeEnded_aper b f]
    split <;> rfl
  have hcalm : (s.beamFaded b).fixer.raised = [] := (congrArg Fixer.raised hfixer).trans hbetween.1
  have hbeams : ∀ j, (s.beamFaded b).endCycle.beam j = if j = b then { s.beam b with active := f.new, fade := none } else s.beam j := fun j => by
    rw [State.beam, State.endCycle_aper, haper]
    exact s.beam_modBeam _ hb j
  refine ⟨_, rfl, ?_, ?_, State.keepsRegs_endCycle_calm hcalm fun a ha => ?_, ?_, fun j _ => hbeams j⟩
  · rw [State.endCycle_aper, haper]
    rfl
  · rw [State.flag, State.endCycle_reg_of_calm hcalm, hstep]
    split
    · rw [State.reg_countWrap_other _ (by decide)]
      exact State.flag_setFlag_same _ _ _ (by decide)
    · exact State.flag_setFlag_same _ _ _ (by decide)
  · simp only [List.mem_cons, List.not_mem_nil, or_false, not_or] at ha
    obtain ⟨hstatus, hcount⟩ := ha
    have hkeeps : (s.fadeEnded b f).reg a = s.reg a := s.fadeEnded_reg b f a (by simpa using hstatus)
    rw [hstep]
    split
    · rw [State.reg_countWrap_other _ hcount, hkeeps]
    · exact hkeeps
  · have hkeeps : (s.fadeEnded b f).reg Reg.APER_COMMIT_COUNT = s.reg Reg.APER_COMMIT_COUNT := s.fadeEnded_reg b f _ (by decide)
    rw [State.endCycle_reg_of_calm hcalm, hstep]
    split
    · rw [State.reg_countWrap_same, hkeeps]
      rfl
    · rw [hkeeps, BitVec.add_zero]

theorem exec_xfadeDone_early {b : Nat} {f : Fade} (hbetween : s.between) (hfade : (s.beam b).fade = some f) (hn : f.n < 64) :
    exec (.xfadeDone b) s = .next s := by
  have hstep := State.beamFaded_eq hfade
  rw [decide_eq_false (by omega), Bool.and_false, if_neg Bool.false_ne_true] at hstep
  show Host.Outcome.next (s.beamFaded b).endCycle = _
  rw [hstep, State.endCycle_of_between hbetween]

end

/-! ### A scale -/

/-- What the application of a scale does to a beam (R376). -/
def Beam.rescaled (old : Nat) (x : Beam) : Beam :=
  if x.active.en then
    { x with pend := none, ready := false
             fade := some ⟨match x.pend with | some t => t | none => { x.active with clamped := false }, old, 0, x.pend.isSome⟩ }
  else { x with active := { x.active with clamped := if x.active.en then x.active.clamped else false } }

theorem State.applyScale_eq (s : State) (v : Nat) :
    s.applyScale v = { s with aper := { s.aper with scale := v, wait := none, beams := s.aper.beams.map (Beam.rescaled s.aper.scale) } } := rfl

/-- A sounding beam fades to the scale, with its pending table where it has one; another takes it as it is. -/
theorem Beam.rescaled_fields (old : Nat) {x : Beam} (hfade : x.fade = none) : if x.active.en = true
    then (x.rescaled old).pend = none ∧ (x.rescaled old).fade.map (fun f => (f.oldScale, f.n, f.commit)) = some (old, 0, x.pend.isSome) ∧
      (x.rescaled old).fade.map (fun f => (f.new.taps, f.new.cfg)) = some ((x.pend.getD x.active).taps, (x.pend.getD x.active).cfg)
    else (x.rescaled old).fade = none ∧ (x.rescaled old).pend = x.pend := by
  unfold Beam.rescaled
  split
  · cases x.pend <;> exact ⟨rfl, rfl, rfl⟩
  · exact ⟨hfade, rfl⟩

theorem exec_scaleApply {s : State} {v : Nat} (hbetween : s.between) (hhq : s.atHq = true) (hup : s.blockUp 1 = true)
    (hwait : s.aper.wait = some v) (hlen : s.aper.beams.length = 8) (hfade : ∀ x ∈ s.aper.beams, x.fade = none) :
    ∃ t, exec .scaleApply s = .next t ∧ t = { s with aper := t.aper } ∧ t.aper.scale = v ∧ t.aper.wait = none ∧
      t.aper.sampled = s.aper.sampled ∧
      ∀ b, b < 8 → (if (s.beam b).active.en = true
        then (t.beam b).pend = none ∧
          (t.beam b).fade.map (fun f => (f.oldScale, f.n, f.commit)) = some (s.aper.scale, 0, (s.beam b).pend.isSome) ∧
          (t.beam b).fade.map (fun f => (f.new.taps, f.new.cfg)) =
            some (((s.beam b).pend.getD (s.beam b).active).taps, ((s.beam b).pend.getD (s.beam b).active).cfg)
        else (t.beam b).fade = none ∧ (t.beam b).pend = (s.beam b).pend) := by
  have hnone : s.noFade = true := List.all_eq_true.2 fun x hx => by rw [hfade x hx]; rfl
  have hstep : s.scaleStep = s.applyScale v := by
    rw [State.scaleStep, hwait]
    exact if_pos (by rw [hhq, hup, hnone]; rfl)
  refine ⟨s.applyScale v, ?_, rfl, rfl, rfl, rfl, fun b hb => ?_⟩
  · show Host.Outcome.next s.scaleStep.endCycle = _
    rw [hstep, State.endCycle_of_between (by exact hbetween)]
  · have hlt : b < s.aper.beams.length := by omega
    have hbeam : (s.applyScale v).beam b = (s.beam b).rescaled s.aper.scale := by
      simp [State.applyScale_eq, State.beam, nth, hlt]
    rw [hbeam]
    refine Beam.rescaled_fields _ (hfade _ ?_)
    simp [State.beam, nth, hlt]

/-! ### The waits -/

/-- The settle interval has ended (R45). -/
def State.settledAt (s : State) (t : Nat) : State := { s with clk := { s.clk with settle := none, settled := some t } }

/-- A window of the sum that is open closes; another stands as it is (R46). -/
theorem State.closeWindow_closes (s : State) : ∃ w, s.closeWindow = { s with mx := { s.mx with window := w } } ∧
    (w.map fun x => x.2.isSome).getD true = true := by
  unfold State.closeWindow
  split
  · exact ⟨_, rfl, rfl⟩
  · next hnot =>
    refine ⟨s.mx.window, rfl, ?_⟩
    match hw : s.mx.window with
    | none => rfl
    | some (f, some e) => rfl
    | some (f, none) => exact absurd hw (hnot f)

section
variable {s : State} {t0 : Nat} (hbetween : s.between) (hrunning : s.running = true)

include hbetween in
theorem exec_settleEnd_early (hsettle : s.clk.settle = some t0) (hearly : s.clk.ticks < t0 + 256) : exec .settleEnd s = .next s := by
  have hstep : s.settleEnd = s := by
    rw [State.settleEnd, hsettle]
    exact if_neg (by simp [State.elapsed, hearly])
  show Host.Outcome.next s.settleEnd.endCycle = _
  rw [hstep, State.endCycle_of_between hbetween]

include hbetween hrunning in
/-- The settle interval ends, and with it the window of the sum where no clock fault stands (R45, R46). -/
theorem exec_settleEnd (hsettle : s.clk.settle = some t0) (hdue : t0 + 256 ≤ s.clk.ticks) :
    ∃ t, exec .settleEnd s = .next t ∧ t.clk = { s.clk with settle := none, settled := some (t0 + 256) } ∧
      t = { s with clk := t.clk, mx := { s.mx with window := t.mx.window } } ∧
      (s.clk.fault = false → (t.mx.window.map (fun w => w.2.isSome)).getD true = true) := by
  have hgo : (s.running && s.elapsed t0 256) = true := by rw [hrunning, State.elapsed, decide_eq_true hdue, Bool.and_self]
  have hstep : s.settleEnd = if s.clk.fault then s.settledAt (t0 + 256) else (s.settledAt (t0 + 256)).closeWindow := by
    rw [State.settleEnd, hsettle]
    exact if_pos hgo
  by_cases hfault : s.clk.fault = true
  · rw [if_pos hfault] at hstep
    refine ⟨s.settledAt (t0 + 256), ?_, rfl, rfl, fun h => absurd h (by simp [hfault])⟩
    show Host.Outcome.next s.settleEnd.endCycle = _
    rw [hstep, State.endCycle_of_between (by exact hbetween)]
  · obtain ⟨w, hclose, hclosed⟩ := (s.settledAt (t0 + 256)).closeWindow_closes
    rw [if_neg hfault, hclose] at hstep
    refine ⟨{ s.settledAt (t0 + 256) with mx := { s.mx with window := w } }, ?_, rfl, rfl, fun _ => hclosed⟩
    show Host.Outcome.next s.settleEnd.endCycle = _
    rw [hstep, State.endCycle_of_between (by exact hbetween)]
    rfl

include hbetween in
theorem exec_withholdEnd_early (hhold : s.aper.hold = some t0) (hearly : s.clk.ticks < t0 + 256) : exec .withholdEnd s = .next s := by
  have hstep : s.withholdEnd = s := by
    rw [State.withholdEnd, hhold]
    exact if_neg (by simp [State.elapsed, hearly])
  show Host.Outcome.next s.withholdEnd.endCycle = _
  rw [hstep, State.endCycle_of_between hbetween]

include hbetween hrunning in
theorem exec_withholdEnd (hhold : s.aper.hold = some t0) (hdue : t0 + 256 ≤ s.clk.ticks) :
    exec .withholdEnd s = .next { s with aper := { s.aper with hold := none } } := by
  have hgo : (s.running && s.elapsed t0 256) = true := by rw [hrunning, State.elapsed, decide_eq_true hdue, Bool.and_self]
  have hstep : s.withholdEnd = { s with aper := { s.aper with hold := none } } := by
    rw [State.withholdEnd, hhold]
    exact if_pos hgo
  show Host.Outcome.next s.withholdEnd.endCycle = _
  rw [hstep, State.endCycle_of_between (by exact hbetween)]

end

/-! ### The switch of a plan -/

/-- The shadow plan is the active one, with its flag (R411, R413). -/
def State.planSwitched (s : State) (e : Epoch) : State :=
  { s with mx := { s.mx.load s.shadowPlan with armed := none, since := some e } }.setFlag Reg.MX_MX_STATUS 2

/-- An armed switch is made four epochs after its epoch (R413). -/
theorem exec_planSwitch {s : State} {e : Epoch} (hroom : s.roomFor 1) (hacting : s.acting = true) (hday : s.clk.daylight = true)
    (harmed : s.mx.armed = some e) (hdue : e.toNat + 4 ≤ s.clk.epoch.toNat) :
    ∃ t, exec .planSwitch s = .next t ∧
      t.mx = { s.mx with plan := s.shadowPlan, par := s.shadowPlan.map (fun p => parity p.1 != parity p.2), armed := none, since := some e } ∧
      t.flag Reg.MX_MX_STATUS 2 = true ∧ KeepsRegs s t [Reg.MX_MX_STATUS] ∧ Logged s t [s.entry Log.MX 2 (e.truncate 32) 0] := by
  have hgo : (s.acting && s.mxSwitchDue) = true := by
    rw [State.mxSwitchDue, harmed, hacting, hday]
    exact decide_eq_true hdue
  have hstep : s.planStep = (s.planSwitched e).raise Log.MX 2 (e.truncate 32) := by
    rw [State.planStep, if_pos hgo, State.mxSwitch, harmed]
    rfl
  have hfixer : (s.planSwitched e).fixer = s.fixer := State.setFlag_fixer _ _ _
  have hkeeps : KeepsRegs s (s.planSwitched e) [Reg.MX_MX_STATUS] := State.keepsRegs_setFlag _ _ _
  have hraised : ((s.planSwitched e).raise Log.MX 2 (e.truncate 32)).fixer.raised = [s.entry Log.MX 2 (e.truncate 32) 0] := by
    rw [State.raised_raise_entry, hfixer, hroom.1.1]
    refine congrArg (fun l => [l]) (State.entry_congr _ _ _ _ ?_ (hkeeps _ (by decide)))
    rw [State.planSwitched, State.setFlag_clk]
  have hstaged : ((s.planSwitched e).raise Log.MX 2 (e.truncate 32)).fixer.staged = s.fixer.staged := by
    show (s.planSwitched e).fixer.staged = s.fixer.staged
    rw [hfixer]
  refine ⟨_, congrArg (fun u : State => Host.Outcome.next u.endCycle) hstep, ?_, ?_, ?_, State.logged_endCycle_one hroom hstaged hraised⟩
  · rw [State.endCycle_mx]
    exact State.setFlag_mx _ _ _
  · rw [State.endCycle_flag _ 2 (by decide) (by decide)]
    exact State.flag_setFlag_same _ _ _ (by decide)
  · exact State.keepsRegs_endCycle hroom hstaged (by rw [hraised]; exact Nat.le_refl 1) hkeeps

theorem exec_planSwitch_not {s : State} (hbetween : s.between) (harmed : s.mx.armed = none) : exec .planSwitch s = .next s := by
  have hdue : (s.acting && s.mxSwitchDue) = false := by
    rw [State.mxSwitchDue, harmed]
    exact Bool.and_false _
  exact exec_notDue (u := s.mxSwitch) rfl hdue hbetween

/-! ### The statement -/

/-- Settles O44: each of these steps has a guard that the state gives, and its own part of the state. -/
theorem beamsAndPlansSwitch : Obligations.BeamsAndPlansSwitch := by
  unfold Obligations.BeamsAndPlansSwitch
  refine ⟨fun s b x hbetween hacting hday heven hup hlen hb hpend hready hfade hwait =>
      exec_beamXfadeStart hbetween (State.atHq_of hacting hday heven) hup (hlen.symm ▸ hb) hpend hready hfade hwait,
    fun s b hbetween _ hbusy => exec_beamXfadeStart_not hbetween hbusy,
    fun s b f hbetween hacting hlen hb hfade => ⟨fun hn => exec_xfadeDone hbetween hacting (hlen.symm ▸ hb) hfade hn,
      fun hn => exec_xfadeDone_early hbetween hfade hn⟩,
    fun s v hbetween hacting hday heven hup hwait hlen hfade =>
      exec_scaleApply hbetween (State.atHq_of hacting hday heven) hup hwait hlen hfade,
    fun s t0 hbetween hrunning hsettle => ⟨exec_settleEnd_early hbetween hsettle, exec_settleEnd hbetween hrunning hsettle⟩,
    fun s t0 hbetween hrunning hhold => ⟨exec_withholdEnd_early hbetween hhold,
      fun hdue => ⟨_, exec_withholdEnd hbetween hrunning hhold hdue, rfl⟩⟩,
    fun s e hroom hacting hday harmed hdue => exec_planSwitch hroom hacting hday harmed hdue,
    fun s hbetween harmed => exec_planSwitch_not hbetween harmed⟩

end Sys2Proof.Machine
end

section
/-! PROOFS. Aborts of commands (R211 to R214); and the statement drawn from them. -/

namespace Sys2Proof.Machine

/-! ### Words of Tank that the unit writes while no error stands and no region is borrowed -/

section
variable {s : State} (hcalm : s.calmTank)

include hcalm in
theorem State.setTank_calm (w : Nat) (v : Word) : s.setTank w v = { s with mem := Mem.write32 s.mem (4 * w) v } := by
  obtain ⟨herrs, hborrowed⟩ := hcalm
  have hyield : s.fogYield (w / 8) = s := by
    rw [State.fogYield, hborrowed]
    rfl
  have hgood : s.eccAt w = none := by
    rw [State.eccAt, State.eccOf, herrs]
    rfl
  rw [State.setTank, State.storeLane, hyield, hgood]

end

theorem State.setLanes_calm : ∀ (vs : List Word) {s : State} (_ : s.calmTank) (w : Nat), ∃ m, s.setLanes w vs = { s with mem := m }
  | [], s, _, _ => ⟨s.mem, rfl⟩
  | v :: vs, s, hcalm, w => by
    obtain ⟨m, hm⟩ := State.setLanes_calm vs (s := s.setTank w v) (by rw [State.setTank_calm hcalm]; exact hcalm) (w + 1)
    refine ⟨m, ?_⟩
    rw [State.setLanes, hm, State.setTank_calm hcalm]

theorem State.setTankWords_calm {s : State} (hcalm : s.calmTank) (w : Nat) (vs : List Word) :
    ∃ m, s.setTankWords w vs = { s with mem := m } := by
  have hfresh : s.freshGroups w vs.length = s := by
    rw [State.freshGroups, hcalm.1]
    simp only [List.filter_nil]
    rw [← hcalm.1]
  rw [State.setTankWords, hfresh]
  exact State.setLanes_calm vs hcalm w

/-- A reply is put at the end of its ring; of the rest of the state only Tank changes (R191). -/
theorem State.pushReply_calm {s : State} (hcalm : s.calmTank) (g status : Nat) (data : List Word) :
    ∃ m, s.pushReply g status data = { s with
      mem := m, queue := { s.queue with
        replies := s.queue.replies ++ [⟨replyHeader g s.unitAddr status data.length, data, false, false, s.replySlot⟩]
        reserved := s.queue.reserved - 1, replyNext := (s.replySlot + 1) % 32 } } := by
  obtain ⟨m, hm⟩ := State.setTankWords_calm hcalm (Tank.replyRing + 32 * s.replySlot)
    (⟨replyHeader g s.unitAddr status data.length, data, false, false, s.replySlot⟩ : Reply).words
  exact ⟨m, by simp only [State.pushReply, hm]⟩

/-! ### The next abort -/

theorem nextAbort_eq_none {l : List Abort} (h : ∀ a, a ∈ l → a.waiting = true ∨ a.due = false) : nextAbort l = none := by
  induction l with
  | nil => rfl
  | cons a l ih =>
    have hskip : (a.waiting || !a.due) = true := by
      rcases h a List.mem_cons_self with h | h <;> rw [h]
      · rfl
      · exact Bool.or_true _
    rw [nextAbort, if_pos hskip, ih fun x hx => h x (List.mem_cons_of_mem _ hx)]
    rfl

/-- No abort that is due stands: nothing is examined (R211). -/
theorem exec_abort_none {s : State} (hbetween : s.between) (h : ∀ a, a ∈ s.queue.aborts → a.waiting = true ∨ a.due = false) :
    exec .abort s = .next s := by
  have hstep : s.abortStep = s := by
    unfold State.abortStep
    rw [nextAbort_eq_none h]
    split <;> rfl
  show Host.Outcome.next s.abortStep.endCycle = _
  rw [hstep, State.endCycle_of_between hbetween]

/-- The state whose first abort has been taken to be examined. -/
def State.abortTaken (s : State) (rest : List Abort) : State := { s with queue := { s.queue with aborts := rest } }

section
variable {s : State} {g k : Nat} {rest : List Abort} (hbetween : s.between) (hacting : s.acting = true) (hg : g < 16)
  (htags : s.queue.tags.length = 16) (haborts : s.queue.aborts = ⟨g, false, true, k⟩ :: rest) (hcalm : s.calmTank)

include hacting haborts in
/-- The first abort that is due is examined (R211). -/
theorem exec_abort_examines : exec .abort s = .next ((s.abortTaken rest).examineAbort g).endCycle := by
  have hstep : s.abortStep = (s.abortTaken rest).examineAbort g := by
    unfold State.abortStep
    rw [hacting, haborts]
    rfl
  show Host.Outcome.next s.abortStep.endCycle = _
  rw [hstep]

include hbetween hcalm in
/-- An abort of an idle tag (R212). -/
theorem State.examineAbort_idle (hstate : (s.tag g).state = .idle) :
    KeepsRegs s ((s.abortTaken rest).examineAbort g).endCycle [Reg.QUEUE_QUEUE_STATUS] ∧
    ((s.abortTaken rest).examineAbort g).endCycle.queue.aborts = rest ∧
    ((s.abortTaken rest).examineAbort g).endCycle.queue.cmds = s.queue.cmds ∧
    ((s.abortTaken rest).examineAbort g).endCycle.queue.replies =
      s.queue.replies ++ [⟨replyHeader g s.unitAddr 3 0, [], false, false, s.replySlot⟩] := by
  obtain ⟨m, hm⟩ := State.pushReply_calm (s := s.abortTaken rest) hcalm g 3 []
  have hstep : (s.abortTaken rest).examineAbort g = (s.abortTaken rest).pushReply g 3 [] := by
    have hstate' : ((s.abortTaken rest).tag g).state = .idle := hstate
    rw [State.examineAbort, hstate']
  rw [hstep, hm, State.endCycle_of_between (by exact hbetween)]
  exact ⟨KeepsRegs.refl s _, rfl, rfl, rfl⟩

/-- A command that waits is taken from the ring, and its tag is idle (R212). -/
def State.withdrawn (s : State) (g : Nat) : State :=
  { s with queue := { s.queue with
      cmds := s.queue.cmds.eraseIdx (s.queue.cmds.findIdx (fun c : Cmd => isTagged (bits c.hdr 31 28) && pktTag c.hdr == g))
      reserved := s.queue.reserved - 1 } }.setTag g .idle

/-- A burst ends where it stands, and its tag is idle (R213). -/
def State.burstEnded (s : State) (g : Nat) : State :=
  { s with queue := { s.queue with
      cmds := s.queue.cmds.tail, reserved := s.queue.reserved - 1, running := false, done := 0, got := [] } }.setTag g .idle

omit hbetween hcalm in
theorem State.tag_setTag (u : State) (st : TagState) (hlen : g < u.queue.tags.length) : ((u.setTag g st).tag g).state = st := by
  show (nth (modNth u.queue.tags g _) g {}).state = st
  rw [nth_modNth_same _ _ _ _ hlen]

include hbetween hcalm hg htags in
theorem State.examineAbort_queued (hstate : (s.tag g).state = .queued) :
    KeepsRegs s ((s.abortTaken rest).examineAbort g).endCycle [Reg.QUEUE_QUEUE_STATUS] ∧
    ((s.abortTaken rest).examineAbort g).endCycle.queue.aborts = rest ∧
    (((s.abortTaken rest).examineAbort g).endCycle.tag g).state = .idle ∧
    ((s.abortTaken rest).examineAbort g).endCycle.queue.cmds =
      s.queue.cmds.eraseIdx (s.queue.cmds.findIdx (fun c => isTagged (bits c.hdr 31 28) && pktTag c.hdr == g)) ∧
    ((s.abortTaken rest).examineAbort g).endCycle.queue.replies =
      s.queue.replies ++ [⟨replyHeader g s.unitAddr 1 1, [0], false, false, s.replySlot⟩] := by
  obtain ⟨m, hm⟩ := State.pushReply_calm (s := (s.abortTaken rest).withdrawn g) hcalm g 1 [0]
  have hstep : (s.abortTaken rest).examineAbort g = ((s.abortTaken rest).withdrawn g).pushReply g 1 [0] := by
    have hstate' : ((s.abortTaken rest).tag g).state = .queued := hstate
    rw [State.examineAbort, hstate']
    rfl
  rw [hstep, hm, State.endCycle_of_between (by exact hbetween)]
  exact ⟨KeepsRegs.refl s _, rfl, State.tag_setTag _ _ (by exact htags.symm ▸ hg), rfl, rfl⟩

include hbetween hcalm hg htags in
theorem State.examineAbort_burst (hstate : (s.tag g).state = .executing)
    (hburst : isBurst (bits (s.queue.cmds.headD ⟨0, 0, [], false, 0⟩).hdr 31 28) = true) :
    KeepsRegs s ((s.abortTaken rest).examineAbort g).endCycle [Reg.QUEUE_QUEUE_STATUS] ∧
    ((s.abortTaken rest).examineAbort g).endCycle.queue.aborts = rest ∧
    (((s.abortTaken rest).examineAbort g).endCycle.tag g).state = .idle ∧
    ((s.abortTaken rest).examineAbort g).endCycle.queue.cmds = s.queue.cmds.tail ∧
    ((s.abortTaken rest).examineAbort g).endCycle.queue.running = false ∧
    ((s.abortTaken rest).examineAbort g).endCycle.queue.replies =
      s.queue.replies ++ [⟨replyHeader g s.unitAddr 1 1, [BitVec.ofNat 32 s.queue.done], false, false, s.replySlot⟩] := by
  obtain ⟨m, hm⟩ := State.pushReply_calm (s := (s.abortTaken rest).burstEnded g) hcalm g 1 [BitVec.ofNat 32 s.queue.done]
  have hstep : (s.abortTaken rest).examineAbort g = ((s.abortTaken rest).burstEnded g).pushReply g 1 [BitVec.ofNat 32 s.queue.done] := by
    have hstate' : ((s.abortTaken rest).tag g).state = .executing := hstate
    rw [State.examineAbort, hstate']
    exact if_pos hburst
  rw [hstep, hm, State.endCycle_of_between (by exact hbetween)]
  exact ⟨KeepsRegs.refl s _, rfl, State.tag_setTag _ _ (by exact htags.symm ▸ hg), rfl, rfl, rfl⟩

include hbetween in
/-- A command of one word goes on, and its abort waits (R213). -/
theorem State.examineAbort_word (hstate : (s.tag g).state = .executing)
    (hword : isBurst (bits (s.queue.cmds.headD ⟨0, 0, [], false, 0⟩).hdr 31 28) = false) :
    ((s.abortTaken rest).examineAbort g).endCycle = s.abortTaken (⟨g, true, true, 0⟩ :: rest) := by
  have hstep : (s.abortTaken rest).examineAbort g = s.abortTaken (⟨g, true, true, 0⟩ :: rest) := by
    have hstate' : ((s.abortTaken rest).tag g).state = .executing := hstate
    rw [State.examineAbort, hstate']
    exact if_neg (ne_of_eq_of_ne hword Bool.false_ne_true)
  rw [hstep, State.endCycle_of_between (by exact hbetween)]

include hbetween hcalm in
/-- An abort that comes too late (R214). -/
theorem State.examineAbort_done (hstate : (s.tag g).state = .done) :
    KeepsRegs s ((s.abortTaken rest).examineAbort g).endCycle [Reg.QUEUE_QUEUE_STATUS] ∧
    ((s.abortTaken rest).examineAbort g).endCycle.queue.aborts = rest ∧
    ((s.abortTaken rest).examineAbort g).endCycle.queue.cmds = s.queue.cmds ∧
    ((s.abortTaken rest).examineAbort g).endCycle.flag Reg.QUEUE_QUEUE_STATUS 7 = true ∧
    ((s.abortTaken rest).examineAbort g).endCycle.queue.replies = s.queue.replies ++ [⟨replyHeader g s.unitAddr 2 1,
      [pack [(0, 4, (s.tag g).status), (8, 1, b2n (!s.ownReplyHeld g))]], false, false, s.replySlot⟩] := by
  have hflagged : ((s.abortTaken rest).setFlag Reg.QUEUE_QUEUE_STATUS 7).calmTank := by
    rw [State.calmTank, State.setFlag_bank]
    exact hcalm
  obtain ⟨m, hm⟩ := State.pushReply_calm hflagged g 2 [pack [(0, 4, (s.tag g).status), (8, 1, b2n (!s.ownReplyHeld g))]]
  have hstep : (s.abortTaken rest).examineAbort g = ((s.abortTaken rest).setFlag Reg.QUEUE_QUEUE_STATUS 7).pushReply g 2
      [pack [(0, 4, (s.tag g).status), (8, 1, b2n (!s.ownReplyHeld g))]] := by
    have hstate' : ((s.abortTaken rest).tag g).state = .done := hstate
    rw [State.examineAbort, hstate']
    rfl
  have hraised : ((s.abortTaken rest).examineAbort g).fixer.raised = [] := by
    rw [hstep, hm]
    show ((s.abortTaken rest).setFlag Reg.QUEUE_QUEUE_STATUS 7).fixer.raised = []
    rw [State.setFlag_fixer]
    exact hbetween.1
  have hqueue : ((s.abortTaken rest).setFlag Reg.QUEUE_QUEUE_STATUS 7).queue = (s.abortTaken rest).queue := State.setFlag_queue _ _ _
  have hunit : ((s.abortTaken rest).setFlag Reg.QUEUE_QUEUE_STATUS 7).unitAddr = s.unitAddr := by
    rw [State.unitAddr, State.setFlag_ident]
    rfl
  have hslot : ((s.abortTaken rest).setFlag Reg.QUEUE_QUEUE_STATUS 7).replySlot = s.replySlot := by
    rw [State.replySlot, hqueue]
    rfl
  rw [State.endCycle_queue, State.flag, State.endCycle_reg_of_calm hraised]
  refine ⟨State.keepsRegs_endCycle_calm hraised fun a ha => ?_, ?_⟩
  · rw [hstep, hm]
    exact State.keepsRegs_setFlag (s.abortTaken rest) _ 7 a ha
  · rw [hstep, hm, hqueue, hunit, hslot]
    exact ⟨rfl, rfl, State.flag_setFlag_same _ _ _ (by decide), rfl⟩

end

/-- Settles O23: what an abort does is said by its tag's state when it is examined. -/
theorem abortsAreExaminedOnce : Obligations.AbortsAreExaminedOnce := by
  unfold Obligations.AbortsAreExaminedOnce
  refine ⟨fun s hbetween h => exec_abort_none hbetween h, fun s g k rest hbetween hacting hg htags haborts hcalm =>
    ⟨_, exec_abort_examines hacting haborts, ?_⟩⟩
  cases hstate : (s.tag g).state with
  | idle =>
    obtain ⟨hkeeps, hreply⟩ := State.examineAbort_idle (rest := rest) hbetween hcalm hstate
    exact ⟨hkeeps, fun _ => hreply, nofun, nofun, nofun, nofun⟩
  | queued =>
    obtain ⟨hkeeps, hreply⟩ := State.examineAbort_queued (rest := rest) hbetween hg htags hcalm hstate
    exact ⟨hkeeps, nofun, fun _ => hreply, nofun, nofun, nofun⟩
  | done =>
    obtain ⟨hkeeps, hreply⟩ := State.examineAbort_done (rest := rest) hbetween hcalm hstate
    exact ⟨hkeeps, nofun, nofun, nofun, nofun, fun _ => hreply⟩
  | executing =>
    by_cases hburst : isBurst (bits (s.queue.cmds.headD ⟨0, 0, [], false, 0⟩).hdr 31 28) = true
    · obtain ⟨hkeeps, hreply⟩ := State.examineAbort_burst (rest := rest) hbetween hg htags hcalm hstate hburst
      exact ⟨hkeeps, nofun, nofun, fun _ _ => hreply, fun _ h => absurd hburst (ne_of_eq_of_ne h Bool.false_ne_true), nofun⟩
    · have hwait := State.examineAbort_word (rest := rest) hbetween hstate (Bool.eq_false_of_not_eq_true hburst)
      rw [hwait]
      exact ⟨KeepsRegs.refl s _, nofun, nofun, fun _ h => absurd h hburst, fun _ _ => ⟨rfl, rfl⟩, nofun⟩

end Sys2Proof.Machine
end

section
/-! PROOFS. The fields of a copy and how they go out (R164, R176); the show slots that are captured and decided (R160 to R171); and the
statement drawn from them. -/

namespace Sys2Proof.Machine

/-! ### Sides -/

theorem State.sd_modSd_same (s : State) (x : Side) (f : LinkSide → LinkSide) : (s.modSd x f).sd x = f (s.sd x) := by
  cases x <;> rfl

theorem State.reg_modSd (s : State) (x : Side) (f : LinkSide → LinkSide) (a : Nat) : (s.modSd x f).reg a = s.reg a := by
  cases x <;> rfl

theorem State.sd_congr {s u : State} (ha : u.sideA = s.sideA) (hb : u.sideB = s.sideB) (x : Side) : u.sd x = s.sd x := by
  cases x
  · exact ha
  · exact hb

theorem State.sd_endCycle (s : State) (x : Side) : s.endCycle.sd x = s.sd x := State.sd_congr s.endCycle_sideA s.endCycle_sideB x

theorem State.out_endCycle (s : State) (x : Side) : s.endCycle.out x = s.out x := by
  cases x
  · exact s.endCycle_outA
  · exact s.endCycle_outB

theorem State.out_modOut (s : State) (x y : Side) (f : OutSide → OutSide) : (s.modOut x f).out y = if y = x then f (s.out y) else s.out y := by
  cases x <;> cases y <;> rfl

/-! ### What a field sends -/

theorem State.out_modFed (s : State) (x y : Side) (f : OutSide → OutSide) :
    (s.modFed x f).out y = if s.feeds x y then f (s.out y) else s.out y := by
  unfold State.modFed
  cases ha : s.feeds x .a <;> cases hb : s.feeds x .b <;> cases y <;> simp [ha, hb, State.out_modOut]

theorem State.link_forward (s : State) (x : Side) (k : Nat) (f raw : OutSide → OutSide) : (s.forward x k f raw).link = s.link :=
  (State.conf_forward x k f raw (conf_refl s [.outA, .outB] fun _ => True) (List.Subset.refl _) fun _ _ => trivial).1.1 .link (by decide)

/-- A field that goes out leaves everything but the outputs. -/
theorem State.forwardField_leaves (s : State) (x : Side) (k : Nat) (f raw : OutSide → OutSide) :
    Confined s [.outA, .outB] (· ∈ ([] : List Nat)) (s.forwardField x k f raw) :=
  State.conf_forwardField x k f raw (conf_refl s [.outA, .outB] (· ∈ ([] : List Nat))) (List.Subset.refl _) fun _ h => h

section
variable {s : State} {x : Side} (hforward : s.link.forwarding = true) (hloop : s.link.loop = none) (hresourced : (s.sd x).resourced = false)

include hforward hloop hresourced in
/-- A copy of a side with edges feeds the opposite output, and its own while the unit wraps at the other side (R128, R164). -/
theorem State.feeds_of (hwrap : s.link.wrap = none ∨ s.link.wrap = some (other x)) :
    s.feeds x (other x) = true ∧ s.feeds x x = s.link.wrap.isSome := by
  have hserves : s.outOfService = false := by
    rw [State.outOfService, hloop]
  unfold State.feeds
  rw [hforward, hserves, hresourced]
  rcases hwrap with h | h <;> rw [h] <;> cases x <;> decide

include hforward hloop hresourced in
/-- What a field puts out of the opposite side. -/
theorem State.out_forwardField {k : Nat} (f raw : OutSide → OutSide) (hwrap : s.link.wrap = none ∨ s.link.wrap = some (other x))
    (hvoid : (s.out (other x)).void = false) :
    (s.forwardField x k f raw).out (other x) = { f (s.out (other x)) with sent := k + 2 } := by
  obtain ⟨hopposite, hown⟩ := State.feeds_of hforward hloop hresourced hwrap
  have hlooped : ∀ u : State, u.link = s.link → ∀ y, u.frameLooped y k = false := fun u hu y => by
    rw [State.frameLooped, hu, hloop]
  have hsend : ∀ o : OutSide, o.void = false → OutSide.send (k + 2) f o = { f o with sent := k + 2 } := fun o ho => by
    rw [OutSide.send, OutSide.part, ho]
    rfl
  have hfed : s.forwardField x k f raw = s.modFed x (OutSide.send (k + 2) f) := by
    rw [State.forwardField, hlooped s rfl, if_neg Bool.false_ne_true, hlooped _ (State.link_forward s x _ _ _), if_neg Bool.false_ne_true,
      State.forward, hloop]
  rw [hfed, State.out_modFed, if_pos hopposite, hsend _ hvoid]

end

/-- A field that a running unit hears is worked on (R128). -/
theorem State.fieldOr_heard {s : State} {x : Side} (hrunning : s.running = true) (hhears : s.hears x = true) (k : Nat)
    (raw : OutSide → OutSide) (work : State → State) : s.fieldOr x k raw work = work s := by
  have hup : s.holding = false := by
    obtain ⟨hpower, -⟩ := Bool.and_eq_true_iff.1 hrunning
    rw [State.holding, beq_iff_eq.1 hpower]
    rfl
  rw [State.fieldOr, hup, if_neg Bool.false_ne_true, State.passing, hrunning, hhears]
  rfl

/-! ### A field's check -/

/-- A check writes only its side's counter and the flags of FRAME_STATUS. -/
theorem State.judgeCheck_leaves (s : State) (x : Side) (part : Nat) (ok : Bool) :
    Confined s [.sset, .bumped, .caused] (· ∈ [Reg.FRAME_CHECK_ERR_A, Reg.FRAME_CHECK_ERR_B, Reg.FRAME_FRAME_STATUS]) (s.judgeCheck x part ok) :=
  State.conf_judgeCheck x part ok (conf_refl s [.sset, .bumped, .caused] _) (List.Subset.refl _) fun _ h => h

theorem State.judgeCheck_passes (s : State) (x : Side) (part : Nat) : s.judgeCheck x part true = s := rfl

/-- A check that fails in a lock, in a frame that is not void, sets its flag and counts (R170). -/
theorem State.judgeCheck_fails {s : State} {x : Side} (part : Nat) (hpart : 2 * part + sideNum x < 16) (hlock : (s.sd x).lock = true)
    (hfaw : (s.sd x).faw = true) (hvoid : (s.sd x).void = false) :
    (s.judgeCheck x part false).flag Reg.FRAME_FRAME_STATUS (2 * part + sideNum x) = true ∧
    (s.judgeCheck x part false).reg (Reg.checkErr x) = s.reg (Reg.checkErr x) + 1 := by
  have hstatus : Reg.FRAME_FRAME_STATUS ≠ Reg.checkErr x := by cases x <;> decide
  have hjudged : s.judgeCheck x part false = s.checkFailed x part := by
    rw [State.judgeCheck, hlock, hfaw, hvoid]
    rfl
  rw [hjudged, State.checkFailed]
  refine ⟨?_, ?_⟩
  · rw [State.flag, State.reg_countWrap_other _ hstatus]
    exact State.flag_setFlag_same _ _ _ hpart
  · rw [State.reg_countWrap_same, State.reg_setFlag_other _ _ hstatus.symm]

/-! ### Captures -/

/-- The capture of a copy's show slots (R160, R167). -/
def State.showCapture (s : State) (x : Side) (slots : List Sample) (check : Word) : Capture :=
  { epoch := (s.sd x).epoch, valid := s.copyOk x && (crc32 (samplesBits slots) == check)
    slots := (s.sd x).mask.map (fun n => (n, classOf (s.sd x).classes (n / 32), nth slots n 0)) }

/-- The state in which the slots have been captured. -/
def State.showCaptured (s : State) (x : Side) (slots : List Sample) (check : Word) : State :=
  (s.judgeCheck x 1 (crc32 (samplesBits slots) == check)).modSd x fun d => { d with caps := (s.showCapture x slots check :: d.caps).take 8 }

section
variable {s : State} {x : Side} {slots : List Sample} {check : Word} (hacting : s.acting = true) (hlock : (s.sd x).lock = true)
  (hfaw : (s.sd x).faw = true) (hvoid : (s.sd x).void = false)

include hacting hlock hfaw in
theorem State.captureShow_eq : s.captureShow x slots check =
    (s.showCaptured x slots check).forwardField x 0 (OutSide.putShow slots check) (OutSide.putShow slots check) := by
  have hacts : (s.judgeCheck x 1 (crc32 (samplesBits slots) == check)).acting = true := by
    have hleaves := s.judgeCheck_leaves x 1 (crc32 (samplesBits slots) == check)
    have hclk := hleaves.1.1 .clk (by decide)
    have hident := hleaves.1.1 .ident (by decide)
    rw [State.acting, State.running, hclk, hident]
    exact hacting
  rw [State.captureShow, hacts, hlock, hfaw]
  rfl

include hacting hlock hfaw hvoid in
/-- The show slots of a copy are captured under the mask of its frame (R160, R167, R170). -/
theorem exec_showCapture (hhears : s.hears x = true) (hday : s.clk.daylight = true) :
    ∃ t, exec (.showCapture x slots check) s = .next t ∧
      (t.sd x).caps.head? = some ⟨(s.sd x).epoch, (s.sd x).hdrValid && crc32 (samplesBits slots) == check,
        (s.sd x).mask.map (fun n => (n, classOf (s.sd x).classes (n / 32), nth slots n 0))⟩ ∧
      (crc32 (samplesBits slots) = check → ∀ a, a ≠ Reg.FIXER_LOG_DROPS → a ≠ Reg.FIXER_FIXER_STATUS → t.reg a = s.reg a) ∧
      (crc32 (samplesBits slots) ≠ check → t.flag Reg.FRAME_FRAME_STATUS (2 + sideNum x) = true ∧
        t.reg (Reg.checkErr x) = s.reg (Reg.checkErr x) + 1) := by
  obtain ⟨hrunning, -⟩ := Bool.and_eq_true_iff.1 hacting
  have hleaves := (s.showCaptured x slots check).forwardField_leaves x 0 (OutSide.putShow slots check) (OutSide.putShow slots check)
  have hsd : ((s.captureShow x slots check).sd x).caps.head? = some (s.showCapture x slots check) := by
    rw [State.captureShow_eq hacting hlock hfaw,
      State.sd_congr (hleaves.1.1 .sideA (by decide)) (hleaves.1.1 .sideB (by decide)), State.showCaptured, State.sd_modSd_same]
    rfl
  have hreg : ∀ a, (s.captureShow x slots check).reg a = (s.judgeCheck x 1 (crc32 (samplesBits slots) == check)).reg a := fun a => by
    rw [State.captureShow_eq hacting hlock hfaw, (hleaves.1.2 a List.not_mem_nil).1, State.showCaptured, State.reg_modSd]
  have hcopy : s.copyOk x = (s.sd x).hdrValid := by
    rw [State.copyOk, hlock, hfaw, hvoid]
    rfl
  refine ⟨(s.captureShow x slots check).endCycle, ?_, ?_, fun hok a hdrops hstatus => ?_, fun hbad => ?_⟩
  · show Host.Outcome.next (State.endCycle (s.fieldOr x 0 _ _)) = _
    rw [State.fieldOr_heard hrunning hhears, if_pos hday]
  · rw [State.sd_endCycle, hsd, State.showCapture, hcopy]
  · rw [State.endCycle_reg _ hdrops hstatus, hreg, beq_iff_eq.2 hok, State.judgeCheck_passes]
  · have hbit : 2 * 1 + sideNum x < 16 := by cases x <;> decide
    obtain ⟨hflag, hcount⟩ := State.judgeCheck_fails 1 hbit hlock hfaw hvoid
    have herr : Reg.checkErr x ≠ Reg.FIXER_LOG_DROPS ∧ Reg.checkErr x ≠ Reg.FIXER_FIXER_STATUS := by cases x <;> decide
    rw [State.endCycle_flag _ _ (by decide) (by decide), State.endCycle_reg _ herr.1 herr.2, State.flag, hreg, hreg, beq_eq_false_iff_ne.2 hbad]
    exact ⟨hflag, hcount⟩

end

/-! ### Decisions -/

theorem State.endMissRun_leaves (s : State) :
    (∀ a, s.endMissRun.reg a = s.reg a) ∧ s.endMissRun.frame = { s.frame with missRun := none } := by
  unfold State.endMissRun
  split
  · exact ⟨fun _ => rfl, rfl⟩
  · next h =>
    refine ⟨fun _ => rfl, ?_⟩
    rw [← h]

/-- A missing epoch is noted by its flag and its count, and what is handed over and due is as it was (R170). -/
structure State.MissNoted (s u : State) : Prop where
  flag : u.flag Reg.FRAME_FRAME_STATUS 13 = true
  count : u.reg Reg.FRAME_SHOW_MISS_COUNT = s.reg Reg.FRAME_SHOW_MISS_COUNT + 1
  shown : u.frame.shown = s.frame.shown
  due : u.frame.due = s.frame.due

theorem State.MissNoted.of_regs {s u w : State} (h : s.MissNoted u) (hstatus : w.reg Reg.FRAME_FRAME_STATUS = u.reg Reg.FRAME_FRAME_STATUS)
    (hcount : w.reg Reg.FRAME_SHOW_MISS_COUNT = u.reg Reg.FRAME_SHOW_MISS_COUNT) (hshown : w.frame.shown = u.frame.shown)
    (hdue : w.frame.due = u.frame.due) : s.MissNoted w where
  flag := by
    rw [State.flag, hstatus]
    exact h.flag
  count := hcount.trans h.count
  shown := hshown.trans h.shown
  due := hdue.trans h.due

theorem State.missNoted_of_flagged (s : State) :
    s.MissNoted ((s.setFlag Reg.FRAME_FRAME_STATUS 13).countWrap Reg.FRAME_SHOW_MISS_COUNT) where
  flag := by
    rw [State.flag, State.reg_countWrap_other _ (by decide)]
    exact State.flag_setFlag_same _ _ _ (by decide)
  count := by rw [State.reg_countWrap_same, State.reg_setFlag_other _ _ (by decide)]
  shown := by rw [State.countWrap_frame, State.setFlag_frame]
  due := by rw [State.countWrap_frame, State.setFlag_frame]

theorem State.MissNoted.endMissRun {s u : State} (h : s.MissNoted u) : s.MissNoted u.endMissRun := by
  obtain ⟨hregs, hframe⟩ := u.endMissRun_leaves
  exact h.of_regs (hregs _) (hregs _) (by rw [hframe]) (by rw [hframe])

theorem State.MissNoted.fixerCountAt {s u : State} (h : s.MissNoted u) (i : Nat) (t : Epoch) : s.MissNoted (u.fixerCountAt i t).1 := by
  have hleaves := State.conf_fixerCountAt i t (conf_refl u [.sset, .bumped, .caused, .fixer]
    (· ∈ [Reg.FIXER_FIXER_STATUS, Reg.FIXER_LASTING_COUNT])) (List.Subset.refl _) fun _ h => h
  have hframe : (u.fixerCountAt i t).1.frame = u.frame := hleaves.1.1 .frame (by decide)
  exact h.of_regs (hleaves.1.2 _ (by decide)).1 (hleaves.1.2 _ (by decide)).1 (by rw [hframe]) (by rw [hframe])

/-- A missing epoch joins its run or begins another (R180). -/
theorem State.missNoted_showMissing (s : State) (e : Epoch32) : s.MissNoted (s.showMissing e) := by
  have hnoted := s.missNoted_of_flagged
  unfold State.showMissing
  dsimp only
  split
  · split
    · exact hnoted.of_regs rfl rfl rfl rfl
    · exact (hnoted.endMissRun.fixerCountAt 3 _).of_regs rfl rfl rfl rfl
  · exact (hnoted.fixerCountAt 3 _).of_regs rfl rfl rfl rfl

section
variable {s : State} {e : Epoch32} {rest : List Epoch32} (hacting : s.acting = true) (hday : s.clk.daylight = true)
  (hdue : s.frame.due = e :: rest)

/-- The state whose oldest due epoch is being decided. -/
def State.deciding (s : State) (rest : List Epoch32) : State := { s with frame := { s.frame with due := rest } }

include hacting hday hdue in
theorem exec_showDecision_decides : exec .showDecision s = .next (s.decideShow e rest).endCycle := by
  have hgo : (!(s.acting && s.clk.daylight)) = false := by
    rw [hacting, hday]
    rfl
  show Host.Outcome.next s.showDecision.endCycle = _
  rw [State.showDecision, hgo, hdue]
  rfl

/-- What a decision that finds a capture `c` hands over from side number `src` (R169). -/
theorem State.frame_handOver_some (u : State) (e : Epoch32) (c : Capture) (src : Nat) :
    (u.endMissRun.handOver e (some c) src).frame =
      { u.frame with missRun := none, shown := (⟨e, true, c.slots⟩ :: u.frame.shown).take 16, showSrc := src } := by
  obtain ⟨-, hframe⟩ := u.endMissRun_leaves
  simp only [State.handOver, hframe]

include hacting hday hdue in
/-- The selected side's capture is handed over where it is usable (R169). -/
theorem exec_showDecision_selected {c : Capture} (hsel : s.usable s.clk.side e = some c) :
    ∃ t, exec .showDecision s = .next t ∧ t.frame.due = rest ∧ t.frame.showSrc = 1 + sideNum s.clk.side ∧
      t.frame.shown = (⟨e, true, c.slots⟩ :: s.frame.shown).take 16 ∧
      t.reg Reg.FRAME_SHOW_MISS_COUNT = s.reg Reg.FRAME_SHOW_MISS_COUNT := by
  have hsel' : ({ s with frame := { s.frame with due := rest } } : State).usable s.clk.side e = some c := hsel
  have hstep : s.decideShow e rest = (s.deciding rest).endMissRun.handOver e (some c) (1 + sideNum s.clk.side) := by
    simp only [State.decideShow, hsel']
    rfl
  refine ⟨_, exec_showDecision_decides hacting hday hdue, ?_⟩
  rw [State.endCycle_frame, State.endCycle_reg _ (by decide) (by decide), hstep, State.frame_handOver_some]
  exact ⟨rfl, rfl, rfl, (s.deciding rest).endMissRun_leaves.1 _⟩

include hacting hday hdue in
/-- The other side's capture is handed over where the selected side's is not usable; it sets SHOW_ALT and counts (R169, R170). -/
theorem exec_showDecision_other {c : Capture} (hsel : s.usable s.clk.side e = none) (halt : s.usable (other s.clk.side) e = some c) :
    ∃ t, exec .showDecision s = .next t ∧ t.frame.due = rest ∧ t.frame.showSrc = 1 + sideNum (other s.clk.side) ∧
      t.frame.shown = (⟨e, true, c.slots⟩ :: s.frame.shown).take 16 ∧ t.flag Reg.FRAME_FRAME_STATUS 12 = true ∧
      t.reg Reg.FRAME_SHOW_ALT_COUNT = s.reg Reg.FRAME_SHOW_ALT_COUNT + 1 := by
  have hsel' : ({ s with frame := { s.frame with due := rest } } : State).usable s.clk.side e = none := hsel
  have halt' : ({ s with frame := { s.frame with due := rest } } : State).usable (other s.clk.side) e = some c := halt
  have hstep : s.decideShow e rest = (((s.deciding rest).setFlag Reg.FRAME_FRAME_STATUS 12).countWrap Reg.FRAME_SHOW_ALT_COUNT).endMissRun.handOver
      e (some c) (1 + sideNum (other s.clk.side)) := by
    simp only [State.decideShow, hsel', halt']
    rfl
  obtain ⟨hregs, -⟩ := (((s.deciding rest).setFlag Reg.FRAME_FRAME_STATUS 12).countWrap Reg.FRAME_SHOW_ALT_COUNT).endMissRun_leaves
  refine ⟨_, exec_showDecision_decides hacting hday hdue, ?_⟩
  rw [State.endCycle_frame, State.endCycle_flag _ _ (by decide) (by decide), State.endCycle_reg _ (by decide) (by decide), hstep,
    State.frame_handOver_some, State.countWrap_frame, State.setFlag_frame]
  refine ⟨rfl, rfl, rfl, ?_, (hregs _).trans ?_⟩
  · refine (congrArg (fun w => bitOf w 12) (hregs _)).trans ?_
    rw [State.reg_countWrap_other _ (by decide)]
    exact State.flag_setFlag_same _ _ _ (by decide)
  · rw [State.reg_countWrap_same, State.reg_setFlag_other _ _ (by decide)]
    rfl

include hacting hday hdue in
/-- Where neither side's is usable nothing is handed over; that sets SHOW_MISS and counts (R169, R170). -/
theorem exec_showDecision_missing (hsel : s.usable s.clk.side e = none) (halt : s.usable (other s.clk.side) e = none) :
    ∃ t, exec .showDecision s = .next t ∧ t.frame.due = rest ∧ t.frame.showSrc = 0 ∧
      t.frame.shown = (⟨e, false, []⟩ :: s.frame.shown).take 16 ∧ t.flag Reg.FRAME_FRAME_STATUS 13 = true ∧
      t.reg Reg.FRAME_SHOW_MISS_COUNT = s.reg Reg.FRAME_SHOW_MISS_COUNT + 1 := by
  have hsel' : ({ s with frame := { s.frame with due := rest } } : State).usable s.clk.side e = none := hsel
  have halt' : ({ s with frame := { s.frame with due := rest } } : State).usable (other s.clk.side) e = none := halt
  have hstep : s.decideShow e rest = ((s.deciding rest).showMissing e).handOver e none 0 := by
    simp only [State.decideShow, hsel', halt']
    rfl
  have hnoted := (s.deciding rest).missNoted_showMissing e
  refine ⟨_, exec_showDecision_decides hacting hday hdue, ?_⟩
  rw [State.endCycle_frame, State.endCycle_flag _ _ (by decide) (by decide), State.endCycle_reg _ (by decide) (by decide), hstep]
  exact ⟨hnoted.due, rfl, congrArg (fun l => (_ :: l).take 16) hnoted.shown, hnoted.flag, hnoted.count⟩

end

/-- Settles O16: a copy is captured under its own frame's mask, and a decision takes the first of its three outcomes that applies. -/
theorem showSlotsAreCapturedAndDecided : Obligations.ShowSlotsAreCapturedAndDecided := by
  unfold Obligations.ShowSlotsAreCapturedAndDecided
  exact ⟨fun s x slots check hacting hhears hday hlock hfaw hvoid => exec_showCapture hacting hlock hfaw hvoid hhears hday,
    fun s e rest c hacting hday hdue hsel => exec_showDecision_selected hacting hday hdue hsel,
    fun s e rest c hacting hday hdue hsel halt => exec_showDecision_other hacting hday hdue hsel halt,
    fun s e rest hacting hday hdue hsel halt => exec_showDecision_missing hacting hday hdue hsel halt⟩

end Sys2Proof.Machine
end

section
/-! PROOFS. The listen field, and the sum of Multiple Exposure in a slot word (R176, R397); and the statement drawn from them. -/

namespace Sys2Proof.Machine

/-! ### A slot word -/

/-- A slot word is its three fields (R397). -/
theorem toNat_slotWord (sum : Nat) (sat : Bool) (count : Nat) :
    (pack [(6, 26, sum), (5, 1, b2n sat), (0, 5, count)]).toNat = sum % 2 ^ 26 * 64 + (b2n sat % 2 * 32 + count % 32) := by
  have hlow : (b2n sat % 2 ^ 1) <<< 5 ||| count % 2 ^ 5 = b2n sat % 2 * 32 + count % 32 := by
    rw [← Nat.shiftLeft_add_eq_or_of_lt (Nat.mod_lt _ (by decide)), Nat.shiftLeft_eq]
    rfl
  have hlt : b2n sat % 2 * 32 + count % 32 < 2 ^ 6 := by omega
  simp only [pack, place, List.foldl_cons, List.foldl_nil, Nat.zero_or, Nat.shiftLeft_zero, Nat.or_assoc, BitVec.toNat_ofNat, hlow]
  rw [← Nat.shiftLeft_add_eq_or_of_lt hlt, Nat.shiftLeft_eq]
  omega

theorem bits_slotWord (sum : Nat) (sat : Bool) (count : Nat) :
    bits (pack [(6, 26, sum), (5, 1, b2n sat), (0, 5, count)]) 31 6 = sum % 2 ^ 26 ∧
    bits (pack [(6, 26, sum), (5, 1, b2n sat), (0, 5, count)]) 4 0 = count % 32 ∧
    bitOf (pack [(6, 26, sum), (5, 1, b2n sat), (0, 5, count)]) 5 = sat := by
  have hword := toNat_slotWord sum sat count
  have hsat : b2n sat % 2 = b2n sat := by cases sat <;> rfl
  refine ⟨?_, ?_, ?_⟩
  · rw [bits, hword, Nat.shiftRight_eq_div_pow]
    omega
  · rw [bits, hword, Nat.shiftRight_zero]
    omega
  · rw [bitOf, BitVec.getLsbD, hword, Nat.testBit_eq_decide_div_mod_eq]
    cases sat
    · have hbit : b2n false = 0 := rfl
      exact decide_eq_false (by omega)
    · have hbit : b2n true = 1 := rfl
      exact decide_eq_true (by omega)

/-- A number of 26 bits with a sign is what its bits stand for. -/
theorem sgnOf_wrapInt {c : Int} (hlo : -0x2000000 ≤ c) (hhi : c ≤ 0x1FFFFFF) : sgnOf 26 (wrapInt 26 c % 2 ^ 26) = c := by
  have hnat : wrapInt 26 c % 2 ^ 26 % 2 ^ 26 = (c % 67108864).toNat := by
    unfold wrapInt
    omega
  have hsgn : sgnOf 26 (wrapInt 26 c % 2 ^ 26) =
      if (c % 67108864).toNat < 33554432 then ((c % 67108864).toNat : Int) else ((c % 67108864).toNat : Int) - 67108864 := by
    rw [← hnat]
    rfl
  rw [hsgn]
  split <;> omega

theorem clampInt_eq (c : Int) : clampInt (-0x2000000) 0x1FFFFFF c = max (-0x2000000) (min 0x1FFFFFF c) := by
  unfold clampInt
  split
  · omega
  · split <;> omega

/-- MX adds in 26 bits, saturating, and counts one more contributor (R397). -/
theorem mxAdd_fields (w : Word) (c : Int) :
    sgnOf 26 (bits (mxAdd w c).1 31 6) = max (-0x2000000) (min 0x1FFFFFF (sgnOf 26 (bits w 31 6) + c)) ∧
    bits (mxAdd w c).1 4 0 = min 31 (bits w 4 0 + 1) ∧ bitOf (mxAdd w c).1 5 = ((mxAdd w c).2 || bitOf w 5) ∧
    (mxAdd w c).2 = !decide (-0x2000000 ≤ sgnOf 26 (bits w 31 6) + c ∧ sgnOf 26 (bits w 31 6) + c ≤ 0x1FFFFFF) := by
  have hclamp := clampInt_eq (sgnOf 26 (bits w 31 6) + c)
  simp only [mxAdd]
  generalize sgnOf 26 (bits w 31 6) + c = sum at *
  obtain ⟨hsum, hcount, hsat⟩ := bits_slotWord (wrapInt 26 (clampInt (-0x2000000) 0x1FFFFFF sum))
    (clampInt (-0x2000000) 0x1FFFFFF sum != sum || bitOf w 5) (min 31 (bits w 4 0 + 1))
  refine ⟨?_, ?_, hsat, ?_⟩
  · rw [hsum, sgnOf_wrapInt (by omega) (by omega), hclamp]
  · rw [hcount]
    omega
  · rw [hclamp, Bool.eq_iff_iff, bne_iff_ne, Bool.not_eq_true', decide_eq_false_iff_not]
    omega

/-! ### The words of a field -/

/-- An entry of the plan writes its own slot word alone (R397). -/
theorem State.mxEntry_words (s : State) (e : Epoch32) (n : Nat) (slotW gainW : Word) (ws : List Word) :
    (s.mxEntry e n slotW gainW ws).2.length = ws.length ∧
    ∀ i, i ≠ mxSlot slotW → nth (s.mxEntry e n slotW gainW ws).2 i 0 = nth ws i 0 := by
  have hset : ∀ w : Word, (ws.set (mxSlot slotW) w).length = ws.length ∧
      ∀ i, i ≠ mxSlot slotW → nth (ws.set (mxSlot slotW) w) i 0 = nth ws i 0 := fun w => by
    refine ⟨List.length_set, fun i hi => ?_⟩
    simp [nth, List.getD_eq_getElem?_getD, List.getElem?_set_ne (Ne.symm hi)]
  unfold State.mxEntry
  split
  · dsimp only
    split
    · exact ⟨rfl, fun _ _ => rfl⟩
    · exact hset _
  · exact ⟨rfl, fun _ _ => rfl⟩

/-- A word that no entry of the plan names is as received. -/
theorem State.mxEntries_words (e : Epoch32) : ∀ (ps : List (Word × Word)) (s : State) (n : Nat) (ws : List Word),
    (s.mxEntries e n ps ws).2.length = ws.length ∧
    ∀ i, i ∉ ps.map (fun p => mxSlot p.1) → nth (s.mxEntries e n ps ws).2 i 0 = nth ws i 0
  | [], _, _, _ => ⟨rfl, fun _ _ => rfl⟩
  | p :: ps, s, n, ws => by
    obtain ⟨hlen, hwords⟩ := s.mxEntry_words e n p.1 p.2 ws
    obtain ⟨hlen', hwords'⟩ := State.mxEntries_words e ps (s.mxEntry e n p.1 p.2 ws).1 (n + 1) (s.mxEntry e n p.1 p.2 ws).2
    refine ⟨hlen'.trans hlen, fun i hi => ?_⟩
    rw [List.map_cons, List.mem_cons, not_or] at hi
    obtain ⟨hslot, hrest⟩ := hi
    exact (hwords' i hrest).trans (hwords i hslot)

/-- Whether the unit adds to the listen field of this copy (R176, R396). -/
def State.listenAdds (s : State) (x : Side) : Bool := s.mayAddTo x 1 && s.blockUp 2 && s.link.training.isNone

/-- The state and the words of a listen field after the plan's entries. -/
def State.listened (s : State) (x : Side) (ws : List Word) : State × List Word :=
  if s.listenAdds x then s.mxEntries (s.sd x).epoch 0 (s.planFor (s.sd x).epoch) ws else (s, ws)

/-- The check of a listen field that goes out (R176). -/
def listenCheckOut (ws ws' : List Word) (check : Word) : Word :=
  if ws' = ws then check else sendCheck32 (crc32 (wordsBits ws')) (crc32 (wordsBits ws) == check)

/-- What goes out of a listen field whose words have become `u.2`. -/
def State.listenSent (x : Side) (ws : List Word) (check : Word) (u : State × List Word) : State :=
  u.1.forwardField x 1 (OutSide.putListen u.2 (listenCheckOut ws u.2 check)) (OutSide.putListen ws check)

theorem State.listenField_eq (s : State) (x : Side) (ws : List Word) (check : Word) : s.listenField x ws check =
    State.listenSent x ws check ((s.judgeCheck x 2 (crc32 (wordsBits ws) == check)).listened x ws) := by
  unfold State.listenField State.listened State.listenAdds
  dsimp only
  split <;> rfl

/-- Neither the check nor the sum touches the links, the sides or the outputs. -/
theorem State.listened_leaves (s : State) (x : Side) (ws : List Word) :
    Confined s [.sset, .bumped, .caused, .fixer, .mx, .bank] (fun _ => True) (s.listened x ws).1 := by
  unfold State.listened
  split
  · exact State.conf_mxEntries _ _ _ _ (conf_refl s _ _) (List.Subset.refl _) fun _ _ => trivial
  · exact conf_refl s _ _

/-- Whether the unit may add to a copy is what it is before a check is judged. -/
theorem State.mayAdd_judgeCheck (s : State) (x y : Side) (part : Nat) (ok : Bool) : (s.judgeCheck x part ok).mayAdd y = s.mayAdd y := by
  have hleaves := s.judgeCheck_leaves x part ok
  have hclk := hleaves.1.1 .clk (by decide)
  have hident := hleaves.1.1 .ident (by decide)
  have hlink := hleaves.1.1 .link (by decide)
  have hsd := State.sd_congr (hleaves.1.1 .sideA (by decide)) (hleaves.1.1 .sideB (by decide))
  simp only [State.mayAdd, State.mayUse, State.feeds, State.outOfService, State.acting, State.running, hclk, hident, hlink, hsd]

/-- The plan is what it is before a check is judged. -/
theorem State.planFor_judgeCheck (s : State) (x : Side) (part : Nat) (ok : Bool) (e : Epoch32) :
    (s.judgeCheck x part ok).planFor e = s.planFor e := by
  have hleaves := s.judgeCheck_leaves x part ok
  have hmx := hleaves.1.1 .mx (by decide)
  have hclk := hleaves.1.1 .clk (by decide)
  have hshadow : (s.judgeCheck x part ok).shadowPlan = s.shadowPlan := by
    have hplan : ∀ n, n < 16 → ∀ a ∈ [Reg.MX_PLAN_SLOT_0 + 8 * n, Reg.MX_PLAN_GAIN_0 + 8 * n],
        a ∉ [Reg.FRAME_CHECK_ERR_A, Reg.FRAME_CHECK_ERR_B, Reg.FRAME_FRAME_STATUS] := by decide
    refine List.map_congr_left fun n hn => ?_
    rw [(hleaves.1.2 _ (hplan n (List.mem_range.1 hn) _ (by simp))).1, (hleaves.1.2 _ (hplan n (List.mem_range.1 hn) _ (by simp))).1]
  have hepoch : (s.judgeCheck x part ok).fullEpoch e = s.fullEpoch e := by simp only [State.fullEpoch, State.epoch32, hclk]
  simp only [State.planFor, hepoch, hmx, hshadow]

section
variable {s : State} {x : Side} {ws : List Word} {check : Word} (hrunning : s.running = true) (htraining : s.link.training = none)
  (hforward : s.link.forwarding = true) (hloop : s.link.loop = none) (hwrap : s.link.wrap = none) (hresourced : (s.sd x).resourced = false)
  (hvoid : (s.out (other x)).void = false)

include htraining hloop in
theorem State.hears_of : s.hears x = true := by
  rw [State.hears, htraining, hloop]
  rfl

include hrunning htraining hloop in
theorem exec_listenField_works : exec (.listenField x ws check) s = .next (s.listenField x ws check).endCycle := by
  show Host.Outcome.next (State.endCycle (s.fieldOr x 1 _ _)) = _
  rw [State.fieldOr_heard hrunning (State.hears_of htraining hloop)]

include hforward hloop hwrap hresourced hvoid in
/-- What the opposite side puts out of a listen field. -/
theorem State.out_listenField : ((s.listenField x ws check).endCycle.out (other x)).listen =
      ((s.judgeCheck x 2 (crc32 (wordsBits ws) == check)).listened x ws).2 ∧
    ((s.listenField x ws check).endCycle.out (other x)).listenCheck =
      listenCheckOut ws ((s.judgeCheck x 2 (crc32 (wordsBits ws) == check)).listened x ws).2 check := by
  have hjudged := s.judgeCheck_leaves x 2 (crc32 (wordsBits ws) == check)
  have hleaves := (s.judgeCheck x 2 (crc32 (wordsBits ws) == check)).listened_leaves x ws
  generalize hu : (s.judgeCheck x 2 (crc32 (wordsBits ws) == check)).listened x ws = u at *
  have hlink : u.1.link = s.link := (hleaves.1.1 .link (by decide)).trans (hjudged.1.1 .link (by decide))
  have hsd : u.1.sd x = s.sd x := State.sd_congr ((hleaves.1.1 .sideA (by decide)).trans (hjudged.1.1 .sideA (by decide)))
    ((hleaves.1.1 .sideB (by decide)).trans (hjudged.1.1 .sideB (by decide))) x
  have hout : u.1.out (other x) = s.out (other x) := by
    cases x
    · exact (hleaves.1.1 .outB (by decide)).trans (hjudged.1.1 .outB (by decide))
    · exact (hleaves.1.1 .outA (by decide)).trans (hjudged.1.1 .outA (by decide))
  rw [State.out_endCycle, State.listenField_eq, hu, State.listenSent,
    State.out_forwardField (by rw [hlink]; exact hforward) (by rw [hlink]; exact hloop) (by rw [hsd]; exact hresourced) _ _
      (by rw [hlink]; exact .inl hwrap) (by rw [hout]; exact hvoid)]
  exact ⟨rfl, rfl⟩

include hrunning htraining hforward hloop hwrap hresourced hvoid in
/-- Where the unit may not add, the field passes as received (R176). -/
theorem exec_listenField_passes (hnot : s.mayAdd x = false ∨ s.clk.daylight = false) :
    ∃ t, exec (.listenField x ws check) s = .next t ∧ (t.out (other x)).listen = ws ∧ (t.out (other x)).listenCheck = check ∧ t.mx = s.mx := by
  have hjudged := s.judgeCheck_leaves x 2 (crc32 (wordsBits ws) == check)
  have hadds : (s.judgeCheck x 2 (crc32 (wordsBits ws) == check)).listenAdds x = false := by
    have hmay : (s.judgeCheck x 2 (crc32 (wordsBits ws) == check)).mayAdd x = s.mayAdd x := State.mayAdd_judgeCheck _ _ _ _ _
    have hclk := hjudged.1.1 .clk (by decide)
    rw [State.listenAdds, State.mayAddTo, hmay, State.blockUp, hclk]
    rcases hnot with h | h
    · rw [h]
      rfl
    · rw [h, Bool.false_and, Bool.and_false]
      rfl
  have hlistened : (s.judgeCheck x 2 (crc32 (wordsBits ws) == check)).listened x ws = (s.judgeCheck x 2 (crc32 (wordsBits ws) == check), ws) := by
    rw [State.listened, hadds]
    rfl
  obtain ⟨hwords, hcheck⟩ := State.out_listenField (ws := ws) (check := check) hforward hloop hwrap hresourced hvoid
  rw [hlistened] at hwords hcheck
  refine ⟨_, exec_listenField_works hrunning htraining hloop, hwords, hcheck.trans (if_pos rfl), ?_⟩
  rw [State.endCycle_mx, State.listenField_eq, hlistened]
  exact ((State.forwardField_leaves _ x 1 _ _).1.1 .mx (by decide)).trans (hjudged.1.1 .mx (by decide))

include hrunning htraining hforward hloop hwrap hresourced hvoid in
/-- A word that no entry of the plan names goes out as received (R397). -/
theorem exec_listenField_words :
    ∃ t, exec (.listenField x ws check) s = .next t ∧ (t.out (other x)).listen.length = ws.length ∧
      ∀ i, i ∉ (s.planFor (s.sd x).epoch).map (fun p => mxSlot p.1) → nth (t.out (other x)).listen i 0 = nth ws i 0 := by
  have hjudged := s.judgeCheck_leaves x 2 (crc32 (wordsBits ws) == check)
  have hsd : (s.judgeCheck x 2 (crc32 (wordsBits ws) == check)).sd x = s.sd x :=
    State.sd_congr (hjudged.1.1 .sideA (by decide)) (hjudged.1.1 .sideB (by decide)) x
  obtain ⟨hwords, -⟩ := State.out_listenField (ws := ws) (check := check) hforward hloop hwrap hresourced hvoid
  refine ⟨_, exec_listenField_works hrunning htraining hloop, ?_⟩
  rw [hwords, State.listened]
  split
  · rw [hsd, State.planFor_judgeCheck]
    exact State.mxEntries_words _ _ _ _ _
  · exact ⟨rfl, fun _ _ => rfl⟩

end

/-- Settles O17: the field's words are the received ones but for the slots of the plan, and MX's sum is one of 26 bits. -/
theorem listenFieldPasses : Obligations.ListenFieldPasses := by
  unfold Obligations.ListenFieldPasses
  exact ⟨fun s x ws check hrunning htraining hforward hloop hwrap hresourced hvoid hnot =>
      exec_listenField_passes hrunning htraining hforward hloop hwrap hresourced hvoid hnot,
    fun s x ws check hrunning htraining hforward hloop hwrap hresourced hvoid =>
      exec_listenField_words hrunning htraining hforward hloop hwrap hresourced hvoid,
    fun w c => mxAdd_fields w c⟩

end Sys2Proof.Machine
end

section
/-! PROOFS. The event field (R216 to R219); and the statement drawn from it. -/

namespace Sys2Proof.Machine

/-! ### The insertion of events -/

/-- What stands past the end of a list of events. -/
def noEvent : Event := ⟨0, 0, 0, false, false, 0⟩

/-- What an insertion makes of the words `ws` and of the events `es`: a word that came filled is kept, an event stays the event that it is, and
one that has become sent on a side went out there in a word that came empty (R218, R219). -/
structure Inserts (x : Side) (both : Bool) (addr : Nat) (ws : List Word) (es : List Event) (ws' : List Word) (es' : List Event) : Prop where
  length : ws'.length = ws.length
  kept : ∀ i, nth ws i 0 ≠ 0 → nth ws' i 0 = nth ws i 0
  events : es'.length = es.length
  same : ∀ k, (nth es' k noEvent).lseq = (nth es k noEvent).lseq ∧ (nth es' k noEvent).source = (nth es k noEvent).source ∧
    (nth es' k noEvent).code = (nth es k noEvent).code
  sent : ∀ k y, k < es.length → (nth es' k noEvent).sent y = true → (nth es k noEvent).sent y = true ∨
    ((y = x ∨ both = true) ∧ ∃ i < ws.length, nth ws i 0 = 0 ∧ nth ws' i 0 = eventWord addr (nth es k noEvent))

section
variable {x : Side} {both : Bool} {addr : Nat} {v : Word} {vs vs' : List Word} {es es' : List Event}

theorem Inserts.refl (x : Side) (both : Bool) (addr : Nat) (ws : List Word) (es : List Event) : Inserts x both addr ws es ws es :=
  ⟨rfl, fun _ _ => rfl, rfl, fun _ => ⟨rfl, rfl, rfl⟩, fun _ _ _ h => .inl h⟩

/-- A word that is passed on. -/
theorem Inserts.cons_word (h : Inserts x both addr vs es vs' es') : Inserts x both addr (v :: vs) es (v :: vs') es' where
  length := congrArg (· + 1) h.length
  kept
    | 0, _ => rfl
    | i + 1, hi => h.kept i hi
  events := h.events
  same := h.same
  sent k y hk hsent := by
    refine (h.sent k y hk hsent).imp_right fun ⟨hy, i, hi, hempty, hword⟩ => ⟨hy, i + 1, Nat.succ_lt_succ hi, hempty, hword⟩

theorem Event.sent_mark (x y : Side) (both : Bool) (e : Event) (h : (e.mark x both).sent y = true) :
    e.sent y = true ∨ y = x ∨ both = true := by
  cases x <;> cases y <;> simp [Event.mark, Event.sent] at h ⊢
  · exact h
  · exact h

theorem Event.mark_same (x : Side) (both : Bool) (e : Event) : (e.mark x both).lseq = e.lseq ∧ (e.mark x both).source = e.source ∧
    (e.mark x both).code = e.code := by
  cases x <;> exact ⟨rfl, rfl, rfl⟩

/-- An event's word is made of what an insertion leaves. -/
theorem eventWord_congr {addr : Nat} {e e' : Event} (h : e'.lseq = e.lseq ∧ e'.source = e.source ∧ e'.code = e.code) :
    eventWord addr e' = eventWord addr e := by
  obtain ⟨hlseq, hsource, hcode⟩ := h
  rw [eventWord, hlseq, hsource, hcode]
  rfl

/-- An event that takes an empty word. -/
theorem Inserts.cons_event {n : Nat} (hn : n < es.length) (h : Inserts x both addr vs (modNth es n (Event.mark x both)) vs' es') :
    Inserts x both addr (0 :: vs) es (eventWord addr (nth es n noEvent) :: vs') es' := by
  have hmarked : ∀ k, (nth (modNth es n (Event.mark x both)) k noEvent).lseq = (nth es k noEvent).lseq ∧
      (nth (modNth es n (Event.mark x both)) k noEvent).source = (nth es k noEvent).source ∧
      (nth (modNth es n (Event.mark x both)) k noEvent).code = (nth es k noEvent).code := fun k => by
    by_cases hk : k = n
    · subst hk
      rw [nth_modNth_same _ _ _ _ hn]
      exact Event.mark_same _ _ _
    · rw [nth_modNth_other _ _ _ hk]
      exact ⟨rfl, rfl, rfl⟩
  refine ⟨congrArg (· + 1) h.length, ?_, ?_, ?_, ?_⟩
  · rintro (_ | i) hi
    · exact absurd rfl hi
    · exact h.kept i hi
  · rw [h.events]
    exact List.length_modify _ _ _
  · intro k
    obtain ⟨hlseq, hsource, hcode⟩ := h.same k
    obtain ⟨hlseq', hsource', hcode'⟩ := hmarked k
    exact ⟨hlseq.trans hlseq', hsource.trans hsource', hcode.trans hcode'⟩
  · intro k y hk hsent
    rcases h.sent k y ((List.length_modify _ _ _).symm ▸ hk) hsent with hbefore | ⟨hy, i, hi, hempty, hword⟩
    · by_cases hkn : k = n
      · subst hkn
        rw [nth_modNth_same _ _ _ _ hn] at hbefore
        refine (Event.sent_mark x y both _ hbefore).imp_right fun hy => ⟨hy, 0, Nat.succ_pos _, rfl, rfl⟩
      · rw [nth_modNth_other _ _ _ hkn] at hbefore
        exact .inl hbefore
    · exact .inr ⟨hy, i + 1, Nat.succ_lt_succ hi, hempty, hword.trans (eventWord_congr (hmarked k))⟩

end

theorem insertEvents_inserts (may : Nat → Bool) (x : Side) (both : Bool) (addr : Nat) : ∀ (vs : List Word) (w : Nat) (es : List Event),
    Inserts x both addr vs es (insertEvents may x both addr w vs es).1 (insertEvents may x both addr w vs es).2
  | [], w, es => .refl x both addr [] es
  | v :: vs, w, es => by
    unfold insertEvents
    split
    · next n hfind =>
      have hn : n < es.length := (List.findIdx?_eq_some_iff_getElem.1 hfind).1
      split
      · next hempty =>
        obtain ⟨hempty, -⟩ := hempty
        subst hempty
        exact (insertEvents_inserts may x both addr vs (w + 1) (modNth es n (Event.mark x both))).cons_event hn
      · exact (insertEvents_inserts may x both addr vs (w + 1) es).cons_word
    · exact .refl x both addr (v :: vs) es

/-! ### The event field -/

/-- Whether the unit puts events into this copy (R217, R218). -/
def State.eventsGo (s : State) (x : Side) : Bool := s.mayAddTo x 3 && !s.flag Reg.QUEUE_QUEUE_CFG 1 && s.ident.position != 0

/-- The words that go out and the events that stand after a field's insertion. -/
def State.evented (s : State) (x : Side) (ws : List Word) : List Word × List Event :=
  if s.eventsGo x then
    insertEvents (mayTakeEvent s.clk.daylight x (s.sd x).epoch s.ident.position) x s.link.wrap.isSome s.unitAddr 0 ws s.queue.events
  else (ws, s.queue.events)

/-- The check of an event field that goes out (R176). -/
def eventCheckOut (ws ws' : List Word) (check : Half) : Half :=
  if ws' = ws then check else sendCheck16 (crc16 (wordsBits ws')) (crc16 (wordsBits ws) == check)

/-- What goes out of an event field whose words and events have become `p`. -/
def State.eventSent (s : State) (x : Side) (ws : List Word) (check : Half) (p : List Word × List Event) : State :=
  ({ s with queue := { s.queue with events := p.2 } } : State).forwardField x 3 (OutSide.putEvent p.1 (eventCheckOut ws p.1 check))
    (OutSide.putEvent ws check)

/-- What is served on both sides is retired (R205). -/
def State.retired (s : State) : State := if s.acting then s.retireReplies.retireEvents else s

/-- The state in which the field's check has been judged. -/
def State.eventJudged (s : State) (x : Side) (ws : List Word) (check : Half) : State := s.judgeCheck x 4 (crc16 (wordsBits ws) == check)

theorem State.eventField_eq (s : State) (x : Side) (ws : List Word) (check : Half) : s.eventField x ws check =
    ((s.eventJudged x ws check).eventSent x ws check ((s.eventJudged x ws check).evented x ws)).retired := by
  unfold State.eventField State.eventJudged State.evented State.eventsGo
  dsimp only
  split <;> rfl

theorem State.evented_inserts (s : State) (x : Side) (ws : List Word) :
    Inserts x s.link.wrap.isSome s.unitAddr ws s.queue.events (s.evented x ws).1 (s.evented x ws).2 := by
  unfold State.evented
  split
  · exact insertEvents_inserts _ x _ _ ws 0 _
  · exact .refl x _ _ ws _

/-- Retirement leaves everything but the rings, and of the command ring's state all. -/
theorem State.retired_leaves (s : State) : s.retired.outA = s.outA ∧ s.retired.outB = s.outB ∧ s.retired.queue.cmds = s.queue.cmds := by
  unfold State.retired State.retireEvents
  split
  · split <;> exact ⟨rfl, rfl, rfl⟩
  · exact ⟨rfl, rfl, rfl⟩

theorem State.out_retired (s : State) (x : Side) : s.retired.out x = s.out x := by
  obtain ⟨ha, hb, -⟩ := s.retired_leaves
  cases x
  · exact ha
  · exact hb

theorem State.retired_events_kept {s : State} (h : s.ident.position = 0 ∨ s.acting = false) : s.retired.queue.events = s.queue.events := by
  unfold State.retired State.retireEvents
  split
  · next hacting =>
    have hposition : s.ident.position = 0 := h.resolve_right (ne_of_eq_of_ne hacting Bool.false_ne_true.symm)
    rw [if_pos (by exact hposition)]
    rfl
  · rfl

/-- An event that is not retired stands in the ring; one that is has been served on each side (R205). -/
theorem State.mem_retired {s : State} {e : Event} (he : e ∈ s.queue.events) :
    e ∈ s.retired.queue.events ∨ ∀ y, s.served y (e.sent y) = true := by
  unfold State.retired State.retireEvents
  split
  · split
    · exact .inl he
    · by_cases hserved : (s.served .a e.sentA && s.served .b e.sentB) = true
      · obtain ⟨ha, hb⟩ := Bool.and_eq_true_iff.1 hserved
        refine .inr fun y => ?_
        cases y
        · exact ha
        · exact hb
      · refine .inl (List.mem_filter.2 ⟨he, ?_⟩)
        show (!(s.served .a e.sentA && s.served .b e.sentB)) = true
        rw [Bool.eq_false_of_not_eq_true hserved]
        rfl
  · exact .inl he

/-- The state in which a field's events go out: what it says of the links, the sides and the ring. -/
structure State.EventsOut (s u : State) (x : Side) (p : List Word × List Event) (check : Half) : Prop where
  word : (u.out (other x)).event = p.1
  check : (u.out (other x)).eventCheck = check
  events : u.queue.events = p.2
  cmds : u.queue.cmds = s.queue.cmds
  ident : u.ident = s.ident
  clk : u.clk = s.clk
  sides : ∀ y, u.sd y = s.sd y

section
variable {s : State} {x : Side} {ws : List Word} {check : Half} (hrunning : s.running = true) (htraining : s.link.training = none)
  (hforward : s.link.forwarding = true) (hloop : s.link.loop = none) (hwrap : s.link.wrap = none ∨ s.link.wrap = some (other x))
  (hresourced : (s.sd x).resourced = false) (hvoid : (s.out (other x)).void = false)

include hrunning htraining hloop in
theorem exec_eventField_works : exec (.eventField x ws check) s = .next (s.eventField x ws check).endCycle := by
  show Host.Outcome.next (State.endCycle (s.fieldOr x 3 _ _)) = _
  rw [State.fieldOr_heard hrunning (State.hears_of htraining hloop)]

include hforward hloop hwrap hresourced hvoid in
theorem State.eventSent_goes (p : List Word × List Event) : s.EventsOut (s.eventSent x ws check p) x p (eventCheckOut ws p.1 check) := by
  have hleaves := ({ s with queue := { s.queue with events := p.2 } } : State).forwardField_leaves x 3
    (OutSide.putEvent p.1 (eventCheckOut ws p.1 check)) (OutSide.putEvent ws check)
  have hqueue : (s.eventSent x ws check p).queue = { s.queue with events := p.2 } := hleaves.1.1 .queue (by decide)
  have hout := State.out_forwardField (s := { s with queue := { s.queue with events := p.2 } }) (k := 3) hforward hloop hresourced
    (OutSide.putEvent p.1 (eventCheckOut ws p.1 check)) (OutSide.putEvent ws check) hwrap hvoid
  refine ⟨congrArg OutSide.event hout, congrArg OutSide.eventCheck hout, by rw [hqueue], by rw [hqueue],
    hleaves.1.1 .ident (by decide), hleaves.1.1 .clk (by decide), ?_⟩
  exact State.sd_congr (hleaves.1.1 .sideA (by decide)) (hleaves.1.1 .sideB (by decide))

/-- A check leaves what an event field goes by. -/
theorem State.eventJudged_leaves (s : State) (x : Side) (ws : List Word) (check : Half) :
    (s.eventJudged x ws check).link = s.link ∧ (s.eventJudged x ws check).queue = s.queue ∧ (s.eventJudged x ws check).ident = s.ident ∧
    (s.eventJudged x ws check).clk = s.clk ∧ (∀ y, (s.eventJudged x ws check).sd y = s.sd y) ∧
    ∀ y, (s.eventJudged x ws check).out y = s.out y := by
  have hleaves := s.judgeCheck_leaves x 4 (crc16 (wordsBits ws) == check)
  refine ⟨hleaves.1.1 .link (by decide), hleaves.1.1 .queue (by decide), hleaves.1.1 .ident (by decide), hleaves.1.1 .clk (by decide),
    State.sd_congr (hleaves.1.1 .sideA (by decide)) (hleaves.1.1 .sideB (by decide)), fun y => ?_⟩
  cases y
  · exact hleaves.1.1 .outA (by decide)
  · exact hleaves.1.1 .outB (by decide)

/-- Nothing goes out where the unit may not add, its header or its events do not let it, or its position is 0x00 (R217, R218). -/
theorem State.eventsGo_judged (h : s.mayAdd x = false ∨ (s.sd x).hdrValid = false ∨ s.flag Reg.QUEUE_QUEUE_CFG 1 = true ∨ s.ident.position = 0) :
    (s.eventJudged x ws check).eventsGo x = false := by
  obtain ⟨-, -, hident, -, hsd, -⟩ := s.eventJudged_leaves x ws check
  have hmay : (s.eventJudged x ws check).mayAdd x = s.mayAdd x := State.mayAdd_judgeCheck _ _ _ _ _
  have hleaves := s.judgeCheck_leaves x 4 (crc16 (wordsBits ws) == check)
  have hflag : (s.eventJudged x ws check).flag Reg.QUEUE_QUEUE_CFG 1 = s.flag Reg.QUEUE_QUEUE_CFG 1 :=
    congrArg (fun w => bitOf w 1) (hleaves.1.2 _ (by decide)).1
  rw [State.eventsGo, State.mayAddTo, hmay, hflag, hident, hsd]
  rcases h with h | h | h | h <;> rw [h]
  · rfl
  · rw [Bool.and_false, Bool.false_and, Bool.false_and]
  · rw [Bool.not_true, Bool.and_false, Bool.false_and]
  · exact Bool.and_false _

theorem State.evented_eq_of_not (h : (s.eventJudged x ws check).eventsGo x = false) :
    (s.eventJudged x ws check).evented x ws = (ws, s.queue.events) := by
  obtain ⟨-, hqueue, -⟩ := s.eventJudged_leaves x ws check
  rw [State.evented, h, if_neg Bool.false_ne_true, hqueue]

/-- What a judged field's insertion makes of the words and the events. -/
theorem State.evented_inserts_judged : Inserts x s.link.wrap.isSome s.unitAddr ws s.queue.events ((s.eventJudged x ws check).evented x ws).1
    ((s.eventJudged x ws check).evented x ws).2 := by
  obtain ⟨hlink, hqueue, hident, -⟩ := s.eventJudged_leaves x ws check
  have hinserts := (s.eventJudged x ws check).evented_inserts x ws
  rw [hlink, hqueue, State.unitAddr, hident] at hinserts
  exact hinserts

include hforward hloop hwrap hresourced hvoid in
theorem State.eventSent_judged : (s.eventJudged x ws check).EventsOut ((s.eventJudged x ws check).eventSent x ws check
      ((s.eventJudged x ws check).evented x ws)) x ((s.eventJudged x ws check).evented x ws)
      (eventCheckOut ws ((s.eventJudged x ws check).evented x ws).1 check) := by
  obtain ⟨hlink, -, -, -, hsd, hout⟩ := s.eventJudged_leaves x ws check
  exact State.eventSent_goes (hlink ▸ hforward) (hlink ▸ hloop) (hlink ▸ hwrap) (by rw [hsd]; exact hresourced) (by rw [hout]; exact hvoid) _

include hforward hloop hwrap hresourced hvoid in
/-- What the opposite side puts out of an event field. -/
theorem State.out_eventField : ((s.eventField x ws check).endCycle.out (other x)).event = ((s.eventJudged x ws check).evented x ws).1 ∧
    ((s.eventField x ws check).endCycle.out (other x)).eventCheck = eventCheckOut ws ((s.eventJudged x ws check).evented x ws).1 check ∧
    (s.eventField x ws check).endCycle.queue.cmds = s.queue.cmds := by
  have hgoes := State.eventSent_judged (ws := ws) (check := check) hforward hloop hwrap hresourced hvoid
  obtain ⟨-, hqueue, -⟩ := s.eventJudged_leaves x ws check
  obtain ⟨-, -, hcmds⟩ := ((s.eventJudged x ws check).eventSent x ws check ((s.eventJudged x ws check).evented x ws)).retired_leaves
  rw [State.out_endCycle, State.endCycle_queue, State.eventField_eq, State.out_retired]
  exact ⟨hgoes.word, hgoes.check, hcmds.trans (hgoes.cmds.trans (congrArg Queue.cmds hqueue))⟩

include hrunning htraining hforward hloop hwrap hresourced hvoid in
/-- Words of other units are kept, and a field that takes no event passes as received (R176, R218). -/
theorem exec_eventField_words :
    ∃ t, exec (.eventField x ws check) s = .next t ∧ (t.out (other x)).event.length = ws.length ∧
      (∀ i, nth ws i 0 ≠ 0 → nth (t.out (other x)).event i 0 = nth ws i 0) ∧
      (s.mayAdd x = false ∨ (s.sd x).hdrValid = false ∨ s.flag Reg.QUEUE_QUEUE_CFG 1 = true ∨ s.ident.position = 0 →
        (t.out (other x)).event = ws ∧ (t.out (other x)).eventCheck = check) ∧
      t.queue.cmds = s.queue.cmds := by
  obtain ⟨hword, hcheck, hcmds⟩ := State.out_eventField (ws := ws) (check := check) hforward hloop hwrap hresourced hvoid
  have hinserts := State.evented_inserts_judged (s := s) (x := x) (ws := ws) (check := check)
  refine ⟨_, exec_eventField_works hrunning htraining hloop, ?_⟩
  rw [hword, hcheck]
  refine ⟨hinserts.length, hinserts.kept, fun hnot => ?_, hcmds⟩
  rw [State.evented_eq_of_not (State.eventsGo_judged hnot)]
  exact ⟨rfl, if_pos rfl⟩

include hrunning htraining hforward hloop hwrap hresourced hvoid in
/-- An event that leaves the ring has been served on each side (R205, R219). -/
theorem exec_eventField_serves :
    ∃ t, exec (.eventField x ws check) s = .next t ∧
      (s.ident.position = 0 ∨ s.acting = false → t.queue.events = s.queue.events) ∧
      ∀ e ∈ s.queue.events, (∃ e' ∈ t.queue.events, e'.lseq = e.lseq ∧ e'.source = e.source ∧ e'.code = e.code) ∨
        ∀ y : Side, e.sent y = true ∨ (s.sd y).lock = false ∨ (s.sd y).wrapped = true ∨
          ((y = x ∨ s.link.wrap.isSome = true) ∧ ∃ i < ws.length, nth ws i 0 = 0 ∧
            nth (t.out (other x)).event i 0 = eventWord s.unitAddr e) := by
  obtain ⟨hword, -, -⟩ := State.out_eventField (ws := ws) (check := check) hforward hloop hwrap hresourced hvoid
  have hgoes := State.eventSent_judged (ws := ws) (check := check) hforward hloop hwrap hresourced hvoid
  have hinserts := State.evented_inserts_judged (s := s) (x := x) (ws := ws) (check := check)
  obtain ⟨-, hqueue, hident, hclk, hsd, -⟩ := s.eventJudged_leaves x ws check
  refine ⟨_, exec_eventField_works hrunning htraining hloop, ?_⟩
  rw [hword, State.endCycle_queue, State.eventField_eq]
  refine ⟨fun hstill => ?_, fun e he => ?_⟩
  · have hnot : s.mayAdd x = false ∨ (s.sd x).hdrValid = false ∨ s.flag Reg.QUEUE_QUEUE_CFG 1 = true ∨ s.ident.position = 0 := by
      rcases hstill with h | h
      · exact .inr (.inr (.inr h))
      · exact .inl (by rw [State.mayAdd, State.mayUse, h]; rfl)
    refine (State.retired_events_kept ?_).trans (hgoes.events.trans (congrArg Prod.snd (State.evented_eq_of_not (State.eventsGo_judged hnot))))
    rw [State.acting, State.running, hgoes.ident, hgoes.clk, hident, hclk]
    exact hstill
  · obtain ⟨k, hk, rfl⟩ := List.mem_iff_getElem.1 he
    have hnth : s.queue.events[k] = nth s.queue.events k noEvent := by simp [nth, hk]
    rw [hnth]
    have hmem : nth ((s.eventJudged x ws check).evented x ws).2 k noEvent ∈ ((s.eventJudged x ws check).eventSent x ws check
        ((s.eventJudged x ws check).evented x ws)).queue.events := by
      have hlt : k < ((s.eventJudged x ws check).evented x ws).2.length := hinserts.events.symm ▸ hk
      rw [hgoes.events, show nth _ k noEvent = ((s.eventJudged x ws check).evented x ws).2[k] by simp [nth, hlt]]
      exact List.getElem_mem hlt
    refine (State.mem_retired hmem).imp (fun hstands => ⟨_, hstands, hinserts.same k⟩) fun hserved y => ?_
    have hy := hserved y
    rw [State.served, hgoes.sides, hsd, Bool.or_eq_true, Bool.or_eq_true, Bool.not_eq_true'] at hy
    rcases hy with (hsent | hlock) | hwrapped
    · exact (hinserts.sent k y hk hsent).imp_right fun h => .inr (.inr h)
    · exact .inr (.inl hlock)
    · exact .inr (.inr (.inl hwrapped))

end

/-- Settles O19: an insertion keeps what came filled, and what is retired has been sent, or has no side left to go to. -/
theorem eventFieldKeepsOtherUnitsWords : Obligations.EventFieldKeepsOtherUnitsWords := by
  unfold Obligations.EventFieldKeepsOtherUnitsWords
  exact ⟨fun s x ws check hrunning htraining hforward hloop hwrap hresourced hvoid =>
      exec_eventField_words hrunning htraining hforward hloop (.inl hwrap) hresourced hvoid,
    fun s x ws check hrunning htraining hforward hresourced hvoid hloop hwrap =>
      exec_eventField_serves hrunning htraining hforward hloop hwrap hresourced hvoid⟩

end Sys2Proof.Machine
end

section
/-! PROOFS. Training's scan and end, and the steps of the power domains (R125 to R127, R523 to R526); and the statement drawn from them. -/

namespace Sys2Proof.Machine

/-! ### Sides that fail, and sides that lock -/

theorem State.sd_modSd (s : State) (x y : Side) (f : LinkSide → LinkSide) : (s.modSd x f).sd y = if y = x then f (s.sd y) else s.sd y := by
  cases x <;> cases y <;> rfl

/-- A side that has lost its lock (R126). -/
def LinkSide.dropped (d : LinkSide) : LinkSide :=
  { d with lock := false, relock := false, held := false, fawRun := 0, misses := 0, validRun := 0, faw := false, hdrValid := false }

theorem State.sd_trainFail (s : State) (x y : Side) (lanes : Nat) :
    (s.trainFail x lanes).sd y = if y = x then (s.sd y).dropped else s.sd y := by
  rw [State.trainFail, State.dropLock, State.sd_modSd, State.sd_congr (u := (s.setFlag Reg.LINK_LINK_STATUS (5 + sideNum x)).raise Log.LINK 5
    (ofBytes (sideNum x) lanes 0 0)) (s.setFlag_sideA _ _) (s.setFlag_sideB _ _)]
  rfl

theorem State.flag_trainFail (s : State) (x : Side) (lanes : Nat) : (s.trainFail x lanes).flag Reg.LINK_LINK_STATUS (5 + sideNum x) = true := by
  have hbit : 5 + sideNum x < 16 := by cases x <;> decide
  rw [State.trainFail, State.dropLock, State.flag, State.reg_modSd]
  exact State.flag_setFlag_same _ _ _ hbit

/-- A flag of the link that stands stays where a side fails. -/
theorem State.flag_trainFail_mono {s : State} {i : Nat} (hi : i < 16) (x : Side) (lanes : Nat) (h : s.flag Reg.LINK_LINK_STATUS i = true) :
    (s.trainFail x lanes).flag Reg.LINK_LINK_STATUS i = true := by
  rw [State.trainFail, State.dropLock, State.flag, State.reg_modSd]
  exact State.flag_setFlags_mono _ _ _ _ _ hi h

theorem State.trainFail_leaves (s : State) (x : Side) (lanes : Nat) :
    Confined s [.sset, .bumped, .caused, .sideA, .sideB, .fixer] (fun _ => True) (s.trainFail x lanes) :=
  State.conf_trainFail x lanes (conf_refl s _ _) (List.Subset.refl _) fun _ _ => trivial

/-- What is owed to a lost lock touches neither the links nor their flags. -/
theorem State.judgeDropped_leaves (s old : State) :
    Confined s [.sset, .bumped, .caused, .frame, .fixer] (· ∈ [Reg.FRAME_FRAME_STATUS]) (s.judgeDropped old) :=
  State.conf_judgeDropped old (conf_refl s _ _) (List.Subset.refl _) fun _ h => h

theorem State.sd_judgeDropped (s old : State) (x : Side) : (s.judgeDropped old).sd x = s.sd x :=
  State.sd_congr ((s.judgeDropped_leaves old).1.1 .sideA (by decide)) ((s.judgeDropped_leaves old).1.1 .sideB (by decide)) x

theorem State.flag_judgeDropped (s old : State) (i : Nat) :
    (s.judgeDropped old).flag Reg.LINK_LINK_STATUS i = s.flag Reg.LINK_LINK_STATUS i :=
  congrArg (fun w => bitOf w i) ((s.judgeDropped_leaves old).1.2 _ (by decide)).1

/-! ### The centre of a scan -/

theorem laneBits_eq_zero_iff (x : Side) (p : Nat → Bool) : laneBits x p = 0 ↔ p (2 * sideNum x) = false ∧ p (2 * sideNum x + 1) = false := by
  unfold laneBits
  cases p (2 * sideNum x) <;> cases p (2 * sideNum x + 1) <;> decide

theorem State.delay_congr {s u : State} {l : Nat} (h0 : (u.sd (laneSide l)).delay0 = (s.sd (laneSide l)).delay0)
    (h1 : (u.sd (laneSide l)).delay1 = (s.sd (laneSide l)).delay1) : u.delay l = s.delay l := by
  simp only [State.delay, h0, h1]

theorem State.delay_trainFail (s : State) (x : Side) (lanes l : Nat) : (s.trainFail x lanes).delay l = s.delay l := by
  refine State.delay_congr ?_ ?_ <;> rw [State.sd_trainFail] <;> split <;> rfl

/-- Every lane has moved to the centre of its scan (R125). -/
def State.lanesCentred (s : State) (t : Training) : State :=
  (List.range 4).foldl (fun s l => s.setDelay l (centreStep (nth t.good l []))) s

theorem State.delay_lanesCentred (s : State) (t : Training) {l : Nat} (hl : l < 4) :
    (s.lanesCentred t).delay l = centreStep (nth t.good l []) := by
  match l, hl with
  | 0, _ | 1, _ | 2, _ | 3, _ => rfl

/-- A side some of whose lanes found no step fails (R126). -/
def State.scanFails (s : State) (t : Training) (x : Side) : State :=
  if laneBits x (fun l => (nth t.good l []).isEmpty) = 0 then s else s.trainFail x (laneBits x (fun l => (nth t.good l []).isEmpty))

theorem State.trainCentre_eq (s : State) (t : Training) : s.trainCentre t =
    { ((s.lanesCentred t).scanFails t .a).scanFails t .b with link := { ((s.lanesCentred t).scanFails t .a).scanFails t .b |>.link with
        training := some { t with
          centred := true, failedA := laneBits .a (fun l => (nth t.good l []).isEmpty) != 0
          failedB := laneBits .b (fun l => (nth t.good l []).isEmpty) != 0 } } } := rfl

theorem State.delay_scanFails (s : State) (t : Training) (x : Side) (l : Nat) : (s.scanFails t x).delay l = s.delay l := by
  unfold State.scanFails
  split
  · rfl
  · exact s.delay_trainFail x _ l

theorem State.link_scanFails (s : State) (t : Training) (x : Side) : (s.scanFails t x).link = s.link := by
  unfold State.scanFails
  split
  · rfl
  · exact (s.trainFail_leaves x _).1.1 .link (by decide)

theorem State.flag_scanFails_mono {s : State} {i : Nat} (hi : i < 16) (t : Training) (x : Side) (h : s.flag Reg.LINK_LINK_STATUS i = true) :
    (s.scanFails t x).flag Reg.LINK_LINK_STATUS i = true := by
  unfold State.scanFails
  split
  · exact h
  · exact State.flag_trainFail_mono hi x _ h

theorem State.flag_scanFails {s : State} {t : Training} {x : Side} {l : Nat} (hl : l = 2 * sideNum x ∨ l = 2 * sideNum x + 1)
    (hnone : nth t.good l [] = []) : (s.scanFails t x).flag Reg.LINK_LINK_STATUS (5 + sideNum x) = true := by
  have hsome : laneBits x (fun l => (nth t.good l []).isEmpty) ≠ 0 := fun h => by
    obtain ⟨h0, h1⟩ := (laneBits_eq_zero_iff _ _).1 h
    rcases hl with rfl | rfl
    · rw [hnone] at h0
      exact Bool.false_ne_true h0.symm
    · rw [hnone] at h1
      exact Bool.false_ne_true h1.symm
  rw [State.scanFails, if_neg hsome]
  exact State.flag_trainFail _ _ _

section
variable {s : State} {r : Training} (hbetween : s.between) (hrunning : s.running = true) (htraining : s.link.training = some r)

/-- The command that tells of the scan's end. -/
def State.centreDue (s : State) (r : Training) : Bool := s.running && s.clk.daylight && !r.centred && s.elapsed r.start 80

include htraining in
theorem State.trainingCentre_eq : s.trainingCentre = if s.centreDue r then (s.trainCentre r).judgeDropped s else s := by
  rw [State.trainingCentre, htraining]
  rfl

include hbetween htraining in
theorem exec_trainingCentre_early (hearly : s.clk.ticks < r.start + 80) : exec .trainingCentre s = .next s := by
  have hdue : s.centreDue r = false := by
    rw [State.centreDue, State.elapsed, decide_eq_false (Nat.not_le_of_lt hearly), Bool.and_false]
  show Host.Outcome.next s.trainingCentre.endCycle = _
  rw [State.trainingCentre_eq htraining, hdue, if_neg Bool.false_ne_true, State.endCycle_of_between hbetween]

include hrunning htraining in
/-- From tick 80 each lane stands at the centre of its scan, and a lane that found no step fails its side (R125, R126). -/
theorem exec_trainingCentre (hday : s.clk.daylight = true) (hcentred : r.centred = false) (hdue : r.start + 80 ≤ s.clk.ticks) :
    ∃ t, exec .trainingCentre s = .next t ∧ (t.link.training.map (·.centred)) = some true ∧
      (∀ l, l < 4 → t.delay l = centreStep (nth r.good l [])) ∧ t.link.wrap = s.link.wrap ∧
      (∀ l, l < 4 → nth r.good l [] = [] → t.delay l = 32 ∧ t.flag Reg.LINK_LINK_STATUS (if l < 2 then 5 else 6) = true) := by
  have hgo : s.centreDue r = true := by
    rw [State.centreDue, hrunning, hday, hcentred, State.elapsed, decide_eq_true hdue]
    rfl
  have hstep : s.trainingCentre = (s.trainCentre r).judgeDropped s := by rw [State.trainingCentre_eq htraining, if_pos hgo]
  have hlink : s.trainingCentre.endCycle.link = (s.trainCentre r).link := by
    rw [State.endCycle_link, hstep]
    exact ((s.trainCentre r).judgeDropped_leaves s).1.1 .link (by decide)
  have hdelay : ∀ l, l < 4 → s.trainingCentre.endCycle.delay l = centreStep (nth r.good l []) := fun l hl => by
    have hsame : s.trainingCentre.endCycle.delay l = (s.trainCentre r).delay l := by
      refine State.delay_congr ?_ ?_ <;> rw [State.sd_endCycle, hstep, State.sd_judgeDropped]
    rw [hsame, State.trainCentre_eq]
    refine Eq.trans ?_ (s.delay_lanesCentred r hl)
    exact (((s.lanesCentred r).scanFails r .a).delay_scanFails r .b l).trans ((s.lanesCentred r).delay_scanFails r .a l)
  have hflag : ∀ i, (((s.lanesCentred r).scanFails r .a).scanFails r .b).flag Reg.LINK_LINK_STATUS i = true →
      s.trainingCentre.endCycle.flag Reg.LINK_LINK_STATUS i = true := fun i hi => by
    rw [State.endCycle_flag _ _ (by decide) (by decide), hstep, State.flag_judgeDropped, State.trainCentre_eq]
    exact hi
  refine ⟨_, rfl, ?_, hdelay, ?_, fun l hl hnone => ⟨?_, ?_⟩⟩
  · rw [hlink]
    rfl
  · rw [hlink, State.trainCentre_eq]
    show (((s.lanesCentred r).scanFails r .a).scanFails r .b).link.wrap = _
    rw [State.link_scanFails, State.link_scanFails]
    rfl
  · rw [hdelay l hl, hnone]
    rfl
  · by_cases hside : l < 2
    · rw [if_pos hside]
      exact hflag 5 (State.flag_scanFails_mono (by decide) r .b (State.flag_scanFails (x := .a) (by
        show l = 0 ∨ l = 1
        omega) hnone))
    · rw [if_neg hside]
      exact hflag 6 (State.flag_scanFails (x := .b) (by
        show l = 2 ∨ l = 3
        omega) hnone)

end

/-! ### The longest run of a scan -/

/-- A run that goes on from `lo` and is longer than the best is the longest (R125). -/
theorem longestRun_range' (lo : Nat) : ∀ (k len : Nat), 0 < len → longestRun (List.range' (lo + len) k) lo len 0 0 = (lo, len + k)
  | 0, len, hlen => by
    rw [List.range'_zero, longestRun, if_pos hlen]
    rfl
  | k + 1, len, hlen => by
    have hgoes : (len != 0 && lo + len == lo + len) = true := by
      rw [bne_iff_ne.2 (by omega), beq_self_eq_true]
      rfl
    rw [List.range'_succ, longestRun, if_pos hgoes, Nat.add_assoc, longestRun_range' lo k (len + 1) (Nat.succ_pos _)]
    congr 1
    omega

theorem centreStep_range' {a n : Nat} (hn : 0 < n) : centreStep (List.range' a n) = a + (n - 1) / 2 := by
  obtain ⟨k, rfl⟩ : ∃ k, n = k + 1 := ⟨n - 1, by omega⟩
  have hrun : longestRun (List.range' a (k + 1)) 0 0 0 0 = (a, k + 1) := by
    rw [List.range'_succ, longestRun, if_neg (by simp), if_neg (by simp), longestRun_range' a k 1 Nat.one_pos, Nat.add_comm]
  rw [centreStep, hrun]
  exact if_neg (Nat.succ_ne_zero k)

/-! ### The end of training -/

/-- Whether a side has failed its scan (R126). -/
def Training.failed (t : Training) : Side → Bool
  | .a => t.failedA
  | .b => t.failedB

/-- Whether a side's lane has shown an error since the scan (R127). -/
def Training.erred (t : Training) (x : Side) : Bool := nth t.bad (2 * sideNum x) false || nth t.bad (2 * sideNum x + 1) false

theorem State.trainEndSide_eq (s : State) (t : Training) (x : Side) : s.trainEndSide t x =
    if t.failed x then s else if t.erred x then s.trainFail x (laneBits x fun l => nth t.bad l false) else s.takeLock x 2 := by
  have herred : (laneBits x (fun l => nth t.bad l false) != 0) = t.erred x := by
    rw [Training.erred, Bool.eq_iff_iff, bne_iff_ne, Ne, laneBits_eq_zero_iff, Bool.or_eq_true]
    cases nth t.bad (2 * sideNum x) false <;> cases nth t.bad (2 * sideNum x + 1) false <;> decide
  rw [← herred]
  cases x <;> rfl

theorem State.sd_raise (s : State) (source code : Nat) (lo hi : Word) (x : Side) : (s.raise source code lo hi).sd x = s.sd x := by
  cases x <;> rfl

theorem State.sd_setFlag (s : State) (a i : Nat) (x : Side) : (s.setFlag a i).sd x = s.sd x :=
  State.sd_congr (s.setFlag_sideA a i) (s.setFlag_sideB a i) x

/-- A side that locks holds its lock, and the other is as it was. -/
theorem State.sd_takeLock (s : State) (x y : Side) (how : Nat) :
    ((s.takeLock x how).sd x).lock = true ∧ (y ≠ x → (s.takeLock x how).sd y = s.sd y) := by
  unfold State.takeLock
  dsimp only
  split
  · rw [State.sd_raise, State.sd_setFlag, State.sd_raise, State.sd_raise, State.sd_setFlag, State.sd_raise, State.sd_modSd, State.sd_modSd,
      if_pos rfl]
    exact ⟨rfl, fun hy => if_neg hy⟩
  · rw [State.sd_raise, State.sd_raise, State.sd_modSd, State.sd_modSd, if_pos rfl]
    exact ⟨rfl, fun hy => if_neg hy⟩

theorem State.flag_takeLock_mono {s : State} {i : Nat} (hi : i < 16) (x : Side) (how : Nat) (h : s.flag Reg.LINK_LINK_STATUS i = true) :
    (s.takeLock x how).flag Reg.LINK_LINK_STATUS i = true := by
  unfold State.takeLock
  dsimp only
  split
  · refine State.flag_setFlags_mono _ _ _ _ _ hi ?_
    refine Eq.trans ?_ h
    exact congrArg (fun w => bitOf w i) (State.reg_modSd s x _ _)
  · refine Eq.trans ?_ h
    exact congrArg (fun w => bitOf w i) (State.reg_modSd s x _ _)

section
variable {s : State} {t : Training} {x : Side}

/-- A side's end of training leaves the other side. -/
theorem State.sd_trainEndSide_other (t : Training) {y : Side} (hy : y ≠ x) : (s.trainEndSide t x).sd y = s.sd y := by
  rw [State.trainEndSide_eq]
  split
  · rfl
  · split
    · rw [State.sd_trainFail, if_neg hy]
    · exact (s.sd_takeLock x y 2).2 hy

theorem State.flag_trainEndSide_mono {i : Nat} (hi : i < 16) (h : s.flag Reg.LINK_LINK_STATUS i = true) :
    (s.trainEndSide t x).flag Reg.LINK_LINK_STATUS i = true := by
  rw [State.trainEndSide_eq]
  split
  · exact h
  · split
    · exact State.flag_trainFail_mono hi x _ h
    · exact State.flag_takeLock_mono hi x 2 h

theorem State.trainEndSide_clean (hfailed : t.failed x = false) (herred : t.erred x = false) : ((s.trainEndSide t x).sd x).lock = true := by
  rw [State.trainEndSide_eq, hfailed, herred]
  exact (s.sd_takeLock x x 2).1

theorem State.trainEndSide_erred (hfailed : t.failed x = false) (herred : t.erred x = true) : ((s.trainEndSide t x).sd x).lock = false ∧
    (s.trainEndSide t x).flag Reg.LINK_LINK_STATUS (5 + sideNum x) = true := by
  rw [State.trainEndSide_eq, hfailed, herred]
  refine ⟨?_, State.flag_trainFail _ _ _⟩
  show ((s.trainFail x _).sd x).lock = false
  rw [State.sd_trainFail, if_pos rfl]
  rfl

end

section
variable {s : State} {r : Training} (hbetween : s.between) (hrunning : s.running = true) (htraining : s.link.training = some r)

/-- Both sides have ended their training (R127). -/
def State.sidesTrained (s : State) (r : Training) : State :=
  ((({ s with link := { s.link with training := none } } : State).trainEndSide r .a).trainEndSide r .b).judgeDropped s

include htraining in
theorem State.trainingEnd_eq : s.trainingEnd = if s.running && s.elapsed r.start (trainTicks s.clk.daylight) then
    { s.sidesTrained r with outA := (s.sidesTrained r).outResume .a, outB := (s.sidesTrained r).outResume .b } else s := by
  rw [State.trainingEnd, htraining]
  rfl

theorem State.link_trainEndSide (u : State) (t : Training) (x : Side) : (u.trainEndSide t x).link = u.link := by
  rw [State.trainEndSide_eq]
  split
  · rfl
  · split
    · exact (u.trainFail_leaves x _).1.1 .link (by decide)
    · exact (State.conf_takeLock x 2 (conf_refl u [.sset, .bumped, .caused, .sideA, .sideB, .fixer] fun _ => True) (List.Subset.refl _)
        fun _ _ => trivial).1.1 .link (by decide)

theorem State.link_sidesTrained : (s.sidesTrained r).link = { s.link with training := none } := by
  refine ((State.judgeDropped_leaves _ s).1.1 .link (by decide)).trans ?_
  rw [State.link_trainEndSide, State.link_trainEndSide]

/-- Each side after training: in lock without an error, without lock and with its flag where a lane showed one (R127). -/
theorem State.sidesTrained_side (x : Side) (hfailed : r.failed x = false) :
    (r.erred x = false → ((s.sidesTrained r).sd x).lock = true) ∧
    (r.erred x = true → ((s.sidesTrained r).sd x).lock = false ∧ (s.sidesTrained r).flag Reg.LINK_LINK_STATUS (5 + sideNum x) = true) := by
  rw [State.sidesTrained, State.sd_judgeDropped, State.flag_judgeDropped]
  cases x with
  | a =>
    rw [State.sd_trainEndSide_other r (by decide)]
    refine ⟨State.trainEndSide_clean hfailed, fun herred => ?_⟩
    obtain ⟨hlock, hflag⟩ := State.trainEndSide_erred (s := { s with link := { s.link with training := none } }) hfailed herred
    exact ⟨hlock, State.flag_trainEndSide_mono (by decide) hflag⟩
  | b => exact ⟨State.trainEndSide_clean hfailed, State.trainEndSide_erred hfailed⟩

/-- What an output is after training is training again in a pad loop alone (R115, R127). -/
theorem State.training_outResume (u : State) (y : Side) (hnone : u.link.training = none) :
    (u.outResume y).training = (u.link.loop.map (fun p => (p.1, p.2.1)) == some (1, y)) := by
  unfold State.outResume
  dsimp only
  rw [hnone]
  split
  · contradiction
  · split
    · next x f hloop =>
      rw [hloop]
      cases x <;> cases y <;> rfl
    · next x f hloop =>
      rw [hloop]
      rfl
    · next h1 h2 =>
      have hnot : (u.link.loop.map (fun p => (p.1, p.2.1)) == some (1, y)) = false := by
        refine beq_eq_false_iff_ne.2 fun h => ?_
        obtain ⟨⟨n, z, f⟩, hloop, hpair⟩ := Option.map_eq_some_iff.1 h
        obtain ⟨rfl, -⟩ := Prod.mk.inj hpair
        exact h1 z f hloop
      rw [hnot]
      split <;> rfl

include hbetween htraining in
theorem exec_trainingEnd_early (hearly : s.clk.ticks < r.start + (if s.clk.daylight then 128 else 48)) : exec .trainingEnd s = .next s := by
  have hdue : (s.running && s.elapsed r.start (trainTicks s.clk.daylight)) = false := by
    have helapsed : s.elapsed r.start (trainTicks s.clk.daylight) = false := decide_eq_false (Nat.not_le_of_lt hearly)
    rw [helapsed, Bool.and_false]
  show Host.Outcome.next s.trainingEnd.endCycle = _
  rw [State.trainingEnd_eq htraining, hdue, if_neg Bool.false_ne_true, State.endCycle_of_between hbetween]

include hrunning htraining in
/-- Ordinary frames begin, and each side that has not failed its scan is judged by its errors (R127). -/
theorem exec_trainingEnd (hdue : r.start + (if s.clk.daylight then 128 else 48) ≤ s.clk.ticks) :
    ∃ t, exec .trainingEnd s = .next t ∧ t.link.training = none ∧
      t.outA.training = (s.link.loop.map (fun p => (p.1, p.2.1)) == some (1, .a)) ∧
      t.outB.training = (s.link.loop.map (fun p => (p.1, p.2.1)) == some (1, .b)) ∧
      (nth r.bad 0 false = false → nth r.bad 1 false = false → r.failedA = false → t.sideA.lock = true) ∧
      (nth r.bad 2 false = false → nth r.bad 3 false = false → r.failedB = false → t.sideB.lock = true) ∧
      (nth r.bad 0 false = true ∨ nth r.bad 1 false = true → r.failedA = false →
        t.sideA.lock = false ∧ t.flag Reg.LINK_LINK_STATUS 5 = true) ∧
      (nth r.bad 2 false = true ∨ nth r.bad 3 false = true → r.failedB = false →
        t.sideB.lock = false ∧ t.flag Reg.LINK_LINK_STATUS 6 = true) := by
  have hgo : (s.running && s.elapsed r.start (trainTicks s.clk.daylight)) = true := by
    rw [hrunning, State.elapsed]
    exact decide_eq_true hdue
  have hstep : s.trainingEnd =
      { s.sidesTrained r with outA := (s.sidesTrained r).outResume .a, outB := (s.sidesTrained r).outResume .b } := by
    rw [State.trainingEnd_eq htraining, if_pos hgo]
  have hlink : (s.sidesTrained r).link = { s.link with training := none } := State.link_sidesTrained
  have hout : ∀ y, ((s.sidesTrained r).outResume y).training = (s.link.loop.map (fun p => (p.1, p.2.1)) == some (1, y)) := fun y => by
    rw [State.training_outResume _ _ (by rw [hlink]), hlink]
  refine ⟨_, congrArg (fun u : State => Host.Outcome.next u.endCycle) hstep, ?_⟩
  rw [State.endCycle_link, State.endCycle_outA, State.endCycle_outB, State.endCycle_sideA, State.endCycle_sideB,
    State.endCycle_flag _ 5 (by decide) (by decide), State.endCycle_flag _ 6 (by decide) (by decide)]
  refine ⟨congrArg Link.training hlink, hout .a, hout .b, fun h0 h1 hfailed => ?_, fun h2 h3 hfailed => ?_, fun hbad hfailed => ?_,
    fun hbad hfailed => ?_⟩
  · exact (State.sidesTrained_side .a hfailed).1 (Bool.or_eq_false_iff.2 ⟨h0, h1⟩)
  · exact (State.sidesTrained_side .b hfailed).1 (Bool.or_eq_false_iff.2 ⟨h2, h3⟩)
  · exact (State.sidesTrained_side .a hfailed).2 (Bool.or_eq_true_iff.2 hbad)
  · exact (State.sidesTrained_side .b hfailed).2 (Bool.or_eq_true_iff.2 hbad)

end

/-! ### Power domains -/

section
variable {s : State}

/-- The domains come up in steps of 64 ticks (R523, R524). -/
theorem exec_domainSwitchOnStep {t0 : Nat} (hbetween : s.between) (hrunning : s.running = true) (htarget : s.clk.rcTarget = 1)
    (hstart : s.mode.stepStart = some t0) :
    (s.mode.steps < 4 → t0 + 64 * s.mode.steps ≤ s.clk.ticks →
      ∃ t, exec .domainSwitchOnStep s = .next t ∧ t = { s with mode := { s.mode with steps := s.mode.steps + 1 } }) ∧
    (4 ≤ s.mode.steps ∨ s.clk.ticks < t0 + 64 * s.mode.steps → exec .domainSwitchOnStep s = .next s) := by
  have hstep : s.domainStep = if s.running && s.clk.rcTarget == 1 && decide (s.mode.steps < 4) && s.elapsed t0 (64 * s.mode.steps) then
      { s with mode := { s.mode with steps := s.mode.steps + 1 } } else s := by
    rw [State.domainStep, hstart]
  have hexec : exec .domainSwitchOnStep s = .next s.domainStep.endCycle := rfl
  rw [hexec, hstep, hrunning, htarget]
  refine ⟨fun hsteps hdue => ?_, fun hnot => ?_⟩
  · rw [decide_eq_true hsteps, State.elapsed, decide_eq_true hdue, if_pos (by decide), State.endCycle_of_between (by exact hbetween)]
    exact ⟨_, rfl, rfl⟩
  · have hgo : (decide (s.mode.steps < 4) && s.elapsed t0 (64 * s.mode.steps)) = false := by
      rcases hnot with h | h
      · rw [decide_eq_false (by omega), Bool.false_and]
      · have helapsed : s.elapsed t0 (64 * s.mode.steps) = false := decide_eq_false (Nat.not_le_of_lt h)
        rw [helapsed, Bool.and_false]
    rw [Bool.and_assoc, hgo, Bool.and_false, if_neg Bool.false_ne_true, State.endCycle_of_between hbetween]

theorem State.startLoupe_domains (u : State) : u.startLoupe.mode.good = u.mode.good ∧ u.startLoupe.mode.steps = u.mode.steps := by
  unfold State.startLoupe
  split
  · exact ⟨rfl, rfl⟩
  · split
    · exact ⟨rfl, rfl⟩
    · have hmode : u.blankSensors.mode = u.mode :=
        (State.conf_blankSensors (conf_refl u [.loupe] fun _ => True) (List.Subset.refl _) fun _ _ => trivial).1.1 .mode (by decide)
      have hgood : u.blankSensors.mode.good = u.mode.good := congrArg Mode.good hmode
      have hsteps : u.blankSensors.mode.steps = u.mode.steps := congrArg Mode.steps hmode
      exact ⟨hgood, hsteps⟩

/-- Starting blocks changes the domains neither in what is good nor in their steps. -/
theorem State.startBlocks_domains (u : State) (b : Nat → Bool) : (u.startBlocks b).mode.good = u.mode.good ∧
    (u.startBlocks b).mode.steps = u.mode.steps := by
  let front := if b 0 then u.updateBiases.updateChans else u
  let filters := if b 1 then front.hqBegin.aperBegin else front
  have hfilters : Confined u [.front, .decim, .aper] (fun _ => True) filters := by
    have hfront : Confined u [.front, .decim, .aper] (fun _ => True) front := by
      unfold front
      split
      · exact State.conf_updateChans (State.conf_updateBiases (conf_refl u _ _) (by decide) fun _ _ => trivial) (by decide) fun _ _ => trivial
      · exact conf_refl u _ _
    unfold filters
    split
    · exact State.conf_aperBegin (State.conf_hqBegin hfront (by decide) fun _ _ => trivial) (by decide) fun _ _ => trivial
    · exact hfront
  have hmode : filters.mode = u.mode := hfilters.1.1 .mode (by decide)
  have hstart : u.startBlocks b = if b 5 then filters.startLoupe else filters := rfl
  obtain ⟨hgood, hsteps⟩ := filters.startLoupe_domains
  rw [hstart, ← hmode]
  split
  · exact ⟨hgood, hsteps⟩
  · exact ⟨rfl, rfl⟩

theorem State.startBlocks_none {u : State} {b : Nat → Bool} (h : ∀ n, b n = false) : u.startBlocks b = u := by
  unfold State.startBlocks
  rw [h, h, h]
  rfl

/-- A domain that is power-good, before its blocks start (R525). -/
def State.domainUp (s : State) (d : Nat) : State := { s with mode := { s.mode with good := s.mode.good.set d true } }

/-- The blocks that a domain lets start (R526). -/
def State.blocksOf (s : State) (d n : Nat) : Bool := (s.domainUp d).blockUp n && !((List.range 7).filter fun b => s.blockUp b).contains n

/-- A domain whose step has come reports power-good, and its blocks start (R525, R526). -/
theorem exec_domainPowerGood {d : Nat} (hrunning : s.running = true) (hd : d < 4) (hstep : d < s.mode.steps) (hlen : s.mode.good.length = 4)
    (hgood : nth s.mode.good d true = false) :
    ∃ t, exec (.domainPowerGood d) s = .next t ∧ (∀ j, j < 4 → nth t.mode.good j false = (j == d || nth s.mode.good j false)) ∧
      t.mode.steps = s.mode.steps ∧ t.clk = s.clk ∧ t.print = s.print ∧
      (s.clk.daylight = false → t.front = s.front ∧ t.loupe = s.loupe ∧ t.decim = s.decim) := by
  have hgo : (s.running && decide (d < s.mode.steps) && !nth s.mode.good d true) = true := by
    rw [hrunning, decide_eq_true hstep, hgood]
    rfl
  have hup : s.domainGood d = (s.domainUp d).startBlocks (s.blocksOf d) := by
    unfold State.domainGood
    rw [if_pos hgo]
    rfl
  have hleaves := State.conf_startBlocks (s.blocksOf d) (conf_refl (s.domainUp d) [.front, .decim, .aper, .mode, .loupe] fun _ => True)
    (List.Subset.refl _) fun _ _ => trivial
  obtain ⟨hgoods, hsteps⟩ := (s.domainUp d).startBlocks_domains (s.blocksOf d)
  refine ⟨_, congrArg (fun u : State => Host.Outcome.next u.endCycle) hup, ?_⟩
  rw [State.endCycle_mode, State.endCycle_clk, State.endCycle_print, State.endCycle_front, State.endCycle_loupe, State.endCycle_decim,
    hgoods, hsteps]
  refine ⟨fun j hj => ?_, rfl, hleaves.1.1 .clk (by decide), hleaves.1.1 .print (by decide), fun hnight => ?_⟩
  · by_cases hjd : j = d
    · subst hjd
      rw [beq_self_eq_true, Bool.true_or]
      simp [State.domainUp, nth, List.getD_eq_getElem?_getD, hlen, hd]
    · rw [beq_eq_false_iff_ne.2 hjd, Bool.false_or]
      simp [State.domainUp, nth, List.getD_eq_getElem?_getD, List.getElem?_set_ne (Ne.symm hjd)]
  · have hnone : ∀ n, s.blocksOf d n = false := fun n => by
      have hdown : (s.domainUp d).blockUp n = false := by
        rw [State.blockUp]
        exact Bool.and_eq_false_iff.2 (.inl hnight)
      rw [State.blocksOf, hdown, Bool.false_and]
    rw [State.startBlocks_none hnone]
    exact ⟨rfl, rfl, rfl⟩

theorem exec_domainPowerGood_early {d : Nat} (hbetween : s.between) (hearly : s.mode.steps ≤ d) : exec (.domainPowerGood d) s = .next s := by
  have hgo : (s.running && decide (d < s.mode.steps) && !nth s.mode.good d true) = false := by
    rw [decide_eq_false (by omega), Bool.and_false, Bool.false_and]
  have hstays : s.domainGood d = s := by
    unfold State.domainGood
    rw [hgo]
    rfl
  show Host.Outcome.next (s.domainGood d).endCycle = _
  rw [hstays, State.endCycle_of_between hbetween]

end

/-- Settles O46: each of these ends has its tick, and what it does to a side or a domain is said side by side. -/
theorem trainingAndDomainsComplete : Obligations.TrainingAndDomainsComplete := by
  unfold Obligations.TrainingAndDomainsComplete
  exact ⟨fun s r hbetween hrunning hday htraining hcentred => ⟨exec_trainingCentre_early hbetween htraining,
      exec_trainingCentre hrunning htraining hday hcentred⟩,
    fun a n _ _ hn _ => centreStep_range' hn,
    fun s r hbetween hrunning htraining => ⟨exec_trainingEnd_early hbetween htraining, exec_trainingEnd hrunning htraining⟩,
    fun s t0 hbetween hrunning htarget hstart => exec_domainSwitchOnStep hbetween hrunning htarget hstart,
    fun s d hrunning hd hstep hlen hgood => exec_domainPowerGood hrunning hd hstep hlen hgood,
    fun s d hbetween hearly => exec_domainPowerGood_early hbetween hearly⟩

end Sys2Proof.Machine
end

section
/-! PROOFS. The carrier search and its order (R599 to R602), and the judgement of verification windows (R606 to R611); and the statement drawn
from them. -/

namespace Sys2Proof.Machine

/-! ### The order of a search -/

/-- Of two frequencies the one that lies nearer to `n`, or as near above it, comes first (R601). -/
def Nearer (n f g : Nat) : Prop :=
  (f - n : Int).natAbs < (g - n : Int).natAbs ∨ ((f - n : Int).natAbs = (g - n : Int).natAbs ∧ g < f)

/-- The candidates outside F_NOM, by their distance from it. -/
def Search.around (q : Search) : List Nat := (List.range 1000).flatMap fun i => [q.fNom + (i + 1), q.fNom - (i + 1)]

theorem Search.candidates_eq (q : Search) :
    q.candidates = (q.fNom :: q.around).filter fun f => decide (q.fMin ≤ f) && decide (f ≤ q.fMax) := rfl

section
variable {q : Search} (hgood : q.bad = none)

include hgood in
theorem Search.window_of_good : 150 ≤ q.fMin ∧ q.fMin ≤ q.fNom ∧ q.fNom ≤ q.fMax ∧ q.fMax ≤ 1000 := by
  rw [Search.bad_eq] at hgood
  by_contra hwin
  rw [if_neg hwin] at hgood
  split at hgood <;> contradiction

include hgood in
/-- Every frequency of the window is a candidate. -/
theorem Search.mem_candidates {g : Nat} : g ∈ q.candidates ↔ q.fMin ≤ g ∧ g ≤ q.fMax := by
  obtain ⟨hlow, hmin, hmax, hhigh⟩ := Search.window_of_good hgood
  rw [Search.candidates_eq, List.mem_filter, Bool.and_eq_true, decide_eq_true_iff, decide_eq_true_iff]
  refine ⟨And.right, fun hwin => ⟨?_, hwin⟩⟩
  rw [List.mem_cons, Search.around, List.mem_flatMap]
  obtain h | h | h := Nat.lt_trichotomy g q.fNom
  · exact .inr ⟨q.fNom - g - 1, List.mem_range.2 (by omega), by simp; omega⟩
  · exact .inl h
  · exact .inr ⟨g - q.fNom - 1, List.mem_range.2 (by omega), by simp; omega⟩

include hgood in
/-- The candidates stand in the order of their distance (R601). -/
theorem Search.pairwise_candidates : q.candidates.Pairwise (Nearer q.fNom) := by
  obtain ⟨hlow, hmin, hmax, hhigh⟩ := Search.window_of_good hgood
  rw [Search.candidates_eq, List.pairwise_filter, List.pairwise_cons]
  have hwin : ∀ f, (decide (q.fMin ≤ f) && decide (f ≤ q.fMax)) = true ↔ q.fMin ≤ f ∧ f ≤ q.fMax := fun f => by
    rw [Bool.and_eq_true, decide_eq_true_iff, decide_eq_true_iff]
  simp only [hwin, Search.around, List.mem_flatMap, List.mem_range]
  refine ⟨?_, List.pairwise_flatMap.2 ⟨fun i hi => ?_, ?_⟩⟩
  · rintro f ⟨i, hi, hf⟩ - -
    simp only [List.mem_cons, List.not_mem_nil, or_false] at hf
    unfold Nearer
    omega
  · simp only [List.pairwise_cons, List.mem_cons, List.not_mem_nil, or_false, forall_eq, List.Pairwise.nil, and_true, IsEmpty.forall_iff,
      implies_true]
    unfold Nearer
    omega
  · refine List.pairwise_lt_range.imp fun {i k} hik f hf g hg _ _ => ?_
    simp only [List.mem_cons, List.not_mem_nil, or_false] at hf hg
    unfold Nearer
    omega

include hgood in
/-- A search that finds nothing has found no frequency of the window that clears. -/
theorem Search.first_none {hs : List Nat} (hfirst : q.first hs = none) {g : Nat} (hmin : q.fMin ≤ g) (hmax : g ≤ q.fMax) :
    clears q.carriers hs g = false :=
  Bool.eq_false_of_not_eq_true (List.find?_eq_none.1 hfirst g ((Search.mem_candidates hgood).2 ⟨hmin, hmax⟩))

include hgood in
/-- What a search finds clears, and comes before every other frequency of the window that does (R601). -/
theorem Search.first_some {hs : List Nat} {f : Nat} (hfirst : q.first hs = some f) : q.fMin ≤ f ∧ f ≤ q.fMax ∧ clears q.carriers hs f = true ∧
    ∀ g, q.fMin ≤ g → g ≤ q.fMax → clears q.carriers hs g = true → g ≠ f → Nearer q.fNom f g := by
  obtain ⟨hclears, as, bs, hsplit, hbefore⟩ := List.find?_eq_some_iff_append.1 hfirst
  have hmem : f ∈ q.candidates := by rw [hsplit]; simp
  obtain ⟨hmin, hmax⟩ := (Search.mem_candidates hgood).1 hmem
  refine ⟨hmin, hmax, hclears, fun g hgmin hgmax hg hne => ?_⟩
  have hgmem : g ∈ as ++ f :: bs := hsplit ▸ (Search.mem_candidates hgood).2 ⟨hgmin, hgmax⟩
  have hpair := Search.pairwise_candidates hgood
  rw [hsplit, List.pairwise_append, List.pairwise_cons] at hpair
  obtain ⟨-, ⟨hafter, -⟩, -⟩ := hpair
  rcases List.mem_append.1 hgmem with h | h
  · exact absurd hg (by simpa using hbefore g h)
  · rcases List.mem_cons.1 h with h | h
    · exact absurd h hne
    · exact hafter g h

end

/-- The mode and the frequency of a search follow its mode and what it finds, steering before staggering (R601). -/
theorem Search.result_eq (q : Search) (p : Nat) : q.result p =
    match q.mode, q.first [1, 2, 3, 4, 5, 6], (if p < 2 then none else q.first ([1, 2, 3, 4, 5, 6].filter (fun h => h % p == 0))) with
    | 0, _, _ => (0, 0)
    | 2, some f, _ => (1, f)
    | 2, none, _ => (3, q.fNom)
    | 3, _, some f => (2, f)
    | 3, _, none => (3, q.fNom)
    | _, some f, _ => (1, f)
    | _, none, some f => (2, f)
    | _, none, none => (3, q.fNom) := by
  have hsteer : q.first steerHarmonics = q.first [1, 2, 3, 4, 5, 6] := rfl
  have hstagger : q.first (steerHarmonics.filter fun h => h % p == 0) = q.first ([1, 2, 3, 4, 5, 6].filter fun h => h % p == 0) := rfl
  simp only [Search.result, hsteer, hstagger]
  generalize q.first [1, 2, 3, 4, 5, 6] = steer
  generalize q.first ([1, 2, 3, 4, 5, 6].filter fun h => h % p == 0) = stagger
  rcases q.mode with _ | _ | _ | _ | m
  · rfl
  all_goals
    by_cases hp : p < 2 <;> cases steer <;> cases stagger <;> simp [hp]

/-! ### The end of a search -/

/-- The result of a search is in force, for a channel with a measurement in progress from its next one (R601). -/
def State.searchEnded (s : State) (q : Search) (p : Nat) : State :=
  { s with stage := { s.stage with
      search := none, resMode := (q.result p).1, resP := p, resFreq := (q.result p).2, resAt := s.clk.ticks
      group := idxWhere 8 (fun n => s.flag Reg.PRINT_CH_EN n)
      ch := s.stage.ch.map (fun (c : StageCh) => if c.measuring then c else c.takeResult (q.result p).1 (q.result p).2) } }

/-- A conflict has its flag (R601). -/
def State.searchFlagged (s : State) (q : Search) (p : Nat) : State :=
  if (q.result p).1 = 3 then (s.searchEnded q p).setFlag Reg.STAGE_STAGE_STATUS 4 else s.searchEnded q p

theorem State.finishSearch_eq {s : State} {q : Search} {p : Nat} (hsearch : s.stage.search = some q)
    (hp : p = (idxWhere 8 (fun n => s.flag Reg.PRINT_CH_EN n)).length) : s.finishSearch =
      (s.searchFlagged q p).raise Log.STAGE 4 (ofBytes (q.result p).1 p ((q.result p).2 % 256) ((q.result p).2 / 256)) := by
  subst hp
  unfold State.finishSearch
  rw [hsearch]
  rfl

theorem State.searchFlagged_leaves (s : State) (q : Search) (p : Nat) : (s.searchFlagged q p).stage = (s.searchEnded q p).stage ∧
    (s.searchFlagged q p).fixer = s.fixer ∧ (s.searchFlagged q p).clk = s.clk ∧
    (if (q.result p).1 = 3 then (s.searchFlagged q p).flag Reg.STAGE_STAGE_STATUS 4 = true ∧
      KeepsRegs s (s.searchFlagged q p) [Reg.STAGE_STAGE_STATUS] else KeepsRegs s (s.searchFlagged q p) []) := by
  unfold State.searchFlagged
  split
  · exact ⟨State.setFlag_stage _ _ _, State.setFlag_fixer _ _ _, State.setFlag_clk _ _ _, State.flag_setFlag_same _ _ _ (by decide),
      (s.searchEnded q p).keepsRegs_setFlag _ _⟩
  · exact ⟨rfl, rfl, rfl, KeepsRegs.refl s _⟩

theorem StageCh.takeResult_takes (mode freq : Nat) (c : StageCh) : (c.takeResult mode freq).mMode = mode ∧
    (c.takeResult mode freq).mFreq = freq ∧ (c.takeResult mode freq).code = c.code := by
  unfold StageCh.takeResult
  split <;> exact ⟨rfl, rfl, rfl⟩

theorem State.stageCh_searchEnded {s : State} {n : Nat} (q : Search) (p : Nat) (hn : n < s.stage.ch.length) :
    (s.searchEnded q p).stageCh n =
      if (s.stageCh n).measuring then s.stageCh n else (s.stageCh n).takeResult (q.result p).1 (q.result p).2 := by
  simp [State.searchEnded, State.stageCh, nth, List.getD_eq_getElem?_getD, hn]

/-- The end of a search puts its result in force (R601, R617). -/
theorem exec_steerSearchDone {s : State} {q : Search} {p : Nat} (hroom : s.roomFor 1) (hacting : s.acting = true) (hup : s.blockUp 4 = true)
    (hsearch : s.stage.search = some q) (hp : p = ((List.range 8).filter (fun n => s.flag Reg.PRINT_CH_EN n)).length) :
    ∃ t, exec .steerSearchDone s = .next t ∧ t.stage.search = none ∧ t.stage.snap = s.stage.snap ∧
      (s.stage.ch.length = 8 → ∀ n, n < 8 → ((s.stageCh n).measuring = true → t.stageCh n = s.stageCh n) ∧
        ((s.stageCh n).measuring = false → (t.stageCh n).mMode = (q.result p).1 ∧ (t.stageCh n).mFreq = (q.result p).2 ∧
          (t.stageCh n).code = (s.stageCh n).code)) ∧
      t.steerResult = pack [(16, 10, (q.result p).2), (8, 4, p), (0, 2, (q.result p).1)] ∧
      (if (q.result p).1 = 3 then t.flag Reg.STAGE_STAGE_STATUS 4 = true ∧ KeepsRegs s t [Reg.STAGE_STAGE_STATUS] else KeepsRegs s t []) ∧
      Logged s t [s.entry Log.STAGE 4 (ofBytes (q.result p).1 p ((q.result p).2 % 256) ((q.result p).2 / 256)) 0] := by
  have hgo : (s.acting && s.blockUp 4) = true := by rw [hacting, hup, Bool.and_self]
  obtain ⟨hstage, hfixer, hclk, hflags⟩ := s.searchFlagged_leaves q p
  have hkeeps : KeepsRegs s (s.searchFlagged q p) [Reg.STAGE_STAGE_STATUS] := by
    split at hflags
    · exact hflags.2
    · exact fun a _ => hflags a List.not_mem_nil
  have hraised : s.finishSearch.fixer.raised =
      [s.entry Log.STAGE 4 (ofBytes (q.result p).1 p ((q.result p).2 % 256) ((q.result p).2 / 256)) 0] := by
    rw [State.finishSearch_eq hsearch hp, State.raised_raise_entry, hfixer, hroom.1.1]
    exact congrArg (fun e => [e]) (State.entry_congr _ _ _ _ hclk (hkeeps _ (by decide)))
  have hstaged : s.finishSearch.fixer.staged = s.fixer.staged := by
    rw [State.finishSearch_eq hsearch hp]
    show (s.searchFlagged q p).fixer.staged = s.fixer.staged
    rw [hfixer]
  have hregs : ∀ a, s.finishSearch.reg a = (s.searchFlagged q p).reg a := fun a => by
    rw [State.finishSearch_eq hsearch hp, State.reg_raise]
  have hstage' : s.finishSearch.endCycle.stage = (s.searchEnded q p).stage := by
    rw [State.endCycle_stage, State.finishSearch_eq hsearch hp]
    exact hstage
  refine ⟨_, exec_due rfl hgo, by rw [hstage']; rfl, by rw [hstage']; rfl, fun hlen n hn => ?_, by rw [State.steerResult, hstage']; rfl, ?_,
    State.logged_endCycle_one hroom hstaged hraised⟩
  · have hch : s.finishSearch.endCycle.stageCh n = (s.searchEnded q p).stageCh n := by rw [State.stageCh, hstage']; rfl
    rw [hch, State.stageCh_searchEnded q p (hlen.symm ▸ hn)]
    refine ⟨fun hm => if_pos hm, fun hm => ?_⟩
    rw [if_neg (ne_of_eq_of_ne hm Bool.false_ne_true)]
    exact StageCh.takeResult_takes _ _ _
  · split at hflags
    · next hmode =>
      obtain ⟨hflag, hkept⟩ := hflags
      rw [if_pos hmode]
      refine ⟨?_, State.keepsRegs_endCycle hroom hstaged (by rw [hraised]; exact Nat.le_refl 1) fun a ha => (hregs a).trans (hkept a ha)⟩
      rw [State.endCycle_flag _ _ (by decide) (by decide), State.flag, hregs]
      exact hflag
    · next hmode =>
      rw [if_neg hmode]
      exact State.keepsRegs_endCycle hroom hstaged (by rw [hraised]; exact Nat.le_refl 1) fun a ha => (hregs a).trans (hflags a ha)

end Sys2Proof.Machine
end

section
/-! PROOFS. The judgement of verification windows (R606 to R611); and the statement on searches and windows. -/

namespace Sys2Proof.Machine

/-! ### A pass over the channels, seen from one of them -/

/-- A pass over places seen from one of them: what the others' visits keep stands when the place's turn comes, and after it. -/
theorem foldl_seen_from {f : State → Nat → State} {R : State → State → Prop} (refl : ∀ s, R s s)
    (trans : ∀ a b c, R a b → R b c → R a c)
    {n : Nat} {l : List Nat} (hothers : ∀ s m, m ∈ l → m ≠ n → R s (f s m)) (hn : n ∈ l) (hnodup : l.Nodup) (s : State) :
    ∃ a, R s a ∧ R (f a n) (l.foldl f s) := by
  have hpass : ∀ (k : List Nat) (s : State), k ⊆ l → n ∉ k → R s (k.foldl f s) := by
    intro k
    induction k with
    | nil => exact fun s _ _ => refl s
    | cons m k ih =>
      intro s hsub hnot
      rw [List.mem_cons, not_or] at hnot
      obtain ⟨hne, hnot⟩ := hnot
      exact trans _ _ _ (hothers s m (hsub List.mem_cons_self) (Ne.symm hne)) (ih _ (fun x hx => hsub (List.mem_cons_of_mem m hx)) hnot)
  obtain ⟨before, after, rfl⟩ := List.append_of_mem hn
  obtain ⟨-, hafter, hdisjoint⟩ := List.nodup_append.1 hnodup
  refine ⟨before.foldl f s, hpass before s (List.subset_append_left _ _) fun h => hdisjoint n h n List.mem_cons_self rfl, ?_⟩
  rw [List.foldl_append, List.foldl_cons]
  exact hpass after _ (fun x hx => List.mem_append_right _ (List.mem_cons_of_mem n hx)) (List.nodup_cons.1 hafter).1

/-! ### What a window's end may do -/

/-- What the end of a channel's window leaves: the clock, the drives, every register but VERIFY_STATUS, what is staged and what is raised already;
it raises at most `m` entries. -/
structure State.WindowStep (s u : State) (m : Nat) : Prop where
  clk : u.clk = s.clk
  print : u.print = s.print
  length : u.stage.ch.length = s.stage.ch.length
  regs : KeepsRegs s u [Reg.STAGE_VERIFY_STATUS]
  staged : u.fixer.staged = s.fixer.staged
  raised : ∀ e ∈ s.fixer.raised, e ∈ u.fixer.raised
  count : u.fixer.raised.length ≤ s.fixer.raised.length + m

theorem State.WindowStep.refl (s : State) (m : Nat) : s.WindowStep s m :=
  ⟨rfl, rfl, rfl, KeepsRegs.refl s _, rfl, fun _ h => h, Nat.le_add_right _ _⟩

theorem State.WindowStep.trans {s u w : State} {m m' : Nat} (h : s.WindowStep u m) (h' : u.WindowStep w m') : s.WindowStep w (m + m') where
  clk := h'.clk.trans h.clk
  print := h'.print.trans h.print
  length := h'.length.trans h.length
  regs a ha := (h'.regs a ha).trans (h.regs a ha)
  staged := h'.staged.trans h.staged
  raised e he := h'.raised e (h.raised e he)
  count := by
    have := h.count
    have := h'.count
    omega

theorem State.WindowStep.modStage (s : State) (n m : Nat) (f : StageCh → StageCh) : s.WindowStep (s.modStage n f) m :=
  ⟨rfl, rfl, List.length_modify _ _ _, KeepsRegs.refl s _, rfl, fun _ h => h, Nat.le_add_right _ _⟩

/-- What channel `n` sees of another channel's window: nothing of its own changes. -/
structure State.SparesWindow (n : Nat) (s u : State) : Prop where
  clk : u.clk = s.clk
  print : u.print = s.print
  length : u.stage.ch.length = s.stage.ch.length
  regs : KeepsRegs s u [Reg.STAGE_VERIFY_STATUS]
  raised : ∀ e ∈ s.fixer.raised, e ∈ u.fixer.raised
  channel : u.stageCh n = s.stageCh n
  flags : u.flag Reg.STAGE_VERIFY_STATUS n = s.flag Reg.STAGE_VERIFY_STATUS n ∧
    u.flag Reg.STAGE_VERIFY_STATUS (8 + n) = s.flag Reg.STAGE_VERIFY_STATUS (8 + n)

theorem State.SparesWindow.refl (n : Nat) (s : State) : State.SparesWindow n s s :=
  ⟨rfl, rfl, rfl, KeepsRegs.refl s _, fun _ h => h, rfl, rfl, rfl⟩

theorem State.SparesWindow.trans (n : Nat) (s u w : State) (h : State.SparesWindow n s u) (h' : State.SparesWindow n u w) :
    State.SparesWindow n s w where
  clk := h'.clk.trans h.clk
  print := h'.print.trans h.print
  length := h'.length.trans h.length
  regs a ha := (h'.regs a ha).trans (h.regs a ha)
  raised e he := h'.raised e (h.raised e he)
  channel := h'.channel.trans h.channel
  flags := ⟨h'.flags.1.trans h.flags.1, h'.flags.2.trans h.flags.2⟩

theorem State.WindowStep.spares {s u : State} {m n : Nat} (h : s.WindowStep u m) (hch : u.stageCh n = s.stageCh n)
    (hflags : ∀ i, i = n ∨ i = 8 + n → u.flag Reg.STAGE_VERIFY_STATUS i = s.flag Reg.STAGE_VERIFY_STATUS i) : State.SparesWindow n s u :=
  ⟨h.clk, h.print, h.length, h.regs, h.raised, hch, hflags n (.inl rfl), hflags (8 + n) (.inr rfl)⟩

/-! ### A window that fails -/

/-- A failing window's flag and entry, of the gain (kind 0) or the sign (kind 1) (R609, R610). -/
def State.noteWindow (s : State) (n i kind : Nat) (g : Int) (start : Word) (fails : Bool) : State :=
  if fails then (s.setFlag Reg.STAGE_VERIFY_STATUS i).raise Log.STAGE 8 (ofBytes n kind (wrapInt 16 g % 256) (wrapInt 16 g / 256)) start
  else s

section
variable (s : State) (n i kind : Nat) (g : Int) (start : Word) (fails : Bool)

theorem State.WindowStep.noteWindow : s.WindowStep (s.noteWindow n i kind g start fails) 1 := by
  unfold State.noteWindow
  split
  · refine ⟨?_, ?_, ?_, s.keepsRegs_setFlag _ _, ?_, fun e he => ?_, ?_⟩
    · exact s.setFlag_clk _ _
    · exact s.setFlag_print _ _
    · exact congrArg (fun x : Stage => x.ch.length) (s.setFlag_stage _ _)
    · show (s.setFlag Reg.STAGE_VERIFY_STATUS i).fixer.staged = s.fixer.staged
      rw [State.setFlag_fixer]
    · rw [State.raised_raise_entry, State.setFlag_fixer]
      exact List.mem_append_left _ he
    · rw [State.raised_raise_entry, State.setFlag_fixer, List.length_append]
      rfl
  · exact .refl s 1

theorem State.stageCh_noteWindow (j : Nat) : (s.noteWindow n i kind g start fails).stageCh j = s.stageCh j := by
  unfold State.noteWindow
  split
  · rw [State.stageCh, State.stageCh]
    exact congrArg (fun x : Stage => nth x.ch j {}) (s.setFlag_stage _ _)
  · rfl

theorem State.flag_noteWindow {k : Nat} (hi : i < 16) (hk : k < 16) : (s.noteWindow n i kind g start fails).flag Reg.STAGE_VERIFY_STATUS k =
    (s.flag Reg.STAGE_VERIFY_STATUS k || (fails && decide (k = i))) := by
  unfold State.noteWindow
  split
  · next h =>
    rw [h, Bool.true_and]
    by_cases hki : k = i
    · subst hki
      rw [decide_eq_true rfl, Bool.or_true]
      exact s.flag_setFlag_same _ k hi
    · rw [decide_eq_false hki, Bool.or_false]
      exact s.flag_setFlag_other _ hi hk hki
  · next h => rw [Bool.eq_false_of_not_eq_true h, Bool.false_and, Bool.or_false]

/-- A note's entry is raised. -/
theorem State.mem_raised_noteWindow (hfails : fails = true) : s.entry Log.STAGE 8 (ofBytes n kind (wrapInt 16 g % 256) (wrapInt 16 g / 256)) start ∈
    (s.noteWindow n i kind g start fails).fixer.raised := by
  rw [State.noteWindow, if_pos hfails, State.raised_raise_entry]
  refine List.mem_append_right _ ?_
  rw [State.entry_congr (s := s) _ _ _ _ (s.setFlag_clk _ _) (State.reg_setFlag_other _ _ (by decide))]
  exact List.mem_cons_self

end

/-! ### The judgement of a window -/

/-- The gain of a window in its range (R608). -/
def windowGain (g : Int) : Int := clampInt (-2048) 2047 g

/-- A window with its gain in LAST (R608). -/
def State.lastTaken (s : State) (n : Nat) (g : Int) : State := s.modStage n fun c => { c with last := some (windowGain g) }

/-- Whether a window's gain departs from the reference `v` by more than the bound (R609). -/
def State.departs (s : State) (g v : Int) : Bool := decide (4 * (s.fld Reg.STAGE_VERIFY_CFG 15 8 : Int) < ((windowGain g - v).natAbs : Int))

/-- A window whose failures are taken into the channel's run. -/
def State.runTaken (s : State) (n : Nat) (g : Int) (fails : Bool) : State := (s.lastTaken n g).modStage n fun c => { c with failing := fails }

section
variable {s : State} {n : Nat} (hn : n < s.stage.ch.length)

include hn in
theorem State.verifyRef_lastTaken (g : Int) : (s.lastTaken n g).verifyRef n = s.verifyRef n := by
  have href : ((s.lastTaken n g).stageCh n).ref = (s.stageCh n).ref := by
    rw [State.lastTaken, State.stageCh_modStage_same _ n _ hn]
  unfold State.verifyRef
  rw [href]
  rfl

include hn in
/-- With no reference in force the window becomes it (R609). -/
theorem State.judgeWindow_none {g : Int} {neg : Bool} (href : s.verifyRef n = none) :
    s.judgeWindow n g neg = (s.lastTaken n g).modStage n fun c => { c with ref := some (windowGain g, neg) } := by
  have href' : (s.modStage n fun c => { c with last := some (clampInt (-2048) 2047 g) }).verifyRef n = none :=
    (State.verifyRef_lastTaken hn g).trans href
  simp only [State.judgeWindow, href']
  rfl

include hn in
/-- With a reference in force the window is judged against it (R609, R610). -/
theorem State.judgeWindow_some {g v : Int} {neg vneg : Bool} (href : s.verifyRef n = some (v, vneg)) : s.judgeWindow n g neg =
    ((s.runTaken n g (s.departs g v || (neg != vneg))).noteWindow n n 0 (windowGain g) (s.epoch32 - 24000)
      (((s.departs g v || (neg != vneg)) && !(s.stageCh n).failing) && s.departs g v)).noteWindow n (8 + n) 1 (windowGain g) (s.epoch32 - 24000)
      (((s.departs g v || (neg != vneg)) && !(s.stageCh n).failing) && (neg != vneg)) := by
  have href' : (s.modStage n fun c => { c with last := some (clampInt (-2048) 2047 g) }).verifyRef n = some (v, vneg) :=
    (State.verifyRef_lastTaken hn g).trans href
  have hrun : ((s.modStage n fun c => { c with last := some (clampInt (-2048) 2047 g) }).stageCh n).failing = (s.stageCh n).failing := by
    rw [State.stageCh_modStage_same _ n _ hn]
  simp only [State.judgeWindow, href', hrun]
  rfl

/-- Whether a window is judged (R606, R607). -/
def State.windowCounts (s : State) (n : Nat) : Bool := s.verifies n && (s.stageCh n).whole && s.driveLoud n

/-- The gain of a window, at the step above or below it (R608). -/
def State.windowLevel (s : State) (up : List Bool) (n : Nat) : Int :=
  gainLevel (nth up n false) ((s.stageCh n).verify.dm / (s.stageCh n).verify.dd)

/-- A window that has been judged where it counts. -/
def State.windowJudged (s : State) (up : List Bool) (n : Nat) : State :=
  if s.windowCounts n then s.judgeWindow n (s.windowLevel up n) (decide ((s.stageCh n).verify.dm < 0)) else s

include hn in
theorem State.WindowStep.judgeWindow (g : Int) (neg : Bool) : s.WindowStep (s.judgeWindow n g neg) 2 := by
  cases href : s.verifyRef n with
  | none =>
    rw [State.judgeWindow_none hn href]
    exact (State.WindowStep.modStage s n 0 _).trans (.modStage _ n 2 _)
  | some r =>
    obtain ⟨v, vneg⟩ := r
    rw [State.judgeWindow_some hn href]
    exact (((State.WindowStep.modStage s n 0 _).trans (.modStage _ n 0 _)).trans (.noteWindow _ n n 0 _ _ _)).trans (.noteWindow _ n (8 + n) 1 _ _ _)

include hn in
/-- A window's judgement leaves the other channels and their flags. -/
theorem State.judgeWindow_spares (g : Int) (neg : Bool) (hn8 : n < 8) {j : Nat} (hj : j ≠ n) (hj8 : j < 8) :
    (s.judgeWindow n g neg).stageCh j = s.stageCh j ∧ ∀ i, i = j ∨ i = 8 + j →
      (s.judgeWindow n g neg).flag Reg.STAGE_VERIFY_STATUS i = s.flag Reg.STAGE_VERIFY_STATUS i := by
  cases href : s.verifyRef n with
  | none =>
    rw [State.judgeWindow_none hn href, State.stageCh_modStage_other _ _ hj]
    exact ⟨s.stageCh_modStage_other _ hj, fun _ _ => rfl⟩
  | some r =>
    obtain ⟨v, vneg⟩ := r
    rw [State.judgeWindow_some hn href, State.stageCh_noteWindow, State.stageCh_noteWindow, State.runTaken, State.stageCh_modStage_other _ _ hj]
    refine ⟨s.stageCh_modStage_other _ hj, fun i hi => ?_⟩
    rw [State.flag_noteWindow _ _ _ _ _ _ _ (by omega) (by omega), State.flag_noteWindow _ _ _ _ _ _ _ (by omega) (by omega),
      decide_eq_false (by omega), decide_eq_false (by omega), Bool.and_false, Bool.and_false, Bool.or_false, Bool.or_false]
    rfl

end

/-- What a window's judgement goes by besides its channel: the clock, the drives and the settings. -/
theorem State.window_congr {s u : State} (n : Nat) (hclk : u.clk = s.clk) (hprint : u.print = s.print)
    (hregs : KeepsRegs s u [Reg.STAGE_VERIFY_STATUS]) : u.verifies n = s.verifies n ∧ u.drive n = s.drive n := by
  have hcfg : u.reg Reg.STAGE_VERIFY_CFG = s.reg Reg.STAGE_VERIFY_CFG := hregs _ (by decide)
  have hsense : u.reg Reg.STAGE_SENSE_CFG = s.reg Reg.STAGE_SENSE_CFG := hregs _ (by decide)
  have hmic : u.senseMic = s.senseMic := by
    rw [State.senseMic, State.fld, hsense]
    rfl
  exact ⟨by simp only [State.verifies, State.flag, hclk, hcfg, hmic], by rw [State.drive, State.drive, hprint]⟩

theorem State.WindowStep.windowJudged {s : State} {n : Nat} (up : List Bool) (hn : n < s.stage.ch.length) : s.WindowStep (s.windowJudged up n) 2 := by
  unfold State.windowJudged
  split
  · exact .judgeWindow hn _ _
  · exact .refl s 2

/-- A channel after the judgement of its window (R608 to R610). -/
def State.judgedChannel (s : State) (up : List Bool) (n : Nat) : StageCh :=
  if s.windowCounts n then
    match s.verifyRef n with
    | none => { s.stageCh n with
        last := some (windowGain (s.windowLevel up n))
        ref := some (windowGain (s.windowLevel up n), decide ((s.stageCh n).verify.dm < 0)) }
    | some (v, vneg) => { s.stageCh n with
        last := some (windowGain (s.windowLevel up n))
        failing := s.departs (s.windowLevel up n) v || (decide ((s.stageCh n).verify.dm < 0) != vneg) }
  else s.stageCh n

theorem State.stageCh_windowJudged {s : State} {n : Nat} (up : List Bool) (hn : n < s.stage.ch.length) :
    (s.windowJudged up n).stageCh n = s.judgedChannel up n := by
  have hlast : ∀ g, n < (s.lastTaken n g).stage.ch.length := fun g => (State.WindowStep.modStage s n 0 _).length.symm ▸ hn
  unfold State.windowJudged State.judgedChannel
  split
  · cases href : s.verifyRef n with
    | none =>
      rw [State.judgeWindow_none hn href, State.stageCh_modStage_same _ n _ (hlast _), State.lastTaken, State.stageCh_modStage_same _ n _ hn]
    | some r =>
      obtain ⟨v, vneg⟩ := r
      rw [State.judgeWindow_some hn href, State.stageCh_noteWindow, State.stageCh_noteWindow, State.runTaken,
        State.stageCh_modStage_same _ n _ (hlast _), State.lastTaken, State.stageCh_modStage_same _ n _ hn]
  · rfl

/-- The window of a channel is taken into account and the next one begun (R606, R607). -/
theorem State.verifyEnd_eq {s : State} {n : Nat} (up : List Bool) (hn : n < s.stage.ch.length) : s.verifyEnd up n =
    (s.windowJudged up n).modStage n fun c =>
      { c with whole := s.verifies n && (s.drive n).st == .play, verify := { c.verify with dm := 0, dd := 0 } } := by
  have hstep := State.WindowStep.windowJudged up hn
  obtain ⟨hverifies, hdrive⟩ := State.window_congr n hstep.clk hstep.print hstep.regs
  rw [← hverifies, ← hdrive]
  rfl

theorem State.WindowStep.verifyEnd {s : State} {n : Nat} (up : List Bool) (hn : n < s.stage.ch.length) : s.WindowStep (s.verifyEnd up n) 2 := by
  rw [State.verifyEnd_eq up hn]
  exact (State.WindowStep.windowJudged up hn).trans (.modStage _ n 0 _)

/-- Another channel's window is spared. -/
theorem State.verifyEnd_spares {s : State} {m n : Nat} (up : List Bool) (hlen : s.stage.ch.length = 8) (hm : m < 8) (hmn : m ≠ n) (hn : n < 8) :
    State.SparesWindow n s (s.verifyEnd up m) := by
  have hjudged : (s.windowJudged up m).stageCh n = s.stageCh n ∧ ∀ i, i = n ∨ i = 8 + n →
      (s.windowJudged up m).flag Reg.STAGE_VERIFY_STATUS i = s.flag Reg.STAGE_VERIFY_STATUS i := by
    unfold State.windowJudged
    split
    · exact State.judgeWindow_spares (hlen.symm ▸ hm) _ _ hm hmn.symm hn
    · exact ⟨rfl, fun _ _ => rfl⟩
  refine (State.WindowStep.verifyEnd up (hlen.symm ▸ hm)).spares ?_ ?_
  · rw [State.verifyEnd_eq up (hlen.symm ▸ hm), State.stageCh_modStage_other _ _ hmn.symm]
    exact hjudged.1
  · rw [State.verifyEnd_eq up (hlen.symm ▸ hm)]
    exact hjudged.2

/-! ### The end of a window -/

/-- A pass over the channels seen from channel `n`: its turn comes with its own window as it was, and nothing after it takes that back. -/
theorem State.verifyWindow_seen {s : State} {n : Nat} (up : List Bool) (hlen : s.stage.ch.length = 8) (hn : n < 8) :
    ∃ a, State.SparesWindow n s a ∧ State.SparesWindow n (a.verifyEnd up n) (s.verifyWindow up) := by
  obtain ⟨a, hbefore, hafter⟩ := foldl_seen_from (f := State.verifyEnd up) (n := n) (l := List.range 8)
    (R := fun u w => u.stage.ch.length = 8 → State.SparesWindow n u w) (fun u _ => .refl n u)
    (fun u v w h h' hu => (h hu).trans n u v w (h' ((h hu).length.trans hu)))
    (fun u m hm hmn hu => State.verifyEnd_spares up hu (List.mem_range.1 hm) hmn hn) (List.mem_range.2 hn) List.nodup_range s
  have ha : a.stage.ch.length = 8 := (hbefore hlen).length.trans hlen
  exact ⟨a, hbefore hlen, hafter ((State.WindowStep.verifyEnd up (ha.symm ▸ hn)).length.trans ha)⟩

/-- A pass raises at most two entries for each channel, and writes VERIFY_STATUS alone. -/
theorem State.verifyWindow_step {s : State} (up : List Bool) (hlen : s.stage.ch.length = 8) : s.WindowStep (s.verifyWindow up) 16 := by
  have hpass : ∀ (l : List Nat) (u : State), (∀ n ∈ l, n < 8) → u.stage.ch.length = 8 →
      u.WindowStep (l.foldl (State.verifyEnd up) u) (2 * l.length) := by
    intro l
    induction l with
    | nil => exact fun u _ _ => .refl u _
    | cons n l ih =>
      intro u hl hu
      have hn : n < u.stage.ch.length := hu.symm ▸ hl n List.mem_cons_self
      have hstep := State.WindowStep.verifyEnd up hn
      have hrest := ih (u.verifyEnd up n) (fun k hk => hl k (List.mem_cons_of_mem n hk)) (hstep.length.trans hu)
      rw [List.foldl_cons, List.length_cons, Nat.mul_succ, Nat.add_comm]
      exact hstep.trans hrest
  exact hpass (List.range 8) s (fun n hn => List.mem_range.1 hn) hlen

theorem exec_verifyWindow_not {s : State} {up : List Bool} (hbetween : s.between) (hepoch : s.clk.epoch.toNat % 24000 ≠ 0) :
    exec (.verifyWindow up) s = .next s := by
  have hdue : s.atWindow = false := by rw [State.atWindow, beq_eq_false_iff_ne.2 hepoch, Bool.and_false]
  exact exec_notDue (u := s.verifyWindow up) rfl hdue hbetween

theorem State.atWindow_of {s : State} (hacting : s.acting = true) (hup : s.blockUp 4 = true) (hepoch : s.clk.epoch.toNat % 24000 = 0) :
    s.atWindow = true := by
  rw [State.atWindow, hacting, hup, hepoch]
  rfl

/-- What a channel's window goes by is what it was when the pass began. -/
theorem State.SparesWindow.window {n : Nat} {s a : State} (h : State.SparesWindow n s a) (hn : n < 8) (up : List Bool) :
    a.windowCounts n = s.windowCounts n ∧ a.windowLevel up n = s.windowLevel up n ∧ a.verifyRef n = s.verifyRef n ∧
    a.epoch32 = s.epoch32 ∧ a.verifies n = s.verifies n ∧ a.drive n = s.drive n ∧ ∀ g v, a.departs g v = s.departs g v := by
  obtain ⟨hverifies, hdrive⟩ := State.window_congr n h.clk h.print h.regs
  have hexp : ∀ n, n < 8 → Reg.STAGE_VERIFY_EXP_0 + 4 * n ∉ [Reg.STAGE_VERIFY_STATUS] := by decide
  have hreg := h.regs _ (hexp n hn)
  have hsense : a.reg Reg.STAGE_SENSE_CFG = s.reg Reg.STAGE_SENSE_CFG := h.regs _ (by decide)
  have hcfg : a.reg Reg.STAGE_VERIFY_CFG = s.reg Reg.STAGE_VERIFY_CFG := h.regs _ (by decide)
  have hloud : a.driveLoud n = s.driveLoud n := by
    rw [State.driveLoud, State.fld, h.channel, hsense]
    rfl
  refine ⟨by rw [State.windowCounts, hverifies, hloud, h.channel]; rfl, by rw [State.windowLevel, h.channel]; rfl, ?_,
    by rw [State.epoch32, h.clk]; rfl, hverifies, hdrive, fun g v => by rw [State.departs, State.fld, hcfg]; rfl⟩
  rw [State.verifyRef, hreg, h.channel]
  rfl

section
variable {s : State} {up : List Bool} {n : Nat} (hatWindow : s.atWindow = true) (hlen : s.stage.ch.length = 8) (hn : n < 8)

include hatWindow in
theorem exec_verifyWindow_does : exec (.verifyWindow up) s = .next (s.verifyWindow up).endCycle := exec_due (u := s.verifyWindow up) rfl hatWindow

include hlen hn in
/-- What channel `n` is after the pass: its window judged as the pass found it, and the next one begun. -/
theorem State.stageCh_verifyWindow : (s.verifyWindow up).endCycle.stageCh n = { s.judgedChannel up n with
    whole := s.verifies n && (s.drive n).st == .play, verify := { (s.judgedChannel up n).verify with dm := 0, dd := 0 } } := by
  obtain ⟨a, hbefore, hafter⟩ := State.verifyWindow_seen up hlen hn
  have ha : n < a.stage.ch.length := by rw [hbefore.length, hlen]; exact hn
  obtain ⟨hcounts, hlevel, href, -, hverifies, hdrive, hdeparts⟩ := hbefore.window hn up
  have hjudged : a.judgedChannel up n = s.judgedChannel up n := by
    simp only [State.judgedChannel, hcounts, hlevel, href, hdeparts, hbefore.channel]
  have hend : (s.verifyWindow up).endCycle.stageCh n = (s.verifyWindow up).stageCh n := by rw [State.stageCh, State.endCycle_stage]; rfl
  rw [hend, hafter.channel, State.verifyEnd_eq up ha, State.stageCh_modStage_same _ n _ ((State.WindowStep.windowJudged up ha).length.symm ▸ ha),
    State.stageCh_windowJudged up ha, hjudged, hverifies, hdrive]

include hlen hn in
/-- A window that is not judged, or that becomes the reference, leaves its flags. -/
theorem State.flag_verifyWindow_spared (hnot : s.windowCounts n = false ∨ s.verifyRef n = none) {i : Nat} (hi : i = n ∨ i = 8 + n) :
    (s.verifyWindow up).endCycle.flag Reg.STAGE_VERIFY_STATUS i = s.flag Reg.STAGE_VERIFY_STATUS i := by
  obtain ⟨a, hbefore, hafter⟩ := State.verifyWindow_seen up hlen hn
  have ha : n < a.stage.ch.length := by rw [hbefore.length, hlen]; exact hn
  obtain ⟨hcounts, -, href, -⟩ := hbefore.window hn up
  have hstep : (a.verifyEnd up n).flag Reg.STAGE_VERIFY_STATUS i = a.flag Reg.STAGE_VERIFY_STATUS i := by
    rw [State.verifyEnd_eq up ha, State.windowJudged, hcounts]
    rcases hnot with h | h
    · rw [h]
      rfl
    · split
      · rw [State.judgeWindow_none ha (href.trans h)]
        rfl
      · rfl
  rw [State.endCycle_flag _ _ (by decide) (by decide)]
  rcases hi with rfl | rfl
  · exact hafter.flags.1.trans (hstep.trans hbefore.flags.1)
  · exact hafter.flags.2.trans (hstep.trans hbefore.flags.2)

include hlen hn in
/-- The flags and the entries of a window that is judged against a reference (R609, R610). -/
theorem State.verifyWindow_judged {v : Int} {vneg depart turned : Bool} (hroom : s.roomFor 16) (hcounts : s.windowCounts n = true)
    (href : s.verifyRef n = some (v, vneg)) (hdepart : depart = s.departs (s.windowLevel up n) v)
    (hturned : turned = (decide ((s.stageCh n).verify.dm < 0) != vneg)) :
    (s.verifyWindow up).endCycle.flag Reg.STAGE_VERIFY_STATUS n =
      (s.flag Reg.STAGE_VERIFY_STATUS n || (depart && !(s.stageCh n).failing)) ∧
    (s.verifyWindow up).endCycle.flag Reg.STAGE_VERIFY_STATUS (8 + n) =
      (s.flag Reg.STAGE_VERIFY_STATUS (8 + n) || (turned && !(s.stageCh n).failing)) ∧
    ∀ kind fails, kind = 0 ∧ fails = depart ∨ kind = 1 ∧ fails = turned → (s.stageCh n).failing = false → fails = true →
      s.entry Log.STAGE 8 (ofBytes n kind (wrapInt 16 (windowGain (s.windowLevel up n)) % 256) (wrapInt 16 (windowGain (s.windowLevel up n)) / 256))
        (s.epoch32 - 24000) ∈ (s.verifyWindow up).endCycle.fixer.staged := by
  obtain ⟨a, hbefore, hafter⟩ := State.verifyWindow_seen up hlen hn
  have ha : n < a.stage.ch.length := by rw [hbefore.length, hlen]; exact hn
  obtain ⟨hcounts', hlevel, href', hepoch, -, -, hdeparts⟩ := hbefore.window hn up
  have hend : a.verifyEnd up n = (((a.runTaken n (s.windowLevel up n) (depart || turned)).noteWindow n n 0 (windowGain (s.windowLevel up n))
      (s.epoch32 - 24000) (((depart || turned) && !(s.stageCh n).failing) && depart)).noteWindow n (8 + n) 1 (windowGain (s.windowLevel up n))
      (s.epoch32 - 24000) (((depart || turned) && !(s.stageCh n).failing) && turned)).modStage n fun c =>
      { c with whole := a.verifies n && (a.drive n).st == .play, verify := { c.verify with dm := 0, dd := 0 } } := by
    rw [State.verifyEnd_eq up ha, State.windowJudged, hcounts', if_pos hcounts, State.judgeWindow_some ha (href'.trans href), hlevel, hdeparts,
      hepoch, hbefore.channel, ← hdepart, ← hturned]
  have hentry : ∀ kind, (a.runTaken n (s.windowLevel up n) (depart || turned)).entry Log.STAGE 8 (ofBytes n kind
      (wrapInt 16 (windowGain (s.windowLevel up n)) % 256) (wrapInt 16 (windowGain (s.windowLevel up n)) / 256)) (s.epoch32 - 24000) =
      s.entry Log.STAGE 8 (ofBytes n kind (wrapInt 16 (windowGain (s.windowLevel up n)) % 256)
        (wrapInt 16 (windowGain (s.windowLevel up n)) / 256)) (s.epoch32 - 24000) :=
    fun kind => State.entry_congr _ _ _ _ hbefore.clk (hbefore.regs _ (by decide))
  have hstaged : ∀ e ∈ (a.verifyEnd up n).fixer.raised, e ∈ (s.verifyWindow up).endCycle.fixer.staged := fun e he => by
    have hstep := State.verifyWindow_step up hlen
    have hcount : (s.verifyWindow up).fixer.raised.length ≤ 16 := by
      have := hstep.count
      rw [hroom.1.1] at this
      exact this
    rw [State.logged_endCycle hroom hstep.staged rfl hcount]
    exact List.mem_append_right _ (Log.mem_sort.2 (hafter.raised e he))
  have hgain : (((depart || turned) && !(s.stageCh n).failing) && depart) = (depart && !(s.stageCh n).failing) := by
    cases depart <;> cases turned <;> cases (s.stageCh n).failing <;> rfl
  have hsign : (((depart || turned) && !(s.stageCh n).failing) && turned) = (turned && !(s.stageCh n).failing) := by
    cases depart <;> cases turned <;> cases (s.stageCh n).failing <;> rfl
  rw [hgain, hsign] at hend
  have hflag : ∀ k, k < 16 → (a.verifyEnd up n).flag Reg.STAGE_VERIFY_STATUS k = ((a.flag Reg.STAGE_VERIFY_STATUS k ||
      ((depart && !(s.stageCh n).failing) && decide (k = n))) || ((turned && !(s.stageCh n).failing) && decide (k = 8 + n))) := fun k hk => by
    rw [hend]
    refine (State.flag_noteWindow _ n (8 + n) 1 _ _ _ (by omega) hk).trans ?_
    rw [State.flag_noteWindow _ n n 0 _ _ _ (by omega) hk]
    rfl
  rw [State.endCycle_flag _ _ (by decide) (by decide), State.endCycle_flag _ _ (by decide) (by decide)]
  refine ⟨?_, ?_, ?_⟩
  · rw [hafter.flags.1, hflag n (by omega), hbefore.flags.1, decide_eq_true rfl, decide_eq_false (by omega), Bool.and_false, Bool.or_false,
      Bool.and_true]
  · rw [hafter.flags.2, hflag (8 + n) (by omega), hbefore.flags.2, decide_eq_true rfl, decide_eq_false (by omega), Bool.and_false,
      Bool.or_false, Bool.and_true]
  · rintro kind fails (⟨rfl, rfl⟩ | ⟨rfl, rfl⟩) hrun hfailing
    · refine hstaged _ ?_
      rw [hend]
      refine (State.WindowStep.noteWindow _ n (8 + n) 1 _ _ _).raised _ ?_
      rw [← hentry]
      exact State.mem_raised_noteWindow _ n n 0 _ _ _ (by rw [hfailing, hrun]; rfl)
    · refine hstaged _ ?_
      have hfirst := State.WindowStep.noteWindow (a.runTaken n (s.windowLevel up n) (depart || fails)) n n 0 (windowGain (s.windowLevel up n))
        (s.epoch32 - 24000) (depart && !(s.stageCh n).failing)
      rw [hend, ← hentry, ← State.entry_congr _ _ _ _ hfirst.clk (hfirst.regs _ (by decide))]
      exact State.mem_raised_noteWindow _ n (8 + n) 1 _ _ _ (by rw [hfailing, hrun]; rfl)

end

/-! ### The statement -/

theorem State.windowCounts_eq_false_iff (s : State) (n : Nat) :
    s.windowCounts n = false ↔ s.verifies n = false ∨ (s.stageCh n).whole = false ∨ s.driveLoud n = false := by
  rw [State.windowCounts, Bool.and_eq_false_iff, Bool.and_eq_false_iff, or_assoc]

section
variable {s : State} {up : List Bool} {n : Nat} (hacting : s.acting = true) (hblock : s.blockUp 4 = true)
  (hepoch : s.clk.epoch.toNat % 24000 = 0) (hlen : s.stage.ch.length = 8) (hn : n < 8)

include hacting hblock hepoch hlen hn in
/-- A window that is judged gives LAST its gain, and becomes the reference where there is none; another leaves both (R606 to R609). -/
theorem exec_verifyWindow_takes {g : Int} (hg : g = gainLevel (nth up n false) ((s.stageCh n).verify.dm / (s.stageCh n).verify.dd)) :
    ∃ t, exec (.verifyWindow up) s = .next t ∧ (t.stageCh n).whole = (s.verifies n && (s.drive n).st == .play) ∧
      (t.stageCh n).verify = { (s.stageCh n).verify with dm := 0, dd := 0 } ∧
      KeepsRegs s t (Reg.STAGE_VERIFY_STATUS :: logReport) ∧
      (s.verifies n = true → (s.stageCh n).whole = true → s.driveLoud n = true → (t.stageCh n).last = some (clampInt (-2048) 2047 g) ∧
        (s.verifyRef n = none → (t.stageCh n).failing = (s.stageCh n).failing ∧
          (t.stageCh n).ref = some (clampInt (-2048) 2047 g, decide ((s.stageCh n).verify.dm < 0)))) ∧
      (s.verifies n = false ∨ (s.stageCh n).whole = false ∨ s.driveLoud n = false → (t.stageCh n).last = (s.stageCh n).last ∧
        (t.stageCh n).ref = (s.stageCh n).ref ∧ (t.stageCh n).failing = (s.stageCh n).failing ∧
        t.flag Reg.STAGE_VERIFY_STATUS n = s.flag Reg.STAGE_VERIFY_STATUS n) := by
  have hlevel : s.windowLevel up n = g := hg.symm
  have hverify : (s.judgedChannel up n).verify = (s.stageCh n).verify := by
    unfold State.judgedChannel
    split
    · split <;> rfl
    · rfl
  refine ⟨_, exec_verifyWindow_does (State.atWindow_of hacting hblock hepoch), ?_⟩
  rw [State.stageCh_verifyWindow hlen hn]
  refine ⟨rfl, by rw [hverify], fun a ha => ?_, fun hv hw hd => ?_, fun hnot => ?_⟩
  · simp only [List.mem_cons, List.not_mem_nil, or_false, not_or] at ha
    obtain ⟨hstatus, hfixer, hdrops⟩ := ha
    rw [State.endCycle_reg _ hdrops hfixer]
    exact (State.verifyWindow_step up hlen).regs a (by simpa using hstatus)
  · have hcounts : s.windowCounts n = true := by rw [State.windowCounts, hv, hw, hd]; rfl
    rw [State.judgedChannel, if_pos hcounts, hlevel]
    cases href : s.verifyRef n with
    | none => exact ⟨rfl, fun _ => ⟨rfl, rfl⟩⟩
    | some r => exact ⟨rfl, fun h => absurd h (by simp)⟩
  · have hcounts : s.windowCounts n = false := (s.windowCounts_eq_false_iff n).2 hnot
    rw [State.flag_verifyWindow_spared hlen hn (.inl hcounts) (.inl rfl), State.judgedChannel, if_neg (ne_of_eq_of_ne hcounts Bool.false_ne_true)]
    exact ⟨rfl, rfl, rfl, rfl⟩

include hacting hblock hepoch hlen hn in
/-- A window that departs from its expected gain, or whose sign differs, fails; the first of a run has its flag and its entry (R609, R610). -/
theorem exec_verifyWindow_fails {g v : Int} {neg depart turned : Bool} (hroom : s.roomFor 16) (hv : s.verifies n = true)
    (hw : (s.stageCh n).whole = true) (hd : s.driveLoud n = true)
    (hg : g = clampInt (-2048) 2047 (gainLevel (nth up n false) ((s.stageCh n).verify.dm / (s.stageCh n).verify.dd)))
    (hexp : s.fld (Reg.STAGE_VERIFY_EXP_0 + 4 * n) 15 0 ≠ 0x8000) (hval : v = sgnOf 16 (s.fld (Reg.STAGE_VERIFY_EXP_0 + 4 * n) 15 0))
    (hneg : neg = s.flag (Reg.STAGE_VERIFY_EXP_0 + 4 * n) 30) (hturned : turned = (decide ((s.stageCh n).verify.dm < 0) != neg))
    (hdepart : depart = decide (4 * s.fld Reg.STAGE_VERIFY_CFG 15 8 < (g - v).natAbs)) :
    ∃ t, exec (.verifyWindow up) s = .next t ∧ (t.stageCh n).failing = (depart || turned) ∧ (t.stageCh n).ref = (s.stageCh n).ref ∧
      t.flag Reg.STAGE_VERIFY_STATUS n = (s.flag Reg.STAGE_VERIFY_STATUS n || (depart && !(s.stageCh n).failing)) ∧
      t.flag Reg.STAGE_VERIFY_STATUS (8 + n) = (s.flag Reg.STAGE_VERIFY_STATUS (8 + n) || (turned && !(s.stageCh n).failing)) ∧
      ((s.stageCh n).failing = false → depart = true →
        s.entry Log.STAGE 8 (ofBytes n 0 (wrapInt 16 g % 256) (wrapInt 16 g / 256)) (s.epoch32 - 24000) ∈ t.fixer.staged) ∧
      ((s.stageCh n).failing = false → turned = true →
        s.entry Log.STAGE 8 (ofBytes n 1 (wrapInt 16 g % 256) (wrapInt 16 g / 256)) (s.epoch32 - 24000) ∈ t.fixer.staged) := by
  have hcounts : s.windowCounts n = true := by rw [State.windowCounts, hv, hw, hd]; rfl
  have hgain : windowGain (s.windowLevel up n) = g := hg.symm
  have href : s.verifyRef n = some (v, neg) := by
    rw [State.verifyRef, hval, hneg]
    exact if_neg hexp
  have hdeparts : depart = s.departs (s.windowLevel up n) v := by
    rw [hdepart, State.departs, hgain, decide_eq_decide]
    omega
  obtain ⟨hflag, hsign, hentries⟩ := State.verifyWindow_judged (up := up) hlen hn hroom hcounts href hdeparts hturned
  rw [hgain] at hentries
  refine ⟨_, exec_verifyWindow_does (State.atWindow_of hacting hblock hepoch), ?_, ?_, hflag, hsign,
    hentries 0 depart (.inl ⟨rfl, rfl⟩), hentries 1 turned (.inr ⟨rfl, rfl⟩)⟩
  · rw [State.stageCh_verifyWindow hlen hn, State.judgedChannel, if_pos hcounts, href, hdeparts, hturned]
  · rw [State.stageCh_verifyWindow hlen hn, State.judgedChannel, if_pos hcounts, href]

end

/-- Settles O54: the candidates of a search stand in the order of R601, and each channel's window is judged as the pass over them finds it. -/
theorem searchesAndWindowsEnd : Obligations.SearchesAndWindowsEnd := by
  unfold Obligations.SearchesAndWindowsEnd
  refine ⟨fun s q p hroom hacting hup hsearch hp => exec_steerSearchDone hroom hacting hup hsearch hp, Search.result_eq,
    fun q hs hgood => ⟨fun hfirst g _ hmin hmax => Search.first_none hgood hfirst hmin hmax, fun f hfirst => ?_⟩, clears_iff,
    fun s up hbetween hepoch => exec_verifyWindow_not hbetween hepoch,
    fun s up n g _ hacting hblock hepoch hlen hn hg => exec_verifyWindow_takes hacting hblock hepoch hlen hn hg,
    fun s up n g v neg depart turned hroom hacting hblock hepoch hlen hn hv hw hd hg hexp hval hneg hturned hdepart =>
      exec_verifyWindow_fails hacting hblock hepoch hlen hn hroom hv hw hd hg hexp hval hneg hturned hdepart⟩
  obtain ⟨hmin, hmax, hclears, hnearest⟩ := Search.first_some hgood hfirst
  exact ⟨hmin, hmax, hclears, fun g _ hgmin hgmax hg hne => hnearest g hgmin hgmax hg hne⟩

end Sys2Proof.Machine
end

section
/-! PROOFS. The forms of the Developer, the Contact Sheet, Latent, the stages and the Loupe under normal conditions (R430, R442, R468, R469, R498,
R499, R503, R600, R674): each writes its register or meets its epoch, and leaves its own effect. -/

namespace Sys2Proof.Machine

/-! ### Check errors over a request that may abort the fog test (R645) -/

/-- A restore removes check errors of whole words alone (R643). -/
theorem State.errs_fogYield (s : State) (word : Nat) : ∃ keep : Nat → Bool, (s.fogYield word).bank.errs = s.bank.errs.filter fun e => keep e.1 := by
  unfold State.fogYield
  split
  · refine ⟨fun w => !(s.bank.borrowed && (w == 2 * s.bank.region || w == 2 * s.bank.region + 1)), ?_⟩
    simp only [State.fogAbort]
    split
    · rw [State.fogSkip, (State.fogNext_parts _).1]
      simp only [State.fogOn, State.raise_bank, State.countSat_bank]
      rfl
    · rfl
  · exact ⟨fun _ => true, (List.filter_true _).symm⟩

/-- A request to Tank brings no check error (R643, R645). -/
theorem State.eccOf_fogYield {s : State} {w g : Nat} (word : Nat) (h : s.eccOf w g ≠ some true) : (s.fogYield word).eccOf w g ≠ some true := by
  obtain ⟨keep, hkeep⟩ := s.errs_fogYield word
  have hpred : ∀ e : Nat × Nat × Bool, (keep e.1 && (e.1 == w && e.2.1 == g)) = (keep w && (e.1 == w && e.2.1 == g)) := fun e => by
    by_cases he : e.1 = w
    · rw [he]
    · rw [beq_false_of_ne he, Bool.false_and, Bool.and_false, Bool.and_false]
  have hfind : (s.fogYield word).eccOf w g = (s.bank.errs.find? fun e => keep w && (e.1 == w && e.2.1 == g)).map (·.2.2) := by
    simp only [State.eccOf, hkeep, List.find?_filter, Bool.decide_and, Bool.decide_eq_true, hpred]
  rw [hfind]
  cases keep w with
  | true => exact h
  | false =>
    have hnone : (s.bank.errs.find? fun e => false && (e.1 == w && e.2.1 == g)) = none := List.find?_eq_none.2 fun _ _ => Bool.false_ne_true
    rw [hnone]
    exact Option.some_ne_none _ ∘ Eq.symm

/-- The unit's own reads bring no check error (R645). -/
theorem State.eccAt_fogReads {s : State} {w : Nat} (ws : List Nat) (h : s.eccAt w ≠ some true) : (s.fogReads ws).eccAt w ≠ some true := by
  induction ws generalizing s with
  | nil => exact h
  | cons x xs ih => exact ih (State.eccOf_fogYield (x / 8) h)

/-- The unit's own reads leave the registers of every page but Tank's. -/
theorem State.reg_fogReads (s : State) (ws : List Nat) {a : Nat} (ha : a ∉ [Reg.TANK_FOG_PASSES, Reg.TANK_FOG_SKIPS, Reg.TANK_TANK_STATUS]) :
    (s.fogReads ws).reg a = s.reg a :=
  ((State.conf_fogReads ws (conf_refl s [.sset, .bumped, .caused, .fixer, .bank] (· ∈ [Reg.TANK_FOG_PASSES, Reg.TANK_FOG_SKIPS,
    Reg.TANK_TANK_STATUS])) (List.Subset.refl _) fun _ h => h).1.2 a ha).1

/-- The unit's own reads change no byte of Tank and nothing of the Contact Sheet. -/
theorem State.fogReads_leaves (s : State) (ws : List Nat) : (s.fogReads ws).mem = s.mem ∧ (s.fogReads ws).sheet = s.sheet := by
  have hconf := State.conf_fogReads ws (conf_refl s [.sset, .bumped, .caused, .fixer, .bank] fun _ => True) (List.Subset.refl _) fun _ _ => trivial
  exact ⟨hconf.1.1 .mem (by decide), hconf.1.1 .sheet (by decide)⟩

section
variable {s : State} {src : Src} {v : Word}

/-! ### SEED_LOAD -/

/-- A stream that the mask names takes the eight band values (R430). -/
theorem State.loadSeed_stream (s : State) (mask : Nat) (hlen : s.dev.streams.length = 9) {i : Nat} (hi : i < 9) (hmask : mask.testBit i = true) :
    ((s.loadSeed mask).stream i).seed = some ((List.range 8).map s.seedBand) := by
  have hvisit := foldl_visit (Q := (· < 9)) (I := fun t : State => t.dev.streams.length = 9) (get := State.stream)
    (f := fun t n => if mask.testBit n then t.modStream n (fun d => { d with seed := some ((List.range 8).map s.seedBand) }) else t)
    (upd := fun n d => if mask.testBit n then { d with seed := some ((List.range 8).map s.seedBand) } else d)
    (fun t n ht _ => by
      split
      · exact (length_modNth ..).trans ht
      · exact ht)
    (fun t n ht hn => by
      split
      · exact nth_modNth_same _ _ _ _ (ht ▸ hn)
      · rfl)
    (fun t n m _ _ _ hne => by
      split
      · exact nth_modNth_other _ _ _ hne
      · rfl)
    (fun n d => by split <;> rfl) (List.range 9) s hlen (fun n hn => List.mem_range.1 hn) i hi
  refine (congrArg Stream.seed hvisit).trans ?_
  rw [if_pos (List.mem_range.2 hi), if_pos hmask]

/-- A write of SEED_CTL that leaves GO set loads the seeds of the streams it names (R430). -/
theorem exec_seedLoad (hready : s.writeReady src Reg.DEV_SEED_CTL v) (hgo : bitOf (maskedWrite (s.reg Reg.DEV_SEED_CTL) v) 9 = true) :
    exec (.seedLoad src v) s = .next (((s.storedM Reg.DEV_SEED_CTL v).loadSeed
      (bits (maskedWrite (s.reg Reg.DEV_SEED_CTL) v) 8 0)).answer Status.ok []).endCycle := by
  have heffect : ∀ t : State, t.maskedEffect src Reg.DEV_SEED_CTL (s.reg Reg.DEV_SEED_CTL) v (maskedWrite (s.reg Reg.DEV_SEED_CTL) v) =
      t.loadSeed (bits (maskedWrite (s.reg Reg.DEV_SEED_CTL) v) 8 0) := fun t => if_pos hgo
  rw [← heffect]
  exact congrArg Host.Outcome.next (State.endCycle_commandWrite_effect (fits := fun _ new => bitOf new 9) hready rfl rfl hgo)

/-- A bit of a word's low field is that bit of the word. -/
theorem testBit_bits_low (w : Word) {i n : Nat} (hi : i ≤ n) : (bits w n 0).testBit i = bitOf w i := by
  simp only [bits, bitOf, BitVec.getLsbD, Nat.shiftRight_zero, Nat.testBit_mod_two_pow]
  simp [Nat.lt_succ_of_le hi]

/-- SEED_LOAD leaves the seed that the next block takes (R430). -/
theorem seedLoad_completes {i : Nat} (hready : s.writeReady src Reg.DEV_SEED_CTL v) (hlen : s.dev.streams.length = 9)
    (hgo : bitOf (maskedWrite (s.reg Reg.DEV_SEED_CTL) v) 9 = true) (hi : i < 9) (hmask : bitOf (maskedWrite (s.reg Reg.DEV_SEED_CTL) v) i = true) :
    ∃ t, exec (.seedLoad src v) s = .next t ∧ t.port.status = 0 ∧ (t.stream i).seed = some ((List.range 8).map s.seedBand) := by
  have hband : (List.range 8).map (s.storedM Reg.DEV_SEED_CTL v).seedBand = (List.range 8).map s.seedBand := List.map_congr_left fun b hb => by
    have hb8 := List.mem_range.1 hb
    have hreg : (s.storedM Reg.DEV_SEED_CTL v).reg (Reg.DEV_SEED_0 + 4 * (b / 2)) = s.reg (Reg.DEV_SEED_0 + 4 * (b / 2)) :=
      s.storedM_reg_other v (by simp only [Reg.DEV_SEED_0, Reg.DEV_SEED_CTL]; omega)
    simp only [State.seedBand, hreg]
  refine ⟨_, exec_seedLoad hready hgo, ?_, ?_⟩
  · rw [State.endCycle_port, State.answer_status]
  · rw [State.stream, State.endCycle_dev, State.answer_dev, ← State.stream,
      State.loadSeed_stream (s.storedM _ v) _ hlen hi ((testBit_bits_low _ (Nat.le_of_lt_succ hi)).trans hmask), hband]

/-! ### PROFILE_COMMIT -/

/-- PROFILE_COMMIT of a valid profile leaves the profile that the next block installs (R442). -/
theorem profileCommit_completes {p : List Word} (hready : s.writeReady src Reg.DEV_PROF_COMMIT v)
    (hgo : bitOf (maskedWrite (s.reg Reg.DEV_PROF_COMMIT) v) 3 = true)
    (hp : p = (List.range 12).map (fun i => s.reg (Reg.DEV_PROF_STAGE_0 + 4 * i))) (hgood : profileBad p = none) :
    ∃ t, exec (.profileCommit src v) s = .next t ∧ t.port.status = 0 ∧ t.flag Reg.DEV_PROF_COMMIT 3 = false ∧
      t.dev = { s.dev with pendProf := s.dev.pendProf.set (bits (maskedWrite (s.reg Reg.DEV_PROF_COMMIT) v) 2 0) (some p) } := by
  have hstaged : (List.range 12).map (fun i => (s.storedM Reg.DEV_PROF_COMMIT v).reg (Reg.DEV_PROF_STAGE_0 + 4 * i)) = p := by
    rw [hp]
    refine List.map_congr_left fun i hi => s.storedM_reg_other v ?_
    have hi12 := List.mem_range.1 hi
    simp only [Reg.DEV_PROF_STAGE_0, Reg.DEV_PROF_COMMIT]
    omega
  have heffect : (s.storedM Reg.DEV_PROF_COMMIT v).maskedEffect src Reg.DEV_PROF_COMMIT (s.reg Reg.DEV_PROF_COMMIT) v
      (maskedWrite (s.reg Reg.DEV_PROF_COMMIT) v) = { s.storedM Reg.DEV_PROF_COMMIT v with dev := { s.dev with
        pendProf := s.dev.pendProf.set (bits (maskedWrite (s.reg Reg.DEV_PROF_COMMIT) v) 2 0) (some p) } } := by
    refine Eq.trans (b := (s.storedM Reg.DEV_PROF_COMMIT v).commitProfile (bits (maskedWrite (s.reg Reg.DEV_PROF_COMMIT) v) 2 0)) (if_pos hgo) ?_
    simp only [State.commitProfile, hstaged, hgood]
    rfl
  refine ⟨_, congrArg Host.Outcome.next (State.endCycle_commandWrite_effect (fits := fun _ new => bitOf new 3) hready rfl rfl hgo), ?_, ?_, ?_⟩
  · rw [State.endCycle_port, State.answer_status]
  · rw [State.endCycle_flag _ _ (by decide) (by decide), State.answer_flag, heffect]
    exact s.storedM_flag_clear v rfl (by decide)
  · rw [State.endCycle_dev, State.answer_dev, heffect]

/-! ### TEMPLATE_ENABLE and TEMPLATE_DISABLE -/

/-- A template is judged by Tank and by what is enabled and asked for (R444). -/
theorem State.tplBad_congr {s u : State} (hmem : u.mem = s.mem) (hsheet : u.sheet = s.sheet) (n : Nat) : u.tplBad n = s.tplBad n := by
  have hword : u.tplWord = s.tplWord := by funext t w; simp only [State.tplWord, State.tank, hmem]
  have hlen : u.tplLen = s.tplLen := by funext t; simp only [State.tplLen, hword]
  have hwatch : u.tplWatch = s.tplWatch := by funext t; simp only [State.tplWatch, hword]
  have hstreams : u.tplStreams = s.tplStreams := by funext t; simp only [State.tplStreams, hword]
  have hload : u.tplLoad = s.tplLoad := by funext t; simp only [State.tplLoad, hwatch, hlen, hstreams]
  have hheld : u.tplHeld = s.tplHeld := by simp only [State.tplHeld, hsheet]
  simp only [State.tplBad, hlen, hwatch, hstreams, hload, hheld]

/-- An enable of a readable and valid template asks for it (R469). -/
theorem State.requestEnable_asks {n : Nat} (hnew : n ∉ s.sheet.enabled) (hecc : s.eccAt (tplAddr n 0) ≠ some true) (hgood : s.tplBad n = none) :
    (s.requestEnable n).sheet = { s.sheet with reqs := assocSet s.sheet.reqs n true } := by
  obtain ⟨hmem, hsheet⟩ := s.fogReads_leaves [tplAddr n 0]
  have hnot : ¬ s.sheet.enabled.contains n = true := by simpa using hnew
  simp only [State.requestEnable, if_neg hnot, if_neg (State.eccAt_fogReads _ hecc), State.tplBad_congr hmem hsheet, hgood, hsheet]

/-- What a write of TPL_CTL with GO set does (R468, R469). -/
theorem State.endCycle_tplCtl {fits : Word → Word → Bool} (hready : s.writeReady src Reg.SHEET_TPL_CTL v)
    (hgo : bitOf (maskedWrite (s.reg Reg.SHEET_TPL_CTL) v) 9 = true)
    (hfits : fits (s.reg Reg.SHEET_TPL_CTL) (maskedWrite (s.reg Reg.SHEET_TPL_CTL) v) = true) :
    (s.commandWrite src Reg.SHEET_TPL_CTL fits v).endCycle =
      ((if bitOf (maskedWrite (s.reg Reg.SHEET_TPL_CTL) v) 8 then
          (s.storedM Reg.SHEET_TPL_CTL v).requestEnable (bits (maskedWrite (s.reg Reg.SHEET_TPL_CTL) v) 7 0)
        else (s.storedM Reg.SHEET_TPL_CTL v).requestDisable (bits (maskedWrite (s.reg Reg.SHEET_TPL_CTL) v) 7 0)).answer Status.ok []).endCycle := by
  have hask : ¬ (!bitOf (maskedWrite (s.reg Reg.SHEET_TPL_CTL) v) 9) = true := by rw [hgo]; exact Bool.false_ne_true
  rw [State.endCycle_commandWrite_effect hready rfl rfl hfits]
  exact congrArg (fun t : State => (t.answer Status.ok []).endCycle) (if_neg hask)

/-- TEMPLATE_ENABLE and TEMPLATE_DISABLE leave the request that the next block takes (R468, R469). -/
theorem templateRequests_complete {n : Nat} (hready : s.writeReady src Reg.SHEET_TPL_CTL v)
    (hgo : bitOf (maskedWrite (s.reg Reg.SHEET_TPL_CTL) v) 9 = true) (hn : n = bits (maskedWrite (s.reg Reg.SHEET_TPL_CTL) v) 7 0) :
    (bitOf (maskedWrite (s.reg Reg.SHEET_TPL_CTL) v) 8 = true → n ∉ s.sheet.enabled → s.eccAt (tplAddr n 0) ≠ some true →
      s.tplBad n = none →
      ∃ t, exec (.templateEnable src v) s = .next t ∧ t.port.status = 0 ∧ assocGet t.sheet.reqs n = some true) ∧
    (bitOf (maskedWrite (s.reg Reg.SHEET_TPL_CTL) v) 8 = false →
      ∃ t, exec (.templateDisable src v) s = .next t ∧ t.port.status = 0 ∧ assocGet t.sheet.reqs n = some false) := by
  refine ⟨fun henable hnew hecc hgood => ?_, fun hdisable => ?_⟩
  · refine ⟨_, congrArg Host.Outcome.next (State.endCycle_tplCtl (fits := fun _ new => bitOf new 9 && bitOf new 8) hready hgo
      (by rw [hgo, henable]; rfl)), ?_, ?_⟩
    · rw [State.endCycle_port, State.answer_status]
    · rw [State.endCycle_sheet, State.answer_sheet, if_pos henable, ← hn, State.requestEnable_asks (s := s.storedM _ v) hnew hecc
        ((State.tplBad_congr (s := s) rfl rfl n).trans hgood)]
      exact assocGet_set_same ..
  · refine ⟨_, congrArg Host.Outcome.next (State.endCycle_tplCtl (fits := fun _ new => bitOf new 9 && !bitOf new 8) hready hgo
      (by rw [hgo, hdisable]; rfl)), ?_, ?_⟩
    · rw [State.endCycle_port, State.answer_status]
    · rw [State.endCycle_sheet, State.answer_sheet, hdisable, ← hn]
      exact assocGet_set_same ..

/-! ### LAT_CTL -/

/-- RELEASE_W, RELEASE_D and RUN_D_START leave their ring free, and RUN_D_START leaves it empty (R497, R505). -/
theorem latCtl_completes (hready : s.writeReady src Reg.LATENT_LAT_CTL v) :
    (bitOf (maskedWrite (s.reg Reg.LATENT_LAT_CTL) v) 2 = true →
      ∃ t, exec (.releaseW src v) s = .next t ∧ t.port.status = 0 ∧ t.latent.w = { s.latent.w with frozen := false, pend := none }) ∧
    (bitOf (maskedWrite (s.reg Reg.LATENT_LAT_CTL) v) 3 = true →
      ∃ t, exec (.releaseD src v) s = .next t ∧ t.port.status = 0 ∧ t.latent.d.frozen = false ∧ t.latent.d.pend = none) ∧
    (bitOf (maskedWrite (s.reg Reg.LATENT_LAT_CTL) v) 1 = true → s.flag Reg.LATENT_LAT_CTL 1 = false →
      ∃ t, exec (.runDStart src v) s = .next t ∧ t.port.status = 0 ∧ t.flag Reg.LATENT_LAT_CTL 1 = true ∧
        t.latent.d.total = 0 ∧ t.latent.d.head = 0 ∧ t.latent.d.frozen = false) := by
  refine ⟨fun hw => ?_, fun hd => ?_, fun hrun hold => ?_⟩
  · refine ⟨_, rfl, State.latCtlWrite_status (fits := fun _ new => bitOf new 2) hready hw, ?_⟩
    rw [State.latCtlWrite_latent (fits := fun _ new => bitOf new 2) hready hw, hw]
    rfl
  · have hlatent := State.latCtlWrite_latent (fits := fun _ new => bitOf new 3) hready hd
    refine ⟨_, rfl, State.latCtlWrite_status (fits := fun _ new => bitOf new 3) hready hd, ?_, ?_⟩
    · rw [hlatent, hd]
      dsimp only
      split <;> rfl
    · rw [hlatent, hd]
      dsimp only
      split <;> rfl
  · have hfits : (!bitOf (s.reg Reg.LATENT_LAT_CTL) 1 && bitOf (maskedWrite (s.reg Reg.LATENT_LAT_CTL) v) 1) = true := by
      rw [State.flag] at hold
      rw [hold, hrun]
      rfl
    have hlatent := State.latCtlWrite_latent (fits := fun old new => !bitOf old 1 && bitOf new 1) hready hfits
    rw [hold, hrun] at hlatent
    refine ⟨_, rfl, State.latCtlWrite_status (fits := fun old new => !bitOf old 1 && bitOf new 1) hready hfits, ?_, ?_⟩
    · rw [State.flag, State.latCtlWrite_reg (fits := fun old new => !bitOf old 1 && bitOf new 1) hready hfits, bitOf, BitVec.getLsbD_and, ← bitOf,
        hrun]
      rfl
    · exact ⟨congrArg (·.d.total) hlatent, congrArg (·.d.head) hlatent, congrArg (·.d.frozen) hlatent⟩

/-! ### STEER_SEARCH -/

/-- STEER_SEARCH of carriers and a window in range starts its search (R600). -/
theorem steerSearch_completes (hready : s.writeReady src Reg.STAGE_STEER_CTL v)
    (hgo : bitOf (maskedWrite (s.reg Reg.STAGE_STEER_CTL) v) 0 = true) (hcarriers : ∀ c ∈ s.carriers, 100 ≤ c ∧ c ≤ 1800)
    (hwindow : s.SteerWindow) :
    ∃ t, exec (.steerSearch src v) s = .next t ∧ t.port.status = 0 ∧
      t.stage.search = some (s.snapshot (bits (maskedWrite (s.reg Reg.STAGE_STEER_CTL) v) 3 2)) := by
  have hsnap : ∀ mode, (s.storedM Reg.STAGE_STEER_CTL v).snapshot mode = s.snapshot mode :=
    State.snapshot_congr fun a _ hlast => s.storedM_reg_other v (Nat.ne_of_lt hlast)
  have hinside : ¬ s.carriers.any (fun c => decide (c < 100 ∨ 1800 < c)) = true := by
    simp only [List.any_eq_true, decide_eq_true_eq, not_exists, not_and, not_or, Nat.not_lt]
    exact hcarriers
  have hgood : ∀ mode, ((s.storedM Reg.STAGE_STEER_CTL v).snapshot mode).bad = none := fun mode => by
    rw [hsnap, State.snapshot_bad, if_neg hinside, if_pos hwindow]
  refine ⟨_, exec_steerSearch hready hgo, ?_, ?_⟩
  · rw [State.endCycle_port, State.answer_status]
  · rw [State.endCycle_stage, State.answer_stage, State.startSearch_accepted (hgood _), hsnap]

end

/-! ### The mailbox -/

/-- A mailbox command that finds the firmware free reaches it (R674). -/
theorem mailbox_completes (c : Instr) (s : State) (src : Src) (v : Word) (hrow : mailboxRow c = some (src, v)) (hbetween : s.between)
    (hreach : s.reaches src = true) (hpair : s.noPair) (hpower : s.pageOff Reg.LOUPE_MBX_CMD = false) (hmask : bits v 31 16 ≠ 0)
    (hgo : bitOf (maskedWrite (s.reg Reg.LOUPE_MBX_CMD) v) 8 = true)
    (hfits : mailboxFits c (bits (maskedWrite (s.reg Reg.LOUPE_MBX_CMD) v) 7 0) = true) (hnone : s.loupe.mbx = none)
    (hhalted : s.loupe.halted = false) :
    ∃ t, exec c s = .next t ∧ t.port.status = 0 ∧
      t.loupe.mbx = some (bits (maskedWrite (s.reg Reg.LOUPE_MBX_CMD) v) 7 0, s.reg Reg.LOUPE_MBX_ARG) := by
  have hfree : s.mbxRefused = false := by rw [State.mbxRefused, hnone, hhalted]; rfl
  have harg : (s.storedM Reg.LOUPE_MBX_CMD v).reg Reg.LOUPE_MBX_ARG = s.reg Reg.LOUPE_MBX_ARG := s.storedM_reg_other v (by decide)
  refine ⟨_, exec_mailbox hrow, ?_⟩
  rw [State.endCycle_mailbox_free hbetween hreach hpair hpower hmask hgo (by rw [hgo, hfits]; rfl) hfree]
  refine ⟨rfl, ?_⟩
  rw [State.answer_loupe, State.mbxPass, harg]

/-! ### Latent's epochs -/

section
variable {s : State} {b j f : Epoch} (hacting : s.acting = true)
include hacting

/-- JOIN_REACHED at the join's epoch ends the join and takes the group delay (R499). -/
theorem joinReached_completes (hrate : s.latent.rate = some (b, j, f)) (hpre : s.latent.preJoin = true) (hdue : j.toNat ≤ s.clk.epoch.toNat) :
    ∃ t, exec .joinReached s = .next t ∧ t.latent.preJoin = false ∧ t.latent.gd = s.groupDelay := by
  have hnow : s.joinNow = true := by
    rw [State.joinNow, hpre, hrate]
    exact decide_eq_true hdue
  have hjoin : (s.acting && s.joinDue) = true := by
    rw [hacting, State.joinDue, hnow]
    rfl
  have hlatent : s.reachJoin.latent = { s.latent with
      preJoin := s.latent.preJoin && !s.joinNow, gd := if s.joinNow then s.groupDelay else s.latent.gd
      waitJoin := s.latent.waitJoin.filter (fun p => !s.joined p) } :=
    foldl_inv (I := fun t : State => t.latent = _) (fun t r ht =>
      ((State.conf_setTank (recAddr r + 7) s.groupDelay (conf_refl t [.sset, .bumped, .caused, .queue, .fixer, .bank, .mem] fun _ => True)
        (List.Subset.refl _) fun _ _ => trivial).1.1 .latent (by decide)).trans ht) _ _ rfl
  refine ⟨_, exec_due (u := s.reachJoin) rfl hjoin, ?_, ?_⟩
  · rw [State.endCycle_latent, hlatent, hnow]
    exact Bool.and_false _
  · rw [State.endCycle_latent, hlatent, hnow]
    rfl

/-- PREROLL_FILLED at the fill's epoch ends the fill and sets its flag (R498). -/
theorem prerollFilled_completes (hrate : s.latent.rate = some (b, j, f)) (hpre : s.latent.preFill = true) (hdue : f.toNat ≤ s.clk.epoch.toNat) :
    ∃ t, exec .prerollFilled s = .next t ∧ t.latent.preFill = false ∧ t.flag Reg.LATENT_LAT_STATUS 3 = true := by
  have hfill : (s.acting && s.fillDue) = true := by
    rw [hacting, State.fillDue, hpre, hrate]
    exact decide_eq_true hdue
  have hstep : s.prerollStep = s.fillPreroll.updateDrain := if_pos hfill
  have hconf := State.conf_updateDrain (conf_refl s.fillPreroll [.sheet] fun _ => False) (List.Subset.refl _) (List.forall_mem_nil _)
  refine ⟨_, rfl, ?_, ?_⟩
  · rw [State.endCycle_latent, hstep, (hconf.1.1 .latent (by decide) : s.fillPreroll.updateDrain.latent = s.fillPreroll.latent)]
    exact congrArg Latent.preFill (State.setFlag_latent ..)
  · rw [State.endCycle_flag _ _ (by decide) (by decide), State.flag, hstep, (hconf.1.2 _ id).1, ← State.flag]
    exact State.flag_setFlag_same _ _ _ (by decide)

/-- LATENT_FREEZE at its epoch freezes its ring and sets its flag (R503). -/
theorem latentFreeze_completes {w : Bool} {due : Epoch} {rseq : Nat} (hpend : (s.ring w).pend = some (due, rseq))
    (hdue : due.toNat ≤ s.clk.epoch.toNat) :
    ∃ t, exec (.latentFreeze w) s = .next t ∧ (t.ring w).frozen = true ∧ (t.ring w).pend = none ∧
      t.flag Reg.LATENT_LAT_STATUS (if w then 1 else 2) = true := by
  have hfreeze : (s.acting && s.freezeDue w) = true := by
    rw [hacting, State.freezeDue, hpend]
    exact decide_eq_true hdue
  have hlatent : (s.freeze w).latent = (s.modRing w (fun r => { r with frozen := true, pend := none })).latent := by
    simp only [State.freeze, hpend]
    exact State.setFlag_latent ..
  have hflag : (s.freeze w).flag Reg.LATENT_LAT_STATUS (if w then 1 else 2) = true := by
    simp only [State.freeze, hpend]
    exact State.flag_setFlag_same _ _ _ (by cases w <;> decide)
  refine ⟨_, exec_due (u := s.freeze w) rfl hfreeze, ?_, ?_, ?_⟩
  · rw [State.ring, State.endCycle_latent, hlatent]
    cases w <;> rfl
  · rw [State.ring, State.endCycle_latent, hlatent]
    cases w <;> rfl
  · rw [State.endCycle_flag _ _ (by decide) (by decide), hflag]

end

end Sys2Proof.Machine
end

section
/-! PROOFS. The listen and event fields under normal conditions (R176, R218, R396, R397): one active entry of the plan adds its contribution, and
the oldest event takes the first empty word; and the statement drawn from these and from the forms before. -/

namespace Sys2Proof.Machine

/-! ### One active entry of the plan -/

/-- An entry that is not active leaves everything (R396). -/
theorem State.mxEntry_inactive (s : State) (e : Epoch32) (n : Nat) {p : Word × Word} (ws : List Word) (h : mxActive p.1 = false) :
    s.mxEntry e n p.1 p.2 ws = (s, ws) := by
  rw [State.mxEntry, h]
  rfl

theorem State.mxEntries_inactive (s : State) (e : Epoch32) : ∀ (ps : List (Word × Word)) (n : Nat) (ws : List Word),
    ps.all (fun q => !mxActive q.1) = true → s.mxEntries e n ps ws = (s, ws)
  | [], _, _, _ => rfl
  | p :: ps, n, ws, h => by
    rw [List.all_cons, Bool.and_eq_true, Bool.not_eq_true'] at h
    obtain ⟨hp, hps⟩ := h
    rw [State.mxEntries, State.mxEntry_inactive s e n ws hp]
    exact State.mxEntries_inactive s e ps (n + 1) ws hps

/-- The only active entry of a plan is the only one that acts (R396). -/
theorem State.mxEntries_one (s : State) (e : Epoch32) {post : List (Word × Word)} {p : Word × Word}
    (hpost : post.all (fun q => !mxActive q.1) = true) : ∀ (pre : List (Word × Word)) (n : Nat) (ws : List Word),
    pre.all (fun q => !mxActive q.1) = true → s.mxEntries e n (pre ++ p :: post) ws = s.mxEntry e (n + pre.length) p.1 p.2 ws
  | [], n, ws, _ => by
    rw [List.nil_append, State.mxEntries]
    exact State.mxEntries_inactive _ e post _ _ hpost
  | q :: pre, n, ws, h => by
    rw [List.all_cons, Bool.and_eq_true, Bool.not_eq_true'] at h
    obtain ⟨hq, hpre⟩ := h
    rw [List.cons_append, State.mxEntries, State.mxEntry_inactive s e n ws hq]
    refine (State.mxEntries_one s e hpost pre (n + 1) ws hpre).trans ?_
    rw [List.length_cons, Nat.add_assoc, Nat.add_comm 1]

section
variable {s : State} {e : Epoch32} {slotW : Word}

/-- A source word that is read valid has no check error that stands against it (R635). -/
theorem State.eccAt_of_valid {w : Nat} (h : bitOf (s.windowWord w) 0 = true) : s.eccAt w ≠ some true := by
  intro hecc
  rw [State.windowWord, if_pos hecc] at h
  exact Bool.noConfusion h

/-- The unit's own reads leave a source word that is read valid as it is (R643, R645). -/
theorem State.windowWord_fogReads {w : Nat} (ws : List Nat) (h : bitOf (s.windowWord w) 0 = true) : (s.fogReads ws).windowWord w = s.windowWord w := by
  obtain ⟨hmem, -⟩ := s.fogReads_leaves ws
  have hecc := State.eccAt_of_valid h
  rw [State.windowWord, State.windowWord, if_neg hecc, if_neg (State.eccAt_fogReads ws hecc), State.tank, hmem]
  rfl

/-- An entry that nothing skips has a valid source word (R419). -/
theorem State.mxSource_valid (hskip : s.mxSkip slotW (mxStamp e) = none) : bitOf (s.mxSource slotW (mxStamp e)) 0 = true := by
  by_contra hbit
  have hstale : (!bitOf (s.mxSource slotW (mxStamp e)) 0 || !s.stampFresh (s.mxSourceStamp slotW (mxStamp e))) = true := by
    rw [Bool.eq_false_of_not_eq_true hbit]
    rfl
  rw [State.mxSkip, if_pos hstale] at hskip
  split at hskip
  · exact Option.some_ne_none _ hskip
  · split at hskip <;> exact Option.some_ne_none _ hskip

/-- The unit's own read of an entry's source changes nothing that the entry goes by. -/
theorem State.mxSkip_fogReads (ws : List Nat) (hskip : s.mxSkip slotW (mxStamp e) = none) :
    (s.fogReads ws).mxSource slotW (mxStamp e) = s.mxSource slotW (mxStamp e) ∧ (s.fogReads ws).mxSkip slotW (mxStamp e) = none := by
  have hconf := State.conf_fogReads ws (conf_refl s [.sset, .bumped, .caused, .fixer, .bank] fun _ => True) (List.Subset.refl _) fun _ _ => trivial
  have hclk : (s.fogReads ws).clk = s.clk := hconf.1.1 .clk (by decide)
  have hmx : (s.fogReads ws).mx = s.mx := hconf.1.1 .mx (by decide)
  have haper : (s.fogReads ws).aper = s.aper := hconf.1.1 .aper (by decide)
  have hport : (s.fogReads ws).port = s.port := hconf.1.1 .port (by decide)
  have hfull : ∀ t, (s.fogReads ws).fullEpoch t = s.fullEpoch t := fun t => by simp only [State.fullEpoch, State.epoch32, hclk]
  have hstamp : (s.fogReads ws).mxSourceStamp slotW (mxStamp e) = s.mxSourceStamp slotW (mxStamp e) := by simp only [State.mxSourceStamp, hfull]
  have hsource : (s.fogReads ws).mxSource slotW (mxStamp e) = s.mxSource slotW (mxStamp e) := by
    have haddr : (s.fogReads ws).mxSourceAddr slotW (mxStamp e) = s.mxSourceAddr slotW (mxStamp e) := by simp only [State.mxSourceAddr, hstamp]
    rw [State.mxSource, haddr]
    exact State.windowWord_fogReads ws (State.mxSource_valid hskip)
  have hcovered : (s.fogReads ws).covered (mxStamp e) = s.covered (mxStamp e) := by simp only [State.covered, hmx, hfull]
  have hheld : (s.fogReads ws).aperHeld = s.aperHeld := by simp only [State.aperHeld, hport]
  have hfresh : ∀ b, (s.fogReads ws).stampFresh b = s.stampFresh b := fun b => by simp only [State.stampFresh, State.elapsed, haper, hclk]
  refine ⟨hsource, Eq.trans ?_ hskip⟩
  simp only [State.mxSkip, hcovered, hheld, hsource, hstamp, hfresh]

/-- An entry that nothing skips, decided now, contributes its source's sample by its weight (R397). -/
theorem State.mxDecide_new (n : Nat) (gainW : Word) (hdecided : s.mx.decided = []) (hskip : s.mxSkip slotW (mxStamp e) = none) :
    (s.mxDecide e n slotW gainW).1 = some (mxContribution (mxWeight gainW) (hqCode (s.mxSource slotW (mxStamp e)))) := by
  obtain ⟨hsource, hskip'⟩ := State.mxSkip_fogReads [s.mxSourceAddr slotW (mxStamp e)] hskip
  simp only [State.mxDecide, hdecided, List.find?_nil, hskip', hsource]

/-- A decision writes no register but those of its skip and of Tank. -/
theorem State.reg_mxDecide (s : State) (e : Epoch32) (n : Nat) (slotW gainW : Word) :
    (s.mxDecide e n slotW gainW).2.reg Reg.MX_CONTRIB_COUNT = s.reg Reg.MX_CONTRIB_COUNT := by
  have hfog := s.reg_fogReads [s.mxSourceAddr slotW (mxStamp e)] (a := Reg.MX_CONTRIB_COUNT) (by decide)
  unfold State.mxDecide
  split
  · rfl
  · dsimp only
    split
    · rw [← hfog]
      split
      · exact (State.reg_countSat_other _ (by decide)).trans (State.reg_setFlag_other _ _ (by decide))
      · exact (State.reg_countSat_other _ (by decide)).trans (State.reg_setFlag_other _ _ (by decide))
    · exact hfog

/-- An active entry of the frame's parity that nothing skips adds to its slot word, and counts (R396, R397). -/
theorem State.mxEntry_adds (n : Nat) (gainW : Word) (ws : List Word) (hactive : mxActive slotW = true)
    (hodd : mxOdd slotW = decide (e.toNat % 2 = 1)) (hdecided : s.mx.decided = []) (hskip : s.mxSkip slotW (mxStamp e) = none) :
    (s.mxEntry e n slotW gainW ws).2 = ws.set (mxSlot slotW) (mxAdd (nth ws (mxSlot slotW) 0)
      (mxContribution (mxWeight gainW) (hqCode (s.mxSource slotW (mxStamp e))))).1 ∧
    (s.mxEntry e n slotW gainW ws).1.reg Reg.MX_CONTRIB_COUNT = s.reg Reg.MX_CONTRIB_COUNT + 1 := by
  have hgoes : (mxActive slotW && mxOdd slotW == (e.toNat % 2 == 1)) = true := by
    rw [hactive, hodd]
    exact beq_self_eq_true _
  have hdecides := State.mxDecide_new n gainW hdecided hskip
  have hcount := s.reg_mxDecide e n slotW gainW
  rw [State.mxEntry, if_pos hgoes]
  generalize s.mxDecide e n slotW gainW = d at hdecides hcount ⊢
  obtain ⟨c, u⟩ := d
  obtain rfl : c = _ := hdecides
  refine ⟨rfl, ?_⟩
  dsimp only
  rw [← hcount, ← State.reg_countWrap_same]
  split
  · exact (State.reg_countSat_other _ (by decide)).trans (State.reg_setFlag_other _ _ (by decide))
  · rfl

end

section
variable {s : State} {x : Side} (hrunning : s.running = true) (htraining : s.link.training = none) (hloop : s.link.loop = none)
  (hwrap : s.link.wrap = none) (hmay : s.mayAdd x = true) (hheader : (s.sd x).hdrValid = true) (hresourced : (s.sd x).resourced = false)
  (hvoid : (s.out (other x)).void = false)

include hmay in
/-- A unit that may add forwards (R128, R176). -/
theorem State.forwarding_of_mayAdd : s.link.forwarding = true := by
  simp only [State.mayAdd, State.feeds, Bool.and_eq_true] at hmay
  obtain ⟨⟨-, ⟨hforward, -⟩, -⟩, -⟩ := hmay
  exact hforward

include hloop hmay hheader in
/-- A unit that may add to a copy with a valid header may add to each field of it, where no loop runs (R163, R176). -/
theorem State.mayAddTo_of (k : Nat) : s.mayAddTo x k = true := by
  rw [State.mayAddTo, hmay, hheader, State.frameLooped, hloop]
  rfl

include hrunning htraining hloop hwrap hmay hheader hresourced hvoid in
/-- LISTEN_FIELD adds the contribution of the plan's one active entry (R396, R397). -/
theorem listenField_completes {ws : List Word} {pre post : List (Word × Word)} {p : Word × Word} {e : Epoch32} (hpower : s.blockUp 2 = true)
    (he : e = (s.sd x).epoch) (hplan : s.planFor e = pre ++ p :: post) (hothers : (pre ++ post).all (fun q => !mxActive q.1) = true)
    (hactive : mxActive p.1 = true) (hodd : mxOdd p.1 = decide (e.toNat % 2 = 1)) (hdecided : s.mx.decided = [])
    (hskip : s.mxSkip p.1 (mxStamp e) = none) :
    ∃ t, exec (.listenField x ws (crc32 (wordsBits ws))) s = .next t ∧
      (t.out (other x)).listen = ws.set (mxSlot p.1) (mxAdd (nth ws (mxSlot p.1) 0)
        (mxContribution (mxWeight p.2) (hqCode (s.mxSource p.1 (mxStamp e))))).1 ∧
      (t.out (other x)).listenCheck = crc32 (wordsBits (t.out (other x)).listen) ∧
      t.reg Reg.MX_CONTRIB_COUNT = s.reg Reg.MX_CONTRIB_COUNT + 1 := by
  have hpasses : (crc32 (wordsBits ws) == crc32 (wordsBits ws)) = true := beq_self_eq_true _
  have hadds : s.listenAdds x = true := by
    rw [State.listenAdds, State.mayAddTo_of hloop hmay hheader, hpower, htraining]
    rfl
  obtain ⟨hpre, hpost⟩ := Bool.and_eq_true_iff.1 (List.all_append ▸ hothers)
  have hlistened : s.listened x ws = s.mxEntry e (0 + pre.length) p.1 p.2 ws := by
    rw [State.listened, if_pos hadds, ← he, hplan]
    exact State.mxEntries_one s e hpost pre 0 ws hpre
  obtain ⟨hwords, hcount⟩ := State.mxEntry_adds (0 + pre.length) p.2 ws hactive hodd hdecided hskip
  obtain ⟨hlisten, hcheck⟩ := State.out_listenField (ws := ws) (check := crc32 (wordsBits ws)) (State.forwarding_of_mayAdd hmay) hloop hwrap
    hresourced hvoid
  rw [hpasses, State.judgeCheck_passes, hlistened] at hlisten hcheck
  refine ⟨_, exec_listenField_works hrunning htraining hloop, hlisten.trans hwords, ?_, ?_⟩
  · rw [hcheck, hlisten, listenCheckOut, hpasses]
    split
    · next hsame => rw [hsame]
    · rfl
  · rw [State.endCycle_reg _ (by decide) (by decide), State.listenField_eq, hpasses, State.judgeCheck_passes, hlistened, ← hcount]
    exact ((State.forwardField_leaves _ x 1 _ _).1.2 _ (List.not_mem_nil)).1

/-! ### The oldest event -/

/-- The first event that is due on a side goes into the first word that came empty and that the unit may take (R218). -/
theorem insertEvents_first {may : Nat → Bool} {x : Side} {both : Bool} {addr : Nat} {ev : Event} {rest : List Event} (hsent : ev.sent x = false) :
    ∀ (ws : List Word) (w k : Nat), w < ws.length → (∀ j, j < w → nth ws j 0 ≠ 0) → nth ws w 0 = 0 → may (k + w) = true →
      nth (insertEvents may x both addr k ws (ev :: rest)).1 w 0 = eventWord addr ev
  | [], _, _, hw, _, _, _ => absurd hw (Nat.not_lt_zero _)
  | v :: vs, w, k, hw, hfull, hempty, hmay => by
    have hfirst : (ev :: rest).findIdx? (fun e => !e.sent x) = some 0 := by
      rw [List.findIdx?_cons, hsent]
      rfl
    rw [insertEvents, hfirst]
    cases w with
    | zero =>
      have htakes : v = 0 ∧ may k = true := ⟨hempty, hmay⟩
      simp only [if_pos htakes]
      rfl
    | succ w =>
      have hpasses : ¬ (v = 0 ∧ may k = true) := fun h => hfull 0 (Nat.succ_pos _) h.1
      simp only [if_neg hpasses]
      exact insertEvents_first hsent vs w (k + 1) (Nat.lt_of_succ_lt_succ hw) (fun j hj => hfull (j + 1) (Nat.succ_lt_succ hj)) hempty
        (by rw [Nat.add_assoc, Nat.add_comm 1]; exact hmay)

include hrunning htraining hloop hwrap hmay hheader hresourced hvoid in
/-- EVENT_FIELD puts the oldest event into the first empty word that the unit may take (R218). -/
theorem eventField_completes {ws : List Word} {w : Nat} {ev : Event} {rest : List Event} (hon : s.flag Reg.QUEUE_QUEUE_CFG 1 = false)
    (hposition : s.ident.position ≠ 0) (hevents : s.queue.events = ev :: rest) (hsent : ev.sent x = false) (hw : w < ws.length)
    (hfull : ∀ j, j < w → nth ws j 0 ≠ 0) (hempty : nth ws w 0 = 0)
    (htake : mayTakeEvent s.clk.daylight x (s.sd x).epoch s.ident.position w = true) :
    ∃ t, exec (.eventField x ws (crc16 (wordsBits ws))) s = .next t ∧
      nth (t.out (other x)).event w 0 = eventWord s.unitAddr ev ∧
      (∀ j, nth ws j 0 ≠ 0 → nth (t.out (other x)).event j 0 = nth ws j 0) ∧
      (t.out (other x)).eventCheck = crc16 (wordsBits (t.out (other x)).event) := by
  have hpasses : (crc16 (wordsBits ws) == crc16 (wordsBits ws)) = true := beq_self_eq_true _
  have hjudged : s.eventJudged x ws (crc16 (wordsBits ws)) = s := by rw [State.eventJudged, hpasses, State.judgeCheck_passes]
  have hgo : s.eventsGo x = true := by
    rw [State.eventsGo, State.mayAddTo_of hloop hmay hheader, hon, bne_iff_ne.2 hposition]
    rfl
  obtain ⟨hword, hcheck, -⟩ := State.out_eventField (ws := ws) (check := crc16 (wordsBits ws)) (State.forwarding_of_mayAdd hmay) hloop (.inl hwrap)
    hresourced hvoid
  have hinserts := State.evented_inserts_judged (s := s) (x := x) (ws := ws) (check := crc16 (wordsBits ws))
  rw [hjudged] at hword hcheck hinserts
  refine ⟨_, exec_eventField_works hrunning htraining hloop, ?_, fun j hj => ?_, ?_⟩
  · rw [hword, State.evented, if_pos hgo, hevents]
    exact insertEvents_first hsent ws w 0 hw hfull hempty (by rw [Nat.zero_add]; exact htake)
  · rw [hword]
    exact hinserts.kept j hj
  · rw [hcheck, hword, eventCheckOut, hpasses]
    split
    · next hsame => rw [hsame]
    · rfl

end

/-- Settles O60: each form under its own conditions, from the lemma that says what it leaves. -/
theorem formsCompleteWithTheirEffect : Obligations.FormsCompleteWithTheirEffect := by
  unfold Obligations.FormsCompleteWithTheirEffect
  refine ⟨?_, ?_, ?_, ?_, ?_, fun s src v => latCtl_completes, ?_, mailbox_completes, ?_⟩
  · intro s x ws pre post p e hrunning htraining hloop hwrap hmay hheader hresourced hvoid hpower he hplan hothers hactive hodd hdecided hskip _
    exact listenField_completes hrunning htraining hloop hwrap hmay hheader hresourced hvoid hpower he hplan hothers hactive hodd hdecided hskip
  · intro s x ws w ev rest hrunning htraining hloop hwrap hmay hheader hresourced hvoid
    exact eventField_completes hrunning htraining hloop hwrap hmay hheader hresourced hvoid
  · exact fun s src v i hready hlen hgo hi hmask => seedLoad_completes hready hlen hgo hi hmask
  · exact fun s src v p hready hgo hp hgood => profileCommit_completes hready hgo hp hgood
  · exact fun s src v n hready hgo hn => templateRequests_complete hready hgo hn
  · exact fun s src v hready hgo hcarriers hmin hnom hmax htop =>
      steerSearch_completes hready hgo hcarriers ⟨hmin, hnom, hmax, htop⟩
  · exact fun s b j f w due rseq hacting hrate => ⟨joinReached_completes hacting hrate, prerollFilled_completes hacting hrate,
      latentFreeze_completes hacting⟩

end Sys2Proof.Machine
end

section
/-! PROOFS. The link clocks stop and return (R19, R34, R35, R61, R130): a stop of both, the missing-edge monitor, and an input that is lost and
one that returns. -/

namespace Sys2Proof.Machine

/-! ### Both clocks stop -/

/-- A stop of both clocks changes the edge flags and notes the epoch of a thermal latch-out, and nothing else (R61). -/
theorem clockStop_leaves (s : State) (hbetween : s.between) :
    ∃ t, exec .clockStop s = .next t ∧ t.running = false ∧ t.clk.edgeA = false ∧ t.clk.edgeB = false ∧
      t.outClocked .a = false ∧ t.outClocked .b = false ∧
      t = { s with clk := t.clk, stage := { s.stage with ch := t.stage.ch } } ∧
      ∀ n, t.stageCh n = { s.stageCh n with stopAt := (t.stageCh n).stopAt } := by
  have hunclocked : ∀ y, s.clockStop.outClocked y = false := fun y => by
    rw [State.outClocked, show s.clockStop.clk.stopped = true from rfl, Bool.not_true, Bool.and_false, Bool.false_and]
  have hstop : ∀ (e : Epoch) (c : StageCh), c.stop e = { c with stopAt := (c.stop e).stopAt } := fun e c => by
    unfold StageCh.stop
    split <;> rfl
  have hch : ∀ n, s.clockStop.stageCh n = (s.stageCh n).stop s.clk.epoch := fun n => by
    have hdefault : ({} : StageCh).stop s.clk.epoch = {} := rfl
    rw [State.stageCh, State.stageCh, nth, nth]
    show (s.stage.ch.map (StageCh.stop s.clk.epoch)).getD n {} = _
    rw [← hdefault, List.getD_map]
    rfl
  refine ⟨s.clockStop, ?_, ?_, rfl, rfl, hunclocked .a, hunclocked .b, rfl, fun n => ?_⟩
  · show Host.Outcome.next s.clockStop.endCycle = _
    rw [State.endCycle_of_between (s := s.clockStop) hbetween]
  · exact Bool.and_false _
  · rw [hch]
    exact hstop _ _

/-! ### The missing-edge monitor -/

/-- What the monitor's trip does at one drive channel (R34, R35). -/
def State.edgeVisit (s : State) (n : Nat) : State :=
  (if (s.drive n).st = .off then s
    else (s.driveTo n .off).modDrive n (fun d => { d with edgeWait := true, clean := 0 })).modDrive n
    (fun d => { d with out := 0, interp := {}, prior := {}, quiet := false })

/-- The drive channels after the monitor's trip. -/
def State.edgeVisited (s : State) : State := (List.range 8).foldl State.edgeVisit s

theorem State.edgeLoss_eq (s : State) : s.edgeLoss = { s.edgeVisited.setFlag Reg.CHIP_CLK_STATUS 5 with
    clk := { (s.edgeVisited.setFlag Reg.CHIP_CLK_STATUS 5).clk with edgeLossPend := true } } := by
  unfold State.edgeLoss State.edgeVisited State.edgeVisit
  rfl

/-- The end of a loop writes one word of the pair, and nothing where its channel has none (R576). -/
theorem State.loopOff_leaves (s : State) (n : Nat) : (s.loopOff n).print.drives = s.print.drives ∧
    (∀ a, a ≠ Reg.PRINT_PROOF_CTL_A → (s.loopOff n).reg a = s.reg a) ∧
    (s.stageLoop n = false → (s.loopOff n).print.loop = s.print.loop ∧ ∀ a, (s.loopOff n).reg a = s.reg a) := by
  unfold State.loopOff
  dsimp only
  split
  · next hloop =>
    exact ⟨rfl, fun a ha => State.reg_setPair_other _ _ ha, fun hnone => Bool.noConfusion (hloop.symm.trans hnone)⟩
  · exact ⟨rfl, fun _ _ => rfl, fun _ => ⟨rfl, fun _ => rfl⟩⟩

/-- A channel that is taken to OFF: its own state, and the loop that it may end (R559, R576). -/
theorem State.driveTo_off_leaves (s : State) (n : Nat) :
    (∃ f : Drive → Drive, (∀ d, (f d).st = .off) ∧ (s.driveTo n .off).print.drives = modNth s.print.drives n f) ∧
    (∀ a, a ≠ Reg.PRINT_PROOF_CTL_A → (s.driveTo n .off).reg a = s.reg a) ∧
    (s.stageLoop n = false → (s.driveTo n .off).print.loop = s.print.loop ∧ ∀ a, (s.driveTo n .off).reg a = s.reg a) := by
  have hnote : ∀ (u : State) (rel : Bool), (u.noteShdn n rel).print = u.print ∧ ∀ a, (u.noteShdn n rel).reg a = u.reg a := fun u rel => by
    have hconf := State.conf_noteShdn n rel (conf_refl u [.stage] fun _ => False) (List.Subset.refl _) (List.forall_mem_nil _)
    exact ⟨hconf.1.1 .print (by decide), fun a => (hconf.1.2 a id).1⟩
  let f : Drive → Drive := fun d => { d with st := .off, cnt := 0, bath := none, causes := 0 }
  obtain ⟨hdrives, hreg, hcalm⟩ := (s.modDrive n f).loopOff_leaves n
  have hcases : s.driveTo n .off = if ((s.modDrive n f).loopOff n).released n = s.released n then (s.modDrive n f).loopOff n
      else ((s.modDrive n f).loopOff n).noteShdn n (((s.modDrive n f).loopOff n).released n) := rfl
  have hleaves : (s.driveTo n .off).print = ((s.modDrive n f).loopOff n).print ∧
      ∀ a, (s.driveTo n .off).reg a = ((s.modDrive n f).loopOff n).reg a := by
    rw [hcases]
    split
    · exact ⟨rfl, fun _ => rfl⟩
    · exact hnote _ _
  obtain ⟨hprint, hregs⟩ := hleaves
  refine ⟨⟨f, fun _ => rfl, ?_⟩, fun a ha => (hregs a).trans (hreg a ha), fun hnone => ?_⟩
  · rw [hprint, hdrives]
    rfl
  · obtain ⟨hloop, hsame⟩ := hcalm hnone
    exact ⟨by rw [hprint, hloop]; rfl, fun a => (hregs a).trans (hsame a)⟩

/-- A channel that stands in OFF with its output at 0. -/
def State.DriveDead (s : State) (n : Nat) : Prop := (s.drive n).st = .off ∧ (s.drive n).out = 0

/-- The monitor's trip takes its channel to OFF with code 0, and leaves the others. -/
theorem State.edgeVisit_dead (s : State) (n : Nat) : (s.edgeVisit n).DriveDead n ∧ ∀ m, m ≠ n → (s.edgeVisit n).drive m = s.drive m := by
  obtain ⟨⟨f, hoff, hdrives⟩, -⟩ := s.driveTo_off_leaves n
  let wait : Drive → Drive := fun d => { d with edgeWait := true, clean := 0 }
  have hzero : ∀ u : State, (u.drive n).st = .off →
      (u.modDrive n (fun d => { d with out := 0, interp := {}, prior := {}, quiet := false })).DriveDead n := fun u hu =>
    nth_modNth_prop (P := fun d : Drive => d.st = .off ∧ d.out = 0) _ _ _ _ ⟨hu, rfl⟩ ⟨rfl, rfl⟩
  unfold State.edgeVisit
  split
  · next hst => exact ⟨hzero s hst, fun m hm => State.drive_modDrive_other _ _ hm⟩
  · refine ⟨hzero _ ?_, fun m hm => ?_⟩
    · refine nth_modNth_prop (P := fun d : Drive => d.st = .off) _ _ _ _ ?_ rfl
      rw [hdrives]
      exact nth_modNth_prop (P := fun d : Drive => d.st = .off) _ _ _ _ (hoff _) rfl
    · rw [State.drive_modDrive_other _ _ hm, State.drive_modDrive_other _ _ hm, State.drive, hdrives]
      exact nth_modNth_other _ _ _ hm

theorem foldl_edgeVisit_dead (l : List Nat) (s : State) : ∀ n ∈ l, (l.foldl State.edgeVisit s).DriveDead n :=
  foldl_each (P := State.DriveDead) (fun s n => (s.edgeVisit_dead n).1) (fun s n m h => by
    by_cases hm : m = n
    · exact hm ▸ (s.edgeVisit_dead n).1
    · rw [State.DriveDead, (s.edgeVisit_dead n).2 m hm]
      exact h) l s

/-- After the trip every channel stands in OFF with its output at 0 (R34). -/
theorem State.edgeVisited_dead (s : State) {n : Nat} (hn : n < 8) : s.edgeVisited.DriveDead n :=
  foldl_edgeVisit_dead (List.range 8) s n (List.mem_range.2 hn)

/-- The trip at one channel writes no register but that of the loop that it may end. -/
theorem State.edgeVisit_regs (s : State) (n : Nat) : (∀ a, a ≠ Reg.PRINT_PROOF_CTL_A → (s.edgeVisit n).reg a = s.reg a) ∧
    (s.stageLoop n = false → (s.edgeVisit n).print.loop = s.print.loop ∧ ∀ a, (s.edgeVisit n).reg a = s.reg a) := by
  obtain ⟨-, hreg, hcalm⟩ := s.driveTo_off_leaves n
  unfold State.edgeVisit
  generalize s.driveTo n .off = u at hreg hcalm ⊢
  split
  · exact ⟨fun _ _ => rfl, fun _ => ⟨rfl, fun _ => rfl⟩⟩
  · exact ⟨hreg, hcalm⟩

theorem foldl_edgeVisit_regs (l : List Nat) (s : State) : KeepsRegs s (l.foldl State.edgeVisit s) [Reg.PRINT_PROOF_CTL_A] := fun a ha =>
  foldl_keeps (R := fun s t => t.reg a = s.reg a) (fun _ => rfl) (fun _ _ _ h h' => h'.trans h)
    (fun s n => (s.edgeVisit_regs n).1 a (List.ne_of_not_mem_cons ha)) l s

theorem State.edgeVisited_regs (s : State) : KeepsRegs s s.edgeVisited [Reg.PRINT_PROOF_CTL_A] := foldl_edgeVisit_regs (List.range 8) s

theorem foldl_edgeVisit_loopless (a : Nat) : ∀ (l : List Nat) (s : State), (∀ n ∈ l, n < 8) → (∀ n, n < 8 → s.stageLoop n = false) →
    (l.foldl State.edgeVisit s).reg a = s.reg a
  | [], _, _, _ => rfl
  | n :: l, s, hl, hs => by
    obtain ⟨hloop, hreg⟩ := (s.edgeVisit_regs n).2 (hs n (hl n List.mem_cons_self))
    refine (foldl_edgeVisit_loopless a l _ (fun m hm => hl m (List.mem_cons_of_mem n hm)) fun m hm => ?_).trans (hreg a)
    rw [State.stageLoop, hloop]
    exact hs m hm

/-- Where no loop of a stage runs, the trip writes no register. -/
theorem State.edgeVisited_loopless (s : State) (hnone : ∀ n, n < 8 → s.stageLoop n = false) (a : Nat) : s.edgeVisited.reg a = s.reg a :=
  foldl_edgeVisit_loopless a (List.range 8) s (fun _ hn => List.mem_range.1 hn) hnone

/-- The trip of the missing-edge monitor (R34, R35, R65). -/
theorem edgeLoss_trips (s : State) (hbetween : s.between) (hpower : s.clk.power = .up) (hdone : s.ident.done = true) (hblock : s.blockUp 3 = true) :
    ∃ t, exec .edgeLoss s = .next t ∧ t.flag Reg.CHIP_CLK_STATUS 5 = true ∧ t.clk.edgeLossPend = true ∧
      (∀ n, n < 8 → (t.drive n).st = .off ∧ (t.drive n).out = 0 ∧ t.released n = false) ∧ Logged s t [] ∧
      ((∀ n, n < 8 → s.stageLoop n = false) → t.reg Reg.PRINT_PROOF_CTL_A = s.reg Reg.PRINT_PROOF_CTL_A) ∧
      KeepsRegs s t [Reg.CHIP_CLK_STATUS, Reg.PRINT_PROOF_CTL_A] := by
  have harmed : s.monitorArmed = true := by rw [State.monitorArmed, hpower, hdone, hblock]; rfl
  have hconf := State.conf_edgeLoss (conf_refl s [.sset, .bumped, .caused, .clk, .print, .stage] fun _ => True) (List.Subset.refl _)
    fun _ _ => trivial
  have hfixer : s.edgeLoss.fixer = s.fixer := hconf.1.1 .fixer (by decide)
  have hdrive : ∀ n, s.edgeLoss.endCycle.drive n = s.edgeVisited.drive n := fun n => by
    rw [State.drive, State.endCycle_print, State.edgeLoss_eq]
    generalize s.edgeVisited = u
    exact congrArg (fun p => nth p.drives n {}) (u.setFlag_print Reg.CHIP_CLK_STATUS 5)
  have hreg : ∀ a, a ≠ Reg.CHIP_CLK_STATUS → s.edgeLoss.reg a = s.edgeVisited.reg a := fun a ha => by
    rw [State.edgeLoss_eq]
    generalize s.edgeVisited = u
    exact State.reg_setFlag_other _ _ ha
  refine ⟨_, exec_due (u := s.edgeLoss) rfl harmed, ?_, ?_, fun n hn => ?_,
    State.logged_endCycle_nil (by rw [hfixer]) (by rw [hfixer]; exact hbetween.1),
    fun hnone => ?_, State.keepsRegs_endCycle_calm (by rw [hfixer]; exact hbetween.1) fun a ha => ?_⟩
  · rw [State.endCycle_flag _ _ (by decide) (by decide), State.edgeLoss_eq]
    generalize s.edgeVisited = u
    exact State.flag_setFlag_same _ _ _ (by decide)
  · rw [State.endCycle_clk, State.edgeLoss_eq]
  · obtain ⟨hst, hout⟩ := s.edgeVisited_dead hn
    rw [State.released, hdrive, hst]
    exact ⟨rfl, hout, rfl⟩
  · rw [State.endCycle_reg _ (by decide) (by decide), hreg _ (by decide), State.edgeVisited_loopless s hnone]
  · rw [hreg a (List.ne_of_not_mem_cons ha)]
    exact s.edgeVisited_regs a (List.not_mem_of_not_mem_cons ha)

/-! ### An input is lost -/

/-- The rest of a frame that is filled as void is a void frame (R19). -/
theorem OutSide.void_voidRest (bits : List Bool) (o : OutSide) : (o.voidRest bits).void = true := by
  unfold OutSide.voidRest
  rfl

/-- The edge flag of an input. -/
def Clk.edge (c : Clk) : Side → Bool
  | .a => c.edgeA
  | .b => c.edgeB

/-- The clock's state when an input has lost its edges. -/
def Clk.edgeLost (c : Clk) : Side → Clk
  | .a => { c with edgeA := false }
  | .b => { c with edgeB := false }

theorem Clk.edgeLost_leaves (c : Clk) (x : Side) : (c.edgeLost x).edge x = false ∧ (c.edgeLost x).side = c.side ∧
    (c.edgeLost x).switched = c.switched ∧ (c.edgeLost x).power = c.power ∧ (c.edgeLost x).stopped = c.stopped := by
  cases x <;> exact ⟨rfl, rfl, rfl, rfl, rfl⟩

theorem Clk.edge_congr {c d : Clk} (ha : c.edgeA = d.edgeA) (hb : c.edgeB = d.edgeB) (x : Side) : c.edge x = d.edge x := by
  cases x
  · exact ha
  · exact hb

/-- What the loss of an input does at its side, before the selection is looked at (R19). -/
def State.inputGone (s : State) (x : Side) (bits : List Bool) : State :=
  { (s.voidFill x bits).modSd x (fun d => { d with lost := true, resourced := true }) with
    clk := ((s.voidFill x bits).modSd x (fun d => { d with lost := true, resourced := true })).clk.edgeLost x }

section
variable {s : State} {x : Side} {bits : List Bool}

theorem State.voidFill_leaves (s : State) (x : Side) (bits : List Bool) :
    Confined s [.outA, .outB] (· ∈ ([] : List Nat)) (s.voidFill x bits) :=
  State.conf_voidFill x bits (conf_refl s _ _) (List.Subset.refl _) fun _ h => h

theorem State.inputGone_leaves (s : State) (x : Side) (bits : List Bool) : (s.inputGone x bits).clk = s.clk.edgeLost x ∧
    (s.inputGone x bits).sd x = { s.sd x with lost := true, resourced := true } ∧
    (∀ a, (s.inputGone x bits).reg a = s.reg a) ∧ (∀ y, (s.inputGone x bits).out y = (s.voidFill x bits).out y) := by
  have hconf := s.voidFill_leaves x bits
  have hside := State.sd_congr (hconf.1.1 .sideA (by decide)) (hconf.1.1 .sideB (by decide)) x
  have hclk : (s.voidFill x bits).clk = s.clk := hconf.1.1 .clk (by decide)
  have hreg : ∀ a, (s.voidFill x bits).reg a = s.reg a := fun a => (hconf.1.2 a List.not_mem_nil).1
  refine ⟨?_, ?_, ?_, ?_⟩
  · rw [← hclk]
    cases x <;> rfl
  · rw [← hside]
    cases x <;> rfl
  · intro a
    rw [← hreg a]
    cases x <;> rfl
  · intro y
    cases x <;> cases y <;> rfl

/-- An output that carried the lost input's copy fills the rest of its frame as void (R19). -/
theorem State.voidFill_void (htraining : s.link.training = none) {y : Side} (hfeeds : s.feeds x y = true) :
    ((s.voidFill x bits).out y).void = true := by
  rw [State.voidFill, htraining, Option.isSome_none, if_neg Bool.false_ne_true, State.out_modFed, if_pos hfeeds]
  split
  · next hvoid => exact hvoid
  · exact OutSide.void_voidRest _ _

/-- An output whose opposite input has edges no more is sourced from the other input (R19, R128). -/
theorem State.outFromOpposite_of_gone {t : State} (hresourced : (t.sd x).resourced = true) (hclocked : t.outClocked (other x) = true) :
    t.outFromOpposite (other x) = false := by
  have hother : other (other x) = x := by cases x <;> rfl
  rw [State.outFromOpposite, hother, hresourced]
  rw [State.outClocked] at hclocked
  split
  · next z f hloop =>
    rw [hloop] at hclocked
    cases x <;> cases z <;> simp_all [other]
  · rfl

/-- The selection moves to the other input, and says so (R21). -/
def State.sideSwitched (s : State) (x : Side) : State :=
  { s.setFlag Reg.CHIP_CLK_STATUS 4 with clk := { (s.setFlag Reg.CHIP_CLK_STATUS 4).clk with side := other x, switched := true } }

/-- A loss of the selected input lets the unit select the other one, where SIDE_LOCK does not hold it (R20, R21). -/
theorem State.clockLost_eq (hrunning : s.running = true) (hlost : (s.sd x).lost = false) : s.clockLost x bits =
    if s.clk.side = x ∧ s.flag Reg.CHIP_CLK_CFG 1 = false then (s.inputGone x bits).sideSwitched x else s.inputGone x bits := by
  obtain ⟨hclk, -, hreg, -⟩ := s.inputGone_leaves x bits
  obtain ⟨-, hside, -, hpower, hstopped⟩ := s.clk.edgeLost_leaves x
  have hruns : (s.inputGone x bits).running = true := by rw [← hrunning, State.running, State.running, hclk, hpower, hstopped]
  have hflag : (s.inputGone x bits).flag Reg.CHIP_CLK_CFG 1 = s.flag Reg.CHIP_CLK_CFG 1 := congrArg (bitOf · 1) (hreg _)
  have hlost' : ¬ (s.sd x).lost = true := by rw [hlost]; exact Bool.false_ne_true
  have hcases : s.clockLost x bits = if (s.inputGone x bits).clk.side = x ∧ (!(s.inputGone x bits).flag Reg.CHIP_CLK_CFG 1) = true then
      (if (s.inputGone x bits).running then (s.inputGone x bits).sideSwitched x
        else { s.inputGone x bits with clk := { (s.inputGone x bits).clk with side := other x } }) else s.inputGone x bits := by
    unfold State.clockLost
    rw [if_neg hlost']
    cases x <;> rfl
  rw [hcases, hclk, hside, hflag, if_pos hruns]
  simp only [Bool.not_eq_true']

theorem State.sideSwitched_leaves (s : State) (x : Side) : (∀ y, (s.sideSwitched x).sd y = s.sd y) ∧ (∀ y, (s.sideSwitched x).out y = s.out y) ∧
    (s.sideSwitched x).flag Reg.CHIP_CLK_STATUS 4 = true ∧ (s.sideSwitched x).clk = { s.clk with side := other x, switched := true } := by
  refine ⟨fun y => ?_, fun y => ?_, State.flag_setFlag_same _ _ _ (by decide), ?_⟩
  · cases y
    · exact State.setFlag_sideA ..
    · exact State.setFlag_sideB ..
  · cases y
    · exact State.setFlag_outA ..
    · exact State.setFlag_outB ..
  · exact congrArg (fun c : Clk => { c with side := other x, switched := true }) (State.setFlag_clk ..)

/-- What the loss of an input leaves of its side, the outputs, its flag and the selection (R19, R20, R21). -/
theorem State.clockLost_leaves (hrunning : s.running = true) (hlost : (s.sd x).lost = false) :
    (s.clockLost x bits).sd x = { s.sd x with lost := true, resourced := true } ∧
    (∀ y, (s.clockLost x bits).out y = (s.voidFill x bits).out y) ∧ (s.clockLost x bits).clk.edge x = false ∧
    (if s.clk.side = x ∧ s.flag Reg.CHIP_CLK_CFG 1 = false
     then (s.clockLost x bits).clk.side = other x ∧ (s.clockLost x bits).clk.switched = true ∧
       (s.clockLost x bits).flag Reg.CHIP_CLK_STATUS 4 = true
     else (s.clockLost x bits).clk.side = s.clk.side ∧ (s.clockLost x bits).clk.switched = s.clk.switched) := by
  obtain ⟨hclk, hsd, -, hout⟩ := s.inputGone_leaves x bits
  obtain ⟨hedge, hside, hswitched, -⟩ := s.clk.edgeLost_leaves x
  rw [State.clockLost_eq hrunning hlost]
  by_cases hmoves : s.clk.side = x ∧ s.flag Reg.CHIP_CLK_CFG 1 = false
  · obtain ⟨hsd', hout', hflag, hclk'⟩ := (s.inputGone x bits).sideSwitched_leaves x
    rw [if_pos hmoves, if_pos hmoves, hclk', hclk]
    exact ⟨(hsd' x).trans hsd, fun y => (hout' y).trans (hout y), (Clk.edge_congr rfl rfl x).trans hedge, rfl, rfl, hflag⟩
  · rw [if_neg hmoves, if_neg hmoves, hclk]
    exact ⟨hsd, hout, hedge, hside, hswitched⟩

/-- The loss of one input under the 4-edge criterion (R19, R20, R21). -/
theorem clockInputLost_leaves (hrunning : s.running = true) (hlost : (s.sd x).lost = false) (hother : (s.sd (other x)).lost = false) :
    ∃ t, exec (.clockInputLost ⟨x, bits⟩) s = .next t ∧ (t.sd x).lost = true ∧ (t.sd x).lock = (s.sd x).lock ∧
      (t.sd x).misses = (s.sd x).misses ∧ (t.sd x).resourced = true ∧ (t.outClocked (other x) = true → t.outFromOpposite (other x) = false) ∧
      (s.link.training = none → s.feeds x (other x) = true → (t.out (other x)).void = true) ∧
      t.clk.edge x = false ∧
      (if s.clk.side = x ∧ s.flag Reg.CHIP_CLK_CFG 1 = false
       then t.clk.side = other x ∧ t.clk.switched = true ∧ t.flag Reg.CHIP_CLK_STATUS 4 = true
       else t.clk.side = s.clk.side ∧ t.clk.switched = s.clk.switched) := by
  have hgoes : ((s.running || s.holding) && !(s.sd (other x)).lost) = true := by rw [hrunning, hother]; rfl
  obtain ⟨hsd, hout, hedge, hselection⟩ := State.clockLost_leaves (bits := bits) hrunning hlost
  refine ⟨_, exec_due (u := s.clockLost x bits) rfl hgoes, ?_, ?_, ?_, ?_, fun hclocked => ?_, fun htraining hfeeds => ?_, ?_, ?_⟩
  · rw [State.sd_endCycle, hsd]
  · rw [State.sd_endCycle, hsd]
  · rw [State.sd_endCycle, hsd]
  · rw [State.sd_endCycle, hsd]
  · exact State.outFromOpposite_of_gone (by rw [State.sd_endCycle, hsd]) hclocked
  · rw [State.out_endCycle, hout]
    exact State.voidFill_void htraining hfeeds
  · rw [State.endCycle_clk]
    exact hedge
  · rw [State.endCycle_clk, State.endCycle_flag _ _ (by decide) (by decide)]
    exact hselection

end

/-! ### An input returns -/

/-- An input whose edges return has its flag again, a stopped unit runs, and no register changes (R130). -/
theorem clockInputReturn_leaves (s : State) (x : Side) (hbetween : s.between) :
    ∃ t, exec (.clockInputReturn x) s = .next t ∧ (t.sd x).lost = false ∧
      t.clk.edge x = true ∧ t.clk.stopped = false ∧ t.clk.epoch = s.clk.epoch ∧
      KeepsRegs s t [] := by
  obtain ⟨l, hmarked⟩ : ∃ l : Latent, (if s.clk.stopped then s.gapMark else s) = { s with latent := l } := by
    split
    · exact ⟨_, rfl⟩
    · exact ⟨_, rfl⟩
  have hbiases : ∀ u : State, Confined u [.front] (fun _ => False) (if u.acting then u.updateBiases else u) := fun u => by
    split
    · exact State.conf_updateBiases (conf_refl u _ _) (List.Subset.refl _) (List.forall_mem_nil _)
    · exact conf_refl u _ _
  have hconf := hbiases ((if s.clk.stopped then s.gapMark else s).clockReturn x)
  have hstep : s.inputReturn x = if ((if s.clk.stopped then s.gapMark else s).clockReturn x).acting
      then ((if s.clk.stopped then s.gapMark else s).clockReturn x).updateBiases else (if s.clk.stopped then s.gapMark else s).clockReturn x := rfl
  rw [← hstep, hmarked] at hconf
  have hclk : (s.inputReturn x).clk = ({ s with latent := l }.clockReturn x).clk := hconf.1.1 .clk (by decide)
  have hfixer : (s.inputReturn x).fixer = ({ s with latent := l }.clockReturn x).fixer := hconf.1.1 .fixer (by decide)
  have hsd := State.sd_congr (hconf.1.1 .sideA (by decide)) (hconf.1.1 .sideB (by decide)) x
  refine ⟨_, rfl, ?_, ?_, ?_, ?_, State.keepsRegs_endCycle_calm (u := s.inputReturn x) ?_ fun a _ => ?_⟩
  · rw [State.sd_endCycle, hsd]
    cases x <;> rfl
  · rw [State.endCycle_clk, hclk]
    cases x <;> rfl
  · rw [State.endCycle_clk, hclk]
    cases x <;> rfl
  · rw [State.endCycle_clk, hclk]
    cases x <;> rfl
  · rw [hfixer]
    cases x <;> exact hbetween.1
  · rw [(hconf.1.2 a id).1]
    cases x <;> rfl

end Sys2Proof.Machine
end

section
/-! PROOFS. A backward jump (R32, R40, R405, R686): a header of the selected side that is behind the unit's count; and the statement drawn from it
and from the stop and return of the clocks. -/

namespace Sys2Proof.Machine

/-! ### Flags that stand -/

/-- The end of a cycle keeps every flag that stands. -/
theorem State.flag_endCycle_mono {s : State} {a i : Nat} (ha : a ≠ Reg.FIXER_LOG_DROPS) (hi : i < 16) (h : s.flag a i = true) :
    s.endCycle.flag a i = true := by
  unfold State.endCycle
  refine foldl_inv (f := State.stageEntry) (I := fun u : State => u.flag a i = true) (fun u x hu => ?_) _ _ h
  unfold State.stageEntry
  split
  · exact hu
  · have hcounted : (u.countSat Reg.FIXER_LOG_DROPS).flag a i = true := by
      rw [State.flag, State.reg_countSat_other _ ha]
      exact hu
    dsimp only
    split
    · exact hcounted
    · exact State.flag_setFlags_mono _ _ _ _ _ hi hcounted

/-- An occurrence keeps every flag that stands. -/
theorem State.flag_fixerCount_mono {s : State} (n : Nat) {a i : Nat} (ha : a ≠ Reg.FIXER_LASTING_COUNT) (hi : i < 16) (h : s.flag a i = true) :
    (s.fixerCount n).1.flag a i = true := by
  have hnoted : ∀ u : State, u.flag a i = true → ((u.setFlag Reg.FIXER_FIXER_STATUS 0).countSat Reg.FIXER_LASTING_COUNT).flag a i = true :=
    fun u hu => by
      rw [State.flag, State.reg_countSat_other _ ha]
      exact State.flag_setFlags_mono _ _ _ _ _ hi hu
  unfold State.fixerCount State.fixerCountAt
  extract_lets hist w win k beyond marked fixer struck noted source
  have hstruck : struck.flag a i = true := by
    unfold struck
    split <;> exact h
  split
  · split
    · exact hnoted _ hstruck
    · exact hnoted _ hstruck
  · exact hstruck

/-- A gap or a jump that counts toward the CLOCK window keeps every flag that stands (R49). -/
theorem State.flag_clockCount_mono {s : State} {a i : Nat} (ha : a ≠ Reg.FIXER_LASTING_COUNT) (hi : i < 16) (h : s.flag a i = true) :
    s.clockCount.flag a i = true := by
  have hcounted := State.flag_fixerCount_mono 0 ha hi h
  unfold State.clockCount
  dsimp only
  split
  · exact State.flag_setFlags_mono _ _ _ _ _ hi hcounted
  · exact hcounted

/-! ### A header of the selected side, in lock -/

theorem State.done_takePosition (s : State) (p : Nat) : (s.takePosition p).ident.done = s.ident.done := by
  unfold State.takePosition
  dsimp only
  split
  · rw [State.setFlag_ident]
  · rfl

/-- An enumeration wave leaves the strap read as it is (R82, R92). -/
theorem State.done_enumerate (s : State) (x : Side) (h : BitVec 416) : (s.enumerate x h).1.ident.done = s.ident.done := by
  have hwaveA : ∀ n, (s.waveA n).1.ident.done = s.ident.done := fun n => by
    unfold State.waveA
    split
    · rfl
    · split
      · dsimp only
        split
        · rw [State.setFlag_ident]
        · rw [State.done_takePosition, State.setFlag_ident]
      · dsimp only
        split
        · rfl
        · exact s.done_takePosition n
  have hwaveB : ∀ n, (s.waveB n).1.ident.done = s.ident.done := fun n => by
    unfold State.waveB
    dsimp only
    split
    · exact s.done_takePosition n
    · rfl
  unfold State.enumerate
  cases x
  · dsimp only
    split
    · exact hwaveA _
    · rfl
  · dsimp only
    split
    · exact hwaveB _
    · rfl

theorem State.tryLock_locked {s : State} {x : Side} (h : (s.sd x).lock = true) (ok : Bool) : s.tryLock x ok = s := by
  rw [State.tryLock, h]
  rfl

section
variable {s : State} {h : BitVec 416} {skew : BitVec 24} (hgood : GoodHeader s s.clk.side h)
include hgood

/-- A good header is valid, and leaves the strap read as it is. -/
theorem State.linkHeader_good : (s.linkHeader s.clk.side h skew).2 = true ∧ (s.linkHeader s.clk.side h skew).1.ident.done = s.ident.done := by
  obtain ⟨-, -, hlock, hfaw, hword, hcheck, hvoid, -⟩ := hgood
  have hframed : ((s.sd s.clk.side).lock && (s.sd s.clk.side).faw && (Hdr.faw h == fawWord.toNat)) = true := by
    rw [hlock, hfaw, hword]
    exact beq_self_eq_true _
  have hforward : ∀ (u : State) (raw p : BitVec 416) (ok : Bool), (u.forwardHeader s.clk.side raw p ok).ident = u.ident := fun u raw p ok =>
    (State.conf_forwardHeader s.clk.side raw p ok (conf_refl u [.outA, .outB] fun _ => True) (List.Subset.refl _) fun _ _ => trivial).1.1 .ident
      (by decide)
  have hclass : ∀ (u : State) (e : Epoch32) (c : Bool), (if c = true then u.classRun s.clk.side e (Hdr.classes h) else u).ident = u.ident := by
    intro u e c
    cases c with
    | false => rfl
    | true => exact (State.conf_classRun s.clk.side e (Hdr.classes h) (conf_refl u [.sset, .bumped, .caused, .frame, .fixer] fun _ => True)
        (List.Subset.refl _) fun _ _ => trivial).1.1 .ident (by decide)
  have hskew : ∀ (u : State) (e : Epoch32), (u.measureSkew s.clk.side e skew).ident = u.ident := fun u e =>
    (State.conf_measureSkew s.clk.side e skew (conf_refl u [.link] fun _ => True) (List.Subset.refl _) fun _ _ => trivial).1.1 .ident (by decide)
  simp only [State.linkHeader, hcheck, hvoid, hframed, Bool.not_true, Bool.not_false, Bool.and_false, Bool.and_true, Bool.false_eq_true,
    if_false, Bool.true_and, Bool.true_or]
  generalize hf : (fun sd : LinkSide => _) = f
  have hlocked : ((s.modSd s.clk.side f).sd s.clk.side).lock = true := by
    rw [State.sd_modSd_same, ← hf]
    exact hlock
  rw [State.tryLock_locked hlocked]
  refine ⟨hlocked, ?_⟩
  have hmodded : (s.modSd s.clk.side f).ident = s.ident := by cases s.clk.side <;> rfl
  generalize s.modSd s.clk.side f = u at hmodded ⊢
  rw [hskew, hclass, hforward, ← hmodded]
  split
  · exact u.done_enumerate _ h
  · rfl

/-- A good header of the selected side is compared with the unit's count, and counts (R24, R46, R166). -/
theorem State.headerEnd_good : s.headerEnd s.clk.side h skew =
    ((((s.linkHeader s.clk.side h skew).1.noteEarly s.clk.side).selectedHeader s.clk.side h).markStanding).noteWithheld s := by
  obtain ⟨hvalid, hdone⟩ := State.linkHeader_good (skew := skew) hgood
  obtain ⟨hacting, hhears, -, -, -, hcheck, -⟩ := hgood
  obtain ⟨hrunning, hstraps⟩ := Bool.and_eq_true_iff.1 hacting
  have hholding : s.holding = false := by
    obtain ⟨hup, -⟩ := Bool.and_eq_true_iff.1 hrunning
    rw [State.holding, eq_of_beq hup]
    rfl
  have hclk : (s.linkHeader s.clk.side h skew).1.clk = s.clk :=
    (State.conf_linkHeader s.clk.side h skew (conf_refl s [.sset, .bumped, .caused, .ident, .sideA, .sideB, .link, .outA, .outB, .frame, .fixer]
      fun _ => True) (List.Subset.refl _) fun _ _ => trivial).1.1 .clk (by decide)
  have hactive : (s.linkHeader s.clk.side h skew).1.acting = true := by
    rw [State.acting, State.running, hclk, hdone]
    exact hacting
  rw [State.headerEnd, hholding, hrunning, hhears, if_neg Bool.false_ne_true, if_neg (by decide)]
  dsimp only
  rw [hactive, hclk, hcheck, hvalid]
  simp [hclk]

end

/-! ### What a backward jump leaves -/

/-- The unit `u` has gone back from `s` to epoch `e`. -/
structure State.JumpedBack (s u : State) (e : Epoch32) : Prop where
  epoch : u.epoch32 = e
  back : u.flag Reg.CHIP_CLK_STATUS 7 = true
  emptied : u.flag Reg.FIXER_FIXER_STATUS 2 = true
  gaps : u.reg Reg.CHIP_GAP_COUNT = s.reg Reg.CHIP_GAP_COUNT
  hist : ∀ i, 1 ≤ i → (nth u.fixer.hist i {}).epochs = []
  decided : u.mx.decided = []
  settle : u.clk.settle = some s.clk.ticks
  ticks : u.clk.ticks = s.clk.ticks

/-- What of the clock and the Fixer the rest of a header leaves as it is. -/
structure State.SameCount (u v : State) : Prop where
  epoch : v.clk.epoch = u.clk.epoch
  settle : v.clk.settle = u.clk.settle
  ticks : v.clk.ticks = u.clk.ticks
  hist : v.fixer.hist = u.fixer.hist

theorem State.SameCount.trans {u v w : State} (h : u.SameCount v) (h' : v.SameCount w) : u.SameCount w :=
  ⟨h'.epoch.trans h.epoch, h'.settle.trans h.settle, h'.ticks.trans h.ticks, h'.hist.trans h.hist⟩

theorem State.SameCount.of_eq {u v : State} (hclk : v.clk = u.clk) (hhist : v.fixer.hist = u.fixer.hist) : u.SameCount v :=
  ⟨by rw [hclk], by rw [hclk], by rw [hclk], hhist⟩

theorem State.SameCount.ite {u v w : State} {c : Prop} [Decidable c] (hv : u.SameCount v) (hw : u.SameCount w) :
    u.SameCount (if c then v else w) := by
  split
  · exact hv
  · exact hw

theorem State.JumpedBack.keeps {s u v : State} {e : Epoch32} (h : s.JumpedBack u e) (hcount : u.SameCount v) (hmx : v.mx = u.mx)
    (hregs : ∀ a ∈ [Reg.CHIP_CLK_STATUS, Reg.FIXER_FIXER_STATUS, Reg.CHIP_GAP_COUNT], v.reg a = u.reg a) : s.JumpedBack v e where
  epoch := by rw [State.epoch32, hcount.epoch]; exact h.epoch
  back := by rw [State.flag, hregs _ (by simp)]; exact h.back
  emptied := by rw [State.flag, hregs _ (by simp)]; exact h.emptied
  gaps := (hregs _ (by simp)).trans h.gaps
  hist i hi := by rw [hcount.hist]; exact h.hist i hi
  decided := by rw [hmx]; exact h.decided
  settle := hcount.settle.trans h.settle
  ticks := hcount.ticks.trans h.ticks

section
variable {s u : State} {e : Epoch32}

/-! ### The jump -/

/-- An adopted epoch is the unit's own (R26). -/
theorem State.adopt_leaves (s : State) (e : Epoch32) : (s.adopt e).epoch32 = e ∧ (s.adopt e).clk.ticks = s.clk.ticks ∧
    (s.adopt e).reg Reg.CHIP_GAP_COUNT = s.reg Reg.CHIP_GAP_COUNT := by
  have hlow : ∀ hi : BitVec 16, BitVec.truncate 32 (hi ++ e) = e := fun hi => by
    rw [BitVec.truncate_eq_setWidth, BitVec.setWidth_append, dif_pos (Nat.le_refl 32), BitVec.setWidth_eq]
  unfold State.adopt
  extract_lets lo new wrapped rekeyed shifted clk moved
  have hshifted : shifted.clk = s.clk ∧ shifted.reg Reg.CHIP_GAP_COUNT = s.reg Reg.CHIP_GAP_COUNT := by
    unfold shifted
    split <;> exact ⟨rfl, rfl⟩
  have hmoved : moved.epoch32 = e ∧ moved.clk.ticks = s.clk.ticks ∧ moved.reg Reg.CHIP_GAP_COUNT = s.reg Reg.CHIP_GAP_COUNT :=
    ⟨hlow _, (congrArg Clk.ticks hshifted.1 : shifted.clk.ticks = s.clk.ticks), hshifted.2⟩
  split
  · rw [State.epoch32, State.setFlag_clk, State.reg_setFlag_other _ _ (by decide)]
    exact hmoved
  · exact hmoved

/-- A count toward the CLOCK window leaves the unit's count, and all instances but the clock's (R49). -/
theorem State.clockCount_leaves (s : State) : s.clockCount.epoch32 = s.epoch32 ∧ s.clockCount.clk.ticks = s.clk.ticks ∧
    s.clockCount.reg Reg.CHIP_GAP_COUNT = s.reg Reg.CHIP_GAP_COUNT ∧
    ∀ i, 1 ≤ i → nth s.clockCount.fixer.hist i {} = nth s.fixer.hist i {} := by
  have hclk := s.fixerCount_clk 0
  have hreg := s.fixerCount_reg 0 (a := Reg.CHIP_GAP_COUNT) (by decide)
  have hhist : ∀ i, 1 ≤ i → nth (s.fixerCount 0).1.fixer.hist i {} = nth s.fixer.hist i {} := fun i hi => by
    rw [State.fixerCount_hist]
    exact nth_modNth_other _ _ _ (Nat.ne_of_gt hi)
  have hfclk : ((s.fixerCount 0).1.setFlag Reg.CHIP_CLK_STATUS 8).clk = s.clk := (State.setFlag_clk ..).trans hclk
  have hffixer : ((s.fixerCount 0).1.setFlag Reg.CHIP_CLK_STATUS 8).fixer = (s.fixerCount 0).1.fixer := State.setFlag_fixer ..
  have hfreg : ((s.fixerCount 0).1.setFlag Reg.CHIP_CLK_STATUS 8).reg Reg.CHIP_GAP_COUNT = s.reg Reg.CHIP_GAP_COUNT :=
    (State.reg_setFlag_other _ _ (by decide)).trans hreg
  unfold State.clockCount
  dsimp only
  generalize (s.fixerCount 0).1.setFlag Reg.CHIP_CLK_STATUS 8 = u at *
  split
  · refine ⟨?_, ?_, hfreg, fun i hi => ?_⟩
    · show u.epoch32 = _
      rw [State.epoch32, hfclk]
      rfl
    · show u.clk.ticks = _
      rw [hfclk]
    · show nth u.fixer.hist i {} = _
      rw [hffixer]
      exact hhist i hi
  · refine ⟨?_, congrArg Clk.ticks hclk, hreg, hhist⟩
    rw [State.epoch32, hclk]
    rfl

/-- A backward jump is reported, empties every history and counts toward the CLOCK window (R32, R49, R686). -/
theorem State.recordBack_leaves (s : State) (n : Nat) : (s.recordBack n).epoch32 = s.epoch32 ∧ (s.recordBack n).clk.ticks = s.clk.ticks ∧
    (s.recordBack n).flag Reg.CHIP_CLK_STATUS 7 = true ∧ (s.recordBack n).flag Reg.FIXER_FIXER_STATUS 2 = true ∧
    (s.recordBack n).reg Reg.CHIP_GAP_COUNT = s.reg Reg.CHIP_GAP_COUNT ∧
    ∀ i, 1 ≤ i → (nth (s.recordBack n).fixer.hist i {}).epochs = [] := by
  unfold State.recordBack
  extract_lets reported emptied told
  have hreported : reported.flag Reg.CHIP_CLK_STATUS 7 = true := State.flag_setFlag_same _ _ _ (by decide)
  have hrclk : reported.clk = s.clk := State.setFlag_clk ..
  have hrgaps : reported.reg Reg.CHIP_GAP_COUNT = s.reg Reg.CHIP_GAP_COUNT := State.reg_setFlag_other s _ (by decide)
  clear_value reported
  have hemptied : ∀ i, (nth emptied.fixer.hist i {}).epochs = [] := fun i => by
    show (nth (reported.fixer.hist.map fun h : History => { h with epochs := [] }) i {}).epochs = []
    rw [nth, List.getD_eq_getElem?_getD, List.getElem?_map]
    cases reported.fixer.hist[i]? <;> rfl
  have heclk : emptied.clk = s.clk := hrclk
  have heflag : emptied.flag Reg.CHIP_CLK_STATUS 7 = true := hreported
  have hegaps : emptied.reg Reg.CHIP_GAP_COUNT = s.reg Reg.CHIP_GAP_COUNT := hrgaps
  clear_value emptied
  have htclk : told.clk = s.clk := (State.setFlag_clk emptied ..).trans heclk
  have htflag : told.flag Reg.CHIP_CLK_STATUS 7 = true := State.flag_setFlags_mono emptied _ _ _ _ (by decide) heflag
  have htold : told.flag Reg.FIXER_FIXER_STATUS 2 = true := State.flag_setFlag_same emptied _ _ (by decide)
  have htgaps : told.reg Reg.CHIP_GAP_COUNT = s.reg Reg.CHIP_GAP_COUNT := (State.reg_setFlag_other emptied _ (by decide)).trans hegaps
  have hthist : told.fixer.hist = emptied.fixer.hist := by
    show (emptied.setFlag Reg.FIXER_FIXER_STATUS 2).fixer.hist = _
    rw [State.setFlag_fixer]
  clear_value told
  obtain ⟨hepoch, hticks, hcount, hothers⟩ :=
    State.clockCount_leaves { told with frame := { told.frame with classes := [], classDone := none, regAt := told.epoch32 } }
  refine ⟨hepoch.trans ?_, hticks.trans (congrArg Clk.ticks htclk : told.clk.ticks = s.clk.ticks),
    State.flag_clockCount_mono (by decide) (by decide) htflag, State.flag_clockCount_mono (by decide) (by decide) htold, hcount.trans htgaps,
    fun i hi => ?_⟩
  · show told.epoch32 = _
    rw [State.epoch32, htclk]
    rfl
  · rw [hothers i hi]
    show (nth told.fixer.hist i {}).epochs = []
    rw [hthist]
    exact hemptied i

/-- What acts after a stale gap begins anew (R32, R40, R405). -/
theorem State.afterBack_leaves (s : State) : s.afterBack.clk = { s.clk with settle := some s.clk.ticks } ∧ s.afterBack.fixer = s.fixer ∧
    s.afterBack.mx.decided = [] ∧ ∀ a, s.afterBack.reg a = s.reg a := by
  have hwindow : (s.openWindow (s.clk.epoch - 5)).clk = s.clk := by
    unfold State.openWindow
    split <;> rfl
  have hpdm : ∀ u : State, u.pdmGap.clk = u.clk := fun u => by
    unfold State.pdmGap
    split <;> rfl
  have hconf := State.conf_afterBack (conf_refl s [.clk, .front, .aper, .mx, .dev, .sheet, .latent] (· ∈ ([] : List Nat))) (List.Subset.refl _)
    fun _ h => h
  refine ⟨?_, hconf.1.1 .fixer (by decide), rfl, fun a => (hconf.1.2 a List.not_mem_nil).1⟩
  have hsettled : s.settleFrom.clk = { s.clk with settle := some s.clk.ticks } := by
    simp only [State.settleFrom, hwindow]
  rw [← hsettled]
  exact hpdm _

/-- A header behind the unit's count by less than 2^31 ticks takes the unit back (R32). -/
theorem State.epochHeader_jumps (hepoch : s.clk.hasEpoch = true) (hrate : s.clk.rateBad = false) (hswitched : s.clk.switched = false)
    (hcheck : s.clk.rateCheck = false) (hback : 2 ^ 31 ≤ (e - s.epoch32).toNat) : s.JumpedBack (s.epochHeader e) e := by
  have hdiff : epochDiff (s.resumeStages e).epoch32 e = .back (2 ^ 32 - (e - s.epoch32).toNat) := by
    have hne : ¬ (e - s.epoch32).toNat = 0 := by omega
    exact (if_neg hne).trans (if_neg (Nat.not_lt.2 hback))
  have hclk : (s.resumeStages e).clk = s.clk := rfl
  have hheader : s.epochHeader e = (((s.resumeStages e).adopt e).recordBack (2 ^ 32 - (e - s.epoch32).toNat)).afterBack := by
    simp only [State.epochHeader, hclk, hepoch, hrate, hswitched, hcheck, State.compareEpoch, hdiff, Bool.false_and, Bool.not_true,
      Bool.false_eq_true, if_false]
  obtain ⟨hadopted, haticks, hagaps⟩ := (s.resumeStages e).adopt_leaves e
  obtain ⟨hrepoch, hrticks, hflag, hemptied, hrgaps, hhist⟩ :=
    ((s.resumeStages e).adopt e).recordBack_leaves (2 ^ 32 - (e - s.epoch32).toNat)
  rw [hheader]
  generalize ((s.resumeStages e).adopt e).recordBack (2 ^ 32 - (e - s.epoch32).toNat) = u at *
  obtain ⟨hbclk, hfixer, hdecided, hreg⟩ := u.afterBack_leaves
  have hticks : u.clk.ticks = s.clk.ticks := hrticks.trans haticks
  refine ⟨?_, ?_, ?_, ?_, fun i hi => ?_, hdecided, ?_, ?_⟩
  · rw [State.epoch32, hbclk]
    exact hrepoch.trans hadopted
  · rw [State.flag, hreg]
    exact hflag
  · rw [State.flag, hreg]
    exact hemptied
  · exact (hreg _).trans (hrgaps.trans hagaps)
  · rw [hfixer]
    exact hhist i hi
  · rw [hbclk, hticks]
  · rw [hbclk]
    exact hticks

/-! ### The rest of the header -/

/-- The log entry of the monitor's trip changes nothing of the count. -/
theorem State.edgeHeader_sameCount (s : State) : s.SameCount s.edgeHeader := by
  unfold State.edgeHeader
  split
  · exact ⟨rfl, rfl, rfl, rfl⟩
  · exact ⟨rfl, rfl, rfl, rfl⟩

/-- The end of a fault settles from the same tick as the jump. -/
theorem State.faultHeader_settles (s : State) (hsettle : s.clk.settle = some s.clk.ticks) : s.SameCount s.faultHeader := by
  unfold State.faultHeader
  split
  · exact ⟨rfl, rfl, rfl, rfl⟩
  · dsimp only
    split
    · exact ⟨rfl, hsettle.symm, rfl, rfl⟩
    · exact ⟨rfl, rfl, rfl, rfl⟩

/-- The updates of the biases, the watch path and the drain touch neither the clock nor the Fixer. -/
theorem State.updates_leave (s : State) :
    s.updateBiases.updateWatch.updateDrain.clk = s.clk ∧ s.updateBiases.updateWatch.updateDrain.fixer = s.fixer := by
  have hconf : Confined s [.front, .decim, .sheet] (fun _ => True) s.updateBiases.updateWatch.updateDrain :=
    State.conf_updateDrain (State.conf_updateWatch (State.conf_updateBiases (conf_refl s _ _) (by decide) fun _ _ => trivial) (by decide)
      fun _ _ => trivial) (by decide) fun _ _ => trivial
  exact ⟨hconf.1.1 .clk (by decide), hconf.1.1 .fixer (by decide)⟩

/-- Preparing SAFELIGHT touches neither the clock nor a history (R527). -/
theorem State.prepareSafe_sameCount (s : State) : s.SameCount s.prepareSafe := by
  obtain ⟨hclk, hfixer⟩ := s.endFrontLoops.autoRelease.updates_leave
  have hreleased : s.endFrontLoops.autoRelease.clk = s.endFrontLoops.clk ∧ s.endFrontLoops.autoRelease.fixer.hist = s.endFrontLoops.fixer.hist := by
    unfold State.autoRelease
    split
    · exact ⟨State.release_clk .., by rw [State.release_fixer]⟩
    · exact ⟨rfl, rfl⟩
  have hended : s.endFrontLoops.clk = s.clk ∧ s.endFrontLoops.fixer = s.fixer := by
    unfold State.endFrontLoops
    exact ⟨State.setFlag_clk .., State.setFlag_fixer ..⟩
  have hhist := hreleased.2.trans (congrArg Fixer.hist hended.2)
  have hclk' := hclk.trans (hreleased.1.trans hended.1)
  rw [← hfixer] at hhist
  unfold State.prepareSafe
  dsimp only
  generalize s.endFrontLoops.autoRelease.updateBiases.updateWatch.updateDrain = u at hhist hclk' ⊢
  exact .of_eq hclk' hhist

/-- A report of the countdown touches neither the clock nor a history. -/
theorem State.raised_sameCount (s : State) (a i source code : Nat) (lo hi : Word) : s.SameCount ((s.setFlag a i).raise source code lo hi) :=
  .of_eq (State.setFlag_clk ..) (congrArg Fixer.hist (State.setFlag_fixer s a i) : (s.setFlag a i).fixer.hist = s.fixer.hist)

/-- The undoing of a countdown changes only its fields of the clock (R530). -/
theorem State.cancelCount_sameCount (s : State) : s.SameCount s.cancelCount := by
  unfold State.cancelCount
  extract_lets target count clk stopped reported disabled
  have hreported : s.SameCount reported := State.SameCount.trans (v := stopped) ⟨rfl, rfl, rfl, rfl⟩ (stopped.raised_sameCount _ _ _ _ _ _)
  split
  · exact hreported.trans ⟨rfl, rfl, rfl, rfl⟩
  · obtain ⟨hclk, hfixer⟩ := disabled.updates_leave
    have hconf := State.conf_loupeCancel (conf_refl disabled.updateBiases.updateWatch.updateDrain [.mode, .loupe] fun _ => True)
      (List.Subset.refl _) fun _ _ => trivial
    have hcclk := (hconf.1.1 .clk (by decide)).trans hclk
    have hcfixer := (hconf.1.1 .fixer (by decide)).trans hfixer
    exact hreported.trans (.of_eq hcclk (congrArg Fixer.hist hcfixer))

/-- The start of a countdown changes only its fields of the clock (R520, R523). -/
theorem State.beginCount_sameCount (s : State) (target count : Nat) : s.SameCount (s.beginCount target count) := by
  unfold State.beginCount
  extract_lets clk started reported off
  have hreported : s.SameCount reported := State.SameCount.trans (v := started) ⟨rfl, rfl, rfl, rfl⟩ (started.raised_sameCount _ _ _ _ _ _)
  split
  · exact hreported.trans ⟨rfl, rfl, rfl, rfl⟩
  · exact hreported.trans reported.prepareSafe_sameCount

theorem State.ignoreCount_sameCount (s : State) (target count : Nat) : s.SameCount (s.ignoreCount target count) := by
  have hflagged : s.SameCount (s.setFlag Reg.CHIP_MODE_STATUS 2) := .of_eq (State.setFlag_clk ..) (congrArg Fixer.hist (State.setFlag_fixer ..))
  unfold State.ignoreCount
  dsimp only
  generalize s.setFlag Reg.CHIP_MODE_STATUS 2 = u at hflagged ⊢
  split
  · exact hflagged
  · exact hflagged.trans ⟨rfl, rfl, rfl, rfl⟩

/-- The countdown fields of a header change nothing of the epoch, the settle interval or a history (R51 to R57). -/
theorem State.countHeader_sameCount (s : State) (h : BitVec 416) : s.SameCount (s.countHeader h) := by
  unfold State.countHeader
  refine .ite (.ite ⟨rfl, rfl, rfl, rfl⟩ (.ite s.cancelCount_sameCount ?_)) (.ite ⟨rfl, rfl, rfl, rfl⟩ (.ite (s.beginCount_sameCount _ _)
    (s.ignoreCount_sameCount _ _)))
  exact s.cancelCount_sameCount.trans (s.cancelCount.ignoreCount_sameCount _ _)

/-- What follows the jump in its header leaves what the jump made (R46, R51, R65). -/
theorem State.selectedHeader_jumps (x : Side) {h : BitVec 416} (hepoch : s.clk.hasEpoch = true) (hrate : s.clk.rateBad = false)
    (hswitched : s.clk.switched = false) (hcheck : s.clk.rateCheck = false) (hback : 2 ^ 31 ≤ (Hdr.epoch h - s.epoch32).toNat) :
    s.JumpedBack (s.selectedHeader x h) (Hdr.epoch h) := by
  have hjumped := State.epochHeader_jumps (s := { s with frame := { s.frame with hdrSrc := 1 + sideNum x } }) hepoch hrate hswitched hcheck hback
  unfold State.selectedHeader
  dsimp only
  generalize State.epochHeader _ (Hdr.epoch h) = u at hjumped ⊢
  have hedge := State.conf_edgeHeader (conf_refl u [.clk, .fixer] (· ∈ ([] : List Nat))) (List.Subset.refl _) fun _ h => h
  have hlogged := hjumped.keeps u.edgeHeader_sameCount (hedge.1.1 .mx (by decide)) fun a _ => (hedge.1.2 a List.not_mem_nil).1
  have hfault := State.conf_faultHeader (conf_refl u.edgeHeader [.clk, .aper, .sheet, .stage] (· ∈ ([] : List Nat))) (List.Subset.refl _)
    fun _ h => h
  have hended := hlogged.keeps (u.edgeHeader.faultHeader_settles (hlogged.settle.trans (by rw [hlogged.ticks])))
    (hfault.1.1 .mx (by decide)) fun a _ => (hfault.1.2 a List.not_mem_nil).1
  have hcount := State.conf_countHeader h (conf_refl u.edgeHeader.faultHeader [.sset, .bumped, .caused, .clk, .fixer, .front, .decim, .sheet,
    .latent, .bank, .mode, .loupe, .mem] (· ∈ [Reg.CHIP_MODE_STATUS, Reg.FRONT_FRONT_STATUS, Reg.FRONT_PROOF_CTL_A, Reg.FRONT_PROOF_CTL_B,
    Reg.LOUPE_PATCH_INFO, Reg.LOUPE_SUPPLY_0, Reg.LOUPE_SUPPLY_1, Reg.LOUPE_SUPPLY_2, Reg.LOUPE_TEMP_01, Reg.LOUPE_TEMP_23, Reg.PRINT_MASTER_A,
    Reg.PRINT_MASTER_B])) (List.Subset.refl _) fun _ h => h
  have hcounted := hended.keeps (State.countHeader_sameCount _ h) (hcount.1.1 .mx (by decide)) fun a ha => (hcount.1.2 a (by
    revert a
    decide)).1
  exact ⟨hcounted.epoch, hcounted.back, hcounted.emptied, hcounted.gaps, hcounted.hist, hcounted.decided, hcounted.settle, hcounted.ticks⟩

end

/-! ### The statement -/

/-- A valid header of the selected side behind the unit's count (R32, R40, R405, R686). -/
theorem headerEnd_jumps (s : State) (h : BitVec 416) (skew : BitVec 24) (hgood : GoodHeader s s.clk.side h) (hepoch : s.clk.hasEpoch = true)
    (hrate : s.clk.rateBad = false) (hswitched : s.clk.switched = false) (hcheck : s.clk.rateCheck = false)
    (hback : 2 ^ 31 ≤ (Hdr.epoch h - s.epoch32).toNat) :
    ∃ t, exec (.headerEnd s.clk.side h skew) s = .next t ∧ t.epoch32 = Hdr.epoch h ∧ t.flag Reg.CHIP_CLK_STATUS 7 = true ∧
      t.flag Reg.FIXER_FIXER_STATUS 2 = true ∧ t.reg Reg.CHIP_GAP_COUNT = s.reg Reg.CHIP_GAP_COUNT ∧
      (∀ i, 1 ≤ i → (nth t.fixer.hist i {}).epochs = []) ∧ t.mx.decided = [] ∧ t.clk.settle = some s.clk.ticks := by
  have hlink := State.conf_linkHeader s.clk.side h skew (conf_refl s [.sset, .bumped, .caused, .ident, .sideA, .sideB, .link, .outA, .outB, .frame,
    .fixer] (· ∈ [Reg.CHIP_ID_STATUS, Reg.FRAME_CHECK_ERR_A, Reg.FRAME_CHECK_ERR_B, Reg.FRAME_FRAME_STATUS, Reg.FRAME_VOID_COUNT,
    Reg.LINK_LINK_STATUS])) (List.Subset.refl _) fun _ h => h
  have hclk : (s.linkHeader s.clk.side h skew).1.clk = s.clk := hlink.1.1 .clk (by decide)
  have hgaps : (s.linkHeader s.clk.side h skew).1.reg Reg.CHIP_GAP_COUNT = s.reg Reg.CHIP_GAP_COUNT := (hlink.1.2 _ (by decide)).1
  have hexec : exec (.headerEnd s.clk.side h skew) s = .next (s.headerEnd s.clk.side h skew).endCycle := rfl
  rw [State.headerEnd_good hgood] at hexec
  refine ⟨_, hexec, ?_⟩
  clear hexec
  generalize (s.linkHeader s.clk.side h skew).1 = l at hclk hgaps ⊢
  have hjumped := State.selectedHeader_jumps (s := l.noteEarly s.clk.side) s.clk.side (h := h) (by rw [← hclk] at hepoch; exact hepoch)
    (by rw [← hclk] at hrate; exact hrate) (by rw [← hclk] at hswitched; exact hswitched) (by rw [← hclk] at hcheck; exact hcheck)
    (by rw [State.epoch32, ← hclk] at hback; exact hback)
  generalize (l.noteEarly s.clk.side).selectedHeader s.clk.side h = u at hjumped ⊢
  have hmarked : u.SameCount u.markStanding := by
    unfold State.markStanding State.markFaulted
    dsimp only
    split
    · split <;> exact ⟨rfl, rfl, rfl, rfl⟩
    · exact ⟨rfl, rfl, rfl, rfl⟩
  have hmark := State.conf_markStanding (conf_refl u [.clk] (· ∈ ([] : List Nat))) (List.Subset.refl _) fun _ h => h
  have hstands := hjumped.keeps hmarked (hmark.1.1 .mx (by decide)) fun a _ => (hmark.1.2 a List.not_mem_nil).1
  generalize u.markStanding = v at hstands ⊢
  have hnote := State.conf_noteWithheld s (conf_refl v [.sset, .bumped, .caused] (· ∈ [Reg.APER_APER_STATUS])) (List.Subset.refl _) fun _ h => h
  have hdone := hstands.keeps (.of_eq (hnote.1.1 .clk (by decide)) (congrArg Fixer.hist (hnote.1.1 .fixer (by decide))))
    (hnote.1.1 .mx (by decide)) fun a ha => (hnote.1.2 a (by
      revert a
      decide)).1
  generalize v.noteWithheld s = w at hdone ⊢
  refine ⟨?_, ?_, State.flag_endCycle_mono (by decide) (by decide) hdone.emptied, ?_, fun i hi => ?_, ?_, ?_⟩
  · rw [State.epoch32, State.endCycle_clk]
    exact hdone.epoch
  · exact State.flag_endCycle_mono (by decide) (by decide) hdone.back
  · rw [State.endCycle_reg _ (by decide) (by decide), hdone.gaps]
    exact hgaps
  · rw [State.endCycle_hist]
    exact hdone.hist i hi
  · rw [State.endCycle_mx]
    exact hdone.decided
  · rw [State.endCycle_clk, hdone.settle]
    exact congrArg (fun c : Clk => some c.ticks) hclk

/-- Settles O12: the stop, the monitor, an input lost and returned, and a backward jump, each from what its operation leaves. -/
theorem clocksStopAndReturn : Obligations.ClocksStopAndReturn := by
  unfold Obligations.ClocksStopAndReturn
  refine ⟨clockStop_leaves, edgeLoss_trips, fun s x sent hrunning hlost hother => ?_, fun s x hbetween => ?_, headerEnd_jumps⟩
  · have hlost' := clockInputLost_leaves (bits := sent) hrunning hlost hother
    cases x <;> exact hlost'
  · have hreturned := clockInputReturn_leaves s x hbetween
    cases x <;> exact hreturned

end Sys2Proof.Machine
end

section
/-! PROOFS. Sides that go down, the wrap and the tracking of the lanes (R128 to R132): and the statement drawn from them. -/

namespace Sys2Proof.Machine

/-! ### What is raised first is staged first (R692) -/

/-- The staging queue is `st`, and entry `e` was raised before entries of later sources alone. -/
def State.FirstRaised (s : State) (st : List LogEntry) (e : LogEntry) : Prop :=
  s.fixer.staged = st ∧ ∃ es, s.fixer.raised = e :: es ∧ ∀ x ∈ es, e.source < x.source

theorem Log.sort_head {e : LogEntry} {es : List LogEntry} (h : ∀ x ∈ es, e.source < x.source) : ∃ rest, Log.sort (e :: es) = e :: rest := by
  have hinsert : ∀ (l acc : List LogEntry), (∀ x ∈ l, e.source < x.source) →
      ∃ rest, l.foldl (fun acc x => Log.insert x acc) (e :: acc) = e :: rest := by
    intro l
    induction l with
    | nil => exact fun acc _ => ⟨acc, rfl⟩
    | cons x l ih =>
      intro acc hl
      have hafter : (e.source < x.source || (e.source == x.source && e.code ≤ x.code)) = true := by
        rw [decide_eq_true (hl x List.mem_cons_self), Bool.true_or]
      rw [List.foldl_cons, Log.insert, if_pos hafter]
      exact ih _ fun y hy => hl y (List.mem_cons_of_mem x hy)
  exact hinsert es [] h

/-- The entry that was raised first is staged, where the queue has room for one. -/
theorem State.FirstRaised.staged {s : State} {st : List LogEntry} {e : LogEntry} (h : s.FirstRaised st e) (hroom : st.length < 63) :
    e ∈ s.endCycle.fixer.staged := by
  obtain ⟨hstaged, es, hraised, hlater⟩ := h
  obtain ⟨rest, hsort⟩ := Log.sort_head hlater
  exact State.mem_staged_endCycle (hraised ▸ hsort) (hstaged ▸ hroom)

theorem State.FirstRaised.of_eq {s u : State} {st : List LogEntry} {e : LogEntry} (h : s.FirstRaised st e) (hfixer : u.fixer = s.fixer) :
    u.FirstRaised st e := by
  rw [State.FirstRaised, hfixer]
  exact h

theorem State.FirstRaised.append {s u : State} {st : List LogEntry} {e x : LogEntry} (h : s.FirstRaised st e)
    (hstaged : u.fixer.staged = s.fixer.staged) (hraised : u.fixer.raised = s.fixer.raised ++ [x]) (hx : e.source < x.source) :
    u.FirstRaised st e := by
  obtain ⟨hst, es, hes, hlater⟩ := h
  refine ⟨hstaged.trans hst, es ++ [x], by rw [hraised, hes]; rfl, fun y hy => ?_⟩
  rcases List.mem_append.1 hy with hy | hy
  · exact hlater y hy
  · exact (List.mem_singleton.1 hy) ▸ hx

/-- An occurrence raises its entry, if any, after those of every other source. -/
theorem State.FirstRaised.fixerReport {s : State} {st : List LogEntry} {e : LogEntry} (h : s.FirstRaised st e) (i : Nat)
    (he : e.source < Log.FIXER) : (s.fixerReport i).FirstRaised st e := by
  have hstaged := s.fixerCount_staged i
  rcases State.fixerCount_raises s i with hsame | ⟨x, hx, happend⟩
  · obtain ⟨hst, es, hes, hlater⟩ := h
    exact ⟨hstaged.trans hst, es, hsame.trans hes, hlater⟩
  · exact h.append hstaged happend (hx ▸ he)

/-! ### The register fields that awaited a side's copies (R175, R180) -/

section
variable {s : State} {st : List LogEntry} {e : LogEntry} (he : e.source < Log.FRAME)
include he

theorem State.FirstRaised.endRegRun (h : s.FirstRaised st e) : s.endRegRun.FirstRaised st e := by
  unfold State.endRegRun
  split
  · exact h.append rfl rfl he
  · exact h

theorem State.FirstRaised.tellRun (h : s.FirstRaised st e) (r : RegSeen) : (s.tellRun r).FirstRaised st e := by
  unfold State.tellRun
  dsimp only
  generalize hu : ({ s with frame := _ } : State) = u
  have hfirst : u.FirstRaised st e := h.of_eq (by rw [← hu])
  split
  · exact hfirst.endRegRun he
  · unfold State.regRunMissing
    split
    · split
      · exact hfirst.of_eq rfl
      · exact (hfirst.endRegRun he).of_eq rfl
    · exact hfirst.of_eq rfl

theorem State.FirstRaised.settleRuns : ∀ (l : List RegSeen) (s : State), s.FirstRaised st e → (State.settleRuns l s).FirstRaised st e
  | [], _, h => h
  | r :: l, s, h => by
    unfold State.settleRuns
    split
    · exact State.FirstRaised.settleRuns l _ (h.tellRun he r)
    · split
      · exact h
      · exact State.FirstRaised.settleRuns l s h

theorem State.FirstRaised.regCopyBad (h : s.FirstRaised st e) (x : Side) (epoch : Epoch32) : (s.regCopyBad x epoch).FirstRaised st e := by
  have hmissing : ∀ u : State, u.FirstRaised st e → (u.regMissing epoch).FirstRaised st e := fun u hu =>
    hu.of_eq (by
      have hsrc : ∀ v : State, (v.setRegSrc epoch 0).fixer = v.fixer := fun v => by
        unfold State.setRegSrc
        dsimp only
        split <;> rfl
      rw [State.regMissing, hsrc, State.setFlag_fixer])
  unfold State.regCopyBad State.noteSeen
  dsimp only
  refine State.FirstRaised.settleRuns he _ _ ?_
  split
  · exact (hmissing s h).of_eq rfl
  · exact h.of_eq rfl

theorem State.FirstRaised.judgeLost (h : s.FirstRaised st e) (x : Side) : (s.judgeLost x).FirstRaised st e :=
  foldl_inv (I := fun u : State => u.FirstRaised st e) (fun _ r hu => hu.regCopyBad he x r.epoch) _ s h

end

/-! ### A side goes down -/

/-- What a side that goes down leaves of itself (R129). -/
def LinkSide.downed (d : LinkSide) : LinkSide :=
  { d with down := true, lock := false, relock := false, fawRun := 0, faw := false, hdrValid := false, validRun := 0 }

/-- What the declaration of a side as down sets, before its occurrence is counted. -/
def State.downReported (s : State) (x : Side) (byClock : Bool) : State :=
  ((s.modSd x LinkSide.downed).setFlag Reg.LINK_LINK_STATUS (sideNum x)).raise Log.LINK 2 (ofBytes (sideNum x) (b2n (!byClock)) 0 0)

theorem State.declareDown_eq (s : State) (x : Side) (byClock : Bool) : s.declareDown x byClock =
    if ((s.downReported x byClock).fixerReport (1 + sideNum x)).link.wrap = some (other x) then
      { (s.downReported x byClock).fixerReport (1 + sideNum x) with
        link := { ((s.downReported x byClock).fixerReport (1 + sideNum x)).link with wrap := none } }
    else (s.downReported x byClock).fixerReport (1 + sideNum x) := rfl

section
variable {s : State} {x : Side} {byClock : Bool}

/-- What the declaration of a side as down leaves: its side, the other one, the wrap and its flag (R129). -/
theorem State.declareDown_leaves (s : State) (x : Side) (byClock : Bool) : (s.declareDown x byClock).sd x = (s.sd x).downed ∧
    (s.declareDown x byClock).sd (other x) = s.sd (other x) ∧
    (s.declareDown x byClock).link.wrap = (if s.link.wrap = some (other x) then none else s.link.wrap) ∧
    (s.declareDown x byClock).flag Reg.LINK_LINK_STATUS (sideNum x) = true := by
  have hsides : ∀ y, (s.downReported x byClock).sd y = (s.modSd x LinkSide.downed).sd y := fun y => by
    cases y
    · exact State.setFlag_sideA ..
    · exact State.setFlag_sideB ..
  have hlink : (s.downReported x byClock).link = s.link := by
    refine (State.setFlag_link (s.modSd x LinkSide.downed) Reg.LINK_LINK_STATUS (sideNum x)).trans ?_
    cases x <;> rfl
  have hflag : (s.downReported x byClock).flag Reg.LINK_LINK_STATUS (sideNum x) = true :=
    State.flag_setFlag_same _ _ _ (by cases x <;> decide)
  have hother : (s.modSd x LinkSide.downed).sd (other x) = s.sd (other x) := by cases x <;> rfl
  rw [State.declareDown_eq]
  generalize s.downReported x byClock = u at *
  have hconf := State.conf_fixerReport (1 + sideNum x) (conf_refl u [.sset, .bumped, .caused, .fixer] fun _ => True) (List.Subset.refl _)
    fun _ _ => trivial
  have hreport : (u.fixerReport (1 + sideNum x)).link = u.link := hconf.1.1 .link (by decide)
  have hcounted := State.flag_fixerCount_mono (1 + sideNum x) (by decide) (by cases x <;> decide) hflag
  have hsd := State.sd_congr (hconf.1.1 .sideA (by decide)) (hconf.1.1 .sideB (by decide))
  rw [hreport, hlink]
  have hreported : (u.fixerReport (1 + sideNum x)).flag Reg.LINK_LINK_STATUS (sideNum x) = true := hcounted
  have hgone : (u.fixerReport (1 + sideNum x)).sd x = (s.sd x).downed := (hsd x).trans ((hsides x).trans (s.sd_modSd_same x _))
  have hstays : (u.fixerReport (1 + sideNum x)).sd (other x) = s.sd (other x) := (hsd _).trans ((hsides _).trans hother)
  generalize u.fixerReport (1 + sideNum x) = v at *
  split
  · exact ⟨(State.sd_congr rfl rfl x).trans hgone, (State.sd_congr rfl rfl _).trans hstays, rfl, hreported⟩
  · exact ⟨hgone, hstays, by rw [hreport, hlink], hreported⟩

/-- The first entry that a side's going down raises is its own (R129). -/
theorem State.declareDown_raises (hraised : s.fixer.raised = []) :
    (s.declareDown x byClock).FirstRaised s.fixer.staged (s.entry Log.LINK 2 (ofBytes (sideNum x) (b2n (!byClock)) 0 0) 0) := by
  have hentry : ((s.modSd x LinkSide.downed).setFlag Reg.LINK_LINK_STATUS (sideNum x)).entry Log.LINK 2
      (ofBytes (sideNum x) (b2n (!byClock)) 0 0) 0 = s.entry Log.LINK 2 (ofBytes (sideNum x) (b2n (!byClock)) 0 0) 0 := by
    refine State.entry_congr _ _ _ _ ?_ ?_
    · rw [State.setFlag_clk]
      cases x <;> rfl
    · rw [State.reg_setFlag_other _ _ (by decide), State.reg_modSd]
  have hfirst : (s.downReported x byClock).FirstRaised s.fixer.staged
      (s.entry Log.LINK 2 (ofBytes (sideNum x) (b2n (!byClock)) 0 0) 0) := by
    have hfixer : ((s.modSd x LinkSide.downed).setFlag Reg.LINK_LINK_STATUS (sideNum x)).fixer = s.fixer := by
      rw [State.setFlag_fixer]
      cases x <;> rfl
    refine ⟨(congrArg Fixer.staged hfixer : Fixer.staged (State.fixer _) = _), [], ?_, List.forall_mem_nil _⟩
    rw [State.downReported, State.raised_raise_entry, hentry, hfixer]
    exact congrArg (· ++ _) hraised
  have hreported := hfirst.fixerReport (1 + sideNum x) (by show Log.LINK < Log.FIXER; decide)
  rw [State.declareDown_eq]
  split
  · exact hreported.of_eq rfl
  · exact hreported

/-- A side that goes down: its lock, its flag, its entry, and the wrap at the other side (R129, R133). -/
theorem sideDown_leaves (hroom : s.roomFor 2) (hrunning : s.running = true) (hup : (s.sd x).down = false)
    (hwhy : if byClock then (s.sd x).lost = true else (s.sd x).lost = false ∧ max 1 (s.fld Reg.LINK_LINK_CFG 7 4) ≤ (s.sd x).misses) :
    ∃ t, exec (.sideDown x byClock) s = .next t ∧ (t.sd x).down = true ∧ (t.sd x).lock = false ∧
      t.sd (other x) = s.sd (other x) ∧ t.flag Reg.LINK_LINK_STATUS (sideNum x) = true ∧
      t.link.wrap = (if s.link.wrap = some (other x) then none else s.link.wrap) ∧
      s.entry Log.LINK 2 (ofBytes (sideNum x) (b2n (!byClock)) 0 0) 0 ∈ t.fixer.staged := by
  obtain ⟨⟨hraised, -⟩, hstaged⟩ := hroom
  have hmay : s.mayGoDown x byClock = true := by
    rw [State.mayGoDown, hup]
    cases byClock with
    | true => exact hwhy
    | false =>
      obtain ⟨hlost, hmisses⟩ := hwhy
      rw [hlost]
      exact decide_eq_true hmisses
  have hgoes : (s.running && s.mayGoDown x byClock) = true := by rw [hrunning, hmay]; rfl
  obtain ⟨hside, hother, hwrap, hflag⟩ := s.declareDown_leaves x byClock
  have hfirst := (State.declareDown_raises (x := x) (byClock := byClock) hraised).judgeLost (by show Log.LINK < Log.FRAME; decide) x
  have hconf := State.conf_judgeLost x (conf_refl (s.declareDown x byClock) [.sset, .bumped, .caused, .frame, .fixer]
    (· ∈ [Reg.FRAME_FRAME_STATUS])) (List.Subset.refl _) fun _ h => h
  have hsd := State.sd_congr (hconf.1.1 .sideA (by decide)) (hconf.1.1 .sideB (by decide))
  have hlink : ((s.declareDown x byClock).judgeLost x).link = (s.declareDown x byClock).link := hconf.1.1 .link (by decide)
  refine ⟨_, exec_due (u := (s.declareDown x byClock).judgeLost x) rfl hgoes, ?_, ?_, ?_, ?_, ?_, hfirst.staged (by omega)⟩
  · rw [State.sd_endCycle, hsd, hside]
    rfl
  · rw [State.sd_endCycle, hsd, hside]
    rfl
  · rw [State.sd_endCycle, hsd, hother]
  · rw [State.endCycle_flag _ _ (by decide) (by decide), State.flag, (hconf.1.2 _ (by decide)).1]
    exact hflag
  · rw [State.endCycle_link, hlink, hwrap]

end

/-! ### The wrap -/

section
variable {s : State} {y : Side}

/-- The wrap at a side that is down, where the other one is in lock (R130). -/
theorem wrap_turns (hroom : s.roomFor 1) (hacting : s.acting = true) (hmay : s.flag Reg.LINK_LINK_CFG 2 = false) (hnone : s.link.wrap = none)
    (hdown : (s.sd y).down = true) (hup : (s.sd (other y)).down = false) (hlock : (s.sd (other y)).lock = true) :
    ∃ t, exec .wrap s = .next t ∧ t.link = { s.link with wrap := some y } ∧ t.flag Reg.LINK_LINK_STATUS (2 + sideNum y) = true ∧
      t.reg Reg.LINK_WRAP_COUNT = s.reg Reg.LINK_WRAP_COUNT + 1 ∧ Logged s t [s.entry Log.LINK 3 (ofBytes (sideNum y) 0 0 0) 0] := by
  have hdue : s.wrapDue = some y := by
    rw [State.wrapDue, hmay, hnone]
    cases y with
    | a =>
      have hturn : (s.sideA.down && !s.sideB.down && s.sideB.lock) = true := by
        rw [show s.sideA.down = true from hdown, show s.sideB.down = false from hup, show s.sideB.lock = true from hlock]
        rfl
      exact if_pos hturn
    | b =>
      have hstays : ¬ (s.sideA.down && !s.sideB.down && s.sideB.lock) = true := by
        rw [show s.sideA.down = false from hup]
        exact Bool.false_ne_true
      have hturn : (s.sideB.down && !s.sideA.down && s.sideA.lock) = true := by
        rw [show s.sideB.down = true from hdown, show s.sideA.down = false from hup, show s.sideA.lock = true from hlock]
        rfl
      exact (if_neg hstays).trans (if_pos hturn)
  have hstep : s.wrapStep = s.startWrap y := by
    rw [State.wrapStep, hacting, hdue]
    rfl
  have hraised : s.fixer.raised = [] := hroom.1.1
  have hexec : exec .wrap s = .next s.wrapStep.endCycle := rfl
  rw [hstep] at hexec
  refine ⟨_, hexec, ?_, ?_, ?_, State.logged_endCycle_one hroom ?_ ?_⟩
  · rw [State.endCycle_link, State.startWrap, State.raise_link, State.countWrap_link, State.setFlag_link]
  · rw [State.endCycle_flag _ _ (by decide) (by decide), State.startWrap, State.flag, State.reg_raise, State.reg_countWrap_other _ (by decide)]
    exact State.flag_setFlag_same _ _ _ (by cases y <;> decide)
  · rw [State.endCycle_reg _ (by decide) (by decide), State.startWrap, State.reg_raise, State.reg_countWrap_same,
      State.reg_setFlag_other _ _ (by decide)]
    rfl
  · show ((State.setFlag _ _ _).countWrap _).fixer.staged = _
    rw [State.countWrap_fixer, State.setFlag_fixer]
  · rw [State.startWrap, State.raised_raise_entry, State.countWrap_fixer, State.setFlag_fixer, hraised]
    refine congrArg (fun e => [e]) (State.entry_congr _ _ _ _ ?_ ?_)
    · rw [State.countWrap_clk, State.setFlag_clk]
    · rw [State.reg_countWrap_other _ (by decide), State.reg_setFlag_other _ _ (by decide)]
      rfl

/-- The wrap does not come where NO_WRAP is set (R130). -/
theorem wrap_barred (hbetween : s.between) (hbarred : s.flag Reg.LINK_LINK_CFG 2 = true) : exec .wrap s = .next s := by
  have hstep : s.wrapStep = s := by
    rw [State.wrapStep, State.wrapDue, hbarred]
    split <;> rfl
  have hexec : exec .wrap s = .next s.wrapStep.endCycle := rfl
  rw [hexec, hstep, State.endCycle_of_between hbetween]

/-- The wrap ends when its side has held lock with valid headers for UNWRAP_HOLD × 16 frames (R132). -/
theorem unwrap_ends (hroom : s.roomFor 1) (hacting : s.acting = true) (hwrap : s.link.wrap = some y) (hlock : (s.sd y).lock = true)
    (hset : s.fld Reg.LINK_LINK_CFG 15 8 ≠ 0) (hheld : 16 * s.fld Reg.LINK_LINK_CFG 15 8 ≤ (s.sd y).validRun) (hfault : s.clk.fault = false) :
    ∃ t, exec .unwrap s = .next t ∧ t.link = { s.link with wrap := none } ∧ (t.sd y).resourced = false ∧
      t.flag Reg.LINK_LINK_STATUS 4 = true ∧ Logged s t [s.entry Log.LINK 4 (ofBytes (sideNum y) 0 0 0) 0] := by
  have hdue : s.unwrapDue y = true := by
    rw [State.unwrapDue, hlock, hfault, decide_eq_true hheld, bne_iff_ne.2 hset]
    rfl
  have hstep : s.unwrapStep = s.endWrap y := by
    rw [State.unwrapStep, hwrap]
    dsimp only
    rw [hacting, hdue]
    rfl
  have hraised : s.fixer.raised = [] := hroom.1.1
  have hexec : exec .unwrap s = .next s.unwrapStep.endCycle := rfl
  rw [hstep] at hexec
  refine ⟨_, hexec, ?_, ?_, ?_, State.logged_endCycle_one hroom ?_ ?_⟩
  · rw [State.endCycle_link, State.endWrap, State.raise_link, State.setFlag_link]
    cases y <;> rfl
  · rw [State.sd_endCycle, State.endWrap, State.sd_raise, State.sd_setFlag, State.sd_modSd_same]
  · rw [State.endCycle_flag _ _ (by decide) (by decide)]
    exact State.flag_setFlag_same _ _ _ (by decide)
  · show (State.setFlag _ _ _).fixer.staged = _
    rw [State.setFlag_fixer]
    cases y <;> rfl
  · rw [State.endWrap, State.raised_raise_entry, State.setFlag_fixer]
    have hsame : (({ s with link := { s.link with wrap := none } } : State).modSd y (fun d => { d with resourced := false })).fixer = s.fixer := by
      cases y <;> rfl
    rw [hsame, hraised]
    refine congrArg (fun e => [e]) (State.entry_congr _ _ _ _ ?_ ?_)
    · rw [State.setFlag_clk]
      cases y <;> rfl
    · rw [State.reg_setFlag_other _ _ (by decide), State.reg_modSd]
      rfl

end

/-! ### Tracking -/

/-- The delay step that a move asks for. -/
def laneStep (d : Nat) : LaneMove → Nat
  | .stay => d
  | .up => d + 1
  | .down => d - 1

/-- The step of a lane after a tracking move (R128). -/
def State.trackedTo (s : State) (l : Nat) (m : LaneMove) : Nat :=
  if s.delay l = 0 ∨ s.delay l = 63 ∨ (s.sd (laneSide l)).lock = false then s.delay l else laneStep (s.delay l) m

/-- What a lane that has come to an end reports (R128). -/
def State.delayEnded (s : State) (l v : Nat) : State := (s.setFlag Reg.LINK_LINK_STATUS 8).raise Log.LINK 7 (ofBytes l v 0 0)

theorem State.trackLane_eq (s : State) (l : Nat) (m : LaneMove) : s.trackLane l m =
    if s.delay l = 0 ∨ s.delay l = 63 ∨ (!(s.sd (laneSide l)).lock) = true then s
    else if laneStep (s.delay l) m = 0 ∨ laneStep (s.delay l) m = 63 then
      (s.setDelay l (laneStep (s.delay l) m)).delayEnded l (laneStep (s.delay l) m)
    else s.setDelay l (laneStep (s.delay l) m) := by
  cases m <;> rfl

theorem State.setDelay_leaves (s : State) (l v : Nat) : (∀ x, ((s.setDelay l v).sd x).lock = (s.sd x).lock) ∧
    (s.setDelay l v).delay l = v ∧ (l < 4 → ∀ m, m < 4 → m ≠ l → (s.setDelay l v).delay m = s.delay m) := by
  have hsd : ∀ x, (s.setDelay l v).sd x =
      if x = laneSide l then (if l % 2 = 0 then { s.sd x with delay0 := v } else { s.sd x with delay1 := v }) else s.sd x := fun x => by
    rw [State.setDelay, State.sd_modSd]
  refine ⟨fun x => ?_, ?_, fun hl m hm hne => ?_⟩
  · rw [hsd]
    split
    · split <;> rfl
    · rfl
  · rw [State.delay, hsd, if_pos rfl]
    dsimp only
    split <;> rfl
  · by_cases hside : laneSide m = laneSide l
    · have hparity : ¬ (m % 2 = 0 ↔ l % 2 = 0) := by
        by_cases hm2 : m < 2
        · have hl2 : l < 2 := by
            by_contra hnot
            rw [laneSide, laneSide, if_pos hm2, if_neg hnot] at hside
            exact Side.noConfusion hside
          omega
        · have hl2 : ¬ l < 2 := fun hl2 => by
            rw [laneSide, laneSide, if_neg hm2, if_pos hl2] at hside
            exact Side.noConfusion hside
          omega
      rw [State.delay, State.delay, hsd, if_pos hside]
      by_cases hl0 : l % 2 = 0
      · have hm1 : ¬ m % 2 = 0 := fun hm0 => hparity ⟨fun _ => hl0, fun _ => hm0⟩
        simp only [if_pos hl0, if_neg hm1]
      · have hm0 : m % 2 = 0 := by
          by_contra hm1
          exact hparity ⟨fun h => absurd h hm1, fun h => absurd h hl0⟩
        simp only [if_neg hl0, if_pos hm0]
    · rw [State.delay, State.delay, hsd, if_neg hside]

/-- A tracking move: the lane's step, and DELAY_END where it arrives at an end (R128). -/
theorem State.trackLane_leaves (s : State) {l : Nat} (hl : l < 4) (m : LaneMove) :
    (∀ x, ((s.trackLane l m).sd x).lock = (s.sd x).lock) ∧ (s.trackLane l m).delay l = s.trackedTo l m ∧
    (∀ n, n < 4 → n ≠ l → (s.trackLane l m).delay n = s.delay n) ∧
    (s.flag Reg.LINK_LINK_STATUS 8 = true → (s.trackLane l m).flag Reg.LINK_LINK_STATUS 8 = true) ∧
    (s.trackedTo l m ≠ s.delay l → s.trackedTo l m = 0 ∨ s.trackedTo l m = 63 → (s.trackLane l m).flag Reg.LINK_LINK_STATUS 8 = true) := by
  have hreported : ∀ (u : State) (v : Nat), (∀ x, (u.delayEnded l v).sd x = u.sd x) ∧ (∀ n, (u.delayEnded l v).delay n = u.delay n) ∧
      (u.delayEnded l v).flag Reg.LINK_LINK_STATUS 8 = true := fun u v =>
    have hsd : ∀ x, (u.delayEnded l v).sd x = u.sd x := fun x => by rw [State.delayEnded, State.sd_raise, State.sd_setFlag]
    ⟨hsd, fun n => State.delay_congr (by rw [hsd]) (by rw [hsd]), State.flag_setFlag_same _ _ _ (by decide)⟩
  obtain ⟨hlock, hsame, hothers⟩ := s.setDelay_leaves l (laneStep (s.delay l) m)
  have hflag : (s.setDelay l (laneStep (s.delay l) m)).flag Reg.LINK_LINK_STATUS 8 = s.flag Reg.LINK_LINK_STATUS 8 :=
    congrArg (bitOf · 8) (State.reg_modSd ..)
  rw [State.trackLane_eq, State.trackedTo]
  simp only [Bool.not_eq_true']
  split
  · exact ⟨fun _ => rfl, rfl, fun _ _ _ => rfl, id, fun hne => absurd rfl hne⟩
  · split
    · obtain ⟨hsd, hdelay, hset⟩ := hreported (s.setDelay l (laneStep (s.delay l) m)) (laneStep (s.delay l) m)
      exact ⟨fun x => by rw [hsd]; exact hlock x, (hdelay l).trans hsame, fun n hn hne => (hdelay n).trans (hothers hl n hn hne),
        fun _ => hset, fun _ _ => hset⟩
    · next hinside => exact ⟨hlock, hsame, hothers hl, fun h => hflag.trans h, fun _ hend => absurd hend hinside⟩

/-- The moves of a tracking step, each at a lane of its own (R128). -/
theorem foldl_trackLane (moves : List LaneMove) : ∀ (l : List Nat) (s : State), l.Nodup → (∀ n ∈ l, n < 4) →
    (s.flag Reg.LINK_LINK_STATUS 8 = true →
      (l.foldl (fun s n => s.trackLane n (nth moves n .stay)) s).flag Reg.LINK_LINK_STATUS 8 = true) ∧
    (∀ n, n < 4 → n ∉ l → (l.foldl (fun s n => s.trackLane n (nth moves n .stay)) s).delay n = s.delay n) ∧
    ∀ n ∈ l, (l.foldl (fun s n => s.trackLane n (nth moves n .stay)) s).delay n = s.trackedTo n (nth moves n .stay) ∧
      (s.trackedTo n (nth moves n .stay) ≠ s.delay n → s.trackedTo n (nth moves n .stay) = 0 ∨ s.trackedTo n (nth moves n .stay) = 63 →
        (l.foldl (fun s n => s.trackLane n (nth moves n .stay)) s).flag Reg.LINK_LINK_STATUS 8 = true)
  | [], _, _, _ => ⟨id, fun _ _ _ => rfl, fun _ h => absurd h List.not_mem_nil⟩
  | k :: l, s, hnodup, hlt => by
    obtain ⟨hk, hnodup'⟩ := List.nodup_cons.1 hnodup
    have hk4 := hlt k List.mem_cons_self
    obtain ⟨hlock, hdelay, hothers, hkept, hends⟩ := s.trackLane_leaves hk4 (nth moves k .stay)
    obtain ⟨hkept', hothers', hmoved⟩ := foldl_trackLane moves l (s.trackLane k (nth moves k .stay)) hnodup'
      fun n hn => hlt n (List.mem_cons_of_mem k hn)
    refine ⟨fun h => hkept' (hkept h), fun n hn hnot => ?_, fun n hn => ?_⟩
    · obtain ⟨hne, hnot'⟩ := not_or.1 (List.mem_cons.not.1 hnot)
      exact (hothers' n hn hnot').trans (hothers n hn hne)
    · rcases List.mem_cons.1 hn with rfl | hn
      · exact ⟨(hothers' n hk4 hk).trans hdelay, fun hne hend => hkept' (hends hne hend)⟩
      · have hne : n ≠ k := fun h => hk (h ▸ hn)
        have hn4 := hlt n (List.mem_cons_of_mem k hn)
        have hsame := hothers n hn4 hne
        have htracked : (s.trackLane k (nth moves k .stay)).trackedTo n (nth moves n .stay) = s.trackedTo n (nth moves n .stay) := by
          simp only [State.trackedTo, hsame, hlock]
        have hn' := hmoved n hn
        rw [htracked, hsame] at hn'
        exact hn'

/-- A tracking step moves each lane as its taps ask, and never beyond its ends (R128). -/
theorem delayTrack_moves (s : State) (moves : List LaneMove) (hacting : s.acting = true) (hday : s.clk.daylight = true)
    (htraining : s.link.training = none) (hon : s.flag Reg.LINK_LINK_CFG 3 = false) :
    ∃ t, exec (.delayTrack moves) s = .next t ∧ ∀ l, l < 4 →
      t.delay l = (if s.delay l = 0 ∨ s.delay l = 63 ∨ (s.sd (laneSide l)).lock = false then s.delay l
        else match nth moves l .stay with | .stay => s.delay l | .up => s.delay l + 1 | .down => s.delay l - 1) ∧
      (t.delay l ≠ s.delay l → t.delay l = 0 ∨ t.delay l = 63 → t.flag Reg.LINK_LINK_STATUS 8 = true) := by
  have hgoes : (s.acting && s.clk.daylight && s.link.training.isNone && !s.flag Reg.LINK_LINK_CFG 3) = true := by
    rw [hacting, hday, htraining, hon]
    rfl
  obtain ⟨-, -, hmoved⟩ := foldl_trackLane moves (List.range 4) s List.nodup_range fun n hn => List.mem_range.1 hn
  refine ⟨_, exec_due (u := (List.range 4).foldl (fun s l => s.trackLane l (nth moves l .stay)) s) rfl hgoes, fun l hl => ?_⟩
  obtain ⟨hdelay, hflag⟩ := hmoved l (List.mem_range.2 hl)
  generalize (List.range 4).foldl (fun s l => s.trackLane l (nth moves l .stay)) s = u at hdelay hflag ⊢
  have hend : u.endCycle.delay l = s.trackedTo l (nth moves l .stay) :=
    (State.delay_congr (by rw [State.sd_endCycle]) (by rw [State.sd_endCycle])).trans hdelay
  refine ⟨hend.trans ?_, fun hne hat => ?_⟩
  · rw [State.trackedTo]
    cases nth moves l .stay <;> rfl
  · rw [hend] at hne hat
    rw [State.endCycle_flag _ _ (by decide) (by decide)]
    exact hflag hne hat

/-- In SAFELIGHT, or with TRACK_OFF at 1, no lane moves (R128). -/
theorem delayTrack_still (s : State) (moves : List LaneMove) (hbetween : s.between)
    (hnot : s.clk.daylight = false ∨ s.flag Reg.LINK_LINK_CFG 3 = true) : exec (.delayTrack moves) s = .next s := by
  have hstill : (s.acting && s.clk.daylight && s.link.training.isNone && !s.flag Reg.LINK_LINK_CFG 3) = false := by
    rcases hnot with h | h <;> rw [h]
    · rw [Bool.and_false, Bool.false_and, Bool.false_and]
    · exact Bool.and_false _
  exact exec_notDue (u := (List.range 4).foldl (fun s l => s.trackLane l (nth moves l .stay)) s) rfl hstill hbetween

/-- Settles O13: sides, the wrap and the lanes, each from what its operation leaves. -/
theorem sidesWrapAndLanesTrack : Obligations.SidesWrapAndLanesTrack := by
  unfold Obligations.SidesWrapAndLanesTrack
  exact ⟨fun s x byClock hroom hrunning hup hwhy => sideDown_leaves hroom hrunning hup hwhy,
    fun s y hroom hacting hmay hnone hdown hup hlock => wrap_turns hroom hacting hmay hnone hdown hup hlock,
    fun s hbetween hbarred => wrap_barred hbetween hbarred,
    fun s y hroom hacting hwrap hlock hset hheld hfault => unwrap_ends hroom hacting hwrap hlock hset hheld hfault,
    delayTrack_moves, delayTrack_still⟩

end Sys2Proof.Machine
end

section
/-! PROOFS. The end of a strap read (R77, R80 to R87): the codes, the defaults in their registers and the empty rings; and the statement drawn from
it. -/

namespace Sys2Proof.Machine

/-! ### The rings stay empty (R189, R629) -/

/-- Nothing waits in the rings. -/
def State.RingsEmpty (s : State) : Prop := s.queue.cmds = [] ∧ s.queue.replies = [] ∧ s.queue.events = []

theorem State.RingsEmpty.of_eq {s u : State} (h : s.RingsEmpty) (hqueue : u.queue = s.queue) : u.RingsEmpty := by
  rw [State.RingsEmpty, hqueue]
  exact h

/-- A word written into an empty ring finds no entry there. -/
theorem State.RingsEmpty.ringWrite {s : State} (h : s.RingsEmpty) (w : Nat) (v : Word) : (s.ringWrite w v).RingsEmpty := by
  obtain ⟨hcmds, hreplies, hevents⟩ := h
  unfold State.ringWrite
  dsimp only
  split
  · exact ⟨hcmds, hreplies, hevents⟩
  · split
    · exact ⟨by simp only [hcmds], hreplies, hevents⟩
    · split
      · exact ⟨hcmds, by simp only [hreplies, List.map_nil], hevents⟩
      · exact ⟨hcmds, hreplies, by simp only [hevents, List.map_nil]⟩

theorem State.RingsEmpty.putWord {s : State} (h : s.RingsEmpty) (w : Nat) (v : Word) : (s.putWord w v).RingsEmpty :=
  State.RingsEmpty.ringWrite (s := { s with mem := Mem.write32 s.mem (4 * w) v }) h w v

theorem State.RingsEmpty.setTank {s : State} (h : s.RingsEmpty) (w : Nat) (v : Word) : (s.setTank w v).RingsEmpty := by
  have hyield : (s.fogYield (w / 8)).RingsEmpty := h.of_eq ((State.conf_fogYield (w / 8) (conf_refl s [.sset, .bumped, .caused, .fixer, .bank]
    fun _ => True) (List.Subset.refl _) fun _ _ => trivial).1.1 .queue (by decide))
  unfold State.setTank State.storeLane
  dsimp only
  generalize s.fogYield (w / 8) = u at hyield ⊢
  split
  · exact hyield.of_eq rfl
  · next double _ =>
    have hread : (u.eccRead (w / 8) (w % 8 / 2) (writerRank w)).1.RingsEmpty := hyield.of_eq ((State.conf_eccRead (w / 8) (w % 8 / 2)
      (writerRank w) (conf_refl u [.sset, .bumped, .caused, .fixer] fun _ => True) (List.Subset.refl _) fun _ _ => trivial).1.1 .queue (by decide))
    generalize (u.eccRead (w / 8) (w % 8 / 2) (writerRank w)).1 = r at hread ⊢
    have hclear : (r.eccClear (w / 8) (w % 8 / 2)).RingsEmpty := hread.of_eq rfl
    split
    · exact (hclear.putWord _ _).of_eq rfl
    · exact hclear.of_eq rfl

theorem State.RingsEmpty.strapLatent {s : State} (h : s.RingsEmpty) : s.strapLatent.RingsEmpty := by
  unfold State.strapLatent
  exact foldl_inv (I := State.RingsEmpty) (fun u r hu => hu.setTank _ _) _ _
    (foldl_inv (I := State.RingsEmpty) (fun u e hu => (hu.setTank _ _).setTank _ _) _ _ (h.of_eq rfl))

/-- The blocks' parts of a strap read put nothing into the rings. -/
theorem State.RingsEmpty.strapBlocks {s : State} (h : s.RingsEmpty) : s.strapBlocks.RingsEmpty := by
  unfold State.strapBlocks
  extract_lets cleared front decim loupe rest
  have hqueue : cleared.queue = s.queue := by
    simp only [cleared, State.strapStage, State.strapPrint, State.strapSheet, State.strapDev, State.strapMx, State.strapAper]
  have hcleared : cleared.RingsEmpty := h.of_eq hqueue
  clear_value cleared
  have hrings : rest.strapLatent.RingsEmpty := State.RingsEmpty.strapLatent (hcleared.of_eq rfl)
  have hconf : Confined rest.strapLatent [.front, .decim] (fun _ => True) rest.strapLatent.updateBiases.updateWatch :=
    State.conf_updateWatch (State.conf_updateBiases (conf_refl _ _ _) (by decide) fun _ _ => trivial) (by decide) fun _ _ => trivial
  exact hrings.of_eq (hconf.1.1 .queue (by decide))

theorem State.RingsEmpty.noteReset {s : State} (h : s.RingsEmpty) : s.noteReset.RingsEmpty := by
  have hflag : (s.setFlag Reg.CHIP_MODE_STATUS 4).RingsEmpty := h.of_eq (s.setFlag_queue ..)
  unfold State.noteReset
  split
  · exact h
  · exact hflag.of_eq rfl

/-! ### The defaults (R81 to R86) -/

/-- The personalities are those of the 16 codes. -/
theorem roleOf_mem (n : Nat) : roleOf n ∈ (List.range 16).map roleOf := by
  by_cases hn : n < 16
  · exact List.mem_map_of_mem (List.mem_range.2 hn)
  · obtain ⟨m, rfl⟩ : ∃ m, n = m + 16 := ⟨n - 16, by omega⟩
    have hnone : roleOf (m + 16) = roleOf 0 := rfl
    rw [hnone]
    decide

/-- The fields of a personality fit the bits that hold them. -/
theorem roleOf_fits (n : Nat) : bits (pack [(5, 5, 8), (0, 4, (roleOf n).safe)]) 3 0 = (roleOf n).safe ∧
    bits (pack [(5, 7, 0x28), (0, 5, (roleOf n).sense)]) 4 0 = (roleOf n).sense ∧ (roleOf n).drives ≤ 8 := by
  have hall : ∀ r ∈ (List.range 16).map roleOf, bits (pack [(5, 5, 8), (0, 4, r.safe)]) 3 0 = r.safe ∧
      bits (pack [(5, 7, 0x28), (0, 5, r.sense)]) 4 0 = r.sense ∧ r.drives ≤ 8 := by decide
  exact hall _ (roleOf_mem n)

/-- The default of a drive channel's slot (R83, R105). -/
theorem assocGet_strapDefaults_slot (r : Role) (group bias : Nat) (fore : Bool) {n : Nat} (hn : n < 8) :
    assocGet (strapDefaults r group bias fore) (Reg.PRINT_CH_CTRL_0 + 4 * n) =
      some (BitVec.ofNat 32 (if n < r.drives then r.slot0 group + n else 0)) := by
  match n, hn with
  | 0, _ | 1, _ | 2, _ | 3, _ | 4, _ | 5, _ | 6, _ | 7, _ => rfl

/-- The state in which the decoded codes and their defaults are loaded. -/
def State.strapLoaded (s : State) (addr role biasv : StrapSample) (fore : ForeSample) : State :=
  s.strapLoad (decodeStrap addr).code (decodeStrap role).code (decodeStrap biasv).code (foreHigh fore.sink && foreHigh fore.source)

/-- The registers that a strap read writes besides its defaults, and those of the log. -/
def strapWrites : List Nat := [Reg.CHIP_ID_STATUS, Reg.CHIP_MODE_STATUS, Reg.FIXER_FIXER_STATUS, Reg.FIXER_LASTING_COUNT, Reg.FIXER_LOG_DROPS,
  Reg.TANK_CE_ADDR, Reg.TANK_CE_COUNT, Reg.TANK_FOG_PASSES, Reg.TANK_FOG_SKIPS, Reg.TANK_TANK_STATUS, Reg.TANK_UE_ADDR, Reg.TANK_UE_COUNT]

/-- The parts that they write besides. -/
def strapParts : List Part := [.sset, .bumped, .caused, .queue, .fixer, .front, .decim, .aper, .mx, .dev, .sheet, .latent, .print, .stage, .bank,
  .loupe, .mem, .mode]

/-- The blocks' part of them. -/
theorem strapWrites_blocks : ∀ a ∈ [Reg.FIXER_FIXER_STATUS, Reg.FIXER_LASTING_COUNT, Reg.TANK_CE_ADDR, Reg.TANK_CE_COUNT, Reg.TANK_FOG_PASSES,
    Reg.TANK_FOG_SKIPS, Reg.TANK_TANK_STATUS, Reg.TANK_UE_ADDR, Reg.TANK_UE_COUNT], a ∈ strapWrites := by
  simp [strapWrites]

section
variable (s : State) (addr role biasv : StrapSample) (fore : ForeSample)

/-- The codes and the defaults are loaded, the straps' faults reported, and the blocks begin anew (R77, R86, R87). -/
theorem State.strapDone_eq : ∃ (faults : Half) (es : List (Nat × Nat)), s.strapDone addr role biasv fore =
    (es.foldl (fun s e => s.raise Log.IDENT 1 (ofBytes e.1 e.2 0 0))
      ((s.strapLoaded addr role biasv fore).setFlags Reg.CHIP_ID_STATUS faults)).strapBlocks.noteReset := by
  unfold State.strapDone State.strapLoaded
  generalize decodeStrap addr = a, decodeStrap role = r, decodeStrap biasv = b
  exact ⟨_, _, rfl⟩

/-- Log entries put nothing into the rings. -/
theorem State.RingsEmpty.raises {u : State} (h : u.RingsEmpty) (es : List (Nat × Nat)) :
    (es.foldl (fun s e => s.raise Log.IDENT 1 (ofBytes e.1 e.2 0 0)) u).RingsEmpty := by
  induction es generalizing u with
  | nil => exact h
  | cons e es ih => exact ih (h.of_eq (u.raise_queue ..))

/-- What the blocks and the log do after the load of the defaults changes no default. -/
theorem State.conf_strapFollows (u : State) (faults : Half) (es : List (Nat × Nat)) : Confined u strapParts (· ∈ strapWrites)
    (es.foldl (fun s e => s.raise Log.IDENT 1 (ofBytes e.1 e.2 0 0)) (u.setFlags Reg.CHIP_ID_STATUS faults)).strapBlocks.noteReset := by
  have hflags : Confined u strapParts (· ∈ strapWrites) (u.setFlags Reg.CHIP_ID_STATUS faults) :=
    State.conf_setFlags _ _ (conf_refl u _ _) (by decide) (by decide)
  have hraised : Confined u strapParts (· ∈ strapWrites)
      (es.foldl (fun s e => s.raise Log.IDENT 1 (ofBytes e.1 e.2 0 0)) (u.setFlags Reg.CHIP_ID_STATUS faults)) :=
    conf_foldl (fun t e ht => State.conf_raise _ _ _ _ ht (by decide) (List.forall_mem_nil _)) hflags
  exact State.conf_noteReset (State.conf_strapBlocks hraised (by decide) strapWrites_blocks) (by decide) (by decide)

/-- Nor does it put anything into the rings. -/
theorem State.RingsEmpty.strapFollows {u : State} (h : u.RingsEmpty) (faults : Half) (es : List (Nat × Nat)) :
    (es.foldl (fun s e => s.raise Log.IDENT 1 (ofBytes e.1 e.2 0 0)) (u.setFlags Reg.CHIP_ID_STATUS faults)).strapBlocks.noteReset.RingsEmpty := by
  have hflags : (u.setFlags Reg.CHIP_ID_STATUS faults).RingsEmpty := h.of_eq (State.setFlags_queue ..)
  have hraised := hflags.raises es
  exact hraised.strapBlocks.noteReset

/-- What follows the load of the defaults changes no default, and puts nothing into the rings. -/
theorem State.strapDone_leaves : Confined (s.strapLoaded addr role biasv fore) strapParts (· ∈ strapWrites) (s.strapDone addr role biasv fore) ∧
    (s.strapDone addr role biasv fore).RingsEmpty := by
  have hloaded : (s.strapLoaded addr role biasv fore).RingsEmpty := ⟨rfl, rfl, rfl⟩
  obtain ⟨faults, es, heq⟩ := s.strapDone_eq addr role biasv fore
  rw [heq]
  exact ⟨State.conf_strapFollows _ faults es, hloaded.strapFollows faults es⟩

/-- A register that holds a strap-derived default reads it after the strap read, where nothing has been written to it (R86). -/
theorem State.reg_strapDone (hunwritten : ∀ a, a ∉ heldRegs → assocGet s.regs a = none) {a : Nat} {v : Word} (hheld : a ∉ heldRegs)
    (hother : a ∉ strapWrites) (hdefault : assocGet (strapDefaults (roleOf (decodeStrap role).code) (decodeStrap addr).code
      (biasDefault (decodeStrap biasv).code) (foreHigh fore.sink && foreHigh fore.source)) a = some v) :
    (s.strapDone addr role biasv fore).endCycle.reg a = v := by
  have hwrites : ∀ b ∈ strapWrites, a ≠ b := fun b hb h => hother (h ▸ hb)
  obtain ⟨⟨⟨-, hregs⟩, -⟩, -⟩ := s.strapDone_leaves addr role biasv fore
  rw [State.endCycle_reg _ (hwrites Reg.FIXER_LOG_DROPS (by decide)) (hwrites Reg.FIXER_FIXER_STATUS (by decide)), (hregs a hother).1, State.reg,
    show (s.strapLoaded addr role biasv fore).regs = s.regs from rfl, hunwritten a hheld]
  dsimp only
  rw [show assocGet (s.strapLoaded addr role biasv fore).strapRegs a = some v from hdefault]

end

/-- Settles O11: the identity is the decoded codes, each default stands in its register, and nothing waits in the rings. -/
theorem strapReadLoadsDefaults : Obligations.StrapReadLoadsDefaults := by
  unfold Obligations.StrapReadLoadsDefaults
  intro s addr role biasv fore hrunning hdone hunwritten
  obtain ⟨hconf, hcmds, hreplies, hevents⟩ := s.strapDone_leaves addr role biasv fore
  have hident : (s.strapDone addr role biasv fore).ident = (s.strapLoaded addr role biasv fore).ident := hconf.1.1 .ident (by decide)
  have hport : (s.strapDone addr role biasv fore).port = (s.strapLoaded addr role biasv fore).port := hconf.1.1 .port (by decide)
  have hreg := fun {a : Nat} {v : Word} => s.reg_strapDone addr role biasv fore hunwritten (a := a) (v := v)
  obtain ⟨hsafe, hsense, hdrives⟩ := roleOf_fits (decodeStrap role).code
  have hrole : (s.strapDone addr role biasv fore).endCycle.role = roleOf (decodeStrap role).code := by
    rw [State.role, State.endCycle_ident, hident]
    rfl
  have hgoes : (s.running && !s.ident.done) = true := by rw [hrunning, hdone]; rfl
  have hmul : ∀ n, 0x5555 * n = n * 0x5555 := fun n => Nat.mul_comm _ _
  refine ⟨_, exec_due (u := s.strapDone addr role biasv fore) rfl hgoes, ?_⟩
  rw [hrole, State.endCycle_ident, hident, State.endCycle_queue, State.endCycle_port, hport]
  refine ⟨rfl, rfl, rfl, rfl, rfl, hreg (by decide) (by decide) rfl, hreg (by decide) (by decide) rfl, ?_, ?_, ?_, ?_, ?_,
    hreg (by decide) (by decide) rfl, fun n hn => ?_, hcmds, hreplies, hevents, rfl, rfl⟩
  · rw [hmul]
    exact hreg (by decide) (by decide) rfl
  · rw [hmul]
    exact hreg (by decide) (by decide) rfl
  · rw [State.fld, hreg (a := Reg.FRONT_WATCH_CFG) (by decide) (by decide) rfl]
    exact hsafe
  · rw [State.fld, hreg (a := Reg.STAGE_SENSE_CFG) (by decide) (by decide) rfl]
    exact hsense
  · rw [State.flag, hreg (a := Reg.DECIM_DECIM_CFG) (by decide) (by decide) rfl]
    cases foreHigh fore.sink && foreHigh fore.source <;> decide
  · have hn8 : n < 8 := Nat.lt_of_lt_of_le hn hdrives
    have hplace : ∀ k, k < 8 → Reg.PRINT_CH_CTRL_0 + 4 * k ∉ heldRegs ∧ Reg.PRINT_CH_CTRL_0 + 4 * k ∉ strapWrites := by decide
    have hslot : (if n < (roleOf (decodeStrap role).code).drives then
        (roleOf (decodeStrap role).code).slot0 (decodeStrap addr).code + n else 0) =
        (decodeStrap addr).code * 64 + (roleOf (decodeStrap role).code).base + n := by
      rw [if_pos hn, Role.slot0, if_neg (by omega)]
    have hdefault := assocGet_strapDefaults_slot (roleOf (decodeStrap role).code) (decodeStrap addr).code (biasDefault (decodeStrap biasv).code)
      (foreHigh fore.sink && foreHigh fore.source) hn8
    rw [hslot] at hdefault
    exact hreg (hplace n hn8).1 (hplace n hn8).2 hdefault

end Sys2Proof.Machine
end
